-- ==== Sys2Proof/Word.lean ====
section
/-! DEFINITION. The word types of the ZC40 (R4, R5), their plainest arithmetic, and the one table type that holds
every numbered set of units. -/

namespace Sys2Proof

/-- One byte. -/
abbrev Byte := BitVec 8
/-- A 16-bit field or register. -/
abbrev U16 := BitVec 16
/-- A 32-bit field or register. -/
abbrev U32 := BitVec 32
/-- A 64-bit field or register. -/
abbrev U64 := BitVec 64
/-- A 40-bit physical address (R139). -/
abbrev A40 := BitVec 40

/-- A saturating counter goes up by one and stays at all ones. -/
def satInc {w : Nat} (x : BitVec w) : BitVec w :=
  if x = BitVec.allOnes w then x else x + 1

/-- A saturating counter goes up by `n`. -/
def satAdd {w : Nat} (x : BitVec w) (n : Nat) : BitVec w :=
  if x.toNat + n < 2 ^ w then BitVec.ofNat w (x.toNat + n) else BitVec.allOnes w

/-- A mask with bit `i` alone. -/
def bitOf (w i : Nat) : BitVec w := BitVec.ofNat w (2 ^ i)

/-- A mask with bit `i` set to `b` and every other bit kept. -/
def putBit {w : Nat} (m : BitVec w) (i : Nat) (b : Bool) : BitVec w :=
  if b then m ||| bitOf w i else m &&& ~~~(bitOf w i)

/-- Bit `i` of a word of any width, placed at bit `k` of a 32-bit word. -/
def flagAt (b : Bool) (k : Nat) : U32 := if b then BitVec.ofNat 32 (2 ^ k) else 0

/-- A field value placed at bit `k` of a 32-bit word. -/
def fieldAt {w : Nat} (x : BitVec w) (k : Nat) : U32 := BitVec.ofNat 32 (x.toNat * 2 ^ k)

/-- The low 32-bit word of a 64-bit register (R4). -/
def lo32 (x : U64) : U32 := x.truncate 32
/-- The high 32-bit word of a 64-bit register (R4). -/
def hi32 (x : U64) : U32 := (x >>> 32).truncate 32

/-- A number as `n` bytes, least significant first (R4). -/
def leBytes : Nat → Nat → List Byte
  | 0, _ => []
  | n + 1, v => BitVec.ofNat 8 v :: leBytes n (v / 256)

/-- The number that bytes spell, least significant first (R4). -/
def leNat : List Byte → Nat
  | [] => 0
  | b :: bs => b.toNat + 256 * leNat bs

/-- A numbered set of units: the units that differ from their reset record, by number, numbers strictly rising.
A unit that is not listed holds its reset record. -/
abbrev Tab (α : Type) := List (Nat × α)

/-- Unit `i`, or what an unlisted unit holds. -/
def Tab.get {α : Type} (t : Tab α) (i : Nat) (d : α) : α :=
  match t with
  | [] => d
  | (j, a) :: r => if j = i then a else Tab.get r i d

/-- Whether unit `i` is listed. -/
def Tab.has {α : Type} (t : Tab α) (i : Nat) : Bool :=
  match t with
  | [] => false
  | (j, _) :: r => if j = i then true else Tab.has r i

/-- The table without unit `i`. -/
def Tab.drop {α : Type} (t : Tab α) (i : Nat) : Tab α :=
  match t with
  | [] => []
  | (j, a) :: r => if j = i then Tab.drop r i else (j, a) :: Tab.drop r i

/-- Put a pair before the first larger number. -/
def Tab.place {α : Type} (t : Tab α) (i : Nat) (a : α) : Tab α :=
  match t with
  | [] => [(i, a)]
  | (j, b) :: r => if i < j then (i, a) :: (j, b) :: r else (j, b) :: Tab.place r i a

/-- Set unit `i`. -/
def Tab.put {α : Type} (t : Tab α) (i : Nat) (a : α) : Tab α := Tab.place (Tab.drop t i) i a

/-- Set unit `i`, where a unit that holds its default is not listed. -/
def Tab.putD {α : Type} [DecidableEq α] (t : Tab α) (i : Nat) (d a : α) : Tab α :=
  if a = d then Tab.drop t i else Tab.put t i a

/-- Change unit `i` by `f`. -/
def Tab.upd {α : Type} (t : Tab α) (i : Nat) (d : α) (f : α → α) : Tab α := Tab.put t i (f (Tab.get t i d))

/-- Change every unit of `0 … n-1` by `f`. -/
def Tab.updRange {α : Type} (t : Tab α) (n : Nat) (d : Nat → α) (f : Nat → α → α) : Tab α :=
  (List.range n).foldl (fun t i => Tab.put t i (f i (Tab.get t i (d i)))) t

/-- The numbers rise strictly: the canonical form of a table. -/
abbrev Tab.Sorted {α : Type} (t : Tab α) : Prop := t.Pairwise (fun a b => a.1 < b.1)

end Sys2Proof
end

