-- ==== Sys2Proof/Config.lean ====
section
/-! DEFINITION. The values that the spec leaves open. Each is an opaque constant without a body: nothing in Lean can
evaluate it, so a statement about it holds for every value. Functions of named standards (hashes, ciphers,
signatures) are uninterpreted in the same way. -/

namespace Sys2Proof

/-- SHA-384 of the boot ROM, the measurement of layer 0 (R534). -/
opaque Config.romDigest : List Byte
/-- The byte of application DRAM at an address, before the first write since the key of wipe `epoch` was drawn
(R91, R563): DESIGN CHOICE, log entry 8. -/
opaque Config.staleByte : Nat → Nat → Byte
/-- Byte of the boot ROM at an offset: its content is not in the spec. -/
opaque Config.bootRomByte : Nat → Byte
/-- SW_MAC_BASE, assigned at manufacture (R311). -/
opaque Config.macBase : BitVec 48
/-- A fresh random or computed value of the service session set-up: session ID number n (R244). -/
opaque Config.sessionId : Nat → U32
/-- Bytes of the session set-up that Amind generates: public key, nonce and signature, by set-up number and part. -/
opaque Config.setupBytes : Nat → Nat → List Byte
/-- The unique device secret (R533). -/
opaque Config.deviceSecret : List Byte
/-- HMAC-SHA-384 of key and message (R535, R538). -/
opaque Config.hmac384 : List Byte → List Byte → List Byte
/-- HMAC-SHA-256 of key and message (R556). -/
opaque Config.hmac256 : List Byte → List Byte → List Byte
/-- SHA-384 (R534, R556). -/
opaque Config.sha384 : List Byte → List Byte
/-- SHA-256 (R556). -/
opaque Config.sha256 : List Byte → List Byte
/-- AES-CMAC of key and message (R556). -/
opaque Config.cmac : List Byte → List Byte → List Byte
/-- AES-256-GCM of key, IV, AAD and text: the text transformed (R556). -/
opaque Config.gcm : List Byte → List Byte → List Byte → List Byte → List Byte
/-- AES-256-GCM tag of key, IV, AAD and ciphertext (R556). -/
opaque Config.gcmTag : List Byte → List Byte → List Byte → List Byte → List Byte
/-- XTS-AES-256 of key, tweak and text; the flag selects decryption (R556). -/
opaque Config.xts : Bool → List Byte → List Byte → List Byte → List Byte
/-- Public keys of the signing key material, 2049 bytes (R556). -/
opaque Config.publicKeys : List Byte → List Byte
/-- The n-th signature made with a private key over a digest or message: ECDSA nonces and ML-DSA randomness are fresh (R553). -/
opaque Config.signature : Nat → List Byte → List Byte → List Byte
/-- The unprotected header of the n-th attestation token: the spec does not give it (R551). -/
opaque Config.tokenHeader : Nat → List Byte
/-- The servo's new TB_RATE.ADJ after the n-th message, from the offset (R357): the servo's law is not in the spec. -/
opaque Config.servoRate : Nat → Int → BitVec 32
/-- A free number: its use, and the number of the event that takes it. -/
opaque Config.freeNat : Nat → Nat → Nat
/-- A free word: its use, and the number of the event that takes it. -/
opaque Config.freeWord : Nat → Nat → BitVec 64
/-- UDP port of the delivery service record (R622). -/
opaque Config.deliveryPort : BitVec 16
/-- Public key of the delivery credential (R622). -/
opaque Config.deliveryKey : List Byte
/-- The ECDH P-384 shared secret of set-up n with the tool's public key (R244). -/
opaque Config.ecdhSecret : Nat → List Byte → List Byte
/-- An ECDSA P-384 signature over a digest verifies under a public key (R244). -/
opaque Config.ecdsaOk : List Byte → List Byte → List Byte → Bool
/-- An ML-DSA-65 signature over a message, pure and with an empty context, verifies under a public key (R611). -/
opaque Config.mldsaOk : List Byte → List Byte → List Byte → Bool
/-- The public keys of Trarvo that Amind's boot ROM holds, ECDSA P-384 and ML-DSA-65 (R611). -/
opaque Config.vendorKeys : List Byte × List Byte
/-- The older content of a byte whose dirty line was lost in a second-level cache: the number of the event and the address (R152). -/
opaque Config.lostByte : Nat → Nat → BitVec 8
/-- A free byte: its use, and the number of the event that takes it. -/
opaque Config.freeByte : Nat → Nat → BitVec 8

end Sys2Proof
end

