-- ==== Sys2Proof/Machine/Crypto.lean ====
section
/-! DEFINITION. The functions of named standards at the sizes that the standards give them, over the uninterpreted constants of Config (R244,
R361, R533 to R540, R553, R556). -/

namespace Sys2Proof.Machine

open Sys2Proof

/-- Bytes cut or filled with zeros to a length. -/
def fixLen (n : Nat) (b : List Byte) : List Byte := (b ++ List.replicate n 0).take n

/-- The unique device secret: 384 bits (R533). -/
def deviceSecret : List Byte := fixLen 48 Config.deviceSecret
/-- HMAC-SHA-384: 48 bytes. -/
def hmac384 (key msg : List Byte) : List Byte := fixLen 48 (Config.hmac384 key msg)
/-- HMAC-SHA-256: 32 bytes. -/
def hmac256 (key msg : List Byte) : List Byte := fixLen 32 (Config.hmac256 key msg)
/-- SHA-384: 48 bytes. -/
def sha384 (msg : List Byte) : List Byte := fixLen 48 (Config.sha384 msg)
/-- SHA-256: 32 bytes. -/
def sha256 (msg : List Byte) : List Byte := fixLen 32 (Config.sha256 msg)
/-- AES-CMAC: 16 bytes. -/
def aesCmac (key msg : List Byte) : List Byte := fixLen 16 (Config.cmac key msg)
/-- AES-256-GCM: the text transformed, as long as it is. -/
def aesGcm (key iv aad text : List Byte) : List Byte := fixLen text.length (Config.gcm key iv aad text)
/-- The tag of AES-256-GCM: 16 bytes. -/
def aesGcmTag (key iv aad ct : List Byte) : List Byte := fixLen 16 (Config.gcmTag key iv aad ct)
/-- XTS-AES-256: the text transformed, as long as it is. -/
def aesXts (decrypt : Bool) (key tweak text : List Byte) : List Byte := fixLen text.length (Config.xts decrypt key tweak text)
/-- The public keys of signing key material: 97 and 1952 bytes (R556). -/
def publicKeys (sk : List Byte) : List Byte := fixLen 2049 (Config.publicKeys sk)
/-- The n-th ECDSA P-384 signature r‖s over a digest: 96 bytes, with a fresh nonce (R278, R553). -/
def ecdsaSign (n : Nat) (sk digest : List Byte) : List Byte := fixLen 96 (Config.signature (2 * n) (sk.take 48) digest)
/-- The n-th ML-DSA-65 signature over a message: 3309 bytes, with hedged randomness (R278, R553). -/
def mldsaSign (n : Nat) (sk msg : List Byte) : List Byte := fixLen 3309 (Config.signature (2 * n + 1) (sk.drop 48) msg)

/-- The order of the group of P-384 (FIPS 186; PRESUMED, log entry 169). -/
def p384Order : Nat :=
  0xFFFFFFFFFFFFFFFFFFFFFFFFFFFFFFFFFFFFFFFFFFFFFFFFC7634D81F4372DDF581A0DB248B0A77AECEC196ACCC52973

/-- Signing key material from 80 bytes of E: the ECDSA scalar d as 48 bytes, most significant first, and the ML-DSA-65 seed ξ (R538). -/
def signMaterial (e : List Byte) : List Byte :=
  (leBytes 48 (leNat (e.take 48).reverse % (p384Order - 1) + 1)).reverse ++ (e.drop 48).take 32

end Sys2Proof.Machine
end

