-- ==== Sys2Proof/Machine/AmindTypes.lean ====
section
/-! DEFINITION. State types of Amind: requests, stalls, routes, sessions, handles, instances. The default of a field is
its reset value. -/

namespace Sys2Proof.Machine

open Sys2Proof

/-- A tool's IP address and UDP port as one number: the port in the low 16 bits, the address, an IPv4 one in its low 32 bits, above it
(DESIGN CHOICE, log entry 148). -/
abbrev Peer := BitVec 144

/-- The envelope of a UDP datagram, with the port and the source address through which it arrives (R243, R247). -/
structure Envelope where
  /-- Ethernet port: 21 is the service port. -/
  port : Nat := 21
  /-- The tool's address and UDP port: the source of a request, the destination of what Amind sends. -/
  peer : Peer := 0
  /-- Magic. -/
  magic : U16 := 0x5149
  /-- Version. -/
  version : Byte := 1
  /-- Direction: 0 tool to module, 1 module to tool. -/
  dir : Byte := 0
  /-- Session ID, 0 during the handshake. -/
  sid : U32 := 0
  /-- Counter, per session and direction. -/
  counter : U64 := 1
  /-- AES-256-GCM tag; absent when the session ID is 0. -/
  tag : List Byte := []
  deriving DecidableEq, Repr

/-- The first 16 bytes of a datagram: the additional authenticated data (R243, R244). -/
def Envelope.head (e : Envelope) : List Byte :=
  leBytes 2 e.magic.toNat ++ leBytes 1 e.version.toNat ++ leBytes 1 e.dir.toNat ++ leBytes 4 e.sid.toNat ++ leBytes 8 e.counter.toNat

/-- The GCM nonce: session ID, then counter (R244). -/
def Envelope.nonce (e : Envelope) : List Byte := leBytes 4 e.sid.toNat ++ leBytes 8 e.counter.toNat

/-- The tag over a message under a key (R243, R244). -/
def Envelope.tagOf (e : Envelope) (key msg : List Byte) : List Byte :=
  aesGcmTag key e.nonce e.head (aesGcm key e.nonce e.head msg)

/-- The route of a request, which fixes its issuer (R213). -/
inductive Route where
  | stall (n : Nat)
  /-- Service session slot 0 or 1 (R246). -/
  | svc (k : Nat)
  /-- The partner's originating stall 0 or 1, through stall 3 (R238). -/
  | ptr (o : Nat)
  /-- A UDP datagram of session ID 0 with its source address (R244). -/
  | udp (addr : Peer)
  deriving DecidableEq, Repr

/-- The number under which a route's records are kept: stalls 0 to 63, sessions 64 and 65, partner stalls 66 and 67. -/
def Route.key : Route → Nat
  | .stall n => n
  | .svc k => 64 + k
  | .ptr o => 66 + o
  | .udp _ => 70

/-- A request as it stands in the request area: header and payload (R219, R227). -/
structure Request where
  /-- Route. -/
  route : Route
  /-- REQ_OPCODE. -/
  opcode : U16 := 0
  /-- REQ_FLAGS. -/
  flags : U16 := 0
  /-- REQ_SEQ. -/
  seq : U16 := 0
  /-- REQ_HANDLE. -/
  handle : U32 := 0
  /-- REQ_LEN. -/
  len : U16 := 0
  /-- The first REQ_LEN bytes of the payload. -/
  payload : List Byte := []
  /-- The envelope in which a request over UDP arrives (R243). -/
  env : Envelope := {}
  deriving DecidableEq, Repr

/-- The bytes of a request: header and payload (R227). -/
def Request.bytes (r : Request) : List Byte :=
  leBytes 2 r.opcode.toNat ++ leBytes 2 r.flags.toNat ++ leBytes 2 r.seq.toNat ++ leBytes 2 0 ++ leBytes 4 r.handle.toNat
    ++ leBytes 2 r.len.toNat ++ leBytes 2 0 ++ r.payload

/-- A response or a notice (R219, R227). -/
structure Response where
  /-- RSP_OPCODE. -/
  opcode : U16 := 0
  /-- RSP_FLAGS. -/
  flags : U16 := 0
  /-- RSP_SEQ. -/
  seq : U16 := 0
  /-- RSP_STATUS. -/
  status : U16 := 0
  /-- RSP_HANDLE. -/
  handle : U32 := 0
  /-- RSP_PAYLOAD; RSP_LEN is its length. -/
  payload : List Byte := []
  deriving DecidableEq, Repr

/-- The bytes of a response or a notice: header and payload (R219, R227). -/
def Response.bytes (r : Response) : List Byte :=
  leBytes 2 r.opcode.toNat ++ leBytes 2 r.flags.toNat ++ leBytes 2 r.seq.toNat ++ leBytes 2 r.status.toNat
    ++ leBytes 4 r.handle.toNat ++ leBytes 2 r.payload.length ++ leBytes 2 0 ++ r.payload

/-- An interrupt binding (R256). -/
structure Bind where
  /-- Hart 0 to 7. -/
  hart : Nat := 0
  /-- 0 supervisor file (machine file for a secure handle), 1 to 15 guest file. -/
  file : Nat := 0
  /-- Identity. -/
  ident : Nat := 0
  deriving DecidableEq, Repr

/-- Stall states (R224). -/
inductive StallState where
  | closed | idle | queued | serving | answered | notified | blocked
  deriving DecidableEq, Repr

/-- One stall page (R219, R224). -/
structure Stall where
  /-- State. -/
  st : StallState := .closed
  /-- Bytes of the request area that are not 0, by offset 0x000 to 0x7FF (R219). -/
  area : Tab Byte := []
  /-- The captured request. -/
  captured : Option Request := none
  /-- The response area. -/
  rsp : Response := {}
  /-- Queued notices, oldest first, at most 8 (R225). -/
  notices : List Response := []
  /-- A notice was dropped; the next one carries NOTICE_LOST (R225). -/
  lost : Bool := false
  /-- The instance a stall of 4 to 63 is assigned to. -/
  owner : Option Nat := none
  /-- Its interrupt binding (R222). -/
  bind : Bind := {}
  deriving DecidableEq, Repr

/-- The outcome record of a PENDING command (R259). -/
structure PendRec where
  /-- Opcode. -/
  opcode : U16 := 0
  /-- Sequence. -/
  seq : U16 := 0
  /-- Complete. -/
  done : Bool := false
  /-- Reason code (R230). -/
  reason : Byte := 0
  /-- Final status. -/
  final : U16 := 0
  deriving DecidableEq, Repr

/-- What Amind keeps for one route (R223, R259, R260). -/
structure RouteRec where
  /-- Last accepted sequence. -/
  lastSeq : U16 := 0
  /-- Its stored response. -/
  stored : Response := {}
  /-- PENDING commands, newest first. -/
  pend : List PendRec := []
  /-- The result held: result ID and bytes (R260). -/
  result : Option (U16 × List Byte) := none
  /-- Last result ID given out. -/
  resultId : U16 := 0
  /-- The message of the last datagram sent on a service route: MODEL'S OWN view of the wire (R243). -/
  sent : Response := {}
  /-- Its envelope. -/
  sentIn : Envelope := {}
  deriving DecidableEq, Repr

/-- A service session or a pending set-up (R244 to R247). -/
structure Session where
  /-- Session ID. -/
  id : U32 := 0
  /-- The set-up is pending; otherwise the session is open. -/
  setup : Bool := true
  /-- Source address and UDP port of SESSION_OPEN. -/
  addr : Peer := 0
  /-- Credential number. -/
  cred : Byte := 0
  /-- Role mask. -/
  roles : Byte := 0
  /-- Highest counter seen, tool to module. -/
  rx : U64 := 0
  /-- Last counter sent, module to tool. -/
  tx : U64 := 0
  /-- Source address and UDP port of the last valid request (R247). -/
  peer : Peer := 0
  /-- Ethernet port through which it came. -/
  port : Nat := 21
  /-- The messages of steps 1 and 2 of the set-up (R244). -/
  transcript : List Byte := []
  deriving DecidableEq, Repr

/-- A service credential (R241, R248). -/
structure Credential where
  /-- Role mask. -/
  roles : Byte := 0
  /-- ECDSA P-384 public key. -/
  key : List Byte := []
  deriving DecidableEq, Repr

/-- An address of the module (R241). -/
inductive IpAddr where
  | v4 (a : U32)
  | v6 (a : BitVec 128)
  deriving DecidableEq, Repr

/-- The service record (R241): its two copies are kept apart from the stored configuration (R212, R242). -/
structure SvcRecord where
  /-- The UDP port, if the record names one. -/
  udp : Option U16 := none
  /-- The module's address. -/
  addr : IpAddr := .v4 0
  /-- E ports on which the service listens, bit p. -/
  ports : BitVec 22 := 0
  /-- Service credentials by number, at most 8 (SvcRecord.taken). -/
  creds : Tab Credential := []
  deriving DecidableEq, Repr

/-- A record as it is taken: at most 8 credentials (R241). -/
def SvcRecord.taken (r : SvcRecord) : SvcRecord := { r with creds := r.creds.take 8 }

/-- The MAC address of the service (R241, R311). -/
def svcMac : BitVec 48 := Config.macBase + 129

/-- The link-local address of a MAC address under the modified EUI-64 rule (R622). -/
def linkLocal (m : BitVec 48) : IpAddr :=
  .v6 ((0xFE80000000000000#64) ++ ((m.extractLsb' 24 24 ^^^ 0x020000#24) ++ (0xFFFE#16) ++ m.extractLsb' 0 24))

/-- The service record of delivery, which the boot ROM also keeps in one-time-programmable memory (R90, R622). -/
def deliveryRecord : SvcRecord :=
  { udp := some Config.deliveryPort, addr := linkLocal svcMac, creds := [(0, { roles := 0x03, key := Config.deliveryKey })] }

/-- The order of service (R215): Amind begins queued requests in rounds. -/
structure Round where
  /-- The stall, 0 or 1, that has first place in this round. -/
  first : Nat := 0
  /-- The stall of 4 to 63 with which this round begins. -/
  start : Nat := 4
  /-- The stall of 4 to 63 served last. -/
  last : Nat := 63
  /-- Places of this round that are over. -/
  at_ : Nat := 0
  deriving DecidableEq, Repr

/-- The place of a route in a round (R215). -/
def Round.place (r : Round) (key : Nat) : Nat :=
  if key = 2 then 0
  else if key < 2 then (if key = r.first then 1 else 2)
  else if key = 3 ∨ key = 66 ∨ key = 67 then 3
  else if key < 64 then 4 + (key + 60 - r.start) % 60
  else key

/-- The round that follows: stalls 0 and 1 change places, and stalls 4 to 63 begin one after the last one served (R215). -/
def Round.next (r : Round) : Round :=
  { first := 1 - r.first, start := if r.last = 63 then 4 else r.last + 1, last := r.last }

/-- A route takes its place: in this round if its place is still to come, in the next one otherwise (R215). -/
def Round.take (r : Round) (key : Nat) : Round :=
  let n := if r.at_ ≤ r.place key then r else r.next
  { n with at_ := n.place key + 1, last := if 4 ≤ key ∧ key < 64 then key else n.last }

/-- A REMOTE request that was relayed and awaits the partner (R238). -/
structure Remote where
  /-- The originating stall, 0 or 1. -/
  stall : Nat := 0
  /-- The request. -/
  req : Request := { route := .stall 0 }
  deriving DecidableEq, Repr

/-- Handle table entry (R234 to R237). -/
structure Handle where
  /-- RETIRING; otherwise LIVE. -/
  retiring : Bool := false
  /-- Secure attribute (R197). -/
  sec : Bool := false
  /-- Owner instance. -/
  owner : Nat := 0
  /-- Generation. -/
  gen : Nat := 1
  /-- Interrupt binding. -/
  bind : Bind := {}
  /-- QoS class of the engine's transactions for the handle (R136). -/
  cls : BitVec 2 := 0
  /-- The destroy that awaits its notice. -/
  waiter : Option (Nat × U16) := none
  /-- Charges of the handle to its kind: selector, first and second amount (R511). -/
  charge : Nat × Nat × Nat := (0, 0, 0)
  deriving DecidableEq, Repr

/-- Free order of a handle type whose index Amind chooses (R235): the lowest index not issued since the start, and the
retired ones in the order in which they became FREE. -/
structure FreeOrder where
  /-- Lowest index not issued since the start. -/
  fresh : Nat := 0
  /-- Retired indices, oldest first. -/
  back : List Nat := []
  deriving DecidableEq, Repr

/-- Handle table, generations and free orders (R235). -/
structure Handles where
  /-- LIVE and RETIRING handles by type × 4096 + index. -/
  tab : Tab Handle := []
  /-- Generations, by type × 4096 + index; 1 where unlisted (R235). -/
  gens : Tab Nat := []
  /-- Starts since manufacture by which every generation has advanced (R237). -/
  starts : Nat := 0
  /-- Free orders by type; queue pairs use 0x01 for I0 and 0x101 for I1. -/
  free : Tab FreeOrder := []
  deriving DecidableEq, Repr

/-- Instance states (R527). -/
inductive InstState where
  | free | live | resetting | destroying
  deriving DecidableEq, Repr

/-- A share entry (R262). -/
structure Share where
  /-- Kind. -/
  kind : Nat := 0
  /-- Selector. -/
  sel : Nat := 0
  /-- Amount a. -/
  a : U32 := 0
  /-- Amount b. -/
  b : U32 := 0
  deriving DecidableEq, Repr

/-- A drain in progress (R518). -/
structure Drain where
  /-- Kind. -/
  kind : Nat := 0
  /-- Selector. -/
  sel : Nat := 0
  /-- Route and sequence of FN_DISABLE. -/
  waiter : Nat × U16 := (0, 0)
  deriving DecidableEq, Repr

/-- One instance (R508 to R532). -/
structure Inst where
  /-- INST_STATE.STATE. -/
  st : InstState := .free
  /-- Its grants. -/
  shares : List Share := []
  /-- The drain in progress; INST_STATE.DRAINING (R518). -/
  drain : Option Drain := none
  /-- Disabled functions: kind and selector (R519). -/
  disabled : List (Nat × Nat) := []
  /-- INST_STATE.RESET_COUNT. -/
  resets : U16 := 0
  /-- INST_RESET_TIME. -/
  resetTime : U64 := 0
  /-- INST_STRAY. -/
  stray : U32 := 0
  /-- INST_RESET_ABORTS. -/
  aborts : U32 := 0
  /-- INST_DB_REFUSED. -/
  dbRefused : U32 := 0
  /-- INST_DB_LAST. -/
  dbLast : U16 := 0
  /-- Route and sequence of the INSTANCE_RESET in progress. -/
  resetReq : Option (Nat × U16) := none
  /-- Step 1 of the reset sequence has begun (R520, R521). -/
  resetBegun : Bool := false
  /-- Steps 2 and 3 of the reset sequence have ended. -/
  drained : Bool := false
  /-- Route and sequence of each INSTANCE_DESTROY held or in progress. -/
  destroyReq : List (Nat × U16) := []
  deriving DecidableEq, Repr

/-- Amind (R210 to R251). -/
structure Amind where
  /-- The 64 stalls. -/
  stalls : Tab Stall := []
  /-- Records per route, by Route.key. -/
  routes : Tab RouteRec := []
  /-- Service sessions, slots 0 and 1 (R246). -/
  sessions : Tab Session := []
  /-- TIME_LOCAL of the DENIED set-up answers, newest first (R246). -/
  denied : List U64 := []
  /-- The SESSION_OPEN lockout is in force (R246). -/
  lockout : Bool := false
  /-- UDP datagrams dropped (R244). -/
  udpDrops : U32 := 0
  /-- Session IDs given out: MODEL'S OWN index into the free values. -/
  nextFresh : Nat := 0
  /-- REMOTE requests awaiting the partner (R238). -/
  remotes : List Remote := []
  /-- Requests from the partner that wait for stall 3 (R240). -/
  ptrWait : List Request := []
  /-- The last message sent to the partner on the control channel: MODEL'S OWN view of the link (R238). -/
  ptrSent : Response := {}
  /-- The partner's originating stall to which it returns (R238). -/
  ptrTo : Nat := 0
  /-- Address resolution answers sent, with the MAC address given: MODEL'S OWN view of the wire (R241). -/
  arpAnswers : Nat := 0
  /-- The last answer: the port, and the MAC address of the service. -/
  arpLast : Option (Nat × BitVec 48) := none
  /-- The round of service (R215). -/
  round : Round := {}
  deriving DecidableEq, Repr

end Sys2Proof.Machine
end

