-- ==== Sys2Proof/Machine/KeyTypes.lean ====
section
/-! DEFINITION. State types of the key store and of the cipher engines. The default of a field is its reset value. -/

namespace Sys2Proof.Machine

/-- A node record of the key tree, nodes 8 to 4095 (R537), or a root, nodes 2 to 5 (R535). -/
structure Node where
  /-- Parent. -/
  parent : Nat := 0
  /-- Depth: 1 to 8, roots 0. -/
  depth : Nat := 0
  /-- Usage. -/
  usage : Nat := 5
  /-- Flags: bit 0 permits derivation below the node (R539). -/
  flags : Nat := 0
  /-- Label. -/
  label : List Byte := []
  /-- Secure mark. -/
  sec : Bool := false
  /-- Creation number. -/
  created : U64 := 0
  /-- Node generation. -/
  gen : U32 := 0
  /-- The generation that its parent had when it was created. -/
  parentGen : U32 := 0
  /-- INVALIDATED (R542). -/
  invalid : Bool := false
  /-- The key of an imported node (R540). -/
  imported : Option (List Byte) := none
  deriving DecidableEq, Repr

/-- One journal slot (R546). -/
structure Journal where
  /-- Counter. -/
  counter : U64 := 0
  /-- Changed records: a node, or none for a reclaimed one. -/
  changes : List (Nat × Option Node) := []
  /-- Its HMAC holds. -/
  valid : Bool := true
  deriving DecidableEq, Repr

/-- A signature or token in generation (R551, R553). -/
structure Signing where
  /-- Route number of the requester. -/
  route : Nat := 0
  /-- Its sequence. -/
  seq : U16 := 0
  /-- The signing node, or none for ATTEST. -/
  node : Option Nat := none
  /-- Algorithm of KEY_SIGN. -/
  alg : Nat := 0
  /-- Digest, or nonce of ATTEST. -/
  data : List Byte := []
  /-- Issuer code and instance of ATTEST (R552). -/
  issuer : Nat × Nat := (0, 0)
  deriving DecidableEq, Repr

/-- KS_STATUS.STATE. -/
inductive KsState where
  | starting | ready | alarmed
  deriving DecidableEq, Repr

/-- The keys of a service session (R244). -/
structure SessKeys where
  /-- Key of the direction tool to module. -/
  t2m : List Byte := []
  /-- Key of the direction module to tool. -/
  m2t : List Byte := []
  deriving DecidableEq, Repr

/-- The key store (R533 to R553, R564 to R567). -/
structure KeyStore where
  /-- The keys of the service sessions by slot (R244): Amind holds none itself (R211). -/
  sessKeys : Tab SessKeys := []
  /-- KS_STATUS.STATE. -/
  st : KsState := .starting
  /-- KS_STATUS.JOURNAL_REPLAYED. -/
  replayed : Bool := false
  /-- KS_STATUS.LAYER3. -/
  layer3 : Bool := false
  /-- Node records that are not FREE, 8 to 4095, non-volatile home locations (R537). -/
  nodes : Tab Node := []
  /-- The generations of the roots 2 to 5 never rise; the roots are present from step 7 on (R536). -/
  roots : Bool := false
  /-- Journal slot A, non-volatile. -/
  slotA : Journal := {}
  /-- Journal slot B, non-volatile. -/
  slotB : Journal := {}
  /-- The counter that the home records carry (R547). -/
  homeCounter : U64 := 0
  /-- The life-cycle count whose nodes the records hold (R621). -/
  life : U32 := 0
  /-- Measurement layers 0 to 3: digests (R534). -/
  layers : Tab (List Byte) := []
  /-- KS_ROOT.MGR_M, MGR_S, SEC_M, SEC_S. -/
  rootHandles : Tab U32 := []
  /-- KS_ALARM.CODE. -/
  alarm : BitVec 3 := 0
  /-- KS_PURGES.COUNT. -/
  purges : U32 := 0
  /-- KS_BYTE_LIMIT. -/
  byteLimit : U64 := 0x10000000000
  /-- Nodes loaded in the engine key registers, least recently used first (R549). -/
  engine : List Nat := []
  /-- Bytes processed in the current start, by node (R566). -/
  bytes : Tab Nat := []
  /-- Nodes that KEY_WORN was recorded for in this start. -/
  worn : List Nat := []
  /-- Signatures and tokens in generation, oldest first. -/
  signing : List Signing := []
  /-- Signatures and tokens made: MODEL'S OWN index into the free values. -/
  signed : Nat := 0
  /-- CE_EVENT. -/
  ceEvent : BitVec 2 := 0
  /-- CE_EVENT_EN.MASK. -/
  ceEn : BitVec 2 := 0
  /-- KS_EVENT. -/
  ksEvent : BitVec 3 := 0
  /-- KS_EVENT_EN.MASK. -/
  ksEn : BitVec 3 := 0
  deriving DecidableEq, Repr

/-- A job descriptor (R555). -/
structure Desc where
  /-- Opcode. -/
  op : Nat := 0
  /-- Flags: bit 0 IRQ, bit 1 FENCE. -/
  flags : Nat := 0
  /-- Tag length. -/
  tagLen : Nat := 0
  /-- Byte 3, reserved. -/
  rsv3 : Nat := 0
  /-- Key node handle. -/
  key : U32 := 0
  /-- Source. -/
  src : Nat := 0
  /-- Destination. -/
  dst : Nat := 0
  /-- Data length. -/
  len : Nat := 0
  /-- AAD length. -/
  aadLen : Nat := 0
  /-- IV or tweak, 16 bytes. -/
  iv : List Byte := []
  /-- Tag address. -/
  tag : Nat := 0
  /-- Cookie. -/
  cookie : U32 := 0
  /-- Bytes 60 to 63, reserved. -/
  rsv60 : Nat := 0
  deriving DecidableEq, Repr

/-- A job in flight (R554 to R560). -/
structure Job where
  /-- Its number. -/
  id : Nat := 0
  /-- Ring. -/
  ring : Nat := 0
  /-- Descriptor slot. -/
  slot : Nat := 0
  /-- Descriptor. -/
  desc : Desc := {}
  /-- Key node. -/
  node : Option Nat := none
  /-- Its key register is loaded. -/
  loaded : Bool := false
  /-- AAD and data bytes read so far, in order. -/
  input : List Byte := []
  /-- Its first chunk has started. -/
  begun : Bool := false
  /-- At least one byte was written to the destination (R560). -/
  wrote : Bool := false
  /-- A status that ends the job: KEY_REVOKED, a fabric response or FN_DISABLED. -/
  fail : Option U16 := none
  deriving DecidableEq, Repr

/-- One cipher ring (R555, R567). -/
structure Ring where
  /-- CR_SQ_BASE. -/
  sqBase : U64 := 0
  /-- CR_CQ_BASE. -/
  cqBase : U64 := 0
  /-- CR_SQ_TAIL. -/
  sqTail : U16 := 0
  /-- CR_SQ_HEAD. -/
  sqHead : U16 := 0
  /-- CR_CQ_TAIL. -/
  cqTail : U16 := 0
  /-- CR_CQ_HEAD. -/
  cqHead : U16 := 0
  /-- CR_CFG.DEPTH. -/
  depth : U16 := 0
  /-- CR_CFG.RUN. -/
  run : Bool := false
  /-- CR_CFG.ENABLED. -/
  enabled : Bool := false
  /-- CR_CFG.SECURE. -/
  sec : Bool := false
  /-- CR_BW.MBPS. -/
  mbps : U16 := 0
  /-- CR_JOBS.COUNT. -/
  jobs : U64 := 0
  /-- CR_BYTES.COUNT. -/
  bytes : U64 := 0
  /-- CR_ERR.COUNT. -/
  err : U32 := 0
  /-- Bucket in 1/8 byte (R558). -/
  bucket : Nat := 0
  /-- Owner instance. -/
  owner : Nat := 0
  /-- An instance reset stops the fetch. -/
  stopped : Bool := false
  deriving DecidableEq, Repr

/-- The cipher engines and the inline memory encryption (R554 to R563, R567). -/
structure Cipher where
  /-- CE_STATUS.IME_ACTIVE. -/
  ime : Bool := false
  /-- CE_JOBS.COUNT. -/
  jobsDone : U64 := 0
  /-- CE_REVOKED.COUNT. -/
  revoked : U32 := 0
  /-- CE_AUTH_FAIL.COUNT. -/
  authFail : U32 := 0
  /-- CE_IME_RMW.COUNT. -/
  rmw : U32 := 0
  /-- Rings 0 to 63. -/
  rings : Tab Ring := []
  /-- Jobs in flight, in fetch order. -/
  jobs : List Job := []
  /-- The number of the next job. -/
  nextJob : Nat := 0
  deriving DecidableEq, Repr

end Sys2Proof.Machine
end

