-- ==== Sys2Proof/Machine/CoreTypes.lean ====
section
/-! DEFINITION. State types of the fabric, the attribute checkers, the regulators, the harts, the lock-step pairs, the
interrupt controllers and the power blocks. The default of a field is its reset value. -/

namespace Sys2Proof.Machine

/-- Attributes that every transaction carries (R18). -/
structure Attr where
  /-- Initiator ID (R118). -/
  init : Byte := 0
  /-- Instance ID. -/
  inst : BitVec 6 := 0
  /-- Security attribute. -/
  sec : Bool := false
  /-- QoS class. -/
  qos : BitVec 2 := 0
  /-- The access is a V = 1 access of a hart (R20). -/
  virt : Bool := false
  deriving DecidableEq, Repr

/-- The initiators of R118; no other code is ever issued. -/
def initListed (b : Byte) : Bool :=
  b.toNat < 8 || b.toNat ∈ [0x10, 0x18, 0x20, 0x21, 0x28, 0x40, 0x48, 0x50, 0x58, 0x60, 0x68] || (0x30 ≤ b.toNat && b.toNat < 0x40)

/-- The type of a transaction (R119). -/
inductive XKind where
  | read | write | posted | amo | lr | sc
  deriving DecidableEq, Repr

/-- Response codes of the fabric (Responses and the order of checks). -/
inductive Resp where
  | ok | retry | terr | derr | aerr | qerr | ferr
  deriving DecidableEq, Repr

/-- Operations of a fabric AMO (R644). -/
inductive AmoOp where
  | swap | add | and_ | or_ | xor_ | min_ | max_ | minu | maxu
  deriving DecidableEq, Repr

/-- One fabric transaction (R119). -/
structure Xact where
  /-- Its attributes. -/
  attr : Attr := {}
  /-- First byte address. -/
  addr : A40 := 0
  /-- Bytes moved. -/
  size : Nat := 4
  /-- Bytes written. -/
  data : List Byte := []
  deriving DecidableEq, Repr

/-- The last response of the fabric: MODEL'S OWN record of what the initiator sees. -/
structure LastResp where
  /-- Response code. -/
  code : Resp := .ok
  /-- Read data. -/
  data : List Byte := []
  deriving DecidableEq, Repr

/-- One checker region (R126 to R129). -/
structure Region where
  /-- CHK_BASE.PAGE. -/
  base : BitVec 28 := 0
  /-- CHK_LIMIT.PAGE. -/
  limit : BitVec 28 := 0
  /-- CHK_CTRL.EN. -/
  en : Bool := false
  /-- CHK_CTRL.NS_R. -/
  nsR : Bool := false
  /-- CHK_CTRL.NS_W. -/
  nsW : Bool := false
  /-- CHK_CTRL.S_R. -/
  sR : Bool := false
  /-- CHK_CTRL.S_W. -/
  sW : Bool := false
  /-- CHK_CTRL.LOCK. -/
  lock : Bool := false
  /-- CHK_INST: instances 0 to 62. -/
  mask : BitVec 63 := 0
  deriving DecidableEq, Repr

/-- FAB_ERR capture (R131). -/
structure FabErr where
  /-- COUNT, saturating. -/
  count : U32 := 0
  /-- INFO.VALID. -/
  valid : Bool := false
  /-- INFO.INITIATOR. -/
  init : Byte := 0
  /-- INFO.INSTANCE. -/
  inst : BitVec 6 := 0
  /-- INFO.SEC. -/
  sec : Bool := false
  /-- INFO.WRITE. -/
  write : Bool := false
  /-- INFO.TARGET. -/
  target : Byte := 0
  /-- INFO.RESP. -/
  resp : BitVec 3 := 0
  /-- ADDR. -/
  addr : A40 := 0
  deriving DecidableEq, Repr

/-- One regulator (R133 to R138). -/
structure Regulator where
  /-- QR_CFG.EN. -/
  en : Bool := false
  /-- QR_CFG.CLASS. -/
  cls : BitVec 2 := 0
  /-- QR_GUAR.RATE. -/
  guar : U16 := 0
  /-- QR_CEIL.RATE. -/
  ceil : U16 := 0xFFFF
  /-- QR_BURST.DEPTH. -/
  burst : U16 := 0
  /-- QR_BYTES. -/
  bytes : U64 := 0
  /-- QR_HELD. -/
  held : U32 := 0
  /-- QR_DEMOTED, units of 256 bytes. -/
  demoted : U32 := 0
  /-- Bytes admitted at class 0 not yet counted in QR_DEMOTED. -/
  demotedRem : Nat := 0
  /-- Guarantee bucket, bytes. -/
  guarBucket : Nat := 0
  /-- Ceiling bucket, bytes. -/
  ceilBucket : Nat := 0
  /-- A transaction was withheld in the interval in progress. -/
  heldNow : Bool := false
  /-- A change waiting for the next refill: metered, class, guarantee, ceiling, burst (R134). -/
  next : Option (Bool × BitVec 2 × U16 × U16 × U16) := none
  deriving DecidableEq, Repr

/-- A transaction that a regulator withholds or that waits at an arbitration point (R133, R137). -/
structure Waiting where
  /-- The transaction. -/
  x : Xact := {}
  /-- Its kind. -/
  kind : XKind := .read
  /-- The operation of an AMO. -/
  op : AmoOp := .swap
  /-- Its class at the arbitration point. -/
  cls : BitVec 2 := 0
  /-- Withheld at its initiator port; otherwise waiting at an arbitration point. -/
  withheld : Bool := false
  /-- The sending window of an inbound posted write (R589). -/
  win : Nat := 0
  /-- Its initiator at the sending module, which crosses the link beside it (R589). -/
  origin : Byte := 0
  deriving DecidableEq, Repr

/-- One hart (R141 to R147, R175 to R187). -/
structure Hart where
  /-- World bit W (R175): secure. -/
  world : Bool := true
  /-- Privilege mode: 0 U, 1 S, 3 M (R144). -/
  priv : BitVec 2 := 3
  /-- V (R144). -/
  virt : Bool := false
  /-- Program counter (R144). -/
  pc : U64 := 0
  /-- Integer registers x1 to x31; x0 reads 0. -/
  x : Tab U64 := []
  /-- Floating-point registers f0 to f31 (R180). -/
  f : Tab U64 := []
  /-- mstatus.MIE. -/
  mie : Bool := false
  /-- mstatus.MPIE. -/
  mpie : Bool := false
  /-- mstatus.MPP. -/
  mpp : BitVec 2 := 0
  /-- mstatus.MPV. -/
  mpv : Bool := false
  /-- mstatus.GVA. -/
  gva : Bool := false
  /-- mstatus.MPRV. -/
  mprv : Bool := false
  /-- mstatus.FS (R180). -/
  fs : BitVec 2 := 0
  /-- Machine-level, hypervisor, VS-level and unprivileged CSRs by number, where no field of their own holds them. -/
  csr : Tab U64 := []
  /-- hstatus.SPV. -/
  spv : Bool := false
  /-- hstatus.SPVP. -/
  spvp : Bool := false
  /-- hstatus.GVA. -/
  hgva : Bool := false
  /-- hstatus.VTSR and VTVM, VTW, in bits 2:0. -/
  hvt : BitVec 3 := 0
  /-- hstatus.HU. -/
  hu : Bool := false
  /-- hstatus.VGEIN. -/
  vgein : BitVec 6 := 0
  /-- S-level bank of the normal world, by CSR number (R179). -/
  bankN : Tab U64 := []
  /-- S-level bank of the secure world, by CSR number (R179). -/
  bankS : Tab U64 := []
  /-- MTIMECMPX (R147). -/
  mtimecmp : U64 := 0xFFFFFFFFFFFFFFFF
  /-- vstimecmp (R147). -/
  vstimecmp : U64 := 0xFFFFFFFFFFFFFFFF
  /-- mip.MTIP. -/
  mtip : Bool := false
  /-- MWORLD.MPW (R187). -/
  mpw : Bool := true
  /-- MWORLD.TOLLEN. -/
  tollen : Bool := false
  /-- MWORLD.SCOUNT (R192). -/
  scount : Bool := false
  /-- MTOLLBASE.ADDR, bits [39:4]. -/
  tollBase : BitVec 36 := 0
  /-- MTOLLLIMIT.ADDR. -/
  tollLimit : BitVec 36 := 0
  /-- TOLLEPC.PC. -/
  tollEpc : U64 := 0
  /-- TOLLSTAT.ACTIVE. -/
  tollActive : Bool := false
  /-- The hart waits in WFI with interrupts disabled after a failed boot check (R208). -/
  bootWait : Bool := false
  /-- The LR/SC reservation: number of the 64-byte line (R645). -/
  resv : Option Nat := none
  /-- Non-posted transactions issued and not yet answered (R122). -/
  outstanding : Nat := 0
  /-- FENCE.I instructions completed since reset: MODEL'S OWN count of instruction-stream orderings (R150). -/
  fencei : Nat := 0
  /-- tdata1 of triggers 0 to 3, each of type 2, mcontrol (R161). -/
  trig1 : Tab U64 := []
  /-- tdata2 of triggers 0 to 3 (R161). -/
  trig2 : Tab U64 := []
  /-- dcsr.cause of the last entry to debug mode (R161, R163). -/
  dcause : BitVec 3 := 0
  deriving DecidableEq, Repr

/-- PAIR_STATUS.STATE (R174). -/
inductive PairState where
  | off | inReset | selftest | running | halted | frozen | failed
  deriving DecidableEq, Repr

/-- One lock-step pair (R174). -/
structure Pair where
  /-- PAIR_STATUS.STATE. -/
  st : PairState := .inReset
  /-- PAIR_STATUS.DBG_SPLIT. -/
  split : Bool := false
  /-- PAIR_STATUS.SELFTEST_PASS. -/
  pass : Bool := false
  /-- CORE_SAFETY.STF_MASK bit. -/
  stf : Bool := false
  /-- PAIR_STATUS.MM_VALID. -/
  mmValid : Bool := false
  /-- PAIR_STATUS.MM_LANE. -/
  mmLane : BitVec 4 := 0
  /-- PAIR_MM_PC. -/
  mmPc : U64 := 0
  /-- PAIR_SPLIT_TIME. -/
  splitTime : U64 := 0
  /-- PAIR_ECC.L1_RECOVERED. -/
  l1 : U16 := 0
  /-- PAIR_MSI_DROP. -/
  msiDrop : U32 := 0
  /-- A halt request of the debug port waits for the normal world (R162). -/
  haltReq : Bool := false
  /-- dmstatus.havereset of the hart: reset since the debugger last acknowledged it (R161). -/
  haveReset : Bool := true
  /-- dmstatus.resumeack of the hart (R161). -/
  resumeAck : Bool := false
  deriving DecidableEq, Repr

/-- CL_ECC of one cluster, and its poisoned lines (R151, R174). -/
structure Cluster where
  /-- CORR. -/
  corr : U16 := 0
  /-- UNCORR. -/
  uncorr : U16 := 0
  /-- Poisoned line numbers in L2 (R151). -/
  poison : List Nat := []
  deriving DecidableEq, Repr

/-- One IMSIC interrupt file (R169). -/
structure Imsic where
  /-- Pending identities. -/
  eip : BitVec 512 := 0
  /-- Enabled identities. -/
  eie : BitVec 512 := 0
  /-- eidelivery. -/
  delivery : Bool := false
  /-- eithreshold. -/
  threshold : BitVec 9 := 0
  deriving DecidableEq, Repr

/-- One APLIC domain (R166 to R168). -/
structure Aplic where
  /-- domaincfg.IE. -/
  ie : Bool := false
  /-- sourcecfg of sources 1 to 255: delegation bit 10 and source mode [2:0]. -/
  src : Tab (BitVec 11) := []
  /-- target registers of the sources. -/
  target : Tab U32 := []
  /-- Pending sources. -/
  ip : BitVec 256 := 0
  /-- Enabled sources. -/
  en : BitVec 256 := 0
  /-- Rectified input levels as last seen. -/
  level : BitVec 256 := 0
  /-- genmsi as last written. -/
  genmsi : U32 := 0
  deriving DecidableEq, Repr

/-- Debug module state (R161). -/
structure Dbg where
  /-- The port was opened by DEBUG_OPEN in SERVICE: the session's route (R48). -/
  opened : Option Nat := none
  /-- abstractcs.cmderr. -/
  cmderr : BitVec 3 := 0
  /-- data0 and data1. -/
  data : U64 := 0
  /-- Last system bus response. -/
  sbError : BitVec 3 := 0
  /-- sbdata. -/
  sbData : U64 := 0
  /-- Program buffer, 8 words. -/
  progbuf : Tab U32 := []
  /-- dmcontrol.dmactive. -/
  active : Bool := false
  /-- dmcontrol.hasel. -/
  hasel : Bool := false
  /-- dmcontrol.hartsel. -/
  hartsel : Nat := 0
  /-- hawindow: the hart array mask. -/
  window : Byte := 0
  /-- sbcs: sbreadonaddr, sbaccess, sbautoincrement, sbreadondata, in bits 20 to 15. -/
  sbcs : U32 := 0
  /-- sbcs.sbbusy: a system bus access waits (R133, R137). -/
  sbBusy : Bool := false
  /-- sbcs.sbbusyerror: an access was begun while another one waited. -/
  sbBusyErr : Bool := false
  /-- Bytes of the last system bus access. -/
  sbSize : Nat := 0
  /-- sbaddress0 and sbaddress1. -/
  sbAddr : U64 := 0
  deriving DecidableEq, Repr

/-- What a trigger looks at (R161). -/
inductive TrigKind where
  | load | store | execute
  deriving DecidableEq, Repr

/-- An access that a trigger sees: its kind, its virtual address and its data (R161). -/
structure TrigAccess where
  /-- Kind. -/
  kind : TrigKind := .execute
  /-- Virtual address. -/
  addr : U64 := 0
  /-- Data loaded or stored, or the instruction. -/
  data : U64 := 0
  deriving DecidableEq, Repr

/-- Why a hart enters debug mode (R163). -/
inductive HaltCause where
  /-- ebreak. -/
  | ebreak
  /-- Trigger t of the hart, at an access. -/
  | trigger (t : Nat) (access : TrigAccess)
  /-- Halt request of the debug port. -/
  | request
  /-- Single step. -/
  | step
  deriving DecidableEq, Repr

/-- A word of the custom-0 major opcode (R181). -/
inductive Custom0 where
  /-- TOLL rs1. -/
  | toll (rs1 : Nat)
  /-- TOLLRET. -/
  | tollret
  /-- Every other encoding. -/
  | illegal
  deriving DecidableEq, Repr

/-- What a REGISTER_WRITE writes (R6, R141, R161, R187). -/
inductive RegOp where
  /-- A register of the memory map. -/
  | fabric (x : Xact)
  /-- A CSR of a hart, by a CSR instruction that the hart executes. -/
  | csr (hart c : Nat) (value : U64)
  /-- A register of the debug module, by its address on the debug module interface. -/
  | dmi (addr : Nat) (value : U32)
  deriving DecidableEq, Repr

/-- State of a power-controllable block (R203). -/
inductive BlkState where
  | on | deferred | quiescing | off | waking
  deriving DecidableEq, Repr

/-- One power-controllable block (R199 to R203). -/
structure Block where
  /-- State. -/
  st : BlkState := .on
  /-- Explicit keep-votes. -/
  votes : Nat := 0
  /-- An off request is held. -/
  offHeld : Bool := false
  /-- Open off requests: route and sequence. -/
  offReq : List (Nat × U16) := []
  /-- Open on requests. -/
  onReq : List (Nat × U16) := []
  /-- Keep-votes that wait for the ready notice. -/
  voteReq : List (Nat × U16) := []
  /-- A power request switched the block off, and none has switched it on since (R199). -/
  byReq : Bool := false
  /-- While QUIESCING: the block wakes again when the rail is off. -/
  wakeAfter : Bool := false
  deriving DecidableEq, Repr

/-- An open transition to PARTIAL (R204). -/
structure PartialReq where
  /-- Deferred by a keep-vote; otherwise the blocks quiesce. -/
  deferred : Bool := false
  /-- The reason with which the first request was answered. -/
  reason : Byte := 0
  /-- Requesters of PARTIAL: route and sequence. -/
  waiters : List (Nat × U16) := []
  /-- Requesters of RUN that follow the transition. -/
  runAfter : List (Nat × U16) := []
  deriving DecidableEq, Repr

end Sys2Proof.Machine
end

