-- ==== Sys2Proof/Machine/PassTypes.lean ====
section
/-! DEFINITION. State types of the ZC40 pair and of the Pass link. The default of a field is its reset value. -/

namespace Sys2Proof.Machine

/-- The partner state (R578). -/
inductive Partner where
  | unknown | alive | down | cut
  deriving DecidableEq, Repr

/-- The code that PASS_STATUS.PARTNER shows. -/
def Partner.code : Partner → Nat
  | .unknown => 0
  | .alive => 1
  | .down => 2
  | .cut => 3

/-- PASS_STATUS.LINK. -/
inductive LinkState where
  | down | training | up
  deriving DecidableEq, Repr

/-- The code that PASS_STATUS.LINK shows. -/
def LinkState.code : LinkState → Nat
  | .down => 0
  | .training => 1
  | .up => 2

/-- States of a bridge read slot; a FREE slot is not listed (R586). -/
inductive SlotPhase where
  | waiting | ready | error
  deriving DecidableEq, Repr

/-- A bridge read slot (R586). -/
structure RdSlot where
  /-- Slot number. -/
  id : Nat := 0
  /-- The read: initiator, instance, address and size match a reissue. -/
  x : Xact := {}
  /-- State. -/
  ph : SlotPhase := .waiting
  /-- Data held. -/
  data : List Byte := []
  /-- Posted writes still to be sent before its request is: up to the last one of its window and initiator (R585). -/
  behind : Nat := 0
  deriving DecidableEq, Repr

/-- A tracker of an outbound non-posted write (R587). -/
structure Tracker where
  /-- Tracker number. -/
  id : Nat := 0
  /-- The write. -/
  x : Xact := {}
  /-- The MSI that follows the OK of an engine's record write: binding and security attribute (R120). -/
  msi : Option (Bind × Bool) := none
  /-- Posted writes still to be sent before its request is: up to the last one of its window and initiator (R585). -/
  behind : Nat := 0
  deriving DecidableEq, Repr

/-- A record write of an engine that waits for a free tracker (R120, R587). -/
structure RecWait where
  /-- The write. -/
  x : Xact := {}
  /-- The MSI that follows its OK. -/
  msi : Option (Bind × Bool) := none
  deriving DecidableEq, Repr

/-- A posted write accepted and not yet sent (R588). -/
structure Posted where
  /-- Window. -/
  win : Nat := 0
  /-- The write, with its original initiator (R589). -/
  x : Xact := {}
  deriving DecidableEq, Repr

/-- The error message of a failed posted write (R589). -/
structure PassErr where
  /-- The sending window. -/
  win : Nat := 0
  /-- The partner address, which is the address here. -/
  addr : A40 := 0
  /-- The initiator at the sending module. -/
  origin : Byte := 0
  /-- Instance ID. -/
  inst : BitVec 6 := 0
  /-- Security attribute. -/
  sec : Bool := false
  /-- Response. -/
  code : Resp := .aerr
  deriving DecidableEq, Repr

/-- A Pass window page (R580, R590, R601). -/
structure Window where
  /-- PW_CFG.OPEN. -/
  opened : Bool := false
  /-- PW_CFG.POSTED. -/
  posted : Bool := false
  /-- PW_CFG.ENABLED. -/
  enabled : Bool := false
  /-- PW_CFG.STICKY. -/
  sticky : Bool := false
  /-- PW_CFG.OWNER. -/
  owner : Nat := 0
  /-- PW_LOCAL. -/
  loc : A40 := 0
  /-- PW_PARTNER. -/
  partner : A40 := 0
  /-- PW_SIZE. -/
  size : A40 := 0
  /-- PW_ERR_ADDR. -/
  errAddr : A40 := 0
  /-- PW_ERR_INFO.INITIATOR. -/
  errInit : Byte := 0
  /-- PW_ERR_INFO.INSTANCE. -/
  errInst : BitVec 6 := 0
  /-- PW_ERR_INFO.SEC. -/
  errSec : Bool := false
  /-- PW_ERR_INFO.RESP. -/
  errResp : BitVec 3 := 0
  /-- PW_ERR_INFO.VALID. -/
  errValid : Bool := false
  /-- PW_FERR. -/
  ferr : U32 := 0
  /-- PW_DISCARDED. -/
  discarded : U32 := 0
  /-- Route and sequence of the PASS_ERROR_CLEAR that awaits its acknowledgement (R591). -/
  clearing : Option (Nat × U16) := none
  /-- New transactions receive AERR: reset, disable or destruction (R593). -/
  stopped : Bool := false
  deriving DecidableEq, Repr

/-- Counters of the global page (R601). -/
structure PassCnt where
  /-- PASS_HB_MISSED. -/
  missed : U32 := 0
  /-- PASS_RD_EXPIRED. -/
  expired : U32 := 0
  /-- PASS_STRAY. -/
  stray : U32 := 0
  /-- PASS_IN_DENIED. -/
  denied : U32 := 0
  /-- PASS_POSTED_DISCARD. -/
  discard : U32 := 0
  /-- PASS_PX_FLUSH. -/
  flush : U32 := 0
  /-- PASS_RETRAIN. -/
  retrain : U32 := 0
  deriving DecidableEq, Repr

/-- The Pass link and the bridge (R569 to R602). -/
structure Pass where
  /-- PASS_STATUS.PAIRED. -/
  paired : Bool := false
  /-- PASS_STATUS.LINK. -/
  link : LinkState := .down
  /-- PASS_STATUS.PARTNER. -/
  partner : Partner := .unknown
  /-- Working lanes, bit l. -/
  lanes : BitVec 4 := 0
  /-- The link runs on one lane with heartbeats alone: PARTIAL (R573). -/
  reduced : Bool := false
  /-- PASS_STATUS.PARTNER_FAULT. -/
  fault : Bool := false
  /-- PASS_STATUS.PARTNER_SLEEP. -/
  asleep : Bool := false
  /-- PASS_CFG.AUTO_RST. -/
  autoRst : Bool := false
  /-- PASS_CFG.TAKEOVER. -/
  takeover : BitVec 4 := 0
  /-- Consecutive heartbeats counted towards ALIVE (R578). -/
  beats : Nat := 0
  /-- Sequence of the last heartbeat sent (R575). -/
  hbSeq : U16 := 0
  /-- Sequence of the last heartbeat received. -/
  hbLast : U16 := 0
  /-- Manager bits 128 to 255 of the own vector (R576). -/
  sbMgr : BitVec 128 := 0
  /-- PASS_SB_PARTNER. -/
  sbPartner : BitVec 256 := 0
  /-- PASS_SB_CHG. -/
  sbChg : BitVec 128 := 0
  /-- A received vector is held. -/
  sbSeen : Bool := false
  /-- Counters. -/
  cnt : PassCnt := {}
  /-- PASS_IN_BASE and PASS_IN_LIMIT by range; an unused range has its limit below its base. -/
  ranges : Tab (Nat × Nat) := []
  /-- PASS_EVENT. -/
  event : BitVec 6 := 0
  /-- PASS_EVENT_EN.MASK. -/
  eventEn : BitVec 6 := 0
  /-- Windows. -/
  wins : Tab Window := []
  /-- Read slots that are not FREE. -/
  slots : List RdSlot := []
  /-- Trackers in use. -/
  trackers : List Tracker := []
  /-- Record writes of engines that were answered RETRY and wait for a tracker, oldest first (R120, R587). -/
  recWait : List RecWait := []
  /-- Posted writes accepted and not yet sent, oldest first. -/
  posted : List Posted := []
  /-- Posted writes that wait at their initiator ports, oldest first (R588). -/
  portWait : List Posted := []
  /-- Sending windows of the partner that are poisoned (R589). -/
  poisoned : List Nat := []
  /-- The error message sent last (R589). -/
  errSent : Option PassErr := none
  /-- The automatic reset of the partner was pulsed since it was last ALIVE (R599). -/
  autoDone : Bool := false
  /-- The wake pattern was driven in this start: MODEL'S OWN view of PASS_TX0 (R600). -/
  wakePattern : Bool := false
  /-- Vectors and heartbeats sent: MODEL'S OWN count (R574). -/
  sent : Nat := 0
  deriving DecidableEq, Repr

end Sys2Proof.Machine
end

