-- ==== Sys2Proof/Machine/AonTypes.lean ====
section
/-! DEFINITION. State types of the always-on domain: supply, straps, pins, modes, reset causes, start-up, SAFE,
sleep and wake, ledger and time base. The default of a field is its reset value. -/

namespace Sys2Proof.Machine

/-- The strapped supply net (R44). -/
inductive NetSel where
  | v12 | v24 | v48 | invalid
  deriving DecidableEq, Repr

/-- The operating mode, with OFF for the unpowered module (R72). -/
inductive Mode where
  | off | start | sleep | part | run | safe | recovery
  deriving DecidableEq, Repr

/-- The cause of an RST_REQ_N pulse, which selects the request bit of AON_RESET_CAUSE (R105, R251). -/
inductive ReqCause where
  | cmd | wdog | wedged | safeEnd | key
  deriving DecidableEq, Repr

/-- The straps as sampled at the release of power-on reset (R44, R46, R47). -/
structure Straps where
  /-- The supply net of NET_SEL1 and NET_SEL0 (R44). -/
  net : NetSel := .invalid
  /-- PAIR_ID open: role A (R46). -/
  pairOpen : Bool := true
  /-- SVC_SEL open: the shared PHY serves J12 (R47). -/
  svcOpen : Bool := true
  deriving DecidableEq, Repr

/-- One power feed (R32 to R34). -/
structure Feed where
  /-- Its feed switch is closed (R33). -/
  closed : Bool := false
  /-- The feed is reported lost (R33). -/
  lost : Bool := false
  /-- Mean current over the last 1 ms, 0.1 A (R34). -/
  cur : U16 := 0
  /-- Samples in a row above 175 A, at most 50 (R491). -/
  above : Nat := 0
  /-- The power stage sheds for this feed: above 175 A for 50 ms, and not yet below 160 A (R491). -/
  shedding : Bool := false
  deriving DecidableEq, Repr

/-- The wake state as the last hold-up commit wrote it to non-volatile memory (step 6 of R102). -/
structure SavedWake where
  /-- AON_WAKE_LATCH. -/
  latch : U64 := 0
  /-- AON_WAKE.LAST_SOURCE. -/
  lastSource : BitVec 6 := 0
  /-- AON_WAKE.VALID. -/
  valid : Bool := false
  /-- AON_WAKE.LATE. -/
  late : Bool := false
  /-- AON_WAKE.CONFIRMED. -/
  confirmed : Bool := false
  /-- AON_WAKE_TIME. -/
  time : U64 := 0
  deriving DecidableEq, Repr

/-- Supply, hold-up bank and reset pins (R33 to R102). -/
structure Supply where
  /-- FEED_A. -/
  feedA : Feed := {}
  /-- FEED_B. -/
  feedB : Feed := {}
  /-- Sampled straps (R44). -/
  straps : Straps := {}
  /-- VBUS in mV as last judged (R49). -/
  vbus : U16 := 0
  /-- AON_MODE.CRANK (R50). -/
  crank : Bool := false
  /-- VBUS is in overvoltage, or has been back in the functional range for less than 10 ms (R52). -/
  overvolt : Bool := false
  /-- VBUS has reached the functional range since power-on reset was released (R458). -/
  vbusSeen : Bool := false
  /-- The bank is being charged (R57). -/
  bankCharging : Bool := false
  /-- AON_MODE.BANK_READY (R57). -/
  bankReady : Bool := false
  /-- AON_HOLDUP.BANK_CAP, µF (R58). -/
  bankCap : U16 := 0
  /-- AON_HOLDUP.HOLDUP_LOW (R58). -/
  holdupLow : Bool := false
  /-- AON_HOLDUP.LAST_COMMIT_OK (R104). -/
  lastCommitOk : Bool := false
  /-- The hold-up commit sequence is running (R102). -/
  holdup : Bool := false
  /-- OFF after a hold-up commit, waiting for VBUS (R59). -/
  holdupWait : Bool := false
  /-- The wake state as the last hold-up commit wrote it, non-volatile (step 6 of R102). -/
  savedWake : SavedWake := {}
  /-- A valid pin reset is deferred to the end of the hold-up sequence (R83). -/
  pinDeferred : Bool := false
  /-- Power-on reset is held (R77, R79). -/
  porHeld : Bool := true
  /-- A valid low level of RESET_N is in force (R79, R80). -/
  pinHeld : Bool := false
  /-- The wait for VBUS after power-on reset, before t0 (R77). -/
  vbusWait : Bool := false
  /-- RST_REQ_N is pulsed low (R67). -/
  rstReq : Bool := false
  /-- PARTNER_RST_N is pulsed low (R67). -/
  partnerRst : Bool := false
  /-- The level of PARTNER_FAULT_N behind its filter is low (R577). -/
  partnerLow : Bool := false
  /-- FAULT_N is low (R68). -/
  faultLow : Bool := true
  deriving DecidableEq, Repr

/-- AON_RESET_CAUSE (R104, R105). -/
structure ResetCause where
  /-- Bit 0. -/
  por : Bool := true
  /-- Bit 1. -/
  pin : Bool := false
  /-- Bits 5:2 and 9: the request bit, at most one (R105). -/
  req : Option ReqCause := none
  /-- Bit 6. -/
  startTimeout : Bool := false
  /-- Bit 7. -/
  wake : Bool := false
  /-- Bit 8. -/
  holdup : Bool := false
  deriving DecidableEq, Repr

/-- Mode, start-up and SAFE state of the always-on domain (R72 to R105). -/
structure Aon where
  /-- AON_MODE.MODE, with OFF (R72). -/
  mode : Mode := .off
  /-- AON_MODE.TARGET_MODE (R74). -/
  target : Mode := .run
  /-- AON_MODE.START_GOOD (R86). -/
  startGood : Bool := false
  /-- AON_RESET_CAUSE (R105). -/
  cause : ResetCause := {}
  /-- Request cause awaiting the next pin reset (R251). -/
  nextReq : Option ReqCause := none
  /-- The start in progress timed out; for the next start's START_TIMEOUT (R87, R105). -/
  nextTimeout : Bool := false
  /-- Power-on, seen since the last step 1 (R105). -/
  nextPor : Bool := false
  /-- A pin reset, seen since the last step 1 (R105). -/
  nextPin : Bool := false
  /-- Power-on after a hold-up commit, seen since the last step 1 (R105). -/
  nextHoldup : Bool := false
  /-- AON_START.FAILED_STARTS, non-volatile (R88). -/
  failedStarts : BitVec 4 := 0
  /-- AON_START.TRIAL (R88). -/
  trial : Bool := false
  /-- AON_START.GOOD_TIME, ms (R104). -/
  goodTime : U16 := 0
  /-- Last completed step of the start-up sequence, 0 to 9 (R84). -/
  step : Nat := 0
  /-- TIME_LOCAL at t0 (R84). -/
  t0 : U64 := 0
  /-- Count of starts since manufacture, non-volatile (R605). -/
  startNo : U32 := 0
  /-- The start enters RECOVERY at step 3 (R88). -/
  recoveryAt3 : Bool := false
  /-- The manager has issued the start-good command in this start (R86). -/
  goodIssued : Bool := false
  /-- The Amind boot ROM runs its recovery service (R90). -/
  bootRom : Bool := false
  /-- AON_SAFE.SAFE_CAUSE (R96). -/
  safeCause : Byte := 0
  /-- AON_SAFE.PAIR (R160). -/
  safePair : BitVec 3 := 0
  /-- AON_SAFE.SAFE_HOLD (R98). -/
  safeHold : Bool := false
  /-- TIME_LOCAL of the SAFE entries counted for the sliding hour, newest first: AON_SAFE.SAFE_COUNT is how many lie in it (R98, R104). -/
  safeTimes : List U64 := []
  /-- The SAFE restart delay is running (R98). -/
  safeDelay : Bool := false
  /-- SAFE was entered from RECOVERY (R99). -/
  safeFromRecovery : Bool := false
  /-- A SAFE trigger was taken in COMMITTED and holds until t0 of the next start (R99, R443). -/
  safeInCommitted : Bool := false
  /-- Life-cycle state code, non-volatile: 0 BLANK … 4 RETIRED (R618). -/
  lifecycle : BitVec 3 := 0
  /-- Life-cycle count L, non-volatile (R535, R618). -/
  lifeCount : U32 := 0
  /-- The owner key hash, recorded at the transition out of BLANK (R612, R620). -/
  ownerKey : Option (List Byte) := none
  /-- A life-cycle transition awaits its commit: target code, route number and sequence (R620). -/
  lifePending : Option (BitVec 3 × Nat × U16) := none
  /-- The Amind watchdog is being serviced from step 3 on (R249). -/
  wdogRunning : Bool := false
  deriving DecidableEq, Repr

/-- AON_WAKE_CFG of one wake source (R428, R439). -/
structure WakeCfg where
  /-- ARM. -/
  arm : Bool := false
  /-- TARGET is RUN; otherwise PARTIAL. -/
  toRun : Bool := true
  /-- QUAR (R434). -/
  quar : Bool := false
  /-- TIMEOUT_MS. -/
  timeout : U16 := 1500
  /-- TIME_LOCAL of the false wakes counted for the sliding hour, newest first (R433). -/
  falseTimes : List U64 := []
  /-- A configuration stored while quarantined, in force when the quarantine ends: arm, toRun, timeout (R275). -/
  held : Option (Bool × Bool × U16) := none
  deriving DecidableEq, Repr

/-- Sleep order, wake latch and confirmation window (R417 to R439). -/
structure Sleep where
  /-- AON_SLEEP.PHASE (R420). -/
  phase : BitVec 3 := 0
  /-- AON_SLEEP.ABORTED (R424). -/
  aborted : Bool := false
  /-- AON_SLEEP.SELF (R433). -/
  self : Bool := false
  /-- AON_SLEEP.DRAIN_CUT (R421). -/
  drainCut : Bool := false
  /-- AON_SLEEP.WINDOW (R432). -/
  window : Bool := false
  /-- AON_SLEEP.DRAIN_MS. -/
  drainMs : U16 := 0
  /-- TIME_LOCAL at which DRAINING began (R420). -/
  drainStart : U64 := 0
  /-- Sequence of the newest ledger entry written before DRAINING began (R422). -/
  drainSeq : U64 := 0
  /-- AON_WAKE.LAST_SOURCE (R430). -/
  lastSource : BitVec 6 := 0
  /-- AON_WAKE.VALID. -/
  valid : Bool := false
  /-- AON_WAKE.LATE (R425). -/
  late : Bool := false
  /-- AON_WAKE.CONFIRMED (R432). -/
  confirmed : Bool := false
  /-- AON_WAKE_TIME (R430). -/
  time : U64 := 0
  /-- AON_WAKE_LATCH (R430). -/
  latch : U64 := 0
  /-- A wake is latched since ORDERED began or in SLEEP, for the commit step and the start (R423). -/
  pending : Bool := false
  /-- A false wake waits for START_GOOD to order sleep (R433). -/
  falsePending : Bool := false
  /-- A transition from PARTIAL to RUN follows START_GOOD (R430). -/
  runAfterGood : Bool := false
  /-- The mode from which the open order came (R424). -/
  fromMode : Mode := .run
  /-- Route and sequence of the SLEEP_ORDER that waits for its notice (R274). -/
  order : Option (Nat × U16) := none
  /-- Ports that entered TC10 sleep since ORDERED began, bit p (R424). -/
  portsSlept : U32 := 0
  /-- MASTER ports whose sleep request waits for the link partner's acknowledgement, bit p (R418, R422). -/
  portsAsked : U32 := 0
  /-- Sources latched before SLEEP was entered, whose start is to come (R425, R439). -/
  lateLatch : U64 := 0
  /-- Ports whose PHY the drain limit cut, bit p (R421). -/
  portsCut : U32 := 0
  /-- LIN channels that the ZC40 sent to sleep, bit n (R424). -/
  linSlept : Byte := 0
  /-- The dwell of SLEEP has ended (R425). -/
  dwellDone : Bool := false
  /-- TC10 sleep requests sent: MODEL'S OWN count (R418). -/
  sleepsSent : Nat := 0
  /-- TC10 wake-ups sent: MODEL'S OWN count (R431). -/
  wakesSent : Nat := 0
  /-- AON_WAKE_CFG of the 64 source codes; source 8 is always armed (R428). -/
  cfg : Tab WakeCfg := []
  deriving DecidableEq, Repr

/-- The time base (R110 to R113). -/
structure TimeBase where
  /-- TIME_LOCAL in ns. -/
  localT : U64 := 0
  /-- TIME_GLOBAL in ns. -/
  globalT : U64 := 0
  /-- Fraction of TIME_GLOBAL left by the rate adjustment, in 1/256 000 000 000 of a ns (R110). -/
  frac : Int := 0
  /-- TB_STATUS.GSTATE. -/
  gstate : BitVec 2 := 0
  /-- TB_STATUS.STEP_COUNT. -/
  steps : U16 := 0
  /-- TB_RATE.ADJ, signed. -/
  adj : U32 := 0
  /-- TB_LAST_STEP.SIZE, signed. -/
  lastStep : U64 := 0
  /-- Shadow of the high word of TB_LOCAL, by initiator ID (R113). -/
  shadowL : Tab U32 := []
  /-- Shadow of the high word of TB_GLOBAL, by initiator ID (R113). -/
  shadowG : Tab U32 := []
  deriving DecidableEq, Repr

/-- One timer comparator (R115, R116). -/
structure Comparator where
  /-- TC_CMP.VALUE. -/
  cmp : U64 := 0
  /-- TC_CTRL.ARM. -/
  arm : Bool := false
  /-- TC_CTRL.BASE: TIME_GLOBAL. -/
  base : Bool := false
  /-- TC_CTRL.FIRED. -/
  fired : Bool := false
  /-- TC_CTRL.PERIODIC. -/
  periodic : Bool := false
  /-- TC_CTRL.MISSED. -/
  missed : Byte := 0
  /-- TC_PERIOD.NS. -/
  period : U32 := 0
  deriving DecidableEq, Repr

/-- Who writes a ledger entry (R605). -/
inductive Writer where
  | amind | aon | keyStore
  deriving DecidableEq, Repr

/-- One ledger entry, its check computed on reading (R605). -/
structure LedgerEntry where
  /-- Sequence. -/
  seq : U64 := 0
  /-- TIME_LOCAL at the event. -/
  localT : U64 := 0
  /-- TIME_GLOBAL at the event, or 0. -/
  globalT : U64 := 0
  /-- Start number. -/
  startNo : U32 := 0
  /-- Event code (R606). -/
  event : U16 := 0
  /-- Severity. -/
  severity : Byte := 0
  /-- Writer. -/
  writer : Writer := .amind
  /-- Mode at the event. -/
  mode : Byte := 0
  /-- Data bytes, packed. -/
  data : List Byte := []
  /-- The check that stands in the partition beside it (R605, R608). -/
  check : U32 := 0
  deriving DecidableEq, Repr

/-- Ledger, retained buffer and readers (R101, R605 to R610). -/
structure Ledger where
  /-- The retained ledger buffer, oldest first (R101). -/
  buffer : List LedgerEntry := []
  /-- Committed entries that the partition retains, oldest first (R608). -/
  stored : List LedgerEntry := []
  /-- The last sequence assigned, non-volatile (R605). -/
  lastSeq : U64 := 0
  /-- Amind entries written in the current TIME_LOCAL second, by event code (R607). -/
  rate : Tab Nat := []
  /-- Entries dropped, by event code, awaiting LEDGER_DROPPED by Amind (R607). -/
  dropped : Tab U32 := []
  /-- Always-on entries dropped at a full buffer, by event code (R607). -/
  aonDropped : Tab U32 := []
  deriving DecidableEq, Repr

/-- A ledger reader (R609, R610). -/
structure Reader where
  /-- Class mask. -/
  mask : U32 := 0
  /-- Next sequence to return. -/
  next : U64 := 0
  /-- Entries were overwritten before the reader reached them. -/
  gap : Bool := false
  /-- The session that created the reader, by route number (R610). -/
  session : Option Nat := none
  deriving DecidableEq, Repr

/-- The sensors that one sample reads beside the feed currents (R603). -/
structure Sensors where
  /-- The six junction sensors: K0, K1, switch core, key store, Amind, power stage die; 0.1 °C, signed. -/
  junctions : List U16 := []
  /-- The two baseplate sensors, 0.1 °C, signed. -/
  plates : List U16 := []
  /-- VBUS, mV. -/
  vbus : U16 := 0
  /-- VCORE, mV. -/
  vcore : U16 := 0
  /-- VISL, mV. -/
  visl : U16 := 0
  /-- VKEY, mV. -/
  vkey : U16 := 0
  /-- VAON, mV. -/
  vaon : U16 := 0
  /-- Module dissipation, 0.1 W. -/
  dissipation : U16 := 0
  deriving DecidableEq, Repr

/-- The highest of signed temperatures. -/
def hottest (l : List U16) : U16 := l.foldl (fun a t => if a.toInt < t.toInt then t else a) (l.headD 0)

/-- The highest junction temperature (R603). -/
def Sensors.junction (h : Sensors) : U16 := hottest h.junctions

/-- The baseplate temperature: the higher of the two sensors (R603). -/
def Sensors.baseplate (h : Sensors) : U16 := hottest h.plates

/-- Sensor samples and health conditions (R603, R604). -/
structure Health extends Sensors where
  /-- The module current of the last samples, 0.1 A, newest first, at most 100: the sums of the two feed currents (R34, R489). -/
  amps : List Nat := []
  /-- The module dissipation of the last samples, 0.1 W, newest first, at most 1000 (R489). -/
  watts : List Nat := []
  /-- Source 4: junction high. -/
  src4 : Bool := false
  /-- Source 5: baseplate high. -/
  src5 : Bool := false
  /-- Source 8: budget exceeded. -/
  src8 : Bool := false
  /-- Source 9: rail out of window. -/
  src9 : Bool := false
  /-- Samples in a row with both means within their limits. -/
  within8 : Nat := 0
  /-- Samples in a row with every rail inside its window. -/
  within9 : Nat := 0
  deriving DecidableEq, Repr

/-- State of a firmware or configuration slot (R614). -/
inductive SlotState where
  | empty | valid | pending | active | failed
  deriving DecidableEq, Repr

/-- One image slot: its state and what authentication finds in it (R611 to R615). -/
structure Slot where
  /-- Slot state. -/
  st : SlotState := .empty
  /-- Both signatures verify, the signer is right and issue B2 is declared. -/
  authentic : Bool := false
  /-- Security version (R613). -/
  secver : U32 := 0
  /-- Image version. -/
  version : U32 := 0
  /-- The signer field of the image: a hash of the signer's two public keys (R611). -/
  signer : List Byte := []
  /-- The owner's ECDSA P-384 public point that a stored configuration carries (R612). -/
  ownerEc : List Byte := []
  /-- The owner's ML-DSA-65 public key that a stored configuration carries (R612). -/
  ownerPq : List Byte := []
  deriving DecidableEq, Repr

/-- The slots of one update target (R614, R615). -/
structure Target where
  /-- Slot A. -/
  slotA : Slot := {}
  /-- Slot B. -/
  slotB : Slot := {}
  /-- The trial flag (R615). -/
  trial : Bool := false
  /-- Minimum security version (R613). -/
  minSec : U32 := 0
  /-- The slot loaded by this start: false A, true B. -/
  loaded : Option Bool := none
  /-- This start loaded its image as the trial. -/
  onTrial : Bool := false
  deriving DecidableEq, Repr

/-- A staged update (R281). -/
structure Staging where
  /-- Route number of its issuer. -/
  route : Nat := 0
  /-- Update target. -/
  target : Nat := 0
  /-- Declared size in bytes. -/
  size : Nat := 0
  /-- Bytes received so far. -/
  got : Nat := 0
  /-- The bytes received, in order. -/
  bytes : List Byte := []
  /-- UPDATE_COMMIT is in progress with this restart flag and sequence. -/
  commit : Option (Bool × U16) := none
  deriving DecidableEq, Repr

end Sys2Proof.Machine
end

