-- ==== Sys2Proof/Machine/CanTypes.lean ====
section
/-! DEFINITION. State types of the CAN channels, the frame gateway and the LIN channels. The default of a field is its
reset value. -/

namespace Sys2Proof.Machine

/-- A CAN frame on a bus (R369). -/
structure CanFrame where
  /-- Identifier; standard and XL priority identifiers in [10:0]. -/
  id : BitVec 29 := 0
  /-- Extended identifier. -/
  ide : Bool := false
  /-- FD format. -/
  fdf : Bool := false
  /-- XL format. -/
  xlf : Bool := false
  /-- Remote frame. -/
  rtr : Bool := false
  /-- Bit rate switched. -/
  brs : Bool := false
  /-- Sender error-passive. -/
  esi : Bool := false
  /-- SDT. -/
  sdt : Byte := 0
  /-- SEC. -/
  sec : Bool := false
  /-- VCID. -/
  vcid : Byte := 0
  /-- Acceptance field. -/
  af : U32 := 0
  /-- DLC as the frame carries it (R382). -/
  dlc : Nat := 0
  /-- Data bytes. -/
  data : List Byte := []
  deriving DecidableEq, Repr

/-- One message object (R381). -/
structure CanObj where
  /-- OBJ_CFG[9:0]: EN, DIR, IDE, FDF, BRS, XLF, RTR, ONESHOT, OVERWRITE, IRQ_EN. -/
  cfg : BitVec 10 := 0
  /-- OBJ_ID. -/
  id : BitVec 29 := 0
  /-- OBJ_MASK. -/
  mask : BitVec 29 := 0
  /-- OBJ_XL.SDT. -/
  sdt : Byte := 0
  /-- OBJ_XL.SEC. -/
  sec : Bool := false
  /-- OBJ_XL.VCID. -/
  vcid : Byte := 0
  /-- OBJ_AF. -/
  af : U32 := 0
  /-- OBJ_LEN. -/
  len : BitVec 12 := 0
  /-- OBJ_CTRL.UPD. -/
  upd : Bool := false
  /-- OBJ_CTRL.TX_PEND. -/
  pend : Bool := false
  /-- OBJ_CTRL.TX_DONE, which MAP_TXDONE repeats (R397). -/
  done : Bool := false
  /-- OBJ_CTRL.TX_STATUS. -/
  status : U16 := 0
  /-- TX_ABORT met the frame on the bus: no retransmission (R383). -/
  aborting : Bool := false
  /-- OBJ_CTRL.NEW, which MAP_NEW repeats. -/
  new : Bool := false
  /-- OBJ_RX_END.LOST. -/
  lost : Bool := false
  /-- OBJ_RX_END.FRAMES. -/
  frames : Byte := 0
  /-- OBJ_RX_ID: identifier, IDE, RTR. -/
  rxId : BitVec 31 := 0
  /-- OBJ_RX_FMT. -/
  rxFmt : BitVec 25 := 0
  /-- OBJ_RX_VCID. -/
  rxVcid : Byte := 0
  /-- OBJ_RX_AF. -/
  rxAf : U32 := 0
  /-- Data bytes that are not 0, by number; a long object's segment (R381). -/
  data : Tab Byte := []
  /-- The read lock is held (R385). -/
  lock : Bool := false
  /-- The schedule matrix's request is deferred in the column in force (R392). -/
  deferred : Bool := false
  deriving DecidableEq, Repr

/-- OBJ_CFG.EN. -/
def CanObj.en (o : CanObj) : Bool := o.cfg.getLsbD 0
/-- OBJ_CFG.DIR: send. -/
def CanObj.dir (o : CanObj) : Bool := o.cfg.getLsbD 1
/-- OBJ_CFG.IDE. -/
def CanObj.ide (o : CanObj) : Bool := o.cfg.getLsbD 2
/-- OBJ_CFG.FDF. -/
def CanObj.fdf (o : CanObj) : Bool := o.cfg.getLsbD 3
/-- OBJ_CFG.BRS. -/
def CanObj.brs (o : CanObj) : Bool := o.cfg.getLsbD 4
/-- OBJ_CFG.XLF. -/
def CanObj.xlf (o : CanObj) : Bool := o.cfg.getLsbD 5
/-- OBJ_CFG.RTR. -/
def CanObj.rtr (o : CanObj) : Bool := o.cfg.getLsbD 6
/-- OBJ_CFG.ONESHOT. -/
def CanObj.oneshot (o : CanObj) : Bool := o.cfg.getLsbD 7
/-- OBJ_CFG.OVERWRITE. -/
def CanObj.overwrite (o : CanObj) : Bool := o.cfg.getLsbD 8
/-- OBJ_CFG.IRQ_EN. -/
def CanObj.irq (o : CanObj) : Bool := o.cfg.getLsbD 9

/-- A live object set; its table key is channel × 128 + first object, its handle index (R388, R394). -/
structure CanSet where
  /-- Objects. -/
  count : Nat := 0
  /-- Priority objects. -/
  prio : Nat := 0
  /-- Owner instance. -/
  owner : Nat := 0
  /-- Neither selection nor storage takes the set: an instance reset or a function disable (R394). -/
  stopped : Bool := false
  deriving DecidableEq, Repr

/-- CAN_STATUS.STATE (R393). -/
inductive CanState where
  | stopped | active | passive | busOffWait | recovering
  deriving DecidableEq, Repr

/-- The configuration of a channel (R376, R396). -/
structure CanCfg where
  /-- CAN_CFG.EN. -/
  en : Bool := false
  /-- CAN_CFG.CC. -/
  cc : Bool := false
  /-- CAN_CFG.FD. -/
  fd : Bool := false
  /-- CAN_CFG.XL. -/
  xl : Bool := false
  /-- CAN_CFG.MODE: 0 normal, 1 listen-only, 2 ZC20 compatibility. -/
  mode : BitVec 2 := 0
  /-- CAN_NBT. -/
  nbt : U32 := 0
  /-- CAN_DBT. -/
  dbt : U32 := 0
  /-- CAN_XBT. -/
  xbt : U32 := 0
  deriving DecidableEq, Repr

/-- The selective-wake filter (R373). -/
structure CanWake where
  /-- CAN_WAKE_ID.ID. -/
  id : BitVec 29 := 0
  /-- CAN_WAKE_ID.IDE. -/
  ide : Bool := false
  /-- CAN_WAKE_MASK. -/
  mask : BitVec 29 := 0
  /-- CAN_WAKE_DLC.DLC. -/
  dlc : BitVec 4 := 0
  /-- CAN_WAKE_DATA. -/
  data : U64 := 0
  deriving DecidableEq, Repr

/-- The counters of a channel (R396). -/
structure CanCnt where
  /-- CAN_RX_FRAMES. -/
  rx : U64 := 0
  /-- CAN_TX_FRAMES. -/
  tx : U64 := 0
  /-- CAN_RX_UNMATCHED. -/
  unmatched : U64 := 0
  /-- CAN_RX_LOST. -/
  lost : U64 := 0
  /-- CAN_ERR_FRAMES. -/
  err : U64 := 0
  /-- CAN_PEX_COUNT. -/
  pex : U64 := 0
  /-- CAN_BUSOFF_COUNT. -/
  busOff : U64 := 0
  deriving DecidableEq, Repr

/-- A schedule matrix (R390). -/
structure Matrix where
  /-- Owner instance. -/
  owner : Nat := 0
  /-- S′. -/
  start : U64 := 0
  /-- Column period, µs. -/
  period : U32 := 0
  /-- Columns. -/
  cols : Nat := 0
  /-- Rows. -/
  rows : Nat := 0
  /-- Cells, row by row. -/
  cells : List Byte := []
  /-- The first column to run. -/
  first : Nat := 0
  deriving DecidableEq, Repr

/-- The schedule page of C0 or C1 (R390 to R392, R396). -/
structure Sched where
  /-- SCH_STATUS.RUN with the matrix in force. -/
  run : Option Matrix := none
  /-- SCH_STATUS.PENDING with the pending matrix. -/
  pend : Option Matrix := none
  /-- SCH_STATUS.COLUMN. -/
  column : Nat := 0
  /-- A column of the matrix in force has begun. -/
  begun : Bool := false
  /-- SCH_CHANGE_TIME. -/
  change : U64 := 0
  /-- SCH_OVERRUN. -/
  overrun : U32 := 0
  /-- SCH_LATE. -/
  late : U32 := 0
  /-- SCH_SKIP. -/
  skip : U32 := 0
  deriving DecidableEq, Repr

/-- The state of a channel's transceiver (R372). -/
inductive CanPhy where
  | unpowered | off | standby | selectiveWake | receiveOnly | normal | sic | fast
  deriving DecidableEq, Repr

/-- One CAN channel (R368 to R397). -/
structure CanCh where
  /-- Configuration. -/
  cfg : CanCfg := {}
  /-- CAN_CFG.LOCK_TIMEOUT. -/
  lockTimeout : U16 := 50
  /-- A configuration that waits for the end of the frame in progress (R393). -/
  next : Option CanCfg := none
  /-- CAN_STATUS.STATE. -/
  st : CanState := .stopped
  /-- CAN_STATUS.RECOV_COUNT. -/
  recov : Byte := 0
  /-- CAN_STATUS.TX_BUSY: the object number on the bus, 128 for the gateway's head, 129 for a frame whose request has ended (R394). -/
  tx : Option Nat := none
  /-- The frame that the channel last began to send: MODEL'S OWN view of the bus (R369, R382). -/
  sent : CanFrame := {}
  /-- CAN_STATUS.RX_BUSY. -/
  rxBusy : Bool := false
  /-- CAN_STATUS.LEC. -/
  lec : BitVec 3 := 0
  /-- CAN_ERR_CNT.TEC. -/
  tec : BitVec 9 := 0
  /-- CAN_ERR_CNT.REC. -/
  rec_ : Byte := 0
  /-- The channel awaits 11 recessive bits: bus integration (R370, R393). -/
  integrating : Bool := false
  /-- Wake filter. -/
  wake : CanWake := {}
  /-- CAN_WAKE_DLC.ARMED. -/
  armed : Bool := false
  /-- The wake filter in force since the channel was last armed (R267). -/
  wakeOn : CanWake := {}
  /-- A frame has been stored in an object since the start: a confirmation of a wake (R432). -/
  stored : Bool := false
  /-- The frame error counter of the transceiver in selective-wake standby (R373). -/
  frameErr : Nat := 0
  /-- Counters. -/
  cnt : CanCnt := {}
  /-- CAN_EVENT. -/
  event : BitVec 6 := 0
  /-- CAN_EVENT_EN.MASK. -/
  eventEn : BitVec 6 := 0
  /-- Message objects. -/
  objs : Tab CanObj := []
  /-- Schedule page. -/
  sched : Sched := {}
  deriving DecidableEq, Repr

/-- One gateway rule and its counts (R400, R411). -/
structure GwRule where
  /-- Source kind: 0 free, 1 CAN, 2 LIN, 3 ACF. -/
  kind : Byte := 0
  /-- Source number. -/
  num : Byte := 0
  /-- Format mask. -/
  fmtMask : Byte := 0
  /-- Format value. -/
  fmtVal : Byte := 0
  /-- ID. -/
  id : U32 := 0
  /-- ID mask. -/
  idMask : U32 := 0
  /-- Stream ID. -/
  stream : U64 := 0
  /-- Action: 0 none, 1 CAN, 2 LIN, 3 ACF. -/
  action : Byte := 0
  /-- Destination. -/
  dest : Byte := 0
  /-- Out flags. -/
  flags : Byte := 0
  /-- Class. -/
  cls : Byte := 0
  /-- New ID. -/
  newId : U32 := 0
  /-- VLAN ID. -/
  vlan : U16 := 0
  /-- Destination MAC, first byte first. -/
  dmac : List Byte := [0, 0, 0, 0, 0, 0]
  /-- Batch count. -/
  batch : Byte := 0
  /-- Batch hold, µs. -/
  hold : U16 := 0
  /-- Set by SEC (R402). -/
  secure : Bool := false
  /-- A rule of the stored configuration (R403). -/
  stored : Bool := false
  /-- GW_RULE_MATCHED. -/
  matched : U64 := 0
  /-- GW_RULE_FORWARDED. -/
  forwarded : U64 := 0
  /-- GW_RULE_DROPPED. -/
  dropped : U64 := 0
  /-- Next NTSCF sequence number (R406). -/
  seq : Byte := 0
  /-- ACF messages collected (R407). -/
  batchMsgs : List (List Byte) := []
  deriving DecidableEq, Repr

/-- An entry of a CAN transmit queue of the gateway (R409). -/
structure GwEntry where
  /-- The frame. -/
  frame : CanFrame := {}
  /-- TIME_LOCAL at which it was queued. -/
  time : U64 := 0
  /-- Its number in the order of arrival. -/
  id : Nat := 0
  deriving DecidableEq, Repr

/-- The frame gateway (R398 to R412). -/
structure Gateway where
  /-- GW_CFG.EN. -/
  en : Bool := false
  /-- GW_CFG.AGE_MS. -/
  ageMs : Byte := 10
  /-- GW_TAP_FRAMES. -/
  tap : U64 := 0
  /-- GW_UNMATCHED. -/
  unmatched : U64 := 0
  /-- GW_ETH_UNPARSED. -/
  unparsed : U64 := 0
  /-- GW_QUEUE_DROP. -/
  queueDrop : U64 := 0
  /-- GW_AGE_DROP. -/
  ageDrop : U64 := 0
  /-- GW_CONVERT_DROP. -/
  convertDrop : U64 := 0
  /-- GW_ADMIT_DROP. -/
  admitDrop : U64 := 0
  /-- GW_EVENT. -/
  event : BitVec 4 := 0
  /-- GW_EVENT_EN.MASK. -/
  eventEn : BitVec 4 := 0
  /-- Rules by number. -/
  rules : Tab GwRule := []
  /-- CAN transmit queues by channel, head first. -/
  queues : Tab (List GwEntry) := []
  /-- The number of the next queue entry. -/
  nextId : Nat := 0
  /-- The entry that a channel has on its bus, by channel. -/
  onBus : Tab Nat := []
  /-- Frames that the switch has forwarded to port GW and that the gateway has yet to parse, by frame number (R398). -/
  inbox : Tab (List Byte) := []
  deriving DecidableEq, Repr

/-- One LIN frame buffer (R413, R414). -/
structure LinBuf where
  /-- LIN_FRM_CFG[8:0]: DIR, LEN, ENH, SRC, IRQ_EN. -/
  cfg : BitVec 9 := 0
  /-- LIN_FRM_STAT.SEQ. -/
  seq : U16 := 0
  /-- LIN_FRM_STAT.UPDATED. -/
  updated : Bool := false
  /-- LIN_FRM_STAT.ERR. -/
  err : BitVec 3 := 0
  /-- LIN_FRM_DATA_LO. -/
  lo : U32 := 0
  /-- LIN_FRM_DATA_HI. -/
  hi : U32 := 0
  deriving DecidableEq, Repr

/-- LIN_FRM_CFG.DIR. -/
def LinBuf.dir (b : LinBuf) : Nat := (b.cfg.extractLsb' 0 2).toNat
/-- LIN_FRM_CFG.LEN. -/
def LinBuf.len (b : LinBuf) : Nat := (b.cfg.extractLsb' 2 4).toNat
/-- LIN_FRM_CFG.ENH. -/
def LinBuf.enh (b : LinBuf) : Bool := b.cfg.getLsbD 6
/-- LIN_FRM_CFG.SRC. -/
def LinBuf.src (b : LinBuf) : Bool := b.cfg.getLsbD 7
/-- LIN_FRM_CFG.IRQ_EN. -/
def LinBuf.irq (b : LinBuf) : Bool := b.cfg.getLsbD 8

/-- One entry of a LIN schedule table (R267, R415). -/
structure LinEntry where
  /-- Frame ID. -/
  id : Nat := 0
  /-- 0 unconditional, 1 event-triggered, 2 sporadic, 3 diagnostic. -/
  typ : Nat := 0
  /-- Slot, ms. -/
  slot : Nat := 0
  deriving DecidableEq, Repr

/-- LIN_STATUS.STATE. -/
inductive LinState where
  | stopped | active | busSleep | waking
  deriving DecidableEq, Repr

/-- One LIN channel (R413 to R416). -/
structure LinCh where
  /-- LIN_CFG.EN. -/
  en : Bool := false
  /-- LIN_CFG.ROLE: responder. -/
  responder : Bool := false
  /-- LIN_CFG.CRT. -/
  crt : BitVec 2 := 0
  /-- LIN_CTRL.SCHED_SEL. -/
  sel : BitVec 2 := 0
  /-- LIN_CTRL.SCHED_RUN. -/
  run : Bool := false
  /-- GOTO_SLEEP waits for the next slot (R415). -/
  goSleep : Bool := false
  /-- LIN_STATUS.STATE. -/
  st : LinState := .stopped
  /-- LIN_STATUS.TABLE. -/
  table : BitVec 2 := 0
  /-- LIN_STATUS.ENTRY. -/
  entry : Nat := 0
  /-- A slot of the schedule has begun. -/
  begun : Bool := false
  /-- SCHED_SEL or the running table changed: entry 0 at the end of the slot (R415). -/
  switch : Bool := false
  /-- Collision resolution is running; the table and entry at which the schedule resumes (R415). -/
  resume : Option (BitVec 2 × Nat) := none
  /-- The next slot runs entry 0 of the table in force (R415). -/
  jump : Bool := false
  /-- Frame ID whose header is on the bus, and its entry type. -/
  header : Option (Nat × Nat) := none
  /-- LIN_EVENT. -/
  event : BitVec 4 := 0
  /-- LIN_EVENT_EN.MASK. -/
  eventEn : BitVec 4 := 0
  /-- LIN_ERR_CNT.CHECKSUM. -/
  checksum : U16 := 0
  /-- LIN_ERR_CNT.NO_RESP. -/
  noResp : U16 := 0
  /-- Bit rate from LIN_CREATE or the stored configuration, bit/s. -/
  rate : Nat := 0
  /-- Frame buffers by ID. -/
  bufs : Tab LinBuf := []
  /-- Schedule tables 0 to 3. -/
  tables : Tab (List LinEntry) := []
  /-- A new content of the running table, in force at the end of the slot. -/
  nextTable : Option (List LinEntry) := none
  /-- The channel is stopped by an instance reset or a function disable (R416). -/
  halted : Bool := false
  /-- Wake-up pulses sent: MODEL'S OWN view of the bus (R413). -/
  pulses : Nat := 0
  /-- The response last sent, its data bytes and its checksum: MODEL'S OWN view of the bus (R413). -/
  sent : List Byte := []
  deriving DecidableEq, Repr

/-- What the internal 1 kΩ pull-up of a LIN pin is connected to (R40). -/
inductive LinPull where
  | off | vbus | internal12
  deriving DecidableEq, Repr

/-- CAN channels, gateway and LIN channels. -/
structure Bus where
  /-- CAN channels C0 to C15. -/
  can : Tab CanCh := []
  /-- Live object sets by channel × 128 + first object. -/
  sets : Tab CanSet := []
  /-- The frame gateway. -/
  gw : Gateway := {}
  /-- LIN channels LN0 to LN7. -/
  lin : Tab LinCh := []
  deriving DecidableEq, Repr

end Sys2Proof.Machine
end

