-- ==== Sys2Proof/Machine/LoadTypes.lean ====
section
/-! DEFINITION. State types of the power stage (load channels and their protection) and of the input unit. The default of
a field is its reset value; the fields that depend on the channel class take theirs from LoadCh.initial. -/

namespace Sys2Proof.Machine

/-- Channel classes (R440). -/
inductive LoadClass where
  | h | m | l | a
  deriving DecidableEq, Repr

/-- The class of a channel code (R440). -/
def loadClass (c : Nat) : LoadClass :=
  if c < 12 then .h else if c < 28 then .m else if c < 52 then .l else .a

/-- The code that PS_CH_CFG.CLASS shows. -/
def LoadClass.code : LoadClass → Nat
  | .h => 0
  | .m => 1
  | .l => 2
  | .a => 3

/-- The source of the command in force: PS_CH_CMD.SOURCE. -/
inductive CmdSource where
  | powerOn | limp | start | owner | policy | holdEnd | safe
  deriving DecidableEq, Repr

/-- The code that PS_CH_CMD.SOURCE shows. -/
def CmdSource.code : CmdSource → Nat
  | .powerOn => 0
  | .limp => 1
  | .start => 2
  | .owner => 3
  | .policy => 4
  | .holdEnd => 5
  | .safe => 6

/-- What the output FET does: R481 states 0 to 2; every other state is an off state that a recorded condition shows. -/
inductive Drive where
  | off | soft | on
  deriving DecidableEq, Repr

/-- A command: on, and duty in 0.1 %. -/
structure LoadCmd where
  /-- On. -/
  on : Bool := false
  /-- Duty. -/
  duty : Nat := 0
  deriving DecidableEq, Repr

/-- The configuration of a channel (R466, R492). -/
structure LoadCfg where
  /-- PS_CH_CFG.POLICY: 0 HOLD, 1 SAFE, 2 OFF. -/
  policy : Nat := 2
  /-- PS_CH_CFG.SAFE_VAL. -/
  safeVal : Bool := false
  /-- PS_CH_CFG.LIMP. -/
  limp : Bool := false
  /-- PS_CH_CFG.OL_EN. -/
  olEn : Bool := false
  /-- PS_CH_CFG.DUAL. -/
  dual : Bool := false
  /-- PS_CH_CFG.PARTIAL_KEEP. -/
  keepPartial : Bool := false
  /-- PS_CH_CFG.SLEEP_KEEP. -/
  keepSleep : Bool := false
  /-- PS_CH_CFG.START. -/
  start : Nat := 0
  /-- PS_CH_CFG.HOLD_MS. -/
  holdMs : Nat := 1
  /-- PS_CH_PWM.FREQ_HZ. -/
  freq : Nat := 0
  /-- A frequency that takes effect at the next switch-on (R449). -/
  nextFreq : Option Nat := none
  /-- PS_CH_PWM.SOFT_MS. -/
  soft : Nat := 0
  /-- PS_CH_PROT.RETRY_LIMIT. -/
  limit : Nat := 8
  /-- PS_CH_PROT.THERM_MODE: latch. -/
  thermLatch : Bool := false
  /-- PS_CH_PROT.SHED_RANK. -/
  rank : Nat := 7
  /-- PS_CH_THERM.LIMIT, °C. -/
  thLimit : Nat := 170
  /-- PS_CH_WIRE_CFG.XSEC, 0.01 mm². -/
  xsec : Nat := 13
  /-- PS_CH_WIRE_CFG.TAU_S. -/
  tau : Nat := 1
  /-- PS_CH_WIRE_LIM.LIMIT, °C. -/
  tlim : Nat := 105
  /-- The channel is budgeted (R487). -/
  budgeted : Bool := false
  deriving DecidableEq, Repr

/-- The protection record of a channel (R468 to R484, R492). -/
structure LoadProt where
  /-- LATCH_OC. -/
  oc : Bool := false
  /-- LATCH_TH. -/
  th : Bool := false
  /-- LATCH_WIRE. -/
  wire : Bool := false
  /-- WIRE_WARN. -/
  warn : Bool := false
  /-- RETRY_COUNT. -/
  count : Nat := 0
  /-- A retry pause runs (R473). -/
  pausing : Bool := false
  /-- TIME_LOCAL at which the pause ends. -/
  pauseEnd : U64 := 0
  /-- The last thermal trip was in hysteresis mode and its restart threshold is not reached (R479). -/
  cooling : Bool := false
  /-- The wire latch has been set since the channel was last on (R479). -/
  wireHot : Bool := false
  /-- The last over-current trip: its TIME_LOCAL, and the retry count and the pause before it (R483). -/
  ocAt : Option (U64 × Nat × Bool) := none
  /-- The latches set last, as bits of R271, and their TIME_LOCAL (R483). -/
  setAt : Option (U64 × Nat) := none
  /-- PS_CH_THERM.TRIPS. -/
  thTrips : U16 := 0
  /-- PS_CH_TRIPS.OC. -/
  ocTrips : U16 := 0
  /-- PS_CH_TRIPS.WIRE. -/
  wireTrips : U16 := 0
  /-- ΔT of the wire model, in 10⁻¹² K (R476). -/
  rise : Nat := 0
  /-- Modelled wire temperature as last evaluated, in 10⁻¹² °C. -/
  wireTemp : Int := 0
  /-- PS_CH_TEMP.FET, 0.1 °C. -/
  fet : Int := 0
  /-- The channel is shed (R489, R491). -/
  shed : Bool := false
  /-- The inrush window is open (R471). -/
  inrush : Bool := false
  deriving DecidableEq, Repr

/-- The diagnostics of a channel (R451 to R454, R463, R464). -/
structure LoadDiag where
  /-- OL_OFF. -/
  olOff : Bool := false
  /-- STB_OFF. -/
  stbOff : Bool := false
  /-- UNDERCUR. -/
  underCur : Bool := false
  /-- REV_BLOCK. -/
  revBlock : Bool := false
  /-- PARTNER_FED. -/
  partnerFed : Bool := false
  /-- An off-state test runs with its pull-up connected. -/
  testing : Bool := false
  /-- Consecutive failures of the open-load test. -/
  olFails : Nat := 0
  /-- Consecutive passes of the open-load test. -/
  olPasses : Nat := 0
  /-- Consecutive failures of the short-to-supply test. -/
  stbFails : Nat := 0
  /-- Consecutive passes of the short-to-supply test. -/
  stbPasses : Nat := 0
  /-- PS_CH_CUR.MEAN, 10 mA. -/
  mean : U16 := 0
  /-- PS_CH_CUR.ON_CUR, 10 mA. -/
  onCur : U16 := 0
  deriving DecidableEq, Repr

/-- One load channel (R440 to R493). -/
structure LoadCh where
  /-- Configuration. -/
  cfg : LoadCfg := {}
  /-- Protection. -/
  prot : LoadProt := {}
  /-- Diagnostics. -/
  diag : LoadDiag := {}
  /-- Output. -/
  drive : Drive := .off
  /-- HELD with the held state (R455). -/
  held : Option LoadCmd := none
  /-- TIME_LOCAL at which the hold window ends. -/
  holdEnd : U64 := 0
  /-- The state last applied by the power stage: row 7 of R443. -/
  base : LoadCmd := {}
  /-- Its source. -/
  baseSrc : CmdSource := .powerOn
  /-- The owner has written a command: row 6 of R443. -/
  owned : Bool := false
  /-- LOAD_OUT of the owner's image. -/
  out : LoadCmd := {}
  /-- TIME_LOCAL of the last switch-on (R450). -/
  since : U64 := 0
  /-- The DUTY under which the PWM runs until `dutyFrom` (R449). -/
  dutyOld : Nat := 0
  /-- TIME_LOCAL of the period start at which the commanded DUTY takes effect (R449). -/
  dutyFrom : U64 := 0
  /-- A channel record has arrived (R487). -/
  recorded : Bool := false
  deriving DecidableEq, Repr

/-- A channel as power-on leaves it with no stored configuration: the class defaults (R458, R472, R477, R489). -/
def LoadCh.initial (c : Nat) : LoadCh :=
  match loadClass c with
  | .h => { cfg := { rank := 4, thermLatch := true, thLimit := 150, xsec := 400, tau := 60, tlim := 125 } }
  | .m => { cfg := { xsec := 150, tau := 30, tlim := 125 } }
  | .l => { cfg := { xsec := 50, tau := 15, tlim := 105 } }
  | .a => { cfg := { xsec := 35, tau := 10, tlim := 105 } }

/-- A live load channel group, by its index (R442). -/
structure LoadGroup where
  /-- Channels. -/
  mask : U64 := 0
  /-- LOAD_CHG of its channels (R448). -/
  chg : U64 := 0
  /-- An MSI was sent in the current 1 ms interval (R448). -/
  sent : Bool := false
  /-- A change waits for the end of the interval. -/
  waiting : Bool := false
  /-- An instance reset or a function disable makes writes ineffective (R447). -/
  muted : Bool := false
  /-- Owner instance. -/
  owner : Nat := 0
  /-- Secure attribute. -/
  sec : Bool := false
  deriving DecidableEq, Repr

/-- The power stage controller (R440 to R493). -/
structure PowerStage where
  /-- Channels by code. -/
  chans : Tab LoadCh := []
  /-- Live groups by index. -/
  groups : Tab LoadGroup := []
  /-- LOAD_IGNORED by page. -/
  ignored : Tab U32 := []
  /-- PS_STATUS.CONFIG_DELIVERED. -/
  delivered : Bool := false
  /-- PS_STATUS.LIMP_ACTIVE. -/
  limpActive : Bool := false
  /-- The 150 ms of R458 have passed since power-on reset was released. -/
  limpTime : Bool := false
  /-- PS_STATUS.SAFE_VALUES: row 2 of R443 applies. -/
  safeValues : Bool := false
  /-- PS_EVENT. -/
  event : BitVec 5 := 0
  /-- PS_EVENT_EN.MASK. -/
  eventEn : BitVec 5 := 0
  /-- PS_WIRE_AMB.TEMP, °C. -/
  wireAmb : Int := 85
  /-- The baseplate temperature as last measured, 0.1 °C, signed (R476, R603). -/
  base : U16 := 0
  /-- PS_BUDGET.LIMIT, 0.1 A. -/
  budget : Nat := 2500
  /-- Channels shed and not yet restored, newest first, each with the cause of its shedding: 0 feed loss, 1 current, 2 dissipation, 3 power
  stage (R490). -/
  shedOrder : List (Nat × Nat) := []
  /-- The claims have been computed since power-on (R487, R493). -/
  claimsSet : Bool := false
  /-- Non-volatile defaults of the channels that a stored configuration has set (R458). -/
  nv : Tab LoadCfg := []
  /-- Non-volatile default of PS_WIRE_AMB.TEMP, °C (R493). -/
  nvAmb : Int := 85
  /-- MODEL'S OWN: switch-ons of dual-feed channels, which number the free values of log entry 99. -/
  starts : Nat := 0
  deriving DecidableEq, Repr

/-- One switch input (R495, R496). -/
structure DIn where
  /-- Wetting current code. -/
  wet : Byte := 0
  /-- Debounce time, ms. -/
  debounce : Nat := 10
  /-- Edges: bit 0 rising, bit 1 falling. -/
  edges : BitVec 2 := 0
  /-- Wetting current code in force since the last sample (R496). -/
  wetOn : Byte := 0
  /-- Debounced level. -/
  level : Bool := false
  /-- Last raw sample. -/
  raw : Bool := false
  /-- Equal samples of the run in progress; 0 before the next one begins a run (R495, R496). -/
  run : Nat := 0
  /-- TIME_LOCAL of the first sample of the run (R495). -/
  runAt : U64 := 0
  deriving DecidableEq, Repr

/-- One analog input (R497). -/
structure VIn where
  /-- Range. -/
  range : BitVec 2 := 0
  /-- Bias. -/
  bias : Bool := false
  /-- Averaging window, ms. -/
  window : Nat := 1
  /-- Edges: bit 0 ABOVE set, bit 1 ABOVE cleared. -/
  edges : BitVec 2 := 0
  /-- Value, mV. -/
  value : U16 := 0
  /-- The last samples, newest first, mV (R497). -/
  samples : List Nat := []
  deriving DecidableEq, Repr

/-- A live input group, by its index (R503 to R506). -/
structure InGroup where
  /-- D inputs. -/
  dmask : U64 := 0
  /-- V inputs. -/
  vmask : BitVec 24 := 0
  /-- IN_EVT.D. -/
  evtD : U64 := 0
  /-- IN_OVR.D. -/
  ovrD : U64 := 0
  /-- IN_EVT.V. -/
  evtV : BitVec 24 := 0
  /-- IN_V.ABOVE of the V inputs. -/
  above : BitVec 24 := 0
  /-- IN_V_THR.HIGH of the V inputs. -/
  high : Tab U16 := []
  /-- IN_V_THR.LOW of the V inputs. -/
  low : Tab U16 := []
  /-- IN_EDGE_TIME of the D inputs. -/
  edgeTime : Tab U64 := []
  /-- The cycle in which D inputs last had their event bits set, and these bits (R505). -/
  evtAt : Option (U64 × U64) := none
  /-- An instance reset or a function disable stops events (R506). -/
  stopped : Bool := false
  /-- A function disable makes the page read 0 (R506). -/
  disabled : Bool := false
  /-- Owner instance. -/
  owner : Nat := 0
  /-- Secure attribute. -/
  sec : Bool := false
  deriving DecidableEq, Repr

/-- The input unit (R494 to R507). -/
structure Inputs where
  /-- D inputs. -/
  ds : Tab DIn := []
  /-- V inputs. -/
  vs : Tab VIn := []
  /-- Live groups by index. -/
  groups : Tab InGroup := []
  /-- Electrical levels of WK0 to WK7, of which IN_WAKE.WK shows the active ones (R499, R507). -/
  wkLevel : Byte := 0
  /-- IN_WAKE.IGN. -/
  ign : Bool := false
  /-- IN_WAKE_CFG.POL. -/
  pol : Byte := 0
  /-- SENS_CFG.RUN. -/
  sensRun : BitVec 3 := 0
  /-- SENS_CFG.PARTIAL. -/
  sensPart : BitVec 3 := 0
  /-- SENS_STATUS.ON. -/
  sensOn : BitVec 3 := 0
  /-- SENS_STATUS.FAULT. -/
  sensFault : BitVec 3 := 0
  /-- SENS_STATUS.COUNT. -/
  sensCount : U16 := 0
  /-- IN_GEVENT. -/
  event : BitVec 3 := 0
  /-- IN_GEVENT_EN.MASK. -/
  eventEn : BitVec 3 := 0
  deriving DecidableEq, Repr

end Sys2Proof.Machine
end

