-- ==== Sys2Proof/Machine/NetTypes.lean ====
section
/-! DEFINITION. State types of the switch core and of the Ethernet ports: ports, market, queues, flow table, queue pairs,
gates, policers, streams, MACsec units and the time-aware bridge. The default of a field is its reset value. -/

namespace Sys2Proof.Machine

/-- The counters of a switch port (R324, R326). -/
structure SwCnt where
  /-- CNT_IN_FRAMES. -/
  inFrames : U64 := 0
  /-- CNT_OUT_FRAMES. -/
  outFrames : U64 := 0
  /-- CNT_DROP_POLICE. -/
  police : U64 := 0
  /-- CNT_DROP_CLASSIFY. -/
  classify : U64 := 0
  /-- CNT_DROP_ADMIT. -/
  refuse : U64 := 0
  /-- CNT_DROP_RESIDUE. -/
  residue : U64 := 0
  /-- CNT_PUSHED_OUT. -/
  pushed : U64 := 0
  /-- CNT_DROP_QP. -/
  qp : U64 := 0
  /-- CNT_CUT_THROUGH. -/
  cut : U64 := 0
  /-- CNT_CUT_ABORT. -/
  cutAbort : U64 := 0
  deriving DecidableEq, Repr

/-- One switch port unit (R324). -/
structure SwPort where
  /-- SW_PORT_CFG.EN. -/
  en : Bool := false
  /-- SW_PORT_CFG.CUT_THROUGH. -/
  cutThrough : Bool := false
  /-- SW_PORT_CFG.VLAN_FILTER. -/
  vlanFilter : Bool := false
  /-- SW_PORT_CFG.TRUST_PCP. -/
  trustPcp : Bool := false
  /-- SW_PORT_CFG.PVID. -/
  pvid : BitVec 12 := 1
  /-- SW_PORT_CFG.DEF_CLASS. -/
  defClass : BitVec 3 := 0
  /-- SW_PORT_FC.HIGH_WM. -/
  high : U16 := 0
  /-- SW_PORT_FC.LOW_WM. -/
  low : U16 := 0
  /-- SW_PORT_STATE.LINK. -/
  link : Bool := false
  /-- SW_PORT_STATE.FC_ASSERT. -/
  fcAssert : Bool := false
  /-- SW_PORT_STATE.PFC_ASSERT. -/
  pfcAssert : Byte := 0
  /-- SW_PORT_STATE.LAG_ACTIVE. -/
  lagActive : Bool := false
  /-- SW_PORT_OCC.CELLS. -/
  occ : BitVec 20 := 0
  /-- The same count for each class (R296). -/
  occCls : Tab Nat := []
  /-- Counters. -/
  cnt : SwCnt := {}
  /-- Frames that are leaving, the one on the wire first (R338, R347). -/
  inFlight : List Nat := []
  /-- Fragments of the frame that an express frame has interrupted so far (R347). -/
  frags : Nat := 0
  /-- Bytes of that frame that its earlier fragments have carried (R347). -/
  fragSent : Nat := 0
  /-- The preemptable frame that was on the wire stands at a fragment boundary while HOLD is set (R346). -/
  halted : Bool := false
  /-- The last frame that left the port, without FCS: MODEL'S OWN view of the wire (R301, R333, R353). -/
  sent : List Byte := []
  /-- The last frame left with an inverted FCS (R287): MODEL'S OWN view of the wire. -/
  sentBad : Bool := false
  /-- Frames whose association was purged while they left: they end with an inverted FCS (R550). -/
  spoiled : List Nat := []
  deriving DecidableEq, Repr

/-- One market account (R324). The share of account 63 is computed (R290). -/
structure Acct where
  /-- MKT_ACCT.SHARE. -/
  share : Nat := 0
  /-- MKT_ACCT.USED. -/
  used : Nat := 0
  /-- MKT_ACCT.REFUSED. -/
  refused : U32 := 0
  /-- MKT_ACCT.PUSHOUT. -/
  pushout : U32 := 0
  deriving DecidableEq, Repr

/-- One crossbar plane (R324). -/
structure Plane where
  /-- PLANE_FRAMES.COUNT. -/
  frames : U64 := 0
  /-- PLANE_BYTES.COUNT. -/
  bytes : U64 := 0
  deriving DecidableEq, Repr

/-- One aggregation group (R298 to R300). -/
structure Lag where
  /-- LAG_UNIT.MEMBERS. -/
  members : BitVec 22 := 0
  /-- LAG_UNIT.ACTIVE. -/
  active : BitVec 22 := 0
  /-- LAG_UNIT.FLUSH. -/
  flush : U32 := 0
  deriving DecidableEq, Repr

/-- One VLAN entry (R324). -/
structure Vlan where
  /-- VLAN_ENTRY.MEMBER. -/
  member : BitVec 30 := 0
  /-- VLAN_ENTRY.FLOOD. -/
  flood : Bool := false
  /-- VLAN_ENTRY.UNTAG. -/
  untag : BitVec 30 := 0
  deriving DecidableEq, Repr

/-- One flow table entry (R324). -/
structure Flow where
  /-- FLOW_ENTRY.VALID. -/
  valid : Bool := false
  /-- FLOW_ENTRY.MATCH: bit 0 VLAN, bit 1 MAC, bit 2 priority. -/
  mat : BitVec 3 := 0
  /-- FLOW_ENTRY.INGRESS. -/
  ingress : BitVec 5 := 0
  /-- FLOW_ENTRY.ECLASS. -/
  eclass : BitVec 4 := 0
  /-- FLOW_ENTRY.STORED. -/
  stored : Bool := false
  /-- FLOW_ENTRY.SLOT. -/
  slot : BitVec 12 := 0
  /-- FLOW_ENTRY.VLAN. -/
  vlan : BitVec 12 := 0
  /-- FLOW_ENTRY.PCP. -/
  pcp : BitVec 3 := 0
  /-- FLOW_ENTRY.DMAC. -/
  dmac : BitVec 48 := 0
  /-- FLOW_ENTRY.EGRESS. -/
  egress : BitVec 30 := 0
  /-- FLOW_ENTRY.STREAM. -/
  stream : U32 := 0
  /-- FLOW_ENTRY.POLICER. -/
  policer : U16 := 0xFFFF
  /-- FLOW_ENTRY.HITS. -/
  hits : U32 := 0
  deriving DecidableEq, Repr

/-- One stored frame (R285 to R306). -/
structure Frame where
  /-- Its number in the order of admission. -/
  id : Nat := 0
  /-- Ingress port. -/
  ingress : Nat := 0
  /-- Bytes without FCS. -/
  bytes : List Byte := []
  /-- It carried a VLAN tag. -/
  tagged : Bool := false
  /-- VLAN ID. -/
  vid : BitVec 12 := 0
  /-- Class. -/
  cls : Nat := 0
  /-- Flow hash H. -/
  hash : U16 := 0
  /-- Cells. -/
  cells : Nat := 0
  /-- In the express SRAM. -/
  express : Bool := false
  /-- The account charged, for a frame in the market. -/
  acct : Nat := 63
  /-- The queue pair it entered from. -/
  fromQp : Option Nat := none
  /-- The queue pair through which its market cells are charged (R289, R314). -/
  chargedQp : Option Nat := none
  /-- Several destinations: it waits in the multicast queue until served (R305). -/
  multi : Bool := false
  /-- Served by the multicast service (R305). -/
  served : Bool := false
  /-- Egress ports that hold a copy not yet gone. -/
  dests : List Nat := []
  /-- Queue pairs that receive it. -/
  qps : List Nat := []
  /-- A copy has begun to leave, or a queue engine has begun to copy it (R307). -/
  begun : Bool := false
  /-- It is being cut through (R287). -/
  cut : Bool := false
  /-- Its length on the ingress wire without FCS, MACsec included (R332, R365). -/
  wireLen : Nat := 0
  /-- Egress ports whose guard band has held it and counted it (R339). -/
  guardHeld : List Nat := []
  /-- Sequence number of the R-TAG that its copies carry (R353). -/
  rtag : Option U16 := none
  /-- The bytes of the copies that are leaving, by egress port: edited, and protected by MACsec (R301, R362). -/
  out : Tab (List Byte) := []
  /-- TIME_GLOBAL at ingress (R109, R313). -/
  time : U64 := 0
  deriving DecidableEq, Repr

/-- One queue pair page and its receive list (R313 to R318, R327). -/
structure Qp where
  /-- QP_TX_BASE. -/
  txBase : U64 := 0
  /-- QP_RX_BASE. -/
  rxBase : U64 := 0
  /-- QP_TX_TAIL. -/
  txTail : U16 := 0
  /-- QP_TX_HEAD. -/
  txHead : U16 := 0
  /-- QP_RX_TAIL. -/
  rxTail : U16 := 0
  /-- QP_RX_HEAD. -/
  rxHead : U16 := 0
  /-- QP_CFG.DEPTH. -/
  depth : U16 := 0
  /-- QP_CFG.MAX_CLASS. -/
  maxClass : BitVec 3 := 0
  /-- QP_CFG.MCAST_EN. -/
  mcast : Bool := false
  /-- QP_CFG.RUN. -/
  run : Bool := false
  /-- QP_CFG.ENABLED. -/
  enabled : Bool := false
  /-- QP_MAC.ADDR. -/
  mac : BitVec 48 := 0
  /-- QP_CELLS.USED. -/
  used : Nat := 0
  /-- QP_CELLS.CAP. -/
  cap : BitVec 20 := 0
  /-- QP_RX_DROP.COUNT. -/
  rxDrop : U32 := 0
  /-- The receive list: frame numbers, oldest first (R315). -/
  rxList : List Nat := []
  /-- The fetch is stopped by an instance reset (R318). -/
  stopped : Bool := false
  /-- The buffer transfer of the transmit descriptor at the head has begun (R318). -/
  txBusy : Bool := false
  /-- The buffer transfer of the receive descriptor at the head has begun (R318). -/
  rxBusy : Bool := false
  /-- Bytes that an interrupted copy has written so far (R349). -/
  rxAt : Nat := 0
  /-- Transmit descriptors behind that one that a function disable has completed (R518). -/
  txSkip : Nat := 0
  /-- Receive descriptors behind that one that a function disable has completed (R518). -/
  rxSkip : Nat := 0
  deriving DecidableEq, Repr

/-- The switch core (R283 to R327). -/
structure Switch where
  /-- SW_HASH_CFG.L3. -/
  l3 : Bool := false
  /-- SW_HASH_CFG.L4. -/
  l4 : Bool := false
  /-- MKT_FREE.CELLS. -/
  free : Nat := 524288
  /-- MKT_EXP_FREE.CELLS. -/
  expFree : Nat := 32768
  /-- MKT_PUSH.MIN_CLASS. -/
  minClass : Nat := 5
  /-- MKT_PUSH.EN. -/
  pushEn : Bool := true
  /-- MKT_EXPRESS.CLASS_MASK. -/
  classMask : Byte := 0xC0
  /-- MKT_EXPRESS.PORT_LIMIT. -/
  portLimit : Nat := 4096
  /-- MKT_POOL.POOL_MIN. -/
  poolMin : Nat := 65536
  /-- MKT_LOW_MARK.CELLS. -/
  lowMark : Nat := 16384
  /-- SW_EVENT. -/
  event : BitVec 5 := 0
  /-- SW_EVENT_EN.MASK. -/
  eventEn : BitVec 5 := 0
  /-- The stored configuration is applied: the switch forwards (R323). -/
  forwarding : Bool := false
  /-- Port units. -/
  ports : Tab SwPort := []
  /-- Account units 0 to 62, and 63 for its USED, REFUSED and PUSHOUT. -/
  accts : Tab Acct := []
  /-- Plane units. -/
  planes : Tab Plane := []
  /-- Aggregation units. -/
  lags : Tab Lag := []
  /-- VLAN entries. -/
  vlans : Tab Vlan := []
  /-- Flow entries by bucket × 4 + way. -/
  flows : Tab Flow := []
  /-- Stored frames, oldest admission first: the queues of R293 are this list by ingress, egress and class. -/
  frames : List Frame := []
  /-- The number of the next frame admitted. -/
  nextFrame : Nat := 0
  /-- Residue queues by egress × 8 + class: frame numbers, oldest first (R305). -/
  residue : Tab (List Nat) := []
  /-- Round-robin place by egress × 8 + class: the contender served last, ingress 0 to 29 or 30 for residue (R294). -/
  rr : Tab Nat := []
  /-- Queue pairs by handle index. -/
  qps : Tab Qp := []
  deriving DecidableEq, Repr

/-- The counters of a port unit (R365). -/
structure EthCnt where
  /-- ETH_RX_FRAMES. -/
  rxFrames : U64 := 0
  /-- ETH_RX_BYTES. -/
  rxBytes : U64 := 0
  /-- ETH_TX_FRAMES. -/
  txFrames : U64 := 0
  /-- ETH_TX_BYTES. -/
  txBytes : U64 := 0
  /-- ETH_RX_FCS_ERR. -/
  fcsErr : U64 := 0
  /-- ETH_RX_RUNT. -/
  runt : U64 := 0
  /-- ETH_RX_OVERSIZE. -/
  oversize : U64 := 0
  /-- ETH_RX_PAUSE. -/
  rxPause : U64 := 0
  /-- ETH_TX_PAUSE. -/
  txPause : U64 := 0
  /-- ETH_RX_ASSEMBLY_ERR. -/
  assembly : U64 := 0
  /-- ETH_TX_PREEMPTED. -/
  preempted : U64 := 0
  /-- ETH_COLLISIONS. -/
  collisions : U64 := 0
  /-- ETH_BEACON_LOST. -/
  beaconLost : U64 := 0
  deriving DecidableEq, Repr

/-- ETH_PLCA of a port unit; EN reads 1 on S0 to S3 until it is changed (R365). -/
structure Plca where
  /-- NODE_ID. -/
  nodeId : Byte := 0
  /-- NODE_COUNT. -/
  nodeCount : Byte := 8
  /-- TO_TIMER. -/
  toTimer : Byte := 32
  /-- MAX_BURST. -/
  maxBurst : Byte := 0
  /-- BURST_TIMER. -/
  burstTimer : Byte := 128
  /-- EN is 0 on an S port. -/
  off : Bool := false
  /-- ETH_STATUS.PLCA_ACTIVE. -/
  active : Bool := false
  deriving DecidableEq, Repr

/-- A credit-based shaper (R340). -/
structure Cbs where
  /-- CBS_SLOPE.IDLE. -/
  idle : BitVec 24 := 0
  /-- CBS_SLOPE.EN. -/
  en : Bool := false
  /-- Credit in millionths of a bit; CBS_CREDIT.BITS is its whole bits. -/
  credit : Int := 0
  deriving DecidableEq, Repr

/-- A pause or PFC frame that the MAC is to send (R336). -/
structure FcFrame where
  /-- PFC; otherwise pause. -/
  pfc : Bool := false
  /-- Classes that the frame names. -/
  enables : Byte := 0xFF
  /-- Classes that carry QUANTA; the others carry 0. -/
  on : Byte := 0
  deriving DecidableEq, Repr

/-- One Ethernet port unit (R365). -/
structure EthPort where
  /-- ETH_CFG.MASTER. -/
  master : Bool := true
  /-- ETH_CFG.PAUSE. -/
  pause : Bool := false
  /-- ETH_CFG.PFC. -/
  pfc : Bool := false
  /-- ETH_CFG.PREEMPT. -/
  preempt : Bool := false
  /-- ETH_CFG.FRER. -/
  frer : Bool := false
  /-- ETH_CFG.TC10. -/
  tc10 : Bool := false
  /-- ETH_CFG.MAX_FRAME. -/
  maxFrame : BitVec 14 := 1522
  /-- ETH_STATUS.LINK. -/
  link : Bool := false
  /-- ETH_STATUS.LOW_POWER. -/
  lowPower : Bool := false
  /-- ETH_STATUS.VERIFY. -/
  verify : BitVec 2 := 0
  /-- ETH_STATUS.PAUSED. -/
  paused : Bool := false
  /-- ETH_STATUS.PFC_PAUSED. -/
  pfcPaused : Byte := 0
  /-- ETH_STATUS.HOLD. -/
  hold : Bool := false
  /-- ETH_PAUSE.QUANTA. -/
  quanta : U16 := 0xFFFF
  /-- ETH_PAUSE.REFRESH. -/
  refresh : U16 := 0x8000
  /-- ETH_PREEMPT.EXPRESS_MASK. -/
  expressMask : Byte := 0xC0
  /-- ETH_PREEMPT.ADD_FRAG. -/
  addFrag : BitVec 2 := 0
  /-- ETH_PREEMPT.VERIFY_DIS. -/
  verifyDis : Bool := false
  /-- ETH_PLCA. -/
  plca : Plca := {}
  /-- Shapers by class. -/
  cbs : Tab Cbs := []
  /-- Counters. -/
  cnt : EthCnt := {}
  /-- Failed verify attempts (R348). -/
  tries : Nat := 0
  /-- Classes whose pause flag the last pause or PFC frame sent carried (R336). -/
  pauseSent : Byte := 0
  /-- Pause and PFC frames that wait for the end of the frame in transmission, oldest first (R336). -/
  due : List FcFrame := []
  /-- Messages of the time-aware bridge that wait for a pause or a frame in transmission to end (R337). -/
  ptpDue : Nat := 0
  /-- The PHY was reset and its link is down until the next link-up. -/
  phyOff : Bool := false
  deriving DecidableEq, Repr

/-- A port's events (R367). -/
structure EthEvent where
  /-- ETH_EVENT. -/
  ev : BitVec 5 := 0
  /-- ETH_EVENT_EN.MASK. -/
  en : BitVec 5 := 0
  deriving DecidableEq, Repr

/-- One gate list entry (R265, R365). -/
structure GateEntry where
  /-- Interval in ns. -/
  interval : U32 := 0
  /-- Gate states. -/
  gates : Byte := 0
  /-- 0 set, 1 hold, 2 release. -/
  op : BitVec 2 := 0
  deriving DecidableEq, Repr

/-- A gate control list (R341). -/
structure GateList where
  /-- Base time. -/
  base : U64 := 0
  /-- Cycle time in ns. -/
  cycle : U32 := 0
  /-- Entries. -/
  entries : List GateEntry := []
  deriving DecidableEq, Repr

/-- One gate unit (R341 to R346, R365). -/
structure Gate where
  /-- GCL_STATUS.ACTIVE with the list in force. -/
  oper : Option GateList := none
  /-- GCL_STATUS.PENDING with the pending list. -/
  pend : Option GateList := none
  /-- GCL_STATUS.GATES. -/
  gates : Byte := 0xFF
  /-- GCL_STATUS.ENTRY. -/
  entry : Nat := 0
  /-- GCL_CHANGE_TIME. -/
  changeTime : U64 := 0
  /-- GCL_GUARD_HELD. -/
  guardHeld : U32 := 0
  /-- The list came from the stored configuration (R341). -/
  stored : Bool := false
  deriving DecidableEq, Repr

/-- One policer (R350, R351). -/
structure Policer where
  /-- POL_RATE.KBPS. -/
  rate : U32 := 0
  /-- POL_BURST.BYTES. -/
  burst : U32 := 0
  /-- Bucket content in 1/8000 byte; POL_TOKENS is its whole bytes. -/
  tokens : Nat := 0
  /-- POL_PASSED. -/
  passed : U64 := 0
  /-- POL_DROPPED. -/
  dropped : U64 := 0
  deriving DecidableEq, Repr

/-- One FRER stream unit (R352 to R354). -/
structure Frer where
  /-- FRER_ID.STREAM. -/
  stream : U32 := 0
  /-- FRER_CFG.GEN. -/
  gen : Bool := false
  /-- FRER_CFG.REC. -/
  rec_ : Bool := false
  /-- FRER_CFG.HISTORY. -/
  history : BitVec 6 := 32
  /-- FRER_CFG.RESET_MS. -/
  resetMs : BitVec 10 := 10
  /-- FRER_SEQ.NEXT. -/
  next : U16 := 0
  /-- FRER_SEQ.LAST. -/
  last : U16 := 0
  /-- FRER_PASSED. -/
  passed : U32 := 0
  /-- FRER_DISCARDED. -/
  discarded : U32 := 0
  /-- FRER_ROGUE. -/
  rogue : U32 := 0
  /-- FRER_RESETS. -/
  resets : U32 := 0
  /-- Numbers seen: bit k is LAST − k. -/
  seen : BitVec 32 := 0
  /-- The recovery accepts the next number it receives. -/
  fresh : Bool := true
  deriving DecidableEq, Repr

/-- One MACsec association (R361). -/
structure MsSa where
  /-- Number of its key node. -/
  node : Nat := 0
  /-- Its key was purged (R364, R550). -/
  revoked : Bool := false
  /-- It stopped at PN exhaustion (R363). -/
  exhausted : Bool := false
  /-- Next PN sent, or the next PN expected. -/
  pn : U64 := 1
  /-- MACsec key register (R549). -/
  reg : Nat := 0
  /-- SSCI. -/
  ssci : U32 := 0
  /-- The key in that register: key and 12-byte salt (R362, R538). -/
  key : List Byte := []
  deriving DecidableEq, Repr

/-- The counters of a MACsec unit (R365). -/
structure MsCnt where
  /-- MS_TX_PROTECTED. -/
  prot : U64 := 0
  /-- MS_RX_OK. -/
  ok : U64 := 0
  /-- MS_RX_DROP_NOSA. -/
  noSa : U64 := 0
  /-- MS_RX_DROP_AUTH. -/
  auth : U64 := 0
  /-- MS_RX_DROP_REPLAY. -/
  replay : U64 := 0
  /-- MS_RX_DROP_UNTAGGED. -/
  untagged : U64 := 0
  /-- MS_RX_DROP_REVOKED. -/
  rxRevoked : U64 := 0
  /-- MS_TX_DROP. -/
  txDrop : U64 := 0
  /-- MS_TX_DROP_REVOKED. -/
  txRevoked : U64 := 0
  deriving DecidableEq, Repr

/-- One MACsec unit (R361 to R365). -/
structure Macsec where
  /-- MS_CFG.EN. -/
  en : Bool := false
  /-- MS_CFG.ENCRYPT. -/
  encrypt : Bool := true
  /-- MS_CFG.XPN. -/
  xpn : Bool := true
  /-- MS_CFG.VALIDATE_STRICT. -/
  strict : Bool := true
  /-- MS_CFG.INCLUDE_SCI. -/
  sci : Bool := true
  /-- MS_CFG.REPLAY. -/
  replay : Bool := true
  /-- MS_REPLAY_WINDOW.SIZE. -/
  window : U32 := 0
  /-- MS_TX_AN.AN. -/
  txAn : BitVec 2 := 0
  /-- MS_TX_AN.VALID. -/
  txValid : Bool := false
  /-- MS_TX_PN.NEXT. -/
  txPn : U64 := 0
  /-- SCI of the transmit channel. -/
  txSci : U64 := 0
  /-- Transmit associations by AN. -/
  tx : Tab MsSa := []
  /-- SCI of the receive channels 0 to 3. -/
  rxSci : Tab U64 := []
  /-- Receive associations by channel × 4 + AN. -/
  rx : Tab MsSa := []
  /-- Counters. -/
  cnt : MsCnt := {}
  deriving DecidableEq, Repr

/-- The identity of an 802.1AS clock as an announce message carries it (R355; PRESUMED, log entry 108). -/
structure PtpClock where
  /-- priority1. -/
  prio1 : Byte := 248
  /-- Clock class. -/
  cls : Byte := 248
  /-- Clock accuracy. -/
  accuracy : Byte := 0
  /-- Offset scaled log variance. -/
  variance : U16 := 0
  /-- priority2. -/
  prio2 : Byte := 248
  /-- Clock identity. -/
  id : U64 := 0
  deriving DecidableEq, Repr

/-- What an announce message says: the grandmaster, its distance, and the sender (R355). -/
structure PtpInfo where
  /-- The grandmaster. -/
  root : PtpClock := {}
  /-- Steps removed. -/
  steps : Byte := 0
  /-- Clock identity of the sender. -/
  sender : U64 := 0
  /-- Port number of the sender. -/
  senderPort : U16 := 0
  deriving DecidableEq, Repr

/-- One port of the time-aware bridge (R365). -/
structure TabPort where
  /-- The last announce message received on the port since its link came up (R355). -/
  info : Option PtpInfo := none
  /-- TAB_PORT.ROLE. -/
  role : BitVec 2 := 0
  /-- TAB_PORT.AS_CAPABLE. -/
  asCapable : Bool := false
  /-- TAB_PORT.LINK_DELAY. -/
  delay : U32 := 0
  /-- TAB_PORT.RATE_RATIO. -/
  ratio : U32 := 0
  /-- TAB_PORT.LOG_SYNC. -/
  logSync : Byte := 0xFD
  deriving DecidableEq, Repr

/-- The time-aware bridge (R355 to R357). -/
structure Bridge where
  /-- TAB_CFG.EN. -/
  en : Bool := false
  /-- TAB_CFG.EXTERNAL. -/
  ext : Bool := false
  /-- TAB_CFG.GM_CAPABLE. -/
  gmCapable : Bool := false
  /-- TAB_CFG.PRIORITY1. -/
  prio1 : Byte := 248
  /-- TAB_CFG.PRIORITY2. -/
  prio2 : Byte := 248
  /-- TAB_CFG.CLOCK_CLASS. -/
  clockClass : Byte := 248
  /-- TAB_STATUS.ROLE. -/
  role : BitVec 2 := 0
  /-- TAB_STATUS.STEPS_REMOVED. -/
  stepsRemoved : Byte := 0
  /-- TAB_GM_ID. -/
  gmId : U64 := 0
  /-- TAB_OFFSET. -/
  offset : U64 := 0
  /-- Ports by number. -/
  ports : Tab TabPort := []
  /-- Consecutive syncs within 1 µs (R357). -/
  good : Nat := 0
  /-- Messages handled by the servo: MODEL'S OWN index into the free values. -/
  servo : Nat := 0
  deriving DecidableEq, Repr

/-- The Ethernet ports (R328 to R367). -/
structure Eth where
  /-- Port units. -/
  ports : Tab EthPort := []
  /-- Event units. -/
  events : Tab EthEvent := []
  /-- Gate units. -/
  gates : Tab Gate := []
  /-- Policers. -/
  policers : Tab Policer := []
  /-- Policers that the stored configuration or a flow holds. -/
  polUsed : List Nat := []
  /-- FRER stream units. -/
  frers : Tab Frer := []
  /-- MACsec units. -/
  macsecs : Tab Macsec := []
  /-- The time-aware bridge. -/
  bridge : Bridge := {}
  /-- ETH_GLOBAL_EVENT. -/
  gevent : BitVec 6 := 0
  /-- ETH_GLOBAL_EVENT_EN.MASK. -/
  geventEn : BitVec 6 := 0
  deriving DecidableEq, Repr

end Sys2Proof.Machine
end

