-- ==== Sys2Proof/Machine/StoredTypes.lean ====
section
/-! DEFINITION. The stored configuration as step 5 of the start-up sequence applies it (R84): what each chapter says that
the stored configuration gives. Its image format is not in the spec, so START_CONFIG_APPLIED carries its content. -/

namespace Sys2Proof.Machine

/-- The stored configuration of the switch and the Ethernet ports. -/
structure StoredNet where
  /-- SW_HASH_CFG.L3. -/
  l3 : Bool := false
  /-- SW_HASH_CFG.L4. -/
  l4 : Bool := false
  /-- MKT_PUSH.MIN_CLASS. -/
  minClass : Nat := 5
  /-- MKT_PUSH.EN. -/
  pushEn : Bool := true
  /-- MKT_EXPRESS.CLASS_MASK. -/
  classMask : Byte := 0xC0
  /-- MKT_EXPRESS.PORT_LIMIT. -/
  portLimit : Nat := 4096
  /-- MKT_POOL.POOL_MIN. -/
  poolMin : Nat := 65536
  /-- MKT_LOW_MARK. -/
  lowMark : Nat := 16384
  /-- Switch port units: configuration fields. -/
  swPorts : Tab SwPort := []
  /-- Aggregation groups: members (R298). -/
  lags : Tab (BitVec 22) := []
  /-- VLAN entries. -/
  vlans : Tab Vlan := []
  /-- Flow entries in order, each placed in its bucket (R302). -/
  flows : List Flow := []
  /-- Policers that the stored configuration assigns: rate and burst (R350). -/
  policers : Tab (U32 × U32) := []
  /-- FRER streams (R352). -/
  frers : Tab Frer := []
  /-- Ethernet port units: configuration fields. -/
  ethPorts : Tab EthPort := []
  /-- Gate lists (R341). -/
  gates : Tab GateList := []
  /-- MACsec units: configuration fields (R361). -/
  macsecs : Tab Macsec := []
  /-- The time-aware bridge: TAB_CFG and port settings (R355). -/
  bridge : Bridge := {}
  deriving DecidableEq, Repr

/-- A LIN channel of the stored configuration (R416). -/
structure StoredLin where
  /-- Responder. -/
  responder : Bool := false
  /-- Bit rate. -/
  rate : Nat := 19200
  /-- Buffers. -/
  bufs : Tab LinBuf := []
  /-- Tables. -/
  tables : Tab (List LinEntry) := []
  /-- SCHED_RUN. -/
  run : Bool := false
  deriving DecidableEq, Repr

/-- The stored configuration of buses, loads and inputs. -/
structure StoredIo where
  /-- CAN channels. -/
  can : Tab CanCfg := []
  /-- CAN_CFG.LOCK_TIMEOUT by channel. -/
  lockTimeout : Tab U16 := []
  /-- Selective-wake filters by channel (R373). -/
  canWake : Tab CanWake := []
  /-- Gateway enabled. -/
  gwEn : Bool := false
  /-- GW_CFG.AGE_MS. -/
  ageMs : Byte := 10
  /-- Gateway rules. -/
  rules : Tab GwRule := []
  /-- LIN channels. -/
  lin : Tab StoredLin := []
  /-- Load channels that it sets. -/
  loads : Tab LoadCfg := []
  /-- PS_WIRE_AMB.TEMP. -/
  wireAmb : Int := 85
  /-- D inputs. -/
  ds : Tab DIn := []
  /-- V inputs. -/
  vs : Tab VIn := []
  /-- IN_WAKE_CFG.POL. -/
  pol : Byte := 0
  /-- SENS_CFG.RUN. -/
  sensRun : BitVec 3 := 0
  /-- SENS_CFG.PARTIAL. -/
  sensPart : BitVec 3 := 0
  deriving DecidableEq, Repr

/-- The stored configuration. -/
structure StoredCfg where
  /-- Switch and ports. -/
  net : StoredNet := {}
  /-- Buses, loads, inputs. -/
  io : StoredIo := {}
  /-- Wake sources by code (R428). -/
  wake : Tab WakeCfg := []
  /-- Switch ports kept in PARTIAL, bit p (R323). -/
  keepPorts : BitVec 30 := 0
  /-- CAN channels kept in PARTIAL, bit n (R395). -/
  keepCan : U16 := 0
  /-- LIN channels kept in PARTIAL, bit n. -/
  keepLin : Byte := 0
  /-- The gateway runs in PARTIAL (R403). -/
  keepGw : Bool := false
  /-- E ports whose role in the sleep of their link is master (R418). -/
  sleepMaster : BitVec 22 := 0
  /-- Pin codes marked secure (R194). -/
  securePins : List Nat := []
  /-- PASS_CFG.PAIRED (R569). -/
  paired : Bool := false
  /-- PASS_CFG.AUTO_RST. -/
  autoRst : Bool := false
  /-- PASS_CFG.TAKEOVER. -/
  takeover : BitVec 4 := 0
  /-- Inbound ranges: first and last page (R583). -/
  ranges : Tab (Nat × Nat) := []
  /-- KS_BYTE_LIMIT (R566). -/
  byteLimit : U64 := 0x10000000000
  /-- A manager image is declared (R206). -/
  manager : Bool := false
  /-- Quiesce timeout in µs by block (R93). -/
  quiesce : Tab Nat := []
  /-- Secure carve-outs: base and size, 0 to 4 (R207). -/
  carveOuts : List (Nat × Nat) := []
  /-- SAFE restart delay in ms: 0, or 100 to 60 000 (R98). -/
  safeDelay : Nat := 1000
  /-- Market cells of instance 0 (R510). -/
  cells0 : Nat := 0
  /-- Fabric share of instance 0: class, guarantee, ceiling, burst (R510). -/
  fabric0 : Option (Nat × Nat × Nat × Nat) := none
  deriving DecidableEq, Repr

end Sys2Proof.Machine
end

