-- ==== Sys2Proof/Syntax.lean ====
section
/-! DEFINITION. The commands of the block: one constructor per row of the opcode table. Request rows carry the request as
Amind takes it from its route; event rows carry what the outside world brings. -/

namespace Sys2Proof

open Sys2Proof.Machine

/-- Memories whose uncorrectable error triggers SAFE (R96). -/
inductive MemUnit where
  | secureSram | amindSram | keyStore
  deriving DecidableEq, Repr

/-- A frame as it arrives at a port: bytes without FCS, and what the MAC found (R332, R348, R361). -/
structure RawFrame where
  /-- Bytes without FCS. -/
  bytes : List Byte := []
  /-- An FCS or PHY coding error. -/
  fcsErr : Bool := false
  /-- The fragments break the 802.3br rules (R348). -/
  fragErr : Bool := false
  deriving DecidableEq, Repr

/-- 802.1AS message kinds (R355, R357). -/
inductive PtpKind where
  | sync | announce | pdelay
  deriving DecidableEq, Repr

/-- An 802.1AS message as the bridge has measured it (R355 to R357). -/
structure PtpMessage where
  /-- Kind. -/
  kind : PtpKind := .sync
  /-- Offset of TIME_GLOBAL from the grandmaster at a sync, ns. -/
  offset : Int := 0
  /-- What an announce says. -/
  info : PtpInfo := {}
  /-- Mean link delay of a peer delay exchange, 1/16 ns. -/
  delay : U32 := 0
  /-- Neighbour rate offset of a peer delay exchange. -/
  ratio : U32 := 0
  deriving DecidableEq, Repr

/-- A transmission opportunity: its port, what the wire has carried, and on a T1S segment a collision (R338, R347, R358). -/
structure TxPoint where
  /-- Port. -/
  port : Nat := 0
  /-- Bytes of the frame in transmission that have left since it began or resumed. -/
  sent : Nat := 0
  /-- Another node of a half-duplex segment sends at the same time (R358). -/
  collides : Bool := false
  deriving DecidableEq, Repr

/-- A frame that the gateway taps (R398). -/
inductive TapSource where
  /-- A CAN frame of another node. -/
  | can (chan : Nat) (f : CanFrame)
  /-- A LIN frame whose response another node sent. -/
  | lin (chan id : Nat) (data : List Byte)
  /-- An ACF CAN message from port GW. -/
  | acf (bus : Nat) (stream : U64) (f : CanFrame)
  deriving DecidableEq, Repr

/-- The current at which an output trips (R470). -/
structure TripPoint where
  /-- Channel code. -/
  chan : Nat := 0
  /-- Output current, 10 mA. -/
  current : Nat := 0
  deriving DecidableEq, Repr

/-- A wake source that fires, with what a selective-wake transceiver sees on its bus: a frame, or none for a frame in error (R373, R427). -/
structure WakeFire where
  /-- Source code. -/
  source : Nat := 0
  /-- The frame on the bus of a CAN source. -/
  frame : Option CanFrame := none
  deriving DecidableEq, Repr

/-- How a LIN response fails (R414). -/
inductive LinError where
  /-- The response's bytes, the checksum last. -/
  | checksum (bytes : List Byte)
  /-- A framing error. -/
  | framing
  /-- A collision. -/
  | collision
  deriving DecidableEq, Repr

/-- What step 3 of a start brings: SHA-384 of the firmware, and the capacitance of the bank, µF (R58, R84). -/
structure FirmwareReport where
  /-- Digest of the firmware. -/
  digest : List Byte := []
  /-- The bank as measured. -/
  bankCap : U16 := 0
  deriving DecidableEq, Repr

/-- The bytes of the secure world image and of the manager image, by address (R206, R207). -/
structure ImageParts where
  /-- Secure world image. -/
  secure : List (A40 × List Byte) := []
  /-- Manager image. -/
  mgr : List (A40 × List Byte) := []
  deriving DecidableEq, Repr

/-- Feeds A and B (R33). -/
structure FeedPair where
  /-- Feed A. -/
  a : Bool := false
  /-- Feed B. -/
  b : Bool := false
  deriving DecidableEq, Repr

/-- A block that did not go idle in time, with the 64-byte lines of its second-level cache that are still dirty (R93, R152). -/
structure QuiesceCut where
  /-- Block. -/
  block : Nat := 0
  /-- Numbers of the dirty lines. -/
  dirty : List Nat := []
  deriving DecidableEq, Repr

/-- The data that a hart consumes: its virtual address, and its address in memory (R151). -/
structure PoisonUse where
  /-- Virtual address. -/
  virt : U64 := 0
  /-- Physical address. -/
  line : A40 := 0
  deriving DecidableEq, Repr

/-- An entry to debug mode (R162, R163). -/
structure DebugEntry where
  /-- Pair. -/
  pair : Nat := 0
  /-- Cause. -/
  why : HaltCause := .request
  deriving DecidableEq, Repr

/-- A point at which a channel may start a frame (R387, R396). -/
structure CanSof where
  /-- Channel. -/
  chan : Nat := 0
  /-- Another node starts a frame there. -/
  other : Bool := false
  deriving DecidableEq, Repr

/-- An error on a CAN bus (R371, R393). -/
structure CanFault where
  /-- The code of CAN_STATUS.LEC. -/
  kind : BitVec 3 := 0
  /-- It lies in the data phase of an XL frame. -/
  xlData : Bool := false
  deriving DecidableEq, Repr

/-- The commands. -/
inductive Instr where
  /-- POWER_ON_RESET_RELEASE (R77): Power-on reset is released 2 ms after VAON reaches regulation; the always-on domain and the power stage start. -/
  | powerOnResetRelease (net : NetSel) (pairOpen svcOpen : Bool)
  /-- START_VBUS_WAIT_END (R77): After power-on, START begins once VBUS has been in the functional range of the strapped net for 2 ms. -/
  | startVbusWaitEnd
  /-- RESET_N_VALID (R80): A filtered low level on RESET_N is taken as a valid pin reset with pin reach. -/
  | resetNValid
  /-- RESET_N_RELEASE (R81): RESET_N has read high for 10 µs; reset is released and a new START begins. -/
  | resetNRelease
  /-- AMIND_FIRMWARE_AUTHENTICATED (R84): Step 3 completes: Amind firmware authenticated and measured as layer 1, Amind running and stalls answering BUSY. -/
  | amindFirmwareAuthenticated (report : FirmwareReport)
  /-- COMPARATOR_SELFTEST_DONE (R157): The comparator self-test of a pair ends in pass or failure; a failing pair is held in reset. -/
  | comparatorSelftestDone (pair : Nat) (pass : Bool) (lane : Nat)
  /-- START_CONFIG_APPLIED (R84): Step 5 completes: stored configuration authenticated and switch, gateway, CAN, LIN and load configuration applied. -/
  | startConfigApplied (cfg : StoredCfg) (bankCap : U16)
  /-- SECURE_IMAGE_PLACED (R206): Step 7 completes: secure world and manager images authenticated, measured and placed, boot record written. -/
  | secureImagePlaced (digest2 : List Byte) (digest3 : Option (List Byte)) (entry mgrEntry : A40) (parts : ImageParts)
  /-- PAIRS_RELEASED (R84): Step 8: application pairs are released to the boot ROM for the target mode. -/
  | pairsReleased
  /-- START_TIMEOUT (R87): START_GOOD not reached 2 s after t0; the watchdog logs START_TIMEOUT and pulses RST_REQ_N. -/
  | startTimeout
  /-- RST_REQ_PULSE_END (R67): The 1 ms low pulse on RST_REQ_N ends and the pin is released. -/
  | rstReqPulseEnd
  /-- PARTNER_RST_PULSE_END (R67): The 1 ms low pulse on PARTNER_RST_N ends and the pin is released. -/
  | partnerRstPulseEnd
  /-- FEED_SWITCH_OPEN (R33): A feed reversed or more than 0.5 V below VBUS opens its feed switch within 10 µs and is reported lost. -/
  | feedSwitchOpen (feed : Bool)
  /-- FEED_SWITCH_CLOSE (R33): A feed that has been acceptable for 10 ms closes its feed switch again. -/
  | feedSwitchClose (feed : Bool)
  /-- FEED_CONNECT_NO_SOURCE (R33): With no feed switch closed, a non-reversed feed closes its switch at once under the inrush limit. -/
  | feedConnectNoSource (feeds : FeedPair)
  /-- CRANK_SET (R50): VBUS falls below the functional low limit; CRANK is set and VCORE may droop. -/
  | crankSet (mv : U16)
  /-- CRANK_CLEAR (R50): VBUS has stayed 0.5 V above the limit for 1 ms; CRANK is cleared. -/
  | crankClear (mv : U16)
  /-- OVERVOLTAGE_ENTER (R52): VBUS enters overvoltage; every load channel and auxiliary driver is switched off. -/
  | overvoltageEnter (mv : U16)
  /-- OVERVOLTAGE_EXIT (R52): VBUS has been in the functional range for 10 ms; channels return to their commanded state. -/
  | overvoltageExit (mv : U16)
  /-- SUPPLY_LOSS (R51): Supply loss is declared on VBUS below the floor, CRANK over 100 ms or a ground-shift trip, and the hold-up commit sequence starts. -/
  | supplyLoss (mv : U16) (cause : Byte)
  /-- HOLDUP_COMMIT_COMPLETE (R102): The hold-up commit sequence writes its commit-complete marker and the logic powers down. -/
  | holdupCommitComplete
  /-- HOLDUP_RESTART (R59): While OFF after a hold-up commit, VBUS enters the functional range and the module starts with power-on reach. -/
  | holdupRestart (mv : U16)
  /-- BANK_READY (R57): The hold-up bank reaches 26 V and BANK_READY is set. -/
  | bankReady
  /-- LOCKSTEP_MISMATCH (R158): The comparator of an application pair detects a mismatch and freezes the pair. -/
  | lockstepMismatch (pair lane : Nat) (pc : U64)
  /-- AMIND_LOCKSTEP_MISMATCH (R97): A mismatch in the Amind pair causes SAFE entry with the ledger entry and reset pulse from the always-on domain. -/
  | amindLockstepMismatch (lane : Nat) (pc : U64)
  /-- MEMORY_UNCORRECTABLE (R96): An uncorrectable error in secure SRAM, Amind SRAM or key store memory triggers SAFE. -/
  | memoryUncorrectable (mem : MemUnit)
  /-- JUNCTION_OVERTEMP (R96): Junction temperature above 160 °C for 1 ms triggers SAFE. -/
  | junctionOvertemp (temp : U16)
  /-- SAFE_RESTART_DELAY_EXPIRY (R98): The SAFE restart delay expires and Amind pulses RST_REQ_N. -/
  | safeRestartDelayExpiry
  /-- BLOCK_QUIESCE_IDLE (R93): A quiescing block reports idle and is reset and powered off. -/
  | blockQuiesceIdle (block : Nat)
  /-- QUIESCE_TIMEOUT (R93): The quiesce timeout expires and the block is reset whether idle or not. -/
  | quiesceTimeout (cut : QuiesceCut)
  /-- BLOCK_READY (R94): A block reports ready after its block reset and waiting requests receive notices. -/
  | blockReady (block : Nat)
  /-- BLOCK_READY_TIMEOUT (R94): A block not ready 100 µs after its reset is recorded as wedged and RST_REQ_N is pulsed. -/
  | blockReadyTimeout (block : Nat)
  /-- ENGINE_WEDGED_DETECT (R95): An engine has not completed an instance reset or answered pending work for 10 ms; Amind records ENGINE_WEDGED and pulses RST_REQ_N. -/
  | engineWedgedDetect (unit : Nat) (kind : Byte)
  /-- MODE_PARTIAL_ENTERED (R204): The transition from RUN to PARTIAL completes after the blocks outside the partial configuration are quiesced and powered off. -/
  | modePartialEntered
  /-- MODE_RUN_ENTERED (R76): The transition from PARTIAL to RUN completes with P1 to P7 block-reset, self-tested and released. -/
  | modeRunEntered (fails : List (Nat × Nat))
  /-- AMIND_WDOG_EXPIRY (R250): The independent watchdog expires, records AMIND_WDOG and pulses RST_REQ_N. -/
  | amindWdogExpiry
  /-- LEDGER_AON_COMMIT (R101): An entry not committed by Amind 1 ms after entering the retained buffer is committed by the always-on domain. -/
  | ledgerAonCommit
  /-- LEDGER_AMIND_COMMIT (R605): Amind commits entries of the retained ledger buffer to the ledger partition in sequence order. -/
  | ledgerAmindCommit
  /-- LEDGER_RATE_SECOND_END (R607): At the end of each TIME_LOCAL second Amind writes LEDGER_DROPPED for each code over its rate limit. -/
  | ledgerRateSecondEnd
  /-- TB_LOW_WORD_READ (R113): A 32-bit read of the low word of a time counter latches the high word into a shadow for the initiator. -/
  | tbLowWordRead (x : Xact)
  /-- COMPARATOR_FIRE (R116): A timer comparator reaches its compare value, sets FIRED, sends one MSI and disarms or reloads. -/
  | comparatorFire (timer : Nat)
  /-- TC_CTRL_WRITE (R116): A write to a comparator's control arms or disarms it, refusing periods below 8 ns. -/
  | tcCtrlWrite (x : Xact)
  /-- HART_TIMER_MATCH (R147): The time CSR reaches MTIMECMPX, stimecmp or vstimecmp and the timer interrupt becomes pending. -/
  | hartTimerMatch (hart which : Nat)
  /-- FABRIC_READ (R119): A read transaction is decoded, attribute-checked and answered by its target. -/
  | fabricRead (x : Xact)
  /-- FABRIC_WRITE (R119): A non-posted write transaction is decoded, attribute-checked and performed by its target. -/
  | fabricWrite (x : Xact)
  /-- POSTED_WRITE (R120): A posted write, an MSI or a posted Pass window write, is delivered without a response. -/
  | postedWrite (x : Xact)
  /-- FABRIC_AMO (R644): An atomic memory operation is performed as one read-modify-write at DRAM or secure SRAM, or answered TERR elsewhere. -/
  | fabricAmo (op : AmoOp) (x : Xact)
  /-- LOAD_RESERVED (R645): A load-reserved reserves its 64-byte line at DRAM or secure SRAM, or is a plain read elsewhere. -/
  | loadReserved (hart : Nat) (x : Xact)
  /-- STORE_CONDITIONAL (R645): A store-conditional succeeds only under an unbroken reservation and clears it. -/
  | storeConditional (hart : Nat) (x : Xact)
  /-- REGULATOR_REFILL (R133): Every microsecond each regulator refills its guarantee and ceiling buckets and releases withheld transactions. -/
  | regulatorRefill
  /-- ARBITRATION_AGING (R137): A transaction waiting 2048 beats at an arbitration point is raised by one class. -/
  | arbitrationAging (index : Nat)
  /-- TOLL (R184): TOLL checks its target and enters the secure world in S-mode at the entry point. -/
  | toll (hart : Nat) (word : U32)
  /-- TOLLRET (R185): TOLLRET returns to normal-world HS-mode at TOLLEPC and closes the call. -/
  | tollret (hart : Nat)
  /-- MRET (R176): mret returns to the world in MWORLD.MPW and the saved privilege mode. -/
  | mret (hart : Nat)
  /-- SRET (R177): sret returns within the current world. -/
  | sret (hart : Nat)
  /-- TRAP_ENTRY (R176): A trap enters M-mode in the secure world or a delegated S-mode, saving the previous world. -/
  | trapEntry (hart : Nat) (cause tval pc : U64)
  /-- INTERRUPT_TAKE (R188): A hart takes a pending enabled interrupt under the world rules. -/
  | interruptTake (hart : Nat) (cause : Nat)
  /-- FENCE (R122): A hart FENCE completes after every earlier non-posted transaction has been answered. -/
  | fence (hart : Nat)
  /-- FENCE_I (R150): FENCE.I orders the executing hart's instruction stream. -/
  | fenceI (hart : Nat)
  /-- MWORLD_WRITE (R192): A write to MWORLD sets MPW and TOLLEN and sets SCOUNT only in DEVELOP. -/
  | mworldWrite (hart : Nat) (value : U64)
  /-- L1_PARITY_ERROR (R151): An L1 parity error invalidates the line, refetches it and is counted. -/
  | l1ParityError (hart : Nat)
  /-- L2_CORRECTABLE_ERROR (R151): A single-bit L2 error is corrected and counted. -/
  | l2CorrectableError (cluster : Nat)
  /-- L2_UNCORRECTABLE_ERROR (R151): A multi-bit L2 error poisons the line, raises source 193 and is logged. -/
  | l2UncorrectableError (cluster : Nat) (line : A40)
  /-- POISONED_LINE_CONSUMED (R151): A hart consuming poisoned data takes a load or instruction access fault. -/
  | poisonedLineConsumed (hart : Nat) (fetch : Bool) (addr : PoisonUse) (pc : U64)
  /-- DEBUG_MODE_ENTRY (R163): A pair enters debug mode and its comparison is suspended. -/
  | debugModeEntry (entry : DebugEntry)
  /-- DEBUG_RESUME (R164): A halted pair resumes and runs on without its checker. -/
  | debugResume (pair : Nat)
  /-- DEBUG_ACCESS_REGISTER (R161): The debug module executes an Access Register abstract command on a halted hart. -/
  | debugAccessRegister (hart : Nat) (command : U32)
  /-- DEBUG_SYSTEM_BUS_ACCESS (R161): The debug module performs a system bus access with the rights of the life-cycle state. -/
  | debugSystemBusAccess (write : Bool) (addr : U64) (size : Nat) (data : U64)
  /-- STALL_DOORBELL (R224): A write to REQ_DOORBELL captures the request area and queues the request. -/
  | stallDoorbell (stall : Nat) (attr : Attr)
  /-- STALL_RELEASE (R224): A write to RSP_RELEASE frees the response area and writes the next queued notice. -/
  | stallRelease (stall : Nat) (attr : Attr)
  /-- STALL_REQUEST_AREA_WRITE (R220): A write to the request area while a request is captured is answered TERR. -/
  | stallRequestAreaWrite (stall : Nat) (x : Xact)
  /-- UDP_DATAGRAM_DROP (R244): A UDP datagram with bad magic, unknown session, failed tag or stale counter is dropped and counted. -/
  | udpDatagramDrop
  /-- SESSION_SETUP_TIMEOUT (R245): A set-up still pending 10 s after its step 2 is discarded. -/
  | sessionSetupTimeout (slot : Nat)
  /-- SESSION_IDLE_TIMEOUT (R247): A session without a valid datagram for 30 s closes. -/
  | sessionIdleTimeout (slot : Nat)
  /-- SVC_LOCKOUT_END (R246): The 10-minute lockout after repeated DENIED set-ups ends. -/
  | svcLockoutEnd
  /-- REMOTE_REQUEST_RELAY (R238): A REMOTE request passing local checks is relayed to the partner's stall 3. -/
  | remoteRequestRelay (rq : Request)
  /-- PARTNER_REQUEST_ARRIVE (R240): A relayed request from the partner is placed in stall 3 when it is free. -/
  | partnerRequestArrive (rq : Request)
  /-- REMOTE_RESPONSE_RETURN (R238): The partner's response or notice returns to the originating stall with REMOTE set. -/
  | remoteResponseReturn (stall : Nat) (rsp : Response)
  /-- REMOTE_TIMEOUT (R239): No response to a REMOTE request within 100 ms; FAR_ERROR is answered. -/
  | remoteTimeout (stall : Nat)
  /-- HANDLE_RETIRE_COMPLETE (R237): Every engine reports its contexts of a retiring handle cleared; the handle becomes FREE. -/
  | handleRetireComplete (handle : U32)
  /-- HANDLE_RETIRE_TIMEOUT (R237): An engine has not cleared a retiring handle in 10 ms; ENGINE_WEDGED follows. -/
  | handleRetireTimeout (handle : U32) (unit : Nat)
  /-- SESSION_OPEN (R244): Opens a service session set-up with the tool's ephemeral key and a credential number. -/
  | sessionOpen (rq : Request)
  /-- SESSION_AUTH (R245): Completes a pending set-up with the credential signature and opens the session. -/
  | sessionAuth (rq : Request)
  /-- SESSION_CLOSE (R247): Closes the service session. -/
  | sessionClose (rq : Request)
  /-- HANDLE_QUERY (R236): Reports the state, security attribute and binding of a handle. -/
  | handleQuery (rq : Request)
  /-- HANDLE_DESTROY (R261): Destroys a handle, moving it to RETIRING. -/
  | handleDestroy (rq : Request)
  /-- HANDLE_BIND_IRQ (R529): Changes the interrupt binding of a handle for later MSIs. -/
  | handleBindIrq (rq : Request)
  /-- TIMER_CREATE (R115): Grants a timer comparator as a handle and returns its page address. -/
  | timerCreate (rq : Request)
  /-- PENDING_QUERY (R259): Reports the state and final status of a PENDING command of the route. -/
  | pendingQuery (rq : Request)
  /-- RESULT_READ (R260): Reads a part of the route's result buffer. -/
  | resultRead (rq : Request)
  /-- INSTANCE_CREATE (R512): Creates a guest instance and applies its share vector. -/
  | instanceCreate (rq : Request)
  /-- INSTANCE_DESTROY (R525): Begins destruction of a guest instance, returning PENDING. -/
  | instanceDestroy (rq : Request)
  /-- INSTANCE_DESTROY_COMPLETE (R525): All handles of the destroyed instance are FREE; shares return to the pool and the ID becomes free. -/
  | instanceDestroyComplete (inst : Nat)
  /-- INSTANCE_RESET (R521): Begins the instance reset sequence in every engine holding a context of the instance. -/
  | instanceReset (rq : Request)
  /-- INSTANCE_RESET_DRAIN_END (R521): The 1 ms drain limit of an instance reset ends; remaining work aborts with ABORTED_RESET. -/
  | instanceResetDrainEnd (inst : Nat)
  /-- INSTANCE_RESET_COMPLETE (R521): Every engine reports its contexts cleared; the instance is LIVE again and the notice is sent. -/
  | instanceResetComplete (inst : Nat)
  /-- SHARE_CHANGE (R514): Grows or shrinks an instance's shares by kind. -/
  | shareChange (rq : Request)
  /-- FN_DISABLE (R518): Disables a function of an instance and begins its drain. -/
  | fnDisable (rq : Request)
  /-- FN_DISABLE_DRAIN_TIMEOUT (R518): The drain timeout ends and work still pending aborts with FN_DISABLED. -/
  | fnDisableDrainTimeout (inst : Nat)
  /-- FN_DISABLE_COMPLETE (R518): The last item of a drain completes and the FN_DISABLE notice is sent. -/
  | fnDisableComplete (inst : Nat)
  /-- FN_ENABLE (R519): Re-enables a disabled function of an instance. -/
  | fnEnable (rq : Request)
  /-- STALL_ASSIGN (R224): Assigns a stall of 4 to 63 to an instance with its interrupt binding. -/
  | stallAssign (rq : Request)
  /-- STALL_WITHDRAW (R224): Withdraws a stall assignment and closes the stall. -/
  | stallWithdraw (rq : Request)
  /-- GUEST_FILE_BIND (R528): Binds or unbinds an IMSIC guest file to an instance. -/
  | guestFileBind (rq : Request)
  /-- INSTANCE_QUERY (R527): Reports an instance's state, shares and live handle count. -/
  | instanceQuery (rq : Request)
  /-- QUEUE_PAIR_CREATE (R310): Creates a queue pair on I0 or I1 and returns its queue page. -/
  | queuePairCreate (rq : Request)
  /-- FLOW_CREATE (R304): Adds a flow table entry with optional policer and stream. -/
  | flowCreate (rq : Request)
  /-- GATE_LIST_SET (R342): Loads a new or replacing gate control list with its change time. -/
  | gateListSet (rq : Request)
  /-- PORT_CONFIG (R265): Sets a port's enable, options, watermarks and maximum frame. -/
  | portConfig (rq : Request)
  /-- PORT_STATS (R366): Returns the counters of a port. -/
  | portStats (rq : Request)
  /-- MACSEC_SA_SET (R362): Installs a MACsec association key from a key node. -/
  | macsecSaSet (rq : Request)
  /-- MARKET_STATUS (R289): Returns the share, used, refusal and push-out fields of an account. -/
  | marketStatus (rq : Request)
  /-- CAN_SET_CREATE (R267): Creates a CAN object set on a channel and zeroes its objects. -/
  | canSetCreate (rq : Request)
  /-- CAN_CHANNEL_CONFIG (R267): Sets a CAN channel's formats, mode and bit timing. -/
  | canChannelConfig (rq : Request)
  /-- CAN_CONFIG_APPLY (R393): At the end of the frame in progress the channel applies its configuration and awaits 11 recessive bits. -/
  | canConfigApply (chan : Nat)
  /-- CAN_RECOVER (R393): Requests recovery of a channel in BUS_OFF_WAIT. -/
  | canRecover (rq : Request)
  /-- CAN_WAKE_FILTER (R373): Sets the selective-wake filter of C0 to C7. -/
  | canWakeFilter (rq : Request)
  /-- CAN_SCHEDULE_SET (R391): Loads a schedule matrix on C0 or C1 with its change time. -/
  | canScheduleSet (rq : Request)
  /-- LIN_CREATE (R413): Creates a LIN channel handle in commander or responder role. -/
  | linCreate (rq : Request)
  /-- LIN_SCHEDULE_SET (R415): Loads a LIN schedule table. -/
  | linScheduleSet (rq : Request)
  /-- GW_RULE_SET (R400): Writes a gateway rule atomically. -/
  | gwRuleSet (rq : Request)
  /-- GW_RULE_CLEAR (R268): Frees a gateway rule. -/
  | gwRuleClear (rq : Request)
  /-- GW_STATS (R411): Returns a rule's matched, forwarded and dropped counts. -/
  | gwStats (rq : Request)
  /-- LOAD_GROUP_CREATE (R442): Creates a load channel group over a mask of channels. -/
  | loadGroupCreate (rq : Request)
  /-- LOAD_CHANNEL_CONFIG (R269): Applies a channel record of protection, reset policy, PWM and wire parameters. -/
  | loadChannelConfig (rq : Request)
  /-- LOAD_SET (R270): Writes masked channel entries into the owner's output image page. -/
  | loadSet (rq : Request)
  /-- LOAD_LATCH_CLEAR (R271): Clears named protection latches of a channel. -/
  | loadLatchClear (rq : Request)
  /-- LOAD_STATUS (R272): Returns a record per channel of the group. -/
  | loadStatus (rq : Request)
  /-- INPUT_GROUP_CREATE (R503): Creates an input group and returns its page. -/
  | inputGroupCreate (rq : Request)
  /-- INPUT_CONFIG (R496): Sets an input's wetting current or range, debounce or window, and edges. -/
  | inputConfig (rq : Request)
  /-- MODE_REQUEST (R273): Requests RUN, PARTIAL or SAFE. -/
  | modeRequest (rq : Request)
  /-- START_GOOD (R86): The manager's start-good command completes START and enters the target mode. -/
  | startGood (rq : Request)
  /-- SLEEP_ORDER (R421): Opens a sleep order and enters ORDERED. -/
  | sleepOrder (rq : Request)
  /-- WAKE_CONFIG (R428): Stores arm flag, target mode and false-wake timeout of a wake source. -/
  | wakeConfig (rq : Request)
  /-- WAKE_STATUS (R439): Returns last wake source, false-wake count and quarantine mask. -/
  | wakeStatus (rq : Request)
  /-- BLOCK_POWER (R203): Requests a block on or off under the block power state machine. -/
  | blockPower (rq : Request)
  /-- KEEP_VOTE (R203): Places a secure keep-vote on a block. -/
  | keepVote (rq : Request)
  /-- KEEP_RELEASE (R203): Removes a secure keep-vote from a block. -/
  | keepRelease (rq : Request)
  /-- BLOCK_STATUS (R276): Returns a block's power state, vote count and held off request. -/
  | blockStatus (rq : Request)
  /-- CHECKER_LOCK (R193): Locks the secure SRAM and carve-out checker regions. -/
  | checkerLock (rq : Request)
  /-- SECURE_CLAIM (R196): Marks a pin secure at run time. -/
  | secureClaim (rq : Request)
  /-- SECURE_RELEASE (R196): Releases a secure pin at run time. -/
  | secureRelease (rq : Request)
  /-- RESET_REQUEST (R251): Requests a module reset through an RST_REQ_N pulse after a ledger entry. -/
  | resetRequest (rq : Request)
  /-- RECOVERY_RELEASE (R89): Sets the trial flag and pulses RST_REQ_N to leave RECOVERY. -/
  | recoveryRelease (rq : Request)
  /-- KEY_DERIVE (R539): Opens or creates a key node under a parent and issues its handle. -/
  | keyDerive (rq : Request)
  /-- KEY_INVALIDATE (R542): Invalidates a key node, orphaning its subtree. -/
  | keyInvalidate (rq : Request)
  /-- KEY_SIGN (R553): Starts a signature over a digest with a signing key node. -/
  | keySign (rq : Request)
  /-- KEY_SIGN_COMPLETE (R553): The key store finishes the signature and the result is placed in the result buffer. -/
  | keySignComplete
  /-- ATTEST (R551): Starts the generation of an attestation token over a nonce. -/
  | attest (rq : Request)
  /-- ATTEST_COMPLETE (R551): The doubly signed token is complete and placed in the result buffer. -/
  | attestComplete
  /-- RING_CREATE (R555): Creates a cipher ring with its bandwidth and returns its page. -/
  | ringCreate (rq : Request)
  /-- HEALTH_QUERY (R603): Returns the health record. -/
  | healthQuery (rq : Request)
  /-- SAFETY_STATUS (R279): Returns lock-step and SAFE status. -/
  | safetyStatus (rq : Request)
  /-- LEDGER_READER_CREATE (R610): Creates a ledger reader with class mask and start sequence. -/
  | ledgerReaderCreate (rq : Request)
  /-- LEDGER_READ (R609): Returns committed ledger entries and advances the reader. -/
  | ledgerRead (rq : Request)
  /-- UPDATE_BEGIN (R614): Begins staging an image into the target's inactive slot. -/
  | updateBegin (rq : Request)
  /-- UPDATE_DATA (R281): Writes the next bytes of the staged image. -/
  | updateData (rq : Request)
  /-- UPDATE_COMMIT (R281): Starts authentication and commit of the staged image. -/
  | updateCommit (rq : Request)
  /-- UPDATE_COMMIT_COMPLETE (R281): Authentication ends; the slot becomes PENDING or the commit is refused, and a restart may follow. -/
  | updateCommitComplete (ownerEc ownerPq : List Byte) (cfg : Machine.StoredCfg) (record : Machine.SvcRecord)
  /-- UPDATE_ABORT (R281): Abandons the staged update. -/
  | updateAbort (rq : Request)
  /-- LIFECYCLE_SET (R619): Requests an authorised life-cycle transition. -/
  | lifecycleSet (rq : Request)
  /-- LIFECYCLE_TRANSITION_COMMIT (R620): The new state and count are written, the notice sent and RST_REQ_N pulsed. -/
  | lifecycleTransitionCommit
  /-- DEBUG_OPEN (R48): Opens or closes the debug port in SERVICE. -/
  | debugOpen (rq : Request)
  /-- PASS_WINDOW_OPEN (R580): Opens a Pass window onto the partner's address space. -/
  | passWindowOpen (rq : Request)
  /-- PASS_ERROR_CLEAR (R591): Sends a clear marker and clears the window's sticky error once acknowledged. -/
  | passErrorClear (rq : Request)
  /-- PAIR_STATUS (R578): Returns role, link, partner state and sideband vectors. -/
  | pairStatus (rq : Request)
  /-- SIDEBAND_WRITE (R576): Sets manager bits 128 to 255 of the own sideband vector. -/
  | sidebandWrite (rq : Request)
  /-- PARTNER_RESET (R599): Pulses PARTNER_RST_N after a ledger entry. -/
  | partnerReset (rq : Request)
  /-- FRAME_INGRESS (R301): A whole frame from a MAC or internal port is classified, looked up, policed and admitted or dropped. -/
  | frameIngress (port : Nat) (f : RawFrame)
  /-- CUT_THROUGH_START (R287): After 128 bytes a qualifying frame is cut through via the express SRAM. -/
  | cutThroughStart (port : Nat) (f : RawFrame)
  /-- MULTICAST_SERVICE (R305): A multicast frame at its queue head is sent to ready destinations and residue entries are made for the others. -/
  | multicastService (port cls : Nat) (ready : BitVec 30)
  /-- EGRESS_TRANSMIT_START (R338): At a transmission opportunity the port selects the highest eligible class and starts a frame. -/
  | egressTransmitStart (point : TxPoint)
  /-- FRAME_EGRESS_COMPLETE (R306): The last copy of a frame has left and its cells are freed from its account. -/
  | frameEgressComplete (port frame : Nat) (fcsBad : Bool)
  /-- LINK_UP (R328): A port's PHY reports link up. -/
  | linkUp (port : Nat)
  /-- LINK_DOWN (R331): A port's link goes down and is reported to the switch within 10 µs. -/
  | linkDown (port : Nat)
  /-- PAUSE_FRAME_RECEIVE (R337): A received pause or PFC frame stops transmission for its quanta. -/
  | pauseFrameReceive (port : Nat) (pfc : Bool) (enables : Byte) (quanta : List U16)
  /-- PAUSE_EXPIRY (R337): A received pause time runs out and transmission resumes. -/
  | pauseExpiry (port : Nat) (classes : Byte)
  /-- PAUSE_REFRESH (R336): While flow control stays asserted, the pause frame is repeated every refresh period. -/
  | pauseRefresh (port : Nat)
  /-- GATE_ENTRY_ADVANCE (R342): A gate list interval ends and the next entry's gate states take effect. -/
  | gateEntryAdvance (port : Nat)
  /-- GATE_LIST_SWITCHOVER (R343): At the change time the new gate list takes effect at entry 0. -/
  | gateListSwitchover (port : Nat)
  /-- PREEMPT_VERIFY_RESPONSE (R348): The link partner responds to verification and preemption becomes active. -/
  | preemptVerifyResponse (port : Nat)
  /-- PREEMPT_VERIFY_TIMEOUT (R348): A verify attempt times out; after 3 failures VERIFY reads failed. -/
  | preemptVerifyTimeout (port : Nat)
  /-- POLICER_REFILL (R351): Every microsecond each policer bucket gains its rate share. -/
  | policerRefill
  /-- FRER_RECOVERY_TIMEOUT (R354): No frame passed for RESET_MS; the recovery resets. -/
  | frerRecoveryTimeout (stream : Nat)
  /-- PTP_MESSAGE_RECEIVE (R355): The time-aware bridge takes an 802.1AS message and the servo acts on it. -/
  | ptpMessageReceive (port : Nat) (m : PtpMessage)
  /-- PTP_SYNC_TIMEOUT (R357): Three sync intervals pass without a sync and GSTATE becomes holdover. -/
  | ptpSyncTimeout
  /-- PTP_TRANSMIT_TIMER (R357): A sync, announce or peer delay interval expires and the message is sent. -/
  | ptpTransmitTimer (port : Nat) (kind : PtpKind)
  /-- PLCA_BEACON_LOST (R358): A following T1S segment loses the beacon and falls back to CSMA/CD. -/
  | plcaBeaconLost (port : Nat)
  /-- PLCA_BEACON_RETURN (R358): Beacons return and the segment resumes PLCA. -/
  | plcaBeaconReturn (port : Nat)
  /-- PLCA_TRANSMIT_OPPORTUNITY (R359): At its transmit opportunity the T1S MAC applies selection or yields. -/
  | plcaTransmitOpportunity (port : Nat)
  /-- TC10_SLEEP_REQUEST_RECEIVE (R418): A link partner's TC10 sleep request is accepted or rejected by the sleep role and phase. -/
  | tc10SleepRequestReceive (port : Nat)
  /-- QP_TX_TAIL_WRITE (R313): A write to QP_TX_TAIL rings the transmit doorbell of a queue pair. -/
  | qpTxTailWrite (qp : Nat) (attr : Attr) (value : U16)
  /-- QP_RX_TAIL_WRITE (R313): A write to QP_RX_TAIL posts receive descriptors. -/
  | qpRxTailWrite (qp : Nat) (attr : Attr) (value : U16)
  /-- QP_TX_DESCRIPTOR_PROCESS (R314): The queue engine reads a transmit descriptor and buffer and presents the frame for admission. -/
  | qpTxDescriptorProcess (qp : Nat)
  /-- QP_RX_COPY (R315): The head of a receive list is copied into a posted descriptor and completed. -/
  | qpRxCopy (qp : Nat)
  /-- INST_DB_WRITE (R532): A write to an instance doorbell port sets a ring tail or is refused and counted. -/
  | instDbWrite (x : Xact)
  /-- CAN_FRAME_RECEIVED (R384): A frame from another node ends without error and is filtered into objects of each set. -/
  | canFrameReceived (chan : Nat) (f : CanFrame)
  /-- CAN_PROTOCOL_EXCEPTION (R370): A frame in a disabled format makes the channel enter bus integration and count it. -/
  | canProtocolException (chan : Nat) (f : CanFrame)
  /-- CAN_TX_START (R387): At a start of frame the channel picks the winning candidate among send objects and the gateway head. -/
  | canTxStart (sof : CanSof)
  /-- CAN_TX_SUCCESS (R383): A frame is sent and acknowledged and its request completes. -/
  | canTxSuccess (chan : Nat)
  /-- CAN_ARBITRATION_LOST (R383): A frame loses arbitration and returns to selection or completes as one-shot. -/
  | canArbitrationLost (chan : Nat)
  /-- CAN_BUS_ERROR (R393): An error changes TEC or REC and may move the channel's fault-confinement state. -/
  | canBusError (chan : Nat) (fault : CanFault) (more : Nat) (spared : Bool)
  /-- CAN_RECESSIVE_SEQUENCE (R393): Eleven recessive bits raise the bus-off recovery count, ending recovery at 128. -/
  | canRecessiveSequence (chan : Nat)
  /-- OBJ_TX_REQ_WRITE (R383): Setting TX_REQ requests transmission of a send object. -/
  | objTxReqWrite (chan obj : Nat) (attr : Attr)
  /-- OBJ_TX_ABORT_WRITE (R383): Setting TX_ABORT aborts a pending request. -/
  | objTxAbortWrite (chan obj : Nat) (attr : Attr)
  /-- OBJ_UPD_WRITE (R392): A write of UPD defers or releases the schedule matrix's request for the object. -/
  | objUpdWrite (chan obj : Nat) (attr : Attr) (upd : Bool)
  /-- OBJ_CONFIG_WRITE (R383): A write to an object's configuration or data is refused with TERR while TX_PEND is 1. -/
  | objConfigWrite (chan obj : Nat) (x : Xact)
  /-- OBJ_RX_ID_READ (R385): A read of OBJ_RX_ID takes or renews the object's read lock. -/
  | objRxIdRead (chan obj : Nat) (attr : Attr)
  /-- OBJ_RX_END_READ (R385): A read of OBJ_RX_END releases the lock and clears NEW, LOST and FRAMES or reports EXPIRED. -/
  | objRxEndRead (chan obj : Nat) (attr : Attr)
  /-- CAN_LOCK_EXPIRY (R385): A receive object's read lock times out. -/
  | canLockExpiry (chan obj : Nat)
  /-- MAP_TXDONE_WRITE (R397): A W1C write to MAP_TXDONE also clears TX_DONE of the owned objects. -/
  | mapTxdoneWrite (chan word : Nat) (attr : Attr) (value : U32)
  /-- CAN_SCHEDULE_COLUMN (R390): A schedule column starts and each cell raises, defers, skips or counts its request. -/
  | canScheduleColumn (chan : Nat)
  /-- CAN_SCHEDULE_CHANGE (R391): At its change time a new schedule matrix takes effect. -/
  | canScheduleChange (chan : Nat)
  /-- GATEWAY_TAP (R401): A tapped CAN, LIN or ACF frame is matched against the rules and each matching rule acts. -/
  | gatewayTap (src : TapSource)
  /-- GATEWAY_ETH_FRAME (R399): A frame from port GW is decapsulated or discarded as unparsed. -/
  | gatewayEthFrame (frame : Nat)
  /-- GATEWAY_BATCH_HOLD_EXPIRY (R407): The batch hold of a batching rule expires and its NTSCF frame is sent. -/
  | gatewayBatchHoldExpiry (rule : Nat)
  /-- GATEWAY_QUEUE_AGE_EXPIRY (R409): A gateway queue entry older than AGE_MS is dropped. -/
  | gatewayQueueAgeExpiry (chan entry : Nat)
  /-- LIN_SLOT_START (R415): A commander's schedule slot starts and its header is sent or the slot stays silent. -/
  | linSlotStart (chan : Nat)
  /-- LIN_HEADER_RECEIVED (R413): A responder receives a header and publishes, subscribes or ignores. -/
  | linHeaderReceived (chan : Nat) (id : Nat)
  /-- LIN_RESPONSE_RECEIVED (R414): A response with valid checksum is stored in its subscribe buffer. -/
  | linResponseReceived (chan : Nat) (bytes : List Byte)
  /-- LIN_FRM_DATA_HI_WRITE (R414): A write of the high data word of a publish buffer raises SEQ and sets UPDATED. -/
  | linFrmDataHiWrite (chan id : Nat) (attr : Attr) (value : U32)
  /-- LIN_FRM_STAT_READ (R414): A read of LIN_FRM_STAT clears UPDATED. -/
  | linFrmStatRead (chan id : Nat) (attr : Attr)
  /-- LIN_GOTO_SLEEP_WRITE (R415): Setting GOTO_SLEEP sends go-to-sleep in the next slot and enters bus sleep. -/
  | linGotoSleepWrite (chan : Nat) (attr : Attr)
  /-- LIN_WAKE_WRITE (R413): Setting WAKE sends a 1 ms wake-up pulse. -/
  | linWakeWrite (chan : Nat) (attr : Attr)
  /-- LIN_SCHED_SEL_WRITE (R415): A write of SCHED_SEL switches table at the end of the current slot. -/
  | linSchedSelWrite (chan : Nat) (attr : Attr) (value : BitVec 2)
  /-- LIN_GOTO_SLEEP_RECEIVED (R419): A responder receives its commander's go-to-sleep command and enters bus sleep. -/
  | linGotoSleepReceived (chan : Nat)
  /-- LIN_BUS_IDLE_TIMEOUT (R413): After 4 s of inactivity the channel enters bus sleep. -/
  | linBusIdleTimeout (chan : Nat)
  /-- LIN_WAKEUP_DETECTED (R413): A dominant level over 150 µs is detected as a wake-up. -/
  | linWakeupDetected (chan : Nat)
  /-- SLEEP_PREPARATIONS_ISSUED (R421): ORDERED ends: MASTER ports send TC10 sleep and commander LIN channels receive GOTO_SLEEP. -/
  | sleepPreparationsIssued
  /-- DRAIN_CONDITIONS_MET (R422): All drain conditions hold and the commit step is taken. -/
  | drainConditionsMet
  /-- DRAIN_LIMIT_EXPIRY (R421): DRAINING reaches 200 ms; remaining ports and channels are cut and the commit step is taken. -/
  | drainLimitExpiry
  /-- COMMITTED_DOMAINS_OFF (R421): All domains outside the always-on domain are off and the module enters SLEEP. -/
  | committedDomainsOff
  /-- SLEEP_DWELL_END (R425): The 5 ms dwell ends with a wake latched and a start from SLEEP begins. -/
  | sleepDwellEnd
  /-- WAKE_EVENT (R429): An armed, unquarantined wake source fires and is latched or acted on by mode and phase. -/
  | wakeEvent (fires : List WakeFire)
  /-- WAKE_CONFIRMATION (R432): A confirmation closes the confirmation window confirmed. -/
  | wakeConfirmation
  /-- FALSE_WAKE_TIMEOUT (R433): No confirmation within the timeout; the wake is false and Amind orders sleep itself. -/
  | falseWakeTimeout
  /-- QUARANTINE_END (R434): A source's one-hour quarantine ends. -/
  | quarantineEnd (source : Nat)
  /-- LOAD_OUT_WRITE (R445): A write to an output image entry commands an owned channel or is counted as ignored. -/
  | loadOutWrite (page chan : Nat) (attr : Attr) (mask value : U32)
  /-- LOAD_ON_SET_WRITE (R446): A write to LOAD_ON_SET switches named owned channels on in one cycle. -/
  | loadOnSetWrite (page : Nat) (attr : Attr) (mask : U64)
  /-- LOAD_ON_CLR_WRITE (R446): A write to LOAD_ON_CLR switches named owned channels off in one cycle. -/
  | loadOnClrWrite (page : Nat) (attr : Attr) (mask : U64)
  /-- SOFT_START_COMPLETE (R482): A channel's soft-start ramp completes and it enters ON. -/
  | softStartComplete (chan : Nat)
  /-- OVERCURRENT_TRIP (R473): Current above the level for the filter time trips the channel into a retry pause or latch. -/
  | overcurrentTrip (trip : TripPoint)
  /-- RETRY_PAUSE_END (R474): A retry pause ends and the channel is re-evaluated. -/
  | retryPauseEnd (chan : Nat)
  /-- RETRY_GOOD_TIMER (R475): After 1 s in ON without a trip the retry count returns to 0. -/
  | retryGoodTimer (chan : Nat)
  /-- FET_TEMPERATURE_SAMPLE (R470): Every 50 µs the FET temperature is evaluated against the thermal trip and restart thresholds. -/
  | fetTemperatureSample (chan : Nat) (temp : Int)
  /-- WIRE_MODEL_UPDATE (R476): Every 1 ms the wire temperature model is updated. -/
  | wireModelUpdate (chan : Nat) (rms mean onCur : Nat)
  /-- INRUSH_WINDOW_END (R471): The 20 ms inrush window closes and the normal over-current level applies. -/
  | inrushWindowEnd (chan : Nat)
  /-- HOLD_WINDOW_EXPIRY (R455): A hold window expires and the safe value is applied. -/
  | holdWindowExpiry (chan : Nat)
  /-- LIMP_SWITCH_ON (R458): 150 ms after power-on reset release, without delivered configuration, limp channels switch on. -/
  | limpSwitchOn
  /-- OFF_STATE_TEST_START (R452): Every 100 ms a static-off channel with OL_EN samples for short to supply and connects its pull-up. -/
  | offStateTestStart (chan : Nat) (mv : Nat)
  /-- OFF_STATE_TEST_END (R452): After 2 ms the open-load test is judged and the pull-up disconnected. -/
  | offStateTestEnd (chan : Nat) (mv : Nat)
  /-- UNDERCURRENT_TIMER (R451): On-time current below or above the class threshold for 100 ms sets or clears UNDERCUR. -/
  | undercurrentTimer (chan : Nat) (below : Bool)
  /-- REVERSE_CURRENT_BLOCK (R463): On H0 to H3 reverse current opens the reverse FET and sets REV_BLOCK. -/
  | reverseCurrentBlock (chan : Nat)
  /-- REVERSE_BLOCK_CLEAR (R463): The output falls 20 mV below VBUS and the forward path closes again. -/
  | reverseBlockClear (chan : Nat)
  /-- GROUP_MSI_RATE_TIMER (R448): The 1 ms group MSI interval ends and collected LOAD_RB changes are reported. -/
  | groupMsiRateTimer (group : Nat)
  /-- LOAD_SHED (R489): Amind sheds channels by rank when a feed is lost or current or dissipation exceeds the budget. -/
  | loadShed
  /-- LOAD_RESTORE (R490): With the cause absent for 1 s, one shed channel is restored every 10 ms. -/
  | loadRestore
  /-- POWER_STAGE_SHED (R491): A feed above 175 A for 50 ms makes the power stage shed one channel every 10 ms. -/
  | powerStageShed (feed : Bool)
  /-- DEBOUNCE_COMPLETE (R495): A D input's raw value has appeared in D consecutive samples and the debounced level changes. -/
  | debounceComplete (input : Nat) (samples : List Nat) (time : U64)
  /-- ANALOG_THRESHOLD_CHANGE (R498): A V input's value crosses its threshold pair and ABOVE changes. -/
  | analogThresholdChange (input : Nat) (samples : List Int)
  /-- IN_EVT_CLEAR_WRITE (R505): A W1C write to IN_EVT clears bits and sends an MSI if bits remain set. -/
  | inEvtClearWrite (group : Nat) (attr : Attr) (d : U64) (v : BitVec 24)
  /-- SENSOR_SUPPLY_CURRENT_LIMIT (R502): A sensor supply in current limit for 10 ms switches off and faults. -/
  | sensorSupplyCurrentLimit (supply : Nat)
  /-- SENSOR_SUPPLY_RETRY (R502): A faulted sensor supply tries again after 1 s. -/
  | sensorSupplyRetry (supply : Nat)
  /-- KEY_STORE_ALARM (R564): A key store alarm zeroes every key register and leads to an RST_REQ_N pulse. -/
  | keyStoreAlarm (code : BitVec 3)
  /-- CR_SQ_TAIL_WRITE (R555): A write to CR_SQ_TAIL rings the doorbell of a cipher ring. -/
  | crSqTailWrite (ring : Nat) (attr : Attr) (value : U16)
  /-- JOB_FETCH (R557): The job engine fetches a descriptor and checks fields, handle and node. -/
  | jobFetch (ring : Nat)
  /-- KEY_REGISTER_LOAD (R549): The key store derives a node's key and loads a free engine key register for a waiting job. -/
  | keyRegisterLoad (job : Nat)
  /-- JOB_CHUNK (R558): A job chunk starts once the ring's bucket holds its bytes. -/
  | jobChunk (job : Nat)
  /-- JOB_COMPLETE (R559): A job completes, its record is written and its MSI sent. -/
  | jobComplete (job : Nat)
  /-- RING_BUCKET_REFILL (R558): Every microsecond each cipher ring's bucket gains its bandwidth share. -/
  | ringBucketRefill
  /-- PASS_LINK_TRAINED (R571): Link training completes and the Pass link enters full operation. -/
  | passLinkTrained (sameRole : Bool) (lanes : BitVec 4)
  /-- PASS_LANE_FAIL (R571): A lane fails and the link retrains on the remaining lanes. -/
  | passLaneFail (lane : Nat)
  /-- PASS_LANE_RETRY (R571): Every 1 s failed lanes are tried again. -/
  | passLaneRetry (lanes : BitVec 4)
  /-- ROLE_CLASH_RETRY (R570): After a role clash training is tried again every 1 s. -/
  | roleClashRetry
  /-- HEARTBEAT_SEND (R574): Every 100 µs the module sends a heartbeat with its vector. -/
  | heartbeatSend
  /-- SIDEBAND_SEND (R574): Every 2 µs in full operation the module sends its sideband vector. -/
  | sidebandSend
  /-- HEARTBEAT_RECEIVE (R578): A heartbeat arrives and may move the partner state to ALIVE. -/
  | heartbeatReceive (seq : U16) (vector : BitVec 256)
  /-- SIDEBAND_RECEIVE (R576): A received vector updates the partner copy and change bits. -/
  | sidebandReceive (vector : BitVec 256)
  /-- HEARTBEAT_LOSS (R578): 500 µs without a heartbeat moves the partner state to DOWN or CUT. -/
  | heartbeatLoss
  /-- PARTNER_STARTUP_TIMEOUT (R578): 20 ms after own step 5 without a heartbeat the partner state becomes DOWN or CUT. -/
  | partnerStartupTimeout
  /-- PARTNER_FAULT_CHANGE (R577): The filtered PARTNER_FAULT_N level changes and may move the partner state. -/
  | partnerFaultChange (low : Bool)
  /-- AUTO_PARTNER_RESET (R599): Role A pulses PARTNER_RST_N once the partner has stayed CUT for 100 ms. -/
  | autoPartnerReset
  /-- PASS_WINDOW_READ (R586): A read or reissue into a Pass window takes a slot, is answered RETRY or receives data or FERR. -/
  | passWindowRead (x : Xact)
  /-- PASS_READ_DATA_ARRIVE (R586): The partner's data or error response for a read slot arrives. -/
  | passReadDataArrive (slot : Nat) (ok : Bool) (data : List Byte)
  /-- PASS_READ_SLOT_TIMEOUT (R586): A WAITING read slot has no answer after 200 µs and becomes ERROR. -/
  | passReadSlotTimeout (slot : Nat)
  /-- PASS_READY_EXPIRY (R586): A READY or ERROR slot without a reissue for 200 µs is freed and READ_EXPIRED raised. -/
  | passReadyExpiry (slot : Nat)
  /-- PASS_NONPOSTED_WRITE (R587): A non-posted write into a window takes a tracker or receives RETRY. -/
  | passNonpostedWrite (x : Xact)
  /-- PASS_WRITE_RESPONSE (R587): The partner's response to a non-posted write arrives. -/
  | passWriteResponse (tracker : Nat) (ok : Bool)
  /-- PASS_WRITE_TIMEOUT (R587): A non-posted write without answer for 200 µs receives FERR. -/
  | passWriteTimeout (tracker : Nat)
  /-- PASS_POSTED_WRITE (R588): A posted write enters the posted buffer or waits at its initiator port. -/
  | passPostedWrite (x : Xact)
  /-- PASS_INBOUND_TRANSACTION (R583): A partner transaction is checked against inbound ranges and issued to the local fabric. -/
  | passInboundTransaction (kind : XKind) (x : Xact) (win : Nat) (origin : Byte)
  /-- PASS_POSTED_FAILURE (R589): An inbound posted write fails; the window is poisoned and an error message returned. -/
  | passPostedFailure (win : Nat) (x : Xact) (origin : Byte) (code : Resp)
  /-- PASS_ERROR_MESSAGE_ARRIVE (R590): The error message sets STICKY, captures the failure and sends the window MSI. -/
  | passErrorMessageArrive (win : Nat) (addr : A40) (origin : Byte) (inst : BitVec 6) (sec : Bool) (code : Resp)
  /-- PASS_CLEAR_MARKER_ARRIVE (R591): A clear marker reaches the partner, which unpoisons the window and acknowledges. -/
  | passClearMarkerArrive (win : Nat)
  /-- PASS_CLEAR_ACK (R591): The acknowledgement arrives; STICKY and the capture are cleared and the command answered. -/
  | passClearAck (win : Nat)
  /-- PASS_LINK_LOSS (R592): The link leaves full operation and open window transactions end with errors. -/
  | passLinkLoss
  /-- HEALTH_SAMPLE (R603): Every 1 ms Amind samples the sensors and raises or clears health sources. -/
  | healthSample (h : Sensors) (feedA feedB : U16)
  /-- REGISTER_WRITE (R6): A write to a register without a row of its own takes effect by its access code. -/
  | registerWrite (w : RegOp)
  /-- CAN_BUS_INTEGRATION (R393): A channel that awaits 11 recessive bits after its configuration is applied, or after a protocol exception, completes bus integration and takes part in traffic. -/
  | canBusIntegration (chan : Nat)
  /-- LIN_RESPONSE_ERROR (R415): A LIN response ends with a checksum, framing or collision error; LIN_FRM_STAT.ERR and the error counter are set, and a collision on an event-triggered entry runs table CRT. -/
  | linResponseError (chan : Nat) (kind : LinError)
  /-- LIN_NO_RESPONSE (R414): A header is left without a response within the frame time; LIN_ERR_CNT.NO_RESP rises and LIN_FRM_STAT.ERR reads no response. -/
  | linNoResponse (chan : Nat)
  /-- IN_WAKE_CHANGE (R507): A WK input or IGN changes level (to inactive, or while unarmed); IN_WAKE is updated and IN_GEVENT.WAKE_CHG is set. -/
  | inWakeChange (wk : List Nat) (ign : Nat)
  /-- VBUS_FUNCTIONAL_RANGE_REACHED (R458): VBUS first reaches the functional range after the 150 ms limp delay, and limp channels switch on at that moment; bank charging begins. -/
  | vbusFunctionalRangeReached (mv : U16)
  /-- ADDRESS_RESOLUTION_REQUEST (R241): Amind receives an ARP or IPv6 neighbour discovery request for its service address and answers it. -/
  | addressResolutionRequest (port : Nat) (asked : IpAddr)
  deriving DecidableEq, Repr

end Sys2Proof
end

