-- ==== Sys2Proof/Decode.lean ====
section
/-! DEFINITION. The only words that the spec encodes: the two instructions of the custom-0 opcode (R181). The opcode table gives no row a
bit pattern; every other row is a command or an event of the module, which arrives as such. -/

namespace Sys2Proof

open Sys2Proof.Machine

/-- A word of the custom-0 opcode: imm[11:0] and rd are 0, funct3 0 is TOLL with its target in rs1, and funct3 1 with rs1 0 is TOLLRET;
every other encoding is illegal (R181). -/
def decodeCustom0 (w : U32) : Custom0 :=
  let rs1 := (w.extractLsb' 15 5).toNat
  if w.extractLsb' 0 7 ≠ 0x0B ∨ w.extractLsb' 20 12 ≠ 0 ∨ w.extractLsb' 7 5 ≠ 0 then .illegal
  else if w.extractLsb' 12 3 = 0 then .toll rs1
  else if w.extractLsb' 12 3 = 1 ∧ rs1 = 0 then .tollret
  else .illegal

/-- A 32-bit word of the custom-0 opcode spells a command of hart 0: the word names no hart (DESIGN CHOICE, log entry 11). No other word
spells a command. -/
def decodeTableWord (nbits w : Nat) : Option Instr :=
  let v := BitVec.ofNat 32 w
  if nbits ≠ 32 ∨ v.extractLsb' 0 7 ≠ 0x0B then none
  else match decodeCustom0 v with
    | .tollret => some (.tollret 0)
    | .toll _ => some (.toll 0 v)
    | .illegal => some (.toll 0 v)

end Sys2Proof
end

