-- ==== Sys2Proof/Machine/State.lean ====
section
/-! DEFINITION. The state of the ZC40 as plain data, its reset, and the reasons a step can stop. -/

namespace Sys2Proof.Machine

open Sys2Proof

/-- Why a step faults. -/
inductive Fault where
  /-- A command names a unit number that the spec does not give the module: raised by every meaning whose operand
  numbers a unit, and by TOLL and the debug commands for a hart above 7. SAFE: nothing is computed. -/
  | noSuchUnit
  deriving DecidableEq, Repr

/-- Why a step is refused. -/
inductive Refusal where
  /-- No meaning has been written yet: raised by the dispatcher alone. SAFE. -/
  | notModelled (mnemonic : String)
  deriving DecidableEq, Repr

/-- The fabric, the harts and the interrupt controllers. -/
structure Core where
  /-- Checker regions of DRAM, by number 0 to 63 (R126). -/
  dramRegions : Tab Region := []
  /-- Checker regions of secure SRAM, by number (R126). -/
  sramRegions : Tab Region := []
  /-- Amind has programmed the checkers of the targets but the two memories; until then each admits Amind alone (R129). -/
  checkers : Bool := false
  /-- CHECKER_LOCK has locked the regions (R193). -/
  locked : Bool := false
  /-- FAB_ERR (R131). -/
  fabErr : FabErr := {}
  /-- Regulators by instance (R133). -/
  regs : Tab Regulator := []
  /-- Transactions withheld or waiting for arbitration, oldest first (R133, R137). -/
  waiting : List Waiting := []
  /-- Harts 0 to 7. -/
  harts : Tab Hart := []
  /-- Pairs P0 to P7. -/
  pairs : Tab Pair := []
  /-- Clusters K0 and K1. -/
  clusters : Tab Cluster := []
  /-- Interrupt files by hart × 17 + file: 0 machine, 1 supervisor, 1 + g guest g (R169). -/
  imsics : Tab Imsic := []
  /-- Instance bound to a guest file, by hart × 16 + file (R171). -/
  guestFiles : Tab Nat := []
  /-- Machine-level APLIC domain. -/
  aplicM : Aplic := {}
  /-- Supervisor-level APLIC domain. -/
  aplicS : Aplic := {}
  /-- Debug module. -/
  dbg : Dbg := {}
  /-- Power-controllable blocks by ID (R199). -/
  blocks : Tab Block := []
  /-- An open transition to PARTIAL (R204). -/
  toPartial : Option PartialReq := none
  /-- A transition from PARTIAL to RUN is in progress, with its requesters (R76). -/
  toRun : Option (List (Nat × U16)) := none
  /-- Application DRAM: bytes written since the last wipe, by address, rising. -/
  dram : List Host.Cell := []
  /-- Wipes of DRAM: which free content an unwritten byte reads as (R91, R563). -/
  dramEpoch : Nat := 0
  /-- Secure SRAM: bytes that are not 0, by address, rising (R91). -/
  sram : List Host.Cell := []
  /-- The last response of the fabric: MODEL'S OWN record. -/
  resp : LastResp := {}
  /-- Free values used so far: MODEL'S OWN counter. -/
  fresh : Nat := 0
  deriving DecidableEq, Repr

/-- Instances, handles, images and the records that Amind keeps. -/
structure Mgmt where
  /-- Stalls, routes, sessions. -/
  amind : Amind := {}
  /-- Handle table. -/
  handles : Handles := {}
  /-- Instances 0 to 62; instance 0 is the manager's own and is always live. -/
  insts : Tab Inst := []
  /-- Ledger and retained buffer. -/
  ledger : Ledger := {}
  /-- Ledger readers by handle index. -/
  readers : Tab Reader := []
  /-- Sensor samples. -/
  health : Health := {}
  /-- Update targets 0 to 3 (R614). -/
  targets : Tab Target := []
  /-- The staged update (R281). -/
  staging : Option Staging := none
  /-- The stored configuration in force, as step 5 applied it. -/
  stored : StoredCfg := {}
  /-- First copy of the service record in Amind's flash, if it is valid: the delivery record (R212, R242, R622). -/
  svcA : Option SvcRecord := some deliveryRecord
  /-- Second copy. -/
  svcB : Option SvcRecord := none
  /-- The second copy is the newer one. -/
  svcNewB : Bool := false
  /-- The service record in force since step 3 of the start (R90, R241, R617). -/
  svc : SvcRecord := deliveryRecord
  /-- Pin codes marked secure (R194). -/
  securePins : List Nat := []
  /-- Pins claimed at run time (R196). -/
  claimed : List Nat := []
  deriving DecidableEq, Repr

/-- The state of the module. -/
structure State where
  /-- Supply, straps, reset pins. -/
  supply : Supply := {}
  /-- Always-on domain: mode and start. -/
  aon : Aon := {}
  /-- Sleep and wake. -/
  sleep : Sleep := {}
  /-- Time base. -/
  tb : TimeBase := {}
  /-- Timer comparators by number (R115). -/
  timers : Tab Comparator := []
  /-- Fabric, harts, interrupts. -/
  core : Core := {}
  /-- Amind's records. -/
  mgmt : Mgmt := {}
  /-- Switch core. -/
  sw : Switch := {}
  /-- Ethernet ports. -/
  eth : Eth := {}
  /-- CAN, gateway, LIN. -/
  bus : Bus := {}
  /-- Power stage. -/
  ps : PowerStage := {}
  /-- Input unit. -/
  inp : Inputs := {}
  /-- Key store. -/
  ks : KeyStore := {}
  /-- Cipher engines. -/
  ce : Cipher := {}
  /-- Pass link. -/
  pass : Pass := {}
  /-- Commands that wait, first in, first out. -/
  pending : List Instr := []
  deriving DecidableEq, Repr

/-- The module as delivered, before its first power-on reset is released: every register at its power-on value, the
queue empty. -/
def State.reset : State := {}

end Sys2Proof.Machine
end

