-- ==== Sys2Proof/Machine/Ops.lean ====
section
/-! DEFINITION. Named operations over the state: unit accessors, memory, interrupts, ledger, responses and notices,
handles. Every meaning is written over these. -/

namespace Sys2Proof.Machine

open Sys2Proof

/-- The outcome of a command. -/
abbrev Out := Host.Outcome State Fault Refusal

/-! ### Parts of the state -/

/-- Change the core. -/
def State.onCore (s : State) (f : Core → Core) : State := { s with core := f s.core }
/-- Change Amind's records. -/
def State.onMgmt (s : State) (f : Mgmt → Mgmt) : State := { s with mgmt := f s.mgmt }
/-- Change Amind. -/
def State.onAmind (s : State) (f : Amind → Amind) : State := s.onMgmt (fun m => { m with amind := f m.amind })
/-- Change the switch. -/
def State.onSw (s : State) (f : Switch → Switch) : State := { s with sw := f s.sw }
/-- Change the Ethernet ports. -/
def State.onEth (s : State) (f : Eth → Eth) : State := { s with eth := f s.eth }
/-- Change the buses. -/
def State.onBus (s : State) (f : Bus → Bus) : State := { s with bus := f s.bus }
/-- Change the gateway. -/
def State.onGw (s : State) (f : Gateway → Gateway) : State := s.onBus (fun b => { b with gw := f b.gw })
/-- Change the power stage. -/
def State.onPs (s : State) (f : PowerStage → PowerStage) : State := { s with ps := f s.ps }
/-- Change the input unit. -/
def State.onInp (s : State) (f : Inputs → Inputs) : State := { s with inp := f s.inp }
/-- Change the key store. -/
def State.onKs (s : State) (f : KeyStore → KeyStore) : State := { s with ks := f s.ks }
/-- Change the cipher engines. -/
def State.onCe (s : State) (f : Cipher → Cipher) : State := { s with ce := f s.ce }
/-- Change the Pass bridge. -/
def State.onPass (s : State) (f : Pass → Pass) : State := { s with pass := f s.pass }
/-- Change the always-on domain. -/
def State.onAon (s : State) (f : Aon → Aon) : State := { s with aon := f s.aon }
/-- Change sleep and wake. -/
def State.onSleep (s : State) (f : Sleep → Sleep) : State := { s with sleep := f s.sleep }
/-- Change the configuration of a source. -/
def State.updWake (s : State) (n : Nat) (f : WakeCfg → WakeCfg) : State :=
  s.onSleep (fun p => { p with cfg := Tab.upd p.cfg n {} f })
/-- AON_WAKE_CFG of a source; IGN is always armed (R428). -/
def State.wakeCfg (s : State) (n : Nat) : WakeCfg :=
  let c := Tab.get s.sleep.cfg n {}
  if n = 8 then { c with arm := true } else c
/-- Change the supply. -/
def State.onSupply (s : State) (f : Supply → Supply) : State := { s with supply := f s.supply }

/-- The module is powered: power-on reset is released. -/
def State.powered (s : State) : Bool := !s.supply.porHeld

/-- TIME_LOCAL. -/
def State.now (s : State) : U64 := s.tb.localT

/-- Nanoseconds in an hour. -/
def oneHour : Nat := 3600000000000

/-- The times of a list that lie within the last hour. -/
def State.inHour (s : State) (l : List U64) : List U64 := l.filter (fun t => s.now.toNat - t.toNat < oneHour)

/-- SAFE_COUNT: SAFE entries in the sliding hour (R98, R104). -/
def State.safeCountNow (s : State) : Nat := min 15 (s.inHour s.aon.safeTimes).length

/-- Hart h. -/
def State.hart (s : State) (h : Nat) : Hart := Tab.get s.core.harts h {}
/-- Pair p. -/
def State.pair (s : State) (p : Nat) : Pair := Tab.get s.core.pairs p {}
/-- Change hart h. -/
def State.updHart (s : State) (h : Nat) (f : Hart → Hart) : State :=
  s.onCore (fun c => { c with harts := Tab.upd c.harts h {} f })
/-- Change pair p. -/
def State.updPair (s : State) (p : Nat) (f : Pair → Pair) : State :=
  s.onCore (fun c => { c with pairs := Tab.upd c.pairs p {} f })
/-- A shared CSR of a hart. -/
def Hart.csrAt (h : Hart) (n : Nat) : U64 := Tab.get h.csr n 0
/-- hgatp.VMID: the instance ID of a guest (R20). -/
def Hart.vmid (h : Hart) : BitVec 6 := (h.csrAt 0x680).extractLsb' 44 6
/-- Regulator of an instance. -/
def State.reg (s : State) (n : Nat) : Regulator := Tab.get s.core.regs n {}
/-- Block b. -/
def State.block (s : State) (b : Nat) : Block := Tab.get s.core.blocks b {}
/-- Change block b. -/
def State.updBlock (s : State) (b : Nat) (f : Block → Block) : State :=
  s.onCore (fun c => { c with blocks := Tab.upd c.blocks b {} f })

/-- Block b is OFF: a handle on it is not created, NO_RESOURCE (R201). The rule names OFF alone, so a block that is QUIESCING or WAKING
refuses none (DEDUCED, log entry 122). -/
def State.blockIsOff (s : State) (b : Nat) : Bool := (s.block b).st = .off

/-- Stall n as a start leaves it: IDLE for 0 to 3, CLOSED for 4 to 63 (R224). -/
def Stall.initial (n : Nat) : Stall := if n < 4 then { st := .idle } else {}
/-- Stall n. -/
def State.stall (s : State) (n : Nat) : Stall := Tab.get s.mgmt.amind.stalls n (Stall.initial n)
/-- Change stall n. -/
def State.updStall (s : State) (n : Nat) (f : Stall → Stall) : State :=
  s.onAmind (fun a => { a with stalls := Tab.put a.stalls n (f (Tab.get a.stalls n (Stall.initial n))) })
/-- The record of a route. -/
def State.route (s : State) (k : Nat) : RouteRec := Tab.get s.mgmt.amind.routes k {}
/-- Change the record of a route. -/
def State.updRoute (s : State) (k : Nat) (f : RouteRec → RouteRec) : State :=
  s.onAmind (fun a => { a with routes := Tab.upd a.routes k {} f })

/-- Instance n; instance 0 is always live (R508). -/
def State.inst (s : State) (n : Nat) : Inst := Tab.get s.mgmt.insts n (if n = 0 then { st := .live } else {})
/-- Change instance n. -/
def State.updInst (s : State) (n : Nat) (f : Inst → Inst) : State :=
  s.onMgmt (fun m => { m with insts := Tab.put m.insts n (f (Tab.get m.insts n (if n = 0 then { st := .live } else {}))) })

/-- Switch port p. -/
def State.swPort (s : State) (p : Nat) : SwPort := Tab.get s.sw.ports p {}
/-- Change switch port p. -/
def State.updSwPort (s : State) (p : Nat) (f : SwPort → SwPort) : State :=
  s.onSw (fun w => { w with ports := Tab.upd w.ports p {} f })
/-- Change the counters of switch port p. -/
def State.cntSw (s : State) (p : Nat) (f : SwCnt → SwCnt) : State :=
  s.updSwPort p (fun u => { u with cnt := f u.cnt })
/-- Ethernet port p. -/
def State.ethPort (s : State) (p : Nat) : EthPort := Tab.get s.eth.ports p {}
/-- Change Ethernet port p. -/
def State.updEthPort (s : State) (p : Nat) (f : EthPort → EthPort) : State :=
  s.onEth (fun e => { e with ports := Tab.upd e.ports p {} f })
/-- Change the counters of Ethernet port p. -/
def State.cntEth (s : State) (p : Nat) (f : EthCnt → EthCnt) : State :=
  s.updEthPort p (fun u => { u with cnt := f u.cnt })
/-- Set bit k of ETH_EVENT of port p. -/
def State.ethEvent (s : State) (p k : Nat) : State :=
  s.onEth (fun e => { e with events := Tab.upd e.events p {} (fun v => { v with ev := v.ev ||| bitOf 5 k }) })
/-- Set bit k of ETH_GLOBAL_EVENT. -/
def State.ethGlobal (s : State) (k : Nat) : State := s.onEth (fun e => { e with gevent := e.gevent ||| bitOf 6 k })
/-- Set bit k of SW_EVENT. -/
def State.swEvent (s : State) (k : Nat) : State := s.onSw (fun w => { w with event := w.event ||| bitOf 5 k })
/-- Gate unit p. -/
def State.gate (s : State) (p : Nat) : Gate := Tab.get s.eth.gates p {}
/-- Change gate unit p. -/
def State.updGate (s : State) (p : Nat) (f : Gate → Gate) : State :=
  s.onEth (fun e => { e with gates := Tab.upd e.gates p {} f })
/-- MACsec unit m. -/
def State.macsec (s : State) (m : Nat) : Macsec := Tab.get s.eth.macsecs m {}
/-- Change MACsec unit m. -/
def State.updMacsec (s : State) (m : Nat) (f : Macsec → Macsec) : State :=
  s.onEth (fun e => { e with macsecs := Tab.upd e.macsecs m {} f })
/-- Queue pair i. -/
def State.qp (s : State) (i : Nat) : Qp := Tab.get s.sw.qps i {}
/-- Change queue pair i. -/
def State.updQp (s : State) (i : Nat) (f : Qp → Qp) : State :=
  s.onSw (fun w => { w with qps := Tab.upd w.qps i {} f })

/-- CAN channel n. -/
def State.can (s : State) (n : Nat) : CanCh := Tab.get s.bus.can n {}
/-- Change CAN channel n. -/
def State.updCan (s : State) (n : Nat) (f : CanCh → CanCh) : State :=
  s.onBus (fun b => { b with can := Tab.upd b.can n {} f })
/-- Message object m of channel n. -/
def State.canObj (s : State) (n m : Nat) : CanObj := Tab.get (s.can n).objs m {}
/-- Change message object m of channel n. -/
def State.updObj (s : State) (n m : Nat) (f : CanObj → CanObj) : State :=
  s.updCan n (fun c => { c with objs := Tab.upd c.objs m {} f })
/-- Set bit k of CAN_EVENT of channel n. -/
def State.canEvent (s : State) (n k : Nat) : State :=
  s.updCan n (fun c => { c with event := c.event ||| bitOf 6 k })
/-- LIN channel n. -/
def State.lin (s : State) (n : Nat) : LinCh := Tab.get s.bus.lin n {}
/-- Change LIN channel n. -/
def State.updLin (s : State) (n : Nat) (f : LinCh → LinCh) : State :=
  s.onBus (fun b => { b with lin := Tab.upd b.lin n {} f })

/-- Load channel c. -/
def State.load (s : State) (c : Nat) : LoadCh := Tab.get s.ps.chans c (LoadCh.initial c)
/-- Change load channel c. -/
def State.updLoad (s : State) (c : Nat) (f : LoadCh → LoadCh) : State :=
  s.onPs (fun p => { p with chans := Tab.put p.chans c (f (Tab.get p.chans c (LoadCh.initial c))) })
/-- Set bit k of PS_EVENT. -/
def State.psEvent (s : State) (k : Nat) : State := s.onPs (fun p => { p with event := p.event ||| bitOf 5 k })
/-- Set bit k of PASS_EVENT. -/
def State.passEvent (s : State) (k : Nat) : State := s.onPass (fun p => { p with event := p.event ||| bitOf 6 k })
/-- Window w. -/
def State.win (s : State) (w : Nat) : Window := Tab.get s.pass.wins w {}
/-- Change window w. -/
def State.updWin (s : State) (w : Nat) (f : Window → Window) : State :=
  s.onPass (fun p => { p with wins := Tab.upd p.wins w {} f })
/-- Ring r. -/
def State.ring (s : State) (r : Nat) : Ring := Tab.get s.ce.rings r {}
/-- Change ring r. -/
def State.updRing (s : State) (r : Nat) (f : Ring → Ring) : State :=
  s.onCe (fun c => { c with rings := Tab.upd c.rings r {} f })

/-- The instance and world of the issuer of requests on a route matter only through these codes (R213, R552). -/
inductive Issuer where
  | mgr | sec | ptr | gst | svc | udp
  deriving DecidableEq, Repr

/-- The issuer that a route fixes (R213). -/
def Route.issuer : Route → Issuer
  | .stall n => if n ≤ 1 then .mgr else if n = 2 then .sec else if n = 3 then .ptr else .gst
  | .svc _ => .svc
  | .ptr _ => .ptr
  | .udp _ => .udp

/-- The codes of R552. -/
def Issuer.code : Issuer → Nat
  | .mgr => 0
  | .sec => 1
  | .ptr => 2
  | .gst => 3
  | .svc => 4
  | .udp => 4

/-- The mode as AON_MODE.MODE shows it (R72). -/
def Mode.code : Mode → Nat
  | .off => 0
  | .start => 0
  | .sleep => 1
  | .part => 2
  | .run => 3
  | .safe => 4
  | .recovery => 5

/-! ### Memory -/

/-- The byte listed at an address. -/
def cellAt (m : List Host.Cell) (a : Nat) : Option Byte :=
  match m with
  | [] => none
  | (b, v) :: r => if b = a then some v else cellAt r a

/-- The list with address `a` unlisted. -/
def cellDrop (m : List Host.Cell) (a : Nat) : List Host.Cell :=
  match m with
  | [] => []
  | (b, v) :: r => if b = a then cellDrop r a else (b, v) :: cellDrop r a

/-- The list with a cell placed before the first higher address. -/
def cellPlace (m : List Host.Cell) (a : Nat) (v : Byte) : List Host.Cell :=
  match m with
  | [] => [(a, v)]
  | (b, w) :: r => if a < b then (a, v) :: (b, w) :: r else (b, w) :: cellPlace r a v

/-- The list with byte `v` at `a`. -/
def cellSet (m : List Host.Cell) (a : Nat) (v : Byte) : List Host.Cell := cellPlace (cellDrop m a) a v

/-- The canonical form of memory: addresses strictly rising. -/
abbrev Memory.rising (m : List Host.Cell) : Prop := m.Pairwise (fun a b => a.1 < b.1)

/-- The canonical form of a memory whose unlisted bytes read 0: rising, and no 0 is listed. -/
abbrev Memory.wf (m : List Host.Cell) : Prop := Memory.rising m ∧ m.all (fun c => c.2 ≠ 0) = true

/-- First address of application DRAM (R139). -/
def dramBase : Nat := 0x0080000000
/-- First address beyond application DRAM. -/
def dramEnd : Nat := 0x0480000000
/-- First address of secure SRAM. -/
def sramBase : Nat := 0x0001000000
/-- First address beyond secure SRAM. -/
def sramEnd : Nat := 0x0001200000

/-- The byte of DRAM at an address: what was written since the last wipe, and otherwise a free value (R91). -/
def State.dramByte (s : State) (a : Nat) : Byte :=
  match cellAt s.core.dram a with
  | some v => v
  | none => Config.staleByte s.core.dramEpoch a

/-- The byte of secure SRAM at an address: zero after a wipe (R91). -/
def State.sramByte (s : State) (a : Nat) : Byte := (cellAt s.core.sram a).getD 0

/-- Write a byte of DRAM. -/
def State.setDram (s : State) (a : Nat) (v : Byte) : State :=
  s.onCore (fun c => { c with dram := cellSet c.dram a v })

/-- Write a byte of secure SRAM: a zero is not listed. -/
def State.setSram (s : State) (a : Nat) (v : Byte) : State :=
  s.onCore (fun c => { c with sram := if v = 0 then cellDrop c.sram a else cellSet c.sram a v })

/-- Whether an address is one of application DRAM. -/
def inDram (a : Nat) : Bool := dramBase ≤ a && a < dramEnd
/-- Whether an address is one of secure SRAM. -/
def inSram (a : Nat) : Bool := sramBase ≤ a && a < sramEnd

/-- Bytes of memory from `a` on: DRAM, secure SRAM, or the boot ROM. -/
def State.memBytes (s : State) (a n : Nat) : List Byte :=
  (List.range n).map (fun i =>
    if inDram (a + i) then s.dramByte (a + i) else if inSram (a + i) then s.sramByte (a + i)
    else Config.bootRomByte (a + i))

/-- Write bytes to DRAM or secure SRAM from `a` on. -/
def State.setMem (s : State) (a : Nat) : List Byte → State
  | [] => s
  | b :: bs => State.setMem (if inDram a then s.setDram a b else if inSram a then s.setSram a b else s) (a + 1) bs

/-! ### Interrupts -/

/-- A hart is able to take MSIs: its pair is neither off, in reset nor failed (R173). -/
def State.hartUp (s : State) (h : Nat) : Bool :=
  match (s.pair h).st with
  | .off => false
  | .inReset => false
  | .failed => false
  | .selftest => false
  | .running => true
  | .halted => true
  | .frozen => true

/-- The highest identity of a file: 0 machine, 1 supervisor, 1 + g guest (R169). -/
def fileMax (file : Nat) : Nat := if file = 1 then 511 else 255

/-- An MSI reaches file `file` of hart `h` with an identity: the identity becomes pending, or the MSI is dropped and
counted (R22, R169, R173). -/
def State.msi (s : State) (h file ident : Nat) : State :=
  if ident = 0 ∨ fileMax file < ident then s
  else if s.hartUp h then
    s.onCore (fun c => { c with imsics := (Tab.upd c.imsics (h * 17 + file) {}
      (fun f => { f with eip := f.eip ||| bitOf 512 ident })) })
  else s.updPair h (fun p => { p with msiDrop := satInc p.msiDrop })

/-- The file that a binding names: the machine file for a handle with the secure mark (R172, R257). -/
def bindFile (b : Bind) (sec : Bool) : Nat := if sec then 0 else 1 + b.file

/-- The MSI of a binding, with an offset on its identity. -/
def State.msiBind (s : State) (b : Bind) (sec : Bool) (off : Nat) : State := s.msi b.hart (bindFile b sec) (b.ident + off)

/-- Source mode of a source in a domain: 0 Inactive, 1 Detached, 4 Edge1, 6 Level1 (R166). -/
def Aplic.modeOf (d : Aplic) (i : Nat) : Nat := ((Tab.get d.src i 0).extractLsb' 0 3).toNat
/-- The source is delegated by the machine-level domain. -/
def Aplic.delegated (d : Aplic) (i : Nat) : Bool := (Tab.get d.src i 0).getLsbD 10

/-- The supervisor-level domain forwards a pending enabled source as an MSI and clears it (R166, R167). -/
def State.fireS (s : State) (i : Nat) : State :=
  let d := s.core.aplicS
  if d.ie && d.ip.getLsbD i && d.en.getLsbD i then
    let t := Tab.get d.target i 0
    (s.onCore (fun c => { c with aplicS := { c.aplicS with ip := putBit c.aplicS.ip i false } })).msi
      (t.extractLsb' 18 14).toNat 1 (t.extractLsb' 0 11).toNat
  else s

/-- The machine-level domain forwards a pending enabled source as an MSI to a machine file and clears it (R166). -/
def State.fireM (s : State) (i : Nat) : State :=
  let d := s.core.aplicM
  if d.ie && d.ip.getLsbD i && d.en.getLsbD i then
    let t := Tab.get d.target i 0
    (s.onCore (fun c => { c with aplicM := { c.aplicM with ip := putBit c.aplicM.ip i false } })).msi
      (t.extractLsb' 18 14).toNat 0 (t.extractLsb' 0 11).toNat
  else s

/-- Sources whose delegation is hardwired to 0 (R168); a CAN channel's four sources while it is marked secure (R389). -/
def State.neverDelegated (s : State) (i : Nat) : Bool :=
  i = 3 || i = 145 || i = 147 || (184 ≤ i && i ≤ 191)
    || (64 ≤ i && i ≤ 127 && s.mgmt.securePins.contains (160 + (i - 64) / 4))

/-- A source is delegated to the supervisor-level domain. -/
def State.delegated (s : State) (i : Nat) : Bool := s.core.aplicM.delegated i && !s.neverDelegated i

/-- A wired source is pulsed: it becomes pending in the domain that owns it, when that domain takes it as Edge1 or
Level1, and is forwarded when enabled (R166). -/
def State.pulse (s : State) (i : Nat) : State :=
  if s.delegated i then
    if s.core.aplicS.modeOf i = 4 ∨ s.core.aplicS.modeOf i = 6 then
      (s.onCore (fun c => { c with aplicS := { c.aplicS with ip := putBit c.aplicS.ip i true } })).fireS i
    else s
  else
    if s.core.aplicM.modeOf i = 4 ∨ s.core.aplicM.modeOf i = 6 then
      (s.onCore (fun c => { c with aplicM := { c.aplicM with ip := putBit c.aplicM.ip i true } })).fireM i
    else s

/-! ### Ledger -/

/-- Ledger events (R606). -/
inductive Ev where
  | supplyLoss | feedLost | feedRestored | holdupLow | strapInvalid | startTimeout | amindWdog | resetRequested
  | startGood | safeEntry | selftestFail | lockstepSuspended | l2Uncorrectable | engineWedged | l2FlushCut
  | sleepOrdered | sleepAbort | drainCut | wake | wakeFalse | wakeQuarantine | quarantineEnd | keepvoteDropped
  | latchSet | latchCleared | loadShed | loadRestored | partnerLost | partnerAlive | passLinkCut | pairRoleClash
  | partnerReset | keyAlarm | keyWorn | svcAuthLockout | securePinChange | updateCommitted | updateReverted
  | slotFallback | lifecycleChange | sessionOpened | debugOpened | ledgerDropped
  deriving DecidableEq, Repr

/-- Code and severity of an event (R606). -/
def Ev.info : Ev → Nat × Nat
  | .supplyLoss => (0x0001, 3)
  | .feedLost => (0x0002, 2)
  | .feedRestored => (0x0003, 0)
  | .holdupLow => (0x0004, 1)
  | .strapInvalid => (0x0005, 3)
  | .startTimeout => (0x0006, 2)
  | .amindWdog => (0x0007, 3)
  | .resetRequested => (0x0008, 1)
  | .startGood => (0x0009, 0)
  | .safeEntry => (0x0101, 3)
  | .selftestFail => (0x0102, 3)
  | .lockstepSuspended => (0x0103, 2)
  | .l2Uncorrectable => (0x0104, 2)
  | .engineWedged => (0x0105, 3)
  | .l2FlushCut => (0x0106, 2)
  | .sleepOrdered => (0x0201, 0)
  | .sleepAbort => (0x0202, 0)
  | .drainCut => (0x0203, 1)
  | .wake => (0x0204, 0)
  | .wakeFalse => (0x0205, 1)
  | .wakeQuarantine => (0x0206, 2)
  | .quarantineEnd => (0x0207, 0)
  | .keepvoteDropped => (0x0208, 1)
  | .latchSet => (0x0301, 2)
  | .latchCleared => (0x0302, 0)
  | .loadShed => (0x0303, 2)
  | .loadRestored => (0x0304, 0)
  | .partnerLost => (0x0401, 3)
  | .partnerAlive => (0x0402, 0)
  | .passLinkCut => (0x0403, 2)
  | .pairRoleClash => (0x0404, 2)
  | .partnerReset => (0x0405, 1)
  | .keyAlarm => (0x0501, 3)
  | .keyWorn => (0x0502, 1)
  | .svcAuthLockout => (0x0503, 2)
  | .securePinChange => (0x0504, 0)
  | .updateCommitted => (0x0601, 0)
  | .updateReverted => (0x0602, 2)
  | .slotFallback => (0x0603, 2)
  | .lifecycleChange => (0x0604, 1)
  | .sessionOpened => (0x0605, 0)
  | .debugOpened => (0x0606, 1)
  | .ledgerDropped => (0x0701, 1)

/-- The entry that an event makes (R605). -/
def State.entry (s : State) (w : Writer) (code sev : Nat) (data : List Byte) : LedgerEntry :=
  { seq := s.mgmt.ledger.lastSeq + 1, localT := s.tb.localT,
    globalT := if s.tb.gstate = 0 then 0 else s.tb.globalT, startNo := s.aon.startNo,
    event := BitVec.ofNat 16 code, severity := BitVec.ofNat 8 sev, writer := w,
    mode := BitVec.ofNat 8 s.aon.mode.code, data := data }

/-- One byte of CRC-32, the IEEE 802.3 polynomial with reflected bits. -/
def crc32Byte (c : U32) (b : Byte) : U32 :=
  (List.range 8).foldl (fun (x : U32) _ => if x.getLsbD 0 then (x >>> 1) ^^^ 0xEDB88320 else x >>> 1) (c ^^^ b.setWidth 32)

/-- CRC-32 (R605). -/
def crc32 (bs : List Byte) : U32 := ~~~(bs.foldl crc32Byte 0xFFFFFFFF)

/-- Writer code (R605). -/
def Writer.code : Writer → Byte
  | .amind => 0
  | .aon => 1
  | .keyStore => 2

/-- Bytes 0 to 59 of an entry (R605). -/
def LedgerEntry.body (e : LedgerEntry) : List Byte :=
  leBytes 8 e.seq.toNat ++ leBytes 8 e.localT.toNat ++ leBytes 8 e.globalT.toNat ++ leBytes 4 e.startNo.toNat
    ++ leBytes 2 e.event.toNat ++ leBytes 1 (e.event.toNat / 256) ++ [e.severity, e.writer.code, e.mode, 0, 0] ++ fixLen 24 e.data

/-- An entry as it is read, 64 bytes: one whose check fails has severity 0xFF and no data (R605, R608). Its check field reads as it stands in
the partition (DESIGN CHOICE, log entry 173). -/
def LedgerEntry.bytes (e : LedgerEntry) : List Byte :=
  (if crc32 e.body = e.check then e else { e with severity := 0xFF, data := [] }).body ++ leBytes 4 e.check.toNat

/-- Entries of the retained buffer that the always-on domain did not write. -/
def Ledger.amindCount (l : Ledger) : Nat := (l.buffer.filter (fun e => e.writer ≠ .aon)).length

/-- An entry enters the retained buffer and is numbered (R605); an entry of severity 2 or 3 pulses source 15 (R604). -/
def State.ledgerPut (s : State) (w : Writer) (code sev : Nat) (data : List Byte) : State :=
  let s1 := s.onMgmt (fun m => { m with ledger := { m.ledger with
    buffer := m.ledger.buffer ++ [s.entry w code sev data], lastSeq := m.ledger.lastSeq + 1 } })
  if 2 ≤ sev then s1.pulse 15 else s1

/-- Amind, or the key store through it, writes an entry: at most 64 of one code in a second, and at most 56 in the
buffer; others are counted (R607). -/
def State.ledgerBy (s : State) (w : Writer) (e : Ev) (data : List Byte) : State :=
  let code := e.info.1
  let n := Tab.get s.mgmt.ledger.rate code 0
  if 64 ≤ n ∨ 56 ≤ s.mgmt.ledger.amindCount then
    s.onMgmt (fun m => { m with ledger := { m.ledger with dropped := Tab.upd m.ledger.dropped code 0 satInc } })
  else
    (s.onMgmt (fun m => { m with ledger := { m.ledger with rate := Tab.put m.ledger.rate code (n + 1) } })).ledgerPut
      w code e.info.2 data

/-- Amind writes an entry. -/
def State.log (s : State) (e : Ev) (data : List Byte) : State := s.ledgerBy .amind e data

/-- The always-on domain writes an entry: any free entry of the 64, or it is counted (R607). -/
def State.logAon (s : State) (e : Ev) (data : List Byte) : State :=
  if 64 ≤ s.mgmt.ledger.buffer.length then
    s.onMgmt (fun m => { m with ledger := { m.ledger with
      aonDropped := Tab.upd m.ledger.aonDropped e.info.1 0 satInc } })
  else s.ledgerPut .aon e.info.1 e.info.2 data

/-- An entry is committed to the partition with its check; at 524 288 entries the block with the oldest 1024 is erased first (R605, R608). -/
def Ledger.store (l : Ledger) (e : LedgerEntry) : Ledger :=
  { l with stored := (if 524288 ≤ l.stored.length then l.stored.drop 1024 else l.stored) ++ [{ e with check := crc32 e.body }] }

/-- The always-on domain records its drops of one event code, where the buffer has room (R607). -/
def State.aonDrop (s : State) (d : Nat × U32) : State :=
  if 64 ≤ s.mgmt.ledger.buffer.length then
    s.onMgmt (fun m => { m with ledger := { m.ledger with aonDropped := Tab.put m.ledger.aonDropped d.1 d.2 } })
  else s.ledgerPut .aon 0x0701 1 (leBytes 2 d.1 ++ leBytes 4 d.2.toNat)

/-- The always-on domain records its own drops once the buffer has room (R607). -/
def State.aonDrops (s : State) : State :=
  s.mgmt.ledger.aonDropped.foldl State.aonDrop
    (s.onMgmt (fun m => { m with ledger := { m.ledger with aonDropped := [] } }))

/-- Every entry of the buffer is committed, in sequence order (R605). -/
def State.commitBuffer (s : State) : State :=
  (s.onMgmt (fun m => { m with ledger := { m.ledger.buffer.foldl Ledger.store m.ledger with buffer := [] } })).aonDrops

/-! ### Responses and notices -/

/-- Status codes (R233). -/
inductive Status where
  | ok | pending | badHandle | notOwner | noResource | badParam | wrongMode | denied | busy | keyRevoked | fnDisabled
  | abortedReset | farError | latched | quarantined
  deriving DecidableEq, Repr

/-- The code of a status (R233). -/
def Status.code : Status → U16
  | .ok => 0x0000
  | .pending => 0x0001
  | .badHandle => 0x0010
  | .notOwner => 0x0011
  | .noResource => 0x0012
  | .badParam => 0x0013
  | .wrongMode => 0x0014
  | .denied => 0x0015
  | .busy => 0x0016
  | .keyRevoked => 0x0020
  | .fnDisabled => 0x0021
  | .abortedReset => 0x0022
  | .farError => 0x0030
  | .latched => 0x0031
  | .quarantined => 0x0032

/-- Header flags (R232). -/
def flRemote : U16 := 0x0001
/-- NOTICE. -/
def flNotice : U16 := 0x0002
/-- NOTICE_LOST. -/
def flLost : U16 := 0x0004
/-- REPLAY. -/
def flReplay : U16 := 0x0008
/-- NOTICE_WAIT. -/
def flWait : U16 := 0x0010

/-- A stall raises its interrupt (R222). -/
def State.stallIrq (s : State) (n : Nat) : State :=
  if n ≤ 1 then s.pulse (1 + n) else if n = 2 then s.pulse 3 else if n = 3 then s
  else s.msiBind (s.stall n).bind false 0

/-- A notice is written into the response area of a stall, with its interrupt (R225). -/
def State.writeNotice (s : State) (n : Nat) (r : Response) (st : StallState) : State :=
  let lost := (s.stall n).lost
  (s.updStall n (fun t => { t with
    st := st, lost := false,
    rsp := { r with flags := r.flags ||| flNotice ||| (if lost then flLost else 0) } })).stallIrq n

/-- A notice reaches a stall: written when the stall is IDLE, queued otherwise, dropped at a full queue (R224, R225). -/
def State.stallNotice (s : State) (n : Nat) (r : Response) : State :=
  match (s.stall n).st with
  | .closed => s
  | .idle => s.writeNotice n r .notified
  | _ =>
    if (s.stall n).notices.length < 8 then s.updStall n (fun t => { t with notices := t.notices ++ [r] })
    else s.updStall n (fun t => { t with lost := true })

/-- The envelope of a message of a session to its tool: the next counter, the tag, and the source of the last valid request (R243,
R244, R247). -/
def Session.seal (e : Session) (key : List Byte) (r : Response) : Envelope :=
  let v : Envelope := { port := e.port, peer := e.peer, dir := 1, sid := e.id, counter := e.tx + 1 }
  { v with tag := v.tagOf key r.bytes }

/-- A message to the tool of a service session (R243, R245, R247). -/
def State.svcSend (s : State) (k : Nat) (r : Response) : State :=
  if s.mgmt.amind.sessions.has k then
    (s.updRoute (64 + k) (fun t => { t with sent := r, sentIn := (Tab.get s.mgmt.amind.sessions k {}).seal (Tab.get s.ks.sessKeys k {}).m2t r })).onAmind (fun a =>
      { a with sessions := Tab.upd a.sessions k {} (fun e => { e with tx := e.tx + 1 }) })
  else s

/-- A response on session ID 0: counter 1 to SESSION_OPEN, 2 to SESSION_AUTH, whose OK leaves as the first datagram of the new
session instead (R244, R245). -/
def State.udpSend (s : State) (peer : Peer) (r : Response) : State :=
  if r.opcode = 0x0102 ∧ r.status = 0 then s
  else s.updRoute 70 (fun t => { t with
    sent := r, sentIn := { peer := peer, dir := 1, counter := if r.opcode = 0x0102 then 2 else 1 } })

/-- A message to the partner, for its originating stall (R238). -/
def State.ptrSend (s : State) (o : Nat) (r : Response) : State :=
  s.onAmind (fun a => { a with ptrSent := { r with flags := r.flags ||| flRemote }, ptrTo := o })

/-- A notice goes to a route by its number: a stall, a session, or the partner with REMOTE set (R224, R238, R247). -/
def State.notice (s : State) (key : Nat) (r : Response) : State :=
  if key < 64 then s.stallNotice key r
  else if key < 66 then s.svcSend (key - 64) { r with flags := r.flags ||| flNotice }
  else s.ptrSend (key - 66) { r with flags := r.flags ||| flNotice }

/-- The open outcome record of a PENDING command. -/
def State.pendOf (s : State) (key : Nat) (seq : U16) : Option PendRec :=
  (s.route key).pend.find? (fun p => p.seq = seq ∧ ¬ p.done)

/-- An outcome record closes: the last 32 completed ones are kept (R259). -/
def State.closePend (s : State) (key : Nat) (p : PendRec) (st : Status) : State :=
  s.updRoute key (fun r => { r with
    pend := (r.pend.filter (fun q => ¬ q.done ∧ q ≠ p)) ++
      (({ p with done := true, final := st.code } : PendRec) :: r.pend.filter (fun q => q.done)).take 32 })

/-- A PENDING command of a route completes: its outcome is kept and its notice sent (R230, R259). -/
def State.complete (s : State) (key : Nat) (seq : U16) (st : Status) (handle : U32) (payload : List Byte) : State :=
  match s.pendOf key seq with
  | none => s
  | some p =>
    (s.closePend key p st).notice key
      { opcode := p.opcode, seq := p.seq, status := st.code, handle := handle,
        payload := if st = .ok then payload else [] }

/-- A PENDING command completes without a notice (R264). -/
def State.completeQuiet (s : State) (key : Nat) (seq : U16) (st : Status) : State :=
  match s.pendOf key seq with
  | none => s
  | some p => s.closePend key p st

/-- Complete the waiting command of a waiter, if there is one. -/
def State.completeOpt (s : State) (w : Option (Nat × U16)) (st : Status) (payload : List Byte) : State :=
  match w with
  | none => s
  | some (k, q) => s.complete k q st 0 payload

/-- Complete every waiter of a list. -/
def State.completeAll (s : State) (ws : List (Nat × U16)) (st : Status) (payload : List Byte) : State :=
  ws.foldl (fun t w => t.complete w.1 w.2 st 0 payload) s

/-- An unsolicited notice: opcode of its origin, sequence 0 (R225, R579). -/
def State.unsolicited (s : State) (key : Nat) (opcode : U16) (payload : List Byte) : State :=
  s.notice key { opcode := opcode, payload := payload }

/-- The request area of a stall with the bytes of a request in it (R219, R238). -/
def Request.area (r : Request) : Tab Byte :=
  (r.bytes.mapIdx (fun i b => (i, b))).foldl (fun m e => Tab.putD m e.1 0 e.2) []

/-- The next request of the partner is placed in stall 3 when it is free (R238, R240). -/
def State.feedPartner (s : State) : State :=
  match s.mgmt.amind.ptrWait with
  | [] => s
  | r :: rs =>
    if (s.stall 3).st = .idle then
      (s.onAmind (fun a => { a with ptrWait := rs })).updStall 3 (fun t => { t with st := .queued, captured := some r, area := r.area })
    else s

/-- The stall holds a request that Amind has to answer; an instance reset or a withdrawal has discarded any other (R224). -/
def Stall.inService (t : Stall) : Bool := t.st = .queued || t.st = .serving

/-- Amind writes a response to the route of its request; a stall that was cleared meanwhile takes none (R221, R224, R238, R243). -/
def State.respond (s : State) (r : Route) (a : Response) : State :=
  match r with
  | .stall n =>
    if (s.stall n).inService then
      let w := (s.stall n).notices.isEmpty
      (s.updStall n (fun t => { t with
        st := .answered, captured := none,
        rsp := if w then a else { a with flags := a.flags ||| flWait } })).stallIrq n
    else s
  | .svc k => s.svcSend k a
  | .ptr o => ((s.ptrSend o a).updStall 3 (fun t => { t with st := .idle, captured := none })).feedPartner
  | .udp a' => s.udpSend a' a

/-- The result of a route: the next result ID, which skips 0, and the bytes (R260). -/
def State.setResult (s : State) (key : Nat) (bytes : List Byte) : State :=
  s.updRoute key (fun r =>
    let id := if r.resultId + 1 = 0 then 1 else r.resultId + 1
    { r with resultId := id, result := some (id, bytes) })

/-- The payload that announces a result: result ID, reserved, total (R278). -/
def State.resultInfo (s : State) (key : Nat) : List Byte :=
  match (s.route key).result with
  | none => []
  | some (id, b) => leBytes 2 id.toNat ++ leBytes 2 0 ++ leBytes 4 b.length

/-! ### Handles -/

/-- Type of a handle value (R234). -/
def hType (h : U32) : Nat := (h.extractLsb' 24 8).toNat
/-- Owner of a handle value. -/
def hOwner (h : U32) : Nat := (h.extractLsb' 18 6).toNat
/-- Generation of a handle value. -/
def hGen (h : U32) : Nat := (h.extractLsb' 12 6).toNat
/-- Index of a handle value. -/
def hIndex (h : U32) : Nat := (h.extractLsb' 0 12).toNat
/-- The table key of type and index. -/
def hKey (typ index : Nat) : Nat := typ * 4096 + index
/-- A handle value (R234). -/
def mkHandle (typ owner gen index : Nat) : U32 :=
  BitVec.ofNat 32 (typ * 16777216 + owner * 262144 + gen * 4096 + index)

/-- The handle of type and index, if it is LIVE or RETIRING. -/
def State.hFind (s : State) (typ index : Nat) : Option Handle :=
  if s.mgmt.handles.tab.has (hKey typ index) then some (Tab.get s.mgmt.handles.tab (hKey typ index) {}) else none

/-- The handle of type and index, if it is LIVE. -/
def State.hLive (s : State) (typ index : Nat) : Option Handle :=
  match s.hFind typ index with
  | some h => if h.retiring then none else some h
  | none => none

/-- The value of a table entry. -/
def Handle.value (h : Handle) (typ index : Nat) : U32 := mkHandle typ h.owner h.gen index

/-- The current generation of type and index: 1 to 63, advanced at every start and every retirement (R235, R237). -/
def State.genOf (s : State) (typ index : Nat) : Nat :=
  (Tab.get s.mgmt.handles.gens (hKey typ index) 0 + s.mgmt.handles.starts) % 63 + 1

/-- The free order of a type: its key, 0x101 for the queue pairs of I1 (R235). -/
def State.freeOrder (s : State) (k : Nat) : FreeOrder := Tab.get s.mgmt.handles.free k {}

/-- The first index in the free order of `n` indices (R235). -/
def State.firstFree (s : State) (k n : Nat) : Option Nat :=
  let f := s.freeOrder k
  if f.fresh < n then some f.fresh else f.back.head?

/-- The order with its first index given out. -/
def State.takeFree (s : State) (k n : Nat) : State :=
  s.onMgmt (fun m => { m with handles := { m.handles with free := (Tab.upd m.handles.free k {}
    (fun f => if f.fresh < n then { f with fresh := f.fresh + 1 } else { f with back := f.back.drop 1 })) } })

/-- Handles LIVE or RETIRING: at most 4096 (R235). -/
def State.handleRoom (s : State) : Bool := s.mgmt.handles.tab.length < 4096

/-- A new LIVE handle (R237). -/
def State.hCreate (s : State) (typ index owner : Nat) (sec : Bool) (b : Bind) (charge : Nat × Nat × Nat) : State :=
  let g := s.genOf typ index
  s.onMgmt (fun m => { m with handles := { m.handles with
    tab := Tab.put m.handles.tab (hKey typ index)
      { sec := sec, owner := owner, gen := g, bind := b, cls := if sec then 3 else (s.reg owner).cls, charge := charge } } })

/-- The handle becomes FREE: its generation advances and a chosen index joins its free order (R235, R237). -/
def State.hFree (s : State) (typ index : Nat) : State :=
  s.onMgmt (fun m => { m with handles := { m.handles with
    tab := Tab.drop m.handles.tab (hKey typ index),
    gens := Tab.upd m.handles.gens (hKey typ index) 0 (fun g => (g + 1) % 63),
    free :=
      if typ = 0x01 then Tab.upd m.handles.free (if index < 64 then 0x01 else 0x101) {} (fun f => { f with back := f.back ++ [index % 64] })
      else if typ ∈ [0x06, 0x08, 0x0A, 0x0B, 0x0C] then Tab.upd m.handles.free typ {} (fun f => { f with back := f.back ++ [index] })
      else m.handles.free } })

/-- The instance of an issuer: the stall's owner for a guest stall, and 0 for everyone else (R213). -/
def State.issuerInst (s : State) (r : Route) : Nat :=
  match r with
  | .stall n => if n < 4 then 0 else ((s.stall n).owner).getD 0
  | _ => 0

/-- A presented handle under R236, by expected types: the status of the first failed step. One that names another owner than the handle of
its type, index and generation has is BAD_HANDLE (DESIGN CHOICE, log entry 149). A service session uses the ledger
readers that it created, in the ledger's own commands (R261, R610). -/
def State.checkHandle (s : State) (r : Route) (h : U32) (types : List Nat) (mgrToo retiringToo : Bool) : Status :=
  match s.hFind (hType h) (hIndex h) with
  | none => .badHandle
  | some e =>
    if ¬ types.contains (hType h) then .badHandle
    else if (e.retiring ∧ ¬ retiringToo) ∨ e.gen ≠ hGen h ∨ e.owner ≠ hOwner h then .badHandle
    else if e.sec ∧ r ≠ .stall 2 then .denied
    else if r.issuer ∈ [.mgr, .sec, .gst] ∧ e.owner = s.issuerInst r ∧ e.sec = decide (r = .stall 2) then .ok
    else if mgrToo ∧ r.issuer = .mgr ∧ ¬ e.sec then .ok
    else if types = [0x0C] ∧ r.issuer = .svc ∧ (Tab.get s.mgmt.readers (hIndex h) {}).session = some r.key then .ok
    else .notOwner

/-! ### Small parts of requests -/

/-- The byte at an offset. -/
def u8At (p : List Byte) (i : Nat) : Nat := (p.getD i 0).toNat
/-- The 16-bit field at an offset (R4). -/
def u16At (p : List Byte) (i : Nat) : Nat := leNat ((p.drop i).take 2)
/-- The 32-bit field at an offset. -/
def u32At (p : List Byte) (i : Nat) : Nat := leNat ((p.drop i).take 4)
/-- The 64-bit field at an offset. -/
def u64At (p : List Byte) (i : Nat) : Nat := leNat ((p.drop i).take 8)
/-- The binding at an offset: hart, file, identity (R256). -/
def bindAt (p : List Byte) (i : Nat) : Bind := { hart := u8At p i, file := u8At p (i + 1), ident := u16At p (i + 2) }
/-- The bytes of a binding. -/
def bindBytes (b : Bind) : List Byte := leBytes 1 b.hart ++ leBytes 1 b.file ++ leBytes 2 b.ident

/-- An interrupt binding suits the handle it serves (R257). -/
def State.bindOk (s : State) (b : Bind) (owner : Nat) (sec : Bool) (extra : Nat) : Bool :=
  b.hart < 8 && 1 ≤ b.ident && b.ident + extra ≤ fileMax (bindFile b sec) &&
    (if sec then b.file = 0
     else if owner = 0 then b.file = 0
     else 1 ≤ b.file && b.file ≤ 15 && s.core.guestFiles.has (b.hart * 16 + b.file)
       && Tab.get s.core.guestFiles (b.hart * 16 + b.file) 0 = owner)

/-- The amounts of an instance's share of a kind and selector: the sum of its entries (R262). -/
def State.share (s : State) (n kind sel : Nat) : Nat × Nat :=
  (s.inst n).shares.foldl (fun t e =>
    if e.kind = kind ∧ e.sel = sel then (t.1 + e.a.toNat, t.2 + e.b.toNat) else t) (0, 0)

/-- The function is disabled for an instance (R258, R519). -/
def State.fnOff (s : State) (n kind sel : Nat) : Bool := (s.inst n).disabled.contains (kind, sel)

end Sys2Proof.Machine
end

