-- ==== Sys2Proof/Machine/Flags.lean ====
section
/-! DEFINITION. Event flags and the wired interrupt sources that they raise: the level of every level-sensitive source as a
function of the state, and the settling of the APLIC that ends every command. -/

namespace Sys2Proof.Machine

open Sys2Proof

/-- An event word and its enable mask have a common bit. -/
def anyOf {w : Nat} (e m : BitVec w) : Bool := e &&& m ≠ 0

/-- CORE_SAFETY.STF_MASK or SUSPENDED holds: source 192 (R157, R163). -/
def State.coreAlarm (s : State) : Bool := s.core.pairs.any (fun p => p.2.stf || p.2.split)

/-- The CAN_EVENT bits of group k: STATE, ERR, RX_LOST, and the three of the schedule (R389). -/
def canGroup (k : Nat) : BitVec 6 := if k = 0 then 1 else if k = 1 then 2 else if k = 2 then 4 else 0x38

/-- The level of wired source i: on while its condition holds (R168 and the rules it names). Pulsed sources 1 to 3, 15,
145 and 147 have no level. -/
def State.level (s : State) (i : Nat) : Bool :=
  if i < 32 then
    if i = 4 then s.mgmt.health.src4
    else if i = 5 then s.mgmt.health.src5
    else if i = 6 then s.supply.holdupLow
    else if i = 7 then s.supply.feedA.lost || s.supply.feedB.lost
    else if i = 8 then s.mgmt.health.src8
    else if i = 9 then s.mgmt.health.src9
    else if i = 10 then s.supply.crank
    else false
  else if i = 32 then anyOf s.sw.event s.sw.eventEn
  else if i < 59 then
    let e := Tab.get s.eth.events (i - 33) {}
    anyOf e.ev e.en
  else if i = 59 then anyOf (s.eth.gevent &&& 0x07) s.eth.geventEn
  else if i = 60 then anyOf (s.eth.gevent &&& 0x08) s.eth.geventEn
  else if i = 61 then anyOf (s.eth.gevent &&& 0x30) s.eth.geventEn
  else if i < 64 then false
  else if i < 128 then
    let c := s.can ((i - 64) / 4)
    anyOf (c.event &&& canGroup ((i - 64) % 4)) c.eventEn && (i < 72 || (i - 64) % 4 ≠ 3)
  else if i < 136 then
    let l := s.lin (i - 128)
    (s.hLive 0x03 (i - 128)).isNone && anyOf l.event l.eventEn
  else if i = 136 then anyOf s.bus.gw.event s.bus.gw.eventEn
  else if i = 144 then anyOf s.ps.event s.ps.eventEn
  else if i = 146 then anyOf s.inp.event s.inp.eventEn
  else if i = 160 then anyOf s.ks.ceEvent s.ks.ceEn
  else if i = 176 then anyOf (s.pass.event &&& 0x21) s.pass.eventEn
  else if i = 177 then anyOf (s.pass.event &&& 0x0A) s.pass.eventEn
  else if i = 178 then anyOf (s.pass.event &&& 0x04) s.pass.eventEn
  else if i = 179 then anyOf (s.pass.event &&& 0x10) s.pass.eventEn
  else if i = 184 then anyOf (s.ks.ksEvent &&& 1) s.ks.ksEn
  else if i = 185 then anyOf (s.ks.ksEvent &&& 2) s.ks.ksEn
  else if i = 186 then anyOf (s.ks.ksEvent &&& 4) s.ks.ksEn
  else if i = 192 then s.coreAlarm
  else if i = 193 then s.core.clusters.any (fun c => !c.2.poison.isEmpty)
  else if i = 200 then s.core.fabErr.valid
  else false

/-- A new event of a source whose condition already stands raises it anew: sources 192 and 193 are levels while any pair or line keeps
its condition, and each further event is a rise of its own (R151, R157, R163; DESIGN CHOICE, log entry 126). -/
def State.raiseAgain (s : State) (i : Nat) : State := if s.level i then s.pulse i else s

/-- A domain takes a new level of a source: a rise makes an Edge1 or Level1 source pending, a fall ends a pending Level1
(R166). -/
def Aplic.take (d : Aplic) (i : Nat) (now : Bool) : Aplic :=
  let was := d.level.getLsbD i
  let d1 := { d with level := putBit d.level i now }
  if now && !was && (d.modeOf i = 4 || d.modeOf i = 6) then { d1 with ip := putBit d1.ip i true }
  else if !now && d.modeOf i = 6 then { d1 with ip := putBit d1.ip i false }
  else d1

/-- The domain that owns a source takes its level and forwards it when enabled. -/
def State.settleSrc (s : State) (i : Nat) : State :=
  let now := s.level i
  if s.delegated i then
    if s.core.aplicS.modeOf i = 0 then s
    else (s.onCore (fun c => { c with aplicS := c.aplicS.take i now })).fireS i
  else
    if s.core.aplicM.modeOf i = 0 then s
    else (s.onCore (fun c => { c with aplicM := c.aplicM.take i now })).fireM i

/-- Sources that some domain has configured: every other source is Inactive and never becomes pending (R166, R168). -/
def State.activeSrcs (s : State) : List Nat :=
  (s.core.aplicM.src.map (fun e => e.1)).filter (fun i => i < 256)

/-- Every configured source settles. -/
def State.settle (s : State) : State := s.activeSrcs.foldl (fun t i => t.settleSrc i) s

/-- The end of a command: the next state, its interrupts settled. -/
def fin (s : State) : Out := .next s.settle

/-- The answer of a command that names a unit which does not exist. -/
def noUnit : Out := .fault .noSuchUnit

end Sys2Proof.Machine
end

