-- ==== Sys2Proof/Machine/Admission.lean ====
section
/-! DEFINITION. The memory map, the attribute checkers and the order of checks: decode, checker, quiesce state, target
(R124 to R131, R139, and the admission rule of each region's chapter). -/

namespace Sys2Proof.Machine

open Sys2Proof

/-! ### The memory map -/

/-- An address lies in the `len` bytes from `base` on. -/
def within (a base len : Nat) : Bool := base ≤ a && a < base + len

/-- Target ID of an address; 0 where the memory map has no region (R139). -/
def target (a : Nat) : Nat :=
  if within a 0 0x20000 then 0x01
  else if within a 0x01000000 0x200000 then 0x02
  else if within a 0x02000000 0x1000000 then 0x03
  else if within a 0x10000000 0x40000 then 0x04
  else if within a 0x11000000 0x400000 then 0x05
  else if within a 0x11400000 0xC00000 then 0x06
  else if within a 0x12000000 0x100000 then 0x07
  else if within a 0x13000000 0x400000 then 0x08
  else if within a 0x13400000 0x40000 then 0x09
  else if within a 0x13800000 0x400000 then 0x0A
  else if within a 0x14000000 0x1000000 then 0x0B
  else if within a 0x15000000 0x100000 then 0x0C
  else if within a 0x16000000 0x1000000 then 0x0D
  else if within a 0x17000000 0x81000 then 0x0E
  else if within a 0x18000000 0x400000 then 0x0F
  else if within a 0x80000000 0x400000000 then 0x10
  else if within a 0x4000000000 0x1000000000 then 0x11
  else 0

/-! ### Who accesses -/

/-- Amind's stamp: instance 63 with the secure attribute (R19, R127). -/
def Attr.amind (t : Attr) : Bool := t.inst = 63 && t.sec
/-- Instance 0, in either world. -/
def Attr.zero (t : Attr) : Bool := t.inst = 0
/-- A non-secure access of instance n. -/
def Attr.ns (t : Attr) (n : Nat) : Bool := !t.sec && t.inst.toNat = n

/-- An instance is not FREE (R20, R527). -/
def State.instLive (s : State) (n : Nat) : Bool := n ≤ 62 && (s.inst n).st ≠ .free

/-- A V = 1 access with instance 0, 63 or a FREE one, which every target refuses (R20). -/
def State.deadGuest (s : State) (t : Attr) : Bool := t.virt && (t.inst = 0 || !s.instLive t.inst.toNat)

/-- A hart's secure access (R19, R136). -/
def secureAttr (hart : Nat) : Attr := { init := BitVec.ofNat 8 hart, inst := 0, sec := true, qos := 3, virt := false }

/-- What the transactions of a hart carry, by its world, V and hgatp.VMID; an HLV or HSV of HS-mode counts as a V = 1 access (R19, R20,
R136, R175; DEDUCED, log entry 128). -/
def State.hartAttr (s : State) (n : Nat) (asGuest : Bool) : Attr :=
  let h := s.hart n
  if h.world then secureAttr n
  else
    let v := h.virt || (asGuest && h.priv = 1)
    let i : BitVec 6 := if v then h.vmid else 0
    { init := BitVec.ofNat 8 n, inst := i, sec := false, qos := (s.reg i.toNat).cls, virt := v }

/-- An engine that acts for handles (R118). -/
def engineInit (b : Byte) : Bool := 0x20 ≤ b.toNat && b.toNat < 0x60

/-- The handles for which an engine acts, by its initiator ID: queue pairs, object sets, LIN channels, load and input groups, cipher rings
and timers; the gateway acts for no handle of its own (R118, R234). -/
def engineType (b : Byte) (typ : Nat) : Bool :=
  if b = 0x20 ∨ b = 0x21 then typ = 0x01
  else if 0x30 ≤ b.toNat ∧ b.toNat < 0x40 then typ = 0x02
  else if b = 0x40 then typ = 0x03
  else if b = 0x48 then typ = 0x04 || typ = 0x05
  else if b = 0x50 then typ = 0x06
  else if b = 0x58 then typ = 0x0B
  else true

/-- The live handle for which an engine acts with these attributes: the first one of its kind with the owner and the world that they name
(R19, R136; DESIGN CHOICE, log entry 144). -/
def State.handleFor (s : State) (t : Attr) : Option Handle :=
  (s.mgmt.handles.tab.find? (fun e => e.2.owner = t.inst.toNat && e.2.sec = t.sec && !e.2.retiring
    && engineType t.init (e.1 / 4096))).map (fun e => e.2)

/-- The attributes as the initiator's hardware stamps them (R18, R19, R136). No rule gives those of the UFS host; they stand as the
command names them (DESIGN CHOICE, log entry 178), but for instance 63, which Amind alone stamps (R127). -/
def State.stamp (s : State) (t : Attr) : Attr :=
  if t.init.toNat < 8 then s.hartAttr t.init.toNat t.virt
  else if t.init = 0x10 then { init := 0x10, inst := 63, sec := true, qos := 3, virt := false }
  else
    let q := match s.handleFor t with
      | some h => if engineInit t.init then h.cls else t.qos
      | none => t.qos
    { t with inst := if t.inst = 63 then 0 else t.inst, qos := q, virt := false }

/-- The translations of an engine for an instance are revoked: from the end of step 3 of its reset or destruction on (R521; DEDUCED, log
entry 167). -/
def State.revoked (s : State) (t : Attr) : Bool := engineInit t.init && !t.sec && (s.inst t.inst.toNat).drained

/-- The initiator issues a transaction: a hart that runs or executes the debugger's program, Amind, an engine for a live handle, or the
UFS host. The debug port's and the Pass bridge's arrive by rows of their own. The requests of a frozen pair are discarded (R158), and so are
those of an engine for an instance whose translations are revoked (R521). -/
def State.mayIssue (s : State) (t : Attr) : Bool :=
  if t.init.toNat < 8 then (s.pair t.init.toNat).st = .running || (s.pair t.init.toNat).st = .halted
  else if engineInit t.init then (s.handleFor t).isSome && !s.revoked t
  else t.init = 0x10 || t.init = 0x68

/-- A transaction that its initiator may not issue is discarded; INST_STRAY counts one of an engine for a revoked translation (R521). -/
def State.discarded (s : State) (t : Attr) : State :=
  if s.revoked t then s.updInst t.inst.toNat (fun i => { i with stray := satInc i.stray }) else s

/-- A transaction of an initiator, with its attributes stamped; a code that R118 does not list names no initiator. -/
def State.issue (s : State) (t : Attr) (k : Attr → Out) : Out :=
  if ¬ initListed t.init then noUnit else if ¬ s.mayIssue t then .next (s.discarded t) else k (s.stamp t)

/-- A transaction with its attributes stamped. -/
def State.issueX (s : State) (x : Xact) (k : Xact → Out) : Out := s.issue x.attr fun t => k { x with attr := t }

/-- The initiator exists, issues, and the attributes are those that its hardware stamps. -/
abbrev State.sends (s : State) (t : Attr) : Prop := initListed t.init = true ∧ s.mayIssue t = true ∧ s.stamp t = t

/-- The access is of the owner of a live handle, with its security attribute. -/
def State.ofHandle (s : State) (t : Attr) (typ index : Nat) : Bool :=
  match s.hLive typ index with
  | some h => t.inst.toNat = h.owner && t.sec = h.sec
  | none => false

/-- Pin `p` is marked secure (R194, R196). -/
def State.pinSec (s : State) (p : Nat) : Bool := s.mgmt.securePins.contains p
/-- Load channel c is marked secure. -/
def State.loadSec (s : State) (c : Nat) : Bool := s.pinSec c
/-- CAN channel n is marked secure. -/
def State.canSec (s : State) (n : Nat) : Bool := s.pinSec (160 + n)
/-- LIN channel n is marked secure. -/
def State.linSec (s : State) (n : Nat) : Bool := s.pinSec (176 + n)

/-- The world of a set's accesses: secure on a channel marked secure, and for a set whose handle is secure (R194, R378; log
entry 30). -/
def State.setWorld (s : State) (key : Nat) : Bool :=
  s.canSec (key / 128) || (match s.hFind 0x02 key with
    | some h => h.sec
    | none => false)

/-- The handle of an object set is LIVE (R237). -/
def State.setLive (s : State) (key : Nat) : Bool := (s.hLive 0x02 key).isSome

/-- An access comes from a set holder: an instance that owns a live object set on the channel (R378). -/
def State.setHolder (s : State) (chan : Nat) (t : Attr) : Bool :=
  s.bus.sets.any (fun e => e.1 / 128 = chan && e.2.owner = t.inst.toNat && s.setWorld e.1 = t.sec && s.setLive e.1)

/-- The set that holds an object, LIVE or RETIRING, with its index (R379). -/
def State.setOf (s : State) (chan obj : Nat) : Option (Nat × CanSet) :=
  s.bus.sets.find? (fun e => e.1 / 128 = chan && e.1 % 128 ≤ obj && obj < e.1 % 128 + e.2.count)

/-! ### Checkers of the memories -/

/-- A region grants an access (R126). -/
def Region.grants (g : Region) (t : Attr) (rd wr : Bool) : Bool :=
  if t.sec then (!rd || g.sR) && (!wr || g.sW)
  else (!rd || g.nsR) && (!wr || g.nsW) && g.mask.getLsbD t.inst.toNat

/-- A region contains a page. -/
def Region.holds (g : Region) (page : Nat) : Bool := g.en && g.base.toNat ≤ page && page ≤ g.limit.toNat

/-- The verdict of a checker's regions, lowest number first (R126). -/
def regionsAdmit (l : Tab Region) (t : Attr) (a len : Nat) (rd wr : Bool) : Bool :=
  match l.find? (fun e => e.2.holds (a / 4096)) with
  | some e => e.2.holds ((a + len - 1) / 4096) && e.2.grants t rd wr
  | none => false

/-! ### Checkers of the register regions

Each answers whether it admits a read and whether it admits a write, or nothing where the region has no target (DERR). -/

/-- Region 0x03 (R166, R169 to R171, R174). -/
def State.admit03 (s : State) (t : Attr) (a : Nat) : Option (Bool × Bool) :=
  if within a 0x02000000 0x4000 then some (t.sec, t.sec)
  else if within a 0x02004000 0x4000 then some (t.zero, t.zero)
  else if within a 0x02100000 0x8000 then some (t.sec, t.sec)
  else if within a 0x02200000 0x80000 then
    let h := (a - 0x02200000) / 0x10000
    let f := (a - 0x02200000) % 0x10000 / 0x1000
    if f = 0 then some (t.zero, t.zero)
    else
      let b := s.core.guestFiles.has (h * 16 + f) && !t.sec && Tab.get s.core.guestFiles (h * 16 + f) 0 = t.inst.toNat
      some (t.zero || b, t.zero || b)
  else if within a 0x02800000 0x1000 then some (t.zero, false)
  else none

/-- Region 0x04 (R218). -/
def State.admit04 (s : State) (t : Attr) (a : Nat) : Option (Bool × Bool) :=
  let n := (a - 0x10000000) / 0x1000
  let b :=
    if n ≤ 1 then t.ns 0 else if n = 2 then t.sec else if n = 3 then false
    else match (s.stall n).owner with
      | some i => t.ns i
      | none => false
  some (b, b)

/-- Region 0x05 (R324). -/
def admit05 (t : Attr) (a : Nat) : Option (Bool × Bool) := some (t.zero, t.zero && within a 0x11001000 0x1000)

/-- Region 0x06 (R310, R365). -/
def State.admit06 (s : State) (t : Attr) (a : Nat) : Option (Bool × Bool) :=
  let o := a - 0x11400000
  if within o 0xFF000 0x1000 then some (t.zero, t.zero)
  else if within o 0 0x1E000 || within o 0x40000 0x1E000 || within o 0x80000 0x1000 || within o 0x100000 0x20000
      || within o 0x140000 0x4000 || within o 0x180000 0x2800 then some (t.zero, false)
  else if within o 0x800000 0x80000 then
    let b := s.ofHandle t 0x01 ((o - 0x800000) / 0x1000)
    some (b, b)
  else none

/-- Region 0x07, an object or its long segment behind the checker (R378, R379). -/
def State.admitObj (s : State) (t : Attr) (chan obj : Nat) : Bool :=
  match s.setOf chan obj with
  | some e => e.2.owner = t.inst.toNat && s.setWorld e.1 = t.sec && s.setLive e.1
  | none => false

/-- Region 0x07 (R378, R379). On a secure channel secure accesses take the place of non-secure ones. -/
def State.admit07 (s : State) (t : Attr) (a : Nat) : Option (Bool × Bool) :=
  let n := (a - 0x12000000) / 0x10000
  let o := a % 0x10000
  let sec := s.canSec n
  let w := !sec || t.sec
  let zero := t.zero && w
  let holder := s.setHolder n t
  if o < 0x1000 then some (zero || holder, false)
  else if o < 0x2000 then some (zero, zero)
  else if o < 0x3000 then
    if n ≤ 1 then
      let own := match (s.can n).sched.run, (s.can n).sched.pend with
        | some m, _ => m.owner = t.inst.toNat && t.sec = sec
        | none, some m => m.owner = t.inst.toNat && t.sec = sec
        | none, none => false
      some (zero || own, false)
    else none
  else if o < 0x4000 then some (zero || holder, holder && within o 0x3010 0x10)
  else if o < 0xC000 then let b := s.admitObj t n ((o - 0x4000) / 0x100); some (b, b)
  else if n < 12 then none
  else let b := s.admitObj t n (120 + (o - 0xC000) / 0x800); some (b, b)

/-- The units of a given size that len bytes touch, from an offset on: a checker judges each of them. -/
def unitsOf (off len size : Nat) : List Nat := (List.range ((off % size + len - 1) / size + 1)).map (fun k => off / size + k)

/-- Region 0x08; every rule unit that the access touches is judged (R194, R411, R416). -/
def State.admit08 (s : State) (t : Attr) (a len : Nat) : Option (Bool × Bool) :=
  if within a 0x13000000 0x1000 then some (t.zero, false)
  else if within a 0x13001000 0x1000 then some (t.zero, t.zero)
  else if within a 0x13100000 0x80000 then
    some (t.zero && (unitsOf (a - 0x13100000) len 0x80).all (fun n => !(Tab.get s.bus.gw.rules n {}).secure || t.sec), false)
  else if within a 0x13200000 0x8000 then
    let n := (a - 0x13200000) / 0x1000
    let own := s.ofHandle t 0x03 n
    some ((t.zero && (!s.linSec n || t.sec)) || own, own)
  else none

/-- Region 0x09 (R444). -/
def admit09 (t : Attr) (a : Nat) : Option (Bool × Bool) :=
  let n := (a - 0x13400000) / 0x1000
  let b := (t.ns n && n ≤ 62) || (n = 0 && t.sec)
  some (b, b)

/-- Region 0x0A; every channel unit that the access touches is judged (R466, R492, R493, R503, R507). -/
def State.admit0A (s : State) (t : Attr) (a len : Nat) : Option (Bool × Bool) :=
  if within a 0x13A00000 0x1000 then some (t.zero, t.zero)
  else if within a 0x13B00000 0x4000 then
    let o := a - 0x13B00000
    if within o 0x2000 0xF00 then
      some (t.zero && (unitsOf (o - 0x2000) len 0x40).all (fun c => !s.loadSec c || t.sec), false)
    else some (t.zero, t.zero && within o 0x1000 0x1000)
  else if within a 0x13800000 0x200000 then
    let b := s.ofHandle t 0x05 ((a - 0x13800000) / 0x1000)
    some (b, b)
  else some (false, false)

/-- Region 0x0B; on the event page every field that the access touches is judged (R567). -/
def State.admit0B (s : State) (t : Attr) (a len : Nat) : Option (Bool × Bool) :=
  if within a 0x14000000 0x2000 then some (t.zero, false)
  else if within a 0x14002000 0x1000 then
    let b := (unitsOf (a - 0x14002000) len 0x8).all (fun k => if k = 2 then t.sec else t.zero)
    some (b, b)
  else if within a 0x14100000 0x40000 then
    let b := s.ofHandle t 0x06 ((a - 0x14100000) / 0x1000)
    some (b, b)
  else none

/-- Region 0x0C (R601). A write of a window page is refused here with AERR, also during a reset of its owner, where R524 names TERR: the checker
answers before the target (DEDUCED, log entry 170). -/
def State.admit0C (s : State) (t : Attr) (a : Nat) : Option (Bool × Bool) :=
  if within a 0x15000000 0x1000 then some (t.zero, false)
  else if within a 0x15001000 0x1000 then some (t.zero, t.zero)
  else if within a 0x15010000 0x20000 then some (t.zero || s.ofHandle t 0x0A ((a - 0x15010000) / 0x1000), false)
  else none

/-- Region 0x0D (R104, R114, R115). -/
def State.admit0D (s : State) (t : Attr) (a : Nat) : Option (Bool × Bool) :=
  if within a 0x16000000 0x1000 then some (s.instLive t.inst.toNat, false)
  else if within a 0x16020000 0x1000 then some (t.zero, false)
  else if within a 0x16100000 0x40000 then
    let b := s.ofHandle t 0x0B ((a - 0x16100000) / 0x1000)
    some (b, b)
  else none

/-- Region 0x0E (R131, R138). -/
def admit0E (t : Attr) (a : Nat) : Option (Bool × Bool) :=
  if within a 0x17000000 0x1000 then some (t.zero, false)
  else if within a 0x17080000 0x1000 then some (t.zero, t.zero)
  else none

/-- Region 0x0F (R531). -/
def admit0F (t : Attr) (a : Nat) : Option (Bool × Bool) :=
  let n := (a - 0x18000000) / 0x10000
  let b := (t.ns n && n ≤ 62) || (n = 0 && t.sec && t.zero)
  some (b, b)

/-- The window that an access of region 0x11 meets, by number (R581). -/
def State.windowAt (s : State) (t : Attr) (a len : Nat) : Option (Nat × Window) :=
  s.pass.wins.find? (fun e => e.2.opened && e.2.loc.toNat ≤ a && a + len ≤ e.2.loc.toNat + e.2.size.toNat
    && !t.sec && t.inst.toNat = e.2.owner && (s.hLive 0x0A e.1).isSome)

/-- A checker's verdict, or none where the region has no target (R125, R126). The checkers but those of the two memories answer by the rule
of their region from step 5 on, and admit Amind alone before (R129; DEDUCED, log entry 60). -/
def State.admits (s : State) (t : Attr) (a len : Nat) (rd wr : Bool) : Option Bool :=
  let both (p : Option (Bool × Bool)) : Option Bool := p.map (fun q => s.core.checkers && (!rd || q.1) && (!wr || q.2))
  match target a with
  | 0x01 => some (s.core.checkers && t.sec && !wr)
  | 0x02 => some (regionsAdmit s.core.sramRegions t a len rd wr)
  | 0x03 => both (s.admit03 t a)
  | 0x04 => both (s.admit04 t a)
  | 0x05 => both (admit05 t a)
  | 0x06 => both (s.admit06 t a)
  | 0x07 => both (s.admit07 t a)
  | 0x08 => both (s.admit08 t a len)
  | 0x09 => both (admit09 t a)
  | 0x0A => both (s.admit0A t a len)
  | 0x0B => both (s.admit0B t a len)
  | 0x0C => both (s.admit0C t a)
  | 0x0D => both (s.admit0D t a)
  | 0x0E => both (admit0E t a)
  | 0x0F => both (admit0F t a)
  | 0x10 => some (regionsAdmit s.core.dramRegions t a len rd wr)
  | 0x11 => some (s.windowAt t a len).isSome
  | _ => none

/-! ### Quiesce state -/

/-- The power-controllable block that serves an address (R199). -/
def blockAt (a : Nat) : Option Nat :=
  match target a with
  | 0x06 =>
    let o := a - 0x11400000
    let port (p : Nat) : Option Nat :=
      if p < 22 then some (0x40 + p) else if p < 26 then some (0x58 + (p - 22)) else none
    if o < 0x1E000 then port (o / 0x1000)
    else if within o 0x40000 0x1E000 then port ((o - 0x40000) / 0x1000)
    else if within o 0x180000 0x2800 then some (0x08 + (o - 0x180000) / 0x400)
    else none
  | 0x07 => some (0x20 + (a - 0x12000000) / 0x10000)
  | 0x08 => if 0x13200000 ≤ a then some (0x30 + (a - 0x13200000) / 0x1000) else none
  | 0x0B => if within a 0x14001000 0x2000 then none else some 0x01
  | 0x0C => some 0x60
  | 0x11 => some 0x60
  | _ => none

/-- A block serves transactions: neither quiescing, off nor not yet ready (R93, R94). -/
def Block.serves (b : Block) : Bool :=
  match b.st with
  | .on => true
  | .deferred => true
  | .quiescing => false
  | .off => false
  | .waking => false

/-- The target's block serves transactions. -/
def State.targetServes (s : State) (a : Nat) : Bool :=
  match blockAt a with
  | some b => (s.block b).serves
  | none => true

/-! ### The order of checks -/

/-- The fabric runs: outside OFF and SLEEP. -/
def State.fabricUp (s : State) : Bool :=
  match s.aon.mode with
  | .off => false
  | .sleep => false
  | .start => 1 ≤ s.aon.step && !s.supply.holdup
  | .part => !s.supply.holdup
  | .run => !s.supply.holdup
  | .safe => !s.supply.holdup
  | .recovery => !s.supply.holdup

/-- The response that the checks in front of a target give, OK where all pass: decode, attribute checker, quiesce state
(R124, R127). Every write to the pair safety block receives AERR, Amind's too (R174; DEDUCED, log entry 127). -/
def State.verdict (s : State) (t : Attr) (a len : Nat) (rd wr : Bool) : Resp :=
  match s.admits t a len rd wr with
  | none => .derr
  | some b =>
    if ¬ s.deadGuest t ∧ (b ∨ (t.amind ∧ target a ≠ 0x11 ∧ ¬ (wr ∧ within a 0x02800000 0x1000))) then (if s.targetServes a then .ok else .qerr) else .aerr

/-- The code of a response. -/
def Resp.code : Resp → Nat
  | .ok => 0
  | .retry => 1
  | .terr => 2
  | .derr => 3
  | .aerr => 4
  | .qerr => 5
  | .ferr => 6

/-- The error capture: every DERR and AERR counts, and the first since VALID was cleared is captured (R131). -/
def State.capture (s : State) (t : Attr) (a : Nat) (wr : Bool) (r : Resp) : State :=
  if r = .derr ∨ r = .aerr then
    s.onCore (fun c =>
      let e := c.fabErr
      { c with fabErr :=
        if e.valid then { e with count := satInc e.count }
        else {
          count := satInc e.count, valid := true, init := t.init, inst := t.inst, sec := t.sec, write := wr
          target := if r = .derr then 0 else BitVec.ofNat 8 (target a)
          resp := BitVec.ofNat 3 r.code, addr := BitVec.ofNat 40 a } })
  else s

/-- The initiator sees a response. -/
def State.answered (s : State) (r : Resp) (d : List Byte) : State :=
  s.onCore (fun c => { c with resp := { code := r, data := d } })

/-! ### Ports, credits and arbitration (R119, R122, R123, R137) -/

/-- A transaction as R119 allows it: 1 to 256 bytes within one aligned block of 256. -/
def Xact.fits (x : Xact) (n : Nat) : Bool :=
  1 ≤ n && n ≤ 256 && x.addr.toNat / 256 = (x.addr.toNat + n - 1) / 256 && (8 ≤ x.attr.init.toNat || n ≤ 64)

/-- A new transaction wins arbitration at its target: its class is higher than those of the ones that wait there (R137). -/
def State.wins (s : State) (a : Nat) (cls : BitVec 2) : Bool :=
  s.core.waiting.all (fun w => w.withheld || target w.x.addr.toNat ≠ target a || w.cls.toNat < cls.toNat)

/-- Two transactions of one initiator to one 256-byte block, which are answered in issue order (R122). -/
def Xact.ordered (x y : Xact) : Bool := x.attr.init = y.attr.init && x.addr.toNat / 256 = y.addr.toNat / 256

/-- The port whose credits an initiator uses: the two clusters, Amind, the debug port, and the engines together (R123). -/
def creditPort (b : Byte) : Nat :=
  if b.toNat < 4 then 0 else if b.toNat < 8 then 1 else if b = 0x10 then 2 else if b = 0x18 then 3 else 4

/-- The credits of a port (R123). -/
def creditsOf (p : Nat) : Nat := if p ≤ 1 then 256 else if p = 2 then 32 else if p = 3 then 8 else 472

/-- Outstanding non-posted transactions of the initiators that a test picks: those past their initiator port, and the writes that
trackers hold (R123, R587). -/
def State.inFlight (s : State) (p : Byte → Bool) : Nat :=
  (s.core.waiting.filter (fun w => !w.withheld && w.kind ≠ .posted && p w.x.attr.init)).length
    + (s.pass.trackers.filter (fun r => p r.x.attr.init)).length

/-- A credit is free for a transaction: one of its port, and for an engine one of its own 128; a posted write needs none (R123). -/
def State.credit (s : State) (k : XKind) (b : Byte) : Bool :=
  k = .posted || (s.inFlight (fun i => creditPort i = creditPort b) < creditsOf (creditPort b)
    && (creditPort b ≠ 4 || s.inFlight (fun i => i = b) < 128))

/-- A non-posted transaction of a hart is issued and awaits its answer (R122). -/
def State.issued (s : State) (t : Attr) : State :=
  if t.init.toNat < 8 then s.updHart t.init.toNat (fun h => { h with outstanding := h.outstanding + 1 }) else s

/-- A transaction waits: at its initiator port, or at an arbitration point. -/
def State.enqueue (s : State) (w : Waiting) : State :=
  let s1 := s.onCore (fun c => { c with waiting := c.waiting ++ [w] })
  if w.kind = .posted then s1 else s1.issued w.x.attr

/-- A transaction to a register that its port or its arbitration point holds back, as it then waits: behind an earlier one of its initiator to
its block, without a credit, or behind others at its target (R122, R123, R137). -/
def State.held (s : State) (x : Xact) (kind : XKind) : Option State :=
  let w : Waiting := { x := x, kind := kind, cls := x.attr.qos }
  if s.core.waiting.any (fun v => v.x.ordered x) ∨ ¬ s.credit kind x.attr.init then some (s.enqueue { w with withheld := true })
  else if ¬ s.wins x.addr.toNat x.attr.qos then some (s.enqueue w)
  else none

/-- One access to a register row: it may have to wait, then the checks in their order, then the row's own effect (R119, R122 to R124, R137). -/
def State.accessAt (s : State) (x : Xact) (kind : XKind) (own : State → State × Resp × List Byte) : State :=
  let n := if kind = .read then x.size else x.data.length
  if ¬ s.fabricUp ∨ ¬ x.fits n then s
  else match s.held x kind with
    | some t => t
    | none => match s.verdict x.attr x.addr.toNat n (kind = .read) (kind ≠ .read) with
      | .ok => let q := own s; q.1.answered q.2.1 q.2.2
      | r => (s.capture x.attr x.addr.toNat (kind ≠ .read) r).answered r []

/-- A write of n bytes of a number at an address. -/
def writeX (t : Attr) (a n v : Nat) : Xact := { attr := t, addr := BitVec.ofNat 40 a, size := n, data := leBytes n v }

/-- A read of n bytes at an address. -/
def readX (t : Attr) (a n : Nat) : Xact := { attr := t, addr := BitVec.ofNat 40 a, size := n }

/-- A write row whose own effect always answers OK. -/
def State.writeAt (s : State) (x : Xact) (own : State → State) : State := s.accessAt x .write (fun s => (own s, .ok, []))

end Sys2Proof.Machine
end

