-- ==== Sys2Proof/Machine/Operands.lean ====
section
/-! DEFINITION. How Amind takes a request: its readiness on the route, the checks of R226 in their order, and the response.
Each command of the reference gives its own row here as a specification record, its payload test and its own part. -/

namespace Sys2Proof.Machine

open Sys2Proof

/-- What the command reference gives of a command beside its payloads (R252). -/
structure CmdSpec where
  /-- Opcode. -/
  op : Nat
  /-- Permitted issuers. -/
  who : List Issuer
  /-- Role bit that a service session needs (R248). -/
  role : Option Nat := none
  /-- Permitted in START after step 5. -/
  st : Bool := false
  /-- Permitted in RUN and PARTIAL. -/
  run : Bool := true
  /-- Permitted in SAFE. -/
  safe : Bool := false
  /-- Permitted in RECOVERY. -/
  rcv : Bool := false
  /-- Expected types of the header handle; none where the command uses no handle. -/
  types : List Nat := []
  /-- The manager's access to handles of other instances applies (R252). -/
  mgrToo : Bool := true
  deriving DecidableEq, Repr

/-- Every issuer with a route: a command for the owner of a handle is judged by the handle (R236). -/
def everyIssuer : List Issuer := [.mgr, .sec, .ptr, .gst, .svc]

/-- What a command's own part answers. -/
structure Ans where
  /-- Status. -/
  st : Status := .ok
  /-- The new handle of a create command. -/
  handle : Option U32 := none
  /-- Payload. -/
  payload : List Byte := []
  /-- Reason code of a PENDING answer (R230). -/
  reason : Byte := 0
  deriving DecidableEq, Repr

/-- Amind runs and takes requests: from step 3 of a start on, outside SLEEP and OFF (R84, R216, R252), and not during the hold-up commit
sequence, in which it completes no more than the commit (R102; DEDUCED, log entry 77). -/
def State.amindUp (s : State) : Bool :=
  !s.supply.holdup && match s.aon.mode with
  | .off => false
  | .sleep => false
  | .start => 3 ≤ s.aon.step
  | .part => true
  | .run => true
  | .safe => true
  | .recovery => true

/-- Check 1: step 5 has completed, or the module is in RECOVERY (R216, R226). -/
def State.pastStep5 (s : State) : Bool :=
  match s.aon.mode with
  | .start => 5 ≤ s.aon.step
  | _ => true

/-- The service listens on a port, once the service record names a UDP port: the service port in every mode in which Amind runs, as
E21 while SVC_SEL is tied, and the named ports in RUN, PARTIAL and SAFE (R47, R90, R241). -/
def State.listens (s : State) (port : Nat) : Bool :=
  s.amindUp && s.mgmt.svc.udp.isSome &&
    (port = 21 || (port < 22 && s.mgmt.svc.ports.getLsbD port && (s.aon.mode = .run || s.aon.mode = .part || s.aon.mode = .safe)))

/-- The session of slot k. -/
def State.session (s : State) (k : Nat) : Session := Tab.get s.mgmt.amind.sessions k {}

/-- A datagram has none of the faults for which Amind drops it: bad magic, unknown session, failed tag, or a counter that is not above
the highest yet seen; on session ID 0 the counter is 2 in SESSION_AUTH and 1 otherwise (R244, R245). Another version or direction is
no envelope either (DESIGN CHOICE, log entry 131). -/
def State.genuine (s : State) (rq : Request) : Bool :=
  let e := rq.env
  let plain := e.magic = 0x5149 && e.version = 1 && e.dir = 0
  match rq.route with
  | .stall _ => true
  | .ptr _ => true
  | .svc k =>
    let u := s.session k
    plain && k < 2 && s.mgmt.amind.sessions.has k && !u.setup && e.sid = u.id && u.rx.toNat < e.counter.toNat
      && e.tag = e.tagOf (Tab.get s.ks.sessKeys k {}).t2m rq.bytes
  | .udp _ => plain && e.sid = 0 && e.counter = (if rq.opcode = 0x0102 then 2 else 1)

/-- Stalls that are QUEUED and stand in a round before a place, from another place on (R215). -/
def State.queuedBetween (s : State) (r : Round) (a b : Nat) : Bool :=
  s.mgmt.amind.stalls.any (fun e => e.1 < 64 && e.2.st = .queued && a ≤ r.place e.1 && r.place e.1 < b)

/-- It is the turn of a route: no queued stall stands before it in the round; in the next round where its place in this one is over
(R215). Datagrams that no row has brought yet wait outside the model (DESIGN CHOICE, log entry 17). -/
def State.turn (s : State) (key : Nat) : Bool :=
  let r := s.mgmt.amind.round
  if r.at_ ≤ r.place key then !s.queuedBetween r r.at_ (r.place key)
  else !s.queuedBetween r r.at_ 100 && !s.queuedBetween r.next 0 (r.next.place key)

/-- A command is in service and not yet answered: Amind executes one at a time, and a PASS_ERROR_CLEAR awaits its acknowledgement
(R214, R591). -/
def State.inService (s : State) : Bool := s.pass.wins.any (fun e => e.2.clearing.isSome)

/-- A request waits on its route, and Amind begins it next: a stall is QUEUED with it, or a session or the UDP service brings it in a
datagram without fault (R214, R215, R224, R244). -/
def State.waits (s : State) (rq : Request) : Bool :=
  !s.inService && s.turn rq.route.key &&
  match rq.route with
  | .stall n => n < 64 && n ≠ 3 && (s.stall n).st = .queued && (s.stall n).captured = some rq
  | .ptr o => o < 2 && (s.stall 3).st = .queued && (s.stall 3).captured = some rq
  | .svc _ => s.listens rq.env.port && s.genuine rq
  | .udp _ => s.listens rq.env.port && s.genuine rq

/-- The highest payload length of a route (R226, R243). -/
def Route.maxLen : Route → Nat
  | .stall _ => 2032
  | .ptr _ => 2032
  | .svc _ => 1392
  | .udp _ => 1392

/-- Check 2: the sequence is not 0, the length is in range, and no flag but REMOTE is set (R226, R232). -/
def Request.headerOk (rq : Request) : Bool :=
  rq.seq ≠ 0 && rq.len.toNat ≤ rq.route.maxLen && rq.flags &&& ~~~flRemote = 0

/-- REMOTE is set on stall 0 or 1: the request is relayed (R238). -/
def Request.relayed (rq : Request) : Bool :=
  rq.flags &&& flRemote ≠ 0 && (rq.route = .stall 0 || rq.route = .stall 1)

/-- The role mask of a session's credential (R248). -/
def State.roles (s : State) (r : Route) : Byte :=
  match r with
  | .svc k => (Tab.get s.mgmt.amind.sessions k {}).roles
  | _ => 0

/-- Check 5: the issuer is permitted, with its role, and REMOTE is not set (R226, R238, R248). -/
def State.issuerOk (s : State) (c : CmdSpec) (rq : Request) : Bool :=
  c.who.contains rq.route.issuer && rq.flags &&& flRemote = 0 &&
    (match rq.route.issuer, c.role with
     | .svc, some b => (s.roles rq.route).getLsbD b
     | _, _ => true)

/-- Commands that a RETIRED module serves (R618). -/
def retiredOps : List Nat := [0x0101, 0x0102, 0x0103, 0x0120, 0x0121, 0x0801, 0x0802, 0x0810, 0x0811]

/-- Commands that the recovery service of the boot ROM serves (R90). -/
def bootRomOps : List Nat := [0x0101, 0x0102, 0x0103, 0x0120, 0x0801, 0x0631, 0x0820, 0x0821, 0x0822, 0x0823]

/-- The route is a service session or the UDP service: the routes that RECOVERY serves (R89). -/
def Route.udpSide (r : Route) : Bool :=
  match r with
  | .stall _ => false
  | .ptr _ => false
  | .svc _ => true
  | .udp _ => true

/-- Check 6: the mode and the life-cycle state permit the command (R89, R90, R226, R618). -/
def State.modeOk (s : State) (c : CmdSpec) (r : Route) : Bool :=
  (match s.aon.mode with
   | .start => c.st
   | .part => c.run
   | .run => c.run
   | .safe => c.safe
   | .recovery => c.rcv && r.udpSide && (!s.aon.bootRom || bootRomOps.contains c.op)
   | .off => false
   | .sleep => false) && (s.aon.lifecycle ≠ 4 || retiredOps.contains c.op)

/-- Checks 4 to 8 of R226 for a command whose opcode the request carries: the status of the first that fails. -/
def State.precheck (s : State) (c : CmdSpec) (rq : Request) (valid : List Byte → Bool) (retiring : Bool) : Status :=
  if ¬ s.issuerOk c rq then .denied
  else if ¬ s.modeOk c rq.route then .wrongMode
  else if ¬ (rq.payload.length = rq.len.toNat ∧ valid rq.payload) then .badParam
  else if c.types = [] then .ok
  else s.checkHandle rq.route rq.handle c.types c.mgrToo retiring

/-- The response to a request: opcode, sequence and handle echoed or new (R227, R229); a payload only with OK, PENDING
or LATCHED, and with PENDING its reason (R230). -/
def answerOf (rq : Request) (a : Ans) : Response :=
  { opcode := rq.opcode, seq := rq.seq, status := a.st.code, handle := a.handle.getD rq.handle,
    payload := if a.st = .pending then leBytes 4 a.reason.toNat
      else if a.st = .ok ∨ a.st = .latched then a.payload else [] }

/-- The route still holds the request that it is to be answered: a stall that an instance reset or a withdrawal has cleared does not
(R224). -/
def State.holdsRequest (s : State) (r : Route) : Bool :=
  match r with
  | .stall n => (s.stall n).inService
  | .svc _ => true
  | .ptr _ => true
  | .udp _ => true

/-- The response is kept for replay under the sequence accepted last, but for a stall that was cleared meanwhile; a PENDING one opens an
outcome record (R223, R224, R259). -/
def State.record (s : State) (rq : Request) (a : Ans) : State :=
  let kept := s.holdsRequest rq.route
  s.updRoute rq.route.key (fun r => { r with
    lastSeq := if kept then rq.seq else r.lastSeq, stored := if kept then answerOf rq a else r.stored
    pend := if a.st = .pending then
        ({ opcode := rq.opcode, seq := rq.seq, reason := a.reason } : PendRec) :: r.pend
      else r.pend })

/-- Amind answers BUSY and executes nothing: before step 5 has completed, under the boot ROM on a stall, and in
COMMITTED (R90, R216, R421). -/
def State.answersBusy (s : State) (r : Route) : Bool := !s.pastStep5 || (s.aon.bootRom && !r.udpSide) || s.sleep.phase = 3

/-- Amind begins a request: its route takes its place in the round, and a valid datagram of a session sets the counter last seen and
where the session's notices go (R215, R243, R244, R247). -/
def State.heard (s : State) (rq : Request) : State :=
  let s1 := s.onAmind (fun a => { a with round := a.round.take rq.route.key })
  match rq.route with
  | .svc k => s1.onAmind (fun a => { a with sessions := Tab.upd a.sessions k {} (fun e => { e with
      rx := rq.env.counter, peer := rq.env.peer, port := rq.env.port }) })
  | .stall _ => s1
  | .ptr _ => s1
  | .udp _ => s1

/-- A datagram with a fault is dropped and counted (R244). -/
def State.dropped (s : State) (rq : Request) : State :=
  if rq.route.udpSide && s.listens rq.env.port && !s.genuine rq then s.onAmind (fun a => { a with udpDrops := satInc a.udpDrops })
  else s

/-- The sequence is the one accepted last on a route that keeps one: every route but the UDP service (R223, R247). -/
def State.replays (s : State) (rq : Request) : Bool :=
  rq.route.key ≠ 70 && (s.route rq.route.key).lastSeq = rq.seq

/-- The defined opcodes (R228, R252). -/
def definedOps : List Nat :=
  [0x0101, 0x0102, 0x0103, 0x0110, 0x0111, 0x0112, 0x0113, 0x0120, 0x0121]
    ++ [0x0201, 0x0202, 0x0203, 0x0204, 0x0205, 0x0206, 0x0207, 0x0208, 0x0209, 0x020A]
    ++ [0x0301, 0x0302, 0x0303, 0x0304, 0x0305, 0x0306, 0x0307]
    ++ [0x0401, 0x0402, 0x0403, 0x0404, 0x0405, 0x0410, 0x0411, 0x0420, 0x0421, 0x0422]
    ++ [0x0501, 0x0502, 0x0503, 0x0504, 0x0505, 0x0510, 0x0511]
    ++ [0x0601, 0x0602, 0x0603, 0x0604, 0x0605, 0x0610, 0x0611, 0x0612, 0x0613, 0x0620, 0x0621, 0x0622, 0x0630, 0x0631]
    ++ [0x0701, 0x0702, 0x0703, 0x0704, 0x0705]
    ++ [0x0801, 0x0802, 0x0810, 0x0811, 0x0820, 0x0821, 0x0822, 0x0823, 0x0830, 0x0831]
    ++ [0x0901, 0x0902, 0x0903, 0x0904, 0x0905]

/-- The opcode is one that no command defines (R228). -/
def Request.unknown (rq : Request) : Bool := !definedOps.contains rq.opcode.toNat

/-- Amind's service of a request: the checks of R226 in order, the command's own part, and the response. A request that
does not wait on its route, belongs to the relay or carries another command's opcode changes nothing; an opcode that no
command defines is answered whichever row brings it (R228; DEDUCED, log entry 40). -/
def serveWith (c : CmdSpec) (rq : Request) (s0 : State) (valid : List Byte → Bool) (retiring : Bool)
    (own : State → State × Ans) : Out :=
  let s := s0.heard rq
  if ¬ (s0.waits rq ∧ s0.amindUp ∧ (rq.opcode.toNat = c.op ∨ rq.unknown) ∧ ¬ rq.relayed) then .next (s0.dropped rq)
  else if s.answersBusy rq.route then fin (s.respond rq.route (answerOf rq { st := .busy }))
  else if ¬ rq.headerOk then fin (s.respond rq.route (answerOf rq { st := .badParam }))
  else if s.replays rq then
    let r := (s.route rq.route.key).stored
    fin (s.respond rq.route { r with flags := r.flags ||| flReplay })
  else
    match (if rq.unknown then .badParam else s.precheck c rq valid retiring) with
    | .ok =>
      let r := own s
      fin ((r.1.record rq r.2).respond rq.route (answerOf rq r.2))
    | e => fin ((s.record rq { st := e }).respond rq.route (answerOf rq { st := e }))

/-- The service of a command that refuses retiring handles. -/
def serve (c : CmdSpec) (rq : Request) (s : State) (valid : List Byte → Bool) (own : State → State × Ans) : Out :=
  serveWith c rq s valid false own

/-- A refusal by the command's own conditions: nothing changes. -/
def no (s : State) (e : Status) : State × Ans := (s, { st := e })

/-- A plain OK. -/
def yes (s : State) : State × Ans := (s, {})

/-- An OK with a payload. -/
def yesWith (s : State) (p : List Byte) : State × Ans := (s, { payload := p })

/-- Whether a request comes from secure software (R236). -/
def Request.isSec (rq : Request) : Bool := rq.route = .stall 2

end Sys2Proof.Machine
end

