-- ==== Sys2Proof/Machine/Bridge.lean ====
section
/-! DEFINITION. The time-aware bridge: its ports, the best master clock algorithm, and the grandmaster that it follows or is (R355, R357). -/

namespace Sys2Proof.Machine

open Sys2Proof

/-- Change the bridge. -/
def State.onBridge (s : State) (f : Bridge → Bridge) : State := s.onEth (fun e => { e with bridge := f e.bridge })

/-- Bridge port p. -/
def Bridge.port (b : Bridge) (p : Nat) : TabPort := Tab.get b.ports p {}

/-- Change bridge port p. -/
def State.updTab (s : State) (p : Nat) (f : TabPort → TabPort) : State :=
  s.onBridge (fun b => { b with ports := Tab.upd b.ports p {} f })

/-- The time-aware bridge runs on a port (R355). With SVC_SEL open E21 carries service traffic alone (R47). -/
def State.bridgeOn (s : State) (p : Nat) : Bool :=
  s.eth.bridge.en && (p < 22 || p = 29) && !(p = 21 && s.supply.straps.svcOpen)

/-- A bridge port has its link, and a neighbour that speaks 802.1AS (R357; PRESUMED, log entry 108). -/
def State.tabLive (s : State) (p : Nat) : Bool :=
  s.bridgeOn p && (if p = 29 then (s.swPort 29).link else (s.ethPort p).link) && (s.eth.bridge.port p).asCapable

/-- The module's own clock identity: the spec does not give it (DESIGN CHOICE, log entry 25). -/
def ownClock : U64 := Config.freeWord 0 0

/-- The module's own clock: priority1, priority2 and class as TAB_CFG gives them, priority1 255 where it cannot be grandmaster; accuracy and
variance are free values (R355, R365; PRESUMED, log entry 108). -/
def Bridge.own (b : Bridge) : PtpInfo :=
  { root := {
      prio1 := if b.gmCapable then b.prio1 else 255, cls := b.clockClass, accuracy := (Config.freeWord 25 0).setWidth 8
      variance := (Config.freeWord 25 1).setWidth 16, prio2 := b.prio2, id := ownClock }
    sender := ownClock }

/-- Lists of numbers in lexicographic order. -/
def lexLt : List (Nat × Nat) → Bool
  | [] => false
  | (a, b) :: r => if a < b then true else if b < a then false else lexLt r

/-- Of two announces, heard on ports p and q, the first names the better master: the lower in priority1, class, accuracy, variance,
priority2, identity, steps removed, sender, and the port that heard it (R355; PRESUMED, log entry 108). -/
def PtpInfo.better (a b : PtpInfo) (p q : Nat) : Bool :=
  lexLt [(a.root.prio1.toNat, b.root.prio1.toNat), (a.root.cls.toNat, b.root.cls.toNat),
    (a.root.accuracy.toNat, b.root.accuracy.toNat), (a.root.variance.toNat, b.root.variance.toNat),
    (a.root.prio2.toNat, b.root.prio2.toNat), (a.root.id.toNat, b.root.id.toNat), (a.steps.toNat, b.steps.toNat),
    (a.sender.toNat, b.sender.toNat), (a.senderPort.toNat, b.senderPort.toNat), (p, q)]

/-- A new grandmaster (R357). -/
def State.setGm (s : State) (id : U64) (steps : Byte) (role : BitVec 2) : State :=
  let b := s.eth.bridge
  let s1 := s.onBridge (fun b => { b with gmId := id, stepsRemoved := steps, role := role })
  if b.gmId ≠ id ∨ b.role ≠ role then (s1.onBridge (fun b => { b with good := 0 })).ethGlobal 0 else s1

/-- The module is grandmaster: GSTATE becomes 1 at once (R357). -/
def State.grandmaster (s : State) : State :=
  let t := s.setGm ownClock 0 1
  { t with tb := { t.tb with gstate := 1 } }

/-- The live ports with what they have heard, one step further. -/
def State.tabHeard (s : State) : List (Nat × PtpInfo) :=
  (List.range 30).filterMap (fun p =>
    if s.tabLive p then ((s.eth.bridge.port p).info).map (fun i => (p, { i with steps := i.steps + 1 })) else none)

/-- The best of the announces heard, with its port. -/
def bestMaster (l : List (Nat × PtpInfo)) : Option (Nat × PtpInfo) :=
  l.foldl (fun b e => match b with
    | none => some e
    | some m => if e.2.better m.2 e.1 m.1 then some e else b) none

/-- The role of a live port beside the slave: passive where its neighbour names a better master than the module would, and else master
(R355; PRESUMED, log entry 108). -/
def Bridge.besideRole (b : Bridge) (p : Nat) (root : PtpClock) (steps : Byte) : BitVec 2 :=
  match (b.port p).info with
  | none => 1
  | some i => if i.better { root := root, steps := steps, sender := ownClock, senderPort := BitVec.ofNat 16 p } p p then 3 else 1

/-- The roles of the ports under the best master clock algorithm: disabled, slave, or beside the slave. -/
def State.tabRoles (s : State) (slave : Option Nat) (root : PtpClock) (steps : Byte) : State :=
  let live := s.tabLive
  s.onBridge (fun b => { b with ports := ((List.range 30).filter (fun p => p < 22 || p = 29)).foldl (fun (t : Tab TabPort) p =>
    let r : BitVec 2 := if !live p then 0 else if slave = some p then 2 else b.besideRole p root steps
    if r = (Tab.get t p {}).role then t else Tab.upd t p {} (fun u => { u with role := r })) b.ports })

/-- The master is chosen afresh: by external port configuration the slave port names it, and a module without one is grandmaster where it can
be; otherwise the best master clock algorithm decides (R355, R357; PRESUMED, log entry 108). -/
def State.bmca (s : State) : State :=
  let b := s.eth.bridge
  if ¬ b.en then s
  else if b.ext then
    match (List.range 30).find? (fun p => s.bridgeOn p && (b.port p).role = 2) with
    | some p => (match (b.port p).info with
      | some i => s.setGm i.root.id (i.steps + 1) 2
      | none => s)
    | none => if b.gmCapable then s.grandmaster else s
  else
    let alone :=
      let t := s.tabRoles none b.own.root 0
      if b.gmCapable then t.grandmaster else t.setGm 0 0 0
    match bestMaster s.tabHeard with
    | none => alone
    | some (p, i) =>
      if i.better b.own p 0 then (s.tabRoles (some p) i.root i.steps).setGm i.root.id i.steps 2 else alone

/-- A bridge port whose link is gone has heard nothing and has no neighbour. -/
def State.tabDown (s : State) (p : Nat) : State :=
  if ¬ s.bridgeOn p then s else (s.updTab p (fun t => { t with asCapable := false, info := none })).bmca

end Sys2Proof.Machine
end

