-- ==== Sys2Proof/Machine/Switch.lean ====
section
/-! DEFINITION. The switch core: parsing, classification, lookup, policing, stream recovery, the market and its push-out,
the virtual output queues, the multicast service and the queue pairs' receive lists (R283 to R318). -/

namespace Sys2Proof.Machine

open Sys2Proof

/-! ### Frames as bytes -/

/-- A number of `n` bytes from an offset on, the first byte the most significant, as the wire orders it. -/
def beAt (p : List Byte) (i n : Nat) : Nat := ((p.drop i).take n).foldl (fun a b => a * 256 + b.toNat) 0

/-- A number as `n` bytes, the most significant first. -/
def beBytes (n v : Nat) : List Byte := (leBytes n v).reverse

/-- Destination MAC address. -/
def dmacOf (b : List Byte) : Nat := beAt b 0 6
/-- The frame has a VLAN tag. -/
def isTagged (b : List Byte) : Bool := beAt b 12 2 = 0x8100
/-- Offset of the EtherType behind the VLAN tag. -/
def typeOff (b : List Byte) : Nat := if isTagged b then 16 else 12
/-- EtherType behind the VLAN tag (DEDUCED, log entry 20). -/
def etherType (b : List Byte) : Nat := beAt b (typeOff b) 2
/-- The VLAN ID of the tag; 0 for an untagged frame. -/
def tagVid (b : List Byte) : Nat := if isTagged b then beAt b 14 2 % 4096 else 0
/-- The PCP of the tag. -/
def tagPcp (b : List Byte) : Nat := beAt b 14 2 / 8192
/-- The destination is a group address. -/
def isGroup (b : List Byte) : Bool := u8At b 0 % 2 = 1
/-- The destination is one of 01-80-C2-00-00-00 to 01-80-C2-00-00-0F (R334). -/
def isReserved (b : List Byte) : Bool := dmacOf b / 16 = 0x0180C200000
/-- Sequence number of the R-TAG, if the frame has one (R352). -/
def rTag (b : List Byte) : Option U16 :=
  if etherType b = 0xF1C1 then some (BitVec.ofNat 16 (beAt b (typeOff b + 4) 2)) else none
/-- The frame without its R-TAG. -/
def dropRTag (b : List Byte) : List Byte := b.take (typeOff b) ++ b.drop (typeOff b + 6)

/-- One byte of the CRC of R297. -/
def crcByte (c : U16) (b : Byte) : U16 :=
  (List.range 8).foldl (fun c _ => if c.getLsbD 15 then (c <<< 1) ^^^ 0x1021 else c <<< 1) (c ^^^ (b.zeroExtend 16 <<< 8))

/-- The CRC of R297: polynomial 0x1021, initial value 0xFFFF, no reflection and no final XOR. -/
def crc16 (bs : List Byte) : U16 := bs.foldl crcByte 0xFFFF

/-- Bytes of the IP addresses and the protocol for the flow hash, and of the ports (R297). The protocol number of IPv6 is the next-header
field of the fixed header, so TCP or UDP behind an extension header adds no ports (DESIGN CHOICE, log entry 153). -/
def hashL3 (b : List Byte) (l4 : Bool) : List Byte :=
  let o := typeOff b + 2
  let ports (proto : Nat) (q : Nat) (frag : Bool) : List Byte :=
    if l4 && !frag && (proto = 6 || proto = 17) then (b.drop q).take 4 else []
  if etherType b = 0x0800 then
    let ihl := (u8At b o % 16) * 4
    (b.drop (o + 12)).take 8 ++ (b.drop (o + 9)).take 1 ++ ports (u8At b (o + 9)) (o + ihl) (beAt b (o + 6) 2 % 16384 ≠ 0)
  else if etherType b = 0x86DD then
    (b.drop (o + 8)).take 32 ++ (b.drop (o + 6)).take 1 ++ ports (u8At b (o + 6)) (o + 40) (u8At b (o + 6) = 44)
  else []

/-- The flow hash H (R297). -/
def Switch.hash (w : Switch) (port : Nat) (b : List Byte) : U16 :=
  crc16 (leBytes 1 port ++ b.take 12 ++ beBytes 2 (tagVid b) ++ beBytes 2 (etherType b)
    ++ (if w.l3 then hashL3 b w.l4 else []))

/-- Cells of a frame of L bytes counted to the end of the FCS (R285). -/
def cellsOf (b : List Byte) : Nat := (b.length + 4 + 16 + 255) / 256

/-! ### Flow lookup -/

/-- The bucket of a key (R301): the CRC over ingress, destination MAC, VLAN ID and priority, unselected fields 0 (log
entry 21). -/
def flowBucket (ingress : Nat) (mat : BitVec 3) (vid dmac pcp : Nat) : Nat :=
  (crc16 (leBytes 1 ingress ++ beBytes 6 (if mat.getLsbD 1 then dmac else 0)
    ++ beBytes 2 (if mat.getLsbD 0 then vid else 0) ++ leBytes 1 (if mat.getLsbD 2 then pcp else 0))).toNat % 4096

/-- An entry matches a key under the flags of a combination. -/
def Flow.hit (f : Flow) (mat : BitVec 3) (ingress vid dmac pcp : Nat) : Bool :=
  f.valid && f.mat = mat && f.ingress.toNat = ingress
    && (!mat.getLsbD 0 || f.vlan.toNat = vid) && (!mat.getLsbD 1 || f.dmac.toNat = dmac)
    && (!mat.getLsbD 2 || f.pcp.toNat = pcp)

/-- The number of the valid entry of a combination, if there is one. -/
def Switch.probe (w : Switch) (mat : BitVec 3) (ingress vid dmac pcp : Nat) : Option Nat :=
  let b := flowBucket ingress mat vid dmac pcp * 4
  [b, b + 1, b + 2, b + 3].find? (fun e => (Tab.get w.flows e {}).hit mat ingress vid dmac pcp)

/-- Match flags in the order of precedence of R302: VLAN bit 0, MAC bit 1, priority bit 2. -/
def matchOrder : List (BitVec 3) := [7, 3, 5, 1, 6, 2, 4, 0]

/-- The entry that decides a frame (R302). -/
def Switch.lookup (w : Switch) (ingress vid dmac pcp : Nat) : Option Nat :=
  matchOrder.findSome? (fun m => w.probe m ingress vid dmac pcp)

/-- Set bits of a port mask, as port numbers. -/
def portsOf {n : Nat} (m : BitVec n) : List Nat := (List.range n).filter (fun p => m.getLsbD p)

/-- The aggregation group of a port, if it is a member of one. -/
def Switch.lagOf (w : Switch) (p : Nat) : Option Nat :=
  (List.range 8).find? (fun g => p < 22 && (Tab.get w.lags g {}).members.getLsbD p)

/-- The member of a group that a hash selects (R299); none while no member is active. -/
def Switch.member (w : Switch) (g : Nat) (h : U16) : Option Nat :=
  let act := portsOf (Tab.get w.lags g {}).active
  if act.length = 0 then none else act[((h.extractLsb' 8 8).toNat % act.length)]?

/-- A mask of a flow entry or a VLAN lists a port: by its own bit or, for a member of a group, by that of any member (R299). -/
def Switch.lists (w : Switch) (m : BitVec 30) (p : Nat) : Bool :=
  m.getLsbD p || (match w.lagOf p with
    | some g => (portsOf (Tab.get w.lags g {}).members).any (fun q => m.getLsbD q)
    | none => false)

/-- Egress ports of a mask after aggregation: each group once, by its selected member (R299). -/
def Switch.expand (w : Switch) (ports : List Nat) (h : U16) : List Nat :=
  (ports.filterMap (fun p => match w.lagOf p with
    | none => some p
    | some g => w.member g h)).dedup

/-! ### Occupancy, flow control and cells -/

/-- A port sends flow control towards its link partner: pause or PFC is configured on E0 to E21 (R335). -/
def State.hasFc (s : State) (p : Nat) : Bool := p < 22 && ((s.ethPort p).pause || (s.ethPort p).pfc)

/-- The bytes of a pause frame of port p (R311, R336). -/
def pauseBytes (p : Nat) (q : U16) : List Byte :=
  beBytes 6 0x0180C2000001 ++ beBytes 6 (Config.macBase.toNat + 130 + p) ++ beBytes 2 0x8808 ++ beBytes 2 0x0001
    ++ beBytes 2 q.toNat ++ List.replicate 42 0

/-- The bytes of a PFC frame of port p: the classes it names and the quanta of each (R336). -/
def pfcBytes (p : Nat) (enables asserted : Byte) (q : U16) : List Byte :=
  beBytes 6 0x0180C2000001 ++ beBytes 6 (Config.macBase.toNat + 130 + p) ++ beBytes 2 0x8808 ++ beBytes 2 0x0101
    ++ beBytes 2 enables.toNat
    ++ ((List.range 8).map (fun n => beBytes 2 (if asserted.getLsbD n then q.toNat else 0))).flatten ++ List.replicate 26 0

/-- The bytes of a pause or PFC frame of port p (R336). -/
def FcFrame.bytes (f : FcFrame) (p : Nat) (q : U16) : List Byte :=
  if f.pfc then pfcBytes p f.enables f.on q else pauseBytes p (if f.on = 0 then 0 else q)

/-- Port p sends a pause or PFC frame: 64 bytes with the FCS (R336, R365). -/
def State.fcNow (s : State) (p : Nat) (f : FcFrame) : State :=
  (s.updSwPort p (fun u => { u with sent := f.bytes p (s.ethPort p).quanta, sentBad := false })).updEthPort p (fun e =>
    { e with pauseSent := f.on, cnt := { e.cnt with
      txPause := e.cnt.txPause + 1, txFrames := e.cnt.txFrames + 1, txBytes := e.cnt.txBytes + 64 } })

/-- No frame is on the wire of port p: none leaves, or the one that HOLD has stopped at a fragment boundary waits alone (R346). -/
def State.lineFree (s : State) (p : Nat) : Bool :=
  (s.swPort p).inFlight.isEmpty || ((s.swPort p).halted && (s.swPort p).inFlight.length = 1)

/-- The MAC sends a pause or PFC frame on its link: at once on an idle line, and otherwise as soon as the frame in transmission ends, or at
its next fragment boundary (R336). -/
def State.fcSend (s : State) (p : Nat) (f : FcFrame) : State :=
  if ¬ (s.ethPort p).link then s
  else if s.lineFree p then s.fcNow p f
  else s.updEthPort p (fun e => { e with due := e.due ++ [f] })

/-- The pause and PFC frames that waited are sent (R336). -/
def State.fcFlush (s : State) (p : Nat) : State :=
  ((s.ethPort p).due.foldl (fun t f => t.fcNow p f) s).updEthPort p (fun e => { e with due := [] })

/-- A watermark flag after a new count (R296). -/
def wmFlag (was : Bool) (high low : U16) (n : Nat) : Bool :=
  if high = 0 then false else if high.toNat ≤ n then true else if n ≤ low.toNat then false else was

/-- The watermark flags of an ingress port follow its occupancy, and the MAC tells its link partner (R296, R336). -/
def State.flowControl (s : State) (p : Nat) : State :=
  let u := s.swPort p
  let fc := wmFlag u.fcAssert u.high u.low u.occ.toNat
  let pfc : Byte := (List.range 8).foldl (fun (m : Byte) c =>
    putBit m c (wmFlag (u.pfcAssert.getLsbD c) u.high u.low (Tab.get u.occCls c 0))) 0
  let s1 := s.updSwPort p (fun v => { v with fcAssert := fc, pfcAssert := pfc })
  if p < 22 ∧ (s.ethPort p).pause ∧ fc ≠ u.fcAssert then
    s1.fcSend p { on := if fc then 0xFF else 0 }
  else if p < 22 ∧ (s.ethPort p).pfc ∧ pfc ≠ u.pfcAssert then s1.fcSend p { pfc := true, enables := pfc ||| u.pfcAssert, on := pfc }
  else s1

/-- SW_EVENT.MARKET_LOW is set while free market cells are below the mark (R292). -/
def State.marketLow (s : State) : State := if s.sw.free < s.sw.lowMark then s.swEvent 0 else s

/-- The share of an account; the port pool holds what no instance holds (R290). -/
def State.acctShare (s : State) (n : Nat) : Nat :=
  if n = 63 then 524288 - (s.sw.accts.foldl (fun t a => if a.1 < 63 then t + a.2.share else t) 0)
  else (Tab.get s.sw.accts n {}).share

/-- Change account n. -/
def State.updAcct (s : State) (n : Nat) (f : Acct → Acct) : State :=
  s.onSw (fun w => { w with accts := Tab.upd w.accts n {} f })

/-- The queue pair through which a market frame is charged (R289). -/
def Frame.via (f : Frame) : Option Nat :=
  match f.fromQp with
  | some q => some q
  | none => if f.dests.all (fun d => d = 26 || d = 27) && f.qps.length = 1 then f.qps.head? else none

/-- The cells of a frame are taken or given back: occupancy of its ingress, account, queue pair, free cells. -/
def State.takeCells (s : State) (f : Frame) (via : Option Nat) : State :=
  let s1 := s.updSwPort f.ingress (fun u => { u with
    occ := if f.express then u.occ else u.occ + BitVec.ofNat 20 f.cells
    occCls := if f.express then u.occCls else Tab.upd u.occCls f.cls 0 (fun n => n + f.cells) })
  let s2 := if f.express then s1.onSw (fun w => { w with expFree := w.expFree - f.cells })
    else
      let t := (s1.onSw (fun w => { w with free := w.free - f.cells })).updAcct f.acct
        (fun a => { a with used := a.used + f.cells })
      match via with
      | none => t
      | some q => t.updQp q (fun u => { u with used := u.used + f.cells })
  (s2.flowControl f.ingress).marketLow

/-- A frame is gone: its cells are freed and every list forgets it (R306). -/
def State.freeFrame (s : State) (f : Frame) : State :=
  let s1 := s.updSwPort f.ingress (fun u => { u with
    occ := if f.express then u.occ else u.occ - BitVec.ofNat 20 f.cells
    occCls := if f.express then u.occCls else Tab.upd u.occCls f.cls 0 (fun n => n - f.cells) })
  let s2 := if f.express then s1.onSw (fun w => { w with expFree := w.expFree + f.cells })
    else
      let t := (s1.onSw (fun w => { w with free := w.free + f.cells })).updAcct f.acct
        (fun a => { a with used := a.used - f.cells })
      match f.chargedQp with
      | none => t
      | some q => t.updQp q (fun u => { u with used := u.used - f.cells })
  (s2.onSw (fun w => { w with
    frames := w.frames.filter (fun g => g.id ≠ f.id)
    residue := w.residue.map (fun r => (r.1, r.2.filter (fun i => i ≠ f.id)))
    ports := w.ports.map (fun r => (r.1, { r.2 with inFlight := r.2.inFlight.filter (fun i => i ≠ f.id) }))
    qps := w.qps.map (fun r => (r.1, { r.2 with rxList := r.2.rxList.filter (fun i => i ≠ f.id) })) })).flowControl f.ingress

/-- The stored frame of a number. -/
def State.frame (s : State) (i : Nat) : Option Frame := s.sw.frames.find? (fun f => f.id = i)

/-- Change the stored frame of a number. -/
def State.updFrame (s : State) (i : Nat) (g : Frame → Frame) : State :=
  s.onSw (fun w => { w with frames := w.frames.map (fun f => if f.id = i then g f else f) })

/-- A frame without destination and receiver is freed (R306). -/
def State.freeIfDone (s : State) (i : Nat) : State :=
  match s.frame i with
  | none => s
  | some f => if f.dests.isEmpty && f.qps.isEmpty then s.freeFrame f else s

/-- A queue engine begins to copy a frame to DRAM: it is no victim any more (R307). -/
def State.rxBegin (s : State) (i : Nat) : State := s.updFrame i (fun f => { f with begun := true })

/-- The frame at the head of a receive list leaves it (R315). -/
def State.rxPop (s : State) (q i : Nat) : State :=
  ((s.updQp q (fun u => { u with rxList := u.rxList.drop 1 })).updFrame i (fun f =>
    { f with qps := f.qps.filter (fun k => k ≠ q) })).freeIfDone i

/-- The copy of a frame towards an egress is gone. -/
def State.dropDest (s : State) (i p : Nat) : State :=
  ((s.updFrame i (fun f => { f with dests := f.dests.filter (fun d => d ≠ p) })).onSw (fun w => { w with
    residue := w.residue.map (fun r => if r.1 / 8 = p then (r.1, r.2.filter (fun j => j ≠ i)) else r) })).updSwPort p
    (fun u => { u with inFlight := u.inFlight.filter (fun j => j ≠ i) }) |>.freeIfDone i

/-! ### Push-out -/

/-- A frame may be pushed out by an arrival of a class in an account (R307). -/
def Frame.victim (f : Frame) (acct cls : Nat) : Bool := !f.express && f.acct = acct && f.cls < cls && !f.begun

/-- The queues in which a frame waits: the multicast queue until it is served, its unicast queue until its egress takes it, the residue
queues of its copies, and the receive lists that hold it (R293, R305, R315). -/
def State.queuesOf (s : State) (f : Frame) : List (Nat × Nat × Nat × Nat) :=
  (if f.multi then (if f.served then [] else [(1, f.ingress, 0, f.cls)])
    else (f.dests.filter (fun p => !(s.swPort p).inFlight.contains f.id)).map (fun p => (0, f.ingress, p, f.cls)))
  ++ (s.sw.residue.filter (fun r => r.2.contains f.id)).map (fun r => (3, r.1 / 8, 0, r.1 % 8))
  ++ (s.sw.qps.filter (fun q => q.2.rxList.contains f.id)).map (fun q => (2, q.1, 0, 0))

/-- The next victim: the most recently admitted eligible frame of the lowest class in the longest queue of the account
(R308). The length is that of the account's frames, and a frame counts in each queue that it waits in (DEDUCED, log entry 156). Among
queues of equal length the choice is a free value (DESIGN CHOICE, log entry 22). -/
def State.nextVictim (s : State) (gone : List Frame) (acct cls : Nat) : Option Frame :=
  let left := s.sw.frames.filter (fun f => !gone.contains f)
  let can := left.filter (fun f => f.victim acct cls)
  match (can.map (fun f => f.cls)).min? with
  | none => none
  | some low =>
    let pool := can.filter (fun f => f.cls = low)
    let size (q : Nat × Nat × Nat × Nat) : Nat :=
      (left.filter (fun g => !g.express && g.acct = acct && (s.queuesOf g).contains q)).length
    let all := (pool.map s.queuesOf).flatten.dedup
    let longest := (all.map size).foldl max 0
    let queues := all.filter (fun q => size q = longest)
    let pick := if queues.length ≤ 1 then 0 else Config.freeNat (22 + 64 * gone.length) s.core.fresh % queues.length
    match queues[pick]? with
    | none => none
    | some q => (pool.filter (fun f => (s.queuesOf f).contains q)).getLast?

/-- The victims of an arrival that needs `need` more cells, at most `n` (R308); none if they do not suffice. -/
def State.victims (s : State) (acct cls : Nat) : Nat → Nat → List Frame → Option (List Frame)
  | _, 0, gone => some gone
  | 0, _, _ => none
  | n + 1, need, gone =>
    match s.nextVictim gone acct cls with
    | none => none
    | some f => State.victims s acct cls n (need - f.cells) (gone ++ [f])

/-- The egress ports of a frame that still holds its cells: those with a copy to send, and I0 or I1 for a queue pair's receive list
(R308, R315). -/
def Frame.egresses (f : Frame) : List Nat := (f.dests ++ f.qps.map (fun q => 26 + q / 64)).dedup

/-- A victim is dropped: each of its egress ports counts it (R308). -/
def State.pushOut (s : State) (f : Frame) : State :=
  (f.egresses.foldl (fun t p => t.cntSw p (fun c => { c with pushed := c.pushed + 1 })) s).freeFrame f

/-! ### Admission -/

/-- The account that a market frame is charged to (R289): the owner of the queue pair it is charged through, or the port
pool. -/
def State.acctOf (s : State) (via : Option Nat) : Nat :=
  match via with
  | some q => match s.hFind 0x01 q with
    | some h => h.owner
    | none => 63
  | none => 63

/-- Express cells that frames towards an egress hold. -/
def State.expressAt (s : State) (p : Nat) : Nat :=
  s.sw.frames.foldl (fun n f => if f.express && f.dests.contains p then n + f.cells else n) 0

/-- The two conditions of R286 on room: the per-port limit and the free express cells. -/
def State.expressRoom (s : State) (f : Frame) : Bool :=
  f.dests.all (fun p => s.expressAt p + f.cells < s.sw.portLimit) && f.cells ≤ s.sw.expFree

/-- The frame is stored in express SRAM (R286). -/
def State.toExpress (s : State) (f : Frame) : Bool :=
  (s.sw.classMask.getLsbD f.cls || f.cut) && f.dests.all (fun p => p ≠ 26 && p ≠ 27) && s.expressRoom f

/-- A frame whose class is express fails the room conditions and goes to the market (R286). The event is set as it goes there, also where
admission to the market then refuses it (DEDUCED, log entry 152). -/
def State.spills (s : State) (f : Frame) : Bool :=
  s.sw.classMask.getLsbD f.cls && f.dests.all (fun p => p ≠ 26 && p ≠ 27) && !s.expressRoom f

/-- The frame is kept with the next number. -/
def State.keep (s : State) (f : Frame) (via : Option Nat) : State :=
  let g := { f with id := s.sw.nextFrame, chargedQp := if f.express then none else via }
  ((s.takeCells g via).onSw (fun w => { w with frames := w.frames ++ [g], nextFrame := w.nextFrame + 1 })).cntSw f.ingress
    (fun c => { c with inFrames := c.inFrames + 1 })

/-- A refused frame is dropped and counted (R291). -/
def State.refuseFrame (s : State) (f : Frame) (acct : Nat) : State :=
  ((s.updAcct acct (fun a => { a with refused := satInc a.refused })).cntSw f.ingress
    (fun c => { c with refuse := c.refuse + 1 })).swEvent 4

/-- The cap of the queue pair leaves room for the frame (R314). -/
def State.capOk (s : State) (via : Option Nat) (cells : Nat) : Bool :=
  match via with
  | none => true
  | some q => (s.qp q).cap = 0 || (s.qp q).used + cells ≤ (s.qp q).cap.toNat

/-- Cells that push-out must free for an arrival: enough to pass R291, and its own cells where the account exceeds its share
(R308, R515). -/
def State.needed (s : State) (acct cells : Nat) : Nat :=
  let used := (Tab.get s.sw.accts acct {}).used
  if s.acctShare acct < used then cells else max (used + cells - s.acctShare acct) (cells - s.sw.free)

/-- Admission of a classified frame (R286 to R291, R307, R308, R314): the state and whether it was admitted. -/
def State.store (s : State) (f : Frame) : State × Bool :=
  if s.toExpress f then (s.keep { f with express := true } none, true)
  else
    let s0 := if s.spills f then s.swEvent 1 else s
    let via := f.via
    let acct := s.acctOf via
    let used := (Tab.get s0.sw.accts acct {}).used
    if ¬ s0.capOk via f.cells then (s0.refuseFrame f acct, false)
    else if used + f.cells ≤ s0.acctShare acct ∧ f.cells ≤ s0.sw.free then (s0.keep { f with acct := acct } via, true)
    else if s0.sw.pushEn ∧ s0.sw.minClass ≤ f.cls then
      match s0.victims acct f.cls 8 (s0.needed acct f.cells) [] with
      | none => (s0.refuseFrame f acct, false)
      | some vs =>
        ((((vs.foldl State.pushOut s0).updAcct acct (fun a => { a with pushout := satAdd a.pushout vs.length })).onCore
          (fun c => { c with fresh := c.fresh + 1 })).keep { f with acct := acct } via, true)
    else (s0.refuseFrame f acct, false)

end Sys2Proof.Machine
end

