-- ==== Sys2Proof/Machine/Forward.lean ====
section
/-! DEFINITION. The forwarding pipeline from ingress to the stored frame, MACsec, and the rows FRAME_INGRESS,
CUT_THROUGH_START, LINK_UP and LINK_DOWN. -/

namespace Sys2Proof.Machine

open Sys2Proof

/-- Line rate of a port, Mbit/s (R26, R328). -/
def lineRate (p : Nat) : Nat :=
  if p < 2 then 10000 else if p < 10 then 1000 else if p < 22 then 100 else if p < 26 then 10
  else if p = 28 then 4000 else 10000

/-- A frame that reaches the pipeline. -/
structure Arrival where
  /-- Ingress port. -/
  port : Nat := 0
  /-- Bytes without FCS. -/
  bytes : List Byte := []
  /-- The class of a descriptor or of a gateway rule. -/
  cls : Option Nat := none
  /-- The queue pair it comes from. -/
  fromQp : Option Nat := none
  /-- It is cut through. -/
  cut : Bool := false
  /-- Its length on the wire of a MAC, without FCS. -/
  wireLen : Nat := 0
  deriving DecidableEq, Repr

/-- What stages 2 and 3 decide of a frame (R301 to R303). -/
structure Lookup where
  /-- VLAN ID. -/
  vid : Nat := 0
  /-- Class. -/
  cls : Nat := 0
  /-- Number of the flow entry. -/
  entry : Option Nat := none
  /-- Destinations after aggregation, less the ingress. -/
  dests : List Nat := []
  /-- The ingress VLAN filter drops it. -/
  filtered : Bool := false
  deriving DecidableEq, Repr

/-- Stages 2 and 3 of the pipeline; a reserved address reaches a port only through an entry that matches it (R299, R301 to R303, R334). The
ingress port is taken out of the destinations behind aggregation, so a frame of one member of a group can leave by another (DESIGN CHOICE,
log entry 154). -/
def State.classify (s : State) (a : Arrival) : Lookup :=
  let u := s.swPort a.port
  let tagged := isTagged a.bytes
  let vid := if tagged && tagVid a.bytes ≠ 0 then tagVid a.bytes else u.pvid.toNat
  let cls := match a.cls with
    | some c => c
    | none => if u.trustPcp && tagged then tagPcp a.bytes else u.defClass.toNat
  let v : Vlan := Tab.get s.sw.vlans vid {}
  let h := s.sw.hash a.port a.bytes
  let keep (ps : List Nat) : List Nat := (s.sw.expand ps h).filter (fun p =>
    (p ≠ a.port || p = 26 || p = 27) && (s.swPort p).en)
  let filtered := u.vlanFilter && !s.sw.lists v.member a.port
  match s.sw.lookup a.port vid (dmacOf a.bytes) (if tagged then tagPcp a.bytes else cls) with
  | some e =>
    let f : Flow := Tab.get s.sw.flows e {}
    { vid := vid, cls := if f.eclass.toNat < 8 then f.eclass.toNat else cls, entry := some e,
      dests := if isReserved a.bytes && !f.mat.getLsbD 1 then [] else keep (portsOf f.egress), filtered := filtered }
  | none =>
    { vid := vid, cls := cls, dests := if v.flood && !isReserved a.bytes then keep (portsOf v.member) else [],
      filtered := filtered }

/-- Queue pairs of internal port p that receive a frame (R311). -/
def State.receivers (s : State) (a : Arrival) (p : Nat) : List Nat :=
  ((List.range 64).map (fun i => (p - 26) * 64 + i)).filter (fun q =>
    (s.hLive 0x01 q).isSome &&
      (if isGroup a.bytes then (s.qp q).mcast && a.fromQp ≠ some q else (s.qp q).mac.toNat = dmacOf a.bytes))

/-- A drop at stage 2 or 3 (R301, R303). -/
def State.dropClassify (s : State) (p : Nat) : State := s.cntSw p (fun c => { c with classify := c.classify + 1 })

/-- A drop that CNT_DROP_QP of internal port p counts. -/
def State.dropQp (s : State) (p : Nat) : State := s.cntSw p (fun c => { c with qp := c.qp + 1 })

/-- The policer of a flow entry, if it names one. -/
def State.policerOf (s : State) (l : Lookup) : Option Nat :=
  match l.entry with
  | none => none
  | some e =>
    let n := (Tab.get s.sw.flows e {}).policer.toNat
    if n = 0xFFFF then none else some n

/-- The policer's decision on a frame of L bytes (R351): the state and whether it passes. -/
def State.police (s : State) (n port len : Nat) : State × Bool :=
  let p : Policer := Tab.get s.eth.policers n {}
  if len * 8000 ≤ p.tokens then
    (s.onEth (fun e => { e with policers := Tab.put e.policers n { p with tokens := p.tokens - len * 8000, passed := p.passed + 1 } }), true)
  else
    ((s.onEth (fun e => { e with policers := Tab.put e.policers n { p with dropped := p.dropped + 1 } })).cntSw port
      (fun c => { c with police := c.police + 1 }), false)

/-- The FRER stream unit of a flow entry (R352). -/
def State.streamOf (s : State) (l : Lookup) : Option Nat :=
  match l.entry with
  | none => none
  | some e =>
    let id := (Tab.get s.sw.flows e {}).stream
    if id = 0 then none else (s.eth.frers.find? (fun r => r.2.stream = id)).map (fun r => r.1)

/-- Change a FRER stream unit. -/
def State.updFrer (s : State) (i : Nat) (f : Frer → Frer) : State :=
  s.onEth (fun e => { e with frers := Tab.upd e.frers i {} f })

/-- Signed distance of a sequence number from the last one passed. -/
def seqDelta (q last : U16) : Int := (q - last).toInt

/-- The vector recovery of one sequence number (R354): the unit, whether the frame passes, and whether it is rogue. A number
is within the history when it differs by less than HISTORY (DEDUCED, log entry 23). -/
def Frer.recover (f : Frer) (q : U16) : Frer × Bool × Bool :=
  let d := seqDelta q f.last
  let h : Int := f.history.toNat
  if f.fresh then ({ f with fresh := false, last := q, seen := 1, passed := satInc f.passed }, true, false)
  else if h ≤ d ∨ d ≤ -h then ({ f with rogue := satInc f.rogue }, false, true)
  else if 0 < d then
    ({ f with last := q, seen := (f.seen <<< d.toNat) ||| 1, passed := satInc f.passed }, true, false)
  else if f.seen.getLsbD (-d).toNat then ({ f with discarded := satInc f.discarded }, false, false)
  else ({ f with seen := f.seen ||| bitOf 32 (-d).toNat, passed := satInc f.passed }, true, false)

/-- Stream recovery and generation at stage 4 (R353, R354): the state, the bytes, the R-TAG number of the copies, and whether
the frame goes on. -/
def State.frerStage (s : State) (l : Lookup) (port : Nat) (b : List Byte) : State × List Byte × Option U16 × Bool :=
  match s.streamOf l with
  | none => (s, b, none, true)
  | some i =>
    let f : Frer := Tab.get s.eth.frers i {}
    let rec_ : Option U16 := if f.rec_ && port < 2 && (s.ethPort port).frer then rTag b else none
    match rec_ with
    | some q =>
      let r := f.recover q
      let s1 := s.updFrer i (fun _ => r.1)
      if r.2.1 then
        let b1 := dropRTag b
        if f.gen then (s1.updFrer i (fun g => { g with next := g.next + 1 }), b1, some r.1.next, true)
        else (s1, b1, none, true)
      else (if r.2.2 then s1.ethGlobal 5 else s1, b, none, false)
    | none =>
      if f.gen then (s.updFrer i (fun g => { g with next := g.next + 1 }), b, some f.next, true) else (s, b, none, true)

/-- Stages 2 to 6 for a frame (R301 to R317): the state and whether the frame was admitted. -/
def State.forward (s : State) (a : Arrival) : State × Bool :=
  if ¬ (s.swPort a.port).en then (s, false)
  else
    let l := s.classify a
    if l.filtered then (s.dropClassify a.port, false)
    else
      let s1 := match l.entry with
        | none => s
        | some e => s.onSw (fun w => { w with flows := Tab.upd w.flows e {} (fun f => { f with hits := satInc f.hits }) })
      if l.dests = [] then (s1.dropClassify a.port, false)
      else if s.aon.mode = .safe ∧ l.dests.all (fun p => p = 26 || p = 27) then
        (l.dests.foldl State.dropQp s1, false)
      else
        let got (p : Nat) : List Nat := if l.dests.contains p then s.receivers a p else []
        let lost (p : Nat) : Bool := l.dests.contains p && (got p).isEmpty
        let s2 := [26, 27].foldl (fun t p => if lost p && !isGroup a.bytes then t.dropQp p else t) s1
        let dests := l.dests.filter (fun p => !((p = 26 || p = 27) && lost p))
        if dests = [] then (s2, false)
        else
          let r : State × Bool := match s.policerOf l with
            | none => (s2, true)
            | some n => s2.police n a.port (a.bytes.length + 4)
          if ¬ r.2 then (r.1, false)
          else
            let q : State × List Byte × Option U16 × Bool := r.1.frerStage l a.port a.bytes
            if ¬ q.2.2.2 then (q.1, false)
            else
              let qps := got 26 ++ got 27
              q.1.store {
                ingress := a.port, bytes := q.2.1, tagged := isTagged a.bytes, vid := BitVec.ofNat 12 l.vid,
                cls := l.cls, hash := s.sw.hash a.port a.bytes, cells := cellsOf q.2.1, fromQp := a.fromQp,
                multi := decide (1 < (dests.filter (fun p => p ≠ 26 && p ≠ 27)).length + qps.length),
                dests := dests, qps := qps, cut := a.cut, wireLen := a.wireLen, rtag := q.2.2.1, time := s.tb.globalT }

/-! ### MACsec -/

/-- EtherType right behind the addresses. -/
def outerType (b : List Byte) : Nat := beAt b 12 2

/-- Frames that bypass MACsec in both directions, behind a VLAN tag as well (R361). -/
def msBypass (b : List Byte) : Bool := etherType b = 0x888E || etherType b = 0x88F7

/-- MACsec works on the frames that leave a port, or that reach it, but for those that bypass it (R361). -/
def State.macsecOn (s : State) (p : Nat) (b : List Byte) : Bool := p < 10 && (s.macsec p).en && !msBypass b

/-- The bytes that SecTAG and ICV add to a frame (R362). -/
def Macsec.adds (m : Macsec) : Nat := if m.sci then 32 else 24

/-- The SCI of a SecTAG: explicit, or the source address with port 1 (PRESUMED, log entry 24). -/
def secSci (b : List Byte) : Nat := if (u8At b 14) / 32 % 2 = 1 then beAt b 20 8 else beAt b 6 6 * 65536 + 1

/-- The IV of a frame: SCI and PN, or with XPN the salt against SSCI and the whole PN (IEEE 802.1AE; PRESUMED, log entry 24). -/
def MsSa.iv (a : MsSa) (xpn : Bool) (sci pn : Nat) : List Byte :=
  if xpn then List.zipWith (fun x y => x ^^^ y) ((a.key.drop 32).take 12) (beBytes 4 a.ssci.toNat ++ beBytes 8 pn)
  else beBytes 8 sci ++ beBytes 4 pn

/-- A frame under protection: the addresses, the SecTAG, the user data encrypted or in the clear, and the ICV (R361, R362; the format of
IEEE 802.1AE, PRESUMED, log entry 24). -/
def MsSa.protect (a : MsSa) (m : Macsec) (an pn : Nat) (b : List Byte) : List Byte :=
  let user := b.drop 12
  let tci := (if m.sci then 32 else 0) + (if m.encrypt then 12 else 0) + an
  let tag := beBytes 2 0x88E5 ++ leBytes 1 tci ++ leBytes 1 (if user.length < 48 then user.length else 0) ++ beBytes 4 (pn % 4294967296)
    ++ (if m.sci then beBytes 8 m.txSci.toNat else [])
  let head := b.take 12 ++ tag
  let iv := a.iv m.xpn m.txSci.toNat pn
  let k := a.key.take 32
  if m.encrypt then
    let ct := aesGcm k iv head user
    head ++ ct ++ aesGcmTag k iv head ct
  else head ++ user ++ aesGcmTag k iv (head ++ user) []

/-- The parts of a protected frame: header, secured data, ICV (IEEE 802.1AE; PRESUMED, log entry 24). -/
def secParts (b : List Byte) : List Byte × List Byte × List Byte :=
  let hdr := 12 + (if u8At b 14 / 32 % 2 = 1 then 16 else 8)
  let rest := b.drop hdr
  let n := if u8At b 15 % 64 = 0 then rest.length - 16 else u8At b 15 % 64
  (b.take hdr, rest.take n, (rest.drop n).take 16)

/-- The plain frame of a protected one whose ICV is right (R363). -/
def MsSa.open_ (a : MsSa) (xpn : Bool) (pn : Nat) (b : List Byte) : Option (List Byte) :=
  let q := secParts b
  let iv := a.iv xpn (secSci b) pn
  let k := a.key.take 32
  if (u8At b 14) / 8 % 2 = 1 then
    if aesGcmTag k iv q.1 q.2.1 = q.2.2 then
      some (b.take 12 ++ aesGcm k iv q.1 q.2.1)
    else none
  else if aesGcmTag k iv (q.1 ++ q.2.1) [] = q.2.2 then some (b.take 12 ++ q.2.1) else none

/-- The receive channel of an SCI. -/
def Macsec.channel (m : Macsec) (sci : Nat) : Option Nat := (m.rxSci.find? (fun r => r.2.toNat = sci)).map (fun r => r.1)

/-- The packet number of a received frame: with XPN the high half follows from the next one expected (PRESUMED, log entry 24). -/
def rxPn (xpn : Bool) (next : U64) (low : Nat) : Nat :=
  if xpn then
    let hi := next.toNat / 4294967296
    let lo := next.toNat % 4294967296
    if low < lo ∧ 2147483648 ≤ lo ∧ low < 2147483648 then (hi + 1) * 4294967296 + low else hi * 4294967296 + low
  else low

/-- Change the counters of MACsec unit p. -/
def State.cntMs (s : State) (p : Nat) (f : MsCnt → MsCnt) : State := s.updMacsec p (fun m => { m with cnt := f m.cnt })

/-- MACsec at ingress of E0 to E9 (R361 to R364): the state and the bytes that go on. Without strict validation a frame that
fails, and was not encrypted, goes on (PRESUMED, log entry 24). -/
def State.macsecRx (s : State) (p : Nat) (f : RawFrame) : State × Option (List Byte) :=
  let m := s.macsec p
  let b := f.bytes
  if ¬ s.macsecOn p b then (s, some b)
  else if outerType b ≠ 0x88E5 then
    if m.strict then (s.cntMs p (fun c => { c with untagged := c.untagged + 1 }), none) else (s, some b)
  else
    let tci := u8At b 14
    let lenient : Option (List Byte) :=
      if ¬ m.strict ∧ tci / 4 % 4 = 0 then some (b.take 12 ++ (secParts b).2.1) else none
    let sa : Option (Nat × MsSa) := match m.channel (secSci b) with
      | none => none
      | some ch => if m.rx.has (ch * 4 + tci % 4) then some (ch * 4 + tci % 4, Tab.get m.rx (ch * 4 + tci % 4) {}) else none
    match sa with
    | none => (match lenient with
      | some l => (s, some l)
      | none => (s.cntMs p (fun c => { c with noSa := c.noSa + 1 }), none))
    | some (k, a) =>
      if a.revoked then ((s.cntMs p (fun c => { c with rxRevoked := c.rxRevoked + 1 })).ethEvent p 3, none)
      else
        let pn := rxPn m.xpn a.pn (beAt b 16 4)
        if m.replay ∧ pn + m.window.toNat < a.pn.toNat then (s.cntMs p (fun c => { c with replay := c.replay + 1 }), none)
        else match a.open_ m.xpn pn b with
          | none => (match lenient with
            | some l => (s, some l)
            | none => (s.cntMs p (fun c => { c with auth := c.auth + 1 }), none))
          | some t =>
            (s.updMacsec p (fun m => { m with
              rx := Tab.put m.rx k { a with pn := BitVec.ofNat 64 (max a.pn.toNat (pn + 1)) },
              cnt := { m.cnt with ok := m.cnt.ok + 1 } }), some t)

/-- The PN at which the threshold event is raised (R363). -/
def pnThreshold (xpn : Bool) : Nat := if xpn then 0x4000000000000000 else 0xC0000000
/-- The first PN that cannot be sent (R363). -/
def pnEnd (xpn : Bool) : Nat := if xpn then 0x10000000000000000 else 0x100000000

/-- MACsec at egress of E0 to E9 for a frame as edited (R362 to R364): the state, and the bytes that leave. At PN exhaustion no association
transmits any more. -/
def State.macsecTx (s : State) (p : Nat) (b : List Byte) : State × Option (List Byte) :=
  let m := s.macsec p
  if ¬ s.macsecOn p b then (s, some b)
  else
    let a : MsSa := Tab.get m.tx m.txAn.toNat {}
    if a.revoked then ((s.cntMs p (fun c => { c with txRevoked := c.txRevoked + 1 })).ethEvent p 3, none)
    else if ¬ m.txValid ∨ a.exhausted ∨ 9216 < b.length + 4 + m.adds then
      (s.cntMs p (fun c => { c with txDrop := c.txDrop + 1 }), none)
    else
      let next := m.txPn.toNat + 1
      let done := decide (pnEnd m.xpn ≤ next)
      let s1 := s.updMacsec p (fun m => { m with
        txPn := BitVec.ofNat 64 next, txValid := !done
        tx := Tab.put m.tx m.txAn.toNat { a with pn := BitVec.ofNat 64 next, exhausted := done }
        cnt := { m.cnt with prot := m.cnt.prot + 1 } })
      let s2 := if next = pnThreshold m.xpn then s1.ethEvent p 2 else s1
      (if done then s2.ethEvent p 3 else s2, some (a.protect m m.txAn.toNat m.txPn.toNat b))

/-! ### Ingress rows -/

/-- What the receive MAC finds of a frame: whether it drops it, with the count (R332, R348). -/
def State.macDrop (s : State) (p : Nat) (f : RawFrame) : Option State :=
  let len := f.bytes.length + 4
  if f.fragErr then some (s.cntEth p (fun c => { c with assembly := c.assembly + 1 }))
  else if f.fcsErr then some (s.cntEth p (fun c => { c with fcsErr := c.fcsErr + 1 }))
  else if len < 64 then some (s.cntEth p (fun c => { c with runt := c.runt + 1 }))
  else if (s.ethPort p).maxFrame.toNat < len then some (s.cntEth p (fun c => { c with oversize := c.oversize + 1 }))
  else none

/-- A good frame of n bytes without FCS is counted (R365). -/
def State.goodFrame (s : State) (p n : Nat) : State :=
  s.cntEth p (fun c => { c with rxFrames := c.rxFrames + 1, rxBytes := c.rxBytes + BitVec.ofNat 64 (n + 4) })

/-- A whole frame arrives from a MAC or from the Pass bridge (R301, R332, R334). Frames of I0, I1 and GW enter through their
own rows. -/
def execFrameIngress (port : Nat) (f : RawFrame) (s : State) : Out :=
  if ¬ (port < 26 ∨ port = 29) then noUnit
  else if ¬ s.sw.forwarding then .next s
  else if port = 29 then
    if ¬ (s.swPort 29).link then .next s
    else
      let s1 := s.goodFrame 29 f.bytes.length
      if etherType f.bytes = 0x88F7 ∧ s.bridgeOn 29 then fin s1 else fin (s1.forward { port := port, bytes := f.bytes }).1
  else if ¬ (s.ethPort port).link then .next s
  else match s.macDrop port f with
    | some t => fin t
    | none =>
      let s1 := s.goodFrame port f.bytes.length
      if etherType f.bytes = 0x8808 then fin s1
      else if etherType f.bytes = 0x88F7 ∧ s.bridgeOn port then fin s1
      else
        let r := s1.macsecRx port f
        match r.2 with
        | none => fin r.1
        | some b => fin (r.1.forward { port := port, bytes := b }).1

/-- The conditions of R287 on a frame whose first 128 bytes have arrived. -/
def State.cutOk (s : State) (a : Arrival) : Bool :=
  let l := s.classify a
  (s.swPort a.port).en && (s.swPort a.port).cutThrough && 128 ≤ a.bytes.length + 4 && !l.filtered &&
    (s.policerOf l).isNone &&
    (match l.dests with
     | [e] =>
       decide (lineRate e ≤ lineRate a.port) && e ≠ 26 && e ≠ 27
         && s.sw.frames.all (fun f => !(f.dests.contains e && f.cls = l.cls))
         && (s.gate e).gates.getLsbD l.cls
         && s.expressRoom { dests := [e], cells := cellsOf a.bytes, cut := true }
     | _ => false)

/-- A frame is cut through: forwarded as such, and counted when it is admitted (R287). -/
def State.cutThrough (s : State) (a : Arrival) : State × Bool :=
  let r := s.forward { a with cut := true }
  (if r.2 then r.1.cntSw a.port (fun c => { c with cut := c.cut + 1 }) else r.1, r.2)

/-- A frame that enters through I0, I1 or GW whole in one row: cut through where it qualifies, stored otherwise (R287). -/
def State.enter (s : State) (a : Arrival) : State × Bool := if s.cutOk a then s.cutThrough a else s.forward a

/-- A qualifying frame is cut through from its 128th byte on, behind MACsec where that is on (R287). The operand carries the whole frame; a
fault of its FCS or its length shows when its last byte leaves. A frame that does not qualify goes on arriving and is forwarded whole. -/
def execCutThroughStart (port : Nat) (f : RawFrame) (s : State) : Out :=
  if ¬ (port < 26 ∨ port = 29) then noUnit
  else if ¬ (s.sw.forwarding ∧ ((s.swPort port).link ∧ (port = 29 ∨ (s.ethPort port).link))) then .next s
  else if etherType f.bytes = 0x8808 ∨ (etherType f.bytes = 0x88F7 ∧ s.bridgeOn port) then .next s
  else
    let r := s.macsecRx port f
    match r.2 with
    | none => .next s
    | some b =>
      let a : Arrival := { port := port, bytes := b, wireLen := f.bytes.length }
      if s.cutOk a then fin (r.1.cutThrough a).1 else .next s

/-- The active set of a group changes with the link of a member (R299, R300). -/
def State.lagLink (s : State) (p : Nat) (up : Bool) : State :=
  match s.sw.lagOf p with
  | none => s
  | some g =>
    let s1 := ((s.onSw (fun w => { w with lags := Tab.upd w.lags g {} (fun l => { l with active := putBit l.active p up }) })).updSwPort p
      (fun u => { u with lagActive := up })).swEvent 2
    if up then s1
    else
      let lost := s1.sw.frames.filter (fun f => f.dests.contains p)
      (lost.foldl (fun t f => t.dropDest f.id p) s1).onSw (fun w =>
        { w with lags := Tab.upd w.lags g {} (fun l => { l with flush := satAdd l.flush lost.length }) })

/-- The power-controllable block of a port: 0x40 to 0x55, and 0x58 to 0x5B of the T1S segments (R199). -/
def portBlock (p : Nat) : Nat := if p < 22 then 0x40 + p else 0x58 + (p - 22)

/-- A PHY reports link up (R328): the switch sees it, verification starts, and PLCA runs on an S port. -/
def execLinkUp (port : Nat) (s : State) : Out :=
  if ¬ port < 26 then noUnit
  else if (s.ethPort port).link ∨ (s.ethPort port).lowPower ∨ ¬ s.sw.forwarding ∨ ¬ (s.block (portBlock port)).serves then .next s
  else
    let s1 := (s.updEthPort port (fun e => { e with
      link := true, phyOff := false, tries := 0
      verify := if e.preempt && port < 10 then (if e.verifyDis then 2 else 1) else 0
      plca := { e.plca with active := decide (22 ≤ port) && !e.plca.off } })).updSwPort port (fun u => { u with link := true })
    fin ((s1.lagLink port true).ethEvent port 0)

/-- Link loss as the MAC reports it (R331): pause and verification end with the link. -/
def State.linkDown (s : State) (port : Nat) : State :=
  let s1 := (s.updEthPort port (fun e => { e with
    link := false, verify := 0, tries := 0, paused := false, pfcPaused := 0, due := [], ptpDue := 0
    plca := { e.plca with active := false } })).updSwPort port (fun u => { u with link := false })
  ((s1.lagLink port false).ethEvent port 0).tabDown port

/-- A port's link goes down (R331, R300). -/
def execLinkDown (port : Nat) (s : State) : Out :=
  if ¬ port < 26 then noUnit
  else if (s.ethPort port).link then fin (s.linkDown port) else .next s

end Sys2Proof.Machine
end

