-- ==== Sys2Proof/Machine/Shares.lean ====
section
/-! DEFINITION. The shareable pool, the live use of a kind and the room for a new handle (R508, R509, R511). -/

namespace Sys2Proof.Machine

open Sys2Proof

/-- The share kind that a handle type is charged to (R511); 0 for flows and gate lists. -/
def kindOfType (t : Nat) : Nat :=
  if t = 0x01 then 0x01 else if t = 0x02 then 0x03 else if t = 0x03 then 0x04 else if t = 0x04 then 0x07
  else if t = 0x05 then 0x08 else if t = 0x06 then 0x05 else if t = 0x07 then 0x09 else if t = 0x0A then 0x0A
  else if t = 0x0B then 0x0D else if t = 0x0C then 0x0E else 0

/-- The amounts of the pool of a kind that is shared by count (R508). The size of Pass windows counts in 4 KiB pages. -/
def poolOf (kind : Nat) : Nat × Nat :=
  if kind = 0x01 then (64, 0) else if kind = 0x03 then (128, 8) else if kind = 0x05 then (64, 40000)
  else if kind = 0x09 then (4096, 0) else if kind = 0x0A then (32, 16777216) else if kind = 0x0D then (64, 0)
  else if kind = 0x0E then (16, 0) else (0, 0)

/-- The second amount of a grant in the units of a charge. -/
def scaleB (kind b : Nat) : Nat := if kind = 0x0A then b * 256 else b

/-- Live use of a kind and selector by an owner, through handles of one world. -/
def State.useOf (s : State) (typ sel owner : Nat) (sec : Bool) : Nat × Nat :=
  s.mgmt.handles.tab.foldl (fun t e =>
    if e.1 / 4096 = typ ∧ e.2.charge.1 = sel ∧ e.2.owner = owner ∧ e.2.sec = sec then
      (t.1 + e.2.charge.2.1, t.2 + e.2.charge.2.2) else t) (0, 0)

/-- What the guests hold of a kind and selector. -/
def State.granted (s : State) (kind sel : Nat) : Nat × Nat :=
  s.mgmt.insts.foldl (fun t e =>
    if e.1 = 0 then t
    else let g := s.share e.1 kind sel; (t.1 + g.1, t.2 + scaleB kind g.2)) (0, 0)

/-- What may be in use by an owner in a world: a guest's grant; for instance 0 the residue; for secure handles what grants and
the live use of instance 0 leave (R508, R509, R511). -/
def State.limitOf (s : State) (typ sel owner : Nat) (sec : Bool) : Nat × Nat :=
  let kind := kindOfType typ
  if owner ≠ 0 then let g := s.share owner kind sel; (g.1, scaleB kind g.2)
  else
    let p := poolOf kind
    let g := s.granted kind sel
    let u := s.useOf typ sel 0 (!sec)
    (p.1 - g.1 - u.1, p.2 - g.2 - u.2)

/-- A charge stays within what its owner may use (R511). For instance 0 in the normal world the residue takes away the use by
secure handles, and in the secure world the live use of instance 0. -/
def State.roomFor (s : State) (typ sel owner : Nat) (sec : Bool) (a b : Nat) : Bool :=
  let u := s.useOf typ sel owner sec
  let l := s.limitOf typ sel owner sec
  u.1 + a ≤ l.1 && u.2 + b ≤ l.2 && s.handleRoom

end Sys2Proof.Machine
end

