-- ==== Sys2Proof/Machine/Can.lean ====
section
/-! DEFINITION. CAN channels: message objects, arbitration inside the node, the schedule matrix, fault confinement, and the
commands 0x0401 to 0x0405 (R367 to R397). -/

namespace Sys2Proof.Machine

open Sys2Proof

/-! ### Sets and their interrupts -/

/-- The first address of an object. -/
def objAddr (chan obj : Nat) : Nat := 0x12000000 + chan * 0x10000 + 0x4000 + obj * 0x100

/-- Objects 120 to 127 of C12 to C15 are long (R381). -/
def longObj (chan obj : Nat) : Bool := 12 ≤ chan && 120 ≤ obj

/-- An MSI of the binding of a set, with an offset on its identity (R388). -/
def State.setMsi (s : State) (key off : Nat) : State :=
  match s.hFind 0x02 key with
  | some h => s.msiBind h.bind h.sec off
  | none => s

/-- The MSI of an object: a priority object has an identity of its own (R388). -/
def State.objMsi (s : State) (chan obj : Nat) : State :=
  match s.setOf chan obj with
  | some e => s.setMsi e.1 (let k := obj - e.1 % 128; if k < e.2.prio then 1 + k else 0)
  | none => s

/-- PRIO of an object. -/
def State.objPrio (s : State) (chan obj : Nat) : Bool :=
  match s.setOf chan obj with
  | some e => obj - e.1 % 128 < e.2.prio
  | none => false

/-- A function is disabled for a handle's owner; secure handles are outside the instances' functions (R198, R517). -/
def State.fnOffFor (s : State) (owner : Nat) (sec : Bool) (kind sel : Nat) : Bool := !sec && s.fnOff owner kind sel

/-- The set's owner has its function disabled on the channel (R394). -/
def State.setOff (s : State) (e : Nat × CanSet) : Bool :=
  match s.hFind 0x02 e.1 with
  | some h => s.fnOffFor h.owner h.sec 0x03 (e.1 / 128)
  | none => false

/-- An instance is inside steps 1 to 6 of its reset sequence (R524). -/
def State.inReset (s : State) (n : Nat) : Bool := (s.inst n).resetBegun

/-- A live set takes part in selection and storage (R384, R387, R394). -/
def State.setRuns (s : State) (e : Nat × CanSet) : Bool := s.setLive e.1 && !e.2.stopped && !s.setOff e

/-! ### Channel state -/

/-- Every live set on a channel receives an MSI with its bound identity (R388). -/
def State.setMsis (s : State) (chan : Nat) : State :=
  s.bus.sets.foldl (fun t e => if e.1 / 128 = chan ∧ s.setLive e.1 then t.setMsi e.1 0 else t) s

/-- CAN_STATUS.STATE changes: STATE event and set MSIs (R388, R393). -/
def State.canGoto (s : State) (chan : Nat) (st : CanState) : State :=
  if (s.can chan).st = st then s
  else ((s.updCan chan (fun c => { c with st := st })).canEvent chan 0).setMsis chan

/-- The channel takes part in traffic. -/
def CanCh.live (c : CanCh) : Bool := (c.st = .active || c.st = .passive) && !c.integrating

/-! ### Requests -/

/-- The status codes of the CAN chapter: ABORTED, ONESHOT_ERROR, ONESHOT_ARB, BUS_OFF (R383). -/
def canAborted : U16 := 0x0201
/-- ONESHOT_ERROR. -/
def canOneErr : U16 := 0x0202
/-- ONESHOT_ARB. -/
def canOneArb : U16 := 0x0203
/-- BUS_OFF. -/
def canBusOff : U16 := 0x0204

/-- A request completes: status, TX_PEND, TX_DONE with MAP_TXDONE, then the MSI where the object and the caller want one
(R383, R388). -/
def State.txEnd (s : State) (chan obj : Nat) (st : U16) (msi : Bool) : State :=
  let s1 := s.updObj chan obj (fun o => { o with status := st, pend := false, done := true, aborting := false })
  if msi && (s.canObj chan obj).irq then s1.objMsi chan obj else s1

/-- Data lengths of the FD format (R382). -/
def fdLens : List Nat := [0, 1, 2, 3, 4, 5, 6, 7, 8, 12, 16, 20, 24, 32, 48, 64]

/-- The format of a send object is enabled on the channel. -/
def CanObj.formatOn (o : CanObj) (c : CanCfg) : Bool := if o.xlf then c.xl else if o.fdf then c.fd else c.cc

/-- A send object carries a valid frame (R382). -/
def CanObj.valid (o : CanObj) (c : CanCfg) (long : Bool) : Bool :=
  o.en && o.dir && !(o.fdf && o.xlf) && !(o.xlf && o.ide) && (!o.rtr || !(o.fdf || o.xlf))
    && (if o.xlf then 1 ≤ o.len.toNat && o.len.toNat ≤ (if long then 2048 else 64)
        else if o.fdf then fdLens.contains o.len.toNat else o.len.toNat ≤ 8)
    && o.formatOn c

/-- TX_REQ of an object (R382, R383, R517). -/
def State.objReq (s : State) (chan obj : Nat) : State :=
  let o := s.canObj chan obj
  let c := s.can chan
  if o.pend then s
  else if c.cfg.mode = 1 then s.txEnd chan obj Status.wrongMode.code true
  else if ¬ o.valid c.cfg (longObj chan obj) then s.txEnd chan obj Status.badParam.code true
  else if (match s.setOf chan obj with
    | some e => s.setOff e
    | none => false) then s.txEnd chan obj Status.fnDisabled.code true
  else s.updObj chan obj (fun o => { o with pend := true })

/-- TX_ABORT of an object (R383). -/
def State.objAbort (s : State) (chan obj : Nat) : State :=
  if ¬ (s.canObj chan obj).pend then s
  else if (s.can chan).tx = some obj then s.updObj chan obj (fun o => { o with aborting := true })
  else s.txEnd chan obj canAborted true

/-- A write of UPD: a deferred request is raised when UPD clears (R392). -/
def State.objUpd (s : State) (chan obj : Nat) (upd : Bool) : State :=
  let s1 := s.updObj chan obj (fun o => { o with upd := upd })
  if !upd && (s.canObj chan obj).deferred then
    (s1.updObj chan obj (fun o => { o with deferred := false })).objReq chan obj
  else s1

/-! ### Arbitration inside the node -/

/-- The arbitration field as a number whose lower value wins: identifier, RTR or SRR, IDE, then FDF and XLF, or the
extension with RTR, FDF and XLF (R387). -/
def arbKey (id : Nat) (ide rtr fdf xlf : Bool) : Nat :=
  let b (x : Bool) : Nat := if x then 1 else 0
  if ide then (((((id / 2 ^ 18 % 2048 * 2 + 1) * 2 + 1) * 2 ^ 18 + id % 2 ^ 18) * 2 + b rtr) * 2 + b fdf) * 2 + b xlf
  else ((((id % 2048 * 2 + b rtr) * 2) * 2 + b (fdf || xlf)) * 2 + b xlf) * 2 ^ 19

/-- The arbitration field of an object's frame. -/
def CanObj.key (o : CanObj) : Nat := arbKey o.id.toNat o.ide o.rtr o.fdf o.xlf
/-- The arbitration field of a frame. -/
def CanFrame.key (f : CanFrame) : Nat := arbKey f.id.toNat f.ide f.rtr f.fdf f.xlf

/-- The head of the gateway's queue for a channel (R409). -/
def State.gwHead (s : State) (chan : Nat) : Option GwEntry := (Tab.get s.bus.gw.queues chan []).head?

/-- The candidates for the next frame: arbitration field and number, the gateway's head as 128 (R387). -/
def State.canCandidates (s : State) (chan : Nat) : List (Nat × Nat) :=
  ((s.can chan).objs.filter (fun e => e.2.pend && e.2.en && e.2.dir && (match s.setOf chan e.1 with
      | some q => s.setRuns q
      | none => false))).map (fun e => (e.2.key, e.1))
    ++ (match s.gwHead chan with
      | some g => [(g.frame.key, 128)]
      | none => [])

/-- The candidate that wins: lower field, then lower number. -/
def bestOf : List (Nat × Nat) → Option (Nat × Nat)
  | [] => none
  | c :: r =>
    match bestOf r with
    | none => some c
    | some d => if d.1 < c.1 ∨ (d.1 = c.1 ∧ d.2 < c.2) then some d else some c

/-- The DLC of a frame with n data bytes: the number itself up to 8 bytes, the code of an FD length, and one less in the XL format
(R369, R382). -/
def dlcOf (fdf xlf : Bool) (n : Nat) : Nat := if xlf then n - 1 else if fdf then fdLens.findIdx (fun k => k = n) else n

/-- The frame that a send object carries, on a channel that is error-passive or not (R369, R381, R382). A remote frame has no data; BRS and
ESI are bits of an FD frame; SDT, SEC, VCID and AF are fields of an XL frame. -/
def CanObj.frame (o : CanObj) (passive : Bool) : CanFrame :=
  let n := o.len.toNat
  { id := if o.ide then o.id else o.id &&& 0x7FF, ide := o.ide, fdf := o.fdf, xlf := o.xlf, rtr := o.rtr
    brs := o.fdf && o.brs, esi := o.fdf && passive
    sdt := if o.xlf then o.sdt else 0, sec := o.xlf && o.sec, vcid := if o.xlf then o.vcid else 0, af := if o.xlf then o.af else 0
    dlc := dlcOf o.fdf o.xlf n
    data := if o.rtr then [] else (List.range n).map (fun k => Tab.get o.data k 0) }

/-- CAN_TX_START (R387): the winner is on the bus with its frame. A channel in listen-only mode, stopped, in bus-off, in integration or
with a frame in progress starts none; where it has none of its own, it receives what another node starts (R396). -/
def execCanTxStart (sof : CanSof) (s : State) : Out :=
  let chan := sof.chan
  if 16 ≤ chan then noUnit
  else
    let c := s.can chan
    let hear := if sof.other then fin (s.updCan chan (fun c => { c with rxBusy := true })) else .next s
    if ¬ (c.live ∧ c.tx = none ∧ c.rxBusy = false) then .next s
    else if c.cfg.mode = 1 ∨ c.next ≠ none then hear
    else match bestOf (s.canCandidates chan) with
      | none => hear
      | some w =>
        let s1 := s.updCan chan (fun c => { c with
          tx := some w.2
          sent := match s.gwHead chan with
            | some g => if w.2 = 128 then g.frame else (s.canObj chan w.2).frame (c.st = .passive)
            | none => (s.canObj chan w.2).frame (c.st = .passive) })
        fin (match s.gwHead chan with
          | some g => if w.2 = 128 then s1.onGw (fun u => { u with onBus := Tab.put u.onBus chan g.id }) else s1
          | none => s1)

/-- The frame on the bus has ended. -/
def State.canOffBus (s : State) (chan : Nat) : State :=
  (s.updCan chan (fun c => { c with tx := none, rxBusy := false })).onGw (fun u => { u with onBus := Tab.drop u.onBus chan })

/-- The sent entry of the gateway leaves its queue (R409). -/
def State.gwSent (s : State) (chan : Nat) : State :=
  s.onGw (fun u =>
    if u.onBus.has chan then
      { u with queues := (Tab.upd u.queues chan [] (fun q => q.filter (fun e => e.id ≠ Tab.get u.onBus chan 0))) }
    else u)

/-- An error counter of at most 127 on both sides ends the passive state (R393). -/
def State.canConfine (s : State) (chan : Nat) : State :=
  let c := s.can chan
  match c.st with
  | .active => if 127 < c.tec.toNat ∨ 127 < c.rec_.toNat then s.canGoto chan .passive else s
  | .passive => if c.tec.toNat ≤ 127 ∧ c.rec_.toNat ≤ 127 then s.canGoto chan .active else s
  | .stopped => s
  | .busOffWait => s
  | .recovering => s

/-- CAN_TX_SUCCESS (R383, R393, R409): TEC falls by 1 where it is not 0. -/
def execCanTxSuccess (chan : Nat) (s : State) : Out :=
  if 16 ≤ chan then noUnit
  else match (s.can chan).tx with
    | none => .next s
    | some o =>
      let s1 := s.updCan chan (fun c => { c with
        cnt := { c.cnt with tx := c.cnt.tx + 1 }
        tec := if c.tec = 0 then 0 else c.tec - 1 })
      let s2 := if o = 128 then s1.gwSent chan else if (s.canObj chan o).pend then s1.txEnd chan o Status.ok.code true else s1
      fin ((s2.canOffBus chan).canConfine chan)

/-- The frame on the bus did not get through: its request completes where it was aborted, where its function is disabled and where it is a
one-shot, and else goes back to selection (R383, R394). -/
def State.txFail (s : State) (chan obj : Nat) (oneShot : U16) : State :=
  let b := s.canObj chan obj
  let off : Bool := match s.setOf chan obj with
    | some e => s.setOff e
    | none => false
  if 128 ≤ obj ∨ ¬ b.pend then s
  else if b.aborting then s.txEnd chan obj canAborted true
  else if off then s.txEnd chan obj Status.fnDisabled.code true
  else if b.oneshot then s.txEnd chan obj oneShot true
  else s

/-- CAN_ARBITRATION_LOST (R383): the channel goes on as a receiver. -/
def execCanArbitrationLost (chan : Nat) (s : State) : Out :=
  if 16 ≤ chan then noUnit
  else match (s.can chan).tx with
    | none => .next s
    | some o => fin (((s.txFail chan o canOneArb).canOffBus chan).updCan chan (fun c => { c with rxBusy := true }))

/-- Bus-off: the frame on the bus fails, pending one-shot requests complete, the entry is counted (R393). -/
def State.canBusOffEnter (s : State) (chan : Nat) : State :=
  let s1 := (s.can chan).objs.foldl (fun t e =>
    if e.2.pend && (e.2.oneshot || (s.can chan).tx = some e.1) then t.txEnd chan e.1 canBusOff true else t) s
  let s2 := s1.updCan chan (fun c => { c with cnt := { c.cnt with busOff := c.cnt.busOff + 1 }, recov := 0 })
  s2.canGoto chan (if (s.can chan).cfg.mode = 2 then .recovering else .busOffWait)

/-- The transceiver switches to FAST mode for the data phase of an XL frame: C12 to C15 with FAST in the XL timing word (R371). -/
def State.xlFast (s : State) (chan : Nat) : Bool := 12 ≤ chan && chan < 16 && (s.can chan).cfg.xbt.getLsbD 30

/-- The error counters after an error, by the rules of ISO 11898-1, saturating (R393, R396; PRESUMED, log entry 160). A transmitter adds 8,
but nothing where it is error-passive and misses the ACK, or meets a stuff error in arbitration; a receiver adds 1, but nothing for a bit
error inside its own error flag: the operand `spared` says that one of these holds. Each of `more` adds 8 more: a bit error inside an error
flag, a dominant bit right behind a receiver's flag, or a long run of dominant bits. In listen-only mode nothing changes. -/
def CanCh.afterError (c : CanCh) (kind : BitVec 3) (more : Nat) (spared : Bool) : CanCh :=
  if c.cfg.mode = 1 then c
  else if c.tx.isSome then
    let none_ := spared && ((c.st = .passive && kind = 3) || kind = 1)
    { c with tec := BitVec.ofNat 9 (min 511 (c.tec.toNat + (if none_ then 0 else 8) + 8 * more)) }
  else
    let none_ := spared && (kind = 4 || kind = 5)
    { c with rec_ := BitVec.ofNat 8 (min 255 (c.rec_.toNat + (if none_ then 0 else 1) + 8 * more)) }

/-- CAN_BUS_ERROR (R393): the error frame is counted, the counters take the values that ISO 11898-1 gives them, the frame on
the bus fails or goes back to selection, and the state follows. In listen-only mode the counters do not change. In FAST mode the
channel sends no error signalling in the XL data phase and expects none: nothing is counted, a frame that it sends goes on, and one
that it receives is not stored (R371; the receiver's end is DESIGN CHOICE, log entry 132). -/
def execCanBusError (chan : Nat) (fault : CanFault) (more : Nat) (spared : Bool) (s : State) : Out :=
  let kind := fault.kind
  if 16 ≤ chan then noUnit
  else
    let c := s.can chan
    if ¬ c.live ∨ kind = 0 ∨ kind = 7 then .next s
    else if fault.xlData ∧ s.xlFast chan then fin (s.updCan chan (fun c => { c with rxBusy := false }))
    else
      let s1 := (s.updCan chan (fun c => { c.afterError kind more spared with
        cnt := { c.cnt with err := c.cnt.err + 1 }, lec := kind })).canEvent chan 1
      if 255 < (s1.can chan).tec.toNat then fin ((s1.canBusOffEnter chan).canOffBus chan)
      else
        let s2 := match c.tx with
          | none => s1
          | some o => s1.txFail chan o canOneErr
        fin ((s2.canOffBus chan).canConfine chan)

/-- CAN_RECESSIVE_SEQUENCE (R393). -/
def execCanRecessiveSequence (chan : Nat) (s : State) : Out :=
  if 16 ≤ chan then noUnit
  else if (s.can chan).st ≠ .recovering then .next s
  else
    let n := (s.can chan).recov + 1
    let s1 := s.updCan chan (fun c => { c with recov := n })
    if n.toNat < 128 then fin s1
    else fin ((s1.updCan chan (fun c => { c with tec := 0, rec_ := 0 })).canGoto chan .active)

/-- CAN_BUS_INTEGRATION (R370, R393): the channel takes part in traffic. -/
def execCanBusIntegration (chan : Nat) (s : State) : Out :=
  if 16 ≤ chan then noUnit else fin (s.updCan chan (fun c => { c with integrating := false }))

/-! ### Receiving -/

/-- The identifier and the format of a frame match a receive object (R384). -/
def CanObj.hears (o : CanObj) (f : CanFrame) (long : Bool) : Bool :=
  o.en && !o.dir && o.fdf = f.fdf && o.xlf = f.xlf && o.ide = f.ide && o.rtr = f.rtr
    && (o.id ^^^ f.id) &&& o.mask = 0 && (!f.xlf || f.data.length ≤ 64 || long)

/-- An object that hears a frame can take it. -/
def CanObj.free (o : CanObj) : Bool := !o.lock && (!o.new || o.overwrite)

/-- The bytes of a frame as stored data: bytes beyond the length read 0. -/
def storeBytes (d : List Byte) : Tab Byte :=
  ((List.range d.length).zip d).filter (fun e => e.2 ≠ 0)

/-- A frame as an object stores it (R381, R384). -/
def CanObj.take (o : CanObj) (f : CanFrame) : CanObj :=
  { o with
    rxId := BitVec.ofNat 31 (f.id.toNat + (if f.ide then 2 ^ 29 else 0) + (if f.rtr then 2 ^ 30 else 0))
    rxFmt := BitVec.ofNat 25 ((if f.rtr then f.dlc else f.data.length) + (if f.fdf then 2 ^ 12 else 0)
      + (if f.brs then 2 ^ 13 else 0) + (if f.esi then 2 ^ 14 else 0) + (if f.xlf then 2 ^ 15 else 0)
      + f.sdt.toNat * 2 ^ 16 + (if f.sec then 2 ^ 24 else 0))
    rxVcid := f.vcid, rxAf := f.af, data := storeBytes f.data
    lost := o.lost || o.new, new := true, frames := satInc o.frames }

/-- The object numbers of a set in filter order: its priority objects come first in object order, which is object order. -/
def setObjs (e : Nat × CanSet) : List Nat := (List.range e.2.count).map (fun k => e.1 % 128 + k)

/-- One set filters a frame: stored, lost or unheard (R384). Answers whether some object of the set heard it. -/
def State.setFilter (s : State) (chan : Nat) (e : Nat × CanSet) (f : CanFrame) : State × Bool :=
  let heard := (setObjs e).filter (fun m => (s.canObj chan m).hears f (longObj chan m))
  match heard.find? (fun m => (s.canObj chan m).free) with
  | some m =>
    let s1 := (s.updObj chan m (fun o => o.take f)).updCan chan (fun c => { c with stored := true })
    (if (s.canObj chan m).irq then s1.objMsi chan m else s1, true)
  | none =>
    match heard.getLast? with
    | some m =>
      (((s.updObj chan m (fun o => { o with lost := true })).updCan chan (fun c => { c with
        cnt := { c.cnt with lost := c.cnt.lost + 1 } })).canEvent chan 2, true)
    | none => (s, false)

/-- Every live, enabled set on the channel filters a frame; a frame that no object heard is counted (R384). -/
def State.canFilter (s : State) (chan : Nat) (f : CanFrame) : State :=
  let r := s.bus.sets.foldl (fun (t : State × Bool) e =>
    if e.1 / 128 = chan ∧ s.setRuns e then let q := t.1.setFilter chan e f; (q.1, t.2 || q.2) else t) (s, false)
  if r.2 then r.1 else r.1.updCan chan (fun c => { c with cnt := { c.cnt with unmatched := c.cnt.unmatched + 1 } })

/-- The format of a frame from the bus is one that the channel receives (R370). -/
def CanCfg.takes (c : CanCfg) (f : CanFrame) : Bool := if f.xlf then c.xl else if f.fdf then c.fd else true

/-- REC after a good frame: it falls by 1, and from above 127 to a value between 119 and 127 that the standard leaves open
(a free value, DESIGN CHOICE, log entry 31). -/
def recAfter (r : Byte) (n : Nat) : Byte :=
  if r = 0 then 0 else if r.toNat ≤ 127 then r - 1 else BitVec.ofNat 8 (119 + Config.freeNat 31 n % 9)

/-- CAN_FRAME_RECEIVED (R384, R393). -/
def execCanFrameReceived (chan : Nat) (f : CanFrame) (s : State) : Out :=
  if 16 ≤ chan then noUnit
  else
    let c := s.can chan
    if ¬ (c.live ∧ c.tx = none ∧ c.cfg.takes f) then .next s
    else
      let s1 := s.updCan chan (fun c => { c with
        rxBusy := false, cnt := { c.cnt with rx := c.cnt.rx + 1 }
        rec_ := if c.cfg.mode = 1 then c.rec_ else recAfter c.rec_ s.core.fresh })
      let s2 := s1.onCore (fun k => { k with fresh := k.fresh + 1 })
      fin ((s2.canConfine chan).canFilter chan f)

/-- CAN_PROTOCOL_EXCEPTION (R370). -/
def execCanProtocolException (chan : Nat) (f : CanFrame) (s : State) : Out :=
  if 16 ≤ chan then noUnit
  else
    let c := s.can chan
    if ¬ (c.live ∧ c.tx = none) ∨ c.cfg.takes f then .next s
    else fin (s.updCan chan (fun c => { c with rxBusy := false, integrating := true, cnt := { c.cnt with pex := c.cnt.pex + 1 } }))

/-! ### Accesses to objects -/

/-- OBJ_CFG as read. -/
def State.objCfgWord (s : State) (chan obj : Nat) : U32 :=
  fieldAt (s.canObj chan obj).cfg 0 ||| flagAt (s.objPrio chan obj) 10 ||| flagAt (longObj chan obj) 11

/-- OBJ_CTRL as read. -/
def CanObj.ctrlWord (o : CanObj) : U32 :=
  flagAt o.upd 2 ||| flagAt o.pend 3 ||| flagAt o.done 4 ||| flagAt o.new 5 ||| fieldAt o.status 16

/-- Four data bytes from byte k on. -/
def CanObj.dataWord (o : CanObj) (k : Nat) : U32 :=
  BitVec.ofNat 32 (leNat ((List.range 4).map (fun i => Tab.get o.data (k + i) 0)))

/-- A word of an object as read, without the effects of the read (R381, R385). -/
def State.objWord (s : State) (chan obj off : Nat) : U32 :=
  let o := s.canObj chan obj
  if off = 0x00 then s.objCfgWord chan obj
  else if off = 0x04 then fieldAt o.id 0
  else if off = 0x08 then fieldAt o.mask 0
  else if off = 0x0C then fieldAt o.sdt 0 ||| flagAt o.sec 8 ||| fieldAt o.vcid 16
  else if off = 0x10 then o.af
  else if off = 0x14 then fieldAt o.len 0
  else if off = 0x18 then o.ctrlWord
  else if off = 0x20 then (if o.dir then 0 else fieldAt o.rxId 0)
  else if off = 0x24 then fieldAt o.rxFmt 0
  else if off = 0x28 then fieldAt o.rxVcid 0
  else if off = 0x2C then o.rxAf
  else if 0x40 ≤ off ∧ off < 0x80 then o.dataWord (off - 0x40)
  else if off = 0xFC then
    (if o.lock then flagAt o.new 0 ||| flagAt o.lost 1 ||| fieldAt o.frames 8 else flagAt true 2)
  else 0

/-- The effect of reading a word of an object: the read lock (R385). -/
def State.objRead (s : State) (chan obj off : Nat) : State :=
  let o := s.canObj chan obj
  if off = 0x20 then (if o.dir then s else s.updObj chan obj (fun o => { o with lock := true }))
  else if off = 0xFC then
    (if o.lock then s.updObj chan obj (fun o => { o with lock := false, new := false, lost := false, frames := 0 }) else s)
  else s

/-- A word with the bits of a mask replaced. -/
def mix (old v m : U32) : U32 := (old &&& ~~~m) ||| (v &&& m)

/-- The object with four data bytes from byte k on replaced under a mask. -/
def CanObj.putData (o : CanObj) (k : Nat) (v m : U32) : CanObj :=
  { o with data := ((List.range 4).zip (leBytes 4 (mix (o.dataWord k) v m).toNat)).foldl (fun d e => Tab.putD d (k + e.1) 0 e.2) o.data }

/-- Offsets whose write a pending request refuses: OBJ_CFG, OBJ_ID, OBJ_XL, OBJ_AF, OBJ_LEN and the data (R383). -/
def objGuarded (off : Nat) : Bool :=
  off = 0 || off = 4 || off = 0x0C || off = 0x10 || off = 0x14 || (0x40 ≤ off && off < 0x80) || 0x100 ≤ off

/-- A write of a word of an object under a byte mask (R381, R383). Offsets from 0x100 on are its long segment. -/
def State.objPut (s : State) (chan obj off : Nat) (v m : U32) : State :=
  let o := s.canObj chan obj
  let upd (f : CanObj → CanObj) : State := s.updObj chan obj f
  if off = 0x00 then upd (fun o => { o with cfg := (mix (fieldAt o.cfg 0) v m).truncate 10 })
  else if off = 0x04 then upd (fun o => { o with id := (mix (fieldAt o.id 0) v m).truncate 29 })
  else if off = 0x08 then upd (fun o => { o with mask := (mix (fieldAt o.mask 0) v m).truncate 29 })
  else if off = 0x0C then
    let w := mix (s.objWord chan obj 0x0C) v m
    upd (fun o => { o with sdt := w.extractLsb' 0 8, sec := w.getLsbD 8, vcid := w.extractLsb' 16 8 })
  else if off = 0x10 then upd (fun o => { o with af := mix o.af v m })
  else if off = 0x14 then upd (fun o => { o with len := (mix (fieldAt o.len 0) v m).truncate 12 })
  else if off = 0x18 then
    let s1 := if (v &&& m).getLsbD 4 then upd (fun o => { o with done := false }) else s
    let s2 := if m.getLsbD 2 then s1.objUpd chan obj (v.getLsbD 2) else s1
    let s3 := if (v &&& m).getLsbD 1 then s2.objAbort chan obj else s2
    if (v &&& m).getLsbD 0 then s3.objReq chan obj else s3
  else if 0x40 ≤ off ∧ off < 0x80 then (if o.dir then upd (fun o => o.putData (off - 0x40) v m) else s)
  else if 0x100 ≤ off then (if o.dir then upd (fun o => o.putData (off - 0x100) v m) else s)
  else s

/-- The owner of an object's set is in a reset, so that writes of the object receive TERR (R524). -/
def State.objHeld (s : State) (chan obj : Nat) : Bool :=
  match s.setOf chan obj with
  | some e => s.inReset e.2.owner && !s.setWorld e.1
  | none => false

/-- A write of a word of an object and its response (R383, R524). -/
def State.objWrite (s : State) (chan obj off : Nat) (v m : U32) : State × Resp :=
  if s.objHeld chan obj then (s, .terr)
  else if (s.canObj chan obj).pend && objGuarded off then (s, .terr)
  else (s.objPut chan obj off v m, .ok)

/-- The words of a write: for each aligned word that the bytes touch, its address, value and byte mask (R4). -/
def wordsOf (a : Nat) (d : List Byte) : List (Nat × U32 × U32) :=
  let first := a / 4 * 4
  (List.range ((a + d.length + 3) / 4 - a / 4)).map (fun k =>
    let w := first + 4 * k
    let at4 (f : Nat → Byte) : U32 := BitVec.ofNat 32 (leNat ((List.range 4).map f))
    (w, at4 (fun i => if a ≤ w + i then d.getD (w + i - a) 0 else 0),
      at4 (fun i => if a ≤ w + i ∧ w + i < a + d.length then 0xFF else 0)))

/-- A write to an object, word by word; the first TERR answers and nothing changes. -/
def State.objWrites (s : State) (chan obj base : Nat) (a : Nat) (d : List Byte) : State × Resp :=
  (wordsOf a d).foldl (fun (t : State × Resp) w =>
    if t.2 ≠ .ok then t
    else
      let q := t.1.objWrite chan obj (w.1 - base) w.2.1 w.2.2
      if q.2 = .ok then q else (s, q.2)) (s, .ok)

/-- An access row of an object: the checks, then the write of some bits of one byte of it, which leaves the others as they are. -/
def State.objRow (s : State) (chan obj : Nat) (t : Attr) (off : Nat) (v m : U32) : Out :=
  if 16 ≤ chan ∨ 128 ≤ obj then noUnit
  else s.issue t fun t =>
    fin (s.accessAt (writeX t (objAddr chan obj + off) 1 (mix (s.objWord chan obj off &&& 4) v m).toNat) .write (fun s =>
      let q := s.objWrite chan obj off v m; (q.1, q.2, [])))

/-- OBJ_TX_REQ_WRITE (R383). -/
def execObjTxReqWrite (chan obj : Nat) (attr : Attr) (s : State) : Out := s.objRow chan obj attr 0x18 1 1
/-- OBJ_TX_ABORT_WRITE (R383). -/
def execObjTxAbortWrite (chan obj : Nat) (attr : Attr) (s : State) : Out := s.objRow chan obj attr 0x18 2 2
/-- OBJ_UPD_WRITE (R392). -/
def execObjUpdWrite (chan obj : Nat) (attr : Attr) (upd : Bool) (s : State) : Out :=
  s.objRow chan obj attr 0x18 (if upd then 4 else 0) 4

/-- A read row of one word of an object. -/
def State.objReadRow (s : State) (chan obj : Nat) (t : Attr) (off : Nat) : Out :=
  if 16 ≤ chan ∨ 128 ≤ obj then noUnit
  else s.issue t fun t =>
    fin (s.accessAt (readX t (objAddr chan obj + off) 4) .read (fun s =>
      (s.objRead chan obj off, .ok, leBytes 4 (s.objWord chan obj off).toNat)))

/-- OBJ_RX_ID_READ (R385). -/
def execObjRxIdRead (chan obj : Nat) (attr : Attr) (s : State) : Out := s.objReadRow chan obj attr 0x20
/-- OBJ_RX_END_READ (R385). -/
def execObjRxEndRead (chan obj : Nat) (attr : Attr) (s : State) : Out := s.objReadRow chan obj attr 0xFC

/-- CAN_LOCK_EXPIRY (R385). -/
def execCanLockExpiry (chan obj : Nat) (s : State) : Out :=
  if 16 ≤ chan ∨ 128 ≤ obj then noUnit else fin (s.updObj chan obj (fun o => { o with lock := false }))

/-- An object is one of the reader's sets (R397). -/
def State.mapSees (s : State) (t : Attr) (chan obj : Nat) : Bool := s.admitObj t chan obj

/-- A W1C write of a MAP_TXDONE word (R397). -/
def State.mapClear (s : State) (t : Attr) (chan word : Nat) (v : U32) : State :=
  (List.range 32).foldl (fun u i =>
    if v.getLsbD i && s.mapSees t chan (word * 32 + i) && (s.canObj chan (word * 32 + i)).done then
      u.updObj chan (word * 32 + i) (fun o => { o with done := false })
    else u) s

/-- MAP_TXDONE_WRITE (R397). -/
def execMapTxdoneWrite (chan word : Nat) (attr : Attr) (value : U32) (s : State) : Out :=
  if 16 ≤ chan ∨ 4 ≤ word then noUnit
  else s.issue attr fun attr =>
    fin (s.writeAt (writeX attr (0x12000000 + chan * 0x10000 + 0x3010 + word * 4) 4 value.toNat) (fun s => s.mapClear attr chan word value))

/-! ### The schedule matrix -/

/-- Change the schedule page of a channel. -/
def State.updSched (s : State) (chan : Nat) (f : Sched → Sched) : State :=
  s.updCan chan (fun c => { c with sched := f c.sched })

/-- A column ends: requests still deferred are dropped and counted (R392). -/
def State.schEnd (s : State) (chan : Nat) : State :=
  (s.can chan).objs.foldl (fun t e =>
    if e.2.deferred then
      ((t.updObj chan e.1 (fun o => { o with deferred := false })).updSched chan (fun h =>
        { h with late := satInc h.late })).canEvent chan 4
    else t) s

/-- One cell of a column (R390). -/
def State.schCell (s : State) (chan owner cell : Nat) : State :=
  if cell = 0xFF then s
  else
    let o := s.canObj chan cell
    let mine : Bool := match s.setOf chan cell with
      | some e => e.2.owner = owner && s.setLive e.1
      | none => false
    if ¬ (mine ∧ o.en ∧ o.dir) then (s.updSched chan (fun h => { h with skip := satInc h.skip })).canEvent chan 5
    else if o.pend then (s.updSched chan (fun h => { h with overrun := satInc h.overrun })).canEvent chan 3
    else if o.upd then s.updObj chan cell (fun o => { o with deferred := true })
    else s.objReq chan cell

/-- The cells of column k in row order. -/
def Matrix.column (m : Matrix) (k : Nat) : List Nat := (List.range m.rows).map (fun r => (m.cells.getD (r * m.cols + k) 0xFF).toNat)

/-- CAN_SCHEDULE_COLUMN (R390, R392). -/
def execCanScheduleColumn (chan : Nat) (s : State) : Out :=
  if 2 ≤ chan then noUnit
  else match (s.can chan).sched.run with
    | none => .next s
    | some m =>
      let h := (s.can chan).sched
      let k := if h.begun then (h.column + 1) % m.cols else m.first
      let s1 := (s.schEnd chan).updSched chan (fun h => { h with column := k, begun := true })
      fin ((m.column k).foldl (fun t c => t.schCell chan m.owner c) s1)

/-- CAN_SCHEDULE_CHANGE (R391): a matrix whose cells are all 0xFF stops the scheduler. -/
def execCanScheduleChange (chan : Nat) (s : State) : Out :=
  if 2 ≤ chan then noUnit
  else match (s.can chan).sched.pend with
    | none => .next s
    | some m =>
      fin ((s.schEnd chan).updSched chan (fun h => { h with
        run := if m.cells.all (fun c => c = 0xFF) then none else some m
        pend := none, column := m.first, begun := false }))

/-- The scheduler of a channel stops. -/
def State.schStop (s : State) (chan : Nat) : State :=
  (s.schEnd chan).updSched chan (fun h => { h with run := none, pend := none, begun := false })

/-- The matrices of an instance stop (R391, R394). -/
def State.schStopOf (s : State) (owner : Nat) : State :=
  [0, 1].foldl (fun t chan =>
    let h := (t.can chan).sched
    let own (m : Option Matrix) : Bool := match m with
      | some m => m.owner = owner
      | none => false
    let t1 := if own h.run then (t.schEnd chan).updSched chan (fun h => { h with run := none, begun := false }) else t
    if own h.pend then t1.updSched chan (fun h => { h with pend := none }) else t1) s

/-! ### Life of a set -/

/-- A frame on the bus from an object of a range goes on as the protocol requires, but no request hangs on it any more (R394). -/
def CanCh.orphan (c : CanCh) (first count : Nat) : CanCh :=
  { c with tx := c.tx.map (fun m => if first ≤ m && m < first + count then 129 else m) }

/-- Pending requests of a set end with a status; the frame on the bus ends as the protocol requires and is not sent again
(R394). -/
def State.setAbort (s : State) (key : Nat) (st : U16) (msi : Bool) : State :=
  let s1 := (s.can (key / 128)).objs.foldl (fun t e =>
    if e.2.pend && (match s.setOf (key / 128) e.1 with
        | some q => q.1 = key
        | none => false) then t.txEnd (key / 128) e.1 st msi else t) s
  s1.updCan (key / 128) (fun c => c.orphan (key % 128) (Tab.get s.bus.sets key {}).count)

/-- The objects of a range are zeroed, their locks dropped and their MAP bits cleared (R380, R394). -/
def State.zeroObjs (s : State) (chan first count : Nat) : State :=
  s.updCan chan (fun c => { c.orphan first count with objs := c.objs.filter (fun e => !(first ≤ e.1 && e.1 < first + count)) })

/-- A set's context is cleared. -/
def State.setZero (s : State) (key : Nat) : State :=
  s.zeroObjs (key / 128) (key % 128) (Tab.get s.bus.sets key {}).count

/-- A set stops or takes part again. -/
def State.setStop (s : State) (key : Nat) (b : Bool) : State :=
  s.onBus (fun u => { u with sets := Tab.upd u.sets key {} (fun e => { e with stopped := b }) })

/-- A set ends with its handle; the owner's matrix stops with its last set on the channel (R391). -/
def State.setDrop (s : State) (key : Nat) : State :=
  let owner := (Tab.get s.bus.sets key {}).owner
  let s1 := (s.setZero key).onBus (fun u => { u with sets := Tab.drop u.sets key })
  let chan := key / 128
  if s1.bus.sets.any (fun e => e.1 / 128 = chan && e.2.owner = owner) then s1
  else
    let h := (s1.can chan).sched
    let own (m : Option Matrix) : Bool := match m with
      | some m => m.owner = owner
      | none => false
    let s2 := if own h.run then (s1.schEnd chan).updSched chan (fun h => { h with run := none, begun := false }) else s1
    if own h.pend then s2.updSched chan (fun h => { h with pend := none }) else s2

/-! ### CAN_SET_CREATE -/

/-- CAN_SET_CREATE, 0x0401. -/
def specCanSetCreate : CmdSpec := { op := 0x0401, who := [.mgr, .gst, .sec] }

/-- The payload of CAN_SET_CREATE (R267, R388). -/
def State.okCanSet (s : State) (owner : Nat) (sec : Bool) (p : List Byte) : Bool :=
  p.length = 8 && u8At p 0 < 16 && 1 ≤ u8At p 2 && u8At p 2 ≤ 128 && u8At p 1 + u8At p 2 ≤ 128 && u8At p 3 ≤ 8
    && u8At p 3 ≤ u8At p 2 && s.bindOk (bindAt p 4) owner sec (u8At p 3)

/-- A new object set: on a secure channel on stall 2 alone (R194), not on a channel that is off (R201). -/
def ownCanSetCreate (rq : Request) (s : State) : State × Ans :=
  let p := rq.payload
  let chan := u8At p 0
  let first := u8At p 1
  let count := u8At p 2
  let own := s.issuerInst rq.route
  let key := chan * 128 + first
  if s.canSec chan ∧ ¬ rq.isSec then no s .denied
  else if s.fnOffFor own rq.isSec 0x03 chan then no s .fnDisabled
  else if s.bus.sets.any (fun e => e.1 / 128 = chan && e.1 % 128 < first + count && first < e.1 % 128 + e.2.count) then no s .busy
  else if ¬ s.roomFor 0x02 chan own rq.isSec count (u8At p 3) ∨ s.blockIsOff (0x20 + chan) then no s .noResource
  else
    let s1 := (s.hCreate 0x02 key own rq.isSec (bindAt p 4) (chan, count, u8At p 3)).zeroObjs chan first count
    (s1.onBus (fun u => { u with sets := Tab.put u.sets key { count := count, prio := u8At p 3, owner := own } }),
      { handle := some (mkHandle 0x02 own (s.genOf 0x02 key) key), payload := leBytes 8 (objAddr chan first) })

/-- CAN_SET_CREATE (R267). -/
def execCanSetCreate (rq : Request) (s : State) : Out :=
  serve specCanSetCreate rq s (s.okCanSet (s.issuerInst rq.route) rq.isSec) (ownCanSetCreate rq)

/-! ### CAN_CHANNEL_CONFIG -/

/-- CAN_CHANNEL_CONFIG, 0x0402. -/
def specCanChannelConfig : CmdSpec := { op := 0x0402, who := [.mgr, .sec], st := true }

/-- Quanta of 12.5 ns in a bit of a nominal word, times the prescaler. -/
def nbtQuanta (w : U32) : Nat := 3 + (w.extractLsb' 8 8).toNat + (w.extractLsb' 16 7).toNat
/-- Bit length of a nominal word in periods of 80 MHz. -/
def nbtBit (w : U32) : Nat := ((w.extractLsb' 0 8).toNat + 1) * nbtQuanta w
/-- Quanta in a bit of a data or XL word. -/
def dbtQuanta (w : U32) : Nat := 3 + (w.extractLsb' 5 6).toNat + (w.extractLsb' 11 5).toNat
/-- Bit length of a data or XL word in periods of 80 MHz. -/
def dbtBit (w : U32) : Nat := ((w.extractLsb' 0 5).toNat + 1) * dbtQuanta w

/-- A nominal word is in range: TSEG1 at least 2, SJW at most TSEG2, at least 8 quanta, 10 kbit/s to 1 Mbit/s (R368, R376,
R377). -/
def nbtOk (w : U32) : Bool :=
  1 ≤ (w.extractLsb' 8 8).toNat && (w.extractLsb' 23 7).toNat ≤ (w.extractLsb' 16 7).toNat && w.extractLsb' 30 2 = 0
    && 8 ≤ nbtQuanta w && 80 ≤ nbtBit w && nbtBit w ≤ 8000

/-- A data or XL word is in range, with the shortest bit that the channel permits (R368, R376, R377). -/
def dbtOk (n w : U32) (least : Nat) (fast : Bool) : Bool :=
  (w.extractLsb' 16 5).toNat ≤ (w.extractLsb' 11 5).toNat && !w.getLsbD 31 && (fast || !w.getLsbD 30)
    && 4 ≤ dbtQuanta w && least ≤ dbtBit w && dbtBit w ≤ nbtBit n

/-- The shortest data bit of a channel: 5 Mbit/s, or 8 Mbit/s on C12 to C15 (R368). -/
def fdLeast (chan : Nat) : Nat := if chan < 12 then 16 else 10

/-- A configuration lies in the table of R368 and the ranges of R376 and R377. The nominal word is that of every enabled format. The word of
a format that is not enabled is ignored, but for FAST in the XL word of a channel without XL (DEDUCED, log entry 159). -/
def CanCfg.ok (g : CanCfg) (chan : Nat) : Bool :=
  g.mode.toNat ≤ 2 && (!g.xl || 12 ≤ chan) && (g.xl || !g.xbt.getLsbD 30)
    && (!(g.cc || g.fd || g.xl) || nbtOk g.nbt)
    && (!g.fd || dbtOk g.nbt g.dbt (fdLeast chan) false)
    && (!g.xl || dbtOk g.nbt g.xbt (if g.xbt.getLsbD 30 then 4 else 8) true)

/-- The configuration of a payload: EN is 1 where a format is enabled (DEDUCED, log entry 32). -/
def canCfgAt (p : List Byte) : CanCfg :=
  let f := u8At p 1
  { en := f ≠ 0, cc := f.testBit 0, fd := f.testBit 1, xl := f.testBit 2, mode := BitVec.ofNat 2 (u8At p 2),
    nbt := BitVec.ofNat 32 (u32At p 4), dbt := BitVec.ofNat 32 (u32At p 8), xbt := BitVec.ofNat 32 (u32At p 12) }

/-- The payload of CAN_CHANNEL_CONFIG (R267, R377). -/
def okCanConfig (p : List Byte) : Bool :=
  p.length = 16 && u8At p 0 < 16 && u8At p 1 < 8 && u8At p 2 ≤ 2 && u8At p 3 = 0 && (canCfgAt p).ok (u8At p 0)

/-- A channel's configuration waits for the end of the frame in progress (R393). -/
def ownCanChannelConfig (rq : Request) (s : State) : State × Ans :=
  let chan := u8At rq.payload 0
  if rq.isSec ∧ ¬ s.canSec chan then no s .denied
  else yes (s.updCan chan (fun c => { c with next := some (canCfgAt rq.payload) }))

/-- CAN_CHANNEL_CONFIG (R267). -/
def execCanChannelConfig (rq : Request) (s : State) : Out :=
  serve specCanChannelConfig rq s okCanConfig (ownCanChannelConfig rq)

/-- Pending requests whose format is no longer enabled complete with BAD_PARAM (R393). -/
def State.canBadFormats (s : State) (chan : Nat) : State :=
  (s.can chan).objs.foldl (fun t e =>
    if e.2.pend && !e.2.formatOn (s.can chan).cfg then t.txEnd chan e.1 Status.badParam.code true else t) s

/-- A channel applies a configuration (R393). -/
def State.canApply (s : State) (chan : Nat) (g : CanCfg) : State :=
  let c := s.can chan
  let s1 := (s.updCan chan (fun c => { c with cfg := g, next := none })).canOffBus chan
  let s2 :=
    if ¬ g.en then (s1.updCan chan (fun c => { c with integrating := false })).canGoto chan .stopped
    else match c.st with
      | .busOffWait => (s1.updCan chan (fun c => { c with recov := 0 })).canGoto chan (if g.mode = 2 then .recovering else .busOffWait)
      | .recovering => (s1.updCan chan (fun c => { c with recov := 0 })).canGoto chan (if g.mode = 2 then .recovering else .busOffWait)
      | .stopped => (s1.updCan chan (fun c => { c with tec := 0, rec_ := 0, integrating := true })).canGoto chan .active
      | .active => (s1.updCan chan (fun c => { c with tec := 0, rec_ := 0, integrating := true })).canGoto chan .active
      | .passive => (s1.updCan chan (fun c => { c with tec := 0, rec_ := 0, integrating := true })).canGoto chan .active
  s2.canBadFormats chan

/-- CAN_CONFIG_APPLY (R393): at the end of the frame in progress. -/
def execCanConfigApply (chan : Nat) (s : State) : Out :=
  if 16 ≤ chan then noUnit
  else match (s.can chan).next, (s.can chan).tx with
    | some g, none => if (s.block (0x20 + chan)).serves ∧ ¬ (s.can chan).rxBusy then fin (s.canApply chan g) else .next s
    | _, _ => .next s

/-- A channel stops: block off, RECOVERY, a mode that does not keep it (R393, R395). -/
def State.canHalt (s : State) (chan : Nat) : State :=
  ((s.canOffBus chan).updCan chan (fun c => { c with integrating := false, next := none })).canGoto chan .stopped

/-- SAFE: every channel returns to its stored configuration, at the end of the frame in progress where a command has changed it (R395). -/
def State.canStored (s : State) (g : Tab CanCfg) : State :=
  (List.range 16).foldl (fun t n => t.updCan n (fun c =>
    { c with next := if c.cfg = Tab.get g n {} then none else some (Tab.get g n {}) })) s

/-- The state of a channel's transceiver (R372). FAST mode is that of the data phase of the XL frame that the channel sends (R371). From the
commit step on the module counts as in SLEEP (R419). -/
def State.canPhy (s : State) (n : Nat) : CanPhy :=
  let c := s.can n
  if ¬ s.powered ∨ s.aon.mode = .off then .unpowered
  else if s.aon.mode = .sleep ∨ s.sleep.phase = 3 then (if n < 8 ∧ c.armed then .selectiveWake else .off)
  else if s.supply.pinHeld ∨ (s.aon.mode = .start ∧ s.aon.step < 5) ∨ s.aon.mode = .recovery ∨ ¬ (s.block (0x20 + n)).serves ∨ ¬ c.cfg.en then
    .standby
  else if c.cfg.mode = 1 then .receiveOnly
  else if n < 12 then .normal
  else if s.xlFast n ∧ c.tx.isSome ∧ c.sent.xlf then .fast
  else .sic

/-! ### CAN_RECOVER, CAN_WAKE_FILTER, CAN_SCHEDULE_SET -/

/-- CAN_RECOVER, 0x0403. -/
def specCanRecover : CmdSpec := { op := 0x0403, who := [.mgr, .sec, .gst] }

/-- A guest holds a set on the channel; other issuers need none. -/
def State.holdsOn (s : State) (rq : Request) (chan : Nat) : Bool :=
  rq.route.issuer ≠ .gst || s.bus.sets.any (fun e => e.1 / 128 = chan && e.2.owner = s.issuerInst rq.route)

/-- Recovery from bus-off (R267, R393). -/
def ownCanRecover (rq : Request) (s : State) : State × Ans :=
  let chan := u8At rq.payload 0
  if ¬ s.holdsOn rq chan then no s .denied
  else if (s.can chan).st = .busOffWait ∧ (s.can chan).cfg.mode ≠ 2 then
    yes ((s.updCan chan (fun c => { c with recov := 0 })).canGoto chan .recovering)
  else yes s

/-- CAN_RECOVER (R393). -/
def execCanRecover (rq : Request) (s : State) : Out :=
  serve specCanRecover rq s (fun p => p.length = 1 && u8At p 0 < 16) (ownCanRecover rq)

/-- CAN_WAKE_FILTER, 0x0404. -/
def specCanWakeFilter : CmdSpec := { op := 0x0404, who := [.mgr] }

/-- The payload of CAN_WAKE_FILTER. -/
def okWakeFilter (p : List Byte) : Bool :=
  p.length = 20 && u8At p 0 < 8 && u8At p 1 ≤ 1 && u8At p 2 ≤ 8 && u8At p 3 = 0 && u32At p 4 < 2 ^ 29 && u32At p 8 < 2 ^ 29

/-- The selective-wake filter (R267, R373). -/
def ownCanWakeFilter (rq : Request) (s : State) : State × Ans :=
  let p := rq.payload
  yes (s.updCan (u8At p 0) (fun c => { c with wake := {
    id := BitVec.ofNat 29 (u32At p 4), ide := u8At p 1 = 1, mask := BitVec.ofNat 29 (u32At p 8)
    dlc := BitVec.ofNat 4 (u8At p 2), data := BitVec.ofNat 64 (u64At p 12) } }))

/-- CAN_WAKE_FILTER (R373). -/
def execCanWakeFilter (rq : Request) (s : State) : Out := serve specCanWakeFilter rq s okWakeFilter (ownCanWakeFilter rq)

/-- CAN_SCHEDULE_SET, 0x0405. -/
def specCanScheduleSet : CmdSpec := { op := 0x0405, who := [.mgr, .gst] }

/-- The payload of CAN_SCHEDULE_SET (R267, R390). -/
def okSchedule (p : List Byte) : Bool :=
  u8At p 0 ≤ 1 && 1 ≤ u8At p 1 && u8At p 1 ≤ 64 && 1 ≤ u8At p 2 && u8At p 2 ≤ 16 && u8At p 3 = 0
    && p.length = 16 + u8At p 1 * u8At p 2 && 50 ≤ u32At p 12 && u32At p 12 ≤ 1000000
    && (p.drop 16).all (fun c => c.toNat < 128 || c = 0xFF)

/-- The matrix of a payload loaded at time t, and its change time (R391). -/
def matrixAt (p : List Byte) (owner t : Nat) : Matrix × Nat :=
  let start := (u64At p 4 + 999) / 1000 * 1000
  let per := u32At p 12 * 1000
  let m := if t + 100000 ≤ start then 0 else (t + 100000 - start + per - 1) / per
  ({ owner := owner, start := BitVec.ofNat 64 start, period := BitVec.ofNat 32 (u32At p 12), cols := u8At p 1,
     rows := u8At p 2, cells := p.drop 16, first := m % u8At p 1 }, start + m * per)

/-- A matrix of another live instance is in force or pending. -/
def State.schTaken (s : State) (chan owner : Nat) : Bool :=
  let h := (s.can chan).sched
  let other (m : Option Matrix) : Bool := match m with
    | some m => m.owner ≠ owner && s.instLive m.owner
    | none => false
  other h.run || other h.pend

/-- A schedule matrix waits for its change time (R391). -/
def ownCanScheduleSet (rq : Request) (s : State) : State × Ans :=
  let p := rq.payload
  let chan := u8At p 0
  let own := s.issuerInst rq.route
  if ¬ s.holdsOn rq chan then no s .denied
  else if s.fnOffFor own rq.isSec 0x03 chan then no s .fnDisabled
  else if rq.route.issuer = .gst ∧ s.schTaken chan own then no s .busy
  else if (p.drop 16).any (fun c => c ≠ 0xFF && (match s.setOf chan c.toNat with
      | some e => e.2.owner ≠ own || s.setWorld e.1
      | none => true)) then no s .notOwner
  else
    let q := matrixAt p own s.now.toNat
    yes (s.updSched chan (fun h => { h with pend := some q.1, change := BitVec.ofNat 64 q.2 }))

/-- CAN_SCHEDULE_SET (R258, R391). -/
def execCanScheduleSet (rq : Request) (s : State) : Out := serve specCanScheduleSet rq s okSchedule (ownCanScheduleSet rq)

end Sys2Proof.Machine
end

