-- ==== Sys2Proof/Machine/Lin.lean ====
section
/-! DEFINITION. LIN channels: buffers, the schedule of a commander, the responder, and the commands 0x0410 and 0x0411
(R412 to R416). -/

namespace Sys2Proof.Machine

open Sys2Proof

/-! ### The pull-up -/

/-- The pull-up of a LIN pin: disconnected in responder role, and in commander role supplied by VBUS on the 12 V and 24 V nets and by the
internal 12 V supply on the 48 V net; off without power and while RESET_N is held low (R40, R71). A channel without a configuration has no
role, and its pull-up is off (DEDUCED, log entry 121). -/
def State.linPull (s : State) (n : Nat) : LinPull :=
  if ¬ s.powered ∨ s.supply.pinHeld ∨ ¬ (s.lin n).en ∨ (s.lin n).responder then .off
  else match s.supply.straps.net with
    | .v12 => .vbus
    | .v24 => .vbus
    | .v48 => .internal12
    | .invalid => .off

/-! ### Buffers and events -/

/-- The first address of a LIN channel page. -/
def linAddr (chan : Nat) : Nat := 0x13200000 + chan * 0x1000

/-- An MSI to the binding of the channel's live handle, if it has one. -/
def State.linMsi (s : State) (chan : Nat) : State :=
  match s.hLive 0x03 chan with
  | some h => s.msiBind h.bind h.sec 0
  | none => s

/-- A LIN_EVENT bit is set: with its enable bit it reaches the binding of a live handle, and otherwise the wired source
(R412, R416). -/
def State.linEvent (s : State) (chan k : Nat) : State :=
  let l := s.lin chan
  let s1 := s.updLin chan (fun l => { l with event := l.event ||| bitOf 4 k })
  if !l.event.getLsbD k && l.eventEn.getLsbD k then s1.linMsi chan else s1

/-- Buffer of a frame ID. -/
def LinCh.buf (l : LinCh) (id : Nat) : LinBuf := Tab.get l.bufs id {}

/-- Change a buffer. -/
def State.updBuf (s : State) (chan id : Nat) (f : LinBuf → LinBuf) : State :=
  s.updLin chan (fun l => { l with bufs := Tab.upd l.bufs id {} f })

/-- The eight data bytes of a buffer. -/
def LinBuf.bytes (b : LinBuf) : List Byte := leBytes 4 b.lo.toNat ++ leBytes 4 b.hi.toNat

/-- The first bytes of a buffer replaced. -/
def LinBuf.put (b : LinBuf) (d : List Byte) : LinBuf :=
  let all := d.take 8 ++ b.bytes.drop d.length
  { b with lo := BitVec.ofNat 32 (leNat (all.take 4)), hi := BitVec.ofNat 32 (leNat (all.drop 4)) }

/-- A buffer takes new data: SEQ rises and UPDATED is set (R414). -/
def LinBuf.fresh (b : LinBuf) : LinBuf := { b with seq := b.seq + 1, updated := true }

/-- The MSI of a send or a store, with IRQ_EN (R414). -/
def State.linBufMsi (s : State) (chan id : Nat) : State := if ((s.lin chan).buf id).irq then s.linMsi chan else s

/-- The 8-bit sum of bytes in which a carry is added in again. -/
def linSum (l : List Byte) : Nat := l.foldl (fun a x => if 256 ≤ a + x.toNat then a + x.toNat - 255 else a + x.toNat) 0

/-- The protected identifier of a frame ID: its two parity bits above it (ISO 17987). -/
def linPid (id : Nat) : Byte :=
  let v := BitVec.ofNat 6 id
  let b (k : Nat) : Bool := v.getLsbD k
  v.truncate 8 ||| (if (b 0 ^^ b 1) ^^ (b 2 ^^ b 4) then 0x40 else 0) ||| (if (b 1 ^^ b 3) ^^ (b 4 ^^ b 5) then 0 else 0x80)

/-- The checksum of a response: enhanced, over the protected identifier as well, where LIN_FRM_CFG.ENH selects it, and classic always on
0x3C and 0x3D (R413; PRESUMED of ISO 17987, log entry 55). -/
def LinBuf.checksum (b : LinBuf) (id : Nat) (d : List Byte) : Byte :=
  BitVec.ofNat 8 (255 - linSum (if b.enh && id ≠ 0x3C && id ≠ 0x3D then linPid id :: d else d))

/-- The bytes of a response on the bus: the data and then the checksum. -/
def LinBuf.response (b : LinBuf) (id : Nat) : List Byte := b.bytes.take b.len ++ [b.checksum id (b.bytes.take b.len)]

/-- The response that ends on the bus carries the checksum that the frame must carry after its data bytes (R413). -/
def LinBuf.valid (b : LinBuf) (id : Nat) (bytes : List Byte) : Bool :=
  bytes.drop b.len = [b.checksum id (bytes.take b.len)]

/-- A publish response has been sent (R413, R414). -/
def State.linSent (s : State) (chan id : Nat) : State :=
  ((s.updLin chan (fun l => { l with sent := (l.buf id).response id })).updBuf chan id (fun b => { b with updated := false })).linBufMsi
    chan id

/-- An owner write of buffer data: LO, then HI, which raises SEQ of a publish buffer; data of a subscribe buffer is read-only
(R414). -/
def State.linOwnerWrite (s : State) (chan id : Nat) (d : List Byte) : State :=
  s.updBuf chan id (fun b =>
    if b.dir = 2 then b else if b.dir = 1 then (b.put d).fresh else b.put d)

/-- A channel enters bus sleep. -/
def State.linBusSleep (s : State) (chan : Nat) : State :=
  (s.updLin chan (fun l => { l with st := .busSleep, header := none, goSleep := false, begun := false })).linEvent chan 1

/-! ### The schedule of a commander -/

/-- The function of the channel's owner is disabled (R517). -/
def State.linOff (s : State) (chan : Nat) : Bool :=
  match s.hFind 0x03 chan with
  | some h => s.fnOffFor h.owner h.sec 0x04 chan
  | none => false

/-- The channel takes part in headers and responses of later slots (R416, R517). -/
def State.linRuns (s : State) (chan : Nat) : Bool := (s.lin chan).en && !(s.lin chan).halted && !s.linOff chan

/-- The entries of table t. -/
def LinCh.entries (l : LinCh) (t : Nat) : List LinEntry := Tab.get l.tables t []

/-- The table and entry of the next slot: the selected table at entry 0 at the start, after a switch and after a new content;
then the next entry, and after the last one of a collision table the entry at which the schedule resumes (R415). -/
def LinCh.advance (l : LinCh) : LinCh :=
  if ¬ l.begun ∨ l.switch then
    let l1 := match l.nextTable with
      | some t => { l with tables := Tab.put l.tables l.table.toNat t, nextTable := none }
      | none => l
    { l1 with table := l.sel, entry := 0, begun := true, switch := false, resume := none, jump := false }
  else match l.nextTable with
    | some t =>
      { l with tables := Tab.put l.tables l.table.toNat t, nextTable := none, entry := 0, resume := none, jump := false }
    | none =>
      if l.jump then { l with entry := 0, jump := false }
      else if l.entry + 1 < (l.entries l.table.toNat).length then { l with entry := l.entry + 1 }
      else match l.resume with
        | some (t, e) => { l with table := t, entry := if e < (l.entries t.toNat).length then e else 0, resume := none }
        | none => { l with entry := 0 }

/-- LIN_SLOT_START (R415): the go-to-sleep command, or the header of the slot's entry; a sporadic entry without new data leaves
the slot silent; a publish buffer's response follows its header. -/
def execLinSlotStart (chan : Nat) (s : State) : Out :=
  if 8 ≤ chan then noUnit
  else
    let l := s.lin chan
    if ¬ (s.linRuns chan ∧ l.responder = false ∧ l.st ≠ .stopped ∧ (l.run ∨ l.goSleep)) then .next s
    else if l.goSleep then fin (s.linBusSleep chan)
    else if l.st = .busSleep then .next s
    else
      let l1 := l.advance
      let s1 := s.updLin chan (fun _ => { l1 with st := .active, header := none })
      match (l1.entries l1.table.toNat)[l1.entry]? with
      | none => fin s1
      | some e =>
        let b := l1.buf e.id
        if e.typ = 2 ∧ ¬ b.updated then fin s1
        else if b.dir = 1 ∧ e.typ ≠ 1 then fin (s1.linSent chan e.id)
        else fin (s1.updLin chan (fun l => { l with header := some (e.id, e.typ) }))

/-- LIN_HEADER_RECEIVED (R413): a responder publishes, subscribes or ignores. -/
def execLinHeaderReceived (chan : Nat) (id : Nat) (s : State) : Out :=
  if 8 ≤ chan ∨ 64 ≤ id then noUnit
  else
    let l := s.lin chan
    if ¬ (s.linRuns chan ∧ l.responder ∧ (l.st = .active ∨ l.st = .waking)) then .next s
    else
      let s1 := s.updLin chan (fun l => { l with st := .active, header := none })
      if (l.buf id).dir = 1 then fin (s1.linSent chan id)
      else if (l.buf id).dir = 2 then fin (s1.updLin chan (fun l => { l with header := some (id, 0) }))
      else fin s1

/-- A response ends: with a valid checksum it is stored in its subscribe buffer, and otherwise it is a checksum error; a channel that
does not subscribe to the ID takes no part (R413, R414). -/
def State.linJudge (s : State) (chan id : Nat) (bytes : List Byte) : State :=
  let s1 := s.updLin chan (fun l => { l with header := none })
  let b := (s.lin chan).buf id
  if b.dir ≠ 2 then s1
  else if b.valid id bytes then
    (s1.updBuf chan id (fun b => { ((b.put (bytes.take b.len)).fresh) with err := 0 })).linBufMsi chan id
  else
    ((s1.updBuf chan id (fun b => { b with err := 2 })).updLin chan (fun l => { l with checksum := satInc l.checksum })).linEvent chan 0

/-- LIN_RESPONSE_RECEIVED (R413, R414): the bytes of a response, the checksum last. -/
def execLinResponseReceived (chan : Nat) (bytes : List Byte) (s : State) : Out :=
  if 8 ≤ chan then noUnit
  else match (s.lin chan).header with
    | none => .next s
    | some (id, _) => fin (s.linJudge chan id bytes)

/-- A collision on an event-triggered entry: table CRT runs once, unless it names the running table, and the schedule then resumes at the
next entry; a new content of the running table takes effect now, and the schedule resumes at its entry 0 (R415). -/
def LinCh.collide (l : LinCh) : LinCh :=
  if l.crt = l.table then l
  else
    let l1 := { l with table := l.crt, entry := 0, jump := true }
    match l.nextTable with
    | none => { l1 with resume := some (l.table, l.entry + 1) }
    | some t => { l1 with tables := Tab.put l.tables l.table.toNat t, nextTable := none, resume := some (l.table, 0) }

/-- LIN_RESPONSE_ERROR (R413 to R415): a checksum is judged as in LIN_RESPONSE_RECEIVED. -/
def execLinResponseError (chan : Nat) (kind : LinError) (s : State) : Out :=
  if 8 ≤ chan then noUnit
  else match (s.lin chan).header with
    | none => .next s
    | some (id, typ) =>
      let s1 := s.updLin chan (fun l => { l with header := none })
      match kind with
      | .checksum bytes => fin (s.linJudge chan id bytes)
      | .framing => fin ((s1.updBuf chan id (fun b => { b with err := 3 })).linEvent chan 0)
      | .collision =>
        let s2 := s1.updBuf chan id (fun b => { b with err := 4 })
        if typ = 1 then fin ((s2.updLin chan LinCh.collide).linEvent chan 3) else fin (s2.linEvent chan 0)

/-- LIN_NO_RESPONSE (R414). -/
def execLinNoResponse (chan : Nat) (s : State) : Out :=
  if 8 ≤ chan then noUnit
  else match (s.lin chan).header with
    | none => .next s
    | some (id, _) =>
      fin (((s.updLin chan (fun l => { l with header := none, noResp := satInc l.noResp })).updBuf chan id (fun b =>
        { b with err := 1 })).linEvent chan 0)

/-- LIN_GOTO_SLEEP_RECEIVED (R419). -/
def execLinGotoSleepReceived (chan : Nat) (s : State) : Out :=
  if 8 ≤ chan then noUnit
  else
    let l := s.lin chan
    if l.en ∧ l.responder ∧ (l.st = .active ∨ l.st = .waking) then fin (s.linBusSleep chan) else .next s

/-- LIN_BUS_IDLE_TIMEOUT (R413). -/
def execLinBusIdleTimeout (chan : Nat) (s : State) : Out :=
  if 8 ≤ chan then noUnit
  else
    let l := s.lin chan
    if l.en ∧ (l.st = .active ∨ l.st = .waking) then fin (s.linBusSleep chan) else .next s

/-- LIN_WAKEUP_DETECTED (R413). -/
def execLinWakeupDetected (chan : Nat) (s : State) : Out :=
  if 8 ≤ chan then noUnit
  else
    let l := s.lin chan
    if l.en ∧ l.st = .busSleep then fin ((s.updLin chan (fun l => { l with st := .waking })).linEvent chan 2) else .next s

/-- A wake-up pulse of 1 ms is sent (R413). -/
def State.linPulse (s : State) (chan : Nat) : State :=
  let l := s.lin chan
  if l.en && l.st ≠ .stopped then
    s.updLin chan (fun l => { l with pulses := l.pulses + 1, st := if l.st = .busSleep then .waking else l.st })
  else s

/-! ### Accesses to the page -/

/-- A word of a LIN channel page as read (R416). -/
def LinCh.word (l : LinCh) (off : Nat) : U32 :=
  if off = 0x000 then flagAt l.en 0 ||| flagAt l.responder 1 ||| fieldAt l.crt 2
  else if off = 0x004 then fieldAt l.sel 0 ||| flagAt l.run 2
  else if off = 0x008 then
    fieldAt (match l.st with
      | .stopped => (0 : BitVec 2)
      | .active => 1
      | .busSleep => 2
      | .waking => 3) 0 ||| fieldAt l.table 2 ||| fieldAt (BitVec.ofNat 6 l.entry) 4
  else if off = 0x010 then fieldAt l.event 0
  else if off = 0x014 then fieldAt l.eventEn 0
  else if off = 0x020 then fieldAt l.checksum 0 ||| fieldAt l.noResp 16
  else if 0x400 ≤ off ∧ off < 0x800 then
    let b := l.buf ((off - 0x400) / 0x10)
    let k := off % 0x10
    if k = 0 then fieldAt b.cfg 0
    else if k = 4 then fieldAt b.seq 0 ||| flagAt b.updated 16 ||| fieldAt b.err 17
    else if k = 8 then b.lo
    else b.hi
  else 0

/-- The effect of reading a word: LIN_FRM_STAT clears UPDATED (R414). -/
def State.linRead (s : State) (chan off : Nat) : State :=
  if 0x400 ≤ off ∧ off < 0x800 ∧ off % 0x10 = 4 then
    s.updBuf chan ((off - 0x400) / 0x10) (fun b => { b with updated := false })
  else s

/-- A write of LIN_CTRL: SCHED_RUN of a commander starts at entry 0, SCHED_SEL switches at the end of the slot (R415). -/
def State.linCtrl (s : State) (chan : Nat) (v m : U32) : State :=
  let l := s.lin chan
  let w := mix (l.word 0x004) v m
  let s1 := s.updLin chan (fun l => { l with
    sel := w.extractLsb' 0 2
    switch := l.switch || (l.run && m.getLsbD 0)
    run := w.getLsbD 2 && !l.responder
    begun := l.begun && w.getLsbD 2
    goSleep := l.goSleep || ((v &&& m).getLsbD 3 && !l.responder && l.en) })
  if (v &&& m).getLsbD 4 then s1.linPulse chan else s1

/-- A write of a word of a LIN channel page under a byte mask (R414, R416). -/
def State.linPut (s : State) (chan off : Nat) (v m : U32) : State :=
  let l := s.lin chan
  if off = 0x000 then s.updLin chan (fun l => { l with crt := (mix (l.word 0) v m).extractLsb' 2 2 })
  else if off = 0x004 then s.linCtrl chan v m
  else if off = 0x010 then s.updLin chan (fun l => { l with event := l.event &&& ~~~((v &&& m).truncate 4) })
  else if off = 0x014 then s.updLin chan (fun l => { l with eventEn := (mix (fieldAt l.eventEn 0) v m).truncate 4 })
  else if 0x400 ≤ off ∧ off < 0x800 then
    let id := (off - 0x400) / 0x10
    let b := l.buf id
    let k := off % 0x10
    if k = 0 then s.updBuf chan id (fun b => { b with cfg := (mix (fieldAt b.cfg 0) v m).truncate 9 })
    else if k = 8 then (if b.dir = 2 then s else s.updBuf chan id (fun b => { b with lo := mix b.lo v m }))
    else if k = 0xC then
      (if b.dir = 2 then s else s.updBuf chan id (fun b =>
        let c := { b with hi := mix b.hi v m }
        if b.dir = 1 then c.fresh else c))
    else s
  else s

/-- LIN_FRM_DATA_HI_WRITE (R414). -/
def execLinFrmDataHiWrite (chan id : Nat) (attr : Attr) (value : U32) (s : State) : Out :=
  if 8 ≤ chan ∨ 64 ≤ id then noUnit
  else s.issue attr fun attr =>
    fin (s.writeAt (writeX attr (linAddr chan + 0x40C + id * 0x10) 4 value.toNat) (fun s => s.linPut chan (0x40C + id * 0x10) value 0xFFFFFFFF))

/-- LIN_FRM_STAT_READ (R414). -/
def execLinFrmStatRead (chan id : Nat) (attr : Attr) (s : State) : Out :=
  if 8 ≤ chan ∨ 64 ≤ id then noUnit
  else s.issue attr fun attr =>
    let off := 0x404 + id * 0x10
    fin (s.accessAt (readX attr (linAddr chan + off) 4) .read (fun s =>
      (s.linRead chan off, .ok, leBytes 4 ((s.lin chan).word off).toNat)))

/-- LIN_GOTO_SLEEP_WRITE (R415). -/
def execLinGotoSleepWrite (chan : Nat) (attr : Attr) (s : State) : Out :=
  if 8 ≤ chan then noUnit
  else s.issue attr fun attr =>
    fin (s.writeAt (writeX attr (linAddr chan + 4) 1 (((s.lin chan).word 4) &&& 3 ||| 8).toNat) (fun s => s.linCtrl chan 8 8))

/-- LIN_WAKE_WRITE (R413). -/
def execLinWakeWrite (chan : Nat) (attr : Attr) (s : State) : Out :=
  if 8 ≤ chan then noUnit
  else s.issue attr fun attr =>
    fin (s.writeAt (writeX attr (linAddr chan + 4) 1 (((s.lin chan).word 4) &&& 3 ||| 16).toNat) (fun s => s.linCtrl chan 16 16))

/-- LIN_SCHED_SEL_WRITE (R415). -/
def execLinSchedSelWrite (chan : Nat) (attr : Attr) (value : BitVec 2) (s : State) : Out :=
  if 8 ≤ chan then noUnit
  else s.issue attr fun attr =>
    fin (s.writeAt (writeX attr (linAddr chan + 4) 1 value.toNat) (fun s => s.linCtrl chan (fieldAt value 0) 3))

/-! ### Life of a channel -/

/-- The cleared context of a channel: the tables, the buffers and SCHED_RUN (R416). -/
def State.linClear (s : State) (chan : Nat) : State :=
  s.updLin chan (fun l => { l with
    tables := [], nextTable := none, bufs := [], run := false, begun := false, switch := false, resume := none
    header := none, goSleep := false, entry := 0, jump := false })

/-- A channel stops taking headers and responses, or goes on. -/
def State.linHalt (s : State) (chan : Nat) (b : Bool) : State := s.updLin chan (fun l => { l with halted := b })

/-! ### LIN_CREATE, LIN_SCHEDULE_SET -/

/-- LIN_CREATE, 0x0410. -/
def specLinCreate : CmdSpec := { op := 0x0410, who := [.mgr, .gst, .sec] }

/-- The payload of LIN_CREATE (R267). -/
def State.okLinCreate (s : State) (owner : Nat) (sec : Bool) (p : List Byte) : Bool :=
  p.length = 12 && u8At p 0 < 8 && u8At p 1 ≤ 1 && u16At p 2 = 0 && 1000 ≤ u32At p 4 && u32At p 4 ≤ 20000
    && s.bindOk (bindAt p 8) owner sec 0

/-- The share of a LIN channel: a guest's grant; for instance 0 what no guest holds, and for secure handles too (R509, R511). -/
def State.linRoom (s : State) (chan owner : Nat) : Bool :=
  (if owner = 0 then (s.granted 0x04 chan).1 = 0 else 1 ≤ (s.share owner 0x04 chan).1) && s.handleRoom

/-- A new channel handle: on a secure channel on stall 2 alone, one per channel (R194, R267). -/
def ownLinCreate (rq : Request) (s : State) : State × Ans :=
  let p := rq.payload
  let chan := u8At p 0
  let own := s.issuerInst rq.route
  if s.linSec chan ∧ ¬ rq.isSec then no s .denied
  else if s.fnOffFor own rq.isSec 0x04 chan then no s .fnDisabled
  else if (s.hFind 0x03 chan).isSome then no s .busy
  else if ¬ s.linRoom chan own ∨ s.blockIsOff (0x30 + chan) then no s .noResource
  else
    (((s.hCreate 0x03 chan own rq.isSec (bindAt p 8) (chan, 1, 0)).updLin chan (fun l => { l with
        en := true, responder := u8At p 1 = 1, rate := u32At p 4, run := l.run && u8At p 1 = 0, halted := false
        st := if l.st = .stopped then .active else l.st })),
      { handle := some (mkHandle 0x03 own (s.genOf 0x03 chan) chan), payload := leBytes 8 (linAddr chan) })

/-- LIN_CREATE (R413). -/
def execLinCreate (rq : Request) (s : State) : Out :=
  serve specLinCreate rq s (s.okLinCreate (s.issuerInst rq.route) rq.isSec) (ownLinCreate rq)

/-- LIN_SCHEDULE_SET, 0x0411. -/
def specLinScheduleSet : CmdSpec := { op := 0x0411, who := everyIssuer, types := [0x03], mgrToo := false }

/-- The entries of a payload. -/
def linEntries (p : List Byte) : List LinEntry :=
  (List.range (u8At p 1)).map (fun i => { id := u8At p (4 + i * 4), typ := u8At p (5 + i * 4), slot := u16At p (6 + i * 4) })

/-- The shortest slot in ms: an 8-byte frame of 1.4 × 124 bit times, rounded up (R415). -/
def linSlotMin (rate : Nat) : Nat := (173600 + rate - 1) / rate

/-- The payload of LIN_SCHEDULE_SET on a channel (R267, R415). -/
def State.okLinSchedule (s : State) (chan : Nat) (p : List Byte) : Bool :=
  u8At p 0 ≤ 3 && 1 ≤ u8At p 1 && u8At p 1 ≤ 64 && u16At p 2 = 0 && p.length = 4 + 4 * u8At p 1
    && !(s.lin chan).responder
    && (linEntries p).all (fun e => e.id < 64 && e.typ ≤ 3 && linSlotMin (s.lin chan).rate ≤ e.slot
      && (e.typ ≠ 3 || e.id = 0x3C || e.id = 0x3D))

/-- A schedule table: that of the running table takes effect at the end of the slot (R415). -/
def ownLinScheduleSet (rq : Request) (s : State) : State × Ans :=
  let chan := hIndex rq.handle
  let t := u8At rq.payload 0
  let l := s.lin chan
  if s.linOff chan then no s .fnDisabled
  else if l.run ∧ l.begun ∧ l.table.toNat = t then
    yes (s.updLin chan (fun l => { l with nextTable := some (linEntries rq.payload) }))
  else yes (s.updLin chan (fun l => { l with tables := Tab.put l.tables t (linEntries rq.payload) }))

/-- LIN_SCHEDULE_SET (R415). -/
def execLinScheduleSet (rq : Request) (s : State) : Out :=
  serve specLinScheduleSet rq s (s.okLinSchedule (hIndex rq.handle)) (ownLinScheduleSet rq)

end Sys2Proof.Machine
end

