-- ==== Sys2Proof/Machine/Gateway.lean ====
section
/-! DEFINITION. The frame gateway: rules, conversions, tunnelling over IEEE 1722, CAN queues, and the commands 0x0420 to 0x0422
(R398 to R411). -/

namespace Sys2Proof.Machine

open Sys2Proof

/-! ### Tapped frames and rules -/

/-- What a rule compares of a tapped frame (R401). -/
structure Tapped where
  /-- Source kind. -/
  kind : Nat := 1
  /-- Source number. -/
  num : Nat := 0
  /-- The frame; a LIN frame is a data frame with its ID. -/
  f : CanFrame := {}
  /-- Stream ID of an ACF source. -/
  stream : U64 := 0
  deriving DecidableEq, Repr

/-- The format bits: IDE, FDF, XLF, RTR. -/
def CanFrame.fmt (f : CanFrame) : Nat :=
  (if f.ide then 1 else 0) + (if f.fdf then 2 else 0) + (if f.xlf then 4 else 0) + (if f.rtr then 8 else 0)

/-- A tapped frame matches a rule (R401). -/
def GwRule.hits (r : GwRule) (t : Tapped) : Bool :=
  r.kind.toNat = t.kind && r.num.toNat = t.num
    && BitVec.ofNat 8 t.f.fmt &&& r.fmtMask = r.fmtVal &&& r.fmtMask
    && (BitVec.ofNat 32 t.f.id.toNat ^^^ r.id) &&& r.idMask = 0
    && (t.kind ≠ 3 || r.stream = t.stream)

/-- Out flag k of a rule. -/
def GwRule.flag (r : GwRule) (k : Nat) : Bool := r.flags.getLsbD k

/-- Set bit k of GW_EVENT. -/
def State.gwEvent (s : State) (k : Nat) : State := s.onGw (fun g => { g with event := g.event ||| bitOf 4 k })

/-- Change a rule. -/
def State.updRule (s : State) (n : Nat) (f : GwRule → GwRule) : State :=
  s.onGw (fun g => { g with rules := Tab.upd g.rules n {} f })

/-- A refused conversion (R404). -/
def State.convertDrop (s : State) (n : Nat) : State :=
  (s.onGw (fun g => { g with convertDrop := g.convertDrop + 1 })).updRule n (fun r => { r with dropped := r.dropped + 1 })

/-- A rule forwards a frame. -/
def State.ruleForward (s : State) (n : Nat) : State := s.updRule n (fun r => { r with forwarded := r.forwarded + 1 })

/-! ### To CAN -/

/-- The identifier that a rule sends. -/
def GwRule.outId (r : GwRule) (f : CanFrame) : Nat := if r.flag 0 then r.newId.toNat else f.id.toNat

/-- The frame that a rule makes for a CAN channel, or none where the table refuses it (R404). -/
def GwRule.toCan (r : GwRule) (t : Tapped) (c : CanCh) (chan : Nat) : Option CanFrame :=
  let f := t.f
  let keep := r.flag 4
  let id := r.outId f
  if f.xlf then
    if 12 ≤ chan && c.cfg.xl && id ≤ 0x7FF then some { f with id := BitVec.ofNat 29 id, esi := false } else none
  else
    let ide := if keep then f.ide else r.flag 1
    let fdf := if t.kind = 2 then false else if keep then f.fdf else r.flag 2
    let brs := fdf && (if keep then f.brs else r.flag 3)
    if ¬ ide ∧ 0x7FF < id then none
    else if f.rtr ∧ fdf then none
    else if ¬ fdf ∧ 8 < f.data.length then none
    else if c.st ≠ .stopped ∧ ¬ (if fdf then c.cfg.fd else c.cfg.cc) then none
    else some { id := BitVec.ofNat 29 id, ide := ide, fdf := fdf, brs := brs, rtr := f.rtr, dlc := f.dlc, data := f.data }

/-- A queue with an entry in its place: by arbitration field, equal fields in order of arrival (R409). -/
def queueIn (q : List GwEntry) (e : GwEntry) : List GwEntry :=
  q.filter (fun x => x.frame.key ≤ e.frame.key) ++ e :: q.filter (fun x => e.frame.key < x.frame.key)

/-- An entry arrives at a CAN queue; at a full queue, a stopped channel or one in listen-only mode it is dropped (R409). -/
def State.gwQueue (s : State) (chan : Nat) (f : CanFrame) : State × Bool :=
  let q := Tab.get s.bus.gw.queues chan []
  if 32 ≤ q.length ∨ (s.can chan).st = .stopped ∨ (s.can chan).cfg.mode = 1 then
    ((s.onGw (fun g => { g with queueDrop := g.queueDrop + 1 })).gwEvent 0, false)
  else
    (s.onGw (fun g => { g with
      queues := Tab.put g.queues chan (queueIn q { frame := f, time := s.now, id := g.nextId })
      nextId := g.nextId + 1 }), true)

/-- Action 1. -/
def State.actCan (s : State) (n : Nat) (r : GwRule) (t : Tapped) : State :=
  let chan := r.dest.toNat
  match r.toCan t (s.can chan) chan with
  | none => s.convertDrop n
  | some f =>
    let q := s.gwQueue chan f
    if q.2 then q.1.ruleForward n else q.1.updRule n (fun r => { r with dropped := r.dropped + 1 })

/-! ### To LIN -/

/-- Action 2: the buffer is written as by its owner, when its SRC is 1 and the length suits (R404). -/
def State.actLin (s : State) (n : Nat) (r : GwRule) (t : Tapped) : State :=
  let chan := r.dest.toNat
  let id := r.newId.toNat
  let b := (s.lin chan).buf id
  let fits := if t.kind = 2 then t.f.data.length = b.len else b.len ≤ t.f.data.length
  if t.f.xlf ∨ t.f.rtr ∨ ¬ b.src ∨ ¬ fits then s.convertDrop n
  else (s.linOwnerWrite chan id (t.f.data.take b.len)).ruleForward n

/-! ### To Ethernet -/

/-- Bytes that fill a length up to whole quadlets. -/
def padOf (n : Nat) : Nat := (4 - n % 4) % 4

/-- The ACF message of a frame: ACF_CAN, or ACF_CAN_BRIEF (R406). -/
def State.acfMessage (s : State) (r : GwRule) (f : CanFrame) : List Byte :=
  let brief := r.flag 5
  let d := if f.rtr then [] else f.data
  let pad := padOf d.length
  let len := (if brief then 8 else 16) + d.length + pad
  let mtv := if s.tb.gstate = 1 ∨ s.tb.gstate = 2 then 1 else 0
  let b (x : Bool) : Nat := if x then 1 else 0
  let id := r.outId f
  beBytes 2 ((if brief then 2 else 1) * 512 + len / 4)
    ++ [BitVec.ofNat 8 (pad * 64 + (if brief then 0 else mtv) * 32 + b f.rtr * 16 + b f.ide * 8 + b f.brs * 4 + b f.fdf * 2),
        BitVec.ofNat 8 (r.dest.toNat % 32)]
    ++ (if brief then [] else beBytes 8 s.tb.globalT.toNat) ++ beBytes 4 id ++ d ++ List.replicate pad 0

/-- The Ethernet frame of collected messages (R406). -/
def ntscfFrame (r : GwRule) (msgs : List (List Byte)) : List Byte :=
  let body := msgs.flatten
  let tag := if r.vlan = 0 then [] else beBytes 2 0x8100 ++ beBytes 2 (r.cls.toNat * 8192 + r.vlan.toNat)
  let all := r.dmac ++ beBytes 6 (Config.macBase + 128).toNat ++ tag ++ beBytes 2 0x22F0
    ++ [0x82, BitVec.ofNat 8 (0x80 + body.length / 256), BitVec.ofNat 8 body.length, r.seq]
    ++ beBytes 8 r.stream.toNat ++ body
  all ++ List.replicate (60 - all.length) 0

/-- A rule sends messages in one NTSCF frame through port GW in its class; a frame that the switch refuses under R291 is counted here, and
one that the switch drops otherwise counts as forwarded by the rule (R365, R406, R407; DESIGN CHOICE, log entry 95). -/
def State.ntscfSend (s : State) (n : Nat) (msgs : List (List Byte)) : State :=
  if msgs.isEmpty then s
  else
    let r : GwRule := Tab.get s.bus.gw.rules n {}
    let b := ntscfFrame r msgs
    let q := ((s.updRule n (fun r => { r with seq := r.seq + 1, batchMsgs := [] })).goodFrame 28 b.length).enter {
      port := 28, bytes := b, cls := some r.cls.toNat }
    let k := BitVec.ofNat 64 msgs.length
    if (q.1.swPort 28).cnt.refuse = (s.swPort 28).cnt.refuse then q.1.updRule n (fun r => { r with forwarded := r.forwarded + k })
    else ((q.1.onGw (fun g => { g with admitDrop := g.admitDrop + 1 })).gwEvent 3).updRule n (fun r => { r with dropped := r.dropped + k })

/-- Action 3, with batching (R404, R407). -/
def State.actAcf (s : State) (n : Nat) (r : GwRule) (t : Tapped) : State :=
  if t.f.xlf ∨ t.kind ≠ 1 then s.convertDrop n
  else
    let m := s.acfMessage r t.f
    if r.batch.toNat < 2 then s.ntscfSend n [m]
    else
      let full := 1400 < 12 + r.batchMsgs.flatten.length + m.length
      let s1 := if full then s.ntscfSend n r.batchMsgs else s
      let held := (if full then [] else r.batchMsgs) ++ [m]
      if r.batch.toNat ≤ held.length then s1.ntscfSend n held else s1.updRule n (fun r => { r with batchMsgs := held })

/-! ### The tap -/

/-- A matching rule acts. -/
def State.ruleAct (s : State) (n : Nat) (r : GwRule) (t : Tapped) : State :=
  let s1 := s.updRule n (fun r => { r with matched := r.matched + 1 })
  match r.action.toNat with
  | 1 => s1.actCan n r t
  | 2 => s1.actLin n r t
  | 3 => s1.actAcf n r t
  | _ => s1

/-- Rules in number order: up to 8 act, STOP ends the evaluation, later matches and a frame without a match are counted (R401).
`k` rules have acted so far. -/
def State.evaluate (s : State) (t : Tapped) : List (Nat × GwRule) → Nat → State
  | [], k => if k = 0 then s.onGw (fun g => { g with unmatched := g.unmatched + 1 }) else s
  | (n, r) :: rest, k =>
    if ¬ r.hits t then State.evaluate s t rest k
    else if 8 ≤ k then State.evaluate (s.onGw (fun g => { g with unmatched := g.unmatched + 1 })) t rest k
    else
      let s1 := s.ruleAct n r t
      if r.flag 6 then s1 else State.evaluate s1 t rest (k + 1)

/-- A tapped frame meets the rules. -/
def State.tap (s : State) (t : Tapped) : State := s.evaluate t s.bus.gw.rules 0

/-- The tap of a CAN, LIN or ACF source. -/
def tapped : TapSource → Tapped
  | .can chan f => { kind := 1, num := chan, f := f }
  | .lin chan id data => { kind := 2, num := chan, f := { id := BitVec.ofNat 29 id, data := data } }
  | .acf bus stream f => { kind := 3, num := bus, f := f, stream := stream }

/-- The source exists. -/
def tapKnown : TapSource → Bool
  | .can chan _ => chan < 16
  | .lin chan id _ => chan < 8 && id < 64
  | .acf bus _ _ => bus < 32

/-- The source takes part in its bus: a CAN channel that runs and receives the frame's format, a LIN channel that is not stopped (R369,
R393, R416). -/
def State.tapLive (s : State) : TapSource → Bool
  | .can chan f => (s.can chan).live && (s.can chan).tx.isNone && (s.can chan).cfg.takes f
  | .lin chan _ _ => (s.lin chan).en && (s.lin chan).st ≠ .stopped
  | .acf _ _ _ => true

/-- GATEWAY_TAP (R398, R401): a frame of another node, so none comes while the channel sends. -/
def execGatewayTap (src : TapSource) (s : State) : Out :=
  if ¬ tapKnown src then noUnit
  else if ¬ (s.bus.gw.en ∧ s.tapLive src) then .next s
  else fin ((s.onGw (fun g => { g with tap := g.tap + 1 })).tap (tapped src))

/-! ### From Ethernet -/

/-- The ACF messages of a payload: type and bytes of each, or none where one does not lie within the payload. -/
def acfSplit : Nat → List Byte → Option (List (Nat × List Byte))
  | 0, _ => none
  | fuel + 1, p =>
    if p = [] then some []
    else
      let len := beAt p 0 2 % 512 * 4
      if len < 4 ∨ p.length < len then none
      else match acfSplit fuel (p.drop len) with
        | none => none
        | some r => some ((beAt p 0 2 / 512, p.take len) :: r)

/-- The CAN frame of an ACF CAN message and its can_bus_id, or none where it is malformed (R405, R408). -/
def acfFrame (typ : Nat) (m : List Byte) : Option (Nat × CanFrame) :=
  let head := if typ = 1 then 16 else 8
  let fl := beAt m 2 1
  let pad := fl / 64
  if m.length < head + pad then none
  else
    let d := (m.drop head).take (m.length - head - pad)
    let fdf := fl / 2 % 2 = 1
    if (if fdf then 64 else 8) < d.length then none
    else some (beAt m 3 1 % 32, {
      id := BitVec.ofNat 29 (beAt m (head - 4) 4), ide := fl / 8 % 2 = 1, rtr := fl / 16 % 2 = 1, brs := fl / 4 % 2 = 1
      fdf := fdf, data := d })

/-- One more frame or message that is not parsed. -/
def State.unparsed (s : State) : State := (s.onGw (fun g => { g with unparsed := g.unparsed + 1 })).gwEvent 2

/-- The NTSCF payload of a frame from port GW with its stream ID (R399). -/
def ntscfParse (b : List Byte) : Option (U64 × List (Nat × List Byte)) :=
  let o := if beAt b 12 2 = 0x8100 then 16 else 12
  if beAt b o 2 ≠ 0x22F0 ∨ beAt b (o + 2) 1 ≠ 0x82 ∨ beAt b (o + 3) 1 / 16 % 8 ≠ 0 then none
  else
    let len := beAt b (o + 3) 2 % 2048
    let p := (b.drop (o + 14)).take len
    if p.length < len then none
    else (acfSplit (len + 1) p).map (fun l => (BitVec.ofNat 64 (beAt b (o + 6) 8), l))

/-- GATEWAY_ETH_FRAME (R398, R399, R405, R408): a frame that the switch has forwarded to port GW. -/
def execGatewayEthFrame (frame : Nat) (s : State) : Out :=
  if ¬ (s.bus.gw.en ∧ s.bus.gw.inbox.has frame) then .next s
  else
    let s1 := s.onGw (fun g => { g with tap := g.tap + 1, inbox := Tab.drop g.inbox frame })
    match ntscfParse (Tab.get s.bus.gw.inbox frame []) with
    | none => fin s1.unparsed
    | some (stream, l) =>
      fin (l.foldl (fun t m =>
        if m.1 = 1 ∨ m.1 = 2 then
          match acfFrame m.1 m.2 with
          | some (bus, f) => t.tap { kind := 3, num := bus, f := f, stream := stream }
          | none => t.unparsed
        else t.unparsed) s1)

/-- GATEWAY_BATCH_HOLD_EXPIRY (R407). -/
def execGatewayBatchHoldExpiry (rule : Nat) (s : State) : Out :=
  if 4096 ≤ rule then noUnit else fin (s.ntscfSend rule (Tab.get s.bus.gw.rules rule {}).batchMsgs)

/-- GATEWAY_QUEUE_AGE_EXPIRY (R409): the entry's age has passed AGE_MS. -/
def execGatewayQueueAgeExpiry (chan entry : Nat) (s : State) : Out :=
  if 16 ≤ chan then noUnit
  else
    let q := Tab.get s.bus.gw.queues chan []
    if q.any (fun e => e.id = entry) then
      fin ((s.onGw (fun g => { g with
        queues := Tab.put g.queues chan (q.filter (fun e => e.id ≠ entry)), ageDrop := g.ageDrop + 1 })).gwEvent 1)
    else .next s

/-! ### Commands -/

/-- GW_RULE_SET, 0x0420. -/
def specGwRuleSet : CmdSpec := { op := 0x0420, who := [.mgr, .sec], st := true }

/-- The rule of 48 bytes at an offset (R400). -/
def ruleAt (p : List Byte) (o : Nat) : GwRule :=
  { kind := BitVec.ofNat 8 (u8At p o), num := BitVec.ofNat 8 (u8At p (o + 1)), fmtMask := BitVec.ofNat 8 (u8At p (o + 2)),
    fmtVal := BitVec.ofNat 8 (u8At p (o + 3)), id := BitVec.ofNat 32 (u32At p (o + 4)), idMask := BitVec.ofNat 32 (u32At p (o + 8)),
    stream := BitVec.ofNat 64 (u64At p (o + 12)), action := BitVec.ofNat 8 (u8At p (o + 20)), dest := BitVec.ofNat 8 (u8At p (o + 21)),
    flags := BitVec.ofNat 8 (u8At p (o + 22)), cls := BitVec.ofNat 8 (u8At p (o + 23)), newId := BitVec.ofNat 32 (u32At p (o + 24)),
    vlan := BitVec.ofNat 16 (u16At p (o + 28)), dmac := (p.drop (o + 30)).take 6, batch := BitVec.ofNat 8 (u8At p (o + 36)),
    hold := BitVec.ofNat 16 (u16At p (o + 38)) }

/-- The conditions of R400 on a rule. -/
def GwRule.ok (r : GwRule) : Bool :=
  let k := r.kind.toNat
  let a := r.action.toNat
  k ≤ 3 && a ≤ 3 && r.fmtMask.toNat < 16 && r.fmtVal.toNat < 16 && r.cls.toNat < 8 && r.vlan.toNat < 4096
    && r.batch.toNat ≤ 16 && r.hold.toNat ≤ 1000 && !r.flag 7
    && (k = 0 || (if k = 1 then r.num.toNat < 16 else if k = 2 then r.num.toNat < 8 else r.num.toNat < 32))
    && (a = 0 || (if a = 1 then r.dest.toNat < 16 else if a = 2 then r.dest.toNat < 8 else r.dest.toNat < 32))
    && !(a = 3 && (k = 2 || k = 3)) && !(a = 2 && 63 < r.newId.toNat)
    && !(r.flag 0 && !r.flag 1 && 0x7FF < r.newId.toNat)

/-- The payload of GW_RULE_SET: the rule with its rsv fields 0. -/
def okRuleSet (p : List Byte) : Bool :=
  p.length = 52 && u16At p 0 < 4096 && u16At p 2 = 0 && (ruleAt p 4).ok && u8At p 41 = 0 && u64At p 44 = 0

/-- A rule touches a secure channel (R268, R402). -/
def State.ruleSecure (s : State) (r : GwRule) : Bool :=
  (r.kind = 1 && s.canSec r.num.toNat) || (r.kind = 2 && s.linSec r.num.toNat)
    || (r.kind ≠ 0 && ((r.action = 1 && s.canSec r.dest.toNat) || (r.action = 2 && s.linSec r.dest.toNat)))

/-- A rule is replaced as one step: collected messages leave first, and its counters stay (R268, R411; DESIGN CHOICE, log entry 34). -/
def State.putRule (s : State) (n : Nat) (r : GwRule) : State :=
  let s1 := s.ntscfSend n (Tab.get s.bus.gw.rules n {}).batchMsgs
  s1.updRule n (fun o => { r with matched := o.matched, forwarded := o.forwarded, dropped := o.dropped, seq := o.seq, batchMsgs := [] })

/-- GW_RULE_SET by MGR on a secure channel, or over a secure rule, is denied (R268; DEDUCED, log entry 33). -/
def ownGwRuleSet (rq : Request) (s : State) : State × Ans :=
  let n := u16At rq.payload 0
  let r := ruleAt rq.payload 4
  if ¬ rq.isSec ∧ (s.ruleSecure r ∨ (Tab.get s.bus.gw.rules n {}).secure) then no s .denied
  else yes (s.putRule n { r with secure := rq.isSec && r.kind ≠ 0 })

/-- GW_RULE_SET (R400). -/
def execGwRuleSet (rq : Request) (s : State) : Out := serve specGwRuleSet rq s okRuleSet (ownGwRuleSet rq)

/-- GW_RULE_CLEAR, 0x0421. -/
def specGwRuleClear : CmdSpec := { op := 0x0421, who := [.mgr, .sec], st := true }

/-- A rule becomes free. -/
def ownGwRuleClear (rq : Request) (s : State) : State × Ans :=
  let n := u16At rq.payload 0
  if ¬ rq.isSec ∧ (Tab.get s.bus.gw.rules n {}).secure then no s .denied else yes (s.putRule n {})

/-- GW_RULE_CLEAR (R268). -/
def execGwRuleClear (rq : Request) (s : State) : Out :=
  serve specGwRuleClear rq s (fun p => p.length = 2 && u16At p 0 < 4096) (ownGwRuleClear rq)

/-- GW_STATS, 0x0422. -/
def specGwStats : CmdSpec := { op := 0x0422, who := [.mgr] }

/-- GW_STATS (R411). -/
def execGwStats (rq : Request) (s : State) : Out :=
  serve specGwStats rq s (fun p => p.length = 2 && u16At p 0 < 4096) (fun s =>
    let r : GwRule := Tab.get s.bus.gw.rules (u16At rq.payload 0) {}
    yesWith s (leBytes 8 r.matched.toNat ++ leBytes 8 r.forwarded.toNat ++ leBytes 8 r.dropped.toNat))

/-! ### Registers -/

/-- Rules in use. -/
def Gateway.used (g : Gateway) : Nat := (g.rules.filter (fun e => e.2.kind ≠ 0)).length

/-- The 48 bytes of a rule as its unit shows them. -/
def GwRule.bytes (r : GwRule) : List Byte :=
  [r.kind, r.num, r.fmtMask, r.fmtVal] ++ leBytes 4 r.id.toNat ++ leBytes 4 r.idMask.toNat ++ leBytes 8 r.stream.toNat
    ++ [r.action, r.dest, r.flags, r.cls] ++ leBytes 4 r.newId.toNat ++ leBytes 2 r.vlan.toNat ++ r.dmac.take 6
    ++ [r.batch, 0] ++ leBytes 2 r.hold.toNat ++ leBytes 8 0

/-- A word of the gateway page (R411). -/
def Gateway.word (g : Gateway) (off : Nat) : U32 :=
  let half (x : U64) : U32 := if off % 8 = 0 then lo32 x else hi32 x
  if off = 0 then flagAt g.en 0 ||| fieldAt g.ageMs 8
  else if off = 4 then BitVec.ofNat 32 g.used
  else if 0x10 ≤ off ∧ off < 0x50 then BitVec.ofNat 32 (Tab.get g.queues ((off - 0x10) / 4) []).length
  else if within off 0x100 8 then half g.tap
  else if within off 0x108 8 then half g.unmatched
  else if within off 0x110 8 then half g.unparsed
  else if within off 0x118 8 then half g.queueDrop
  else if within off 0x120 8 then half g.ageDrop
  else if within off 0x128 8 then half g.convertDrop
  else if within off 0x130 8 then half g.admitDrop
  else 0

/-- A word of a rule unit (R411). -/
def GwRule.word (r : GwRule) (off : Nat) : U32 :=
  let half (x : U64) : U32 := if off % 8 = 0 then lo32 x else hi32 x
  if off < 0x30 then BitVec.ofNat 32 (u32At r.bytes off)
  else if within off 0x30 8 then half r.matched
  else if within off 0x38 8 then half r.forwarded
  else if within off 0x40 8 then half r.dropped
  else 0

end Sys2Proof.Machine
end

