-- ==== Sys2Proof/Machine/Load.lean ====
section
/-! DEFINITION. Load channels: the command in force, the protection state, writes of the output image page, reset policies, and
the commands 0x0501 to 0x0505 (R440 to R467, R469, R481 to R488). -/

namespace Sys2Proof.Machine

open Sys2Proof

/-! ### The command and the output -/

/-- Nominal voltage of the strapped net, V (R487). -/
def NetSel.volts : NetSel → Nat
  | .v12 => 14
  | .v24 => 28
  | .v48 => 48
  | .invalid => 0

/-- On at full duty: limp, start value. -/
def fullOn : LoadCmd := { on := true, duty := 1000 }

/-- Off by a start value, a safe value or a reset policy. DUTY stays at 1000, so that an owner switches the channel on with LOAD_ON_SET
alone, as the worked example of R462 does (DEDUCED, log entry 36). -/
def offCmd : LoadCmd := { on := false, duty := 1000 }

/-- The safe value as a command. -/
def LoadCfg.safe (g : LoadCfg) : LoadCmd := if g.safeVal then fullOn else offCmd

/-- The live group that covers a channel, with its index (R442). -/
def State.groupOf (s : State) (c : Nat) : Option (Nat × LoadGroup) := s.ps.groups.find? (fun e => e.2.mask.getLsbD c)

/-- The command in force and its source: rows 2, 5, 6 and 7 (R443). -/
def State.loadCmd (s : State) (c : Nat) : LoadCmd × CmdSource :=
  let ch := s.load c
  if s.ps.safeValues then (ch.cfg.safe, .safe)
  else match ch.held with
    | some h => (h, .policy)
    | none => if ch.owned && (s.groupOf c).isSome then (ch.out, .owner) else (ch.base, ch.baseSrc)

/-! ### PWM (R449, R450) -/

/-- Minimum pulse, µs (R440). -/
def LoadClass.minPulse : LoadClass → Nat
  | .h => 20
  | .m => 4
  | .l => 4
  | .a => 50

/-- Under-current threshold, 10 mA (R440). -/
def LoadClass.underLevel : LoadClass → Nat
  | .h => 25
  | .m => 10
  | .l => 2
  | .a => 1

/-- How far the period of frequency f and channel c has run, in 10⁻⁹ of a period (R449). -/
def pwmPhase (f c : Nat) (now : U64) : Nat := (now.toNat * f + 1000000000 - c % 8 * 125000000) % 1000000000

/-- TIME_LOCAL of the next period start, now at one (R449). -/
def pwmNext (f c : Nat) (now : U64) : U64 :=
  let p := pwmPhase f c now
  if f = 0 ∨ p = 0 then now else now + BitVec.ofNat 64 ((1000000000 - p + f - 1) / f)

/-- The on-time of a duty in 0.1 % at frequency f, in 10⁻⁹ of a period: lengthened to the minimum pulse, and the whole period where the
off-time would be shorter than that pulse (R449). -/
def pwmOn (k : LoadClass) (f duty : Nat) : Nat :=
  let least := k.minPulse * 1000 * f
  let on := max (min duty 1000 * 1000000) least
  if duty = 0 then 0 else if 1000000000 < on + least then 1000000000 else on

/-- The DUTY under which the output runs: a change takes effect at the next period start (R449). -/
def State.dutyNow (s : State) (c : Nat) : Nat :=
  let ch := s.load c
  if ch.drive ≠ .off ∧ s.now.toNat < ch.dutyFrom.toNat then ch.dutyOld else (s.loadCmd c).1.duty

/-- The carrier of a soft-start: the channel's frequency, and on a static channel 1 kHz on class H and 20 kHz on the others (R450). -/
def LoadCh.carrier (ch : LoadCh) (c : Nat) : Nat := if ch.cfg.freq ≠ 0 then ch.cfg.freq else if loadClass c = .h then 1000 else 20000

/-- The duty of the ramp, in 0.1 %: linear from 0 to the commanded DUTY over the soft-start time (R450). -/
def State.rampDuty (s : State) (c : Nat) : Nat :=
  let ch := s.load c
  (s.loadCmd c).1.duty * min (s.now.toNat - ch.since.toNat) (ch.cfg.soft * 1000000) / (ch.cfg.soft * 1000000)

/-- The output FET conducts now: static on, or an on-phase of the PWM or of the soft-start carrier (R449, R450, R473). -/
def State.conducts (s : State) (c : Nat) : Bool :=
  let ch := s.load c
  let k := loadClass c
  match ch.drive with
  | .off => false
  | .soft => pwmPhase (ch.carrier c) c s.now < pwmOn k (ch.carrier c) (s.rampDuty c)
  | .on => ch.cfg.freq = 0 || pwmPhase ch.cfg.freq c s.now < pwmOn k ch.cfg.freq (s.dutyNow c)

/-- The command keeps the output on: a DUTY of 0 keeps it off, from the start of a period on where it was on (R449). -/
def State.cmdLit (s : State) (c : Nat) : Bool := (s.loadCmd c).1.on && s.dutyNow c ≠ 0

/-! ### The protection state -/

/-- Row 1: strap code invalid, overvoltage or supply loss (R443). -/
def State.row1 (s : State) : Bool := s.supply.straps.net = .invalid || s.supply.overvolt || s.supply.holdup

/-- Row 4: the mode does not keep the channel (R436, R443). The safe values of a trigger taken in COMMITTED reach the SLEEP-kept channels
alone (R99). -/
def State.row4 (s : State) (g : LoadCfg) : Bool :=
  (!s.ps.safeValues && s.aon.mode = .part && !g.keepPartial)
    || ((s.aon.mode = .sleep || s.sleep.phase = 3) && !g.keepSleep)

/-- Some latch is set. -/
def LoadProt.latched (p : LoadProt) : Bool := p.oc || p.th || p.wire

/-- One kelvin in the units of the wire model. -/
def pico : Nat := 1000000000000

/-- The wire has not cooled to T_lim − 20 K since its latch was set (R478, R479). -/
def LoadCh.wireCool (ch : LoadCh) : Bool :=
  ch.prot.wireHot && ((ch.cfg.tlim : Int) - 20) * pico < ch.prot.wireTemp

/-- The off state that keeps a channel off, by rank (R481): its code. Where a pause, a hot FET and a hot wire hold together,
which have one rank, the lowest code is shown (DEDUCED, log entry 35). -/
def State.loadOff (s : State) (c : Nat) : Option Nat :=
  let ch := s.load c
  if s.row1 then some 7
  else if ch.prot.latched then some 5
  else if ch.prot.pausing then some 3
  else if ch.prot.cooling then some 4
  else if ch.wireCool then some 6
  else if ch.prot.shed || !ch.recorded then some 8
  else if s.row4 ch.cfg then some 9
  else none

/-- PS_CH_PROT.STATE (R481). -/
def State.loadState (s : State) (c : Nat) : Nat :=
  match s.loadOff c with
  | some k => k
  | none => match (s.load c).drive with
    | .off => 0
    | .soft => 1
    | .on => 2

/-- LOAD_RB (R445). -/
def State.loadRb (s : State) (c : Nat) : U32 :=
  let ch := s.load c
  flagAt (ch.drive ≠ .off) 0 ||| BitVec.ofNat 32 (s.loadState c * 2) ||| flagAt ch.prot.oc 5 ||| flagAt ch.prot.th 6
    ||| flagAt ch.prot.wire 7 ||| flagAt ch.held.isSome 8 ||| flagAt ch.diag.olOff 9 ||| flagAt ch.diag.stbOff 10
    ||| flagAt ch.diag.underCur 11 ||| flagAt ch.diag.revBlock 12 ||| flagAt ch.diag.partnerFed 13 ||| fieldAt ch.diag.mean 16

/-- A channel switches on at a TIME_LOCAL: soft-start, or on at once without one or where the partner already holds the output of a dual-feed
channel above 80 % of VBUS (`fed`); the inrush window opens, off-state tests end and their flags clear, and a new frequency takes effect
(R449, R450, R452, R465, R471, R473, R482). -/
def LoadCh.switchOn (ch : LoadCh) (now : U64) (fed : Bool) : LoadCh :=
  { ch with
    drive := if ch.cfg.soft = 0 || fed then .on else .soft
    since := now, dutyFrom := now
    cfg := { ch.cfg with freq := ch.cfg.nextFreq.getD ch.cfg.freq, nextFreq := none }
    prot := { ch.prot with inrush := true, wireHot := false }
    diag := { ch.diag with
      olOff := false, stbOff := false, testing := false, olFails := 0, olPasses := 0, stbFails := 0, stbPasses := 0
      partnerFed := false } }

/-- A channel is off: the inrush window, UNDERCUR and REV_BLOCK end. -/
def LoadCh.switchOff (ch : LoadCh) : LoadCh :=
  { ch with
    drive := .off, prot := { ch.prot with inrush := false }, diag := { ch.diag with underCur := false, revBlock := false } }

/-- The partner's vector shows its same-numbered channel on, for a dual-feed channel (R464, R575). -/
def State.partnerOn (s : State) (c : Nat) : Bool :=
  c < 4 && (s.load c).cfg.dual && s.pass.sbSeen && s.pass.partner = .alive && s.pass.sbPartner.getLsbD (12 + c)

/-- A channel switches on. Whether the output of a dual-feed channel stands above 80 % of VBUS is a measurement that no command brings, and
so a free value (R465; DESIGN CHOICE, log entry 99). -/
def State.loadStart (s : State) (c : Nat) : State :=
  if (s.load c).cfg.dual then
    (s.updLoad c (fun ch => ch.switchOn s.now (Config.freeNat 32 s.ps.starts % 2 = 1))).onPs (fun p => { p with starts := p.starts + 1 })
  else s.updLoad c (fun ch => ch.switchOn s.now false)

/-- The output follows the command and the off states. -/
def State.loadSwitch (s : State) (c : Nat) : State :=
  if (s.loadOff c).isNone && s.cmdLit c then (if (s.load c).drive = .off then s.loadStart c else s)
  else if (s.load c).drive = .off then s else s.updLoad c LoadCh.switchOff

/-- The test of an off channel ends with an off state, and where the partner of a dual-feed channel feeds the load, which it shows. -/
def LoadCh.idle (h : LoadCh) (fed free : Bool) : LoadCh :=
  { h with diag := { h.diag with partnerFed := fed, testing := h.diag.testing && !fed && free } }

/-- The output follows the command and the off states; an off dual-feed channel whose partner feeds the load shows it. -/
def State.loadDrive (s : State) (c : Nat) : State :=
  let s1 := s.loadSwitch c
  if (s1.load c).drive = .off then s1.updLoad c (fun h => h.idle (s1.partnerOn c) (s1.loadOff c).isNone) else s1

/-! ### Events of a channel -/

/-- A secure channel without a live secure group pulses source 145 (R467). -/
def State.loadPulse (s : State) (c : Nat) : State := if s.loadSec c then s.pulse 145 else s

/-- Change a group. -/
def State.updGroup (s : State) (g : Nat) (f : LoadGroup → LoadGroup) : State :=
  s.onPs (fun p => { p with groups := Tab.upd p.groups g {} f })

/-- The MSI of a group (R448). -/
def State.groupMsi (s : State) (g : Nat) : State :=
  match s.hFind 0x04 g with
  | some h => s.msiBind h.bind h.sec 0
  | none => s

/-- LOAD_RB of a channel has changed from what it was in an earlier state: LOAD_CHG and, for another reason than the owner's
write, the group's MSI at most once a millisecond; without a live group the event page (R445, R448). -/
def State.loadReport (s0 s : State) (c : Nat) (byOwner : Bool) : State :=
  let a := s0.loadRb c
  let b := s.loadRb c
  if a = b then s
  else match s.groupOf c with
    | some (g, u) =>
      let s1 := s.updGroup g (fun x => { x with chg := x.chg ||| bitOf 64 c })
      if byOwner then s1
      else if u.sent then s1.updGroup g (fun x => { x with waiting := true })
      else (s1.updGroup g (fun x => { x with sent := true })).groupMsi g
    | none =>
      let d := a ^^^ b
      let s1 := if d &&& 0x1E00 ≠ 0 then (s.psEvent 2).loadPulse c else s
      let s2 := if b &&& ~~~a &&& 0xE0 ≠ 0 then (s1.psEvent 3).loadPulse c else s1
      if d &&& 0x2000 ≠ 0 then s2.loadPulse c else s2

/-- PS_EVENT.PARTNER: PARTNER_FED of a channel has changed, whoever owns the channel (R466). -/
def State.partnerReport (s0 s : State) (c : Nat) : State :=
  if (s0.load c).diag.partnerFed = (s.load c).diag.partnerFed then s else s.psEvent 4

/-- A new DUTY of a channel that is on takes effect at its next period start (R449). -/
def State.dutyStep (s0 s : State) (c : Nat) : State :=
  if (s.load c).drive = .off ∨ (s0.loadCmd c).1.duty = (s.loadCmd c).1.duty then s
  else s.updLoad c (fun ch => { ch with dutyOld := s0.dutyNow c, dutyFrom := pwmNext ch.cfg.freq c s.now })

/-- A channel is re-evaluated after a change, and the change reported. `s0` is the state before the change. -/
def State.loadStep (s0 s : State) (c : Nat) (byOwner : Bool) : State :=
  let t := (s0.dutyStep s c).loadDrive c
  s0.partnerReport (s0.loadReport t c byOwner) c

/-- Every channel is re-evaluated after a change of mode or supply. -/
def State.loadAll (s0 s : State) : State := (List.range 60).foldl (fun t c => s0.loadStep t c false) s

/-- Amind records a change of latches (R484, R606). -/
def State.latchLog (s : State) (e : Ev) (c bits : Nat) : State :=
  let p := (s.load c).prot
  let i16 (x : Int) : List Byte := leBytes 2 (BitVec.ofInt 16 x).toNat
  s.log e ([BitVec.ofNat 8 c, BitVec.ofNat 8 bits, BitVec.ofNat 8 p.count, 0] ++ i16 p.fet ++ i16 (p.wireTemp / (pico / 10)))

/-! ### Reset policies -/

/-- A channel is held with a command; its hold window starts (R455). -/
def LoadCh.hold (ch : LoadCh) (m : LoadCmd) (now : U64) : LoadCh :=
  { ch with held := some m, holdEnd := now + BitVec.ofNat 64 (ch.cfg.holdMs * 1000000), owned := false }

/-- The state last applied by the power stage. -/
def LoadCh.apply (ch : LoadCh) (m : LoadCmd) (src : CmdSource) : LoadCh :=
  { ch with held := none, base := m, baseSrc := src, owned := false }

/-- The reset policy of a channel acts on the state in force (R455). A second event does not restart a hold window. -/
def State.loadPolicy (s : State) (c : Nat) : State :=
  let m := (s.loadCmd c).1
  let s1 := s.updLoad c (fun ch =>
    if ch.cfg.policy = 0 then (if ch.held.isSome then { ch with owned := false } else ch.hold m s.now)
    else if ch.cfg.policy = 1 then ch.apply ch.cfg.safe .policy
    else ch.apply offCmd .policy)
  s.loadStep s1 c false

/-- The reset policies of the channels of a mask. -/
def State.loadPolicies (s : State) (mask : U64) : State :=
  (List.range 60).foldl (fun t c => if mask.getLsbD c then t.loadPolicy c else t) s

/-! ### Owner's writes -/

/-- An owner writes LOAD_OUT of a channel: a hold ends, and the write's command takes over (R447, R455). -/
def State.loadWrite (s : State) (c : Nat) (f : LoadCmd → LoadCmd) : State :=
  let s1 := s.updLoad c (fun ch => { ch with out := f ch.out, owned := true, held := none })
  s.loadStep s1 c true

/-- What a writer may do with a channel: its own, its own but without effect, or another's (R445, R447). -/
inductive Reach where
  | mine | muted | other
  deriving DecidableEq, Repr

/-- The reach of a writer to a channel. -/
def State.loadReach (s : State) (inst : Nat) (sec : Bool) (c : Nat) : Reach :=
  match s.groupOf c with
  | some (_, g) => if g.owner = inst ∧ g.sec = sec then (if g.muted then .muted else .mine) else .other
  | none => .other

/-- One write without effect is counted (R445). -/
def State.loadIgnore (s : State) (page : Nat) : State :=
  s.onPs (fun p => { p with ignored := Tab.upd p.ignored page 0 satInc })

/-- A write that names channels of a list: each owned one takes it, and a write that names another's channel is counted once
(R445). -/
def State.loadWrites (s : State) (page inst : Nat) (sec : Bool) (cs : List Nat) (f : Nat → LoadCmd → LoadCmd) : State :=
  let s1 := cs.foldl (fun t c => if s.loadReach inst sec c = .mine then t.loadWrite c (f c) else t) s
  if cs.any (fun c => s.loadReach inst sec c = .other) then s1.loadIgnore page else s1

/-- The channels of a mask. -/
def chansOf (mask : U64) : List Nat := (List.range 60).filter (fun c => mask.getLsbD c)

/-- LOAD_OUT as a word. -/
def LoadCmd.word (m : LoadCmd) : U32 := flagAt m.on 0 ||| BitVec.ofNat 32 (m.duty * 65536)

/-- LOAD_OUT from a word: a duty above 1000 is stored as 1000 (R445). -/
def cmdOf (w : U32) : LoadCmd := { on := w.getLsbD 0, duty := min (w.extractLsb' 16 10).toNat 1000 }

/-- A write of LOAD_OUT under a byte mask. -/
def State.loadOutPut (s : State) (page : Nat) (t : Attr) (c : Nat) (v m : U32) : State :=
  s.loadWrites page t.inst.toNat t.sec [c] (fun _ o => cmdOf (mix o.word v m))

/-- Switch the channels of a mask on or off in the image (R446). -/
def State.loadMask (s : State) (page : Nat) (t : Attr) (mask : U64) (on : Bool) : State :=
  s.loadWrites page t.inst.toNat t.sec (chansOf mask) (fun _ o => { o with on := on })

/-- The address of an output image page. -/
def loadPage (page : Nat) : Nat := 0x13400000 + page * 0x1000

/-- LOAD_OUT_WRITE (R445). -/
def execLoadOutWrite (page chan : Nat) (attr : Attr) (mask value : U32) (s : State) : Out :=
  if 64 ≤ page ∨ 60 ≤ chan then noUnit
  else s.issue attr fun attr =>
    fin (s.writeAt (writeX attr (loadPage page + chan * 8) 4 (mix (s.load chan).out.word value mask).toNat) (fun s => s.loadOutPut page attr chan value mask))

/-- LOAD_ON_SET_WRITE (R446). -/
def execLoadOnSetWrite (page : Nat) (attr : Attr) (mask : U64) (s : State) : Out :=
  if 64 ≤ page then noUnit
  else s.issue attr fun attr =>
    fin (s.writeAt (writeX attr (loadPage page + 0x200) 8 mask.toNat) (fun s => s.loadMask page attr mask true))

/-- LOAD_ON_CLR_WRITE (R446). -/
def execLoadOnClrWrite (page : Nat) (attr : Attr) (mask : U64) (s : State) : Out :=
  if 64 ≤ page then noUnit
  else s.issue attr fun attr =>
    fin (s.writeAt (writeX attr (loadPage page + 0x208) 8 mask.toNat) (fun s => s.loadMask page attr mask false))

/-- A clear of LOAD_CHG bits: those of the writer's channels whose group takes writes; a write that names another's channel is counted
(R445, R447). -/
def State.loadChgClear (s : State) (page : Nat) (t : Attr) (mask : U64) : State :=
  let s1 := s.onPs (fun p => { p with groups := p.groups.map (fun e =>
    if e.2.owner = t.inst.toNat ∧ e.2.sec = t.sec ∧ ¬ e.2.muted then (e.1, { e.2 with chg := e.2.chg &&& ~~~mask }) else e) })
  if (chansOf mask).any (fun c => s.loadReach t.inst.toNat t.sec c = .other) then s1.loadIgnore page else s1

/-! ### Claims (R487, R488) -/

/-- Continuous rating, 0.1 A (R440). -/
def LoadClass.rating : LoadClass → Nat
  | .h => 250
  | .m => 100
  | .l => 30
  | .a => 5

/-- On-resistance, 0.1 mΩ. -/
def LoadClass.rds : LoadClass → Nat
  | .h => 16
  | .m => 40
  | .l => 300
  | .a => 10000

/-- Switching time, µs. -/
def LoadClass.tsw : LoadClass → Nat
  | .h => 150
  | .m => 60
  | .l => 30
  | .a => 20

/-- I_c in 0.1 A: the class rating, or the current that keeps the wire at its limit, whichever is lower. -/
def claimCurrent (k : LoadClass) (tlim : Nat) (amb : Int) (xsec : Nat) : Nat :=
  min k.rating (Nat.sqrt (((tlim : Int) - amb).toNat * Nat.sqrt (xsec * xsec * xsec * 1000000) / 4000))

/-- P_c in 0.01 W, from I_c in 0.1 A, the frequency in Hz and the nominal voltage. -/
def claimPower (k : LoadClass) (i freq volts : Nat) : Nat :=
  (i * i * k.rds * 10 + freq * volts * i * k.tsw) / 100000

/-- I_c of a channel's configuration; 0 until it is budgeted. -/
def State.claimI (s : State) (c : Nat) (g : LoadCfg) : Nat :=
  if g.budgeted then claimCurrent (loadClass c) g.tlim s.ps.wireAmb g.xsec else 0

/-- P_c of a channel's configuration. -/
def State.claimP (s : State) (c : Nat) (g : LoadCfg) : Nat :=
  if g.budgeted then claimPower (loadClass c) (s.claimI c g) (g.nextFreq.getD g.freq) s.supply.straps.net.volts else 0

/-- The sum of a quantity over the channels that a test keeps. -/
def sumOver (p : Nat → Bool) (f : Nat → Nat) : Nat := (List.range 60).foldl (fun n c => if p c then n + f c else n) 0

/-- The load budget holds: 250 A in all, 90 W with the 62 W of the logic, 160 A of channels never shed (R488). -/
def State.budgetOk (s : State) : Bool :=
  let g (c : Nat) : LoadCfg := (s.load c).cfg
  sumOver (fun _ => true) (fun c => s.claimI c (g c)) ≤ 2500
    && 6200 + sumOver (fun _ => true) (fun c => s.claimP c (g c)) ≤ 9000
    && sumOver (fun c => (g c).rank = 0) (fun c => s.claimI c (g c)) ≤ 1600

/-! ### LOAD_GROUP_CREATE -/

/-- LOAD_GROUP_CREATE, 0x0501. -/
def specLoadGroupCreate : CmdSpec := { op := 0x0501, who := [.mgr, .gst, .sec], st := true }

/-- The payload of LOAD_GROUP_CREATE: at least one channel, no rsv bit. -/
def State.okLoadGroup (s : State) (owner : Nat) (sec : Bool) (p : List Byte) : Bool :=
  p.length = 12 && u64At p 0 ≠ 0 && u64At p 0 < 2 ^ 60 && s.bindOk (bindAt p 8) owner sec 0

/-- The load share of a guest as a mask (R262). -/
def State.loadShare (s : State) (n : Nat) : U64 :=
  (s.inst n).shares.foldl (fun m e => if e.kind = 0x07 then m ||| BitVec.ofNat 64 (e.a.toNat + e.b.toNat * 2 ^ 32) else m) 0

/-- The masks of every guest together. -/
def State.loadShares (s : State) : U64 :=
  s.mgmt.insts.foldl (fun m e => if e.1 = 0 then m else m ||| s.loadShare e.1) 0

/-- A channel may join a group of an issuer: secure pins in secure groups alone, and normal ones within the share (R194,
R442, R508). -/
def State.loadMay (s : State) (owner : Nat) (sec : Bool) (c : Nat) : Bool :=
  if sec then s.loadSec c
  else !s.loadSec c && (if owner = 0 then !(s.loadShares.getLsbD c) else (s.loadShare owner).getLsbD c)

/-- The lowest bit of a mask. -/
def lowest (m : U64) : Nat := ((List.range 64).find? (fun c => m.getLsbD c)).getD 0

/-- A group is created: its entries read the state in force (R442, R445). -/
def State.groupMake (s : State) (g : Nat) (u : LoadGroup) : State :=
  let s1 := (chansOf u.mask).foldl (fun t c =>
    let m := (s.loadCmd c).1
    t.updLoad c (fun ch => { ch with out := m, owned := false })) s
  s1.onPs (fun p => { p with groups := Tab.put p.groups g u })

/-- A new load channel group (R442). -/
def ownLoadGroupCreate (rq : Request) (s : State) : State × Ans :=
  let p := rq.payload
  let own := s.issuerInst rq.route
  let mask := BitVec.ofNat 64 (u64At p 0)
  let g := lowest mask
  if s.fnOffFor own rq.isSec 0x07 0 then no s .fnDisabled
  else if s.ps.groups.any (fun e => e.2.mask &&& mask ≠ 0) then no s .busy
  else if ¬ ((chansOf mask).all (fun c => s.loadMay own rq.isSec c) ∧ s.handleRoom) then no s .noResource
  else
    ((s.hCreate 0x04 g own rq.isSec (bindAt p 8) (0, 1, 0)).groupMake g { mask := mask, owner := own, sec := rq.isSec },
      { handle := some (mkHandle 0x04 own (s.genOf 0x04 g) g) })

/-- LOAD_GROUP_CREATE (R442). -/
def execLoadGroupCreate (rq : Request) (s : State) : Out :=
  serve specLoadGroupCreate rq s (s.okLoadGroup (s.issuerInst rq.route) rq.isSec) (ownLoadGroupCreate rq)

/-- A group ends: its channels apply their reset policies (R455). -/
def State.groupDrop (s : State) (g : Nat) : State :=
  let m := (Tab.get s.ps.groups g {}).mask
  let s1 := s.loadPolicies m
  s1.onPs (fun p => { p with groups := Tab.drop p.groups g })

/-! ### LOAD_CHANNEL_CONFIG -/

/-- LOAD_CHANNEL_CONFIG, 0x0502. -/
def specLoadChannelConfig : CmdSpec := { op := 0x0502, who := everyIssuer, st := true, types := [0x04] }

/-- A PWM frequency lies within the class range (R440). -/
def LoadClass.freqOk (k : LoadClass) (f : Nat) : Bool :=
  f = 0 || (match k with
    | .h => 50 ≤ f && f ≤ 2000
    | .m => 100 ≤ f && f ≤ 25000
    | .l => 100 ≤ f && f ≤ 25000
    | .a => 100 ≤ f && f ≤ 1000)

/-- A channel record is in range (R269, R441, R472, R477). -/
def State.recordOk (s : State) (p : List Byte) : Bool :=
  let c := u8At p 0
  let k := loadClass c
  p.length = 20 && c < 60 && u8At p 1 ≤ 2 && u8At p 2 ≤ 1 && u8At p 3 ≤ 31 && u16At p 4 ≤ 5000
    && k.freqOk (u16At p 6) && (if k = .a then u16At p 8 = 0 else u16At p 8 ≤ 1000)
    && (if k = .m || k = .l then u8At p 10 ≤ 1 else u8At p 10 = 0)
    && (if k = .h then 120 ≤ u8At p 11 && u8At p 11 ≤ 175 else u8At p 11 = 0)
    && 13 ≤ u16At p 12 && u16At p 12 ≤ 5000 && 1 ≤ u16At p 14 && u16At p 14 ≤ 1000
    && 60 ≤ u8At p 16 && u8At p 16 ≤ 200 && s.ps.wireAmb + 20 ≤ (u8At p 16 : Int) && u8At p 17 = 0 && u16At p 18 = 0

/-- The payload of LOAD_CHANNEL_CONFIG for a group: a channel of the group, or of no group where the handle fails. -/
def State.okLoadConfig (s : State) (g : Nat) (p : List Byte) : Bool :=
  s.recordOk p && (!s.ps.groups.has g || (Tab.get s.ps.groups g {}).mask.getLsbD (u8At p 0))

/-- A channel's configuration with a record applied (R269, R472). -/
def LoadCfg.withRecord (g : LoadCfg) (k : LoadClass) (p : List Byte) : LoadCfg :=
  { g with
    policy := u8At p 1, safeVal := u8At p 2 = 1, limit := if u8At p 3 = 0 then 8 else u8At p 3
    holdMs := if u16At p 4 = 0 then 500 else u16At p 4
    nextFreq := some (u16At p 6), soft := u16At p 8
    thermLatch := if k = .h then true else u8At p 10 = 1
    thLimit := if k = .h then u8At p 11 else 170
    xsec := u16At p 12, tau := u16At p 14, tlim := u8At p 16, budgeted := true }

/-- A record is applied unless it could exceed the module load budget; the channel is budgeted from its first record on (R269, R487,
R488). -/
def ownLoadChannelConfig (rq : Request) (s : State) : State × Ans :=
  let c := u8At rq.payload 0
  let s1 := s.updLoad c (fun ch => { ch with cfg := ch.cfg.withRecord (loadClass c) rq.payload, recorded := true })
  if s1.budgetOk then yes (s.loadStep s1 c false) else no s .noResource

/-- LOAD_CHANNEL_CONFIG (R269). -/
def execLoadChannelConfig (rq : Request) (s : State) : Out :=
  serve specLoadChannelConfig rq s (s.okLoadConfig (hIndex rq.handle)) (ownLoadChannelConfig rq)

/-! ### LOAD_SET, LOAD_LATCH_CLEAR, LOAD_STATUS -/

/-- LOAD_SET, 0x0503. -/
def specLoadSet : CmdSpec := { op := 0x0503, who := everyIssuer, types := [0x04] }

/-- The payload of LOAD_SET for a group. -/
def State.okLoadSet (s : State) (g : Nat) (p : List Byte) : Bool :=
  p.length = 16 && u64At p 0 < 2 ^ 60
    && (!s.ps.groups.has g || BitVec.ofNat 64 (u64At p 0) &&& ~~~(Tab.get s.ps.groups g {}).mask = 0)

/-- Masked entries are written into the owner's page; channels that a latch refuses are listed (R270, R447). -/
def ownLoadSet (rq : Request) (s : State) : State × Ans :=
  let p := rq.payload
  let g := Tab.get s.ps.groups (hIndex rq.handle) {}
  let vals := BitVec.ofNat 64 (u64At p 8)
  let cs := chansOf (BitVec.ofNat 64 (u64At p 0))
  if s.fnOffFor g.owner g.sec 0x07 0 then no s .fnDisabled
  else
    let s1 := s.loadWrites g.owner g.owner g.sec cs (fun c o => { o with on := vals.getLsbD c })
    let l := cs.filter (fun c => vals.getLsbD c && (s.load c).prot.latched)
    let m := l.foldl (fun (m : U64) c => m ||| bitOf 64 c) 0
    (s1, { st := if l = [] then .ok else .latched, payload := leBytes 8 m.toNat })

/-- LOAD_SET (R270). -/
def execLoadSet (rq : Request) (s : State) : Out := serve specLoadSet rq s (s.okLoadSet (hIndex rq.handle)) (ownLoadSet rq)

/-- LOAD_LATCH_CLEAR, 0x0504. -/
def specLoadLatchClear : CmdSpec := { op := 0x0504, who := everyIssuer, st := true, types := [0x04] }

/-- The payload of LOAD_LATCH_CLEAR for a group. -/
def State.okLatchClear (s : State) (g : Nat) (p : List Byte) : Bool :=
  p.length = 2 && u8At p 0 < 60 && u8At p 1 < 8 && (!s.ps.groups.has g || (Tab.get s.ps.groups g {}).mask.getLsbD (u8At p 0))

/-- The latch bits of a channel. -/
def LoadProt.bits (p : LoadProt) : Nat := (if p.oc then 1 else 0) + (if p.th then 2 else 0) + (if p.wire then 4 else 0)

/-- The latches set in this cycle, which a clear of the same cycle leaves: the trip is applied after it (R483). -/
def LoadProt.freshBits (p : LoadProt) (now : U64) : Nat :=
  match p.setAt with
  | some (t, b) => if t = now then b else 0
  | none => 0

/-- The named latches are cleared, but for one that is set in the same cycle; an H thermal latch that is not yet 20 K below its limit refuses
them all. A cleared wire latch leaves its restart condition (R271, R475, R478, R479, R483, R484). -/
def ownLoadLatchClear (rq : Request) (s : State) : State × Ans :=
  let c := u8At rq.payload 0
  let ch := s.load c
  let n := u8At rq.payload 1 - (u8At rq.payload 1 &&& ch.prot.freshBits s.now)
  if n.testBit 1 ∧ ch.prot.th ∧ loadClass c = .h ∧ ((ch.cfg.thLimit : Int) - 20) * 10 < ch.prot.fet then no s .busy
  else
    let s1 := s.updLoad c (fun ch => { ch with prot := { ch.prot with
      oc := ch.prot.oc && !n.testBit 0, th := ch.prot.th && !n.testBit 1, wire := ch.prot.wire && !n.testBit 2
      wireHot := ch.prot.wireHot || (ch.prot.wire && n.testBit 2)
      count := if ch.prot.oc && n.testBit 0 then 0 else ch.prot.count } })
    let left := (s1.load c).prot.bits
    let gone := ch.prot.bits - left
    let s2 := s.loadStep s1 c false
    let s3 := if gone = 0 then s2 else s2.latchLog .latchCleared c gone
    yesWith s3 [BitVec.ofNat 8 left]

/-- LOAD_LATCH_CLEAR (R271). -/
def execLoadLatchClear (rq : Request) (s : State) : Out :=
  serve specLoadLatchClear rq s (s.okLatchClear (hIndex rq.handle)) (ownLoadLatchClear rq)

/-- LOAD_STATUS, 0x0505. -/
def specLoadStatus : CmdSpec := { op := 0x0505, who := everyIssuer, st := true, types := [0x04] }

/-- The record of a channel (R272). -/
def State.loadRecord (s : State) (c : Nat) : List Byte :=
  let ch := s.load c
  [BitVec.ofNat 8 c, BitVec.ofNat 8 (s.loadState c), BitVec.ofNat 8 ch.prot.bits, BitVec.ofNat 8 ch.prot.count]
    ++ leBytes 2 ch.diag.mean.toNat ++ leBytes 2 (BitVec.ofInt 16 ch.prot.fet).toNat

/-- LOAD_STATUS (R272). -/
def execLoadStatus (rq : Request) (s : State) : Out :=
  serve specLoadStatus rq s (fun p => p = []) (fun s =>
    let cs := chansOf (Tab.get s.ps.groups (hIndex rq.handle) {}).mask
    yesWith s (leBytes 2 cs.length ++ leBytes 2 0 ++ (cs.map s.loadRecord).flatten))

end Sys2Proof.Machine
end

