-- ==== Sys2Proof/Machine/Protect.lean ====
section
/-! DEFINITION. Load channels: protection, wire model, off-state tests, limp, hold windows, the module load budget, and the
registers of the power stage and of the output image pages (R445, R451 to R467, R468 to R493). -/

namespace Sys2Proof.Machine

open Sys2Proof

/-- The functional range of a net, mV (R45, R49). -/
def NetSel.functional : NetSel → Nat × Nat
  | .v12 => (6000, 35000)
  | .v24 => (12000, 58000)
  | .v48 => (24000, 58000)
  | .invalid => (6000, 58000)

/-- VBUS lies in the functional range of the strapped net. -/
def State.inFunctional (s : State) (mv : U16) : Bool :=
  let r := s.supply.straps.net.functional
  r.1 ≤ mv.toNat && mv.toNat ≤ r.2

/-- The output of a channel conducts. -/
def LoadCh.lit (ch : LoadCh) : Bool := ch.drive ≠ .off

/-! ### Trips, pauses and models -/

/-- SOFT_START_COMPLETE (R450, R482). -/
def execSoftStartComplete (chan : Nat) (s : State) : Out :=
  if 60 ≤ chan then noUnit
  else if (s.load chan).drive = .soft then
    fin (s.loadStep (s.updLoad chan (fun ch => { ch with drive := .on })) chan false)
  else .next s

/-- The over-current level of a class, 10 mA, outside and within the inrush window (R470). -/
def LoadClass.tripLevel (k : LoadClass) (inrush : Bool) : Nat :=
  match k with
  | .h => if inrush then 15000 else 10000
  | .m => if inrush then 6000 else 4000
  | .l => if inrush then 1800 else 1200
  | .a => 150

/-- Latches are set now (R483, R484). Where the over-current trip of the same cycle has raised the retry count, the count and the pause are
as before it: the trip counts only if no latch is set at the end of its cycle (R483; DEDUCED, log entry 164). -/
def LoadProt.latchNow (p : LoadProt) (bits : Nat) (now : U64) : LoadProt :=
  let p1 : LoadProt := { p with
    oc := p.oc || bits.testBit 0, th := p.th || bits.testBit 1, wire := p.wire || bits.testBit 2
    setAt := some (now, bits ||| p.freshBits now) }
  match p.ocAt with
  | some (t, n, w) => if t = now ∧ ¬ bits.testBit 0 then { p1 with count := n, pausing := w } else p1
  | none => p1

/-- The protection record after an over-current trip (R473). -/
def LoadProt.overcurrent (p : LoadProt) (limit : Nat) (now : U64) : LoadProt :=
  let n := min (p.count + 1) 31
  let p1 : LoadProt := { p with count := n, ocTrips := satInc p.ocTrips, ocAt := some (now, p.count, p.pausing) }
  if limit ≤ n then p1.latchNow 1 now
  else { p1 with pausing := true, pauseEnd := now + BitVec.ofNat 64 (min (2 ^ (n - 1)) 512 * 1000000) }

/-- A latch that a trip has set is recorded (R484). -/
def State.logNew (s0 s : State) (c bits : Nat) : State :=
  let new := (s.load c).prot.bits - (s0.load c).prot.bits
  if new &&& bits = 0 then s else s.latchLog .latchSet c (new &&& bits)

/-- OVERCURRENT_TRIP: a conducting output whose current has stayed above its level for the filter time trips (R470, R473, R482). -/
def execOvercurrentTrip (trip : TripPoint) (s : State) : Out :=
  let chan := trip.chan
  if 60 ≤ chan then noUnit
  else if s.conducts chan ∧ (loadClass chan).tripLevel (s.load chan).prot.inrush < trip.current then
    let s1 := s.updLoad chan (fun ch => { ch with prot := ch.prot.overcurrent ch.cfg.limit s.now })
    fin (s.logNew (s.loadStep s1 chan false) chan 1)
  else .next s

/-- RETRY_PAUSE_END: the channel is re-evaluated (R474). -/
def execRetryPauseEnd (chan : Nat) (s : State) : Out :=
  if 60 ≤ chan then noUnit
  else if (s.load chan).prot.pausing then
    fin (s.loadStep (s.updLoad chan (fun ch => { ch with prot := { ch.prot with pausing := false } })) chan false)
  else .next s

/-- RETRY_GOOD_TIMER: a second in ON without a trip clears the count (R475, R483). -/
def execRetryGoodTimer (chan : Nat) (s : State) : Out :=
  if 60 ≤ chan then noUnit
  else if (s.load chan).drive = .on then
    fin (s.updLoad chan (fun ch => { ch with prot := { ch.prot with count := 0 } }))
  else .next s

/-- The thermal trip threshold of a channel, 0.1 °C (R470, R472). -/
def LoadCh.thermTrip (ch : LoadCh) (k : LoadClass) : Int := if k = .h then ch.cfg.thLimit * 10 else 1700

/-- A thermal trip of the channel sets its latch (R470). -/
def LoadCh.thermLatches (ch : LoadCh) (k : LoadClass) : Bool := k = .h || (k ≠ .a && ch.cfg.thermLatch)

/-- The protection record after a FET temperature sample. `judged` says that a crossing of the limit counts: the output is on, or an off state
of rank 1 to 3 holds the channel, in which the condition is recorded (R472, R479, R482). A condition that stands counts no second trip. -/
def LoadCh.thermal (ch : LoadCh) (k : LoadClass) (temp : Int) (judged : Bool) (now : U64) : LoadProt :=
  let p : LoadProt := { ch.prot with fet := temp, cooling := ch.prot.cooling && 1450 < temp }
  if ¬ judged ∨ temp < ch.thermTrip k then p
  else if ch.thermLatches k then
    (if p.th then p else { p with thTrips := satInc p.thTrips }.latchNow 2 now)
  else if p.cooling then p
  else { p with cooling := true, thTrips := satInc p.thTrips }

/-- A thermal condition of the channel counts: its output is on, or it is in an off state from SUPPLY_OFF to the cooling states, a condition
being recorded there (R482; DEDUCED, log entry 163). -/
def State.thermJudged (s : State) (c : Nat) : Bool :=
  (s.load c).lit || (match s.loadOff c with
    | some k => k ≤ 7
    | none => false)

/-- FET_TEMPERATURE_SAMPLE (R472, R482). -/
def execFetTemperatureSample (chan : Nat) (temp : Int) (s : State) : Out :=
  if 60 ≤ chan then noUnit
  else
    let s1 := s.updLoad chan (fun ch => { ch with prot := ch.thermal (loadClass chan) temp (s.thermJudged chan) s.now })
    fin (s.logNew (s.loadStep s1 chan false) chan 2)

/-- The steady rise of a wire, 10⁻¹² K, for a current in mA and a cross-section in 0.01 mm²: 0.40 K × I² / A^1.5 (R476). -/
def wireSteady (rms xsec : Nat) : Nat := 400000000000000 * rms * rms / Nat.sqrt (xsec * xsec * xsec * 1000000000000)

/-- The rise one millisecond later (R476). -/
def wireNext (rise rms xsec tau : Nat) : Nat :=
  ((rise : Int) + ((wireSteady rms xsec : Int) - rise) / (1000 * tau)).toNat

/-- The reference of the wire model, 10⁻¹² °C: the higher of PS_WIRE_AMB.TEMP and the baseplate temperature. -/
def State.wireRef (s : State) : Int :=
  max (s.ps.wireAmb * pico) (s.ps.base.toInt * (pico / 10))

/-- The protection record after an evaluation of the wire model (R476, R478). -/
def LoadCh.wireEval (ch : LoadCh) (ref : Int) (rms : Nat) (now : U64) : LoadProt :=
  let p := ch.prot
  let rise := wireNext p.rise (if ch.lit then rms else 0) ch.cfg.xsec ch.cfg.tau
  let t : Int := ref + rise
  let lim : Int := ch.cfg.tlim * pico
  let warn : Bool := if lim - 10 * pico ≤ t then true else if t < lim - 12 * pico then false else p.warn
  let hit : Bool := lim ≤ t && !p.wire && (p.wireTemp < lim || ch.lit)
  let q : LoadProt := { p with rise := rise, wireTemp := t, warn := warn }
  if hit then { q with wireHot := true, wireTrips := satInc q.wireTrips }.latchNow 4 now else q

/-- WIRE_MODEL_UPDATE: the millisecond's root mean square, mean and on-time current (R451, R476, R478). -/
def execWireModelUpdate (chan rms mean onCur : Nat) (s : State) : Out :=
  if 60 ≤ chan then noUnit
  else
    let s1 := s.updLoad chan (fun ch => { ch with
      prot := ch.wireEval s.wireRef rms s.now
      diag := { ch.diag with
        mean := if ch.lit then BitVec.ofNat 16 (min mean 65535) else 0
        onCur := if ch.lit then BitVec.ofNat 16 (min onCur 65535) else 0 } })
    fin (s.logNew (s.loadStep s1 chan false) chan 4)

/-- INRUSH_WINDOW_END (R471). -/
def execInrushWindowEnd (chan : Nat) (s : State) : Out :=
  if 60 ≤ chan then noUnit
  else fin (s.updLoad chan (fun ch => { ch with prot := { ch.prot with inrush := false } }))

/-! ### Hold windows and limp -/

/-- HOLD_WINDOW_EXPIRY: the safe value is applied (R455). -/
def execHoldWindowExpiry (chan : Nat) (s : State) : Out :=
  if 60 ≤ chan then noUnit
  else if (s.load chan).held.isSome then
    let s1 := (s.updLoad chan (fun ch => ch.apply ch.cfg.safe .holdEnd)).psEvent 1
    let s2 := if (s.groupOf chan).isNone then s1.loadPulse chan else s1
    fin (s.loadStep s2 chan false)
  else .next s

/-- The limp conditions of R458 hold: 150 ms have passed, no configuration of this start, a valid strap code, VBUS in range. -/
def State.limpMay (s : State) : Bool :=
  s.ps.limpTime && (!s.ps.delivered || s.aon.mode = .recovery) && s.supply.straps.net ≠ .invalid && s.inFunctional s.supply.vbus

/-- The channels with a limp mark. -/
def State.limpMask (s : State) : List Nat := (List.range 60).filter (fun c => (s.load c).cfg.limp)

/-- Limp channels switch on when R458 permits it. -/
def State.limpOn (s : State) : State :=
  if s.limpMay ∧ s.limpMask ≠ []
      ∧ (¬ s.ps.limpActive ∨ (s.aon.mode = .recovery ∧ s.limpMask.any (fun c => (s.load c).baseSrc ≠ .limp))) then
    let s1 := s.limpMask.foldl (fun t c => s.loadStep (t.updLoad c (fun ch => ch.apply fullOn .limp)) c false) s
    (s1.onPs (fun p => { p with limpActive := true })).psEvent 0
  else s

/-- LIMP_SWITCH_ON: 150 ms since the release of power-on reset (R458). -/
def execLimpSwitchOn (s : State) : Out :=
  if s.supply.porHeld then .next s else fin (s.onPs (fun p => { p with limpTime := true })).limpOn

/-- VBUS_FUNCTIONAL_RANGE_REACHED: VBUS enters the functional range after the release of power-on reset: limp channels, and the
charge of the hold-up bank (R57, R458). -/
def execVbusFunctionalRangeReached (mv : U16) (s : State) : Out :=
  if s.supply.porHeld ∨ ¬ s.inFunctional mv then .next s
  else fin (s.onSupply (fun u => { u with
    vbus := mv, vbusSeen := true, bankCharging := !u.crank && !u.bankReady && !u.holdup })).limpOn

/-! ### Diagnostics -/

/-- Off-state tests run on the channel (R452, R464, R485). -/
def State.testable (s : State) (c : Nat) : Bool :=
  let ch := s.load c
  ch.cfg.olEn && s.loadState c = 0 && ch.held.isNone && !s.supply.crank && !s.partnerOn c

/-- One result of a test: three failures in a row set its flag, three passes clear it (R452). -/
def testCount (flag : Bool) (fails passes : Nat) (bad : Bool) : Bool × Nat × Nat :=
  if bad then (flag || 2 ≤ fails, min (fails + 1) 3, 0) else (flag && passes < 2, 0, min (passes + 1) 3)

/-- A result of the short-to-supply test. -/
def LoadDiag.stb (d : LoadDiag) (bad : Bool) : LoadDiag :=
  let r := testCount d.stbOff d.stbFails d.stbPasses bad
  { d with stbOff := r.1, stbFails := r.2.1, stbPasses := r.2.2, testing := !bad }

/-- A result of the open-load test. -/
def LoadDiag.ol (d : LoadDiag) (bad : Bool) : LoadDiag :=
  let r := testCount d.olOff d.olFails d.olPasses bad
  { d with olOff := r.1, olFails := r.2.1, olPasses := r.2.2, testing := false }

/-- OFF_STATE_TEST_START: step 1 of the test with the output voltage against the pull-down; an auxiliary driver has none (R452,
R454). -/
def execOffStateTestStart (chan mv : Nat) (s : State) : Out :=
  if 60 ≤ chan then noUnit
  else if s.testable chan ∧ ¬ (s.load chan).diag.testing then
    let s1 := s.updLoad chan (fun ch => { ch with
      diag := if loadClass chan = .a then { ch.diag with testing := true } else ch.diag.stb (2000 < mv) })
    fin (s.loadStep s1 chan false)
  else .next s

/-- OFF_STATE_TEST_END: the output voltage after 2 ms of pull-up, or of pull-down at an auxiliary driver (R452, R454). -/
def execOffStateTestEnd (chan mv : Nat) (s : State) : Out :=
  if 60 ≤ chan then noUnit
  else if (s.load chan).diag.testing then
    let s1 := s.updLoad chan (fun ch => { ch with
      diag := if s.testable chan then ch.diag.ol (if loadClass chan = .a then mv < 2000 else 3200 < mv)
        else { ch.diag with testing := false } })
    fin (s.loadStep s1 chan false)
  else .next s

/-- ON_CUR stands on the named side of the class threshold (R440, R451). -/
def State.underJudged (s : State) (c : Nat) (below : Bool) : Bool :=
  let l := (loadClass c).underLevel
  if below then (s.load c).diag.onCur.toNat < l else l < (s.load c).diag.onCur.toNat

/-- UNDERCURRENT_TIMER: ON_CUR has stayed 100 ms below or above the class threshold in the on state (R451, R464, R485). -/
def execUndercurrentTimer (chan : Nat) (below : Bool) (s : State) : Out :=
  if 60 ≤ chan then noUnit
  else if (s.load chan).drive = .on ∧ ¬ s.supply.crank ∧ ¬ (below ∧ (s.load chan).diag.revBlock) ∧ s.underJudged chan below then
    fin (s.loadStep (s.updLoad chan (fun ch => { ch with diag := { ch.diag with underCur := below } })) chan false)
  else .next s

/-- REVERSE_CURRENT_BLOCK: the reverse FET of H0 to H3 opens (R463). -/
def execReverseCurrentBlock (chan : Nat) (s : State) : Out :=
  if 4 ≤ chan then noUnit
  else if (s.load chan).lit then
    fin (s.loadStep (s.updLoad chan (fun ch => { ch with diag := { ch.diag with revBlock := true } })) chan false)
  else .next s

/-- REVERSE_BLOCK_CLEAR: the output has fallen 20 mV below VBUS (R463). -/
def execReverseBlockClear (chan : Nat) (s : State) : Out :=
  if 4 ≤ chan then noUnit
  else fin (s.loadStep (s.updLoad chan (fun ch => { ch with diag := { ch.diag with revBlock := false } })) chan false)

/-- GROUP_MSI_RATE_TIMER: a millisecond since the group's MSI has passed; a collected change is reported (R448). -/
def execGroupMsiRateTimer (group : Nat) (s : State) : Out :=
  if 60 ≤ group then noUnit
  else if ¬ s.ps.groups.has group then .next s
  else if (Tab.get s.ps.groups group {}).waiting then
    fin ((s.updGroup group (fun u => { u with waiting := false, sent := true })).groupMsi group)
  else fin (s.updGroup group (fun u => { u with sent := false }))

/-! ### Module load budget -/

/-- A feed is reported lost. -/
def State.oneFeed (s : State) : Bool := s.supply.feedA.lost || s.supply.feedB.lost

/-- A channel counts towards the sum of R489: it is not OFF, and not shed, whatever state it shows. -/
def State.counts (s : State) (c : Nat) : Bool := s.loadState c ≠ 0 && !(s.load c).prot.shed

/-- The sum of I_c over the channels that are not OFF, 0.1 A. -/
def State.activeClaim (s : State) : Nat := sumOver s.counts (fun c => s.claimI c (s.load c).cfg)

/-- PS_DISS.LIMIT, 0.1 W. -/
def dissLimit : Nat := 900

/-- The mean of the samples taken so far, of those in the interval; 0 before the first (R489; DEDUCED, log entry 93). -/
def meanOf (l : List Nat) : Nat := l.foldl (fun n k => n + k) 0 / l.length

/-- The three causes of shedding with what they measure, their limit, and what a channel adds: claims under a lost feed, measured
current, and claimed dissipation (R489; DEDUCED, log entry 37). -/
def State.shedCauses (s : State) : List (Nat × Nat × (Nat → Nat)) :=
  let own (f : Nat → Nat) (c : Nat) : Nat := if s.counts c then f c else 0
  [(if s.oneFeed then s.activeClaim else 0, 1600, own (fun c => s.claimI c (s.load c).cfg)),
   (meanOf s.mgmt.health.amps * 10, s.ps.budget * 10, own (fun c => (s.load c).diag.mean.toNat)),
   (meanOf s.mgmt.health.watts * 10, dissLimit * 10, own (fun c => s.claimP c (s.load c).cfg))]

/-- A cause of shedding by its number: a feed lost, the measured current or dissipation above its limit, or a feed whose current makes the
power stage shed (R489 to R491). -/
def State.causeHolds (s : State) (why : Nat) : Bool :=
  if why = 0 then s.oneFeed
  else if why = 3 then s.supply.feedA.shedding || s.supply.feedB.shedding
  else match s.shedCauses[why]? with
    | some e => e.2.1 < e.1
    | none => false

/-- Channels in the order of shedding: rank 7 downwards, the highest code first, rank 0 never (R489). -/
def State.shedOrder (s : State) : List Nat :=
  ((List.range 7).map (fun i =>
    ((List.range 60).reverse).filter (fun c => (s.load c).cfg.rank = 7 - i && !(s.load c).prot.shed))).flatten

/-- The channels to shed so that a sum falls within its limit, in order: a channel that is OFF is shed in its turn as well (R482, R489). -/
def shedList (order : List Nat) (sum limit : Nat) (adds : Nat → Nat) : List Nat :=
  match order with
  | [] => []
  | c :: r =>
    if sum ≤ limit then []
    else c :: shedList r (sum - adds c) limit adds

/-- Channels are shed, the last of the list newest (R482, R490). -/
def State.shedAll (s : State) (cs : List (Nat × Nat)) : State :=
  cs.foldl (fun t c => s.loadStep ((t.updLoad c.1 (fun ch => { ch with prot := { ch.prot with shed := true } })).onPs
    (fun p => { p with shedOrder := c :: p.shedOrder })) c.1 false) s

/-- The data of LOAD_SHED: mask and who shed. -/
def shedData (cs : List (Nat × Nat)) (who : Nat) : List Byte :=
  leBytes 8 (cs.foldl (fun (m : U64) c => m ||| bitOf 64 c.1) 0).toNat ++ leBytes 1 who

/-- The channels that Amind sheds, each once and with its cause. -/
def State.toShed (s : State) : List (Nat × Nat) :=
  ((List.range 3).zip s.shedCauses).foldl (fun l e =>
    l ++ ((shedList s.shedOrder e.2.1 e.2.2.1 e.2.2.2).filter (fun c => !l.any (fun x => x.1 = c))).map (fun c => (c, e.1))) []

/-- LOAD_SHED: Amind sheds until each sum lies within its limit (R489). -/
def execLoadShed (s : State) : Out :=
  let cs := s.toShed
  if s.amindUp ∧ cs ≠ [] then fin ((s.shedAll cs).log .loadShed (shedData cs 0)) else .next s

/-- POWER_STAGE_SHED: the power stage sheds one channel, from the time at which a feed's current has been above 175 A for 50 ms until it is
below 160 A (R491). -/
def execPowerStageShed (feed : Bool) (s : State) : Out :=
  let f := if feed then s.supply.feedB else s.supply.feedA
  match s.shedOrder.head? with
  | none => .next s
  | some c => if ¬ f.shedding then .next s else fin ((s.shedAll [(c, 3)]).logAon .loadShed (shedData [(c, 3)] 1))

/-- LOAD_RESTORE: the channel shed last is restored once the cause of its shedding has been absent for 1 s (R490). -/
def execLoadRestore (s : State) : Out :=
  match s.ps.shedOrder with
  | [] => .next s
  | (c, why) :: r =>
    if s.causeHolds why ∨ ¬ s.amindUp then .next s
    else
      let s1 := (s.updLoad c (fun ch => { ch with prot := { ch.prot with shed := false } })).onPs
        (fun p => { p with shedOrder := r })
      fin ((s.loadStep s1 c false).log .loadRestored [BitVec.ofNat 8 c])

/-! ### Registers (R445, R466, R492, R493) -/

/-- A signed number as a 16-bit field. -/
def i16 (x : Int) : U16 := BitVec.ofInt 16 (max (-32768) (min x 32767))

/-- The mask of the channels that a test keeps. -/
def maskWhere (p : Nat → Bool) : U64 := (List.range 60).foldl (fun (m : U64) c => if p c then m ||| bitOf 64 c else m) 0

/-- Milliseconds left to a time, rounded up. -/
def msLeft (ends now : U64) : Nat := (ends.toNat - now.toNat + 999999) / 1000000

/-- A word of the channel unit of channel c, by its offset. -/
def State.psUnitWord (s : State) (c o : Nat) : U32 :=
  let ch := s.load c
  let g := ch.cfg
  let p := ch.prot
  let m := s.loadCmd c
  if o = 0x00 then
    BitVec.ofNat 32 ((loadClass c).code + g.policy * 4) ||| flagAt g.safeVal 4 ||| flagAt g.limp 5 ||| flagAt g.olEn 6
      ||| flagAt g.dual 7 ||| flagAt g.keepPartial 8 ||| flagAt g.keepSleep 9 ||| flagAt (s.loadSec c) 10
      ||| BitVec.ofNat 32 (g.start * 2048 + g.holdMs * 65536)
  else if o = 0x04 then BitVec.ofNat 32 (g.freq + g.soft * 65536)
  else if o = 0x08 then m.1.word ||| BitVec.ofNat 32 (m.2.code * 2 ^ 26)
  else if o = 0x0C then
    (match s.groupOf c with
     | some (i, u) => BitVec.ofNat 32 (u.owner + 64 + i * 256) ||| flagAt u.sec 7
     | none => 0)
  else if o = 0x10 then
    flagAt ch.diag.olOff 0 ||| flagAt ch.diag.stbOff 1 ||| flagAt ch.diag.underCur 2 ||| flagAt ch.diag.revBlock 3
      ||| flagAt ch.diag.partnerFed 4 ||| flagAt ch.held.isSome 5
  else if o = 0x14 then fieldAt ch.diag.mean 0 ||| fieldAt ch.diag.onCur 16
  else if o = 0x18 then fieldAt (i16 p.fet) 0
  else if o = 0x1C then BitVec.ofNat 32 (if ch.held.isSome then msLeft ch.holdEnd s.now else 0)
  else if o = 0x20 then
    BitVec.ofNat 32 (s.loadState c) ||| flagAt p.oc 4 ||| flagAt p.th 5 ||| flagAt p.wire 6 ||| flagAt p.warn 7
      ||| BitVec.ofNat 32 (p.count * 256 + g.limit * 65536) ||| flagAt g.thermLatch 21 ||| BitVec.ofNat 32 (g.rank * 2 ^ 24)
  else if o = 0x24 then
    BitVec.ofNat 32 (g.thLimit + (if loadClass c = .h then g.thLimit - 20 else 145) * 256) ||| fieldAt p.thTrips 16
  else if o = 0x28 then BitVec.ofNat 32 (g.xsec + g.tau * 65536)
  else if o = 0x2C then BitVec.ofNat 32 g.tlim
  else if o = 0x30 then
    BitVec.ofNat 32 (min (p.rise / (pico / 10)) 65535) ||| fieldAt (i16 (p.wireTemp / (pico / 10))) 16
  else if o = 0x34 then
    BitVec.ofNat 32 (if p.pausing then msLeft p.pauseEnd s.now else 0)
  else if o = 0x38 then fieldAt p.ocTrips 0 ||| fieldAt p.wireTrips 16
  else if o = 0x3C then BitVec.ofNat 32 (s.claimI c g + s.claimP c g * 65536)
  else 0

/-- A word of a 64-bit register at an offset: its low word, its high word, or nothing. -/
def word64 (x : U64) (base o : Nat) : Option U32 := if o = base then some (lo32 x) else if o = base + 4 then some (hi32 x) else none

/-- A word of the power stage controller by its offset in the block. -/
def State.psWord (s : State) (o : Nat) : U32 :=
  if o = 0 then
    flagAt s.ps.delivered 0 ||| flagAt s.ps.limpActive 1 ||| flagAt (s.supply.straps.net = .invalid) 2
      ||| flagAt s.ps.safeValues 3 ||| flagAt s.supply.overvolt 4
  else if o < 0x1000 then
    ((word64 (maskWhere (fun c => (s.load c).lit)) 0x008 o <|> word64 (maskWhere (fun c => (s.load c).held.isSome)) 0x010 o)
      <|> word64 (maskWhere (fun c => (s.load c).cfg.limp)) 0x018 o).getD 0
  else if o = 0x1000 then fieldAt s.ps.event 0
  else if o = 0x1004 then fieldAt s.ps.eventEn 0
  else if o < 0x2000 then 0
  else if o < 0x2F00 then s.psUnitWord ((o - 0x2000) / 0x40) (o % 0x40)
  else if o = 0x3000 then BitVec.ofInt 32 s.ps.wireAmb &&& 0xFF
  else if o = 0x3004 then
    BitVec.ofNat 32 (s.ps.budget + min (sumOver (fun _ => true) (fun c => s.claimI c (s.load c).cfg)) 65535 * 65536)
  else if o = 0x3008 then
    BitVec.ofNat 32 ((if s.ps.claimsSet then min (620 + sumOver (fun _ => true) (fun c => s.claimP c (s.load c).cfg) / 10) 65535 else 0)
      + dissLimit * 65536)
  else ((word64 (maskWhere (fun c => (s.load c).prot.shed)) 0x3010 o)
      <|> word64 (maskWhere (fun c => (s.load c).prot.latched)) 0x3018 o).getD 0

/-- A write of the event page under a byte mask (R466). -/
def State.psPut (s : State) (o : Nat) (v m : U32) : State :=
  if o = 0x1000 then s.onPs (fun p => { p with event := p.event &&& ~~~((v &&& m).truncate 5) })
  else if o = 0x1004 then s.onPs (fun p => { p with eventEn := (mix (fieldAt p.eventEn 0) v m).truncate 5 })
  else s

/-- A channel is owned by a reader of an output image page (R445). -/
def State.loadMine (s : State) (t : Attr) (c : Nat) : Bool :=
  match s.groupOf c with
  | some (_, g) => g.owner = t.inst.toNat && g.sec = t.sec
  | none => false

/-- LOAD_OUT as an owner reads it: what it wrote, or the state in force loaded at the group's creation. -/
def State.loadOutWord (s : State) (c : Nat) : U32 := (s.load c).out.word

/-- A word of an output image page, for a reader (R445). -/
def State.loadPageWord (s : State) (t : Attr) (page o : Nat) : U32 :=
  if o < 0x1E0 then
    let c := o / 8
    if ¬ s.loadMine t c then 0
    else if o % 8 = 0 then s.loadOutWord c
    else s.loadRb c
  else if o = 0x228 then Tab.get s.ps.ignored page 0
  else
    (word64 (maskWhere (fun c => s.loadMine t c && (s.load c).out.on)) 0x210 o
      <|> (word64 (maskWhere (fun c => s.loadMine t c && (s.load c).lit)) 0x218 o
      <|> word64 (maskWhere (fun c => match s.groupOf c with
          | some (_, g) => s.loadMine t c && g.chg.getLsbD c
          | none => false)) 0x220 o)).getD 0

/-- A word write of an output image page: entries, mask registers, LOAD_CHG (R445). -/
def State.loadPagePut (s : State) (t : Attr) (page o : Nat) (v m : U32) : State :=
  let x := (v &&& m).setWidth 64
  if o < 0x1E0 then (if o % 8 = 0 then s.loadOutPut page t (o / 8) v m else s)
  else if o = 0x200 then s.loadMask page t x true
  else if o = 0x204 then s.loadMask page t (x <<< 32) true
  else if o = 0x208 then s.loadMask page t x false
  else if o = 0x20C then s.loadMask page t (x <<< 32) false
  else if o = 0x220 then s.loadChgClear page t x
  else if o = 0x224 then s.loadChgClear page t (x <<< 32)
  else s

end Sys2Proof.Machine
end

