-- ==== Sys2Proof/Machine/Inputs.lean ====
section
/-! DEFINITION. Inputs: debounced and analog inputs, input groups and their page, wake inputs, sensor supplies, and the commands
0x0510 and 0x0511 (R272, R494 to R507). -/

namespace Sys2Proof.Machine

open Sys2Proof

/-- D input d. -/
def State.din (s : State) (d : Nat) : DIn := Tab.get s.inp.ds d {}
/-- V input v. -/
def State.vin (s : State) (v : Nat) : VIn := Tab.get s.inp.vs v {}
/-- Change D input d. -/
def State.updDin (s : State) (d : Nat) (f : DIn → DIn) : State := s.onInp (fun i => { i with ds := Tab.upd i.ds d {} f })
/-- Change V input v. -/
def State.updVin (s : State) (v : Nat) (f : VIn → VIn) : State := s.onInp (fun i => { i with vs := Tab.upd i.vs v {} f })
/-- Input group g. -/
def State.inGroup (s : State) (g : Nat) : InGroup := Tab.get s.inp.groups g {}
/-- Change input group g. -/
def State.updInGroup (s : State) (g : Nat) (f : InGroup → InGroup) : State :=
  s.onInp (fun i => { i with groups := Tab.upd i.groups g {} f })
/-- Set bit k of IN_GEVENT. -/
def State.inEvent (s : State) (k : Nat) : State := s.onInp (fun i => { i with event := i.event ||| bitOf 3 k })

/-- An input's code pin is marked secure: D inputs are pins 64 to 127, V inputs 128 to 151 (R194). -/
def State.inSec (s : State) (i : Nat) : Bool := s.pinSec (64 + i)

/-- The live group that holds D input d. -/
def State.groupOfD (s : State) (d : Nat) : Option (Nat × InGroup) := s.inp.groups.find? (fun e => e.2.dmask.getLsbD d)
/-- The live group that holds V input v. -/
def State.groupOfV (s : State) (v : Nat) : Option (Nat × InGroup) := s.inp.groups.find? (fun e => e.2.vmask.getLsbD v)

/-- Some event bit of a group is set. -/
def InGroup.pending (g : InGroup) : Bool := g.evtD ≠ 0 || g.evtV ≠ 0

/-- The MSI of an input group (R505). -/
def State.inMsi (s : State) (g : Nat) : State :=
  match s.hFind 0x05 g with
  | some h => s.msiBind h.bind h.sec 0
  | none => s

/-- A group's events change: an MSI when they go from all zero to non-zero (R505). -/
def State.inPost (s : State) (g : Nat) (f : InGroup → InGroup) : State :=
  let s1 := s.updInGroup g f
  if !(s.inGroup g).pending && (s1.inGroup g).pending then s1.inMsi g else s1

/-- The event bits that are set in this cycle, which a W1C write of the same cycle leaves: the edge is applied after it (R505). -/
def InGroup.freshBits (g : InGroup) (now : U64) : U64 :=
  match g.evtAt with
  | some (t, b) => if t = now then b else 0
  | none => 0

/-- A D input's edge in its group at a cycle: edge time, overrun, event (R504, R505). -/
def InGroup.edge (g : InGroup) (d : Nat) (enabled : Bool) (time now : U64) : InGroup :=
  { g with
    evtAt := if enabled then some (now, g.freshBits now ||| bitOf 64 d) else g.evtAt
    edgeTime := Tab.put g.edgeTime d time
    ovrD := if g.evtD.getLsbD d then g.ovrD ||| bitOf 64 d else g.ovrD
    evtD := if enabled then g.evtD ||| bitOf 64 d else g.evtD }

/-- An edge of D input d is recorded: in its group, or on the global page, or on source 147 (R504, R506, R507). -/
def State.dEdge (s : State) (d : Nat) (rising : Bool) (time : U64) : State :=
  match s.groupOfD d with
  | some (i, g) =>
    if g.stopped ∨ g.disabled then s
    else s.inPost i (fun u => u.edge d ((s.din d).edges.getLsbD (if rising then 0 else 1)) time s.now)
  | none => if s.inSec d then s.pulse 147 else s.inEvent 2

/-! ### Sampling -/

/-- D and V inputs are sampled, with wetting current and bias: START from step 5 on, RUN, PARTIAL and SAFE, and not from the commit step of a
sleep order on (R494). -/
def State.inputsOn (s : State) : Bool :=
  s.powered && !s.supply.pinHeld && s.sleep.phase ≠ 3 && (match s.aon.mode with
    | .start => decide (5 ≤ s.aon.step)
    | .run => true
    | .part => true
    | .safe => true
    | .off => false
    | .sleep => false
    | .recovery => false)

/-- The bounds of the thresholds of D and WK inputs: V_IL at least, V_IH at most, hysteresis at least, mV (R495). -/
def NetSel.inputLevels : NetSel → Nat × Nat × Nat
  | .v12 => (2000, 4500, 500)
  | .v24 => (4000, 8000, 1000)
  | .v48 => (4000, 8000, 1000)
  | .invalid => (2000, 4500, 500)

/-- The thresholds V_IL and V_IH of input pin `pin`, mV. The spec bounds them and leaves their values, which are free within the bounds (R495;
DESIGN CHOICE, log entry 166). -/
def State.inputLevels (s : State) (pin : Nat) : Nat × Nat :=
  let b := s.supply.straps.net.inputLevels
  let low := b.1 + Config.freeNat 33 pin % (b.2.1 - b.2.2 - b.1 + 1)
  (low, low + b.2.2 + Config.freeNat 34 pin % (b.2.1 - b.2.2 - low + 1))

/-- A sample of an input pin: 1 above V_IH, 0 below V_IL, and the previous value between them (R495). -/
def State.reads (s : State) (pin mv : Nat) (was : Bool) : Bool :=
  if (s.inputLevels pin).2 < mv then true else if mv < (s.inputLevels pin).1 then false else was

/-- A D input takes a sample: the run of equal samples goes on or begins anew, and a new wetting code takes effect (R495, R496). -/
def DIn.sample (d : DIn) (r : Bool) (time : U64) : DIn :=
  let d1 := { d with wetOn := d.wet, raw := r }
  if d.run ≠ 0 ∧ r = d.raw then { d1 with run := min (d.run + 1) 255 } else { d1 with run := 1, runAt := time }

/-- The run has reached the debounce time with another value than the debounced level (R495). -/
def DIn.settled (d : DIn) : Bool := decide (d.debounce ≤ d.run) && d.raw ≠ d.level

/-- One sample of D input d at a whole millisecond: the debounced level follows a settled run, whose first sample is the time of the edge
(R495). -/
def State.dSample (s : State) (d mv : Nat) (time : U64) : State :=
  let s1 := s.updDin d (fun i => i.sample (s.reads d mv i.raw) time)
  if (s1.din d).settled then
    (s1.updDin d (fun i => { i with level := i.raw })).dEdge d (s1.din d).raw (s1.din d).runAt
  else s1

/-- The whole millisecond of TIME_LOCAL in which a time lies, k milliseconds later (R495). -/
def wholeMs (time : U64) (k : Nat) : U64 := BitVec.ofNat 64 ((time.toNat / 1000000 + k) * 1000000)

/-- DEBOUNCE_COMPLETE: the samples of a D input in consecutive milliseconds from a time on, in mV; the level changes where a value has appeared
in as many samples as the debounce time (R494, R495). -/
def execDebounceComplete (input : Nat) (samples : List Nat) (time : U64) (s : State) : Out :=
  if 64 ≤ input then noUnit
  else if ¬ s.inputsOn then .next s
  else fin (((List.range samples.length).zip samples).foldl (fun t e => t.dSample input e.2 (wholeMs time e.1)) s)

/-- The wetting current of D input d as applied: 0.1 mA, sink, pulsed; none while the inputs are off (R494, R496). -/
def State.wetting (s : State) (d : Nat) : Nat × Bool × Bool :=
  let w := (s.din d).wetOn
  if s.inputsOn then ([0, 10, 20, 50, 100, 150].getD (w.toNat % 8) 0, w.getLsbD 3, w.getLsbD 4) else (0, false, false)

/-- The bias of V input v as applied (R494, R497). -/
def State.biased (s : State) (v : Nat) : Bool := s.inputsOn && (s.vin v).bias

/-- The top of a range, mV (R497). -/
def rangeTop (r : BitVec 2) : Nat := if r = 0 then 5500 else if r = 1 then 18000 else if r = 2 then 36000 else 60000

/-- The threshold state of V input v after a value: a pair with LOW not below HIGH keeps it (R498). -/
def InGroup.aboveNext (g : InGroup) (v : Nat) (x : U16) : Bool :=
  let hi := (Tab.get g.high v 0).toNat
  let lo := (Tab.get g.low v 0).toNat
  let was := g.above.getLsbD v
  if hi ≤ lo then was else if hi ≤ x.toNat then true else if x.toNat ≤ lo then false else was

/-- A V input's value in its group. -/
def InGroup.analog (g : InGroup) (v : Nat) (x : U16) (edges : BitVec 2) : InGroup :=
  let was := g.above.getLsbD v
  let now := g.aboveNext v x
  { g with
    above := putBit g.above v now
    evtV := if now ≠ was ∧ edges.getLsbD (if now then 0 else 1) then g.evtV ||| bitOf 24 v else g.evtV }

/-- A V input takes a sample: clamped to its range, and the value is the mean over the averaging window, or over the samples taken so far
(R497; DEDUCED, log entry 93). -/
def VIn.sample (v : VIn) (mv : Int) : VIn :=
  let l := (min mv.toNat (rangeTop v.range) :: v.samples).take v.window
  { v with samples := l, value := BitVec.ofNat 16 (meanOf l) }

/-- One sample of V input v, with the threshold pair of its group (R497, R498). -/
def State.vSample (s : State) (v : Nat) (mv : Int) : State :=
  let s1 := s.updVin v (fun u => u.sample mv)
  match s.groupOfV v with
  | some (i, g) =>
    if g.stopped ∨ g.disabled then s1 else s1.inPost i (fun u => u.analog v (s1.vin v).value (s.vin v).edges)
  | none => s1

/-- ANALOG_THRESHOLD_CHANGE: samples of a V input in consecutive milliseconds, mV (R497, R498). -/
def execAnalogThresholdChange (input : Nat) (samples : List Int) (s : State) : Out :=
  if 24 ≤ input then noUnit
  else if ¬ s.inputsOn then .next s
  else fin (samples.foldl (fun t mv => t.vSample input mv) s)

/-- The address of an input group page. -/
def inPage (g : Nat) : Nat := 0x13800000 + g * 0x1000

/-- Event bits are cleared by a write, but for those of an edge in the same cycle (R504, R505). -/
def State.inClear (s : State) (g : Nat) (d : U64) (v : BitVec 24) : State :=
  s.updInGroup g (fun x => { x with evtD := x.evtD &&& ~~~(d &&& ~~~(x.freshBits s.now)), evtV := x.evtV &&& ~~~v })

/-- A write to IN_EVT has ended: one MSI when it leaves a bit set (R505, R506). -/
def State.inLeft (s : State) (g : Nat) : State :=
  let u := s.inGroup g
  if u.disabled ∨ u.stopped ∨ ¬ u.pending then s else s.inMsi g

/-- IN_EVT_CLEAR_WRITE: a write of IN_EVT.D and IN_EVT.V (R505). -/
def execInEvtClearWrite (group : Nat) (attr : Attr) (d : U64) (v : BitVec 24) (s : State) : Out :=
  if 88 ≤ group then noUnit
  else s.issue attr fun attr =>
    let s1 := if d = 0 ∧ v ≠ 0 then s else s.writeAt (writeX attr (inPage group + 0x10) 8 d.toNat) (fun s => (s.inClear group d 0).inLeft group)
    fin (if v = 0 then s1 else s1.writeAt (writeX attr (inPage group + 0x20) 4 v.toNat) (fun s => (s.inClear group 0 v).inLeft group))

/-! ### Wake inputs and sensor supplies -/

/-- IN_WAKE.WK: the WK inputs at their active level (R499, R507). -/
def Inputs.wk (i : Inputs) : Byte := i.wkLevel ^^^ i.pol

/-- The levels above which IGN reads high and below which it reads low, mV (R499). -/
def NetSel.ignLevels : NetSel → Nat × Nat
  | .v12 => (5000, 3000)
  | .v24 => (10000, 6000)
  | .v48 => (10000, 6000)
  | .invalid => (5000, 3000)

/-- The levels of WK0 to WK7 at the voltages of a list; a pin that the list does not name keeps its level. WK pins are numbered from 64 on
for their thresholds (R499). -/
def State.wkReads (s : State) (mv : List Nat) : Byte :=
  ((List.range 8).zip mv).foldl (fun (m : Byte) e => putBit m e.1 (s.reads (64 + e.1) e.2 (m.getLsbD e.1))) s.inp.wkLevel

/-- The level of IGN at a voltage (R499). -/
def State.ignReads (s : State) (mv : Nat) : Bool :=
  let l := s.supply.straps.net.ignLevels
  if l.1 < mv then true else if mv < l.2 then false else s.inp.ign

/-- A WK input is pulled up from VAON, and otherwise down (R499). -/
def State.wkPullUp (s : State) (n : Nat) : Bool := s.inp.pol.getLsbD n

/-- IN_WAKE_CHANGE: the voltages of WK0 to WK7 and of IGN, mV (R499, R507). -/
def execInWakeChange (wk : List Nat) (ign : Nat) (s : State) : Out :=
  if s.supply.porHeld ∨ (s.inp.wkLevel = s.wkReads wk ∧ s.inp.ign = s.ignReads ign) then .next s
  else fin ((s.onInp (fun i => { i with wkLevel := s.wkReads wk, ign := s.ignReads ign })).inEvent 0)

/-- The supplies that the mode switches on (R501). -/
def State.sensWanted (s : State) : BitVec 3 :=
  match s.aon.mode with
  | .run => s.inp.sensRun
  | .safe => s.inp.sensRun
  | .part => s.inp.sensPart
  | .off => 0
  | .sleep => 0
  | .start => 0
  | .recovery => 0

/-- The sensor supplies follow the mode: a faulted output stays off until its retry, and one that is not wanted has no fault
(R501, R502). -/
def State.sensStep (s : State) : State :=
  let w := s.sensWanted
  s.onInp (fun i => { i with sensFault := i.sensFault &&& w, sensOn := w &&& ~~~(i.sensFault &&& w) })

/-- A sensor supply output drives its pin to SGND through 1 kΩ: it is switched off or has faulted (R502). -/
def State.sensGrounded (s : State) (n : Nat) : Bool := !s.inp.sensOn.getLsbD n

/-- SENSOR_SUPPLY_CURRENT_LIMIT: an output has stayed in current limit for 10 ms (R502). -/
def execSensorSupplyCurrentLimit (supply : Nat) (s : State) : Out :=
  if 3 ≤ supply then noUnit
  else if s.inp.sensOn.getLsbD supply then
    fin ((s.onInp (fun i => { i with
      sensOn := putBit i.sensOn supply false, sensFault := putBit i.sensFault supply true
      sensCount := satInc i.sensCount })).inEvent 1)
  else .next s

/-- SENSOR_SUPPLY_RETRY: the output tries again after 1 s (R502). -/
def execSensorSupplyRetry (supply : Nat) (s : State) : Out :=
  if 3 ≤ supply then noUnit
  else if s.inp.sensFault.getLsbD supply then
    fin ((s.onInp (fun i => { i with sensFault := putBit i.sensFault supply false })).sensStep)
  else .next s

/-! ### INPUT_GROUP_CREATE -/

/-- INPUT_GROUP_CREATE, 0x0510. -/
def specInputGroupCreate : CmdSpec := { op := 0x0510, who := [.mgr, .gst, .sec], st := true }

/-- The payload of INPUT_GROUP_CREATE: at least one input, no reserved bit. -/
def State.okInputGroup (s : State) (owner : Nat) (sec : Bool) (p : List Byte) : Bool :=
  p.length = 20 && (u64At p 0 ≠ 0 || u32At p 8 ≠ 0) && u32At p 8 < 2 ^ 24 && u32At p 12 = 0 && s.bindOk (bindAt p 16) owner sec 0

/-- The input share of an instance, D or V, as a mask (R262). -/
def State.inShare (s : State) (n sel : Nat) : U64 :=
  (s.inst n).shares.foldl (fun m e =>
    if e.kind = 0x08 ∧ e.sel = sel then m ||| BitVec.ofNat 64 (e.a.toNat + e.b.toNat * 2 ^ 32) else m) 0

/-- The masks of every guest together. -/
def State.inShares (s : State) (sel : Nat) : U64 :=
  s.mgmt.insts.foldl (fun m e => if e.1 = 0 then m else m ||| s.inShare e.1 sel) 0

/-- An input may join a group of an issuer (R194, R442, R503, R508). -/
def State.inMay (s : State) (owner : Nat) (sec : Bool) (sel c : Nat) : Bool :=
  let p := s.inSec (64 * sel + c)
  if sec then p
  else !p && (if owner = 0 then !((s.inShares sel).getLsbD c) else (s.inShare owner sel).getLsbD c)

/-- A new input group: its event and threshold fields at their reset values (R503, R504). -/
def ownInputGroupCreate (rq : Request) (s : State) : State × Ans :=
  let p := rq.payload
  let own := s.issuerInst rq.route
  let d := BitVec.ofNat 64 (u64At p 0)
  let v := BitVec.ofNat 24 (u32At p 8)
  let ds := (List.range 64).filter (fun c => d.getLsbD c)
  let vs := (List.range 24).filter (fun c => v.getLsbD c)
  let g := match ds, vs with
    | c :: _, _ => c
    | [], c :: _ => 64 + c
    | [], [] => 0
  if s.fnOffFor own rq.isSec 0x08 0 then no s .fnDisabled
  else if s.inp.groups.any (fun e => e.2.dmask &&& d ≠ 0 || e.2.vmask &&& v ≠ 0) then no s .busy
  else if ¬ (ds.all (s.inMay own rq.isSec 0) ∧ vs.all (s.inMay own rq.isSec 1) ∧ s.handleRoom) then no s .noResource
  else
    ((s.hCreate 0x05 g own rq.isSec (bindAt p 16) (0, 1, 0)).onInp (fun i => { i with
        groups := Tab.put i.groups g { dmask := d, vmask := v, owner := own, sec := rq.isSec } }),
      { handle := some (mkHandle 0x05 own (s.genOf 0x05 g) g), payload := leBytes 8 (inPage g) })

/-- INPUT_GROUP_CREATE (R503). -/
def execInputGroupCreate (rq : Request) (s : State) : Out :=
  serve specInputGroupCreate rq s (s.okInputGroup (s.issuerInst rq.route) rq.isSec) (ownInputGroupCreate rq)

/-- A group ends; the configuration of its inputs continues (R506). -/
def State.inGroupDrop (s : State) (g : Nat) : State := s.onInp (fun i => { i with groups := Tab.drop i.groups g })

/-- The cleared context of a group in an instance reset (R506). -/
def InGroup.cleared (g : InGroup) : InGroup :=
  { g with evtD := 0, ovrD := 0, evtV := 0, above := 0, high := [], low := [], edgeTime := [] }

/-! ### INPUT_CONFIG -/

/-- INPUT_CONFIG, 0x0511. -/
def specInputConfig : CmdSpec := { op := 0x0511, who := everyIssuer, st := true, types := [0x05] }

/-- An input lies in a group. -/
def InGroup.has (g : InGroup) (i : Nat) : Bool := if i < 64 then g.dmask.getLsbD i else g.vmask.getLsbD (i - 64)

/-- The payload of INPUT_CONFIG for a group: the codes of R496 and R497. -/
def State.okInputConfig (s : State) (g : Nat) (p : List Byte) : Bool :=
  let i := u8At p 0
  let w := u8At p 1
  p.length = 4 && i < 88 && u8At p 3 < 4
    && (if i < 64 then w % 8 ≤ 5 && w < 32 else w < 8 && (w < 4 || w % 4 = 0))
    && (!s.inp.groups.has g || (s.inGroup g).has i)

/-- An input takes its configuration; a new debounce time restarts the run in progress (R496, R497). -/
def ownInputConfig (rq : Request) (s : State) : State × Ans :=
  let p := rq.payload
  let i := u8At p 0
  let w := u8At p 1
  let e := BitVec.ofNat 2 (u8At p 3)
  if i < 64 then
    yes (s.updDin i (fun d => { d with
      wet := BitVec.ofNat 8 w, debounce := if u8At p 2 = 0 then 10 else u8At p 2, edges := e
      run := if d.debounce = (if u8At p 2 = 0 then 10 else u8At p 2) then d.run else 0 }))
  else
    yes (s.updVin (i - 64) (fun v => { v with
      range := BitVec.ofNat 2 w, bias := w.testBit 2, window := if u8At p 2 = 0 then 1 else u8At p 2, edges := e }))

/-- INPUT_CONFIG (R496, R497). -/
def execInputConfig (rq : Request) (s : State) : Out :=
  serve specInputConfig rq s (s.okInputConfig (hIndex rq.handle)) (ownInputConfig rq)

/-! ### Registers (R504, R507) -/

/-- A word of an input group page. -/
def State.inPageWord (s : State) (g o : Nat) : U32 :=
  let u := s.inGroup g
  let dm (f : DIn → Bool) : U64 :=
    (List.range 64).foldl (fun (m : U64) d => if u.dmask.getLsbD d && f (s.din d) then m ||| bitOf 64 d else m) 0
  if u.disabled then 0
  else if o = 0x20 then fieldAt u.evtV 0
  else if o < 0x28 then
    ((word64 (dm (fun d => d.level)) 0x00 o <|> word64 (dm (fun d => d.raw)) 0x08 o)
      <|> (word64 u.evtD 0x10 o <|> word64 u.ovrD 0x18 o)).getD 0
  else if 0x100 ≤ o ∧ o < 0x1C0 then
    let v := (o - 0x100) / 8
    if ¬ u.vmask.getLsbD v then 0
    else if o % 8 = 0 then fieldAt (s.vin v).value 0 ||| flagAt (u.above.getLsbD v) 16
    else fieldAt (Tab.get u.high v 0) 0 ||| fieldAt (Tab.get u.low v 0) 16
  else if 0x200 ≤ o ∧ o < 0x400 then
    let d := (o - 0x200) / 8
    if ¬ u.dmask.getLsbD d then 0
    else (word64 (Tab.get u.edgeTime d 0) 0 (o % 8)).getD 0
  else 0

/-- A word write of an input group page. -/
def State.inPagePut (s : State) (g o : Nat) (v m : U32) : State :=
  let x : U64 := (v &&& m).setWidth 64
  if o = 0x10 then s.inClear g x 0
  else if o = 0x14 then s.inClear g (x <<< 32) 0
  else if o = 0x18 then s.updInGroup g (fun u => { u with ovrD := u.ovrD &&& ~~~x })
  else if o = 0x1C then s.updInGroup g (fun u => { u with ovrD := u.ovrD &&& ~~~(x <<< 32) })
  else if o = 0x20 then s.inClear g 0 ((v &&& m).truncate 24)
  else if 0x100 ≤ o ∧ o < 0x1C0 ∧ o % 8 = 4 then
    let k := (o - 0x100) / 8
    if ¬ (s.inGroup g).vmask.getLsbD k then s
    else
      let w := mix (fieldAt (Tab.get (s.inGroup g).high k 0) 0 ||| fieldAt (Tab.get (s.inGroup g).low k 0) 16) v m
      s.updInGroup g (fun u => { u with
        high := Tab.put u.high k (w.truncate 16), low := Tab.put u.low k ((w >>> 16).truncate 16) })
  else s

/-- A word of the global input page, for a reader: a non-secure read sees no secure input (R507). -/
def State.inWord (s : State) (t : Attr) (o : Nat) : U32 :=
  let all : U64 := (List.range 64).foldl (fun (m : U64) d =>
    if (s.din d).level && (t.sec || !s.inSec d) then m ||| bitOf 64 d else m) 0
  if o < 8 then (word64 all 0 o).getD 0
  else if o = 0x008 then fieldAt s.inp.wk 0 ||| flagAt s.inp.ign 8
  else if o = 0x00C then fieldAt s.inp.pol 0
  else if o = 0x010 then fieldAt s.inp.sensRun 0 ||| fieldAt s.inp.sensPart 3
  else if o = 0x014 then fieldAt s.inp.sensOn 0 ||| fieldAt s.inp.sensFault 3 ||| fieldAt s.inp.sensCount 16
  else if o = 0x020 then fieldAt s.inp.event 0
  else if o = 0x024 then fieldAt s.inp.eventEn 0
  else 0

/-- A word write of the global input page. -/
def State.inPut (s : State) (o : Nat) (v m : U32) : State :=
  if o = 0x020 then s.onInp (fun i => { i with event := i.event &&& ~~~((v &&& m).truncate 3) })
  else if o = 0x024 then s.onInp (fun i => { i with eventEn := (mix (fieldAt i.eventEn 0) v m).truncate 3 })
  else s

end Sys2Proof.Machine
end

