-- ==== Sys2Proof/Machine/Keys.lean ====
section
/-! DEFINITION. The key store: measured roots, the node tree, its journal, derivation, import, invalidation and purge, signing,
attestation, alarms, and the installation of MACsec associations (R266, R277, R278, R362, R533 to R553, R564 to R567). -/

namespace Sys2Proof.Machine

open Sys2Proof

/-! ### Reset requests -/

/-- RST_REQ_N is pulsed low for a cause, which the next pin reset shows; a pulse in progress keeps its own (R67, R105, R251). A watchdog
expiry, a wedged engine and a key store alarm that arise in SAFE set their own bit and not REQ_SAFE (DEDUCED, log entry 117). -/
def State.rstPulse (s : State) (c : ReqCause) : State :=
  if s.supply.rstReq then s
  else (s.onSupply (fun u => { u with rstReq := true })).onAon (fun a => { a with nextReq := some c })

/-- Amind pulses RST_REQ_N once a ledger entry of the cause is committed: cause and issuer codes of RESET_REQUESTED (R251, R606). The
buffer is committed first and the entry made whatever the limits of R607, so that every pulse has its entry (DEDUCED, log entry 94). A
command that restarts in SAFE ends SAFE and sets REQ_SAFE (R98, R251). -/
def State.amindPulse (s : State) (c : ReqCause) (code issuer : Nat) : State :=
  let e := Ev.resetRequested.info
  ((s.commitBuffer.ledgerPut .amind e.1 e.2 [BitVec.ofNat 8 code, BitVec.ofNat 8 issuer]).commitBuffer).rstPulse
    (if s.aon.mode = .safe ∧ c = .cmd then .safeEnd else c)

/-! ### Keys -/

/-- Bytes from numbers. -/
def bytesOf (l : List Nat) : List Byte := l.map (fun n => BitVec.ofNat 8 n)
/-- "ZC40-CDI". -/
def txtCdi : List Byte := bytesOf [90, 67, 52, 48, 45, 67, 68, 73]
/-- "ZC40-STB". -/
def txtStb : List Byte := bytesOf [90, 67, 52, 48, 45, 83, 84, 66]
/-- "ZC40-KEY". -/
def txtKey : List Byte := bytesOf [90, 67, 52, 48, 45, 75, 69, 89]
/-- "EXP". -/
def txtExp : List Byte := bytesOf [69, 88, 80]
/-- "KIMP". -/
def txtKimp : List Byte := bytesOf [75, 73, 77, 80]

/-- The digest of a measurement layer: 48 zero bytes where the layer is absent (R534, R535). -/
def KeyStore.layer (k : KeyStore) (i : Nat) : List Byte := Tab.get k.layers i (List.replicate 48 0)

/-- Node 0, the identity (R535). -/
def KeyStore.key0 (k : KeyStore) : List Byte := hmac384 deviceSecret (txtCdi ++ [0] ++ k.layer 0)
/-- Node 1 (R535). -/
def KeyStore.key1 (k : KeyStore) : List Byte :=
  hmac384 k.key0 (txtCdi ++ [1] ++ k.layer 1 ++ leBytes 4 k.life.toNat)

/-- The keys of the roots 2 to 5 (R535). -/
def KeyStore.rootKey (k : KeyStore) (n : Nat) : List Byte :=
  if n = 2 then hmac384 k.key1 (txtCdi ++ [2] ++ k.layer 2)
  else if n = 3 then hmac384 (hmac384 k.key1 (txtCdi ++ [2] ++ k.layer 2)) (txtCdi ++ [3] ++ k.layer 3)
  else if n = 4 then hmac384 k.key0 (txtStb ++ [4] ++ leBytes 4 k.life.toNat)
  else hmac384 k.key0 (txtStb ++ [5] ++ leBytes 4 k.life.toNat)

/-- A root: usage 5, derivation permitted, depth 0 (R535). -/
def rootNode (n : Nat) : Node := { depth := 0, usage := 5, flags := 1, sec := n = 2 || n = 4 }

/-- The record of node n, unless it is FREE, reserved or not yet derived. -/
def KeyStore.node (k : KeyStore) (n : Nat) : Option Node :=
  if n < 8 then (if k.roots ∧ 2 ≤ n ∧ n ≤ 5 then some (rootNode n) else none)
  else if k.nodes.has n then some (Tab.get k.nodes n {}) else none

/-- A node is current: neither it nor a node on its path is invalidated, and the stored generations agree; at most 8 levels
(R542). -/
def KeyStore.current (k : KeyStore) : Nat → Nat → Bool
  | 0, _ => false
  | fuel + 1, n =>
    match k.node n with
    | none => false
    | some r =>
      if n < 8 then true
      else if r.invalid then false
      else match k.node r.parent with
        | none => false
        | some p => p.gen = r.parentGen && KeyStore.current k fuel r.parent

/-- The depth of the walk along a path. -/
def pathFuel : Nat := 10

/-- A node lies under another, or is it. -/
def KeyStore.under (k : KeyStore) (top : Nat) : Nat → Nat → Bool
  | 0, _ => false
  | fuel + 1, n =>
    if n = top then true
    else if n < 8 then false
    else match k.node n with
      | none => false
      | some r => KeyStore.under k top fuel r.parent

/-- The key of a derived node: HMAC along its path (R538). -/
def KeyStore.keyOf (k : KeyStore) : Nat → Nat → List Byte
  | 0, _ => []
  | fuel + 1, n =>
    if n < 8 then k.rootKey n
    else match k.node n with
      | none => []
      | some r =>
        hmac384 (KeyStore.keyOf k fuel r.parent)
          (txtKey ++ leBytes 1 r.usage ++ leBytes 1 r.flags ++ leBytes 1 r.depth ++ leBytes 8 r.created.toNat
            ++ leBytes 1 r.label.length ++ r.label)

/-- The 96 bytes of material of a derived node (R538). -/
def KeyStore.material (k : KeyStore) (n : Nat) : List Byte :=
  let key := k.keyOf pathFuel n
  hmac384 key ([1] ++ txtExp) ++ hmac384 key ([2] ++ txtExp)

/-- Bytes of a node's key from an offset: the imported bytes, or its material (R538). -/
def KeyStore.keyBytes (k : KeyStore) (n off len : Nat) : List Byte :=
  match k.node n with
  | none => []
  | some r => match r.imported with
    | some b => (b.drop off).take len
    | none => ((k.material n).drop off).take len

/-- The signing material of a node of usage 4: d and ξ; the identity's where no node is named (R535, R538). -/
def KeyStore.signKey (k : KeyStore) (n : Option Nat) : List Byte :=
  signMaterial (match n with
    | some m => k.material m
    | none => hmac384 k.key0 ([1] ++ txtExp) ++ hmac384 k.key0 ([2] ++ txtExp))

/-! ### Journal -/

/-- KS_JOURNAL.COUNTER: the counter of the latest valid entry (R547). -/
def KeyStore.counter (k : KeyStore) : U64 :=
  if k.slotA.valid ∧ (¬ k.slotB.valid ∨ k.slotB.counter ≤ k.slotA.counter) then k.slotA.counter else k.slotB.counter

/-- Slot A holds the latest entry. -/
def KeyStore.latestA (k : KeyStore) : Bool := k.slotA.valid && (!k.slotB.valid || k.slotB.counter ≤ k.slotA.counter)

/-- The home records with changes written. -/
def applyChanges (t : Tab Node) (cs : List (Nat × Option Node)) : Tab Node :=
  cs.foldl (fun t c => match c.2 with
    | some r => Tab.put t c.1 r
    | none => Tab.drop t c.1) t

/-- A tree change is one journal entry in the slot that does not hold the latest, and then the home write (R546); KS_EVENT shows
a tree of more than 3840 nodes (R567). -/
def KeyStore.commit (k : KeyStore) (cs : List (Nat × Option Node)) : KeyStore :=
  let e : Journal := { counter := k.counter + 1, changes := cs, valid := true }
  let nodes := applyChanges k.nodes cs
  let k1 := if k.latestA then { k with slotB := e } else { k with slotA := e }
  { k1 with
    nodes := nodes, homeCounter := e.counter
    ksEvent := if k.nodes.length ≤ 3840 ∧ 3840 < nodes.length then k.ksEvent ||| 4 else k.ksEvent }

/-- The nodes of the tree under a node, itself included. -/
def KeyStore.subtree (k : KeyStore) (top : Nat) : List Nat :=
  (k.nodes.map (fun e => e.1)).filter (fun n => k.under top pathFuel n)

/-- The invalidated nodes without a live handle in their subtree are reclaimed, a subtree an entry (R543). -/
def State.reclaim (s : State) : State :=
  (s.ks.nodes.filter (fun e => e.2.invalid)).foldl (fun t e =>
    let sub := t.ks.subtree e.1
    if t.ks.nodes.has e.1 ∧ sub.all (fun n => (t.hFind 0x07 n).isNone) then
      t.onKs (fun k => k.commit (sub.map (fun n => (n, none))))
    else t) s

/-! ### Purge -/

/-- A port's associations whose key lies in a purged set stop (R364, R550). -/
def Macsec.purged (m : Macsec) (hit : Nat → Bool) : Macsec :=
  let mark (t : Tab MsSa) : Tab MsSa := t.map (fun e => if hit e.2.node then (e.1, { e.2 with revoked := true, key := [] }) else e)
  { m with
    tx := mark m.tx, rx := mark m.rx
    txValid := m.txValid && !(m.tx.has m.txAn.toNat && hit (Tab.get m.tx m.txAn.toNat {}).node) }

/-- Some association of a port stops newly. -/
def Macsec.stops (m : Macsec) (hit : Nat → Bool) : Bool := (m.tx ++ m.rx).any (fun e => !e.2.revoked && hit e.2.node)

/-- A copy that leaves port p is protected by an association whose key lies in a purged set. -/
def State.underPurge (s : State) (p : Nat) (hit : Nat → Bool) (i : Nat) : Bool :=
  match s.frame i with
  | none => false
  | some f =>
    let b := Tab.get f.out p []
    let a : MsSa := Tab.get (s.macsec p).tx (u8At b 14 % 4) {}
    s.macsecOn p b && outerType b = 0x88E5 && !a.revoked && hit a.node

/-- The MACsec key registers of a set of nodes are zeroed; a frame in encryption leaves with an inverted FCS (R550). -/
def State.purgeMacsec (s : State) (hit : Nat → Bool) : State :=
  (List.range 10).foldl (fun t p =>
    let m := t.macsec p
    if m.stops hit then
      ((t.updSwPort p (fun u => { u with spoiled := u.spoiled ++ u.inFlight.filter (t.underPurge p hit) })).updMacsec p
        (fun m => m.purged hit)).ethEvent p 3
    else t) s

/-- KEY_REVOKED as a job status. -/
def stRevoked : U16 := 0x0020

/-- The key registers that carry a node are zeroed; jobs under it end with KEY_REVOKED; associations stop (R550). -/
def State.purge (s : State) (top : Nat) : State :=
  let hit (n : Nat) : Bool := s.ks.under top pathFuel n
  let s1 := s.onKs (fun k => { k with
    engine := k.engine.filter (fun n => !hit n), purges := satInc k.purges, ceEvent := k.ceEvent ||| 1 })
  let s2 := s1.onCe (fun c => { c with
    jobs := c.jobs.map (fun j => match j.node with
      | some n => if hit n ∧ j.fail.isNone then { j with fail := some stRevoked } else j
      | none => j) })
  s2.purgeMacsec hit

/-! ### KEY_DERIVE -/

/-- Key commands are answered BUSY while the key store is alarmed (R564), or not yet ready. -/
def State.ksReady (s : State) : Bool := s.ks.st = .ready

/-- KEY_DERIVE, 0x0701; its handle has rules of its own (R277). -/
def specKeyDerive : CmdSpec := { op := 0x0701, who := [.mgr, .sec, .gst], st := true }

/-- The payload of KEY_DERIVE (R277, R539). -/
def okKeyDerive (p : List Byte) : Bool :=
  4 ≤ p.length && u8At p 0 ≤ 5 && u8At p 1 ≤ 1 && (u8At p 1 = 0 || u8At p 0 = 0 || u8At p 0 = 5)
    && 1 ≤ u8At p 2 && u8At p 2 ≤ 64 && u8At p 3 = 0 && p.length = 4 + u8At p 2

/-- The parent may be used: a node of the issuer's, or the namespace root granted to it (R277). -/
def State.parentCheck (s : State) (rq : Request) : Status :=
  let own := s.issuerInst rq.route
  let root : Bool := !rq.isSec && own ≠ 0
    && (s.inst own).shares.any (fun e => e.kind = 0x09 && e.b = rq.handle)
  match s.checkHandle rq.route rq.handle [0x07] false false with
  | .ok => if ((s.ks.node (hIndex rq.handle)).getD {}).flags % 2 = 1 then .ok else .notOwner
  | .notOwner => if root ∧ ((s.ks.node (hIndex rq.handle)).getD {}).flags % 2 = 1 then .ok else .notOwner
  | e => e

/-- The key that an import carries, when its label is well formed and its tag holds (R540). -/
def KeyStore.importKey (k : KeyStore) (parent usage : Nat) (label : List Byte) : Option (List Byte) :=
  let n := if usage = 3 then 44 else 32
  let iv := label.take 12
  let ct := (label.drop 12).take n
  let key := k.keyBytes parent 0 32
  let aad := txtKimp ++ leBytes 1 usage
  if (usage = 0 ∨ usage = 1 ∨ usage = 3) ∧ label.length = n + 20
      ∧ (aesGcmTag key iv aad ct).take 8 = label.drop (12 + n) then
    some (fixLen n (aesGcm key iv aad ct))
  else none

/-- The free node numbers. -/
def KeyStore.freeNodes (k : KeyStore) : List Nat :=
  ((List.range 4088).map (fun i => i + 8)).filter (fun n => !k.nodes.has n)

/-- A node of the tree that a derivation matches (R539). -/
def KeyStore.matching (k : KeyStore) (parent usage flags : Nat) (label : List Byte) : Option Nat :=
  (k.nodes.find? (fun e => e.2.parent = parent && e.2.usage = usage && e.2.flags = flags && e.2.label = label)).map
    (fun e => e.1)

/-- A handle to a node, charged to the issuer (R541). -/
def State.nodeHandle (s : State) (n own : Nat) (sec : Bool) : State × Ans :=
  (s.hCreate 0x07 n own sec {} (0, 1, 0),
    { handle := some (mkHandle 0x07 own (s.genOf 0x07 n) n), payload := leBytes 1 ((s.ks.node n).getD {}).depth })

/-- The record of a new node (R537, R546). -/
def KeyStore.newNode (k : KeyStore) (parent : Nat) (p : List Byte) (imp : Option (List Byte)) : Node :=
  let r := (k.node parent).getD {}
  { parent := parent, depth := r.depth + 1, usage := u8At p 0, flags := u8At p 1, label := p.drop 4, sec := r.sec
    created := k.counter + 1, gen := 0, parentGen := r.gen, invalid := false, imported := imp }

/-- Opens or creates a node (R277, R539, R540). Which free number a new node takes is open: a free value (DESIGN CHOICE, log entry 38). -/
def ownKeyDerive (rq : Request) (s : State) : State × Ans :=
  let p := rq.payload
  let own := s.issuerInst rq.route
  let par := hIndex rq.handle
  let label := p.drop 4
  if ¬ s.ksReady then no s .busy
  else match s.parentCheck rq with
    | .ok =>
      if ¬ s.ks.current pathFuel par then no s .keyRevoked
      else
        let pu := ((s.ks.node par).getD {}).usage
        let imp := s.ks.importKey par (u8At p 0) label
        if pu = 0 ∧ (u8At p 1 ≠ 0 ∨ imp.isNone) then no s .badParam
        else match s.ks.matching par (u8At p 0) (u8At p 1) label with
          | some n =>
            if ¬ s.ks.current pathFuel n then no s .keyRevoked
            else if (s.hFind 0x07 n).isSome then no s .busy
            else if ¬ s.roomFor 0x07 0 own rq.isSec 1 0 then no s .noResource
            else s.nodeHandle n own rq.isSec
          | none =>
            let free := s.ks.freeNodes
            if free = [] ∨ 8 ≤ ((s.ks.node par).getD {}).depth ∨ ¬ s.roomFor 0x07 0 own rq.isSec 1 0 then no s .noResource
            else
              let n := free.getD (Config.freeNat 7 s.core.fresh % free.length) 8
              let r := s.ks.newNode par p (if pu = 0 then imp else none)
              ((s.onCore (fun c => { c with fresh := c.fresh + 1 })).onKs (fun k => k.commit [(n, some r)])).nodeHandle n own
                rq.isSec
    | e => no s e

/-- KEY_DERIVE (R277, R539). -/
def execKeyDerive (rq : Request) (s : State) : Out := serve specKeyDerive rq s okKeyDerive (ownKeyDerive rq)

/-! ### KEY_INVALIDATE -/

/-- KEY_INVALIDATE, 0x0702. -/
def specKeyInvalidate : CmdSpec := { op := 0x0702, who := everyIssuer, st := true, types := [0x07] }

/-- A current node is invalidated, its registers purged, the change committed; a node no longer current stays as it is (R542,
R543). -/
def ownKeyInvalidate (rq : Request) (s : State) : State × Ans :=
  let n := hIndex rq.handle
  if ¬ s.ksReady then no s .busy
  else if n < 8 then no s .badParam
  else if ¬ s.ks.current pathFuel n then yes s.reclaim
  else
    let r := (s.ks.node n).getD {}
    let s1 := s.onKs (fun k => k.commit [(n, some { r with invalid := true, gen := r.gen + 1 })])
    yes (s1.purge n).reclaim

/-- KEY_INVALIDATE (R542). -/
def execKeyInvalidate (rq : Request) (s : State) : Out := serve specKeyInvalidate rq s (fun p => p = []) (ownKeyInvalidate rq)

/-! ### KEY_SIGN and ATTEST -/

/-- KEY_SIGN, 0x0703. -/
def specKeySign : CmdSpec := { op := 0x0703, who := [.mgr, .sec, .gst], types := [0x07] }

/-- The payload of KEY_SIGN. -/
def okKeySign (p : List Byte) : Bool := p.length = 52 && u8At p 0 ≤ 2 && u8At p 1 = 0 && u16At p 2 = 0

/-- The signatures of an algorithm code, ECDSA first (R278). -/
def KeyStore.sign (k : KeyStore) (n : Option Nat) (alg : Nat) (digest : List Byte) : List Byte :=
  let sk := k.signKey n
  (if alg = 1 then [] else ecdsaSign k.signed sk digest) ++ (if alg = 0 then [] else mldsaSign k.signed sk digest)

/-- A signature is made at once with ECDSA alone, and later with ML-DSA-65 (R278, R553). -/
def ownKeySign (rq : Request) (s : State) : State × Ans :=
  let p := rq.payload
  let n := hIndex rq.handle
  let alg := u8At p 0
  if ¬ s.ksReady then no s .busy
  else if ((s.ks.node n).getD {}).usage ≠ 4 then no s .badParam
  else if ¬ s.ks.current pathFuel n then no s .keyRevoked
  else if alg = 0 then
    let s1 := (s.setResult rq.route.key (s.ks.sign (some n) 0 (p.drop 4))).onKs (fun k => { k with signed := k.signed + 1 })
    yesWith s1 (s1.resultInfo rq.route.key)
  else
    (s.onKs (fun k => { k with signing := k.signing ++
      [{ route := rq.route.key, seq := rq.seq, node := some n, alg := alg, data := p.drop 4 }] }), { st := .pending })

/-- KEY_SIGN (R278). -/
def execKeySign (rq : Request) (s : State) : Out := serve specKeySign rq s okKeySign (ownKeySign rq)

/-- The completion of a pending signature or token, with its result. -/
def State.signDone (s : State) (g : Signing) (bytes : List Byte) : State :=
  let s1 := (s.setResult g.route bytes).onKs (fun k => { k with signing := k.signing.erase g, signed := k.signed + 1 })
  s1.complete g.route g.seq .ok 0 (s1.resultInfo g.route)

/-- KEY_SIGN_COMPLETE: the oldest pending signature is made; a node no longer current gives KEY_REVOKED (R542, R553). -/
def execKeySignComplete (s : State) : Out :=
  match s.ks.signing.find? (fun g => g.node.isSome) with
  | none => .next s
  | some g =>
    if ¬ s.ksReady then .next s
    else if s.ks.current pathFuel (g.node.getD 0) then fin (s.signDone g (s.ks.sign g.node g.alg g.data))
    else fin ((s.onKs (fun k => { k with signing := k.signing.erase g })).complete g.route g.seq .keyRevoked 0 [])

/-- ATTEST, 0x0704. -/
def specAttest : CmdSpec := { op := 0x0704, who := [.mgr, .sec, .gst, .ptr, .svc], role := some 0, safe := true }

/-- The payload of ATTEST. -/
def okAttest (p : List Byte) : Bool :=
  12 ≤ p.length && 8 ≤ u8At p 0 && u8At p 0 ≤ 64 && u8At p 1 = 0 && u16At p 2 = 0 && p.length = 4 + u8At p 0

/-- A token is requested (R278). -/
def ownAttest (rq : Request) (s : State) : State × Ans :=
  if ¬ s.ksReady then no s .busy
  else
    (s.onKs (fun k => { k with signing := k.signing ++
      [{ route := rq.route.key, seq := rq.seq, data := rq.payload.drop 4, issuer := (rq.route.issuer.code, s.issuerInst rq.route) }] }),
      { st := .pending })

/-- ATTEST (R278). -/
def execAttest (rq : Request) (s : State) : Out := serve specAttest rq s okAttest (ownAttest rq)

/-- A CBOR head: major type and number. -/
def cborHead (major n : Nat) : List Byte :=
  let h (x : Nat) : Byte := BitVec.ofNat 8 (major * 32 + x)
  if n < 24 then [h n]
  else if n < 256 then h 24 :: leBytes 1 n
  else if n < 65536 then h 25 :: (leBytes 2 n).reverse
  else if n < 4294967296 then h 26 :: (leBytes 4 n).reverse
  else h 27 :: (leBytes 8 n).reverse
/-- A CBOR unsigned number. -/
def cborU (n : Nat) : List Byte := cborHead 0 n
/-- A CBOR byte string. -/
def cborB (b : List Byte) : List Byte := cborHead 2 b.length ++ b
/-- A CBOR text string. -/
def cborT (b : List Byte) : List Byte := cborHead 3 b.length ++ b

/-- The ueid: 0x01 and 32 bytes of the digest over the identity public keys (R552). -/
def KeyStore.ueid (k : KeyStore) : List Byte := 1 :: (sha384 (publicKeys (k.signKey none))).take 32

/-- "tag:trarvo.invalid,2024:zc40-eat". -/
def txtProfile : List Byte := bytesOf [116, 97, 103, 58, 116, 114, 97, 114, 118, 111, 46, 105, 110, 118, 97, 108, 105, 100, 44, 50,
  48, 50, 52, 58, 122, 99, 52, 48, 45, 101, 97, 116]

/-- Some pair is running, PAIR_STATUS.STATE 3 (R174). -/
def State.pairsUp (s : State) : Bool := (List.range 8).any (fun p => (s.pair p).st = .running)

/-- CORE_SAFETY.CMP_MASK: pairs that run compared (R174). -/
def State.comparedMask (s : State) : Byte :=
  (List.range 8).foldl (fun (m : Byte) p =>
    if (s.pair p).st = .running ∧ ¬ (s.pair p).split then m ||| bitOf 8 p else m) 0
/-- CORE_SAFETY.SPLIT_MASK: pairs with DBG_SPLIT (R174). -/
def State.splitMask (s : State) : Byte :=
  (List.range 8).foldl (fun (m : Byte) p => if (s.pair p).split then m ||| bitOf 8 p else m) 0
/-- CORE_SAFETY.STF_MASK: pairs that failed their last self-test (R174). -/
def State.stfMask (s : State) : Byte :=
  (List.range 8).foldl (fun (m : Byte) p => if (s.pair p).stf then m ||| bitOf 8 p else m) 0
/-- A mask as SAFETY_STATUS reports it: 0 while no pair runs (R279). -/
def State.shownMask (s : State) (m : Byte) : Byte := if s.pairsUp then m else 0

/-- dbgstat (R552). -/
def State.dbgstat (s : State) : Nat :=
  if s.aon.lifecycle = 4 then 4
  else if s.aon.lifecycle = 1 ∨ (s.aon.lifecycle = 3 ∧ s.core.dbg.opened.isSome) then 0 else 1

/-- The claims of a token in CBOR, in the order of R552. -/
def State.claims (s : State) (g : Signing) : List Byte :=
  let layers := (List.range 4).filter (fun i => s.ks.layers.has i)
  cborHead 5 10
    ++ cborU 10 ++ cborB g.data ++ cborU 256 ++ cborB s.ks.ueid
    ++ cborU 259 ++ cborB (bytesOf [86, 90, 67, 52, 48, 45, 48, 49])
    ++ cborU 260 ++ cborHead 4 1 ++ cborT (bytesOf [66, 50])
    ++ cborU 263 ++ cborU s.dbgstat ++ cborU 265 ++ cborT txtProfile
    ++ cborHead 1 70000 ++ cborHead 4 layers.length
    ++ (layers.map (fun i => cborHead 4 2 ++ cborU i ++ cborB (s.ks.layer i))).flatten
    ++ cborHead 1 70001 ++ cborHead 5 6 ++ cborU 1 ++ cborU s.aon.mode.code ++ cborU 2 ++ cborU s.aon.lifecycle.toNat
    ++ cborU 3 ++ cborU s.aon.failedStarts.toNat ++ cborU 4 ++ cborU s.safeCountNow
    ++ cborU 5 ++ cborU (s.shownMask s.comparedMask).toNat ++ cborU 6 ++ cborU (s.shownMask s.splitMask).toNat
    ++ cborHead 1 70002 ++ cborHead 4 2 ++ cborU g.issuer.1 ++ cborU g.issuer.2
    ++ cborHead 1 70003 ++ cborHead 4 2 ++ cborU s.tb.localT.toNat
    ++ (if s.tb.gstate = 0 then bytesOf [0xF6] else cborU s.tb.globalT.toNat)

/-- The protected header of a signature: its algorithm, by the magnitude of its negative code less 1, and the ueid as kid (R551; the labels 1
and 4 of RFC 9052: PRESUMED, log entry 171). -/
def coseHead (alg : Nat) (ueid : List Byte) : List Byte := cborHead 5 2 ++ cborU 1 ++ cborHead 1 alg ++ cborU 4 ++ cborB ueid

/-- The Sig_structure that a signature covers (R551; RFC 9052: PRESUMED, log entry 171). -/
def sigStructure (head payload : List Byte) : List Byte :=
  cborHead 4 5 ++ cborT (bytesOf [83, 105, 103, 110, 97, 116, 117, 114, 101]) ++ cborB [] ++ cborB head ++ cborB [] ++ cborB payload

/-- One signature of a token. -/
def coseSignature (head sig : List Byte) : List Byte := cborHead 4 3 ++ cborB head ++ cborHead 5 0 ++ cborB sig

/-- The token over its claims: a tagged COSE_Sign message with an ES384 and an ML-DSA-65 signature of the identity key, at most 6144 bytes.
Its unprotected header is a free value, since the spec does not give it (R551; DESIGN CHOICE, log entry 176). -/
def KeyStore.token (k : KeyStore) (payload : List Byte) : List Byte :=
  let sk := k.signKey none
  let h1 := coseHead 34 k.ueid
  let h2 := coseHead 48 k.ueid
  let sigs := cborHead 4 2 ++ coseSignature h1 (ecdsaSign k.signed sk (sha384 (sigStructure h1 payload)))
    ++ coseSignature h2 (mldsaSign k.signed sk (sigStructure h2 payload))
  let front := cborHead 6 98 ++ cborHead 4 4 ++ cborB []
  let back := cborB payload ++ sigs
  front ++ (Config.tokenHeader k.signed).take (6144 - front.length - back.length) ++ back

/-- ATTEST_COMPLETE: the oldest pending token is made (R551). -/
def execAttestComplete (s : State) : Out :=
  match s.ks.signing.find? (fun g => g.node.isNone) with
  | none => .next s
  | some g =>
    if ¬ s.ksReady then .next s
    else fin (s.signDone g (s.ks.token (s.claims g)))

/-! ### MACSEC_SA_SET -/

/-- MACSEC_SA_SET, 0x0306. -/
def specMacsecSaSet : CmdSpec := { op := 0x0306, who := [.mgr, .sec], types := [0x07] }

/-- The payload of MACSEC_SA_SET. -/
def okMacsecSa (p : List Byte) : Bool :=
  p.length = 24 && u8At p 0 ≤ 9 && u8At p 1 ≤ 1 && u8At p 2 ≤ 3 && u8At p 3 = 0

/-- The receive channel of an SCI: its own, or a free one of the four (R361). -/
def Macsec.rxFor (m : Macsec) (sci : U64) : Option Nat :=
  match m.rxSci.find? (fun e => e.2 = sci) with
  | some e => some e.1
  | none => (List.range 4).find? (fun c => !m.rxSci.has c)

/-- An association is installed and its MACsec key register loaded; one whose next PN stands at the threshold or above raises the event
(R361 to R363, R548, R549). -/
def ownMacsecSa (rq : Request) (s : State) : State × Ans :=
  let p := rq.payload
  let n := hIndex rq.handle
  let port := u8At p 0
  let an := u8At p 2
  let sci := BitVec.ofNat 64 (u64At p 4)
  let pn := BitVec.ofNat 64 (u64At p 12)
  let sa (reg : Nat) : MsSa := {
    node := n, pn := pn, reg := port * 20 + reg, ssci := BitVec.ofNat 32 (u32At p 20), key := s.ks.keyBytes n 0 44 }
  if ¬ s.ksReady then no s .busy
  else if ((s.ks.node n).getD {}).usage ≠ 3 then no s .badParam
  else if ¬ s.ks.current pathFuel n then no s .keyRevoked
  else if u8At p 1 = 0 then
    let t := s.updMacsec port (fun m => { m with
      txAn := BitVec.ofNat 2 an, txValid := true, txPn := pn, txSci := sci, tx := Tab.put m.tx an (sa an) })
    yes (if pnThreshold (s.macsec port).xpn ≤ pn.toNat then t.ethEvent port 2 else t)
  else match (s.macsec port).rxFor sci with
    | none => no s .badParam
    | some c => yes (s.updMacsec port (fun m => { m with
        rxSci := Tab.put m.rxSci c sci, rx := Tab.put m.rx (c * 4 + an) (sa (4 + c * 4 + an)) }))

/-- MACSEC_SA_SET (R266). -/
def execMacsecSaSet (rq : Request) (s : State) : Out := serve specMacsecSaSet rq s okMacsecSa (ownMacsecSa rq)

/-! ### Alarms -/

/-- The DRAM key is replaced or discarded: what was written is lost (R91, R563). -/
def State.loseDram (s : State) : State := s.onCore (fun c => { c with dram := [], dramEpoch := c.dramEpoch + 1 })

/-- The DRAM key is discarded and none is loaded: at SAFE entry, on a key store alarm and at a life-cycle transition (R563). -/
def State.discardDramKey (s : State) : State := s.loseDram.onCe (fun c => { c with ime := false })

/-- The key store is powered and out of reset: from step 2 of a start on, outside SLEEP and OFF (R84, R100). -/
def State.keysPowered (s : State) : Bool :=
  s.powered && match s.aon.mode with
  | .off => false
  | .sleep => false
  | .start => 2 ≤ s.aon.step
  | .part => true
  | .run => true
  | .safe => true
  | .recovery => true

/-- KEY_STORE_ALARM: everything is zeroed and jobs end without records, by the key store's own sequencer; Amind records the alarm and
asks for a reset, at step 3 where it does not run yet (R100, R564). In SAFE the pulse sets REQ_KEY alone (DEDUCED, log entry 117). -/
def execKeyStoreAlarm (code : BitVec 3) (s : State) : Out :=
  if code = 0 ∨ 5 < code.toNat ∨ s.ks.st = .alarmed ∨ ¬ s.keysPowered then .next s
  else
    let s1 := (s.onKs (fun k => { k with
      st := .alarmed, alarm := code, engine := [], roots := false, layers := [], signing := [], sessKeys := []
      ksEvent := k.ksEvent ||| 1 })).onCe (fun c => { c with jobs := [] })
    let s2 := (s1.purgeMacsec (fun _ => true)).discardDramKey
    fin (if s.amindUp then (s2.log .keyAlarm [BitVec.ofNat 8 code.toNat]).amindPulse .key 5 0xFF else s2)

/-! ### Registers (R567) -/

/-- MACsec key registers loaded. -/
def State.macsecRegs (s : State) : Nat :=
  s.eth.macsecs.foldl (fun n e => n + ((e.2.tx ++ e.2.rx).filter (fun a => !a.2.revoked)).length) 0

/-- A word of the key store page, for a reader: the secure roots read 0 to non-secure reads. -/
def State.ksWord (s : State) (t : Attr) (o : Nat) : U32 :=
  let k := s.ks
  if o = 0x000 then
    BitVec.ofNat 32 (match k.st with
      | .starting => 0
      | .ready => 1
      | .alarmed => 2) ||| flagAt k.replayed 2 ||| flagAt k.layer3 3
  else if o = 0x004 then BitVec.ofNat 32 k.nodes.length
  else if o = 0x008 then lo32 k.counter
  else if o = 0x00C then hi32 k.counter
  else if o = 0x010 then Tab.get k.rootHandles 3 0
  else if o = 0x014 then Tab.get k.rootHandles 5 0
  else if o = 0x018 then (if t.sec then Tab.get k.rootHandles 2 0 else 0)
  else if o = 0x01C then (if t.sec then Tab.get k.rootHandles 4 0 else 0)
  else if o = 0x020 then BitVec.ofNat 32 (k.engine.length + s.macsecRegs * 65536)
  else if o = 0x024 then fieldAt k.alarm 0
  else if o = 0x028 then k.purges
  else if o = 0x030 then lo32 k.byteLimit
  else if o = 0x034 then hi32 k.byteLimit
  else 0

/-- A word of the event page, for a reader: KS fields to secure accesses. -/
def State.ceEventWord (s : State) (o : Nat) : U32 :=
  if o = 0x000 then fieldAt s.ks.ceEvent 0
  else if o = 0x004 then fieldAt s.ks.ceEn 0
  else if o = 0x010 then fieldAt s.ks.ksEvent 0
  else if o = 0x014 then fieldAt s.ks.ksEn 0
  else 0

/-- A word write of the event page. -/
def State.ceEventPut (s : State) (o : Nat) (v m : U32) : State :=
  if o = 0x000 then s.onKs (fun k => { k with ceEvent := k.ceEvent &&& ~~~((v &&& m).truncate 2) })
  else if o = 0x004 then s.onKs (fun k => { k with ceEn := (mix (fieldAt k.ceEn 0) v m).truncate 2 })
  else if o = 0x010 then s.onKs (fun k => { k with ksEvent := k.ksEvent &&& ~~~((v &&& m).truncate 3) })
  else if o = 0x014 then s.onKs (fun k => { k with ksEn := (mix (fieldAt k.ksEn 0) v m).truncate 3 })
  else s

end Sys2Proof.Machine
end

