-- ==== Sys2Proof/Machine/Rings.lean ====
section
/-! DEFINITION. Cipher rings: RING_CREATE, the ring page with its doorbell, and the engine page (R278, R555, R567). -/

namespace Sys2Proof.Machine

open Sys2Proof

/-- The address of a ring page. -/
def ringPage (r : Nat) : Nat := 0x14100000 + r * 0x1000

/-- RING_CREATE, 0x0705. -/
def specRingCreate : CmdSpec := { op := 0x0705, who := [.mgr, .gst, .sec] }

/-- A power of two between two bounds. -/
def powerOfTwo (n lo hi : Nat) : Bool := lo ≤ n && n ≤ hi && n = 2 ^ Nat.log2 n

/-- The payload of RING_CREATE: a depth that is a power of 2 from 16 to 1024. -/
def State.okRingCreate (s : State) (owner : Nat) (sec : Bool) (p : List Byte) : Bool :=
  p.length = 12 && powerOfTwo (u16At p 0) 16 1024 && u16At p 2 = 0 && s.bindOk (bindAt p 8) owner sec 0

/-- A new ring: every field of its page at its reset value (R511, R555, R567). -/
def ownRingCreate (rq : Request) (s : State) : State × Ans :=
  let p := rq.payload
  let own := s.issuerInst rq.route
  let bw := u32At p 4
  if s.fnOffFor own rq.isSec 0x05 0 then no s .fnDisabled
  else match s.firstFree 0x06 64 with
    | none => no s .noResource
    | some r =>
      if ¬ s.roomFor 0x06 0 own rq.isSec 1 bw ∨ s.blockIsOff 0x01 then no s .noResource
      else
        (((s.takeFree 0x06 64).hCreate 0x06 r own rq.isSec (bindAt p 8) (0, 1, bw)).updRing r (fun _ =>
            { depth := BitVec.ofNat 16 (u16At p 0), enabled := true, sec := rq.isSec, mbps := BitVec.ofNat 16 bw, owner := own }),
          { handle := some (mkHandle 0x06 own (s.genOf 0x06 r) r), payload := leBytes 8 (ringPage r) })

/-- RING_CREATE (R555). -/
def execRingCreate (rq : Request) (s : State) : Out :=
  serve specRingCreate rq s (s.okRingCreate (s.issuerInst rq.route) rq.isSec) (ownRingCreate rq)

/-- The function 0x05 is disabled for a ring's owner. -/
def State.ringOff (s : State) (r : Nat) : Bool := s.fnOffFor (s.ring r).owner (s.ring r).sec 0x05 0

/-- Jobs of a ring in flight. -/
def State.ringJobs (s : State) (r : Nat) : List Job := s.ce.jobs.filter (fun j => j.ring = r)

/-- A tail index is taken modulo the depth (R313, R555). -/
def State.ringTail (s : State) (r : Nat) (v : U16) : State :=
  s.updRing r (fun g => { g with sqTail := BitVec.ofNat 16 (v.toNat % max 1 g.depth.toNat) })

/-- CR_SQ_TAIL_WRITE: the doorbell of a ring (R524, R555). -/
def execCrSqTailWrite (ring : Nat) (attr : Attr) (value : U16) (s : State) : Out :=
  if 64 ≤ ring then noUnit
  else s.issue attr fun attr =>
    fin (s.accessAt (writeX attr (ringPage ring + 0x10) 4 value.toNat) .write (fun s =>
      if (s.ring ring).stopped then (s, .terr, []) else (s.ringTail ring value, .ok, [])))

/-- A word of a ring page. -/
def State.ringWord (s : State) (r o : Nat) : U32 :=
  let g := s.ring r
  if o = 0x000 then lo32 g.sqBase
  else if o = 0x004 then hi32 g.sqBase
  else if o = 0x008 then lo32 g.cqBase
  else if o = 0x00C then hi32 g.cqBase
  else if o = 0x010 then fieldAt g.sqTail 0
  else if o = 0x014 then fieldAt g.sqHead 0
  else if o = 0x018 then fieldAt g.cqTail 0
  else if o = 0x01C then fieldAt g.cqHead 0
  else if o = 0x020 then
    fieldAt g.depth 0 ||| flagAt g.run 16 ||| flagAt (g.enabled && !s.ringOff r) 17 ||| flagAt g.sec 18
  else if o = 0x024 then fieldAt g.mbps 0
  else if o = 0x028 then BitVec.ofNat 32 (s.ringJobs r).length
  else if o = 0x030 then lo32 g.jobs
  else if o = 0x034 then hi32 g.jobs
  else if o = 0x038 then lo32 g.bytes
  else if o = 0x03C then hi32 g.bytes
  else if o = 0x040 then g.err
  else 0

/-- A 64-bit register with one word written under a byte mask. -/
def put64 (x : U64) (high : Bool) (v m : U32) : U64 :=
  let lo := if high then lo32 x else mix (lo32 x) v m
  let hi := if high then mix (hi32 x) v m else hi32 x
  hi.setWidth 64 <<< 32 ||| lo.setWidth 64

/-- A base with its low 12 bits at 0. -/
def pageBase (x : U64) : U64 := x &&& ~~~0xFFF

/-- A word write of a ring page. -/
def State.ringPut (s : State) (r o : Nat) (v m : U32) : State :=
  if o = 0x000 ∨ o = 0x004 then s.updRing r (fun g => { g with sqBase := pageBase (put64 g.sqBase (o = 0x004) v m) })
  else if o = 0x008 ∨ o = 0x00C then s.updRing r (fun g => { g with cqBase := pageBase (put64 g.cqBase (o = 0x00C) v m) })
  else if o = 0x010 then
    if m &&& 0xFFFF = 0 then s else s.ringTail r ((mix (fieldAt (s.ring r).sqTail 0) v m).truncate 16)
  else if o = 0x01C then
    s.updRing r (fun g => { g with cqHead := (mix (fieldAt g.cqHead 0) v m).truncate 16 })
  else if o = 0x020 then
    s.updRing r (fun g => { g with run := (mix (flagAt g.run 16) v m).getLsbD 16 })
  else s

/-- Staging bytes in use: the data of staged decryptions that have started (R560, R567). -/
def State.stagingUsed (s : State) : Nat :=
  s.ce.jobs.foldl (fun n j => if j.desc.op = 0x02 ∧ j.desc.len ≤ 65536 ∧ j.begun then n + j.desc.len else n) 0

/-- A word of the engine page. -/
def State.ceWord (s : State) (o : Nat) : U32 :=
  if o = 0x000 then BitVec.ofNat 32 s.ce.jobs.length ||| flagAt s.ce.ime 9
  else if o = 0x004 then BitVec.ofNat 32 s.stagingUsed
  else if o = 0x008 then lo32 s.ce.jobsDone
  else if o = 0x00C then hi32 s.ce.jobsDone
  else if o = 0x010 then s.ce.revoked
  else if o = 0x014 then s.ce.authFail
  else if o = 0x018 then s.ce.rmw
  else 0

end Sys2Proof.Machine
end

