-- ==== Sys2Proof/Machine/Time.lean ====
section
/-! DEFINITION. The time base and the timer comparators: the counter page with its shadows, firing, and TC_CTRL (R110 to R117, R147). -/

namespace Sys2Proof.Machine

open Sys2Proof

/-- The rate adjustment's unit: 1/256 ppb of 1 ns, as parts of a ns. -/
def rateUnit : Int := 256000000000

/-- One cycle of the 125 MHz reference: TIME_LOCAL advances by 8, TIME_GLOBAL by 8 ns and the rate adjustment (R110, R111). -/
def TimeBase.cycle (b : TimeBase) : TimeBase :=
  let f := b.frac + 8 * b.adj.toInt
  { b with
    localT := b.localT + 8
    globalT := b.globalT + 8 + BitVec.ofInt 64 (f / rateUnit)
    frac := f % rateUnit }

/-- A word of the counter page, and the base after the read: a 32-bit read of a low word latches the high word into the reader's
shadow, a read of a high word returns the shadow (R113, R114). -/
def TimeBase.read (b : TimeBase) (init o : Nat) : TimeBase × U32 :=
  if o = 0x000 then ({ b with shadowL := Tab.put b.shadowL init (hi32 b.localT) }, lo32 b.localT)
  else if o = 0x004 then (b, Tab.get b.shadowL init 0)
  else if o = 0x008 then ({ b with shadowG := Tab.put b.shadowG init (hi32 b.globalT) }, lo32 b.globalT)
  else if o = 0x00C then (b, Tab.get b.shadowG init 0)
  else if o = 0x010 then (b, fieldAt b.gstate 0 ||| fieldAt b.steps 16)
  else if o = 0x014 then (b, b.adj)
  else if o = 0x018 then (b, lo32 b.lastStep)
  else if o = 0x01C then (b, hi32 b.lastStep)
  else (b, 0)

/-- The counter page. -/
def tbPage : Nat := 0x16000000

/-- TB_LOW_WORD_READ: a 32-bit read of the low word of TB_LOCAL or TB_GLOBAL (R113). -/
def execTbLowWordRead (x : Xact) (s : State) : Out :=
  s.issueX x fun x =>
  let a := x.addr.toNat
  if (a = tbPage ∨ a = tbPage + 8) ∧ x.size = 4 then
    fin (s.accessAt x .read (fun s =>
      let r := s.tb.read x.attr.init.toNat (a - tbPage)
      ({ s with tb := r.1 }, .ok, leBytes 4 r.2.toNat)))
  else .next s

/-! ### Comparators -/

/-- Comparator n. -/
def State.timer (s : State) (n : Nat) : Comparator := Tab.get s.timers n {}
/-- Change comparator n. -/
def State.updTimer (s : State) (n : Nat) (f : Comparator → Comparator) : State := { s with timers := Tab.upd s.timers n {} f }

/-- The timers of the owner of comparator n are disabled (R517). -/
def State.timerOff (s : State) (n : Nat) : Bool :=
  match s.hFind 0x0B n with
  | some h => s.fnOffFor h.owner h.sec 0x0D 0
  | none => false

/-- The owner of comparator n is in an instance reset, which refuses arming (R522). -/
def State.timerReset (s : State) (n : Nat) : Bool :=
  match s.hFind 0x0B n with
  | some h => (s.inst h.owner).resetBegun
  | none => false

/-- The counter that a comparator selects. -/
def State.counter (s : State) (c : Comparator) : U64 := if c.base then s.tb.globalT else s.tb.localT

/-- The comparator has reached its value while armed; one whose function is disabled reads as not armed and does not fire (R116, R517, R519;
DEDUCED, log entry 168). -/
def State.due (s : State) (n : Nat) : Bool :=
  let c := s.timer n
  c.arm && !s.timerOff n && c.cmp.toNat ≤ (s.counter c).toNat

/-- A comparator fires: FIRED, and a reload for a periodic one, which counts the periods skipped (R116). -/
def Comparator.fire (c : Comparator) (now : U64) : Comparator :=
  if c.periodic then
    let n := (now.toNat - c.cmp.toNat) / max 1 c.period.toNat + 1
    { c with
      fired := true, cmp := c.cmp + BitVec.ofNat 64 (n * c.period.toNat), missed := satAdd c.missed (n - 1) }
  else { c with fired := true, arm := false }

/-- The MSI of a timer handle. -/
def State.timerMsi (s : State) (n : Nat) : State :=
  match s.hFind 0x0B n with
  | some h => s.msiBind h.bind h.sec 0
  | none => s

/-- A comparator whose value is reached fires, with one MSI (R116, R117). -/
def State.fireDue (s : State) (n : Nat) : State :=
  if s.due n then (s.updTimer n (fun c => c.fire (s.counter c))).timerMsi n else s

/-- COMPARATOR_FIRE (R116, R117). -/
def execComparatorFire (timer : Nat) (s : State) : Out := if 64 ≤ timer then noUnit else fin (s.fireDue timer)

/-- TC_CTRL as a word. -/
def State.tcCtrl (s : State) (n : Nat) : U32 :=
  let c := s.timer n
  flagAt (c.arm && !s.timerOff n) 0 ||| flagAt c.base 1 ||| flagAt c.fired 2 ||| flagAt c.periodic 3 ||| fieldAt c.missed 4

/-- A write of TC_CTRL: FIRED is W1C and takes MISSED with it; a periodic comparator with a period below 8 does not arm, whatever
else holds (R116). -/
def State.tcCtrlSet (s : State) (n : Nat) (v m : U32) : State :=
  let w := mix (flagAt (s.timer n).arm 0 ||| flagAt (s.timer n).base 1 ||| flagAt (s.timer n).periodic 3) v m
  let clr := (v &&& m).getLsbD 2
  let refuse : Bool := s.timerOff n || s.timerReset n
  s.updTimer n (fun c => { c with
    base := w.getLsbD 1, periodic := w.getLsbD 3
    arm := w.getLsbD 0 && !(w.getLsbD 3 && c.period.toNat < 8) && (!refuse || c.arm)
    fired := c.fired && !clr, missed := if clr then 0 else c.missed })

/-- A write of TC_CTRL behind a firing that is due (R117). -/
def State.tcCtrlPut (s : State) (n : Nat) (v m : U32) : State := (s.fireDue n).tcCtrlSet n v m

/-- A word of a comparator page. -/
def State.tcWord (s : State) (n o : Nat) : U32 :=
  let c := s.timer n
  if o = 0x000 then lo32 c.cmp
  else if o = 0x004 then hi32 c.cmp
  else if o = 0x008 then s.tcCtrl n
  else if o = 0x010 then c.period
  else 0

/-- A word write of a comparator page. -/
def State.tcPut (s : State) (n o : Nat) (v m : U32) : State :=
  if o = 0x000 ∨ o = 0x004 then s.updTimer n (fun c => { c with cmp := put64 c.cmp (o = 0x004) v m })
  else if o = 0x008 then s.tcCtrlSet n v m
  else if o = 0x010 then
    s.updTimer n (fun c =>
      let p := mix c.period v m
      { c with period := p, arm := c.arm && !(c.periodic && p.toNat < 8) })
  else s

/-- The first address of the comparator pages. -/
def tcBase : Nat := 0x16100000

/-- A write to a comparator page takes effect, whole, behind a firing that is due (R117). -/
def State.tcFirst (s : State) (a : Nat) : State :=
  if tcBase ≤ a ∧ a < tcBase + 0x40000 then s.fireDue ((a - tcBase) / 0x1000) else s

/-- TC_CTRL_WRITE: a word write of TC_CTRL of some comparator (R115, R116). -/
def execTcCtrlWrite (x : Xact) (s : State) : Out :=
  s.issueX x fun x =>
  let a := x.addr.toNat
  if tcBase ≤ a ∧ a < tcBase + 0x40000 ∧ a % 0x1000 = 8 ∧ x.data.length = 4 then
    fin (s.writeAt x (fun s =>
      s.tcCtrlPut ((a - tcBase) / 0x1000) (BitVec.ofNat 32 (leNat x.data)) (BitVec.allOnes 32)))
  else .next s

/-! ### TIMER_CREATE -/

/-- TIMER_CREATE, 0x0113. -/
def specTimerCreate : CmdSpec := { op := 0x0113, who := [.mgr, .sec, .gst], st := true }

/-- A comparator is granted with its fields at their reset values (R115, R511). -/
def ownTimerCreate (rq : Request) (s : State) : State × Ans :=
  let own := s.issuerInst rq.route
  if s.fnOffFor own rq.isSec 0x0D 0 then no s .fnDisabled
  else match s.firstFree 0x0B 64 with
    | none => no s .noResource
    | some n =>
      if ¬ s.roomFor 0x0B 0 own rq.isSec 1 0 then no s .noResource
      else
        (((s.takeFree 0x0B 64).hCreate 0x0B n own rq.isSec (bindAt rq.payload 0) (0, 1, 0)).updTimer n (fun _ => {}),
          { handle := some (mkHandle 0x0B own (s.genOf 0x0B n) n), payload := leBytes 8 (tcBase + n * 0x1000) })

/-- TIMER_CREATE (R115, R258). -/
def execTimerCreate (rq : Request) (s : State) : Out :=
  serve specTimerCreate rq s (fun p => p.length = 4 && s.bindOk (bindAt p 0) (s.issuerInst rq.route) rq.isSec 0)
    (ownTimerCreate rq)

end Sys2Proof.Machine
end

