-- ==== Sys2Proof/Machine/Csr.lean ====
section
/-! DEFINITION. The CSR file of a hart: the banks of the two worlds, the interrupt views, the interrupt files behind their CSRs, the
counters, the triggers, and who may access what (R141 to R147, R161, R169, R178 to R180, R187, R191). -/

namespace Sys2Proof.Machine

open Sys2Proof

/-! ### Banks and plain registers -/

/-- The S-level state that is banked per world, by CSR number (R179). -/
def bankedCsr (n : Nat) : Bool :=
  n ∈ [0x100, 0x104, 0x105, 0x106, 0x10A, 0x140, 0x141, 0x142, 0x143, 0x144, 0x14D, 0x180]

/-- The reset value of a CSR that no field of its own holds: stimecmp reads all ones (R147). -/
def csrReset (n : Nat) : U64 := if n = 0x14D then 0xFFFFFFFFFFFFFFFF else 0

/-- A CSR of the bank of a world (R179). -/
def Hart.bank (h : Hart) (w : Bool) (n : Nat) : U64 := Tab.get (if w then h.bankS else h.bankN) n (csrReset n)
/-- Set a CSR of the bank of a world. -/
def Hart.setBank (h : Hart) (w : Bool) (n : Nat) (v : U64) : Hart :=
  if w then { h with bankS := Tab.put h.bankS n v } else { h with bankN := Tab.put h.bankN n v }
/-- Set a shared CSR. -/
def Hart.setCsr (h : Hart) (n : Nat) (v : U64) : Hart := { h with csr := Tab.put h.csr n v }

/-- The sstatus fields of a bank: SIE, SPIE, SPP, SUM and MXR. -/
def sstatusBank : U64 := 0x00000000000C0122
/-- The mstatus fields that no field of their own holds: TSR, TW, TVM. -/
def mstatusRest : U64 := 0x0000000000700000

/-- A bit at a place of a 64-bit word. -/
def bit64 (b : Bool) (k : Nat) : U64 := if b then bitOf 64 k else 0

/-- mstatus, with the aliases of the bank that MWORLD.MPW names (R179). -/
def Hart.mstatus (h : Hart) : U64 :=
  bit64 h.mie 3 ||| bit64 h.mpie 7 ||| (h.mpp.setWidth 64 <<< 11) ||| (h.fs.setWidth 64 <<< 13) ||| bit64 h.mprv 17
    ||| bit64 h.gva 38 ||| bit64 h.mpv 39 ||| (h.bank h.mpw 0x100 &&& sstatusBank) ||| (h.csrAt 0x300 &&& mstatusRest)
    ||| bit64 (h.fs = 3) 63 ||| 0x0000000A00000000

/-- Write mstatus. -/
def Hart.putMstatus (h : Hart) (v : U64) : Hart :=
  let h1 : Hart := { h with
    mie := v.getLsbD 3, mpie := v.getLsbD 7, fs := v.extractLsb' 13 2, mprv := v.getLsbD 17
    mpp := if v.extractLsb' 11 2 = 2 then h.mpp else v.extractLsb' 11 2
    gva := v.getLsbD 38, mpv := v.getLsbD 39 }
  (h1.setBank h.mpw 0x100 (v &&& sstatusBank)).setCsr 0x300 (v &&& mstatusRest)

/-- sstatus of a world: its bank's fields, the shared FS with SD, and UXL (R179, R180). -/
def Hart.sstatus (h : Hart) (w : Bool) : U64 :=
  (h.bank w 0x100 &&& sstatusBank) ||| (h.fs.setWidth 64 <<< 13) ||| bit64 (h.fs = 3) 63 ||| 0x0000000200000000

/-- Write sstatus of a world. -/
def Hart.putSstatus (h : Hart) (w : Bool) (v : U64) : Hart :=
  { h with fs := v.extractLsb' 13 2 }.setBank w 0x100 (v &&& sstatusBank)

/-- vsstatus: SIE, SPIE, SPP, FS, SUM, MXR, with SD and UXL. -/
def Hart.vsstatus (h : Hart) : U64 :=
  let v := h.csrAt 0x200 &&& 0x00000000000C6122
  v ||| bit64 (v.extractLsb' 13 2 = 3) 63 ||| 0x0000000200000000

/-- hstatus. -/
def Hart.hstatus (h : Hart) : U64 :=
  bit64 h.hgva 6 ||| bit64 h.spv 7 ||| bit64 h.spvp 8 ||| bit64 h.hu 9 ||| (h.vgein.setWidth 64 <<< 12) ||| (h.hvt.setWidth 64 <<< 20)
    ||| 0x0000000200000000

/-- Write hstatus. VGEIN holds 0 to 15 (R141). -/
def Hart.putHstatus (h : Hart) (v : U64) : Hart :=
  { h with
    hgva := v.getLsbD 6, spv := v.getLsbD 7, spvp := v.getLsbD 8, hu := v.getLsbD 9
    vgein := if (v.extractLsb' 12 6).toNat ≤ 15 then v.extractLsb' 12 6 else h.vgein
    hvt := v.extractLsb' 20 3 }

/-- A write of satp, vsatp or hgatp of an unimplemented mode leaves the register unchanged: Bare, 8 and 9 exist (R141, R142). -/
def modeField (old new : U64) : U64 :=
  if (new >>> 60) = 0 ∨ (new >>> 60) = 8 ∨ (new >>> 60) = 9 then new else old

/-- The bits of hgatp: the mode, six bits of VMID (VMIDLEN = 6), and the page number of a root of 16 KiB (R20, R141). -/
def hgatpMask : U64 := 0xF003FFFFFFFFFFFC

/-- A toll window bound as a CSR: address bits 39 to 4 (R187). -/
def tollWord (a : BitVec 36) : U64 := a.setWidth 64 <<< 4

/-- misa (R141). -/
def misaValue : U64 := 0x80000000001411AF

/-! ### Interrupt files behind CSRs (R141, R169) -/

/-- An identity is pending, enabled and below the threshold. -/
def Imsic.shows (f : Imsic) (i : Nat) : Bool :=
  f.eip.getLsbD i && f.eie.getLsbD i && (f.threshold = 0 || i < f.threshold.toNat)

/-- The identity of highest priority that a file shows, 0 for none: the lowest number goes first. -/
def Imsic.top (f : Imsic) : Nat := ((List.range 512).find? (fun i => 1 ≤ i && f.shows i)).getD 0

/-- An interrupt file has a deliverable identity. -/
def Imsic.ready (f : Imsic) : Bool := f.delivery && f.top ≠ 0

/-- File `file` of a hart. -/
def State.imsic (s : State) (hart file : Nat) : Imsic := Tab.get s.core.imsics (hart * 17 + file) {}
/-- Change a file of a hart. -/
def State.updImsic (s : State) (hart file : Nat) (f : Imsic → Imsic) : State :=
  s.onCore (fun c => { c with imsics := Tab.upd c.imsics (hart * 17 + file) {} f })

/-- The identities that a file holds: 1 to 511 for the supervisor file, 1 to 255 for the others (R169). -/
def fileMask (file : Nat) : BitVec 512 :=
  (if file = 1 then BitVec.allOnes 512 else (BitVec.allOnes 256).setWidth 512) &&& ~~~1

/-- A topei register: the top identity in both halves. -/
def Imsic.topei (f : Imsic) : U64 := BitVec.ofNat 64 (f.top * 65536 + f.top)

/-- A write of a topei register claims the top identity. -/
def Imsic.claim (f : Imsic) : Imsic := { f with eip := putBit f.eip f.top false }

/-- An indirect register of a file, by its select value. -/
def Imsic.reg (f : Imsic) (sel : Nat) : U64 :=
  if sel = 0x70 then bit64 f.delivery 0
  else if sel = 0x72 then f.threshold.setWidth 64
  else if 0x80 ≤ sel ∧ sel < 0xC0 then f.eip.extractLsb' (32 * (sel - 0x80)) 64
  else if 0xC0 ≤ sel ∧ sel < 0x100 then f.eie.extractLsb' (32 * (sel - 0xC0)) 64
  else 0

/-- Place a 64-bit word in an array of identities. -/
def putWord64 (m : BitVec 512) (k : Nat) (v : U64) : BitVec 512 :=
  (m &&& ~~~((BitVec.allOnes 64).setWidth 512 <<< k)) ||| (v.setWidth 512 <<< k)

/-- A write of an indirect register of a file. -/
def Imsic.putReg (f : Imsic) (file sel : Nat) (v : U64) : Imsic :=
  if sel = 0x70 then { f with delivery := v.getLsbD 0 }
  else if sel = 0x72 then { f with threshold := v.setWidth 9 }
  else if 0x80 ≤ sel ∧ sel < 0xC0 then { f with eip := putWord64 f.eip (32 * (sel - 0x80)) v &&& fileMask file }
  else if 0xC0 ≤ sel ∧ sel < 0x100 then { f with eie := putWord64 f.eie (32 * (sel - 0xC0)) v &&& fileMask file }
  else f

/-- The select values that exist on a 64-bit hart: interrupt priorities and the registers of a file; the registers of an array have
even numbers. -/
def selectOk (sel : Nat) : Bool :=
  (0x30 ≤ sel && sel < 0x40 && sel % 2 = 0) || (0x70 ≤ sel && sel < 0x80) || (0x80 ≤ sel && sel < 0x100 && sel % 2 = 0)

/-- The select register and the file behind an indirect or topei CSR of a hart: machine, supervisor, or the selected guest file. -/
def Hart.fileOf (h : Hart) (c : Nat) : Nat × Nat :=
  if c = 0x351 ∨ c = 0x35C then (0x350, 0)
  else if c = 0x151 ∨ c = 0x15C then (0x150, 1)
  else (0x250, 1 + h.vgein.toNat)

/-! ### Pending interrupts -/

/-- An interrupt is pending at M-level or in the secure bank: a secure interrupt (R188). -/
def State.pendingSecure (s : State) (n cause : Nat) : Bool :=
  let h := s.hart n
  if cause = 11 then (s.imsic n 0).ready
  else if cause = 7 then h.mtip
  else if cause = 5 ∨ cause = 1 then (h.bank true 0x144).getLsbD cause
  else false

/-- hgeip: the guest files that have a deliverable identity (R169). -/
def State.hgeip (s : State) (n : Nat) : U64 :=
  (List.range 15).foldl (fun v g => v ||| bit64 (s.imsic n (2 + g)).ready (g + 1)) 0

/-- An interrupt is pending in the normal world (R189). -/
def State.pendingNormal (s : State) (n cause : Nat) : Bool :=
  let h := s.hart n
  if cause = 9 then (s.imsic n 1).ready || (h.csrAt 0x344).getLsbD 9
  else if cause = 5 ∨ cause = 1 then (h.bank false 0x144).getLsbD cause
  else if cause = 10 then (h.csrAt 0x645).getLsbD 10 || (h.vgein ≠ 0 && (s.imsic n (1 + h.vgein.toNat)).ready)
  else if cause = 12 then s.hgeip n &&& h.csrAt 0x607 ≠ 0
  else if cause = 6 then (h.csrAt 0x645).getLsbD 6 || (h.csrAt 0x344).getLsbD 6
  else if cause = 2 then (h.csrAt 0x645).getLsbD 2
  else if cause = 13 then (h.csrAt 0x344).getLsbD 13
  else false

/-! ### Sstc (R147) -/

/-- menvcfg.STCE: stimecmp drives STIP, and the modes below M reach it. -/
def Hart.stce (h : Hart) : Bool := (h.csrAt 0x30A).getLsbD 63
/-- henvcfg.STCE, read-only 0 while menvcfg.STCE is 0: vstimecmp drives VSTIP, and VS-mode reaches it. -/
def Hart.vstce (h : Hart) : Bool := h.stce && (h.csrAt 0x60A).getLsbD 63

/-! ### The VS level (R141) -/

/-- hvictl.VTI: the hypervisor injects the VS-level interrupt that hvictl names. -/
def Hart.vti (h : Hart) : Bool := (h.csrAt 0x609).getLsbD 30
/-- hvictl.IID. -/
def Hart.vtIid (h : Hart) : Nat := ((h.csrAt 0x609).extractLsb' 16 6).toNat
/-- hvictl.IPRIO. -/
def Hart.vtPrio (h : Hart) : Nat := ((h.csrAt 0x609).extractLsb' 0 8).toNat

/-- The VS-level interrupt that stands out, as vstopi chooses it: its number and its priority, lower first. The external interrupt has the
priority of its file's top identity, or that of hvictl; the others have the default one, and an injected one that of hvictl (R11, R141). -/
def State.vsTop (s : State) (n : Nat) : Option (Nat × Nat) :=
  let h := s.hart n
  let on (c : Nat) : Bool := s.pendingNormal n c && (h.csrAt 0x603).getLsbD c && (h.csrAt 0x604).getLsbD c
  let file := (s.imsic n (1 + h.vgein.toNat)).top
  let ext : Option (Nat × Nat) :=
    if ¬ on 10 then none
    else if h.vgein ≠ 0 ∧ file ≠ 0 then some (9, file)
    else if h.vgein = 0 ∧ h.vtIid = 9 ∧ h.vtPrio ≠ 0 then some (9, h.vtPrio)
    else some (9, 256)
  let other : Option (Nat × Nat) :=
    if h.vti then
      if h.vtIid = 0 ∨ h.vtIid = 9 then none
      else some (h.vtIid, if h.vtPrio ≠ 0 then h.vtPrio else if (h.csrAt 0x609).getLsbD 9 then 256 else 0)
    else if on 2 then some (1, 256)
    else if on 6 then some (5, 256)
    else none
  match ext, other with
  | none, o => o
  | e, none => e
  | some e, some o => if e.2 ≤ o.2 then some e else some o

/-- vstopi: the number, and a priority of 1 or with hvictl.IPRIOM that of the interrupt (R11, R141). -/
def State.vstopi (s : State) (n : Nat) : U64 :=
  match s.vsTop n with
  | none => 0
  | some (i, p) => BitVec.ofNat 64 (i * 65536 + (if ((s.hart n).csrAt 0x609).getLsbD 8 then min p 255 else 1))

/-- The interrupt causes, in the priority order of the privileged architecture (R189). -/
def causeOrder : List Nat := [11, 3, 7, 9, 1, 5, 12, 10, 2, 6, 13]

/-- A word with the bit of each cause that a test names. -/
def causeBits (p : Nat → Bool) : U64 := causeOrder.foldl (fun v c => v ||| bit64 (p c) c) 0

/-- mip as M-mode sees it, with the bank of a world (R147, R179). -/
def State.mip (s : State) (n : Nat) (w : Bool) : U64 :=
  causeBits (fun c =>
    if c = 11 ∨ c = 7 ∨ (w ∧ (c = 1 ∨ c = 5)) then s.pendingSecure n c else s.pendingNormal n c)

/-- sip of a world: the delegated ones of its SSIP and STIP, and in the normal world SEIP and LCOFIP (R178, R179, R189). -/
def State.sip (s : State) (n : Nat) (w : Bool) : U64 :=
  s.mip n w &&& (s.hart n).csrAt 0x303 &&& (if w then 0x22 else 0x2222)

/-- hie, with the bits that mie shows too. -/
def hieMask : U64 := 0x1444
/-- The bits of mie that no other register shows. -/
def mieMask : U64 := 0x2AAA
/-- The bits of mideleg that software sets; those of the H extension are set always. -/
def midelegMask : U64 := 0x2222

/-- The interrupt of highest priority among some, as topi shows it: its number and a priority of 1. -/
def topiOf (pend : U64) : U64 :=
  match causeOrder.find? (fun c => pend.getLsbD c) with
  | some c => BitVec.ofNat 64 (c * 65536 + 1)
  | none => 0

/-- The normal-world interrupts that are enabled one by one: by sie of the normal bank where mideleg gives them to S-mode, by hie, or
by mie. -/
def State.enabledNormal (s : State) (n cause : Nat) : Bool :=
  let h := s.hart n
  if cause ∈ [2, 6, 10, 12] then (h.csrAt 0x604).getLsbD cause
  else if (h.csrAt 0x303).getLsbD cause then (h.bank false 0x104).getLsbD cause
  else (h.csrAt 0x304).getLsbD cause

/-- A normal-world interrupt is pending and held while the hart is in the secure world: TOLLSTAT.NSPEND; one that is not enabled is not
held (R187, R189; DEDUCED, log entry 123). -/
def State.nspend (s : State) (n : Nat) : Bool :=
  (s.hart n).world && causeOrder.any (fun c => s.pendingNormal n c && s.enabledNormal n c)

/-! ### Counters (R146, R191) -/

/-- The counters of a hart count: in the normal world, and in the secure world while MWORLD.SCOUNT is 1 (R191). -/
def Hart.counting (h : Hart) : Bool := !h.world || h.scount

/-- The Sscofpmf filter of an event register holds the counter in the hart's mode: MINH, SINH, UINH, VSINH, VUINH. -/
def Hart.filtered (h : Hart) (e : U64) : Bool :=
  if h.priv = 3 then e.getLsbD 62
  else if h.virt then (if h.priv = 1 then e.getLsbD 59 else e.getLsbD 58)
  else if h.priv = 1 then e.getLsbD 61 else e.getLsbD 60

/-- A programmable counter goes up by n; at its overflow OF and LCOFIP set, if OF was clear (R146). -/
def Hart.bump (h : Hart) (k n : Nat) : Hart :=
  let v := h.csrAt (0xB00 + k) + BitVec.ofNat 64 n
  let e := h.csrAt (0x320 + k)
  let h1 := h.setCsr (0xB00 + k) v
  if v < h.csrAt (0xB00 + k) ∧ ¬ e.getLsbD 63 then
    (h1.setCsr (0x320 + k) (putBit e 63 true)).setCsr 0x344 (putBit (h.csrAt 0x344) 13 true)
  else h1

/-- An event occurs n times: each of mhpmcounter3 to 10 that selects it counts it, unless it is inhibited or filtered (R146). -/
def Hart.events (h : Hart) (ev n : Nat) : Hart :=
  if ¬ h.counting then h
  else (List.range 8).foldl (fun t i =>
    let k := 3 + i
    let e := t.csrAt (0x320 + k)
    if (e.extractLsb' 0 8).toNat = ev ∧ ¬ (t.csrAt 0x320).getLsbD k ∧ ¬ t.filtered e then t.bump k n else t) h

/-- An event occurs once (R146). -/
def Hart.event (h : Hart) (ev : Nat) : Hart := h.events ev 1

/-- A retirement: instret counts it, and cycle its beats (R146). -/
def Hart.retire (h : Hart) (beats : Nat) : Hart :=
  if ¬ h.counting then h
  else
    let h1 := if (h.csrAt 0x320).getLsbD 2 then h else h.setCsr 0xB02 (h.csrAt 0xB02 + 1)
    if (h.csrAt 0x320).getLsbD 0 then h1 else h1.setCsr 0xB00 (h.csrAt 0xB00 + BitVec.ofNat 64 beats)

/-- Hart n retires an instruction and changes: the beats of a retirement are open, at least one (DESIGN CHOICE, log entry 124). -/
def State.retired (s : State) (n : Nat) (f : Hart → Hart) : State :=
  let beats := 1 + Config.freeNat 3 s.core.fresh
  (s.updHart n (fun h => f (h.retire beats))).onCore (fun c => { c with fresh := c.fresh + 1 })

/-- Hart n stalls for an open number of beats, at least one, on a fabric response (event 0x07) or by its instance's regulator (0x08)
(R146; DESIGN CHOICE, log entry 124). -/
def State.stalledOn (s : State) (n ev : Nat) : State :=
  (s.updHart n (fun h => h.events ev (1 + Config.freeNat 3 s.core.fresh))).onCore (fun c => { c with fresh := c.fresh + 1 })

/-! ### Triggers and debug CSRs (R161) -/

/-- tdata1 of trigger t: type 2, mcontrol. -/
def Hart.mcontrol (h : Hart) (t : Nat) : U64 := Tab.get h.trig1 t 0x2000000000000000

/-- A write of tdata1: the type stays 2; dmode and the entry to debug mode are the debugger's. Of the matches equality, at least and less
than exist; size, timing, chain and the ranges of powers of two do not (R161; PRESUMED, log entry 143). -/
def Hart.putMcontrol (h : Hart) (t : Nat) (dbg : Bool) (v : U64) : Hart :=
  let old := h.mcontrol t
  if old.getLsbD 59 ∧ ¬ dbg then h
  else
    let body := (v &&& 0x000000000018005F) ||| 0x2000000000000000
    let kind := (v.extractLsb' 7 4).toNat
    let body := if kind = 2 ∨ kind = 3 then body ||| BitVec.ofNat 64 (kind * 128) else body
    let body := if dbg ∧ v.getLsbD 59 then body ||| bitOf 64 59 else body
    let act : Nat := if body.getLsbD 59 ∧ v.extractLsb' 12 4 = 1 then 1 else 0
    { h with trig1 := Tab.put h.trig1 t ((body &&& ~~~(0xF000 : U64)) ||| BitVec.ofNat 64 (act * 4096)) }

/-- Trigger t matches an access: its kind is enabled, and the address, or with select the data, compares with tdata2 as match says
(R161). -/
def Hart.matches (h : Hart) (t : Nat) (a : TrigAccess) : Bool :=
  let m := h.mcontrol t
  let v := if m.getLsbD 19 then a.data else a.addr
  let d := Tab.get h.trig2 t 0
  let k := (m.extractLsb' 7 4).toNat
  m.getLsbD (match a.kind with
    | .load => 0
    | .store => 1
    | .execute => 2) && (if k = 2 then d ≤ v else if k = 3 then v < d else v = d)

/-- The trigger that tselect selects. -/
def Hart.tsel (h : Hart) : Nat := (h.csrAt 0x7A0).toNat % 4

/-- dcsr: version 4, the stored enables, the cause of the last entry, and the privilege mode (R161). -/
def Hart.dcsr (h : Hart) : U64 :=
  0x40000000 ||| (h.csrAt 0x7B0 &&& 0xBE14) ||| (h.dcause.setWidth 64 <<< 6) ||| h.priv.setWidth 64

/-! ### Physical memory protection (R141) -/

/-- The configuration byte of PMP entry i. -/
def Hart.pmpCfg (h : Hart) (i : Nat) : Byte := (h.csrAt (0x3A0 + i / 8 * 2)).extractLsb' (8 * (i % 8)) 8

/-- A configuration byte as it is taken: a locked one stays, and so does one of the combinations that do not exist: write without
read, and four bytes at a granularity of 4 KiB. -/
def pmpByte (old new : Byte) : Byte :=
  if old.getLsbD 7 ∨ (new.getLsbD 1 ∧ ¬ new.getLsbD 0) ∨ new.extractLsb' 3 2 = 2 then old else new &&& 0x9F

/-- A write of a PMP configuration register: entry by entry. -/
def pmpCfgWrite (old new : U64) : U64 :=
  BitVec.ofNat 64 (leNat ((List.range 8).map (fun k => pmpByte (old.extractLsb' (8 * k) 8) (new.extractLsb' (8 * k) 8))))

/-- A PMP address register as it reads: below 4 KiB its bits read 0, and 1 for a power-of-two range. -/
def Hart.pmpAddr (h : Hart) (i : Nat) : U64 :=
  let v := h.csrAt (0x3B0 + i)
  if (h.pmpCfg i).getLsbD 4 then v ||| 0x1FF else v &&& ~~~0x3FF

/-- A PMP address register is locked: by its entry, or by the next one that uses it as its lower bound. -/
def Hart.pmpLocked (h : Hart) (i : Nat) : Bool :=
  (h.pmpCfg i).getLsbD 7 || (i < 15 && (h.pmpCfg (i + 1)).getLsbD 7 && (h.pmpCfg (i + 1)).extractLsb' 3 2 = 1)

/-! ### Reads and writes -/

/-- The CSRs that the harts implement (R141, R146, R161, R187). -/
def csrKnown (c : Nat) : Bool :=
  c ∈ [0x001, 0x002, 0x003, 0x150, 0x151, 0x15C, 0xDA0, 0xDB0, 0x200, 0x204, 0x205, 0x240, 0x241, 0x242, 0x243, 0x244, 0x24D, 0x250,
      0x251, 0x25C, 0x280, 0xEB0, 0x300, 0x301, 0x302, 0x303, 0x304, 0x305, 0x306, 0x308, 0x309, 0x30A, 0x320, 0x340, 0x341, 0x342,
      0x343, 0x344, 0x34A, 0x34B, 0x350, 0x351, 0x35C, 0x3A0, 0x3A2, 0x5C0, 0x5C1]
    || c ∈ [0x600, 0x602, 0x603, 0x604, 0x605, 0x606, 0x607, 0x608, 0x609, 0x60A, 0x643, 0x644, 0x645, 0x646, 0x647, 0x64A, 0x680,
      0xE12, 0x7A0, 0x7A1, 0x7A2, 0x7A4, 0x7B0, 0x7B1, 0x7B2, 0x7B3, 0x7C0, 0x7C1, 0x7C2, 0x7C3, 0xB00, 0xB02, 0xF11, 0xF12, 0xF13,
      0xF14, 0xF15, 0xFB0]
    || bankedCsr c || (0x323 ≤ c && c ≤ 0x33F) || (0x3B0 ≤ c && c ≤ 0x3BF) || (0xB03 ≤ c && c ≤ 0xB1F) || (0xC00 ≤ c && c ≤ 0xC1F)

/-- The CSRs that read 0 and ignore writes: the counters and event registers that do not exist (R146), and the parts of the AIA that are
options: mvien and hvien, and the priorities of hviprio1 and hviprio2 (R11; DEDUCED, log entry 142). -/
def csrZero (c : Nat) : Bool := c ∈ [0x308, 0x608, 0x646, 0x647] || (0xB0B ≤ c && c ≤ 0xB1F) || (0x32B ≤ c && c ≤ 0x33F) || (0xC0B ≤ c && c ≤ 0xC1F)

/-- The CSRs of a hart that show interrupts, with the bank of a world. -/
def State.csrIrq (s : State) (n : Nat) (w : Bool) (c : Nat) : Option U64 :=
  let h := s.hart n
  let hip := s.mip n false &&& hieMask
  if c = 0x344 then some (s.mip n w)
  else if c = 0x144 then some (s.sip n w)
  else if c = 0x303 then some (h.csrAt 0x303 ||| hieMask)
  else if c = 0x304 then some (h.csrAt 0x304 ||| h.csrAt 0x604)
  else if c = 0x644 then some hip
  else if c = 0x309 then some (s.mip n w &&& 0x2 ||| (h.csrAt 0x344 &&& 0x200) ||| (if h.stce then 0 else s.mip n w &&& 0x20))
  else if c = 0x244 then some ((hip &&& h.csrAt 0x603) >>> 1)
  else if c = 0x204 then some ((h.csrAt 0x604 &&& h.csrAt 0x603) >>> 1)
  else if c = 0xE12 then some (s.hgeip n)
  else if c = 0x351 ∨ c = 0x151 ∨ c = 0x251 then
    some ((s.imsic n (h.fileOf c).2).reg (h.csrAt (h.fileOf c).1).toNat)
  else if c = 0x35C ∨ c = 0x15C ∨ c = 0x25C then some (s.imsic n (h.fileOf c).2).topei
  else if c = 0xFB0 then some (topiOf (s.mip n w &&& (h.csrAt 0x304 ||| h.csrAt 0x604) &&& ~~~(h.csrAt 0x303 ||| hieMask)))
  else if c = 0xDB0 then some (topiOf ((s.mip n w &&& (h.csrAt 0x303 ||| hieMask) &&& ~~~h.csrAt 0x603) &&&
    (h.bank w 0x104 ||| h.csrAt 0x604)))
  else if c = 0xEB0 then some (s.vstopi n)
  else none

/-- A CSR of hart n as M-mode sees it, with the bank of a world (R141, R143, R146, R147, R179, R187). -/
def State.csrRead (s : State) (n : Nat) (w : Bool) (c : Nat) : U64 :=
  let h := s.hart n
  match s.csrIrq n w c with
  | some v => v
  | none =>
  if c = 0x300 then h.mstatus
  else if c = 0x100 then h.sstatus w
  else if c = 0x200 then h.vsstatus
  else if c = 0x301 then misaValue
  else if c = 0x600 then h.hstatus
  else if c = 0x7C0 then h.mtimecmp
  else if c = 0x24D then h.vstimecmp
  else if c = 0x7C1 then bit64 h.mpw 0 ||| bit64 h.tollen 1 ||| bit64 h.scount 2
  else if c = 0x7C2 then tollWord h.tollBase
  else if c = 0x7C3 then tollWord h.tollLimit
  else if c = 0x5C0 then h.tollEpc
  else if c = 0x5C1 then bit64 h.tollActive 0 ||| bit64 (s.nspend n) 1
  else if c = 0xF11 then 0
  else if c = 0xF12 then 0x8000000000000C40
  else if c = 0xF13 then 0x00000000000000B2
  else if c = 0xF14 then BitVec.ofNat 64 n
  else if c = 0xC01 then s.tb.localT
  else if csrZero c then 0
  else if 0xC00 ≤ c ∧ c ≤ 0xC1F then h.csrAt (0xB00 + (c - 0xC00))
  else if c = 0xDA0 then (List.range 8).foldl (fun v k => v ||| bit64 ((h.csrAt (0x323 + k)).getLsbD 63) (3 + k)) 0
  else if c = 0x001 then h.csrAt 3 &&& 0x1F
  else if c = 0x002 then (h.csrAt 3 >>> 5) &&& 7
  else if c = 0x7A1 then h.mcontrol h.tsel
  else if c = 0x7A2 then Tab.get h.trig2 h.tsel 0
  else if c = 0x7A4 then 4
  else if c = 0x7B0 then h.dcsr
  else if c = 0x7B1 then h.pc
  else if 0x3B0 ≤ c ∧ c ≤ 0x3BF then h.pmpAddr (c - 0x3B0)
  else if bankedCsr c then h.bank w c
  else h.csrAt c

/-- Under menvcfg.STCE STIP of a bank follows its stimecmp, and under henvcfg.STCE VSTIP follows vstimecmp with htimedelta, at a write of one
of them (R147). -/
def State.timerBits (s : State) (n : Nat) : State :=
  let now := s.tb.localT
  s.updHart n (fun h =>
    let f (t : Hart) (w : Bool) : Hart :=
      if t.stce then t.setBank w 0x144 (putBit (t.bank w 0x144) 5 ((t.bank w 0x14D).toNat ≤ now.toNat)) else t
    let h1 := f (f h false) true
    h1.setCsr 0x344 (putBit (h1.csrAt 0x344) 6 (h1.vstce && h1.vstimecmp.toNat ≤ (now + h1.csrAt 0x605).toNat)))

/-- A write of the interrupt CSRs of a hart, with the bank of a world, `wide` in M-mode's view of mip. -/
def Hart.putIrq (h : Hart) (w : Bool) (c : Nat) (v : U64) : Hart :=
  let hv (x : U64) (m : U64) : Hart := h.setCsr 0x645 ((h.csrAt 0x645 &&& ~~~m) ||| (x &&& m))
  let soft (t : Hart) (m : U64) : Hart :=
    let t0 := if m.getLsbD 1 then t.setBank w 0x144 (putBit (t.bank w 0x144) 1 (v.getLsbD 1)) else t
    let t1 := if m.getLsbD 5 ∧ ¬ h.stce then t0.setBank w 0x144 (putBit (t0.bank w 0x144) 5 (v.getLsbD 5)) else t0
    t1.setCsr 0x344 ((t1.csrAt 0x344 &&& ~~~(m &&& 0x2200)) ||| (v &&& m &&& 0x2200))
  if c = 0x344 then soft (hv v 0x4) 0x2222
  else if c = 0x309 then soft h 0x222
  else if c = 0x144 then soft h (h.csrAt 0x303 &&& (if w then 0x2 else 0x2002))
  else if c = 0x303 then h.setCsr 0x303 (v &&& midelegMask)
  else if c = 0x304 then (h.setCsr 0x304 (v &&& mieMask)).setCsr 0x604 (v &&& hieMask)
  else if c = 0x603 then h.setCsr 0x603 (v &&& 0x444)
  else if c = 0x604 then h.setCsr 0x604 (v &&& hieMask)
  else if c = 0x607 then h.setCsr 0x607 (v &&& 0xFFFE)
  else if c = 0x644 then hv v 0x4
  else if c = 0x645 then hv v 0x444
  else if c = 0x244 then hv (v <<< 1) (h.csrAt 0x603 &&& 0x4)
  else if c = 0x204 then
    let m := h.csrAt 0x603 &&& 0x444
    h.setCsr 0x604 ((h.csrAt 0x604 &&& ~~~m) ||| ((v <<< 1) &&& m))
  else if c = 0x104 then h.setBank w 0x104 (v &&& midelegMask)
  else h

/-- The CSRs that a write of interrupt bits reaches. -/
def csrIrqPut (c : Nat) : Bool := c ∈ [0x344, 0x309, 0x144, 0x303, 0x304, 0x603, 0x604, 0x607, 0x644, 0x645, 0x244, 0x204, 0x104]

/-- A write of a CSR that the hart holds itself. -/
def State.putCsr (s : State) (n : Nat) (w dbg : Bool) (c : Nat) (v : U64) : State :=
  s.updHart n (fun h =>
    if csrIrqPut c then h.putIrq w c v
    else if c = 0x300 then h.putMstatus v
    else if c = 0x100 then h.putSstatus w v
    else if c = 0x301 ∨ 0xC00 ≤ c ∨ c = 0x5C1 ∨ c = 0x7A4 ∨ csrZero c then h
    else if c = 0x600 then h.putHstatus v
    else if c = 0x7C0 then { h with mtimecmp := v, mtip := v.toNat ≤ s.tb.localT.toNat }
    else if c = 0x24D then { h with vstimecmp := v }
    else if c = 0x7C1 then
      { h with mpw := v.getLsbD 0, tollen := v.getLsbD 1, scount := v.getLsbD 2 && s.aon.lifecycle = 1 }
    else if c = 0x7C2 then { h with tollBase := (v >>> 4).truncate 36 }
    else if c = 0x7C3 then { h with tollLimit := (v >>> 4).truncate 36 }
    else if c = 0x5C0 then { h with tollEpc := v &&& ~~~1 }
    else if c = 0x7B1 then { h with pc := v &&& ~~~1 }
    else if c = 0x7B0 then
      { h with priv := if v.extractLsb' 0 2 = 2 ∨ (¬ h.world ∧ v.extractLsb' 0 2 = 3) then h.priv else v.extractLsb' 0 2 }.setCsr
        0x7B0 (v &&& 0xBE14)
    else if c = 0x180 then h.setBank w 0x180 (modeField (h.bank w 0x180) v)
    else if c = 0x280 then h.setCsr 0x280 (modeField (h.csrAt 0x280) v)
    else if c = 0x680 then h.setCsr 0x680 (modeField (h.csrAt 0x680) v &&& hgatpMask)
    else if c = 0x200 then h.setCsr 0x200 (v &&& 0x00000000000C6122)
    else if c = 0x609 then h.setCsr 0x609 (v &&& 0x403F03FF)
    else if c = 0x60A then h.setCsr 0x60A (if h.stce then v else v &&& 0x7FFFFFFFFFFFFFFF)
    else if c = 0x302 then h.setCsr 0x302 (v &&& ~~~0x800)
    else if c = 0x602 then h.setCsr 0x602 (v &&& ~~~0xF00E00)
    else if c = 0x305 ∨ c = 0x205 then h.setCsr c (v &&& ~~~2)
    else if c = 0x105 then h.setBank w 0x105 (v &&& ~~~2)
    else if c = 0x341 ∨ c = 0x241 then h.setCsr c (v &&& ~~~1)
    else if c = 0x141 then h.setBank w 0x141 (v &&& ~~~1)
    else if c = 0x320 then h.setCsr 0x320 (v &&& 0x7FD)
    else if c = 0x001 then { h with fs := 3 }.setCsr 3 ((h.csrAt 3 &&& 0xE0) ||| (v &&& 0x1F))
    else if c = 0x002 then { h with fs := 3 }.setCsr 3 ((h.csrAt 3 &&& 0x1F) ||| ((v &&& 7) <<< 5))
    else if c = 0x003 then { h with fs := 3 }.setCsr 3 (v &&& 0xFF)
    else if c = 0x7A0 then (if v.toNat < 4 then h.setCsr 0x7A0 v else h)
    else if c = 0x7A1 then h.putMcontrol h.tsel dbg v
    else if c = 0x7A2 then
      (if (h.mcontrol h.tsel).getLsbD 59 ∧ ¬ dbg then h else { h with trig2 := Tab.put h.trig2 h.tsel v })
    else if c = 0x3A0 ∨ c = 0x3A2 then h.setCsr c (pmpCfgWrite (h.csrAt c) v)
    else if 0x3B0 ≤ c ∧ c ≤ 0x3BF then
      (if h.pmpLocked (c - 0x3B0) then h else h.setCsr c (v &&& 0x003FFFFFFFFFFFFF))
    else if bankedCsr c then h.setBank w c v
    else h.setCsr c v)

/-- Write a CSR of hart n as M-mode sees it, with the bank of a world; `dbg` for a debugger's write. Read-only registers ignore it. -/
def State.csrSet (s : State) (n : Nat) (w dbg : Bool) (c : Nat) (v : U64) : State :=
  let h := s.hart n
  if c = 0x351 ∨ c = 0x151 ∨ c = 0x251 then
    s.updImsic n (h.fileOf c).2 (fun f => f.putReg (h.fileOf c).2 (h.csrAt (h.fileOf c).1).toNat v)
  else if c = 0x35C ∨ c = 0x15C ∨ c = 0x25C then s.updImsic n (h.fileOf c).2 Imsic.claim
  else if c = 0x14D ∨ c = 0x24D ∨ c = 0x605 ∨ c = 0x30A ∨ c = 0x60A then (s.putCsr n w dbg c v).timerBits n
  else s.putCsr n w dbg c v

/-- Write a CSR of hart n as M-mode sees it (R141, R147, R179, R187). -/
def State.csrWrite (s : State) (n : Nat) (w : Bool) (c : Nat) (v : U64) : State := s.csrSet n w false c v

/-! ### Who may write -/

/-- The VS-level CSR that an S-level number reaches with V = 1; senvcfg and scounteren have none. -/
def vsNumber (c : Nat) : Nat :=
  if c ∈ [0x100, 0x104, 0x105, 0x140, 0x141, 0x142, 0x143, 0x144, 0x14D, 0x150, 0x151, 0x15C, 0x180] then c + 0x100 else c

/-- stimecmp and vstimecmp below M-mode: illegal without menvcfg.STCE and mcounteren.TM, and in VS-mode, which reaches vstimecmp, a virtual
instruction without henvcfg.STCE and hcounteren.TM or under hvictl.VTI (R147). -/
def Hart.sstcFault (h : Hart) (c : Nat) : Option Nat :=
  if (c ≠ 0x14D ∧ c ≠ 0x24D) ∨ h.priv = 3 then none
  else if ¬ (h.stce ∧ (h.csrAt 0x306).getLsbD 1) then some 2
  else if h.virt ∧ ¬ ((h.csrAt 0x60A).getLsbD 63 ∧ (h.csrAt 0x606).getLsbD 1 ∧ ¬ h.vti) then some 22
  else none

/-- The exception that a write of a CSR raises in the hart's state by its level and number: 2 illegal instruction, 22 virtual instruction
(R142, R177, R178, R187). -/
def State.levelFault (s : State) (n c : Nat) : Option Nat :=
  let h := s.hart n
  let lvl := c / 256 % 4
  if ¬ csrKnown c ∨ c / 1024 = 3 ∨ (0x7B0 ≤ c ∧ c ≤ 0x7B3) then some 2
  else if lvl = 3 then
    (if h.priv = 3 ∧ (c ≠ 0x351 ∨ selectOk (h.csrAt 0x350).toNat) then none else some 2)
  else if c = 0x5C0 ∨ c = 0x5C1 then (if h.world ∧ h.priv ≠ 0 then none else some 2)
  else if c ≤ 3 then
    (if h.fs = 0 ∨ (h.virt ∧ (h.csrAt 0x200).extractLsb' 13 2 = 0) then some 2 else none)
  else if h.world ∧ h.priv ≠ 3 then
    if lvl = 2 ∨ c = 0x150 ∨ c = 0x151 ∨ c = 0x15C ∨ h.priv = 0 then some 2
    else if c = 0x180 ∧ (h.csrAt 0x300).getLsbD 20 then some 2
    else none
  else if h.virt then
    if lvl = 2 ∨ h.priv = 0 then some 22
    else if c = 0x180 ∧ h.hvt.getLsbD 0 then some 22
    else if (c = 0x104 ∨ c = 0x144) ∧ h.vti then some 22
    else if c = 0x15C ∧ h.vgein = 0 then some 22
    else if c = 0x151 ∧ ¬ (selectOk (h.csrAt 0x250).toNat ∧ 0x70 ≤ (h.csrAt 0x250).toNat ∧ h.vgein ≠ 0) then some 22
    else none
  else if h.priv = 0 then some 2
  else if h.priv = 1 ∧ (c = 0x180 ∨ c = 0x680) ∧ (h.csrAt 0x300).getLsbD 20 then some 2
  else if (c = 0x25C ∨ c = 0x251) ∧ h.vgein = 0 then some 2
  else if (c = 0x351 ∨ c = 0x151 ∨ c = 0x251) ∧ ¬ selectOk (h.csrAt (h.fileOf c).1).toNat then some 2
  else none

/-- The exception that a write of a CSR raises: by its level and number, and by Sstc (R142, R147, R177, R178, R187). -/
def State.csrFault (s : State) (n c : Nat) : Option Nat :=
  match s.levelFault n c with
  | some e => some e
  | none => (s.hart n).sstcFault c

end Sys2Proof.Machine
end

