-- ==== Sys2Proof/Machine/Harts.lean ====
section
/-! DEFINITION. The harts: traps, interrupts, returns, TOLL and TOLLRET, fences, world CSRs, memory errors, debug, and the
registers of region 0x03 (R141 to R192, R646). -/

namespace Sys2Proof.Machine

open Sys2Proof

/-! ### Traps -/

/-- The hart executes: its pair runs, and its boot check has not failed. -/
def State.hartRuns (s : State) (h : Nat) : Bool := (s.pair h).st = .running && !(s.hart h).bootWait

/-- The exceptions whose tval is a virtual address. -/
def addrCause (c : Nat) : Bool := c ∈ [0, 1, 3, 4, 5, 6, 7, 12, 13, 15, 20, 21, 23]
/-- The guest-page faults, whose guest physical address the trap also records. -/
def gpaCause (c : Nat) : Bool := c ∈ [20, 21, 23]

/-- The address of a trap vector: vectored interrupts add four times their cause. -/
def vectorAt (tvec : U64) (cause : Nat) (intr : Bool) : U64 :=
  let base := tvec &&& ~~~3
  if intr && tvec.getLsbD 0 then base + BitVec.ofNat 64 (4 * cause) else base

/-- The cause register of a trap. -/
def causeWord (cause : Nat) (intr : Bool) : U64 := BitVec.ofNat 64 cause ||| bit64 intr 63

/-- Entry to M-mode in the secure world: the previous world is saved in MWORLD.MPW (R176). -/
def Hart.trapM (h : Hart) (cause : Nat) (intr : Bool) (tval pc gpa : U64) : Hart :=
  let h1 : Hart := { h with
    mpw := h.world, world := true, mpp := h.priv, mpv := h.virt, mpie := h.mie, mie := false, priv := 3, virt := false
    gva := h.virt && !intr && addrCause cause, pc := vectorAt (h.csrAt 0x305) cause intr }
  ((((h1.setCsr 0x341 pc).setCsr 0x342 (causeWord cause intr)).setCsr 0x343 tval).setCsr 0x34B gpa).setCsr 0x34A 0

/-- sstatus at a trap: SPIE takes SIE, SIE clears, SPP holds whether the trap came from S-mode. -/
def sstatusTrap (v : U64) (fromS : Bool) : U64 := putBit (putBit (putBit v 5 (v.getLsbD 1)) 1 false) 8 fromS

/-- Entry to S-mode of the world in which the trap occurs (R177). -/
def Hart.trapS (h : Hart) (cause : Nat) (intr : Bool) (tval pc gpa : U64) : Hart :=
  let w := h.world
  let h1 := ((((h.setBank w 0x100 (sstatusTrap (h.bank w 0x100) (h.priv = 1))).setBank w 0x141 pc).setBank w 0x142
    (causeWord cause intr)).setBank w 0x143 tval)
  let h2 : Hart := { h1 with priv := 1, virt := false, pc := vectorAt (h.bank w 0x105) cause intr }
  if w then h2
  else
    (({ h2 with
      spv := h.virt, spvp := if h.virt then h.priv = 1 else h.spvp
      hgva := h.virt && !intr && addrCause cause }).setCsr 0x643 gpa).setCsr 0x64A 0

/-- Entry to VS-mode. -/
def Hart.trapVS (h : Hart) (cause : Nat) (intr : Bool) (tval pc : U64) : Hart :=
  let c := if intr then cause - 1 else cause
  let h1 : Hart := { h with priv := 1, virt := true, pc := vectorAt (h.csrAt 0x205) c intr }
  (((h1.setCsr 0x200 (sstatusTrap (h.csrAt 0x200) (h.priv = 1))).setCsr 0x241 pc).setCsr 0x242 (causeWord c intr)).setCsr
    0x243 tval

/-- An exception enters the mode that medeleg and hedeleg give (R176, R177). -/
def Hart.exception (h : Hart) (cause : Nat) (tval pc gpa : U64) : Hart :=
  if h.priv = 3 ∨ ¬ (h.csrAt 0x302).getLsbD cause then h.trapM cause false tval pc gpa
  else if h.virt ∧ (h.csrAt 0x602).getLsbD cause then h.trapVS cause false tval pc
  else h.trapS cause false tval pc gpa

/-- An exception of hart n, which event 0x09 counts (R146); the guest physical address of a guest-page fault is open (DESIGN CHOICE,
log entry 39). -/
def State.trap (s : State) (n cause : Nat) (tval pc : U64) : State :=
  let gpa := if gpaCause cause then Config.freeWord 1 s.core.fresh else 0
  (s.updHart n (fun h => (h.event 0x09).exception cause tval pc gpa)).onCore (fun c => { c with fresh := c.fresh + 1 })

/-- An illegal-instruction (2) or virtual-instruction (22) exception at the hart's own pc: its tval is open (DESIGN CHOICE, log entry 39). -/
def State.illegal (s : State) (n cause : Nat) : State :=
  s.trap n cause (Config.freeWord 2 s.core.fresh) (s.hart n).pc

/-- TRAP_ENTRY: an exception with its cause, tval and the pc that it names (R176, R177). -/
def execTrapEntry (hart : Nat) (cause tval pc : U64) (s : State) : Out :=
  if 8 ≤ hart then noUnit
  else if s.hartRuns hart ∧ cause.toNat < 64 then fin (s.trap hart cause.toNat tval pc)
  else .next s

/-! ### Misaligned accesses -/

/-- A misaligned access of a hart that no hardware completes: outside the cacheable regions, or across a page (R145, R149). -/
def Xact.misaligned (x : Xact) (n : Nat) : Bool :=
  let a := x.addr.toNat
  x.attr.init.toNat < 8 && (n = 2 || n = 4 || n = 8) && a % n ≠ 0
    && (¬ (target a ∈ [0x01, 0x02, 0x10]) || a / 4096 ≠ (a + n - 1) / 4096)

/-- The address-misaligned exception of a hart: 4 for a load or LR, 6 for a store, AMO or SC; the virtual address is not that of the
fabric, so tval is open (R145; DESIGN CHOICE, log entry 129). -/
def State.misalignedTrap (s : State) (hart cause : Nat) : State :=
  if s.hartRuns hart then s.trap hart cause (Config.freeWord 8 s.core.fresh) (s.hart hart).pc else s

/-- A row's access, where it is not the misaligned one of a hart that raises an exception (R145). -/
def State.aligned (s : State) (x : Xact) (n cause : Nat) (k : Out) : Out :=
  if x.misaligned n then fin (s.misalignedTrap x.attr.init.toNat cause) else k

/-! ### Debug -/

/-- The debug port answers (R162). -/
def State.portOpen (s : State) : Bool := s.aon.lifecycle = 1 || (s.aon.lifecycle = 3 && s.core.dbg.opened.isSome)

/-- dcsr.cause of an entry: 1 ebreak, 2 trigger, 3 halt request, 4 single step (R161). -/
def HaltCause.code : HaltCause → BitVec 3
  | .ebreak => 1
  | .trigger _ _ => 2
  | .request => 3
  | .step => 4

/-- A pair enters debug mode: the first entry suspends its comparison and raises wired source 192 (R163, R646). -/
def State.debugEnter (s : State) (p : Nat) (why : HaltCause) : State :=
  let first := !(s.pair p).split
  let s1 := ((if first then s.raiseAgain 192 else s).updPair p (fun q => { q with
    st := .halted, split := true, haltReq := false, splitTime := if first then s.now else q.splitTime })).updHart p
      (fun h => { h with dcause := why.code })
  if first then s1.log .lockstepSuspended [BitVec.ofNat 8 p] else s1

/-- A halt that waited for the normal world takes place once the hart has returned to it (R162). -/
def State.heldHalt (s : State) (p : Nat) : State :=
  if (s.pair p).haltReq ∧ ¬ (s.hart p).world ∧ s.portOpen then s.debugEnter p .request else s

/-- dcsr enables the entry by an ebreak in the hart's mode, or by a single step, and tdata1 with tdata2 that by a trigger (R161). -/
def Hart.dcsrBit (h : Hart) (why : HaltCause) : Bool :=
  match why with
  | .ebreak => (h.csrAt 0x7B0).getLsbD (if h.priv = 3 then 15 else if h.priv = 1 then 13 else 12)
  | .trigger t a => t < 4 && (h.mcontrol t).getLsbD 12 && (h.mcontrol t).getLsbD (if h.priv = 3 then 6 else if h.priv = 1 then 4 else 3)
    && h.matches t a
  | .request => true
  | .step => (h.csrAt 0x7B0).getLsbD 2

/-- A halt of a running pair: in SERVICE a halt request in the secure world is deferred to the normal world, and no trigger fires there
(R162, R163). -/
def State.haltPair (s : State) (p : Nat) (why : HaltCause) : State :=
  if ¬ (s.portOpen ∧ (s.pair p).st = .running ∧ (s.hart p).dcsrBit why) then s
  else if s.aon.lifecycle = 3 ∧ (s.hart p).world then
    (match why with
    | .trigger _ _ => s
    | _ => s.updPair p (fun q => { q with haltReq := true }))
  else s.debugEnter p why

/-- DEBUG_MODE_ENTRY (R162, R163). -/
def execDebugModeEntry (entry : DebugEntry) (s : State) : Out :=
  if 8 ≤ entry.pair then noUnit else fin (s.haltPair entry.pair entry.why)

/-- A halted pair runs on without its checker (R164). -/
def State.resumePair (s : State) (p : Nat) : State :=
  if s.portOpen ∧ (s.pair p).st = .halted then s.updPair p (fun q => { q with st := .running, resumeAck := true }) else s

/-- DEBUG_RESUME (R164). -/
def execDebugResume (pair : Nat) (s : State) : Out := if 8 ≤ pair then noUnit else fin (s.resumePair pair)

/-- A register of a halted hart by its abstract number, with whether the access is permitted: the CSRs that exist, and in SERVICE those of
the normal world, which has no M-level and no world CSRs (R161, R162). -/
def State.regOk (s : State) (r : Nat) (write : Bool) : Bool :=
  if r < 0x1000 then
    csrKnown r && !(write && r / 1024 = 3)
      && (s.aon.lifecycle = 1 || (r / 256 % 4 ≠ 3 && r ∉ [0x5C0, 0x5C1]) || (0x7B0 ≤ r && r ≤ 0x7B3))
  else r < 0x1040

/-- Read a register of a halted hart. -/
def State.regRead (s : State) (n r : Nat) : U64 :=
  let h := s.hart n
  if r < 0x1000 then s.csrRead n (if s.aon.lifecycle = 1 then h.mpw else false) r
  else if r = 0x1000 then 0
  else if r < 0x1020 then Tab.get h.x (r - 0x1000) 0
  else Tab.get h.f (r - 0x1020) 0

/-- Write a register of a halted hart. -/
def State.regWrite (s : State) (n r : Nat) (v : U64) : State :=
  if r < 0x1000 then s.csrSet n (if s.aon.lifecycle = 1 then (s.hart n).mpw else false) true r v
  else s.updHart n (fun h =>
    if r = 0x1000 then h
    else if r < 0x1020 then { h with x := Tab.put h.x (r - 0x1000) v }
    else { h with f := Tab.put h.f (r - 0x1020) v })

/-- Change the debug module. -/
def State.onDbg (s : State) (f : Dbg → Dbg) : State := s.onCore (fun k => { k with dbg := f k.dbg })

/-- The debug module's outcome of a command. -/
def State.cmderr (s : State) (c : Nat) : State := s.onDbg (fun d => { d with cmderr := BitVec.ofNat 3 c })

/-- The program buffer as halfwords, with the implicit ebreak behind it (R161). -/
def Dbg.halves (d : Dbg) : List U16 :=
  (List.range 8).flatMap (fun k => let w := Tab.get d.progbuf k 0; [w.setWidth 16, (w >>> 16).setWidth 16]) ++ [0x9002]

/-- A program buffer runs to its first ebreak; a custom-0 word raises an illegal-instruction exception there. The effects of the other
instructions arrive as commands of their own (R162, R181, R182; log entry 125). -/
def progbufFails : List U16 → Bool
  | [] => false
  | [a] => ¬ (a = 0x9002)
  | a :: b :: r =>
    if a = 0x9002 then false
    else if a.extractLsb' 0 2 ≠ 3 then progbufFails (b :: r)
    else if a.extractLsb' 0 7 = 0x0B then true
    else if a = 0x0073 ∧ b = 0x0010 then false
    else progbufFails r

/-- The transfer of an Access Register command (R161). -/
def State.transfer (s : State) (hart : Nat) (command : U32) : State :=
  let r := (command.extractLsb' 0 16).toNat
  let narrow (v : U64) : U64 := if command.extractLsb' 20 3 = 2 then v &&& 0xFFFFFFFF else v
  if ¬ command.getLsbD 17 then s
  else if command.getLsbD 16 then s.regWrite hart r (narrow s.core.dbg.data)
  else
    let v := s.regRead hart r
    s.onDbg (fun d => { d with
      data := if command.extractLsb' 20 3 = 2 then (d.data &&& 0xFFFFFFFF00000000) ||| narrow v else v })

/-- DEBUG_ACCESS_REGISTER: the Access Register command on a halted hart: none starts while cmderr holds an error, and postexec runs the
program buffer after the transfer (R161, R162). -/
def execDebugAccessRegister (hart : Nat) (command : U32) (s : State) : Out :=
  if 8 ≤ hart then noUnit
  else if ¬ s.portOpen ∨ s.core.dbg.cmderr ≠ 0 then .next s
  else
    let size := (command.extractLsb' 20 3).toNat
    if command.extractLsb' 24 8 ≠ 0 ∨ command.getLsbD 19 ∨ (command.getLsbD 17 ∧ size ≠ 2 ∧ size ≠ 3) then fin (s.cmderr 2)
    else if (s.pair hart).st ≠ .halted then fin (s.cmderr 4)
    else if command.getLsbD 17 ∧ ¬ s.regOk (command.extractLsb' 0 16).toNat (command.getLsbD 16) then fin (s.cmderr 3)
    else
      let s1 := s.transfer hart command
      if command.getLsbD 18 ∧ progbufFails s1.core.dbg.halves then fin (s1.cmderr 3) else fin s1

/-! ### Returns and TOLL -/

/-- sstatus at a return from S-mode: SIE takes SPIE, SPIE sets, SPP clears. -/
def sstatusReturn (v : U64) : U64 := putBit (putBit (putBit v 1 (v.getLsbD 5)) 5 true) 8 false

/-- The hart after mret: the world of MWORLD.MPW, the privilege of MPP; the normal world closes an open call (R176, R185). -/
def Hart.mret (h : Hart) : Hart :=
  { h with
    world := h.mpw, priv := h.mpp, virt := h.mpv && h.mpp ≠ 3 && !h.mpw, mie := h.mpie, mpie := true, mpp := 0, mpv := false
    mprv := h.mprv && h.mpp = 3, tollActive := h.tollActive && h.mpw, pc := h.csrAt 0x341 &&& ~~~1 }

/-- MRET (R176). -/
def execMret (hart : Nat) (s : State) : Out :=
  if 8 ≤ hart then noUnit
  else if ¬ s.hartRuns hart then .next s
  else
    let h := s.hart hart
    if h.priv ≠ 3 ∨ (¬ h.mpw ∧ h.mpp = 3) then fin (s.illegal hart 2)
    else fin ((s.retired hart Hart.mret).heldHalt hart)

/-- The hart after sret with V = 0, through a bank: the world stays (R177). -/
def Hart.sretS (h : Hart) (w : Bool) : Hart :=
  let v := h.bank w 0x100
  let h1 := h.setBank w 0x100 (sstatusReturn v)
  { h1 with
    priv := if v.getLsbD 8 then 1 else 0, virt := h.spv && !h.world, spv := h.spv && h.world, mprv := false
    pc := h.bank w 0x141 &&& ~~~1 }

/-- The hart after sret in VS-mode. -/
def Hart.sretVS (h : Hart) : Hart :=
  let v := h.csrAt 0x200
  let h1 := h.setCsr 0x200 (sstatusReturn v)
  { h1 with priv := if v.getLsbD 8 then 1 else 0, pc := h.csrAt 0x241 &&& ~~~1 }

/-- SRET: in M-mode and S-mode, and in VS-mode unless hstatus.VTSR; the return stays in the current world (R177). -/
def execSret (hart : Nat) (s : State) : Out :=
  if 8 ≤ hart then noUnit
  else if ¬ s.hartRuns hart then .next s
  else
    let h := s.hart hart
    if h.virt then
      if h.priv = 0 ∨ h.hvt.getLsbD 2 then fin (s.illegal hart 22) else fin (s.retired hart Hart.sretVS)
    else if h.priv = 0 ∨ (h.priv = 1 ∧ (h.csrAt 0x300).getLsbD 22) then fin (s.illegal hart 2)
    else fin (s.retired hart (fun h => h.sretS (if h.priv = 3 then h.mpw else h.world)))

/-- The toll marker (R183). -/
def tollMarker : Nat := 0x5A17C0DE

/-- The word that the secure marker fetch reads, when its response is OK, and the state after it: an error response counts like any
other (R21, R131, R183). An I/O region gives no fetch (R149). -/
def State.markerFetch (s : State) (hart a : Nat) : State × Option Nat :=
  if 0x03 ≤ target a ∧ target a ≠ 0x10 then (s, none)
  else match s.verdict (secureAttr hart) a 4 true false with
    | .ok => (s, some (leNat (s.memBytes a 4)))
    | r => (s.capture (secureAttr hart) a false r, none)

/-- The checks of TOLL before its marker fetch pass (R183). -/
def Hart.tollAdmits (h : Hart) (t : U64) : Bool :=
  h.tollen && t &&& 0xF = 0 && (tollWord h.tollBase).toNat ≤ t.toNat && t.toNat ≤ (tollWord h.tollLimit).toNat

/-- The checks of TOLL in their order, and the state after the marker fetch (R183). -/
def State.tollChecks (s : State) (hart : Nat) (t : U64) : State × Bool :=
  if ¬ (s.hart hart).tollAdmits t then (s, false)
  else let q := s.markerFetch hart t.toNat; (q.1, q.2 = some tollMarker)

/-- The hart after a TOLL whose checks pass (R184). -/
def Hart.toll (h : Hart) (t : U64) : Hart :=
  { h with tollEpc := h.pc + 4, tollActive := true, world := true, priv := 1, virt := false, pc := t + 4 }

/-- An integer register: x0 reads 0. -/
def Hart.xReg (h : Hart) (r : Nat) : U64 := if r = 0 then 0 else Tab.get h.x r 0

/-- TOLL with its target, where it is permitted and where it is not (R182 to R184). -/
def State.tollAt (s : State) (hart : Nat) (target : U64) : State :=
  let h := s.hart hart
  if h.virt then s.illegal hart 22
  else if h.world ∨ h.priv ≠ 1 then s.illegal hart 2
  else
    let q := s.tollChecks hart target
    if q.2 then q.1.retired hart (fun h => h.toll target) else q.1.trap hart 24 target h.pc

/-- TOLLRET, where it is permitted and where it is not (R182, R185). -/
def State.tollretAt (s : State) (hart : Nat) : State :=
  let h := s.hart hart
  if h.virt then s.illegal hart 22
  else if ¬ (h.world ∧ h.priv = 1 ∧ h.tollActive) then s.illegal hart 2
  else
    (s.retired hart (fun h => { h with
      world := false, priv := 1, virt := false, tollActive := false, pc := h.tollEpc })).heldHalt hart

/-- TOLL: a word of the custom-0 opcode at the hart's pc; every encoding but those of TOLL and TOLLRET is an illegal instruction, and
so is each in debug mode (R162, R181, R182). -/
def execToll (hart : Nat) (word : U32) (s : State) : Out :=
  if 8 ≤ hart then noUnit
  else if word.extractLsb' 0 7 ≠ 0x0B then .next s
  else if (s.pair hart).st = .halted then fin (s.cmderr 3)
  else if ¬ s.hartRuns hart then .next s
  else match decodeCustom0 word with
    | .toll r => fin (s.tollAt hart ((s.hart hart).xReg r))
    | .tollret => fin (s.tollretAt hart)
    | .illegal => fin (s.illegal hart 2)

/-- TOLLRET (R182, R185). -/
def execTollret (hart : Nat) (s : State) : Out :=
  if 8 ≤ hart then noUnit
  else if (s.pair hart).st = .halted then fin (s.cmderr 3)
  else if ¬ s.hartRuns hart then .next s
  else fin (s.tollretAt hart)

/-- A CSR of a hart is written by an instruction that the hart executes: the CSR of its own world and level, or the exception that the
access raises (R142, R177 to R179, R187). -/
def State.csrExec (s : State) (n c : Nat) (v : U64) : State :=
  let h := s.hart n
  match s.csrFault n c with
  | some e => s.illegal n e
  | none =>
    let w := if h.priv = 3 then h.mpw else h.world
    (s.csrWrite n w (if h.virt then vsNumber c else c) v).retired n (fun h => { h with pc := h.pc + 4 })

/-- MWORLD_WRITE: an M-mode write; SCOUNT sets in DEVELOP alone (R187, R192). -/
def execMworldWrite (hart : Nat) (value : U64) (s : State) : Out :=
  if 8 ≤ hart then noUnit else if ¬ s.hartRuns hart then .next s else fin (s.csrExec hart 0x7C1 value)

/-! ### Fences -/

/-- FENCE: completes once every earlier non-posted transaction of the hart has been answered (R122). -/
def execFence (hart : Nat) (s : State) : Out :=
  if 8 ≤ hart then noUnit
  else if s.hartRuns hart ∧ (s.hart hart).outstanding = 0 then fin (s.retired hart (fun h => { h with pc := h.pc + 4 }))
  else .next s

/-- FENCE_I: orders the executing hart's instruction stream (R150). -/
def execFenceI (hart : Nat) (s : State) : Out :=
  if 8 ≤ hart then noUnit
  else if s.hartRuns hart then fin (s.retired hart (fun h => { h with pc := h.pc + 4, fencei := h.fencei + 1 }))
  else .next s

/-! ### Interrupts -/

/-- HART_TIMER_MATCH: time has reached MTIMECMPX (0), stimecmp of the normal (1) or the secure bank (2), or vstimecmp (3); the timer
interrupt is pending, those of stimecmp and vstimecmp where Sstc has them drive it (R147). -/
def execHartTimerMatch (hart which : Nat) (s : State) : Out :=
  if 8 ≤ hart ∨ 4 ≤ which then noUnit
  else
    let h := s.hart hart
    let now := s.tb.localT
    if which = 0 then
      if h.mtimecmp.toNat ≤ now.toNat then fin (s.updHart hart (fun h => { h with mtip := true })) else .next s
    else if which = 3 then
      if h.vstce ∧ h.vstimecmp.toNat ≤ (now + h.csrAt 0x605).toNat then
        fin (s.updHart hart (fun h => h.setCsr 0x344 (h.csrAt 0x344 ||| bitOf 64 6)))
      else .next s
    else
      let w := decide (which = 2)
      if h.stce ∧ (h.bank w 0x14D).toNat ≤ now.toNat then
        fin (s.updHart hart (fun h => h.setBank w 0x144 (h.bank w 0x144 ||| bitOf 64 5)))
      else .next s

/-- A secure interrupt is taken: in M-mode, or in secure S-mode where mideleg gives it; mie alone enables it, sie of the secure bank does not
gate it (R188; DESIGN CHOICE, log entry 141). -/
def State.takeSecure (s : State) (n cause : Nat) : Option Hart :=
  let h := s.hart n
  let en := (h.csrAt 0x304).getLsbD cause
  let toS : Bool := h.world && (cause = 5 || cause = 1) && (h.csrAt 0x303).getLsbD cause
  if ¬ (s.pendingSecure n cause ∧ en) then none
  else if toS then
    if h.priv = 0 ∨ (h.priv = 1 ∧ (h.bank true 0x100).getLsbD 1) then some (h.trapS cause true 0 h.pc 0) else none
  else if h.priv ≠ 3 ∨ h.mie then some (h.trapM cause true 0 h.pc 0)
  else none

/-- The VS-level interrupt that stands out is taken in VS-mode and below it; cause is its number and 1 more, as hip shows it (R11, R141,
R189). -/
def State.takeVS (s : State) (n cause : Nat) : Option Hart :=
  let h := s.hart n
  if ¬ h.world ∧ h.virt ∧ (h.priv = 0 ∨ (h.csrAt 0x200).getLsbD 1) ∧ (s.vsTop n).map (fun e => e.1 + 1) = some cause then
    some (h.trapVS cause true 0 h.pc)
  else none

/-- A normal-world interrupt is taken in the normal world alone: in M-mode or HS-mode by delegation (R177, R189). -/
def State.takeNormal (s : State) (n cause : Nat) : Option Hart :=
  let h := s.hart n
  if h.world ∨ ¬ s.pendingNormal n cause then none
  else if ¬ (h.csrAt 0x303).getLsbD cause ∧ ¬ (cause ∈ [2, 6, 10, 12]) then
    if (h.csrAt 0x304).getLsbD cause then some (h.trapM cause true 0 h.pc 0) else none
  else if (cause = 2 ∨ cause = 6 ∨ cause = 10) ∧ (h.csrAt 0x603).getLsbD cause then none
  else if ((h.bank false 0x104 ||| h.csrAt 0x604).getLsbD cause) ∧ (h.virt ∨ h.priv = 0 ∨ (h.bank false 0x100).getLsbD 1) then
    some (h.trapS cause true 0 h.pc 0)
  else none

/-- What taking an interrupt cause makes of a hart, with its rank: secure interrupts first, then those that enter M-mode, S-mode and
VS-mode, in that order (R188, R189). -/
def State.takesIrq (s : State) (n cause : Nat) : Option (Nat × Hart) :=
  match s.takeSecure n cause with
  | some h => some (0, h)
  | none => match s.takeNormal n cause with
    | some h => some (if h.priv = 3 then 1 else 2, h)
    | none => (s.takeVS n cause).map (fun h => (3, h))

/-- No interrupt goes before a cause: none of a lower rank, and none of the same rank before it in the priority order (R188, R189). -/
def State.goesFirst (s : State) (n cause rank : Nat) : Bool :=
  causeOrder.all (fun c =>
    match s.takesIrq n c with
    | none => true
    | some (r, _) => rank < r || (rank = r && causeOrder.idxOf cause ≤ causeOrder.idxOf c))

/-- INTERRUPT_TAKE: a secure interrupt pre-empts the normal world; a normal one waits for it; among several the one of highest priority is
taken (R188, R189). -/
def execInterruptTake (hart cause : Nat) (s : State) : Out :=
  if 8 ≤ hart then noUnit
  else if ¬ s.hartRuns hart then .next s
  else match s.takesIrq hart cause with
    | none => .next s
    | some (r, _) =>
      if ¬ s.goesFirst hart cause r then .next s
      else
        let s1 := s.updHart hart (fun h => h.event 0x09)
        fin (match s1.takesIrq hart cause with
          | some (_, h) => s1.updHart hart (fun _ => h)
          | none => s1)

/-! ### Memory errors -/

/-- The cluster of a hart: K0 holds P0 to P3. -/
def clusterOf (h : Nat) : Nat := h / 4
/-- Cluster k. -/
def State.cluster (s : State) (k : Nat) : Cluster := Tab.get s.core.clusters k {}
/-- Change cluster k. -/
def State.updCluster (s : State) (k : Nat) (f : Cluster → Cluster) : State :=
  s.onCore (fun c => { c with clusters := Tab.upd c.clusters k {} f })

/-- L1_PARITY_ERROR: the line is refetched, the error counted (R151). -/
def execL1ParityError (hart : Nat) (s : State) : Out :=
  if 8 ≤ hart then noUnit else fin (s.updPair hart (fun p => { p with l1 := satInc p.l1 }))

/-- L2_CORRECTABLE_ERROR (R151). -/
def execL2CorrectableError (cluster : Nat) (s : State) : Out :=
  if 2 ≤ cluster then noUnit else fin (s.updCluster cluster (fun c => { c with corr := satInc c.corr }))

/-- L2_UNCORRECTABLE_ERROR: the line is poisoned, wired source 193 is raised, and Amind records it (R151). -/
def execL2UncorrectableError (cluster : Nat) (line : A40) (s : State) : Out :=
  if 2 ≤ cluster then noUnit
  else
    let n := line.toNat / 64
    fin (((s.raiseAgain 193).updCluster cluster (fun c => { c with
      uncorr := satInc c.uncorr, poison := if c.poison.contains n then c.poison else c.poison ++ [n] })).log .l2Uncorrectable
        ([BitVec.ofNat 8 cluster, 0, 0, 0] ++ leBytes 8 (n * 64)))

/-- POISONED_LINE_CONSUMED: an instruction or a load access fault, for a line that either cluster's L2 holds poisoned (R151). -/
def execPoisonedLineConsumed (hart : Nat) (fetch : Bool) (addr : PoisonUse) (pc : U64) (s : State) : Out :=
  if 8 ≤ hart then noUnit
  else if s.hartRuns hart ∧ s.core.clusters.any (fun e => e.2.poison.contains (addr.line.toNat / 64)) then
    fin (s.trap hart (if fetch then 1 else 5) addr.virt pc)
  else .next s

/-! ### Pair safety block (R174) -/

/-- The code of PAIR_STATUS.STATE. -/
def PairState.code : PairState → Nat
  | .off => 0
  | .inReset => 1
  | .selftest => 2
  | .running => 3
  | .halted => 4
  | .frozen => 5
  | .failed => 6

/-- A word of the pair safety block. -/
def State.pairWord (s : State) (o : Nat) : U32 :=
  if o = 0 then
    fieldAt s.splitMask 0 ||| fieldAt s.comparedMask 8 ||| fieldAt s.stfMask 16 ||| flagAt (s.splitMask ≠ 0) 24
  else if o = 0x040 ∨ o = 0x060 then
    let c := s.cluster ((o - 0x040) / 0x20)
    fieldAt c.corr 0 ||| fieldAt c.uncorr 16
  else if 0x100 ≤ o ∧ o < 0x300 then
    let p := s.pair ((o - 0x100) / 0x40)
    let k := (o - 0x100) % 0x40
    if k = 0x00 then
      BitVec.ofNat 32 p.st.code ||| flagAt p.split 4 ||| flagAt p.pass 5 ||| flagAt p.mmValid 7 ||| fieldAt p.mmLane 8
    else if k = 0x08 then lo32 p.mmPc
    else if k = 0x0C then hi32 p.mmPc
    else if k = 0x10 then lo32 p.splitTime
    else if k = 0x14 then hi32 p.splitTime
    else if k = 0x18 then fieldAt p.l1 0
    else if k = 0x1C then p.msiDrop
    else 0
  else 0

/-! ### APLIC registers (R166 to R168) -/

/-- A word of one of the bit arrays of a domain: 32 sources at a time. -/
def srcWord (m : BitVec 256) (k : Nat) : U32 := m.extractLsb' (32 * k) 32

/-- A word of an APLIC domain; `mine` tells the sources that the domain owns. -/
def Aplic.word (d : Aplic) (mine : Nat → Bool) (o : Nat) : U32 :=
  let own : BitVec 256 := (List.range 256).foldl (fun (m : BitVec 256) i => if mine i then m ||| bitOf 256 i else m) 0
  if o = 0x0000 then 0x80000004 ||| flagAt d.ie 8
  else if 0x0004 ≤ o ∧ o < 0x0400 then
    let i := o / 4
    if mine i then fieldAt (Tab.get d.src i 0 &&& 0x3FF) 0 else if d.delegated i then fieldAt (Tab.get d.src i 0) 0 else 0
  else if 0x1C00 ≤ o ∧ o < 0x1C20 then srcWord (d.ip &&& own) ((o - 0x1C00) / 4)
  else if 0x1D00 ≤ o ∧ o < 0x1D20 then srcWord (d.level &&& own) ((o - 0x1D00) / 4)
  else if 0x1E00 ≤ o ∧ o < 0x1E20 then srcWord (d.en &&& own) ((o - 0x1E00) / 4)
  else if o = 0x3000 then d.genmsi
  else if 0x3004 ≤ o ∧ o < 0x3400 then (if mine ((o - 0x3000) / 4) then Tab.get d.target ((o - 0x3000) / 4) 0 else 0)
  else 0

/-- Place 32 bits of a word at a group of sources. -/
def srcBits (k : Nat) (v : U32) : BitVec 256 := (v.setWidth 256 <<< (32 * k)) &&& ~~~1

/-- A source mode as written: Edge0, Level0 and the reserved code leave it Inactive (R166). -/
def srcMode (n : Nat) : Nat := if n = 1 ∨ n = 4 ∨ n = 6 then n else 0

/-- A word write of a domain: the machine-level one may delegate a source; a level-sensitive source becomes pending by a write only while its
input is high (R11, R166). -/
def Aplic.put (d : Aplic) (root : Bool) (mine may : Nat → Bool) (o : Nat) (v : U32) : Aplic :=
  let own : BitVec 256 := (List.range 256).foldl (fun (m : BitVec 256) i =>
    if mine i && d.modeOf i ≠ 0 then m ||| bitOf 256 i else m) 0
  let high : BitVec 256 := (List.range 256).foldl (fun (m : BitVec 256) i =>
    if d.modeOf i ≠ 6 || d.level.getLsbD i then m ||| bitOf 256 i else m) 0
  let setNum : BitVec 256 := if v.toNat < 256 then bitOf 256 v.toNat &&& ~~~1 else 0
  if o = 0x0000 then { d with ie := v.getLsbD 8 }
  else if 0x0004 ≤ o ∧ o < 0x0400 then
    let i := o / 4
    if root && may i && v.getLsbD 10 then
      { d with
        src := Tab.put d.src i 0x400
        ip := putBit d.ip i false, en := putBit d.en i false }
    else if root || mine i then
      let m := srcMode (v.extractLsb' 0 3).toNat
      { d with
        src := Tab.put d.src i (BitVec.ofNat 11 m), level := putBit d.level i false
        ip := if m = 0 then putBit d.ip i false else d.ip, en := if m = 0 then putBit d.en i false else d.en }
    else d
  else if 0x1C00 ≤ o ∧ o < 0x1C20 then { d with ip := d.ip ||| (srcBits ((o - 0x1C00) / 4) v &&& own &&& high) }
  else if o = 0x1CDC ∨ o = 0x2000 then { d with ip := d.ip ||| (setNum &&& own &&& high) }
  else if 0x1D00 ≤ o ∧ o < 0x1D20 then { d with ip := d.ip &&& ~~~(srcBits ((o - 0x1D00) / 4) v) }
  else if o = 0x1DDC then { d with ip := d.ip &&& ~~~setNum }
  else if 0x1E00 ≤ o ∧ o < 0x1E20 then { d with en := d.en ||| (srcBits ((o - 0x1E00) / 4) v &&& own) }
  else if o = 0x1EDC then { d with en := d.en ||| (setNum &&& own) }
  else if 0x1F00 ≤ o ∧ o < 0x1F20 then { d with en := d.en &&& ~~~(srcBits ((o - 0x1F00) / 4) v) }
  else if o = 0x1FDC then { d with en := d.en &&& ~~~setNum }
  else if o = 0x3000 then { d with genmsi := v &&& 0xFFFC07FF }
  else if 0x3004 ≤ o ∧ o < 0x3400 then
    let i := (o - 0x3000) / 4
    if mine i then
      { d with target := Tab.put d.target i (v &&& 0xFFFC07FF) }
    else d
  else d

/-- The machine-level domain owns a source that it has not delegated. -/
def State.mineM (s : State) (i : Nat) : Bool := 1 ≤ i && i < 256 && !s.delegated i
/-- The supervisor-level domain owns a delegated source. -/
def State.mineS (s : State) (i : Nat) : Bool := 1 ≤ i && i < 256 && s.delegated i

/-- A word of region 0x03's APLIC domains, by offset from the machine-level domain. -/
def State.aplicWord (s : State) (o : Nat) : U32 :=
  if o < 0x4000 then s.core.aplicM.word s.mineM o else s.core.aplicS.word s.mineS (o - 0x4000)

/-- A write of genmsi sends an MSI of its hart and identity, to a machine file from the machine-level domain and to a supervisor file from
the other. -/
def State.genMsi (s : State) (o file : Nat) (v : U32) : State :=
  if o = 0x3000 then s.msi (v.extractLsb' 18 14).toNat file (v.extractLsb' 0 11).toNat else s

/-- A word write of region 0x03's APLIC domains; a source whose new state makes it pending and enabled is forwarded. -/
def State.aplicPut (s : State) (o : Nat) (v : U32) : State :=
  if o < 0x4000 then
    let s1 := s.onCore (fun c => { c with aplicM := c.aplicM.put true s.mineM (fun i => 1 ≤ i && i < 256 && !s.neverDelegated i) o v })
    ((List.range 256).foldl (fun t i => if s.mineM i then t.fireM i else t) s1).genMsi o 0 v
  else
    let s1 := s.onCore (fun c => { c with aplicS := c.aplicS.put false s.mineS (fun _ => false) (o - 0x4000) v })
    ((List.range 256).foldl (fun t i => if s.mineS i then t.fireS i else t) s1).genMsi (o - 0x4000) 1 v

end Sys2Proof.Machine
end

