-- ==== Sys2Proof/Machine/Pages.lean ====
section
/-! DEFINITION. Register pages of the switch core, the Ethernet ports and the CAN channels as words: their layouts (R324 to R327,
R365 to R367, R381, R396, R397). -/

namespace Sys2Proof.Machine

open Sys2Proof

/-- The word at offset `o` of a list of 64-bit registers by offset. -/
def pick64 (l : List (Nat × U64)) (o : Nat) : Option U32 :=
  match l with
  | [] => none
  | (b, x) :: r => if o = b then some (lo32 x) else if o = b + 4 then some (hi32 x) else pick64 r o

/-- A number as a register word. -/
def natWord (n : Nat) : U32 := BitVec.ofNat 32 n

/-- The bits of a W1C field that a write clears, and the field after it. -/
def w1c {w : Nat} (x : BitVec w) (v m : U32) : BitVec w := x &&& ~~~((v &&& m).setWidth w)

/-! ### The switch block -/

/-- A word of the global page. -/
def Switch.globalWord (w : Switch) (o : Nat) : U32 :=
  if o = 0x00 then natWord (30 + 4 * 256)
  else if o = 0x04 then flagAt w.l3 0 ||| flagAt w.l4 1
  else if o = 0x08 then Config.macBase.setWidth 32
  else if o = 0x0C then (Config.macBase >>> 32).setWidth 32
  else if o = 0x10 then natWord w.free
  else if o = 0x14 then natWord w.expFree
  else if o = 0x18 then natWord w.minClass ||| flagAt w.pushEn 3
  else if o = 0x1C then fieldAt w.classMask 0 ||| natWord (w.portLimit * 65536)
  else if o = 0x20 then natWord w.poolMin
  else if o = 0x24 then natWord w.lowMark
  else 0

/-- A word of a port unit. -/
def SwPort.word (u : SwPort) (o : Nat) : U32 :=
  if o = 0x00 then
    flagAt u.en 0 ||| flagAt u.cutThrough 1 ||| flagAt u.vlanFilter 2 ||| flagAt u.trustPcp 3 ||| fieldAt u.pvid 4 ||| fieldAt u.defClass 16
  else if o = 0x04 then fieldAt u.high 0 ||| fieldAt u.low 16
  else if o = 0x08 then flagAt u.link 0 ||| flagAt u.fcAssert 1 ||| fieldAt u.pfcAssert 2 ||| flagAt u.lagActive 10
  else if o = 0x0C then fieldAt u.occ 0
  else (pick64 [(0x10, u.cnt.inFrames), (0x18, u.cnt.outFrames), (0x20, u.cnt.police), (0x28, u.cnt.classify),
    (0x30, u.cnt.refuse), (0x38, u.cnt.residue), (0x40, u.cnt.pushed), (0x48, u.cnt.qp), (0x50, u.cnt.cut),
    (0x58, u.cnt.cutAbort)] o).getD 0

/-- The function of a queue pair's owner is disabled on its port (R517). -/
def State.qpOff (s : State) (i : Nat) : Bool :=
  match s.hFind 0x01 i with
  | some h => s.fnOffFor h.owner h.sec 0x01 (i / 64)
  | none => false

/-- A word of an account unit; the share of account 63 is the port pool (R290). -/
def State.acctWord (s : State) (n o : Nat) : U32 :=
  let u : Acct := Tab.get s.sw.accts n {}
  if o = 0x00 then natWord (s.acctShare n)
  else if o = 0x04 then natWord u.used
  else if o = 0x08 then u.refused
  else if o = 0x0C then u.pushout
  else 0

/-- A word of an aggregation unit. -/
def Lag.word (g : Lag) (o : Nat) : U32 :=
  if o = 0x0 then fieldAt g.members 0 else if o = 0x4 then fieldAt g.active 0 else if o = 0x8 then g.flush else 0

/-- A word of a VLAN entry. -/
def Vlan.word (v : Vlan) (o : Nat) : U32 :=
  if o = 0 then fieldAt v.member 0 ||| flagAt v.flood 31 else fieldAt v.untag 0

/-- A word of a flow entry. -/
def Flow.word (e : Flow) (o : Nat) : U32 :=
  if o = 0x00 then
    flagAt e.valid 0 ||| fieldAt e.mat 1 ||| fieldAt e.ingress 4 ||| fieldAt e.eclass 9 ||| flagAt e.stored 13 ||| fieldAt e.slot 20
  else if o = 0x04 then fieldAt e.vlan 0 ||| fieldAt e.pcp 12
  else if o = 0x08 then e.dmac.setWidth 32
  else if o = 0x0C then (e.dmac >>> 32).setWidth 32
  else if o = 0x10 then fieldAt e.egress 0
  else if o = 0x14 then e.stream
  else if o = 0x18 then fieldAt e.policer 0
  else e.hits

/-- A word of the switch block, by its offset from SW_BASE (R324). -/
def State.swWord (s : State) (o : Nat) : U32 :=
  if o < 0x1000 then s.sw.globalWord o
  else if o < 0x2000 then
    (if o = 0x1000 then fieldAt s.sw.event 0 else if o = 0x1004 then fieldAt s.sw.eventEn 0 else 0)
  else if 0x10000 ≤ o ∧ o < 0x11E00 then (s.swPort ((o - 0x10000) / 0x100)).word (o % 0x100)
  else if 0x20000 ≤ o ∧ o < 0x21000 then s.acctWord ((o - 0x20000) / 0x40) (o % 0x40)
  else if 0x30000 ≤ o ∧ o < 0x30100 then
    let k : Plane := Tab.get s.sw.planes ((o - 0x30000) / 0x40) {}
    (pick64 [(0, k.frames), (8, k.bytes)] (o % 0x40)).getD 0
  else if 0x31000 ≤ o ∧ o < 0x31080 then (Tab.get s.sw.lags ((o - 0x31000) / 0x10) ({} : Lag)).word (o % 0x10)
  else if 0x40000 ≤ o ∧ o < 0x48000 then (Tab.get s.sw.vlans ((o - 0x40000) / 8) ({} : Vlan)).word (o % 8)
  else if 0x100000 ≤ o ∧ o < 0x180000 then (Tab.get s.sw.flows ((o - 0x100000) / 0x20) ({} : Flow)).word (o % 0x20)
  else 0

/-- A word write of the switch block: the event page alone takes writes (R324). -/
def State.swPut (s : State) (o : Nat) (v m : U32) : State :=
  if o = 0x1000 then (s.onSw (fun w => { w with event := w1c w.event v m })).marketLow
  else if o = 0x1004 then s.onSw (fun w => { w with eventEn := (mix (fieldAt w.eventEn 0) v m).setWidth 5 })
  else s

/-! ### The Ethernet block -/

/-- The frame and byte counters of a port unit, which every port has. -/
def EthCnt.frameWords (c : EthCnt) : List (Nat × U64) :=
  [(0x100, c.rxFrames), (0x108, c.rxBytes), (0x110, c.txFrames), (0x118, c.txBytes)]

/-- The other counters of a port unit. -/
def EthCnt.otherWords (c : EthCnt) : List (Nat × U64) :=
  [(0x120, c.fcsErr), (0x128, c.runt), (0x130, c.oversize), (0x138, c.rxPause), (0x140, c.txPause), (0x148, c.assembly),
    (0x150, c.preempted), (0x158, c.collisions), (0x160, c.beaconLost)]

/-- ETH_PREEMPT as a word. -/
def EthPort.preemptWord (u : EthPort) : U32 := fieldAt u.expressMask 0 ||| fieldAt u.addFrag 8 ||| flagAt u.verifyDis 10

/-- The credit of a shaper in whole bits. -/
def Cbs.bits (c : Cbs) : U32 := BitVec.ofInt 32 (c.credit / 1000000)

/-- A word of the port unit of an external port p, 0 to 25. -/
def EthPort.word (u : EthPort) (p o : Nat) : U32 :=
  if o = 0x00 then
    flagAt u.master 0 ||| flagAt u.pause 1 ||| flagAt u.pfc 2 ||| flagAt u.preempt 3 ||| flagAt u.frer 4 ||| flagAt u.tc10 5 ||| fieldAt u.maxFrame 16
  else if o = 0x04 then
    flagAt u.link 0 ||| flagAt u.lowPower 1 ||| fieldAt u.verify 2 ||| flagAt u.paused 4 ||| fieldAt u.pfcPaused 5
      ||| flagAt u.hold 13 ||| flagAt u.plca.active 14
  else if o = 0x08 then fieldAt u.quanta 0 ||| fieldAt u.refresh 16
  else if o = 0x0C then u.preemptWord
  else if o = 0x10 then fieldAt u.plca.nodeId 0 ||| fieldAt u.plca.nodeCount 8 ||| fieldAt u.plca.toTimer 16 ||| fieldAt u.plca.maxBurst 24
  else if o = 0x14 then fieldAt u.plca.burstTimer 0 ||| flagAt (22 ≤ p && p < 26 && !u.plca.off) 8
  else if 0x20 ≤ o ∧ o < 0x60 then
    let c : Cbs := Tab.get u.cbs ((o - 0x20) / 8) {}
    if o % 8 = 0 then fieldAt c.idle 0 ||| flagAt c.en 31 else c.bits
  else (pick64 (u.cnt.frameWords ++ u.cnt.otherWords) o).getD 0

/-- A word of port unit p: units 26 to 29 implement ETH_PREEMPT of I0 and I1 and the frame and byte counters (R365). -/
def State.ethPortWord (s : State) (p o : Nat) : U32 :=
  let u := s.ethPort p
  if p < 26 then u.word p o
  else if o = 0x0C ∧ p < 28 then u.preemptWord
  else (pick64 u.cnt.frameWords o).getD 0

/-- A word of a gate unit. -/
def Gate.word (g : Gate) (o : Nat) : U32 :=
  let l : GateList := g.oper.getD {}
  if o = 0x00 then flagAt g.oper.isSome 0 ||| flagAt g.pend.isSome 1 ||| fieldAt g.gates 2 ||| natWord (g.entry * 1024)
  else if o = 0x10 then l.cycle
  else if o = 0x14 then natWord l.entries.length
  else if o = 0x20 then g.guardHeld
  else if 0x800 ≤ o then
    match l.entries[(o - 0x800) / 8]? with
    | some e => if o % 8 = 0 then e.interval else fieldAt e.gates 0 ||| fieldAt e.op 8
    | none => 0
  else (pick64 [(0x08, l.base), (0x18, g.changeTime)] o).getD 0

/-- A word of the time-aware bridge page; units of ports 22 to 28 read 0 (R365). -/
def Bridge.word (b : Bridge) (o : Nat) : U32 :=
  if o = 0x00 then
    flagAt b.en 0 ||| flagAt b.ext 1 ||| flagAt b.gmCapable 2 ||| fieldAt b.prio1 8 ||| fieldAt b.prio2 16 ||| fieldAt b.clockClass 24
  else if o = 0x04 then fieldAt b.role 0 ||| fieldAt b.stepsRemoved 8
  else if 0x100 ≤ o ∧ o < 0x100 + 30 * 0x20 then
    let q := (o - 0x100) / 0x20
    let u : TabPort := Tab.get b.ports q {}
    if 22 ≤ q ∧ q ≤ 28 then 0
    else if o % 0x20 = 0x0 then fieldAt u.role 0 ||| flagAt u.asCapable 2
    else if o % 0x20 = 0x4 then u.delay
    else if o % 0x20 = 0x8 then u.ratio
    else if o % 0x20 = 0xC then fieldAt u.logSync 0
    else 0
  else (pick64 [(0x08, b.gmId), (0x10, b.offset)] o).getD 0

/-- A word of a policer unit; POL_TOKENS shows whole bytes. -/
def Policer.word (p : Policer) (o : Nat) : U32 :=
  if o = 0x00 then p.rate
  else if o = 0x04 then p.burst
  else if o = 0x08 then natWord (p.tokens / 8000)
  else (pick64 [(0x10, p.passed), (0x18, p.dropped)] o).getD 0

/-- A word of a FRER stream unit. -/
def Frer.word (f : Frer) (o : Nat) : U32 :=
  if o = 0x00 then f.stream
  else if o = 0x04 then flagAt f.gen 0 ||| flagAt f.rec_ 1 ||| fieldAt f.history 2 ||| fieldAt f.resetMs 16
  else if o = 0x08 then fieldAt f.next 0 ||| fieldAt f.last 16
  else if o = 0x0C then f.passed
  else if o = 0x10 then f.discarded
  else if o = 0x14 then f.rogue
  else if o = 0x18 then f.resets
  else 0

/-- A word of a MACsec unit. -/
def Macsec.word (u : Macsec) (o : Nat) : U32 :=
  let c := u.cnt
  if o = 0x00 then flagAt u.en 0 ||| flagAt u.encrypt 1 ||| flagAt u.xpn 2 ||| flagAt u.strict 3 ||| flagAt u.sci 4 ||| flagAt u.replay 5
  else if o = 0x04 then u.window
  else if o = 0x08 then fieldAt u.txAn 0 ||| flagAt u.txValid 2
  else (pick64 [(0x10, u.txPn), (0x18, c.prot), (0x20, c.ok), (0x28, c.noSa), (0x30, c.auth), (0x38, c.replay), (0x40, c.untagged),
    (0x48, c.rxRevoked), (0x50, c.txDrop), (0x58, c.txRevoked)] o).getD 0

/-- A word of the event page (R367). -/
def Eth.eventWord (e : Eth) (o : Nat) : U32 :=
  if o < 30 * 8 then
    let u : EthEvent := Tab.get e.events (o / 8) {}
    if o % 8 = 0 then fieldAt u.ev 0 else fieldAt u.en 0
  else if o = 0x100 then fieldAt e.gevent 0
  else if o = 0x104 then fieldAt e.geventEn 0
  else 0

/-- A word write of the event page (R367). -/
def Eth.eventPut (e : Eth) (o : Nat) (v m : U32) : Eth :=
  if o < 30 * 8 then
    { e with events := Tab.upd e.events (o / 8) {} (fun u =>
        if o % 8 = 0 then { u with ev := w1c u.ev v m } else { u with en := (mix (fieldAt u.en 0) v m).setWidth 5 }) }
  else if o = 0x100 then { e with gevent := w1c e.gevent v m }
  else if o = 0x104 then { e with geventEn := (mix (fieldAt e.geventEn 0) v m).setWidth 6 }
  else e

/-- A word of a queue page (R327); ENABLED reads 0 while the owner's function is disabled. -/
def State.qpWord (s : State) (i o : Nat) : U32 :=
  let q := s.qp i
  if o = 0x10 then fieldAt q.txTail 0
  else if o = 0x14 then fieldAt q.txHead 0
  else if o = 0x18 then fieldAt q.rxTail 0
  else if o = 0x1C then fieldAt q.rxHead 0
  else if o = 0x20 then
    fieldAt q.depth 0 ||| fieldAt q.maxClass 16 ||| flagAt q.mcast 19 ||| flagAt q.run 20 ||| flagAt (q.enabled && !s.qpOff i) 21
  else if o = 0x30 then natWord q.used
  else if o = 0x34 then fieldAt q.cap 0
  else if o = 0x38 then q.rxDrop
  else (pick64 [(0x00, q.txBase), (0x08, q.rxBase), (0x28, q.mac.setWidth 64)] o).getD 0

/-- A transmit doorbell: the index is taken modulo DEPTH (R313). -/
def State.qpTxTail (s : State) (i : Nat) (v : U16) : State :=
  s.updQp i (fun q => { q with txTail := BitVec.ofNat 16 (v.toNat % max 1 q.depth.toNat) })
/-- A receive doorbell. -/
def State.qpRxTail (s : State) (i : Nat) (v : U16) : State :=
  s.updQp i (fun q => { q with rxTail := BitVec.ofNat 16 (v.toNat % max 1 q.depth.toNat) })

/-- A word write of a queue page (R327). -/
def State.qpPut (s : State) (i o : Nat) (v m : U32) : State :=
  if o = 0x00 ∨ o = 0x04 then s.updQp i (fun q => { q with txBase := pageBase (put64 q.txBase (o = 0x04) v m) })
  else if o = 0x08 ∨ o = 0x0C then s.updQp i (fun q => { q with rxBase := pageBase (put64 q.rxBase (o = 0x0C) v m) })
  else if o = 0x10 then
    if m &&& 0xFFFF = 0 then s else s.qpTxTail i ((mix (fieldAt (s.qp i).txTail 0) v m).setWidth 16)
  else if o = 0x18 then
    if m &&& 0xFFFF = 0 then s else s.qpRxTail i ((mix (fieldAt (s.qp i).rxTail 0) v m).setWidth 16)
  else if o = 0x20 then
    s.updQp i (fun q =>
      let w := mix (flagAt q.mcast 19 ||| flagAt q.run 20) v m
      { q with mcast := w.getLsbD 19, run := w.getLsbD 20 })
  else s

/-- The page of queue pair i. -/
def qpPage (i : Nat) : Nat := 0x11C00000 + i * 0x1000

/-- A write row of a queue page's doorbell: TERR while an instance reset holds the queue pair (R524). -/
def State.qpTailRow (s : State) (i o : Nat) (t : Attr) (value : U16) (own : State → State) : Out :=
  if 128 ≤ i then noUnit
  else s.issue t fun t =>
    fin (s.accessAt (writeX t (qpPage i + o) 4 value.toNat) .write (fun s =>
      if (s.qp i).stopped then (s, .terr, []) else (own s, .ok, [])))

/-- QP_TX_TAIL_WRITE (R313, R524). -/
def execQpTxTailWrite (qp : Nat) (attr : Attr) (value : U16) (s : State) : Out :=
  s.qpTailRow qp 0x10 attr value (fun s => s.qpTxTail qp value)

/-- QP_RX_TAIL_WRITE (R313, R524). -/
def execQpRxTailWrite (qp : Nat) (attr : Attr) (value : U16) (s : State) : Out :=
  s.qpTailRow qp 0x18 attr value (fun s => s.qpRxTail qp value)

/-- A word of the Ethernet block below the queue pages, by its offset from ETH_BASE (R365). -/
def State.ethWord (s : State) (o : Nat) : U32 :=
  if o < 0x1E000 then s.ethPortWord (o / 0x1000) (o % 0x1000)
  else if 0x40000 ≤ o ∧ o < 0x5E000 then (s.gate ((o - 0x40000) / 0x1000)).word (o % 0x1000)
  else if 0x80000 ≤ o ∧ o < 0x81000 then s.eth.bridge.word (o - 0x80000)
  else if 0xFF000 ≤ o ∧ o < 0x100000 then s.eth.eventWord (o - 0xFF000)
  else if 0x100000 ≤ o ∧ o < 0x120000 then (Tab.get s.eth.policers ((o - 0x100000) / 0x20) ({} : Policer)).word (o % 0x20)
  else if 0x140000 ≤ o ∧ o < 0x144000 then (Tab.get s.eth.frers ((o - 0x140000) / 0x20) ({} : Frer)).word (o % 0x20)
  else if 0x180000 ≤ o ∧ o < 0x182800 then (s.macsec ((o - 0x180000) / 0x400)).word (o % 0x400)
  else if 0x800000 ≤ o ∧ o < 0x880000 then s.qpWord ((o - 0x800000) / 0x1000) (o % 0x1000)
  else 0

/-- A word write of the Ethernet block (R327, R365). -/
def State.ethPut (s : State) (o : Nat) (v m : U32) : State × Resp :=
  if 0xFF000 ≤ o ∧ o < 0x100000 then (s.onEth (fun e => e.eventPut (o - 0xFF000) v m), .ok)
  else if 0x800000 ≤ o ∧ o < 0x880000 then
    let i := (o - 0x800000) / 0x1000
    if (s.qp i).stopped then (s, .terr) else (s.qpPut i (o % 0x1000) v m, .ok)
  else (s, .ok)

/-! ### The CAN channels -/

/-- The code of CAN_STATUS.STATE. -/
def CanState.code : CanState → Nat
  | .stopped => 0
  | .active => 1
  | .passive => 2
  | .busOffWait => 3
  | .recovering => 4

/-- A word of the control page (R396). -/
def CanCh.word (c : CanCh) (o : Nat) : U32 :=
  if o = 0x00 then
    flagAt c.cfg.en 0 ||| flagAt c.cfg.cc 1 ||| flagAt c.cfg.fd 2 ||| flagAt c.cfg.xl 3 ||| fieldAt c.cfg.mode 4 ||| fieldAt c.lockTimeout 16
  else if o = 0x04 then c.cfg.nbt
  else if o = 0x08 then c.cfg.dbt
  else if o = 0x0C then c.cfg.xbt
  else if o = 0x10 then
    natWord c.st.code ||| fieldAt c.recov 3 ||| flagAt c.tx.isSome 11 ||| flagAt c.rxBusy 12 ||| fieldAt c.lec 13
  else if o = 0x14 then fieldAt c.tec 0 ||| fieldAt c.rec_ 16
  else if o = 0x20 then fieldAt c.wake.id 0 ||| flagAt c.wake.ide 29
  else if o = 0x24 then fieldAt c.wake.mask 0
  else if o = 0x28 then fieldAt c.wake.dlc 0 ||| flagAt c.armed 8
  else (pick64 [(0x30, c.wake.data), (0x100, c.cnt.rx), (0x108, c.cnt.tx), (0x110, c.cnt.unmatched), (0x118, c.cnt.lost),
    (0x120, c.cnt.err), (0x128, c.cnt.pex), (0x130, c.cnt.busOff)] o).getD 0

/-- A word of the schedule page: the matrix in force, else 0, and cells that are empty read 0xFF (R396). -/
def Sched.word (h : Sched) (o : Nat) : U32 :=
  let x : Matrix := h.run.getD {}
  let cell (r c : Nat) : Byte := if r < x.rows ∧ c < x.cols then x.cells.getD (r * x.cols + c) 0xFF else 0xFF
  if o = 0x00 then
    flagAt h.run.isSome 0 ||| flagAt h.pend.isSome 1 ||| natWord (h.column * 4) ||| natWord (x.cols * 256)
      ||| natWord (x.rows * 32768) ||| natWord (x.owner * 1048576)
  else if o = 0x10 then x.period
  else if o = 0x20 then h.overrun
  else if o = 0x24 then h.late
  else if o = 0x28 then h.skip
  else if 0x400 ≤ o ∧ o < 0x800 then
    let r := (o - 0x400) / 0x40
    let c := o % 0x40
    natWord (leNat ((List.range 4).map (fun k => cell r (c + k))))
  else (pick64 [(0x08, x.start), (0x18, h.change)] o).getD 0

/-- A word of the status map page as a reader sees it (R397). -/
def State.mapWord (s : State) (t : Attr) (chan o : Nat) : U32 :=
  let bits (f : CanObj → Bool) (w : Nat) : U32 :=
    (List.range 32).foldl (fun (x : U32) i =>
      if s.mapSees t chan (w * 32 + i) && f (s.canObj chan (w * 32 + i)) then x ||| bitOf 32 i else x) 0
  if o < 0x10 then bits (fun c => c.new) (o / 4)
  else if o < 0x20 then bits (fun c => c.done) ((o - 0x10) / 4)
  else if o < 0x30 then bits (fun c => c.pend) ((o - 0x20) / 4)
  else 0

/-- Where an offset of a channel's 64 KiB lies in an object: its number and its offset, 0x100 on for a long segment. -/
def objPlace (o : Nat) : Nat × Nat :=
  if o < 0xC000 then ((o - 0x4000) / 0x100, o % 0x100) else (120 + (o - 0xC000) / 0x800, 0x100 + o % 0x800)

/-- Offsets of an object at which its data lies. -/
def CanObj.anyWord (s : State) (chan obj off : Nat) : U32 :=
  if 0x100 ≤ off then (s.canObj chan obj).dataWord (off - 0x100) else s.objWord chan obj off

/-- A word of region 0x07 and the effect of its read (R381, R385, R396, R397). -/
def State.canRead (s : State) (t : Attr) (a : Nat) : State × U32 :=
  let n := (a - 0x12000000) / 0x10000
  let o := a % 0x10000
  if o < 0x1000 then (s, (s.can n).word o)
  else if o = 0x1000 then (s, fieldAt (s.can n).event 0)
  else if o = 0x1004 then (s, fieldAt (s.can n).eventEn 0)
  else if o < 0x2000 then (s, 0)
  else if o < 0x3000 then (s, (s.can n).sched.word (o - 0x2000))
  else if o < 0x4000 then (s, s.mapWord t n (o - 0x3000))
  else
    let p := objPlace o
    (s.objRead n p.1 p.2, CanObj.anyWord s n p.1 p.2)

/-- A word write of region 0x07 (R383, R396, R397). -/
def State.canWrite (s : State) (t : Attr) (a : Nat) (v m : U32) : State × Resp :=
  let n := (a - 0x12000000) / 0x10000
  let o := a % 0x10000
  if o = 0x1000 then (s.updCan n (fun c => { c with event := w1c c.event v m }), .ok)
  else if o = 0x1004 then (s.updCan n (fun c => { c with eventEn := (mix (fieldAt c.eventEn 0) v m).setWidth 6 }), .ok)
  else if within o 0x3010 0x10 then (s.mapClear t n ((o - 0x3010) / 4) (v &&& m), .ok)
  else if 0x4000 ≤ o then
    let p := objPlace o
    s.objWrite n p.1 p.2 v m
  else (s, .ok)

end Sys2Proof.Machine
end

