-- ==== Sys2Proof/Machine/PassLink.lean ====
section
/-! DEFINITION. The ZC40 pair and the Pass link on the sending side: link and lanes, heartbeat and sideband vector, partner state,
takeover, windows with their read slots, trackers and posted writes, the pair commands and the pages (R282, R569 to R602). -/

namespace Sys2Proof.Machine

open Sys2Proof

/-! ### The link -/

/-- The link runs in the present mode, fully or on one lane (R573). -/
def State.linkMode (s : State) : Bool :=
  match s.aon.mode with
  | .start => 5 ≤ s.aon.step
  | .run => true
  | .part => true
  | .safe => true
  | .off => false
  | .sleep => false
  | .recovery => false

/-- The link is in full operation: up, and not reduced to the heartbeat lane (R573). -/
def State.linkFull (s : State) : Bool := s.pass.link = .up && !s.pass.reduced

/-- The module's role: A with PAIR_ID open (R46, R570). -/
def State.roleA (s : State) : Bool := s.supply.straps.pairOpen

/-- The lanes on which a link runs, of the lanes that work: 4, 2 or 1, the lowest first (R571). -/
def runLanes (l : BitVec 4) : BitVec 4 :=
  let on := portsOf l
  let n := if on.length = 3 then 2 else on.length
  (on.take n).foldl (fun (m : BitVec 4) k => m ||| bitOf 4 k) 0

/-- Working lanes as PASS_STATUS.LANES counts them. -/
def Pass.laneCount (p : Pass) : Nat := (portsOf p.lanes).length

/-- LINK takes a value; a change raises LINK_CHG. -/
def State.setLink (s : State) (l : LinkState) : State :=
  if s.pass.link = l then s else (s.onPass (fun p => { p with link := l })).passEvent 0

/-- SW_PORT_STATE.LINK of PX follows the full operation of the link (R597). -/
def State.pxLink (s : State) : State :=
  let t := s.updSwPort 29 (fun u => { u with link := s.linkFull })
  if (s.swPort 29).link && !s.linkFull then t.tabDown 29 else t

/-! ### The sideband vector -/

/-- The own vector (R575). -/
def State.sbOwn (s : State) : BitVec 256 :=
  let b (x : Bool) (k : Nat) : Nat := if x then 2 ^ k else 0
  let hs (f : LoadCh → Bool) (k : Nat) : Nat := (List.range 4).foldl (fun n c => n + b (f (s.load c)) (k + c)) 0
  BitVec.ofNat 256 (s.aon.mode.code + b s.aon.startGood 3 + b s.supply.faultLow 4 + b s.supply.crank 5
    + b s.supply.feedA.lost 6 + b s.supply.feedB.lost 7 + s.sleep.phase.toNat * 2 ^ 8
    + hs (fun c => c.drive ≠ .off) 12 + hs (fun c => c.prot.latched) 16 + s.pass.takeover.toNat * 2 ^ 20
    + s.comparedMask.toNat * 2 ^ 24 + s.aon.lifecycle.toNat * 2 ^ 32 + b (s.tb.gstate = 1) 35
    + s.pass.hbSeq.toNat * 2 ^ 48) ||| (s.pass.sbMgr.setWidth 256 <<< 128)

/-- The response of PAIR_STATUS (R282, R569). -/
def State.pairStatus (s : State) : List Byte :=
  let p := s.pass
  [BitVec.ofNat 8 (if s.roleA then 0 else 1), BitVec.ofNat 8 (if p.paired then p.link.code else 0),
    BitVec.ofNat 8 (if p.paired then p.partner.code else 0), BitVec.ofNat 8 p.laneCount]
    ++ leBytes 4 p.cnt.missed.toNat ++ leBytes 32 p.sbPartner.toNat ++ leBytes 32 s.sbOwn.toNat

/-- A received vector updates the copy: changed manager bits are shown, and each dual-feed channel sees the partner's (R464,
R574, R576). -/
def State.sbTake (s : State) (v : BitVec 256) : State :=
  let chg : BitVec 128 := ((s.pass.sbPartner ^^^ v) >>> 128).setWidth 128
  let s1 := s.onPass (fun p => { p with sbPartner := v, sbSeen := true, sbChg := p.sbChg ||| chg })
  let s2 := if chg = 0 then s1 else s1.passEvent 2
  [0, 1, 2, 3].foldl (fun t c => s.loadStep t c false) s2

/-! ### Open transactions -/

/-- The partner cannot be reached through windows: the link is not in full operation, or the partner is DOWN or CUT (R592). -/
def State.farGone (s : State) : Bool := !s.linkFull || s.pass.partner = .down || s.pass.partner = .cut

/-- The open window over an address. -/
def State.winAt (s : State) (a : Nat) : Option Nat :=
  (s.pass.wins.find? (fun e => e.2.opened && e.2.loc.toNat ≤ a && a < e.2.loc.toNat + e.2.size.toNat)).map (fun e => e.1)

/-- A transaction of the window over an address is answered FERR: PW_FERR counts it (R590, R601). -/
def State.countFerr (s : State) (a : Nat) : State :=
  match s.winAt a with
  | some w => s.updWin w (fun u => { u with ferr := satInc u.ferr })
  | none => s

/-- The code of sbcs.sberror for a response (R161): 2 bad address, 7 other. -/
def sbErrorOf (r : Resp) : BitVec 3 := if r = .ok then 0 else if r = .derr then 2 else 7

/-- A response reaches its initiator: the debug port's in sbcs and sbdata, where sbautoincrement moves sbaddress on, one to a frozen pair is discarded (R159, R161). -/
def State.portReply (s : State) (t : Attr) (r : Resp) (d : List Byte) : State :=
  if t.init = 0x18 then
    (s.answered r d).onDbg (fun g => { g with
      sbBusy := false, sbError := sbErrorOf r
      sbAddr := if r = .ok ∧ g.sbcs.getLsbD 16 then g.sbAddr + BitVec.ofNat 64 g.sbSize else g.sbAddr
      sbData := if d = [] ∨ r ≠ .ok then g.sbData else BitVec.ofNat 64 (leNat d) })
  else if t.init.toNat < 8 ∧ (s.pair t.init.toNat).st = .frozen then s
  else s.answered r d

/-- A waiting transaction is answered. -/
def State.settled (s : State) (t : Attr) (r : Resp) (d : List Byte) : State :=
  let s1 := s.portReply t r d
  if t.init.toNat < 8 then s1.updHart t.init.toNat (fun h => { h with outstanding := h.outstanding - 1 }) else s1

/-- The address at the partner of a window address (R582). -/
def farAddr (a : A40) : A40 := a - 0x4000000000

/-- A window captures its first failed posted write and becomes sticky (R590, R592). -/
def Window.caught (u : Window) (addr : A40) (init : Byte) (inst : BitVec 6) (sec : Bool) (code : Nat) : Window :=
  if u.errValid then { u with sticky := true }
  else { u with
    sticky := true, errValid := true, errAddr := addr, errInit := init, errInst := inst, errSec := sec
    errResp := BitVec.ofNat 3 code }

/-- The capture as PASS_ERROR_CLEAR returns it (R282). -/
def Window.capture (u : Window) : List Byte :=
  if u.errValid then
    leBytes 8 u.errAddr.toNat ++ [u.errInit, u.errInst.setWidth 8, if u.errSec then 1 else 0, 0]
  else List.replicate 12 0

/-- STICKY and the capture are cleared (R591). -/
def Window.cleared (u : Window) : Window :=
  { u with
    sticky := false, errValid := false, errAddr := 0, errInit := 0, errInst := 0, errSec := false, errResp := 0
    clearing := none }

/-- The response to a request that a stall holds in service; nothing where the stall holds another one (R224). -/
def State.answerHeld (s : State) (key : Nat) (seq : U16) (a : Ans) : State :=
  match (s.stall key).captured with
  | none => s
  | some rq =>
    if key < 64 ∧ rq.seq = seq ∧ (s.stall key).st = .serving then (s.record rq a).respond rq.route (answerOf rq a) else s

/-- A pending error clear of a window ends: STICKY and the capture are cleared and the command is answered with the capture
(R591). -/
def State.endClear (s : State) (w : Nat) : State :=
  match (s.win w).clearing with
  | none => s
  | some (k, q) => (s.updWin w Window.cleared).answerHeld k q { payload := (s.win w).capture }

/-- Open transactions end: WAITING slots become ERROR, non-posted writes receive FERR, posted writes not yet sent are discarded
with their windows sticky, and writes that wait at their ports receive FERR (R592). -/
def State.passEnd (s : State) : State :=
  let s1 := s.onPass (fun p => { p with
    slots := p.slots.map (fun r => if r.ph = .waiting then { r with ph := .error } else r) })
  let ferr (t : State) (x : Xact) : State := (t.countFerr x.addr.toNat).capture x.attr x.addr.toNat true .ferr
  let s2 := s1.pass.trackers.foldl (fun t r => (ferr t r.x).settled r.x.attr .ferr []) s1
  let s3 := s2.pass.posted.foldl (fun t r => if ¬ t.pass.wins.has r.win then t else t.updWin r.win (fun u =>
    let v := u.caught (farAddr r.x.addr) r.x.attr.init r.x.attr.inst r.x.attr.sec 6
    { v with discarded := satInc v.discarded })) s2
  let s4 := s3.pass.portWait.foldl (fun t r => ferr t r.x) s3
  let s5 := (s4.pass.recWait.foldl (fun t r => ferr t r.x) s4).onPass (fun p => { p with
    trackers := [], recWait := [], posted := [], portWait := [] })
  s5.pass.wins.foldl (fun t e => t.endClear e.1) s5

/-- Frames queued to PX are dropped and counted (R597). -/
def State.pxFlush (s : State) : State :=
  let lost := s.sw.frames.filter (fun f => f.dests.contains 29)
  (lost.foldl (fun t f => t.dropDest f.id 29) s).onPass (fun p => { p with cnt := { p.cnt with flush := satAdd p.cnt.flush lost.length } })

/-- The link leaves full operation: open transactions end, poison marks go, PX goes down (R589, R592, R597). -/
def State.passLeave (s : State) : State :=
  (s.passEnd.onPass (fun p => { p with poisoned := [] })).pxLink.pxFlush

/-- The link goes down. -/
def State.linkLost (s : State) : State :=
  let was := s.linkFull
  let s1 := (s.onPass (fun p => { p with lanes := 0 })).setLink .down
  if was then s1.passLeave else s1

/-- PASS_LINK_LOSS: the link leaves full operation (R592). -/
def execPassLinkLoss (s : State) : Out := if s.linkFull then fin s.linkLost else .next s

/-- PASS_LINK_TRAINED: training completes; in one role with the partner the link stays down (R570, R571). -/
def execPassLinkTrained (sameRole : Bool) (lanes : BitVec 4) (s : State) : Out :=
  if ¬ (s.pass.paired ∧ s.linkMode ∧ s.pass.link = .training) ∨ lanes = 0 then .next s
  else if sameRole then
    fin (((s.setLink .down).passEvent 5).log .pairRoleClash [BitVec.ofNat 8 (if s.roleA then 0 else 1)])
  else
    fin (((s.onPass (fun p => { p with lanes := runLanes lanes, reduced := decide (s.aon.mode = .part) })).setLink .up).pxLink)

/-- PASS_LANE_FAIL: the link retrains on the remaining lanes, or goes down with the last one (R571). -/
def execPassLaneFail (lane : Nat) (s : State) : Out :=
  if 4 ≤ lane then noUnit
  else if ¬ (s.pass.link = .up ∧ s.pass.lanes.getLsbD lane) then .next s
  else
    let left := runLanes (putBit s.pass.lanes lane false)
    if left = 0 then fin s.linkLost
    else fin (s.onPass (fun p => { p with lanes := left, cnt := { p.cnt with retrain := satInc p.cnt.retrain } }))

/-- PASS_LANE_RETRY: lanes that work again join the link; with no lane left the link trains again (R571). -/
def execPassLaneRetry (lanes : BitVec 4) (s : State) : Out :=
  if ¬ (s.pass.paired ∧ s.linkMode) ∨ lanes = 0 then .next s
  else
    match s.pass.link with
    | .training => .next s
    | .down => fin (s.setLink .training)
    | .up =>
      let now := runLanes (s.pass.lanes ||| lanes)
      if now = s.pass.lanes then .next s
      else fin (s.onPass (fun p => { p with lanes := now, cnt := { p.cnt with retrain := satInc p.cnt.retrain } }))

/-- ROLE_CLASH_RETRY: training is tried again (R570). -/
def execRoleClashRetry (s : State) : Out :=
  if s.pass.paired ∧ s.linkMode ∧ s.pass.link = .down then fin (s.setLink .training) else .next s

/-! ### Heartbeat and partner state -/

/-- HEARTBEAT_SEND: a heartbeat with the next sequence and the vector (R574). -/
def execHeartbeatSend (s : State) : Out :=
  if s.pass.link = .up ∧ ¬ s.supply.holdup then fin (s.onPass (fun p => { p with hbSeq := p.hbSeq + 1, sent := p.sent + 1 })) else .next s

/-- SIDEBAND_SEND: the vector alone, in full operation (R574). -/
def execSidebandSend (s : State) : Out :=
  if s.linkFull ∧ ¬ s.supply.holdup then fin (s.onPass (fun p => { p with sent := p.sent + 1 })) else .next s

/-- SIDEBAND_RECEIVE (R574, R576). -/
def execSidebandReceive (vector : BitVec 256) (s : State) : Out := if s.linkFull then fin (s.sbTake vector) else .next s

/-- The partner state changes: the event, and the notice on stall 0 (R578, R579). -/
def State.partnerTo (s : State) (st : Partner) : State :=
  let s1 := (s.onPass (fun p => { p with partner := st })).passEvent 1
  s1.unsolicited 0 0x0903 s1.pairStatus

/-- FAR_ERROR to every REMOTE request that is outstanding (R239). -/
def State.remotesFail (s : State) : State :=
  let s1 := s.onAmind (fun a => { a with remotes := [] })
  s.mgmt.amind.remotes.foldl (fun t r => t.respond r.req.route (answerOf r.req { st := .farError })) s1

/-- HEARTBEAT_RECEIVE: the copy is updated; the third consecutive heartbeat makes the partner ALIVE (R574, R578). -/
def execHeartbeatReceive (seq : U16) (vector : BitVec 256) (s : State) : Out :=
  if s.pass.link ≠ .up then .next s
  else
    let p := s.pass
    let follows : Bool := p.beats ≠ 0 && seq = p.hbLast + 1
    let gap := if p.partner = .alive then (seq - p.hbLast - 1).toNat else 0
    let s1 := (s.sbTake vector).onPass (fun q => { q with
      hbLast := seq, beats := if follows then min 3 (q.beats + 1) else 1
      cnt := { q.cnt with missed := satAdd q.cnt.missed gap } })
    if p.partner = .alive ∨ s1.pass.beats < 3 then fin s1
    else
      let s2 := (s1.onPass (fun q => { q with asleep := false, autoDone := false })).partnerTo .alive
      fin (if p.partner = .unknown then s2 else s2.log .partnerAlive [])

/-- A dual-feed channel is taken over (R596). -/
def State.takeOver (s : State) (c : Nat) : State :=
  if (s.load c).cfg.dual ∧ s.pass.takeover.getLsbD c ∧ s.pass.sbSeen ∧ s.pass.sbPartner.getLsbD (12 + c) ∧ (s.load c).drive = .off then
    let s1 := s.updLoad c (fun ch => ch.hold fullOn s.now)
    let s2 := s.loadStep s1 c false
    (s2.updLoad c (fun ch => { ch with drive := if ch.drive = .soft then .on else ch.drive })).passEvent 3
  else s

/-- Takeover of H0 to H3 (R596). -/
def State.takeOverAll (s : State) : State := [0, 1, 2, 3].foldl (fun t c => t.takeOver c) s

/-- PARTNER_LOST (R606). -/
def State.logLost (s : State) : State :=
  s.log .partnerLost (BitVec.ofNat 8 (if s.pass.fault then 1 else 0) :: leBytes 4 s.pass.cnt.missed.toNat)

/-- HEARTBEAT_LOSS: 500 µs without a heartbeat in ALIVE (R578, R592). -/
def execHeartbeatLoss (s : State) : Out :=
  if ¬ (s.pass.paired ∧ s.pass.partner = .alive) then .next s
  else
    let s0 := (s.onPass (fun p => { p with beats := 0, cnt := { p.cnt with missed := satAdd p.cnt.missed 5 } })).remotesFail
    if s.pass.fault then fin ((((s0.onPass (fun p => { p with partner := .down })).passEnd.takeOverAll).partnerTo .down).logLost)
    else if s.pass.sbPartner.extractLsb' 8 3 = 3 then
      fin ((s0.onPass (fun p => { p with asleep := true })).passEnd.partnerTo .down)
    else fin ((s0.passEnd.partnerTo .cut).log .passLinkCut [BitVec.ofNat 8 s.pass.laneCount])

/-- PARTNER_STARTUP_TIMEOUT: 20 ms after step 5 without a heartbeat (R578). -/
def execPartnerStartupTimeout (s : State) : Out :=
  if s.pass.paired ∧ s.pass.partner = .unknown ∧ s.linkMode ∧ s.pass.beats = 0 then
    fin (s.passEnd.partnerTo (if s.pass.fault then .down else .cut))
  else .next s

/-- PARTNER_FAULT_CHANGE: the filtered level of PARTNER_FAULT_N changes; a standalone module ignores it (R569, R577, R578). -/
def execPartnerFaultChange (low : Bool) (s : State) : Out :=
  let s0 := s.onSupply (fun u => { u with partnerLow := low })
  if ¬ s.pass.paired then fin s0
  else
    let s1 := s0.onPass (fun p => { p with fault := low })
    if ¬ low ∨ s.pass.fault then fin s1
    else match s.pass.partner with
      | .cut => fin ((s1.takeOverAll.partnerTo .down).logLost)
      | .down => if s.pass.asleep then fin ((s1.onPass (fun p => { p with asleep := false })).takeOverAll) else fin s1
      | .unknown => fin s1
      | .alive => fin s1

/-- A new pulse on PARTNER_RST_N may begin: START_GOOD has been reached, and the module's own RESET_N is not low (R67). -/
def State.partnerMay (s : State) : Bool := s.aon.startGood && !s.supply.pinHeld

/-- PARTNER_RST_N is pulsed, its ledger entry first (R67, R599). -/
def State.partnerPulse (s : State) (auto : Bool) : State :=
  if s.partnerMay then (s.log .partnerReset [if auto then 1 else 0]).onSupply (fun p => { p with partnerRst := true }) else s

/-- AUTO_PARTNER_RESET: role A, once, after 100 ms of CUT (R599). -/
def execAutoPartnerReset (s : State) : Out :=
  if s.pass.paired ∧ s.roleA ∧ s.pass.autoRst ∧ s.pass.partner = .cut ∧ ¬ s.pass.autoDone ∧ s.partnerMay then
    fin ((s.partnerPulse true).onPass (fun p => { p with autoDone := true }))
  else .next s

/-! ### Transactions into a window -/

/-- The Pass windows of an instance are disabled (R517). -/
def State.winOff (s : State) (u : Window) : Bool := u.stopped || s.fnOff u.owner 0x0A 0

/-- Two reads are one by initiator, instance, address and size (R586). -/
def Xact.same (x y : Xact) : Bool :=
  x.attr.init = y.attr.init && x.attr.inst = y.attr.inst && x.addr = y.addr && x.size = y.size

/-- Posted writes that are sent before a request of an initiator into a window: up to the last one of both (R585). -/
def Pass.behind (p : Pass) (w : Nat) (init : Byte) : Nat :=
  ((p.posted ++ p.portWait).foldl (fun (n : Nat × Nat) r =>
    (n.1 + 1, if r.win = w ∧ r.x.attr.init = init then n.1 + 1 else n.2)) (0, 0)).2

/-- A read into a window that its checker has admitted (R585, R586, R590, R592, R593). -/
def State.winRead (s : State) (x : Xact) : State × Resp × List Byte :=
  let a := x.addr.toNat
  match s.windowAt x.attr a x.size with
  | none => (s, .aerr, [])
  | some (w, u) =>
    let slot := s.pass.slots.find? (fun r => r.x.same x)
    let drop (t : State) (i : Nat) : State := t.onPass (fun p => { p with slots := p.slots.filter (fun r => r.id ≠ i) })
    if slot.isNone ∧ s.winOff u then (s, .aerr, [])
    else if u.sticky then (s.countFerr a, .ferr, [])
    else match slot with
      | some r =>
        match r.ph with
        | .waiting => (s, .retry, [])
        | .ready => (drop s r.id, .ok, r.data)
        | .error => (drop (s.countFerr a) r.id, .ferr, [])
      | none =>
        if s.farGone then (s.countFerr a, .ferr, [])
        else match (List.range 256).find? (fun i => s.pass.slots.all (fun r => r.id ≠ i)) with
          | some i => (s.onPass (fun p => { p with slots := p.slots ++ [{ id := i, x := x, behind := p.behind w x.attr.init }] }), .retry, [])
          | none => (s, .retry, [])

/-- A non-posted write into a window (R585, R587): `none` while its answer is awaited. -/
def State.winWrite (s : State) (x : Xact) : State × Option Resp :=
  let a := x.addr.toNat
  match s.windowAt x.attr a x.data.length with
  | none => (s, some .aerr)
  | some (w, u) =>
    if s.winOff u then (s, some .aerr)
    else if u.sticky ∨ s.farGone then (s.countFerr a, some .ferr)
    else match (List.range 128).find? (fun i => s.pass.trackers.all (fun r => r.id ≠ i)) with
      | some i => ((s.onPass (fun p => { p with trackers := p.trackers ++ [{ id := i, x := x, behind := p.behind w x.attr.init }] })).issued
          x.attr, none)
      | none => (s, some .retry)

/-- A posted write into a window: accepted, waiting at its port, or discarded with FERR (R588, R590, R592). -/
def State.winPost (s : State) (x : Xact) : State × Resp :=
  let a := x.addr.toNat
  match s.windowAt x.attr a x.data.length with
  | none => (s, .aerr)
  | some (w, u) =>
    if s.winOff u then (s, .aerr)
    else if u.sticky ∨ s.farGone then (s.countFerr a, .ferr)
    else if s.pass.posted.length < 64 then (s.onPass (fun p => { p with posted := p.posted ++ [{ win := w, x := x }] }), .ok)
    else (s.onPass (fun p => { p with portWait := p.portWait ++ [{ win := w, x := x }] }), .ok)

/-- The oldest posted write is sent, and the oldest one that waits at a port enters the buffer (R572, R588). -/
def Pass.sendPosted (p : Pass) : Pass :=
  match p.posted with
  | [] => p
  | _ :: r => { p with
      posted := r ++ p.portWait.take 1, portWait := p.portWait.drop 1, sent := p.sent + 1
      slots := p.slots.map (fun q => { q with behind := q.behind - 1 }), trackers := p.trackers.map (fun q => { q with behind := q.behind - 1 }) }

/-- An access row of the window space. -/
def State.winRow (s : State) (x : Xact) (len : Nat) (wr : Bool) (own : State → State × Option Resp × List Byte) : Out :=
  if target x.addr.toNat ≠ 0x11 ∨ ¬ s.fabricUp ∨ ¬ x.fits len then .next s
  else s.aligned x len (if wr then 6 else 4) <| match s.held x (if wr then .write else .read) with
    | some t => fin t
    | none => match s.verdict x.attr x.addr.toNat len (!wr) wr with
      | .ok =>
        let q := own s
        match q.2.1 with
        | some r => fin ((q.1.capture x.attr x.addr.toNat wr r).answered r q.2.2)
        | none => fin q.1
      | r => fin ((s.capture x.attr x.addr.toNat wr r).answered r [])

/-- PASS_WINDOW_READ (R581, R586). -/
def execPassWindowRead (x : Xact) (s : State) : Out :=
  s.issueX x fun x =>
  s.winRow x x.size false (fun s => let q := s.winRead x; (q.1, some q.2.1, q.2.2))

/-- A window takes posted writes, as its policy says (R584). -/
def State.winPosted (s : State) (x : Xact) : Bool :=
  match s.windowAt x.attr x.addr.toNat x.data.length with
  | some (_, u) => u.posted
  | none => false

/-- PASS_NONPOSTED_WRITE: a write into a window of policy 0 (R587). -/
def execPassNonpostedWrite (x : Xact) (s : State) : Out :=
  s.issueX x fun x =>
  if s.winPosted x then .next s
  else s.winRow x x.data.length true (fun s => let q := s.winWrite x; (q.1, q.2, []))

/-- PASS_POSTED_WRITE: a write into a window of policy 1; it has no response, and one refused is counted as R131 says (R588). -/
def execPassPostedWrite (x : Xact) (s : State) : Out :=
  s.issueX x fun x =>
  if ¬ s.fabricUp ∨ ¬ x.fits x.data.length then .next s
  else if ¬ s.winPosted x then .next s
  else s.aligned x x.data.length 6 <| match s.held x .posted with
    | some t => fin t
    | none => match s.verdict x.attr x.addr.toNat x.data.length false true with
      | .ok => let q := s.winPost x; fin (q.1.capture x.attr x.addr.toNat true q.2)
      | r => fin (s.capture x.attr x.addr.toNat true r)

/-- Read slot i, if it is not FREE. -/
def State.slot (s : State) (i : Nat) : Option RdSlot := s.pass.slots.find? (fun r => r.id = i)
/-- Change read slot i. -/
def State.updSlot (s : State) (i : Nat) (f : RdSlot → RdSlot) : State :=
  s.onPass (fun p => { p with slots := p.slots.map (fun r => if r.id = i then f r else r) })
/-- A late answer is discarded and counted. -/
def State.stray (s : State) : State := s.onPass (fun p => { p with cnt := { p.cnt with stray := satInc p.cnt.stray } })

/-- PASS_READ_DATA_ARRIVE: data or an error response for a slot whose request has been sent; late data counts as stray (R585, R586). -/
def execPassReadDataArrive (slot : Nat) (ok : Bool) (data : List Byte) (s : State) : Out :=
  if 256 ≤ slot then noUnit
  else match s.slot slot with
    | some r =>
      if r.ph = .waiting ∧ r.behind ≠ 0 then .next s
      else if r.ph = .waiting then
        fin (s.updSlot slot (fun r => { r with ph := if ok then .ready else .error, data := if ok then data else [] }))
      else fin s.stray
    | none => fin s.stray

/-- PASS_READ_SLOT_TIMEOUT (R586). -/
def execPassReadSlotTimeout (slot : Nat) (s : State) : Out :=
  if 256 ≤ slot then noUnit
  else match s.slot slot with
    | some r => if r.ph = .waiting ∧ r.behind = 0 then fin (s.updSlot slot (fun r => { r with ph := .error })) else .next s
    | none => .next s

/-- PASS_READY_EXPIRY (R586). -/
def execPassReadyExpiry (slot : Nat) (s : State) : Out :=
  if 256 ≤ slot then noUnit
  else match s.slot slot with
    | some r =>
      if r.ph = .waiting then .next s
      else fin ((s.onPass (fun p => { p with
        slots := p.slots.filter (fun q => q.id ≠ slot), cnt := { p.cnt with expired := satInc p.cnt.expired } })).passEvent 4)
    | none => .next s

/-- The tracker that took a record write gets its MSI. -/
def Pass.withMsi (p : Pass) (x : Xact) (msi : Option (Bind × Bool)) : Pass :=
  { p with trackers := p.trackers.map (fun r => if r.x = x ∧ r.msi = none then { r with msi := msi } else r) }

/-- The oldest record write that waits goes on once a tracker is free (R120, R587). -/
def State.recordsGo (s : State) : State :=
  match s.pass.recWait with
  | [] => s
  | r :: rest =>
    let q := (s.onPass (fun p => { p with recWait := rest })).winWrite r.x
    match q.2 with
    | none => q.1.onPass (fun p => p.withMsi r.x r.msi)
    | some .retry => s
    | some _ => q.1

/-- The tracker of a number is freed and its write answered; an OK for an engine's record lets its MSI go, and a record write that waits takes
the tracker (R120). -/
def State.trackerEnd (s : State) (r : Tracker) (c : Resp) : State :=
  let s0 := s.onPass (fun p => { p with trackers := p.trackers.filter (fun q => q.id ≠ r.id) })
  let s1 : State := match r.msi with
    | some (b, sec) => if c = Resp.ok then s0.msiBind b sec 0 else s0
    | none => s0
  (((if c = .ferr then s1.countFerr r.x.addr.toNat else s1).capture r.x.attr r.x.addr.toNat true c).settled r.x.attr c []).recordsGo

/-- Tracker i, if it is in use. -/
def State.tracker (s : State) (i : Nat) : Option Tracker := s.pass.trackers.find? (fun r => r.id = i)

/-- PASS_WRITE_RESPONSE: to a write whose request has been sent (R585, R587). -/
def execPassWriteResponse (tracker : Nat) (ok : Bool) (s : State) : Out :=
  if 128 ≤ tracker then noUnit
  else match s.tracker tracker with
    | some r => if r.behind ≠ 0 then .next s else fin (s.trackerEnd r (if ok then .ok else .ferr))
    | none => fin s.stray

/-- PASS_WRITE_TIMEOUT (R587). -/
def execPassWriteTimeout (tracker : Nat) (s : State) : Out :=
  if 128 ≤ tracker then noUnit
  else match s.tracker tracker with
    | some r => fin (s.trackerEnd r .ferr)
    | none => .next s

/-- Slots and trackers of an instance that are still open at a limit are freed; the writes receive AERR (R593). -/
def State.passFree (s : State) (inst : Nat) : State :=
  let s1 := s.onPass (fun p => { p with
    slots := p.slots.filter (fun r => r.x.attr.inst.toNat ≠ inst), recWait := p.recWait.filter (fun r => r.x.attr.inst.toNat ≠ inst) })
  (s1.pass.trackers.filter (fun r => r.x.attr.inst.toNat = inst)).foldl (fun t r => t.trackerEnd r .aerr) s1

/-- Slots and trackers of an instance are open. -/
def State.passBusy (s : State) (inst : Nat) : Bool :=
  s.pass.slots.any (fun r => r.x.attr.inst.toNat = inst) || s.pass.trackers.any (fun r => r.x.attr.inst.toNat = inst)

/-- The windows of an instance stop or go on taking transactions (R593). -/
def State.winsStop (s : State) (inst : Nat) (b : Bool) : State :=
  s.onPass (fun p => { p with wins := p.wins.map (fun e => (e.1, if e.2.owner = inst then { e.2 with stopped := b } else e.2)) })

/-- PASS_ERROR_MESSAGE_ARRIVE: STICKY, the first capture, and the window's MSI (R590). -/
def execPassErrorMessageArrive (win : Nat) (addr : A40) (origin : Byte) (inst : BitVec 6) (sec : Bool) (code : Resp) (s : State) : Out :=
  if 32 ≤ win then noUnit
  else match s.hFind 0x0A win with
    | none => .next s
    | some h => if ¬ s.linkFull then .next s else fin ((s.updWin win (fun u => u.caught addr origin inst sec code.code)).msiBind h.bind h.sec 0)

/-- PASS_CLEAR_ACK (R591). -/
def execPassClearAck (win : Nat) (s : State) : Out := if 32 ≤ win then noUnit else fin (s.endClear win)

/-- PASS_CLEAR_MARKER_ARRIVE: the window of the partner is no longer poisoned here, and the acknowledgement leaves (R591). -/
def execPassClearMarkerArrive (win : Nat) (s : State) : Out :=
  if 32 ≤ win then noUnit
  else if ¬ s.linkFull then .next s
  else fin (s.onPass (fun p => { p with poisoned := p.poisoned.filter (fun w => w ≠ win), sent := p.sent + 1 }))

/-- An inbound posted write of a partner's window has failed: the window is poisoned and the error message leaves (R589). -/
def State.poison (s : State) (e : PassErr) : State :=
  if s.pass.poisoned.contains e.win then s
  else s.onPass (fun p => { p with poisoned := p.poisoned ++ [e.win], sent := p.sent + 1, errSent := some e })

/-- PASS_POSTED_FAILURE: AERR, DERR, TERR or QERR (R589). -/
def execPassPostedFailure (win : Nat) (x : Xact) (origin : Byte) (code : Resp) (s : State) : Out :=
  if 32 ≤ win then noUnit
  else if s.linkFull ∧ code ∈ [Resp.aerr, .derr, .terr, .qerr] then
    fin (s.poison { win := win, addr := x.addr, origin := origin, inst := x.attr.inst, sec := x.attr.sec, code := code }) else .next s

/-! ### The pair commands -/

/-- PASS_WINDOW_OPEN, 0x0901. -/
def specPassWindowOpen : CmdSpec := { op := 0x0901, who := [.mgr, .gst] }

/-- The payload of PASS_WINDOW_OPEN (R282). A window of size 0 is refused with BAD_PARAM (DESIGN CHOICE, log entry 151). -/
def State.okWindow (s : State) (owner : Nat) (p : List Byte) : Bool :=
  let a := u64At p 0
  let n := u64At p 8
  p.length = 24 && a % 4096 = 0 && n % 4096 = 0 && 0 < n && a + n ≤ 0x1000000000 && u8At p 16 ≤ 1
    && u8At p 17 = 0 && u16At p 18 = 0 && s.bindOk (bindAt p 20) owner false 0

/-- A range overlaps an open window. -/
def State.winOverlap (s : State) (a n : Nat) : Bool :=
  s.pass.wins.any (fun e => e.2.opened && a < e.2.partner.toNat + e.2.size.toNat && e.2.partner.toNat < a + n)

/-- A new window (R580, R601); its charge is its size in MiB, rounded up, in pages. -/
def ownPassWindowOpen (rq : Request) (s : State) : State × Ans :=
  let p := rq.payload
  let own := s.issuerInst rq.route
  let a := u64At p 0
  let n := u64At p 8
  let pages := (n + 0xFFFFF) / 0x100000 * 256
  if s.fnOff own 0x0A 0 then no s .fnDisabled
  else if s.winOverlap a n then no s .busy
  else match s.firstFree 0x0A 32 with
    | none => no s .noResource
    | some w =>
      if ¬ s.roomFor 0x0A 0 own false 1 pages ∨ s.blockIsOff 0x60 then no s .noResource
      else
        let loc : A40 := BitVec.ofNat 40 (0x4000000000 + a)
        (((s.takeFree 0x0A 32).hCreate 0x0A w own false (bindAt p 20) (0, 1, pages)).updWin w (fun _ =>
            { opened := true, posted := decide (u8At p 16 = 1), enabled := true, owner := own
              loc := loc, partner := BitVec.ofNat 40 a, size := BitVec.ofNat 40 n }),
          { handle := some (mkHandle 0x0A own (s.genOf 0x0A w) w), payload := leBytes 8 loc.toNat })

/-- PASS_WINDOW_OPEN (R580). -/
def execPassWindowOpen (rq : Request) (s : State) : Out :=
  serve specPassWindowOpen rq s (s.okWindow (s.issuerInst rq.route)) (ownPassWindowOpen rq)

/-- PASS_ERROR_CLEAR, 0x0902. -/
def specPassErrorClear : CmdSpec := { op := 0x0902, who := everyIssuer, types := [0x0A] }

/-- A request passes every check in front of a command's own part. -/
def State.accepts (s : State) (c : CmdSpec) (rq : Request) (valid : List Byte → Bool) : Bool :=
  s.waits rq && s.amindUp && rq.opcode.toNat = c.op && !rq.relayed && !s.answersBusy rq.route && rq.headerOk && !s.replays rq
    && (s.heard rq).precheck c rq valid false = .ok

/-- A stall keeps its request in service until an event answers it (R224). -/
def State.keepServing (s : State) (r : Route) : State :=
  match r with
  | .stall n => s.updStall n (fun t => { t with st := .serving })
  | .svc _ => s
  | .ptr _ => s
  | .udp _ => s

/-- Outside full operation the sticky error is cleared locally, and the answer is given at once (R591). -/
def ownPassErrorClear (rq : Request) (s : State) : State × Ans :=
  let w := hIndex rq.handle
  yesWith (s.updWin w Window.cleared) (s.win w).capture

/-- PASS_ERROR_CLEAR: in full operation the marker leaves, and the answer follows the acknowledgement (R591). -/
def execPassErrorClear (rq : Request) (s : State) : Out :=
  let w := hIndex rq.handle
  let valid (p : List Byte) : Bool := p.isEmpty
  if s.accepts specPassErrorClear rq valid ∧ s.linkFull then
    fin (((s.heard rq).updWin w (fun u => { u with clearing := some (rq.route.key, rq.seq) })).keepServing rq.route)
  else serve specPassErrorClear rq s valid (ownPassErrorClear rq)

/-- PAIR_STATUS, 0x0903. -/
def specPairStatus : CmdSpec :=
  { op := 0x0903, who := [.mgr, .sec, .ptr, .svc], role := some 0, st := true, safe := true }

/-- PAIR_STATUS (R282, R569, R578). -/
def execPairStatus (rq : Request) (s : State) : Out :=
  serve specPairStatus rq s List.isEmpty (fun s => yesWith s s.pairStatus)

/-- SIDEBAND_WRITE, 0x0904. -/
def specSidebandWrite : CmdSpec := { op := 0x0904, who := [.mgr] }

/-- SIDEBAND_WRITE: manager bits take the value where the mask is 1 (R282, R576). -/
def execSidebandWrite (rq : Request) (s : State) : Out :=
  serve specSidebandWrite rq s (fun p => p.length = 32) (fun s =>
    let v : BitVec 128 := BitVec.ofNat 128 (leNat (rq.payload.take 16))
    let m : BitVec 128 := BitVec.ofNat 128 (leNat (rq.payload.drop 16))
    yes (s.onPass (fun p => { p with sbMgr := (p.sbMgr &&& ~~~m) ||| (v &&& m) })))

/-- PARTNER_RESET, 0x0905. -/
def specPartnerReset : CmdSpec := { op := 0x0905, who := [.mgr] }

/-- PARTNER_RESET (R282, R599). -/
def execPartnerReset (rq : Request) (s : State) : Out :=
  serve specPartnerReset rq s List.isEmpty (fun s => yes (s.partnerPulse false))

/-- PARTNER_RST_PULSE_END: the 1 ms pulse ends (R67). -/
def execPartnerRstPulseEnd (s : State) : Out :=
  if s.supply.partnerRst then fin (s.onSupply (fun p => { p with partnerRst := false })) else .next s

/-! ### Registers (R601) -/

/-- A word of a vector. -/
def vecWord {w : Nat} (x : BitVec w) (k : Nat) : U32 := x.extractLsb' (32 * k) 32

/-- A word of the global page. -/
def State.passGlobalWord (s : State) (o : Nat) : U32 :=
  let p := s.pass
  if o = 0x000 then
    flagAt (!s.roleA) 0 ||| flagAt p.paired 1 ||| natWord (p.link.code * 4) ||| natWord (p.partner.code * 16)
      ||| natWord (p.laneCount * 64) ||| flagAt p.fault 9 ||| flagAt p.asleep 10
  else if o = 0x004 then flagAt p.autoRst 0 ||| fieldAt p.takeover 4
  else if o = 0x008 then p.cnt.missed
  else if o = 0x00C then natWord (p.slots.length + p.trackers.length * 65536)
  else if 0x040 ≤ o ∧ o < 0x060 then vecWord s.sbOwn ((o - 0x040) / 4)
  else if 0x060 ≤ o ∧ o < 0x080 then vecWord p.sbPartner ((o - 0x060) / 4)
  else if o = 0x080 then p.cnt.expired
  else if o = 0x084 then p.cnt.stray
  else if o = 0x088 then p.cnt.denied
  else if o = 0x08C then p.cnt.discard
  else if o = 0x090 then p.cnt.flush
  else if o = 0x094 then p.cnt.retrain
  else if 0x100 ≤ o ∧ o < 0x180 then
    let r : Nat × Nat := Tab.get p.ranges ((o - 0x100) / 0x10) (0, 0)
    if o % 0x10 = 0 then natWord r.1 else if o % 0x10 = 4 then natWord r.2 else 0
  else 0

/-- A word of a window page. -/
def State.winWord (s : State) (w o : Nat) : U32 :=
  let u := s.win w
  if o = 0x00 then
    flagAt u.opened 0 ||| flagAt u.posted 1 ||| flagAt (u.enabled && !s.fnOff u.owner 0x0A 0) 2 ||| flagAt u.sticky 3
      ||| natWord (u.owner * 256)
  else if o = 0x28 then
    fieldAt u.errInit 0 ||| fieldAt u.errInst 8 ||| flagAt u.errSec 14 ||| fieldAt u.errResp 15 ||| flagAt u.errValid 31
  else if o = 0x30 then u.ferr
  else if o = 0x34 then u.discarded
  else (pick64 [(0x08, u.loc.setWidth 64), (0x10, u.partner.setWidth 64), (0x18, u.size.setWidth 64),
    (0x20, u.errAddr.setWidth 64)] o).getD 0

/-- A word of region 0x0C, by offset from 0x00_1500_0000. -/
def State.passWord (s : State) (o : Nat) : U32 :=
  if o < 0x1000 then s.passGlobalWord o
  else if o < 0x2000 then
    let k := o - 0x1000
    if k = 0 then fieldAt s.pass.event 0
    else if k = 4 then fieldAt s.pass.eventEn 0
    else if 0x10 ≤ k ∧ k < 0x20 then vecWord s.pass.sbChg ((k - 0x10) / 4)
    else 0
  else if 0x10000 ≤ o ∧ o < 0x30000 then s.winWord ((o - 0x10000) / 0x1000) (o % 0x1000)
  else 0

/-- A word write of region 0x0C: the event page (R601). -/
def State.passPut (s : State) (o : Nat) (v m : U32) : State :=
  if o = 0x1000 then s.onPass (fun p => { p with event := w1c p.event v m })
  else if o = 0x1004 then s.onPass (fun p => { p with eventEn := (mix (fieldAt p.eventEn 0) v m).setWidth 6 })
  else if 0x1010 ≤ o ∧ o < 0x1020 then
    s.onPass (fun p => { p with
      sbChg := p.sbChg &&& ~~~(((v &&& m).setWidth 128) <<< (32 * ((o - 0x1010) / 4))) })
  else s

end Sys2Proof.Machine
end

