-- ==== Sys2Proof/Machine/Stalls.lean ====
section
/-! DEFINITION. Stall pages and their state machine, service sessions over UDP, and the relay to and from the partner module
(R213 to R248). -/

namespace Sys2Proof.Machine

open Sys2Proof

/-! ### The stall page -/

/-- First address of stall n (R218). -/
def stallAddr (n : Nat) : Nat := 0x10000000 + n * 0x1000

/-- Bytes of the request area from an offset on. -/
def Stall.areaBytes (t : Stall) (o n : Nat) : List Byte := (List.range n).map (fun i => Tab.get t.area (o + i) 0)

/-- Bytes of a stall page from an offset on; doorbell and release read 0, and so do the bytes of the response payload beyond RSP_LEN (R219;
DESIGN CHOICE, log entry 150). -/
def Stall.pageBytes (t : Stall) (o n : Nat) : List Byte :=
  if o < 0x800 then (t.areaBytes o n).mapIdx (fun i b => if o + i = 0x00E ∨ o + i = 0x00F then 0 else b)
  else
    let b := t.rsp.bytes
    (List.range n).map (fun i => b.getD (o - 0x800 + i) 0)

/-- The request that the request area holds (R219, R220). -/
def Stall.request (t : Stall) (n : Nat) : Request :=
  let h := t.areaBytes 0 16
  { route := .stall n, opcode := BitVec.ofNat 16 (u16At h 0), flags := BitVec.ofNat 16 (u16At h 2)
    seq := BitVec.ofNat 16 (u16At h 4), handle := BitVec.ofNat 32 (u32At h 8), len := BitVec.ofNat 16 (u16At h 12)
    payload := t.areaBytes 16 (min (u16At h 12) 2032) }

/-- The oldest notice is written and the stall takes a state (R224, R225). -/
def State.nextNotice (s : State) (n : Nat) (st : StallState) : State :=
  match (s.stall n).notices with
  | [] => s
  | r :: rs => (s.updStall n (fun t => { t with notices := rs })).writeNotice n r st

/-- The doorbell of a stall (R220, R224). -/
def State.doorbell (s : State) (n : Nat) : State :=
  let t := s.stall n
  let take (st : StallState) : State := s.updStall n (fun t => { t with st := st, captured := some (t.request n) })
  match t.st with
  | .idle => take .queued
  | .answered => if t.notices.isEmpty then take .queued else (take .blocked).nextNotice n .blocked
  | .notified => take .blocked
  | .closed => s
  | .queued => s
  | .serving => s
  | .blocked => s

/-- The release of a response area (R224). In QUEUED and SERVING, for which the table has no row, it changes nothing (DESIGN CHOICE, log
entry 133). -/
def State.release (s : State) (n : Nat) : State :=
  let t := s.stall n
  match t.st with
  | .answered => if t.notices.isEmpty then s.updStall n (fun t => { t with st := .idle }) else s.nextNotice n .notified
  | .notified => if t.notices.isEmpty then s.updStall n (fun t => { t with st := .idle }) else s.nextNotice n .notified
  | .blocked => s.updStall n (fun t => { t with st := .queued })
  | .idle => s
  | .closed => s
  | .queued => s
  | .serving => s

/-- A request is captured and not yet answered: writes to the request area receive TERR (R220, R224). -/
def StallState.holds (st : StallState) : Bool :=
  match st with
  | .queued => true
  | .serving => true
  | .blocked => true
  | .closed => false
  | .idle => false
  | .answered => false
  | .notified => false

/-- A write of bytes to a stall page (R219, R220, R224). -/
def State.stallWrite (s : State) (n o : Nat) (d : List Byte) : State × Resp :=
  if o < 0x800 then
    if (s.stall n).st.holds then (s, .terr)
    else
      let put (a : Tab Byte) : Tab Byte :=
        (d.mapIdx (fun i b => (o + i, b))).foldl (fun m e =>
          if e.1 = 0x00E ∨ e.1 = 0x00F ∨ 0x800 ≤ e.1 then m else Tab.putD m e.1 0 e.2) a
      let s1 := s.updStall n (fun t => { t with area := put t.area })
      (if o ≤ 0x00F ∧ 0x00E < o + d.length then s1.doorbell n else s1, .ok)
  else (if o ≤ 0x80F ∧ 0x80E < o + d.length then s.release n else s, .ok)

/-- STALL_REQUEST_AREA_WRITE: a write to a stall's request area (R218, R220). -/
def execStallRequestAreaWrite (stall : Nat) (x : Xact) (s : State) : Out :=
  if 64 ≤ stall then noUnit
  else s.issueX x fun x => s.aligned x x.data.length 6 <|
    let a := x.addr.toNat
    if ¬ within a (stallAddr stall) 0x800 ∨ 0x800 < a - stallAddr stall + x.data.length then .next s
    else fin (s.accessAt x .write (fun s =>
      let q := s.stallWrite stall (a - stallAddr stall) x.data
      (q.1, q.2, [])))

/-- STALL_DOORBELL: a write to REQ_DOORBELL (R218, R220, R224). -/
def execStallDoorbell (stall : Nat) (attr : Attr) (s : State) : Out :=
  if 64 ≤ stall then noUnit
  else s.issue attr fun attr =>
    fin (s.accessAt (writeX attr (stallAddr stall + 0x00E) 2 0) .write (fun s =>
      let q := s.stallWrite stall 0x00E [0, 0]
      (q.1, q.2, [])))

/-- STALL_RELEASE: a write to RSP_RELEASE (R218, R224). -/
def execStallRelease (stall : Nat) (attr : Attr) (s : State) : Out :=
  if 64 ≤ stall then noUnit
  else s.issue attr fun attr =>
    fin (s.accessAt (writeX attr (stallAddr stall + 0x80E) 2 0) .write (fun s =>
      let q := s.stallWrite stall 0x80E [0, 0]
      (q.1, q.2, [])))

/-- A stall as an instance reset of its owner leaves it: areas zeroed, request and notices dropped, last sequence 0, the result
discarded (R224, R260). -/
def State.stallReset (s : State) (n : Nat) : State :=
  (s.updStall n (fun t => { st := .idle, owner := t.owner, bind := t.bind })).updRoute n (fun r =>
    { r with lastSeq := 0, stored := {}, result := none })

/-! ### Service sessions -/

/-- The debug port closes, with its entry: a halted pair runs on without its checker (R164, R192, R606). -/
def State.debugClose (s : State) : State :=
  if s.core.dbg.opened.isSome then
    (s.onCore (fun c => { c with
      dbg := { c.dbg with opened := none }, pairs := c.pairs.map (fun e => (e.1, { e.2 with
        haltReq := false, st := if e.2.st = .halted then .running else e.2.st })) })).log .debugOpened [0]
  else s

/-- Ledger readers of a session are destroyed (R610). -/
def State.dropReaders (s : State) (key : Nat) : State :=
  (s.mgmt.readers.filter (fun e => e.2.session = some key)).foldl (fun t e =>
    (t.onMgmt (fun m => { m with readers := Tab.drop m.readers e.1 })).hFree 0x0C e.1) s

/-- A staged update that its route loses is abandoned, unless its commit is in progress (R281). -/
def State.dropStaging (s : State) (key : Nat) : State :=
  match s.mgmt.staging with
  | some g => if g.route = key ∧ g.commit.isNone then s.onMgmt (fun m => { m with staging := none }) else s
  | none => s

/-- The keys of a session slot go. -/
def State.dropKeys (s : State) (k : Nat) : State := s.onKs (fun u => { u with sessKeys := Tab.drop u.sessKeys k })

/-- A session closes: its keys, its records, its readers, its staged update, and the debug port that it opened (R48, R247, R260, R281,
R610). -/
def State.closeSession (s : State) (k : Nat) : State :=
  let key := 64 + k
  let s1 := if s.core.dbg.opened = some key then s.debugClose else s
  (((s1.dropReaders key).dropStaging key).onAmind (fun a => { a with
    sessions := Tab.drop a.sessions k, routes := Tab.drop a.routes key })).dropKeys k

/-- Nanoseconds in 10 minutes. -/
def tenMinutes : Nat := 600000000000

/-- A DENIED answer to set-up counts; the fifth within 10 minutes begins the lockout and is recorded (R246). -/
def State.countDenied (s : State) (cred : Byte) : State :=
  if s.mgmt.amind.lockout then s
  else
    let l := s.now :: s.mgmt.amind.denied.filter (fun t => s.now.toNat - t.toNat < tenMinutes)
    if 5 ≤ l.length then
      (s.onAmind (fun a => { a with denied := [], lockout := true })).log .svcAuthLockout [cred]
    else s.onAmind (fun a => { a with denied := l })

/-- A DENIED answer to set-up: counted, with the credential of the failure. -/
def denySetup (s : State) (cred : Byte) : State × Ans := no (s.countDenied cred) .denied

/-- The source address of a datagram of session ID 0. -/
def Route.source : Route → Peer
  | .udp a => a
  | .stall _ => 0
  | .svc _ => 0
  | .ptr _ => 0

/-- SESSION_OPEN, 0x0101. -/
def specSessionOpen : CmdSpec :=
  { op := 0x0101, who := [.udp], st := true, safe := true, rcv := true }

/-- A list cut or filled with zeros to a length. -/
def sized (l : List Byte) (n : Nat) : List Byte := (List.range n).map (fun j => l.getD j 0)

/-- HKDF with SHA-384 of one block: salt, secret and info give a 256-bit key (R244). -/
def hkdf (salt secret info : List Byte) : List Byte := sized (hmac384 (hmac384 salt secret) (info ++ [1])) 32

/-- The info string "igqua t2m" or "igqua m2t" (R244). -/
def infoOf (toModule : Bool) : List Byte :=
  [0x69, 0x67, 0x71, 0x75, 0x61, 0x20] ++ (if toModule then [0x74, 0x32, 0x6D] else [0x6D, 0x32, 0x74])

/-- The payload of step 2 before its signature: session ID, the module's public key, nonce; n numbers the set-up (R244). -/
def step2Body (n : Nat) : List Byte :=
  leBytes 4 (Config.sessionId n).toNat ++ sized (Config.setupBytes n 0) 97 ++ sized (Config.setupBytes n 1) 32

/-- A set-up opens in a free one of the two slots: session ID, the module's key, nonce, and the signature over steps 1 and 2 with the
signature field zero; both keys follow from the shared secret (R244 to R246). -/
def ownSessionOpen (rq : Request) (s : State) : State × Ans :=
  let cred := rq.payload.getD 97 0
  let n := s.mgmt.amind.nextFresh
  if s.mgmt.amind.lockout then denySetup s cred
  else match [0, 1].find? (fun k => !s.mgmt.amind.sessions.has k) with
    | none => no s .noResource
    | some k =>
      let nonce := sized (Config.setupBytes n 1) 32
      let secret := Config.ecdhSecret n (rq.payload.take 97)
      let blank := answerOf rq { payload := step2Body n ++ sized [] 96 }
      let sig := ecdsaSign s.ks.signed (s.ks.signKey none) (sha384 (rq.bytes ++ blank.bytes))
      let pay := step2Body n ++ sig
      yesWith ((s.onKs (fun u => { u with
          signed := u.signed + 1
          sessKeys := Tab.put u.sessKeys k { t2m := hkdf nonce secret (infoOf true), m2t := hkdf nonce secret (infoOf false) } })).onAmind
        (fun a => { a with
          nextFresh := n + 1
          sessions := Tab.put a.sessions k
            { id := Config.sessionId n, addr := rq.route.source, peer := rq.route.source, port := rq.env.port, cred := cred
              transcript := rq.bytes ++ (answerOf rq { payload := pay }).bytes } })) pay

/-- SESSION_OPEN (R244). -/
def execSessionOpen (rq : Request) (s : State) : Out :=
  serve specSessionOpen rq s (fun p => p.length = 98) (ownSessionOpen rq)

/-- SESSION_AUTH, 0x0102. -/
def specSessionAuth : CmdSpec :=
  { op := 0x0102, who := [.udp], st := true, safe := true, rcv := true }

/-- The pending set-up of a session ID and a source address (R245). -/
def State.setupOf (s : State) (id : Nat) (addr : Peer) : Option (Nat × Session) :=
  s.mgmt.amind.sessions.find? (fun e => e.2.setup && e.2.id.toNat = id && e.2.addr = addr)

/-- The digest that the credential signs in step 3: step 1, step 2, the step 3 header and the session ID (R244). -/
def Session.step3 (e : Session) (rq : Request) : List Byte := sha384 (e.transcript ++ rq.bytes.take 20)

/-- A set-up is completed or discarded (R244 to R246, R248). The credential of a failure that names no set-up is free. -/
def ownSessionAuth (rq : Request) (s : State) : State × Ans :=
  let p := rq.payload
  match s.setupOf (u32At p 0) rq.route.source with
  | none => denySetup s (Config.freeByte 0 s.mgmt.amind.nextFresh)
  | some (k, e) =>
    let c := Tab.get s.mgmt.svc.creds e.cred.toNat {}
    if s.mgmt.svc.creds.has e.cred.toNat ∧ Config.ecdsaOk c.key (e.step3 rq) (p.drop 4) then
      let pay := [c.roles, 0, 0, 0]
      let s1 := s.onAmind (fun a => { a with
        sessions := Tab.put a.sessions k { e with setup := false, roles := c.roles, rx := 0, tx := 0 }
        routes := Tab.put a.routes (64 + k) {} })
      yesWith ((s1.svcSend k (answerOf rq { payload := pay })).log .sessionOpened [e.cred, c.roles]) pay
    else denySetup ((s.onAmind (fun a => { a with sessions := Tab.drop a.sessions k })).dropKeys k) e.cred

/-- SESSION_AUTH (R245). -/
def execSessionAuth (rq : Request) (s : State) : Out :=
  serve specSessionAuth rq s (fun p => p.length = 100) (ownSessionAuth rq)

/-- SESSION_CLOSE, 0x0103. -/
def specSessionClose : CmdSpec := { op := 0x0103, who := [.svc], st := true, safe := true, rcv := true }

/-- SESSION_CLOSE: the response is the session's last datagram (R247). -/
def execSessionClose (rq : Request) (s : State) : Out :=
  if s.accepts specSessionClose rq List.isEmpty then
    match rq.route with
    | .svc k => fin (((s.heard rq).respond rq.route (answerOf rq {})).closeSession k)
    | .stall _ => .next s
    | .ptr _ => .next s
    | .udp _ => .next s
  else serve specSessionClose rq s List.isEmpty yes

/-- UDP_DATAGRAM_DROP (R244). -/
def execUdpDatagramDrop (s : State) : Out :=
  if s.amindUp ∧ s.mgmt.svc.udp.isSome then fin (s.onAmind (fun a => { a with udpDrops := satInc a.udpDrops })) else .next s

/-- SESSION_SETUP_TIMEOUT (R245). -/
def execSessionSetupTimeout (slot : Nat) (s : State) : Out :=
  if 2 ≤ slot then noUnit
  else if s.mgmt.amind.sessions.has slot ∧ (Tab.get s.mgmt.amind.sessions slot {}).setup then
    fin ((s.onAmind (fun a => { a with sessions := Tab.drop a.sessions slot })).dropKeys slot)
  else .next s

/-- SESSION_IDLE_TIMEOUT (R48, R247). -/
def execSessionIdleTimeout (slot : Nat) (s : State) : Out :=
  if 2 ≤ slot then noUnit
  else if s.mgmt.amind.sessions.has slot ∧ ¬ (Tab.get s.mgmt.amind.sessions slot {}).setup then fin (s.closeSession slot)
  else .next s

/-- SVC_LOCKOUT_END (R246). -/
def execSvcLockoutEnd (s : State) : Out := fin (s.onAmind (fun a => { a with lockout := false }))

/-- ADDRESS_RESOLUTION_REQUEST: ARP or neighbour discovery for the service's own address is answered with its MAC address (R241). -/
def execAddressResolutionRequest (port : Nat) (asked : IpAddr) (s : State) : Out :=
  if 30 ≤ port then noUnit
  else if asked = s.mgmt.svc.addr ∧ s.listens port then fin (s.onAmind (fun a => { a with arpAnswers := a.arpAnswers + 1, arpLast := some (port, svcMac) }))
  else .next s

/-! ### The relay -/

/-- Opcodes that the command reference permits to PTR (R238, R252). -/
def ptrOps : List Nat := [0x0120, 0x0121, 0x0630, 0x0704, 0x0801, 0x0802, 0x0903]

/-- The status with which the local Amind answers a REMOTE request itself, by checks 1, 2, 4 and 5 of R226, by R89 and by
R239; none where it relays. -/
def State.relayFails (s : State) (rq : Request) : Option Status :=
  if s.answersBusy rq.route then some .busy
  else if ¬ rq.headerOk then some .badParam
  else if rq.unknown then some .badParam
  else if ¬ ptrOps.contains rq.opcode.toNat then some .denied
  else if s.aon.mode = .recovery then some .wrongMode
  else if s.farGone then some .farError
  else none

/-- REMOTE_REQUEST_RELAY: answered locally or relayed; the stall then awaits the partner (R238, R239). -/
def execRemoteRequestRelay (rq : Request) (s : State) : Out :=
  if ¬ (s.waits rq ∧ s.amindUp ∧ rq.relayed) then .next s
  else match s.relayFails rq with
    | some e => fin ((s.heard rq).respond rq.route (answerOf rq { st := e }))
    | none =>
      let n := rq.route.key
      fin (((s.heard rq).onAmind (fun a => { a with remotes := a.remotes ++ [{ stall := n, req := rq }] })).keepServing rq.route)

/-- The outstanding REMOTE request of a stall. -/
def State.remoteOf (s : State) (stall : Nat) : Option Remote := s.mgmt.amind.remotes.find? (fun r => r.stall = stall)

/-- Without the outstanding request of a stall. -/
def State.dropRemote (s : State) (stall : Nat) : State :=
  s.onAmind (fun a => { a with remotes := a.remotes.filter (fun r => r.stall ≠ stall) })

/-- REMOTE_RESPONSE_RETURN: a notice, or the response to the outstanding request, with REMOTE set (R238). -/
def execRemoteResponseReturn (stall : Nat) (rsp : Response) (s : State) : Out :=
  if 2 ≤ stall then noUnit
  else if ¬ (s.amindUp ∧ s.linkFull) then .next s
  else if rsp.flags &&& flNotice ≠ 0 then
    fin (s.stallNotice stall { rsp with flags := rsp.flags ||| flRemote })
  else match s.remoteOf stall with
    | none => .next s
    | some r =>
      if r.req.opcode = rsp.opcode ∧ r.req.seq = rsp.seq then
        fin ((s.dropRemote stall).respond (.stall stall) { rsp with flags := rsp.flags ||| flRemote })
      else .next s

/-- REMOTE_TIMEOUT (R239). -/
def execRemoteTimeout (stall : Nat) (s : State) : Out :=
  if 2 ≤ stall then noUnit
  else match s.remoteOf stall with
    | none => .next s
    | some r => fin ((s.dropRemote stall).respond r.req.route (answerOf r.req { st := .farError }))

/-- PARTNER_REQUEST_ARRIVE: placed in stall 3 when that is free, waiting otherwise (R238, R240). -/
def execPartnerRequestArrive (rq : Request) (s : State) : Out :=
  match rq.route with
  | .ptr o =>
    if 2 ≤ o then noUnit
    else if ¬ (s.amindUp ∧ s.linkFull) then .next s
    else fin ((s.onAmind (fun a => { a with ptrWait := a.ptrWait ++ [rq] })).feedPartner)
  | .stall _ => .next s
  | .svc _ => .next s
  | .udp _ => .next s

end Sys2Proof.Machine
end

