-- ==== Sys2Proof/Machine/Bus.lean ====
section
/-! DEFINITION. The fabric: registers as words over the whole memory map, memory with its reservations, atomic operations, the
regulators and arbitration, and the transactions themselves (R104, R119 to R138, R439, R531, R532, R644, R645). -/

namespace Sys2Proof.Machine

open Sys2Proof

/-! ### The always-on status block (R104, R439) -/

/-- The request bit of AON_RESET_CAUSE at its place (R105). -/
def ReqCause.word : ReqCause → U32
  | .cmd => 0x004
  | .wdog => 0x008
  | .wedged => 0x010
  | .safeEnd => 0x020
  | .key => 0x200

/-- AON_RESET_CAUSE. -/
def ResetCause.word (c : ResetCause) : U32 :=
  flagAt c.por 0 ||| flagAt c.pin 1 ||| (match c.req with
    | some r => r.word
    | none => 0) ||| flagAt c.startTimeout 6 ||| flagAt c.wake 7 ||| flagAt c.holdup 8

/-- Wake source codes (R427). -/
def wakeCode (n : Nat) : Bool := n ≤ 8 || (16 ≤ n && n ≤ 23) || (24 ≤ n && n ≤ 45) || n = 56

/-- FALSE_COUNT of a source, saturating (R433, R439). -/
def State.falseCount (s : State) (n : Nat) : Nat := min 127 (s.inHour (s.wakeCfg n).falseTimes).length

/-- A word of the always-on status block. -/
def State.aonWord (s : State) (o : Nat) : U32 :=
  let a := s.aon
  let p := s.sleep
  if o = 0x000 then
    natWord (a.mode.code + a.target.code * 16) ||| flagAt s.supply.crank 8 ||| flagAt a.startGood 9 ||| flagAt s.supply.bankReady 10
  else if o = 0x004 then a.cause.word
  else if o = 0x008 then fieldAt a.failedStarts 0 ||| flagAt a.trial 4 ||| fieldAt a.goodTime 16
  else if o = 0x00C then
    fieldAt a.safeCause 0 ||| natWord (s.safeCountNow * 256) ||| flagAt a.safeHold 12 ||| fieldAt a.safePair 16
  else if o = 0x010 then fieldAt s.supply.bankCap 0 ||| flagAt s.supply.lastCommitOk 16 ||| flagAt s.supply.holdupLow 17
  else if o = 0x020 then
    fieldAt p.phase 0 ||| flagAt p.aborted 3 ||| flagAt p.self 4 ||| flagAt p.drainCut 5 ||| flagAt p.window 6 ||| fieldAt p.drainMs 16
  else if o = 0x024 then fieldAt p.lastSource 0 ||| flagAt p.valid 6 ||| flagAt p.late 7 ||| flagAt p.confirmed 8
  else if 0x100 ≤ o ∧ o < 0x200 then
    let n := (o - 0x100) / 4
    if ¬ wakeCode n then 0
    else
      let c := s.wakeCfg n
      flagAt c.arm 0 ||| natWord (if c.toRun then 6 else 4) ||| flagAt c.quar 4 ||| natWord (s.falseCount n * 32) ||| fieldAt c.timeout 16
  else (pick64 [(0x28, p.time), (0x30, p.latch)] o).getD 0

/-! ### Error capture and regulators (R131, R138) -/

/-- A word of the error capture. -/
def FabErr.word (e : FabErr) (o : Nat) : U32 :=
  if o = 0 then e.count
  else if o = 4 then
    fieldAt e.init 0 ||| fieldAt e.inst 8 ||| flagAt e.sec 14 ||| flagAt e.write 15 ||| fieldAt e.target 16 ||| fieldAt e.resp 24
      ||| flagAt e.valid 31
  else if o = 8 then e.addr.setWidth 32
  else if o = 0xC then (e.addr >>> 32).setWidth 32
  else 0

/-- A word of a regulator unit. -/
def Regulator.word (r : Regulator) (o : Nat) : U32 :=
  if o = 0x00 then flagAt r.en 0 ||| fieldAt r.cls 1
  else if o = 0x04 then fieldAt r.guar 0
  else if o = 0x08 then fieldAt r.ceil 0
  else if o = 0x0C then fieldAt r.burst 0
  else if o = 0x10 then lo32 r.bytes
  else if o = 0x14 then hi32 r.bytes
  else if o = 0x18 then r.held
  else if o = 0x1C then r.demoted
  else 0

/-! ### Instance pages (R531, R532) -/

/-- The code of INST_STATE.STATE. -/
def InstState.code : InstState → Nat
  | .free => 0
  | .live => 1
  | .resetting => 2
  | .destroying => 3

/-- INST_STATE.STATE: instance 0 is live after step 5 (R510, R531). -/
def State.instCode (s : State) (n : Nat) : Nat := if n = 0 ∧ ¬ s.pastStep5 then 0 else (s.inst n).st.code

/-- The mask of the selectors of a kind that are disabled for an instance. -/
def Inst.offMask (i : Inst) (kind : Nat) : Nat :=
  (List.range 16).foldl (fun n k => if i.disabled.contains (kind, k) then n + 2 ^ k else n) 0

/-- A word of an instance page. -/
def State.instWord (s : State) (n o : Nat) : U32 :=
  let i := s.inst n
  if o = 0x0008 then i.dbRefused
  else if o = 0x000C then fieldAt i.dbLast 0
  else if o = 0x1000 then natWord (s.instCode n) ||| flagAt i.drain.isSome 2 ||| fieldAt i.resets 16
  else if o = 0x1004 then
    natWord ((List.range 16).foldl (fun m k => if i.disabled.any (fun d => d.1 = k) then m + 2 ^ k else m) 0)
      ||| natWord (i.offMask 0x03 * 65536)
  else if o = 0x1008 then natWord (i.offMask 0x04 % 256) ||| natWord (i.offMask 0x01 % 4 * 256)
  else if o = 0x1018 then i.stray
  else if o = 0x101C then i.aborts
  else (pick64 [(0x1010, i.resetTime)] o).getD 0

/-- The validation of a doorbell's handle, with the page's instance and the write's attribute as the issuer (R236, R532). -/
def State.dbHandle (s : State) (n : Nat) (sec : Bool) (h : U32) : Status :=
  match s.hFind (hType h) (hIndex h) with
  | none => .badHandle
  | some e =>
    if e.retiring ∨ e.gen ≠ hGen h ∨ e.owner ≠ hOwner h then .badHandle
    else if e.sec ∧ ¬ sec then .denied
    else if (e.owner = n ∧ e.sec = sec) ∨ (n = 0 ∧ ¬ sec ∧ ¬ e.sec) then .ok
    else .notOwner

/-- A refused doorbell is counted, with its status. -/
def State.dbRefuse (s : State) (n : Nat) (st : Status) : State :=
  s.updInst n (fun i => { i with dbRefused := satInc i.dbRefused, dbLast := st.code })

/-- An aligned 64-bit write to INST_DB (R532). -/
def State.dbWrite (s : State) (n : Nat) (sec : Bool) (v : U64) : State :=
  let h := v.setWidth 32
  let idx : U16 := (v >>> 32).setWidth 16
  let rx := v.getLsbD 48
  let t := hType h
  let k := hIndex h
  match s.dbHandle n sec h with
  | .ok =>
    if (t ≠ 0x01 ∧ t ≠ 0x06) ∨ (rx ∧ t = 0x06) then s.dbRefuse n .badParam
    else if s.fnOffFor (hOwner h) sec (kindOfType t) (if t = 0x01 then k / 64 else 0) then s.dbRefuse n .fnDisabled
    else if s.inReset n ∨ s.inReset (hOwner h) then s.dbRefuse n .abortedReset
    else if t = 0x06 then s.ringTail k idx
    else if rx then s.qpRxTail k idx
    else s.qpTxTail k idx
  | e => s.dbRefuse n e

/-- A write to an instance page: the doorbell, or one of another width to it, which is refused (R531, R532). -/
def State.instWrite (s : State) (t : Attr) (n o : Nat) (d : List Byte) : State :=
  if o = 0 ∧ d.length = 8 then s.dbWrite n t.sec (BitVec.ofNat 64 (leNat d))
  else if o < 8 then s.dbRefuse n .badParam
  else s

/-- INST_DB_WRITE (R532). -/
def execInstDbWrite (x : Xact) (s : State) : Out :=
  s.issueX x fun x =>
  let a := x.addr.toNat
  if target a ≠ 0x0F then .next s
  else s.aligned x x.data.length 6 (fin (s.writeAt x (fun s =>
    s.instWrite x.attr ((a - 0x18000000) / 0x10000) (a % 0x10000) x.data)))

/-! ### Registers as words -/

/-- A word of region 0x03. -/
def State.word03 (s : State) (a : Nat) : U32 :=
  if within a 0x02000000 0x8000 then s.aplicWord (a - 0x02000000)
  else if within a 0x02800000 0x1000 then s.pairWord (a - 0x02800000)
  else 0

/-- The interrupt file of an address of region 0x03: hart and file (R169). -/
def fileAt (a : Nat) : Option (Nat × Nat) :=
  if within a 0x02100000 0x8000 then some ((a - 0x02100000) / 0x1000, 0)
  else if within a 0x02200000 0x80000 then some ((a - 0x02200000) / 0x10000, 1 + (a - 0x02200000) % 0x10000 / 0x1000)
  else none

/-- Offsets of an APLIC domain whose registers a narrow write merges with: domaincfg, sourcecfg, target. -/
def aplicPlain (o : Nat) : Bool := o % 0x4000 < 0x400 || 0x3000 ≤ o % 0x4000

/-- A word write of region 0x03: an APLIC register, or the identity of an MSI (R22, R166, R169). -/
def State.put03 (s : State) (a : Nat) (v m : U32) : State :=
  if within a 0x02000000 0x8000 then
    let o := a - 0x02000000
    s.aplicPut o (if aplicPlain o then mix (s.aplicWord o) v m else v &&& m)
  else match fileAt a with
    | some (h, f) => if a % 0x1000 = 0 then s.msi h f (v &&& m).toNat else s
    | none => s

/-- A word of region 0x08. -/
def State.word08 (s : State) (a : Nat) : U32 :=
  if a < 0x13001000 then s.bus.gw.word (a - 0x13000000)
  else if a < 0x13002000 then
    (if a = 0x13001000 then fieldAt s.bus.gw.event 0 else if a = 0x13001004 then fieldAt s.bus.gw.eventEn 0 else 0)
  else if within a 0x13100000 0x80000 then (Tab.get s.bus.gw.rules ((a - 0x13100000) / 0x80) ({} : GwRule)).word (a % 0x80)
  else if within a 0x13200000 0x8000 then (s.lin ((a - 0x13200000) / 0x1000)).word (a % 0x1000)
  else 0

/-- A word write of region 0x08. -/
def State.put08 (s : State) (a : Nat) (v m : U32) : State :=
  if a = 0x13001000 then s.onGw (fun g => { g with event := w1c g.event v m })
  else if a = 0x13001004 then s.onGw (fun g => { g with eventEn := (mix (fieldAt g.eventEn 0) v m).setWidth _ })
  else if within a 0x13200000 0x8000 then s.linPut ((a - 0x13200000) / 0x1000) (a % 0x1000) v m
  else s

/-- A word of region 0x0A, for a reader. -/
def State.word0A (s : State) (t : Attr) (a : Nat) : U32 :=
  if within a 0x13800000 0x200000 then s.inPageWord ((a - 0x13800000) / 0x1000) (a % 0x1000)
  else if within a 0x13A00000 0x1000 then s.inWord t (a - 0x13A00000)
  else if within a 0x13B00000 0x4000 then s.psWord (a - 0x13B00000)
  else 0

/-- A word write of region 0x0A. -/
def State.put0A (s : State) (a : Nat) (v m : U32) : State :=
  if within a 0x13800000 0x200000 then s.inPagePut ((a - 0x13800000) / 0x1000) (a % 0x1000) v m
  else if within a 0x13A00000 0x1000 then s.inPut (a - 0x13A00000) v m
  else if within a 0x13B00000 0x4000 then s.psPut (a - 0x13B00000) v m
  else s

/-- A word of region 0x0B, for a reader. -/
def State.word0B (s : State) (t : Attr) (a : Nat) : U32 :=
  if a < 0x14001000 then s.ceWord (a - 0x14000000)
  else if a < 0x14002000 then s.ksWord t (a - 0x14001000)
  else if a < 0x14003000 then s.ceEventWord (a - 0x14002000)
  else if within a 0x14100000 0x40000 then s.ringWord ((a - 0x14100000) / 0x1000) (a % 0x1000)
  else 0

/-- A word write of region 0x0B; a ring in an instance reset answers TERR (R524). -/
def State.put0B (s : State) (a : Nat) (v m : U32) : State × Resp :=
  if within a 0x14002000 0x1000 then (s.ceEventPut (a - 0x14002000) v m, .ok)
  else if within a 0x14100000 0x40000 then
    let r := (a - 0x14100000) / 0x1000
    if (s.ring r).stopped then (s, .terr) else (s.ringPut r (a % 0x1000) v m, .ok)
  else (s, .ok)

/-- A word of region 0x0D and the state after the read: `latch` for a 32-bit read of the counter page (R113). -/
def State.word0D (s : State) (t : Attr) (a : Nat) (latch : Bool) : State × U32 :=
  if within a 0x16000000 0x1000 then
    let o := a - 0x16000000
    let r := s.tb.read t.init.toNat o
    let w := if latch then r.2 else if o = 4 then hi32 s.tb.localT else if o = 0xC then hi32 s.tb.globalT else r.2
    (if latch then { s with tb := r.1 } else s, w)
  else if within a 0x16020000 0x1000 then (s, s.aonWord (a - 0x16020000))
  else if within a 0x16100000 0x40000 then (s, s.tcWord ((a - 0x16100000) / 0x1000) (a % 0x1000))
  else (s, 0)

/-- A word of region 0x0E. -/
def State.word0E (s : State) (a : Nat) : U32 :=
  if within a 0x17000000 0x1000 then (Tab.get s.core.regs ((a - 0x17000000) / 0x40) ({} : Regulator)).word (a % 0x40)
  else s.core.fabErr.word (a - 0x17080000)

/-- A word write of region 0x0E: VALID of the error capture (R131). -/
def State.put0E (s : State) (a : Nat) (v m : U32) : State :=
  if a = 0x17080004 ∧ (v &&& m).getLsbD 31 then s.onCore (fun c => { c with fabErr := { c.fabErr with valid := false } }) else s

/-- A register word at an aligned address, for a reader, and the state after the read (R6). -/
def State.regWord (s : State) (t : Attr) (a : Nat) (latch : Bool) : State × U32 :=
  match target a with
  | 0x03 => (s, s.word03 a)
  | 0x05 => (s, s.swWord (a - 0x11000000))
  | 0x06 => (s, s.ethWord (a - 0x11400000))
  | 0x07 => s.canRead t a
  | 0x08 => (if within a 0x13200000 0x8000 then s.linRead ((a - 0x13200000) / 0x1000) (a % 0x1000) else s, s.word08 a)
  | 0x09 => (s, s.loadPageWord t ((a - 0x13400000) / 0x1000) (a % 0x1000))
  | 0x0A => (s, s.word0A t a)
  | 0x0B => (s, s.word0B t a)
  | 0x0C => (s, s.passWord (a - 0x15000000))
  | 0x0D => s.word0D t a latch
  | 0x0E => (s, s.word0E a)
  | 0x0F => (s, s.instWord ((a - 0x18000000) / 0x10000) (a % 0x10000))
  | _ => (s, 0)

/-- A register word write under a byte mask, and its response (R6). -/
def State.regPut (s : State) (t : Attr) (a : Nat) (v m : U32) : State × Resp :=
  match target a with
  | 0x03 => (s.put03 a v m, .ok)
  | 0x05 => (s.swPut (a - 0x11000000) v m, .ok)
  | 0x06 => s.ethPut (a - 0x11400000) v m
  | 0x07 => s.canWrite t a v m
  | 0x08 => (s.put08 a v m, .ok)
  | 0x09 => (s.loadPagePut t ((a - 0x13400000) / 0x1000) (a % 0x1000) v m, .ok)
  | 0x0A => (s.put0A a v m, .ok)
  | 0x0B => s.put0B a v m
  | 0x0C => (s.passPut (a - 0x15000000) v m, .ok)
  | 0x0D =>
    (if within a 0x16100000 0x40000 then s.tcPut ((a - 0x16100000) / 0x1000) (a % 0x1000) v m else s, .ok)
  | 0x0E => (s.put0E a v m, .ok)
  | _ => (s, .ok)

/-- Bytes of registers from an address on, and the state after the read: word by word. -/
def State.regBytes (s : State) (t : Attr) (a n : Nat) : State × List Byte :=
  let first := a / 4
  let q := (List.range ((a + n + 3) / 4 - first)).foldl (fun (p : State × List Byte) k =>
    let r := p.1.regWord t ((first + k) * 4) (n = 4)
    (r.1, p.2 ++ leBytes 4 r.2.toNat)) (s, [])
  (q.1, (q.2.drop (a % 4)).take n)

/-- One write to an output image page counts once in LOAD_IGNORED, however many words and channels it names (R445). -/
def State.ignoreOnce (old s : State) (a : Nat) : State :=
  let page := (a - 0x13400000) / 0x1000
  let n := Tab.get old.ps.ignored page 0
  if target a = 0x09 ∧ Tab.get s.ps.ignored page 0 ≠ n then s.onPs (fun p => { p with ignored := Tab.put p.ignored page (satInc n) }) else s

/-- A write that reaches IN_EVT.D or IN_EVT.V of an input group has ended, whole (R505). -/
def State.inAfter (s : State) (a n : Nat) : State :=
  let o := a % 0x1000
  if within a 0x13800000 0x200000 ∧ ((o < 0x18 ∧ 0x10 < o + n) ∨ (o < 0x24 ∧ 0x20 < o + n)) then s.inLeft ((a - 0x13800000) / 0x1000) else s

/-- A write of bytes to registers, word by word, behind a comparator's firing that is due; the first TERR answers and nothing changes
(R117). -/
def State.regsWrite (s : State) (t : Attr) (a : Nat) (d : List Byte) : State × Resp :=
  let q := (wordsOf a d).foldl (fun (q : State × Resp) w =>
    if q.2 ≠ .ok then q
    else
      let r := q.1.regPut t w.1 w.2.1 w.2.2
      if r.2 = .ok then r else (s, r.2)) (s.tcFirst a, .ok)
  ((s.ignoreOnce q.1 a).inAfter a d.length, q.2)

/-! ### Memory behind the fabric -/

/-- The reservations on a line that the bytes touch are broken, but for the one that `keep` names (R645). -/
def State.unreserve (s : State) (a n : Nat) (keep : Option Nat) : State :=
  s.onCore (fun c => { c with harts := c.harts.map (fun e =>
    (e.1, match e.2.resv with
      | some l => if a / 64 ≤ l ∧ l ≤ (a + n - 1) / 64 ∧ keep ≠ some e.1 then { e.2 with resv := none } else e.2
      | none => e.2)) })

/-- Units of 64 bytes that a write covers only in part (R562). -/
def partialUnits (a n : Nat) : Nat :=
  ((List.range ((a + n + 63) / 64 - a / 64)).filter (fun k =>
    let l := (a / 64 + k) * 64
    decide (l < a ∨ a + n < l + 64))).length

/-- Lines that a write covers in whole lose their poison (R151). -/
def State.unpoison (s : State) (a n : Nat) : State :=
  s.onCore (fun c => { c with clusters := c.clusters.map (fun e =>
    (e.1, { e.2 with poison := e.2.poison.filter (fun l => ¬ (a ≤ l * 64 ∧ l * 64 + 64 ≤ a + n)) })) })

/-- A byte of a write stays in a poisoned line of an L2, which is never written back: memory keeps its older content (R151). -/
def State.poisonKeeps (s : State) (a : Nat) : Bool := s.core.clusters.any (fun e => e.2.poison.contains (a / 64))

/-- Bytes reach memory from `a` on, but for those of poisoned lines. -/
def State.setClean (s : State) (a : Nat) : List Byte → State
  | [] => s
  | b :: bs => State.setClean (if s.poisonKeeps a then s else s.setMem a [b]) (a + 1) bs

/-- A write of bytes to DRAM or secure SRAM: lines that it covers in whole lose their poison first, and bytes of a line that stays
poisoned do not reach memory (R151, R562, R645). -/
def State.memPut (s : State) (a : Nat) (d : List Byte) (keep : Option Nat) : State :=
  let s1 := ((s.unpoison a d.length).setClean a d).unreserve a d.length keep
  if inDram a then s1.onCe (fun c => { c with rmw := satAdd c.rmw (partialUnits a d.length) }) else s1

/-- A write that breaks every reservation that it touches. -/
def State.memWrite (s : State) (a : Nat) (d : List Byte) : State := s.memPut a d none

/-- The result that an AMO writes (R644). -/
def AmoOp.apply (op : AmoOp) {w : Nat} (old v : BitVec w) : BitVec w :=
  match op with
  | .swap => v
  | .add => old + v
  | .and_ => old &&& v
  | .or_ => old ||| v
  | .xor_ => old ^^^ v
  | .min_ => if old.slt v then old else v
  | .max_ => if old.slt v then v else old
  | .minu => if old < v then old else v
  | .maxu => if old < v then v else old

/-- The bytes that an AMO writes over the old ones, 32 or 64 bits wide. -/
def AmoOp.bytes (op : AmoOp) (old v : List Byte) : List Byte :=
  if old.length = 4 then leBytes 4 (op.apply (BitVec.ofNat 32 (leNat old)) (BitVec.ofNat 32 (leNat v))).toNat
  else leBytes 8 (op.apply (BitVec.ofNat 64 (leNat old)) (BitVec.ofNat 64 (leNat v))).toNat

/-! ### Regulators (R132 to R136) -/

/-- Change a regulator. -/
def State.updReg (s : State) (n : Nat) (f : Regulator → Regulator) : State :=
  s.onCore (fun c => { c with regs := Tab.upd c.regs n {} f })

/-- The charge of a transaction: 16 bytes per beat of data, at least 16 (R133). -/
def chargeOf (n : Nat) : Nat := max 16 ((n + 15) / 16 * 16)

/-- A transaction is metered: its target is DRAM, and neither the secure world nor Amind sends it (R132). -/
def State.metered (s : State) (t : Attr) (a : Nat) : Bool := inDram a && !t.sec && t.inst ≠ 63 && (s.reg t.inst.toNat).en

/-- A regulator charges an admitted transaction; the class it keeps or loses (R133). -/
def Regulator.charge (r : Regulator) (n : Nat) (cls : BitVec 2) : Regulator × BitVec 2 :=
  let ok := n ≤ r.guarBucket
  let c := if ok then cls else 0
  let dem := if c = 0 then r.demotedRem + n else r.demotedRem
  ({ r with
    bytes := r.bytes + BitVec.ofNat 64 n
    ceilBucket := r.ceilBucket - n
    guarBucket := if ok then r.guarBucket - n else r.guarBucket
    demoted := satAdd r.demoted (dem / 256), demotedRem := dem % 256 }, c)

/-- The ceiling admits a charge. -/
def Regulator.admits (r : Regulator) (n : Nat) : Bool := r.ceil = 0xFFFF || n ≤ r.ceilBucket

/-- A regulator's verdict on a transaction: its class, or none while it is withheld (R133). -/
def State.meter (s : State) (t : Attr) (a n : Nat) : State × Option (BitVec 2) :=
  let i := t.inst.toNat
  if ¬ s.metered t a then (s, some t.qos)
  else if (s.reg i).admits (chargeOf n) then
    let q := (s.reg i).charge (chargeOf n) t.qos
    (s.updReg i (fun _ => q.1), some q.2)
  else (s.updReg i (fun r => { r with heldNow := true }), none)

/-- A transaction of an engine is charged; within one row the waits behind the first are timing, left out (DESIGN CHOICE, log entry
41). -/
def State.meterDma (s : State) (t : Attr) (a n : Nat) : State :=
  match s.meter t a n with
  | (s1, some _) => s1
  | (s1, none) => s1.updReg t.inst.toNat (fun r => (r.charge (chargeOf n) t.qos).1)

/-! ### Performing a transaction -/

/-- A write of a transaction at its target: its response, or none while it is awaited. -/
def State.writeTarget (s : State) (x : Xact) : State × Option Resp :=
  let a := x.addr.toNat
  match target a with
  | 0x01 => (s, some .ok)
  | 0x02 => (s.memWrite a x.data, some .ok)
  | 0x10 => (s.memWrite a x.data, some .ok)
  | 0x04 =>
    let q := s.stallWrite ((a - 0x10000000) / 0x1000) (a % 0x1000) x.data
    (q.1, some q.2)
  | 0x0F => (s.instWrite x.attr ((a - 0x18000000) / 0x10000) (a % 0x10000) x.data, some .ok)
  | 0x11 => s.winWrite x
  | _ => let q := s.regsWrite x.attr a x.data; (q.1, some q.2)

/-- A read of a transaction at its target. -/
def State.readTarget (s : State) (x : Xact) : State × Resp × List Byte :=
  let a := x.addr.toNat
  match target a with
  | 0x01 => (s, .ok, s.memBytes a x.size)
  | 0x02 => (s, .ok, s.memBytes a x.size)
  | 0x10 => (s, .ok, s.memBytes a x.size)
  | 0x04 => (s, .ok, (s.stall ((a - 0x10000000) / 0x1000)).pageBytes (a % 0x1000) x.size)
  | 0x11 => s.winRead x
  | _ => let q := s.regBytes x.attr a x.size; (q.1, .ok, q.2)

/-- The targets that execute AMOs and hold reservations (R121). -/
def atomicAt (a : Nat) : Bool := target a = 0x02 || target a = 0x10

/-- An AMO at its target: one read-modify-write at DRAM or secure SRAM, TERR elsewhere; it leaves its own hart's reservation (R121, R644,
R645). -/
def State.amoTarget (s : State) (op : AmoOp) (x : Xact) : State × Resp × List Byte :=
  let a := x.addr.toNat
  if ¬ atomicAt a then (s, .terr, [])
  else
    let old := s.memBytes a x.size
    let own := if x.attr.init.toNat < 8 then some x.attr.init.toNat else none
    (s.memPut a (op.bytes old x.data) own, .ok, old)

/-- A load-reserved at its target (R121, R645). -/
def State.lrTarget (s : State) (x : Xact) : State × Resp × List Byte :=
  let q := s.readTarget x
  if atomicAt x.addr.toNat then
    (q.1.updHart x.attr.init.toNat (fun h => { h with resv := some (x.addr.toNat / 64) }), q.2)
  else q

/-- A store-conditional at its target: data 0 for success, 1 for failure (R121, R645). -/
def State.scTarget (s : State) (x : Xact) : State × Resp × List Byte :=
  let a := x.addr.toNat
  if atomicAt a ∧ (s.hart x.attr.init.toNat).resv = some (a / 64) then
    (((s.memWrite a x.data).updHart x.attr.init.toNat (fun h => { h with resv := none })), .ok, [0])
  else (s, .ok, [1])

/-- A transaction of a kind is accepted: the checks in their order, then its target (R124); none while its answer is awaited. -/
def State.accept (s : State) (k : XKind) (op : AmoOp) (x : Xact) : State × Option Resp × List Byte :=
  let a := x.addr.toNat
  let n := match k with
    | .read => x.size
    | .lr => x.size
    | .amo => x.size
    | .write => x.data.length
    | .posted => x.data.length
    | .sc => x.data.length
  let wr : Bool := k ≠ .read ∧ k ≠ .lr
  let rd : Bool := k ≠ .write ∧ k ≠ .posted
  match s.verdict x.attr a n rd wr with
  | .ok =>
    let q : State × Option Resp × List Byte := match k with
      | .read => let q := s.readTarget x; (q.1, some q.2.1, q.2.2)
      | .lr => let q := s.lrTarget x; (q.1, some q.2.1, q.2.2)
      | .amo => let q := s.amoTarget op x; (q.1, some q.2.1, q.2.2)
      | .sc => let q := s.scTarget x; (q.1, some q.2.1, q.2.2)
      | .write => let q := s.writeTarget x; (q.1, q.2, [])
      | .posted =>
        if target a = 0x11 then let q := s.winPost x; (q.1, some q.2, [])
        else let q := s.writeTarget x; (q.1, q.2, [])
    match q.2.1 with
    | some r => (q.1.capture x.attr a wr r, some r, q.2.2)
    | none => q
  | r => (s.capture x.attr a wr r, some r, [])

/-- A hart's AMO, LR or SC that is answered OK retires: events 0x01 for LR and 0x02 for the others, instret, and the next instruction
(R146; DEDUCED, log entry 145). -/
def State.atomicDone (s : State) (w : Waiting) (r : Resp) : State :=
  let n := w.x.attr.init.toNat
  if r = .ok ∧ n < 8 ∧ (w.kind = .amo ∨ w.kind = .lr ∨ w.kind = .sc) ∧ s.hartRuns n then
    s.retired n (fun h => let k := h.event (if w.kind = .lr then 0x01 else 0x02); { k with pc := k.pc + 4 })
  else s

/-- A hart waits with its transaction: event 0x08 while its regulator withholds it, 0x07 otherwise (R146). -/
def State.stallsOn (s : State) (t : Attr) (ev : Nat) : State := if t.init.toNat < 8 then s.stalledOn t.init.toNat ev else s

/-- What follows the acceptance of a transaction: its response, or for an inbound posted write that failed the poisoned window (R589). -/
def Waiting.concluded (w : Waiting) (q : State × Option Resp × List Byte) : State :=
  match q.2.1 with
  | none => q.1
  | some r =>
    if w.kind = .posted then (if w.x.attr.init = 0x60 ∧ r ∈ [Resp.aerr, .derr, .terr, .qerr] then
      q.1.poison { win := w.win, addr := w.x.addr, origin := w.origin, inst := w.x.attr.inst, sec := w.x.attr.sec, code := r } else q.1)
    else (q.1.portReply w.x.attr r q.2.2).atomicDone w r

/-- A transaction of n bytes: behind an earlier one to its block or without a credit it waits at its port, then it is metered, arbitrated
and answered (R119, R122 to R124, R133, R137). -/
def State.submit (s : State) (w : Waiting) (n : Nat) : State :=
  let a := w.x.addr.toNat
  if ¬ s.fabricUp ∨ ¬ w.x.fits n then s
  else if s.core.waiting.any (fun v => v.x.ordered w.x) ∨ ¬ s.credit w.kind w.x.attr.init then
    (s.enqueue { w with withheld := true }).stallsOn w.x.attr 0x07
  else match s.meter w.x.attr a n with
    | (s1, none) => (s1.enqueue { w with withheld := true }).stallsOn w.x.attr 0x08
    | (s1, some cls) =>
      let v := { w with cls := cls, withheld := false }
      if ¬ s1.wins a cls then (s1.enqueue v).stallsOn w.x.attr 0x07 else v.concluded (s1.accept w.kind w.op w.x)

/-- A transaction of a kind, from its initiator port on. -/
def State.transact (s : State) (k : XKind) (op : AmoOp) (x : Xact) (n : Nat) : State :=
  s.submit { x := x, kind := k, op := op, cls := x.attr.qos } n

/-- FABRIC_READ (R119, R124, R145). -/
def execFabricRead (x : Xact) (s : State) : Out :=
  s.issueX x fun x =>
    s.aligned x x.size 4 (fin (s.transact .read .swap x x.size))

/-- FABRIC_WRITE: a non-posted write; one into a window of policy 1 is posted and no such transaction (R119, R120, R145, R584). -/
def execFabricWrite (x : Xact) (s : State) : Out :=
  s.issueX x fun x =>
    if s.winPosted x then .next s
    else s.aligned x x.data.length 6 (fin (s.transact .write .swap x x.data.length))

/-- POSTED_WRITE: an MSI, or a write into a window of policy 1; no response (R120, R122, R137, R145). -/
def execPostedWrite (x : Xact) (s : State) : Out :=
  s.issueX x fun x =>
    if ¬ ((fileAt x.addr.toNat).isSome ∨ s.winPosted x) then .next s
    else s.aligned x x.data.length 6 (fin (s.transact .posted .swap x x.data.length))

/-- FABRIC_AMO: 32 or 64 bits; a misaligned one of a hart is an exception, and no other initiator issues one (R121, R145, R644). -/
def execFabricAmo (op : AmoOp) (x : Xact) (s : State) : Out :=
  s.issueX x fun x =>
    if ¬ ((x.size = 4 ∨ x.size = 8) ∧ x.data.length = x.size) then .next s
    else if x.addr.toNat % x.size = 0 then fin (s.transact .amo op x x.size)
    else if x.attr.init.toNat < 8 then fin (s.misalignedTrap x.attr.init.toNat 6)
    else .next s

/-- A hart's own transaction. -/
def Xact.ofHart (x : Xact) (hart : Nat) : Xact := { x with attr := { x.attr with init := BitVec.ofNat 8 hart } }

/-- LOAD_RESERVED of a hart (R121, R145, R645). -/
def execLoadReserved (hart : Nat) (x : Xact) (s : State) : Out :=
  if 8 ≤ hart then noUnit
  else s.issueX (x.ofHart hart) fun x =>
    if ¬ (x.size = 4 ∨ x.size = 8) then .next s
    else if x.addr.toNat % x.size = 0 then fin (s.transact .lr .swap x x.size)
    else fin (s.misalignedTrap hart 4)

/-- STORE_CONDITIONAL of a hart (R121, R145, R645). -/
def execStoreConditional (hart : Nat) (x : Xact) (s : State) : Out :=
  if 8 ≤ hart then noUnit
  else s.issueX (x.ofHart hart) fun x =>
    if ¬ (x.data.length = 4 ∨ x.data.length = 8) then .next s
    else if x.addr.toNat % x.data.length = 0 then fin (s.transact .sc .swap x x.data.length)
    else fin (s.misalignedTrap hart 6)

/-! ### Refill and arbitration -/

/-- The regulator of an instance that ends meters no more from the next refill on (R134). -/
def Regulator.leave (r : Regulator) : Regulator := { r with next := some (false, r.cls, r.guar, r.ceil, r.burst) }

/-- A refill of one regulator: a waiting change takes effect, the buckets fill, a withheld interval is counted (R133, R134). -/
def Regulator.refill (r : Regulator) : Regulator :=
  let r1 := match r.next with
    | some (e, c, g, l, b) => { r with en := e, cls := c, guar := g, ceil := l, burst := b, next := none }
    | none => r
  let depth := r1.burst.toNat * 256
  { r1 with
    guarBucket := min depth (r1.guarBucket + r1.guar.toNat * 16)
    ceilBucket := min depth (r1.ceilBucket + r1.ceil.toNat * 16)
    held := if r1.heldNow then satInc r1.held else r1.held, heldNow := false }

/-- A withheld transaction goes on to arbitration once no withheld one to its block is before it, a credit is free and its buckets hold
its charge (R122, R123, R133). -/
def State.releaseOne (s : State) (i : Nat) : State :=
  match s.core.waiting[i]? with
  | none => s
  | some w =>
    if ¬ w.withheld ∨ (s.core.waiting.take i).any (fun v => v.withheld && v.x.ordered w.x) ∨ ¬ s.credit w.kind w.x.attr.init then s
    else match s.meter w.x.attr w.x.addr.toNat (max w.x.size w.x.data.length) with
      | (s1, none) => s1
      | (s1, some c) => s1.onCore (fun k => { k with waiting := k.waiting.set i { w with cls := c, withheld := false } })

/-- The withheld transactions that may go on do so, oldest first. -/
def State.releaseHeld (s : State) : State := (List.range s.core.waiting.length).foldl State.releaseOne s

/-- REGULATOR_REFILL (R133, R134). -/
def execRegulatorRefill (s : State) : Out :=
  if ¬ s.fabricUp then .next s
  else fin ((s.onCore (fun c => { c with regs := c.regs.map (fun e => (e.1, e.2.refill)) })).releaseHeld)

/-- The transactions that stand at an arbitration point with none of their initiator and block before them, by index (R122). -/
def eligible (l : List Waiting) : List (Nat × Waiting) :=
  (l.mapIdx (fun i w => (i, w))).filter (fun e => !e.2.withheld && (l.take e.1).all (fun v => !v.x.ordered e.2.x))

/-- The transaction that goes first: the highest class, and the oldest within it (R137). -/
def nextWaiting (l : List Waiting) : Option (Nat × Waiting) :=
  (eligible l).foldl (fun (b : Option (Nat × Waiting)) e =>
    match b with
    | none => some e
    | some v => if v.2.cls.toNat < e.2.cls.toNat then some e else some v) none

/-- A non-posted transaction of a hart is no longer outstanding. -/
def State.returned (s : State) (w : Waiting) : State :=
  if w.kind ≠ .posted ∧ w.x.attr.init.toNat < 8 then
    s.updHart w.x.attr.init.toNat (fun h => { h with outstanding := h.outstanding - 1 })
  else s

/-- One transaction passes its arbitration point and is answered, and its credit lets a withheld one go on (R123, R137); its turn comes
with time. -/
def State.arbitrate (s : State) : State :=
  match nextWaiting s.core.waiting with
  | none => s
  | some (i, w) =>
    let s1 := (s.onCore (fun c => { c with waiting := c.waiting.eraseIdx i })).returned w
    (w.concluded (s1.accept w.kind w.op w.x)).releaseHeld

/-- ARBITRATION_AGING: after 2048 beats a waiting transaction rises by one class, to at most 2 (R137). -/
def execArbitrationAging (index : Nat) (s : State) : Out :=
  match s.core.waiting[index]? with
  | none => .next s
  | some w =>
    if w.withheld ∨ 2 ≤ w.cls.toNat then .next s
    else fin (s.onCore (fun c => { c with waiting := c.waiting.set index { w with cls := w.cls + 1 } }))

/-! ### Debug and the partner -/

/-- The attributes of a system bus access: secure in DEVELOP, those of instance 0 when opened in SERVICE; no rule gives its class, which is
that of instance 0 (R19, R161, R162; DESIGN CHOICE, log entry 178). -/
def State.sbaAttr (s : State) : Option Attr :=
  if s.aon.lifecycle = 1 then some { init := 0x18, sec := true, qos := 3 }
  else if s.aon.lifecycle = 3 ∧ s.core.dbg.opened.isSome then some { init := 0x18, qos := (s.reg 0).cls }
  else none

/-- A system bus access: none starts while sberror or sbbusyerror holds an error, and one begun while another waits sets sbbusyerror
(R161, R162, R192). -/
def State.sbAccess (s : State) (write : Bool) (addr : U64) (size : Nat) (data : U64) : State :=
  match s.sbaAttr with
  | none => s
  | some t =>
    let fail (e : BitVec 3) : State := s.onDbg (fun d => { d with sbError := e })
    if ¬ s.fabricUp ∨ s.core.dbg.sbError ≠ 0 ∨ s.core.dbg.sbBusyErr then s
    else if s.core.dbg.sbBusy then s.onDbg (fun d => { d with sbBusyErr := true })
    else if size ∉ [1, 2, 4, 8] then fail 4
    else if addr.toNat % size ≠ 0 then fail 3
    else if 2 ^ 40 ≤ addr.toNat then fail 2
    else
      let x : Xact := { attr := t, addr := addr.setWidth 40, size := size, data := if write then leBytes size data.toNat else [] }
      (s.onDbg (fun d => { d with sbBusy := true, sbAddr := addr, sbSize := size })).transact (if write then .write else .read) .swap x
        size

/-- DEBUG_SYSTEM_BUS_ACCESS (R161, R162, R192). -/
def execDebugSystemBusAccess (write : Bool) (addr : U64) (size : Nat) (data : U64) (s : State) : Out :=
  match s.sbaAttr with
  | none => .next s
  | some _ => fin (s.sbAccess write addr size data)

/-- An address lies in an inbound range (R583). -/
def Pass.inRange (p : Pass) (a : Nat) : Bool := p.ranges.any (fun r => r.2.1 ≤ a / 4096 && a / 4096 ≤ r.2.2)

/-- PASS_INBOUND_TRANSACTION: refused by the bridge, discarded for a poisoned window, or issued with initiator 0x60; a guest's
instance must live here as for a V = 1 access of a hart; a posted write that fails poisons its window and sends the error message (R20,
R29, R582, R583, R589, R595; DEDUCED, log entry 128). -/
def execPassInboundTransaction (kind : XKind) (x : Xact) (win : Nat) (origin : Byte) (s : State) : Out :=
  let a := x.addr.toNat
  let n := if kind = .read then x.size else x.data.length
  let y : Xact := { x with attr := { x.attr with init := 0x60, virt := x.attr.inst ≠ 0 } }
  if 32 ≤ win then noUnit
  else if ¬ (s.linkFull ∧ s.fabricUp ∧ x.fits n ∧ a < 0x1000000000 ∧ kind ∈ [XKind.read, .write, .posted]) then .next s
  else if kind = .posted ∧ s.pass.poisoned.contains win then
    fin (s.onPass (fun p => { p with cnt := { p.cnt with discard := satInc p.cnt.discard } }))
  else if ¬ s.pass.inRange a ∨ x.attr.inst = 63 then
    let s1 := s.onPass (fun p => { p with cnt := { p.cnt with denied := satInc p.cnt.denied } })
    if kind = .posted then
      fin (s1.poison { win := win, addr := x.addr, origin := origin, inst := x.attr.inst, sec := x.attr.sec, code := .aerr }) else fin (s1.answered .aerr [])
  else fin (s.submit { x := y, kind := kind, cls := y.attr.qos, win := win, origin := origin } n)

/-! ### Debug module registers -/

/-- hartsel and the hart array mask select a hart (R161). -/
def Dbg.selects (d : Dbg) (h : Nat) : Bool := d.hartsel = h || (d.hasel && d.window.getLsbD h)

/-- A mask of the harts that a test picks. -/
def hartMask (p : Nat → Bool) : U32 := (List.range 8).foldl (fun m h => m ||| flagAt (p h) h) 0

/-- dmstatus: version 2, authenticated, impebreak, and for the selected harts running, halted, resumeack and havereset as any and all
(R161). -/
def State.dmstatus (s : State) : U32 :=
  let sel := (List.range 8).filter s.core.dbg.selects
  let pick (p : Nat → Bool) (k : Nat) : U32 := flagAt (sel.any p) k ||| flagAt (!sel.isEmpty && sel.all p) (k + 1)
  0x00400082 ||| pick (fun h => (s.pair h).st = .halted) 8 ||| pick (fun h => (s.pair h).st = .running) 10
    ||| pick (fun h => (s.pair h).st ≠ .running && (s.pair h).st ≠ .halted) 12 ||| flagAt (8 ≤ s.core.dbg.hartsel) 14
    ||| flagAt (8 ≤ s.core.dbg.hartsel) 15 ||| pick (fun h => (s.pair h).resumeAck) 16 ||| pick (fun h => (s.pair h).haveReset) 18

/-- A register of the debug module (R161). ndmreset, hartreset and resethaltreq read 0. -/
def State.dmiRead (s : State) (a : Nat) : U32 :=
  let d := s.core.dbg
  if a = 0x04 then lo32 d.data
  else if a = 0x05 then hi32 d.data
  else if a = 0x10 then flagAt d.hasel 26 ||| natWord (d.hartsel % 1024 * 65536) ||| flagAt d.active 0
  else if a = 0x11 then s.dmstatus
  else if a = 0x15 then fieldAt d.window 0
  else if a = 0x16 then 0x08000002 ||| fieldAt d.cmderr 8
  else if 0x20 ≤ a ∧ a < 0x28 then Tab.get d.progbuf (a - 0x20) 0
  else if a = 0x38 then 0x2000050F ||| d.sbcs ||| fieldAt d.sbError 12 ||| flagAt d.sbBusy 21 ||| flagAt d.sbBusyErr 22
  else if a = 0x39 then lo32 d.sbAddr
  else if a = 0x3A then hi32 d.sbAddr
  else if a = 0x3C then lo32 d.sbData
  else if a = 0x3D then hi32 d.sbData
  else if a = 0x40 then hartMask (fun h => (s.pair h).st = .halted)
  else 0

/-- A write of dmcontrol: the selection, the acknowledgement of a reset, and the halt or resume of the selected harts; dmactive 0 resets
the module (R161). -/
def State.dmcontrol (s : State) (v : U32) : State :=
  if ¬ v.getLsbD 0 then s.onDbg (fun d => { opened := d.opened, sbBusy := d.sbBusy })
  else
    let s1 := s.onDbg (fun d => { d with active := true, hasel := v.getLsbD 26, hartsel := (v.extractLsb' 16 10).toNat % 16 })
    let sel := (List.range 8).filter s1.core.dbg.selects
    sel.foldl (fun t h =>
      let t1 := if v.getLsbD 28 then t.updPair h (fun q => { q with haveReset := false }) else t
      if v.getLsbD 31 then t1.haltPair h .request
      else if v.getLsbD 30 then (t1.updPair h (fun q => { q with resumeAck := false })).resumePair h
      else t1) s1

/-- The bytes of an access by sbcs.sbaccess (R161). -/
def Dbg.sbBytes (d : Dbg) : Nat := 2 ^ (d.sbcs.extractLsb' 17 3).toNat

/-- A write of a debug module register; cmderr, sberror and sbbusyerror are cleared by ones, a write of sbaddress0 with sbreadonaddr reads, and
one of sbdata0 writes (R6, R161). -/
def State.dmiWrite (s : State) (a : Nat) (v : U32) : State :=
  if ¬ s.portOpen then s
  else if a = 0x10 then s.dmcontrol v
  else if a = 0x04 then s.onDbg (fun d => { d with data := put64 d.data false v (BitVec.allOnes 32) })
  else if a = 0x05 then s.onDbg (fun d => { d with data := put64 d.data true v (BitVec.allOnes 32) })
  else if a = 0x15 then s.onDbg (fun d => { d with window := v.setWidth 8 })
  else if a = 0x16 then s.onDbg (fun d => { d with cmderr := d.cmderr &&& ~~~(v.extractLsb' 8 3) })
  else if 0x20 ≤ a ∧ a < 0x28 then s.onDbg (fun d => { d with progbuf := Tab.put d.progbuf (a - 0x20) v })
  else if a = 0x38 then s.onDbg (fun d => { d with
    sbcs := v &&& 0x001F8000, sbError := d.sbError &&& ~~~(v.extractLsb' 12 3), sbBusyErr := d.sbBusyErr && !v.getLsbD 22 })
  else if 0x39 ≤ a ∧ a ≤ 0x3D ∧ s.core.dbg.sbBusy then s.onDbg (fun d => { d with sbBusyErr := true })
  else if a = 0x39 then
    let s1 := s.onDbg (fun d => { d with sbAddr := put64 d.sbAddr false v (BitVec.allOnes 32) })
    if s.core.dbg.sbcs.getLsbD 20 then s1.sbAccess false s1.core.dbg.sbAddr s1.core.dbg.sbBytes 0 else s1
  else if a = 0x3A then s.onDbg (fun d => { d with sbAddr := put64 d.sbAddr true v (BitVec.allOnes 32) })
  else if a = 0x3C then
    let s1 := s.onDbg (fun d => { d with sbData := put64 d.sbData false v (BitVec.allOnes 32) })
    s1.sbAccess true s1.core.dbg.sbAddr s1.core.dbg.sbBytes s1.core.dbg.sbData
  else if a = 0x3D then s.onDbg (fun d => { d with sbData := put64 d.sbData true v (BitVec.allOnes 32) })
  else s

/-- REGISTER_WRITE: a write to a register region, to a CSR by the hart that executes the instruction, or to a debug module register (R6,
R141, R161, R187). -/
def execRegisterWrite (w : RegOp) (s : State) : Out :=
  match w with
  | .fabric x => s.issueX x fun x =>
    let a := x.addr.toNat
    if ¬ (0x03 ≤ target a ∧ target a ≤ 0x0F ∧ x.fits x.data.length) then .next s
    else s.aligned x x.data.length 6 (fin (s.transact .write .swap x x.data.length))
  | .csr hart c v => if 8 ≤ hart then noUnit else if ¬ s.hartRuns hart then .next s else fin (s.csrExec hart c v)
  | .dmi a v => fin (s.dmiWrite a v)

/-! ### A write to the object memory of a CAN channel -/

/-- OBJ_CONFIG_WRITE (R145, R383): a write anywhere in the object's 256 bytes or its long segment. -/
def execObjConfigWrite (chan obj : Nat) (x : Xact) (s : State) : Out :=
  if 16 ≤ chan ∨ 128 ≤ obj then noUnit
  else s.issueX x fun x => s.aligned x x.data.length 6 <|
    let a := x.addr.toNat
    let long := 0x12000000 + chan * 0x10000 + 0xC000 + (obj - 120) * 0x800
    if within a (objAddr chan obj) 0x100 ∧ a + x.data.length ≤ objAddr chan obj + 0x100 then
      fin (s.accessAt x .write (fun s =>
        let q := s.objWrites chan obj (objAddr chan obj) a x.data; (q.1, q.2, [])))
    else if longObj chan obj ∧ within a long 0x800 ∧ a + x.data.length ≤ long + 0x800 then
      fin (s.accessAt x .write (fun s =>
        let q := s.objWrites chan obj (long - 0x100) a x.data; (q.1, q.2, [])))
    else .next s

end Sys2Proof.Machine
end

