-- ==== Sys2Proof/Machine/Ethernet.lean ====
section
/-! DEFINITION. Transmission selection, the multicast service, gates, pause, preemption, policers, stream recovery, the
time-aware bridge and the T1S segments (R305, R334 to R360). -/

namespace Sys2Proof.Machine

open Sys2Proof

/-! ### Leaving a port -/

/-- A frame as it leaves port p: VLAN tag, R-TAG and padding (R301, R333, R353). MACsec works on these bytes afterwards. -/
def State.egressEdit (s : State) (f : Frame) (p : Nat) : List Byte :=
  let v : Vlan := Tab.get s.sw.vlans f.vid.toNat {}
  let rest := if f.tagged then f.bytes.drop 16 else f.bytes.drop 12
  let tag := if v.untag.getLsbD p then [] else beBytes 2 0x8100 ++ beBytes 2 (f.cls * 8192 + f.vid.toNat)
  let rt := match f.rtag with
    | some q => if p < 2 && (s.ethPort p).frer then beBytes 2 0xF1C1 ++ beBytes 2 0 ++ beBytes 2 q.toNat else []
    | none => []
  let b := f.bytes.take 12 ++ tag ++ rt ++ rest
  b ++ List.replicate (60 - b.length) 0

/-- The time from a position of a gate list to the next close of a class, ns; none when it never closes (R339). -/
def GateList.closeIn (g : GateList) (t : Nat) (c : Nat) : Option Nat :=
  let cyc := g.cycle.toNat
  let pos := ((t : Int) - (g.base.toNat : Int)).emod (max cyc 1) |>.toNat
  let n := g.entries.length
  let durs := g.entries.zipIdx.map (fun e =>
    if e.2 + 1 = n then (cyc - ((g.entries.take e.2).map (fun d => d.interval.toNat)).sum, e.1.gates.getLsbD c)
    else (e.1.interval.toNat, e.1.gates.getLsbD c))
  let walk := (durs ++ durs).foldl (fun (st : Nat × Option Nat) d =>
    (st.1 + d.1, match st.2 with
      | some x => some x
      | none => if !d.2 && pos < st.1 + d.1 then some (st.1 - pos) else none)) (0, none)
  walk.2

/-- The entry of a gate list that is in force at a time (R342, R344). -/
def GateList.indexAt (g : GateList) (t : Nat) : Nat :=
  let cyc := g.cycle.toNat
  let pos := ((t : Int) - (g.base.toNat : Int)).emod (max cyc 1) |>.toNat
  let n := g.entries.length
  let walk := g.entries.zipIdx.foldl (fun (st : Nat × Nat) e =>
    (st.1 + e.1.interval.toNat, if st.1 ≤ pos then e.2 else st.2)) (0, 0)
  if n = 0 then 0 else walk.2

/-- Preemption is available on a port (R347). -/
def preemptPort (p : Nat) : Bool := p < 10 || p = 26 || p = 27

/-- A class of a port is preemptable (R347). -/
def State.preemptable (s : State) (p c : Nat) : Bool :=
  preemptPort p && (s.ethPort p).preempt && !(s.ethPort p).expressMask.getLsbD c

/-- Preemption is active on the wire of a port (R348). -/
def State.preemptOn (s : State) (p : Nat) : Bool := p < 10 && (s.ethPort p).preempt && (s.ethPort p).verify = 2

/-- Bytes that must fit before the gate closes (R339): the frame, or the first fragment of one that can be split, which ends with a CRC of
its own after 64 × (1 + ADD_FRAG) − 4 bytes and leaves at least 64 (R347). -/
def State.guardBytes (s : State) (p c len : Nat) : Nat :=
  let frag := 64 * (1 + (s.ethPort p).addFrag.toNat)
  if s.preemptOn p && s.preemptable p c && frag - 4 + 64 ≤ len then frag + 20 else len + 20

/-- The guard band lets a frame start (R339). -/
def State.guardOk (s : State) (p c len : Nat) : Bool :=
  match (s.gate p).oper with
  | none => true
  | some g =>
    match g.closeIn s.tb.globalT.toNat c with
    | none => true
    | some ns => s.guardBytes p c len * 8 * 1000 ≤ ns * lineRate p

/-- Gate, flow control and shaper let a class start at a port (R338, R346). -/
def State.classOk (s : State) (p c : Nat) : Bool :=
  let e := s.ethPort p
  let cbs : Cbs := Tab.get e.cbs c {}
  (s.gate p).gates.getLsbD c && !e.paused && !e.pfcPaused.getLsbD c && (!cbs.en || 0 ≤ cbs.credit)
    && !(e.hold && s.preemptable p c)

/-- The contenders of an egress and class with their frames: ingress 0 to 29 and 30 for residue (R294). -/
def State.contenders (s : State) (p c : Nat) : List (Nat × Nat) :=
  let busy := (s.swPort p).inFlight
  let voq := (List.range 30).filterMap (fun i =>
    (s.sw.frames.find? (fun f => f.ingress = i && f.cls = c && !f.multi && f.dests.contains p && !busy.contains f.id)).map
      (fun f => (i, f.id)))
  match (Tab.get s.sw.residue (p * 8 + c) []).head? with
  | none => voq
  | some i => voq ++ [(30, i)]

/-- The contender that round robin serves next (R294). -/
def State.nextContender (s : State) (p c : Nat) : Option (Nat × Nat) :=
  let cs := s.contenders p c
  match (s.sw.rr.find? (fun r => r.1 = p * 8 + c)) with
  | none => cs.head?
  | some r => match cs.find? (fun k => r.2 < k.1) with
    | some k => some k
    | none => cs.head?

/-- A frame is held by the guard band of a port: it is counted once (R339). -/
def State.countHeld (s : State) (p i : Nat) : State :=
  match s.frame i with
  | none => s
  | some f =>
    if f.guardHeld.contains p then s
    else (s.updGate p (fun g => { g with guardHeld := satInc g.guardHeld })).updFrame i
      (fun f => { f with guardHeld := p :: f.guardHeld })

/-- The bytes of a frame on the wire of port p with FCS: what leaves already, or what will leave with the bytes that MACsec adds
(R339, R362). -/
def State.wireLen (s : State) (f : Frame) (p : Nat) : Nat :=
  if f.out.has p then (Tab.get f.out p []).length + 4
  else
    let b := s.egressEdit f p
    b.length + 4 + (if s.macsecOn p b then (s.macsec p).adds else 0)

/-- The egress of I0 or I1 appends a frame to the lists of its queue pairs; a full list drops it (R315). A disable and an instance reset stop
the engine from reading descriptors alone (R318, R517). -/
def State.deliver (s : State) (i p : Nat) : State :=
  match s.frame i with
  | none => s
  | some f =>
    let here := f.qps.filter (fun q => q / 64 = p - 26)
    let s1 := here.foldl (fun t q =>
      let u := t.qp q
      if u.rxList.length < u.depth.toNat then
        t.updQp q (fun u => { u with rxList := u.rxList ++ [i] })
      else (t.dropQp p).updFrame i (fun g => { g with qps := g.qps.filter (fun k => k ≠ q) })) s
    ((s1.cntSw p (fun c => { c with outFrames := c.outFrames + 1 })).cntEth p (fun c =>
      { c with txFrames := c.txFrames + 1, txBytes := c.txBytes + BitVec.ofNat 64 (f.bytes.length + 4) })).dropDest i p

/-- A frame crosses its plane (R297). Each transit counts: that of a unicast frame, the one of the multicast service with all copies that it
fans out, and that of each copy sent later from a residue queue (R305; DEDUCED, log entry 155). -/
def State.cross (s : State) (f : Frame) : State :=
  s.onSw (fun w => { w with planes := Tab.upd w.planes (f.hash.extractLsb' 0 2).toNat {} (fun k =>
    { k with frames := k.frames + 1, bytes := k.bytes + BitVec.ofNat 64 (f.bytes.length + 4) }) })

/-- A copy of a frame begins to leave at port p: into the receive lists, or onto the wire behind MACsec; `front` when it
goes onto the wire at once. -/
def State.send (s : State) (i p : Nat) (front : Bool) : State :=
  match s.frame i with
  | none => s
  | some f =>
    if p = 26 ∨ p = 27 then s.deliver i p
    else
      let r := (s.updFrame i (fun g => { g with begun := true })).macsecTx p (s.egressEdit f p)
      match r.2 with
      | none => r.1.dropDest i p
      | some b => (r.1.updFrame i (fun g => { g with out := Tab.put g.out p b })).updSwPort p (fun u =>
          let idle := u.inFlight.isEmpty
          { u with
            inFlight := if front then i :: u.inFlight else u.inFlight ++ [i]
            frags := if idle then 0 else u.frags, fragSent := if idle then 0 else u.fragSent, halted := u.halted && !idle })

/-- The place of a contender's frame is given up: a residue entry leaves its queue. -/
def State.popResidue (s : State) (p c k i : Nat) : State :=
  s.onSw (fun w => { w with
    rr := Tab.put w.rr (p * 8 + c) k
    residue := if k = 30 then Tab.upd w.residue (p * 8 + c) [] (fun l => l.filter (fun j => j ≠ i)) else w.residue })

/-- Transmission selection over the classes of a list, the highest first (R338): the state, and the class and contender that
start. -/
def State.select (s : State) (p : Nat) : List Nat → State × Option (Nat × Nat × Nat)
  | [] => (s, none)
  | c :: cs =>
    match s.nextContender p c with
    | none => State.select s p cs
    | some (k, i) =>
      if ¬ s.classOk p c then State.select s p cs
      else
        let len := match s.frame i with
          | none => 0
          | some f => s.wireLen f p
        if s.guardOk p c len then (s, some (c, k, i)) else State.select (s.countHeld p i) p cs

/-- Classes, the highest first. -/
def classOrder : List Nat := [7, 6, 5, 4, 3, 2, 1, 0]

/-- A port starts the frame that selection gives (R338, R294). -/
def State.transmit (s : State) (p : Nat) (classes : List Nat) : State :=
  match s.select p classes with
  | (t, none) => t
  | (t, some (c, k, i)) =>
    match t.frame i with
    | none => t
    | some f => ((t.cross f).popResidue p c k i).send i p true

/-- The frame on the wire is preemptable, its fragment has sent enough, at least 64 bytes of it remain, and it has not yet been split into 4
fragments (R347). The bytes sent are counted for each fragment from its own beginning (DEDUCED, log entry 139). -/
def State.splittable (s : State) (p sent : Nat) : Bool :=
  match (s.swPort p).inFlight with
  | [i] =>
    match s.frame i with
    | none => false
    | some f => s.preemptOn p && s.preemptable p f.cls && (s.swPort p).frags < 3
        && 64 * (1 + (s.ethPort p).addFrag.toNat) - 4 ≤ sent && (s.swPort p).fragSent + sent + 64 ≤ s.wireLen f p
  | _ => false

/-- The classes that may start at a port now: all on an idle port; express classes while a preemptable frame that can still be
split is on the wire or stands at a boundary (R346, R347); none otherwise. -/
def State.startable (s : State) (p sent : Nat) : List Nat :=
  match (s.swPort p).inFlight with
  | [] => classOrder
  | [_] =>
    if s.splittable p sent || (s.swPort p).halted then classOrder.filter (fun c => (s.ethPort p).expressMask.getLsbD c) else []
  | _ => []

/-- A fragment boundary of the frame on the wire: a fragment more, and the frame counts as preempted once (R347). -/
def State.boundary (s : State) (p sent : Nat) : State :=
  let first := decide ((s.swPort p).frags = 0)
  (s.updSwPort p (fun u => { u with frags := u.frags + 1, fragSent := u.fragSent + sent })).cntEth p (fun c =>
    { c with preempted := if first then c.preempted + 1 else c.preempted })

/-- The next fragment boundary of a preemptable frame on the wire: pause and PFC frames that wait go out, and the frame stops there
while HOLD is set (R336, R346). -/
def State.atBoundary (s : State) (p sent : Nat) : State :=
  if ¬ s.splittable p sent ∨ (s.swPort p).halted then s
  else if (s.ethPort p).hold then ((s.boundary p sent).updSwPort p (fun u => { u with halted := true })).fcFlush p
  else if (s.ethPort p).due.isEmpty then s
  else (s.boundary p sent).fcFlush p

/-- The port can send at all: the switch forwards, and an external port and PX have their link (R597). -/
def State.portUp (s : State) (p : Nat) : Bool :=
  s.sw.forwarding && (s.swPort p).en &&
    (if p = 29 then (s.swPort p).link else 26 ≤ p || ((s.ethPort p).link && !(s.ethPort p).lowPower))

/-- A transmission opportunity of a port (R338): on an idle port the next frame starts; on a port that sends a preemptable
frame an express frame interrupts it, or a waiting pause frame or HOLD does (R336, R346, R347). -/
def State.opportunity (s0 : State) (p sent : Nat) : State :=
  let s := s0.atBoundary p sent
  let was := (s.swPort p).inFlight
  let t := s.transmit p (s.startable p sent)
  if was.length = 1 ∧ (t.swPort p).inFlight.length = 2 ∧ ¬ (s.swPort p).halted then t.boundary p sent else t

/-- A start on a CSMA/CD segment while another node sends: the frame stays where it waits, and the collision is counted (R358). -/
def State.collide (s : State) (p : Nat) : State :=
  match s.select p (s.startable p 0) with
  | (t, none) => t
  | (t, some _) => t.cntEth p (fun c => { c with collisions := c.collisions + 1 })

/-- A transmission opportunity of a port that PLCA does not govern (R338, R358). -/
def execEgressTransmitStart (point : TxPoint) (s : State) : Out :=
  let port := point.port
  if ¬ port < 30 then noUnit
  else if ¬ s.portUp port ∨ (s.ethPort port).plca.active then .next s
  else if point.collides ∧ 22 ≤ port ∧ port < 26 then fin (s.collide port)
  else fin (s.opportunity port point.sent)

/-- A transmit opportunity of a T1S segment under PLCA: selection is applied afresh, or the opportunity is yielded (R359). -/
def execPlcaTransmitOpportunity (port : Nat) (s : State) : Out :=
  if ¬ (22 ≤ port ∧ port < 26) then noUnit
  else if ¬ s.portUp port ∨ ¬ (s.ethPort port).plca.active then .next s
  else fin (s.opportunity port 0)

/-- The bytes of an 802.1AS message of port p: the address that IEEE 802.1AS gives it (PRESUMED, log entry 26), the port's own source
address (R311), and a body whose size and content the spec does not give: free values, by the number of the event (log entry 26). -/
def ptpBytes (p n : Nat) : List Byte :=
  beBytes 6 0x0180C200000E ++ beBytes 6 (Config.macBase.toNat + 130 + p) ++ beBytes 2 0x88F7
    ++ (List.range (Config.freeNat 26 n)).map (fun i => Config.freeByte (26 + 64 * i) n)

/-- Port p sends a message of the bridge. -/
def State.ptpNow (s : State) (p : Nat) : State :=
  let b := ptpBytes p s.core.fresh
  ((s.updSwPort p (fun u => { u with sent := b, sentBad := false })).cntEth p (fun c => { c with
    txFrames := c.txFrames + 1
    txBytes := c.txBytes + BitVec.ofNat 64 (b.length + 4) })).onCore (fun c => { c with fresh := c.fresh + 1 })

/-- A message of the bridge can start: no pause is in force, and the line is free (R337). -/
def State.ptpMay (s : State) (p : Nat) : Bool := !(s.ethPort p).paused && s.lineFree p

/-- The messages of the bridge that waited are sent. Gates, shapers and PFC do not govern them (DESIGN CHOICE, log entry 177). -/
def State.ptpFlush (s : State) (p : Nat) : State :=
  if ¬ s.ptpMay p then s
  else ((List.range (s.ethPort p).ptpDue).foldl (fun t _ => t.ptpNow p) s).updEthPort p (fun e => { e with ptpDue := 0 })

/-- What ingress counts of a frame that was cut through, when its last byte has left: a good frame, an FCS error, or a length above
MAX_FRAME; I0, I1, GW and PX have no receive MAC, and frames of the first three were counted as they entered (R287, R332, R365). -/
def State.cutEnd (s : State) (f : Frame) (fcsBad long : Bool) : State :=
  if ¬ f.cut ∨ (26 ≤ f.ingress ∧ f.ingress ≠ 29) then s
  else if f.ingress = 29 then s.goodFrame 29 f.wireLen
  else if fcsBad then s.cntEth f.ingress (fun c => { c with fcsErr := c.fcsErr + 1 })
  else if long then s.cntEth f.ingress (fun c => { c with oversize := c.oversize + 1 })
  else s.goodFrame f.ingress f.wireLen

/-- The last byte of a frame has left a port (R306): its counters, and the copy is gone. A frame that was cut through and
failed its FCS or ran over length leaves with an inverted FCS, and ingress counts it (R287, R332); so does one whose MACsec key was purged
on the way (R550). A frame that leaves to port GW is the gateway's (R398). Pause frames that waited follow, and then messages of the
bridge (R336, R337). -/
def execFrameEgressComplete (port frame : Nat) (fcsBad : Bool) (s : State) : Out :=
  if ¬ port < 30 then noUnit
  else match s.frame frame with
    | none => .next s
    | some f =>
      if ¬ (s.swPort port).inFlight.contains frame ∨ ((s.swPort port).halted ∧ (s.swPort port).inFlight.getLast? = some frame) then .next s
      else
        let long := f.cut && f.ingress < 26 && (s.ethPort f.ingress).maxFrame.toNat < f.wireLen + 4
        let bad := f.cut && (fcsBad || long)
        let b := Tab.get f.out port []
        let s1 := (s.updSwPort port (fun u => { u with
          inFlight := u.inFlight.filter (fun j => j ≠ frame)
          frags := if u.inFlight.head? = some frame && u.inFlight.length = 2 then u.frags else 0
          fragSent := if u.inFlight.head? = some frame && u.inFlight.length = 2 then u.fragSent else 0
          spoiled := u.spoiled.filter (fun j => j ≠ frame)
          sent := b
          sentBad := bad || u.spoiled.contains frame
          cnt := { u.cnt with
            outFrames := u.cnt.outFrames + 1
            cutAbort := if bad then u.cnt.cutAbort + 1 else u.cnt.cutAbort } })).cntEth port (fun c =>
          { c with txFrames := c.txFrames + 1, txBytes := c.txBytes + BitVec.ofNat 64 (b.length + 4) })
        let s2 := if port = 28 ∧ s.bus.gw.en then s1.onGw (fun g => { g with inbox := Tab.put g.inbox frame b }) else s1
        fin ((((s2.cutEnd f fcsBad long).dropDest frame port).fcFlush port).ptpFlush port)

/-! ### Multicast service -/

/-- A destination is ready for a multicast frame: the operand says that its egress has room (R305). -/
def State.mcReady (s : State) (f : Frame) (ready : BitVec 30) (p : Nat) : Bool :=
  ready.getLsbD p && s.portUp p && s.classOk p f.cls && s.guardOk p f.cls (s.wireLen f p)
    && (Tab.get s.sw.residue (p * 8 + f.cls) []).isEmpty

/-- A destination that is not ready gets a residue entry, or loses its copy at a full queue (R305, R306). -/
def State.addResidue (s : State) (f : Frame) (p : Nat) : State :=
  if (Tab.get s.sw.residue (p * 8 + f.cls) []).length < 64 then
    s.onSw (fun w => { w with residue := Tab.upd w.residue (p * 8 + f.cls) [] (fun l => l ++ [f.id]) })
  else
    ((s.cntSw p (fun c => { c with residue := c.residue + 1 })).swEvent 3).updFrame f.id (fun g => { g with
      dests := g.dests.filter (fun d => d ≠ p)
      qps := if p = 26 ∨ p = 27 then g.qps.filter (fun q => q / 64 ≠ p - 26) else g.qps })

/-- One pass of the multicast service over the head of an ingress and class (R305, R306). -/
def execMulticastService (port cls : Nat) (ready : BitVec 30) (s : State) : Out :=
  if ¬ (port < 30 ∧ cls < 8) then noUnit
  else match s.sw.frames.find? (fun f => f.ingress = port && f.cls = cls && f.multi && !f.served) with
    | none => .next s
    | some f =>
      let yes := f.dests.filter (s.mcReady f ready)
      let no := f.dests.filter (fun p => !s.mcReady f ready p)
      let s1 := s.updFrame f.id (fun g => { g with served := true })
      let s2 := if yes.isEmpty then s1 else s1.cross f
      let s3 := no.foldl (fun t p => t.addResidue f p) s2
      fin ((yes.foldl (fun t p => t.send f.id p false) s3).freeIfDone f.id)

/-! ### Pause -/

/-- A pause or PFC frame arrives (R337). -/
def execPauseFrameReceive (port : Nat) (pfc : Bool) (enables : Byte) (quanta : List U16) (s : State) : Out :=
  if ¬ port < 26 then noUnit
  else if ¬ (s.ethPort port).link then .next s
  else
    fin (s.updEthPort port (fun e => { e with
      cnt := { e.cnt with rxPause := e.cnt.rxPause + 1 }
      paused := if !pfc && e.pause then quanta.headD 0 ≠ 0 else e.paused
      pfcPaused := if pfc && e.pfc then
          (List.range 8).foldl (fun m c =>
            if enables.getLsbD c then putBit m c (quanta.getD c 0 ≠ 0) else m) e.pfcPaused
        else e.pfcPaused }) |>.ptpFlush port)

/-- A received pause time runs out: of the port, or of the classes named (R337). -/
def execPauseExpiry (port : Nat) (classes : Byte) (s : State) : Out :=
  if ¬ port < 26 then noUnit
  else fin (s.updEthPort port (fun e => { e with
    paused := if e.pause then false else e.paused, pfcPaused := e.pfcPaused &&& ~~~classes }) |>.ptpFlush port)

/-- The pause frame is repeated while the flag stays set (R336). -/
def execPauseRefresh (port : Nat) (s : State) : Out :=
  if ¬ port < 26 then noUnit
  else if port < 22 ∧ (s.ethPort port).pause ∧ (s.swPort port).fcAssert ∧ (s.ethPort port).link then
    fin (s.fcSend port { on := 0xFF })
  else .next s

/-! ### Gates -/

/-- HOLD is set or cleared: a preemptable frame in transmission stops at its next fragment boundary, which a transmission opportunity
of the port brings, and goes on when HOLD clears (R346). -/
def State.setHold (s : State) (p : Nat) (h : Bool) : State :=
  (s.updEthPort p (fun q => { q with hold := h })).updSwPort p (fun u => { u with halted := u.halted && h })

/-- An entry of a gate list takes effect at a port: its gates, and its hold or release (R342, R346). -/
def State.applyGate (s : State) (p : Nat) (g : GateList) (k : Nat) : State :=
  let e := g.entries.getD k {}
  let s1 := s.updGate p (fun u => { u with gates := e.gates, entry := k })
  if e.op = 1 then s1.setHold p true else if e.op = 2 then s1.setHold p false else s1

/-- The interval in force ends and the next entry takes effect (R342). -/
def execGateEntryAdvance (port : Nat) (s : State) : Out :=
  if ¬ port < 30 then noUnit
  else match (s.gate port).oper with
    | none => .next s
    | some g =>
      let k := (s.gate port).entry
      fin (s.applyGate port g (if k + 1 < g.entries.length then k + 1 else 0))

/-- The pending list of a port takes effect at entry 0 (R343). -/
def State.switchOver (s : State) (p : Nat) : State :=
  match (s.gate p).pend with
  | none => s
  | some g => ((s.updGate p (fun u => { u with oper := some g, pend := none })).applyGate p g 0).ethGlobal 3

/-- The change time of a pending list is reached (R343). -/
def execGateListSwitchover (port : Nat) (s : State) : Out :=
  if ¬ port < 30 then noUnit
  else match (s.gate port).pend with
    | none => .next s
    | some _ => fin (s.switchOver port)

/-- All gates of a port open, and its lists are gone (R345). -/
def State.openGates (s : State) (p : Nat) : State :=
  (s.updGate p (fun u => { u with oper := none, pend := none, gates := 0xFF, entry := 0, changeTime := 0, stored := false })).setHold p false

/-! ### Preemption -/

/-- The link partner responds to verification (R348). -/
def execPreemptVerifyResponse (port : Nat) (s : State) : Out :=
  if ¬ port < 10 then noUnit
  else if (s.ethPort port).verify = 1 then fin ((s.updEthPort port (fun e => { e with verify := 2 })).ethEvent port 1)
  else .next s

/-- A verify attempt times out; the third one ends verification (R348). -/
def execPreemptVerifyTimeout (port : Nat) (s : State) : Out :=
  if ¬ port < 10 then noUnit
  else if (s.ethPort port).verify ≠ 1 then .next s
  else if 2 ≤ (s.ethPort port).tries then
    fin ((s.updEthPort port (fun e => { e with tries := 3, verify := 3 })).ethEvent port 1)
  else fin (s.updEthPort port (fun e => { e with tries := e.tries + 1 }))

/-! ### Policers and streams -/

/-- One µs of refill of every policer, up to its burst, the fraction kept (R351). -/
def execPolicerRefill (s : State) : Out :=
  fin (s.onEth (fun e => { e with policers := e.policers.map (fun p =>
    (p.1, { p.2 with tokens := min (p.2.tokens + p.2.rate.toNat) (p.2.burst.toNat * 8000) })) }))

/-- No frame has passed a recovery for its reset time (R354). -/
def execFrerRecoveryTimeout (stream : Nat) (s : State) : Out :=
  if ¬ stream < 512 then noUnit
  else
    let f : Frer := Tab.get s.eth.frers stream {}
    if f.rec_ ∧ f.stream ≠ 0 ∧ ¬ f.fresh then
      fin ((s.updFrer stream (fun f => { f with fresh := true, seen := 0, resets := satInc f.resets })).ethGlobal 4)
    else .next s

/-! ### Time-aware bridge -/

/-- The running list of a port moves to its position at a time (R344). -/
def State.gateTo (s : State) (p t : Nat) : State :=
  match (s.gate p).oper with
  | some l => s.applyGate p l (l.indexAt t)
  | none => s

/-- TIME_GLOBAL steps by d ns (R111, R344): the gate lists move to their place at the new time, and a pending list whose change
time has passed takes effect first. -/
def State.stepGlobal (s : State) (d : Int) : State :=
  let t := s.tb.globalT + BitVec.ofInt 64 d
  let s1 : State := { s with tb := { s.tb with globalT := t, steps := s.tb.steps + 1, lastStep := BitVec.ofInt 64 d } }
  let s2 := s.eth.gates.foldl (fun u g =>
    (if (u.gate g.1).pend.isSome ∧ (u.gate g.1).changeTime ≤ t then u.switchOver g.1 else u).gateTo g.1 t.toNat) s1
  s2.ethGlobal 2

/-- The range of the rate adjustment: ±500 ppm in units of 1/256 ppb (R111). -/
def clampRate (v : U32) : U32 :=
  if v.toInt < -128000000 then BitVec.ofInt 32 (-128000000) else if 128000000 < v.toInt then 128000000 else v

/-- An announce message on a live port is kept, and the master is chosen afresh (R355). One that the module sent itself, or that has come
too far, is no announce (PRESUMED, log entry 108). -/
def State.ptpAnnounce (s : State) (p : Nat) (m : PtpMessage) : State :=
  if ¬ s.tabLive p ∨ m.info.steps = 255 ∨ m.info.sender = ownClock ∨ m.info.root.id = ownClock then s
  else (s.updTab p (fun t => { t with info := some m.info })).bmca

/-- A sync message on the slave port: the offset, the servo's rate or step, and GSTATE (R357). -/
def State.ptpSync (s : State) (p : Nat) (m : PtpMessage) : State :=
  let b := s.eth.bridge
  if ¬ (b.role = 2 ∧ (b.port p).role = 2) then s
  else
    let near := decide (m.offset.natAbs ≤ 1000)
    let good := if near then b.good + 1 else 0
    let s1 := s.onBridge (fun b => { b with offset := BitVec.ofInt 64 m.offset, good := good, servo := b.servo + 1 })
    let s2 : State := { s1 with tb := { s1.tb with
      adj := clampRate (Config.servoRate b.servo m.offset)
      gstate := if 4 ≤ good then 1 else s1.tb.gstate } }
    if 10000 < m.offset.natAbs then s2.stepGlobal (-m.offset) else s2

/-- A peer delay exchange: the link delay, the neighbour rate and the 800 ns threshold; a port beyond it has no neighbour (R357). -/
def State.ptpDelay (s : State) (p : Nat) (m : PtpMessage) : State :=
  let near := decide (m.delay.toNat ≤ 12800)
  (s.updTab p (fun t =>
    { t with delay := m.delay, ratio := m.ratio, asCapable := near, info := if near then t.info else none })).bmca

/-- The time-aware bridge takes an 802.1AS message (R355, R357). Its frame has been counted by FRAME_INGRESS. -/
def execPtpMessageReceive (port : Nat) (m : PtpMessage) (s : State) : Out :=
  if ¬ port < 30 then noUnit
  else if ¬ (s.bridgeOn port ∧ (port = 29 ∨ (s.ethPort port).link)) then .next s
  else match m.kind with
    | .sync => fin (s.ptpSync port m)
    | .announce => fin (s.ptpAnnounce port m)
    | .pdelay => fin (s.ptpDelay port m)

/-- Three sync intervals pass on the slave port without a sync, or without a slave port at all (R357). -/
def execPtpSyncTimeout (s : State) : Out :=
  if s.eth.bridge.en ∧ s.tb.gstate ≠ 2 ∧ (s.eth.bridge.role = 2 ∨ (s.eth.bridge.role = 0 ∧ s.tb.gstate = 1)) then
    let s1 : State := { s with tb := { s.tb with gstate := 2 } }
    fin ((s1.onBridge (fun b => { b with good := 0 })).ethGlobal 1)
  else .next s

/-- A sync, announce or peer delay message is sent, or waits for a pause or a frame in transmission to end (R311, R337, R357): sync and
announce on master ports, peer delay on every port. -/
def execPtpTransmitTimer (port : Nat) (kind : PtpKind) (s : State) : Out :=
  if ¬ port < 30 then noUnit
  else if ¬ (s.bridgeOn port ∧ (port = 29 ∨ (s.ethPort port).link)) then .next s
  else if kind ≠ .pdelay ∧ (s.eth.bridge.port port).role ≠ 1 then .next s
  else fin ((s.updEthPort port (fun e => { e with ptpDue := e.ptpDue + 1 })).ptpFlush port)

/-! ### T1S segments -/

/-- A following segment loses the beacon and falls back to CSMA/CD (R358). -/
def execPlcaBeaconLost (port : Nat) (s : State) : Out :=
  if ¬ (22 ≤ port ∧ port < 26) then noUnit
  else if (s.ethPort port).plca.active ∧ (s.ethPort port).plca.nodeId ≠ 0 then
    fin ((s.updEthPort port (fun e => { e with
      plca := { e.plca with active := false }
      cnt := { e.cnt with beaconLost := e.cnt.beaconLost + 1 } })).ethEvent port 4)
  else .next s

/-- Beacons return and the segment resumes PLCA (R358). -/
def execPlcaBeaconReturn (port : Nat) (s : State) : Out :=
  if ¬ (22 ≤ port ∧ port < 26) then noUnit
  else
    let e := s.ethPort port
    if e.link ∧ ¬ e.plca.active ∧ ¬ e.plca.off ∧ e.plca.nodeId ≠ 0 then
      fin (s.updEthPort port (fun e => { e with plca := { e.plca with active := true } }))
    else .next s

/-! ### Shapers in time -/

/-- The credits of one port after 8 ns (R340). -/
def State.shape (s : State) (p : Nat) : State :=
  let e := s.ethPort p
  if e.cbs.isEmpty then s
  else
    let sending := (s.swPort p).inFlight.head?.bind (fun i => (s.frame i).map (fun f => f.cls))
    s.updEthPort p (fun e => { e with cbs := e.cbs.map (fun c =>
      let b := c.2
      if !b.en || !(s.gate p).gates.getLsbD c.1 then c
      else if sending = some c.1 then (c.1, { b with credit := b.credit + 8 * ((b.idle.toNat : Int) - lineRate p * 1000) })
      else if (s.contenders p c.1).isEmpty then (c.1, { b with credit := min b.credit 0 })
      else (c.1, { b with credit := b.credit + 8 * b.idle.toNat })) })

/-- The credits of every port after 8 ns. -/
def State.shapeAll (s : State) : State := s.eth.ports.foldl (fun t e => t.shape e.1) s

end Sys2Proof.Machine
end

