-- ==== Sys2Proof/Machine/Engines.lean ====
section
/-! DEFINITION. The engines that act on memory for a handle: the queue engines of I0 and I1, and the cipher job engine (R120, R132,
R312 to R318, R549, R554 to R561, R566). -/

namespace Sys2Proof.Machine

open Sys2Proof

/-! ### Engine accesses -/

/-- The attributes of an engine's accesses for a handle: its owner, its security attribute and its class (R19, R118, R136). -/
def Handle.engineAttr (h : Handle) (init : Byte) : Attr := { init := init, inst := BitVec.ofNat 6 h.owner, sec := h.sec, qos := h.cls }

/-- A range cut at the 256-byte blocks that a transaction may not cross (R119). -/
def blocksOf (a n : Nat) : List (Nat × Nat) :=
  (List.range ((a + n + 255) / 256 - a / 256)).map (fun k =>
    let lo := max a ((a / 256 + k) * 256)
    (lo, min (a + n) ((a / 256 + k + 1) * 256) - lo))

/-- An engine reads bytes, one transaction a block, up to the first response that is not OK; address bits above 39 are cut off (R312; DESIGN
CHOICE, log entry 146). -/
def State.dmaRead (s : State) (t : Attr) (a n : Nat) : State × Resp × List Byte :=
  (blocksOf a n).foldl (fun (p : State × Resp × List Byte) b =>
    if p.2.1 ≠ .ok then p
    else
      let q := (p.1.meterDma t b.1 b.2).accept .read .swap { attr := t, addr := BitVec.ofNat 40 b.1, size := b.2 }
      (q.1, q.2.1.getD .ok, p.2.2 ++ q.2.2)) (s, .ok, [])

/-- An engine writes bytes, one transaction a block, up to the first response that is not OK: posted into a window of policy 1 (R120,
R584); a write that a window's tracker takes counts as done (DESIGN CHOICE, log entry 42). -/
def State.dmaWrite (s : State) (t : Attr) (a : Nat) (d : List Byte) : State × Resp :=
  (blocksOf a d.length).foldl (fun (p : State × Resp) b =>
    if p.2 ≠ .ok then p
    else
      let x : Xact := { attr := t, addr := BitVec.ofNat 40 b.1, size := b.2, data := (d.drop (b.1 - a)).take b.2 }
      let q := (p.1.meterDma t b.1 b.2).accept (if s.winPosted x then .posted else .write) .swap x
      (q.1, q.2.1.getD .ok)) (s, .ok)

/-- Some byte of a write reached its target: its first block was answered OK. -/
def State.anyWritten (s : State) (t : Attr) (a : Nat) (d : List Byte) : Bool :=
  d ≠ [] && (s.dmaWrite t a (d.take (256 - a % 256))).2 = .ok

/-- An engine's work that met RETRY waits: nothing of it has happened but the read slots that its reads opened in the Pass bridge, where their
data arrive; those that it found ready stay so until it goes through (R586). -/
def State.dmaWait (old new : State) : State :=
  (new.pass.slots.filter (fun r => !old.pass.slots.any (fun q => q.x.same r.x))).foldl (fun t r =>
    match (List.range 256).find? (fun i => t.pass.slots.all (fun q => q.id ≠ i)) with
    | some i => t.onPass (fun p => { p with slots := p.slots ++ [{ r with id := i }] })
    | none => t) old

/-- The port and the arbitration point of an engine's first access let it pass: a credit is free, none of its own waits to that block, and no
waiting transaction goes before it (R122, R123, R137). -/
def State.portMay (s : State) (t : Attr) (a : Nat) : Bool :=
  s.credit .read t.init && s.wins a t.qos
    && s.core.waiting.all (fun w => !w.x.ordered { attr := t, addr := BitVec.ofNat 40 a })

/-- An engine's first access may pass: the ceiling admits it, and its port and its arbitration point let it (R122, R123, R133, R137). -/
def State.dmaMay (s : State) (t : Attr) (a n : Nat) : Bool :=
  (!s.metered t a || (s.reg t.inst.toNat).admits (chargeOf (min n 256))) && s.portMay t a

/-- The work of an engine begins with its first access, or waits for it: the refill in progress counts a withheld one (R133, R137). -/
def State.dmaBegin (s : State) (t : Attr) (a n : Nat) (k : State) : State :=
  if s.dmaMay t a n then k
  else if s.metered t a ∧ ¬ (s.reg t.inst.toNat).admits (chargeOf (min n 256)) then
    s.updReg t.inst.toNat (fun r => { r with heldNow := true })
  else s

/-- An engine writes a completion record, which is never posted; its MSI follows the OK of that write, at once or when the partner's response
frees its tracker, and a record that finds no tracker waits for one (R120, R587; DEDUCED, log entry 147). -/
def State.recordWrite (s : State) (t : Attr) (a : Nat) (d : List Byte) (msi : Option (Bind × Bool)) : State × Resp × (State → State) :=
  let x : Xact := { attr := t, addr := BitVec.ofNat 40 a, size := d.length, data := d }
  let q := (s.meterDma t a d.length).accept .write .swap x
  match q.2.1 with
  | none => (q.1.onPass (fun p => p.withMsi x msi), .ok, id)
  | some .retry => (q.1.onPass (fun p => { p with recWait := p.recWait ++ [{ x := x, msi := msi }] }), .ok, id)
  | some r =>
    (q.1, r, fun s => match msi with
      | some (b, sec) => if r = .ok then s.msiBind b sec 0 else s
      | none => s)

/-- The status of a fabric error in a record: 0x0102 to 0x0106 (R316, R559). -/
def fabricStatus (r : Resp) : U16 := 0x0100 + BitVec.ofNat 16 r.code

/-- The engines run: RUN and PARTIAL (R561). -/
def State.enginesRun (s : State) : Bool := (s.aon.mode = .run || s.aon.mode = .part) && !s.supply.holdup

/-- The next index of a ring (R313). -/
def nextIndex (i depth : U16) : U16 := BitVec.ofNat 16 ((i.toNat + 1) % max 1 depth.toNat)

/-! ### Queue engines -/

/-- The attributes of queue pair q's accesses. -/
def State.qpAttr (s : State) (q : Nat) : Option Attr :=
  (s.hFind 0x01 q).map (fun h => h.engineAttr (if q < 64 then 0x20 else 0x21))

/-- The binding of a handle's MSI. -/
def State.msiOf (s : State) (typ index : Nat) : Option (Bind × Bool) := (s.hFind typ index).map (fun h => (h.bind, h.sec))

/-- A descriptor is written, the head goes on, and the MSI follows a write answered OK (R120, R316). -/
def State.qpDone (s : State) (q : Nat) (t : Attr) (a : Nat) (d : List Byte) (head : Qp → Qp) : State :=
  let w := s.recordWrite t a d (s.msiOf 0x01 q)
  w.2.2 (w.1.updQp q head)

/-- An index that goes on by n. -/
def addIndex (i depth : U16) (n : Nat) : U16 := BitVec.ofNat 16 ((i.toNat + n) % max 1 depth.toNat)

/-- The descriptor at the head of the transmit ring is over. -/
def Qp.txNext (u : Qp) : Qp := { u with txHead := addIndex u.txHead u.depth (1 + u.txSkip), txBusy := false, txSkip := 0 }
/-- The descriptor at the head of the receive ring is over. -/
def Qp.rxNext (u : Qp) : Qp := { u with
  rxHead := addIndex u.rxHead u.depth (1 + u.rxSkip), rxBusy := false, rxAt := 0, rxSkip := 0 }

/-- The status word of a descriptor on a transmit ring. -/
def State.txDone (s : State) (q : Nat) (t : Attr) (a : Nat) (st : U16) : State :=
  s.qpDone q t (a + 12) (leBytes 2 st.toNat) Qp.txNext

/-- The status of a frame that the pipeline took: OK when admitted, NO_RESOURCE when admission refused it; the spec states none
for one that an earlier stage dropped (R316, R317). -/
def State.txStatus (before after : State) (port : Nat) (ok : Bool) : U16 :=
  if ok then 0
  else if (before.swPort port).cnt.refuse ≠ (after.swPort port).cnt.refuse then 0x0012
  else (Config.freeWord 4 after.core.fresh).setWidth 16

/-- A transmit descriptor is read, checked and presented; one whose buffer transfer has to wait is work in flight (R314, R316, R318). -/
def State.txDesc (s : State) (q : Nat) (t : Attr) : State :=
  let u := s.qp q
  let a := u.txBase.toNat + u.txHead.toNat * 32
  let port := 26 + q / 64
  let r := s.dmaRead t a 32
  if r.2.1 = .retry then s.dmaWait r.1
  else if r.2.1 ≠ .ok then r.1.txDone q t a (fabricStatus r.2.1)
  else if s.qpOff q ∧ ¬ u.txBusy then r.1.txDone q t a 0x0021
  else
    let len := u16At r.2.2 8
    let cls := u8At r.2.2 10
    if len < 60 ∨ 9212 < len ∨ 7 < cls then r.1.txDone q t a 0x0013
    else
      let held := s.updQp q (fun u => { u with txBusy := true })
      let b := r.1.dmaRead t (u64At r.2.2 0) len
      held.dmaBegin t (u64At r.2.2 0) len
        (if b.2.1 = .retry then held.dmaWait b.1
         else if b.2.1 ≠ .ok then b.1.txDone q t a (fabricStatus b.2.1)
         else
           let f := (b.1.goodFrame port b.2.2.length).enter
             { port := port, bytes := b.2.2, cls := some (min cls u.maxClass.toNat), fromQp := some q }
           (((f.1.txDone q t a (State.txStatus b.1 f.1 port f.2))).onCore (fun c => { c with fresh := c.fresh + 1 })))

/-- QP_TX_DESCRIPTOR_PROCESS (R312 to R314, R316 to R318). -/
def execQpTxDescriptorProcess (qp : Nat) (s : State) : Out :=
  if 128 ≤ qp then noUnit
  else
    let u := s.qp qp
    match s.qpAttr qp with
    | none => .next s
    | some t => if s.enginesRun ∧ u.run ∧ (¬ u.stopped ∨ u.txBusy) ∧ u.txHead ≠ u.txTail then
        fin (s.dmaBegin t (u.txBase.toNat + u.txHead.toNat * 32) 32 (s.txDesc qp t))
      else .next s

/-- The descriptor of a received frame from its class on; the VLAN flag is that of the bytes delivered (R313). -/
def Frame.rxBytes (f : Frame) (b : List Byte) : List Byte :=
  [BitVec.ofNat 8 f.cls, BitVec.ofNat 8 ((if isGroup b then 1 else 0) + (if isTagged b then 2 else 0))] ++ leBytes 2 0
    ++ leBytes 2 b.length ++ leBytes 8 f.time.toNat ++ leBytes 2 f.ingress ++ leBytes 2 f.vid.toNat ++ leBytes 4 f.hash.toNat


/-- The copy of a preemptable frame gives way at the next 64-byte boundary: an express frame waits at the head of the list of another pair of
the port that has a descriptor posted. Within one list frames are copied in order (R315, R349; DEDUCED, log entry 158). -/
def State.copyYields (s : State) (q : Nat) (f : Frame) : Bool :=
  let p := 26 + q / 64
  s.preemptable p f.cls && (List.range 64).any (fun k =>
    let j := (p - 26) * 64 + k
    let u := s.qp j
    j ≠ q && u.run && !u.stopped && u.rxHead ≠ u.rxTail &&
      (match u.rxList.head?.bind s.frame with
       | some g => !s.preemptable p g.cls
       | none => false))

/-- A receive descriptor is read and filled (R307, R315, R316). A frame whose buffer write the fabric refuses leaves the list with its
descriptor and is counted nowhere (DESIGN CHOICE, log entry 157). -/
def State.rxDesc (s : State) (q : Nat) (t : Attr) : State :=
  let u := s.qp q
  let a := u.rxBase.toNat + u.rxHead.toNat * 32
  let status (s : State) (st : U16) : State := s.qpDone q t (a + 12) (leBytes 2 st.toNat) Qp.rxNext
  if s.qpOff q ∧ ¬ u.rxBusy then status s 0x0021
  else match u.rxList.head? with
    | none => s
    | some i =>
      match s.frame i with
      | none => s.updQp q (fun u => { u with rxList := u.rxList.drop 1 })
      | some f =>
        let b := s.egressEdit f (26 + q / 64)
        let r := s.dmaRead t a 32
        if r.2.1 = .retry then s.dmaWait r.1
        else if r.2.1 ≠ .ok then status r.1 (fabricStatus r.2.1)
        else if u16At r.2.2 8 < b.length then (r.1.rxPop q i).updQp q (fun u => { u with rxDrop := satInc u.rxDrop })
        else
          let n := if s.copyYields q f ∧ u.rxAt + 64 < b.length then 64 else b.length - u.rxAt
          let dst := u64At r.2.2 0 + u.rxAt
          let held := (s.updQp q (fun u => { u with rxBusy := true })).rxBegin i
          let w := (r.1.rxBegin i).dmaWrite t dst ((b.drop u.rxAt).take n)
          held.dmaBegin t dst n
            (if w.2 = .retry then held
             else if w.2 = .ok ∧ u.rxAt + n < b.length then w.1.updQp q (fun u => { u with rxBusy := true, rxAt := u.rxAt + n })
             else if w.2 ≠ .ok then (status w.1 (fabricStatus w.2)).rxPop q i
             else (w.1.rxPop q i).qpDone q t (a + 10) (f.rxBytes b) Qp.rxNext)

/-- QP_RX_COPY (R312, R313, R315, R316). -/
def execQpRxCopy (qp : Nat) (s : State) : Out :=
  if 128 ≤ qp then noUnit
  else
    let u := s.qp qp
    match s.qpAttr qp with
    | none => .next s
    | some t =>
      if s.enginesRun ∧ u.run ∧ (¬ u.stopped ∨ u.rxBusy) ∧ u.rxHead ≠ u.rxTail then
        fin (s.dmaBegin t (u.rxBase.toNat + u.rxHead.toNat * 32) 32 (s.rxDesc qp t))
      else .next s

/-- Descriptors of a queue pair that are not yet fetched complete with a status, without an MSI where `quiet` (R518, R521). -/
def State.qpFlush (s : State) (q : Nat) (st : U16) (quiet : Bool) : State :=
  match s.qpAttr q with
  | none => s
  | some t =>
    let u := s.qp q
    let d := max 1 u.depth.toNat
    let pend (head tail : U16) : Nat := (tail.toNat + d - head.toNat) % d
    let one (base : Nat) (s : State) (i : Nat) : State :=
      let w := s.recordWrite t (base + i * 32 + 12) (leBytes 2 st.toNat) (if quiet then none else s.msiOf 0x01 q)
      w.2.2 w.1
    let tx := if u.txBusy then 1 + u.txSkip else 0
    let rx := if u.rxBusy then 1 + u.rxSkip else 0
    let s1 := ((List.range (pend u.txHead u.txTail)).drop tx).foldl (fun s k => one u.txBase.toNat s ((u.txHead.toNat + k) % d)) s
    let s2 := ((List.range (pend u.rxHead u.rxTail)).drop rx).foldl (fun s k => one u.rxBase.toNat s ((u.rxHead.toNat + k) % d)) s1
    s2.updQp q (fun u => { u with
      txHead := if u.txBusy then u.txHead else u.txTail, txSkip := if u.txBusy then pend u.txHead u.txTail - 1 else 0
      rxHead := if u.rxBusy then u.rxHead else u.rxTail, rxSkip := if u.rxBusy then pend u.rxHead u.rxTail - 1 else 0 })

/-- A queue pair has work in flight (R318). -/
def State.qpBusy (s : State) (q : Nat) : Bool := (s.qp q).txBusy || (s.qp q).rxBusy

/-- Work of a queue pair in flight aborts with a status, without an MSI where `quiet` (R316, R518, R521). -/
def State.qpAbort (s : State) (q : Nat) (st : U16) (quiet : Bool) : State :=
  match s.qpAttr q with
  | none => s
  | some t =>
    let u := s.qp q
    let one (s : State) (a : Nat) : State :=
      let w := s.recordWrite t (a + 12) (leBytes 2 st.toNat) (if quiet then none else s.msiOf 0x01 q)
      w.2.2 w.1
    let s1 := if u.txBusy then (one s (u.txBase.toNat + u.txHead.toNat * 32)).updQp q Qp.txNext else s
    if u.rxBusy then
      let s2 := (one s1 (u.rxBase.toNat + u.rxHead.toNat * 32)).updQp q Qp.rxNext
      match u.rxList.head? with
      | some i => s2.rxPop q i
      | none => s2
    else s1

/-! ### Cipher job engine -/

/-- A descriptor from its 64 bytes (R555). -/
def descAt (b : List Byte) : Desc :=
  { op := u8At b 0, flags := u8At b 1, tagLen := u8At b 2, rsv3 := u8At b 3, key := BitVec.ofNat 32 (u32At b 4)
    src := u64At b 8, dst := u64At b 16, len := u32At b 24, aadLen := u32At b 28, iv := (b.drop 32).take 16
    tag := u64At b 48, cookie := BitVec.ofNat 32 (u32At b 56), rsv60 := u32At b 60 }

/-- An AES-GCM operation. -/
def Desc.gcm (d : Desc) : Bool := d.op = 0x01 || d.op = 0x02
/-- An XTS operation. -/
def Desc.isXts (d : Desc) : Bool := d.op = 0x03 || d.op = 0x04
/-- A decryption that is staged in full (R560). -/
def Desc.staged (d : Desc) : Bool := d.op = 0x02 && d.len ≤ 65536
/-- Bytes that pass the pipeline: AAD and data. -/
def Desc.total (d : Desc) : Nat := (if d.gcm then d.aadLen else 0) + d.len
/-- The key register is needed: every operation with a key of usage 0 to 2. -/
def Desc.keyed (d : Desc) : Bool := 1 ≤ d.op && d.op ≤ 0x0A

/-- The tag length suits the opcode (R556). -/
def Desc.tagOk (d : Desc) : Bool :=
  if d.gcm then d.tagLen = 8 || (12 ≤ d.tagLen && d.tagLen ≤ 16)
  else if d.op = 0x05 ∨ d.op = 0x06 then 8 ≤ d.tagLen && d.tagLen ≤ 16
  else if d.op = 0x07 ∨ d.op = 0x08 then 16 ≤ d.tagLen && d.tagLen ≤ 48
  else if d.op = 0x09 ∨ d.op = 0x0A then 16 ≤ d.tagLen && d.tagLen ≤ 32
  else d.tagLen = 0

/-- The fields of a descriptor are valid (R555, R556). -/
def Desc.ok (d : Desc) : Bool :=
  ((1 ≤ d.op && d.op ≤ 0x0C) || d.op = 0x0F) && d.flags < 4 && d.rsv3 = 0 && d.rsv60 = 0 && d.tagOk
    && (if d.gcm then d.aadLen ≤ 1048576 && (d.iv.drop 12).all (fun b => b = 0) else d.aadLen = 0)
    && (!d.isXts || (16 ≤ d.len && d.len ≤ 16777216)) && (d.op ≠ 0x0F || d.len = 0)
    && (!(d.op = 0x0B || d.op = 0x0C) || d.key = 0) && (!d.keyed || d.key ≠ 0)

/-- The usage that an opcode needs (R556). -/
def Desc.usage (d : Desc) : Nat :=
  if d.op ≤ 0x04 then 0 else if d.op ≤ 0x06 then 1 else if d.op ≤ 0x0A then 2 else 4

/-- The attributes of ring r's accesses. -/
def State.ringAttr (s : State) (r : Nat) : Attr :=
  match s.hFind 0x06 r with
  | some h => h.engineAttr 0x50
  | none => { init := 0x50, inst := BitVec.ofNat 6 (s.ring r).owner, sec := (s.ring r).sec }

/-- A completion record is written, its tail goes on, the counters count, and the MSI follows a write answered OK when asked for
(R120, R559, R567). -/
def State.jobRecord (s : State) (r slot : Nat) (d : Desc) (st : U16) (done : Nat) (invalid irq : Bool) : State :=
  let g := s.ring r
  let rec16 := leBytes 4 d.cookie.toNat ++ leBytes 2 st.toNat ++ leBytes 1 d.op ++ leBytes 1 (if invalid then 1 else 0)
    ++ leBytes 4 done ++ leBytes 2 slot ++ leBytes 2 0
  let w := s.recordWrite (s.ringAttr r) (g.cqBase.toNat + g.cqTail.toNat * 16) rec16
    (if irq ∧ d.flags % 2 = 1 then s.msiOf 0x06 r else none)
  w.2.2 ((w.1.updRing r (fun g => { g with
      cqTail := nextIndex g.cqTail g.depth, jobs := g.jobs + 1, err := if st = 0 then g.err else satInc g.err })).onCe (fun c =>
    { c with
      jobsDone := c.jobsDone + 1
      revoked := if st = 0x0020 then satInc c.revoked else c.revoked
      authFail := if st = 0x0701 then satInc c.authFail else c.authFail }))

/-- The completion ring has room for one more job beyond those in flight (R555). -/
def State.ringRoom (s : State) (r : Nat) : Bool :=
  let g := s.ring r
  let d := max 1 g.depth.toNat
  (g.cqTail.toNat + d - g.cqHead.toNat) % d + (s.ringJobs r).length + 1 < d

/-- The engine works: its block serves, in RUN or PARTIAL (R561). -/
def State.jobEngine (s : State) : Bool := s.enginesRun && (s.block 0x01).serves

/-- The status of a descriptor at fetch, OK where every check passes, and its node. The usage is that of the node which the handle names, so
its check follows the handle's (R556, R557; DEDUCED, log entry 68). -/
def State.jobCheck (s : State) (r : Nat) (d : Desc) : Status × Option Nat :=
  let g := s.ring r
  let n := hIndex d.key
  if ¬ d.ok then (.badParam, none)
  else if d.key = 0 then (.ok, none)
  else if hType d.key ≠ 0x07 then (.badHandle, none)
  else match s.dbHandle g.owner g.sec d.key with
    | .ok =>
      let u := (s.ks.node n).getD {}
      if u.usage ≠ d.usage ∨ (d.isXts ∧ u.imported.isSome) then (.badParam, none)
      else if ¬ s.ks.current pathFuel n then (.keyRevoked, none)
      else (.ok, some n)
    | e => (e, none)

/-- The descriptor of a fetch that failed: its opcode and cookie are free values, since nothing of it was read (R559; DESIGN CHOICE, log
entry 172). -/
def State.lostDesc (s : State) : Desc :=
  { op := (Config.freeWord 5 s.core.fresh).toNat % 256, cookie := (Config.freeWord 6 s.core.fresh).setWidth 32 }

/-- A descriptor is fetched and checked: a job enters the engine, or its record is written at once (R549, R555 to R557). -/
def State.jobFetch (s : State) (ring : Nat) : State :=
  let g := s.ring ring
  let slot := g.sqHead.toNat
  let r := s.dmaRead (s.ringAttr ring) (g.sqBase.toNat + slot * 64) 64
  let d := descAt r.2.2
  let s1 := r.1.updRing ring (fun g => { g with sqHead := nextIndex g.sqHead g.depth })
  if r.2.1 = .retry then s.dmaWait r.1
  else if r.2.1 ≠ .ok then
    (s1.jobRecord ring slot s.lostDesc (fabricStatus r.2.1) 0 false true).onCore (fun c => { c with fresh := c.fresh + 1 })
  else if s.ringOff ring then s1.jobRecord ring slot d 0x0021 0 false true
  else match s.jobCheck ring d with
    | (.ok, n) =>
      let here : Bool := match n with
        | some m => s.ks.engine.contains m
        | none => false
      let used := match n with
        | some m => if here then s.ks.engine.filter (fun k => k ≠ m) ++ [m] else s.ks.engine
        | none => s.ks.engine
      (s1.onKs (fun k => { k with engine := used })).onCe (fun c => { c with
        jobs := c.jobs ++ [{ id := c.nextJob, ring := ring, slot := slot, desc := d, node := n, loaded := here || !d.keyed }]
        nextJob := c.nextJob + 1 })
    | (e, _) => s1.jobRecord ring slot d e.code 0 false true

/-- JOB_FETCH (R313, R549, R554 to R557, R561). -/
def execJobFetch (ring : Nat) (s : State) : Out :=
  let g := s.ring ring
  if 64 ≤ ring then noUnit
  else if s.jobEngine ∧ (s.hFind 0x06 ring).isSome ∧ g.run ∧ ¬ g.stopped ∧ g.sqHead ≠ g.sqTail ∧ s.ce.jobs.length < 256
      ∧ (s.ringJobs ring).length < 32 ∧ s.ringRoom ring then
    fin (s.dmaBegin (s.ringAttr ring) (g.sqBase.toNat + g.sqHead.toNat * 64) 64 (s.jobFetch ring))
  else .next s

/-- Job i, if it is in flight. -/
def State.job (s : State) (i : Nat) : Option Job := s.ce.jobs.find? (fun j => j.id = i)
/-- Change job i. -/
def State.updJob (s : State) (i : Nat) (f : Job → Job) : State :=
  s.onCe (fun c => { c with jobs := c.jobs.map (fun j => if j.id = i then f j else j) })

/-- Engine registers with node n as the one used last: at most 256, of which the least recently used that no job uses gives way
(R549). -/
def State.loadEngine (s : State) (n : Nat) : State :=
  let busy (k : Nat) : Bool := s.ce.jobs.any (fun j => j.loaded && j.node = some k)
  let rest := s.ks.engine.filter (fun k => k ≠ n)
  let kept := if rest.length < 256 then rest else match rest.find? (fun k => !busy k) with
    | some k => rest.erase k
    | none => rest
  s.onKs (fun k => { k with engine := kept ++ [n] })

/-- KEY_REGISTER_LOAD: the waiting job's key is derived and loaded (R538, R549, R550). -/
def execKeyRegisterLoad (job : Nat) (s : State) : Out :=
  match s.job job with
  | none => .next s
  | some j =>
    match j.node with
    | none => .next s
    | some n =>
      if j.loaded ∨ j.fail.isSome ∨ ¬ s.ksReady ∨ ¬ s.jobEngine then .next s
      else if ¬ s.ks.current pathFuel n then fin (s.updJob job (fun j => { j with fail := some stRevoked }))
      else fin ((s.loadEngine n).updJob job (fun j => { j with loaded := true }))

/-- The key of a job (R538). -/
def State.jobKey (s : State) (j : Job) (len : Nat) : List Byte :=
  match j.node with
  | some n => s.ks.keyBytes n 0 len
  | none => []

/-- The AAD that a job has read. -/
def Job.aad (j : Job) : List Byte := if j.desc.gcm then j.input.take j.desc.aadLen else []
/-- The data that a job has read. -/
def Job.data (j : Job) : List Byte := if j.desc.gcm then j.input.drop j.desc.aadLen else j.input

/-- The text that a job's cipher makes of the data read so far (R556). -/
def State.jobText (s : State) (j : Job) : List Byte :=
  if j.desc.gcm then aesGcm (s.jobKey j 32) (j.desc.iv.take 12) j.aad j.data
  else aesXts (j.desc.op = 0x04) (s.jobKey j 64) j.desc.iv j.data

/-- The bytes of a job's next chunk: at most 4096; an XTS job keeps a whole block for its last one (R558). -/
def Job.nextChunk (j : Job) : Nat :=
  let left := j.desc.total - j.input.length
  let c := min 4096 left
  if j.desc.isXts ∧ 0 < left - c ∧ left - c < 16 then c - 16 else c

/-- Earlier jobs of the same ring. -/
def State.earlier (s : State) (j : Job) : List Job := s.ce.jobs.filter (fun k => k.ring = j.ring && k.id < j.id)

/-- A job may start: its key is there, FENCE and the fetch order permit it, and staging has room (R554, R555, R557, R560). -/
def State.jobMayStart (s : State) (j : Job) : Bool :=
  j.loaded && j.fail.isNone && (j.desc.flags / 2 % 2 = 0 || (s.earlier j).isEmpty) && (s.earlier j).all (fun k => k.begun)
    && (j.begun || !j.desc.staged || s.stagingUsed + j.desc.len ≤ 1048576)

/-- Bytes processed under a node are counted; past the limit KEY_WORN is raised and recorded, once a start (R566). -/
def State.countNode (s : State) (n : Option Nat) (c : Nat) : State :=
  match n with
  | none => s
  | some m =>
    let b := Tab.get s.ks.bytes m 0 + c
    let s1 := s.onKs (fun k => { k with bytes := Tab.put k.bytes m b })
    if s.ks.byteLimit.toNat < b ∧ ¬ s.ks.worn.contains m then
      (s1.onKs (fun k => { k with worn := m :: k.worn, ceEvent := k.ceEvent ||| 2 })).ledgerBy .keyStore .keyWorn (leBytes 2 m)
    else s1

/-- A chunk of a job: read, and written where the operation streams its text (R558, R560, R566). -/
def State.chunk (s : State) (j : Job) : State :=
  let c := j.nextChunk
  let t := s.ringAttr j.ring
  let r := s.dmaRead t (j.desc.src + j.input.length) c
  if r.2.1 = .retry then s.dmaWait r.1
  else if r.2.1 ≠ .ok then r.1.updJob j.id (fun j => { j with begun := true, fail := some (fabricStatus r.2.1) })
  else
    let k : Job := { j with input := j.input ++ r.2.2, begun := true }
    let text := if (j.desc.gcm ∧ ¬ j.desc.staged) ∨ j.desc.isXts then (s.jobText k).drop j.data.length else []
    let w := if text = [] then (r.1, Resp.ok) else r.1.dmaWrite t (j.desc.dst + j.data.length) text
    if w.2 = .retry then s
    else
      let s1 := (w.1.updJob j.id (fun _ => { k with
          wrote := j.wrote || r.1.anyWritten t (j.desc.dst + j.data.length) text, fail := if w.2 = .ok then none else some (fabricStatus w.2) })).countNode j.node c
      s1.updRing j.ring (fun g => { g with bucket := g.bucket - c * 8, bytes := g.bytes + BitVec.ofNat 64 c })

/-- JOB_CHUNK: a chunk starts once the ring's bucket holds its bytes (R558). -/
def execJobChunk (job : Nat) (s : State) : Out :=
  match s.job job with
  | none => .next s
  | some j =>
    if s.jobEngine ∧ s.jobMayStart j ∧ j.input.length < j.desc.total ∧ j.nextChunk * 8 ≤ (s.ring j.ring).bucket then
      fin (s.dmaBegin (s.ringAttr j.ring) (j.desc.src + j.input.length) j.nextChunk (s.chunk j))
    else .next s

/-- The tag or digest of a job over its whole input (R556). -/
def State.jobTag (s : State) (j : Job) : List Byte :=
  let d := j.desc
  if d.op = 0x01 then (aesGcmTag (s.jobKey j 32) (d.iv.take 12) j.aad (s.jobText j)).take d.tagLen
  else if d.op = 0x02 then (aesGcmTag (s.jobKey j 32) (d.iv.take 12) j.aad j.data).take d.tagLen
  else if d.op = 0x05 ∨ d.op = 0x06 then (aesCmac (s.jobKey j 32) j.data).take d.tagLen
  else if d.op = 0x07 ∨ d.op = 0x08 then (hmac384 (s.jobKey j 48) j.data).take d.tagLen
  else if d.op = 0x09 ∨ d.op = 0x0A then (hmac256 (s.jobKey j 32) j.data).take d.tagLen
  else if d.op = 0x0B then sha384 j.data
  else sha256 j.data

/-- A verifying operation: it compares a tag and writes none. -/
def Desc.verifies (d : Desc) : Bool := d.op = 0x02 || d.op = 0x06 || d.op = 0x08 || d.op = 0x0A

/-- The end of a job whose input is complete: its last accesses, the response to them that decides, its status and whether it has written
(R556, R559, R560). -/
def State.jobFinish (s : State) (j : Job) : State × Resp × U16 × Bool :=
  let d := j.desc
  let t := s.ringAttr j.ring
  let put (s : State) (b : List Byte) : State × Resp × U16 × Bool :=
    let w := s.dmaWrite t d.dst b
    (w.1, w.2, if w.2 = .ok then 0 else fabricStatus w.2, s.anyWritten t d.dst b)
  if d.isXts then (s, .ok, 0, j.wrote)
  else if d.op = 0x0F then put s (publicKeys (s.ks.signKey j.node))
  else if d.verifies then
    let r := s.dmaRead t d.tag d.tagLen
    if r.2.1 ≠ .ok then (r.1, r.2.1, fabricStatus r.2.1, j.wrote)
    else if r.2.2 ≠ s.jobTag j then (r.1, .ok, 0x0701, j.wrote)
    else if d.staged then put r.1 (s.jobText j)
    else (r.1, .ok, 0, j.wrote)
  else
    let w := s.dmaWrite t d.tag (s.jobTag j)
    (w.1, w.2, if w.2 = .ok then 0 else fabricStatus w.2, j.wrote)

/-- A job leaves the engine with its record (R559, R560). -/
def State.jobEnd (s : State) (j : Job) (st : U16) (wrote irq : Bool) : State :=
  (s.onCe (fun c => { c with jobs := c.jobs.filter (fun k => k.id ≠ j.id) })).jobRecord j.ring j.slot j.desc st j.data.length
    (st ≠ 0 && wrote) irq

/-- JOB_COMPLETE (R559, R560). -/
def execJobComplete (job : Nat) (s : State) : Out :=
  match s.job job with
  | none => .next s
  | some j =>
    if ¬ s.jobEngine then .next s
    else match j.fail with
      | some st => fin (s.jobEnd j st j.wrote true)
      | none =>
        if s.jobMayStart j ∧ j.desc.total ≤ j.input.length then
          let r := s.jobFinish j
          fin (if r.2.1 = .retry then s.dmaWait r.1 else r.1.jobEnd j r.2.2.1 r.2.2.2 true)
        else .next s

/-- RING_BUCKET_REFILL: each ring's bucket gains CR_BW.MBPS / 8 bytes, up to 65 536 (R558). -/
def execRingBucketRefill (s : State) : Out :=
  if ¬ s.jobEngine then .next s
  else fin (s.onCe (fun c => { c with rings := c.rings.map (fun e =>
    (e.1, { e.2 with bucket := min 524288 (e.2.bucket + e.2.mbps.toNat) })) }))

/-- The jobs of a ring end with a status, in ring order, and then its descriptors not yet fetched (R518, R521, R561). -/
def State.ringFlush (s : State) (r : Nat) (st : U16) (jobs irq : Bool) : State :=
  let s1 := if jobs then (s.ringJobs r).foldl (fun t j => t.jobEnd j st j.wrote irq) s else s
  let g := s.ring r
  let d := max 1 g.depth.toNat
  let s2 := (List.range ((g.sqTail.toNat + d - g.sqHead.toNat) % d)).foldl (fun t k =>
    let slot := (g.sqHead.toNat + k) % d
    let q := t.dmaRead (t.ringAttr r) (g.sqBase.toNat + slot * 64) 64
    if q.2.1 = .ok then q.1.jobRecord r slot (descAt q.2.2) st 0 false irq
    else (q.1.jobRecord r slot t.lostDesc st 0 false irq).onCore (fun c => { c with fresh := c.fresh + 1 })) s1
  s2.updRing r (fun g => { g with sqHead := g.sqTail })

end Sys2Proof.Machine
end

