-- ==== Sys2Proof/Machine/Blocks.lean ====
section
/-! DEFINITION. Power-controllable blocks: votes, the block power state machine, quiesce, and the transitions between RUN and
PARTIAL that use them (R93, R94, R152, R199 to R204, R276, R435, R647). -/

namespace Sys2Proof.Machine

open Sys2Proof

/-! ### Blocks -/

/-- The block IDs of R199. -/
def blockIds : List Nat :=
  [0x01] ++ (List.range 10).map (fun k => 0x08 + k) ++ (List.range 16).map (fun k => 0x20 + k)
    ++ (List.range 8).map (fun k => 0x30 + k) ++ (List.range 22).map (fun k => 0x40 + k)
    ++ (List.range 4).map (fun k => 0x58 + k) ++ [0x60, 0x61, 0x70]

/-- The block of a handle's engine, where it is one of R199. -/
def blockOf (typ index : Nat) : Option Nat :=
  if typ = 0x02 then some (0x20 + index / 128)
  else if typ = 0x03 then some (0x30 + index)
  else if typ = 0x06 then some 0x01
  else if typ = 0x09 then (if index < 26 then some (portBlock index) else none)
  else if typ = 0x0A then some 0x60
  else none

/-- Live handles of a world on a block. -/
def State.liveOn (s : State) (b : Nat) (sec : Bool) : Nat :=
  (s.mgmt.handles.tab.filter (fun e => e.2.sec = sec && !e.2.retiring && blockOf (e.1 / 4096) (e.1 % 4096) = some b)).length

/-- Keep-votes of a block: the explicit ones and one for each live secure handle (R200). -/
def State.votesOf (s : State) (b : Nat) : Nat := (s.block b).votes + s.liveOn b true

/-- The rail of a block goes off: its engine is reset, and what it held in flight ends (R93, R201); of the blocks only the Pass link keeps
transactions that it has accepted and not answered, and they receive QERR. Configuration that Amind holds is given back when the block
wakes. -/
def State.blockReset (s : State) (b : Nat) : State :=
  if b = 0x01 then (s.onCe (fun c => { c with jobs := [] })).onKs (fun k => { k with engine := [] })
  else if 0x08 ≤ b ∧ b ≤ 0x11 then s.updMacsec (b - 0x08) (fun m => { m with tx := [], rx := [], txValid := false })
  else if 0x20 ≤ b ∧ b ≤ 0x2F then (s.canOffBus (b - 0x20)).canGoto (b - 0x20) .stopped
  else if 0x30 ≤ b ∧ b ≤ 0x37 then s.updLin (b - 0x30) (fun l => { l with st := .stopped, header := none, begun := false })
  else if 0x40 ≤ b ∧ b ≤ 0x55 then (if (s.ethPort (b - 0x40)).link then s.linkDown (b - 0x40) else s)
  else if 0x58 ≤ b ∧ b ≤ 0x5B then (if (s.ethPort (b - 0x42)).link then s.linkDown (b - 0x42) else s)
  else if b = 0x60 then (s.pass.trackers.foldl (fun t r => t.trackerEnd r .qerr) s).linkLost
  else if b = 0x70 then
    ((List.range 7).foldl (fun t k => t.updPair (k + 1) (fun p => { p with st := .off })) s).onCore (fun c =>
      { c with clusters := Tab.upd c.clusters 1 {} (fun k => { k with poison := [] }) })
  else s

/-- A woken block runs under its configuration. -/
def State.blockRuns (s : State) (b : Nat) : State :=
  if 0x20 ≤ b ∧ b ≤ 0x2F then
    (if (s.can (b - 0x20)).cfg.en then s.canApply (b - 0x20) (s.can (b - 0x20)).cfg else s)
  else if 0x30 ≤ b ∧ b ≤ 0x37 then s.updLin (b - 0x30) (fun l => { l with st := if l.en then .active else .stopped })
  else if b = 0x60 then (if s.pass.paired then s.setLink .training else s)
  else s

/-- The rail of a quiescing block is off (R203): the block wakes at once for an on request or a keep-vote placed meanwhile, released or
not, whose voter waits for the ready notice (R647); otherwise its off requests are fulfilled. Block 0x70 counts votes and follows the
mode alone (R199). -/
def State.blockRailOff (s : State) (b : Nat) : State :=
  let s1 := s.blockReset b
  let u := s1.block b
  if b ≠ 0x70 ∧ (u.wakeAfter ∨ u.voteReq ≠ [] ∨ 0 < s1.votesOf b) then s1.updBlock b (fun x => { x with st := .waking, wakeAfter := false })
  else (s1.updBlock b (fun x => { x with st := .off, offHeld := false, offReq := [] })).completeAll u.offReq .ok []

/-- A block begins to quiesce (R93). -/
def State.blockQuiesce (s : State) (b : Nat) : State := s.updBlock b (fun x => { x with st := .quiescing, wakeAfter := false })

/-- A waking block reports ready: every waiter is told, and a held off request takes its course (R94, R203). -/
def State.blockWakes (s : State) (b : Nat) : State :=
  let u := s.block b
  let s1 := s.updBlock b (fun x => { x with st := if x.offHeld then .deferred else .on, onReq := [], voteReq := [] })
  let s2 := ((s1.blockRuns b).completeAll u.onReq .ok []).completeAll u.voteReq .ok []
  if u.offHeld ∧ s2.votesOf b = 0 then s2.blockQuiesce b else s2

/-! ### RUN and PARTIAL -/

/-- The blocks that PARTIAL keeps on, and no others: the cipher engine, the Pass link, listed channels and ports, and the MACsec unit of a
listed port (R28, R435). -/
def StoredCfg.keepsBlock (g : StoredCfg) (b : Nat) : Bool :=
  b = 0x01 || b = 0x60
    || (0x08 ≤ b && b ≤ 0x11 && g.keepPorts.getLsbD (b - 0x08))
    || (0x20 ≤ b && b ≤ 0x2F && g.keepCan.getLsbD (b - 0x20))
    || (0x30 ≤ b && b ≤ 0x37 && g.keepLin.getLsbD (b - 0x30))
    || (0x40 ≤ b && b ≤ 0x55 && g.keepPorts.getLsbD (b - 0x40))
    || (0x58 ≤ b && b ≤ 0x5B && g.keepPorts.getLsbD (b - 0x42))

/-- Blocks that the transition to PARTIAL powers off, P1 to P7 among them (R204, R435). -/
def State.partialOff (s : State) : List Nat := blockIds.filter (fun b => !s.mgmt.stored.keepsBlock b)

/-- The transition to PARTIAL begins to quiesce (R93, R204). A waking block quiesces once it is ready. -/
def State.partialBegin (s : State) : State :=
  let s1 := s.partialOff.foldl (fun t b => match (t.block b).st with
    | .on => t.blockQuiesce b
    | .deferred => t.blockQuiesce b
    | .quiescing => t
    | .off => t
    | .waking => t.updBlock b (fun x => { x with offHeld := true })) s
  s1.onCore (fun c => { c with toPartial := c.toPartial.map (fun r => { r with deferred := false }) })

/-- A vote on a block has ended: a deferred off request quiesces, and a deferred transition to PARTIAL begins when no vote is
left on what it powers off (R203, R204). -/
def State.voteEnded (s : State) (b : Nat) : State :=
  let s1 := if (s.block b).st = .deferred ∧ s.votesOf b = 0 then s.blockQuiesce b else s
  match s1.core.toPartial with
  | some r => if r.deferred ∧ s1.partialOff.all (fun k => decide (s1.votesOf k = 0)) then s1.partialBegin else s1
  | none => s1

/-- The vote that a handle counted ends with it (R200). -/
def State.handleVote (s : State) (typ index : Nat) : State :=
  match blockOf typ index with
  | some b => s.voteEnded b
  | none => s

/-- A port that PARTIAL does not list enters TC10 sleep where TC10 is enabled, without a wait for its link partner; a MASTER port sends its
sleep request, and a FOLLOWER port never sends one (R418, R435; DESIGN CHOICE, log entry 82). -/
def State.portSleep (s : State) (p : Nat) : State :=
  if (s.ethPort p).tc10 ∧ (s.ethPort p).link then
    ((s.linkDown p).updEthPort p (fun e => { e with lowPower := true })).onSleep (fun x => { x with
      sleepsSent := if s.mgmt.stored.sleepMaster.getLsbD p then x.sleepsSent + 1 else x.sleepsSent })
  else s

/-- The blocks outside the partial-operation configuration are off: the rail of each one that still quiesces goes off as R203 gives, so
that one with a keep-vote wakes again; one that still wakes takes its own course (R203, R435). -/
def State.partialOffAll (s : State) : State :=
  let s0 := ((List.range 22).filter (fun p => !s.mgmt.stored.keepPorts.getLsbD p)).foldl State.portSleep s
  s0.partialOff.foldl (fun t b => match (t.block b).st with
    | .off => t
    | .waking => t
    | .on => t.blockRailOff b
    | .deferred => t.blockRailOff b
    | .quiescing => t.blockRailOff b) s0

/-- The mode becomes PARTIAL: loads, sensor supplies, the gateway and the Pass link follow (R403, R435, R436, R501, R573). -/
def State.enterPartial (s : State) : State :=
  let s1 := s.partialOffAll
  let s2 := (s1.onAon (fun a => { a with mode := .part })).onGw (fun g => { g with en := g.en && s.mgmt.stored.keepGw })
  let s3 := if s2.linkFull then (s2.onPass (fun p => { p with reduced := true })).passLeave
    else s2.onPass (fun p => { p with reduced := true })
  (s1.loadAll s3).sensStep

/-- The transition from PARTIAL to RUN begins: P1 to P7 and the blocks that no power request switched off are powered and reset,
and the comparators of P1 to P7 tested (R76, R156, R174, R199). -/
def State.runBegin (s : State) (waiters : List (Nat × U16)) : State :=
  let s1 := s.partialOff.foldl (fun t b =>
    if (t.block b).st = .off ∧ ¬ (t.block b).byReq then t.updBlock b (fun x => { x with st := .waking }) else t) s
  let s2 := (List.range 7).foldl (fun t k => t.updPair (k + 1) (fun p => { p with st := .selftest, split := false })) s1
  s2.onCore (fun c => { c with toRun := some (((c.toRun).getD []) ++ waiters) })

/-- MODE_PARTIAL_ENTERED: the blocks outside the partial configuration are off; a RUN request that came meanwhile follows
(R204). -/
def execModePartialEntered (s : State) : Out :=
  match s.core.toPartial with
  | none => .next s
  | some r =>
    if r.deferred ∨ s.aon.mode ≠ .run then .next s
    else
      let s1 := (s.enterPartial.onCore (fun c => { c with toPartial := none })).completeAll r.waiters .ok []
      fin (if r.runAfter.isEmpty then s1 else s1.runBegin r.runAfter)

/-! ### Events of the block power state machine -/

/-- BLOCK_QUIESCE_IDLE: the block is reset and its rail goes off (R93). -/
def execBlockQuiesceIdle (block : Nat) (s : State) : Out :=
  if ¬ blockIds.contains block then noUnit
  else if (s.block block).st = .quiescing then fin (s.blockRailOff block) else .next s

/-- A dirty line of K1's L2 is lost: its bytes read as their older content, which the model does not keep, free values (R152). -/
def State.lineLost (s : State) (line : Nat) : State :=
  (s.setMem (line * 64) ((List.range 64).map (fun i => Config.lostByte s.core.fresh (line * 64 + i)))).onCore (fun c =>
    { c with fresh := c.fresh + 1 })

/-- QUIESCE_TIMEOUT: the block is reset although it is not idle; the lines of K1's L2 that are still dirty, which the operand names, are
lost and recorded (R93, R152). -/
def execQuiesceTimeout (cut : QuiesceCut) (s : State) : Out :=
  let block := cut.block
  let dirty := cut.dirty
  if ¬ blockIds.contains block then noUnit
  else if (s.block block).st = .quiescing then
    let s1 := if block = 0x70 ∧ dirty ≠ [] then (dirty.foldl State.lineLost s).log .l2FlushCut (leBytes 4 dirty.length) else s
    fin (s1.blockRailOff block)
  else .next s

/-- BLOCK_READY (R94, R203). -/
def execBlockReady (block : Nat) (s : State) : Out :=
  if ¬ blockIds.contains block then noUnit
  else if (s.block block).st = .waking then fin (s.blockWakes block) else .next s

/-- BLOCK_READY_TIMEOUT: ENGINE_WEDGED with the block, and the pulse (R94). -/
def execBlockReadyTimeout (block : Nat) (s : State) : Out :=
  if ¬ blockIds.contains block then noUnit
  else if (s.block block).st = .waking then
    fin ((s.log .engineWedged [BitVec.ofNat 8 block, 0]).amindPulse .wedged 1 0xFF)
  else .next s

/-! ### BLOCK_POWER, KEEP_VOTE, KEEP_RELEASE, BLOCK_STATUS -/

/-- BLOCK_POWER, 0x0610. -/
def specBlockPower : CmdSpec := { op := 0x0610, who := [.mgr] }

/-- A block ID, and for BLOCK_POWER a state. -/
def okBlockPower (p : List Byte) : Bool := p.length = 2 && blockIds.contains (u8At p 0) && u8At p 0 ≠ 0x70 && u8At p 1 ≤ 1

/-- PENDING with a reason. -/
def wait (s : State) (reason : Byte) : State × Ans := (s, { st := .pending, reason := reason })

/-- Reason 1 while a keep-vote is held, reason 0 otherwise (R202). -/
def State.voteReason (s : State) (b : Nat) : Byte := if 0 < s.votesOf b then 1 else 0

/-- An off request (R201, R203). -/
def State.blockOffReq (s : State) (b : Nat) (w : Nat × U16) : State × Ans :=
  let u := s.block b
  let add (x : Block) : Block := { x with offReq := x.offReq ++ [w], byReq := true }
  if u.st ≠ .off ∧ 0 < s.liveOn b false then no s .busy
  else match u.st with
    | .off => yes s
    | .on =>
      if 0 < s.votesOf b then wait (s.updBlock b (fun x => { add x with st := .deferred, offHeld := true })) 1
      else wait ((s.updBlock b (fun x => { add x with offHeld := true })).blockQuiesce b) 0
    | .deferred => wait (s.updBlock b add) 1
    | .quiescing =>
      if u.offHeld then wait (s.updBlock b add) (s.voteReason b)
      else wait ((s.updBlock b (fun x => { add x with offHeld := true, onReq := [], wakeAfter := false })).completeAll u.onReq .ok [])
        (s.voteReason b)
    | .waking => wait (s.updBlock b (fun x => { add x with offHeld := true })) (s.voteReason b)

/-- An on request (R203). -/
def State.blockOnReq (s : State) (b : Nat) (w : Nat × U16) : State × Ans :=
  let u := s.block b
  let free (x : Block) : Block := { x with offHeld := false, offReq := [], byReq := false }
  let close (t : State) : State := t.completeAll u.offReq .ok []
  match u.st with
  | .on => yes (s.updBlock b (fun x => { x with byReq := false }))
  | .deferred => yes (close (s.updBlock b (fun x => { free x with st := .on })))
  | .quiescing => wait (close (s.updBlock b (fun x => { free x with wakeAfter := true, onReq := x.onReq ++ [w] }))) 0
  | .off => wait (s.updBlock b (fun x => { free x with st := .waking, onReq := [w] })) 0
  | .waking => wait (close (s.updBlock b (fun x => { free x with onReq := x.onReq ++ [w] }))) 0

/-- BLOCK_POWER (R203). -/
def execBlockPower (rq : Request) (s : State) : Out :=
  serve specBlockPower rq s okBlockPower (fun s =>
    let w := (rq.route.key, rq.seq)
    if u8At rq.payload 1 = 0 then s.blockOffReq (u8At rq.payload 0) w else s.blockOnReq (u8At rq.payload 0) w)

/-- KEEP_VOTE, 0x0611. -/
def specKeepVote : CmdSpec := { op := 0x0611, who := [.sec] }

/-- The payload of one block ID (R276). -/
def okBlock (p : List Byte) : Bool := p.length = 1 && blockIds.contains (u8At p 0)

/-- A keep-vote (R203); block 0x70 only counts its votes, since mode changes alone switch it (R199). -/
def ownKeepVote (rq : Request) (s : State) : State × Ans :=
  let b := u8At rq.payload 0
  let vote (x : Block) : Block := { x with votes := x.votes + 1 }
  let later (x : Block) : Block := { vote x with voteReq := x.voteReq ++ [(rq.route.key, rq.seq)] }
  if 255 ≤ (s.block b).votes then no s .noResource
  else if b = 0x70 then yes (s.updBlock b vote)
  else match (s.block b).st with
    | .on => yes (s.updBlock b vote)
    | .deferred => yes (s.updBlock b vote)
    | .quiescing => wait (s.updBlock b later) 0
    | .off => wait (s.updBlock b (fun x => { later x with st := .waking, offHeld := true })) 0
    | .waking => wait (s.updBlock b later) 0

/-- KEEP_VOTE (R200, R203). -/
def execKeepVote (rq : Request) (s : State) : Out := serve specKeepVote rq s okBlock (ownKeepVote rq)

/-- KEEP_RELEASE, 0x0612. -/
def specKeepRelease : CmdSpec := { op := 0x0612, who := [.sec] }

/-- KEEP_RELEASE (R203, R276). -/
def execKeepRelease (rq : Request) (s : State) : Out :=
  serve specKeepRelease rq s okBlock (fun s =>
    let b := u8At rq.payload 0
    if (s.block b).votes = 0 then no s .badParam
    else yes ((s.updBlock b (fun x => { x with votes := x.votes - 1 })).voteEnded b))

/-- BLOCK_STATUS, 0x0613. -/
def specBlockStatus : CmdSpec := { op := 0x0613, who := [.mgr, .sec] }

/-- The code of a block state (R276). -/
def BlkState.code : BlkState → Nat
  | .on => 0
  | .deferred => 1
  | .quiescing => 2
  | .off => 3
  | .waking => 4

/-- The answer of BLOCK_STATUS: block 0x70 reports ON while P1 to P7 are powered, and no held request (R276). -/
def State.blockInfo (s : State) (b : Nat) : List Byte :=
  let u := s.block b
  if b = 0x70 then [if u.st = .off then 3 else 0, BitVec.ofNat 8 (min 255 (s.votesOf b)), 0, 0]
  else [BitVec.ofNat 8 u.st.code, BitVec.ofNat 8 (min 255 (s.votesOf b)), if u.offHeld then 1 else 0, 0]

/-- BLOCK_STATUS (R202, R276). -/
def execBlockStatus (rq : Request) (s : State) : Out :=
  serve specBlockStatus rq s okBlock (fun s => yesWith s (s.blockInfo (u8At rq.payload 0)))

end Sys2Proof.Machine
end

