-- ==== Sys2Proof/Machine/SwitchCmds.lean ====
section
/-! DEFINITION. The switch and Ethernet commands of group 0x03xx but MACSEC_SA_SET (R264 to R266, R304, R342). -/

namespace Sys2Proof.Machine

open Sys2Proof

/-- A number is a power of two between bounds. -/
def pow2In (lo hi n : Nat) : Bool := (List.range 17).any (fun k => decide (n = 2 ^ k)) && lo ≤ n && n ≤ hi

/-! ### QUEUE_PAIR_CREATE -/

/-- QUEUE_PAIR_CREATE, 0x0301. -/
def specQueuePairCreate : CmdSpec := { op := 0x0301, who := [.mgr, .gst] }

/-- The payload of QUEUE_PAIR_CREATE (R265). -/
def State.okQueuePair (s : State) (owner : Nat) (p : List Byte) : Bool :=
  p.length = 12 && (u8At p 0 = 26 || u8At p 0 = 27) && u8At p 1 < 8 && pow2In 64 4096 (u16At p 2) && u32At p 4 ≤ 524288
    && s.bindOk (bindAt p 8) owner false 0

/-- Frames that a former pair of this index still has in the market stay charged to its account alone (R289, R314). -/
def State.qpForget (s : State) (q : Nat) : State :=
  s.onSw (fun w => { w with frames := w.frames.map (fun f => if f.chargedQp = some q then { f with chargedQp := none } else f) })

/-- A new queue pair (R310, R311, R314, R327). -/
def ownQueuePairCreate (rq : Request) (s : State) : State × Ans :=
  let p := rq.payload
  let sel := u8At p 0 - 26
  let own := s.issuerInst rq.route
  let fk := if sel = 0 then 0x01 else 0x101
  if s.fnOff own 0x01 sel then no s .fnDisabled
  else match s.firstFree fk 64 with
    | none => no s .noResource
    | some i =>
      if ¬ s.roomFor 0x01 sel own false 1 0 then no s .noResource
      else
        let q := sel * 64 + i
        let s1 := (((s.takeFree fk 64).hCreate 0x01 q own false (bindAt p 8) (sel, 1, 0)).qpForget q).updQp q (fun _ =>
          { depth := BitVec.ofNat 16 (u16At p 2), maxClass := BitVec.ofNat 3 (u8At p 1), enabled := true,
            mac := Config.macBase + BitVec.ofNat 48 q, cap := BitVec.ofNat 20 (u32At p 4) })
        (s1, { handle := some (mkHandle 0x01 own (s.genOf 0x01 q) q), payload := leBytes 8 (0x11C00000 + q * 0x1000) })

/-- QUEUE_PAIR_CREATE (R310). -/
def execQueuePairCreate (rq : Request) (s : State) : Out :=
  serve specQueuePairCreate rq s (s.okQueuePair (s.issuerInst rq.route)) (ownQueuePairCreate rq)

/-! ### FLOW_CREATE -/

/-- FLOW_CREATE, 0x0302. -/
def specFlowCreate : CmdSpec := { op := 0x0302, who := [.mgr] }

/-- A FRER stream of an ID is defined (R352). -/
def State.streamDefined (s : State) (id : Nat) : Bool := id = 0 || s.eth.frers.any (fun r => r.2.stream.toNat = id)

/-- The payload of FLOW_CREATE (R265, R350, R352). -/
def State.okFlow (s : State) (p : List Byte) : Bool :=
  p.length = 28 && u8At p 0 < 30 && u8At p 1 < 8 && u16At p 2 < 4096 && u8At p 10 < 8
    && (u8At p 11 < 8 || u8At p 11 = 0xFF) && u32At p 12 < 0x40000000 && s.streamDefined (u32At p 16)
    && (u32At p 20 = 0 || (u32At p 20 ≤ 10000000 && 64 ≤ u32At p 24 && u32At p 24 ≤ 1048576))

/-- The lowest policer that neither the stored configuration nor a flow holds (R350). -/
def State.freePolicer (s : State) : Option Nat := (List.range 4096).find? (fun n => !s.eth.polUsed.contains n)

/-- A policer takes its rate and burst, with a full bucket (DESIGN CHOICE, log entry 27). -/
def State.setPolicer (s : State) (n rate burst : Nat) : State :=
  s.onEth (fun e => { e with
    polUsed := n :: e.polUsed
    policers := Tab.put e.policers n { rate := BitVec.ofNat 32 rate, burst := BitVec.ofNat 32 burst, tokens := burst * 8000 } })

/-- A new flow entry (R302, R304, R350). -/
def ownFlowCreate (rq : Request) (s : State) : State × Ans :=
  let p := rq.payload
  let mat := BitVec.ofNat 3 (u8At p 1)
  let key := flowBucket (u8At p 0) mat (u16At p 2) (beAt p 4 6) (u8At p 10) * 4
  let pol := if u32At p 20 = 0 then some 0xFFFF else s.freePolicer
  if (s.sw.probe mat (u8At p 0) (u16At p 2) (beAt p 4 6) (u8At p 10)).isSome then no s .busy
  else
    match [key, key + 1, key + 2, key + 3].find? (fun e => !(Tab.get s.sw.flows e {}).valid), s.firstFree 0x08 4096, pol with
    | some e, some i, some n =>
      if ¬ s.handleRoom then no s .noResource
      else
        let s1 := (s.takeFree 0x08 4096).hCreate 0x08 i 0 false {} (0, 0, 0)
        let s2 := if n = 0xFFFF then s1 else s1.setPolicer n (u32At p 20) (u32At p 24)
        let f : Flow := {
          valid := true, mat := mat, ingress := BitVec.ofNat 5 (u8At p 0),
          eclass := if u8At p 11 = 0xFF then 15 else BitVec.ofNat 4 (u8At p 11),
          slot := BitVec.ofNat 12 i, vlan := BitVec.ofNat 12 (u16At p 2), pcp := BitVec.ofNat 3 (u8At p 10),
          dmac := BitVec.ofNat 48 (beAt p 4 6), egress := BitVec.ofNat 30 (u32At p 12),
          stream := BitVec.ofNat 32 (u32At p 16), policer := BitVec.ofNat 16 n }
        (s2.onSw (fun w => { w with flows := Tab.put w.flows e f }), { handle := some (mkHandle 0x08 0 (s.genOf 0x08 i) i) })
    | _, _, _ => no s .noResource

/-- FLOW_CREATE (R304). -/
def execFlowCreate (rq : Request) (s : State) : Out := serve specFlowCreate rq s s.okFlow (ownFlowCreate rq)

/-- The table entry of a flow slot leaves the table, and its policer is free (R304). -/
def State.dropFlow (s : State) (slot : Nat) : State :=
  match s.sw.flows.find? (fun e => e.2.valid && !e.2.stored && e.2.slot.toNat = slot) with
  | none => s
  | some e =>
    let n := e.2.policer.toNat
    (s.onSw (fun w => { w with flows := Tab.drop w.flows e.1 })).onEth (fun x =>
      if n = 0xFFFF then x else { x with polUsed := x.polUsed.filter (fun k => k ≠ n), policers := Tab.drop x.policers n })

/-! ### GATE_LIST_SET -/

/-- GATE_LIST_SET, 0x0303. Its header handle is 0 or the gate list to replace. -/
def specGateListSet : CmdSpec := { op := 0x0303, who := [.mgr] }

/-- The gate list of a payload (R265). -/
def gateListAt (p : List Byte) : GateList :=
  { base := BitVec.ofNat 64 (u64At p 4), cycle := BitVec.ofNat 32 (u32At p 12),
    entries := (List.range (u8At p 1)).map (fun i =>
      { interval := BitVec.ofNat 32 (u32At p (20 + i * 8)), gates := BitVec.ofNat 8 (u8At p (24 + i * 8)),
        op := BitVec.ofNat 2 (u8At p (25 + i * 8)) }) }

/-- The conditions of R341 on a list and of R266 on its operations. -/
def GateList.ok (g : GateList) (port : Nat) : Bool :=
  1 ≤ g.entries.length && g.entries.length ≤ 250
    && g.entries.all (fun e => 32 ≤ e.interval.toNat && e.interval.toNat ≤ 1000000000 && e.interval.toNat % 8 = 0
      && (e.op = 0 || (e.op.toNat ≤ 2 && preemptPort port)))
    && 1000 ≤ g.cycle.toNat && g.cycle.toNat ≤ 1000000000 && g.cycle.toNat % 8 = 0
    && (g.entries.map (fun e => e.interval.toNat)).sum ≤ g.cycle.toNat

/-- The payload of GATE_LIST_SET. -/
def okGateList (p : List Byte) : Bool :=
  p.length = 20 + 8 * u8At p 1 && u8At p 0 < 30 && u16At p 2 = 0 && u32At p 16 = 0
    && (List.range (u8At p 1)).all (fun i => u16At p (26 + i * 8) = 0 && u8At p (25 + i * 8) ≤ 2)
    && (gateListAt p).ok (u8At p 0)

/-- The change time of a list loaded at T (R342). -/
def GateList.changeAt (g : GateList) (t : Nat) : Nat :=
  let need := t + 100000
  let b := g.base.toNat
  if need ≤ b then b else b + (need - b + g.cycle.toNat - 1) / g.cycle.toNat * g.cycle.toNat

/-- A list is loaded and waits for its change time (R342, R343). -/
def State.loadGate (s : State) (p : Nat) (g : GateList) : State :=
  s.updGate p (fun u => { u with pend := some g, changeTime := BitVec.ofNat 64 (g.changeAt s.tb.globalT.toNat) })

/-- A port holds a gate list, or a handle for one. -/
def State.hasGate (s : State) (p : Nat) : Bool :=
  (s.gate p).oper.isSome || (s.gate p).pend.isSome || (s.hFind 0x09 p).isSome

/-- A new or replacing gate list (R341 to R343). -/
def ownGateListSet (rq : Request) (s : State) : State × Ans :=
  let p := rq.payload
  let port := u8At p 0
  if rq.handle = 0 then
    if s.hasGate port ∨ ¬ s.handleRoom ∨ s.blockIsOff (portBlock port) then no s .noResource
    else
      let g := s.genOf 0x09 port
      ((s.hCreate 0x09 port 0 false {} (0, 0, 0)).loadGate port (gateListAt p), { handle := some (mkHandle 0x09 0 g port) })
  else match s.checkHandle rq.route rq.handle [0x09] true false with
    | .ok => if hIndex rq.handle = port then yes (s.loadGate port (gateListAt p)) else no s .badParam
    | e => no s e

/-- GATE_LIST_SET (R342). -/
def execGateListSet (rq : Request) (s : State) : Out := serve specGateListSet rq s okGateList (ownGateListSet rq)

/-! ### PORT_CONFIG, PORT_STATS, MARKET_STATUS -/

/-- PORT_CONFIG, 0x0304. -/
def specPortConfig : CmdSpec := { op := 0x0304, who := [.mgr], st := true }

/-- The payload of PORT_CONFIG (R265, R266, R296, R298, R335). -/
def State.okPortConfig (s : State) (p : List Byte) : Bool :=
  let port := u8At p 0
  let o := u8At p 2
  p.length = 10 && port < 30 && u8At p 1 ≤ 1 && o < 32 && u8At p 3 = 0
    && !(o.testBit 0 && o.testBit 1) && (port < 22 || !(o.testBit 0 || o.testBit 1))
    && (preemptPort port || !o.testBit 2)
    && ((port < 2 && (s.sw.lagOf port).isNone) || !o.testBit 3) && (port < 22 || !o.testBit 4)
    && (u16At p 4 = 0 || u16At p 6 < u16At p 4) && 64 ≤ u16At p 8 && u16At p 8 ≤ 9216

/-- PORT_CONFIG without option bit 4 disarms the port's wake source, in a configuration held back by its quarantine too (R275, R428). -/
def State.wakeDisarm (s : State) (port : Nat) : State :=
  if 22 ≤ port then s
  else s.updWake (24 + port) (fun c => { c with arm := false, held := c.held.map (fun h => (false, h.2)) })

/-- A port's enable, options, watermarks and maximum frame. With SVC_SEL open E21 carries service traffic alone, and so stays disabled as a
port of the switch, and takes no part in TC10 (R47, R360). -/
def ownPortConfig (rq : Request) (s : State) : State × Ans :=
  let p := rq.payload
  let port := u8At p 0
  let o := u8At p 2
  let s0 := if o.testBit 4 then s else s.wakeDisarm port
  yes ((((s0.updSwPort port (fun u => { u with
      en := u8At p 1 = 1 && !(port = 21 && s.supply.straps.svcOpen), high := BitVec.ofNat 16 (u16At p 4), low := BitVec.ofNat 16 (u16At p 6) })).updEthPort port (fun e => { e with
      pause := o.testBit 0, pfc := o.testBit 1, preempt := o.testBit 2, frer := o.testBit 3
      tc10 := o.testBit 4 && !(port = 21 && s.supply.straps.svcOpen)
      maxFrame := BitVec.ofNat 14 (u16At p 8)
      paused := e.paused && o.testBit 0, pfcPaused := if o.testBit 1 then e.pfcPaused else 0
      verify := if o.testBit 2 then e.verify else 0 })).flowControl port).ptpFlush port)

/-- PORT_CONFIG (R265). -/
def execPortConfig (rq : Request) (s : State) : Out := serve specPortConfig rq s s.okPortConfig (ownPortConfig rq)

/-- PORT_STATS, 0x0305. -/
def specPortStats : CmdSpec := { op := 0x0305, who := [.mgr], st := true }

/-- The flushes of a port's group (R300). -/
def State.flushes (s : State) (p : Nat) : Nat :=
  match s.sw.lagOf p with
  | none => 0
  | some g => (Tab.get s.sw.lags g {}).flush.toNat

/-- The counters of PORT_STATS (R265, R326, R366). -/
def State.portStats (s : State) (p : Nat) : List Byte :=
  let e := (s.ethPort p).cnt
  let c := (s.swPort p).cnt
  let m := (s.macsec p).cnt
  let ms := if p < 10 then m.noSa + m.auth + m.replay + m.untagged + m.rxRevoked + m.txDrop + m.txRevoked else 0
  let egress := c.residue + c.pushed + c.qp + BitVec.ofNat 64 (s.flushes p)
  ([e.rxFrames, e.rxBytes, e.txFrames, e.txBytes, e.fcsErr, c.police + c.classify + c.refuse, egress, ms].map
    (fun x : U64 => leBytes 8 x.toNat)).flatten

/-- PORT_STATS (R366). -/
def execPortStats (rq : Request) (s : State) : Out :=
  serve specPortStats rq s (fun p => p.length = 1 && u8At p 0 < 30) (fun s => yesWith s (s.portStats (u8At rq.payload 0)))

/-- MARKET_STATUS, 0x0307. -/
def specMarketStatus : CmdSpec := { op := 0x0307, who := [.mgr] }

/-- The four fields of an account. -/
def State.marketStatus (s : State) (n : Nat) : List Byte :=
  let a : Acct := Tab.get s.sw.accts n {}
  leBytes 4 (s.acctShare n) ++ leBytes 4 a.used ++ leBytes 4 a.refused.toNat ++ leBytes 4 a.pushout.toNat

/-- MARKET_STATUS (R289). -/
def execMarketStatus (rq : Request) (s : State) : Out :=
  serve specMarketStatus rq s (fun p => p.length = 1 && u8At p 0 < 64) (fun s => yesWith s (s.marketStatus (u8At rq.payload 0)))

end Sys2Proof.Machine
end

