-- ==== Sys2Proof/Machine/Handles.lean ====
section
/-! DEFINITION. Handle life and the handle commands; outcomes and results of commands (R235 to R237, R259 to R261, R345, R541, R543,
R593). -/

namespace Sys2Proof.Machine

open Sys2Proof

/-- Handles of an owner in the normal world, of one type, as indices: LIVE and RETIRING (R198). -/
def State.handlesOf (s : State) (owner typ : Nat) : List Nat :=
  (s.mgmt.handles.tab.filter (fun e => e.1 / 4096 = typ && e.2.owner = owner && !e.2.sec)).map (fun e => e.1 % 4096)

/-- An engine is declared wedged: the entry, then the pulse on RST_REQ_N (R95). -/
def State.wedged (s : State) (unit kind : Nat) : State :=
  (s.log .engineWedged [BitVec.ofNat 8 unit, BitVec.ofNat 8 kind]).amindPulse .wedged 1 0xFF

/-- A queue pair's context: ring bases, indices, the receive list with its frames, QP_CFG.RUN (R318). -/
def State.qpClear (s : State) (q : Nat) : State :=
  (((s.qp q).rxList).foldl (fun t i => t.rxPop q i) s).updQp q (fun u => { u with
    txBase := 0, rxBase := 0, txTail := 0, txHead := 0, rxTail := 0, rxHead := 0, rxList := [], run := false, stopped := false
    txBusy := false, rxBusy := false, rxAt := 0, txSkip := 0, rxSkip := 0 })

/-- Open transactions of a window end (R593). -/
def State.winFree (s : State) (w : Nat) : State :=
  let u := s.win w
  let mine (a : A40) : Bool := u.loc.toNat ≤ a.toNat && a.toNat < u.loc.toNat + u.size.toNat
  let s1 := s.onPass (fun p => { p with slots := p.slots.filter (fun r => !mine r.x.addr) })
  (s1.pass.trackers.filter (fun r => mine r.x.addr)).foldl (fun t r => t.trackerEnd r .aerr) s1

/-- Work of a handle is in flight in its engine. -/
def State.handleBusy (s : State) (typ index : Nat) : Bool :=
  if typ = 0x01 then s.qpBusy index
  else if typ = 0x02 then
    (match (s.can (index / 128)).tx with
     | some m => index % 128 ≤ m && m < index % 128 + (Tab.get s.bus.sets index {}).count
     | none => false)
  else if typ = 0x03 then (s.lin index).header.isSome
  else if typ = 0x06 then !(s.ringJobs index).isEmpty
  else if typ = 0x0A then
    let u := s.win index
    let mine (a : A40) : Bool := u.loc.toNat ≤ a.toNat && a.toNat < u.loc.toNat + u.size.toNat
    s.pass.slots.any (fun r => mine r.x.addr) || s.pass.trackers.any (fun r => mine r.x.addr)
  else false

/-- The engines stop taking new work of a handle that retires, and the function it controls stops (R237, R261). -/
def State.handleStop (s : State) (typ index : Nat) : State :=
  if typ = 0x01 then s.updQp index (fun u => { u with stopped := true })
  else if typ = 0x02 then s.setStop index true
  else if typ = 0x03 then s.linHalt index true
  else if typ = 0x06 then s.updRing index (fun g => { g with stopped := true })
  else if typ = 0x09 then s.openGates index
  else if typ = 0x0A then s.updWin index (fun u => { u with stopped := true })
  else if typ = 0x0B then s.updTimer index (fun c => { c with arm := false })
  else s

/-- The engines clear their contexts of a handle (R237, R304, R318, R345, R391, R416, R455, R506, R593). -/
def State.handleClear (s : State) (typ index : Nat) : State :=
  if typ = 0x01 then (s.qpClear index).updQp index (fun u => { used := u.used })
  else if typ = 0x02 then s.setDrop index
  else if typ = 0x03 then
    (s.linClear index).updLin index (fun l => { l with en := false, halted := false, st := .stopped })
  else if typ = 0x04 then s.groupDrop index
  else if typ = 0x05 then s.inGroupDrop index
  else if typ = 0x06 then
    s.onCe (fun c => { c with rings := Tab.drop c.rings index, jobs := c.jobs.filter (fun j => j.ring ≠ index) })
  else if typ = 0x08 then s.dropFlow index
  else if typ = 0x0A then ((s.endClear index).winFree index).onPass (fun p => { p with wins := Tab.drop p.wins index })
  else if typ = 0x0B then { s with timers := Tab.drop s.timers index }
  else if typ = 0x0C then s.onMgmt (fun m => { m with readers := Tab.drop m.readers index })
  else s

/-- A handle becomes FREE, its contexts cleared; a key node handle's end lets invalidated subtrees be reclaimed (R237, R543). -/
def State.handleFree (s : State) (typ index : Nat) : State :=
  let s1 := ((s.handleClear typ index).hFree typ index).handleVote typ index
  if typ = 0x07 ∧ s1.ksReady then s1.reclaim else s1

/-- An engine holds a context of a handle: something of what R318, R394, R416, R506, R522, R561 and R593 name as the handle's cleared
context is there, or its work is in flight (R237; DEDUCED, log entry 43). -/
def State.holdsContext (s : State) (typ index : Nat) : Bool :=
  s.handleBusy typ index ||
    (if typ = 0x01 then
      let u := s.qp index
      u.txBase ≠ 0 || u.rxBase ≠ 0 || u.txTail ≠ 0 || u.txHead ≠ 0 || u.rxTail ≠ 0 || u.rxHead ≠ 0 || !u.rxList.isEmpty || u.run
    else if typ = 0x02 then
      (s.can (index / 128)).objs.any (fun e =>
        index % 128 ≤ e.1 && e.1 < index % 128 + (Tab.get s.bus.sets index {}).count && e.2 ≠ {})
    else if typ = 0x03 then
      let l := s.lin index
      !l.tables.isEmpty || !l.bufs.isEmpty || l.run
    else if typ = 0x05 then
      let u := Tab.get s.inp.groups index {}
      u ≠ u.cleared
    else if typ = 0x06 then
      let g := s.ring index
      g.sqTail ≠ 0 || g.sqHead ≠ 0 || g.cqTail ≠ 0 || g.cqHead ≠ 0 || g.run
    else if typ = 0x0B then
      let c := s.timer index
      c.arm || c.fired || c.missed ≠ 0 || c.cmp ≠ 0 || c.period ≠ 0
    else false)

/-- A handle is destroyed: it retires while an engine holds a context of it, and is FREE at once otherwise (R237). -/
def State.handleDestroy (s : State) (typ index : Nat) (waiter : Option (Nat × U16)) : State × Bool :=
  let s1 := s.handleStop typ index
  if s1.holdsContext typ index then
    ((s1.onMgmt (fun m => { m with handles := { m.handles with
      tab := Tab.upd m.handles.tab (hKey typ index) {} (fun h => { h with retiring := true, waiter := waiter }) } })).handleVote
        typ index, true)
  else (s1.handleFree typ index, false)

/-- A retiring handle becomes FREE, and the destroy that returned PENDING has its notice (R237). -/
def State.retireEnd (s : State) (typ index : Nat) (value : U32) (waiter : Option (Nat × U16)) : State :=
  let s1 := s.handleFree typ index
  match waiter with
  | some (k, q) => s1.complete k q .ok value []
  | none => s1

/-- A handle of a destroyed instance: one that is LIVE is destroyed, and one that already retires becomes FREE with its notice once no
engine holds a context of it (R237, R525). -/
def State.handleEnd (s : State) (typ index : Nat) : State :=
  match s.hFind typ index with
  | none => s
  | some h =>
    if ¬ h.retiring then (s.handleDestroy typ index none).1
    else if s.holdsContext typ index then s
    else s.retireEnd typ index (h.value typ index) h.waiter

/-- The RETIRING handle of a value. -/
def State.retiringOf (s : State) (h : U32) : Option Handle :=
  match s.hFind (hType h) (hIndex h) with
  | some e => if e.retiring ∧ e.value (hType h) (hIndex h) = h then some e else none
  | none => none

/-- HANDLE_RETIRE_COMPLETE: every engine has cleared the handle's contexts; FREE, and the notice of a PENDING destroy (R235, R237). -/
def execHandleRetireComplete (handle : U32) (s : State) : Out :=
  match s.retiringOf handle with
  | none => .next s
  | some e => fin (s.retireEnd (hType handle) (hIndex handle) handle e.waiter)

/-- HANDLE_RETIRE_TIMEOUT: ENGINE_WEDGED and the pulse on RST_REQ_N (R95, R237). -/
def execHandleRetireTimeout (handle : U32) (unit : Nat) (s : State) : Out :=
  match s.retiringOf handle with
  | none => .next s
  | some _ => fin (s.wedged unit 1)

/-! ### Handle commands -/

/-- Every handle type (R234). -/
def allTypes : List Nat := [0x01, 0x02, 0x03, 0x04, 0x05, 0x06, 0x07, 0x08, 0x09, 0x0A, 0x0B, 0x0C]

/-- HANDLE_QUERY, 0x0110. -/
def specHandleQuery : CmdSpec := { op := 0x0110, who := [.mgr, .sec, .gst], st := true, types := allTypes }

/-- HANDLE_QUERY: also of a handle in RETIRING (R236). -/
def execHandleQuery (rq : Request) (s : State) : Out :=
  serveWith specHandleQuery rq s List.isEmpty true (fun s =>
    match s.hFind (hType rq.handle) (hIndex rq.handle) with
    | some h => yesWith s (leBytes 1 (if h.retiring then 2 else 1) ++ leBytes 1 (if h.sec then 1 else 0) ++ bindBytes h.bind)
    | none => no s .badHandle)

/-- HANDLE_DESTROY, 0x0111. -/
def specHandleDestroy : CmdSpec := { op := 0x0111, who := everyIssuer, st := true, types := allTypes }

/-- A key node below another one has a live handle (R261). -/
def State.liveBelow (s : State) (n : Nat) : Bool :=
  (s.ks.subtree n).any (fun k => k ≠ n && (s.hFind 0x07 k).isSome)

/-- A root handle stays; a key node handle above live ones is BUSY; any other handle begins its end (R237, R261, R536). -/
def ownHandleDestroy (rq : Request) (s : State) : State × Ans :=
  let t := hType rq.handle
  let i := hIndex rq.handle
  if t = 0x07 ∧ i < 8 then no s .denied
  else if t = 0x07 ∧ s.liveBelow i then no s .busy
  else
    let r := s.handleDestroy t i (some (rq.route.key, rq.seq))
    (r.1, { st := if r.2 then .pending else .ok })

/-- HANDLE_DESTROY (R261). -/
def execHandleDestroy (rq : Request) (s : State) : Out := serve specHandleDestroy rq s List.isEmpty (ownHandleDestroy rq)

/-- HANDLE_BIND_IRQ, 0x0112. -/
def specHandleBindIrq : CmdSpec := { op := 0x0112, who := everyIssuer, st := true, types := allTypes }

/-- Later MSIs take the new binding, which must suit the handle (R257, R529). -/
def ownHandleBindIrq (rq : Request) (s : State) : State × Ans :=
  let b := bindAt rq.payload 0
  match s.hFind (hType rq.handle) (hIndex rq.handle) with
  | none => no s .badHandle
  | some e =>
    let more := if hType rq.handle = 0x02 then (Tab.get s.bus.sets (hIndex rq.handle) {}).prio else 0
    if ¬ s.bindOk b e.owner e.sec more then no s .badParam
    else yes (s.onMgmt (fun m => { m with handles := { m.handles with
      tab := Tab.upd m.handles.tab (hKey (hType rq.handle) (hIndex rq.handle)) {} (fun h => { h with bind := b }) } }))

/-- HANDLE_BIND_IRQ (R529). -/
def execHandleBindIrq (rq : Request) (s : State) : Out :=
  serve specHandleBindIrq rq s (fun p => p.length = 4) (ownHandleBindIrq rq)

/-! ### Outcomes and results -/

/-- PENDING_QUERY, 0x0120. -/
def specPendingQuery : CmdSpec :=
  { op := 0x0120, who := everyIssuer, st := true, safe := true, rcv := true }

/-- The outcome record of an opcode and a sequence on a route, newest first (R259). -/
def State.pendBytes (s : State) (key op seq : Nat) : List Byte :=
  match (s.route key).pend.find? (fun p => p.opcode.toNat = op ∧ p.seq.toNat = seq) with
  | none => [0, 0, 0, 0]
  | some p => if p.done then [2, p.reason] ++ leBytes 2 p.final.toNat else [1, p.reason, 0, 0]

/-- PENDING_QUERY (R231, R259). -/
def execPendingQuery (rq : Request) (s : State) : Out :=
  serve specPendingQuery rq s (fun p => p.length = 4) (fun s =>
    yesWith s (s.pendBytes rq.route.key (u16At rq.payload 0) (u16At rq.payload 2)))

/-- RESULT_READ, 0x0121. -/
def specResultRead : CmdSpec :=
  { op := 0x0121, who := [.mgr, .sec, .gst, .ptr, .svc], st := true, safe := true, rcv := true }

/-- Bytes of a result that one response carries (R260). -/
def Route.resultRoom (r : Route) : Nat := if r.udpSide then 1384 else 2024

/-- RESULT_READ (R260). -/
def ownResultRead (rq : Request) (s : State) : State × Ans :=
  let o := u32At rq.payload 4
  match (s.route rq.route.key).result with
  | none => no s .badParam
  | some (id, b) =>
    if id.toNat ≠ u16At rq.payload 0 ∨ b.length ≤ o then no s .badParam
    else yesWith s (leBytes 4 o ++ leBytes 4 b.length ++ (b.drop o).take rq.route.resultRoom)

/-- RESULT_READ (R260). -/
def execResultRead (rq : Request) (s : State) : Out :=
  serve specResultRead rq s (fun p => p.length = 8 && u16At p 2 = 0) (ownResultRead rq)

end Sys2Proof.Machine
end

