-- ==== Sys2Proof/Machine/Resets.lean ====
section
/-! DEFINITION. Function disable, instance reset and instance destruction across the engines (R130, R263, R264, R517 to R527). -/

namespace Sys2Proof.Machine

open Sys2Proof

/-! ### DRAM regions of the guests -/

/-- A number placed into a rising list once. -/
def insertRising (n : Nat) : List Nat → List Nat
  | [] => [n]
  | m :: r => if n < m then n :: m :: r else if n = m then m :: r else m :: insertRising n r

/-- DRAM grants: guest, first page, page beyond the last. -/
abbrev Grants := List (Nat × Nat × Nat)

/-- The DRAM grants of a share list. -/
def dramOf (n : Nat) (l : List Share) : Grants :=
  (l.filter (fun e => e.kind = 0x0B && e.b ≠ 0)).map (fun e => (n, e.a.toNat, e.a.toNat + e.b.toNat))

/-- The DRAM grants of every guest. -/
def State.dramGrants (s : State) : Grants := s.mgmt.insts.flatMap (fun e => if e.1 = 0 then [] else dramOf e.1 e.2.shares)

/-- The guests whose grants cover a page, with instance 0, as a mask. -/
def coverMask (g : Grants) (page : Nat) : BitVec 63 :=
  g.foldl (fun m e => if e.2.1 ≤ page ∧ page < e.2.2 then m ||| bitOf 63 e.1 else m) 1

/-- Pieces between consecutive cuts that some grant covers: first page, page beyond the last, mask (R130). -/
def piecesOf (g : Grants) : List Nat → List (Nat × Nat × BitVec 63)
  | a :: b :: r =>
    let m := coverMask g a
    if m = 1 then piecesOf g (b :: r) else (a, b, m) :: piecesOf g (b :: r)
  | [_] => []
  | [] => []

/-- Adjacent pieces with equal masks are one range (R130). -/
def joinPieces : List (Nat × Nat × BitVec 63) → List (Nat × Nat × BitVec 63)
  | [] => []
  | p :: r =>
    match joinPieces r with
    | [] => [p]
    | q :: t => if p.2.1 = q.1 ∧ p.2.2 = q.2.2 then (p.1, q.2.1, p.2.2) :: t else p :: q :: t

/-- The ranges of a set of grants, in ascending order (R130). -/
def rangesOf (g : Grants) : List (Nat × Nat × BitVec 63) :=
  joinPieces (piecesOf g (g.foldl (fun l e => insertRising e.2.1 (insertRising e.2.2 l)) []))

/-- Regions 4 to 62 describe the guests' grants (R130). -/
def State.rebuildDram (s : State) : State :=
  s.onCore (fun c => { c with
    dramRegions := ((rangesOf s.dramGrants).mapIdx (fun i r => (4 + i, r))).foldl (fun (t : Tab Region) e =>
      Tab.put t e.1
        { base := BitVec.ofNat 28 e.2.1, limit := BitVec.ofNat 28 (e.2.2.1 - 1), en := true, nsR := true, nsW := true
          sR := true, sW := true, mask := e.2.2.2 })
      (c.dramRegions.filter (fun e => e.1 < 4 || e.1 = 63)) })

/-! ### What a reset or a disable does in each engine -/

/-- Disabled functions of R517, with the highest selector of each kind. -/
def fnSelTop (kind : Nat) : Option Nat :=
  if kind = 0x01 then some 1 else if kind = 0x03 then some 15 else if kind = 0x04 then some 7
  else if kind ∈ [0x05, 0x07, 0x08, 0x0A, 0x0D] then some 0 else none

/-- An object set has a frame on the bus. -/
def State.setOnBus (s : State) (key : Nat) : Bool := s.handleBusy 0x02 key

/-- Requests of a set that are not on the bus complete with a status (R394, R518). -/
def State.setRefuse (s : State) (key : Nat) (st : U16) : State :=
  if s.setOnBus key then (s.can (key / 128)).objs.foldl (fun t e =>
    if e.2.pend && (t.can (key / 128)).tx ≠ some e.1 && (match s.setOf (key / 128) e.1 with
        | some q => q.1 = key
        | none => false) then t.txEnd (key / 128) e.1 st true else t) s
  else s.setAbort key st true

/-- Channels' sets of an owner. -/
def State.setsOn (s : State) (n chan : Nat) : List Nat := (s.handlesOf n 0x02).filter (fun k => k / 128 = chan)

/-- Load groups of an owner: writes have effect or not; reset policies apply when they lose it (R447, R455). -/
def State.loadsMute (s : State) (n : Nat) (b policy : Bool) : State :=
  (s.handlesOf n 0x04).foldl (fun t g =>
    let t1 := if policy then t.loadPolicies (Tab.get t.ps.groups g {}).mask else t
    t1.onPs (fun p => { p with groups := Tab.upd p.groups g {} (fun u => { u with muted := b }) })) s

/-- Input groups of an owner stop or go on; a group that was disabled goes on with its event bits clear (R506). -/
def State.inputsStop (s : State) (n : Nat) (stop off clear : Bool) : State :=
  (s.handlesOf n 0x05).foldl (fun t g => t.updInGroup g (fun u =>
    { (if clear then u.cleared else u) with stopped := stop, disabled := off })) s

/-- The engine stops taking new work of a disabled function, and refuses what was not begun (R517, R518). -/
def State.fnStop (s : State) (n kind sel : Nat) : State :=
  if kind = 0x01 then ((s.handlesOf n 0x01).filter (fun q => q / 64 = sel)).foldl (fun t q => t.qpFlush q 0x0021 false) s
  else if kind = 0x03 then (s.setsOn n sel).foldl (fun t k => t.setRefuse k 0x0021) s
  else if kind = 0x05 then (s.handlesOf n 0x06).foldl (fun t r => t.ringFlush r 0x0021 false true) s
  else if kind = 0x07 then s.loadsMute n true true
  else if kind = 0x08 then s.inputsStop n true true false
  else s

/-- The function holds work in flight (R517, R263). -/
def State.fnBusy (s : State) (n kind sel : Nat) : Bool :=
  if kind = 0x01 then ((s.handlesOf n 0x01).filter (fun q => q / 64 = sel)).any s.qpBusy
  else if kind = 0x03 then (s.setsOn n sel).any s.setOnBus
  else if kind = 0x04 then (s.handlesOf n 0x03).contains sel && (s.lin sel).header.isSome
  else if kind = 0x05 then (s.handlesOf n 0x06).any (fun r => !(s.ringJobs r).isEmpty)
  else if kind = 0x0A then s.passBusy n
  else false

/-- Work still in flight when the drain timeout ends is aborted (R518, R394, R561, R593). -/
def State.fnAbort (s : State) (n kind sel : Nat) : State :=
  if kind = 0x01 then ((s.handlesOf n 0x01).filter (fun q => q / 64 = sel)).foldl (fun t q => t.qpAbort q 0x0021 false) s
  else if kind = 0x03 then (s.setsOn n sel).foldl (fun t k => t.setAbort k 0x0021 true) s
  else if kind = 0x04 then s.updLin sel (fun l => { l with header := none })
  else if kind = 0x05 then (s.handlesOf n 0x06).foldl (fun t r =>
    (t.ringJobs r).foldl (fun u j => u.jobEnd j 0x0021 j.wrote true) t) s
  else if kind = 0x0A then s.passFree n
  else s

/-- The engine takes work of a function again (R447, R506, R519). -/
def State.fnResume (s : State) (n kind : Nat) : State :=
  if kind = 0x07 then s.loadsMute n false false
  else if kind = 0x08 then s.inputsStop n false false true
  else s

/-! ### Instance reset -/

/-- The stalls that an instance holds. -/
def State.stallsOf (s : State) (n : Nat) : List Nat :=
  (s.mgmt.amind.stalls.filter (fun e => e.2.owner = some n)).map (fun e => e.1)

/-- The stalls of an instance as its reset leaves them (R224). -/
def State.stallsReset (s : State) (n : Nat) : State := (s.stallsOf n).foldl (fun t k => t.stallReset k) s

/-- Step 1 of the sequence: every engine stops taking new work of the instance; matrices stop, load groups apply their reset
policies and the stalls are cleared (R224, R391, R394, R416, R447, R506, R521, R522, R593). -/
def State.instBegin (s : State) (n : Nat) : State :=
  let s1 := s.updInst n (fun i => { i with resetBegun := true, drained := false })
  let s2 := (s1.handlesOf n 0x01).foldl (fun t q => t.updQp q (fun u => { u with stopped := true })) s1
  let s3 := ((s2.handlesOf n 0x02).foldl (fun t k => t.setStop k true) s2).schStopOf n
  let s4 := (s3.handlesOf n 0x03).foldl (fun t k => t.linHalt k true) s3
  let s5 := (s4.handlesOf n 0x06).foldl (fun t r => t.updRing r (fun g => { g with stopped := true })) s4
  let s6 := ((s5.loadsMute n true true).inputsStop n true (s5.fnOff n 0x08 0) false).winsStop n true
  s6.stallsReset n

/-- The sequence begins, unless a drain is in progress (R520). -/
def State.instMayBegin (s : State) (n : Nat) : State := if (s.inst n).drain.isSome then s else s.instBegin n

/-- Work of the instance is in flight. -/
def State.instBusy (s : State) (n : Nat) : Bool :=
  (s.handlesOf n 0x01).any s.qpBusy || (s.handlesOf n 0x02).any s.setOnBus || (s.handlesOf n 0x03).any (fun c => (s.lin c).header.isSome)
    || (s.handlesOf n 0x06).any (fun r => !(s.ringJobs r).isEmpty) || s.passBusy n

/-- Descriptors of a ring not yet fetched. -/
def Ring.unfetched (g : Ring) : Nat :=
  (g.sqTail.toNat + max 1 g.depth.toNat - g.sqHead.toNat) % max 1 g.depth.toNat

/-- Items that step 3 aborts (R521). -/
def State.instItems (s : State) (n : Nat) : Nat :=
  let can := (s.handlesOf n 0x02).foldl (fun k key =>
    k + ((s.can (key / 128)).objs.filter (fun e => e.2.pend && key % 128 ≤ e.1 &&
      e.1 < key % 128 + (Tab.get s.bus.sets key {}).count)).length) 0
  let lin := ((s.handlesOf n 0x03).filter (fun c => (s.lin c).header.isSome)).length
  let ce := (s.handlesOf n 0x06).foldl (fun k r => k + (s.ringJobs r).length + (s.ring r).unfetched) 0
  let pass := (s.pass.slots.filter (fun r => r.x.attr.inst.toNat = n)).length
    + (s.pass.trackers.filter (fun r => r.x.attr.inst.toNat = n)).length
  let qp := (s.handlesOf n 0x01).foldl (fun k q => k + (if (s.qp q).txBusy then 1 else 0) + (if (s.qp q).rxBusy then 1 else 0)) 0
  can + lin + ce + pass + qp

/-- Step 3: what remains aborts with ABORTED_RESET, each record written and no MSI sent (R316, R394, R521, R561, R593). -/
def State.instAbort (s : State) (n : Nat) : State :=
  let items := s.instItems n
  let s0 := (s.handlesOf n 0x01).foldl (fun t q => t.qpAbort q 0x0022 true) s
  let s1 := (s0.handlesOf n 0x02).foldl (fun t k => t.setAbort k 0x0022 false) s0
  let s2 := (s1.handlesOf n 0x03).foldl (fun t c => t.updLin c (fun l => { l with header := none })) s1
  let s3 := (s2.handlesOf n 0x06).foldl (fun t r => t.ringFlush r 0x0022 true false) s2
  (s3.passFree n).updInst n (fun i => { i with drained := true, aborts := BitVec.ofNat 32 items })

/-- Step 5: the contexts are cleared (R318, R394, R416, R506, R522, R561). -/
def State.instClear (s : State) (n : Nat) : State :=
  let s1 := (s.handlesOf n 0x01).foldl (fun t q => t.qpClear q) s
  let s2 := (s1.handlesOf n 0x02).foldl (fun t k => (t.setZero k).setStop k false) s1
  let s3 := (s2.handlesOf n 0x03).foldl (fun t c => (t.linClear c).linHalt c false) s2
  let s4 := (s3.handlesOf n 0x06).foldl (fun t r => t.updRing r (fun g => { g with
    sqTail := 0, sqHead := 0, cqTail := 0, cqHead := 0, run := false, stopped := false })) s3
  let s5 := (s4.handlesOf n 0x0B).foldl (fun t c => t.updTimer c (fun u => { u with
    arm := false, fired := false, missed := 0, cmp := 0, period := 0 })) s4
  let s6 := (s5.loadsMute n (s5.fnOff n 0x07 0) false).inputsStop n (s5.fnOff n 0x08 0) (s5.fnOff n 0x08 0) true
  s6.winsStop n false

/-- Every handle of an instance is destroyed (R525). -/
def State.destroyAll (s : State) (n : Nat) : State :=
  allTypes.foldl (fun t typ => (t.handlesOf n typ).foldl (fun u i => u.handleEnd typ i) t) s

/-- The handles of a destroyed instance go, its sequence being over. -/
def State.instEnd (s : State) (n : Nat) : State :=
  (s.updInst n (fun i => { i with st := .destroying, resetBegun := false, drained := true })).destroyAll n

/-- The notice of an INSTANCE_RESET; a guest that reset itself receives none (R264). -/
def State.resetNotice (s : State) (w : Option (Nat × U16)) : State :=
  match w with
  | none => s
  | some (k, q) => if 4 ≤ k ∧ k < 64 then s.completeQuiet k q .ok else s.complete k q .ok 0 []

/-- Steps 3 to 6 when every engine reports: LIVE again, counted and timed, with the notice; or the end of a destroyed instance's
handles (R521, R525, R527). -/
def State.instReport (s : State) (n : Nat) : State :=
  let s1 := (if (s.inst n).drained then s else s.instAbort n).instClear n
  if (s.inst n).st = .destroying then s1.instEnd n
  else
    let s2 := (s1.updInst n (fun i => { i with
        st := .live, resets := i.resets + 1, resetTime := s.now, resetReq := none, resetBegun := false, drained := false })).resetNotice
      (s.inst n).resetReq
    if (s.inst n).destroyReq.isEmpty then s2 else s2.instEnd n

/-- INSTANCE_RESET_DRAIN_END: the limit of step 2 (R521). -/
def execInstanceResetDrainEnd (inst : Nat) (s : State) : Out :=
  if 63 ≤ inst then noUnit
  else if (s.inst inst).resetBegun ∧ ¬ (s.inst inst).drained then fin (s.instAbort inst) else .next s

/-- INSTANCE_RESET_COMPLETE: every engine reports step 5 (R521, R522). -/
def execInstanceResetComplete (inst : Nat) (s : State) : Out :=
  if 63 ≤ inst then noUnit
  else if (s.inst inst).resetBegun ∧ ((s.inst inst).drained ∨ ¬ s.instBusy inst) then fin (s.instReport inst) else .next s

/-- INSTANCE_RESET, 0x0203. -/
def specInstanceReset : CmdSpec := { op := 0x0203, who := [.mgr, .gst] }

/-- The status with which the instance life of R527 answers a command; none where it is taken. -/
def State.lifeSays (s : State) (n : Nat) (resettingToo : Bool) : Option Status :=
  match (s.inst n).st with
  | .free => some .badParam
  | .live => none
  | .resetting => if resettingToo then none else some .busy
  | .destroying => some .busy

/-- A guest is to be reset: at once, or after its drain (R510, R520, R521, R527). -/
def ownInstanceReset (rq : Request) (s : State) : State × Ans :=
  let n := u8At rq.payload 0
  if rq.route.issuer = .gst ∧ n ≠ s.issuerInst rq.route then no s .denied
  else if n = 0 ∨ 63 ≤ n then no s .badParam
  else match s.lifeSays n false with
    | some e => no s e
    | none =>
      ((s.updInst n (fun i => { i with st := .resetting, resetReq := some (rq.route.key, rq.seq) })).instMayBegin n,
        { st := .pending })

/-- INSTANCE_RESET (R521); the response to a guest that resets itself is discarded with its stalls (R224). -/
def execInstanceReset (rq : Request) (s : State) : Out :=
  serve specInstanceReset rq s (fun p => p.length = 1) (ownInstanceReset rq)

/-! ### Destruction -/

/-- INSTANCE_DESTROY, 0x0202. -/
def specInstanceDestroy : CmdSpec := { op := 0x0202, who := [.mgr] }

/-- A guest is to be destroyed: its sequence begins, or the destroy is held to the end of a reset (R510, R525, R527). -/
def ownInstanceDestroy (rq : Request) (s : State) : State × Ans :=
  let n := u8At rq.payload 0
  if n = 0 ∨ 63 ≤ n then no s .badParam
  else match s.lifeSays n true with
    | some e => no s e
    | none =>
      let s1 := s.updInst n (fun i => { i with destroyReq := i.destroyReq ++ [(rq.route.key, rq.seq)] })
      (if (s.inst n).st = .live then (s1.updInst n (fun i => { i with st := .destroying })).instMayBegin n else s1,
        { st := .pending })

/-- INSTANCE_DESTROY (R525). -/
def execInstanceDestroy (rq : Request) (s : State) : Out :=
  serve specInstanceDestroy rq s (fun p => p.length = 1) (ownInstanceDestroy rq)

/-- A stall is withdrawn: as an instance reset leaves it, CLOSED and unassigned (R224). -/
def State.stallClose (s : State) (k : Nat) : State :=
  (s.stallReset k).updStall k (fun t => { t with st := .closed, owner := none, bind := {} })

/-- The market account of an instance ends: share 0, and its used cells move to account 63 (R525). -/
def State.acctEnd (s : State) (n : Nat) : State :=
  let u := (Tab.get s.sw.accts n {}).used
  ((s.updAcct n (fun a => { a with share := 0, used := 0 })).updAcct 63 (fun a => { a with used := a.used + u })).onSw (fun w =>
    { w with frames := w.frames.map (fun f => if f.acct = n then { f with acct := 63 } else f) })

/-- A guest leaves: stalls, guest files, DRAM regions, regulator, market account and grants (R171, R525). -/
def State.instDrop (s : State) (n : Nat) : State :=
  let s1 := (s.stallsOf n).foldl (fun t k => t.stallClose k) s
  let s2 := s1.onCore (fun c => { c with
    guestFiles := c.guestFiles.filter (fun e => e.2 ≠ n), regs := Tab.upd c.regs n {} Regulator.leave })
  let s3 := (s2.acctEnd n).updInst n (fun i => { i with
    st := .free, shares := [], drain := none, disabled := [], resetReq := none, resetBegun := false, drained := false
    destroyReq := [] })
  s3.rebuildDram

/-- INSTANCE_DESTROY_COMPLETE: every handle is FREE; the guest leaves and the notices are sent (R525, R527). -/
def execInstanceDestroyComplete (inst : Nat) (s : State) : Out :=
  if 63 ≤ inst then noUnit
  else
    let i := s.inst inst
    if i.st = .destroying ∧ i.drained ∧ ¬ i.resetBegun ∧ allTypes.all (fun t => (s.handlesOf inst t).isEmpty) then
      fin ((s.instDrop inst).completeAll i.destroyReq .ok [])
    else .next s

/-! ### Function disable -/

/-- FN_DISABLE, 0x0205. -/
def specFnDisable : CmdSpec := { op := 0x0205, who := [.mgr] }

/-- Instance, kind and selector name a function (R517). -/
def fnNamed (p : List Byte) : Bool :=
  u8At p 0 ≤ 62 && u8At p 3 = 0 && (match fnSelTop (u8At p 1) with
    | some top => u8At p 2 ≤ top
    | none => false)

/-- The payload of FN_DISABLE: a drain timeout of 0, or 100 to 10 000 µs (R263). -/
def okFnDisable (p : List Byte) : Bool :=
  p.length = 6 && fnNamed p && (u16At p 4 = 0 || (100 ≤ u16At p 4 && u16At p 4 ≤ 10000))

/-- A function is disabled: OK when it holds no work, PENDING while it drains (R263, R518, R519, R527). -/
def ownFnDisable (rq : Request) (s : State) : State × Ans :=
  let n := u8At rq.payload 0
  let kind := u8At rq.payload 1
  let sel := u8At rq.payload 2
  match s.lifeSays n false with
  | some e => no s e
  | none =>
    if (s.inst n).drain.isSome then no s .busy
    else if s.fnOff n kind sel then yes s
    else
      let s1 := (s.updInst n (fun i => { i with disabled := (kind, sel) :: i.disabled })).fnStop n kind sel
      if s1.fnBusy n kind sel then
        (s1.updInst n (fun i => { i with drain := some { kind := kind, sel := sel, waiter := (rq.route.key, rq.seq) } }),
          { st := .pending })
      else yes s1

/-- FN_DISABLE (R518). -/
def execFnDisable (rq : Request) (s : State) : Out := serve specFnDisable rq s okFnDisable (ownFnDisable rq)

/-- FN_DISABLE_DRAIN_TIMEOUT (R518). -/
def execFnDisableDrainTimeout (inst : Nat) (s : State) : Out :=
  if 63 ≤ inst then noUnit
  else match (s.inst inst).drain with
    | none => .next s
    | some d => fin (s.fnAbort inst d.kind d.sel)

/-- FN_DISABLE_COMPLETE: the last item has completed; the notice is sent, and a reset or destruction that waited begins (R518,
R520). -/
def execFnDisableComplete (inst : Nat) (s : State) : Out :=
  if 63 ≤ inst then noUnit
  else match (s.inst inst).drain with
    | none => .next s
    | some d =>
      if s.fnBusy inst d.kind d.sel then .next s
      else
        let s1 := (s.updInst inst (fun i => { i with drain := none })).complete d.waiter.1 d.waiter.2 .ok 0 []
        fin (if (s.inst inst).st = .live then s1 else s1.instBegin inst)

/-- FN_ENABLE, 0x0206. -/
def specFnEnable : CmdSpec := { op := 0x0206, who := [.mgr] }

/-- A function is enabled (R456, R506, R519, R527). -/
def ownFnEnable (rq : Request) (s : State) : State × Ans :=
  let n := u8At rq.payload 0
  let kind := u8At rq.payload 1
  let sel := u8At rq.payload 2
  match s.lifeSays n false with
  | some e => no s e
  | none =>
    if (s.inst n).drain.isSome then no s .busy
    else if ¬ s.fnOff n kind sel then yes s
    else yes ((s.updInst n (fun i => { i with disabled := i.disabled.filter (fun f => f ≠ (kind, sel)) })).fnResume n kind)

/-- FN_ENABLE (R519). -/
def execFnEnable (rq : Request) (s : State) : Out :=
  serve specFnEnable rq s (fun p => p.length = 4 && fnNamed p) (ownFnEnable rq)

end Sys2Proof.Machine
end

