-- ==== Sys2Proof/Machine/Instances.lean ====
section
/-! DEFINITION. Instance commands: share vectors, INSTANCE_CREATE, SHARE_CHANGE, INSTANCE_QUERY, stalls and guest files (R130, R135, R224,
R262, R264, R508 to R516, R527, R528). -/

namespace Sys2Proof.Machine

open Sys2Proof

/-! ### Share vectors -/

/-- A share entry of a payload: kind, selector, a, b (R262). -/
def shareAt (p : List Byte) (o : Nat) : Share :=
  { kind := u8At p o, sel := u8At p (o + 1), a := BitVec.ofNat 32 (u32At p (o + 4)), b := BitVec.ofNat 32 (u32At p (o + 8)) }

/-- The entries of INSTANCE_CREATE and SHARE_CHANGE. -/
def sharesAt (p : List Byte) : List Share := (List.range (u8At p 1)).map (fun k => shareAt p (4 + k * 12))

/-- The highest selector of a kind (R262). -/
def shareSelTop (kind : Nat) : Option Nat :=
  if kind = 0x01 ∨ kind = 0x08 then some 1
  else if kind = 0x03 then some 15
  else if kind = 0x04 ∨ kind = 0x0C then some 7
  else if kind = 0x06 then some 2
  else if kind ∈ [0x02, 0x05, 0x07, 0x09, 0x0A, 0x0B, 0x0D, 0x0E] then some 0
  else none

/-- First page of application DRAM. -/
def dramPage : Nat := 0x80000
/-- The page beyond application DRAM. -/
def dramPageEnd : Nat := 0x480000

/-- A range of pages touches a secure carve-out (R512). -/
def State.touchesCarveOut (s : State) (first count : Nat) : Bool :=
  s.mgmt.stored.carveOuts.any (fun c => decide (first * 4096 < c.1 + c.2 ∧ c.1 < (first + count) * 4096 ∧ 0 < count))

/-- The fields of an entry are in range (R135, R262, R512). -/
def State.shareOk (s : State) (e : Share) : Bool :=
  let a := e.a.toNat
  let b := e.b.toNat
  (match shareSelTop e.kind with
   | none => false
   | some top => e.sel ≤ top) &&
  (if e.kind ∈ [0x01, 0x02, 0x0D, 0x0E] then b = 0
   else if e.kind = 0x03 then a ≤ 128 && b ≤ 8
   else if e.kind = 0x04 then a ≤ 1 && b = 0
   else if e.kind = 0x06 then a % 65536 ≤ a / 65536 && 1 ≤ b && b ≤ 65535
   else if e.kind = 0x07 then b < 2 ^ 28
   else if e.kind = 0x08 then e.sel = 0 || (a < 2 ^ 24 && b = 0)
   else if e.kind = 0x09 then
     b = 0 || (hType e.b = 0x07 && (match s.hLive 0x07 (hIndex e.b) with
       | some h => h.owner = 0 && !h.sec && h.value 0x07 (hIndex e.b) = e.b
       | none => false))
   else if e.kind = 0x0B then dramPage ≤ a && a + b ≤ dramPageEnd && !s.touchesCarveOut a b
   else if e.kind = 0x0C then 1 ≤ a && a ≤ 15 && b = 0
   else true)

/-- Two entries that may not stand in one request (R262). -/
def Share.clash (e f : Share) : Bool :=
  e.kind = f.kind && (e.kind = 0x06 || (e.sel = f.sel && e.kind ≠ 0x0B && e.kind ≠ 0x0C))

/-- No two entries of a list clash. -/
def sharesApart : List Share → Bool
  | [] => true
  | e :: r => r.all (fun f => !e.clash f) && sharesApart r

/-- Every reserved field of the entries is 0. -/
def rsvZero (p : List Byte) : Bool := (List.range (u8At p 1)).all (fun k => decide (u16At p (4 + k * 12 + 2) = 0))

/-- The payload of INSTANCE_CREATE and SHARE_CHANGE: at most 169 valid entries (R262, R512). -/
def State.okShares (s : State) (p : List Byte) : Bool :=
  4 ≤ p.length && u8At p 0 ≤ 62 && u8At p 1 ≤ 169 && u16At p 2 = 0 && p.length = 4 + 12 * u8At p 1
    && rsvZero p && (sharesAt p).all s.shareOk && sharesApart (sharesAt p)

/-- The 64-bit mask of an entry of kinds 0x07 and 0x08. -/
def Share.mask (e : Share) : U64 := e.b.setWidth 64 <<< 32 ||| e.a.setWidth 64

/-- Pin codes that an entry names (R194, R256, R509). -/
def Share.pins (e : Share) : List Nat :=
  if e.kind = 0x07 then (List.range 60).filter (fun c => e.mask.getLsbD c)
  else if e.kind = 0x08 then
    ((List.range 64).filter (fun c => e.mask.getLsbD c)).map (fun c => (if e.sel = 0 then 64 else 128) + c)
  else if e.kind = 0x03 then (if e.a = 0 ∧ e.b = 0 then [] else [160 + e.sel])
  else if e.kind = 0x04 then (if e.a = 0 then [] else [176 + e.sel])
  else []

/-- The share list of an instance after a request: its entries replace those of their kind and selector, a fabric entry the
fabric share, DRAM and guest file entries all of their kind and selector; empty amounts are not kept (R264). -/
def mergeShares (old new : List Share) : List Share :=
  (old.filter (fun e => !new.any (fun f => f.kind = e.kind && (f.kind = 0x06 || f.sel = e.sel)))) ++
    new.filter (fun e => e.a ≠ 0 || e.b ≠ 0)

/-- Guest files of a share list: hart and file. -/
def filesOf (l : List Share) : List (Nat × Nat) := (l.filter (fun e => e.kind = 0x0C)).map (fun e => (e.sel, e.a.toNat))

/-- Another instance's grant or live handle holds what an entry names (R512, R514). -/
def State.shareHeld (s : State) (n : Nat) (e : Share) : Bool :=
  let others := s.mgmt.insts.filter (fun i => i.1 ≠ 0 && i.1 ≠ n)
  if e.kind = 0x07 then
    others.any (fun i => s.loadShare i.1 &&& e.mask ≠ 0)
      || s.ps.groups.any (fun g => !g.2.sec && g.2.owner ≠ n && g.2.mask &&& e.mask ≠ 0)
  else if e.kind = 0x08 then
    others.any (fun i => s.inShare i.1 e.sel &&& e.mask ≠ 0)
      || s.inp.groups.any (fun g => !g.2.sec && g.2.owner ≠ n
          && (if e.sel = 0 then g.2.dmask &&& e.mask ≠ 0 else g.2.vmask.setWidth 64 &&& e.mask ≠ 0))
  else if e.kind = 0x04 then
    e.a ≠ 0 && (others.any (fun i => (s.share i.1 0x04 e.sel).1 ≠ 0)
      || (match s.hFind 0x03 e.sel with
          | some h => !h.sec && h.owner ≠ n
          | none => false))
  else if e.kind = 0x0C then
    let k := e.sel * 16 + e.a.toNat
    others.any (fun i => (filesOf i.2.shares).contains (e.sel, e.a.toNat))
      || (s.core.guestFiles.has k && Tab.get s.core.guestFiles k 0 ≠ n)
  else false

/-- A live handle or a stall of an instance binds its interrupts to a guest file (R514, R528). -/
def State.fileUsed (s : State) (n hart file : Nat) : Bool :=
  s.mgmt.handles.tab.any (fun e => e.2.owner = n && !e.2.sec && e.2.bind.hart = hart && e.2.bind.file = file)
    || s.mgmt.amind.stalls.any (fun e => e.2.owner = some n && e.2.bind.hart = hart && e.2.bind.file = file)

/-- Handle type that is charged to a kind by count (R511). -/
def typeOfKind (kind : Nat) : Nat :=
  if kind = 0x01 then 0x01 else if kind = 0x03 then 0x02 else if kind = 0x05 then 0x06 else if kind = 0x09 then 0x07
  else if kind = 0x0A then 0x0A else if kind = 0x0D then 0x0B else if kind = 0x0E then 0x0C else 0

/-- A live secure handle holds something that an entry of kinds 0x04, 0x07 and 0x08 names. -/
def State.shareSecure (s : State) (e : Share) : Bool :=
  if e.kind = 0x07 then s.ps.groups.any (fun g => g.2.sec && g.2.mask &&& e.mask ≠ 0)
  else if e.kind = 0x08 then
    s.inp.groups.any (fun g => g.2.sec && (if e.sel = 0 then g.2.dmask &&& e.mask ≠ 0 else g.2.vmask.setWidth 64 &&& e.mask ≠ 0))
  else if e.kind = 0x04 then
    e.a ≠ 0 && (match s.hFind 0x03 e.sel with
      | some h => h.sec
      | none => false)
  else false

/-- No secure handle holds what an entry names, and an entry of a kind shared by count leaves the residue at least the live use of instance 0 and of secure handles (R508, R509);
market cells and fabric guarantees stay within their pools (R135, R290). The grants are those of the state given. -/
def State.poolHolds (s : State) (e : Share) : Bool :=
  if s.shareSecure e then false
  else if e.kind ∈ [0x01, 0x03, 0x05, 0x09, 0x0A, 0x0D, 0x0E] then
    let g := s.granted e.kind e.sel
    let t := typeOfKind e.kind
    let u := s.useOf t e.sel 0 false
    let v := s.useOf t e.sel 0 true
    let p := poolOf e.kind
    g.1 + u.1 + v.1 ≤ p.1 && (e.kind = 0x09 || g.2 + u.2 + v.2 ≤ p.2)
  else if e.kind = 0x02 then
    s.mgmt.insts.foldl (fun k i => k + (s.share i.1 0x02 0).1) 0 + s.mgmt.stored.net.poolMin ≤ 524288
  else if e.kind = 0x06 then
    s.mgmt.insts.foldl (fun k i =>
      k + i.2.shares.foldl (fun m x => if x.kind = 0x06 then m + x.a.toNat % 65536 else m) 0) 0 ≤ 3000
  else true

/-- The checks of R512 from the second on, for a request of an instance whose share list becomes `l`: the status of the first
that fails. -/
def State.shareCheck (s : State) (n : Nat) (new l : List Share) (busy : Bool) : Status :=
  let t := s.updInst n (fun i => { i with shares := l })
  let gone := (filesOf (s.inst n).shares).filter (fun f => !(filesOf l).contains f)
  if new.any (fun e => e.pins.any s.pinSec) then .denied
  else if busy ∨ new.any (s.shareHeld n) ∨ gone.any (fun f => s.fileUsed n f.1 f.2) then .busy
  else if ¬ new.all t.poolHolds then .noResource
  else if 59 < (rangesOf t.dramGrants).length then .noResource
  else .ok

/-- The regulator of an instance that is created counts anew; its settings change at the next refill alone (R134). -/
def Regulator.fresh (r : Regulator) : Regulator :=
  { en := r.en, cls := r.cls, guar := r.guar, ceil := r.ceil, burst := r.burst, next := r.next }

/-- The regulator of an instance takes its fabric share at the next refill (R134, R136). -/
def Regulator.take (r : Regulator) (e : Share) : Regulator :=
  let c := BitVec.ofNat 2 e.sel
  let g := BitVec.ofNat 16 e.a.toNat
  let l := BitVec.ofNat 16 (e.a.toNat / 65536)
  let b := BitVec.ofNat 16 e.b.toNat
  { r with next := some (true, c, g, l, b) }

/-- The share list of an instance takes effect: regulator, DRAM regions, guest files, market share (R130, R133, R171, R291,
R512, R516). -/
def State.shareApply (s : State) (n : Nat) (new l : List Share) : State :=
  let gone := (filesOf (s.inst n).shares).filter (fun f => !(filesOf l).contains f)
  let s1 := s.updInst n (fun i => { i with shares := l })
  let s2 := match new.find? (fun e => e.kind = 0x06) with
    | some e => s1.updReg n (fun r => r.take e)
    | none => s1
  let s3 := s2.rebuildDram.onCore (fun c => { c with
    guestFiles := (filesOf new).foldl (fun (t : Tab Nat) f => Tab.put t (f.1 * 16 + f.2) n)
      (c.guestFiles.filter (fun e => !gone.any (fun f => f.1 * 16 + f.2 = e.1))) })
  s3.updAcct n (fun a => { a with share := (s3.share n 0x02 0).1 })

/-! ### Commands -/

/-- INSTANCE_CREATE, 0x0201. -/
def specInstanceCreate : CmdSpec := { op := 0x0201, who := [.mgr] }

/-- The lowest free instance ID. -/
def State.freeInst (s : State) : Option Nat := ((List.range 62).map (fun k => k + 1)).find? (fun n => (s.inst n).st = .free)

/-- A guest is created with its shares, its page at its reset values (R512, R531). -/
def State.instMake (s : State) (n : Nat) (l : List Share) : State :=
  (((s.updInst n (fun _ => { st := .live })).updReg n Regulator.fresh).shareApply n l (mergeShares [] l))

/-- INSTANCE_CREATE: every check before any effect; no free ID is an amount beyond what is left (R262, R512). -/
def ownInstanceCreate (rq : Request) (s : State) : State × Ans :=
  let p := rq.payload
  let new := sharesAt p
  let want := if u8At p 0 = 0 then s.freeInst else some (u8At p 0)
  match want with
  | none =>
    no s (match s.shareCheck 63 new (mergeShares [] new) false with
      | .denied => .denied
      | .busy => .busy
      | _ => .noResource)
  | some n =>
    match s.shareCheck n new (mergeShares [] new) ((s.inst n).st ≠ .free) with
    | .ok => yesWith (s.instMake n new) (leBytes 1 n)
    | e => no s e

/-- INSTANCE_CREATE (R512). -/
def execInstanceCreate (rq : Request) (s : State) : Out := serve specInstanceCreate rq s s.okShares (ownInstanceCreate rq)

/-- SHARE_CHANGE, 0x0204. -/
def specShareChange : CmdSpec := { op := 0x0204, who := [.mgr] }

/-- SHARE_CHANGE: instance 0 takes kinds 0x02 and 0x06 alone; a shrink evicts nothing (R264, R510, R513, R514, R527). -/
def ownShareChange (rq : Request) (s : State) : State × Ans :=
  let n := u8At rq.payload 0
  let new := sharesAt rq.payload
  match s.lifeSays n false with
  | some e => no s e
  | none =>
    if n = 0 ∧ ¬ new.all (fun e => e.kind = 0x02 || e.kind = 0x06) then no s .badParam
    else
      let l := mergeShares (s.inst n).shares new
      match s.shareCheck n new l false with
      | .ok => yes (s.shareApply n new l)
      | e => no s e

/-- SHARE_CHANGE (R513, R514). -/
def execShareChange (rq : Request) (s : State) : Out := serve specShareChange rq s s.okShares (ownShareChange rq)

/-- The bytes of a share entry. -/
def Share.bytes (e : Share) : List Byte :=
  leBytes 1 e.kind ++ leBytes 1 e.sel ++ leBytes 2 0 ++ leBytes 4 e.a.toNat ++ leBytes 4 e.b.toNat

/-- INSTANCE_QUERY, 0x020A. -/
def specInstanceQuery : CmdSpec := { op := 0x020A, who := [.mgr, .gst] }

/-- State, shares and LIVE handles of an instance (R527); a response carries at most 169 entries. -/
def ownInstanceQuery (rq : Request) (s : State) : State × Ans :=
  let n := u8At rq.payload 0
  if rq.route.issuer = .gst ∧ n ≠ s.issuerInst rq.route then no s .denied
  else if 63 ≤ n then no s .badParam
  else
    let i := s.inst n
    let l := i.shares.take 169
    let live := (s.mgmt.handles.tab.filter (fun e => e.2.owner = n && !e.2.sec && !e.2.retiring)).length
    yesWith s (leBytes 1 i.st.code ++ leBytes 1 l.length ++ leBytes 2 live ++ l.flatMap Share.bytes)

/-- INSTANCE_QUERY (R527). -/
def execInstanceQuery (rq : Request) (s : State) : Out :=
  serve specInstanceQuery rq s (fun p => p.length = 1) (ownInstanceQuery rq)

/-- STALL_ASSIGN, 0x0207. -/
def specStallAssign : CmdSpec := { op := 0x0207, who := [.mgr], st := true }

/-- A stall is assigned: both areas zeroed, last sequence 0, IDLE (R224, R257, R527). -/
def ownStallAssign (rq : Request) (s : State) : State × Ans :=
  let p := rq.payload
  let k := u8At p 0
  let n := u8At p 1
  match s.lifeSays n false with
  | some e => no s e
  | none =>
    if ¬ s.bindOk (bindAt p 2) n false 0 then no s .badParam
    else if (s.stall k).owner.isSome then no s .busy
    else yes ((s.stallReset k).updStall k (fun t => { t with owner := some n, bind := bindAt p 2 }))

/-- STALL_ASSIGN (R224). -/
def execStallAssign (rq : Request) (s : State) : Out :=
  serve specStallAssign rq s (fun p => p.length = 6 && 4 ≤ u8At p 0 && u8At p 0 ≤ 63 && u8At p 1 ≤ 62) (ownStallAssign rq)

/-- STALL_WITHDRAW, 0x0208. -/
def specStallWithdraw : CmdSpec := { op := 0x0208, who := [.mgr], st := true }

/-- STALL_WITHDRAW (R224). -/
def execStallWithdraw (rq : Request) (s : State) : Out :=
  serve specStallWithdraw rq s (fun p => p.length = 1 && 4 ≤ u8At p 0 && u8At p 0 ≤ 63) (fun s =>
    let k := u8At rq.payload 0
    yes (if (s.stall k).owner.isSome then s.stallClose k else s))

/-- GUEST_FILE_BIND, 0x0209. -/
def specGuestFileBind : CmdSpec := { op := 0x0209, who := [.mgr] }

/-- A guest file is bound to an instance whose share holds it, or unbound (R171, R527, R528). -/
def ownGuestFileBind (rq : Request) (s : State) : State × Ans :=
  let n := u8At rq.payload 0
  let hart := u8At rq.payload 1
  let file := u8At rq.payload 2
  let k := hart * 16 + file
  let cur := if s.core.guestFiles.has k then some (Tab.get s.core.guestFiles k 0) else none
  if n = 0xFF then
    match cur with
    | none => yes s
    | some m =>
      if s.fileUsed m hart file then no s .busy
      else yes (s.onCore (fun c => { c with guestFiles := Tab.drop c.guestFiles k }))
  else match s.lifeSays n false with
    | some e => no s e
    | none =>
      if ¬ (filesOf (s.inst n).shares).contains (hart, file) then no s .badParam
      else if cur ≠ none ∧ cur ≠ some n then no s .busy
      else yes (s.onCore (fun c => { c with guestFiles := Tab.put c.guestFiles k n }))

/-- GUEST_FILE_BIND (R528). -/
def execGuestFileBind (rq : Request) (s : State) : Out :=
  serve specGuestFileBind rq s (fun p => p.length = 3 && (u8At p 0 ≤ 62 || u8At p 0 = 0xFF) && u8At p 1 < 8
    && 1 ≤ u8At p 2 && u8At p 2 ≤ 15) (ownGuestFileBind rq)

end Sys2Proof.Machine
end

