-- ==== Sys2Proof/Machine/Supply.lean ====
section
/-! DEFINITION. Supply: feeds, VBUS, CRANK, overvoltage, the hold-up bank, supply loss and power-down, and what a reset
reaches (R32 to R34, R49 to R59, R67, R68, R77 to R83, R102). -/

namespace Sys2Proof.Machine

open Sys2Proof

/-! ### Feeds -/

/-- A supply event enters the ledger: by Amind while it runs, otherwise by the always-on domain, which alone runs then. -/
def State.logEither (s : State) (e : Ev) (data : List Byte) : State :=
  if ¬ s.powered ∨ s.aon.mode = .off then s else if s.amindUp then s.log e data else s.logAon e data

/-- A feed while nothing measures its current. -/
def Feed.unread (f : Feed) : Feed := { f with cur := 0, above := 0, shedding := false }

/-- A new mean of 1 ms of a feed's current; the power stage sheds from 50 ms above 175 A until the current is below 160 A (R34, R491). -/
def Feed.sampled (f : Feed) (cur : U16) : Feed :=
  let n := if 1750 < cur.toNat then min 50 (f.above + 1) else 0
  { f with cur := cur, above := n, shedding := decide (50 ≤ n) || (f.shedding && decide (1600 ≤ cur.toNat)) }

/-- Feed A or B. -/
def Supply.feed (u : Supply) (b : Bool) : Feed := if b then u.feedB else u.feedA
/-- Change feed A or B. -/
def Supply.updFeed (u : Supply) (b : Bool) (f : Feed → Feed) : Supply :=
  if b then { u with feedB := f u.feedB } else { u with feedA := f u.feedA }

/-- The module load budget follows the feeds: 250 A, or 160 A with one feed alone (R34). -/
def State.feedsStep (s : State) : State :=
  s.onPs (fun p => { p with budget := if s.supply.feedA.lost || s.supply.feedB.lost then 1600 else 2500 })

/-- The byte that names a feed in the ledger: 0 A, 1 B (R606). -/
def feedByte (b : Bool) : Byte := if b then 1 else 0

/-- FEED_SWITCH_OPEN: the feed is reversed or more than 0.5 V below VBUS (R33). -/
def execFeedSwitchOpen (feed : Bool) (s : State) : Out :=
  if ¬ (s.supply.feed feed).closed then .next s
  else
    let s1 := s.onSupply (fun u => u.updFeed feed (fun _ => { lost := true }))
    fin (s1.feedsStep.logEither .feedLost [feedByte feed])

/-- A feed switch closes; a feed that was reported lost is restored. -/
def State.feedClose (s : State) (feed : Bool) : State :=
  let was := (s.supply.feed feed).lost
  let s1 := (s.onSupply (fun u => u.updFeed feed (fun f => { f with closed := true, lost := false }))).feedsStep
  if was then s1.logEither .feedRestored [feedByte feed] else s1

/-- FEED_SWITCH_CLOSE: the feed has been acceptable for 10 ms, beside a closed switch (R32, R33). -/
def execFeedSwitchClose (feed : Bool) (s : State) : Out :=
  if (s.supply.feed feed).closed then .next s else fin (s.feedClose feed)

/-- FEED_CONNECT_NO_SOURCE: with no switch closed, each feed that is not reversed, as the operand says of A and B, connects at once
(R33, R627). -/
def execFeedConnectNoSource (feeds : FeedPair) (s : State) : Out :=
  if s.supply.feedA.closed ∨ s.supply.feedB.closed then .next s
  else
    let s1 := if feeds.a then s.feedClose false else s
    fin (if feeds.b then s1.feedClose true else s1)

/-! ### VBUS -/

/-- VBUS is judged anew: the bank charges in the functional range with CRANK clear until it is ready (R57). -/
def State.charge (s : State) (mv : U16) : State :=
  s.onSupply (fun u => { u with
    vbus := mv, bankCharging := s.inFunctional mv && !u.crank && !u.bankReady && !u.holdup && !u.porHeld })

/-- CRANK_SET: VBUS falls below the functional low limit (R50). -/
def execCrankSet (mv : U16) (s : State) : Out :=
  if ¬ s.powered ∨ s.supply.holdup ∨ s.supply.crank ∨ s.supply.straps.net.functional.1 ≤ mv.toNat then .next s
  else fin ((s.onSupply (fun u => { u with crank := true })).charge mv)

/-- CRANK_CLEAR: VBUS has stayed 0.5 V above the limit for 1 ms; the inrush window of every channel that is on begins anew
(R50, R471). -/
def execCrankClear (mv : U16) (s : State) : Out :=
  if ¬ s.supply.crank ∨ s.supply.holdup ∨ mv.toNat < s.supply.straps.net.functional.1 + 500 then .next s
  else
    let s1 := (s.onSupply (fun u => { u with crank := false })).charge mv
    fin ((List.range 60).foldl (fun t c =>
      if (t.load c).lit then t.updLoad c (fun ch => { ch with prot := { ch.prot with inrush := true } }) else t) s1)

/-- OVERVOLTAGE_ENTER: every load channel and auxiliary driver is off (R52, R443). -/
def execOvervoltageEnter (mv : U16) (s : State) : Out :=
  if ¬ s.powered ∨ s.supply.holdup ∨ mv.toNat ≤ s.supply.straps.net.functional.2 then .next s
  else
    let s1 := (s.onSupply (fun u => { u with overvolt := true })).charge mv
    fin (s.loadAll s1)

/-- OVERVOLTAGE_EXIT: VBUS has been in the functional range for 10 ms; channels return to their command (R52, R486). -/
def execOvervoltageExit (mv : U16) (s : State) : Out :=
  if ¬ s.supply.overvolt ∨ s.supply.holdup ∨ ¬ s.inFunctional mv then .next s
  else
    let s1 := (s.onSupply (fun u => { u with overvolt := false })).charge mv
    fin (s.loadAll s1)

/-- BANK_READY: the bank reaches 26 V (R57). -/
def execBankReady (s : State) : Out :=
  if s.supply.bankCharging then fin (s.onSupply (fun u => { u with bankReady := true, bankCharging := false })) else .next s

/-! ### Reach of a reset and of power-down -/

/-- What Amind keeps outside its volatile memory: the ledger, the generations of handles, images, the service record (R78). -/
def Mgmt.kept (m : Mgmt) (l : Ledger) : Mgmt :=
  { ledger := l, handles := { gens := m.handles.gens, starts := m.handles.starts }, targets := m.targets,
    stored := m.stored, svcA := m.svcA, svcB := m.svcB, svcNewB := m.svcNewB, svc := m.svc
    amind := { nextFresh := m.amind.nextFresh } }

/-- The key store keeps its non-volatile records alone: nodes and journal (R78, R537, R546). -/
def KeyStore.kept (k : KeyStore) : KeyStore :=
  { nodes := k.nodes, slotA := k.slotA, slotB := k.slotB, homeCounter := k.homeCounter, life := k.life, signed := k.signed }

/-- The domains outside the always-on domain and the power stage are reset (R78, R91): harts, fabric, engines, instances,
handles, Amind, the key store's volatile state, every SRAM and the DRAM key. The retained ledger buffer is kept. -/
def State.domainsReset (s : State) : State :=
  { s with
    timers := []
    core := { fresh := s.core.fresh, dramEpoch := s.core.dramEpoch + 1 }
    mgmt := s.mgmt.kept { s.mgmt.ledger with rate := [], dropped := [] }
    sw := {}, eth := {}, bus := {}, ce := {}, pass := {}
    ks := s.ks.kept
    inp := { wkLevel := s.inp.wkLevel, ign := s.inp.ign, pol := s.inp.pol, sensRun := s.inp.sensRun, sensPart := s.inp.sensPart }
    tb := { s.tb with gstate := if s.tb.gstate = 1 then 2 else s.tb.gstate, shadowL := [], shadowG := [] }
    ps := { s.ps with delivered := false, eventEn := 0, ignored := [], groups := []
                      chans := s.ps.chans.map (fun e => (e.1, { e.2 with owned := false, out := {} })) } }

/-- A channel at power-on: its non-volatile defaults or, where no stored configuration has set it, the class defaults; its latches and
its retry counter; no claim. A restored wire latch keeps its restart condition (R78, R103, R458, R477 to R480, R492). -/
def LoadCh.atPowerOn (c : Nat) (nv : Option LoadCfg) (ch : LoadCh) : LoadCh :=
  { cfg := match nv with
      | none => (LoadCh.initial c).cfg
      | some g => { (LoadCh.initial c).cfg with
          policy := g.policy, safeVal := g.safeVal, limp := g.limp, dual := g.dual, holdMs := g.holdMs
          limit := g.limit, thermLatch := g.thermLatch, rank := g.rank, thLimit := g.thLimit
          xsec := g.xsec, tau := g.tau, tlim := g.tlim }
    recorded := nv.isSome
    prot := { oc := ch.prot.oc, th := ch.prot.th, wire := ch.prot.wire, count := ch.prot.count, wireHot := ch.prot.wire } }

/-- The power stage at power-on (R458, R492, R493). -/
def PowerStage.atPowerOn (p : PowerStage) : PowerStage :=
  { wireAmb := p.nvAmb, nvAmb := p.nvAmb, nv := p.nv, starts := p.starts
    chans := (List.range 60).filterMap (fun c =>
      if p.chans.has c || p.nv.has c then
        some (c, (Tab.get p.chans c (LoadCh.initial c)).atPowerOn c (if p.nv.has c then some (Tab.get p.nv c {}) else none))
      else none) }

/-- The wake state that the hold-up commit sequence writes to non-volatile memory (step 6 of R102). -/
def Sleep.saved (p : Sleep) : SavedWake :=
  { latch := p.latch, lastSource := p.lastSource, valid := p.valid, late := p.late, confirmed := p.confirmed, time := p.time }

/-- The module loses power: what remains is non-volatile, or belongs to the outside (R78, R103). A start is possible after
`waiting` ends. -/
def State.powerDown (s : State) (ok waiting : Bool) : State :=
  { supply := { feedA := s.supply.feedA.unread, feedB := s.supply.feedB.unread
                straps := s.supply.straps, vbus := s.supply.vbus, lastCommitOk := ok, holdupWait := waiting
                savedWake := s.supply.savedWake
                pinHeld := s.supply.pinHeld || s.supply.pinDeferred }
    aon := { failedStarts := s.aon.failedStarts, startNo := s.aon.startNo, lifecycle := s.aon.lifecycle
             lifeCount := s.aon.lifeCount, ownerKey := s.aon.ownerKey, nextHoldup := ok }
    core := { fresh := s.core.fresh, dramEpoch := s.core.dramEpoch + 1 }
    mgmt := s.mgmt.kept { stored := s.mgmt.ledger.stored, lastSeq := s.mgmt.ledger.lastSeq }
    ks := s.ks.kept
    inp := { pol := s.inp.pol, wkLevel := s.inp.pol, sensRun := s.inp.sensRun, sensPart := s.inp.sensPart }
    ps := s.ps.atPowerOn
    pending := s.pending }

/-! ### Supply loss -/

/-- The ride-through floor, mV (R45, R49, R51). -/
def NetSel.floor : NetSel → Nat
  | .v12 => 3000
  | .v24 => 6000
  | .v48 => 24000
  | .invalid => 3000

/-- Bytes of the supply-loss entry: VBUS and cause (R606). -/
def lossData (mv : U16) (cause : Byte) : List Byte := leBytes 2 mv.toNat ++ [cause]

/-- Every MACsec key register is zeroed, and with it the association that it serves. -/
def State.macsecZero (s : State) : State :=
  s.onEth (fun e => { e with macsecs := e.macsecs.map (fun m => (m.1, { m.2 with tx := [], rx := [], txValid := false })) })

/-- The hold-up commit sequence begins: FAULT_N low, every channel off, initiators stopped, jobs abandoned, key registers
zeroed, the entry written; held power requests, votes and the sleep order end (R102, R205). -/
def State.holdupBegin (s : State) (mv : U16) (cause : Byte) : State :=
  let s1 := ((s.onSupply (fun u => { u with
      vbus := mv, holdup := true, faultLow := true, lastCommitOk := false, bankCharging := false })).logAon
    .supplyLoss (lossData mv cause)).onCore (fun c => { c with waiting := [], toPartial := none, toRun := none })
  let s2 := (s1.onCe (fun c => { c with jobs := [] })).onKs (fun k => { k with engine := [] })
  let s3 := s2.macsecZero.onSleep (fun p => { p with phase := 0, order := none, window := false })
  s.loadAll s3

/-- SUPPLY_LOSS: VBUS below the floor (0), CRANK set for more than 100 ms (1), or a ground shift (2) (R51, R56, R65). Without a
ready bank the module is off at once, and the entry is lost (R57). A loss that comes during the hold-up commit sequence changes VBUS as
last judged alone: the sequence completes (R59; DESIGN CHOICE, log entry 140). -/
def execSupplyLoss (mv : U16) (cause : Byte) (s : State) : Out :=
  if ¬ s.powered ∨ 2 < cause.toNat ∨ (cause = 0 ∧ s.supply.straps.net.floor ≤ mv.toNat)
      ∨ (cause = 1 ∧ ¬ s.supply.crank) then .next s
  else if s.supply.holdup then fin (s.onSupply (fun u => { u with vbus := mv }))
  else if s.supply.bankReady then fin (s.holdupBegin mv cause)
  else fin ((s.onSupply (fun u => { u with vbus := mv })).powerDown false (!s.inFunctional mv))

/-- HOLDUP_COMMIT_COMPLETE: the buffer is in the partition, the wake state and the marker are written, the logic powers down; VBUS as it
was last judged decides whether the module starts again at once (R59, R102). -/
def execHoldupCommitComplete (s : State) : Out :=
  if ¬ s.supply.holdup then .next s
  else
    let s1 := s.commitBuffer.onSupply (fun u => { u with savedWake := s.sleep.saved })
    fin (s1.powerDown true (!s.inFunctional s.supply.vbus))

/-- HOLDUP_RESTART: while the module waits in OFF, VBUS enters the functional range; the release of power-on reset follows
(R59, R77). -/
def execHoldupRestart (mv : U16) (s : State) : Out :=
  if ¬ s.supply.holdupWait ∨ ¬ s.inFunctional mv then .next s
  else fin (s.onSupply (fun u => { u with vbus := mv, holdupWait := false }))

/-! ### Reset pin -/

/-- RST_REQ_PULSE_END: the 1 ms pulse ends (R67). -/
def execRstReqPulseEnd (s : State) : Out :=
  if s.supply.rstReq then fin (s.onSupply (fun u => { u with rstReq := false })) else .next s

/-- What a start forgets of the order to sleep; the wake record, quarantine and the sleep status are kept (R78, R439). -/
def Sleep.atReset (p : Sleep) : Sleep :=
  { aborted := p.aborted, drainCut := p.drainCut, drainMs := p.drainMs, lastSource := p.lastSource, valid := p.valid
    late := p.late, confirmed := p.confirmed, time := p.time, latch := p.latch, lateLatch := p.lateLatch, cfg := p.cfg
    sleepsSent := p.sleepsSent, wakesSent := p.wakesSent }

/-- The always-on domain enters START, before step 1 (R72, R78). -/
def Aon.atReset (a : Aon) : Aon :=
  { a with
    mode := .start, target := .run, startGood := false, goodTime := 0, step := 0, recoveryAt3 := false, goodIssued := false
    bootRom := false
    safeFromRecovery := false, safeDelay := false, lifePending := none, wdogRunning := false }

/-- The reach of a pin reset (R71, R78, R455): the reset policies act, and every domain but the always-on domain and the power
stage is reset. Safe values in force stay in force over the policies' results until t0 of the next start, since PS_STATUS.SAFE_VALUES is
kept by a pin reset (R466; DEDUCED, log entry 115). -/
def State.pinReach (s : State) : State :=
  let s1 := s.loadPolicies (BitVec.allOnes 64)
  let s2 := { s1.domainsReset with aon := s1.aon.atReset, sleep := s1.sleep.atReset }
  s.loadAll s2

/-- RESET_N_VALID: a valid low level on RESET_N (R68, R79, R80, R82, R83). A request counts when its own pulse is in progress. -/
def execResetNValid (s : State) : Out :=
  if s.supply.pinHeld then .next s
  else if s.supply.porHeld then fin (s.onSupply (fun u => { u with pinHeld := true }))
  else if s.supply.holdup then fin (s.onSupply (fun u => { u with pinDeferred := true }))
  else
    let s1 := s.onAon (fun a => { a with nextPin := true, nextReq := if s.supply.rstReq then a.nextReq else none })
    fin (s1.pinReach.onSupply (fun u => { u with pinHeld := true, faultLow := true }))

/-- POWER_ON_RESET_RELEASE: the straps are sampled; the always-on domain and the power stage start (R44, R72, R77 to R79). A feed whose
switch is open at that moment counts as reported lost, with the budget of one feed and source 7 but without an entry FEED_LOST, since no
switch has opened (DESIGN CHOICE, log entry 70). -/
def execPowerOnResetRelease (net : NetSel) (pairOpen svcOpen : Bool) (s : State) : Out :=
  if ¬ s.supply.porHeld ∨ s.supply.holdupWait then .next s
  else
    let s1 := s.onSupply (fun u => { u with
      porHeld := false, vbusWait := true, faultLow := true
      straps := { net := net, pairOpen := pairOpen, svcOpen := svcOpen }
      feedA := { u.feedA with lost := !u.feedA.closed }, feedB := { u.feedB with lost := !u.feedB.closed } })
    let s2 := s1.onAon (fun a => { a with mode := .start, nextPor := true, nextPin := s.supply.pinHeld, nextReq := none })
    let s3 := s2.feedsStep.charge s2.supply.vbus
    fin (s3.onSupply (fun u => { u with vbusSeen := s3.inFunctional u.vbus }))

/-! ### The beginning of a start -/

/-- The key store at step 2: both journal slots are read, the latest entry is completed, a new life-cycle count ends the tree,
and layer 0 is measured (R534, R547, R621). Alarm 5 where neither slot is valid (R564). -/
def KeyStore.atStep2 (k : KeyStore) (lifeCount : U32) : KeyStore :=
  let k1 := { k with layers := [(0, fixLen 48 Config.romDigest)] }
  if ¬ k.slotA.valid ∧ ¬ k.slotB.valid then { k1 with st := .alarmed, alarm := 5, ksEvent := k.ksEvent ||| 1 }
  else
    let last := if k.latestA then k.slotA else k.slotB
    let k2 :=
      if k.homeCounter = k.counter then k1
      else { k1 with
        nodes := applyChanges k.nodes last.changes, homeCounter := k.counter, replayed := true
        ksEvent := k.ksEvent ||| 2 }
    if k.life = lifeCount then k2 else { k2 with nodes := [], life := lifeCount }

/-- The failed-start counter and the trial flag at step 1 (R88): RECOVERY at step 3, or one more counted start. -/
def Aon.countStart (a : Aon) : Aon :=
  if a.failedStarts.toNat < 3 then { a with failedStarts := a.failedStarts + 1 }
  else if a.trial then { a with failedStarts := satInc a.failedStarts, trial := false }
  else { a with recoveryAt3 := true }

/-- Step 1 latches the reset cause (R105). -/
def Aon.latchCause (a : Aon) (wake : Bool) : Aon :=
  { a with
    cause := { por := a.nextPor, pin := a.nextPin, req := if a.nextPin then a.nextReq else none
               startTimeout := a.nextPin && a.nextTimeout, wake := wake, holdup := a.nextPor && a.nextHoldup }
    nextPor := false, nextPin := false, nextReq := none, nextTimeout := false, nextHoldup := false }

/-- Steps 1 and 2 of a start, at t0 (R84, R88, R105, R237, R533, R547): the cause latched, the start counted, FAULT_N low, and safe values
at their end: those of a trigger in COMMITTED by row 2 of R443, those of SAFE by the end of SAFE (DEDUCED, log entry 115). -/
def State.startBegin (s : State) (wake : Bool) : State :=
  let s1 := s.onAon (fun a => { (a.latchCause wake).countStart with
    mode := .start, step := 2, startNo := a.startNo + 1, t0 := s.now, safeInCommitted := false })
  let s2 := (s1.onSupply (fun u => { u with faultLow := true })).onPs (fun p => { p with safeValues := false })
  let s3 := s2.onMgmt (fun m => { m with
    handles := { gens := m.handles.gens, starts := m.handles.starts + 1 }
    targets := m.targets.map (fun e => (e.1, { e.2 with loaded := none, onTrial := false })) })
  let s4 := s3.onKs (fun k => k.atStep2 s.aon.lifeCount)
  s.loadAll s4

/-- START_VBUS_WAIT_END: VBUS has been in the functional range for 2 ms after power-on (R77); a held RESET_N delays the start
(R79). -/
def execStartVbusWaitEnd (s : State) : Out :=
  if ¬ s.supply.vbusWait ∨ s.supply.holdup ∨ ¬ s.inFunctional s.supply.vbus then .next s
  else
    let s1 := s.onSupply (fun u => { u with vbusWait := false })
    fin (if s.supply.pinHeld then s1 else s1.startBegin false)

/-- RESET_N_RELEASE: RESET_N has read high for 10 µs; the start begins once both reset sources are released (R79, R81). -/
def execResetNRelease (s : State) : Out :=
  if s.supply.holdup then fin (s.onSupply (fun u => { u with pinDeferred := false, pinHeld := false }))
  else if ¬ s.supply.pinHeld then .next s
  else
    let s1 := s.onSupply (fun u => { u with pinHeld := false })
    fin (if s.supply.porHeld ∨ s.supply.vbusWait then s1 else s1.startBegin false)

end Sys2Proof.Machine
end

