-- ==== Sys2Proof/Machine/Sleep.lean ====
section
/-! DEFINITION. Network sleep and wake: the sleep order and its phases, wake latches, false wakes and quarantine, the start from
SLEEP, and WAKE_CONFIG, WAKE_STATUS, SLEEP_ORDER (R205, R274, R275, R417 to R434, R457). -/

namespace Sys2Proof.Machine

open Sys2Proof

/-! ### The order -/

/-- A sleep order begins, the manager's or the module's own (R205, R421). -/
def State.orderBegin (s : State) (self : Bool) (order : Option (Nat × U16)) : State :=
  let s1 := s.onSleep (fun p => { p with
    phase := 1, aborted := false, self := self, latch := 0, pending := false, fromMode := s.aon.mode, order := order
    portsSlept := 0, portsAsked := 0, portsCut := 0, linSlept := 0 })
  (s1.unsolicited 2 0 []).log .sleepOrdered [if self then 1 else 0]

/-- The notice of the order with BUSY and the source in its payload (R274). -/
def State.orderBusy (s : State) (source : Byte) : State :=
  match s.sleep.order with
  | none => s
  | some (k, q) =>
    match s.pendOf k q with
    | none => s
    | some p =>
      (s.closePend k p .busy).notice k
        { opcode := p.opcode, seq := p.seq, status := Status.busy.code, payload := [source, 0, 0, 0] }

/-- DRAINING ends: its duration is shown, and whether the limit ended it (R439). -/
def State.drainEnd (s : State) (cut : Bool) : State :=
  if s.sleep.phase ≠ 2 then s
  else s.onSleep (fun p => { p with
    drainCut := cut, drainMs := BitVec.ofNat 16 (min 65535 ((s.now.toNat - p.drainStart.toNat) / 1000000)) })

/-- The order is closed. -/
def State.orderClosed (s : State) : State :=
  s.onSleep (fun p => { p with phase := 0, self := false, order := none, pending := false, portsAsked := 0 })

/-- The links and channels that went to sleep under the order are woken, and PHYs that were cut are powered (R424). -/
def State.wakeLinks (s : State) : State :=
  let p := s.sleep
  let s1 := (portsOf p.portsSlept).foldl (fun t k =>
    (t.updEthPort k (fun e => { e with lowPower := false })).onSleep (fun x => { x with wakesSent := x.wakesSent + 1 })) s
  let s2 := (portsOf p.portsCut).foldl (fun t k => t.updEthPort k (fun e => { e with phyOff := false })) s1
  (portsOf p.linSlept).foldl (fun t n =>
    (t.updLin n (fun l => { l with goSleep := false, st := if l.en && l.st = .stopped then .active else l.st })).linPulse n) s2

/-- A wake aborts the order (R424). -/
def State.orderAbort (s : State) (source : Nat) : State :=
  let s1 := s.wakeLinks.orderBusy (BitVec.ofNat 8 source)
  let s2 := (s1.orderClosed.onSleep (fun p => { p with aborted := true })).log .sleepAbort [BitVec.ofNat 8 source]
  if s.aon.mode = .part ∧ (s.wakeCfg source).toRun then s2.runBegin [] else s2

/-- SLEEP_ORDER, 0x0603. -/
def specSleepOrder : CmdSpec := { op := 0x0603, who := [.mgr] }

/-- SLEEP_ORDER (R274, R417, R421). -/
def execSleepOrder (rq : Request) (s : State) : Out :=
  serve specSleepOrder rq s (fun p => p = []) (fun s =>
    if s.sleep.phase ≠ 0 then no s .busy else wait (s.orderBegin false (some (rq.route.key, rq.seq))) 0)

/-! ### ORDERED and DRAINING -/

/-- A port with TC10 enters sleep under the order. -/
def State.portDrained (s : State) (p : Nat) : State :=
  ((s.linkDown p).updEthPort p (fun e => { e with lowPower := true })).onSleep (fun x =>
    { x with portsSlept := x.portsSlept ||| bitOf 32 p })

/-- Ports with TC10 enabled whose link is up. -/
def State.tc10Up (s : State) : List Nat := (List.range 22).filter (fun p => (s.ethPort p).tc10 && (s.ethPort p).link)

/-- A commander channel that runs and does not sleep. -/
def State.linAwake (s : State) (n : Nat) : Bool :=
  (s.lin n).en && ((s.lin n).st = .active || (s.lin n).st = .waking)

/-- SLEEP_PREPARATIONS_ISSUED: MASTER ports send TC10 sleep requests and stay awake until their link partner acknowledges; commander LIN
channels receive GOTO_SLEEP (R418, R419, R421, R422). -/
def execSleepPreparationsIssued (s : State) : Out :=
  if s.sleep.phase ≠ 1 then .next s
  else
    let s1 := s.onSleep (fun p => { p with phase := 2, drainStart := s.now, drainSeq := s.mgmt.ledger.lastSeq })
    let s2 := (s.tc10Up.filter (fun p => s.mgmt.stored.sleepMaster.getLsbD p)).foldl (fun t p =>
      t.onSleep (fun x => { x with sleepsSent := x.sleepsSent + 1, portsAsked := x.portsAsked ||| bitOf 32 p })) s1
    fin ((List.range 8).foldl (fun t n =>
      if (t.lin n).responder = false ∧ t.linAwake n then
        (t.updLin n (fun l => { l with goSleep := true })).onSleep (fun x => { x with linSlept := x.linSlept ||| bitOf 8 n })
      else t) s2)

/-- TC10_SLEEP_REQUEST_RECEIVE: a FOLLOWER port accepts in DRAINING and COMMITTED, and rejects otherwise (R418). At a MASTER port it is the
link partner's acknowledgement of the request that the port has sent (R422; DESIGN CHOICE, log entry 82). -/
def execTc10SleepRequestReceive (port : Nat) (s : State) : Out :=
  if 22 ≤ port then noUnit
  else if (s.ethPort port).tc10 ∧ (s.ethPort port).link ∧ (¬ s.mgmt.stored.sleepMaster.getLsbD port ∨ s.sleep.portsAsked.getLsbD port)
      ∧ (s.sleep.phase = 2 ∨ s.sleep.phase = 3) then fin (s.portDrained port)
  else .next s

/-- The drain conditions (R422). -/
def State.drained (s : State) : Bool :=
  s.tc10Up.isEmpty
    && (List.range 8).all (fun n => (s.lin n).responder || !s.linAwake n)
    && s.mgmt.ledger.buffer.all (fun e => decide (s.sleep.drainSeq < e.seq))

/-- DRAINING ends: explicit keep-votes are discarded and recorded (R205). -/
def State.votesDrop (s : State) : State :=
  let held := blockIds.filter (fun b => decide (0 < (s.block b).votes))
  if held.isEmpty then s
  else
    let s1 := held.foldl (fun t b => (t.updBlock b (fun x => { x with votes := 0 })).voteEnded b) s
    s1.log .keepvoteDropped ((held.take 24).map (fun b => BitVec.ofNat 8 b))

/-- COMMITTED begins: the notice OK, CAN channels stopped or in selective-wake standby (`canPhy`), the beacon silent where the module is the
PLCA coordinator, loads outside SLEEP_KEEP off (R274, R359, R372, R419, R421, R436). -/
def State.commit (s : State) : State :=
  let s1 := (s.onSleep (fun p => { p with phase := 3, order := none })).completeOpt s.sleep.order .ok []
  let s2 := (List.range 16).foldl (fun t n => ((t.canOffBus n).canGoto n .stopped).updCan n (fun c => { c with frameErr := 0 })) s1
  let s3 := ((List.range 4).foldl (fun t k => t.updEthPort (22 + k) (fun e =>
      if e.plca.nodeId = 0 then { e with plca := { e.plca with active := false } } else e)) s2)
  s.loadAll s3

/-- The commit step, in one cycle: an abort where a wake is latched, COMMITTED otherwise (R423). -/
def State.commitStep (s : State) (cut : Bool) : State :=
  let s2 := (s.drainEnd cut).votesDrop
  if s2.sleep.pending then s2.orderAbort s2.sleep.lastSource.toNat else s2.commit

/-- DRAIN_CONDITIONS_MET (R422, R423). -/
def execDrainConditionsMet (s : State) : Out :=
  if s.sleep.phase = 2 ∧ s.drained then fin (s.commitStep false) else .next s

/-- DRAIN_LIMIT_EXPIRY: what is not yet asleep is powered off and recorded, then the commit step (R421). -/
def execDrainLimitExpiry (s : State) : Out :=
  if s.sleep.phase ≠ 2 then .next s
  else
    let ports := s.tc10Up
    let lins := (List.range 8).filter s.linAwake
    let pm := ports.foldl (fun (m : U32) p => m ||| bitOf 32 p) 0
    let lm := lins.foldl (fun (m : Byte) n => m ||| bitOf 8 n) 0
    let s1 := ports.foldl (fun t p => (t.linkDown p).updEthPort p (fun e => { e with phyOff := true })) s
    let s2 := lins.foldl (fun t n => t.updLin n (fun l => { l with st := .stopped, header := none, begun := false })) s1
    let s3 := s2.onSleep (fun x => { x with portsCut := pm, linSlept := x.linSlept ||| lm })
    fin ((s3.log .drainCut (leBytes 4 pm.toNat ++ [lm])).commitStep true)

/-! ### SLEEP -/

/-- The command of a channel moves to the power stage, which keeps it in SLEEP (R436). -/
def State.loadsKeep (s : State) : State :=
  (List.range 60).foldl (fun t c =>
    let m := { s with ps := { s.ps with safeValues := false } }.loadCmd c
    if (s.load c).cfg.keepSleep ∧ (s.load c).held.isNone then t.updLoad c (fun ch => { ch with base := m.1, baseSrc := m.2 }) else t) s

/-- The wake filters of the armed channels stay with their transceivers in SLEEP (R372, R373, R430). -/
def State.wakeKeep (s old : State) : State :=
  ((List.range 8).filter (fun n => (old.can n).armed)).foldl (fun t n =>
    t.updCan n (fun c => { c with armed := true, wakeOn := (old.can n).wakeOn, frameErr := (old.can n).frameErr })) s

/-- COMMITTED_DOMAINS_OFF: SLEEP. AON_WAKE_LATCH begins anew; a wake latched in COMMITTED still brings its start (R421, R425, R436, R439;
DEDUCED, log entry 161). -/
def execCommittedDomainsOff (s : State) : Out :=
  if s.sleep.phase ≠ 3 then .next s
  else
    let s0 := s.loadsKeep
    let s1 := ((s0.domainsReset.wakeKeep s0).onAon (fun a => { a with mode := .sleep, step := 0, startGood := false, goodTime := 0 })).onSleep
      (fun p => { p with
        phase := 0, self := false, order := none, dwellDone := false, latch := 0, lateLatch := p.latch, portsAsked := 0 })
    let s2 := (List.range 8).foldl (fun t p => t.updPair p (fun q => { q with st := .off })) s1
    fin (s.loadAll s2).sensStep

/-- Every channel kept in SLEEP is held from t0 with the state in force; every other channel is off (R457). -/
def State.loadsAfterSleep (s : State) : State :=
  (List.range 60).foldl (fun t c =>
    if (s.load c).cfg.keepSleep then t.updLoad c (fun ch => ch.hold (s.loadCmd c).1 s.now)
    else t.updLoad c (fun ch => ch.apply offCmd .policy)) s

/-- A start from SLEEP begins: its target is that of the first source, RUN after a SAFE trigger in COMMITTED; the confirmation
window opens (R74, R78, R99, R430, R432). -/
def State.sleepStart (s : State) : State :=
  let p := s.sleep
  let run := s.aon.safeInCommitted || (s.wakeCfg p.lastSource.toNat).toRun
  let more := !run && (List.range 64).any (fun n => (p.latch ||| p.lateLatch).getLsbD n && (s.wakeCfg n).toRun)
  let s1 := s.loadsAfterSleep.onAon (fun a => { a.atReset with target := if run then .run else .part })
  let s2 := s1.onCore (fun c => { c with pairs := [] })
  (s2.onSleep (fun x => { x.atReset with window := true, runAfterGood := more })).startBegin true

/-- SLEEP_DWELL_END: with a wake latched, or a SAFE trigger taken in COMMITTED, the start begins (R99, R425). -/
def execSleepDwellEnd (s : State) : Out :=
  if s.aon.mode ≠ .sleep then .next s
  else if s.sleep.pending ∨ s.aon.safeInCommitted then fin s.sleepStart
  else fin (s.onSleep (fun p => { p with dwellDone := true }))

/-! ### Wake events -/

/-- A source is latched: the first of an order or of a SLEEP is the source of the wake, and of sources that latch in the same cycle the
one with the lower code (R430). -/
def State.latchWake (s : State) (n : Nat) (late : Bool) : State :=
  s.onSleep (fun p =>
    let p1 := { p with latch := p.latch ||| bitOf 64 n }
    if p.pending then
      (if p.time = s.now ∧ n < p.lastSource.toNat then { p1 with lastSource := BitVec.ofNat 6 n } else p1)
    else { p1 with
      pending := true, lastSource := BitVec.ofNat 6 n, valid := true, late := late, confirmed := false, time := s.now })

/-- A frame is the wake-up frame of a channel (R373). -/
def CanWake.wakes (w : CanWake) (f : CanFrame) : Bool :=
  !f.fdf && !f.xlf && !f.rtr && f.ide = w.ide && (f.id ^^^ w.id) &&& w.mask = 0 && f.dlc = w.dlc.toNat
    && (w.dlc = 0 || ((List.range 8).zip f.data).any (fun e => e.2 &&& w.data.extractLsb' (8 * e.1) 8 ≠ 0))

/-- The frame error counter of a transceiver after what it saw: a frame in error raises it, a good frame lowers it, and an FD or XL frame is
tolerated (R373; PRESUMED of ISO 11898-2, log entry 56). -/
def frameErrAfter (n : Nat) (f : Option CanFrame) : Nat :=
  match f with
  | none => n + 1
  | some f => if f.fdf || f.xlf then n else n - 1

/-- The transceiver of a CAN source sees a frame or an error (R373). -/
def State.wakeSeen (s : State) (f : WakeFire) : State :=
  if 16 ≤ f.source ∧ f.source ≤ 23 ∧ (s.can (f.source - 16)).armed then
    s.updCan (f.source - 16) (fun c => { c with frameErr := frameErrAfter c.frameErr f.frame })
  else s

/-- A source wakes: it is armed and not quarantined, and that of a CAN channel reports a wake-up frame or a frame error counter above 31
(R427, R429). -/
def State.wakeFires (s : State) (f : WakeFire) : Bool :=
  let c := s.can (f.source - 16)
  (s.wakeCfg f.source).arm && !(s.wakeCfg f.source).quar
    && (!(16 ≤ f.source && f.source ≤ 23) || (match f.frame with
      | some g => c.wakeOn.wakes g
      | none => decide (31 < c.frameErr)))

/-- The lowest code of a list. -/
def lowestCode : List Nat → Nat
  | [] => 0
  | [n] => n
  | n :: r => min n (lowestCode r)

/-- WAKE_EVENT: the sources that fire in one cycle (R373, R429, R430). -/
def execWakeEvent (fires : List WakeFire) (s : State) : Out :=
  if ¬ fires.all (fun f => wakeCode f.source) then noUnit
  else if ¬ s.powered ∨ s.supply.holdup then .next s
  else
    let s0 := fires.foldl State.wakeSeen s
    let codes := (fires.filter s0.wakeFires).map (fun f => f.source)
    let latched (late : Bool) : State := codes.foldl (fun t n => t.latchWake n late) s0
    if codes = [] then fin s0
    else if s.sleep.phase = 3 then fin (latched true)
    else if s.sleep.phase ≠ 0 then fin (((latched false).drainEnd false).orderAbort (lowestCode codes))
    else match s.aon.mode with
      | .sleep => fin (if s.sleep.dwellDone then (latched false).sleepStart else latched false)
      | .part => fin (if codes.any (fun n => (s.wakeCfg n).toRun) ∧ s.core.toRun.isNone then s0.runBegin [] else s0)
      | .run => fin s0
      | .off => fin s0
      | .start => fin s0
      | .safe => fin s0
      | .recovery => fin s0

/-- A confirmation of the wake by LAST_SOURCE stands (R432). -/
def State.wakeConfirmed (s : State) : Bool :=
  let n := s.sleep.lastSource.toNat
  s.inp.ign || (List.range 8).any (fun i => s.inp.wk.getLsbD i && (s.wakeCfg i).arm)
    || s.mgmt.amind.sessions.any (fun e => !e.2.setup)
    || (16 ≤ n && n ≤ 23 && ((s.can (n - 16)).stored
      || s.bus.gw.rules.any (fun r => r.2.kind = 1 && r.2.num.toNat = n - 16 && r.2.matched ≠ 0)))
    || (24 ≤ n && n ≤ 45 && (s.swPort (n - 24)).cnt.inFrames ≠ 0)
    || (n = 56 && s.pass.partner = .alive)

/-- WAKE_CONFIRMATION: the window closes confirmed once one of the six confirmations stands (R432). -/
def execWakeConfirmation (s : State) : Out :=
  if s.sleep.window ∧ s.wakeConfirmed then fin (s.onSleep (fun p => { p with window := false, confirmed := true })) else .next s

/-- FALSE_WAKE_TIMEOUT: the wake is false; the eleventh in an hour quarantines its source, but IGN; the module orders sleep itself
once START_GOOD is reached and no order is open (R417, R433, R434). -/
def execFalseWakeTimeout (s : State) : Out :=
  if ¬ s.sleep.window ∨ s.wakeConfirmed then .next s
  else
    let n := s.sleep.lastSource.toNat
    let s1 := s.onSleep (fun p => { p with window := false })
    let s2 := if s.sleep.valid then s1.updWake n (fun c => { c with falseTimes := s.now :: s.inHour c.falseTimes }) else s1
    let k := (s2.inHour (s2.wakeCfg n).falseTimes).length
    let s3 := if s.sleep.valid then s2.logEither .wakeFalse [BitVec.ofNat 8 n, BitVec.ofNat 8 (min 255 k)] else s2
    let s4 :=
      if s.sleep.valid ∧ 10 < k ∧ n ≠ 8 ∧ ¬ (s3.wakeCfg n).quar then
        (s3.updWake n (fun c => { c with quar := true })).logEither .wakeQuarantine [BitVec.ofNat 8 n]
      else s3
    fin (match s4.aon.mode with
      | .run => if s4.sleep.phase = 0 then s4.orderBegin true none else s4
      | .part => if s4.sleep.phase = 0 then s4.orderBegin true none else s4
      | .start => s4.onSleep (fun p => { p with falsePending := true })
      | .off => s4
      | .sleep => s4
      | .safe => s4
      | .recovery => s4)

/-- The CAN channel of a source shows its arming, and its filter takes effect as it is armed (R267, R373, R396). -/
def State.showArmed (s : State) (n : Nat) : State :=
  if 16 ≤ n ∧ n ≤ 23 then
    s.updCan (n - 16) (fun c => { c with armed := (s.wakeCfg n).arm, wakeOn := if (s.wakeCfg n).arm then c.wake else c.wakeOn })
  else s

/-- QUARANTINE_END: the source is free again, under the configuration that was stored meanwhile (R275, R434). -/
def execQuarantineEnd (source : Nat) (s : State) : Out :=
  if ¬ wakeCode source then noUnit
  else if ¬ (s.wakeCfg source).quar then .next s
  else
    let s1 := s.updWake source (fun c =>
      match c.held with
      | some (a, r, t) => { c with quar := false, held := none, arm := a, toRun := r, timeout := t }
      | none => { c with quar := false })
    fin ((s1.showArmed source).logAon .quarantineEnd [BitVec.ofNat 8 source])

/-! ### WAKE_CONFIG, WAKE_STATUS -/

/-- WAKE_CONFIG, 0x0604. -/
def specWakeConfig : CmdSpec := { op := 0x0604, who := [.mgr] }

/-- A nominal rate that selective wake permits: 125, 250, 500 or 1000 kbit/s (R373). -/
def wakeRate (w : U32) : Bool := [80, 160, 320, 640].contains (nbtBit w)

/-- The payload of WAKE_CONFIG (R275, R428). -/
def State.okWakeConfig (s : State) (p : List Byte) : Bool :=
  let n := u8At p 0
  p.length = 6 && wakeCode n && u8At p 1 ≤ 1 && (u8At p 2 = 2 || u8At p 2 = 3) && u8At p 3 = 0
    && (u16At p 4 = 0 || (100 ≤ u16At p 4 && u16At p 4 ≤ 10000))
    && (u8At p 1 = 1 || n ≠ 8)
    && (u8At p 1 = 0 || ((¬ (24 ≤ n && n ≤ 45) || (s.ethPort (n - 24)).tc10)
      && (¬ (16 ≤ n && n ≤ 23) || wakeRate (s.can (n - 16)).cfg.nbt)))

/-- A source's configuration; of a quarantined source it is stored for later (R275). -/
def ownWakeConfig (rq : Request) (s : State) : State × Ans :=
  let p := rq.payload
  let n := u8At p 0
  let a : Bool := u8At p 1 = 1
  let r : Bool := u8At p 2 = 3
  let t : U16 := if u16At p 4 = 0 then 1500 else BitVec.ofNat 16 (u16At p 4)
  if (s.wakeCfg n).quar then no (s.updWake n (fun c => { c with held := some (a, r, t) })) .quarantined
  else yes ((s.updWake n (fun c => { c with arm := a, toRun := r, timeout := t })).showArmed n)

/-- WAKE_CONFIG (R275, R428). -/
def execWakeConfig (rq : Request) (s : State) : Out := serve specWakeConfig rq s s.okWakeConfig (ownWakeConfig rq)

/-- WAKE_STATUS, 0x0605. -/
def specWakeStatus : CmdSpec := { op := 0x0605, who := [.mgr, .sec] }

/-- The answer of WAKE_STATUS: last source, false wakes in the hour, quarantine mask (R439). -/
def State.wakeInfo (s : State) : List Byte :=
  let codes := (List.range 64).filter wakeCode
  let sum := codes.foldl (fun k n => k + s.falseCount n) 0
  let mask := codes.foldl (fun (m : U64) n => if (s.wakeCfg n).quar then m ||| bitOf 64 n else m) 0
  leBytes 1 s.sleep.lastSource.toNat ++ [0] ++ leBytes 2 (min 65535 sum) ++ leBytes 8 mask.toNat

/-- WAKE_STATUS (R439). -/
def execWakeStatus (rq : Request) (s : State) : Out :=
  serve specWakeStatus rq s (fun p => p = []) (fun s => yesWith s s.wakeInfo)

end Sys2Proof.Machine
end

