-- ==== Sys2Proof/Machine/Stored.lean ====
section
/-! DEFINITION. The stored configuration: what authentication checks of it, and how step 5 and SAFE apply it (R84, R130, R302,
R323, R395, R403, R416, R428, R436, R437, R459, R462, R487, R488, R510, R569). -/

namespace Sys2Proof.Machine

open Sys2Proof

/-! ### Checks at authentication -/

/-- The configuration of a channel under a stored configuration: what it sets, budgeted by its record. A channel that it does not set takes
the defaults of PS_CH_CFG, PS_CH_PWM and OL_EN, and keeps its protection parameters and the mark of a record that has arrived by
LOAD_CHANNEL_CONFIG (R458, R459, R487, R492; DEDUCED, log entry 165). -/
def StoredCfg.load (g : StoredCfg) (c : Nat) (old : LoadCfg) : LoadCfg :=
  if g.io.loads.has c then { Tab.get g.io.loads c {} with nextFreq := none, budgeted := true }
  else { (LoadCh.initial c).cfg with
    limit := old.limit, thermLatch := old.thermLatch, rank := old.rank, thLimit := old.thLimit
    xsec := old.xsec, tau := old.tau, tlim := old.tlim, budgeted := old.budgeted }

/-- The non-volatile defaults of the power stage are written with a stored configuration (R458, R493; DEDUCED, log entry 71). -/
def State.loadDefaults (s : State) (g : StoredCfg) : State :=
  s.onPs (fun p => { p with nv := g.io.loads, nvAmb := g.io.wireAmb })

/-- The power of a port, a channel and the rest in PARTIAL, µW (R437, R438). -/
def portPower (p : Nat) : Nat :=
  if p < 2 then 450000 else if p < 10 then 180000 else if p < 22 then 60000 else 25000
/-- The power of a port in TC10 sleep, armed, µW: its SLEEP current at 12.6 V. -/
def portSleepPower (p : Nat) : Nat := if p < 2 then 1386 else if p < 10 then 756 else 441

/-- Bits set in a mask. -/
def bitCount {w : Nat} (m : BitVec w) : Nat := (portsOf m).length

/-- The PARTIAL power budget, µW (R437). -/
def StoredCfg.partialPower (g : StoredCfg) : Nat :=
  let up := (List.range 26).filter (fun p => g.keepPorts.getLsbD p)
  let asleep := (List.range 22).filter (fun p =>
    !g.keepPorts.getLsbD p && (Tab.get g.net.ethPorts p {}).tc10 && (Tab.get g.wake (24 + p) {}).arm)
  700000 + (if up.isEmpty then 0 else 150000) + up.foldl (fun n p => n + portPower p) 0
    + asleep.foldl (fun n p => n + portSleepPower p) 0 + 20000 * bitCount g.keepCan + 10000 * bitCount g.keepLin
    + (if g.keepGw then 60000 else 0) + (if g.paired then 120000 else 0)

/-- Pin codes that can be marked secure (R194). -/
def pinCode (n : Nat) : Bool := n < 60 || (64 ≤ n && n < 152) || (160 ≤ n && n < 176) || (176 ≤ n && n < 184)

/-- The idle slopes of every port add up to at most 90 % of its line rate (R340); line rates are in Mbit/s, slopes in kbit/s. -/
def StoredNet.slopesOk (g : StoredNet) : Bool :=
  g.ethPorts.all (fun e => decide ((e.2.cbs.foldl (fun n c => if c.2.en then n + c.2.idle.toNat else n) 0) ≤ 900 * lineRate e.1))

/-- The aggregation groups are sound: at most 8, each of 2 to 8 ports of equal line rate, no port in two of them, no member with 802.1CB
active (R298). -/
def StoredNet.lagsOk (g : StoredNet) : Bool :=
  g.lags.all (fun e => e.1 < 8 && 2 ≤ bitCount e.2 && bitCount e.2 ≤ 8
      && (portsOf e.2).all (fun p => lineRate p = lineRate ((portsOf e.2).headD 0) && !(Tab.get g.ethPorts p {}).frer)
      && g.lags.all (fun f => f.1 = e.1 || f.2 &&& e.2 = 0))

/-- What Amind checks of a stored configuration at authentication beside its signatures: secure pins, idle slopes, aggregation groups, POOL_MIN,
limp channels, SLEEP-kept channels, dual-feed marks, the PARTIAL budget and the load budget (R194, R290, R298, R340, R368, R377, R396, R436,
R437, R462, R465, R488, R566). -/
def State.cfgOk (s : State) (g : StoredCfg) : Bool :=
  let load (c : Nat) : LoadCfg := g.load c (s.load c).cfg
  let limp := (List.range 60).filter (fun c => (load c).limp)
  let t := s.onPs (fun p => { p with
    wireAmb := g.io.wireAmb
    chans := (List.range 60).map (fun c => (c, ({ cfg := load c } : LoadCh))) })
  g.securePins.all pinCode && g.io.can.all (fun e => e.1 < 16 && e.2.ok e.1)
    && g.io.lockTimeout.all (fun e => 5 ≤ e.2.toNat && e.2.toNat ≤ 1000) && g.net.slopesOk && g.net.lagsOk && 8192 ≤ g.net.poolMin && g.net.poolMin ≤ 524288 && limp.length ≤ 8 && limp.foldl (fun n c => n + (loadClass c).rating) 0 ≤ 1600
    && ((List.range 60).filter (fun c => (load c).keepSleep)).length ≤ 4
    && g.io.loads.all (fun e => e.1 < 60 && (e.1 < 4 || !e.2.dual))
    && 0x40000000 ≤ g.byteLimit.toNat && g.byteLimit.toNat ≤ 0x1000000000000 && g.partialPower ≤ 1500000 && t.budgetOk

/-! ### Network -/

/-- A switch port takes its configuration; what it measures stays. -/
def SwPort.configured (old g : SwPort) : SwPort :=
  { g with
    link := old.link, fcAssert := old.fcAssert, pfcAssert := old.pfcAssert, lagActive := old.lagActive, occ := old.occ
    occCls := old.occCls, cnt := old.cnt, inFlight := old.inFlight, frags := old.frags, halted := old.halted, sent := old.sent
    sentBad := old.sentBad }

/-- An Ethernet port takes its configuration; what the link shows stays. -/
def EthPort.configured (old g : EthPort) : EthPort :=
  { g with
    link := old.link, lowPower := old.lowPower, verify := old.verify, paused := old.paused, pfcPaused := old.pfcPaused
    hold := old.hold, cnt := old.cnt, tries := old.tries, pauseSent := old.pauseSent, due := old.due, ptpDue := old.ptpDue, phyOff := old.phyOff
    plca := { g.plca with active := old.plca.active }
    cbs := g.cbs.map (fun e => (e.1, { e.2 with credit := 0 })) }

/-- A stored flow entry takes the first free place of its bucket, unless an entry with the same ingress port, flags and key stands (R302). -/
def State.flowPlace (s : State) (f : Flow) : State :=
  if (s.sw.probe f.mat f.ingress.toNat f.vlan.toNat f.dmac.toNat f.pcp.toNat).isSome then s
  else
  let b := flowBucket f.ingress.toNat f.mat f.vlan.toNat f.dmac.toNat f.pcp.toNat * 4
  match [b, b + 1, b + 2, b + 3].find? (fun e => !(Tab.get s.sw.flows e {}).valid) with
  | some e => s.onSw (fun w => { w with flows := Tab.put w.flows e { f with valid := true, stored := true, hits := 0 } })
  | none => s

/-- A MAC under the stored configuration; E21 takes no part in TC10 while SVC_SEL is open (R360). -/
def State.ethPortSet (s : State) (p : Nat) (g : EthPort) : State :=
  s.updEthPort p (fun u => { u.configured g with tc10 := g.tc10 && !(p = 21 && s.supply.straps.svcOpen) })

/-- A port of the switch under the stored configuration; E21 is one only while SVC_SEL is tied (R47). -/
def State.swPortSet (s : State) (p : Nat) (g : SwPort) : State :=
  s.updSwPort p (fun u => { u.configured g with en := g.en && !(p = 21 && s.supply.straps.svcOpen) })

/-- The switch core under the stored configuration. -/
def State.applySwitch (s0 : State) (g : StoredNet) : State :=
  let s := g.swPorts.foldl (fun t e => t.swPortSet e.1 e.2) s0
  let s1 := s.onSw (fun w => { w with
    l3 := g.l3, l4 := g.l4, minClass := g.minClass, pushEn := g.pushEn, classMask := g.classMask, portLimit := g.portLimit
    poolMin := g.poolMin, lowMark := g.lowMark, forwarding := true, vlans := g.vlans
    lags := g.lags.map (fun e => (e.1, ({ members := e.2 } : Lag))) })
  (g.flows.foldl State.flowPlace s1).marketLow

/-- The ports of the network return to the stored configuration: what PORT_CONFIG and gate list handles have set at run time ends (R323). -/
def State.portsStored (s : State) (g : StoredNet) : State :=
  let s1 := (List.range 30).foldl (fun t p => t.swPortSet p (Tab.get g.swPorts p {})) s
  let s2 := (List.range 26).foldl (fun t p => t.ethPortSet p (Tab.get g.ethPorts p {})) s1
  s2.eth.gates.foldl (fun t e => if e.2.stored then t else t.openGates e.1) s2

/-- The Ethernet ports, gates, policers, streams, MACsec units and the bridge under the stored configuration. -/
def State.applyEth (s : State) (g : StoredNet) : State :=
  let s1 := g.ethPorts.foldl (fun t e => t.ethPortSet e.1 e.2) s
  let s2 := g.policers.foldl (fun t e => t.setPolicer e.1 e.2.1.toNat e.2.2.toNat) s1
  let s3 := g.gates.foldl (fun t e => (t.loadGate e.1 e.2).updGate e.1 (fun u => { u with stored := true })) s2
  s3.onEth (fun e => { e with
    frers := g.frers.map (fun u => (u.1,
      ({ stream := u.2.stream, gen := u.2.gen, rec_ := u.2.rec_, history := u.2.history, resetMs := u.2.resetMs } : Frer)))
    macsecs := g.macsecs.foldl (fun (t : Tab Macsec) u => Tab.put t u.1 { Tab.get t u.1 {} with
      en := u.2.en, encrypt := u.2.encrypt, xpn := u.2.xpn, strict := u.2.strict, sci := u.2.sci, replay := u.2.replay
      window := u.2.window }) e.macsecs
    bridge := { e.bridge with
      en := g.bridge.en, ext := g.bridge.ext, gmCapable := g.bridge.gmCapable, prio1 := g.bridge.prio1
      prio2 := g.bridge.prio2, clockClass := g.bridge.clockClass
      ports := g.bridge.ports.map (fun u => (u.1, { u.2 with asCapable := false, delay := 0, ratio := 0, info := none })) } }) |>.bmca

/-! ### Buses -/

/-- The stored LIN channels run; every other context is cleared (R416). -/
def State.applyLin (s : State) (g : StoredIo) : State :=
  (List.range 8).foldl (fun t n =>
    if g.lin.has n then
      let c := Tab.get g.lin n {}
      (t.linClear n).updLin n (fun l => { l with
        en := true, responder := c.responder, rate := c.rate, bufs := c.bufs, tables := c.tables
        run := c.run && !c.responder, halted := false, st := if l.st = .stopped then .active else l.st })
    else t.linClear n) s

/-- The stored rules are in force and every other rule is cleared; queued entries stay (R403). -/
def State.applyRules (s : State) (g : StoredIo) : State :=
  s.onGw (fun u => { u with
    en := g.gwEn, ageMs := g.ageMs
    rules := g.rules.map (fun e =>
      let o := Tab.get u.rules e.1 {}
      (e.1, if o.stored then { e.2 with
              stored := true, matched := o.matched, forwarded := o.forwarded, dropped := o.dropped, seq := o.seq, batchMsgs := [] }
            else { e.2 with stored := true, matched := 0, forwarded := 0, dropped := 0, seq := 0, batchMsgs := [] })) })

/-- CAN channels, gateway and LIN channels under the stored configuration (R376, R395, R396). -/
def State.applyBus (s : State) (g : StoredIo) : State :=
  let s1 := g.lockTimeout.foldl (fun t e => t.updCan e.1 (fun c => { c with lockTimeout := e.2 })) s
  let s2 := g.canWake.foldl (fun t e => t.updCan e.1 (fun c => { c with wake := e.2 })) s1
  let s3 := g.can.foldl (fun t e => t.canApply e.1 e.2) s2
  (s3.applyLin g).applyRules g

/-! ### Loads and inputs -/

/-- The load configuration is delivered: every channel takes its fields, and each one that is neither held nor was kept in the SLEEP before
this start takes its start value (R459; DEDUCED, log entry 162). -/
def State.applyLoads (s : State) (g : StoredCfg) : State :=
  let s1 := (s.onPs (fun p => { p with wireAmb := g.io.wireAmb, delivered := true, claimsSet := true })).loadDefaults g
  (List.range 60).foldl (fun t c =>
    let t1 := t.updLoad c (fun ch =>
      let n := { ch with cfg := g.load c ch.cfg, recorded := (g.load c ch.cfg).budgeted }
      if n.held.isSome ∨ (s.aon.cause.wake ∧ ch.cfg.keepSleep) then n
      else if n.cfg.start = 0 then n.apply offCmd .start
      else if n.cfg.start = 1 then n.apply fullOn .start
      else n)
    s.loadStep t1 c false) s1

/-- Inputs, wake polarity and sensor supplies under the stored configuration (R494, R499, R501). -/
def State.applyInputs (s : State) (g : StoredIo) : State :=
  (s.onInp (fun i => { i with
    ds := Tab.updRange i.ds 64 (fun _ => {}) (fun d u =>
      let c : DIn := Tab.get g.ds d {}
      { u with wet := c.wet, debounce := c.debounce, edges := c.edges, run := 0 })
    vs := Tab.updRange i.vs 24 (fun _ => {}) (fun v u =>
      let c : VIn := Tab.get g.vs v {}
      { u with range := c.range, bias := c.bias, window := c.window, edges := c.edges })
    pol := g.pol, sensRun := g.sensRun, sensPart := g.sensPart })).sensStep

/-! ### The rest -/

/-- Wake sources after power-on (R428). -/
def State.applyWake (s : State) (g : StoredCfg) : State :=
  let s1 :=
    if s.aon.cause.por then
      g.wake.foldl (fun t e => t.updWake e.1 (fun c => { c with arm := e.2.arm, toRun := e.2.toRun, timeout := e.2.timeout })) s
    else s
  (List.range 8).foldl (fun t n => t.showArmed (16 + n)) s1

/-- The share list of instance 0: market cells and fabric (R510). -/
def StoredCfg.shares0 (g : StoredCfg) : List Share :=
  ({ kind := 0x02, sel := 0, a := BitVec.ofNat 32 g.cells0 } : Share) ::
    (match g.fabric0 with
     | some (c, guar, ceil, burst) => [{ kind := 0x06, sel := c, a := BitVec.ofNat 32 (guar + ceil * 65536), b := BitVec.ofNat 32 burst }]
     | none => [])

/-- Region 63 of the DRAM checker, for instance 0 and the secure world, and one region of secure SRAM for the secure world
(R130). -/
def State.applyCheckers (s : State) : State :=
  s.onCore (fun c => { c with
    checkers := true, dramRegions := Tab.put c.dramRegions 63
      { base := BitVec.ofNat 28 (dramBase / 4096), limit := BitVec.ofNat 28 (dramEnd / 4096 - 1), en := true
        nsR := true, nsW := true, sR := true, sW := true, mask := 1 }
    sramRegions := Tab.put c.sramRegions 0
      { base := BitVec.ofNat 28 (sramBase / 4096), limit := BitVec.ofNat 28 (sramEnd / 4096 - 1), en := true
        sR := true, sW := true } })

/-- After a start from SLEEP the wake is sent on: on every TC10 port but the waking one, and on LIN commander channels
(WAKE_FORWARD, R431). -/
def State.wakeForward (s : State) : State :=
  if ¬ s.aon.cause.wake then s
  else
    let ports := (List.range 22).filter (fun p => (s.ethPort p).tc10 && !(s.sleep.lastSource.toNat = 24 + p && (s.sleep.latch ||| s.sleep.lateLatch).getLsbD (24 + p)))
    let s1 := s.onSleep (fun p => { p with wakesSent := p.wakesSent + ports.length })
    (List.range 8).foldl (fun t n => if (t.lin n).responder then t else t.linPulse n) s1

/-- The module's place in a pair: the link trains after the wake pattern, and PARTNER_FAULT_N is heeded (R569, R577, R600). -/
def State.applyPass (s : State) (g : StoredCfg) : State :=
  let s1 := s.onPass (fun p => { p with
    paired := g.paired, autoRst := g.autoRst, takeover := g.takeover, ranges := g.ranges, wakePattern := g.paired
    fault := g.paired && s.supply.partnerLow })
  if g.paired then s1.setLink .training else s1

/-- The stored configuration takes effect (step 5 of R84; R241, R566). -/
def State.applyStored (s : State) (g : StoredCfg) : State :=
  let s1 := s.onMgmt (fun m => { m with
    stored := g, securePins := g.securePins, claimed := [] })
  let s2 := s1.onKs (fun k => { k with byteLimit := g.byteLimit })
  let s3 := (s2.applySwitch g.net).applyEth g.net
  let s4 := ((s3.applyBus g.io).applyLoads g).applyInputs g.io
  let s5 := (s4.applyWake g).applyCheckers.shareApply 0 g.shares0 g.shares0
  (s5.applyPass g).wakeForward

end Sys2Proof.Machine
end

