-- ==== Sys2Proof/Machine/Safe.lean ====
section
/-! DEFINITION. SAFE: its triggers in every mode and phase, what SAFE entry does, the restart that ends it; reset requests, the
watchdog, wedged engines; the secure-world commands CHECKER_LOCK, SECURE_CLAIM and SECURE_RELEASE (R95 to R99, R154, R158 to R160,
R193 to R196, R249 to R251, R273, R276, R323, R395, R403, R416, R526). -/

namespace Sys2Proof.Machine

open Sys2Proof

/-! ### SAFE entry -/

/-- The data of SAFE_ENTRY: cause, pair, lane, program counter (R606). -/
def safeData (cause : Byte) (pair lane : Nat) (pc : U64) : List Byte :=
  [cause, BitVec.ofNat 8 pair, BitVec.ofNat 8 lane, 0] ++ leBytes 8 pc.toNat

/-- The entry of a trigger: the always-on domain writes it after trigger 0x02, Amind otherwise (R97, R99). -/
def State.safeLog (s : State) (cause : Byte) (pair lane : Nat) (pc : U64) : State :=
  if cause = 2 then s.logAon .safeEntry (safeData cause pair lane pc) else s.logEither .safeEntry (safeData cause pair lane pc)

/-- One more SAFE entry in the sliding hour (R98). -/
def State.safeTimesNow (s : State) : List U64 := s.now :: s.inHour s.aon.safeTimes

/-- The handles of guests end without records, their contexts cleared; so do the guests (R526). -/
def State.guestsEnd (s : State) : State :=
  let s1 := (s.mgmt.handles.tab.filter (fun e => e.2.owner ≠ 0)).foldl (fun t e =>
    (t.handleClear (e.1 / 4096) (e.1 % 4096)).hFree (e.1 / 4096) (e.1 % 4096)) s
  ((List.range 62).map (fun k => k + 1)).foldl (fun t n => if (t.inst n).st = .free then t else t.instDrop n) s1

/-- Amind removes the flow entries that handles created, returns the ports to the stored configuration, and clears every object set and
both matrices (R323, R395). -/
def State.runtimeEnd (s : State) : State :=
  let s1 := (s.sw.flows.filter (fun e => e.2.valid && !e.2.stored)).foldl (fun t e => t.dropFlow e.2.slot.toNat) s
  let s2 := s1.bus.sets.foldl (fun t e => t.setZero e.1) (if s1.sw.forwarding then s1.portsStored s1.mgmt.stored.net else s1)
  [0, 1].foldl (fun t n => t.updCan n (fun c => { c with sched := { c.sched with run := none, pend := none, begun := false } })) s2

/-- Frames whose destinations are I0 and I1 alone are dropped, counted once for each of the two that they were bound for, and the queue
engines hold none (R323). -/
def State.queuesEnd (s : State) : State :=
  let lost := s.sw.frames.filter (fun f => f.egresses ≠ [] && f.egresses.all (fun p => p = 26 || p = 27))
  let s1 := lost.foldl (fun t f => (f.egresses.foldl State.dropQp t).freeFrame f) s
  s1.sw.qps.foldl (fun t q => t.qpClear q.1) s1

/-- The open requests about guests close, since SAFE ends every guest without its sequence: a destroy with OK, its handles and the guest being
gone, a reset or a disable with ABORTED_RESET (R230, R526, R527; DEDUCED, log entry 80). -/
def State.guestRequestsClose (s : State) : State :=
  let s1 := (s.mgmt.handles.tab.filter (fun e => e.2.owner ≠ 0)).foldl (fun t e => t.completeOpt e.2.waiter .ok []) s
  s.mgmt.insts.foldl (fun t e =>
    if e.1 = 0 then t
    else ((t.completeAll e.2.destroyReq .ok []).completeOpt e.2.resetReq .abortedReset []).completeOpt (e.2.drain.map (fun d => d.waiter))
      .abortedReset []) s1

/-- Every open power request and keep-vote that waits is closed with its notice OK, since the last row of R203 drops it (R647), and every
open request for a mode with BUSY, as R204 closes a cancelled one (R230; DEDUCED, log entry 80). -/
def State.requestsClose (s : State) : State :=
  let s1 := s.core.blocks.foldl (fun t e => t.completeAll (e.2.offReq ++ e.2.onReq ++ e.2.voteReq) .ok []) s
  let s2 := match s.core.toPartial with
    | some r => s1.completeAll (r.waiters ++ r.runAfter) .busy []
    | none => s1
  match s.core.toRun with
    | some ws => s2.completeAll ws .busy []
    | none => s2

/-- Every block is on again under its configuration; votes and held requests are gone (R203). From RECOVERY the network stays as
it is (R99). -/
def State.blocksOn (s0 : State) : State :=
  let s := s0.requestsClose.guestRequestsClose
  let was := blockIds.filter (fun b => !(s.block b).serves)
  let s1 := s.onCore (fun c => { c with blocks := [], toPartial := none, toRun := none })
  let s2 := was.foldl State.blockRuns s1
  (List.range 22).foldl (fun t p => t.updEthPort p (fun e => { e with lowPower := false, phyOff := false })) s2

/-- The pairs are held in reset; a frozen pair and a failed one keep their state, and what the pairs have released completes at its
targets (R97, R157, R159, R160). -/
def State.pairsHeld (s : State) : State :=
  ((List.range 8).foldl (fun t p => t.updPair p (fun q =>
    if q.st = .frozen || q.st = .failed then q else { q with st := .inReset, split := false, haltReq := false, haveReset := true })) s).onCore
      (fun c => { c with harts := [], imsics := [] })

/-- SAFE entry (SAFE_ENTRY, R97, R98): FAULT_N low, the safe values, the pairs held in reset, the DRAM key discarded, guests ended,
and the network under the stored configuration. Before step 5 of a start, where no configuration has been authenticated yet, the LIN and
gateway rules in force are those last stored and the switch does not forward (DESIGN CHOICE, log entry 119). -/
def State.safeEntry (s : State) (cause : Byte) (pair lane : Nat) (pc : U64) : State :=
  let times := s.safeTimesNow
  let hold := decide (4 ≤ times.length)
  let rec_ := decide (s.aon.mode = .recovery)
  let s1 := (s.onSupply (fun u => { u with faultLow := true })).onAon (fun a => { a with
    mode := .safe, safeTimes := times, safeCause := cause, safePair := if cause = 1 then BitVec.ofNat 3 pair else a.safePair
    safeHold := hold, safeFromRecovery := rec_
    safeDelay := cause ≠ 2 && !hold && s.mgmt.stored.safeDelay ≠ 0 })
  let s2 := ((s1.onPs (fun p => { p with safeValues := true })).pairsHeld.discardDramKey).onCe (fun c => { c with jobs := [] })
  let s3 := s2.queuesEnd.guestsEnd.runtimeEnd
  let s4 :=
    if rec_ then s3
    else
      let t := ((s3.blocksOn.applyLin s.mgmt.stored.io).applyRules s.mgmt.stored.io).canStored s.mgmt.stored.io.can
      if t.pass.reduced then (t.onPass (fun p => { p with reduced := false })).pxLink else t
  let s5 := (s.loadAll s4).sensStep.safeLog cause pair lane pc
  if cause = 2 then s5.rstPulse .safeEnd else s5

/-- A trigger in COMMITTED: FAULT_N low, the cause recorded and counted, the safe values until t0, and a late wake with target RUN
(R99, R421). -/
def State.safeCommitted (s : State) (cause : Byte) (pair lane : Nat) (pc : U64) : State :=
  let s1 := (s.onSupply (fun u => { u with faultLow := true })).onAon (fun a => { a with
    safeTimes := s.safeTimesNow, safeCause := cause, safePair := if cause = 1 then BitVec.ofNat 3 pair else a.safePair
    safeInCommitted := true })
  let s2 := (s1.onPs (fun p => { p with safeValues := true })).onSleep (fun p => { p with late := true })
  (s.loadAll s2).logAon .safeEntry (safeData cause pair lane pc)

/-- A detection that arrives together with the one in force, at the same TIME_LOCAL: the lowest pair is named (R160; the reading of
"together" is DEDUCED, log entry 130). -/
def State.pairTogether (s : State) (cause : Byte) (pair : Nat) : State :=
  if cause = 1 ∧ s.aon.safeCause = 1 ∧ s.aon.safeTimes.head? = some s.now ∧ pair < s.aon.safePair.toNat then
    s.onAon (fun a => { a with safePair := BitVec.ofNat 3 pair })
  else s

/-- A SAFE trigger can arise: powered, out of reset and not in SLEEP (R99). -/
def State.triggers (s : State) : Bool :=
  s.powered && !s.supply.pinHeld && !s.supply.holdup
    && (match s.aon.mode with
        | .off => false
        | .sleep => false
        | .start => 1 ≤ s.aon.step
        | .part => true
        | .run => true
        | .safe => true
        | .recovery => true)

/-- A SAFE trigger in every mode and phase (R73, R96, R99, R160, R421). A further trigger in COMMITTED is recorded and keeps the entry
in force, as one in SAFE does (DEDUCED, log entry 130). -/
def State.safeTrigger (s : State) (cause : Byte) (pair lane : Nat) (pc : U64) : State :=
  if ¬ s.triggers then s
  else if s.sleep.phase = 3 then
    (if s.aon.safeInCommitted then (s.pairTogether cause pair).logAon .safeEntry (safeData cause pair lane pc)
     else s.safeCommitted cause pair lane pc)
  else if s.aon.mode = .safe then
    let s1 := (s.pairTogether cause pair).safeLog cause pair lane pc
    if cause = 2 then s1.rstPulse .safeEnd else s1
  else
    let s1 := if s.sleep.phase = 0 then s else ((s.drainEnd false).wakeLinks.orderBusy 0xFF).orderClosed
    s1.safeEntry cause pair lane pc

/-! ### Triggers -/

/-- LOCKSTEP_MISMATCH: the pair is frozen with its capture; trigger 0x01. A pair that the entry of another one's mismatch has just
put in reset is frozen and recorded as well (R158 to R160). -/
def execLockstepMismatch (pair lane : Nat) (pc : U64) (s : State) : Out :=
  if 8 ≤ pair ∨ lane = 0 ∨ 8 ≤ lane then noUnit
  else if s.triggers ∧ ¬ (s.pair pair).split
      ∧ ((s.pair pair).st = .running ∨ ((s.pair pair).st = .inReset ∧ s.aon.mode = .safe ∧ s.aon.safeCause = 1)) then
    fin ((s.updPair pair (fun q => { q with
      st := .frozen, mmValid := true, mmLane := BitVec.ofNat 4 lane, mmPc := pc })).safeTrigger 1 pair lane pc)
  else .next s

/-- AMIND_LOCKSTEP_MISMATCH: trigger 0x02, from the first step of a start on, in which Amind's ROM runs (R73, R84, R96, R97). -/
def execAmindLockstepMismatch (lane : Nat) (pc : U64) (s : State) : Out := fin (s.safeTrigger 2 0 lane pc)

/-- MEMORY_UNCORRECTABLE: trigger 0x03, in whichever of the three memories (R96). -/
def execMemoryUncorrectable (_mem : MemUnit) (s : State) : Out := fin (s.safeTrigger 3 0 0 0)

/-- JUNCTION_OVERTEMP: trigger 0x04, above 160 °C (R96). -/
def execJunctionOvertemp (temp : U16) (s : State) : Out :=
  if temp.toInt ≤ 1600 then .next s else fin (s.safeTrigger 4 0 0 0)

/-- SAFE_RESTART_DELAY_EXPIRY (R98). -/
def execSafeRestartDelayExpiry (s : State) : Out :=
  if s.aon.mode = .safe ∧ s.aon.safeDelay then
    fin ((s.onAon (fun a => { a with safeDelay := false })).amindPulse .safeEnd 2 0xFF)
  else .next s

/-! ### Mode requests -/

/-- MODE_REQUEST, 0x0601: mode 4 is permitted in START as well (R273). -/
def specModeRequest (mode : Nat) : CmdSpec :=
  { op := 0x0601, who := if mode = 4 then [.mgr, .sec] else [.mgr], st := mode = 4 }

/-- A request for PARTIAL (R204). -/
def ownPartial (rq : Request) (s : State) : State × Ans :=
  let w := (rq.route.key, rq.seq)
  match s.core.toPartial with
  | some r => wait (s.onCore (fun c => { c with toPartial := some { r with waiters := r.waiters ++ [w] } })) r.reason
  | none =>
    if s.aon.mode = .part then yes s
    else
      let held := s.partialOff.any (fun b => decide (0 < s.votesOf b))
      let s1 := s.onCore (fun c => { c with toPartial := some { deferred := held, reason := if held then 1 else 0, waiters := [w] } })
      if held then wait s1 1 else wait s1.partialBegin 0

/-- A request for RUN: PENDING from PARTIAL, with its notice when RUN is reached (R204, R230, R273; DEDUCED, log entry 80). -/
def ownRun (rq : Request) (s : State) : State × Ans :=
  match s.core.toPartial with
  | some r =>
    if r.deferred then yes ((s.onCore (fun c => { c with toPartial := none })).completeAll r.waiters .busy [])
    else wait (s.onCore (fun c => { c with toPartial := some { r with runAfter := r.runAfter ++ [(rq.route.key, rq.seq)] } })) 0
  | none =>
    let w := (rq.route.key, rq.seq)
    if s.aon.mode ≠ .part then yes s
    else match s.core.toRun with
      | some ws => wait (s.onCore (fun c => { c with toRun := some (ws ++ [w]) })) 0
      | none => wait (s.runBegin [w]) 0

/-- MODE_REQUEST (R273): BUSY for modes 2 and 3 while an order is open (R421). -/
def execModeRequest (rq : Request) (s : State) : Out :=
  let m := u8At rq.payload 0
  serve (specModeRequest m) rq s (fun p => p.length = 2 && u8At p 1 = 0 && (u8At p 0 = 2 || u8At p 0 = 3 || u8At p 0 = 4)) (fun s =>
    if m = 4 then yes (s.safeTrigger 5 0 0 0)
    else if s.sleep.phase ≠ 0 then no s .busy
    else if m = 2 then ownPartial rq s
    else ownRun rq s)

/-! ### Resets -/

/-- RESET_REQUEST, 0x0630. -/
def specResetRequest : CmdSpec := { op := 0x0630, who := [.mgr, .sec, .ptr, .svc], role := some 3, st := true, safe := true }

/-- RESET_REQUEST: in SAFE it ends SAFE (R98, R251). -/
def execResetRequest (rq : Request) (s : State) : Out :=
  serve specResetRequest rq s (fun p => p = []) (fun s =>
    if s.aon.mode = .safe then yes (s.amindPulse .safeEnd 2 rq.route.issuer.code)
    else yes (s.amindPulse .cmd 0 rq.route.issuer.code))

/-- RECOVERY_RELEASE, 0x0631. -/
def specRecoveryRelease : CmdSpec := { op := 0x0631, who := [.svc], role := some 1, run := false, rcv := true }

/-- RECOVERY_RELEASE: the trial flag, then the pulse (R89). -/
def execRecoveryRelease (rq : Request) (s : State) : Out :=
  serve specRecoveryRelease rq s (fun p => p = []) (fun s =>
    yes ((s.onAon (fun a => { a with trial := true })).amindPulse .cmd 6 rq.route.issuer.code))

/-- AMIND_WDOG_EXPIRY: 50 ms without service, also during the hold-up commit sequence (R249, R250). In SLEEP, where Amind is unpowered
and has nothing to service it with, the watchdog does not expire (DEDUCED, log entry 118). -/
def execAmindWdogExpiry (s : State) : Out :=
  if s.aon.wdogRunning ∧ s.aon.mode ≠ .sleep ∧ ¬ s.supply.pinHeld then
    fin ((s.logAon .amindWdog []).rstPulse .wdog)
  else .next s

/-- ENGINE_WEDGED_DETECT: a block (kind 0) or a target (kind 1) (R95). -/
def execEngineWedgedDetect (unit : Nat) (kind : Byte) (s : State) : Out :=
  if 1 < kind.toNat ∨ 256 ≤ unit then noUnit
  else if s.amindUp then fin (s.wedged unit kind.toNat)
  else .next s

/-! ### CHECKER_LOCK, SECURE_CLAIM, SECURE_RELEASE -/

/-- CHECKER_LOCK, 0x0620. -/
def specCheckerLock : CmdSpec := { op := 0x0620, who := [.sec], st := true }

/-- CHECKER_LOCK: every enabled region of secure SRAM and DRAM regions 0 to 3 are locked (R129, R193). -/
def execCheckerLock (rq : Request) (s : State) : Out :=
  serve specCheckerLock rq s (fun p => p = []) (fun s => yes (s.onCore (fun c => { c with
    locked := true
    sramRegions := c.sramRegions.map (fun e => (e.1, { e.2 with lock := e.2.lock || e.2.en }))
    dramRegions := [0, 1, 2, 3].foldl (fun (t : Tab Region) n => Tab.upd t n {} (fun g => { g with lock := true })) c.dramRegions })))

/-- SECURE_CLAIM, 0x0621. -/
def specSecureClaim : CmdSpec := { op := 0x0621, who := [.sec], st := true }
/-- SECURE_RELEASE, 0x0622. -/
def specSecureRelease : CmdSpec := { op := 0x0622, who := [.sec], st := true }

/-- The payload of one pin code. -/
def okPin (p : List Byte) : Bool := p.length = 1 && pinCode (u8At p 0)

/-- A live handle of a world covers a pin. -/
def State.pinCovered (s : State) (n : Nat) (sec : Bool) : Bool :=
  s.mgmt.handles.tab.any (fun e =>
    let t := e.1 / 4096
    let i := e.1 % 4096
    !e.2.retiring && e.2.sec = sec &&
      ((t = 0x04 && n < 60 && (Tab.get s.ps.groups i {}).mask.getLsbD n)
        || (t = 0x05 && 64 ≤ n && n < 128 && (s.inGroup i).dmask.getLsbD (n - 64))
        || (t = 0x05 && 128 ≤ n && n < 152 && (s.inGroup i).vmask.getLsbD (n - 128))
        || (t = 0x02 && 160 ≤ n && n < 176 && i / 128 = n - 160)
        || (t = 0x03 && 176 ≤ n && i = n - 176)))

/-- A rule names the CAN or LIN channel of a pin code as its source or its destination (R400). -/
def ruleNames (r : GwRule) (n : Nat) : Bool :=
  (r.kind = 1 && r.num.toNat + 160 = n) || (r.kind = 2 && r.num.toNat + 176 = n)
    || (r.action = 1 && r.dest.toNat + 160 = n) || (r.action = 2 && r.dest.toNat + 176 = n)

/-- A gateway rule set by MGR names a channel as source or destination (R196, R402). -/
def State.pinRuled (s : State) (n : Nat) : Bool :=
  s.bus.gw.rules.any (fun e => !e.2.secure && e.2.kind ≠ 0 && !e.2.stored && ruleNames e.2 n)

/-- The pin table changes, and the change is recorded (R196). -/
def State.pinChange (s : State) (n : Nat) (claim : Bool) : State :=
  let l := s.mgmt.securePins.filter (fun k => k ≠ n)
  (s.onMgmt (fun m => { m with
    securePins := if claim then n :: l else l
    claimed := if claim then n :: m.claimed.filter (fun k => k ≠ n) else m.claimed.filter (fun k => k ≠ n) })).log .securePinChange
      [BitVec.ofNat 8 n, if claim then 1 else 0]

/-- SECURE_CLAIM (R196). -/
def execSecureClaim (rq : Request) (s : State) : Out :=
  serve specSecureClaim rq s okPin (fun s =>
    let n := u8At rq.payload 0
    if s.pinCovered n false ∨ s.pinRuled n then no s .busy else yes (s.pinChange n true))

/-- SECURE_RELEASE (R196). -/
def execSecureRelease (rq : Request) (s : State) : Out :=
  serve specSecureRelease rq s okPin (fun s =>
    let n := u8At rq.payload 0
    if s.pinCovered n true then no s .busy else yes (s.pinChange n false))

end Sys2Proof.Machine
end

