-- ==== Sys2Proof/Machine/Start.lean ====
section
/-! DEFINITION. The start-up sequence from step 3 on: slots and trials, RECOVERY, the self-test, the stored configuration, the images
and the boot record, the release of the pairs, START_GOOD, the start timeout, and the transition from PARTIAL to RUN (R73, R76,
R84 to R90, R156, R157, R206 to R208, R461, R613, R615, R618). -/

namespace Sys2Proof.Machine

open Sys2Proof

/-! ### Slots -/

/-- A target as manufacture leaves it: slot A of target 0 ACTIVE, everything else EMPTY (R614). -/
def Target.initial (n : Nat) : Target := if n = 0 then { slotA := { st := .active, authentic := true } } else {}

/-- Target n. -/
def State.target (s : State) (n : Nat) : Target := Tab.get s.mgmt.targets n (Target.initial n)
/-- Change target n. -/
def State.updTarget (s : State) (n : Nat) (f : Target → Target) : State :=
  s.onMgmt (fun m => { m with targets := Tab.put m.targets n (f (Tab.get m.targets n (Target.initial n))) })

/-- Slot A (false) or B (true). -/
def Target.slot (t : Target) (b : Bool) : Slot := if b then t.slotB else t.slotA
/-- Change slot A or B. -/
def Target.updSlot (t : Target) (b : Bool) (f : Slot → Slot) : Target :=
  if b then { t with slotB := f t.slotB } else { t with slotA := f t.slotA }
/-- The slot in a state, slot A first. -/
def Target.inState (t : Target) (x : SlotState) : Option Bool :=
  if t.slotA.st = x then some false else if t.slotB.st = x then some true else none

/-- The image of a slot authenticates and is not below the minimum version (R613). -/
def Target.usable (t : Target) (b : Bool) : Bool := (t.slot b).authentic && decide (t.minSec.toNat ≤ (t.slot b).secver.toNat)

/-- The slot of target 1 whose stored configuration gives the owner's public keys: the one committed last, else the one that this start
loaded, else the ACTIVE one, else the VALID one (R612; DEDUCED, log entry 175). -/
def State.ownerSlot (s : State) : Option Slot :=
  let t := s.target 1
  (((t.inState .pending).or t.loaded).or ((t.inState .active).or (t.inState .valid))).map t.slot

/-- The signer of a slot's image is the one that its target needs: the owner key as recorded, or in BLANK the key of the stored configuration,
which is its own signer (R611, R612). -/
def State.signerOk (s : State) (n : Nat) (k : Slot) : Bool :=
  match n, s.aon.ownerKey with
  | 0, _ => true
  | _, some h => k.signer = h
  | 1, none => true
  | _, none => s.ownerSlot.map Slot.signer = some k.signer

/-- The image of a slot of target n can be loaded (R612, R613). -/
def State.usable (s : State) (n : Nat) (b : Bool) : Bool := (s.target n).usable b && s.signerOk n ((s.target n).slot b)

/-- A slot's number in a ledger entry. -/
def slotByte (b : Bool) : Byte := if b then 1 else 0

/-- The data of SLOT_FALLBACK: target, slot refused, status (R606). The status is DENIED, as an image that does not authenticate gets at
UPDATE_COMMIT (DEDUCED, log entry 73). -/
def fallbackData (n : Nat) (b : Bool) : List Byte := [BitVec.ofNat 8 n, slotByte b] ++ leBytes 2 Status.denied.code.toNat

/-- The slot of a target is chosen at the step that loads it: the PENDING one as a trial, otherwise the ACTIVE one, otherwise the
other (R615). SLOT_FALLBACK is recorded where the other slot is loaded (DEDUCED, log entry 73). -/
def State.selectSlot (s : State) (n : Nat) : State × Option Bool :=
  let t := s.target n
  let load (u : State) (b trial : Bool) : State × Option Bool :=
    (u.updTarget n (fun x => { x with loaded := some b, onTrial := trial }), some b)
  match t.inState .pending with
  | some b =>
    let s1 := s.updTarget n (fun x => { x.updSlot b (fun k => { k with st := .failed }) with trial := true })
    if s.usable n b then load s1 b true
    else
      let s2 := s1.updTarget n (fun x => { x with trial := false })
      if ((t.slot (!b)).st = .valid ∨ (t.slot (!b)).st = .active) ∧ s.usable n (!b) then
        load (s2.log .slotFallback (fallbackData n b)) (!b) false
      else (s2, none)
  | none =>
    let bad := (t.inState .failed).getD false
    let s1 :=
      if t.trial then (s.updTarget n (fun x => { x with trial := false })).log .updateReverted [BitVec.ofNat 8 n, slotByte bad]
      else s
    match t.inState .active with
    | some b =>
      if s.usable n b then load s1 b false
      else if (t.slot (!b)).st = .valid ∧ s.usable n (!b) then
        load ((s1.updTarget n (fun x => (x.updSlot b (fun k => { k with st := .failed })).updSlot (!b) (fun k =>
          { k with st := .active }))).log .slotFallback (fallbackData n b)) (!b) false
      else (s1, none)
    | none =>
      match t.inState .valid with
      | some b => if s.usable n b then load s1 b false else (s1, none)
      | none => (s1, none)

/-- At START_GOOD the trial image becomes ACTIVE, and the minimum version rises to that of the image loaded (R613, R615). -/
def State.promote (s : State) (n : Nat) : State :=
  let t := s.target n
  match t.loaded with
  | none => s
  | some b =>
    let k := t.slot b
    let s1 := s.updTarget n (fun x => { x with minSec := if x.minSec.toNat < k.secver.toNat then k.secver else x.minSec })
    if t.onTrial then
      (s1.updTarget n (fun x => { (x.updSlot (!b) (fun o => if o.st = .active then { o with st := .valid } else o)).updSlot b (fun o =>
        { o with st := .active }) with trial := false, onTrial := false })).log .updateCommitted
          ([BitVec.ofNat 8 n, slotByte b, 0, 0] ++ leBytes 4 k.version.toNat ++ leBytes 4 k.secver.toNat)
    else s1

/-! ### RECOVERY -/

/-- A channel takes its power-on default at RECOVERY entry (R461). -/
def State.loadRecovers (s : State) (c : Nat) : State :=
  s.updLoad c (fun ch => if ch.cfg.limp && s.limpMay then ch.apply fullOn .limp else ch.apply {} .powerOn)

/-- RECOVERY: the service port alone, the pairs off, the power stage at its power-on defaults (R28, R73, R89, R461). -/
def State.enterRecovery (s : State) : State :=
  let s1 := (s.onAon (fun a => { a with mode := .recovery })).onSupply (fun u => { u with faultLow := true })
  let s2 := (List.range 8).foldl (fun t p => t.updPair p (fun q => { q with st := .off })) s1
  let s3 := { s2 with sw := {}, eth := {}, bus := {}, pass := {} }
  let s4 := s3.onCore (fun c => { c with harts := [] })
  let s5 := (List.range 60).foldl State.loadRecovers s4
  let s6 :=
    if s5.limpMay ∧ s5.limpMask ≠ [] ∧ ¬ s5.ps.limpActive then (s5.onPs (fun p => { p with limpActive := true })).psEvent 0 else s5
  (s.loadAll s6).sensStep

/-! ### Step 3 -/

/-- The key store answers Amind from step 3 on; an alarm raised at step 2 is recorded now, with its reset (R564). -/
def State.keysUp (s : State) : State :=
  if s.ks.st = .alarmed then (s.log .keyAlarm [BitVec.ofNat 8 s.ks.alarm.toNat]).amindPulse .key 5 0xFF
  else (s.onKs (fun k => { k with st := .ready })).onCe (fun c => { c with ime := true })

/-- The wake that this start follows is recorded (R606); 0xFF where no source was latched. -/
def State.wakeLog (s : State) : State :=
  if ¬ s.aon.cause.wake then s
  else
    let l := s.sleep.latch ||| s.sleep.lateLatch
    s.log .wake ([if l = 0 then 0xFF else BitVec.ofNat 8 s.sleep.lastSource.toNat, if s.sleep.late then 1 else 0] ++ leBytes 8 l.toNat)

/-- STRAP_INVALID: the straps as sampled, open as 1: PAIR_ID, NET_SEL0, NET_SEL1, SVC_SEL in bits 0 to 3 (R44, R606). -/
def Straps.byte (p : Straps) : Byte := 6 ||| (if p.pairOpen then 1 else 0) ||| (if p.svcOpen then 8 else 0)

/-- The invalid strap code is recorded (R45). -/
def State.strapLog (s : State) : State :=
  if s.supply.straps.net = .invalid then s.log .strapInvalid [s.supply.straps.byte] else s

/-- Amind measures the bank: BANK_CAP, and below 1.2 mF HOLDUP_LOW with its entry (R58). -/
def State.bankMeasured (s : State) (bankCap : U16) : State :=
  let low := decide (bankCap.toNat < 1200)
  let s1 := s.onSupply (fun u => { u with bankCap := bankCap, holdupLow := low })
  if low then s1.log .holdupLow (leBytes 2 bankCap.toNat) else s1

/-- The service record of the start: the newer of the two copies, the other one where it is not valid, and the delivery record where
neither is (R90, R212, R617, R622). -/
def State.svcLoad (s : State) : State :=
  s.onMgmt (fun m => { m with svc :=
    ((if m.svcNewB then m.svcB.or m.svcA else m.svcA.or m.svcB)).getD deliveryRecord })

/-- The pairs that step 8 releases (R84). -/
def State.toRelease (s : State) : List Nat := if s.aon.target = .part then [0] else List.range 8

/-- The pairs whose comparators are tested show it (R156, R174). -/
def State.testsBegin (s : State) (l : List Nat) : State := l.foldl (fun t p => t.updPair p (fun q => { q with st := .selftest })) s

/-- AMIND_FIRMWARE_AUTHENTICATED: step 3 (R45, R84, R88, R90, R241, R249, R534, R618). Without firmware the boot ROM serves. A
start that ends here in RECOVERY measures the bank here (R58; DEDUCED, log entry 116). -/
def execAmindFirmwareAuthenticated (report : FirmwareReport) (s : State) : Out :=
  if ¬ (s.aon.mode = .start ∧ s.aon.step = 2 ∧ ¬ s.supply.holdup) then .next s
  else
    let s1 := (s.onAon (fun a => { a with step := 3, wdogRunning := true })).svcLoad
    let sel := s1.selectSlot 0
    match sel.2 with
    | none => fin ((sel.1.onAon (fun a => { a with bootRom := true })).wakeLog.strapLog.bankMeasured report.bankCap).enterRecovery
    | some _ =>
      let s2 := (sel.1.onKs (fun k => { k with layers := Tab.put k.layers 1 (fixLen 48 report.digest) })).keysUp.wakeLog.strapLog
      fin (if s.aon.recoveryAt3 ∨ s.aon.lifecycle = 4 ∨ s.supply.straps.net = .invalid then (s2.bankMeasured report.bankCap).enterRecovery
        else s2.testsBegin s2.toRelease)

/-! ### Self-test, step 4 -/

/-- The self-test of a pair has ended in this start. -/
def State.tested (s : State) (p : Nat) : Bool := (s.pair p).pass || (s.pair p).st = .failed

/-- A pair passes its self-test, or fails it and is held (R156, R157). -/
def State.selfTest (s : State) (p : Nat) (pass : Bool) (lane : Nat) : State :=
  if pass then s.updPair p (fun q => { q with pass := true, stf := false, st := .inReset })
  else ((s.raiseAgain 192).updPair p (fun q => { q with pass := false, stf := true, st := .failed })).log .selftestFail
    [BitVec.ofNat 8 p, BitVec.ofNat 8 lane]

/-- The memories of step 4: secure SRAM, market and express SRAM are zeroed, and a new DRAM key is loaded (R84, R91). -/
def State.memoriesWiped (s : State) : State :=
  ((s.loseDram).onCore (fun c => { c with sram := [] })).onSw (fun w => { w with frames := [] })

/-- COMPARATOR_SELFTEST_DONE; with the last pair step 4 completes, its memories wiped (R84, R91, R156, R157). -/
def execComparatorSelftestDone (pair : Nat) (pass : Bool) (lane : Nat) (s : State) : Out :=
  if 8 ≤ pair then noUnit
  else if s.aon.mode = .start ∧ s.aon.step = 3 ∧ s.toRelease.contains pair ∧ ¬ s.tested pair ∧ ¬ s.supply.holdup then
    let s1 := s.selfTest pair pass lane
    fin (if s1.toRelease.all s1.tested then s1.memoriesWiped.onAon (fun a => { a with step := 4 }) else s1)
  else .next s

/-! ### Steps 5 and 7 -/

/-- The slot that would be loaded holds a configuration that fails Amind's own checks, and so does not authenticate (R462, R615). -/
def State.configFails (s : State) : State × Option Bool :=
  let r := s.selectSlot 1
  match r.2 with
  | none => r
  | some b => (s.updTarget 1 (fun t => t.updSlot b (fun k => { k with authentic := false }))).selectSlot 1

/-- START_CONFIG_APPLIED: step 5, with the content of the slot that is chosen. A configuration that fails the checks counts as one
that does not authenticate; the next event then brings the other slot's (R84, R462, R615). The bank is measured, once in a start (R58). -/
def execStartConfigApplied (cfg : StoredCfg) (bankCap : U16) (s : State) : Out :=
  if ¬ (s.aon.mode = .start ∧ s.aon.step = 4 ∧ ¬ s.supply.holdup) then .next s
  else if s.cfgOk cfg then
    let sel := s.selectSlot 1
    match sel.2 with
    | none => fin (sel.1.bankMeasured bankCap).enterRecovery
    | some _ => fin (((sel.1.bankMeasured bankCap).applyStored cfg).onAon (fun a => { a with step := 5 }))
  else
    let sel := s.configFails
    match sel.2 with
    | none => fin (sel.1.bankMeasured bankCap).enterRecovery
    | some _ => fin sel.1

/-- A root handle: secure for nodes 2 and 4 (R536). -/
def State.rootHandle (s : State) (n : Nat) : State :=
  let sec : Bool := n = 2 || n = 4
  let s1 := s.hCreate 0x07 n 0 sec {} (0, 1, 0)
  s1.onKs (fun k => { k with rootHandles := Tab.put k.rootHandles n (mkHandle 0x07 0 (s.genOf 0x07 n) n) })

/-- Address of the boot record (R207). -/
def bootRecord : Nat := 0x00011FF000

/-- The boot record (R207). -/
def State.bootBytes (s : State) (entry mgrEntry : A40) : List Byte :=
  let mask := (s.toRelease.filter (fun p => (s.pair p).st ≠ .failed)).foldl (fun n p => n + 2 ^ p) 0
  let outs := s.mgmt.stored.carveOuts.take 4
  leBytes 4 0x424F4F54 ++ leBytes 4 1 ++ leBytes 8 entry.toNat
    ++ leBytes 8 (if s.mgmt.stored.manager then mgrEntry.toNat else 0)
    ++ leBytes 1 mask ++ leBytes 1 s.aon.target.code ++ leBytes 2 outs.length ++ leBytes 4 0
    ++ fixLen 64 (outs.map (fun c => leBytes 8 c.1 ++ leBytes 8 c.2)).flatten
    ++ s.ks.layer 2 ++ s.ks.layer 3

/-- DRAM checker regions 0 to 3 hold the secure carve-outs (R130, R207). -/
def State.carve (s : State) : State :=
  s.onCore (fun c => { c with dramRegions := ((s.mgmt.stored.carveOuts.take 4).mapIdx (fun i r => (i, r))).foldl (fun (t : Tab Region) e =>
    Tab.put t e.1
      { base := BitVec.ofNat 28 (e.2.1 / 4096), limit := BitVec.ofNat 28 ((e.2.1 + e.2.2) / 4096 - 1), en := true
        sR := true, sW := true }) c.dramRegions })

/-- Layers 2 and 3 and the roots (R534 to R536). -/
def State.measure (s : State) (digest2 : List Byte) (digest3 : Option (List Byte)) : State :=
  let s1 := s.onKs (fun k => { k with
    layers := Tab.put k.layers 2 (fixLen 48 digest2), roots := k.st ≠ .alarmed })
  let s2 := if s.mgmt.stored.manager then s1.onKs (fun k => { k with
    layers := Tab.put k.layers 3 (fixLen 48 (digest3.getD [])), layer3 := true }) else s1
  if s2.ks.st = .alarmed then s2 else [2, 3, 4, 5].foldl State.rootHandle s2

/-- Both images have a usable slot, the manager image where it is declared (R206). -/
def State.selectImages (s : State) : State × Bool :=
  let a := s.selectSlot 2
  if a.2.isNone then (a.1, false)
  else if ¬ s.mgmt.stored.manager then (a.1, true)
  else
    let b := a.1.selectSlot 3
    (b.1, b.2.isSome)

/-- A part of an image lies in one of the carve-outs. -/
def State.inCarveOut (s : State) (p : A40 × List Byte) : Bool :=
  (s.mgmt.stored.carveOuts.take 4).any (fun c => decide (c.1 ≤ p.1.toNat ∧ p.1.toNat + p.2.length ≤ c.1 + c.2))

/-- Where the secure world image may lie: secure SRAM, and the carve-outs (R84, R207). -/
def State.secureMay (s : State) (p : A40 × List Byte) : Bool :=
  decide (sramBase ≤ p.1.toNat ∧ p.1.toNat + p.2.length ≤ sramEnd) || s.inCarveOut p

/-- Where the manager image may lie: DRAM outside the carve-outs (R206). -/
def State.managerMay (s : State) (p : A40 × List Byte) : Bool :=
  decide (dramBase ≤ p.1.toNat ∧ p.1.toNat + p.2.length ≤ dramEnd) &&
    (s.mgmt.stored.carveOuts.take 4).all (fun c => decide (p.1.toNat + p.2.length ≤ c.1 ∨ c.1 + c.2 ≤ p.1.toNat))

/-- The parts of the two images are placed, each where its image may lie (R84, R206, R207). -/
def State.placed (s : State) (secure mgr : List (A40 × List Byte)) : State :=
  let put (t : State) (p : A40 × List Byte) : State := t.setMem p.1.toNat p.2
  let s1 := (secure.filter s.secureMay).foldl put s
  if s.mgmt.stored.manager then (mgr.filter s.managerMay).foldl put s1 else s1

/-- SECURE_IMAGE_PLACED: step 7; the images' bytes, the carve-outs and the boot record (R84, R206, R207). -/
def execSecureImagePlaced (digest2 : List Byte) (digest3 : Option (List Byte)) (entry mgrEntry : A40)
    (parts : ImageParts) (s : State) : Out :=
  if ¬ (s.aon.mode = .start ∧ s.aon.step = 5 ∧ ¬ s.supply.holdup) then .next s
  else
    let sel := s.selectImages
    if ¬ sel.2 then fin sel.1.enterRecovery
    else
      let s2 := ((sel.1.measure digest2 digest3).carve).placed parts.secure parts.mgr
      fin ((s2.setMem bootRecord (s2.bootBytes entry mgrEntry)).onAon (fun a => { a with step := 7 }))

/-! ### Step 8 -/

/-- The boot ROM of a released hart: the secure image in M-mode, or a wait where a check fails (R208). mepc is left as the ROM used
it: a free value. -/
def State.bootHart (s : State) (h : Nat) : State :=
  let rd (o n : Nat) : Nat := leNat (s.memBytes (bootRecord + o) n)
  let entry := rd 8 8
  let mk := s.markerFetch h entry
  let ok : Bool := rd 0 4 = 0x424F4F54 && rd 4 4 = 1 && mk.2 = some tollMarker
  let s1 := mk.1.updHart h (fun _ =>
    ({ pc := BitVec.ofNat 64 (entry + 4), bootWait := !ok
       x := [(10, BitVec.ofNat 64 h), (11, BitVec.ofNat 64 bootRecord)]
       csr := [(0x341, Config.freeWord 3 s.core.fresh &&& ~~~1)] } : Hart))
  (s1.updPair h (fun p => { p with st := .running })).onCore (fun c => { c with fresh := c.fresh + 1 })

/-- Every pair that passed its test is released (R157). -/
def State.pairsRun (s : State) (l : List Nat) : State :=
  (l.filter (fun p => (s.pair p).st = .inReset && (s.pair p).pass)).foldl State.bootHart s

/-! ### START_GOOD -/

/-- START_GOOD: the target mode, FAULT_N released, the failed-start counter cleared, trials committed (R73, R84, R86). A wake for RUN
or a false wake that came meanwhile follows (R430, R433). -/
def State.startComplete (s : State) : State :=
  let ms := min 65535 ((s.now.toNat - s.aon.t0.toNat) / 1000000)
  let s1 := [0, 1, 2, 3].foldl State.promote s
  let s2 := s1.log .startGood (leBytes 2 ms ++ [BitVec.ofNat 8 s.aon.target.code])
  let s3 := (s2.onSupply (fun u => { u with faultLow := false })).onAon (fun a => { a with
    step := 9, startGood := true, goodTime := BitVec.ofNat 16 ms, failedStarts := 0 })
  let s4 :=
    if s.aon.target = .part then s3.enterPartial
    else (s3.loadAll (s3.onAon (fun a => { a with mode := .run }))).sensStep
  let s5 := s4.onSleep (fun p => { p with falsePending := false, runAfterGood := false })
  let s6 := if s.sleep.runAfterGood ∧ s.aon.target = .part then s5.runBegin [] else s5
  if s.sleep.falsePending ∧ s6.sleep.phase = 0 then s6.orderBegin true none else s6

/-- A released hart waits after a failed check of its boot ROM: the start ends under R87 (R208). -/
def State.bootFailed (s : State) : Bool := s.toRelease.any (fun h => (s.hart h).bootWait)

/-- START_GOOD is reached when step 8 has completed and the manager has issued the command, or there is no manager (R86, R208). -/
def State.maybeGood (s : State) : State :=
  if s.aon.mode = .start ∧ s.aon.step = 8 ∧ (s.aon.goodIssued ∨ ¬ s.mgmt.stored.manager) ∧ ¬ s.bootFailed then s.startComplete else s

/-- PAIRS_RELEASED: step 8; none is released where P0 failed (R84, R157). -/
def execPairsReleased (s : State) : Out :=
  if ¬ (s.aon.mode = .start ∧ s.aon.step = 7 ∧ ¬ s.supply.holdup) ∨ (s.pair 0).st = .failed then .next s
  else fin ((s.pairsRun s.toRelease).onAon (fun a => { a with step := 8 })).maybeGood

/-- START_GOOD, 0x0602. -/
def specStartGood : CmdSpec := { op := 0x0602, who := [.mgr], st := true, run := false }

/-- START_GOOD (R86). -/
def execStartGood (rq : Request) (s : State) : Out :=
  serve specStartGood rq s (fun p => p = []) (fun s => yes (s.onAon (fun a => { a with goodIssued := true })).maybeGood)

/-- START_TIMEOUT: 2 s after t0; the entry names the last completed step, step 6 being complete by then where step 5 is (R84, R87,
R606). The next start shows START_TIMEOUT alone and not REQ_WDOG, which is for the expiry of R250 (DEDUCED, log entry 120). -/
def execStartTimeout (s : State) : Out :=
  if ¬ (s.aon.mode = .start ∧ 2 ≤ s.aon.step ∧ ¬ s.supply.holdup ∧ ¬ s.supply.pinHeld) then .next s
  else
    let k := if s.aon.step = 5 then 6 else s.aon.step
    let s1 := (s.logAon .startTimeout [BitVec.ofNat 8 k]).onAon (fun a => { a with nextTimeout := true })
    fin (if s.supply.rstReq then s1
      else (s1.onSupply (fun u => { u with rstReq := true })).onAon (fun a => { a with nextReq := none }))

/-! ### PARTIAL to RUN -/

/-- Blocks that PARTIAL had switched off, and no power request, run again (R199). -/
def State.blocksRunAgain (s : State) : State :=
  (s.partialOff.filter (fun b => (s.block b).st ≠ .on && !(s.block b).byReq)).foldl (fun t b =>
    let u := t.block b
    (((t.updBlock b (fun x => { x with st := .on, onReq := [], voteReq := [], offReq := [], offHeld := false })).blockRuns b).completeAll
      (u.onReq ++ u.offReq) .ok []).completeAll u.voteReq .ok []) s

/-- Ports that PARTIAL put to sleep are woken. -/
def State.portsWake (s : State) : State :=
  ((List.range 22).filter (fun p => (s.ethPort p).lowPower && !s.mgmt.stored.keepPorts.getLsbD p)).foldl (fun t p =>
    (t.updEthPort p (fun e => { e with lowPower := false })).onSleep (fun x => { x with wakesSent := x.wakesSent + 1 })) s

/-- MODE_RUN_ENTERED: P1 to P7 tested, the operand giving those that fail and their lanes, and released; gateway, Pass link, loads and sensor supplies as in
RUN (R73, R76, R156, R157, R204). -/
def execModeRunEntered (fails : List (Nat × Nat)) (s : State) : Out :=
  match s.core.toRun with
  | none => .next s
  | some ws =>
    if s.aon.mode ≠ .part ∨ s.supply.holdup then .next s
    else
      let s1 := (List.range 7).foldl (fun t k =>
        (t.updPair (k + 1) (fun p => { p with st := .inReset, split := false, haveReset := true })).selfTest (k + 1) (!Tab.has fails (k + 1)) (Tab.get fails (k + 1) 0)) s
      let s2 := ((s1.pairsRun ((List.range 7).map (fun k => k + 1))).blocksRunAgain.portsWake).onGw (fun g =>
        { g with en := s.mgmt.stored.io.gwEn })
      let s3 := (s2.onPass (fun p => { p with reduced := false })).pxLink
      let s4 := s3.onAon (fun a => { a with mode := .run })
      fin (((s.loadAll s4).sensStep.onCore (fun c => { c with toRun := none })).completeAll ws .ok [])

end Sys2Proof.Machine
end

