-- ==== Sys2Proof/Machine/Records.lean ====
section
/-! DEFINITION. Health samples and safety status, the ledger's commits and readers, updates, the life cycle and the debug port
(R48, R101, R279 to R281, R489, R603 to R621). -/

namespace Sys2Proof.Machine

open Sys2Proof

/-! ### Health -/

/-- The rails VCORE, VISL and VKEY are inside their monitor windows, mV (R626). -/
def Sensors.railsOk (h : Sensors) : Bool :=
  550 ≤ h.vcore.toNat && h.vcore.toNat ≤ 840 && 1140 ≤ h.visl.toNat && h.visl.toNat ≤ 1260 && 920 ≤ h.vkey.toNat && h.vkey.toNat ≤ 1080

/-- A sample of the sensors and of the module current replaces the one before; the conditions rise and clear with hysteresis, in samples
of 1 ms (R603, R604). Temperatures are signed. -/
def Health.sampled (old : Health) (new : Sensors) (amps budget : Nat) : Health :=
  let a := (amps :: old.amps).take 100
  let w := (new.dissipation.toNat :: old.watts).take 1000
  let beyond : Bool := budget < meanOf a || dissLimit < meanOf w
  let k8 := if beyond then 0 else min 1000 (old.within8 + 1)
  let k9 := if new.railsOk then min 10 (old.within9 + 1) else 0
  { new with
    amps := a, watts := w
    src4 := decide (1450 ≤ new.junction.toInt) || (old.src4 && decide (1400 ≤ new.junction.toInt))
    src5 := decide (850 ≤ new.baseplate.toInt) || (old.src5 && decide (800 ≤ new.baseplate.toInt))
    src8 := beyond || (old.src8 && decide (k8 < 1000))
    src9 := !new.railsOk || (old.src9 && decide (k9 < 10))
    within8 := k8, within9 := k9 }

/-- HEALTH_SAMPLE: the sensors and the feed currents, every 1 ms (R34, R603, R604). The feed currents and the baseplate temperature are
measured in every mode of a powered module, for the power stage (R476, R491); Amind's own samples are taken while it runs. -/
def execHealthSample (h : Sensors) (feedA feedB : U16) (s : State) : Out :=
  if ¬ s.powered then .next s
  else
    let s1 := (s.onSupply (fun u => { u with feedA := u.feedA.sampled feedA, feedB := u.feedB.sampled feedB })).onPs
      (fun p => { p with base := h.baseplate })
    if ¬ s.amindUp then fin s1
    else fin (s1.onMgmt (fun m => { m with health := m.health.sampled h (feedA.toNat + feedB.toNat) s.ps.budget }))

/-- HEALTH_QUERY, 0x0801. -/
def specHealthQuery : CmdSpec :=
  { op := 0x0801, who := [.mgr, .sec, .ptr, .svc], role := some 0, st := true, safe := true, rcv := true }

/-- The health record, 24 bytes (R493, R603). -/
def State.healthRecord (s : State) : List Byte :=
  let h := s.mgmt.health
  let u := s.supply
  let b (x : Bool) (k : Nat) : Nat := if x then k else 0
  leBytes 2 h.junction.toNat ++ leBytes 2 h.baseplate.toNat ++ leBytes 2 h.vbus.toNat ++ leBytes 2 h.vcore.toNat
    ++ leBytes 2 h.visl.toNat ++ leBytes 2 u.bankCap.toNat ++ leBytes 2 u.feedA.cur.toNat ++ leBytes 2 u.feedB.cur.toNat
    ++ leBytes 2 (u.feedA.cur.toNat + u.feedB.cur.toNat) ++ leBytes 2 h.dissipation.toNat ++ leBytes 1 s.aon.mode.code
    ++ leBytes 1 (b u.crank 1 + b u.holdupLow 2 + b u.feedA.lost 4 + b u.feedB.lost 8) ++ leBytes 2 0

/-- HEALTH_QUERY (R603). -/
def execHealthQuery (rq : Request) (s : State) : Out :=
  serve specHealthQuery rq s (fun p => p = []) (fun s => yesWith s s.healthRecord)

/-- SAFETY_STATUS, 0x0802. -/
def specSafetyStatus : CmdSpec :=
  { op := 0x0802, who := [.mgr, .sec, .ptr, .svc], role := some 0, st := true, safe := true, rcv := true }

/-- The safety status, 8 bytes (R279). -/
def State.safetyRecord (s : State) : List Byte :=
  let flags : Byte := (if s.splitMask ≠ 0 then 1 else 0) ||| (if s.aon.safeHold then 2 else 0)
  [flags, s.shownMask s.splitMask, s.shownMask s.comparedMask, s.shownMask s.stfMask, s.aon.safeCause, BitVec.ofNat 8 s.safeCountNow,
    s.aon.safePair.setWidth 8, 0]

/-- SAFETY_STATUS (R279). -/
def execSafetyStatus (rq : Request) (s : State) : Out :=
  serve specSafetyStatus rq s (fun p => p = []) (fun s => yesWith s s.safetyRecord)

/-! ### Ledger -/

/-- LEDGER_AON_COMMIT: the oldest entry has been in the buffer for 1 ms (R101, R605). -/
def execLedgerAonCommit (s : State) : Out :=
  match s.mgmt.ledger.buffer with
  | [] => .next s
  | e :: r =>
    if s.powered then fin (s.onMgmt (fun m => { m with ledger := { m.ledger.store e with buffer := r } })).aonDrops else .next s

/-- LEDGER_AMIND_COMMIT (R605, R607). -/
def execLedgerAmindCommit (s : State) : Out := if s.amindUp then fin s.commitBuffer else .next s

/-- LEDGER_RATE_SECOND_END: one LEDGER_DROPPED for each code that Amind counted; the next second begins (R607). -/
def execLedgerRateSecondEnd (s : State) : Out :=
  if ¬ s.amindUp then .next s
  else
    let s1 := s.onMgmt (fun m => { m with ledger := { m.ledger with rate := [], dropped := [] } })
    fin (s.mgmt.ledger.dropped.foldl (fun t d => t.log .ledgerDropped (leBytes 2 d.1 ++ leBytes 4 d.2.toNat)) s1)

/-- The sequence of the oldest retained entry, or of the next one where none is retained. -/
def Ledger.oldest (l : Ledger) : Nat :=
  match l.stored ++ l.buffer with
  | [] => l.lastSeq.toNat + 1
  | e :: _ => e.seq.toNat

/-- LEDGER_READER_CREATE, 0x0810. -/
def specLedgerReaderCreate : CmdSpec :=
  { op := 0x0810, who := [.mgr, .sec, .gst, .svc], role := some 0, st := true, safe := true, rcv := true }

/-- A reader begins at the first retained entry whose sequence is at least its start sequence (R609). -/
def Ledger.reader (l : Ledger) (mask start : Nat) (session : Option Nat) : Reader :=
  let low := decide (start < l.oldest)
  { mask := BitVec.ofNat 32 mask, next := BitVec.ofNat 64 (if low then l.oldest else start)
    gap := low && start ≠ 0, session := session }

/-- A new ledger reader (R609 to R611). -/
def ownLedgerReaderCreate (rq : Request) (s : State) : State × Ans :=
  let own := s.issuerInst rq.route
  let p := rq.payload
  match s.firstFree 0x0C 16 with
  | none => no s .noResource
  | some n =>
    if ¬ s.roomFor 0x0C 0 own rq.isSec 1 0 then no s .noResource
    else
      let session := if rq.route.issuer = .svc then some rq.route.key else none
      (((s.takeFree 0x0C 16).hCreate 0x0C n own rq.isSec {} (0, 1, 0)).onMgmt (fun m => { m with
          readers := Tab.put m.readers n (m.ledger.reader (u32At p 0) (u64At p 8) session) }),
        { handle := some (mkHandle 0x0C own (s.genOf 0x0C n) n) })

/-- LEDGER_READER_CREATE (R609, R610). -/
def execLedgerReaderCreate (rq : Request) (s : State) : Out :=
  serve specLedgerReaderCreate rq s (fun p => p.length = 16 && u32At p 4 = 0) (ownLedgerReaderCreate rq)

/-- LEDGER_READ, 0x0811: for the owner of the reader. -/
def specLedgerRead : CmdSpec :=
  { op := 0x0811, who := everyIssuer, st := true, safe := true, rcv := true, types := [0x0C], mgrToo := false }

/-- A reader that a session created serves only that session (R610). -/
def State.readerFor (s : State) (rq : Request) : Bool :=
  match (Tab.get s.mgmt.readers (hIndex rq.handle) {}).session with
  | none => true
  | some k => k = rq.route.key

/-- The entries that a read returns: committed, of the reader's classes, from its position on (R609, R280). -/
def Ledger.take (l : Ledger) (r : Reader) (most : Nat) : List LedgerEntry :=
  (l.stored.filter (fun e => decide (r.next.toNat ≤ e.seq.toNat) && r.mask.getLsbD (e.event.toNat / 256))).take most

/-- A read advances its reader past what it returns, and past every committed entry where it returns fewer than asked for (DEDUCED, log
entry 174); a reader that erasure overtook moves to the oldest entry (R280, R609). -/
def ownLedgerRead (rq : Request) (s : State) : State × Ans :=
  let n := hIndex rq.handle
  let r0 := Tab.get s.mgmt.readers n {}
  let l := s.mgmt.ledger
  if ¬ s.readerFor rq then no s .notOwner
  else
    let lost := decide (r0.next.toNat < l.oldest)
    let r := if lost then { r0 with next := BitVec.ofNat 64 l.oldest, gap := true } else r0
    let es := l.take r (u16At rq.payload 0)
    let last := if es.length < u16At rq.payload 0 then (l.stored.filter (fun e => decide (r.next.toNat ≤ e.seq.toNat))).getLast? else es.getLast?
    let next := match last with
      | some e => e.seq + 1
      | none => r.next
    yesWith (s.onMgmt (fun m => { m with readers := Tab.put m.readers n { r with next := next, gap := false } }))
      (leBytes 2 es.length ++ leBytes 2 (if r.gap then 1 else 0) ++ (es.map LedgerEntry.bytes).flatten)

/-- LEDGER_READ: at most 31 entries on a stall, 21 over UDP (R280). -/
def execLedgerRead (rq : Request) (s : State) : Out :=
  serve specLedgerRead rq s (fun p => p.length = 4 && u16At p 2 = 0 && 1 ≤ u16At p 0 && u16At p 0 ≤ (if rq.route.udpSide then 21 else 31))
    (ownLedgerRead rq)

/-! ### Updates -/

/-- The partitions of Amind's flash (R212). -/
inductive FlashPart where
  | firmwareA | firmwareB | configA | configB | service | always | reserved | ledger
  deriving DecidableEq, Repr

/-- First byte and length of a partition (R212). -/
def FlashPart.span (p : FlashPart) : Nat × Nat :=
  match p with
  | .firmwareA => (0x0000000, 0x800000)
  | .firmwareB => (0x0800000, 0x800000)
  | .configA => (0x1000000, 0x400000)
  | .configB => (0x1400000, 0x400000)
  | .service => (0x1800000, 0x40000)
  | .always => (0x1840000, 0x40000)
  | .reserved => (0x1880000, 0x780000)
  | .ledger => (0x2000000, 0x2000000)

/-- The partition of Amind's flash that holds a slot; the images of the secure world and the manager lie on UFS storage (R212). -/
def slotPart (target : Nat) (slotB : Bool) : Option FlashPart :=
  if target = 0 then some (if slotB then .firmwareB else .firmwareA)
  else if target = 1 then some (if slotB then .configB else .configA)
  else none

/-- Slot size of a target in bytes: the partition of Amind's flash for targets 0 and 1 (R212, R611). -/
def slotSize (n : Nat) : Nat :=
  match slotPart n false with
  | some p => p.span.2
  | none => if n = 2 then 268435456 else 2147483648

/-- The inactive slot: the one that is not ACTIVE; without an ACTIVE one, the one that is not VALID, or slot A (R614). -/
def Target.inactive (t : Target) : Bool :=
  if t.slotA.st = .active then true
  else if t.slotB.st = .active then false
  else t.slotA.st = .valid && t.slotB.st ≠ .valid

/-- UPDATE_BEGIN, 0x0820. -/
def specUpdateBegin : CmdSpec := { op := 0x0820, who := [.mgr, .svc], role := some 1, rcv := true }

/-- An update begins: its slot is erased (R90, R281, R611, R614). -/
def ownUpdateBegin (rq : Request) (s : State) : State × Ans :=
  let n := u8At rq.payload 0
  let size := u32At rq.payload 4
  let t := s.target n
  let busy : Bool := match s.mgmt.staging with
    | some g => g.route ≠ rq.route.key || g.commit.isSome
    | none => false
  if s.aon.bootRom ∧ n ≠ 0 then no s .wrongMode
  else if busy ∨ (t.slot t.inactive).st = .pending then no s .busy
  else if slotSize n < size then no s .noResource
  else yes ((s.updTarget n (fun x => x.updSlot x.inactive (fun _ => {}))).onMgmt (fun m => { m with
    staging := some { route := rq.route.key, target := n, size := size } }))

/-- UPDATE_BEGIN (R281, R614). -/
def execUpdateBegin (rq : Request) (s : State) : Out :=
  serve specUpdateBegin rq s (fun p => p.length = 8 && u8At p 0 ≤ 3 && u8At p 1 = 0 && u16At p 2 = 0) (ownUpdateBegin rq)

/-- The staged update of the requesting route. -/
def State.stagedBy (s : State) (rq : Request) : Option Staging :=
  match s.mgmt.staging with
  | some g => if g.route = rq.route.key then some g else none
  | none => none

/-- UPDATE_DATA, UPDATE_COMMIT and UPDATE_ABORT, 0x0821 to 0x0823: for the issuer of UPDATE_BEGIN alone. -/
def State.specUpdate (s : State) (op : Nat) (rq : Request) : CmdSpec :=
  { op := op, who := if (s.stagedBy rq).isSome then [.mgr, .svc] else [], role := some 1, rcv := true }

/-- What an update command does with its route's staged update: nothing while its commit is in progress. -/
def withStaging (rq : Request) (s : State) (own : Staging → State × Ans) : State × Ans :=
  match s.stagedBy rq with
  | none => no s .denied
  | some g => if g.commit.isSome then no s .busy else own g

/-- The next bytes of the image, at the next offset (R281). -/
def ownUpdateData (rq : Request) (s : State) : State × Ans :=
  withStaging rq s (fun g =>
    if u32At rq.payload 0 ≠ g.got then no s .badParam
    else
      let d := rq.payload.drop 4
      yes (s.onMgmt (fun m => { m with staging := some { g with got := g.got + d.length, bytes := g.bytes ++ d } })))

/-- UPDATE_DATA (R281). -/
def execUpdateData (rq : Request) (s : State) : Out :=
  serve (s.specUpdate 0x0821 rq) rq s (fun p => 4 ≤ p.length) (ownUpdateData rq)

/-- The commit of a staged image begins (R281). -/
def ownUpdateCommit (rq : Request) (s : State) : State × Ans :=
  withStaging rq s (fun g =>
    wait (s.onMgmt (fun m => { m with staging := some { g with commit := some (u8At rq.payload 0 = 1, rq.seq) } })) 0)

/-- UPDATE_COMMIT (R281). -/
def execUpdateCommit (rq : Request) (s : State) : Out :=
  serve (s.specUpdate 0x0822 rq) rq s (fun p => p.length = 2 && u8At p 0 ≤ 1 && u8At p 1 = 0) (ownUpdateCommit rq)

/-- The image version and the security version that the header of a staged image gives (R611). -/
def Staging.version (g : Staging) : U32 := BitVec.ofNat 32 (u32At g.bytes 16)
/-- The security version. -/
def Staging.secver (g : Staging) : U32 := BitVec.ofNat 32 (u32At g.bytes 20)

/-- The header declares hardware issue B2: one of its 1 to 4 pairs of characters (R3, R611). -/
def Staging.declaresB2 (g : Staging) : Bool :=
  1 ≤ u8At g.bytes 7 && u8At g.bytes 7 ≤ 4
    && (List.range (u8At g.bytes 7)).any (fun k => u8At g.bytes (8 + 2 * k) = 0x42 && u8At g.bytes (9 + 2 * k) = 0x32)

/-- The payload of a staged image (R611). -/
def Staging.body (g : Staging) : List Byte := (g.bytes.drop 192).take (u32At g.bytes 24)

/-- The header is that of a Swiram image for the staged target, whose length and payload digest it gives (R611). -/
def Staging.headerOk (g : Staging) : Bool :=
  u32At g.bytes 0 = 0x5357524D && u16At g.bytes 4 = 1 && u8At g.bytes 6 = g.target && g.size = 192 + u32At g.bytes 24 + 96 + 3309

/-- The signer field of the header (R611). -/
def Staging.signer (g : Staging) : List Byte := (g.bytes.drop 80).take 48

/-- The image is the signer's: the signer field is the hash of the two keys, the payload has its digest, and both signatures over the
digest of bytes 0 to 191 verify (R611). -/
def Staging.signedBy (g : Staging) (ec pq : List Byte) : Bool :=
  let d := sha384 (g.bytes.take 192)
  let sigs := g.bytes.drop (192 + u32At g.bytes 24)
  g.signer = sha384 (ec ++ pq) && (g.bytes.drop 32).take 48 = sha384 g.body
    && Config.ecdsaOk ec d (sigs.take 96) && Config.mldsaOk pq d ((sigs.drop 96).take 3309)

/-- A staged image authenticates: Trarvo signs the firmware; the owner key signs the others, which a stored configuration carries itself; from
the transition out of BLANK onward the signer is the one recorded (R611, R612). -/
def State.authentic (s : State) (g : Staging) (ec pq : List Byte) : Bool :=
  if g.target = 0 then g.signedBy Config.vendorKeys.1 Config.vendorKeys.2
  else
    (s.aon.ownerKey.isNone || s.aon.ownerKey = some g.signer)
      && (if g.target = 1 then ec.length = 97 && pq.length = 1952 && g.signedBy ec pq
          else match s.ownerSlot with
            | some k => g.signedBy k.ownerEc k.ownerPq
            | none => false)

/-- How a commit ends: bytes and size differ, the image marks a pin that cannot be secure, its header or signatures fail, it does not
declare issue B2 or lies below the minimum version, a stored configuration fails a check of authentication such as the load budget, or it is
PENDING (R3, R194, R281, R488, R611, R613, R614). -/
def State.commitVerdict (s : State) (g : Staging) (authentic : Bool) (cfg : StoredCfg) : Status :=
  if g.got ≠ g.size then .badParam
  else if g.target = 1 ∧ ¬ cfg.securePins.all pinCode then .badParam
  else if (g.target = 1 ∧ ¬ s.cfgOk cfg) ∨ ¬ authentic ∨ ¬ g.headerOk ∨ ¬ g.declaresB2 ∨ g.secver.toNat < (s.target g.target).minSec.toNat then .denied
  else .ok

/-- A service record is written with the stored configuration that is committed: the older copy takes it (R212, R242). -/
def State.svcWrite (s : State) (r : SvcRecord) : State :=
  s.onMgmt (fun m => if m.svcNewB then { m with svcA := some r.taken, svcNewB := false } else { m with svcB := some r.taken, svcNewB := true })

/-- The issuer code of a staged update's route (R552). -/
def Staging.issuer (g : Staging) : Nat := if g.route < 64 then 0 else 4

/-- UPDATE_COMMIT_COMPLETE: the notice, and a restart where it was asked for. The operands are what the image of a stored configuration carries:
the owner's two public keys, the configuration, whose defaults are written with it, and the service record (R194, R242, R251, R281, R458, R488,
R611, R612, R614). -/
def execUpdateCommitComplete (ownerEc ownerPq : List Byte) (cfg : StoredCfg) (record : SvcRecord) (s : State) : Out :=
  match s.mgmt.staging with
  | none => .next s
  | some g =>
    match g.commit with
    | none => .next s
    | some (restart, seq) =>
      if ¬ s.amindUp then .next s
      else
        let v := s.commitVerdict g (s.authentic g ownerEc ownerPq) cfg
        let s1 := s.onMgmt (fun m => { m with staging := none })
        if v ≠ .ok then fin (s1.complete g.route seq v 0 [])
        else
          let s2 := s1.updTarget g.target (fun t => t.updSlot t.inactive (fun _ =>
            { st := .pending, authentic := true, secver := g.secver, version := g.version, signer := g.signer
              ownerEc := if g.target = 1 then ownerEc else [], ownerPq := if g.target = 1 then ownerPq else [] }))
          let s3 := (if g.target = 1 then (s2.svcWrite record).loadDefaults cfg else s2).complete g.route seq .ok 0 []
          fin (if restart then s3.amindPulse .cmd 3 g.issuer else s3)

/-- The staged update is abandoned (R281). -/
def ownUpdateAbort (rq : Request) (s : State) : State × Ans :=
  withStaging rq s (fun _ => yes (s.onMgmt (fun m => { m with staging := none })))

/-- UPDATE_ABORT (R281). -/
def execUpdateAbort (rq : Request) (s : State) : Out :=
  serve (s.specUpdate 0x0823 rq) rq s (fun p => p = []) (ownUpdateAbort rq)

/-! ### Life cycle -/

/-- LIFECYCLE_SET, 0x0830. -/
def specLifecycleSet : CmdSpec := { op := 0x0830, who := [.svc], role := some 1, rcv := true }

/-- The permitted transitions: 0 BLANK, 1 DEVELOP, 2 PRODUCTION, 3 SERVICE, 4 RETIRED (R619). -/
def lifeStep (a b : Nat) : Bool :=
  [(0, 1), (0, 2), (0, 4), (1, 2), (1, 4), (2, 3), (2, 4), (3, 2), (3, 4)].contains (a, b)

/-- What an authorisation signs: "ZC40-LCS", the ueid, the current and the target code, and L (R619). -/
def State.lifeMessage (s : State) (b : Nat) : List Byte :=
  bytesOf [90, 67, 52, 48, 45, 76, 67, 83] ++ s.ks.ueid ++ leBytes 1 s.aon.lifecycle.toNat ++ leBytes 1 b ++ leBytes 4 s.aon.lifeCount.toNat

/-- The owner key's authorisation of a transition verifies; without a committed stored configuration there is no owner key (R612, R619). -/
def State.lifeSigned (s : State) (b : Nat) (auth : List Byte) : Bool :=
  match s.ownerSlot with
  | some k => Config.ecdsaOk k.ownerEc (sha384 (s.lifeMessage b)) auth
  | none => false

/-- A transition is accepted (R619, R620). -/
def ownLifecycleSet (rq : Request) (s : State) : State × Ans :=
  let b := u8At rq.payload 0
  if ¬ lifeStep s.aon.lifecycle.toNat b then no s .badParam
  else if ¬ s.lifeSigned b (rq.payload.drop 4) then no s .denied
  else if s.aon.lifePending.isSome then no s .busy
  else wait (s.onAon (fun a => { a with lifePending := some (BitVec.ofNat 3 b, rq.route.key, rq.seq) })) 0

/-- LIFECYCLE_SET (R619). -/
def execLifecycleSet (rq : Request) (s : State) : Out :=
  serve specLifecycleSet rq s (fun p => p.length = 100 && u8At p 1 = 0 && u16At p 2 = 0) (ownLifecycleSet rq)

/-- The slots of targets 2 and 3 are erased (R621). -/
def State.slotsErased (s : State) : State :=
  [2, 3].foldl (fun t n => t.updTarget n (fun x => { x with slotA := {}, slotB := {}, trial := false })) s

/-- LIFECYCLE_TRANSITION_COMMIT: the entry, the new state and count, SCOUNT cleared in every hart, the DRAM key discarded, the notice, the
pulse (R192, R563, R618, R620, R621). -/
def execLifecycleTransitionCommit (s : State) : Out :=
  match s.aon.lifePending with
  | none => .next s
  | some (b, key, seq) =>
    if ¬ s.amindUp then .next s
    else
      let n := s.aon.lifeCount + 1
      let s1 := (s.log .lifecycleChange ([s.aon.lifecycle.setWidth 8, b.setWidth 8, 0, 0] ++ leBytes 4 n.toNat)).commitBuffer
      let s2 := s1.onAon (fun a => { a with
        lifecycle := b, lifeCount := n, ownerKey := if a.lifecycle = 0 then s.ownerSlot.map Slot.signer else a.ownerKey
        lifePending := none })
      let s2 := s2.onCore (fun c => { c with harts := c.harts.map (fun e => (e.1, { e.2 with scount := false })) })
      let s3 := if b = 4 then s2.slotsErased else s2
      fin ((s3.discardDramKey.complete key seq .ok 0 []).amindPulse .cmd 4 Issuer.svc.code)

/-! ### Debug port -/

/-- DEBUG_OPEN, 0x0831: WRONG_MODE outside SERVICE (R281). -/
def State.specDebugOpen (s : State) : CmdSpec := { op := 0x0831, who := [.svc], role := some 2, run := s.aon.lifecycle = 3 }

/-- The debug port opens for the session, or closes (R48, R606). -/
def ownDebugOpen (rq : Request) (s : State) : State × Ans :=
  if u8At rq.payload 0 = 0 then yes s.debugClose
  else if s.core.dbg.opened.isSome then yes s
  else yes ((s.onCore (fun c => { c with dbg := { c.dbg with opened := some rq.route.key } })).log .debugOpened [1])

/-- DEBUG_OPEN (R48, R281). -/
def execDebugOpen (rq : Request) (s : State) : Out :=
  serve s.specDebugOpen rq s (fun p => p.length = 1 && u8At p 0 ≤ 1) (ownDebugOpen rq)

end Sys2Proof.Machine
end

