-- ==== Sys2Proof/Machine/Dispatch.lean ====
section
/-! DEFINITION. One arm per command. -/

namespace Sys2Proof.Machine

open Sys2Proof

/-- The effect of a command on everything but the queue. -/
def exec (i : Instr) (s : State) : Host.Outcome State Fault Refusal :=
  match i with
  | .powerOnResetRelease net pairOpen svcOpen => Sys2Proof.Machine.execPowerOnResetRelease net pairOpen svcOpen s
  | .startVbusWaitEnd => Sys2Proof.Machine.execStartVbusWaitEnd s
  | .resetNValid => Sys2Proof.Machine.execResetNValid s
  | .resetNRelease => Sys2Proof.Machine.execResetNRelease s
  | .amindFirmwareAuthenticated report => Sys2Proof.Machine.execAmindFirmwareAuthenticated report s
  | .comparatorSelftestDone pair pass lane => Sys2Proof.Machine.execComparatorSelftestDone pair pass lane s
  | .startConfigApplied cfg bankCap => Sys2Proof.Machine.execStartConfigApplied cfg bankCap s
  | .secureImagePlaced digest2 digest3 entry mgrEntry parts => Sys2Proof.Machine.execSecureImagePlaced digest2 digest3 entry mgrEntry parts s
  | .pairsReleased => Sys2Proof.Machine.execPairsReleased s
  | .startTimeout => Sys2Proof.Machine.execStartTimeout s
  | .rstReqPulseEnd => Sys2Proof.Machine.execRstReqPulseEnd s
  | .partnerRstPulseEnd => Sys2Proof.Machine.execPartnerRstPulseEnd s
  | .feedSwitchOpen feed => Sys2Proof.Machine.execFeedSwitchOpen feed s
  | .feedSwitchClose feed => Sys2Proof.Machine.execFeedSwitchClose feed s
  | .feedConnectNoSource feeds => Sys2Proof.Machine.execFeedConnectNoSource feeds s
  | .crankSet mv => Sys2Proof.Machine.execCrankSet mv s
  | .crankClear mv => Sys2Proof.Machine.execCrankClear mv s
  | .overvoltageEnter mv => Sys2Proof.Machine.execOvervoltageEnter mv s
  | .overvoltageExit mv => Sys2Proof.Machine.execOvervoltageExit mv s
  | .supplyLoss mv cause => Sys2Proof.Machine.execSupplyLoss mv cause s
  | .holdupCommitComplete => Sys2Proof.Machine.execHoldupCommitComplete s
  | .holdupRestart mv => Sys2Proof.Machine.execHoldupRestart mv s
  | .bankReady => Sys2Proof.Machine.execBankReady s
  | .lockstepMismatch pair lane pc => Sys2Proof.Machine.execLockstepMismatch pair lane pc s
  | .amindLockstepMismatch lane pc => Sys2Proof.Machine.execAmindLockstepMismatch lane pc s
  | .memoryUncorrectable mem => Sys2Proof.Machine.execMemoryUncorrectable mem s
  | .junctionOvertemp temp => Sys2Proof.Machine.execJunctionOvertemp temp s
  | .safeRestartDelayExpiry => Sys2Proof.Machine.execSafeRestartDelayExpiry s
  | .blockQuiesceIdle block => Sys2Proof.Machine.execBlockQuiesceIdle block s
  | .quiesceTimeout cut => Sys2Proof.Machine.execQuiesceTimeout cut s
  | .blockReady block => Sys2Proof.Machine.execBlockReady block s
  | .blockReadyTimeout block => Sys2Proof.Machine.execBlockReadyTimeout block s
  | .engineWedgedDetect unit kind => Sys2Proof.Machine.execEngineWedgedDetect unit kind s
  | .modePartialEntered => Sys2Proof.Machine.execModePartialEntered s
  | .modeRunEntered fails => Sys2Proof.Machine.execModeRunEntered fails s
  | .amindWdogExpiry => Sys2Proof.Machine.execAmindWdogExpiry s
  | .ledgerAonCommit => Sys2Proof.Machine.execLedgerAonCommit s
  | .ledgerAmindCommit => Sys2Proof.Machine.execLedgerAmindCommit s
  | .ledgerRateSecondEnd => Sys2Proof.Machine.execLedgerRateSecondEnd s
  | .tbLowWordRead x => Sys2Proof.Machine.execTbLowWordRead x s
  | .comparatorFire timer => Sys2Proof.Machine.execComparatorFire timer s
  | .tcCtrlWrite x => Sys2Proof.Machine.execTcCtrlWrite x s
  | .hartTimerMatch hart which => Sys2Proof.Machine.execHartTimerMatch hart which s
  | .fabricRead x => Sys2Proof.Machine.execFabricRead x s
  | .fabricWrite x => Sys2Proof.Machine.execFabricWrite x s
  | .postedWrite x => Sys2Proof.Machine.execPostedWrite x s
  | .fabricAmo op x => Sys2Proof.Machine.execFabricAmo op x s
  | .loadReserved hart x => Sys2Proof.Machine.execLoadReserved hart x s
  | .storeConditional hart x => Sys2Proof.Machine.execStoreConditional hart x s
  | .regulatorRefill => Sys2Proof.Machine.execRegulatorRefill s
  | .arbitrationAging index => Sys2Proof.Machine.execArbitrationAging index s
  | .toll hart word => Sys2Proof.Machine.execToll hart word s
  | .tollret hart => Sys2Proof.Machine.execTollret hart s
  | .mret hart => Sys2Proof.Machine.execMret hart s
  | .sret hart => Sys2Proof.Machine.execSret hart s
  | .trapEntry hart cause tval pc => Sys2Proof.Machine.execTrapEntry hart cause tval pc s
  | .interruptTake hart cause => Sys2Proof.Machine.execInterruptTake hart cause s
  | .fence hart => Sys2Proof.Machine.execFence hart s
  | .fenceI hart => Sys2Proof.Machine.execFenceI hart s
  | .mworldWrite hart value => Sys2Proof.Machine.execMworldWrite hart value s
  | .l1ParityError hart => Sys2Proof.Machine.execL1ParityError hart s
  | .l2CorrectableError cluster => Sys2Proof.Machine.execL2CorrectableError cluster s
  | .l2UncorrectableError cluster line => Sys2Proof.Machine.execL2UncorrectableError cluster line s
  | .poisonedLineConsumed hart fetch addr pc => Sys2Proof.Machine.execPoisonedLineConsumed hart fetch addr pc s
  | .debugModeEntry entry => Sys2Proof.Machine.execDebugModeEntry entry s
  | .debugResume pair => Sys2Proof.Machine.execDebugResume pair s
  | .debugAccessRegister hart command => Sys2Proof.Machine.execDebugAccessRegister hart command s
  | .debugSystemBusAccess write addr size data => Sys2Proof.Machine.execDebugSystemBusAccess write addr size data s
  | .stallDoorbell stall attr => Sys2Proof.Machine.execStallDoorbell stall attr s
  | .stallRelease stall attr => Sys2Proof.Machine.execStallRelease stall attr s
  | .stallRequestAreaWrite stall x => Sys2Proof.Machine.execStallRequestAreaWrite stall x s
  | .udpDatagramDrop => Sys2Proof.Machine.execUdpDatagramDrop s
  | .sessionSetupTimeout slot => Sys2Proof.Machine.execSessionSetupTimeout slot s
  | .sessionIdleTimeout slot => Sys2Proof.Machine.execSessionIdleTimeout slot s
  | .svcLockoutEnd => Sys2Proof.Machine.execSvcLockoutEnd s
  | .remoteRequestRelay rq => Sys2Proof.Machine.execRemoteRequestRelay rq s
  | .partnerRequestArrive rq => Sys2Proof.Machine.execPartnerRequestArrive rq s
  | .remoteResponseReturn stall rsp => Sys2Proof.Machine.execRemoteResponseReturn stall rsp s
  | .remoteTimeout stall => Sys2Proof.Machine.execRemoteTimeout stall s
  | .handleRetireComplete handle => Sys2Proof.Machine.execHandleRetireComplete handle s
  | .handleRetireTimeout handle unit => Sys2Proof.Machine.execHandleRetireTimeout handle unit s
  | .sessionOpen rq => Sys2Proof.Machine.execSessionOpen rq s
  | .sessionAuth rq => Sys2Proof.Machine.execSessionAuth rq s
  | .sessionClose rq => Sys2Proof.Machine.execSessionClose rq s
  | .handleQuery rq => Sys2Proof.Machine.execHandleQuery rq s
  | .handleDestroy rq => Sys2Proof.Machine.execHandleDestroy rq s
  | .handleBindIrq rq => Sys2Proof.Machine.execHandleBindIrq rq s
  | .timerCreate rq => Sys2Proof.Machine.execTimerCreate rq s
  | .pendingQuery rq => Sys2Proof.Machine.execPendingQuery rq s
  | .resultRead rq => Sys2Proof.Machine.execResultRead rq s
  | .instanceCreate rq => Sys2Proof.Machine.execInstanceCreate rq s
  | .instanceDestroy rq => Sys2Proof.Machine.execInstanceDestroy rq s
  | .instanceDestroyComplete inst => Sys2Proof.Machine.execInstanceDestroyComplete inst s
  | .instanceReset rq => Sys2Proof.Machine.execInstanceReset rq s
  | .instanceResetDrainEnd inst => Sys2Proof.Machine.execInstanceResetDrainEnd inst s
  | .instanceResetComplete inst => Sys2Proof.Machine.execInstanceResetComplete inst s
  | .shareChange rq => Sys2Proof.Machine.execShareChange rq s
  | .fnDisable rq => Sys2Proof.Machine.execFnDisable rq s
  | .fnDisableDrainTimeout inst => Sys2Proof.Machine.execFnDisableDrainTimeout inst s
  | .fnDisableComplete inst => Sys2Proof.Machine.execFnDisableComplete inst s
  | .fnEnable rq => Sys2Proof.Machine.execFnEnable rq s
  | .stallAssign rq => Sys2Proof.Machine.execStallAssign rq s
  | .stallWithdraw rq => Sys2Proof.Machine.execStallWithdraw rq s
  | .guestFileBind rq => Sys2Proof.Machine.execGuestFileBind rq s
  | .instanceQuery rq => Sys2Proof.Machine.execInstanceQuery rq s
  | .queuePairCreate rq => Sys2Proof.Machine.execQueuePairCreate rq s
  | .flowCreate rq => Sys2Proof.Machine.execFlowCreate rq s
  | .gateListSet rq => Sys2Proof.Machine.execGateListSet rq s
  | .portConfig rq => Sys2Proof.Machine.execPortConfig rq s
  | .portStats rq => Sys2Proof.Machine.execPortStats rq s
  | .macsecSaSet rq => Sys2Proof.Machine.execMacsecSaSet rq s
  | .marketStatus rq => Sys2Proof.Machine.execMarketStatus rq s
  | .canSetCreate rq => Sys2Proof.Machine.execCanSetCreate rq s
  | .canChannelConfig rq => Sys2Proof.Machine.execCanChannelConfig rq s
  | .canConfigApply chan => Sys2Proof.Machine.execCanConfigApply chan s
  | .canRecover rq => Sys2Proof.Machine.execCanRecover rq s
  | .canWakeFilter rq => Sys2Proof.Machine.execCanWakeFilter rq s
  | .canScheduleSet rq => Sys2Proof.Machine.execCanScheduleSet rq s
  | .linCreate rq => Sys2Proof.Machine.execLinCreate rq s
  | .linScheduleSet rq => Sys2Proof.Machine.execLinScheduleSet rq s
  | .gwRuleSet rq => Sys2Proof.Machine.execGwRuleSet rq s
  | .gwRuleClear rq => Sys2Proof.Machine.execGwRuleClear rq s
  | .gwStats rq => Sys2Proof.Machine.execGwStats rq s
  | .loadGroupCreate rq => Sys2Proof.Machine.execLoadGroupCreate rq s
  | .loadChannelConfig rq => Sys2Proof.Machine.execLoadChannelConfig rq s
  | .loadSet rq => Sys2Proof.Machine.execLoadSet rq s
  | .loadLatchClear rq => Sys2Proof.Machine.execLoadLatchClear rq s
  | .loadStatus rq => Sys2Proof.Machine.execLoadStatus rq s
  | .inputGroupCreate rq => Sys2Proof.Machine.execInputGroupCreate rq s
  | .inputConfig rq => Sys2Proof.Machine.execInputConfig rq s
  | .modeRequest rq => Sys2Proof.Machine.execModeRequest rq s
  | .startGood rq => Sys2Proof.Machine.execStartGood rq s
  | .sleepOrder rq => Sys2Proof.Machine.execSleepOrder rq s
  | .wakeConfig rq => Sys2Proof.Machine.execWakeConfig rq s
  | .wakeStatus rq => Sys2Proof.Machine.execWakeStatus rq s
  | .blockPower rq => Sys2Proof.Machine.execBlockPower rq s
  | .keepVote rq => Sys2Proof.Machine.execKeepVote rq s
  | .keepRelease rq => Sys2Proof.Machine.execKeepRelease rq s
  | .blockStatus rq => Sys2Proof.Machine.execBlockStatus rq s
  | .checkerLock rq => Sys2Proof.Machine.execCheckerLock rq s
  | .secureClaim rq => Sys2Proof.Machine.execSecureClaim rq s
  | .secureRelease rq => Sys2Proof.Machine.execSecureRelease rq s
  | .resetRequest rq => Sys2Proof.Machine.execResetRequest rq s
  | .recoveryRelease rq => Sys2Proof.Machine.execRecoveryRelease rq s
  | .keyDerive rq => Sys2Proof.Machine.execKeyDerive rq s
  | .keyInvalidate rq => Sys2Proof.Machine.execKeyInvalidate rq s
  | .keySign rq => Sys2Proof.Machine.execKeySign rq s
  | .keySignComplete => Sys2Proof.Machine.execKeySignComplete s
  | .attest rq => Sys2Proof.Machine.execAttest rq s
  | .attestComplete => Sys2Proof.Machine.execAttestComplete s
  | .ringCreate rq => Sys2Proof.Machine.execRingCreate rq s
  | .healthQuery rq => Sys2Proof.Machine.execHealthQuery rq s
  | .safetyStatus rq => Sys2Proof.Machine.execSafetyStatus rq s
  | .ledgerReaderCreate rq => Sys2Proof.Machine.execLedgerReaderCreate rq s
  | .ledgerRead rq => Sys2Proof.Machine.execLedgerRead rq s
  | .updateBegin rq => Sys2Proof.Machine.execUpdateBegin rq s
  | .updateData rq => Sys2Proof.Machine.execUpdateData rq s
  | .updateCommit rq => Sys2Proof.Machine.execUpdateCommit rq s
  | .updateCommitComplete ownerEc ownerPq cfg record => Sys2Proof.Machine.execUpdateCommitComplete ownerEc ownerPq cfg record s
  | .updateAbort rq => Sys2Proof.Machine.execUpdateAbort rq s
  | .lifecycleSet rq => Sys2Proof.Machine.execLifecycleSet rq s
  | .lifecycleTransitionCommit => Sys2Proof.Machine.execLifecycleTransitionCommit s
  | .debugOpen rq => Sys2Proof.Machine.execDebugOpen rq s
  | .passWindowOpen rq => Sys2Proof.Machine.execPassWindowOpen rq s
  | .passErrorClear rq => Sys2Proof.Machine.execPassErrorClear rq s
  | .pairStatus rq => Sys2Proof.Machine.execPairStatus rq s
  | .sidebandWrite rq => Sys2Proof.Machine.execSidebandWrite rq s
  | .partnerReset rq => Sys2Proof.Machine.execPartnerReset rq s
  | .frameIngress port f => Sys2Proof.Machine.execFrameIngress port f s
  | .cutThroughStart port f => Sys2Proof.Machine.execCutThroughStart port f s
  | .multicastService port cls ready => Sys2Proof.Machine.execMulticastService port cls ready s
  | .egressTransmitStart point => Sys2Proof.Machine.execEgressTransmitStart point s
  | .frameEgressComplete port frame fcsBad => Sys2Proof.Machine.execFrameEgressComplete port frame fcsBad s
  | .linkUp port => Sys2Proof.Machine.execLinkUp port s
  | .linkDown port => Sys2Proof.Machine.execLinkDown port s
  | .pauseFrameReceive port pfc enables quanta => Sys2Proof.Machine.execPauseFrameReceive port pfc enables quanta s
  | .pauseExpiry port classes => Sys2Proof.Machine.execPauseExpiry port classes s
  | .pauseRefresh port => Sys2Proof.Machine.execPauseRefresh port s
  | .gateEntryAdvance port => Sys2Proof.Machine.execGateEntryAdvance port s
  | .gateListSwitchover port => Sys2Proof.Machine.execGateListSwitchover port s
  | .preemptVerifyResponse port => Sys2Proof.Machine.execPreemptVerifyResponse port s
  | .preemptVerifyTimeout port => Sys2Proof.Machine.execPreemptVerifyTimeout port s
  | .policerRefill => Sys2Proof.Machine.execPolicerRefill s
  | .frerRecoveryTimeout stream => Sys2Proof.Machine.execFrerRecoveryTimeout stream s
  | .ptpMessageReceive port m => Sys2Proof.Machine.execPtpMessageReceive port m s
  | .ptpSyncTimeout => Sys2Proof.Machine.execPtpSyncTimeout s
  | .ptpTransmitTimer port kind => Sys2Proof.Machine.execPtpTransmitTimer port kind s
  | .plcaBeaconLost port => Sys2Proof.Machine.execPlcaBeaconLost port s
  | .plcaBeaconReturn port => Sys2Proof.Machine.execPlcaBeaconReturn port s
  | .plcaTransmitOpportunity port => Sys2Proof.Machine.execPlcaTransmitOpportunity port s
  | .tc10SleepRequestReceive port => Sys2Proof.Machine.execTc10SleepRequestReceive port s
  | .qpTxTailWrite qp attr value => Sys2Proof.Machine.execQpTxTailWrite qp attr value s
  | .qpRxTailWrite qp attr value => Sys2Proof.Machine.execQpRxTailWrite qp attr value s
  | .qpTxDescriptorProcess qp => Sys2Proof.Machine.execQpTxDescriptorProcess qp s
  | .qpRxCopy qp => Sys2Proof.Machine.execQpRxCopy qp s
  | .instDbWrite x => Sys2Proof.Machine.execInstDbWrite x s
  | .canFrameReceived chan f => Sys2Proof.Machine.execCanFrameReceived chan f s
  | .canProtocolException chan f => Sys2Proof.Machine.execCanProtocolException chan f s
  | .canTxStart sof => Sys2Proof.Machine.execCanTxStart sof s
  | .canTxSuccess chan => Sys2Proof.Machine.execCanTxSuccess chan s
  | .canArbitrationLost chan => Sys2Proof.Machine.execCanArbitrationLost chan s
  | .canBusError chan fault more spared => Sys2Proof.Machine.execCanBusError chan fault more spared s
  | .canRecessiveSequence chan => Sys2Proof.Machine.execCanRecessiveSequence chan s
  | .objTxReqWrite chan obj attr => Sys2Proof.Machine.execObjTxReqWrite chan obj attr s
  | .objTxAbortWrite chan obj attr => Sys2Proof.Machine.execObjTxAbortWrite chan obj attr s
  | .objUpdWrite chan obj attr upd => Sys2Proof.Machine.execObjUpdWrite chan obj attr upd s
  | .objConfigWrite chan obj x => Sys2Proof.Machine.execObjConfigWrite chan obj x s
  | .objRxIdRead chan obj attr => Sys2Proof.Machine.execObjRxIdRead chan obj attr s
  | .objRxEndRead chan obj attr => Sys2Proof.Machine.execObjRxEndRead chan obj attr s
  | .canLockExpiry chan obj => Sys2Proof.Machine.execCanLockExpiry chan obj s
  | .mapTxdoneWrite chan word attr value => Sys2Proof.Machine.execMapTxdoneWrite chan word attr value s
  | .canScheduleColumn chan => Sys2Proof.Machine.execCanScheduleColumn chan s
  | .canScheduleChange chan => Sys2Proof.Machine.execCanScheduleChange chan s
  | .gatewayTap src => Sys2Proof.Machine.execGatewayTap src s
  | .gatewayEthFrame frame => Sys2Proof.Machine.execGatewayEthFrame frame s
  | .gatewayBatchHoldExpiry rule => Sys2Proof.Machine.execGatewayBatchHoldExpiry rule s
  | .gatewayQueueAgeExpiry chan entry => Sys2Proof.Machine.execGatewayQueueAgeExpiry chan entry s
  | .linSlotStart chan => Sys2Proof.Machine.execLinSlotStart chan s
  | .linHeaderReceived chan id => Sys2Proof.Machine.execLinHeaderReceived chan id s
  | .linResponseReceived chan bytes => Sys2Proof.Machine.execLinResponseReceived chan bytes s
  | .linFrmDataHiWrite chan id attr value => Sys2Proof.Machine.execLinFrmDataHiWrite chan id attr value s
  | .linFrmStatRead chan id attr => Sys2Proof.Machine.execLinFrmStatRead chan id attr s
  | .linGotoSleepWrite chan attr => Sys2Proof.Machine.execLinGotoSleepWrite chan attr s
  | .linWakeWrite chan attr => Sys2Proof.Machine.execLinWakeWrite chan attr s
  | .linSchedSelWrite chan attr value => Sys2Proof.Machine.execLinSchedSelWrite chan attr value s
  | .linGotoSleepReceived chan => Sys2Proof.Machine.execLinGotoSleepReceived chan s
  | .linBusIdleTimeout chan => Sys2Proof.Machine.execLinBusIdleTimeout chan s
  | .linWakeupDetected chan => Sys2Proof.Machine.execLinWakeupDetected chan s
  | .sleepPreparationsIssued => Sys2Proof.Machine.execSleepPreparationsIssued s
  | .drainConditionsMet => Sys2Proof.Machine.execDrainConditionsMet s
  | .drainLimitExpiry => Sys2Proof.Machine.execDrainLimitExpiry s
  | .committedDomainsOff => Sys2Proof.Machine.execCommittedDomainsOff s
  | .sleepDwellEnd => Sys2Proof.Machine.execSleepDwellEnd s
  | .wakeEvent fires => Sys2Proof.Machine.execWakeEvent fires s
  | .wakeConfirmation => Sys2Proof.Machine.execWakeConfirmation s
  | .falseWakeTimeout => Sys2Proof.Machine.execFalseWakeTimeout s
  | .quarantineEnd source => Sys2Proof.Machine.execQuarantineEnd source s
  | .loadOutWrite page chan attr mask value => Sys2Proof.Machine.execLoadOutWrite page chan attr mask value s
  | .loadOnSetWrite page attr mask => Sys2Proof.Machine.execLoadOnSetWrite page attr mask s
  | .loadOnClrWrite page attr mask => Sys2Proof.Machine.execLoadOnClrWrite page attr mask s
  | .softStartComplete chan => Sys2Proof.Machine.execSoftStartComplete chan s
  | .overcurrentTrip trip => Sys2Proof.Machine.execOvercurrentTrip trip s
  | .retryPauseEnd chan => Sys2Proof.Machine.execRetryPauseEnd chan s
  | .retryGoodTimer chan => Sys2Proof.Machine.execRetryGoodTimer chan s
  | .fetTemperatureSample chan temp => Sys2Proof.Machine.execFetTemperatureSample chan temp s
  | .wireModelUpdate chan rms mean onCur => Sys2Proof.Machine.execWireModelUpdate chan rms mean onCur s
  | .inrushWindowEnd chan => Sys2Proof.Machine.execInrushWindowEnd chan s
  | .holdWindowExpiry chan => Sys2Proof.Machine.execHoldWindowExpiry chan s
  | .limpSwitchOn => Sys2Proof.Machine.execLimpSwitchOn s
  | .offStateTestStart chan mv => Sys2Proof.Machine.execOffStateTestStart chan mv s
  | .offStateTestEnd chan mv => Sys2Proof.Machine.execOffStateTestEnd chan mv s
  | .undercurrentTimer chan below => Sys2Proof.Machine.execUndercurrentTimer chan below s
  | .reverseCurrentBlock chan => Sys2Proof.Machine.execReverseCurrentBlock chan s
  | .reverseBlockClear chan => Sys2Proof.Machine.execReverseBlockClear chan s
  | .groupMsiRateTimer group => Sys2Proof.Machine.execGroupMsiRateTimer group s
  | .loadShed => Sys2Proof.Machine.execLoadShed s
  | .loadRestore => Sys2Proof.Machine.execLoadRestore s
  | .powerStageShed feed => Sys2Proof.Machine.execPowerStageShed feed s
  | .debounceComplete input samples time => Sys2Proof.Machine.execDebounceComplete input samples time s
  | .analogThresholdChange input samples => Sys2Proof.Machine.execAnalogThresholdChange input samples s
  | .inEvtClearWrite group attr d v => Sys2Proof.Machine.execInEvtClearWrite group attr d v s
  | .sensorSupplyCurrentLimit supply => Sys2Proof.Machine.execSensorSupplyCurrentLimit supply s
  | .sensorSupplyRetry supply => Sys2Proof.Machine.execSensorSupplyRetry supply s
  | .keyStoreAlarm code => Sys2Proof.Machine.execKeyStoreAlarm code s
  | .crSqTailWrite ring attr value => Sys2Proof.Machine.execCrSqTailWrite ring attr value s
  | .jobFetch ring => Sys2Proof.Machine.execJobFetch ring s
  | .keyRegisterLoad job => Sys2Proof.Machine.execKeyRegisterLoad job s
  | .jobChunk job => Sys2Proof.Machine.execJobChunk job s
  | .jobComplete job => Sys2Proof.Machine.execJobComplete job s
  | .ringBucketRefill => Sys2Proof.Machine.execRingBucketRefill s
  | .passLinkTrained sameRole lanes => Sys2Proof.Machine.execPassLinkTrained sameRole lanes s
  | .passLaneFail lane => Sys2Proof.Machine.execPassLaneFail lane s
  | .passLaneRetry lanes => Sys2Proof.Machine.execPassLaneRetry lanes s
  | .roleClashRetry => Sys2Proof.Machine.execRoleClashRetry s
  | .heartbeatSend => Sys2Proof.Machine.execHeartbeatSend s
  | .sidebandSend => Sys2Proof.Machine.execSidebandSend s
  | .heartbeatReceive seq vector => Sys2Proof.Machine.execHeartbeatReceive seq vector s
  | .sidebandReceive vector => Sys2Proof.Machine.execSidebandReceive vector s
  | .heartbeatLoss => Sys2Proof.Machine.execHeartbeatLoss s
  | .partnerStartupTimeout => Sys2Proof.Machine.execPartnerStartupTimeout s
  | .partnerFaultChange low => Sys2Proof.Machine.execPartnerFaultChange low s
  | .autoPartnerReset => Sys2Proof.Machine.execAutoPartnerReset s
  | .passWindowRead x => Sys2Proof.Machine.execPassWindowRead x s
  | .passReadDataArrive slot ok data => Sys2Proof.Machine.execPassReadDataArrive slot ok data s
  | .passReadSlotTimeout slot => Sys2Proof.Machine.execPassReadSlotTimeout slot s
  | .passReadyExpiry slot => Sys2Proof.Machine.execPassReadyExpiry slot s
  | .passNonpostedWrite x => Sys2Proof.Machine.execPassNonpostedWrite x s
  | .passWriteResponse tracker ok => Sys2Proof.Machine.execPassWriteResponse tracker ok s
  | .passWriteTimeout tracker => Sys2Proof.Machine.execPassWriteTimeout tracker s
  | .passPostedWrite x => Sys2Proof.Machine.execPassPostedWrite x s
  | .passInboundTransaction kind x win origin => Sys2Proof.Machine.execPassInboundTransaction kind x win origin s
  | .passPostedFailure win x origin code => Sys2Proof.Machine.execPassPostedFailure win x origin code s
  | .passErrorMessageArrive win addr origin inst sec code => Sys2Proof.Machine.execPassErrorMessageArrive win addr origin inst sec code s
  | .passClearMarkerArrive win => Sys2Proof.Machine.execPassClearMarkerArrive win s
  | .passClearAck win => Sys2Proof.Machine.execPassClearAck win s
  | .passLinkLoss => Sys2Proof.Machine.execPassLinkLoss s
  | .healthSample h feedA feedB => Sys2Proof.Machine.execHealthSample h feedA feedB s
  | .registerWrite w => Sys2Proof.Machine.execRegisterWrite w s
  | .canBusIntegration chan => Sys2Proof.Machine.execCanBusIntegration chan s
  | .linResponseError chan kind => Sys2Proof.Machine.execLinResponseError chan kind s
  | .linNoResponse chan => Sys2Proof.Machine.execLinNoResponse chan s
  | .inWakeChange wk ign => Sys2Proof.Machine.execInWakeChange wk ign s
  | .vbusFunctionalRangeReached mv => Sys2Proof.Machine.execVbusFunctionalRangeReached mv s
  | .addressResolutionRequest port own => Sys2Proof.Machine.execAddressResolutionRequest port own s

end Sys2Proof.Machine
end

