-- ==== Sys2Proof/Machine/Tick.lean ====
section
/-! DEFINITION. What time alone does: one period of the 125 MHz clock (DESIGN CHOICE, log entry 5). -/

namespace Sys2Proof.Machine

open Sys2Proof

/-- One tick of 8 ns of a powered module: TIME_LOCAL and TIME_GLOBAL advance (R110, R113), the credits of the shapers move (R340), one
waiting transaction passes its arbitration point (R137), and one posted write is sent to the partner (R588). -/
def State.tick (s : State) : State :=
  if s.supply.porHeld then s
  else
    let s1 := ({ s with tb := s.tb.cycle }).shapeAll.arbitrate
    let s2 := if s1.linkFull then s1.onPass Pass.sendPosted else s1
    s2.settle

end Sys2Proof.Machine
end

