-- ==== Sys2Proof/WellFormed.lean ====
section
/-! DEFINITION. Well-formed commands: every unit that a command names exists, and a request has a route that exists and a payload of
the length that it was captured with. -/

namespace Sys2Proof

open Sys2Proof.Machine

/-- The power-controllable blocks (R199). -/
def unitBlocks : List Nat :=
  [0x01] ++ (List.range 10).map (fun k => 0x08 + k) ++ (List.range 16).map (fun k => 0x20 + k)
    ++ (List.range 8).map (fun k => 0x30 + k) ++ (List.range 22).map (fun k => 0x40 + k)
    ++ (List.range 4).map (fun k => 0x58 + k) ++ [0x60, 0x61, 0x70]

/-- The wake source codes (R428). -/
def unitSource (n : Nat) : Bool := n ≤ 8 || (16 ≤ n && n ≤ 23) || (24 ≤ n && n ≤ 45) || n = 56

/-- The route exists: 64 stalls, two session slots, two stalls of the partner (R213, R224, R238, R246). -/
def Machine.Route.wf (r : Route) : Bool :=
  match r with
  | .stall n => n < 64
  | .svc k => k < 2
  | .ptr o => o < 2
  | .udp _ => true

/-- A captured request: at most the 2032 bytes of the area are its payload (R219, R227). -/
def Machine.Request.wf (rq : Request) : Bool := rq.route.wf && rq.payload.length = min 2032 rq.len.toNat

/-- A transaction of an initiator that exists. -/
def Machine.Xact.wf (x : Xact) : Bool := initListed x.attr.init

/-- A register write of an initiator, or of a hart, that exists. -/
def Machine.RegOp.wf (w : RegOp) : Bool :=
  match w with
  | .fabric x => x.wf
  | .csr hart _ _ => hart < 8
  | .dmi _ _ => true

/-- The request that a command carries. -/
def Instr.request (c : Instr) : Option Request :=
  match c with
  | .powerOnResetRelease _ _ _ => none
  | .startVbusWaitEnd => none
  | .resetNValid => none
  | .resetNRelease => none
  | .amindFirmwareAuthenticated _ => none
  | .comparatorSelftestDone _ _ _ => none
  | .startConfigApplied _ _ => none
  | .secureImagePlaced _ _ _ _ _ => none
  | .pairsReleased => none
  | .startTimeout => none
  | .rstReqPulseEnd => none
  | .partnerRstPulseEnd => none
  | .feedSwitchOpen _ => none
  | .feedSwitchClose _ => none
  | .feedConnectNoSource _ => none
  | .crankSet _ => none
  | .crankClear _ => none
  | .overvoltageEnter _ => none
  | .overvoltageExit _ => none
  | .supplyLoss _ _ => none
  | .holdupCommitComplete => none
  | .holdupRestart _ => none
  | .bankReady => none
  | .lockstepMismatch _ _ _ => none
  | .amindLockstepMismatch _ _ => none
  | .memoryUncorrectable _ => none
  | .junctionOvertemp _ => none
  | .safeRestartDelayExpiry => none
  | .blockQuiesceIdle _ => none
  | .quiesceTimeout _ => none
  | .blockReady _ => none
  | .blockReadyTimeout _ => none
  | .engineWedgedDetect _ _ => none
  | .modePartialEntered => none
  | .modeRunEntered _ => none
  | .amindWdogExpiry => none
  | .ledgerAonCommit => none
  | .ledgerAmindCommit => none
  | .ledgerRateSecondEnd => none
  | .tbLowWordRead _ => none
  | .comparatorFire _ => none
  | .tcCtrlWrite _ => none
  | .hartTimerMatch _ _ => none
  | .fabricRead _ => none
  | .fabricWrite _ => none
  | .postedWrite _ => none
  | .fabricAmo _ _ => none
  | .loadReserved _ _ => none
  | .storeConditional _ _ => none
  | .regulatorRefill => none
  | .arbitrationAging _ => none
  | .toll _ _ => none
  | .tollret _ => none
  | .mret _ => none
  | .sret _ => none
  | .trapEntry _ _ _ _ => none
  | .interruptTake _ _ => none
  | .fence _ => none
  | .fenceI _ => none
  | .mworldWrite _ _ => none
  | .l1ParityError _ => none
  | .l2CorrectableError _ => none
  | .l2UncorrectableError _ _ => none
  | .poisonedLineConsumed _ _ _ _ => none
  | .debugModeEntry _ => none
  | .debugResume _ => none
  | .debugAccessRegister _ _ => none
  | .debugSystemBusAccess _ _ _ _ => none
  | .stallDoorbell _ _ => none
  | .stallRelease _ _ => none
  | .stallRequestAreaWrite _ _ => none
  | .udpDatagramDrop => none
  | .sessionSetupTimeout _ => none
  | .sessionIdleTimeout _ => none
  | .svcLockoutEnd => none
  | .remoteRequestRelay rq => some rq
  | .partnerRequestArrive rq => some rq
  | .remoteResponseReturn _ _ => none
  | .remoteTimeout _ => none
  | .handleRetireComplete _ => none
  | .handleRetireTimeout _ _ => none
  | .sessionOpen rq => some rq
  | .sessionAuth rq => some rq
  | .sessionClose rq => some rq
  | .handleQuery rq => some rq
  | .handleDestroy rq => some rq
  | .handleBindIrq rq => some rq
  | .timerCreate rq => some rq
  | .pendingQuery rq => some rq
  | .resultRead rq => some rq
  | .instanceCreate rq => some rq
  | .instanceDestroy rq => some rq
  | .instanceDestroyComplete _ => none
  | .instanceReset rq => some rq
  | .instanceResetDrainEnd _ => none
  | .instanceResetComplete _ => none
  | .shareChange rq => some rq
  | .fnDisable rq => some rq
  | .fnDisableDrainTimeout _ => none
  | .fnDisableComplete _ => none
  | .fnEnable rq => some rq
  | .stallAssign rq => some rq
  | .stallWithdraw rq => some rq
  | .guestFileBind rq => some rq
  | .instanceQuery rq => some rq
  | .queuePairCreate rq => some rq
  | .flowCreate rq => some rq
  | .gateListSet rq => some rq
  | .portConfig rq => some rq
  | .portStats rq => some rq
  | .macsecSaSet rq => some rq
  | .marketStatus rq => some rq
  | .canSetCreate rq => some rq
  | .canChannelConfig rq => some rq
  | .canConfigApply _ => none
  | .canRecover rq => some rq
  | .canWakeFilter rq => some rq
  | .canScheduleSet rq => some rq
  | .linCreate rq => some rq
  | .linScheduleSet rq => some rq
  | .gwRuleSet rq => some rq
  | .gwRuleClear rq => some rq
  | .gwStats rq => some rq
  | .loadGroupCreate rq => some rq
  | .loadChannelConfig rq => some rq
  | .loadSet rq => some rq
  | .loadLatchClear rq => some rq
  | .loadStatus rq => some rq
  | .inputGroupCreate rq => some rq
  | .inputConfig rq => some rq
  | .modeRequest rq => some rq
  | .startGood rq => some rq
  | .sleepOrder rq => some rq
  | .wakeConfig rq => some rq
  | .wakeStatus rq => some rq
  | .blockPower rq => some rq
  | .keepVote rq => some rq
  | .keepRelease rq => some rq
  | .blockStatus rq => some rq
  | .checkerLock rq => some rq
  | .secureClaim rq => some rq
  | .secureRelease rq => some rq
  | .resetRequest rq => some rq
  | .recoveryRelease rq => some rq
  | .keyDerive rq => some rq
  | .keyInvalidate rq => some rq
  | .keySign rq => some rq
  | .keySignComplete => none
  | .attest rq => some rq
  | .attestComplete => none
  | .ringCreate rq => some rq
  | .healthQuery rq => some rq
  | .safetyStatus rq => some rq
  | .ledgerReaderCreate rq => some rq
  | .ledgerRead rq => some rq
  | .updateBegin rq => some rq
  | .updateData rq => some rq
  | .updateCommit rq => some rq
  | .updateCommitComplete _ _ _ _ => none
  | .updateAbort rq => some rq
  | .lifecycleSet rq => some rq
  | .lifecycleTransitionCommit => none
  | .debugOpen rq => some rq
  | .passWindowOpen rq => some rq
  | .passErrorClear rq => some rq
  | .pairStatus rq => some rq
  | .sidebandWrite rq => some rq
  | .partnerReset rq => some rq
  | .frameIngress _ _ => none
  | .cutThroughStart _ _ => none
  | .multicastService _ _ _ => none
  | .egressTransmitStart _ => none
  | .frameEgressComplete _ _ _ => none
  | .linkUp _ => none
  | .linkDown _ => none
  | .pauseFrameReceive _ _ _ _ => none
  | .pauseExpiry _ _ => none
  | .pauseRefresh _ => none
  | .gateEntryAdvance _ => none
  | .gateListSwitchover _ => none
  | .preemptVerifyResponse _ => none
  | .preemptVerifyTimeout _ => none
  | .policerRefill => none
  | .frerRecoveryTimeout _ => none
  | .ptpMessageReceive _ _ => none
  | .ptpSyncTimeout => none
  | .ptpTransmitTimer _ _ => none
  | .plcaBeaconLost _ => none
  | .plcaBeaconReturn _ => none
  | .plcaTransmitOpportunity _ => none
  | .tc10SleepRequestReceive _ => none
  | .qpTxTailWrite _ _ _ => none
  | .qpRxTailWrite _ _ _ => none
  | .qpTxDescriptorProcess _ => none
  | .qpRxCopy _ => none
  | .instDbWrite _ => none
  | .canFrameReceived _ _ => none
  | .canProtocolException _ _ => none
  | .canTxStart _ => none
  | .canTxSuccess _ => none
  | .canArbitrationLost _ => none
  | .canBusError _ _ _ _ => none
  | .canRecessiveSequence _ => none
  | .objTxReqWrite _ _ _ => none
  | .objTxAbortWrite _ _ _ => none
  | .objUpdWrite _ _ _ _ => none
  | .objConfigWrite _ _ _ => none
  | .objRxIdRead _ _ _ => none
  | .objRxEndRead _ _ _ => none
  | .canLockExpiry _ _ => none
  | .mapTxdoneWrite _ _ _ _ => none
  | .canScheduleColumn _ => none
  | .canScheduleChange _ => none
  | .gatewayTap _ => none
  | .gatewayEthFrame _ => none
  | .gatewayBatchHoldExpiry _ => none
  | .gatewayQueueAgeExpiry _ _ => none
  | .linSlotStart _ => none
  | .linHeaderReceived _ _ => none
  | .linResponseReceived _ _ => none
  | .linFrmDataHiWrite _ _ _ _ => none
  | .linFrmStatRead _ _ _ => none
  | .linGotoSleepWrite _ _ => none
  | .linWakeWrite _ _ => none
  | .linSchedSelWrite _ _ _ => none
  | .linGotoSleepReceived _ => none
  | .linBusIdleTimeout _ => none
  | .linWakeupDetected _ => none
  | .sleepPreparationsIssued => none
  | .drainConditionsMet => none
  | .drainLimitExpiry => none
  | .committedDomainsOff => none
  | .sleepDwellEnd => none
  | .wakeEvent _ => none
  | .wakeConfirmation => none
  | .falseWakeTimeout => none
  | .quarantineEnd _ => none
  | .loadOutWrite _ _ _ _ _ => none
  | .loadOnSetWrite _ _ _ => none
  | .loadOnClrWrite _ _ _ => none
  | .softStartComplete _ => none
  | .overcurrentTrip _ => none
  | .retryPauseEnd _ => none
  | .retryGoodTimer _ => none
  | .fetTemperatureSample _ _ => none
  | .wireModelUpdate _ _ _ _ => none
  | .inrushWindowEnd _ => none
  | .holdWindowExpiry _ => none
  | .limpSwitchOn => none
  | .offStateTestStart _ _ => none
  | .offStateTestEnd _ _ => none
  | .undercurrentTimer _ _ => none
  | .reverseCurrentBlock _ => none
  | .reverseBlockClear _ => none
  | .groupMsiRateTimer _ => none
  | .loadShed => none
  | .loadRestore => none
  | .powerStageShed _ => none
  | .debounceComplete _ _ _ => none
  | .analogThresholdChange _ _ => none
  | .inEvtClearWrite _ _ _ _ => none
  | .sensorSupplyCurrentLimit _ => none
  | .sensorSupplyRetry _ => none
  | .keyStoreAlarm _ => none
  | .crSqTailWrite _ _ _ => none
  | .jobFetch _ => none
  | .keyRegisterLoad _ => none
  | .jobChunk _ => none
  | .jobComplete _ => none
  | .ringBucketRefill => none
  | .passLinkTrained _ _ => none
  | .passLaneFail _ => none
  | .passLaneRetry _ => none
  | .roleClashRetry => none
  | .heartbeatSend => none
  | .sidebandSend => none
  | .heartbeatReceive _ _ => none
  | .sidebandReceive _ => none
  | .heartbeatLoss => none
  | .partnerStartupTimeout => none
  | .partnerFaultChange _ => none
  | .autoPartnerReset => none
  | .passWindowRead _ => none
  | .passReadDataArrive _ _ _ => none
  | .passReadSlotTimeout _ => none
  | .passReadyExpiry _ => none
  | .passNonpostedWrite _ => none
  | .passWriteResponse _ _ => none
  | .passWriteTimeout _ => none
  | .passPostedWrite _ => none
  | .passInboundTransaction _ _ _ _ => none
  | .passPostedFailure _ _ _ _ => none
  | .passErrorMessageArrive _ _ _ _ _ _ => none
  | .passClearMarkerArrive _ => none
  | .passClearAck _ => none
  | .passLinkLoss => none
  | .healthSample _ _ _ => none
  | .registerWrite _ => none
  | .canBusIntegration _ => none
  | .linResponseError _ _ => none
  | .linNoResponse _ => none
  | .inWakeChange _ _ => none
  | .vbusFunctionalRangeReached _ => none
  | .addressResolutionRequest _ _ => none

/-- The command names only units that exist, and its request is well formed. -/
def Instr.wf (c : Instr) : Bool :=
  match c with
  | .powerOnResetRelease _ _ _ => true
  | .startVbusWaitEnd => true
  | .resetNValid => true
  | .resetNRelease => true
  | .amindFirmwareAuthenticated _ => true
  | .comparatorSelftestDone pair _ _ => pair < 8
  | .startConfigApplied _ _ => true
  | .secureImagePlaced _ _ _ _ _ => true
  | .pairsReleased => true
  | .startTimeout => true
  | .rstReqPulseEnd => true
  | .partnerRstPulseEnd => true
  | .feedSwitchOpen _ => true
  | .feedSwitchClose _ => true
  | .feedConnectNoSource _ => true
  | .crankSet _ => true
  | .crankClear _ => true
  | .overvoltageEnter _ => true
  | .overvoltageExit _ => true
  | .supplyLoss _ _ => true
  | .holdupCommitComplete => true
  | .holdupRestart _ => true
  | .bankReady => true
  | .lockstepMismatch pair lane _ => pair < 8 && 1 ≤ lane && lane ≤ 7
  | .amindLockstepMismatch _ _ => true
  | .memoryUncorrectable _ => true
  | .junctionOvertemp _ => true
  | .safeRestartDelayExpiry => true
  | .blockQuiesceIdle block => unitBlocks.contains block
  | .quiesceTimeout cut => unitBlocks.contains cut.block
  | .blockReady block => unitBlocks.contains block
  | .blockReadyTimeout block => unitBlocks.contains block
  | .engineWedgedDetect unit kind => kind.toNat ≤ 1 && unit < 256
  | .modePartialEntered => true
  | .modeRunEntered _ => true
  | .amindWdogExpiry => true
  | .ledgerAonCommit => true
  | .ledgerAmindCommit => true
  | .ledgerRateSecondEnd => true
  | .tbLowWordRead x => x.wf
  | .comparatorFire timer => timer < 64
  | .tcCtrlWrite x => x.wf
  | .hartTimerMatch hart which => hart < 8 && which < 4
  | .fabricRead x => x.wf
  | .fabricWrite x => x.wf
  | .postedWrite x => x.wf
  | .fabricAmo _ x => x.wf
  | .loadReserved hart _ => hart < 8
  | .storeConditional hart _ => hart < 8
  | .regulatorRefill => true
  | .arbitrationAging _ => true
  | .toll hart _ => hart < 8
  | .tollret hart => hart < 8
  | .mret hart => hart < 8
  | .sret hart => hart < 8
  | .trapEntry hart _ _ _ => hart < 8
  | .interruptTake hart _ => hart < 8
  | .fence hart => hart < 8
  | .fenceI hart => hart < 8
  | .mworldWrite hart _ => hart < 8
  | .l1ParityError hart => hart < 8
  | .l2CorrectableError cluster => cluster < 2
  | .l2UncorrectableError cluster _ => cluster < 2
  | .poisonedLineConsumed hart _ _ _ => hart < 8
  | .debugModeEntry entry => entry.pair < 8
  | .debugResume pair => pair < 8
  | .debugAccessRegister hart _ => hart < 8
  | .debugSystemBusAccess _ _ _ _ => true
  | .stallDoorbell stall attr => stall < 64 && initListed attr.init
  | .stallRelease stall attr => stall < 64 && initListed attr.init
  | .stallRequestAreaWrite stall x => stall < 64 && x.wf
  | .udpDatagramDrop => true
  | .sessionSetupTimeout slot => slot < 2
  | .sessionIdleTimeout slot => slot < 2
  | .svcLockoutEnd => true
  | .remoteRequestRelay rq => rq.wf
  | .partnerRequestArrive rq => rq.wf
  | .remoteResponseReturn stall _ => stall < 2
  | .remoteTimeout stall => stall < 2
  | .handleRetireComplete _ => true
  | .handleRetireTimeout _ _ => true
  | .sessionOpen rq => rq.wf
  | .sessionAuth rq => rq.wf
  | .sessionClose rq => rq.wf
  | .handleQuery rq => rq.wf
  | .handleDestroy rq => rq.wf
  | .handleBindIrq rq => rq.wf
  | .timerCreate rq => rq.wf
  | .pendingQuery rq => rq.wf
  | .resultRead rq => rq.wf
  | .instanceCreate rq => rq.wf
  | .instanceDestroy rq => rq.wf
  | .instanceDestroyComplete inst => inst < 63
  | .instanceReset rq => rq.wf
  | .instanceResetDrainEnd inst => inst < 63
  | .instanceResetComplete inst => inst < 63
  | .shareChange rq => rq.wf
  | .fnDisable rq => rq.wf
  | .fnDisableDrainTimeout inst => inst < 63
  | .fnDisableComplete inst => inst < 63
  | .fnEnable rq => rq.wf
  | .stallAssign rq => rq.wf
  | .stallWithdraw rq => rq.wf
  | .guestFileBind rq => rq.wf
  | .instanceQuery rq => rq.wf
  | .queuePairCreate rq => rq.wf
  | .flowCreate rq => rq.wf
  | .gateListSet rq => rq.wf
  | .portConfig rq => rq.wf
  | .portStats rq => rq.wf
  | .macsecSaSet rq => rq.wf
  | .marketStatus rq => rq.wf
  | .canSetCreate rq => rq.wf
  | .canChannelConfig rq => rq.wf
  | .canConfigApply chan => chan < 16
  | .canRecover rq => rq.wf
  | .canWakeFilter rq => rq.wf
  | .canScheduleSet rq => rq.wf
  | .linCreate rq => rq.wf
  | .linScheduleSet rq => rq.wf
  | .gwRuleSet rq => rq.wf
  | .gwRuleClear rq => rq.wf
  | .gwStats rq => rq.wf
  | .loadGroupCreate rq => rq.wf
  | .loadChannelConfig rq => rq.wf
  | .loadSet rq => rq.wf
  | .loadLatchClear rq => rq.wf
  | .loadStatus rq => rq.wf
  | .inputGroupCreate rq => rq.wf
  | .inputConfig rq => rq.wf
  | .modeRequest rq => rq.wf
  | .startGood rq => rq.wf
  | .sleepOrder rq => rq.wf
  | .wakeConfig rq => rq.wf
  | .wakeStatus rq => rq.wf
  | .blockPower rq => rq.wf
  | .keepVote rq => rq.wf
  | .keepRelease rq => rq.wf
  | .blockStatus rq => rq.wf
  | .checkerLock rq => rq.wf
  | .secureClaim rq => rq.wf
  | .secureRelease rq => rq.wf
  | .resetRequest rq => rq.wf
  | .recoveryRelease rq => rq.wf
  | .keyDerive rq => rq.wf
  | .keyInvalidate rq => rq.wf
  | .keySign rq => rq.wf
  | .keySignComplete => true
  | .attest rq => rq.wf
  | .attestComplete => true
  | .ringCreate rq => rq.wf
  | .healthQuery rq => rq.wf
  | .safetyStatus rq => rq.wf
  | .ledgerReaderCreate rq => rq.wf
  | .ledgerRead rq => rq.wf
  | .updateBegin rq => rq.wf
  | .updateData rq => rq.wf
  | .updateCommit rq => rq.wf
  | .updateCommitComplete _ _ _ _ => true
  | .updateAbort rq => rq.wf
  | .lifecycleSet rq => rq.wf
  | .lifecycleTransitionCommit => true
  | .debugOpen rq => rq.wf
  | .passWindowOpen rq => rq.wf
  | .passErrorClear rq => rq.wf
  | .pairStatus rq => rq.wf
  | .sidebandWrite rq => rq.wf
  | .partnerReset rq => rq.wf
  | .frameIngress port _ => (port < 26 || port = 29)
  | .cutThroughStart port _ => (port < 26 || port = 29)
  | .multicastService port cls _ => port < 30 && cls < 8
  | .egressTransmitStart point => point.port < 30
  | .frameEgressComplete port _ _ => port < 30
  | .linkUp port => port < 26
  | .linkDown port => port < 26
  | .pauseFrameReceive port _ _ _ => port < 26
  | .pauseExpiry port _ => port < 26
  | .pauseRefresh port => port < 26
  | .gateEntryAdvance port => port < 30
  | .gateListSwitchover port => port < 30
  | .preemptVerifyResponse port => port < 10
  | .preemptVerifyTimeout port => port < 10
  | .policerRefill => true
  | .frerRecoveryTimeout stream => stream < 512
  | .ptpMessageReceive port _ => port < 30
  | .ptpSyncTimeout => true
  | .ptpTransmitTimer port _ => port < 30
  | .plcaBeaconLost port => 22 ≤ port && port < 26
  | .plcaBeaconReturn port => 22 ≤ port && port < 26
  | .plcaTransmitOpportunity port => 22 ≤ port && port < 26
  | .tc10SleepRequestReceive port => port < 22
  | .qpTxTailWrite qp attr _ => qp < 128 && initListed attr.init
  | .qpRxTailWrite qp attr _ => qp < 128 && initListed attr.init
  | .qpTxDescriptorProcess qp => qp < 128
  | .qpRxCopy qp => qp < 128
  | .instDbWrite x => x.wf
  | .canFrameReceived chan _ => chan < 16
  | .canProtocolException chan _ => chan < 16
  | .canTxStart sof => sof.chan < 16
  | .canTxSuccess chan => chan < 16
  | .canArbitrationLost chan => chan < 16
  | .canBusError chan _ _ _ => chan < 16
  | .canRecessiveSequence chan => chan < 16
  | .objTxReqWrite chan obj attr => chan < 16 && obj < 128 && initListed attr.init
  | .objTxAbortWrite chan obj attr => chan < 16 && obj < 128 && initListed attr.init
  | .objUpdWrite chan obj attr _ => chan < 16 && obj < 128 && initListed attr.init
  | .objConfigWrite chan obj x => chan < 16 && obj < 128 && x.wf
  | .objRxIdRead chan obj attr => chan < 16 && obj < 128 && initListed attr.init
  | .objRxEndRead chan obj attr => chan < 16 && obj < 128 && initListed attr.init
  | .canLockExpiry chan obj => chan < 16 && obj < 128
  | .mapTxdoneWrite chan word attr _ => chan < 16 && word < 4 && initListed attr.init
  | .canScheduleColumn chan => chan < 2
  | .canScheduleChange chan => chan < 2
  | .gatewayTap src => match src with
    | .can chan _ => chan < 16
    | .lin chan id _ => chan < 8 && id < 64
    | .acf bus _ _ => bus < 32
  | .gatewayEthFrame _ => true
  | .gatewayBatchHoldExpiry rule => rule < 4096
  | .gatewayQueueAgeExpiry chan _ => chan < 16
  | .linSlotStart chan => chan < 8
  | .linHeaderReceived chan id => chan < 8 && id < 64
  | .linResponseReceived chan _ => chan < 8
  | .linFrmDataHiWrite chan id attr _ => chan < 8 && id < 64 && initListed attr.init
  | .linFrmStatRead chan id attr => chan < 8 && id < 64 && initListed attr.init
  | .linGotoSleepWrite chan attr => chan < 8 && initListed attr.init
  | .linWakeWrite chan attr => chan < 8 && initListed attr.init
  | .linSchedSelWrite chan attr _ => chan < 8 && initListed attr.init
  | .linGotoSleepReceived chan => chan < 8
  | .linBusIdleTimeout chan => chan < 8
  | .linWakeupDetected chan => chan < 8
  | .sleepPreparationsIssued => true
  | .drainConditionsMet => true
  | .drainLimitExpiry => true
  | .committedDomainsOff => true
  | .sleepDwellEnd => true
  | .wakeEvent fires => fires.all (fun f => unitSource f.source)
  | .wakeConfirmation => true
  | .falseWakeTimeout => true
  | .quarantineEnd source => unitSource source
  | .loadOutWrite page chan attr _ _ => page < 64 && chan < 60 && initListed attr.init
  | .loadOnSetWrite page attr _ => page < 64 && initListed attr.init
  | .loadOnClrWrite page attr _ => page < 64 && initListed attr.init
  | .softStartComplete chan => chan < 60
  | .overcurrentTrip trip => trip.chan < 60
  | .retryPauseEnd chan => chan < 60
  | .retryGoodTimer chan => chan < 60
  | .fetTemperatureSample chan _ => chan < 60
  | .wireModelUpdate chan _ _ _ => chan < 60
  | .inrushWindowEnd chan => chan < 60
  | .holdWindowExpiry chan => chan < 60
  | .limpSwitchOn => true
  | .offStateTestStart chan _ => chan < 60
  | .offStateTestEnd chan _ => chan < 60
  | .undercurrentTimer chan _ => chan < 60
  | .reverseCurrentBlock chan => chan < 4
  | .reverseBlockClear chan => chan < 4
  | .groupMsiRateTimer group => group < 60
  | .loadShed => true
  | .loadRestore => true
  | .powerStageShed _ => true
  | .debounceComplete input _ _ => input < 64
  | .analogThresholdChange input _ => input < 24
  | .inEvtClearWrite group attr _ _ => group < 88 && initListed attr.init
  | .sensorSupplyCurrentLimit supply => supply < 3
  | .sensorSupplyRetry supply => supply < 3
  | .keyStoreAlarm _ => true
  | .crSqTailWrite ring attr _ => ring < 64 && initListed attr.init
  | .jobFetch ring => ring < 64
  | .keyRegisterLoad _ => true
  | .jobChunk _ => true
  | .jobComplete _ => true
  | .ringBucketRefill => true
  | .passLinkTrained _ _ => true
  | .passLaneFail lane => lane < 4
  | .passLaneRetry _ => true
  | .roleClashRetry => true
  | .heartbeatSend => true
  | .sidebandSend => true
  | .heartbeatReceive _ _ => true
  | .sidebandReceive _ => true
  | .heartbeatLoss => true
  | .partnerStartupTimeout => true
  | .partnerFaultChange _ => true
  | .autoPartnerReset => true
  | .passWindowRead x => x.wf
  | .passReadDataArrive slot _ _ => slot < 256
  | .passReadSlotTimeout slot => slot < 256
  | .passReadyExpiry slot => slot < 256
  | .passNonpostedWrite x => x.wf
  | .passWriteResponse tracker _ => tracker < 128
  | .passWriteTimeout tracker => tracker < 128
  | .passPostedWrite x => x.wf
  | .passInboundTransaction _ _ win _ => win < 32
  | .passPostedFailure win _ _ _ => win < 32
  | .passErrorMessageArrive win _ _ _ _ _ => win < 32
  | .passClearMarkerArrive win => win < 32
  | .passClearAck win => win < 32
  | .passLinkLoss => true
  | .healthSample _ _ _ => true
  | .registerWrite w => w.wf
  | .canBusIntegration chan => chan < 16
  | .linResponseError chan _ => chan < 8
  | .linNoResponse chan => chan < 8
  | .inWakeChange _ _ => true
  | .vbusFunctionalRangeReached _ => true
  | .addressResolutionRequest port _ => port < 30

end Sys2Proof
end

