-- ==== Sys2Proof/Safety.lean ====
section
/-! DEFINITION. What a good state is, and when Amind takes a request, in the terms that claims use. -/

namespace Sys2Proof.Machine

open Sys2Proof

/-- Both memories keep their canonical form: addresses strictly rising, and secure SRAM lists no zero. -/
def State.memOk (s : State) : Prop := Memory.rising s.core.dram ∧ Memory.wf s.core.sram

/-- Amind takes a request for a command and every check of R226 passes: it waits on its route, Amind runs and is past step 5, header and
sequence are in order, and issuer, mode, fields and handle are as the command reference permits. -/
abbrev State.takes (s : State) (c : CmdSpec) (rq : Request) (valid : List Byte → Bool) (retiring : Bool) : Prop :=
  s.waits rq = true ∧ s.amindUp = true ∧ rq.opcode.toNat = c.op ∧ rq.relayed = false ∧ s.answersBusy rq.route = false
    ∧ rq.headerOk = true ∧ s.replays rq = false ∧ rq.unknown = false
    ∧ (s.heard rq).precheck c rq valid retiring = .ok

/-- A transaction of n bytes passes its initiator port and its arbitration point at once: it is one that R119 allows, none of its initiator
to its block is before it, a credit is free, no regulator meters it, and nothing that waits at its target has its class or a higher one
(R119, R122, R123, R132, R137). -/
abbrev State.passesAtOnce (s : State) (k : XKind) (x : Xact) (n : Nat) : Prop :=
  s.fabricUp = true ∧ x.fits n = true ∧ (∀ w ∈ s.core.waiting, w.x.ordered x = false) ∧ s.credit k x.attr.init = true
    ∧ s.metered x.attr x.addr.toNat = false ∧ s.wins x.addr.toNat x.attr.qos = true

/-- A register access passes its port and its arbitration point at once: none of its initiator to its block is before it, a credit is free,
and nothing that waits at its target has its class or a higher one (R122, R123, R137). -/
abbrev State.portFree (s : State) (k : XKind) (x : Xact) : Prop :=
  (∀ w ∈ s.core.waiting, w.x.ordered x = false) ∧ s.credit k x.attr.init = true ∧ s.wins x.addr.toNat x.attr.qos = true

/-- The response is recorded and written to its route, and the interrupts settle. -/
def State.reply (s : State) (rq : Request) (a : Ans) : State := ((s.record rq a).respond rq.route (answerOf rq a)).settle

/-- A command takes the machine to a state whose interrupts have settled. -/
def Does (c : Instr) (s t : State) : Prop := exec c s = .next t.settle

/-- A request is answered: the state that its command's own part leaves, and the answer. -/
def Replies (c : Instr) (rq : Request) (s t : State) (a : Ans) : Prop := exec c s = .next (t.reply rq a)

/-- A request that Amind takes, and whose command's own conditions hold on the state that has heard it, is answered: the state that
the command's own part leaves, and the answer. -/
def Serves (c : Request → Instr) (k : CmdSpec) (valid : Request → State → List Byte → Bool) (retiring : Bool)
    (own : Request → State → Prop) (t : Request → State → State) (a : Request → State → Ans) : Prop :=
  ∀ (rq : Request) (s : State), s.takes k rq (valid rq s) retiring → own rq (s.heard rq) →
    Replies (c rq) rq s (t rq (s.heard rq)) (a rq (s.heard rq))

end Sys2Proof.Machine
end

