-- ==== Sys2Proof/Certificates/Slice0/Obligations.lean ====
section
/-! DEFINITION. The statements for the provers. -/

open Sys2Proof Sys2Proof.Machine

/-- With a command at the front of the queue a step is that command's effect on the state with the queue's rest. -/
def Obligations.StepRunsFrontCommand : Prop :=
  ∀ (s : State) (c : Instr) (r : List Instr), step { s with pending := c :: r } = exec c { s with pending := r }

/-- On an empty queue a step is one period of the 125 MHz clock: of a powered module TIME_LOCAL advances by 8 ns and TIME_GLOBAL by 8 ns
and the whole part of the rate adjustment, and where no transaction waits and the link is down, modes, supply, loads, buses, keys and
timers stay; of an unpowered one nothing changes (R110, R113; that the tick stands in for idling is the model's choice, log entry 5). -/
def Obligations.EmptyQueueLetsTimePass : Prop :=
  ∀ s : State, s.pending = [] →
    (s.supply.porHeld = true → step s = .next s)
    ∧ (s.supply.porHeld = false → s.core.waiting = [] → s.linkFull = false → ∃ t, step s = .next t
        ∧ t.tb = { s.tb with
            localT := s.tb.localT + 8
            globalT := s.tb.globalT + 8 + BitVec.ofInt 64 ((s.tb.frac + 8 * s.tb.adj.toInt) / 256000000000)
            frac := (s.tb.frac + 8 * s.tb.adj.toInt) % 256000000000 }
        ∧ t = { s with tb := t.tb, eth := t.eth, core := t.core }
        ∧ t.core = { s.core with
            aplicM := t.core.aplicM, aplicS := t.core.aplicS, imsics := t.core.imsics, pairs := t.core.pairs })

/-- What the spec states of the module as delivered and before power-on reset is released: reset held, the feed switches open, FAULT_N
low, TIME_LOCAL 0, no mode but OFF, the POR bit, every pair in reset, stalls 0 to 3 IDLE and the others CLOSED, comparators unarmed,
every ceiling at its highest rate, the fabric's capture empty, the class defaults of the loads, and nothing waiting. -/
def Obligations.ResetValues : Prop :=
  State.reset.supply.porHeld = true ∧ State.reset.supply.feedA.closed = false ∧ State.reset.supply.feedB.closed = false
    ∧ State.reset.supply.faultLow = true ∧ State.reset.supply.rstReq = false ∧ State.reset.supply.partnerRst = false
    ∧ State.reset.tb.localT = 0 ∧ State.reset.aon.mode = .off ∧ State.reset.aon.cause.por = true ∧ State.reset.aon.failedStarts = 0
    ∧ (∀ p, (State.reset.pair p).st = .inReset) ∧ (∀ h, (State.reset.hart h).world = true ∧ (State.reset.hart h).priv = 3
        ∧ (State.reset.hart h).resv = none ∧ (State.reset.hart h).tollen = false)
    ∧ (∀ n, (State.reset.stall n).st = if n < 4 then .idle else .closed)
    ∧ (∀ n, (State.reset.timer n).arm = false ∧ (State.reset.timer n).fired = false)
    ∧ (∀ n, (State.reset.reg n).en = false ∧ (State.reset.reg n).ceil = 0xFFFF)
    ∧ State.reset.core.fabErr.valid = false ∧ State.reset.core.fabErr.count = 0 ∧ State.reset.core.locked = false
    ∧ (∀ c, c < 12 → (State.reset.load c).cfg.thLimit = 150 ∧ (State.reset.load c).cfg.rank = 4)
    ∧ (∀ c, (State.reset.load c).drive = .off ∧ (State.reset.load c).cfg.policy = 2 ∧ (State.reset.load c).cfg.limit = 8)
    ∧ State.reset.pass.link = .down ∧ State.reset.ks.st = .starting ∧ State.reset.pending = []

/-- The memories of the module as delivered have their canonical form. -/
def Obligations.ResetMemoryCanonical : Prop := State.reset.memOk

/-- Every step keeps the canonical form of both memories: addresses of DRAM and of secure SRAM strictly rise, and secure SRAM lists no
zero, whatever command runs and whether or not a command waits. -/
def Obligations.StepKeepsMemoryCanonical : Prop := ∀ s t : State, s.memOk → step s = .next t → t.memOk

/-- No command touches the queue: what waits behind a command is still waiting after it, in the same order. -/
def Obligations.CommandsKeepQueue : Prop := ∀ (c : Instr) (s t : State), exec c s = .next t → t.pending = s.pending

/-- A command that names units of the module, and whose request is well formed where it brings one, always takes the machine to a next
state: no state, mode or data ends a run.

A command without a request that names a unit which the module does not have faults with noSuchUnit, in every state (the fault is the
model's, log entry 2). -/
def Obligations.CommandsCompleteOrNameAbsentUnits : Prop :=
  (∀ (c : Instr) (s : State), c.wf = true → ∃ t, exec c s = .next t)
  ∧ (∀ (c : Instr) (s : State), c.request = none → c.wf = false → exec c s = .fault .noSuchUnit)

/-- The settling of interrupts that ends every command changes the two APLIC domains, the interrupt files and the drop counters of the
pairs, and nothing else.

An answer changes Amind's records and the interrupts, and nothing else of the machine: in them the stored response and sequence of
the route, and for a stall in service its response area and its state ANSWERED. A stall that was cleared meanwhile takes no response. -/
def Obligations.AnswersAndInterruptsFrame : Prop :=
  (∀ s : State, s.settle = { s with core := { s.core with
    aplicM := s.settle.core.aplicM, aplicS := s.settle.core.aplicS, imsics := s.settle.core.imsics, pairs := s.settle.core.pairs } }
    ∧ ∀ p, s.settle.pair p = { s.pair p with msiDrop := (s.settle.pair p).msiDrop })
  ∧ (∀ (s : State) (rq : Request) (a : Ans),
    s.reply rq a = { s with
      mgmt := { s.mgmt with amind := (s.reply rq a).mgmt.amind }
      core := { s.core with
        aplicM := (s.reply rq a).core.aplicM, aplicS := (s.reply rq a).core.aplicS, imsics := (s.reply rq a).core.imsics
        pairs := (s.reply rq a).core.pairs } }
    ∧ (∀ n, n < 64 → rq.route = .stall n → (s.stall n).inService = false → ∀ m, (s.reply rq a).stall m = s.stall m)
    ∧ (∀ n, n < 64 → rq.route = .stall n → (s.stall n).inService = true →
        ((s.reply rq a).stall n).st = .answered ∧ ((s.reply rq a).stall n).captured = none
        ∧ ((s.reply rq a).stall n).rsp.status = a.st.code ∧ ((s.reply rq a).stall n).rsp.seq = rq.seq
        ∧ ((s.reply rq a).stall n).rsp.opcode = rq.opcode ∧ ((s.reply rq a).stall n).rsp.handle = a.handle.getD rq.handle
        ∧ ((s.reply rq a).route n).lastSeq = rq.seq ∧ ((s.reply rq a).route n).stored = answerOf rq a
        ∧ ∀ m, m ≠ n → (s.reply rq a).stall m = s.stall m))

/-- Memory: a byte written is the byte read, every other byte of DRAM and of secure SRAM stays, and a byte of secure SRAM that nothing
has written reads 0. -/
def Obligations.MemoryReadAfterWrite : Prop :=
  ∀ (s : State) (a b : Nat) (v : Byte),
    (s.setDram a v).dramByte b = (if b = a then v else s.dramByte b)
    ∧ (s.setSram a v).sramByte b = (if b = a then v else s.sramByte b)
    ∧ (s.setDram a v).sramByte b = s.sramByte b ∧ (s.setSram a v).dramByte b = s.dramByte b
    ∧ (s.core.sram = [] → s.sramByte b = 0)

/-- The checks of a request in their order, for a request that waits on a route on which Amind answers: a header in error is BAD_PARAM,
the sequence accepted last brings the stored response again with REPLAY, and after them the first of issuer, mode, fields and handle that
fails gives the status, which the route keeps; none of them runs the command. -/
def Obligations.ChecksInOrder : Prop :=
  ∀ (k : CmdSpec) (rq : Request) (s : State) (valid : List Byte → Bool) (retiring : Bool) (own : State → State × Ans),
    s.waits rq = true → s.amindUp = true → rq.opcode.toNat = k.op → rq.unknown = false → rq.relayed = false →
    let u := s.heard rq
    (s.answersBusy rq.route = true →
      serveWith k rq s valid retiring own = .next (u.respond rq.route (answerOf rq { st := .busy })).settle)
    ∧ (s.answersBusy rq.route = false → rq.headerOk = false →
      serveWith k rq s valid retiring own = .next (u.respond rq.route (answerOf rq { st := .badParam })).settle)
    ∧ (s.answersBusy rq.route = false → rq.headerOk = true → s.replays rq = true →
      serveWith k rq s valid retiring own = .next (u.respond rq.route
        { (s.route rq.route.key).stored with flags := (s.route rq.route.key).stored.flags ||| 0x0008 }).settle)
    ∧ (s.answersBusy rq.route = false → rq.headerOk = true → s.replays rq = false → ∀ e, e ≠ .ok →
        u.precheck k rq valid retiring = e → serveWith k rq s valid retiring own = .next (u.reply rq { st := e }))
    ∧ (u.issuerOk k rq = false → u.precheck k rq valid retiring = .denied)
    ∧ (u.issuerOk k rq = true → u.modeOk k rq.route = false → u.precheck k rq valid retiring = .wrongMode)
    ∧ (u.issuerOk k rq = true → u.modeOk k rq.route = true → (rq.payload.length ≠ rq.len.toNat ∨ valid rq.payload = false) →
        u.precheck k rq valid retiring = .badParam)
    ∧ (u.issuerOk k rq = true → u.modeOk k rq.route = true → rq.payload.length = rq.len.toNat → valid rq.payload = true →
        u.precheck k rq valid retiring
          = if k.types = [] then .ok else u.checkHandle rq.route rq.handle k.types k.mgrToo retiring)

/-- A ledger entry: it takes the next sequence, the times, the start and the mode in force, joins the end of the retained buffer, and
nothing but the buffer, the last sequence and interrupts changes; with 64 entries in the buffer the always-on domain counts the drop
instead. -/
def Obligations.LedgerEntriesMade : Prop :=
  ∀ (s : State) (e : Ev) (d : List Byte),
    (s.mgmt.ledger.buffer.length < 64 →
      (s.logAon e d).mgmt = { s.mgmt with ledger := { s.mgmt.ledger with
        lastSeq := s.mgmt.ledger.lastSeq + 1
        buffer := s.mgmt.ledger.buffer ++ [{
          seq := s.mgmt.ledger.lastSeq + 1, localT := s.tb.localT, globalT := if s.tb.gstate = 0 then 0 else s.tb.globalT
          startNo := s.aon.startNo, event := BitVec.ofNat 16 e.info.1, severity := BitVec.ofNat 8 e.info.2, writer := .aon
          mode := BitVec.ofNat 8 s.aon.mode.code, data := d }] } })
    ∧ (64 ≤ s.mgmt.ledger.buffer.length →
      s.logAon e d = { s with mgmt := { s.mgmt with ledger := { s.mgmt.ledger with
        aonDropped := Tab.upd s.mgmt.ledger.aonDropped e.info.1 0 satInc } } })
    ∧ (s.logAon e d = { s with
        mgmt := { s.mgmt with ledger := (s.logAon e d).mgmt.ledger }
        core := { s.core with
          aplicM := (s.logAon e d).core.aplicM, aplicS := (s.logAon e d).core.aplicS, imsics := (s.logAon e d).core.imsics
          pairs := (s.logAon e d).core.pairs } })

/-- The feeds: an opened switch leaves its feed lost without current, a closed one ends the loss, the load budget is 160 A while a feed
is lost and 250 A otherwise, and FEED_LOST and FEED_RESTORED are recorded. A closed switch closes no second time, and with no switch closed
each feed that is not reversed connects, one alone or both.

CRANK and the hold-up bank: VBUS below the functional low limit of the strapped net (6, 12 or 24 V) sets CRANK and ends the charging
of the bank, 0.5 V above the limit clears it and opens the inrush window of every channel that is on, and the bank at its voltage sets
BANK_READY. Nothing else of the supply changes.

COMPLETION: where the conditions that its clauses put on the state and the operands hold, exec answers a next state with the effect stated
for BANK_READY, CRANK_CLEAR, CRANK_SET, FEED_CONNECT_NO_SOURCE, FEED_SWITCH_CLOSE, FEED_SWITCH_OPEN. -/
def Obligations.FeedsCrankAndBank : Prop :=
  ((∀ (s : State) (f : Bool), (s.supply.feed f).closed = true →
    Does (.feedSwitchOpen f) s ({ s with
      supply := s.supply.updFeed f (fun _ => { closed := false, lost := true, cur := 0 })
      ps := { s.ps with budget := 1600 } }.logEither .feedLost [if f then 1 else 0]))
  ∧ (∀ (s : State) (f : Bool), (s.supply.feed f).closed = false → (s.supply.feed f).lost = true →
    let t : State := { s with
      supply := s.supply.updFeed f (fun x => { x with closed := true, lost := false })
      ps := { s.ps with budget := if (s.supply.feed (!f)).lost then 1600 else 2500 } }
    Does (.feedSwitchClose f) s (t.logEither .feedRestored [if f then 1 else 0])
    ∧ (s.supply.feedA.closed = false → s.supply.feedB.closed = false →
        Does (.feedConnectNoSource ⟨!f, f⟩) s (t.logEither .feedRestored [if f then 1 else 0])))
  ∧ (∀ s : State, s.supply.feedA.closed = false → s.supply.feedB.closed = false →
      ∃ t, Does (.feedConnectNoSource ⟨true, true⟩) s t ∧ t.ps = { s.ps with budget := 2500 }
        ∧ t.supply = { s.supply with
            feedA := { s.supply.feedA with closed := true, lost := false }
            feedB := { s.supply.feedB with closed := true, lost := false } })
  ∧ (∀ (s : State) (f x y : Bool), (s.supply.feed f).closed = true →
      exec (.feedSwitchClose f) s = .next s ∧ exec (.feedConnectNoSource ⟨x, y⟩) s = .next s))
  ∧ ((∀ (s : State) (mv : U16), s.supply.porHeld = false → s.supply.holdup = false → s.supply.crank = false →
    mv.toNat < (match s.supply.straps.net with | .v12 => 6000 | .v24 => 12000 | .v48 => 24000 | .invalid => 6000) →
      Does (.crankSet mv) s { s with supply := { s.supply with crank := true, vbus := mv, bankCharging := false } })
  ∧ (∀ (s : State) (mv : U16), s.supply.crank = true → s.supply.holdup = false →
    (match s.supply.straps.net with | .v12 => 6500 | .v24 => 12500 | .v48 => 24500 | .invalid => 6500) ≤ mv.toNat →
      ∃ t, Does (.crankClear mv) s t ∧ t.supply.crank = false ∧ t.supply.vbus = mv
        ∧ t.supply = { s.supply with crank := false, vbus := mv, bankCharging := t.supply.bankCharging }
        ∧ t = { s with supply := t.supply, ps := { s.ps with chans := t.ps.chans } }
        ∧ ∀ c, c < 60 → t.load c = if (s.load c).drive = .off then s.load c
            else { s.load c with prot := { (s.load c).prot with inrush := true } })
  ∧ (∀ s : State, s.supply.bankCharging = true →
      Does .bankReady s { s with supply := { s.supply with bankReady := true, bankCharging := false } }))

/-- Overvoltage: VBUS above the functional range switches every load channel off, and the end of the overvoltage is judged after 10 ms in
the range.

Supply loss: with a ready bank the hold-up commit begins, with FAULT_N low, every load channel off, held transactions, jobs, loaded
keys and MACsec associations gone and the loss in the ledger; without one the module is off at once, and what is left is non-volatile.
A loss during the sequence changes VBUS as last judged alone (log entry 140).
The end of the commit sequence keeps every entry of the buffer in the partition and the wake record, marks the commit good and powers
down; VBUS as last judged then decides whether the module waits in OFF.

COMPLETION: where the conditions that its clauses put on the state and the operands hold, exec answers a next state with the effect stated
for HOLDUP_COMMIT_COMPLETE, HOLDUP_RESTART, OVERVOLTAGE_ENTER, OVERVOLTAGE_EXIT, SUPPLY_LOSS. -/
def Obligations.SupplyLimits : Prop :=
  ((∀ (s : State) (mv : U16), s.supply.porHeld = false → s.supply.holdup = false →
    (match s.supply.straps.net with | .v12 => 35000 | .v24 => 58000 | .v48 => 58000 | .invalid => 58000) < mv.toNat →
      ∃ t, Does (.overvoltageEnter mv) s t ∧ t.supply.overvolt = true ∧ t.supply.vbus = mv ∧ t.supply.crank = s.supply.crank
        ∧ (∀ c, c < 60 → (t.load c).drive = .off ∧ t.loadState c = 7)
        ∧ t.aon = s.aon ∧ t.bus = s.bus ∧ t.sw = s.sw ∧ t.eth = s.eth ∧ t.core.dram = s.core.dram ∧ t.core.harts = s.core.harts)
  ∧ (∀ (s : State) (mv : U16), s.supply.overvolt = true → s.supply.holdup = false →
    (match s.supply.straps.net with
      | .v12 => 6000 ≤ mv.toNat ∧ mv.toNat ≤ 35000
      | .v24 => 12000 ≤ mv.toNat ∧ mv.toNat ≤ 58000
      | .v48 => 24000 ≤ mv.toNat ∧ mv.toNat ≤ 58000
      | .invalid => 6000 ≤ mv.toNat ∧ mv.toNat ≤ 58000) →
      ∃ t, Does (.overvoltageExit mv) s t ∧ t.supply.overvolt = false ∧ t.supply.vbus = mv
        ∧ t.aon = s.aon ∧ t.bus = s.bus ∧ t.sw = s.sw ∧ t.eth = s.eth ∧ t.core.dram = s.core.dram ∧ t.core.harts = s.core.harts))
  ∧ ((∀ (s : State) (mv : U16) (cause : Byte), s.supply.porHeld = false → s.supply.holdup = false → cause.toNat ≤ 2 →
    (cause = 0 → mv.toNat < (match s.supply.straps.net with | .v12 => 3000 | .v24 => 6000 | .v48 => 24000 | .invalid => 3000)) →
    (cause = 1 → s.supply.crank = true) →
      (s.supply.bankReady = true → ∃ t, Does (.supplyLoss mv cause) s t ∧ t.supply.holdup = true ∧ t.supply.faultLow = true
        ∧ t.supply.lastCommitOk = false ∧ t.supply.vbus = mv ∧ (∀ c, c < 60 → (t.load c).drive = .off)
        ∧ t.core.waiting = [] ∧ t.core.toPartial = none ∧ t.ce.jobs = [] ∧ t.ks.engine = [] ∧ t.sleep.phase = 0
        ∧ t.aon = s.aon ∧ t.core.dram = s.core.dram ∧ t.core.sram = s.core.sram)
      ∧ (s.supply.bankReady = false → ∃ t, Does (.supplyLoss mv cause) s t ∧ t.supply.porHeld = true ∧ t.aon.mode = .off
        ∧ t.supply.holdupWait = (!s.inFunctional mv) ∧ t.mgmt.ledger.stored = s.mgmt.ledger.stored ∧ t.mgmt.ledger.buffer = []
        ∧ t.core.dram = [] ∧ t.core.sram = [] ∧ t.aon.failedStarts = s.aon.failedStarts ∧ t.aon.lifecycle = s.aon.lifecycle
        ∧ t.ks.nodes = s.ks.nodes))
  ∧ (∀ (s : State) (mv : U16), s.supply.porHeld = false → s.supply.holdup = true →
      Does (.supplyLoss mv 2) s { s with supply := { s.supply with vbus := mv } })
  ∧ (∀ s : State, s.supply.holdup = true →
    ∃ t, Does .holdupCommitComplete s t ∧ t.supply.porHeld = true ∧ t.supply.holdup = false ∧ t.supply.vbus = s.supply.vbus
      ∧ t.supply.lastCommitOk = true ∧ t.aon.mode = .off ∧ t.supply.holdupWait = (!s.inFunctional s.supply.vbus)
      ∧ t.supply.savedWake = s.sleep.saved
      ∧ t.mgmt.ledger.stored = s.commitBuffer.mgmt.ledger.stored ∧ t.mgmt.ledger.lastSeq = s.commitBuffer.mgmt.ledger.lastSeq
      ∧ t.core.dram = [] ∧ t.core.sram = [] ∧ t.aon.startNo = s.aon.startNo ∧ t.ks.nodes = s.ks.nodes)
  ∧ (∀ (s : State) (mv : U16), s.supply.holdupWait = true → s.inFunctional mv = true →
      Does (.holdupRestart mv) s { s with supply := { s.supply with vbus := mv, holdupWait := false } }))

/-- The reset sources: power-on reset samples the straps and enters START, a valid low level on RESET_N resets every domain but the
always-on domain and the power stage with FAULT_N low and the pin cause kept for step 1, and the end of a pulse on RST_REQ_N or PARTNER_RST_N
releases that pin alone.

Step 1 and step 2 of a start, begun by the release of RESET_N or at the end of the wait for VBUS: the causes seen since the last
step 1 are latched and forgotten, the start is counted, and the failed-start counter goes up by one, but at 3 or more only with the trial
flag, which it takes; otherwise the start enters RECOVERY at step 3.

COMPLETION: where the conditions that its clauses put on the state and the operands hold, exec answers a next state with the effect stated
for PARTNER_RST_PULSE_END, POWER_ON_RESET_RELEASE, RESET_N_RELEASE, RESET_N_VALID, RST_REQ_PULSE_END, START_VBUS_WAIT_END. -/
def Obligations.ResetSourcesAndStarts : Prop :=
  ((∀ (s : State) (net : NetSel) (pairOpen svcOpen : Bool), s.supply.porHeld = true → s.supply.holdupWait = false →
    ∃ t, Does (.powerOnResetRelease net pairOpen svcOpen) s t ∧ t.supply.porHeld = false ∧ t.supply.vbusWait = true
      ∧ t.supply.faultLow = true ∧ t.supply.straps = { net := net, pairOpen := pairOpen, svcOpen := svcOpen }
      ∧ t.aon.mode = .start ∧ t.aon.nextPor = true ∧ t.aon.step = s.aon.step ∧ t.core = s.core ∧ t.mgmt = s.mgmt
      ∧ t.ps = { s.ps with budget := t.ps.budget })
  ∧ (∀ s : State, s.supply.pinHeld = false → s.supply.porHeld = false → s.supply.holdup = false →
    ∃ t, Does .resetNValid s t ∧ t.supply.pinHeld = true ∧ t.supply.faultLow = true ∧ t.aon.mode = .start ∧ t.aon.step = 0
      ∧ t.aon.nextPin = true ∧ t.aon.nextReq = (if s.supply.rstReq then s.aon.nextReq else none)
      ∧ t.aon.startGood = false ∧ t.aon.failedStarts = s.aon.failedStarts
      ∧ t.mgmt.handles.tab = [] ∧ t.mgmt.insts = [] ∧ t.mgmt.ledger.buffer = s.mgmt.ledger.buffer ∧ t.core.harts = []
      ∧ t.core.blocks = [] ∧ t.core.dram = [] ∧ t.core.dramEpoch = s.core.dramEpoch + 1 ∧ t.sw = {} ∧ t.eth = {} ∧ t.bus = {}
      ∧ t.ce = {} ∧ t.pass = {} ∧ t.timers = [] ∧ t.ks.nodes = s.ks.nodes ∧ t.tb.localT = s.tb.localT)
  ∧ (∀ s : State, s.supply.pinHeld = true → s.supply.holdup = false → (s.supply.porHeld = true ∨ s.supply.vbusWait = true) →
      Does .resetNRelease s { s with supply := { s.supply with pinHeld := false } })
  ∧ (∀ s : State, s.supply.holdup = true →
      Does .resetNRelease s { s with supply := { s.supply with pinDeferred := false, pinHeld := false } })
  ∧ (∀ s : State, s.supply.rstReq = true → Does .rstReqPulseEnd s { s with supply := { s.supply with rstReq := false } })
  ∧ (∀ s : State, s.supply.partnerRst = true →
      Does .partnerRstPulseEnd s { s with supply := { s.supply with partnerRst := false } }))
  ∧ (∀ (s : State) (c : Instr),
    (c = .resetNRelease ∧ s.supply.pinHeld = true ∧ s.supply.holdup = false ∧ s.supply.porHeld = false ∧ s.supply.vbusWait = false
      ∨ c = .startVbusWaitEnd ∧ s.supply.vbusWait = true ∧ s.supply.holdup = false ∧ s.inFunctional s.supply.vbus = true
        ∧ s.supply.pinHeld = false) →
    ∃ t, Does c s t ∧ t.supply.pinHeld = false ∧ t.supply.vbusWait = false ∧ t.supply.faultLow = true
      ∧ t.aon.mode = .start ∧ t.aon.step = 2 ∧ t.aon.startNo = s.aon.startNo + 1 ∧ t.aon.t0 = s.tb.localT
      ∧ t.aon.cause = { por := s.aon.nextPor, pin := s.aon.nextPin, req := if s.aon.nextPin then s.aon.nextReq else none
                        startTimeout := s.aon.nextPin && s.aon.nextTimeout, wake := false
                        holdup := s.aon.nextPor && s.aon.nextHoldup }
      ∧ t.aon.nextPor = false ∧ t.aon.nextPin = false ∧ t.aon.nextReq = none
      ∧ (s.aon.failedStarts.toNat < 3 → t.aon.failedStarts = s.aon.failedStarts + 1 ∧ t.aon.recoveryAt3 = s.aon.recoveryAt3)
      ∧ (3 ≤ s.aon.failedStarts.toNat → s.aon.trial = true →
          t.aon.failedStarts = satInc s.aon.failedStarts ∧ t.aon.trial = false)
      ∧ (3 ≤ s.aon.failedStarts.toNat → s.aon.trial = false →
          t.aon.failedStarts = s.aon.failedStarts ∧ t.aon.recoveryAt3 = true)
      ∧ t.mgmt.handles.tab = [] ∧ t.mgmt.handles.starts = s.mgmt.handles.starts + 1)

/-- Slots: at the step that loads a target, a PENDING slot that authenticates, has the right signer and is not below the minimum version
becomes FAILED with the trial flag set and is loaded as the trial; without a PENDING slot and without the trial flag the ACTIVE one is
loaded, where it can be. At START_GOOD the image on trial becomes ACTIVE, the other one VALID if it was ACTIVE, the flag is cleared, and the
minimum version rises to that of the image loaded. Once the owner key is recorded, a slot of target 1, 2 or 3 with another signer cannot be
loaded. -/
def Obligations.SlotsAndTrials : Prop :=
  (∀ (s : State) (n : Nat) (b : Bool), (s.target n).inState .pending = some b → ((s.target n).slot b).authentic = true →
    s.signerOk n ((s.target n).slot b) = true → (s.target n).minSec.toNat ≤ ((s.target n).slot b).secver.toNat →
      (s.selectSlot n).2 = some b ∧ (((s.selectSlot n).1.target n).slot b).st = .failed
      ∧ ((s.selectSlot n).1.target n).slot (!b) = (s.target n).slot (!b)
      ∧ ((s.selectSlot n).1.target n).trial = true ∧ ((s.selectSlot n).1.target n).loaded = some b
      ∧ ((s.selectSlot n).1.target n).onTrial = true ∧ ∀ k, k ≠ n → (s.selectSlot n).1.target k = s.target k)
  ∧ (∀ (s : State) (n : Nat) (b : Bool), (s.target n).inState .pending = none → (s.target n).trial = false →
    (s.target n).inState .active = some b → ((s.target n).slot b).authentic = true → s.signerOk n ((s.target n).slot b) = true →
    (s.target n).minSec.toNat ≤ ((s.target n).slot b).secver.toNat →
      (s.selectSlot n).2 = some b ∧ (s.selectSlot n).1.target n = { s.target n with loaded := some b, onTrial := false }
      ∧ ∀ k, k ≠ n → (s.selectSlot n).1.target k = s.target k)
  ∧ (∀ (s : State) (n : Nat) (b : Bool), (s.target n).loaded = some b → (s.target n).onTrial = true →
      (((s.promote n).target n).slot b).st = .active
      ∧ (((s.promote n).target n).slot (!b)).st
          = (if ((s.target n).slot (!b)).st = .active then .valid else ((s.target n).slot (!b)).st)
      ∧ ((s.promote n).target n).trial = false
      ∧ ((s.promote n).target n).minSec.toNat = max (s.target n).minSec.toNat ((s.target n).slot b).secver.toNat)
  ∧ (∀ (s : State) (n : Nat) (b : Bool) (h : List Byte), n ≠ 0 → s.aon.ownerKey = some h → ((s.target n).slot b).signer ≠ h →
      (s.selectSlot n).2 ≠ some b)

/-- Step 3: with a usable firmware slot Amind runs, layer 1 is measured, the key store is ready and the pairs that the start releases are in
their self-test; a start marked for RECOVERY, a RETIRED module and an invalid strap code end in RECOVERY with FAULT_N low and every pair
off, with the bank measured there.

Step 4: each pair's self-test is recorded, a pair that fails it is held with its bit in STF_MASK, and the step completes with the last of
the pairs that the start releases, with DRAM, secure SRAM and the frames of the market gone.

Steps 5, 7 and 8: a stored configuration that passes Amind's checks, from the ACTIVE slot, is in force and the bank is measured; the images'
digests and the boot record, with its magic, version and entry, stand in secure SRAM; and step 8 lets the harts of the pairs that passed
their test run, in the secure world and M-mode, with the hart number in x10.

COMPLETION: where the conditions that its clauses put on the state and the operands hold, exec answers a next state with the effect stated
for AMIND_FIRMWARE_AUTHENTICATED, COMPARATOR_SELFTEST_DONE, PAIRS_RELEASED, SECURE_IMAGE_PLACED, START_CONFIG_APPLIED. -/
def Obligations.StartSteps : Prop :=
  (∀ (s : State) (digest : List Byte) (cap : U16) (b : Bool), s.aon.mode = .start → s.aon.step = 2 → s.supply.holdup = false →
    (s.target 0).inState .pending = none → (s.target 0).trial = false → (s.target 0).inState .active = some b →
    ((s.target 0).slot b).authentic = true → (s.target 0).minSec.toNat ≤ ((s.target 0).slot b).secver.toNat →
    s.ks.st ≠ .alarmed → s.aon.cause.wake = false →
      (s.aon.recoveryAt3 = false → s.aon.lifecycle ≠ 4 → s.supply.straps.net ≠ .invalid →
        ∃ t, Does (.amindFirmwareAuthenticated ⟨digest, cap⟩) s t ∧ t.aon = { s.aon with step := 3, wdogRunning := true }
          ∧ t.ks = { s.ks with layers := Tab.put s.ks.layers 1 (fixLen 48 digest), st := .ready } ∧ t.ce = { s.ce with ime := true }
          ∧ t = { s with aon := t.aon, ks := t.ks, ce := t.ce, mgmt := t.mgmt, core := t.core }
          ∧ (∀ p, p < 8 → (t.pair p).st = if s.aon.target = .part ∧ p ≠ 0 then (s.pair p).st else .selftest)
          ∧ t.core.harts = s.core.harts ∧ t.core.dram = s.core.dram ∧ (t.target 0).loaded = some b)
      ∧ ((s.aon.recoveryAt3 = true ∨ s.aon.lifecycle = 4 ∨ s.supply.straps.net = .invalid) →
        ∃ t, Does (.amindFirmwareAuthenticated ⟨digest, cap⟩) s t ∧ t.aon.mode = .recovery ∧ t.supply.faultLow = true
          ∧ t.supply.bankCap = cap ∧ t.supply.holdupLow = decide (cap.toNat < 1200)
          ∧ (∀ p, p < 8 → (t.pair p).st = .off) ∧ t.core.harts = [] ∧ t.sw = {} ∧ t.eth = {} ∧ t.bus = {}))
  ∧ (∀ (s : State) (p lane : Nat) (pass : Bool), p < 8 → s.aon.mode = .start → s.aon.step = 3 → s.supply.holdup = false →
    p ∈ (if s.aon.target = .part then [0] else List.range 8) → (s.pair p).pass = false → (s.pair p).st ≠ .failed →
      ∃ t, Does (.comparatorSelftestDone p pass lane) s t ∧ (t.pair p).pass = pass ∧ (t.pair p).stf = !pass
        ∧ (t.pair p).st = (if pass then .inReset else .failed)
        ∧ (∀ q, q ≠ p → (t.pair q).st = (s.pair q).st ∧ (t.pair q).pass = (s.pair q).pass ∧ (t.pair q).stf = (s.pair q).stf)
        ∧ t.aon = { s.aon with step := if (if s.aon.target = .part then [0] else List.range 8).all (fun q => q = p || s.tested q)
            then 4 else 3 }
        ∧ (t.aon.step = 4 → t.core.dram = [] ∧ t.core.dramEpoch = s.core.dramEpoch + 1 ∧ t.core.sram = [] ∧ t.sw.frames = [])
        ∧ (t.aon.step = 3 → t.core.dram = s.core.dram ∧ t.core.sram = s.core.sram ∧ t.sw = s.sw)
        ∧ t.supply = s.supply ∧ t.ps = s.ps ∧ t.bus = s.bus ∧ t.core.harts = s.core.harts
        ∧ (pass = false → t.mgmt.ledger.lastSeq = s.mgmt.ledger.lastSeq + 1 ∨ 64 ≤ Tab.get s.mgmt.ledger.rate 0x0102 0
            ∨ 56 ≤ s.mgmt.ledger.amindCount))
  ∧ ((∀ (s : State) (cfg : StoredCfg) (cap : U16) (b : Bool), s.aon.mode = .start → s.aon.step = 4 → s.supply.holdup = false →
    s.cfgOk cfg = true → (s.target 1).inState .pending = none → (s.target 1).trial = false → (s.target 1).inState .active = some b →
    ((s.target 1).slot b).authentic = true → s.signerOk 1 ((s.target 1).slot b) = true → (s.target 1).minSec.toNat ≤ ((s.target 1).slot b).secver.toNat →
      ∃ t, Does (.startConfigApplied cfg cap) s t ∧ t.aon.step = 5 ∧ t.aon.mode = .start ∧ t.mgmt.stored = cfg
        ∧ t.supply = { s.supply with bankCap := cap, holdupLow := decide (cap.toNat < 1200) } ∧ t.mgmt.securePins = cfg.securePins
        ∧ t.ks.byteLimit = cfg.byteLimit ∧ t.core.dram = s.core.dram)
  ∧ (∀ (s : State) (d2 : List Byte) (d3 : Option (List Byte)) (e m : A40) (secure mgr : List (A40 × List Byte)) (b : Nat → Bool),
    s.aon.mode = .start → s.aon.step = 5 → s.supply.holdup = false → s.ks.st ≠ .alarmed →
    (∀ n, n = 2 ∨ (n = 3 ∧ s.mgmt.stored.manager = true) →
      (s.target n).inState .pending = none ∧ (s.target n).trial = false ∧ (s.target n).inState .active = some (b n)
      ∧ ((s.target n).slot (b n)).authentic = true ∧ s.signerOk n ((s.target n).slot (b n)) = true ∧ (s.target n).minSec.toNat ≤ ((s.target n).slot (b n)).secver.toNat) →
      ∃ t, Does (.secureImagePlaced d2 d3 e m ⟨secure, mgr⟩) s t ∧ t.aon.step = 7 ∧ t.aon.mode = .start
        ∧ t.memBytes 0x00011FF000 8 = [0x54, 0x4F, 0x4F, 0x42, 1, 0, 0, 0] ∧ t.memBytes 0x00011FF008 8 = leBytes 8 e.toNat
        ∧ t.memBytes 0x00011FF010 8 = leBytes 8 (if s.mgmt.stored.manager then m.toNat else 0)
        ∧ t.ks.layer 2 = fixLen 48 d2 ∧ t.ks.roots = true)
  ∧ (∀ s : State, s.aon.mode = .start → s.aon.step = 7 → s.supply.holdup = false → (s.pair 0).st ≠ .failed →
    s.aon.goodIssued = false → s.mgmt.stored.manager = true →
      ∃ t, Does .pairsReleased s t ∧ t.aon = { s.aon with step := 8 }
        ∧ (∀ p, p < 8 → (s.aon.target = .part → p = 0) → (s.pair p).st = .inReset → (s.pair p).pass = true →
            (t.pair p).st = .running ∧ (t.hart p).world = true ∧ (t.hart p).priv = 3
            ∧ Tab.get (t.hart p).x 10 0 = BitVec.ofNat 64 p)
        ∧ (∀ p, (s.pair p).st ≠ .inReset ∨ (s.pair p).pass = false → t.pair p = s.pair p)
        ∧ t.mgmt = s.mgmt ∧ t.supply = s.supply ∧ t.core.dram = s.core.dram ∧ t.core.sram = s.core.sram))

/-- START_GOOD: the command is kept until step 8 has completed, and for good where a released hart waits after a failed check of its boot
ROM; otherwise after step 8 it ends the start in the target mode with FAULT_N released,
the failed-start counter 0 and step 9, and the start timeout, where it comes first, pulses RST_REQ_N for no request and marks the next
start, with the last completed step in the ledger.

COMPLETION: where the conditions that its clauses put on the state and the operands hold, exec answers a next state with the effect stated
for START_GOOD, START_TIMEOUT. -/
def Obligations.StartGoodAndTimeout : Prop :=
  Serves .startGood specStartGood (fun _ _ p => p = []) false
    (fun _ u => u.aon.step ≠ 8 ∨ u.bootFailed = true) (fun _ u => { u with aon := { u.aon with goodIssued := true } }) (fun _ _ => {})
  ∧ (∀ (rq : Request) (s u : State), u = s.heard rq → s.takes specStartGood rq (fun p => p = []) false → u.aon.step = 8 → u.aon.target = .run →
      u.bootFailed = false → u.sleep.falsePending = false →
      ∃ t, Replies (.startGood rq) rq s t {} ∧ t.aon.mode = .run ∧ t.aon.startGood = true ∧ t.aon.step = 9 ∧ t.aon.failedStarts = 0
        ∧ t.supply.faultLow = false ∧ t.aon.trial = u.aon.trial ∧ t.core.harts = u.core.harts ∧ t.bus = u.bus)
  ∧ (∀ s : State, s.aon.mode = .start → 2 ≤ s.aon.step → s.supply.holdup = false → s.supply.pinHeld = false → s.supply.rstReq = false →
      let u := s.logAon .startTimeout [BitVec.ofNat 8 (if s.aon.step = 5 then 6 else s.aon.step)]
      Does .startTimeout s { u with
        supply := { s.supply with rstReq := true }, aon := { s.aon with nextTimeout := true, nextReq := none } })

/-- The transitions between RUN and PARTIAL end: the mode changes, the requesters are answered, the blocks that PARTIAL does not keep are
off, but one with a keep-vote placed meanwhile wakes, and in RUN the pairs P1 to P7 that pass their self-test run.

MODE_REQUEST: mode 4 is SAFE with cause 5; modes 2 and 3 are BUSY while an order to sleep is open; a request for the mode in force is OK
without effect; a request for PARTIAL waits while a vote holds a block that PARTIAL powers off, and otherwise begins to quiesce; one for RUN
from PARTIAL is PENDING while P1 to P7 are tested.

COMPLETION: where the conditions that its clauses put on the state and the operands hold, exec answers a next state with the effect stated
for MODE_PARTIAL_ENTERED, MODE_REQUEST, MODE_RUN_ENTERED. -/
def Obligations.ModeChanges : Prop :=
  ((∀ (s : State) (r : PartialReq), s.core.toPartial = some r → r.deferred = false → r.runAfter = [] → s.aon.mode = .run →
    ∃ t, Does .modePartialEntered s t ∧ t.aon = { s.aon with mode := .part } ∧ t.core.toPartial = none ∧ t.supply = s.supply
      ∧ (∀ b, b ∈ blockIds → s.mgmt.stored.keepsBlock b = false → (s.block b).st ≠ .waking → (s.block b).wakeAfter = false →
          (s.block b).voteReq = [] → s.votesOf b = 0 → (t.block b).st = .off)
      ∧ (∀ b, b ∈ blockIds → s.mgmt.stored.keepsBlock b = false → (s.block b).st = .quiescing → b ≠ 0x70 → 0 < (s.block b).votes →
          (t.block b).st = .waking)
      ∧ (∀ b, b ∈ blockIds → s.mgmt.stored.keepsBlock b = true → t.block b = s.block b)
      ∧ t.pass.reduced = true ∧ t.bus.gw.en = (s.bus.gw.en && s.mgmt.stored.keepGw))
  ∧ (∀ (s : State) (ws : List (Nat × U16)) (fails : List (Nat × Nat)), s.core.toRun = some ws → s.aon.mode = .part →
    s.supply.holdup = false →
    ∃ t, Does (.modeRunEntered fails) s t ∧ t.aon = { s.aon with mode := .run } ∧ t.core.toRun = none ∧ t.supply = s.supply
      ∧ (∀ p, 1 ≤ p → p < 8 → (t.pair p).st = (if Tab.has fails p then .failed else .running)
          ∧ (t.pair p).stf = Tab.has fails p ∧ (t.pair p).pass = !Tab.has fails p)
      ∧ (t.pair 0).st = (s.pair 0).st ∧ t.pass.reduced = false ∧ t.bus.gw.en = s.mgmt.stored.io.gwEn))
  ∧ (∀ (rq : Request) (s u : State) (m : Nat), u = s.heard rq → m = u8At rq.payload 0 →
    s.takes (specModeRequest m) rq (fun p => p.length = 2 && u8At p 1 = 0 && (u8At p 0 = 2 || u8At p 0 = 3 || u8At p 0 = 4)) false →
      (m = 4 → u.supply.porHeld = false → u.supply.pinHeld = false → u.supply.holdup = false → u.sleep.phase = 0 →
        (u.aon.mode = .run ∨ u.aon.mode = .part) →
        ∃ t, Replies (.modeRequest rq) rq s t {} ∧ t.aon.mode = .safe ∧ t.aon.safeCause = 5 ∧ t.supply.faultLow = true)
      ∧ (m ≠ 4 → u.sleep.phase ≠ 0 → Replies (.modeRequest rq) rq s u { st := .busy })
      ∧ (m = 2 → u.sleep.phase = 0 → u.core.toPartial = none → u.aon.mode = .part → Replies (.modeRequest rq) rq s u {})
      ∧ (m = 3 → u.sleep.phase = 0 → u.core.toPartial = none → u.aon.mode = .run → Replies (.modeRequest rq) rq s u {})
      ∧ (m = 2 → u.sleep.phase = 0 → u.core.toPartial = none → u.aon.mode = .run →
          u.partialOff.any (fun b => decide (0 < u.votesOf b)) = true →
          Replies (.modeRequest rq) rq s { u with core := { u.core with
            toPartial := some { deferred := true, reason := 1, waiters := [(rq.route.key, rq.seq)] } } } { st := .pending, reason := 1 })
      ∧ (m = 2 → u.sleep.phase = 0 → u.core.toPartial = none → u.aon.mode = .run →
          u.partialOff.any (fun b => decide (0 < u.votesOf b)) = false →
          ∃ t, Replies (.modeRequest rq) rq s t { st := .pending, reason := 0 }
            ∧ t.core.toPartial = some { deferred := false, waiters := [(rq.route.key, rq.seq)] }
            ∧ (∀ b, b ∈ u.partialOff → (u.block b).st = .on → (t.block b).st = .quiescing)
            ∧ (∀ b, b ∉ u.partialOff → t.block b = u.block b) ∧ t.aon = u.aon)
      ∧ (m = 3 → u.sleep.phase = 0 → u.core.toPartial = none → u.core.toRun = none → u.aon.mode = .part →
          ∃ t, Replies (.modeRequest rq) rq s t { st := .pending, reason := 0 } ∧ t.core.toRun = some [(rq.route.key, rq.seq)]
            ∧ (∀ p, 1 ≤ p → p < 8 → (t.pair p).st = .selftest) ∧ t.pair 0 = u.pair 0 ∧ t.aon = u.aon))

/-- A SAFE trigger outside SAFE and outside COMMITTED: the mode is SAFE with its cause and time recorded, FAULT_N is low, every load takes
its safe value, the pairs are held in reset but for a frozen and a failed one, every hart is as after a reset, the content of DRAM is gone
with its key, no job is left, what the pairs released before still waits for its targets, and outside RECOVERY no vote and no held request;
the fourth entry within an hour holds SAFE.

A lock-step mismatch freezes its pair with the lane and the program counter, and the module enters SAFE with cause 1 and that pair.

COMPLETION: where the conditions that its clauses put on the state and the operands hold, exec answers a next state with the effect stated
for AMIND_LOCKSTEP_MISMATCH, JUNCTION_OVERTEMP, LOCKSTEP_MISMATCH, MEMORY_UNCORRECTABLE. -/
def Obligations.SafeEntryAndLockstep : Prop :=
  (∀ (s : State) (c : Instr) (cause : Byte),
    (cause = 2 ∧ (∃ lane pc, c = .amindLockstepMismatch lane pc) ∨ cause = 3 ∧ (∃ m, c = .memoryUncorrectable m)
      ∨ cause = 4 ∧ (∃ temp, c = .junctionOvertemp temp ∧ 1600 < temp.toInt)) →
    s.supply.porHeld = false → s.supply.pinHeld = false → s.supply.holdup = false → s.sleep.phase = 0 →
    (s.aon.mode = .run ∨ s.aon.mode = .part ∨ s.aon.mode = .recovery) →
      ∃ t, Does c s t ∧ t.aon.mode = .safe ∧ t.aon.safeCause = cause ∧ t.supply.faultLow = true
        ∧ t.aon.safeTimes = s.tb.localT :: s.aon.safeTimes.filter (fun x => s.tb.localT.toNat - x.toNat < 3600000000000)
        ∧ (t.aon.safeHold = true ↔ 4 ≤ t.aon.safeTimes.length) ∧ (t.aon.safeDelay = true → cause ≠ 2 ∧ t.aon.safeHold = false)
        ∧ t.ps.safeValues = true ∧ (∀ k, t.loadCmd k = ((t.load k).cfg.safe, .safe))
        ∧ (∀ p, p < 8 → (t.pair p).st = (if (s.pair p).st = .frozen ∨ (s.pair p).st = .failed then (s.pair p).st else .inReset))
        ∧ (∀ h, t.hart h = {}) ∧ t.core.dram = [] ∧ t.core.dramEpoch = s.core.dramEpoch + 1 ∧ t.core.sram = s.core.sram
        ∧ t.core.waiting = s.core.waiting ∧ t.ce.jobs = [] ∧ t.ce.ime = false ∧ (s.aon.mode ≠ .recovery → t.core.blocks = [] ∧ t.core.toPartial = none)
        ∧ (cause = 2 → t.supply.rstReq = true))
  ∧ (∀ (s : State) (p lane : Nat) (pc : U64), p < 8 → 1 ≤ lane → lane ≤ 7 → (s.pair p).st = .running → (s.pair p).split = false →
    s.supply.porHeld = false → s.supply.pinHeld = false → s.supply.holdup = false → s.sleep.phase = 0 →
    (s.aon.mode = .run ∨ s.aon.mode = .part) →
      ∃ t, Does (.lockstepMismatch p lane pc) s t ∧ (t.pair p).st = .frozen ∧ (t.pair p).mmValid = true
        ∧ (t.pair p).mmLane = BitVec.ofNat 4 lane ∧ (t.pair p).mmPc = pc ∧ t.aon.mode = .safe ∧ t.aon.safeCause = 1
        ∧ t.aon.safePair = BitVec.ofNat 3 p ∧ t.supply.faultLow = true ∧ t.core.dram = [])

/-- Reset requests: an entry of RESET_REQUESTED with its cause and issuer stands in the partition before RST_REQ_N goes low, the
request bit of the next start is its own unless a pulse is in progress, and the retained buffer is empty of what was in it. RESET_REQUEST
asks for a restart, in SAFE for the end of SAFE; RECOVERY_RELEASE sets the trial flag as well; the end of the SAFE delay, a wedged engine and
the watchdog pulse with their own causes, the watchdog with an entry of the always-on domain.

COMPLETION: where the conditions that its clauses put on the state and the operands hold, exec answers a next state with the effect stated
for AMIND_WDOG_EXPIRY, ENGINE_WEDGED_DETECT, RECOVERY_RELEASE, RESET_REQUEST, SAFE_RESTART_DELAY_EXPIRY. -/
def Obligations.ResetRequests : Prop :=
  (∀ (s : State) (c : ReqCause) (code issuer : Nat),
    (s.amindPulse c code issuer).supply = { s.supply with rstReq := true }
    ∧ (s.amindPulse c code issuer).aon = { s.aon with
        nextReq := if s.supply.rstReq then s.aon.nextReq else some (if s.aon.mode = .safe ∧ c = .cmd then .safeEnd else c) }
    ∧ (s.amindPulse c code issuer).sleep = s.sleep ∧ (s.amindPulse c code issuer).ps = s.ps
    ∧ (s.amindPulse c code issuer).core.dram = s.core.dram)
  ∧ Serves .resetRequest specResetRequest (fun _ _ p => p = []) false (fun _ u => u.aon.mode ≠ .safe)
      (fun rq u => u.amindPulse .cmd 0 rq.route.issuer.code) (fun _ _ => {})
  ∧ Serves .resetRequest specResetRequest (fun _ _ p => p = []) false (fun _ u => u.aon.mode = .safe)
      (fun rq u => u.amindPulse .safeEnd 2 rq.route.issuer.code) (fun _ _ => {})
  ∧ Serves .recoveryRelease specRecoveryRelease (fun _ _ p => p = []) false (fun _ _ => True)
      (fun rq u => State.amindPulse { u with aon := { u.aon with trial := true } } .cmd 6 rq.route.issuer.code) (fun _ _ => {})
  ∧ (∀ s : State, s.aon.mode = .safe → s.aon.safeDelay = true →
      Does .safeRestartDelayExpiry s (State.amindPulse { s with aon := { s.aon with safeDelay := false } } .safeEnd 2 0xFF))
  ∧ (∀ (s : State) (unit : Nat) (kind : Byte), unit < 256 → kind.toNat ≤ 1 → s.aon.mode = .run →
    s.supply.holdup = false →
      Does (.engineWedgedDetect unit kind) s
        ((s.log .engineWedged [BitVec.ofNat 8 unit, kind]).amindPulse .wedged 1 0xFF))
  ∧ (∀ s : State, s.aon.wdogRunning = true → s.aon.mode ≠ .sleep → s.supply.pinHeld = false → s.supply.rstReq = false →
      Does .amindWdogExpiry s { s.logAon .amindWdog [] with
        supply := { s.supply with rstReq := true }, aon := { s.aon with nextReq := some .wdog } })

/-- The commands of the secure world: CHECKER_LOCK locks every enabled region of secure SRAM and the DRAM regions 0 to 3; SECURE_CLAIM marks a
pin that no live handle and no rule of the normal world uses, and SECURE_RELEASE ends the mark of a pin without a live secure handle; both are
BUSY otherwise.

COMPLETION: where the conditions that its clauses put on the state and the operands hold, exec answers a next state with the effect stated
for CHECKER_LOCK, SECURE_CLAIM, SECURE_RELEASE. -/
def Obligations.SecureWorldCommands : Prop :=
  (∀ (rq : Request) (s u : State), u = s.heard rq → s.takes specCheckerLock rq (fun p => p = []) false →
    ∃ t, Replies (.checkerLock rq) rq s t {} ∧ t.core.locked = true
      ∧ t = { u with core := { u.core with locked := true, sramRegions := t.core.sramRegions, dramRegions := t.core.dramRegions } }
      ∧ (∀ n, Tab.get t.core.sramRegions n {} = { Tab.get u.core.sramRegions n {} with
          lock := (Tab.get u.core.sramRegions n {}).lock || (Tab.get u.core.sramRegions n {}).en })
      ∧ (∀ n, Tab.get t.core.dramRegions n {} = { Tab.get u.core.dramRegions n {} with
          lock := (Tab.get u.core.dramRegions n {}).lock || decide (n < 4) }))
  ∧ Serves .secureClaim specSecureClaim (fun _ _ p => okPin p) false
      (fun rq u => u.pinCovered (u8At rq.payload 0) false = false ∧ u.pinRuled (u8At rq.payload 0) = false)
      (fun rq u => State.log { u with mgmt := { u.mgmt with
          securePins := u8At rq.payload 0 :: u.mgmt.securePins.filter (fun k => k ≠ u8At rq.payload 0)
          claimed := u8At rq.payload 0 :: u.mgmt.claimed.filter (fun k => k ≠ u8At rq.payload 0) } }
        .securePinChange [BitVec.ofNat 8 (u8At rq.payload 0), 1]) (fun _ _ => {})
  ∧ Serves .secureClaim specSecureClaim (fun _ _ p => okPin p) false
      (fun rq u => u.pinCovered (u8At rq.payload 0) false = true ∨ u.pinRuled (u8At rq.payload 0) = true)
      (fun _ u => u) (fun _ _ => { st := .busy })
  ∧ Serves .secureRelease specSecureRelease (fun _ _ p => okPin p) false
      (fun rq u => u.pinCovered (u8At rq.payload 0) true = false)
      (fun rq u => State.log { u with mgmt := { u.mgmt with
          securePins := u.mgmt.securePins.filter (fun k => k ≠ u8At rq.payload 0)
          claimed := u.mgmt.claimed.filter (fun k => k ≠ u8At rq.payload 0) } }
        .securePinChange [BitVec.ofNat 8 (u8At rq.payload 0), 0]) (fun _ _ => {})
  ∧ Serves .secureRelease specSecureRelease (fun _ _ p => okPin p) false
      (fun rq u => u.pinCovered (u8At rq.payload 0) true = true) (fun _ u => u) (fun _ _ => { st := .busy })

/-- Blocks: an off request to a block that is ON without votes quiesces it and waits; one with a vote is deferred with reason 1; one to a block
that is OFF is OK at once; an on request to a block that is ON is OK, and one to a block that is OFF wakes it and waits.

Keep-votes: a vote on a block that is ON counts at once, at 255 votes there is no room, a vote on a block that is OFF wakes it and waits;
a release takes one vote away, and with no explicit vote there is nothing to release. BLOCK_STATUS answers the state, the votes and whether an
off request is held.

The block power state machine: a quiescing block that is idle, or does not become so in time, goes off without votes and without an on
request, and wakes at once with one, but for block 0x70, which follows the mode; lines of its L2 that are still dirty at the timeout are
lost, and only they; a waking block that is ready is ON, and one that is not ready in time is wedged. No other block changes
its state.

COMPLETION: where the conditions that its clauses put on the state and the operands hold, exec answers a next state with the effect stated
for BLOCK_POWER, BLOCK_QUIESCE_IDLE, BLOCK_READY, BLOCK_READY_TIMEOUT, BLOCK_STATUS, KEEP_RELEASE, KEEP_VOTE, QUIESCE_TIMEOUT. -/
def Obligations.PowerBlocks : Prop :=
  ((Serves .blockPower specBlockPower (fun _ _ p => okBlockPower p) false
    (fun rq u => u8At rq.payload 1 = 0 ∧ (u.block (u8At rq.payload 0)).st = .on ∧ u.liveOn (u8At rq.payload 0) false = 0
      ∧ u.votesOf (u8At rq.payload 0) = 0)
    (fun rq u => u.updBlock (u8At rq.payload 0) (fun x => { x with
      st := .quiescing, offHeld := true, wakeAfter := false, byReq := true, offReq := x.offReq ++ [(rq.route.key, rq.seq)] }))
    (fun _ _ => { st := .pending, reason := 0 }))
  ∧ (Serves .blockPower specBlockPower (fun _ _ p => okBlockPower p) false
    (fun rq u => u8At rq.payload 1 = 0 ∧ (u.block (u8At rq.payload 0)).st = .on ∧ u.liveOn (u8At rq.payload 0) false = 0
      ∧ 0 < u.votesOf (u8At rq.payload 0))
    (fun rq u => u.updBlock (u8At rq.payload 0) (fun x => { x with
      st := .deferred, offHeld := true, byReq := true, offReq := x.offReq ++ [(rq.route.key, rq.seq)] }))
    (fun _ _ => { st := .pending, reason := 1 }))
  ∧ (Serves .blockPower specBlockPower (fun _ _ p => okBlockPower p) false
    (fun rq u => u8At rq.payload 1 = 0 ∧ (u.block (u8At rq.payload 0)).st ≠ .off ∧ 0 < u.liveOn (u8At rq.payload 0) false)
    (fun _ u => u) (fun _ _ => { st := .busy }))
  ∧ (Serves .blockPower specBlockPower (fun _ _ p => okBlockPower p) false
    (fun rq u => u8At rq.payload 1 = 0 ∧ (u.block (u8At rq.payload 0)).st = .off) (fun _ u => u) (fun _ _ => {}))
  ∧ (Serves .blockPower specBlockPower (fun _ _ p => okBlockPower p) false
    (fun rq u => u8At rq.payload 1 = 1 ∧ (u.block (u8At rq.payload 0)).st = .on)
    (fun rq u => u.updBlock (u8At rq.payload 0) (fun x => { x with byReq := false })) (fun _ _ => {}))
  ∧ (Serves .blockPower specBlockPower (fun _ _ p => okBlockPower p) false
    (fun rq u => u8At rq.payload 1 = 1 ∧ (u.block (u8At rq.payload 0)).st = .off)
    (fun rq u => u.updBlock (u8At rq.payload 0) (fun x => { x with
      st := .waking, offHeld := false, offReq := [], byReq := false, onReq := [(rq.route.key, rq.seq)] }))
    (fun _ _ => { st := .pending, reason := 0 })))
  ∧ ((Serves .keepVote specKeepVote (fun _ _ p => okBlock p) false
    (fun rq u => (u.block (u8At rq.payload 0)).votes < 255 ∧ (u.block (u8At rq.payload 0)).st = .on)
    (fun rq u => u.updBlock (u8At rq.payload 0) (fun x => { x with votes := x.votes + 1 })) (fun _ _ => {}))
  ∧ (Serves .keepVote specKeepVote (fun _ _ p => okBlock p) false
    (fun rq u => 255 ≤ (u.block (u8At rq.payload 0)).votes) (fun _ u => u) (fun _ _ => { st := .noResource }))
  ∧ (Serves .keepVote specKeepVote (fun _ _ p => okBlock p) false
    (fun rq u => (u.block (u8At rq.payload 0)).votes < 255 ∧ (u.block (u8At rq.payload 0)).st = .off ∧ u8At rq.payload 0 ≠ 0x70)
    (fun rq u => u.updBlock (u8At rq.payload 0) (fun x => { x with
      votes := x.votes + 1, st := .waking, offHeld := true, voteReq := x.voteReq ++ [(rq.route.key, rq.seq)] }))
    (fun _ _ => { st := .pending, reason := 0 }))
  ∧ (Serves .keepRelease specKeepRelease (fun _ _ p => okBlock p) false
    (fun rq u => 0 < (u.block (u8At rq.payload 0)).votes ∧ (u.block (u8At rq.payload 0)).st = .on ∧ u.core.toPartial = none)
    (fun rq u => u.updBlock (u8At rq.payload 0) (fun x => { x with votes := x.votes - 1 })) (fun _ _ => {}))
  ∧ (Serves .keepRelease specKeepRelease (fun _ _ p => okBlock p) false
    (fun rq u => (u.block (u8At rq.payload 0)).votes = 0) (fun _ u => u) (fun _ _ => { st := .badParam }))
  ∧ (Serves .blockStatus specBlockStatus (fun _ _ p => okBlock p) false (fun rq _ => u8At rq.payload 0 ≠ 0x70) (fun _ u => u)
    (fun rq u => { payload := [
      (match (u.block (u8At rq.payload 0)).st with | .on => 0 | .deferred => 1 | .quiescing => 2 | .off => 3 | .waking => 4),
      BitVec.ofNat 8 (min 255 (u.votesOf (u8At rq.payload 0))), if (u.block (u8At rq.payload 0)).offHeld then 1 else 0, 0] })))
  ∧ ((∀ (s : State) (b : Nat) (c : Instr), b ∈ blockIds → (c = .blockQuiesceIdle b ∨ ∃ l, c = .quiesceTimeout ⟨b, l⟩) →
    (s.block b).st = .quiescing →
      ∃ t, Does c s t ∧ ((t.block b).st = .off ∨ (t.block b).st = .waking)
        ∧ ((s.block b).wakeAfter = false → (s.block b).voteReq = [] → s.votesOf b = 0 →
            (t.block b).st = .off ∧ (t.block b).offReq = [] ∧ (t.block b).offHeld = false)
        ∧ (b = 0x70 → (t.block b).st = .off ∧ ∀ p, 1 ≤ p → p < 8 → (t.pair p).st = .off)
        ∧ (b ≠ 0x70 → ((s.block b).wakeAfter = true ∨ (s.block b).voteReq ≠ [] ∨ 0 < (s.block b).votes) → (t.block b).st = .waking)
        ∧ (∀ k, k ≠ b → t.block k = s.block k) ∧ t.supply = s.supply ∧ t.aon = s.aon
        ∧ (b ≠ 0x70 ∨ c = .blockQuiesceIdle b ∨ c = .quiesceTimeout ⟨b, []⟩ → t.core.dram = s.core.dram ∧ t.core.sram = s.core.sram)
        ∧ (∀ l a, c = .quiesceTimeout ⟨b, l⟩ → a / 64 ∉ l → t.dramByte a = s.dramByte a ∧ t.sramByte a = s.sramByte a))
  ∧ (∀ (s : State) (b : Nat), b ∈ blockIds → (s.block b).st = .waking → (s.block b).offHeld = false →
      ∃ t, Does (.blockReady b) s t ∧ (t.block b).st = .on ∧ (t.block b).onReq = [] ∧ (t.block b).voteReq = []
        ∧ (∀ k, k ≠ b → t.block k = s.block k) ∧ t.supply = s.supply ∧ t.aon = s.aon ∧ t.core.dram = s.core.dram)
  ∧ (∀ (s : State) (b : Nat), b ∈ blockIds → (s.block b).st = .waking →
      Does (.blockReadyTimeout b) s ((s.log .engineWedged [BitVec.ofNat 8 b, 0]).amindPulse .wedged 1 0xFF)))

/-- Health: a sample replaces the one before, with the feed currents, whose sum joins the samples of the module current; the highest of the
junction sensors sets its condition at 145 °C and clears it below 140 °C, the higher of the baseplate sensors at 85 °C and below 80 °C.
While Amind does not run, the feed currents and the baseplate are measured for the power stage alone. HEALTH_QUERY answers the sample, the
bank, the feeds, the mode and the supply flags; SAFETY_STATUS the suspended and held flags, the masks, and the cause, count and pair of
SAFE.

COMPLETION: where the conditions that its clauses put on the state and the operands hold, exec answers a next state with the effect stated
for HEALTH_QUERY, HEALTH_SAMPLE, SAFETY_STATUS. -/
def Obligations.HealthAndSafety : Prop :=
  (∀ (s : State) (h : Sensors) (a b : U16), (s.aon.mode = .run ∨ s.aon.mode = .part ∨ s.aon.mode = .safe) →
    s.supply.holdup = false →
    ∃ t, Does (.healthSample h a b) s t ∧ t.supply = { s.supply with
        feedA := s.supply.feedA.sampled a, feedB := s.supply.feedB.sampled b }
      ∧ t.supply.feedA.cur = a ∧ t.supply.feedB.cur = b ∧ t.ps = { s.ps with base := h.baseplate }
      ∧ t = { s with supply := t.supply, ps := t.ps, mgmt := { s.mgmt with health := t.mgmt.health } }
      ∧ (∀ x ∈ h.junctions, x.toInt ≤ t.mgmt.health.junction.toInt) ∧ (∀ x ∈ h.plates, x.toInt ≤ t.mgmt.health.baseplate.toInt)
      ∧ t.mgmt.health.junction = h.junction ∧ t.mgmt.health.vbus = h.vbus ∧ t.mgmt.health.vcore = h.vcore
      ∧ t.mgmt.health.amps = ((a.toNat + b.toNat) :: s.mgmt.health.amps).take 100
      ∧ (1450 ≤ h.junction.toInt → t.mgmt.health.src4 = true) ∧ (h.junction.toInt < 1400 → t.mgmt.health.src4 = false)
      ∧ (1400 ≤ h.junction.toInt → h.junction.toInt < 1450 → t.mgmt.health.src4 = s.mgmt.health.src4)
      ∧ (850 ≤ h.baseplate.toInt → t.mgmt.health.src5 = true) ∧ (h.baseplate.toInt < 800 → t.mgmt.health.src5 = false)
      ∧ (800 ≤ h.baseplate.toInt → h.baseplate.toInt < 850 → t.mgmt.health.src5 = s.mgmt.health.src5))
  ∧ (∀ (s : State) (h : Sensors) (a b : U16), s.powered = true → s.amindUp = false →
      Does (.healthSample h a b) s { s with
        supply := { s.supply with feedA := s.supply.feedA.sampled a, feedB := s.supply.feedB.sampled b }
        ps := { s.ps with base := h.baseplate } })
  ∧ Serves .healthQuery specHealthQuery (fun _ _ p => p = []) false (fun _ _ => True) (fun _ u => u)
      (fun _ u => {
        payload := leBytes 2 u.mgmt.health.junction.toNat ++ leBytes 2 u.mgmt.health.baseplate.toNat
        ++ leBytes 2 u.mgmt.health.vbus.toNat ++ leBytes 2 u.mgmt.health.vcore.toNat ++ leBytes 2 u.mgmt.health.visl.toNat
        ++ leBytes 2 u.supply.bankCap.toNat ++ leBytes 2 u.supply.feedA.cur.toNat ++ leBytes 2 u.supply.feedB.cur.toNat
        ++ leBytes 2 (u.supply.feedA.cur.toNat + u.supply.feedB.cur.toNat) ++ leBytes 2 u.mgmt.health.dissipation.toNat
        ++ leBytes 1 u.aon.mode.code
        ++ leBytes 1 ((if u.supply.crank then 1 else 0) + (if u.supply.holdupLow then 2 else 0)
          + (if u.supply.feedA.lost then 4 else 0) + (if u.supply.feedB.lost then 8 else 0)) ++ [0, 0] })
  ∧ Serves .safetyStatus specSafetyStatus (fun _ _ p => p = []) false (fun _ _ => True) (fun _ u => u)
      (fun _ u => { payload := [(if u.splitMask ≠ 0 then 1 else 0) ||| (if u.aon.safeHold then 2 else 0),
        u.shownMask u.splitMask, u.shownMask u.comparedMask, u.shownMask u.stfMask, u.aon.safeCause, BitVec.ofNat 8 u.safeCountNow,
        u.aon.safePair.setWidth 8, 0] })

/-- The ledger's partition: the always-on domain commits the oldest entry of the buffer, Amind all of them in order, and the end of a second
clears Amind's counts and records what it dropped. At 524288 entries the oldest 1024 are erased first. An entry is stored with its check,
and one whose check fails is read with severity 0xFF and no data.

Ledger readers: a reader begins at its start sequence, or at the oldest retained entry with GAP where that was erased; a read returns the
committed entries of its classes in order, at most as many as asked for, and moves the reader past the last of them, or past every committed
entry where it returns fewer (the latter is the model's, log entry 174).

COMPLETION: where the conditions that its clauses put on the state and the operands hold, exec answers a next state with the effect stated
for LEDGER_AMIND_COMMIT, LEDGER_AON_COMMIT, LEDGER_RATE_SECOND_END, LEDGER_READ, LEDGER_READER_CREATE. -/
def Obligations.LedgerAndReaders : Prop :=
  ((∀ (s : State) (e : LedgerEntry) (r : List LedgerEntry), s.mgmt.ledger.buffer = e :: r → s.supply.porHeld = false →
    s.mgmt.ledger.aonDropped = [] →
      Does .ledgerAonCommit s { s with mgmt := { s.mgmt with ledger := { s.mgmt.ledger with
        buffer := r, aonDropped := []
        stored := (if 524288 ≤ s.mgmt.ledger.stored.length then s.mgmt.ledger.stored.drop 1024 else s.mgmt.ledger.stored)
          ++ [{ e with check := crc32 e.body }] } } })
  ∧ (∀ e : LedgerEntry, crc32 e.body ≠ e.check → e.bytes.getD 31 0 = 0xFF ∧ (e.bytes.drop 36).take 24 = List.replicate 24 0)
  ∧ (∀ e : LedgerEntry, { e with check := crc32 e.body }.bytes = e.body ++ leBytes 4 (crc32 e.body).toNat)
  ∧ (∀ s : State, (s.aon.mode = .run ∨ s.aon.mode = .part ∨ s.aon.mode = .safe) → s.supply.holdup = false →
      s.mgmt.ledger.aonDropped = [] →
      s.mgmt.ledger.stored.length + s.mgmt.ledger.buffer.length ≤ 524288 →
      Does .ledgerAmindCommit s { s with mgmt := { s.mgmt with ledger := { s.mgmt.ledger with
        buffer := [], aonDropped := [], stored := s.mgmt.ledger.stored ++ s.mgmt.ledger.buffer.map (fun e => { e with check := crc32 e.body }) } } })
  ∧ (∀ s : State, (s.aon.mode = .run ∨ s.aon.mode = .part ∨ s.aon.mode = .safe) → s.supply.holdup = false →
      (s.mgmt.ledger.dropped = [] → Does .ledgerRateSecondEnd s { s with mgmt := { s.mgmt with ledger := { s.mgmt.ledger with
        rate := [], dropped := [] } } })
      ∧ (∀ code n, s.mgmt.ledger.dropped = [(code, n)] → Does .ledgerRateSecondEnd s
        (State.log { s with mgmt := { s.mgmt with ledger := { s.mgmt.ledger with rate := [], dropped := [] } } } .ledgerDropped
          (leBytes 2 code ++ leBytes 4 n.toNat)))))
  ∧ ((∀ (rq : Request) (s u : State) (n : Nat), u = s.heard rq → s.takes specLedgerReaderCreate rq (fun p => p.length = 16 && u32At p 4 = 0) false →
    rq.route = .stall 0 → u.firstFree 0x0C 16 = some n → u.roomFor 0x0C 0 0 false 1 0 = true →
      ∃ t, Replies (.ledgerReaderCreate rq) rq s t { handle := some (mkHandle 0x0C 0 (u.genOf 0x0C n) n) }
        ∧ Tab.get t.mgmt.readers n {} = {
            mask := BitVec.ofNat 32 (u32At rq.payload 0)
            next := BitVec.ofNat 64 (max (u64At rq.payload 8) u.mgmt.ledger.oldest)
            gap := decide (u64At rq.payload 8 < u.mgmt.ledger.oldest) && u64At rq.payload 8 ≠ 0, session := none }
        ∧ (t.hLive 0x0C n).isSome = true ∧ t = { u with mgmt := { u.mgmt with handles := t.mgmt.handles, readers := t.mgmt.readers } })
  ∧ (∀ (rq : Request) (s u : State) (r : Reader) (es all : List LedgerEntry), u = s.heard rq →
      s.takes specLedgerRead rq (fun p => p.length = 4 && u16At p 2 = 0 && 1 ≤ u16At p 0 && u16At p 0 ≤ (if rq.route.udpSide then 21 else 31))
        false →
      rq.route = .stall 0 → r = Tab.get u.mgmt.readers (hIndex rq.handle) {} → r.session = none →
      u.mgmt.ledger.oldest ≤ r.next.toNat →
      es = (u.mgmt.ledger.stored.filter (fun e => decide (r.next.toNat ≤ e.seq.toNat) && r.mask.getLsbD (e.event.toNat / 256))).take
        (u16At rq.payload 0) →
      all = u.mgmt.ledger.stored.filter (fun e => decide (r.next.toNat ≤ e.seq.toNat)) →
      Replies (.ledgerRead rq) rq s
        { u with mgmt := { u.mgmt with readers := Tab.put u.mgmt.readers (hIndex rq.handle) { r with
            gap := false
            next := match (if es.length < u16At rq.payload 0 then all.getLast? else es.getLast?) with
              | some e => e.seq + 1 | none => r.next } } }
        { payload := leBytes 2 es.length ++ leBytes 2 (if r.gap then 1 else 0) ++ (es.map LedgerEntry.bytes).flatten }))

/-- Updates: UPDATE_BEGIN erases the inactive slot and stages the image for its route alone; UPDATE_DATA appends at the next offset and is
BAD_PARAM elsewhere; UPDATE_COMMIT waits; its end makes the slot PENDING only for an image of the declared size that authenticates, whose
header declares issue B2 and a security version not below the minimum; a stored configuration must pass Amind's checks and mark no pin that
cannot be secure, and with it the older copy of the service record and the defaults of the loads are written; UPDATE_ABORT abandons.

The life cycle: a transition that R619 does not list is BAD_PARAM, one that its authorisation covers waits for its commit and another, also
any without a stored configuration that carries owner keys, is DENIED, and the commit sets the state, counts it, erases the images of the
harts in RETIRED, records the owner key on the way out of BLANK, discards the key of DRAM, and resets the module. DEBUG_OPEN opens the port
for its session and closes it.

COMPLETION: where the conditions that its clauses put on the state and the operands hold, exec answers a next state with the effect stated
for DEBUG_OPEN, LIFECYCLE_SET, LIFECYCLE_TRANSITION_COMMIT, UPDATE_ABORT, UPDATE_BEGIN, UPDATE_COMMIT, UPDATE_COMMIT_COMPLETE, UPDATE_DATA. -/
def Obligations.UpdatesAndLifeCycle : Prop :=
  ((∀ (rq : Request) (s u : State), u = s.heard rq → s.takes specUpdateBegin rq (fun p => p.length = 8 && u8At p 0 ≤ 3 && u8At p 1 = 0 && u16At p 2 = 0) false →
    rq.route = .stall 0 → u.aon.bootRom = false → u.mgmt.staging = none →
    ((u.target (u8At rq.payload 0)).slot (u.target (u8At rq.payload 0)).inactive).st ≠ .pending →
    u32At rq.payload 4 ≤ slotSize (u8At rq.payload 0) →
      ∃ t, Replies (.updateBegin rq) rq s t {}
        ∧ t.mgmt.staging = some { route := 0, target := u8At rq.payload 0, size := u32At rq.payload 4 }
        ∧ ((t.target (u8At rq.payload 0)).slot (u.target (u8At rq.payload 0)).inactive).st = .empty
        ∧ (t.target (u8At rq.payload 0)).slot (!(u.target (u8At rq.payload 0)).inactive)
            = (u.target (u8At rq.payload 0)).slot (!(u.target (u8At rq.payload 0)).inactive)
        ∧ t = { u with mgmt := { u.mgmt with targets := t.mgmt.targets, staging := t.mgmt.staging } })
  ∧ (∀ (rq : Request) (s u : State) (g : Staging), u = s.heard rq → s.takes (s.specUpdate 0x0821 rq) rq (fun p => 4 ≤ p.length) false → rq.route = .stall 0 →
    u.mgmt.staging = some g → g.route = 0 → g.commit = none →
      (u32At rq.payload 0 = g.got → Replies (.updateData rq) rq s { u with mgmt := { u.mgmt with
        staging := some { g with got := g.got + (rq.payload.length - 4), bytes := g.bytes ++ rq.payload.drop 4 } } } {})
      ∧ (u32At rq.payload 0 ≠ g.got → Replies (.updateData rq) rq s u { st := .badParam }))
  ∧ (∀ (rq : Request) (s u : State) (g : Staging), u = s.heard rq →
    s.takes (s.specUpdate 0x0822 rq) rq (fun p => p.length = 2 && u8At p 0 ≤ 1 && u8At p 1 = 0) false → rq.route = .stall 0 →
    u.mgmt.staging = some g → g.route = 0 → g.commit = none →
      Replies (.updateCommit rq) rq s { u with mgmt := { u.mgmt with
        staging := some { g with commit := some (u8At rq.payload 0 = 1, rq.seq) } } } { st := .pending, reason := 0 })
  ∧ (∀ (s : State) (g : Staging) (q : U16) (ec pq : List Byte) (cfg : StoredCfg) (r : SvcRecord) (ok : Bool), s.mgmt.staging = some g →
    g.commit = some (false, q) → (s.aon.mode = .run ∨ s.aon.mode = .part) → s.supply.holdup = false →
    ok = (g.got = g.size && (g.target ≠ 1 || (cfg.securePins.all pinCode && s.cfgOk cfg)) && s.authentic g ec pq && g.headerOk && g.declaresB2
      && decide ((s.target g.target).minSec.toNat ≤ u32At g.bytes 20)) →
      ∃ t, Does (.updateCommitComplete ec pq cfg r) s t ∧ t.mgmt.staging = none
        ∧ (ok = true →
            (t.target g.target).slot (s.target g.target).inactive = {
              st := .pending, authentic := true, secver := BitVec.ofNat 32 (u32At g.bytes 20), version := BitVec.ofNat 32 (u32At g.bytes 16)
              signer := (g.bytes.drop 80).take 48
              ownerEc := if g.target = 1 then ec else [], ownerPq := if g.target = 1 then pq else [] }
            ∧ (g.target ≠ 1 → t.mgmt.svcA = s.mgmt.svcA ∧ t.mgmt.svcB = s.mgmt.svcB ∧ t.ps = s.ps)
            ∧ (g.target = 1 → t.ps = { s.ps with nv := cfg.io.loads, nvAmb := cfg.io.wireAmb }
                ∧ (s.mgmt.svcNewB = true → t.mgmt.svcA = some r.taken ∧ t.mgmt.svcB = s.mgmt.svcB ∧ t.mgmt.svcNewB = false)
                ∧ (s.mgmt.svcNewB = false → t.mgmt.svcB = some r.taken ∧ t.mgmt.svcA = s.mgmt.svcA ∧ t.mgmt.svcNewB = true)))
        ∧ (ok = false → t.mgmt.targets = s.mgmt.targets ∧ t.mgmt.svcA = s.mgmt.svcA ∧ t.mgmt.svcB = s.mgmt.svcB ∧ t.ps = s.ps)
        ∧ t.mgmt.svc = s.mgmt.svc
        ∧ t.supply = s.supply ∧ t.aon = s.aon)
  ∧ (∀ (s : State) (g : Staging) (ec pq : List Byte) (h : List Byte), g.target ≠ 0 → s.aon.ownerKey = some h → (g.bytes.drop 80).take 48 ≠ h →
      s.authentic g ec pq = false)
  ∧ (∀ (rq : Request) (s u : State) (g : Staging), u = s.heard rq → s.takes (s.specUpdate 0x0823 rq) rq (fun p => p = []) false → rq.route = .stall 0 →
    u.mgmt.staging = some g → g.route = 0 → g.commit = none →
      Replies (.updateAbort rq) rq s { u with mgmt := { u.mgmt with staging := none } } {}))
  ∧ ((Serves .lifecycleSet specLifecycleSet (fun _ _ p => p.length = 100 && u8At p 1 = 0 && u16At p 2 = 0) false
    (fun rq u => (u.aon.lifecycle.toNat, u8At rq.payload 0) ∉ [(0, 1), (0, 2), (0, 4), (1, 2), (1, 4), (2, 3), (2, 4), (3, 2), (3, 4)])
    (fun _ u => u) (fun _ _ => { st := .badParam }))
  ∧ (Serves .lifecycleSet specLifecycleSet (fun _ _ p => p.length = 100 && u8At p 1 = 0 && u16At p 2 = 0) false
    (fun rq u => (u.aon.lifecycle.toNat, u8At rq.payload 0) ∈ [(0, 1), (0, 2), (0, 4), (1, 2), (1, 4), (2, 3), (2, 4), (3, 2), (3, 4)]
      ∧ u.aon.lifePending = none)
    (fun rq u => if u.lifeSigned (u8At rq.payload 0) (rq.payload.drop 4) then { u with aon := { u.aon with
      lifePending := some (BitVec.ofNat 3 (u8At rq.payload 0), rq.route.key, rq.seq) } } else u)
    (fun rq u => if u.lifeSigned (u8At rq.payload 0) (rq.payload.drop 4) then { st := .pending, reason := 0 } else { st := .denied }))
  ∧ (∀ (s : State) (b : Nat) (auth : List Byte), s.ownerSlot = none → s.lifeSigned b auth = false)
  ∧ (∀ (s : State) (b : BitVec 3) (key : Nat) (q : U16), s.aon.lifePending = some (b, key, q) →
    (s.aon.mode = .run ∨ s.aon.mode = .part ∨ s.aon.mode = .recovery) → s.supply.holdup = false →
      ∃ t, Does .lifecycleTransitionCommit s t ∧ t.aon.lifecycle = b ∧ t.aon.lifeCount = s.aon.lifeCount + 1
        ∧ t.aon.ownerKey = (if s.aon.lifecycle = 0 then s.ownerSlot.map Slot.signer else s.aon.ownerKey) ∧ t.aon.lifePending = none
        ∧ t.ce.ime = false ∧ t.core.dram = [] ∧ (∀ h, (t.hart h).scount = false) ∧ t.supply = { s.supply with rstReq := true }
        ∧ (b = 4 → ∀ n, n = 2 ∨ n = 3 → (t.target n).slotA = {} ∧ (t.target n).slotB = {})
        ∧ (b ≠ 4 → t.mgmt.targets = s.mgmt.targets))
  ∧ (∀ (rq : Request) (s u : State), u = s.heard rq → s.takes s.specDebugOpen rq (fun p => p.length = 1 && u8At p 0 ≤ 1) false → u8At rq.payload 0 = 1 →
      u.core.dbg.opened = none →
      Replies (.debugOpen rq) rq s (State.log { u with core := { u.core with
        dbg := { u.core.dbg with opened := some rq.route.key } } } .debugOpened [1]) {})
  ∧ (∀ (rq : Request) (s u : State), u = s.heard rq → s.takes s.specDebugOpen rq (fun p => p.length = 1 && u8At p 0 ≤ 1) false → u8At rq.payload 0 = 0 →
      Replies (.debugOpen rq) rq s u.debugClose {} ∧ u.debugClose.core.dbg.opened = none
      ∧ ∀ p, (u.core.dbg.opened ≠ none → (u.debugClose.pair p).haltReq = false ∧ (u.debugClose.pair p).st ≠ .halted)))

/-- The time base and its comparators: a 32-bit read of a low word returns it and latches the high word for the reading initiator; a
comparator whose value is reached while it is armed fires, and a periodic one moves past the counter and counts what it skipped; a write of
TC_CTRL arms, selects and clears, but arms no periodic comparator with a period below 8, and a firing that is due goes before it; a new
timer handle has its comparator at its reset values.

COMPLETION: where the conditions that its clauses put on the state and the operands hold, exec answers a next state with the effect stated
for COMPARATOR_FIRE, TB_LOW_WORD_READ, TC_CTRL_WRITE, TIMER_CREATE. -/
def Obligations.TimeBaseAndComparators : Prop :=
  (∀ (s : State) (x : Xact), s.fabricUp = true → s.sends x.attr → x.size = 4 → s.portFree .read x →
    (x.addr.toNat = 0x16000000 → s.verdict x.attr 0x16000000 4 true false = .ok →
      Does (.tbLowWordRead x) s { s with
        tb := { s.tb with shadowL := Tab.put s.tb.shadowL x.attr.init.toNat (hi32 s.tb.localT) }
        core := { s.core with resp := { code := .ok, data := leBytes 4 (lo32 s.tb.localT).toNat } } })
    ∧ (x.addr.toNat = 0x16000008 → s.verdict x.attr 0x16000008 4 true false = .ok →
      Does (.tbLowWordRead x) s { s with
        tb := { s.tb with shadowG := Tab.put s.tb.shadowG x.attr.init.toNat (hi32 s.tb.globalT) }
        core := { s.core with resp := { code := .ok, data := leBytes 4 (lo32 s.tb.globalT).toNat } } }))
  ∧ (∀ (s : State) (n : Nat), n < 64 → (s.timer n).arm = true → s.timerOff n = false →
    (s.timer n).cmp.toNat ≤ (if (s.timer n).base then s.tb.globalT else s.tb.localT).toNat →
      ∃ t, Does (.comparatorFire n) s t ∧ (t.timer n).fired = true ∧ (t.timer n).base = (s.timer n).base
        ∧ (t.timer n).period = (s.timer n).period ∧ (t.timer n).periodic = (s.timer n).periodic
        ∧ ((s.timer n).periodic = false → (t.timer n).arm = false ∧ (t.timer n).cmp = (s.timer n).cmp
            ∧ (t.timer n).missed = (s.timer n).missed)
        ∧ ((s.timer n).periodic = true → (t.timer n).arm = true ∧ ∃ k,
            (t.timer n).cmp = (s.timer n).cmp + BitVec.ofNat 64 ((k + 1) * (s.timer n).period.toNat)
            ∧ (t.timer n).missed = satAdd (s.timer n).missed k
            ∧ (8 ≤ (s.timer n).period.toNat →
                (if (s.timer n).base then s.tb.globalT else s.tb.localT).toNat < (s.timer n).cmp.toNat + (k + 1) * (s.timer n).period.toNat
                ∧ (s.timer n).cmp.toNat + k * (s.timer n).period.toNat ≤ (if (s.timer n).base then s.tb.globalT else s.tb.localT).toNat))
        ∧ (∀ m, m ≠ n → t.timer m = s.timer m)
        ∧ t = { s with timers := t.timers, core := { s.core with imsics := t.core.imsics, pairs := t.core.pairs } })
  ∧ (∀ (s : State) (x : Xact) (n : Nat), n < 64 → x.addr.toNat = 0x16100008 + n * 0x1000 → x.data.length = 4 → s.fabricUp = true →
    s.sends x.attr → s.portFree .write x → s.verdict x.attr (0x16100008 + n * 0x1000) 4 false true = .ok → s.timerOff n = false → s.timerReset n = false →
      (s.due n = true → ∃ t, Does (.tcCtrlWrite x) s t ∧ (t.timer n).missed = (if (leNat x.data).testBit 2 then 0 else ((s.fireDue n).timer n).missed)
        ∧ (t.timer n).fired = !(leNat x.data).testBit 2 ∧ (t.timer n).cmp = ((s.fireDue n).timer n).cmp
        ∧ (t.timer n).arm = ((leNat x.data).testBit 0 && !((leNat x.data).testBit 3 && decide ((s.timer n).period.toNat < 8)))
        ∧ t.core.imsics = (s.fireDue n).core.imsics ∧ ∀ m, m ≠ n → t.timer m = s.timer m)
      ∧ (s.due n = false → ∃ t, Does (.tcCtrlWrite x) s t
        ∧ (t.timer n).base = (leNat x.data).testBit 1 ∧ (t.timer n).periodic = (leNat x.data).testBit 3
        ∧ (t.timer n).arm = ((leNat x.data).testBit 0 && !((leNat x.data).testBit 3 && decide ((s.timer n).period.toNat < 8)))
        ∧ (t.timer n).fired = ((s.timer n).fired && !(leNat x.data).testBit 2)
        ∧ (t.timer n).missed = (if (leNat x.data).testBit 2 then 0 else (s.timer n).missed)
        ∧ (t.timer n).cmp = (s.timer n).cmp ∧ (t.timer n).period = (s.timer n).period ∧ (∀ m, m ≠ n → t.timer m = s.timer m)
        ∧ t = { s with timers := t.timers, core := { s.core with resp := { code := .ok, data := [] } } }))
  ∧ (∀ (rq : Request) (s u : State) (n : Nat), u = s.heard rq →
    s.takes specTimerCreate rq (fun p => p.length = 4 && s.bindOk (bindAt p 0) (s.issuerInst rq.route) rq.isSec 0) false →
    rq.route = .stall 0 → u.fnOffFor 0 false 0x0D 0 = false → u.firstFree 0x0B 64 = some n → u.roomFor 0x0B 0 0 false 1 0 = true →
      ∃ t, Replies (.timerCreate rq) rq s t
          { handle := some (mkHandle 0x0B 0 (u.genOf 0x0B n) n), payload := leBytes 8 (0x16100000 + n * 0x1000) }
        ∧ t.timer n = {} ∧ (∀ m, m ≠ n → t.timer m = u.timer m) ∧ (t.hLive 0x0B n).isSome = true
        ∧ t = { u with timers := t.timers, mgmt := { u.mgmt with handles := t.mgmt.handles } })

/-- TOLL where it is permitted, in normal-world S-mode with V = 0: with every check passed it sets TOLLEPC to the next instruction and ACTIVE,
enters secure S-mode and continues at the target plus 4, and of the hart changes nothing else but the counters of a retirement; with the
first check that fails it raises a toll fault, cause 24 with the target as tval, which HS-mode takes without entering the secure world when
medeleg bit 24 is set. The marker is read by a secure fetch at the target, whose error response the fabric counts like any other.

COMPLETION: where the conditions that its clauses put on the state and the operands hold, exec answers a next state with the effect stated
for TOLL. -/
def Obligations.TollPerformed : Prop :=
  ∀ (s : State) (h r : Nat) (w : U32) (a : U64), h < 8 → w.extractLsb' 0 7 = 0x0B → decodeCustom0 w = .toll r → a = (s.hart h).xReg r →
    (s.pair h).st = .running → (s.hart h).bootWait = false → (s.hart h).virt = false → (s.hart h).world = false → (s.hart h).priv = 1 →
      let q := s.markerFetch h a.toNat
      let f : State := if (s.hart h).tollAdmits a then q.1 else s
      ((s.hart h).tollAdmits a = ((s.hart h).tollen && decide (a &&& 0xF = 0) && decide ((s.hart h).tollBase.toNat * 16 ≤ a.toNat)
          && decide (a.toNat ≤ (s.hart h).tollLimit.toNat * 16)))
      ∧ q.1 = { s with core := { s.core with fabErr := q.1.core.fabErr } }
      ∧ ((target a.toNat < 0x03 ∨ target a.toNat = 0x10) → s.verdict (secureAttr h) a.toNat 4 true false = .ok →
          q = (s, some (leNat (s.memBytes a.toNat 4))))
      ∧ ((s.hart h).tollAdmits a = true → q.2 = some 0x5A17C0DE →
          ∃ t, Does (.toll h w) s t ∧ (t.hart h).tollEpc = (s.hart h).pc + 4 ∧ (t.hart h).tollActive = true ∧ (t.hart h).world = true
            ∧ (t.hart h).priv = 1 ∧ (t.hart h).virt = false ∧ (t.hart h).pc = a + 4
            ∧ t.hart h = { s.hart h with tollEpc := (s.hart h).pc + 4, tollActive := true, world := true, priv := 1, virt := false
                                         pc := a + 4, csr := (t.hart h).csr }
            ∧ (∀ c, c ≠ 0xB00 → c ≠ 0xB02 → (t.hart h).csrAt c = (s.hart h).csrAt c) ∧ (∀ k, k ≠ h → t.hart k = s.hart k)
            ∧ t = { s with core := { s.core with harts := t.core.harts, fabErr := t.core.fabErr, fresh := t.core.fresh } })
      ∧ ((s.hart h).tollAdmits a = false ∨ q.2 ≠ some 0x5A17C0DE →
          Does (.toll h w) s (f.trap h 24 a (s.hart h).pc)
          ∧ (((s.hart h).csrAt 0x302).getLsbD 24 = false → ((f.trap h 24 a (s.hart h).pc).hart h).world = true
              ∧ ((f.trap h 24 a (s.hart h).pc).hart h).priv = 3 ∧ ((f.trap h 24 a (s.hart h).pc).hart h).mpw = false
              ∧ ((f.trap h 24 a (s.hart h).pc).hart h).csrAt 0x342 = 24 ∧ ((f.trap h 24 a (s.hart h).pc).hart h).csrAt 0x343 = a)
          ∧ (((s.hart h).csrAt 0x302).getLsbD 24 = true → ((f.trap h 24 a (s.hart h).pc).hart h).world = false
              ∧ ((f.trap h 24 a (s.hart h).pc).hart h).priv = 1
              ∧ ((f.trap h 24 a (s.hart h).pc).hart h).bank false 0x142 = 24
              ∧ ((f.trap h 24 a (s.hart h).pc).hart h).bank false 0x143 = a))

/-- TOLLRET in secure S-mode with an open call returns to normal-world S-mode at TOLLEPC and closes the call; outside their permitted states
TOLL and TOLLRET raise a virtual-instruction exception with V = 1 and an illegal-instruction exception otherwise, and nothing else; so does
every other word of the custom-0 opcode, always as an illegal instruction.

Returns: mret takes the world from MWORLD.MPW and the privilege from MPP, and closes an open call on the way to the normal world; with
MPW = 0 and MPP = M it raises an illegal-instruction exception. sret stays in its world.

COMPLETION: where the conditions that its clauses put on the state and the operands hold, exec answers a next state with the effect stated
for MRET, SRET, TOLL, TOLLRET. -/
def Obligations.RefusalsAndReturns : Prop :=
  (∀ (s : State) (h r : Nat) (w : U32), h < 8 → w.extractLsb' 0 7 = 0x0B → (s.pair h).st = .running → (s.hart h).bootWait = false →
    ((s.hart h).virt = false → (s.hart h).world = true → (s.hart h).priv = 1 → (s.hart h).tollActive = true → (s.pair h).haltReq = false →
      ∃ t, Does (.tollret h) s t ∧ t.hart h = { s.hart h with world := false, priv := 1, virt := false, tollActive := false
                                                              pc := (s.hart h).tollEpc, csr := (t.hart h).csr }
        ∧ (∀ c, c ≠ 0xB00 → c ≠ 0xB02 → (t.hart h).csrAt c = (s.hart h).csrAt c) ∧ (∀ k, k ≠ h → t.hart k = s.hart k)
        ∧ t = { s with core := { s.core with harts := t.core.harts, fresh := s.core.fresh + 1 } })
    ∧ ((s.hart h).virt = true → (decodeCustom0 w = .toll r → Does (.toll h w) s (s.illegal h 22)) ∧ Does (.tollret h) s (s.illegal h 22))
    ∧ ((s.hart h).virt = false → ((s.hart h).world = true ∨ (s.hart h).priv ≠ 1) → decodeCustom0 w = .toll r →
        Does (.toll h w) s (s.illegal h 2))
    ∧ ((s.hart h).virt = false → ((s.hart h).world = false ∨ (s.hart h).priv ≠ 1 ∨ (s.hart h).tollActive = false) →
        Does (.tollret h) s (s.illegal h 2))
    ∧ (decodeCustom0 w = .tollret → exec (.toll h w) s = exec (.tollret h) s)
    ∧ (decodeCustom0 w = .illegal → Does (.toll h w) s (s.illegal h 2)))
  ∧ (∀ (s : State) (h : Nat), h < 8 → (s.pair h).st = .running → (s.hart h).bootWait = false →
    ((s.hart h).priv = 3 → ((s.hart h).mpw = true ∨ (s.hart h).mpp ≠ 3) → (s.pair h).haltReq = false →
      ∃ t, Does (.mret h) s t ∧ t = { s with core := { s.core with harts := t.core.harts, fresh := s.core.fresh + 1 } }
        ∧ (∀ k, k ≠ h → t.hart k = s.hart k) ∧ (t.hart h).world = (s.hart h).mpw
        ∧ (t.hart h).priv = (s.hart h).mpp ∧ (t.hart h).mie = (s.hart h).mpie ∧ (t.hart h).mpie = true ∧ (t.hart h).mpp = 0
        ∧ (t.hart h).pc = (s.hart h).csrAt 0x341 &&& ~~~1 ∧ (t.hart h).tollActive = ((s.hart h).tollActive && (s.hart h).mpw)
        ∧ (t.hart h).x = (s.hart h).x ∧ (t.hart h).tollEpc = (s.hart h).tollEpc)
    ∧ ((s.hart h).priv = 3 → (s.hart h).mpw = false → (s.hart h).mpp = 3 → Does (.mret h) s (s.illegal h 2))
    ∧ ((s.hart h).priv ≠ 3 → Does (.mret h) s (s.illegal h 2))
    ∧ ((s.hart h).priv = 1 → (s.hart h).virt = false → ((s.hart h).csrAt 0x300).getLsbD 22 = false →
      ∃ t, Does (.sret h) s t ∧ t = { s with core := { s.core with harts := t.core.harts, fresh := s.core.fresh + 1 } }
        ∧ (∀ k, k ≠ h → t.hart k = s.hart k) ∧ (t.hart h).world = (s.hart h).world
        ∧ (t.hart h).priv = (if ((s.hart h).bank (s.hart h).world 0x100).getLsbD 8 then 1 else 0)
        ∧ (t.hart h).pc = (s.hart h).bank (s.hart h).world 0x141 &&& ~~~1 ∧ (t.hart h).tollActive = (s.hart h).tollActive)
    ∧ ((s.hart h).priv = 0 → (s.hart h).virt = false → Does (.sret h) s (s.illegal h 2)))

/-- An exception that medeleg does not give away, and every exception in M-mode, enters M-mode in the secure world: the world, the privilege,
V and MIE are saved, mepc, mcause and mtval are written, and the hart continues at mtvec; no field of an open call changes, and no other hart.
One that medeleg gives away in the normal world with V = 0 enters HS-mode of that world.

COMPLETION: where the conditions that its clauses put on the state and the operands hold, exec answers a next state with the effect stated
for TRAP_ENTRY. -/
def Obligations.TrapsEnter : Prop :=
  ∀ (s : State) (h : Nat) (cause tval pc : U64), h < 8 → (s.pair h).st = .running → (s.hart h).bootWait = false → cause.toNat < 64 →
    ∃ t, Does (.trapEntry h cause tval pc) s t
      ∧ (((s.hart h).priv = 3 ∨ ((s.hart h).csrAt 0x302).getLsbD cause.toNat = false) →
          (t.hart h).world = true ∧ (t.hart h).priv = 3 ∧ (t.hart h).virt = false ∧ (t.hart h).mpw = (s.hart h).world
          ∧ (t.hart h).mpp = (s.hart h).priv ∧ (t.hart h).mpv = (s.hart h).virt ∧ (t.hart h).mpie = (s.hart h).mie
          ∧ (t.hart h).mie = false ∧ (t.hart h).csrAt 0x341 = pc ∧ (t.hart h).csrAt 0x342 = cause ∧ (t.hart h).csrAt 0x343 = tval
          ∧ (t.hart h).pc = (s.hart h).csrAt 0x305 &&& ~~~3)
      ∧ ((s.hart h).priv ≠ 3 → ((s.hart h).csrAt 0x302).getLsbD cause.toNat = true → (s.hart h).virt = false → (s.hart h).world = false →
          (t.hart h).world = false ∧ (t.hart h).priv = 1 ∧ (t.hart h).virt = false ∧ (t.hart h).bank false 0x141 = pc
          ∧ (t.hart h).bank false 0x142 = cause ∧ (t.hart h).bank false 0x143 = tval
          ∧ (t.hart h).pc = (s.hart h).bank false 0x105 &&& ~~~3 ∧ (t.hart h).mpw = (s.hart h).mpw)
      ∧ (t.hart h).tollActive = (s.hart h).tollActive ∧ (t.hart h).tollEpc = (s.hart h).tollEpc ∧ (t.hart h).x = (s.hart h).x
      ∧ (∀ k, k ≠ h → t.hart k = s.hart k) ∧ t = { s with core := { s.core with harts := t.core.harts, fresh := s.core.fresh + 1 } }

/-- Interrupts of a hart: MTIP is pending once time reaches MTIMECMPX; a machine timer interrupt pre-empts the normal world whatever its
sstatus says, unless a machine external interrupt, which goes before it, can be taken; it enters M-mode in the secure world, and no
normal-world interrupt is taken in the secure world.

Fences, MWORLD and the caches: FENCE waits for no answer and FENCE.I orders the own stream; a write of MWORLD in M-mode sets MPW and TOLLEN,
and SCOUNT in DEVELOP alone, and outside M-mode it is an illegal instruction; a retirement counts in instret and cycle and changes nothing
else of its hart, and in the secure world without SCOUNT it counts nothing; a parity error, a corrected and an uncorrectable L2 error are
counted, the last one poisoning its line, and a hart that consumes a line poisoned in either L2 takes an access fault with the virtual
address as tval.

COMPLETION: where the conditions that its clauses put on the state and the operands hold, exec answers a next state with the effect stated
for FENCE, FENCE_I, HART_TIMER_MATCH, INTERRUPT_TAKE, L1_PARITY_ERROR, L2_CORRECTABLE_ERROR, L2_UNCORRECTABLE_ERROR, MWORLD_WRITE,
POISONED_LINE_CONSUMED. -/
def Obligations.InterruptsFencesAndCaches : Prop :=
  ((∀ (s : State) (h : Nat), h < 8 → (s.hart h).mtimecmp.toNat ≤ s.tb.localT.toNat →
    Does (.hartTimerMatch h 0) s (s.updHart h (fun k => { k with mtip := true })))
  ∧ (∀ (s : State) (h : Nat), h < 8 → (s.pair h).st = .running → (s.hart h).bootWait = false → (s.hart h).mtip = true →
    ((s.hart h).csrAt 0x304).getLsbD 7 = true → (s.hart h).world = false → (s.hart h).priv ≠ 3 → s.takeSecure h 11 = none →
      ∃ t, Does (.interruptTake h 7) s t ∧ t = s.updHart h (fun _ => t.hart h) ∧ (t.hart h).world = true ∧ (t.hart h).priv = 3
        ∧ (t.hart h).mpw = false ∧ (t.hart h).csrAt 0x341 = (s.hart h).pc ∧ (t.hart h).csrAt 0x342 = 0x8000000000000007)
  ∧ (∀ (s : State) (h cause : Nat), h < 8 → (s.hart h).world = true → cause ∈ [2, 6, 9, 10, 12, 13] →
      exec (.interruptTake h cause) s = .next s))
  ∧ ((∀ (s : State) (h : Nat), h < 8 → (s.pair h).st = .running → (s.hart h).bootWait = false →
    ((s.hart h).outstanding = 0 → Does (.fence h) s (s.retired h (fun k => { k with pc := k.pc + 4 })))
    ∧ ((s.hart h).outstanding ≠ 0 → exec (.fence h) s = .next s)
    ∧ Does (.fenceI h) s (s.retired h (fun k => { k with pc := k.pc + 4, fencei := k.fencei + 1 }))
    ∧ (∀ v : U64, (s.hart h).priv = 3 → Does (.mworldWrite h v) s ((s.updHart h (fun k => { k with
        mpw := v.getLsbD 0, tollen := v.getLsbD 1, scount := v.getLsbD 2 && s.aon.lifecycle = 1 })).retired h (fun k =>
          { k with pc := k.pc + 4 })))
    ∧ (∀ v : U64, (s.hart h).priv ≠ 3 → Does (.mworldWrite h v) s (s.illegal h 2)))
  ∧ (∀ (s : State) (h : Nat) (f : Hart → Hart), ∃ b, 1 ≤ b ∧ (s.retired h f).hart h = f ((s.hart h).retire b)
      ∧ (∀ k, k ≠ h → (s.retired h f).hart k = s.hart k)
      ∧ s.retired h f = { s with core := { s.core with harts := (s.retired h f).core.harts, fresh := s.core.fresh + 1 } })
  ∧ (∀ (k : Hart) (b : Nat), k.retire b = { k with csr := (k.retire b).csr }
      ∧ (∀ c, c ≠ 0xB00 → c ≠ 0xB02 → (k.retire b).csrAt c = k.csrAt c)
      ∧ (k.world = true → k.scount = false → k.retire b = k)
      ∧ ((k.world = false ∨ k.scount = true) → (k.csrAt 0x320).getLsbD 2 = false → (k.retire b).csrAt 0xB02 = k.csrAt 0xB02 + 1))
  ∧ (∀ (s : State) (h : Nat), h < 8 → Does (.l1ParityError h) s (s.updPair h (fun p => { p with l1 := satInc p.l1 })))
  ∧ (∀ (s : State) (k : Nat), k < 2 → Does (.l2CorrectableError k) s (s.updCluster k (fun c => { c with corr := satInc c.corr })))
  ∧ (∀ (s : State) (k : Nat) (a : A40), k < 2 → (s.cluster k).poison.contains (a.toNat / 64) = false →
      Does (.l2UncorrectableError k a) s (((s.raiseAgain 193).updCluster k (fun c => { c with
        uncorr := satInc c.uncorr, poison := c.poison ++ [a.toNat / 64] })).log .l2Uncorrectable
          ([BitVec.ofNat 8 k, 0, 0, 0] ++ leBytes 8 (a.toNat / 64 * 64))))
  ∧ (∀ (s : State) (h : Nat) (fetch : Bool) (u : PoisonUse) (pc : U64), h < 8 → (s.pair h).st = .running →
      (s.hart h).bootWait = false → (∃ k, (s.cluster k).poison.contains (u.line.toNat / 64) = true) →
      Does (.poisonedLineConsumed h fetch u pc) s (s.trap h (if fetch then 1 else 5) u.virt pc)))

/-- Debug: the first entry of a pair to debug mode suspends its comparison, latches the time, raises source 192 and is recorded, a later one
only halts; each entry that dcsr or a trigger does not enable or match changes nothing; a resume leaves it uncompared; an Access Register
command on a halted hart in DEVELOP reads and writes the integer registers, with x0 always 0, and none starts while cmderr holds an error.

Accesses from outside the harts: the debug module's system bus reads memory in DEVELOP with the secure attribute, keeps the data and, with
sbautoincrement set, moves sbaddress on by the size; and a read or a write that the partner brings reaches DRAM through a range that the
bridge permits, and is denied and counted outside every range.

COMPLETION: where the conditions that its clauses put on the state and the operands hold, exec answers a next state with the effect stated
for DEBUG_ACCESS_REGISTER, DEBUG_MODE_ENTRY, DEBUG_RESUME, DEBUG_SYSTEM_BUS_ACCESS, PASS_INBOUND_TRANSACTION. -/
def Obligations.DebugAndPartner : Prop :=
  ((∀ (s : State) (p : Nat) (why : HaltCause), p < 8 → s.aon.lifecycle = 1 → (s.pair p).st = .running →
    let entered (u : State) : State := u.updHart p (fun h => { h with
      dcause := match why with | .ebreak => 1 | .trigger _ _ => 2 | .request => 3 | .step => 4 })
    ((s.hart p).dcsrBit why = true → (s.pair p).split = false → Does (.debugModeEntry ⟨p, why⟩) s ((entered ((s.raiseAgain 192).updPair p (fun q =>
      { q with st := .halted, split := true, haltReq := false, splitTime := s.tb.localT }))).log .lockstepSuspended [BitVec.ofNat 8 p]))
    ∧ ((s.hart p).dcsrBit why = true → (s.pair p).split = true →
        Does (.debugModeEntry ⟨p, why⟩) s (entered (s.updPair p (fun q => { q with st := .halted, split := true, haltReq := false }))))
    ∧ ((s.hart p).dcsrBit why = false → Does (.debugModeEntry ⟨p, why⟩) s s)
    ∧ (why = .request → (s.hart p).dcsrBit why = true))
  ∧ (∀ (s : State) (p : Nat), p < 8 → s.aon.lifecycle = 1 → (s.pair p).st = .halted →
      Does (.debugResume p) s (s.updPair p (fun q => { q with st := .running, resumeAck := true })))
  ∧ (∀ (s : State) (h r : Nat), h < 8 → 1 ≤ r → r < 32 → s.aon.lifecycle = 1 → (s.pair h).st = .halted → s.core.dbg.cmderr = 0 →
      Does (.debugAccessRegister h (BitVec.ofNat 32 (0x00331000 + r))) s (s.updHart h (fun k => { k with x := Tab.put k.x r s.core.dbg.data }))
      ∧ Does (.debugAccessRegister h (BitVec.ofNat 32 (0x00321000 + r))) s { s with core := { s.core with
          dbg := { s.core.dbg with data := Tab.get (s.hart h).x r 0 } } })
  ∧ (∀ (s : State) (h : Nat), h < 8 → s.aon.lifecycle = 1 → (s.pair h).st = .halted → s.core.dbg.cmderr = 0 →
      Does (.debugAccessRegister h 0x00321000) s { s with core := { s.core with dbg := { s.core.dbg with data := 0 } } })
  ∧ (∀ (s : State) (h : Nat) (c : U32), h < 8 → s.core.dbg.cmderr ≠ 0 → exec (.debugAccessRegister h c) s = .next s))
  ∧ ((∀ (s : State) (a : U64) (size : Nat) (d : U64), s.aon.lifecycle = 1 → size ∈ [1, 2, 4, 8] → a.toNat % size = 0 →
    sramBase ≤ a.toNat → a.toNat < sramEnd → s.core.dbg.sbError = 0 → s.core.dbg.sbBusyErr = false → s.core.dbg.sbBusy = false →
    s.passesAtOnce .read { attr := { init := 0x18, sec := true, qos := 3 }, addr := a.setWidth 40, size := size } size →
    s.verdict { init := 0x18, sec := true, qos := 3 } a.toNat size true false = .ok →
      Does (.debugSystemBusAccess false a size d) s { s with core := { s.core with
        resp := { code := .ok, data := s.memBytes a.toNat size }
        dbg := { s.core.dbg with
          sbAddr := if s.core.dbg.sbcs.getLsbD 16 then a + BitVec.ofNat 64 size else a, sbSize := size, sbBusy := false, sbError := 0, sbData := BitVec.ofNat 64 (leNat (s.memBytes a.toNat size)) } } })
  ∧ (∀ (s : State) (x : Xact) (win : Nat) (origin : Byte), win < 32 → s.linkFull = true → s.fabricUp = true → x.attr.inst ≠ 63 →
    x.fits x.size = true →
      let y : Xact := { x with attr := { x.attr with init := 0x60, virt := decide (x.attr.inst ≠ 0) } }
      (dramBase ≤ x.addr.toNat → x.addr.toNat < dramEnd → s.pass.ranges.any (fun r => r.2.1 ≤ x.addr.toNat / 4096 && x.addr.toNat / 4096 ≤ r.2.2) = true →
        s.passesAtOnce .read y x.size → s.verdict y.attr x.addr.toNat x.size true false = .ok →
        Does (.passInboundTransaction .read x win origin) s { s with core := { s.core with
          resp := { code := .ok, data := s.memBytes x.addr.toNat x.size } } })
      ∧ (x.addr.toNat < 0x1000000000 →
          s.pass.ranges.any (fun r => r.2.1 ≤ x.addr.toNat / 4096 && x.addr.toNat / 4096 ≤ r.2.2) = false →
          Does (.passInboundTransaction .read x win origin) s { s with
            pass := { s.pass with cnt := { s.pass.cnt with denied := satInc s.pass.cnt.denied } }
            core := { s.core with resp := { code := .aerr, data := [] } } })))

/-- The identification registers and misa of every hart. -/
def Obligations.IdentificationRegisters : Prop :=
  ∀ (s : State) (n : Nat) (w : Bool), s.csrRead n w 0xF11 = 0 ∧ s.csrRead n w 0xF12 = 0x8000000000000C40
    ∧ s.csrRead n w 0xF13 = 0x00000000000000B2 ∧ s.csrRead n w 0xF14 = BitVec.ofNat 64 n ∧ s.csrRead n w 0x301 = 0x80000000001411AF
    ∧ ∀ v : U64, s.csrWrite n w 0x301 v = s.updHart n (fun h => h)

/-- Reads and writes of application DRAM by the fabric: an admitted one that passes its port and its arbitration point at once is answered
OK, a read with the bytes of memory, a write after its bytes, and only they, have changed, but for bytes of a line that stays poisoned; a
write breaks the reservations on the lines it touches. One that the checks refuse has no effect but its capture, and a misaligned access
of a hart that no hardware completes raises the address-misaligned exception.

Atomic operations at DRAM: an AMO answers the old value and leaves what its operation gives, and leaves its own hart's reservation; each of
them that is answered OK retires on a hart that runs, which goes on at the next instruction (DEDUCED, log entry 145); a
load-reserved holds its line for its hart; a store-conditional of a hart that holds the line writes and answers 0, and one that does not
writes nothing and answers 1.

COMPLETION: where the conditions that its clauses put on the state and the operands hold, exec answers a next state with the effect stated
for FABRIC_AMO, FABRIC_READ, FABRIC_WRITE, LOAD_RESERVED, STORE_CONDITIONAL. -/
def Obligations.FabricMemory : Prop :=
  ((∀ (s : State) (x : Xact), s.sends x.attr → s.passesAtOnce .read x x.size → x.misaligned x.size = false →
    dramBase ≤ x.addr.toNat → x.addr.toNat < dramEnd → s.verdict x.attr x.addr.toNat x.size true false = .ok →
      Does (.fabricRead x) s { s with core := { s.core with
        resp := { code := .ok, data := s.memBytes x.addr.toNat x.size } } })
  ∧ (∀ (s : State) (x : Xact), s.sends x.attr → s.passesAtOnce .write x x.data.length → x.misaligned x.data.length = false →
    dramBase ≤ x.addr.toNat → x.addr.toNat < dramEnd → s.winPosted x = false →
    s.verdict x.attr x.addr.toNat x.data.length false true = .ok →
      ∃ t, Does (.fabricWrite x) s t ∧ t.core.resp = { code := .ok, data := [] }
        ∧ (∀ b, t.dramByte b =
            if x.addr.toNat ≤ b ∧ b < x.addr.toNat + x.data.length ∧ (s.unpoison x.addr.toNat x.data.length).poisonKeeps b = false
            then x.data.getD (b - x.addr.toNat) 0 else s.dramByte b)
        ∧ t.core.sram = s.core.sram
        ∧ (∀ h l, (s.hart h).resv = some l → (t.hart h).resv =
            if x.addr.toNat / 64 ≤ l ∧ l ≤ (x.addr.toNat + x.data.length - 1) / 64 then none else some l)
        ∧ t = { s with ce := { s.ce with rmw := t.ce.rmw }, core := { s.core with
            dram := t.core.dram, harts := t.core.harts, clusters := t.core.clusters, resp := t.core.resp } })
  ∧ (∀ (s : State) (x : Xact) (r : Resp), s.sends x.attr → s.passesAtOnce .read x x.size → x.misaligned x.size = false →
    s.verdict x.attr x.addr.toNat x.size true false = r → r ≠ .ok →
      Does (.fabricRead x) s ((s.capture x.attr x.addr.toNat false r).answered r []))
  ∧ (∀ (s : State) (x : Xact), s.sends x.attr → x.misaligned x.size = true → s.hartRuns x.attr.init.toNat = true →
      ∃ v, Does (.fabricRead x) s (s.trap x.attr.init.toNat 4 v (s.hart x.attr.init.toNat).pc))
  ∧ (∀ (s : State) (t : Attr) (a : Nat) (w : Bool) (r : Resp),
      (r ≠ .derr → r ≠ .aerr → s.capture t a w r = s)
      ∧ ((r = .derr ∨ r = .aerr) → (s.capture t a w r).core.fabErr.count = satInc s.core.fabErr.count
          ∧ (s.capture t a w r).core.fabErr.valid = true
          ∧ (s.core.fabErr.valid = true → (s.capture t a w r).core.fabErr = { s.core.fabErr with count := satInc s.core.fabErr.count })
          ∧ (s.core.fabErr.valid = false → (s.capture t a w r).core.fabErr.init = t.init
              ∧ (s.capture t a w r).core.fabErr.addr = BitVec.ofNat 40 a ∧ (s.capture t a w r).core.fabErr.write = w))))
  ∧ ((∀ (w : Nat) (o v : BitVec w), AmoOp.swap.apply o v = v ∧ AmoOp.add.apply o v = o + v ∧ AmoOp.and_.apply o v = o &&& v
    ∧ AmoOp.or_.apply o v = o ||| v ∧ AmoOp.xor_.apply o v = o ^^^ v
    ∧ (AmoOp.min_.apply o v).toInt = min o.toInt v.toInt ∧ (AmoOp.max_.apply o v).toInt = max o.toInt v.toInt
    ∧ (AmoOp.minu.apply o v).toNat = min o.toNat v.toNat ∧ (AmoOp.maxu.apply o v).toNat = max o.toNat v.toNat)
  ∧ (∀ (s : State) (x : Xact) (op : AmoOp), s.sends x.attr → s.passesAtOnce .amo x 4 → x.size = 4 → x.data.length = 4 →
    x.addr.toNat % 4 = 0 → dramBase ≤ x.addr.toNat → x.addr.toNat < dramEnd → s.poisonKeeps x.addr.toNat = false →
    s.verdict x.attr x.addr.toNat 4 true true = .ok →
      ∃ t, Does (.fabricAmo op x) s t ∧ t.core.resp = { code := .ok, data := s.memBytes x.addr.toNat 4 }
        ∧ t.memBytes x.addr.toNat 4 = leBytes 4 (op.apply (BitVec.ofNat 32 (leNat (s.memBytes x.addr.toNat 4)))
            (BitVec.ofNat 32 (leNat x.data))).toNat
        ∧ (∀ b, b < x.addr.toNat ∨ x.addr.toNat + 4 ≤ b → t.dramByte b = s.dramByte b) ∧ t.core.sram = s.core.sram
        ∧ (∀ h, h < 8 → x.attr.init = BitVec.ofNat 8 h → (s.hartRuns h = false → t.hart h = s.hart h)
            ∧ (s.hartRuns h = true → ∃ b, 1 ≤ b
                ∧ t.hart h = { ((s.hart h).retire b).event 0x02 with pc := (s.hart h).pc + 4 })))
  ∧ (∀ (s : State) (x y : Xact) (h : Nat), h < 8 → y = { x with attr := { x.attr with init := BitVec.ofNat 8 h } } → s.sends y.attr →
    s.passesAtOnce .lr y 4 → x.size = 4 → x.addr.toNat % 4 = 0 → dramBase ≤ x.addr.toNat → x.addr.toNat < dramEnd →
    s.verdict y.attr x.addr.toNat 4 true false = .ok →
      ∃ t, Does (.loadReserved h x) s t ∧ (t.hart h).resv = some (x.addr.toNat / 64)
        ∧ (t.hart h).pc = (if s.hartRuns h then (s.hart h).pc + 4 else (s.hart h).pc)
        ∧ t.core.resp = { code := .ok, data := s.memBytes x.addr.toNat 4 } ∧ (∀ k, k ≠ h → t.hart k = s.hart k)
        ∧ t = { s with core := { s.core with harts := t.core.harts, resp := t.core.resp, fresh := t.core.fresh } })
  ∧ (∀ (s : State) (x y : Xact) (h : Nat), h < 8 → y = { x with attr := { x.attr with init := BitVec.ofNat 8 h } } → s.sends y.attr →
    s.passesAtOnce .sc y 4 → x.data.length = 4 → x.addr.toNat % 4 = 0 → dramBase ≤ x.addr.toNat → x.addr.toNat < dramEnd →
    s.verdict y.attr x.addr.toNat 4 true true = .ok →
      ((s.hart h).resv = some (x.addr.toNat / 64) → s.poisonKeeps x.addr.toNat = false →
        ∃ t, Does (.storeConditional h x) s t ∧ t.core.resp = { code := .ok, data := [0] } ∧ (t.hart h).resv = none
          ∧ (t.hart h).pc = (if s.hartRuns h then (s.hart h).pc + 4 else (s.hart h).pc)
          ∧ (∀ b, t.dramByte b = if x.addr.toNat ≤ b ∧ b < x.addr.toNat + 4 then x.data.getD (b - x.addr.toNat) 0 else s.dramByte b))
      ∧ ((s.hart h).resv ≠ some (x.addr.toNat / 64) →
          ∃ t, Does (.storeConditional h x) s t ∧ t.core.resp = { code := .ok, data := [1] } ∧ (t.hart h).resv = (s.hart h).resv
            ∧ (t.hart h).pc = (if s.hartRuns h then (s.hart h).pc + 4 else (s.hart h).pc) ∧ (∀ k, k ≠ h → t.hart k = s.hart k)
            ∧ t = { s with core := { s.core with harts := t.core.harts, resp := t.core.resp, fresh := t.core.fresh } })))

/-- Regulators: a metered transaction that its ceiling admits is counted and keeps its class while the guarantee covers it, and drops to class 0
otherwise; one that the ceiling does not admit is withheld; a refill takes a waiting change, discards what a smaller depth cannot hold, adds the
rates, and counts an interval that withheld something.

COMPLETION: where the conditions that its clauses put on the state and the operands hold, exec answers a next state with the effect stated
for REGULATOR_REFILL. -/
def Obligations.Regulators : Prop :=
  (∀ (s : State) (t : Attr) (a n : Nat), s.metered t a = true →
    let r := s.reg t.inst.toNat
    let c := max 16 ((n + 15) / 16 * 16)
    ((r.ceil = 0xFFFF ∨ c ≤ r.ceilBucket) →
      (s.meter t a n).2 = some (if c ≤ r.guarBucket then t.qos else 0)
      ∧ ((s.meter t a n).1.reg t.inst.toNat).bytes = r.bytes + BitVec.ofNat 64 c
      ∧ ((s.meter t a n).1.reg t.inst.toNat).guarBucket = (if c ≤ r.guarBucket then r.guarBucket - c else r.guarBucket)
      ∧ ((s.meter t a n).1.reg t.inst.toNat).ceilBucket = r.ceilBucket - c)
    ∧ (r.ceil ≠ 0xFFFF → r.ceilBucket < c → s.meter t a n = (s.updReg t.inst.toNat (fun q => { q with heldNow := true }), none))
    ∧ (∀ k, k ≠ t.inst.toNat → (s.meter t a n).1.reg k = s.reg k))
  ∧ (∀ (s : State) (t : Attr) (a n : Nat), (t.sec = true ∨ t.inst = 63 ∨ inDram a = false) → s.meter t a n = (s, some t.qos))
  ∧ (∀ s : State, s.fabricUp = true → s.core.waiting = [] →
    ∃ t, Does .regulatorRefill s t ∧ t = { s with core := { s.core with regs := t.core.regs } } ∧ ∀ n,
      ((s.reg n).next = none → (t.reg n).en = (s.reg n).en ∧ (t.reg n).burst = (s.reg n).burst ∧ (t.reg n).guar = (s.reg n).guar ∧ (t.reg n).ceil = (s.reg n).ceil)
      ∧ (∀ e c g l b, (s.reg n).next = some (e, c, g, l, b) →
          (t.reg n).en = e ∧ (t.reg n).cls = c ∧ (t.reg n).guar = g ∧ (t.reg n).ceil = l ∧ (t.reg n).burst = b ∧ (t.reg n).next = none)
      ∧ (t.reg n).guarBucket = min ((t.reg n).burst.toNat * 256) ((s.reg n).guarBucket + (t.reg n).guar.toNat * 16)
      ∧ (t.reg n).ceilBucket = min ((t.reg n).burst.toNat * 256) ((s.reg n).ceilBucket + (t.reg n).ceil.toNat * 16)
      ∧ (t.reg n).held = (if (s.reg n).heldNow then satInc (s.reg n).held else (s.reg n).held) ∧ (t.reg n).bytes = (s.reg n).bytes)

/-- Arbitration: of the transactions that stand at an arbitration point with none of their initiator to their block before them the highest
class goes first, and within it the oldest; a transaction that has waited 2048 beats rises by one class, to at most class 2.

COMPLETION: where the conditions that its clauses put on the state and the operands hold, exec answers a next state with the effect stated
for ARBITRATION_AGING. -/
def Obligations.ArbitrationOrder : Prop :=
  (∀ (l : List Waiting) (i : Nat) (w : Waiting), nextWaiting l = some (i, w) → l[i]? = some w ∧ w.withheld = false
    ∧ (∀ (j : Nat) (v : Waiting), j < i → l[j]? = some v → v.x.ordered w.x = false)
    ∧ (∀ (j : Nat) (v : Waiting), l[j]? = some v → v.withheld = false → (∀ (k : Nat) (u : Waiting), k < j → l[k]? = some u → u.x.ordered v.x = false) →
        v.cls.toNat ≤ w.cls.toNat ∧ (v.cls = w.cls → i ≤ j)))
  ∧ (∀ l : List Waiting, nextWaiting l = none → ∀ (j : Nat) (v : Waiting), l[j]? = some v → v.withheld = false →
      ∃ (k : Nat) (u : Waiting), k < j ∧ l[k]? = some u ∧ u.x.ordered v.x = true)
  ∧ (∀ (s : State) (i : Nat) (w : Waiting), s.core.waiting[i]? = some w → w.withheld = false →
      (w.cls.toNat < 2 → Does (.arbitrationAging i) s { s with core := { s.core with
        waiting := s.core.waiting.set i { w with cls := w.cls + 1 } } })
      ∧ (2 ≤ w.cls.toNat → exec (.arbitrationAging i) s = .next s))

/-- Register accesses: a write to a register region takes its words one after the other and is answered; a word of TC_CMP sets its half of
the comparator, and a write of 64 bits takes effect whole, behind the one firing that is due; a write of a CSR by M-mode and one of the
debug module's cmderr take effect; a posted MSI sets its identity pending in its interrupt file; and a doorbell of an instance page is
refused for a handle that does not exist, with the count and the status in the page, or moves the submission tail of the writer's own ring.

COMPLETION: where the conditions that its clauses put on the state and the operands hold, exec answers a next state with the effect stated
for FABRIC_WRITE, INST_DB_WRITE, POSTED_WRITE, REGISTER_WRITE. -/
def Obligations.RegisterAccesses : Prop :=
  (∀ (s : State) (x : Xact), s.sends x.attr → s.passesAtOnce .write x x.data.length → x.misaligned x.data.length = false →
    s.winPosted x = false → target x.addr.toNat ∈ [0x03, 0x05, 0x06, 0x07, 0x08, 0x09, 0x0A, 0x0B, 0x0C, 0x0D, 0x0E] →
    s.verdict x.attr x.addr.toNat x.data.length false true = .ok → (s.regsWrite x.attr x.addr.toNat x.data).2 = .ok →
      Does (.registerWrite (.fabric x)) s ((s.regsWrite x.attr x.addr.toNat x.data).1.answered .ok [])
      ∧ Does (.fabricWrite x) s ((s.regsWrite x.attr x.addr.toNat x.data).1.answered .ok []))
  ∧ (∀ (s : State) (x : Xact) (n : Nat), n < 64 → s.sends x.attr → s.passesAtOnce .write x 4 → x.data.length = 4 →
    x.addr.toNat = 0x16100000 + n * 0x1000 → s.due n = false → s.verdict x.attr (0x16100000 + n * 0x1000) 4 false true = .ok →
      ∃ t, Does (.registerWrite (.fabric x)) s t ∧ lo32 (t.timer n).cmp = BitVec.ofNat 32 (leNat x.data) ∧ hi32 (t.timer n).cmp = hi32 (s.timer n).cmp
        ∧ (t.timer n).arm = (s.timer n).arm ∧ (∀ m, m ≠ n → t.timer m = s.timer m)
        ∧ t = { s with timers := t.timers, core := { s.core with resp := { code := .ok, data := [] } } })
  ∧ (∀ (s : State) (x : Xact) (n : Nat), n < 64 → s.sends x.attr → s.passesAtOnce .write x 8 → x.data.length = 8 →
    x.addr.toNat = 0x16100000 + n * 0x1000 → s.verdict x.attr (0x16100000 + n * 0x1000) 8 false true = .ok →
      ∃ t, Does (.registerWrite (.fabric x)) s t ∧ (t.timer n).cmp = BitVec.ofNat 64 (leNat x.data)
        ∧ (t.timer n).arm = ((s.fireDue n).timer n).arm ∧ (t.timer n).fired = ((s.fireDue n).timer n).fired
        ∧ (t.timer n).missed = ((s.fireDue n).timer n).missed ∧ t.core.imsics = (s.fireDue n).core.imsics
        ∧ (∀ m, m ≠ n → t.timer m = s.timer m))
  ∧ (∀ (s : State) (h : Nat) (v : U64), h < 8 → (s.pair h).st = .running → (s.hart h).bootWait = false → (s.hart h).priv = 3 →
      Does (.registerWrite (.csr h 0x305 v)) s ((s.updHart h (fun k => k.setCsr 0x305 (v &&& ~~~2))).retired h (fun k =>
        { k with pc := k.pc + 4 })))
  ∧ (∀ (s : State) (v : U32), s.aon.lifecycle = 1 →
      Does (.registerWrite (.dmi 0x16 v)) s { s with core := { s.core with dbg := { s.core.dbg with
        cmderr := s.core.dbg.cmderr &&& ~~~(v.extractLsb' 8 3) } } })
  ∧ (∀ (s : State) (x : Xact) (h ident : Nat), h < 8 → 1 ≤ ident → ident ≤ 255 → s.sends x.attr → x.data = leBytes 4 ident →
    x.addr.toNat = 0x02100000 + h * 0x1000 → s.passesAtOnce .posted x 4 →
    s.verdict x.attr (0x02100000 + h * 0x1000) 4 false true = .ok → s.hartUp h = true →
      ∃ t, Does (.postedWrite x) s t ∧ (t.imsic h 0).eip = (s.imsic h 0).eip ||| bitOf 512 ident
        ∧ (t.imsic h 0).eie = (s.imsic h 0).eie ∧ (∀ k f, f < 17 → (k, f) ≠ (h, 0) → t.imsic k f = s.imsic k f)
        ∧ t = { s with core := { s.core with imsics := t.core.imsics } })
  ∧ (∀ (s : State) (x : Xact) (n : Nat) (v : U64), n < 63 → s.fabricUp = true → s.sends x.attr → x.data = leBytes 8 v.toNat →
    x.addr.toNat = 0x18000000 + n * 0x10000 → s.portFree .write x → s.verdict x.attr (0x18000000 + n * 0x10000) 8 false true = .ok →
      (s.hFind (hType (v.setWidth 32)) (hIndex (v.setWidth 32)) = none →
        Does (.instDbWrite x) s ((s.updInst n (fun i => { i with dbRefused := satInc i.dbRefused, dbLast := 0x0010 })).answered .ok []))
      ∧ (∀ e k, v.setWidth 32 = mkHandle 0x06 n e.gen k → k < 64 → e.gen < 64 → s.hFind 0x06 k = some e → e.retiring = false → e.owner = n →
          e.sec = x.attr.sec → v.getLsbD 48 = false → s.fnOffFor n e.sec 0x05 0 = false → s.inReset n = false →
          Does (.instDbWrite x) s ((s.ringTail k ((v >>> 32).setWidth 16)).answered .ok [])))

/-- Stall pages: a write of request bytes to a stall that holds no request changes those bytes of its request area alone, and one to a stall
that holds a request receives TERR; the doorbell of an IDLE stall, and of an ANSWERED one without notices, makes it QUEUED with the request
that its area holds; the release of an ANSWERED or NOTIFIED stall makes it IDLE without notices and NOTIFIED with the oldest one otherwise,
and that of a BLOCKED one makes it QUEUED. No other stall changes, and nothing of the machine but Amind's records and interrupts.

The relay: a REMOTE request that the local Amind need not answer itself goes to the partner and its stall serves; one that the command
reference does not permit to the partner is DENIED and one without a partner FAR_ERROR; the partner's response returns to its stall with
REMOTE set, and without one in time the stall is answered FAR_ERROR. A request of the partner enters stall 3 when that is IDLE and waits
otherwise.

COMPLETION: where the conditions that its clauses put on the state and the operands hold, exec answers a next state with the effect stated
for PARTNER_REQUEST_ARRIVE, REMOTE_REQUEST_RELAY, REMOTE_RESPONSE_RETURN, REMOTE_TIMEOUT, STALL_DOORBELL, STALL_RELEASE,
STALL_REQUEST_AREA_WRITE. -/
def Obligations.StallPagesAndRelay : Prop :=
  ((∀ (s : State) (n o : Nat) (x : Xact), n < 64 → x.addr.toNat = 0x10000000 + n * 0x1000 + o → o + x.data.length ≤ 0x800 → o < 0x800 →
    s.fabricUp = true → s.sends x.attr → x.fits x.data.length = true → x.misaligned x.data.length = false → s.portFree .write x →
    s.verdict x.attr (0x10000000 + n * 0x1000 + o) x.data.length false true = .ok →
      ((s.stall n).st = .idle ∨ (s.stall n).st = .answered ∨ (s.stall n).st = .notified → (o + x.data.length ≤ 0x00E ∨ 0x010 ≤ o) →
        ∃ t, Does (.stallRequestAreaWrite n x) s t
          ∧ (∀ k, Tab.get (t.stall n).area k 0 = if o ≤ k ∧ k < o + x.data.length then x.data.getD (k - o) 0 else Tab.get (s.stall n).area k 0)
          ∧ t.stall n = { s.stall n with area := (t.stall n).area } ∧ (∀ m, m ≠ n → t.stall m = s.stall m)
          ∧ t = { s with
              mgmt := { s.mgmt with amind := { s.mgmt.amind with stalls := t.mgmt.amind.stalls } }
              core := { s.core with resp := { code := .ok, data := [] } } })
      ∧ ((s.stall n).st = .queued ∨ (s.stall n).st = .serving ∨ (s.stall n).st = .blocked →
          Does (.stallRequestAreaWrite n x) s { s with core := { s.core with resp := { code := .terr, data := [] } } }))
  ∧ (∀ (s : State) (n : Nat) (a : Attr), n < 64 → s.fabricUp = true → s.sends a →
    s.portFree .write (writeX a (0x10000000 + n * 0x1000 + 0x00E) 2 0) → s.verdict a (0x10000000 + n * 0x1000 + 0x00E) 2 false true = .ok →
      (s.stall n).st = .idle ∨ (s.stall n).st = .answered ∧ (s.stall n).notices = [] →
        ∃ t, Does (.stallDoorbell n a) s t ∧ t.stall n = { s.stall n with st := .queued, captured := some ((s.stall n).request n) }
          ∧ (∀ m, m ≠ n → t.stall m = s.stall m)
          ∧ t = { s with
              mgmt := { s.mgmt with amind := { s.mgmt.amind with stalls := t.mgmt.amind.stalls } }
              core := { s.core with resp := { code := .ok, data := [] } } })
  ∧ (∀ (s : State) (n : Nat) (a : Attr), n < 64 → s.fabricUp = true → s.sends a →
    s.portFree .write (writeX a (0x10000000 + n * 0x1000 + 0x80E) 2 0) → s.verdict a (0x10000000 + n * 0x1000 + 0x80E) 2 false true = .ok →
      ((s.stall n).st = .answered ∨ (s.stall n).st = .notified →
        ((s.stall n).notices = [] → ∃ t, Does (.stallRelease n a) s t ∧ t.stall n = { s.stall n with st := .idle })
        ∧ (∀ r l, (s.stall n).notices = r :: l → (s.stall n).lost = false → ∃ t, Does (.stallRelease n a) s t
            ∧ t.stall n = { s.stall n with st := .notified, notices := l, rsp := { r with flags := r.flags ||| 0x0002 } }))
      ∧ ((s.stall n).st = .blocked → ∃ t, Does (.stallRelease n a) s t ∧ t.stall n = { s.stall n with st := .queued }
          ∧ (∀ m, m ≠ n → t.stall m = s.stall m))))
  ∧ ((∀ (rq : Request) (s u : State) (n : Nat), u = s.heard rq → n < 2 → rq.route = .stall n → s.waits rq = true → s.amindUp = true →
    rq.flags &&& 0x0001 ≠ 0 → s.answersBusy rq.route = false → rq.headerOk = true → rq.unknown = false →
      (rq.opcode.toNat ∈ [0x0120, 0x0121, 0x0630, 0x0704, 0x0801, 0x0802, 0x0903] → s.aon.mode ≠ .recovery → s.farGone = false →
        Does (.remoteRequestRelay rq) s { u with mgmt := { u.mgmt with amind := { u.mgmt.amind with
          remotes := u.mgmt.amind.remotes ++ [{ stall := n, req := rq }]
          stalls := Tab.upd u.mgmt.amind.stalls n {} (fun t => { t with st := .serving }) } } })
      ∧ (rq.opcode.toNat ∉ [0x0120, 0x0121, 0x0630, 0x0704, 0x0801, 0x0802, 0x0903] →
          Does (.remoteRequestRelay rq) s (u.respond (.stall n) (answerOf rq { st := .denied })))
      ∧ (rq.opcode.toNat ∈ [0x0120, 0x0121, 0x0630, 0x0704, 0x0801, 0x0802, 0x0903] → s.aon.mode ≠ .recovery → s.farGone = true →
          Does (.remoteRequestRelay rq) s (u.respond (.stall n) (answerOf rq { st := .farError }))))
  ∧ (∀ (s : State) (n : Nat) (r : Remote) (p : Response), n < 2 → s.mgmt.amind.remotes.find? (fun r => r.stall = n) = some r →
      (s.amindUp = true → s.linkFull = true → p.flags &&& 0x0002 = 0 → r.req.opcode = p.opcode → r.req.seq = p.seq →
        Does (.remoteResponseReturn n p) s (State.respond { s with mgmt := { s.mgmt with amind := { s.mgmt.amind with
          remotes := s.mgmt.amind.remotes.filter (fun r => r.stall ≠ n) } } } (.stall n) { p with flags := p.flags ||| 0x0001 }))
      ∧ Does (.remoteTimeout n) s (State.respond { s with mgmt := { s.mgmt with amind := { s.mgmt.amind with
          remotes := s.mgmt.amind.remotes.filter (fun r => r.stall ≠ n) } } } r.req.route (answerOf r.req { st := .farError })))
  ∧ (∀ (s : State) (rq : Request) (o : Nat), o < 2 → rq.route = .ptr o → s.amindUp = true → s.linkFull = true → s.mgmt.amind.ptrWait = [] →
      ((s.stall 3).st = .idle → Does (.partnerRequestArrive rq) s { s with mgmt := { s.mgmt with amind := { s.mgmt.amind with
        ptrWait := []
        stalls := Tab.upd s.mgmt.amind.stalls 3 {} (fun t => { t with
          st := .queued, captured := some rq, area := rq.area }) } } })
      ∧ ((s.stall 3).st ≠ .idle → Does (.partnerRequestArrive rq) s { s with mgmt := { s.mgmt with amind := { s.mgmt.amind with
          ptrWait := [rq] } } })))

/-- Service sessions: a set-up opens in the lower free slot, and with both in use there is no room; a good SESSION_AUTH opens the session
with the roles of its credential and is recorded; a denied set-up is counted, and the fifth within ten minutes begins the lockout, in which
every set-up is DENIED; SESSION_CLOSE, ten idle minutes and the end of the set-up time close the slot, and its keys, which the key store
alone holds, go. A request for the service's own address is answered, and for another not. A datagram of a session with another magic,
session ID or tag, or with a counter not above the highest seen, is dropped and counted; a good one moves the counter and the address that
notices go to.

COMPLETION: where the conditions that its clauses put on the state and the operands hold, exec answers a next state with the effect stated
for ADDRESS_RESOLUTION_REQUEST, SESSION_AUTH, SESSION_CLOSE, SESSION_IDLE_TIMEOUT, SESSION_OPEN, SESSION_SETUP_TIMEOUT, SVC_LOCKOUT_END,
UDP_DATAGRAM_DROP. -/
def Obligations.Sessions : Prop :=
  (∀ (rq : Request) (s u : State) (k : Nat) (a : Peer), u = s.heard rq → s.takes specSessionOpen rq (fun p => p.length = 98) false → rq.route = .udp a →
    u.mgmt.amind.lockout = false → (k = 0 ∧ u.mgmt.amind.sessions.has 0 = false
      ∨ k = 1 ∧ u.mgmt.amind.sessions.has 0 = true ∧ u.mgmt.amind.sessions.has 1 = false) →
      ∃ t p e, Replies (.sessionOpen rq) rq s t { payload := p } ∧ p.length = 229 ∧ e.id = BitVec.ofNat 32 (u32At p 0) ∧ e.addr = a
        ∧ e.peer = a ∧ e.port = rq.env.port ∧ e.cred = rq.payload.getD 97 0 ∧ e.setup = true ∧ e.rx = 0 ∧ e.tx = 0
        ∧ e.transcript = rq.bytes ++ (answerOf rq { payload := p }).bytes
        ∧ t.ks.sessKeys.has k = true ∧ (Tab.get t.ks.sessKeys k {}).t2m.length = 32 ∧ (Tab.get t.ks.sessKeys k {}).m2t.length = 32
        ∧ (∀ m, m ≠ k → Tab.get t.ks.sessKeys m {} = Tab.get u.ks.sessKeys m {})
        ∧ t = { u with
            ks := { u.ks with sessKeys := t.ks.sessKeys, signed := u.ks.signed + 1 }
            mgmt := { u.mgmt with amind := { u.mgmt.amind with
              nextFresh := u.mgmt.amind.nextFresh + 1, sessions := Tab.put u.mgmt.amind.sessions k e } } })
  ∧ (∀ (rq : Request) (s u : State) (a : Peer), u = s.heard rq → s.takes specSessionOpen rq (fun p => p.length = 98) false → rq.route = .udp a →
      (u.mgmt.amind.lockout = true → Replies (.sessionOpen rq) rq s u { st := .denied })
      ∧ (u.mgmt.amind.lockout = false → u.mgmt.amind.sessions.has 0 = true → u.mgmt.amind.sessions.has 1 = true →
          Replies (.sessionOpen rq) rq s u { st := .noResource }))
  ∧ (∀ (rq : Request) (s u : State) (k : Nat) (e : Session) (a : Peer), u = s.heard rq → s.takes specSessionAuth rq (fun p => p.length = 100) false →
      rq.route = .udp a → u.mgmt.amind.sessions.find? (fun e => e.2.setup && e.2.id.toNat = u32At rq.payload 0 && e.2.addr = a) = some (k, e) →
      let refused : State := { u with
        ks := { u.ks with sessKeys := Tab.drop u.ks.sessKeys k }
        mgmt := { u.mgmt with amind := { u.mgmt.amind with
          sessions := Tab.drop u.mgmt.amind.sessions k, denied := [u.tb.localT] } } }
      let cred := Tab.get u.mgmt.svc.creds e.cred.toNat {}
      let roles := cred.roles
      (u.mgmt.svc.creds.has e.cred.toNat = true →
        if Config.ecdsaOk cred.key (sha384 (e.transcript ++ rq.bytes.take 20)) (rq.payload.drop 4) then
          ∃ t, Replies (.sessionAuth rq) rq s t { payload := [roles, 0, 0, 0] }
          ∧ Tab.get t.mgmt.amind.sessions k {} = { e with setup := false, roles := roles, rx := 0, tx := 1 }
          ∧ t.ks.sessKeys = u.ks.sessKeys ∧ (t.route (64 + k)).lastSeq = 0 ∧ t.mgmt.amind.denied = u.mgmt.amind.denied ∧ t.mgmt.amind.stalls = u.mgmt.amind.stalls
          ∧ t.supply = u.supply ∧ t.aon = u.aon
        else u.mgmt.amind.lockout = false →
          u.mgmt.amind.denied.all (fun x => decide (600000000000 ≤ u.tb.localT.toNat - x.toNat)) = true →
          Replies (.sessionAuth rq) rq s refused { st := .denied })
      ∧ (u.mgmt.svc.creds.has e.cred.toNat = false → u.mgmt.amind.lockout = false →
          u.mgmt.amind.denied.all (fun x => decide (600000000000 ≤ u.tb.localT.toNat - x.toNat)) = true →
          Replies (.sessionAuth rq) rq s refused { st := .denied }))
  ∧ (∀ (s : State) (c : Byte), s.mgmt.amind.lockout = false →
      s.mgmt.amind.denied.length = 4 → s.mgmt.amind.denied.all (fun x => decide (s.tb.localT.toNat - x.toNat < 600000000000)) = true →
        s.countDenied c = State.log { s with mgmt := { s.mgmt with amind := { s.mgmt.amind with denied := [], lockout := true } } }
          .svcAuthLockout [c])
  ∧ (∀ (rq : Request) (s u : State) (k : Nat), u = s.heard rq → s.takes specSessionClose rq (fun p => p = []) false → rq.route = .svc k →
      ∃ t, Does (.sessionClose rq) s t ∧ t.mgmt.amind.sessions.has k = false ∧ t.mgmt.amind.routes.has (64 + k) = false ∧ t.ks.sessKeys.has k = false
        ∧ (∀ m, m ≠ k → Tab.get t.mgmt.amind.sessions m {} = Tab.get u.mgmt.amind.sessions m {}) ∧ t.supply = u.supply ∧ t.aon = u.aon)
  ∧ (∀ (s : State) (k : Nat), k < 2 → s.mgmt.amind.sessions.has k = true →
      ((Tab.get s.mgmt.amind.sessions k {}).setup = true → Does (.sessionSetupTimeout k) s { s with
        ks := { s.ks with sessKeys := Tab.drop s.ks.sessKeys k }
        mgmt := { s.mgmt with amind := { s.mgmt.amind with sessions := Tab.drop s.mgmt.amind.sessions k } } })
      ∧ ((Tab.get s.mgmt.amind.sessions k {}).setup = false → ∃ t, Does (.sessionIdleTimeout k) s t
          ∧ t.mgmt.amind.sessions = Tab.drop s.mgmt.amind.sessions k ∧ t.ks.sessKeys = Tab.drop s.ks.sessKeys k ∧ t.mgmt.amind.stalls = s.mgmt.amind.stalls))
  ∧ (∀ s : State, Does .svcLockoutEnd s { s with mgmt := { s.mgmt with amind := { s.mgmt.amind with lockout := false } } })
  ∧ (∀ s : State, s.amindUp = true → s.mgmt.svc.udp.isSome = true →
      Does .udpDatagramDrop s { s with mgmt := { s.mgmt with amind := { s.mgmt.amind with udpDrops := satInc s.mgmt.amind.udpDrops } } }
      ∧ Does (.addressResolutionRequest 21 s.mgmt.svc.addr) s { s with mgmt := { s.mgmt with amind := { s.mgmt.amind with
          arpAnswers := s.mgmt.amind.arpAnswers + 1, arpLast := some (21, svcMac) } } }
      ∧ ∀ q, q ≠ s.mgmt.svc.addr → exec (.addressResolutionRequest 21 q) s = .next s)
  ∧ (∀ (rq : Request) (s : State) (k : Nat), rq.route = .svc k → s.listens rq.env.port = true → s.genuine rq = false →
      (∀ c, c = Instr.sessionClose rq ∨ c = Instr.healthQuery rq → exec c s
        = .next { s with mgmt := { s.mgmt with amind := { s.mgmt.amind with udpDrops := satInc s.mgmt.amind.udpDrops } } }))
  ∧ (∀ (rq : Request) (s : State) (k : Nat), rq.route = .svc k → (s.genuine rq = true ↔
      rq.env.magic = 0x5149 ∧ rq.env.version = 1 ∧ rq.env.dir = 0 ∧ k < 2 ∧ s.mgmt.amind.sessions.has k = true
        ∧ (s.session k).setup = false ∧ rq.env.sid = (s.session k).id ∧ (s.session k).rx.toNat < rq.env.counter.toNat
        ∧ rq.env.tag = rq.env.tagOf (Tab.get s.ks.sessKeys k {}).t2m rq.bytes))
  ∧ (∀ (rq : Request) (s : State) (k : Nat), rq.route = .svc k →
      (s.heard rq).session k = { s.session k with rx := rq.env.counter, peer := rq.env.peer, port := rq.env.port })

/-- Handles: HANDLE_QUERY answers the state, the world and the binding, also of a handle in RETIRING; HANDLE_BIND_IRQ sets a binding that
suits the handle; a root key handle is DENIED to HANDLE_DESTROY; a comparator's handle is FREE at once, its generation moved on, where its
comparator holds nothing, and otherwise retires with PENDING, its comparator unarmed; a retiring handle whose engine has no work left is
FREE, and one that stays is a wedged engine.

Outcomes and results: PENDING_QUERY answers 0 for no record, 1 with the reason for an open one and 2 with the final status for a closed one;
RESULT_READ answers the bytes from the offset on of the result that the route keeps under the ID asked for, and BAD_PARAM otherwise.

COMPLETION: where the conditions that its clauses put on the state and the operands hold, exec answers a next state with the effect stated
for HANDLE_BIND_IRQ, HANDLE_DESTROY, HANDLE_QUERY, HANDLE_RETIRE_COMPLETE, HANDLE_RETIRE_TIMEOUT, PENDING_QUERY, RESULT_READ. -/
def Obligations.HandlesAndOutcomes : Prop :=
  ((∀ (rq : Request) (s u : State) (h : Handle), u = s.heard rq → s.takes specHandleQuery rq (fun p => p = []) true → rq.route = .stall 0 →
    u.hFind (hType rq.handle) (hIndex rq.handle) = some h →
      Replies (.handleQuery rq) rq s u {
        payload := leBytes 1 (if h.retiring then 2 else 1) ++ leBytes 1 (if h.sec then 1 else 0)
          ++ leBytes 1 h.bind.hart ++ leBytes 1 h.bind.file ++ leBytes 2 h.bind.ident })
  ∧ (∀ (rq : Request) (s u : State) (h : Handle), u = s.heard rq → s.takes specHandleBindIrq rq (fun p => p.length = 4) false → rq.route = .stall 0 →
    u.hFind (hType rq.handle) (hIndex rq.handle) = some h → hType rq.handle ≠ 2 →
      (u.bindOk (bindAt rq.payload 0) h.owner h.sec 0 = true → ∃ t, Replies (.handleBindIrq rq) rq s t {}
        ∧ t.hFind (hType rq.handle) (hIndex rq.handle) = some { h with bind := bindAt rq.payload 0 }
        ∧ (∀ a b, (a, b) ≠ (hType rq.handle, hIndex rq.handle) → b < 4096 → t.hFind a b = u.hFind a b)
        ∧ t = { u with mgmt := { u.mgmt with handles := { u.mgmt.handles with tab := t.mgmt.handles.tab } } })
      ∧ (u.bindOk (bindAt rq.payload 0) h.owner h.sec 0 = false → Replies (.handleBindIrq rq) rq s u { st := .badParam }))
  ∧ (∀ (rq : Request) (s u : State), u = s.heard rq → s.takes specHandleDestroy rq (fun p => p = []) false → rq.route = .stall 0 →
      (hType rq.handle = 0x07 → hIndex rq.handle < 8 → Replies (.handleDestroy rq) rq s u { st := .denied })
      ∧ (hType rq.handle = 0x0B → ((u.timer (hIndex rq.handle)).fired = true ∨ (u.timer (hIndex rq.handle)).missed ≠ 0
            ∨ (u.timer (hIndex rq.handle)).cmp ≠ 0 ∨ (u.timer (hIndex rq.handle)).period ≠ 0) →
          ∃ t e, Replies (.handleDestroy rq) rq s t { st := .pending } ∧ t.hFind 0x0B (hIndex rq.handle) = some e ∧ e.retiring = true
            ∧ e.waiter = some (0, rq.seq) ∧ t.timer (hIndex rq.handle) = { u.timer (hIndex rq.handle) with arm := false }
            ∧ (∀ m, m ≠ hIndex rq.handle → t.timer m = u.timer m) ∧ t.supply = u.supply ∧ t.ps = u.ps)
      ∧ (hType rq.handle = 0x0B → (u.timer (hIndex rq.handle)).fired = false → (u.timer (hIndex rq.handle)).missed = 0 →
          (u.timer (hIndex rq.handle)).cmp = 0 → (u.timer (hIndex rq.handle)).period = 0 → ∃ t, Replies (.handleDestroy rq) rq s t {}
          ∧ t.hFind 0x0B (hIndex rq.handle) = none
          ∧ Tab.get t.mgmt.handles.gens (0x0B000 + hIndex rq.handle) 0 = (Tab.get u.mgmt.handles.gens (0x0B000 + hIndex rq.handle) 0 + 1) % 63
          ∧ t.timer (hIndex rq.handle) = {} ∧ (∀ m, m ≠ hIndex rq.handle → t.timer m = u.timer m)
          ∧ t.supply = u.supply ∧ t.ps = u.ps ∧ t.bus = u.bus ∧ t.ks = u.ks ∧ t.sw = u.sw ∧ t.eth = u.eth))
  ∧ (∀ (s : State) (h : U32) (e : Handle), s.hFind (hType h) (hIndex h) = some e → e.retiring = true → mkHandle (hType h) e.owner e.gen (hIndex h) = h →
      (∃ t, Does (.handleRetireComplete h) s t ∧ t.hFind (hType h) (hIndex h) = none
        ∧ (∀ a b, (a, b) ≠ (hType h, hIndex h) → b < 4096 → t.hFind a b = s.hFind a b)
        ∧ t.supply = s.supply ∧ t.aon = s.aon)
      ∧ ∀ u, Does (.handleRetireTimeout h u) s ((s.log .engineWedged [BitVec.ofNat 8 u, 1]).amindPulse .wedged 1 0xFF)))
  ∧ ((∀ (rq : Request) (s u : State) (key : Nat), u = s.heard rq → s.takes specPendingQuery rq (fun p => p.length = 4) false → rq.route = .stall key →
    let rec? := (u.route key).pend.find? (fun p => p.opcode.toNat = u16At rq.payload 0 ∧ p.seq.toNat = u16At rq.payload 2)
    (rec? = none → Replies (.pendingQuery rq) rq s u { payload := [0, 0, 0, 0] })
    ∧ (∀ r, rec? = some r → r.done = false → Replies (.pendingQuery rq) rq s u { payload := [1, r.reason, 0, 0] })
    ∧ (∀ r, rec? = some r → r.done = true → Replies (.pendingQuery rq) rq s u { payload := [2, r.reason] ++ leBytes 2 r.final.toNat }))
  ∧ (∀ (rq : Request) (s u : State) (key : Nat), u = s.heard rq → s.takes specResultRead rq (fun p => p.length = 8 && u16At p 2 = 0) false → rq.route = .stall key →
    (∀ id b, (u.route key).result = some (id, b) → id.toNat = u16At rq.payload 0 → u32At rq.payload 4 < b.length →
      Replies (.resultRead rq) rq s u {
        payload := leBytes 4 (u32At rq.payload 4) ++ leBytes 4 b.length ++ (b.drop (u32At rq.payload 4)).take 2024 })
    ∧ ((u.route key).result = none → Replies (.resultRead rq) rq s u { st := .badParam })
    ∧ (∀ id b, (u.route key).result = some (id, b) → id.toNat ≠ u16At rq.payload 0 ∨ b.length ≤ u32At rq.payload 4 →
        Replies (.resultRead rq) rq s u { st := .badParam })))

/-- Instances: INSTANCE_CREATE names a free instance, DENIED with a secure pin, BUSY for one that is not free, and otherwise makes it LIVE with
its shares; SHARE_CHANGE of a guest replaces the entries of the kinds and selectors it brings, and is BAD_PARAM for a free instance and BUSY
for one in reset or destruction; INSTANCE_QUERY answers state and shares. No other instance changes.

Stalls and guest files of the guests: an unassigned stall is assigned with zeroed areas, IDLE and its binding, an assigned one is BUSY; a
withdrawn one is CLOSED; a guest file that the guest's share holds is bound to it, and one bound to another guest is BUSY.

COMPLETION: where the conditions that its clauses put on the state and the operands hold, exec answers a next state with the effect stated
for GUEST_FILE_BIND, INSTANCE_CREATE, INSTANCE_QUERY, SHARE_CHANGE, STALL_ASSIGN, STALL_WITHDRAW. -/
def Obligations.InstancesStallsAndFiles : Prop :=
  ((∀ (rq : Request) (s u : State) (n : Nat), u = s.heard rq → s.takes specInstanceCreate rq s.okShares false → rq.route = .stall 0 →
    n = u8At rq.payload 0 → 1 ≤ n →
      (u.shareCheck n (sharesAt rq.payload) (mergeShares [] (sharesAt rq.payload)) (decide ((u.inst n).st ≠ .free)) = .ok →
        ∃ t, Replies (.instanceCreate rq) rq s t { payload := [BitVec.ofNat 8 n] }
          ∧ t.inst n = { st := .live, shares := mergeShares [] (sharesAt rq.payload) } ∧ (∀ m, m ≠ n → t.inst m = u.inst m)
          ∧ (∀ e, (sharesAt rq.payload).find? (fun e => e.kind = 6) = some e →
              t.reg n = { (u.reg n).fresh with next := some (true, BitVec.ofNat 2 e.sel, BitVec.ofNat 16 e.a.toNat,
                BitVec.ofNat 16 (e.a.toNat / 65536), BitVec.ofNat 16 e.b.toNat) })
          ∧ t = { u with
              mgmt := { u.mgmt with insts := t.mgmt.insts }
              core := { u.core with regs := t.core.regs, dramRegions := t.core.dramRegions, guestFiles := t.core.guestFiles }
              sw := { u.sw with accts := t.sw.accts } })
      ∧ ((sharesAt rq.payload).any (fun e => e.pins.any u.pinSec) = true → Replies (.instanceCreate rq) rq s u { st := .denied })
      ∧ ((sharesAt rq.payload).any (fun e => e.pins.any u.pinSec) = false → (u.inst n).st ≠ .free →
          Replies (.instanceCreate rq) rq s u { st := .busy }))
  ∧ (∀ (rq : Request) (s u : State) (n : Nat), u = s.heard rq → s.takes specShareChange rq s.okShares false → rq.route = .stall 0 →
    n = u8At rq.payload 0 → 1 ≤ n →
      ((u.inst n).st = .live →
        u.shareCheck n (sharesAt rq.payload) (mergeShares (u.inst n).shares (sharesAt rq.payload)) false = .ok →
        ∃ t, Replies (.shareChange rq) rq s t {}
          ∧ t.inst n = { u.inst n with shares := mergeShares (u.inst n).shares (sharesAt rq.payload) } ∧ (∀ m, m ≠ n → t.inst m = u.inst m)
          ∧ (∀ e, (sharesAt rq.payload).find? (fun e => e.kind = 6) = some e →
              t.reg n = { u.reg n with next := some (true, BitVec.ofNat 2 e.sel, BitVec.ofNat 16 e.a.toNat, BitVec.ofNat 16 (e.a.toNat / 65536),
                BitVec.ofNat 16 e.b.toNat) })
          ∧ t = { u with
              mgmt := { u.mgmt with insts := t.mgmt.insts }
              core := { u.core with regs := t.core.regs, dramRegions := t.core.dramRegions, guestFiles := t.core.guestFiles }
              sw := { u.sw with accts := t.sw.accts } })
      ∧ ((u.inst n).st = .free → Replies (.shareChange rq) rq s u { st := .badParam })
      ∧ ((u.inst n).st = .resetting ∨ (u.inst n).st = .destroying → Replies (.shareChange rq) rq s u { st := .busy }))
  ∧ Serves .instanceQuery specInstanceQuery (fun _ _ p => p.length = 1) false
      (fun rq _ => rq.route = .stall 0 ∧ u8At rq.payload 0 ≤ 62) (fun _ u => u)
      (fun rq u => {
        payload := leBytes 1 (match (u.inst (u8At rq.payload 0)).st with | .free => 0 | .live => 1 | .resetting => 2 | .destroying => 3)
          ++ leBytes 1 ((u.inst (u8At rq.payload 0)).shares.take 169).length
          ++ leBytes 2 (u.mgmt.handles.tab.filter (fun e => e.2.owner = u8At rq.payload 0 && !e.2.sec && !e.2.retiring)).length
          ++ ((u.inst (u8At rq.payload 0)).shares.take 169).flatMap (fun e =>
              leBytes 1 e.kind ++ leBytes 1 e.sel ++ [0, 0] ++ leBytes 4 e.a.toNat ++ leBytes 4 e.b.toNat) })
  ∧ (∀ (rq : Request) (s u : State), u = s.heard rq → s.takes specInstanceQuery rq (fun p => p.length = 1) false → rq.route.issuer = .gst →
      u8At rq.payload 0 ≠ u.issuerInst rq.route → Replies (.instanceQuery rq) rq s u { st := .denied }))
  ∧ ((∀ (rq : Request) (s u : State) (k n : Nat), u = s.heard rq →
    s.takes specStallAssign rq (fun p => p.length = 6 && 4 ≤ u8At p 0 && u8At p 0 ≤ 63 && u8At p 1 ≤ 62) false → rq.route = .stall 0 →
    k = u8At rq.payload 0 → n = u8At rq.payload 1 → (u.inst n).st = .live → u.bindOk (bindAt rq.payload 2) n false 0 = true →
      ((u.stall k).owner = none → ∃ t, Replies (.stallAssign rq) rq s t {}
        ∧ t.stall k = { st := .idle, owner := some n, bind := bindAt rq.payload 2 } ∧ (t.route k).lastSeq = 0 ∧ (t.route k).result = none
        ∧ (∀ m, m ≠ k → t.stall m = u.stall m ∧ t.route m = u.route m)
        ∧ t = { u with mgmt := { u.mgmt with amind := { u.mgmt.amind with
            stalls := t.mgmt.amind.stalls, routes := t.mgmt.amind.routes } } })
      ∧ ((u.stall k).owner ≠ none → Replies (.stallAssign rq) rq s u { st := .busy }))
  ∧ (∀ (rq : Request) (s u : State) (k : Nat), u = s.heard rq →
    s.takes specStallWithdraw rq (fun p => p.length = 1 && 4 ≤ u8At p 0 && u8At p 0 ≤ 63) false → rq.route = .stall 0 →
    k = u8At rq.payload 0 → (u.stall k).owner ≠ none →
      ∃ t, Replies (.stallWithdraw rq) rq s t {} ∧ t.stall k = { st := .closed } ∧ (∀ m, m ≠ k → t.stall m = u.stall m)
        ∧ t = { u with mgmt := { u.mgmt with amind := { u.mgmt.amind with
            stalls := t.mgmt.amind.stalls, routes := t.mgmt.amind.routes } } })
  ∧ (∀ (rq : Request) (s u : State) (n f : Nat), u = s.heard rq →
    s.takes specGuestFileBind rq (fun p => p.length = 3 && (u8At p 0 ≤ 62 || u8At p 0 = 0xFF) && u8At p 1 < 8 && 1 ≤ u8At p 2 && u8At p 2 ≤ 15)
      false → rq.route = .stall 0 →
    n = u8At rq.payload 0 → f = u8At rq.payload 1 * 16 + u8At rq.payload 2 →
      (n ≤ 62 → (u.inst n).st = .live → (filesOf (u.inst n).shares).contains (u8At rq.payload 1, u8At rq.payload 2) = true →
        (u.core.guestFiles.has f = false ∨ Tab.get u.core.guestFiles f 0 = n →
          Replies (.guestFileBind rq) rq s { u with core := { u.core with guestFiles := Tab.put u.core.guestFiles f n } } {})
        ∧ (u.core.guestFiles.has f = true → Tab.get u.core.guestFiles f 0 ≠ n → Replies (.guestFileBind rq) rq s u { st := .busy }))
      ∧ (n = 0xFF → u.core.guestFiles.has f = true →
          u.fileUsed (Tab.get u.core.guestFiles f 0) (u8At rq.payload 1) (u8At rq.payload 2) = false →
          Replies (.guestFileBind rq) rq s { u with core := { u.core with guestFiles := Tab.drop u.core.guestFiles f } } {})))

/-- Function disable: a function that holds no work is disabled at once, one that holds work waits while it drains, one drain at a time; the
drain's limit abandons the work, its end closes the drain, and FN_ENABLE takes the function back. Here of timers, which hold no work, and
LIN channels, which hold it while a header is on the bus.

Instance reset and destruction: INSTANCE_RESET takes a live guest to RESETTING, its stalls cleared, and waits, after a drain in progress; a guest
may reset itself alone; the limit of the drain abandons what is left; when every engine reports the guest is LIVE, counted and timed, with its
comparators disarmed. INSTANCE_DESTROY takes it to DESTROYING, and when its handles are FREE it leaves, its shares gone.

COMPLETION: where the conditions that its clauses put on the state and the operands hold, exec answers a next state with the effect stated
for FN_DISABLE, FN_DISABLE_COMPLETE, FN_DISABLE_DRAIN_TIMEOUT, FN_ENABLE, INSTANCE_DESTROY, INSTANCE_DESTROY_COMPLETE, INSTANCE_RESET,
INSTANCE_RESET_COMPLETE, INSTANCE_RESET_DRAIN_END. -/
def Obligations.DisableResetAndDestroy : Prop :=
  ((∀ (rq : Request) (s u : State) (n : Nat), u = s.heard rq → s.takes specFnDisable rq okFnDisable false → rq.route = .stall 0 → n = u8At rq.payload 0 →
    (u.inst n).st = .live →
      ((u.inst n).drain ≠ none → Replies (.fnDisable rq) rq s u { st := .busy })
      ∧ ((u.inst n).drain = none → (u.inst n).disabled.contains (u8At rq.payload 1, u8At rq.payload 2) = true →
          Replies (.fnDisable rq) rq s u {})
      ∧ ((u.inst n).drain = none → (u.inst n).disabled.contains (0x0D, 0) = false → u8At rq.payload 1 = 0x0D → u8At rq.payload 2 = 0 →
          ∃ t, Replies (.fnDisable rq) rq s t {} ∧ t.inst n = { u.inst n with disabled := (0x0D, 0) :: (u.inst n).disabled }
            ∧ (∀ m, m ≠ n → t.inst m = u.inst m) ∧ t = { u with mgmt := { u.mgmt with insts := t.mgmt.insts } })
      ∧ ((u.inst n).drain = none → (u.inst n).disabled.contains (4, u8At rq.payload 2) = false → u8At rq.payload 1 = 4 →
          (u.handlesOf n 3).contains (u8At rq.payload 2) = true → (u.lin (u8At rq.payload 2)).header ≠ none →
          ∃ t, Replies (.fnDisable rq) rq s t { st := .pending } ∧ t.inst n = { u.inst n with
              disabled := (4, u8At rq.payload 2) :: (u.inst n).disabled
              drain := some { kind := 4, sel := u8At rq.payload 2, waiter := (rq.route.key, rq.seq) } }
            ∧ (∀ m, m ≠ n → t.inst m = u.inst m) ∧ t = { u with mgmt := { u.mgmt with insts := t.mgmt.insts } }))
  ∧ (∀ (rq : Request) (s u : State) (n : Nat), u = s.heard rq → s.takes specFnEnable rq (fun p => p.length = 4 && fnNamed p) false → rq.route = .stall 0 →
    n = u8At rq.payload 0 → (u.inst n).st = .live → (u.inst n).drain = none → u8At rq.payload 1 ≠ 7 → u8At rq.payload 1 ≠ 8 →
      ∃ t, Replies (.fnEnable rq) rq s t {}
        ∧ t.inst n = { u.inst n with disabled := (u.inst n).disabled.filter (fun f => f ≠ (u8At rq.payload 1, u8At rq.payload 2)) }
        ∧ (∀ m, m ≠ n → t.inst m = u.inst m) ∧ t = { u with mgmt := { u.mgmt with insts := t.mgmt.insts } })
  ∧ (∀ (s : State) (n : Nat) (d : Drain), n < 63 → (s.inst n).drain = some d → d.kind = 4 →
      (∃ t, Does (.fnDisableDrainTimeout n) s t ∧ t.lin d.sel = { s.lin d.sel with header := none } ∧ (∀ c, c ≠ d.sel → t.lin c = s.lin c)
        ∧ t.mgmt = s.mgmt)
      ∧ ((s.lin d.sel).header = none → (s.inst n).st = .live → ∃ t, Does (.fnDisableComplete n) s t
          ∧ t.inst n = { s.inst n with drain := none } ∧ (∀ m, m ≠ n → t.inst m = s.inst m) ∧ t.bus = s.bus ∧ t.supply = s.supply)))
  ∧ ((∀ (rq : Request) (s u : State) (n : Nat), u = s.heard rq → s.takes specInstanceReset rq (fun p => p.length = 1) false → n = u8At rq.payload 0 →
    1 ≤ n → n ≤ 62 →
      (rq.route = .stall 0 → (u.inst n).st = .live → (u.stall 0).owner = none →
        ∃ t, exec (.instanceReset rq) s = .next t ∧ (t.inst n).st = .resetting ∧ (t.inst n).resetReq = some (0, rq.seq)
          ∧ (t.inst n).shares = (u.inst n).shares ∧ (t.inst n).resetBegun = (if (u.inst n).drain = none then true else (u.inst n).resetBegun)
          ∧ (∀ m, m ≠ n → (t.inst m).st = (u.inst m).st ∧ (t.inst m).shares = (u.inst m).shares)
          ∧ ((u.inst n).drain = none → (u.inst n).resetBegun = false →
              ∀ k, (u.stall k).owner = some n → (t.stall k).st = .idle ∧ (t.stall k).area = [] ∧ (t.stall k).notices = []
                ∧ (t.stall k).rsp = {} ∧ (t.route k).lastSeq = 0 ∧ (t.route k).result = none)
          ∧ t.aon = u.aon ∧ t.supply = u.supply)
      ∧ (rq.route.issuer = .gst → n ≠ u.issuerInst rq.route → Replies (.instanceReset rq) rq s u { st := .denied })
      ∧ (rq.route = .stall 0 → (u.inst n).st = .free → Replies (.instanceReset rq) rq s u { st := .badParam })
      ∧ (rq.route = .stall 0 → (u.inst n).st = .resetting ∨ (u.inst n).st = .destroying →
          Replies (.instanceReset rq) rq s u { st := .busy }))
  ∧ (∀ (s : State) (n : Nat), 1 ≤ n → n ≤ 62 → (s.inst n).resetBegun = true →
      ((s.inst n).drained = false → ∃ t, Does (.instanceResetDrainEnd n) s t ∧ (t.inst n).drained = true ∧ (t.inst n).st = (s.inst n).st
        ∧ (t.inst n).aborts = BitVec.ofNat 32 (s.instItems n) ∧ (∀ c, c ∈ s.handlesOf n 3 → (t.lin c).header = none)
        ∧ t.aon = s.aon ∧ t.supply = s.supply)
      ∧ ((s.inst n).drained = true ∨ s.instBusy n = false → (s.inst n).st = .resetting → (s.inst n).destroyReq = [] →
          ∃ t, Does (.instanceResetComplete n) s t ∧ (t.inst n).st = .live ∧ (t.inst n).resets = (s.inst n).resets + 1
            ∧ (t.inst n).resetTime = s.tb.localT ∧ (t.inst n).resetReq = none ∧ (t.inst n).shares = (s.inst n).shares
            ∧ ((s.inst n).drained = true → ∀ c, c ∈ s.handlesOf n 0x0B → (t.timer c).arm = false ∧ (t.timer c).fired = false
                ∧ (t.timer c).cmp = 0 ∧ (t.timer c).period = 0)
            ∧ t.aon = s.aon ∧ t.supply = s.supply))
  ∧ (∀ (rq : Request) (s u : State) (n : Nat), u = s.heard rq → s.takes specInstanceDestroy rq (fun p => p.length = 1) false → rq.route = .stall 0 →
    n = u8At rq.payload 0 → 1 ≤ n → n ≤ 62 →
      ((u.inst n).st = .live → ∃ t, Replies (.instanceDestroy rq) rq s t { st := .pending } ∧ (t.inst n).st = .destroying
        ∧ (t.inst n).destroyReq = (u.inst n).destroyReq ++ [(0, rq.seq)] ∧ t.aon = u.aon ∧ t.supply = u.supply)
      ∧ ((u.inst n).st = .resetting → ∃ t, Replies (.instanceDestroy rq) rq s t { st := .pending }
          ∧ t.inst n = { u.inst n with destroyReq := (u.inst n).destroyReq ++ [(0, rq.seq)] } ∧ (∀ m, m ≠ n → t.inst m = u.inst m)
          ∧ t = { u with mgmt := { u.mgmt with insts := t.mgmt.insts } })
      ∧ ((u.inst n).st = .destroying → Replies (.instanceDestroy rq) rq s u { st := .busy })
      ∧ ((u.inst n).st = .free → Replies (.instanceDestroy rq) rq s u { st := .badParam }))
  ∧ (∀ (s : State) (n : Nat), 1 ≤ n → n ≤ 62 → (s.inst n).st = .destroying → (s.inst n).drained = true → (s.inst n).resetBegun = false →
    [0x01, 0x02, 0x03, 0x04, 0x05, 0x06, 0x07, 0x08, 0x09, 0x0A, 0x0B, 0x0C].all (fun k => (s.handlesOf n k).isEmpty) = true →
      ∃ t, Does (.instanceDestroyComplete n) s t ∧ (t.inst n).st = .free ∧ (t.inst n).shares = [] ∧ (t.inst n).disabled = []
        ∧ (∀ m, m ≠ n → t.inst m = s.inst m)
        ∧ t.reg n = { s.reg n with next := some (false, (s.reg n).cls, (s.reg n).guar, (s.reg n).ceil, (s.reg n).burst) }
        ∧ (∀ m, m ≠ n → t.reg m = s.reg m)
        ∧ (∀ f, f ∈ t.core.guestFiles → f.2 ≠ n) ∧ t.aon = s.aon ∧ t.supply = s.supply))

/-- The commands of the switch: a new queue pair takes the first free index of its matrix with the depth, class and cap asked for, enabled
and empty, and no frame is charged to it; a new flow entry stands in a free way of its bucket, and a match that exists already is BUSY; a
gate list is loaded for its change time, under a new handle where the port holds none; PORT_CONFIG sets enable, options and watermarks, and
without TC10 disarms the port's wake source; PORT_STATS and MARKET_STATUS answer counters.

COMPLETION: where the conditions that its clauses put on the state and the operands hold, exec answers a next state with the effect stated
for FLOW_CREATE, GATE_LIST_SET, MARKET_STATUS, PORT_CONFIG, PORT_STATS, QUEUE_PAIR_CREATE. -/
def Obligations.SwitchCommands : Prop :=
  (∀ (rq : Request) (s u : State) (i : Nat), u = s.heard rq → s.takes specQueuePairCreate rq (s.okQueuePair 0) false → rq.route = .stall 0 →
    u8At rq.payload 0 = 26 →
      (u.fnOff 0 1 0 = false → u.firstFree 1 64 = some i → u.roomFor 1 0 0 false 1 0 = true →
        ∃ t, Replies (.queuePairCreate rq) rq s t
            { handle := some (mkHandle 1 0 (u.genOf 1 i) i), payload := leBytes 8 (0x11C00000 + i * 0x1000) }
          ∧ t.qp i = {
              depth := BitVec.ofNat 16 (u16At rq.payload 2), maxClass := BitVec.ofNat 3 (u8At rq.payload 1), enabled := true
              mac := Config.macBase + BitVec.ofNat 48 i, cap := BitVec.ofNat 20 (u32At rq.payload 4) }
          ∧ (∀ m, m ≠ i → t.qp m = u.qp m) ∧ (t.hLive 1 i).isSome = true ∧ (∀ f, f ∈ t.sw.frames → f.chargedQp ≠ some i)
          ∧ t = { u with mgmt := { u.mgmt with handles := t.mgmt.handles }, sw := t.sw })
      ∧ (u.fnOff 0 1 0 = true → Replies (.queuePairCreate rq) rq s u { st := .fnDisabled })
      ∧ (u.fnOff 0 1 0 = false → u.firstFree 1 64 = none → Replies (.queuePairCreate rq) rq s u { st := .noResource }))
  ∧ (∀ (rq : Request) (s u : State), u = s.heard rq → s.takes specFlowCreate rq s.okFlow false → rq.route = .stall 0 →
    let p := rq.payload
    let key := flowBucket (u8At p 0) (BitVec.ofNat 3 (u8At p 1)) (u16At p 2) (beAt p 4 6) (u8At p 10) * 4
    let found := (u.sw.probe (BitVec.ofNat 3 (u8At p 1)) (u8At p 0) (u16At p 2) (beAt p 4 6) (u8At p 10)).isSome
    (found = true → Replies (.flowCreate rq) rq s u { st := .busy })
    ∧ (found = false → [key, key + 1, key + 2, key + 3].all (fun e => (Tab.get u.sw.flows e {}).valid) = true →
        Replies (.flowCreate rq) rq s u { st := .noResource })
    ∧ (∀ i, found = false → (Tab.get u.sw.flows key {}).valid = false → u32At p 20 = 0 → u.firstFree 8 4096 = some i →
        u.handleRoom = true → ∃ t, Replies (.flowCreate rq) rq s t { handle := some (mkHandle 8 0 (u.genOf 8 i) i) }
          ∧ (Tab.get t.sw.flows key {}).valid = true ∧ (Tab.get t.sw.flows key {}).egress = BitVec.ofNat 30 (u32At p 12)
          ∧ (Tab.get t.sw.flows key {}).dmac = BitVec.ofNat 48 (beAt p 4 6)
          ∧ (Tab.get t.sw.flows key {}).policer = 0xFFFF ∧ (∀ k, k ≠ key → Tab.get t.sw.flows k {} = Tab.get u.sw.flows k {})
          ∧ (t.hLive 8 i).isSome = true
          ∧ t = { u with mgmt := { u.mgmt with handles := t.mgmt.handles }, sw := { u.sw with flows := t.sw.flows } }))
  ∧ (∀ (rq : Request) (s u : State) (p : Nat), u = s.heard rq → s.takes specGateListSet rq okGateList false → rq.route = .stall 0 → p = u8At rq.payload 0 →
    rq.handle = 0 →
      (u.hasGate p = true ∨ u.blockIsOff (portBlock p) = true → Replies (.gateListSet rq) rq s u { st := .noResource })
      ∧ (u.hasGate p = false → u.handleRoom = true → u.blockIsOff (portBlock p) = false → ∃ t, Replies (.gateListSet rq) rq s t { handle := some (mkHandle 9 0 (u.genOf 9 p) p) }
          ∧ (t.gate p).pend = some (gateListAt rq.payload)
          ∧ (t.gate p).changeTime = BitVec.ofNat 64 ((gateListAt rq.payload).changeAt u.tb.globalT.toNat)
          ∧ (t.gate p).oper = (u.gate p).oper ∧ (∀ q, q ≠ p → t.gate q = u.gate q) ∧ (t.hLive 9 p).isSome = true ∧ t.sw = u.sw ∧ t.bus = u.bus))
  ∧ (∀ (g : GateList) (t : Nat), 1 ≤ g.cycle.toNat →
      t + 100000 ≤ g.changeAt t ∧ (∃ n, g.changeAt t = g.base.toNat + n * g.cycle.toNat)
      ∧ ∀ n, t + 100000 ≤ g.base.toNat + n * g.cycle.toNat → g.changeAt t ≤ g.base.toNat + n * g.cycle.toNat)
  ∧ (∀ (rq : Request) (s u : State) (p : Nat), u = s.heard rq → s.takes specPortConfig rq s.okPortConfig false → rq.route = .stall 0 → p = u8At rq.payload 0 →
      ∃ t, Replies (.portConfig rq) rq s t {} ∧ (t.swPort p).en = (decide (u8At rq.payload 1 = 1) && !(p = 21 && u.supply.straps.svcOpen))
        ∧ (t.swPort p).high = BitVec.ofNat 16 (u16At rq.payload 4) ∧ (t.swPort p).low = BitVec.ofNat 16 (u16At rq.payload 6)
        ∧ (t.ethPort p).pause = (u8At rq.payload 2).testBit 0 ∧ (t.ethPort p).pfc = (u8At rq.payload 2).testBit 1
        ∧ (t.ethPort p).tc10 = ((u8At rq.payload 2).testBit 4 && !(p = 21 && u.supply.straps.svcOpen))
        ∧ ((u8At rq.payload 2).testBit 4 = false → p < 22 → (t.wakeCfg (24 + p)).arm = false)
        ∧ (t.ethPort p).preempt = (u8At rq.payload 2).testBit 2 ∧ (t.ethPort p).maxFrame = BitVec.ofNat 14 (u16At rq.payload 8)
        ∧ (∀ q, q ≠ p → (t.swPort q).en = (u.swPort q).en ∧ (t.ethPort q).maxFrame = (u.ethPort q).maxFrame)
        ∧ t.bus = u.bus ∧ t.aon = u.aon ∧ t.supply = u.supply)
  ∧ Serves .portStats specPortStats (fun _ _ p => p.length = 1 && u8At p 0 < 30) false (fun rq _ => 10 ≤ u8At rq.payload 0) (fun _ u => u)
      (fun rq u => {
        payload := leBytes 8 (u.ethPort (u8At rq.payload 0)).cnt.rxFrames.toNat ++ leBytes 8 (u.ethPort (u8At rq.payload 0)).cnt.rxBytes.toNat
          ++ leBytes 8 (u.ethPort (u8At rq.payload 0)).cnt.txFrames.toNat ++ leBytes 8 (u.ethPort (u8At rq.payload 0)).cnt.txBytes.toNat
          ++ leBytes 8 (u.ethPort (u8At rq.payload 0)).cnt.fcsErr.toNat
          ++ leBytes 8 ((u.swPort (u8At rq.payload 0)).cnt.police + (u.swPort (u8At rq.payload 0)).cnt.classify
              + (u.swPort (u8At rq.payload 0)).cnt.refuse).toNat
          ++ leBytes 8 ((u.swPort (u8At rq.payload 0)).cnt.residue + (u.swPort (u8At rq.payload 0)).cnt.pushed
              + (u.swPort (u8At rq.payload 0)).cnt.qp + BitVec.ofNat 64 (u.flushes (u8At rq.payload 0))).toNat
          ++ leBytes 8 0 })
  ∧ Serves .marketStatus specMarketStatus (fun _ _ p => p.length = 1 && u8At p 0 < 64) false (fun _ _ => True) (fun _ u => u)
      (fun rq u => {
        payload := leBytes 4 (u.acctShare (u8At rq.payload 0)) ++ leBytes 4 (Tab.get u.sw.accts (u8At rq.payload 0) {}).used
          ++ leBytes 4 (Tab.get u.sw.accts (u8At rq.payload 0) {}).refused.toNat
          ++ leBytes 4 (Tab.get u.sw.accts (u8At rq.payload 0) {}).pushout.toNat })

/-- The key tree: a derivation below a current node, that matches none, makes one node with the usage, flags and label asked for and the
next creation number, through the journal, and a handle to it; which free number it takes is a free value (log entry 38). An invalidation
stops a current node, one that is not current stays, and a root cannot be invalidated. While the key store is not ready every key command is
BUSY.

Signatures, tokens, MACsec associations and the alarm: with ECDSA alone the signature is the route's next result at once, with ML-DSA-65 and
for a token the command waits; the oldest that waits is made, or ends with KEY_REVOKED where its node is no longer current; an association
is installed with its key and its key's register, at once with the event where its first PN stands at the threshold; an alarm of a powered
key store zeroes it and the inline memory encryption, loses DRAM and, where Amind runs, asks for a reset.

COMPLETION: where the conditions that its clauses put on the state and the operands hold, exec answers a next state with the effect stated
for ATTEST, ATTEST_COMPLETE, KEY_DERIVE, KEY_INVALIDATE, KEY_SIGN, KEY_SIGN_COMPLETE, KEY_STORE_ALARM, MACSEC_SA_SET. -/
def Obligations.KeysAndSignatures : Prop :=
  ((∀ (rq : Request) (s u : State), u = s.heard rq → s.takes specKeyDerive rq okKeyDerive false → rq.route = .stall 0 → u.ks.st = .ready →
    u.parentCheck rq = .ok → u.ks.current pathFuel (hIndex rq.handle) = true →
    ∀ par, u.ks.node (hIndex rq.handle) = some par → par.usage ≠ 0 → par.depth < 8 →
    u.ks.matching (hIndex rq.handle) (u8At rq.payload 0) (u8At rq.payload 1) (rq.payload.drop 4) = none → u.ks.freeNodes ≠ [] →
    u.roomFor 7 0 0 false 1 0 = true →
      ∃ n t, Replies (.keyDerive rq) rq s t { handle := some (mkHandle 7 0 (u.genOf 7 n) n), payload := leBytes 1 (par.depth + 1) }
        ∧ n ∈ u.ks.freeNodes ∧ Tab.get t.ks.nodes n {} = {
            parent := hIndex rq.handle, depth := par.depth + 1, usage := u8At rq.payload 0, flags := u8At rq.payload 1
            label := rq.payload.drop 4, sec := par.sec, created := u.ks.counter + 1, gen := 0, parentGen := par.gen }
        ∧ (∀ m, m ≠ n → Tab.get t.ks.nodes m {} = Tab.get u.ks.nodes m {}) ∧ t.ks.homeCounter = u.ks.counter + 1
        ∧ (t.hLive 7 n).isSome = true ∧ t.ce = u.ce ∧ t.supply = u.supply ∧ t.aon = u.aon)
  ∧ (∀ (rq : Request) (s u : State), u = s.heard rq → s.takes specKeyInvalidate rq (fun p => p = []) false → rq.route = .stall 0 → u.ks.st = .ready →
      (hIndex rq.handle < 8 → Replies (.keyInvalidate rq) rq s u { st := .badParam })
      ∧ (∀ r, 8 ≤ hIndex rq.handle → u.ks.current pathFuel (hIndex rq.handle) = true → u.ks.node (hIndex rq.handle) = some r →
          ∃ t, Replies (.keyInvalidate rq) rq s t {} ∧ t.ks.current pathFuel (hIndex rq.handle) = false
            ∧ hIndex rq.handle ∉ t.ks.engine ∧ t.ks.purges = satInc u.ks.purges ∧ t.ks.ceEvent = u.ks.ceEvent ||| 1
            ∧ t.supply = u.supply ∧ t.aon = u.aon ∧ t.ps = u.ps))
  ∧ (∀ (rq : Request) (s u : State), u = s.heard rq → rq.route = .stall 0 → u.ks.st ≠ .ready →
      (s.takes specKeyDerive rq okKeyDerive false → Replies (.keyDerive rq) rq s u { st := .busy })
      ∧ (s.takes specKeyInvalidate rq (fun p => p = []) false → Replies (.keyInvalidate rq) rq s u { st := .busy })
      ∧ (s.takes specKeySign rq okKeySign false → Replies (.keySign rq) rq s u { st := .busy })
      ∧ (s.takes specAttest rq okAttest false → Replies (.attest rq) rq s u { st := .busy })
      ∧ (s.takes specMacsecSaSet rq okMacsecSa false → Replies (.macsecSaSet rq) rq s u { st := .busy })))
  ∧ ((∀ (rq : Request) (s u : State) (r : Node), u = s.heard rq → s.takes specKeySign rq okKeySign false → rq.route = .stall 0 → u.ks.st = .ready →
    u.ks.node (hIndex rq.handle) = some r →
      (r.usage ≠ 4 → Replies (.keySign rq) rq s u { st := .badParam })
      ∧ (r.usage = 4 → u.ks.current pathFuel (hIndex rq.handle) = false → Replies (.keySign rq) rq s u { st := .keyRevoked })
      ∧ (r.usage = 4 → u.ks.current pathFuel (hIndex rq.handle) = true → u8At rq.payload 0 = 0 →
          ∃ t id b, Replies (.keySign rq) rq s t { payload := leBytes 2 (BitVec.toNat id) ++ [0, 0] ++ leBytes 4 96 }
            ∧ (t.route 0).result = some (id, b) ∧ b.length = 96 ∧ id ≠ 0 ∧ t.ks = { u.ks with signed := u.ks.signed + 1 }
            ∧ t = { u with mgmt := { u.mgmt with amind := { u.mgmt.amind with routes := t.mgmt.amind.routes } }, ks := t.ks })
      ∧ (r.usage = 4 → u.ks.current pathFuel (hIndex rq.handle) = true → u8At rq.payload 0 ≠ 0 →
          Replies (.keySign rq) rq s { u with ks := { u.ks with signing := u.ks.signing ++ [{
            route := 0, seq := rq.seq, node := some (hIndex rq.handle), alg := u8At rq.payload 0, data := rq.payload.drop 4 }] } }
            { st := .pending }))
  ∧ (∀ (s : State) (g : Signing) (n : Nat), s.ks.signing.find? (fun g => g.node.isSome) = some g → g.node = some n → s.ks.st = .ready →
      ∃ t, Does .keySignComplete s t ∧ t.ks.signing = s.ks.signing.erase g
        ∧ (s.ks.current pathFuel n = true → ∃ b, (t.route g.route).result
            = some (if (s.route g.route).resultId + 1 = 0 then 1 else (s.route g.route).resultId + 1, b))
        ∧ (s.ks.current pathFuel n = false → (t.route g.route).result = (s.route g.route).result) ∧ t.ks.nodes = s.ks.nodes
        ∧ t.supply = s.supply ∧ t.aon = s.aon)
  ∧ (∀ (rq : Request) (s u : State), u = s.heard rq → s.takes specAttest rq okAttest false → rq.route = .stall 0 → u.ks.st = .ready →
      Replies (.attest rq) rq s { u with ks := { u.ks with signing := u.ks.signing ++ [{
        route := 0, seq := rq.seq, data := rq.payload.drop 4, issuer := (rq.route.issuer.code, 0) }] } } { st := .pending })
  ∧ (∀ (s : State) (g : Signing), s.ks.signing.find? (fun g => g.node.isNone) = some g → s.ks.st = .ready →
      ∃ t, Does .attestComplete s t ∧ t.ks.signing = s.ks.signing.erase g ∧ (∃ id, (t.route g.route).result = some (id, s.ks.token (s.claims g)))
        ∧ t.supply = s.supply ∧ t.aon = s.aon)
  ∧ (∀ (rq : Request) (s u : State) (r : Node) (p : Nat), u = s.heard rq → s.takes specMacsecSaSet rq okMacsecSa false → rq.route = .stall 0 →
      u.ks.st = .ready → u.ks.node (hIndex rq.handle) = some r → r.usage = 3 → u.ks.current pathFuel (hIndex rq.handle) = true →
      p = u8At rq.payload 0 → u8At rq.payload 1 = 0 →
        ∃ t, Replies (.macsecSaSet rq) rq s t {} ∧ (t.macsec p).txValid = true ∧ (t.macsec p).txAn = BitVec.ofNat 2 (u8At rq.payload 2)
          ∧ (t.macsec p).txPn = BitVec.ofNat 64 (u64At rq.payload 12) ∧ (t.macsec p).txSci = BitVec.ofNat 64 (u64At rq.payload 4)
          ∧ (Tab.get (t.macsec p).tx (u8At rq.payload 2) {}).key = u.ks.keyBytes (hIndex rq.handle) 0 44
          ∧ (pnThreshold (u.macsec p).xpn ≤ u64At rq.payload 12 → (Tab.get t.eth.events p {}).ev = (Tab.get u.eth.events p {}).ev ||| 4)
          ∧ (Tab.get (t.macsec p).tx (u8At rq.payload 2) {}).node = hIndex rq.handle ∧ (t.macsec p).rx = (u.macsec p).rx
          ∧ (∀ q, q ≠ p → t.macsec q = u.macsec q) ∧ t = { u with eth := t.eth })
  ∧ (∀ (s : State) (code : BitVec 3), 1 ≤ code.toNat → code.toNat ≤ 5 → s.ks.st ≠ .alarmed → s.keysPowered = true →
      ∃ t, Does (.keyStoreAlarm code) s t ∧ t.ks.st = .alarmed ∧ t.ks.alarm = code ∧ t.ks.engine = [] ∧ t.ks.roots = false
        ∧ t.ks.layers = [] ∧ t.ks.signing = [] ∧ t.ks.sessKeys = [] ∧ t.ks.ksEvent = s.ks.ksEvent ||| 1 ∧ t.ks.nodes = s.ks.nodes ∧ t.ce.ime = false
        ∧ t.ce.jobs = [] ∧ t.core.dram = [] ∧ t.core.dramEpoch = s.core.dramEpoch + 1 ∧ t.core.sram = s.core.sram
        ∧ (s.amindUp = true → t.supply = { s.supply with rstReq := true }
            ∧ t.aon.nextReq = if s.supply.rstReq then s.aon.nextReq else some .key)
        ∧ (s.amindUp = false → t.supply = s.supply ∧ t.aon = s.aon) ∧ t.ps = s.ps))

/-- Send requests of a CAN object: TX_REQ of an object that carries a valid frame is pending, of an invalid one it ends BAD_PARAM, in
listen-only mode WRONG_MODE, and of a pending one it changes nothing; TX_ABORT ends a request that is not on the bus ABORTED and keeps one
on the bus from being sent again; UPD = 0 raises a deferred request; a guarded write of a pending object receives TERR; MAP_TXDONE clears
what the reader's sets hold. No other object and no other channel changes.

The schedule matrix: a matrix whose cells are objects of the issuer waits for its change time, and takes force there with its first column
next, or stops the scheduler where all its cells are 0xFF; each column raises the requests of its cells, counts a cell whose request is
still pending as an overrun and one that is in no live set of the owner, or that it cannot send, as skipped, and defers one with UPD.

COMPLETION: where the conditions that its clauses put on the state and the operands hold, exec answers a next state with the effect stated
for CAN_SCHEDULE_CHANGE, CAN_SCHEDULE_COLUMN, CAN_SCHEDULE_SET, MAP_TXDONE_WRITE, OBJ_CONFIG_WRITE, OBJ_TX_ABORT_WRITE, OBJ_TX_REQ_WRITE,
OBJ_UPD_WRITE. -/
def Obligations.CanObjectsAndSchedule : Prop :=
  ((∀ (s : State) (n m : Nat) (a : Attr), n < 16 → m < 128 → s.sends a → s.fabricUp = true →
    s.portFree .write (writeX a (0x12000000 + n * 0x10000 + 0x4000 + m * 0x100 + 0x18) 1 0) →
    s.verdict a (0x12000000 + n * 0x10000 + 0x4000 + m * 0x100 + 0x18) 1 false true = .ok → s.objHeld n m = false →
      ((s.canObj n m).pend = true →
        Does (.objTxReqWrite n m a) s { s with core := { s.core with resp := { code := .ok, data := [] } } })
      ∧ ((s.canObj n m).pend = false → ∃ t, Does (.objTxReqWrite n m a) s t
          ∧ ((s.can n).cfg.mode ≠ 1 → (s.canObj n m).valid (s.can n).cfg (longObj n m) = true →
              (∀ e, s.setOf n m = some e → s.setOff e = false) → t.canObj n m = { s.canObj n m with pend := true })
          ∧ ((s.can n).cfg.mode ≠ 1 → (s.canObj n m).valid (s.can n).cfg (longObj n m) = false →
              t.canObj n m = { s.canObj n m with status := 0x0013, done := true, aborting := false })
          ∧ ((s.can n).cfg.mode = 1 → t.canObj n m = { s.canObj n m with status := 0x0014, done := true, aborting := false })
          ∧ (∀ k, k ≠ m → t.canObj n k = s.canObj n k) ∧ (∀ k, k ≠ n → t.can k = s.can k)
          ∧ t = { s with
              bus := { s.bus with can := t.bus.can }
              core := { s.core with resp := { code := .ok, data := [] }, imsics := t.core.imsics, pairs := t.core.pairs } })
      ∧ ((s.canObj n m).pend = true → ∃ t, Does (.objTxAbortWrite n m a) s t
          ∧ ((s.can n).tx ≠ some m → t.canObj n m = { s.canObj n m with status := 0x0201, pend := false, done := true, aborting := false })
          ∧ ((s.can n).tx = some m → t.canObj n m = { s.canObj n m with aborting := true })
          ∧ (∀ k, k ≠ m → t.canObj n k = s.canObj n k) ∧ (∀ k, k ≠ n → t.can k = s.can k))
      ∧ (∃ t, Does (.objUpdWrite n m a true) s t ∧ t.canObj n m = { s.canObj n m with upd := true }
          ∧ (∀ k, k ≠ m → t.canObj n k = s.canObj n k) ∧ (∀ k, k ≠ n → t.can k = s.can k))
      ∧ (∃ t, Does (.objUpdWrite n m a false) s t ∧ (t.canObj n m).upd = false ∧ (t.canObj n m).deferred = false
          ∧ ((s.canObj n m).deferred = false → (t.canObj n m).pend = (s.canObj n m).pend)
          ∧ ((s.canObj n m).deferred = true → (s.can n).cfg.mode ≠ 1 → (s.canObj n m).valid (s.can n).cfg (longObj n m) = true →
              (∀ e, s.setOf n m = some e → s.setOff e = false) → (t.canObj n m).pend = true)
          ∧ (∀ k, k ≠ m → t.canObj n k = s.canObj n k) ∧ (∀ k, k ≠ n → t.can k = s.can k)))
  ∧ (∀ (s : State) (n m : Nat) (x : Xact) (v : U32), n < 16 → m < 128 → s.sends x.attr → s.fabricUp = true → s.objHeld n m = false →
    x.addr.toNat = 0x12000000 + n * 0x10000 + 0x4000 + m * 0x100 + 4 → x.data = leBytes 4 v.toNat → s.portFree .write x →
    s.verdict x.attr (0x12000000 + n * 0x10000 + 0x4000 + m * 0x100 + 4) 4 false true = .ok →
      ((s.canObj n m).pend = true → Does (.objConfigWrite n m x) s { s with core := { s.core with resp := { code := .terr, data := [] } } })
      ∧ ((s.canObj n m).pend = false → ∃ t, Does (.objConfigWrite n m x) s t ∧ t.canObj n m = { s.canObj n m with id := v.setWidth 29 }
          ∧ (∀ k, k ≠ m → t.canObj n k = s.canObj n k) ∧ (∀ k, k ≠ n → t.can k = s.can k)
          ∧ t = { s with
              bus := { s.bus with can := t.bus.can }
              core := { s.core with resp := { code := .ok, data := [] } } }))
  ∧ (∀ (s : State) (n w : Nat) (a : Attr) (v : U32), n < 16 → w < 4 → s.sends a → s.fabricUp = true →
    s.portFree .write (writeX a (0x12000000 + n * 0x10000 + 0x3010 + w * 4) 4 0) → s.verdict a (0x12000000 + n * 0x10000 + 0x3010 + w * 4) 4 false true = .ok →
      ∃ t, Does (.mapTxdoneWrite n w a v) s t ∧ (∀ m, t.canObj n m = if w * 32 ≤ m ∧ m < w * 32 + 32 ∧ v.getLsbD (m - w * 32) = true
          ∧ s.admitObj a n m = true then { s.canObj n m with done := false } else s.canObj n m) ∧ (∀ k, k ≠ n → t.can k = s.can k)
        ∧ t = { s with
            bus := { s.bus with can := t.bus.can }
            core := { s.core with resp := { code := .ok, data := [] } } }))
  ∧ ((∀ (rq : Request) (s u : State) (n : Nat), u = s.heard rq → s.takes specCanScheduleSet rq okSchedule false → rq.route = .stall 0 → n = u8At rq.payload 0 →
    (u.fnOff 0 3 n = true → Replies (.canScheduleSet rq) rq s u { st := .fnDisabled })
    ∧ (u.fnOff 0 3 n = false → (∀ c, c ∈ rq.payload.drop 16 → c = 0xFF ∨ ∃ e, u.setOf n c.toNat = some e ∧ e.2.owner = 0 ∧ u.setWorld e.1 = false) →
      ∃ t, Replies (.canScheduleSet rq) rq s t {} ∧ (t.can n).sched.pend = some (matrixAt rq.payload 0 u.tb.localT.toNat).1
        ∧ (t.can n).sched.change = BitVec.ofNat 64 (matrixAt rq.payload 0 u.tb.localT.toNat).2 ∧ (t.can n).sched.run = (u.can n).sched.run
        ∧ (∀ k, k ≠ n → t.can k = u.can k) ∧ t = { u with bus := { u.bus with can := t.bus.can } })
    ∧ (u.fnOff 0 3 n = false → (∃ c, c ∈ rq.payload.drop 16 ∧ c ≠ 0xFF ∧ u.setOf n c.toNat = none) → Replies (.canScheduleSet rq) rq s u { st := .notOwner }))
  ∧ (∀ (s : State) (n : Nat) (m : Matrix), n < 2 → (s.can n).sched.pend = some m → ∃ t, Does (.canScheduleChange n) s t
      ∧ (t.can n).sched.run = (if m.cells.all (fun c => c = 0xFF) then none else some m) ∧ (t.can n).sched.pend = none
      ∧ (t.can n).sched.column = m.first ∧ (t.can n).sched.begun = false ∧ (∀ k, k ≠ n → t.can k = s.can k)
      ∧ t = { s with bus := { s.bus with can := t.bus.can } })
  ∧ (∀ (s : State) (n : Nat) (m : Matrix), n < 2 → (s.can n).sched.run = some m → (∀ o, (s.canObj n o).deferred = false) →
      ∃ t, Does (.canScheduleColumn n) s t
        ∧ (t.can n).sched.column = (if (s.can n).sched.begun then ((s.can n).sched.column + 1) % m.cols else m.first)
        ∧ (t.can n).sched.begun = true ∧ (t.can n).sched.run = some m ∧ (∀ k, k ≠ n → t.can k = s.can k)
        ∧ (∀ o, m.rows = 1 → o < 128 → (m.cells.getD (t.can n).sched.column 0xFF).toNat = o →
            (∀ e, s.setOf n o = some e → e.2.owner = m.owner ∧ s.setOff e = false ∧ s.setLive e.1 = true) → (s.setOf n o).isSome = true →
            (s.canObj n o).en = true → (s.canObj n o).dir = true →
              ((s.canObj n o).pend = true → (t.can n).sched.overrun = satInc (s.can n).sched.overrun ∧ t.canObj n o = s.canObj n o)
              ∧ ((s.canObj n o).pend = false → (s.canObj n o).upd = true → t.canObj n o = { s.canObj n o with deferred := true })
              ∧ ((s.canObj n o).pend = false → (s.canObj n o).upd = false → (s.can n).cfg.mode ≠ 1 →
                  (s.canObj n o).valid (s.can n).cfg (longObj n o) = true → t.canObj n o = { s.canObj n o with pend := true }))
        ∧ (∀ o, m.rows = 1 → o < 128 → (m.cells.getD (t.can n).sched.column 0xFF).toNat = o →
            (∀ e, s.setOf n o = some e → s.setLive e.1 = false) →
              (t.can n).sched.skip = satInc (s.can n).sched.skip ∧ t.canObj n o = s.canObj n o)))

/-- Sending on a CAN channel: the candidate of the lowest arbitration field starts, with the frame that its object carries, and a channel
without one receives what another node starts; a frame that was sent completes its request with OK and lowers TEC; a lost arbitration and an
error end a one-shot request with its status and leave any other pending; above 255 the node is bus-off; in FAST mode an error of the XL
data phase is neither signalled nor counted. By how much TEC and REC rise is PRESUMED of ISO 11898-1 (log entry 160).

Receiving on a CAN channel: a frame is counted and filtered by every set that takes part, and counted as unmatched where none does; a set
stores it in its first object that hears it and is free, and marks its last one that hears it LOST where none is free. Reading OBJ_RX_ID
takes the read lock, and OBJ_RX_END under the lock returns NEW, LOST and the frame count, clears them and ends it; without the lock it
returns INVALID. The lock's limit ends it.

COMPLETION: where the conditions that its clauses put on the state and the operands hold, exec answers a next state with the effect stated
for CAN_ARBITRATION_LOST, CAN_BUS_ERROR, CAN_FRAME_RECEIVED, CAN_LOCK_EXPIRY, CAN_PROTOCOL_EXCEPTION, CAN_TX_START, CAN_TX_SUCCESS,
OBJ_RX_END_READ, OBJ_RX_ID_READ. -/
def Obligations.CanFrames : Prop :=
  ((∀ (s : State) (n : Nat), n < 16 → ((s.can n).st = .active ∨ (s.can n).st = .passive) → (s.can n).integrating = false →
    (s.can n).tx = none → (s.can n).rxBusy = false →
      (∀ o : Bool, (s.can n).cfg.mode ≠ 1 → (s.can n).next = none → s.canCandidates n ≠ [] →
        ∃ t w, Does (.canTxStart ⟨n, o⟩) s t ∧ w ∈ s.canCandidates n
          ∧ (∀ c, c ∈ s.canCandidates n → w.1 < c.1 ∨ (w.1 = c.1 ∧ w.2 ≤ c.2))
          ∧ t.can n = { s.can n with tx := some w.2, sent := (t.can n).sent }
          ∧ (w.2 ≠ 128 → (t.can n).sent = (s.canObj n w.2).frame (decide ((s.can n).st = .passive)))
          ∧ (∀ k, k ≠ n → t.can k = s.can k) ∧ t = { s with bus := { s.bus with can := t.bus.can, gw := t.bus.gw } })
      ∧ ((s.can n).cfg.mode = 1 ∨ s.canCandidates n = [] → Does (.canTxStart ⟨n, true⟩) s { s with bus := { s.bus with
          can := Tab.upd s.bus.can n {} (fun c => { c with rxBusy := true }) } }))
  ∧ (∀ (o : CanObj) (p : Bool), (o.fdf = false → o.xlf = false → (o.frame p).dlc = o.len.toNat) ∧ (o.fdf = false → (o.frame p).brs = false)
      ∧ (o.xlf = true → (o.frame p).dlc = o.len.toNat - 1) ∧ (o.rtr = true → (o.frame p).data = [])
      ∧ (o.rtr = false → (o.frame p).data.length = o.len.toNat))
  ∧ (∀ (s : State) (n m : Nat), n < 16 → m < 128 → (s.can n).tx = some m → (s.canObj n m).pend = true →
      (∃ t, Does (.canTxSuccess n) s t ∧ t.canObj n m = { s.canObj n m with status := 0, pend := false, done := true, aborting := false }
        ∧ (t.can n).tx = none ∧ (t.can n).cnt.tx = (s.can n).cnt.tx + 1
        ∧ (t.can n).tec = (if (s.can n).tec = 0 then 0 else (s.can n).tec - 1)
        ∧ (∀ k, k ≠ m → t.canObj n k = s.canObj n k) ∧ (∀ k, k ≠ n → t.can k = s.can k) ∧ t.supply = s.supply ∧ t.aon = s.aon)
      ∧ (∃ t, Does (.canArbitrationLost n) s t ∧ (t.can n).tx = none ∧ (t.can n).rxBusy = true ∧ (t.can n).tec = (s.can n).tec
        ∧ ((s.canObj n m).aborting = false → (∀ e, s.setOf n m = some e → s.setOff e = false) →
            t.canObj n m = if (s.canObj n m).oneshot then { s.canObj n m with status := 0x0203, pend := false, done := true, aborting := false }
              else s.canObj n m)
        ∧ (∀ e, (s.canObj n m).aborting = false → s.setOf n m = some e → s.setOff e = true →
            t.canObj n m = { s.canObj n m with status := 0x0021, pend := false, done := true, aborting := false })
        ∧ ((s.canObj n m).aborting = true →
            t.canObj n m = { s.canObj n m with status := 0x0201, pend := false, done := true, aborting := false })
        ∧ (∀ k, k ≠ m → t.canObj n k = s.canObj n k) ∧ (∀ k, k ≠ n → t.can k = s.can k)))
  ∧ (∀ (s : State) (n : Nat) (kind : BitVec 3) (more : Nat) (spared : Bool), n < 16 → 12 ≤ n → (s.can n).cfg.xbt.getLsbD 30 = true →
    ((s.can n).st = .active ∨ (s.can n).st = .passive) → (s.can n).integrating = false → kind ≠ 0 → kind ≠ 7 →
      Does (.canBusError n ⟨kind, true⟩ more spared) s { s with bus := { s.bus with can := Tab.upd s.bus.can n {} (fun c => { c with rxBusy := false }) } })
  ∧ (∀ (s : State) (n : Nat) (kind : BitVec 3) (more : Nat) (spared xl : Bool), n < 16 → (xl = false ∨ s.xlFast n = false) →
    ((s.can n).st = .active ∨ (s.can n).st = .passive) → (s.can n).integrating = false → kind ≠ 0 → kind ≠ 7 → (s.can n).cfg.mode ≠ 1 →
      ∃ t, Does (.canBusError n ⟨kind, xl⟩ more spared) s t ∧ (t.can n).cnt.err = (s.can n).cnt.err + 1 ∧ (t.can n).lec = kind
        ∧ (spared = false → (s.can n).tx.isSome = true → (t.can n).tec.toNat = min 511 ((s.can n).tec.toNat + 8 + 8 * more)
            ∧ (t.can n).rec_ = (s.can n).rec_)
        ∧ (spared = false → (s.can n).tx = none → (t.can n).rec_.toNat = min 255 ((s.can n).rec_.toNat + 1 + 8 * more)
            ∧ (t.can n).tec = (s.can n).tec)
        ∧ (spared = true → (s.can n).tx.isSome = true → kind = 1 → (t.can n).tec.toNat = min 511 ((s.can n).tec.toNat + 8 * more))
        ∧ (spared = true → (s.can n).tx = none → kind = 4 → (t.can n).rec_.toNat = min 255 ((s.can n).rec_.toNat + 8 * more))
        ∧ (t.can n).tx = none ∧ (∀ k, k ≠ n → t.can k = s.can k)
        ∧ ((t.can n).tec.toNat ≤ 255 → (t.can n).st = (if 127 < (t.can n).tec.toNat ∨ 127 < (t.can n).rec_.toNat then .passive else .active)
            ∧ ∀ m, m < 128 → (s.can n).tx = some m → (s.canObj n m).pend = true → (s.canObj n m).aborting = false →
                (∀ e, s.setOf n m = some e → s.setOff e = false) →
                (s.canObj n m).oneshot = true → (t.canObj n m).status = 0x0202 ∧ (t.canObj n m).pend = false)
        ∧ (255 < (t.can n).tec.toNat → (t.can n).st = (if (s.can n).cfg.mode = 2 then .recovering else .busOffWait)
            ∧ (t.can n).cnt.busOff = (s.can n).cnt.busOff + 1 ∧ (t.can n).recov = 0)))
  ∧ ((∀ (s : State) (n : Nat) (f : CanFrame), n < 16 → ((s.can n).st = .active ∨ (s.can n).st = .passive) → (s.can n).integrating = false →
    (s.can n).tx = none →
      ((s.can n).cfg.takes f = true → ∃ t, Does (.canFrameReceived n f) s t ∧ (t.can n).cnt.rx = (s.can n).cnt.rx + 1
        ∧ (t.can n).rxBusy = false ∧ ((s.can n).cfg.mode ≠ 1 → (s.can n).rec_.toNat ≤ 127 → (t.can n).rec_.toNat = (s.can n).rec_.toNat - 1)
        ∧ ((s.can n).cfg.mode = 1 → (t.can n).rec_ = (s.can n).rec_) ∧ (t.can n).tec = (s.can n).tec
        ∧ ((∀ e, e ∈ s.bus.sets → e.1 / 128 ≠ n) → (t.can n).cnt.unmatched = (s.can n).cnt.unmatched + 1 ∧ ∀ m, t.canObj n m = s.canObj n m)
        ∧ (∀ k, k ≠ n → t.can k = s.can k) ∧ t.supply = s.supply ∧ t.aon = s.aon)
      ∧ ((s.can n).cfg.takes f = false → Does (.canProtocolException n f) s { s with bus := { s.bus with
          can := Tab.upd s.bus.can n {} (fun c => { c with rxBusy := false, integrating := true, cnt := { c.cnt with pex := c.cnt.pex + 1 } }) } }))
  ∧ (∀ (s : State) (n : Nat) (e : Nat × CanSet) (f : CanFrame) (a b : List Nat) (m : Nat),
      (List.range e.2.count).map (fun k => e.1 % 128 + k) = a ++ m :: b → (s.canObj n m).hears f (longObj n m) = true →
      ((s.canObj n m).lock = false → ((s.canObj n m).new = false ∨ (s.canObj n m).overwrite = true) →
        (∀ k, k ∈ a → (s.canObj n k).hears f (longObj n k) = true → (s.canObj n k).lock = true ∨ (s.canObj n k).new = true ∧ (s.canObj n k).overwrite = false) →
          (s.setFilter n e f).2 = true ∧ (s.setFilter n e f).1.canObj n m = (s.canObj n m).take f
          ∧ ∀ k, k ≠ m → (s.setFilter n e f).1.canObj n k = s.canObj n k)
      ∧ ((∀ k, k ∈ a ++ [m] → (s.canObj n k).hears f (longObj n k) = true → (s.canObj n k).lock = true ∨ (s.canObj n k).new = true ∧ (s.canObj n k).overwrite = false) →
          (∀ k, k ∈ b → (s.canObj n k).hears f (longObj n k) = false) →
          (s.setFilter n e f).2 = true ∧ (s.setFilter n e f).1.canObj n m = { s.canObj n m with lost := true }
          ∧ ((s.setFilter n e f).1.can n).cnt.lost = (s.can n).cnt.lost + 1))
  ∧ (∀ (s : State) (n m : Nat) (a : Attr), n < 16 → m < 128 → s.sends a → s.fabricUp = true →
    s.portFree .read (readX a (0x12000000 + n * 0x10000 + 0x4000 + m * 0x100 + 0x20) 4) →
    s.portFree .read (readX a (0x12000000 + n * 0x10000 + 0x4000 + m * 0x100 + 0xFC) 4) →
      (s.verdict a (0x12000000 + n * 0x10000 + 0x4000 + m * 0x100 + 0x20) 4 true false = .ok → (s.canObj n m).dir = false →
        ∃ t, Does (.objRxIdRead n m a) s t ∧ t.canObj n m = { s.canObj n m with lock := true } ∧ (∀ k, k ≠ m → t.canObj n k = s.canObj n k)
          ∧ (∀ k, k ≠ n → t.can k = s.can k) ∧ t = { s with
              bus := { s.bus with can := t.bus.can }
              core := { s.core with resp := { code := .ok, data := leBytes 4 (s.canObj n m).rxId.toNat } } })
      ∧ (s.verdict a (0x12000000 + n * 0x10000 + 0x4000 + m * 0x100 + 0xFC) 4 true false = .ok →
          ((s.canObj n m).lock = true → ∃ t, Does (.objRxEndRead n m a) s t
            ∧ t.canObj n m = { s.canObj n m with lock := false, new := false, lost := false, frames := 0 }
            ∧ t.core.resp = { code := .ok, data := leBytes 4 ((if (s.canObj n m).new then 1 else 0) + (if (s.canObj n m).lost then 2 else 0)
                + (s.canObj n m).frames.toNat * 256) }
            ∧ (∀ k, k ≠ m → t.canObj n k = s.canObj n k) ∧ (∀ k, k ≠ n → t.can k = s.can k))
          ∧ ((s.canObj n m).lock = false →
              Does (.objRxEndRead n m a) s { s with core := { s.core with resp := { code := .ok, data := [4, 0, 0, 0] } } }))
      ∧ ∃ t, Does (.canLockExpiry n m) s t ∧ t.canObj n m = { s.canObj n m with lock := false } ∧ (∀ k, k ≠ m → t.canObj n k = s.canObj n k)
          ∧ t = { s with bus := { s.bus with can := t.bus.can } }))

/-- CAN channels and sets: a set on free objects takes them, zeroed, with its handle, and overlapping objects are BUSY; a configuration
waits for the end of the frame and then starts the channel or stops it; recovery from bus-off needs 128 sequences of recessive bits;
integration ends; the wake filter is set.

COMPLETION: where the conditions that its clauses put on the state and the operands hold, exec answers a next state with the effect stated
for CAN_BUS_INTEGRATION, CAN_CHANNEL_CONFIG, CAN_CONFIG_APPLY, CAN_RECESSIVE_SEQUENCE, CAN_RECOVER, CAN_SET_CREATE, CAN_WAKE_FILTER. -/
def Obligations.CanChannelsAndSets : Prop :=
  (∀ (rq : Request) (s u : State), u = s.heard rq → s.takes specCanSetCreate rq (s.okCanSet 0 false) false → rq.route = .stall 0 →
    let chan := u8At rq.payload 0
    let first := u8At rq.payload 1
    let count := u8At rq.payload 2
    u.canSec chan = false → u.fnOff 0 3 chan = false →
      (u.bus.sets.any (fun e => e.1 / 128 = chan && e.1 % 128 < first + count && first < e.1 % 128 + e.2.count) = false →
        u.roomFor 2 chan 0 false count (u8At rq.payload 3) = true → (u.block (0x20 + chan)).st ≠ .off →
        ∃ t, Replies (.canSetCreate rq) rq s t {
            handle := some (mkHandle 2 0 (u.genOf 2 (chan * 128 + first)) (chan * 128 + first))
            payload := leBytes 8 (0x12000000 + chan * 0x10000 + 0x4000 + first * 0x100) }
          ∧ (∀ m, t.canObj chan m = if first ≤ m ∧ m < first + count then {} else u.canObj chan m) ∧ (∀ k, k ≠ chan → t.can k = u.can k)
          ∧ Tab.get t.bus.sets (chan * 128 + first) {} = { count := count, prio := u8At rq.payload 3, owner := 0 }
          ∧ (t.hLive 2 (chan * 128 + first)).isSome = true
          ∧ t = { u with mgmt := { u.mgmt with handles := t.mgmt.handles }, bus := { u.bus with can := t.bus.can, sets := t.bus.sets } })
      ∧ (u.bus.sets.any (fun e => e.1 / 128 = chan && e.1 % 128 < first + count && first < e.1 % 128 + e.2.count) = true →
          Replies (.canSetCreate rq) rq s u { st := .busy }))
  ∧ Serves .canChannelConfig specCanChannelConfig (fun _ _ p => okCanConfig p) false (fun rq _ => rq.route = .stall 0)
      (fun rq u => { u with bus := { u.bus with can := Tab.upd u.bus.can (u8At rq.payload 0) {} (fun c => { c with
        next := some (canCfgAt rq.payload) }) } }) (fun _ _ => {})
  ∧ (∀ (s : State) (n : Nat) (g : CanCfg), n < 16 → (s.can n).next = some g → (s.can n).tx = none → (s.can n).rxBusy = false → (s.block (0x20 + n)).st = .on →
      ∃ t, Does (.canConfigApply n) s t ∧ (t.can n).cfg = g ∧ (t.can n).next = none
        ∧ (g.en = false → (t.can n).st = .stopped)
        ∧ (g.en = true → ((s.can n).st = .stopped ∨ (s.can n).st = .active ∨ (s.can n).st = .passive) →
            (t.can n).st = .active ∧ (t.can n).tec = 0 ∧ (t.can n).rec_ = 0 ∧ (t.can n).integrating = true)
        ∧ (∀ k, k ≠ n → t.can k = s.can k) ∧ t.supply = s.supply ∧ t.aon = s.aon)
  ∧ (∀ (rq : Request) (s u : State) (n : Nat), u = s.heard rq → s.takes specCanRecover rq (fun p => p.length = 1 && u8At p 0 < 16) false → rq.route = .stall 0 →
      n = u8At rq.payload 0 →
      ((u.can n).st = .busOffWait → (u.can n).cfg.mode ≠ 2 → ∃ t, Replies (.canRecover rq) rq s t {} ∧ (t.can n).st = .recovering
        ∧ (t.can n).recov = 0 ∧ (∀ k, k ≠ n → t.can k = u.can k))
      ∧ ((u.can n).st ≠ .busOffWait → Replies (.canRecover rq) rq s u {}))
  ∧ (∀ (s : State) (n : Nat), n < 16 →
      ((s.can n).st = .recovering → ∃ t, Does (.canRecessiveSequence n) s t
        ∧ ((s.can n).recov.toNat < 127 → t.can n = { s.can n with recov := (s.can n).recov + 1 })
        ∧ ((s.can n).recov = 127 → (t.can n).st = .active ∧ (t.can n).tec = 0 ∧ (t.can n).rec_ = 0) ∧ (∀ k, k ≠ n → t.can k = s.can k))
      ∧ Does (.canBusIntegration n) s { s with bus := { s.bus with can := Tab.upd s.bus.can n {} (fun c => { c with integrating := false }) } })
  ∧ Serves .canWakeFilter specCanWakeFilter (fun _ _ p => okWakeFilter p) false (fun _ _ => True)
      (fun rq u => { u with bus := { u.bus with can := Tab.upd u.bus.can (u8At rq.payload 0) {} (fun c => { c with wake := {
        id := BitVec.ofNat 29 (u32At rq.payload 4), ide := u8At rq.payload 1 = 1, mask := BitVec.ofNat 29 (u32At rq.payload 8)
        dlc := BitVec.ofNat 4 (u8At rq.payload 2), data := BitVec.ofNat 64 (u64At rq.payload 12) } }) } }) (fun _ _ => {})

/-- Frames on a LIN channel: a commander's slot sends the header of its entry, with the response of a publish buffer, which ends UPDATED,
and awaits the response of any other; a sporadic entry without new data leaves the slot silent; a responder publishes, awaits or ignores; a
response with the checksum that the frame must carry is stored, its sequence raised and UPDATED set, and another is a checksum error (the
checksum's form is PRESUMED, log entry 55); an error and no response are counted and kept in the buffer. No other channel
changes.

LIN channels: a go-to-sleep command, 4 idle seconds and the commander's own order put the bus to sleep and a wake-up ends it; a write of
DATA_HI completes new data of a publish buffer and leaves that of a subscribe buffer, and a read of FRM_STAT returns and clears UPDATED;
LIN_CREATE enables a channel with its role and rate; a table is set, at the end of the slot where it is running.

COMPLETION: where the conditions that its clauses put on the state and the operands hold, exec answers a next state with the effect stated
for LIN_BUS_IDLE_TIMEOUT, LIN_CREATE, LIN_FRM_DATA_HI_WRITE, LIN_FRM_STAT_READ, LIN_GOTO_SLEEP_RECEIVED, LIN_GOTO_SLEEP_WRITE,
LIN_HEADER_RECEIVED, LIN_NO_RESPONSE, LIN_RESPONSE_ERROR, LIN_RESPONSE_RECEIVED, LIN_SCHED_SEL_WRITE, LIN_SCHEDULE_SET, LIN_SLOT_START,
LIN_WAKE_WRITE, LIN_WAKEUP_DETECTED. -/
def Obligations.LinBus : Prop :=
  ((∀ (s : State) (n : Nat) (e : LinEntry), n < 8 → s.linRuns n = true → (s.lin n).responder = false → (s.lin n).goSleep = false →
    (s.lin n).run = true → ((s.lin n).st = .active ∨ (s.lin n).st = .waking) → (s.lin n).begun = false →
    Tab.get (s.lin n).tables (s.lin n).sel.toNat [] = e :: (Tab.get (s.lin n).tables (s.lin n).sel.toNat []).tail → (s.lin n).nextTable = none →
      ∃ t, Does (.linSlotStart n) s t ∧ (t.lin n).table = (s.lin n).sel ∧ (t.lin n).entry = 0 ∧ (t.lin n).begun = true ∧ (t.lin n).st = .active
        ∧ (e.typ = 2 → ((s.lin n).buf e.id).updated = false → (t.lin n).header = none ∧ (t.lin n).bufs = (s.lin n).bufs)
        ∧ (e.typ = 0 → ((s.lin n).buf e.id).dir = 1 → (t.lin n).header = none
            ∧ (t.lin n).buf e.id = { (s.lin n).buf e.id with updated := false } ∧ (t.lin n).sent = ((s.lin n).buf e.id).response e.id)
        ∧ (e.typ = 0 → ((s.lin n).buf e.id).dir ≠ 1 → (t.lin n).header = some (e.id, 0) ∧ (t.lin n).bufs = (s.lin n).bufs)
        ∧ (∀ k, k ≠ n → t.lin k = s.lin k) ∧ t.bus.can = s.bus.can ∧ t.supply = s.supply)
  ∧ (∀ (s : State) (n id : Nat), n < 8 → id < 64 → s.linRuns n = true → (s.lin n).responder = true →
    ((s.lin n).st = .active ∨ (s.lin n).st = .waking) →
      ∃ t, Does (.linHeaderReceived n id) s t ∧ (t.lin n).st = .active
        ∧ (((s.lin n).buf id).dir = 1 → (t.lin n).header = none ∧ (t.lin n).buf id = { (s.lin n).buf id with updated := false }
            ∧ (t.lin n).sent = ((s.lin n).buf id).response id)
        ∧ (((s.lin n).buf id).dir = 2 → (t.lin n).header = some (id, 0) ∧ (t.lin n).bufs = (s.lin n).bufs)
        ∧ (((s.lin n).buf id).dir ≠ 1 → ((s.lin n).buf id).dir ≠ 2 → (t.lin n).header = none ∧ (t.lin n).bufs = (s.lin n).bufs)
        ∧ (∀ k, k ≠ n → t.lin k = s.lin k))
  ∧ (∀ (s : State) (n id typ : Nat), n < 8 → (s.lin n).header = some (id, typ) →
      (∀ d : List Byte, ((s.lin n).buf id).dir = 2 → ((s.lin n).buf id).valid id d = true → ∃ t, Does (.linResponseReceived n d) s t ∧ (t.lin n).header = none
        ∧ ((t.lin n).buf id).seq = ((s.lin n).buf id).seq + 1 ∧ ((t.lin n).buf id).updated = true ∧ ((t.lin n).buf id).err = 0
        ∧ (((s.lin n).buf id).len = 8 → ((t.lin n).buf id).lo = BitVec.ofNat 32 (leNat (d.take 4))
            ∧ ((t.lin n).buf id).hi = BitVec.ofNat 32 (leNat ((d.drop 4).take 4)))
        ∧ (∀ j, j ≠ id → (t.lin n).buf j = (s.lin n).buf j) ∧ (∀ k, k ≠ n → t.lin k = s.lin k))
      ∧ (∀ d : List Byte, exec (.linResponseError n (.checksum d)) s = exec (.linResponseReceived n d) s)
      ∧ (∀ d : List Byte, ((s.lin n).buf id).dir ≠ 2 → Does (.linResponseReceived n d) s { s with bus := { s.bus with
          lin := Tab.upd s.bus.lin n {} (fun l => { l with header := none }) } })
      ∧ (∀ d : List Byte, ((s.lin n).buf id).dir = 2 → ((s.lin n).buf id).valid id d = false →
          ∃ t, Does (.linResponseReceived n d) s t ∧ (t.lin n).header = none ∧ ((t.lin n).buf id).err = 2
          ∧ (t.lin n).checksum = satInc (s.lin n).checksum ∧ (t.lin n).event = (s.lin n).event ||| 1 ∧ (∀ k, k ≠ n → t.lin k = s.lin k))
      ∧ (∃ t, Does (.linResponseError n .framing) s t ∧ (t.lin n).header = none ∧ ((t.lin n).buf id).err = 3
          ∧ (t.lin n).event = (s.lin n).event ||| 1 ∧ (∀ k, k ≠ n → t.lin k = s.lin k))
      ∧ (∃ t, Does (.linResponseError n .collision) s t ∧ (t.lin n).header = none ∧ ((t.lin n).buf id).err = 4
          ∧ (typ ≠ 1 → (t.lin n).event = (s.lin n).event ||| 1 ∧ (t.lin n).table = (s.lin n).table)
          ∧ (typ = 1 → (t.lin n).event = (s.lin n).event ||| 8
              ∧ ((s.lin n).crt = (s.lin n).table → (t.lin n).nextTable = (s.lin n).nextTable)
              ∧ ((s.lin n).crt ≠ (s.lin n).table → (t.lin n).table = (s.lin n).crt
                  ∧ ((s.lin n).nextTable = none → (t.lin n).resume = some ((s.lin n).table, (s.lin n).entry + 1))
                  ∧ (∀ l, (s.lin n).nextTable = some l → (t.lin n).resume = some ((s.lin n).table, 0)
                      ∧ (t.lin n).tables = Tab.put (s.lin n).tables (s.lin n).table.toNat l)))
          ∧ (∀ k, k ≠ n → t.lin k = s.lin k))
      ∧ ∃ t, Does (.linNoResponse n) s t ∧ (t.lin n).header = none ∧ ((t.lin n).buf id).err = 1
          ∧ (t.lin n).noResp = satInc (s.lin n).noResp ∧ (t.lin n).event = (s.lin n).event ||| 1 ∧ (∀ k, k ≠ n → t.lin k = s.lin k)))
  ∧ (∀ (b : LinBuf) (id : Nat), b.len ≤ 8 → b.valid id (b.response id) = true)
  ∧ ((∀ (s : State) (n : Nat), n < 8 → (s.lin n).en = true →
    (((s.lin n).st = .active ∨ (s.lin n).st = .waking) →
      (∃ t, Does (.linBusIdleTimeout n) s t ∧ (t.lin n).st = .busSleep ∧ (t.lin n).header = none
        ∧ (t.lin n).event = (s.lin n).event ||| 2 ∧ (t.lin n).bufs = (s.lin n).bufs ∧ (∀ k, k ≠ n → t.lin k = s.lin k))
      ∧ ((s.lin n).responder = true → ∃ t, Does (.linGotoSleepReceived n) s t ∧ (t.lin n).st = .busSleep
          ∧ (t.lin n).event = (s.lin n).event ||| 2 ∧ (∀ k, k ≠ n → t.lin k = s.lin k)))
    ∧ ((s.lin n).st = .busSleep → ∃ t, Does (.linWakeupDetected n) s t ∧ (t.lin n).st = .waking
        ∧ (t.lin n).event = (s.lin n).event ||| 4 ∧ (∀ k, k ≠ n → t.lin k = s.lin k)))
  ∧ (∀ (s : State) (n id : Nat) (a : Attr) (v : U32), n < 8 → id < 64 → s.sends a → s.fabricUp = true →
      (s.portFree .write (writeX a (0x13200000 + n * 0x1000 + 0x40C + id * 0x10) 4 0) →
        s.verdict a (0x13200000 + n * 0x1000 + 0x40C + id * 0x10) 4 false true = .ok → ∃ t, Does (.linFrmDataHiWrite n id a v) s t
        ∧ (((s.lin n).buf id).dir = 2 → (t.lin n).buf id = (s.lin n).buf id)
        ∧ (((s.lin n).buf id).dir = 1 → (t.lin n).buf id = { (s.lin n).buf id with hi := v, seq := ((s.lin n).buf id).seq + 1, updated := true })
        ∧ (∀ j, j ≠ id → (t.lin n).buf j = (s.lin n).buf j) ∧ (∀ k, k ≠ n → t.lin k = s.lin k)
        ∧ t = { s with
            bus := { s.bus with lin := t.bus.lin }
            core := { s.core with resp := { code := .ok, data := [] } } })
      ∧ (s.portFree .read (readX a (0x13200000 + n * 0x1000 + (0x404 + id * 0x10)) 4) →
        s.verdict a (0x13200000 + n * 0x1000 + (0x404 + id * 0x10)) 4 true false = .ok → ∃ t, Does (.linFrmStatRead n id a) s t
        ∧ (t.lin n).buf id = { (s.lin n).buf id with updated := false } ∧ t.core.resp.code = .ok
        ∧ t.core.resp.data = leBytes 4 (((s.lin n).buf id).seq.toNat + (if ((s.lin n).buf id).updated then 65536 else 0)
            + ((s.lin n).buf id).err.toNat * 131072)
        ∧ (∀ j, j ≠ id → (t.lin n).buf j = (s.lin n).buf j) ∧ (∀ k, k ≠ n → t.lin k = s.lin k)))
  ∧ (∀ (s : State) (n : Nat) (a : Attr), n < 8 → s.sends a → s.fabricUp = true →
    s.portFree .write (writeX a (0x13200000 + n * 0x1000 + 4) 1 0) → s.verdict a (0x13200000 + n * 0x1000 + 4) 1 false true = .ok →
      (∃ t, Does (.linGotoSleepWrite n a) s t ∧ (t.lin n).goSleep = ((s.lin n).goSleep || (!(s.lin n).responder && (s.lin n).en))
        ∧ (t.lin n).st = (s.lin n).st ∧ (∀ k, k ≠ n → t.lin k = s.lin k))
      ∧ (∃ t, Does (.linWakeWrite n a) s t
        ∧ ((s.lin n).en = true → (s.lin n).st = .busSleep → (t.lin n).st = .waking ∧ (t.lin n).pulses = (s.lin n).pulses + 1)
        ∧ (t.lin n).bufs = (s.lin n).bufs ∧ (∀ k, k ≠ n → t.lin k = s.lin k))
      ∧ ∀ v : BitVec 2, ∃ t, Does (.linSchedSelWrite n a v) s t ∧ (t.lin n).sel = v ∧ (t.lin n).switch = ((s.lin n).switch || (s.lin n).run)
        ∧ (t.lin n).table = (s.lin n).table ∧ (∀ k, k ≠ n → t.lin k = s.lin k))
  ∧ (∀ (rq : Request) (s u : State), u = s.heard rq → s.takes specLinCreate rq (s.okLinCreate 0 false) false → rq.route = .stall 0 →
    let n := u8At rq.payload 0
    u.linSec n = false → u.fnOff 0 4 n = false →
      (u.hFind 3 n = none → u.linRoom n 0 = true → (u.block (0x30 + n)).st ≠ .off → (u.lin n).st = .stopped →
        ∃ t, Replies (.linCreate rq) rq s t { handle := some (mkHandle 3 0 (u.genOf 3 n) n), payload := leBytes 8 (0x13200000 + n * 0x1000) }
          ∧ t.lin n = { u.lin n with
              en := true, responder := decide (u8At rq.payload 1 = 1), rate := u32At rq.payload 4
              run := (u.lin n).run && decide (u8At rq.payload 1 = 0), halted := false, st := .active }
          ∧ (∀ k, k ≠ n → t.lin k = u.lin k) ∧ (t.hLive 3 n).isSome = true
          ∧ t = { u with mgmt := { u.mgmt with handles := t.mgmt.handles }, bus := { u.bus with lin := t.bus.lin } })
      ∧ ((u.hFind 3 n).isSome = true → Replies (.linCreate rq) rq s u { st := .busy }))
  ∧ (∀ (rq : Request) (s u : State), u = s.heard rq → s.takes specLinScheduleSet rq (s.okLinSchedule (hIndex rq.handle)) false → rq.route = .stall 0 →
    let n := hIndex rq.handle
    u.linOff n = false →
      ((u.lin n).run = true → (u.lin n).begun = true → (u.lin n).table.toNat = u8At rq.payload 0 → ∃ t, Replies (.linScheduleSet rq) rq s t {}
        ∧ t.lin n = { u.lin n with nextTable := some (linEntries rq.payload) } ∧ (∀ k, k ≠ n → t.lin k = u.lin k)
        ∧ t = { u with bus := { u.bus with lin := t.bus.lin } })
      ∧ ((u.lin n).run = false ∨ (u.lin n).table.toNat ≠ u8At rq.payload 0 → ∃ t, Replies (.linScheduleSet rq) rq s t {}
        ∧ t.lin n = { u.lin n with tables := Tab.put (u.lin n).tables (u8At rq.payload 0) (linEntries rq.payload) }
        ∧ (∀ k, k ≠ n → t.lin k = u.lin k) ∧ t = { u with bus := { u.bus with lin := t.bus.lin } })))

/-- The frame gateway: a tapped frame is counted and, where no rule matches, counted as unmatched; the first rule that matches is counted, and one
that forwards to an open CAN channel puts the frame, converted, into that channel's queue in arbitration order; a full queue drops it. A frame
from Ethernet that is no NTSCF frame is counted, an entry too old leaves its queue, and a held batch leaves as one frame.

The rules of the gateway: GW_RULE_SET puts a rule whole and keeps its counters, GW_RULE_CLEAR frees it, a rule over a secure channel or a
secure rule is DENIED to MGR, and GW_STATS answers the three counters.

COMPLETION: where the conditions that its clauses put on the state and the operands hold, exec answers a next state with the effect stated
for GATEWAY_BATCH_HOLD_EXPIRY, GATEWAY_ETH_FRAME, GATEWAY_QUEUE_AGE_EXPIRY, GATEWAY_TAP, GW_RULE_CLEAR, GW_RULE_SET, GW_STATS. -/
def Obligations.GatewayTransfer : Prop :=
  ((∀ (s : State) (src : TapSource), tapKnown src = true → s.tapLive src = true → s.bus.gw.en = true → (∀ r, r ∈ s.bus.gw.rules → r.2.hits (tapped src) = false) →
    Does (.gatewayTap src) s { s with bus := { s.bus with gw := { s.bus.gw with tap := s.bus.gw.tap + 1, unmatched := s.bus.gw.unmatched + 1 } } })
  ∧ (∀ (s : State) (src : TapSource) (n : Nat) (r : GwRule) (f : CanFrame), tapKnown src = true → s.tapLive src = true → s.bus.gw.en = true → s.bus.gw.rules = [(n, r)] →
    r.hits (tapped src) = true → r.action = 1 → r.dest.toNat < 16 → r.toCan (tapped src) (s.can r.dest.toNat) r.dest.toNat = some f →
      ∃ t, Does (.gatewayTap src) s t ∧ (Tab.get t.bus.gw.rules n {}).matched = r.matched + 1 ∧ t.bus.gw.tap = s.bus.gw.tap + 1
        ∧ ((Tab.get s.bus.gw.queues r.dest.toNat []).length < 32 → (s.can r.dest.toNat).st ≠ .stopped → (s.can r.dest.toNat).cfg.mode ≠ 1 →
            (Tab.get t.bus.gw.rules n {}).forwarded = r.forwarded + 1
            ∧ Tab.get t.bus.gw.queues r.dest.toNat []
              = queueIn (Tab.get s.bus.gw.queues r.dest.toNat []) { frame := f, time := s.tb.localT, id := s.bus.gw.nextId })
        ∧ (32 ≤ (Tab.get s.bus.gw.queues r.dest.toNat []).length → (Tab.get t.bus.gw.rules n {}).dropped = r.dropped + 1
            ∧ t.bus.gw.queueDrop = s.bus.gw.queueDrop + 1 ∧ t.bus.gw.queues = s.bus.gw.queues)
        ∧ t.bus.can = s.bus.can ∧ t = { s with bus := { s.bus with gw := t.bus.gw } })
  ∧ (∀ (q : List GwEntry) (e : GwEntry), q.Pairwise (fun a b => a.frame.key ≤ b.frame.key) →
      (queueIn q e).Pairwise (fun a b => a.frame.key ≤ b.frame.key) ∧ (∀ x, x ∈ queueIn q e ↔ x ∈ q ∨ x = e)
      ∧ (queueIn q e).length = q.length + 1)
  ∧ (∀ (s : State) (src : TapSource), tapKnown src = true → s.tapLive src = false → exec (.gatewayTap src) s = .next s)
  ∧ (∀ (s : State) (k : Nat), s.bus.gw.en = true → s.bus.gw.inbox.has k = true → ntscfParse (Tab.get s.bus.gw.inbox k []) = none →
      Does (.gatewayEthFrame k) s { s with bus := { s.bus with gw := { s.bus.gw with
        inbox := Tab.drop s.bus.gw.inbox k, tap := s.bus.gw.tap + 1, unparsed := s.bus.gw.unparsed + 1, event := s.bus.gw.event ||| 4 } } })
  ∧ (∀ (s : State) (k : Nat) (st : U64) (m : List Byte) (bus : Nat) (f : CanFrame), s.bus.gw.en = true → s.bus.gw.inbox.has k = true →
      ntscfParse (Tab.get s.bus.gw.inbox k []) = some (st, [(1, m)]) → acfFrame 1 m = some (bus, f) →
      Does (.gatewayEthFrame k) s (State.tap { s with bus := { s.bus with gw := { s.bus.gw with
        inbox := Tab.drop s.bus.gw.inbox k, tap := s.bus.gw.tap + 1 } } }
        { kind := 3, num := bus, f := f, stream := st }))
  ∧ (∀ (s : State) (n i : Nat), n < 16 → (Tab.get s.bus.gw.queues n []).any (fun e => e.id = i) = true →
      Does (.gatewayQueueAgeExpiry n i) s { s with bus := { s.bus with gw := { s.bus.gw with
        queues := Tab.put s.bus.gw.queues n ((Tab.get s.bus.gw.queues n []).filter (fun e => e.id ≠ i))
        ageDrop := s.bus.gw.ageDrop + 1, event := s.bus.gw.event ||| 2 } } })
  ∧ (∀ (s : State) (n : Nat), n < 4096 → (Tab.get s.bus.gw.rules n {}).batchMsgs ≠ [] → ∃ t, Does (.gatewayBatchHoldExpiry n) s t
      ∧ (Tab.get t.bus.gw.rules n {}).batchMsgs = [] ∧ (Tab.get t.bus.gw.rules n {}).seq = (Tab.get s.bus.gw.rules n {}).seq + 1
      ∧ t.bus.can = s.bus.can ∧ t.bus.lin = s.bus.lin ∧ t.aon = s.aon ∧ t.supply = s.supply))
  ∧ ((∀ (rq : Request) (s u : State) (n : Nat), u = s.heard rq → s.takes specGwRuleSet rq okRuleSet false → rq.route = .stall 0 → n = u16At rq.payload 0 →
    ((u.ruleSecure (ruleAt rq.payload 4) = true ∨ (Tab.get u.bus.gw.rules n {}).secure = true) →
      Replies (.gwRuleSet rq) rq s u { st := .denied })
    ∧ (u.ruleSecure (ruleAt rq.payload 4) = false → (Tab.get u.bus.gw.rules n {}).secure = false → (Tab.get u.bus.gw.rules n {}).batchMsgs = [] →
        ∃ t, Replies (.gwRuleSet rq) rq s t {} ∧ Tab.get t.bus.gw.rules n {} = { ruleAt rq.payload 4 with
            secure := false, matched := (Tab.get u.bus.gw.rules n {}).matched, forwarded := (Tab.get u.bus.gw.rules n {}).forwarded
            dropped := (Tab.get u.bus.gw.rules n {}).dropped, seq := (Tab.get u.bus.gw.rules n {}).seq, batchMsgs := [] }
          ∧ (∀ k, k ≠ n → Tab.get t.bus.gw.rules k {} = Tab.get u.bus.gw.rules k {})
          ∧ t = { u with bus := { u.bus with gw := { u.bus.gw with rules := t.bus.gw.rules } } }))
  ∧ (∀ (rq : Request) (s u : State) (n : Nat), u = s.heard rq → s.takes specGwRuleClear rq (fun p => p.length = 2 && u16At p 0 < 4096) false →
    rq.route = .stall 0 → n = u16At rq.payload 0 → (Tab.get u.bus.gw.rules n {}).secure = false → (Tab.get u.bus.gw.rules n {}).batchMsgs = [] →
      ∃ t, Replies (.gwRuleClear rq) rq s t {} ∧ (Tab.get t.bus.gw.rules n {}).kind = 0 ∧ (Tab.get t.bus.gw.rules n {}).action = 0
        ∧ (∀ k, k ≠ n → Tab.get t.bus.gw.rules k {} = Tab.get u.bus.gw.rules k {})
        ∧ t = { u with bus := { u.bus with gw := { u.bus.gw with rules := t.bus.gw.rules } } })
  ∧ Serves .gwStats specGwStats (fun _ _ p => p.length = 2 && u16At p 0 < 4096) false (fun _ _ => True) (fun _ u => u)
      (fun rq u => {
        payload := leBytes 8 (Tab.get u.bus.gw.rules (u16At rq.payload 0) {}).matched.toNat
          ++ leBytes 8 (Tab.get u.bus.gw.rules (u16At rq.payload 0) {}).forwarded.toNat
          ++ leBytes 8 (Tab.get u.bus.gw.rules (u16At rq.payload 0) {}).dropped.toNat }))

/-- The output image pages and the commands of load channels: an owner's write of LOAD_OUT is the channel's command and ends a hold, one of
a mask register switches the channels of the mask that it owns, and a write that names another's channel changes none of them and is
counted; a group takes channels that no group covers; a configuration is applied within the load budget and refused beyond it; LOAD_SET
lists the channels that a latch keeps off; latches are cleared, but an H thermal latch that is too hot, and one that was set in the same
cycle, stay. A change of DUTY of a channel that is on takes effect at its next period start; a new group's entries read the state in force.

COMPLETION: where the conditions that its clauses put on the state and the operands hold, exec answers a next state with the effect stated
for LOAD_CHANNEL_CONFIG, LOAD_GROUP_CREATE, LOAD_LATCH_CLEAR, LOAD_ON_CLR_WRITE, LOAD_ON_SET_WRITE, LOAD_OUT_WRITE, LOAD_SET, LOAD_STATUS. -/
def Obligations.LoadCommands : Prop :=
  (∀ (s : State) (p c : Nat) (a : Attr) (v : U32), p < 64 → c < 60 → s.sends a → s.fabricUp = true →
    s.portFree .write (writeX a (0x13400000 + p * 0x1000 + c * 8) 4 0) → s.verdict a (0x13400000 + p * 0x1000 + c * 8) 4 false true = .ok →
      (s.loadReach a.inst.toNat a.sec c = .mine → ∃ t, Does (.loadOutWrite p c a 0xFFFFFFFF v) s t
        ∧ (t.load c).out = { on := v.getLsbD 0, duty := min (v.extractLsb' 16 10).toNat 1000 } ∧ (t.load c).owned = true
        ∧ (t.load c).held = none ∧ (t.load c).cfg.policy = (s.load c).cfg.policy ∧ (∀ k, k ≠ c → t.load k = s.load k)
        ∧ t = { s with ps := t.ps, core := t.core } ∧ t.core.dram = s.core.dram ∧ t.core.resp = { code := .ok, data := [] })
      ∧ (s.loadReach a.inst.toNat a.sec c = .other → Does (.loadOutWrite p c a 0xFFFFFFFF v) s { s with
          ps := { s.ps with ignored := Tab.upd s.ps.ignored p 0 satInc }
          core := { s.core with resp := { code := .ok, data := [] } } }))
  ∧ (∀ (s : State) (p : Nat) (a : Attr) (m : U64) (on : Bool), p < 64 → s.sends a → s.fabricUp = true →
    s.portFree .write (writeX a (0x13400000 + p * 0x1000 + (if on then 0x200 else 0x208)) 8 0) → s.verdict a (0x13400000 + p * 0x1000 + (if on then 0x200 else 0x208)) 8 false true = .ok →
      ∃ t, Does (if on then .loadOnSetWrite p a m else .loadOnClrWrite p a m) s t ∧ ∀ c, c < 60 →
        (m.getLsbD c = true → s.loadReach a.inst.toNat a.sec c = .mine →
          (t.load c).out = { (s.load c).out with on := on } ∧ (t.load c).owned = true ∧ (t.load c).held = none)
        ∧ (m.getLsbD c = false ∨ s.loadReach a.inst.toNat a.sec c ≠ .mine → t.load c = s.load c))
  ∧ (∀ (s : State) (c : Nat), ((s.loadDrive c).load c).drive = .off ↔ ((s.loadOff c).isSome = true ∨ s.cmdLit c = false))
  ∧ (∀ (s : State) (c : Nat), (s.cmdLit c = true ↔ (s.loadCmd c).1.on = true ∧ s.dutyNow c ≠ 0)
      ∧ ((s.load c).drive = .off → s.dutyNow c = (s.loadCmd c).1.duty)
      ∧ ((s.load c).dutyFrom.toNat ≤ s.tb.localT.toNat → s.dutyNow c = (s.loadCmd c).1.duty)
      ∧ ((s.load c).drive ≠ .off → s.tb.localT.toNat < (s.load c).dutyFrom.toNat → s.dutyNow c = (s.load c).dutyOld))
  ∧ (∀ (rq : Request) (s u : State), u = s.heard rq → s.takes specLoadGroupCreate rq (s.okLoadGroup 0 false) false → rq.route = .stall 0 → u.fnOff 0 7 0 = false →
    let mask := BitVec.ofNat 64 (u64At rq.payload 0)
    (u.ps.groups.any (fun e => e.2.mask &&& mask ≠ 0) = true → Replies (.loadGroupCreate rq) rq s u { st := .busy })
    ∧ (u.ps.groups.any (fun e => e.2.mask &&& mask ≠ 0) = false → (∃ c, c < 60 ∧ mask.getLsbD c = true ∧ u.loadMay 0 false c = false) →
        Replies (.loadGroupCreate rq) rq s u { st := .noResource })
    ∧ (u.ps.groups.any (fun e => e.2.mask &&& mask ≠ 0) = false → (∀ c, c < 60 → mask.getLsbD c = true → u.loadMay 0 false c = true) →
        u.handleRoom = true → ∃ t, Replies (.loadGroupCreate rq) rq s t {
            handle := some (mkHandle 4 0 (u.genOf 4 (lowest mask)) (lowest mask)) }
          ∧ Tab.get t.ps.groups (lowest mask) {} = { mask := mask, owner := 0, sec := false } ∧ (t.hLive 4 (lowest mask)).isSome = true
          ∧ (∀ c, c < 60 → mask.getLsbD c = true → (t.load c).owned = false ∧ (t.load c).drive = (u.load c).drive
              ∧ (t.load c).out = (u.loadCmd c).1)
          ∧ (∀ c, mask.getLsbD c = false → t.load c = u.load c)
          ∧ t = { u with mgmt := { u.mgmt with handles := t.mgmt.handles }, ps := t.ps }))
  ∧ (∀ (rq : Request) (s u : State), u = s.heard rq →
    s.takes specLoadChannelConfig rq (s.okLoadConfig (hIndex rq.handle)) false → rq.route = .stall 0 →
    let c := u8At rq.payload 0
    let v : State := { u with ps := { u.ps with chans := (u.updLoad c (fun ch => { ch with
      cfg := ch.cfg.withRecord (loadClass c) rq.payload, recorded := true })).ps.chans } }
    (v.budgetOk = false → Replies (.loadChannelConfig rq) rq s u { st := .noResource })
    ∧ (v.budgetOk = true → ∃ t, Replies (.loadChannelConfig rq) rq s t {} ∧ (t.load c).cfg.policy = u8At rq.payload 1
        ∧ (t.load c).cfg.safeVal = decide (u8At rq.payload 2 = 1) ∧ (t.load c).cfg.budgeted = true ∧ (t.load c).cfg.xsec = u16At rq.payload 12
        ∧ (t.load c).held = (u.load c).held ∧ (t.load c).recorded = true ∧ (∀ k, k ≠ c → t.load k = u.load k) ∧ t.mgmt = u.mgmt ∧ t.supply = u.supply))
  ∧ (∀ (rq : Request) (s u : State), u = s.heard rq → s.takes specLoadSet rq (s.okLoadSet (hIndex rq.handle)) false → rq.route = .stall 0 →
    let g := Tab.get u.ps.groups (hIndex rq.handle) {}
    let l := (chansOf (BitVec.ofNat 64 (u64At rq.payload 0))).filter (fun c =>
      (BitVec.ofNat 64 (u64At rq.payload 8)).getLsbD c && (u.load c).prot.latched)
    u.fnOffFor g.owner g.sec 7 0 = false → ∃ t, Replies (.loadSet rq) rq s t {
        st := if l = [] then .ok else .latched
        payload := leBytes 8 (l.foldl (fun (m : U64) c => m ||| bitOf 64 c) 0).toNat }
      ∧ t.mgmt = u.mgmt ∧ ∀ c, c < 60 → (BitVec.ofNat 64 (u64At rq.payload 0)).getLsbD c = true → u.loadReach g.owner g.sec c = .mine →
          (t.load c).out = { (u.load c).out with on := (BitVec.ofNat 64 (u64At rq.payload 8)).getLsbD c } ∧ (t.load c).owned = true)
  ∧ (∀ (rq : Request) (s u : State), u = s.heard rq → s.takes specLoadLatchClear rq (s.okLatchClear (hIndex rq.handle)) false → rq.route = .stall 0 →
    let c := u8At rq.payload 0
    let n := u8At rq.payload 1 - (u8At rq.payload 1 &&& (u.load c).prot.freshBits u.tb.localT)
    (n.testBit 1 = true → (u.load c).prot.th = true → c < 12 → (((u.load c).cfg.thLimit : Int) - 20) * 10 < (u.load c).prot.fet →
      Replies (.loadLatchClear rq) rq s u { st := .busy })
    ∧ ((n.testBit 1 = false ∨ (u.load c).prot.th = false ∨ 12 ≤ c
        ∨ (u.load c).prot.fet ≤ (((u.load c).cfg.thLimit : Int) - 20) * 10) →
        ∃ t p, Replies (.loadLatchClear rq) rq s t { payload := [p] }
          ∧ (t.load c).prot.oc = ((u.load c).prot.oc && !n.testBit 0)
          ∧ (t.load c).prot.th = ((u.load c).prot.th && !n.testBit 1)
          ∧ (t.load c).prot.wire = ((u.load c).prot.wire && !n.testBit 2)
          ∧ ((u.load c).prot.wire = true → n.testBit 2 = true → (t.load c).drive ≠ .off ∨ (t.load c).prot.wireHot = true)
          ∧ (∀ k, k ≠ c → t.load k = u.load k) ∧ t.supply = u.supply ∧ t.aon = u.aon))
  ∧ Serves .loadStatus specLoadStatus (fun _ _ p => p = []) false (fun rq _ => rq.route = .stall 0) (fun _ u => u)
      (fun rq u => {
        payload := leBytes 2 (chansOf (Tab.get u.ps.groups (hIndex rq.handle) {}).mask).length ++ [0, 0]
          ++ ((chansOf (Tab.get u.ps.groups (hIndex rq.handle) {}).mask).map u.loadRecord).flatten })

/-- Protection of a load channel: a trip of a conducting output, above the level of its class, switches it off and is counted, and pauses it
or, at its limit, latches it; the thermal and the wire trip latch likewise, a thermal trip in hysteresis mode until the FET has cooled; a
second in ON clears the count. A thermal condition is recorded in the off states of rank 1 to 3 as well (DEDUCED, log entry 163). No other
channel changes.

COMPLETION: where the conditions that its clauses put on the state and the operands hold, exec answers a next state with the effect stated
for FET_TEMPERATURE_SAMPLE, HOLD_WINDOW_EXPIRY, INRUSH_WINDOW_END, OVERCURRENT_TRIP, RETRY_GOOD_TIMER, RETRY_PAUSE_END, SOFT_START_COMPLETE,
WIRE_MODEL_UPDATE. -/
def Obligations.LoadProtection : Prop :=
  ∀ (s : State) (c : Nat), c < 60 →
    ((s.load c).drive = .soft → ∃ t, Does (.softStartComplete c) s t ∧ ((s.loadOff c).isNone = true → s.cmdLit c = true →
        (t.load c).drive = .on) ∧ (∀ k, k ≠ c → t.load k = s.load k) ∧ t.supply = s.supply ∧ t.mgmt = s.mgmt)
    ∧ (∀ i, i ≤ (loadClass c).tripLevel (s.load c).prot.inrush → exec (.overcurrentTrip ⟨c, i⟩) s = .next s)
    ∧ ((loadClass c).tripLevel (s.load c).prot.inrush = if c < 12 then (if (s.load c).prot.inrush then 15000 else 10000)
        else if c < 28 then (if (s.load c).prot.inrush then 6000 else 4000) else if c < 52 then (if (s.load c).prot.inrush then 1800 else 1200)
        else 150)
    ∧ (∀ i, s.conducts c = true → (loadClass c).tripLevel (s.load c).prot.inrush < i → ∃ t, Does (.overcurrentTrip ⟨c, i⟩) s t ∧ (t.load c).drive = .off
        ∧ (t.load c).prot.count = min ((s.load c).prot.count + 1) 31 ∧ (t.load c).prot.ocTrips = satInc (s.load c).prot.ocTrips
        ∧ ((s.load c).cfg.limit ≤ min ((s.load c).prot.count + 1) 31 → (t.load c).prot.oc = true
            ∧ (t.load c).prot.pausing = (s.load c).prot.pausing)
        ∧ (min ((s.load c).prot.count + 1) 31 < (s.load c).cfg.limit → (t.load c).prot.pausing = true
            ∧ (t.load c).prot.oc = (s.load c).prot.oc ∧ (t.load c).prot.pauseEnd = s.tb.localT
              + BitVec.ofNat 64 (min (2 ^ (min ((s.load c).prot.count + 1) 31 - 1)) 512 * 1000000))
        ∧ (∀ k, k ≠ c → t.load k = s.load k) ∧ t.supply = s.supply ∧ t.aon = s.aon)
    ∧ ((s.load c).prot.pausing = true → ∃ t, Does (.retryPauseEnd c) s t ∧ (t.load c).prot.pausing = false
        ∧ (t.load c).prot.count = (s.load c).prot.count ∧ (∀ k, k ≠ c → t.load k = s.load k) ∧ t.supply = s.supply ∧ t.mgmt = s.mgmt)
    ∧ ((s.load c).drive = .on → ∃ t, Does (.retryGoodTimer c) s t
        ∧ t.load c = { s.load c with prot := { (s.load c).prot with count := 0 } } ∧ (∀ k, k ≠ c → t.load k = s.load k)
        ∧ t = { s with ps := { s.ps with chans := t.ps.chans } })
    ∧ (∀ temp : Int, ∃ t, Does (.fetTemperatureSample c temp) s t ∧ (t.load c).prot.fet = temp
        ∧ ((s.load c).drive ≠ .off ∨ (∃ k, s.loadOff c = some k ∧ k ≤ 7) →
            (if c < 12 then ((s.load c).cfg.thLimit : Int) * 10 else 1700) ≤ temp →
            (t.load c).drive = .off
            ∧ ((s.load c).prot.th = false → (s.load c).prot.cooling = false → (t.load c).prot.thTrips = satInc (s.load c).prot.thTrips)
            ∧ (c < 12 ∨ c < 52 ∧ (s.load c).cfg.thermLatch = true → (t.load c).prot.th = true)
            ∧ (12 ≤ c → (52 ≤ c ∨ (s.load c).cfg.thermLatch = false) → (t.load c).prot.cooling = true))
        ∧ (temp ≤ 1450 → (s.load c).drive = .off → (t.load c).prot.cooling = false)
        ∧ (∀ k, k ≠ c → t.load k = s.load k) ∧ t.supply = s.supply ∧ t.aon = s.aon)
    ∧ (∀ rms mean on, ∃ t, Does (.wireModelUpdate c rms mean on) s t
        ∧ (t.load c).prot.wireTemp = s.wireRef + (t.load c).prot.rise
        ∧ (t.load c).prot.rise = wireNext (s.load c).prot.rise (if (s.load c).drive ≠ .off then rms else 0) (s.load c).cfg.xsec (s.load c).cfg.tau
        ∧ ((s.load c).drive ≠ .off → ((s.load c).cfg.tlim : Int) * 1000000000000 ≤ (t.load c).prot.wireTemp →
            (t.load c).prot.wire = true ∧ (t.load c).drive = .off)
        ∧ ((t.load c).prot.wireTemp < ((s.load c).cfg.tlim : Int) * 1000000000000 → (t.load c).prot.wire = (s.load c).prot.wire)
        ∧ (∀ k, k ≠ c → t.load k = s.load k) ∧ t.supply = s.supply ∧ t.aon = s.aon)
    ∧ (∃ t, Does (.inrushWindowEnd c) s t ∧ t.load c = { s.load c with prot := { (s.load c).prot with inrush := false } }
        ∧ (∀ k, k ≠ c → t.load k = s.load k) ∧ t = { s with ps := { s.ps with chans := t.ps.chans } })
    ∧ ((s.load c).held ≠ none → ∃ t, Does (.holdWindowExpiry c) s t ∧ (t.load c).held = none ∧ (t.load c).base = (s.load c).cfg.safe
        ∧ (t.load c).baseSrc = .holdEnd ∧ (∀ k, k ≠ c → t.load k = s.load k) ∧ t.supply = s.supply ∧ t.mgmt = s.mgmt)

/-- Diagnostics, limp and the load budget: three open-load failures in a row set the flag; undercurrent and reverse current are shown; limp
channels switch on when their conditions hold; Amind sheds from rank 7 downwards while a sum exceeds its limit and the power stage one
channel while a feed's current makes it, and the channel shed last is restored first, once the cause for which it was shed is absent.

COMPLETION: where the conditions that its clauses put on the state and the operands hold, exec answers a next state with the effect stated
for GROUP_MSI_RATE_TIMER, LIMP_SWITCH_ON, LOAD_RESTORE, LOAD_SHED, OFF_STATE_TEST_END, OFF_STATE_TEST_START, POWER_STAGE_SHED,
REVERSE_BLOCK_CLEAR, REVERSE_CURRENT_BLOCK, UNDERCURRENT_TIMER, VBUS_FUNCTIONAL_RANGE_REACHED. -/
def Obligations.DiagnosticsLimpAndShedding : Prop :=
  (∀ (s : State) (c mv : Nat), c < 60 → s.testable c = true → s.cmdLit c = false →
    ((s.load c).diag.testing = false → ∃ t, Does (.offStateTestStart c mv) s t
      ∧ (52 ≤ c → (t.load c).diag.testing = true ∧ (t.load c).diag.stbOff = (s.load c).diag.stbOff)
      ∧ (c < 52 → 2000 < mv → (t.load c).diag.testing = false
          ∧ (t.load c).diag.stbOff = ((s.load c).diag.stbOff || decide (2 ≤ (s.load c).diag.stbFails)))
      ∧ (c < 52 → mv ≤ 2000 → (t.load c).diag.testing = true) ∧ (∀ k, k ≠ c → t.load k = s.load k) ∧ t.supply = s.supply)
    ∧ ((s.load c).diag.testing = true → ∃ t, Does (.offStateTestEnd c mv) s t ∧ (t.load c).diag.testing = false
      ∧ (((if 52 ≤ c then mv < 2000 else 3200 < mv) → (t.load c).diag.olOff = ((s.load c).diag.olOff || decide (2 ≤ (s.load c).diag.olFails)))
        ∧ (¬ (if 52 ≤ c then mv < 2000 else 3200 < mv) →
            (t.load c).diag.olOff = ((s.load c).diag.olOff && decide ((s.load c).diag.olPasses < 2))))
      ∧ (∀ k, k ≠ c → t.load k = s.load k) ∧ t.supply = s.supply))
  ∧ (∀ (s : State) (c : Nat), c < 60 → (s.loadOff c).isNone = true → s.cmdLit c = true →
      ((s.load c).drive = .on → s.supply.crank = false → (s.load c).diag.revBlock = false → ∀ b,
        (if b then (s.load c).diag.onCur.toNat < (loadClass c).underLevel else (loadClass c).underLevel < (s.load c).diag.onCur.toNat) → ∃ t, Does (.undercurrentTimer c b) s t
        ∧ (t.load c).diag.underCur = b ∧ (∀ k, k ≠ c → t.load k = s.load k) ∧ t.supply = s.supply)
      ∧ (c < 4 → (s.load c).drive ≠ .off → (∃ t, Does (.reverseCurrentBlock c) s t ∧ (t.load c).diag.revBlock = true
          ∧ (∀ k, k ≠ c → t.load k = s.load k) ∧ t.supply = s.supply)
        ∧ ∃ t, Does (.reverseBlockClear c) s t ∧ (t.load c).diag.revBlock = false ∧ (∀ k, k ≠ c → t.load k = s.load k) ∧ t.supply = s.supply))
  ∧ (∀ (s : State) (g : Nat), g < 60 → s.ps.groups.has g = true → ∃ t, Does (.groupMsiRateTimer g) s t
      ∧ (Tab.get t.ps.groups g {}).sent = (Tab.get s.ps.groups g {}).waiting ∧ (Tab.get t.ps.groups g {}).waiting = false
      ∧ (Tab.get t.ps.groups g {}).chg = (Tab.get s.ps.groups g {}).chg ∧ t.ps.chans = s.ps.chans ∧ t.supply = s.supply)
  ∧ (∀ s : State, s.supply.porHeld = false →
      (∃ t, Does .limpSwitchOn s t ∧ t.ps.limpTime = true
        ∧ (s.ps.delivered = false → s.supply.straps.net ≠ .invalid → s.inFunctional s.supply.vbus = true → s.ps.limpActive = false →
            (∃ c, c < 60 ∧ (s.load c).cfg.limp = true) → t.ps.limpActive = true
            ∧ ∀ c, c < 60 → (s.load c).cfg.limp = true → (t.load c).base = { on := true, duty := 1000 } ∧ (t.load c).baseSrc = .limp)
        ∧ (∀ c, (s.load c).cfg.limp = false → t.load c = s.load c) ∧ t.supply = s.supply)
      ∧ (∀ mv : U16, s.inFunctional mv = true → ∃ t, Does (.vbusFunctionalRangeReached mv) s t ∧ t.supply = { s.supply with
          vbus := mv, vbusSeen := true, bankCharging := !s.supply.crank && !s.supply.bankReady && !s.supply.holdup }
          ∧ (s.ps.limpTime = false → t.ps = s.ps)))
  ∧ (∀ s : State, s.amindUp = true → s.toShed ≠ [] → ∃ t, Does .loadShed s t ∧ (∀ e, e ∈ s.toShed → (t.load e.1).prot.shed = true ∧ (t.load e.1).drive = .off)
      ∧ (∀ c, (∀ e, e ∈ s.toShed → e.1 ≠ c) → t.load c = s.load c) ∧ t.ps.shedOrder = s.toShed.reverse ++ s.ps.shedOrder ∧ t.supply = s.supply ∧ t.aon = s.aon)
  ∧ (∀ s : State, (∀ e, e ∈ s.toShed → e.1 < 60 ∧ (s.load e.1).cfg.rank ≠ 0 ∧ (s.load e.1).prot.shed = false)
      ∧ (s.toShed.map Prod.fst).Nodup)
  ∧ (∀ (s : State) (f : Bool) (c : Nat), s.shedOrder.head? = some c →
      ((s.supply.feed f).shedding = false → exec (.powerStageShed f) s = .next s)
      ∧ ((s.supply.feed f).shedding = true → ∃ t, Does (.powerStageShed f) s t ∧ (t.load c).prot.shed = true ∧ (t.load c).drive = .off
        ∧ (∀ k, k ≠ c → t.load k = s.load k) ∧ t.ps.shedOrder = (c, 3) :: s.ps.shedOrder ∧ t.supply = s.supply))
  ∧ (∀ (s : State) (c why : Nat) (r : List (Nat × Nat)), s.ps.shedOrder = (c, why) :: r → s.causeHolds why = false → s.amindUp = true →
      ∃ t, Does .loadRestore s t ∧ (t.load c).prot.shed = false ∧ t.ps.shedOrder = r ∧ (∀ k, k ≠ c → t.load k = s.load k) ∧ t.supply = s.supply)

/-- Inputs: a sample reads 1 above V_IH, 0 below V_IL and as before between them; a value that has appeared in as many samples as the
debounce time is the level, and its edge, at the time of the first of them, is recorded in the group of the input, or on the global page
where no group holds it; an analog value is the mean of its window's samples, clamped to its range, and crosses the thresholds with
hysteresis; event bits are cleared by a write, but for those of an edge in the same cycle; wake inputs follow their pins; a limited sensor
supply is off, faulted and counted until its retry; a group takes inputs that no group holds; INPUT_CONFIG sets one input.

COMPLETION: where the conditions that its clauses put on the state and the operands hold, exec answers a next state with the effect stated
for ANALOG_THRESHOLD_CHANGE, DEBOUNCE_COMPLETE, IN_EVT_CLEAR_WRITE, IN_WAKE_CHANGE, INPUT_CONFIG, INPUT_GROUP_CREATE,
SENSOR_SUPPLY_CURRENT_LIMIT, SENSOR_SUPPLY_RETRY. -/
def Obligations.Inputs : Prop :=
  (∀ (s : State) (d mv : Nat) (time : U64), d < 64 → s.inputsOn = true →
    let r := s.reads d mv (s.din d).raw
    let on := decide ((s.din d).run ≠ 0) && decide (r = (s.din d).raw)
    ∃ t, Does (.debounceComplete d [mv] time) s t
      ∧ t.din d = { s.din d with
          wetOn := (s.din d).wet, raw := r, level := (t.din d).level
          run := if on then min ((s.din d).run + 1) 255 else 1
          runAt := if on then (s.din d).runAt else BitVec.ofNat 64 (time.toNat / 1000000 * 1000000) }
      ∧ (t.din d).level = (if (s.din d).debounce ≤ (t.din d).run then r else (s.din d).level) ∧ (∀ k, k ≠ d → t.din k = s.din k)
      ∧ ((t.din d).level = (s.din d).level → t = { s with inp := { s.inp with ds := t.inp.ds } })
      ∧ ((t.din d).level ≠ (s.din d).level → (∀ g, s.groupOfD d = some g → g.2.stopped = false ∧ g.2.disabled = false) →
          (s.groupOfD d = none → s.inSec d = false → t.inp.event = s.inp.event ||| 4 ∧ t.inp.groups = s.inp.groups)
          ∧ (∀ i g, s.groupOfD d = some (i, g) → Tab.get (t.inGroup i).edgeTime d 0 = (t.din d).runAt
              ∧ ((s.din d).edges.getLsbD (if r then 0 else 1) = true → (t.inGroup i).evtD = (s.inGroup i).evtD ||| bitOf 64 d)
              ∧ ((s.din d).edges.getLsbD (if r then 0 else 1) = false → (t.inGroup i).evtD = (s.inGroup i).evtD)
              ∧ (t.inGroup i).ovrD = (if (s.inGroup i).evtD.getLsbD d then (s.inGroup i).ovrD ||| bitOf 64 d else (s.inGroup i).ovrD)
              ∧ ∀ j, j ≠ i → t.inGroup j = s.inGroup j)
          ∧ t.supply = s.supply ∧ t.ps = s.ps ∧ t.mgmt = s.mgmt))
  ∧ (∀ (s : State) (d : Nat) (l : List Nat) (time : U64), d < 64 →
      (s.inputsOn = false → exec (.debounceComplete d l time) s = .next s)
      ∧ (s.inputsOn = true → ∃ t, Does (.debounceComplete d l time) s t ∧ (∀ k, k ≠ d → t.din k = s.din k) ∧ t.supply = s.supply
          ∧ t.ps = s.ps ∧ t.mgmt = s.mgmt
          ∧ ((∀ m, m ∈ l → (s.inputLevels d).2 < m) → 1 ≤ l.length → (s.din d).debounce ≤ l.length → (s.din d).debounce ≤ 255 →
              (t.din d).level = true)))
  ∧ (∀ (s : State) (v : Nat) (x : Int), v < 24 → s.inputsOn = true →
    let top := if (s.vin v).range = 0 then 5500 else if (s.vin v).range = 1 then 18000 else if (s.vin v).range = 2 then 36000 else 60000
    let l := (min x.toNat top :: (s.vin v).samples).take (s.vin v).window
    ∃ t, Does (.analogThresholdChange v [x]) s t
      ∧ t.vin v = { s.vin v with samples := l, value := BitVec.ofNat 16 (meanOf l) }
      ∧ (∀ k, k ≠ v → t.vin k = s.vin k)
      ∧ (∀ i g, s.groupOfV v = some (i, g) → g.stopped = false → g.disabled = false →
          (Tab.get (s.inGroup i).low v 0).toNat < (Tab.get (s.inGroup i).high v 0).toNat →
          ((Tab.get (s.inGroup i).high v 0).toNat ≤ (t.vin v).value.toNat → (t.inGroup i).above.getLsbD v = true)
          ∧ ((t.vin v).value.toNat ≤ (Tab.get (s.inGroup i).low v 0).toNat → (t.inGroup i).above.getLsbD v = false)
          ∧ ((Tab.get (s.inGroup i).low v 0).toNat < (t.vin v).value.toNat → (t.vin v).value.toNat < (Tab.get (s.inGroup i).high v 0).toNat →
              (t.inGroup i).above.getLsbD v = (s.inGroup i).above.getLsbD v))
      ∧ t.supply = s.supply ∧ t.ps = s.ps)
  ∧ (∀ (s : State) (g : Nat) (a : Attr) (d : U64), g < 88 → d ≠ 0 → s.sends a → s.fabricUp = true →
    s.portFree .write (writeX a (0x13800000 + g * 0x1000 + 0x10) 8 0) → s.verdict a (0x13800000 + g * 0x1000 + 0x10) 8 false true = .ok →
      ∃ t, Does (.inEvtClearWrite g a d 0) s t
        ∧ t.inGroup g = { s.inGroup g with evtD := (s.inGroup g).evtD &&& ~~~(d &&& ~~~((s.inGroup g).freshBits s.tb.localT)) }
        ∧ (∀ k, k ≠ g → t.inGroup k = s.inGroup k) ∧ t.core.resp = { code := .ok, data := [] } ∧ t.supply = s.supply)
  ∧ (∀ (s : State) (wk : List Nat) (ign : Nat), s.supply.porHeld = false → (s.inp.wkLevel ≠ s.wkReads wk ∨ s.inp.ign ≠ s.ignReads ign) →
      Does (.inWakeChange wk ign) s { s with inp := { s.inp with wkLevel := s.wkReads wk, ign := s.ignReads ign, event := s.inp.event ||| 1 } })
  ∧ (∀ (s : State) (wk : List Nat) (i : Nat), wk.length = 8 → i < 8 → (s.wkReads wk).getLsbD i
      = (if (s.inputLevels (64 + i)).2 < wk.getD i 0 then true else if wk.getD i 0 < (s.inputLevels (64 + i)).1 then false
          else s.inp.wkLevel.getLsbD i))
  ∧ (∀ (s : State) (k : Nat), k < 3 →
      (s.inp.sensOn.getLsbD k = true → ∃ t, Does (.sensorSupplyCurrentLimit k) s t ∧ t.inp.sensOn.getLsbD k = false
        ∧ t.inp.sensFault.getLsbD k = true ∧ t.inp.sensCount = satInc s.inp.sensCount ∧ t.inp.event = s.inp.event ||| 2
        ∧ (∀ j, j ≠ k → t.inp.sensOn.getLsbD j = s.inp.sensOn.getLsbD j) ∧ t = { s with inp := t.inp })
      ∧ (s.inp.sensFault.getLsbD k = true → ∃ t, Does (.sensorSupplyRetry k) s t ∧ t.inp.sensFault.getLsbD k = false
        ∧ (s.sensWanted.getLsbD k = true → t.inp.sensOn.getLsbD k = true) ∧ t = { s with inp := t.inp }))
  ∧ (∀ (rq : Request) (s u : State), u = s.heard rq → s.takes specInputGroupCreate rq (s.okInputGroup 0 false) false → rq.route = .stall 0 → u.fnOff 0 8 0 = false →
    let d := BitVec.ofNat 64 (u64At rq.payload 0)
    let v := BitVec.ofNat 24 (u32At rq.payload 8)
    (u.inp.groups.any (fun e => e.2.dmask &&& d ≠ 0 || e.2.vmask &&& v ≠ 0) = true → Replies (.inputGroupCreate rq) rq s u { st := .busy })
    ∧ (∀ k, u.inp.groups.any (fun e => e.2.dmask &&& d ≠ 0 || e.2.vmask &&& v ≠ 0) = false → k < 64 → d.getLsbD k = true →
        (∀ j, j < k → d.getLsbD j = false) → (∀ j, j < 64 → d.getLsbD j = true → u.inMay 0 false 0 j = true) →
        (∀ j, j < 24 → v.getLsbD j = true → u.inMay 0 false 1 j = true) → u.handleRoom = true →
        ∃ t, Replies (.inputGroupCreate rq) rq s t {
            handle := some (mkHandle 5 0 (u.genOf 5 k) k), payload := leBytes 8 (0x13800000 + k * 0x1000) }
          ∧ t.inGroup k = { dmask := d, vmask := v, owner := 0, sec := false } ∧ (∀ j, j ≠ k → t.inGroup j = u.inGroup j)
          ∧ (t.hLive 5 k).isSome = true
          ∧ t = { u with mgmt := { u.mgmt with handles := t.mgmt.handles }, inp := { u.inp with groups := t.inp.groups } }))
  ∧ (∀ (rq : Request) (s u : State) (i : Nat), u = s.heard rq → s.takes specInputConfig rq (s.okInputConfig (hIndex rq.handle)) false → rq.route = .stall 0 →
      i = u8At rq.payload 0 →
      (i < 64 → ∃ t, Replies (.inputConfig rq) rq s t {} ∧ t.din i = { u.din i with
          wet := BitVec.ofNat 8 (u8At rq.payload 1), debounce := if u8At rq.payload 2 = 0 then 10 else u8At rq.payload 2
          edges := BitVec.ofNat 2 (u8At rq.payload 3)
          run := if (u.din i).debounce = (if u8At rq.payload 2 = 0 then 10 else u8At rq.payload 2) then (u.din i).run else 0 }
          ∧ (∀ k, k ≠ i → t.din k = u.din k)
          ∧ t = { u with inp := { u.inp with ds := t.inp.ds } })
      ∧ (64 ≤ i → ∃ t, Replies (.inputConfig rq) rq s t {} ∧ (t.vin (i - 64)).range = BitVec.ofNat 2 (u8At rq.payload 1)
          ∧ (t.vin (i - 64)).window = (if u8At rq.payload 2 = 0 then 1 else u8At rq.payload 2)
          ∧ (t.vin (i - 64)).bias = (u8At rq.payload 1).testBit 2 ∧ (t.vin (i - 64)).edges = BitVec.ofNat 2 (u8At rq.payload 3)
          ∧ (∀ k, k ≠ i - 64 → t.vin k = u.vin k) ∧ t = { u with inp := { u.inp with vs := t.inp.vs } }))

/-- The sleep order: SLEEP_ORDER opens it, one at a time; the preparations send the commanders' channels to sleep and drain; once everything
sleeps, or the limit has cut and recorded what does not, the commit step commits, or aborts where a wake is latched; in COMMITTED the
domains go off and the mode is SLEEP, and after the dwell a latched wake starts the module.

Wakes: an armed source that is not quarantined, one of a CAN channel with a wake-up frame, aborts an open order, is latched in COMMITTED as
a late one, starts the module from SLEEP after the dwell, and in PARTIAL begins the transition to RUN; of two that fire in one cycle the
lower code is the source; a confirmed wake closes its window; a false one is counted, and the eleventh within an hour quarantines its
source, but IGN; WAKE_CONFIG sets a source, of a quarantined one for later.

COMPLETION: where the conditions that its clauses put on the state and the operands hold, exec answers a next state with the effect stated
for COMMITTED_DOMAINS_OFF, DRAIN_CONDITIONS_MET, DRAIN_LIMIT_EXPIRY, FALSE_WAKE_TIMEOUT, QUARANTINE_END, SLEEP_DWELL_END, SLEEP_ORDER,
SLEEP_PREPARATIONS_ISSUED, TC10_SLEEP_REQUEST_RECEIVE, WAKE_CONFIG, WAKE_CONFIRMATION, WAKE_EVENT, WAKE_STATUS. -/
def Obligations.SleepAndWake : Prop :=
  ((∀ (rq : Request) (s u : State), u = s.heard rq → s.takes specSleepOrder rq (fun p => p = []) false → rq.route = .stall 0 →
    (u.sleep.phase ≠ 0 → Replies (.sleepOrder rq) rq s u { st := .busy })
    ∧ (u.sleep.phase = 0 → ∃ t, Replies (.sleepOrder rq) rq s t { st := .pending } ∧ t.sleep.phase = 1 ∧ t.sleep.self = false
        ∧ t.sleep.latch = 0 ∧ t.sleep.pending = false ∧ t.sleep.order = some (0, rq.seq) ∧ t.sleep.aborted = false ∧ t.aon = u.aon
        ∧ t.supply = u.supply ∧ t.bus = u.bus))
  ∧ (∀ s : State, s.sleep.phase = 1 → ∃ t, Does .sleepPreparationsIssued s t ∧ t.sleep.phase = 2 ∧ t.sleep.drainStart = s.tb.localT
      ∧ t.sleep.drainSeq = s.mgmt.ledger.lastSeq ∧ t.sleep.order = s.sleep.order ∧ (∀ n, n < 8 → (s.lin n).responder = false →
          s.linAwake n = true → (t.lin n).goSleep = true ∧ t.sleep.linSlept.getLsbD n = true) ∧ t.aon = s.aon ∧ t.supply = s.supply
      ∧ (∀ p, p ∈ s.tc10Up → s.mgmt.stored.sleepMaster.getLsbD p = true → t.sleep.portsAsked.getLsbD p = true) ∧ t.eth = s.eth)
  ∧ (∀ (s : State) (p : Nat), p < 22 → (s.ethPort p).tc10 = true → (s.ethPort p).link = true →
      (s.mgmt.stored.sleepMaster.getLsbD p = false ∨ s.sleep.portsAsked.getLsbD p = true) → s.sleep.phase = 2 → ∃ t, Does (.tc10SleepRequestReceive p) s t ∧ (t.ethPort p).lowPower = true ∧ (t.ethPort p).link = false
        ∧ t.sleep.portsSlept.getLsbD p = true ∧ t.sleep.phase = 2 ∧ t.aon = s.aon ∧ t.supply = s.supply)
  ∧ (∀ (s : State) (c : Instr), s.sleep.phase = 2 → (c = .drainConditionsMet ∧ s.drained = true ∨ c = .drainLimitExpiry) →
      (s.sleep.pending = false → ∃ t, Does c s t ∧ t.sleep.phase = 3 ∧ t.sleep.order = none ∧ t.sleep.drainCut = decide (c = .drainLimitExpiry)
        ∧ t.inputsOn = false ∧ (c = .drainLimitExpiry → ∀ p, p ∈ s.tc10Up → t.sleep.portsCut.getLsbD p = true) ∧ (∀ n, n < 16 → (t.can n).st = .stopped) ∧ (∀ b, b ∈ blockIds → (t.block b).votes = 0)
        ∧ t.aon = s.aon ∧ t.supply = s.supply)
      ∧ (s.sleep.pending = true → s.aon.mode = .run → ∃ t, Does c s t ∧ t.sleep.phase = 0 ∧ t.sleep.aborted = true ∧ t.sleep.order = none
        ∧ t.sleep.pending = false ∧ t.sleep.lastSource = s.sleep.lastSource ∧ t.aon = s.aon ∧ t.supply = s.supply))
  ∧ (∀ s : State, s.sleep.phase = 3 → ∃ t, Does .committedDomainsOff s t ∧ t.aon.mode = .sleep ∧ t.sleep.phase = 0 ∧ t.sleep.dwellDone = false
      ∧ t.sleep.pending = s.sleep.pending ∧ t.sleep.latch = 0 ∧ t.sleep.lateLatch = s.sleep.latch ∧ (∀ p, p < 8 → (t.pair p).st = .off) ∧ t.core.harts = []
      ∧ t.core.dram = [] ∧ t.sw = {} ∧ t.eth = {} ∧ t.mgmt.handles.tab = [] ∧ t.mgmt.ledger.buffer = s.mgmt.ledger.buffer ∧ t.supply = s.supply
      ∧ t.aon.failedStarts = s.aon.failedStarts)
  ∧ (∀ s : State, s.aon.mode = .sleep → s.aon.safeInCommitted = false →
      (s.sleep.pending = false → Does .sleepDwellEnd s { s with sleep := { s.sleep with dwellDone := true } })
      ∧ (s.sleep.pending = true → ∃ t, Does .sleepDwellEnd s t ∧ t.aon.mode = .start ∧ t.aon.step = 2 ∧ t.aon.cause.wake = true
          ∧ t.aon.cause.por = s.aon.nextPor ∧ t.aon.startNo = s.aon.startNo + 1 ∧ t.aon.target = (if (s.wakeCfg s.sleep.lastSource.toNat).toRun then .run else .part)
          ∧ t.sleep.window = true ∧ t.supply.faultLow = true)))
  ∧ ((∀ (s v : State) (f : WakeFire), wakeCode f.source = true → v = s.wakeSeen f → v.wakeFires f = true → s.powered = true →
    s.supply.holdup = false →
    (s.sleep.phase = 3 → ∃ t, Does (.wakeEvent [f]) s t ∧ t.sleep.latch = s.sleep.latch ||| bitOf 64 f.source ∧ t.sleep.pending = true
      ∧ (s.sleep.pending = false → t.sleep.lastSource = BitVec.ofNat 6 f.source ∧ t.sleep.valid = true ∧ t.sleep.late = true
          ∧ t.sleep.time = s.tb.localT)
      ∧ (s.sleep.pending = true → t.sleep.lastSource = (if s.sleep.time = s.tb.localT ∧ f.source < s.sleep.lastSource.toNat
          then BitVec.ofNat 6 f.source else s.sleep.lastSource)) ∧ t = { v with sleep := t.sleep })
    ∧ ((s.sleep.phase = 1 ∨ s.sleep.phase = 2) → s.aon.mode = .run → ∃ t, Does (.wakeEvent [f]) s t ∧ t.sleep.phase = 0
        ∧ t.sleep.aborted = true ∧ t.sleep.order = none ∧ t.sleep.latch = s.sleep.latch ||| bitOf 64 f.source
        ∧ (s.sleep.pending = false → t.sleep.lastSource = BitVec.ofNat 6 f.source ∧ t.sleep.late = false)
        ∧ t.aon = s.aon ∧ t.supply = s.supply)
    ∧ (s.sleep.phase = 0 → s.aon.mode = .sleep → s.sleep.dwellDone = false → ∃ t, Does (.wakeEvent [f]) s t ∧ t.sleep.pending = true
        ∧ t.sleep.latch = s.sleep.latch ||| bitOf 64 f.source ∧ t = { v with sleep := t.sleep })
    ∧ (s.sleep.phase = 0 → s.aon.mode = .sleep → s.sleep.dwellDone = true → ∃ t, Does (.wakeEvent [f]) s t ∧ t.aon.mode = .start
        ∧ t.aon.step = 2 ∧ t.aon.cause.wake = true ∧ t.sleep.window = true)
    ∧ (s.sleep.phase = 0 → s.aon.mode = .part → (s.wakeCfg f.source).toRun = true → s.core.toRun = none →
        ∃ t, Does (.wakeEvent [f]) s t ∧ t.core.toRun = some [] ∧ t.sleep.latch = s.sleep.latch ∧ t.aon = s.aon ∧ t.supply = s.supply))
  ∧ (∀ (s : State) (f g : WakeFire), wakeCode f.source = true → wakeCode g.source = true → s.wakeSeen f = s → s.wakeSeen g = s →
      s.wakeFires f = true → s.wakeFires g = true → s.powered = true → s.supply.holdup = false → s.sleep.phase = 3 → s.sleep.pending = false →
      ∃ t, Does (.wakeEvent [f, g]) s t ∧ t.sleep.lastSource = BitVec.ofNat 6 (min f.source g.source)
        ∧ t.sleep.latch = (s.sleep.latch ||| bitOf 64 f.source) ||| bitOf 64 g.source)
  ∧ (∀ (s : State) (f : WakeFire), (¬ (16 ≤ f.source ∧ f.source ≤ 23) → s.wakeSeen f = s
        ∧ s.wakeFires f = ((s.wakeCfg f.source).arm && !(s.wakeCfg f.source).quar))
      ∧ (∀ x, 16 ≤ f.source → f.source ≤ 23 → f.frame = some x → (s.wakeFires f = true ↔ (s.wakeCfg f.source).arm = true
          ∧ (s.wakeCfg f.source).quar = false ∧ (s.can (f.source - 16)).wakeOn.wakes x = true)))
  ∧ (∀ s : State, s.sleep.window = true →
      (s.wakeConfirmed = true → Does .wakeConfirmation s { s with sleep := { s.sleep with window := false, confirmed := true } }
        ∧ exec .falseWakeTimeout s = .next s)
      ∧ (s.wakeConfirmed = false → exec .wakeConfirmation s = .next s)
      ∧ (s.wakeConfirmed = false → s.sleep.valid = true → s.aon.mode = .safe → ∃ t, Does .falseWakeTimeout s t ∧ t.sleep.window = false
          ∧ (t.wakeCfg s.sleep.lastSource.toNat).falseTimes = s.tb.localT :: s.inHour (s.wakeCfg s.sleep.lastSource.toNat).falseTimes
          ∧ (10 < (s.inHour (s.tb.localT :: s.inHour (s.wakeCfg s.sleep.lastSource.toNat).falseTimes)).length → s.sleep.lastSource ≠ 8 →
              (t.wakeCfg s.sleep.lastSource.toNat).quar = true)
          ∧ ((s.inHour (s.tb.localT :: s.inHour (s.wakeCfg s.sleep.lastSource.toNat).falseTimes)).length ≤ 10 ∨ s.sleep.lastSource = 8 →
              (t.wakeCfg s.sleep.lastSource.toNat).quar = (s.wakeCfg s.sleep.lastSource.toNat).quar)
          ∧ (∀ k, k ≠ s.sleep.lastSource.toNat → t.wakeCfg k = s.wakeCfg k) ∧ t.aon = s.aon ∧ t.supply = s.supply))
  ∧ (∀ (s : State) (n : Nat), wakeCode n = true → (s.wakeCfg n).quar = true → ∃ t, Does (.quarantineEnd n) s t ∧ (t.wakeCfg n).quar = false
      ∧ (t.wakeCfg n).held = none
      ∧ (∀ a r m, n ≠ 8 → (s.wakeCfg n).held = some (a, r, m) → (t.wakeCfg n).arm = a ∧ (t.wakeCfg n).toRun = r ∧ (t.wakeCfg n).timeout = m)
      ∧ (∀ k, k ≠ n → t.wakeCfg k = s.wakeCfg k) ∧ t.aon = s.aon ∧ t.supply = s.supply)
  ∧ (∀ (rq : Request) (s u : State) (n : Nat), u = s.heard rq → s.takes specWakeConfig rq s.okWakeConfig false → rq.route = .stall 0 → n = u8At rq.payload 0 →
      let m : U16 := if u16At rq.payload 4 = 0 then 1500 else BitVec.ofNat 16 (u16At rq.payload 4)
      ((u.wakeCfg n).quar = false → ∃ t, Replies (.wakeConfig rq) rq s t {}
        ∧ t.wakeCfg n = { u.wakeCfg n with arm := decide (u8At rq.payload 1 = 1), toRun := decide (u8At rq.payload 2 = 3), timeout := m }
        ∧ (∀ k, k ≠ n → t.wakeCfg k = u.wakeCfg k)
        ∧ t = { u with sleep := { u.sleep with cfg := t.sleep.cfg }, bus := { u.bus with can := t.bus.can } })
      ∧ ((u.wakeCfg n).quar = true → ∃ t, Replies (.wakeConfig rq) rq s t { st := .quarantined }
        ∧ t.wakeCfg n = { u.wakeCfg n with held := some (decide (u8At rq.payload 1 = 1), decide (u8At rq.payload 2 = 3), m) }
        ∧ (∀ k, k ≠ n → t.wakeCfg k = u.wakeCfg k) ∧ t = { u with sleep := { u.sleep with cfg := t.sleep.cfg } }))
  ∧ Serves .wakeStatus specWakeStatus (fun _ _ p => p = []) false (fun _ _ => True) (fun _ u => u)
      (fun _ u => {
        payload := leBytes 1 u.sleep.lastSource.toNat ++ [0]
          ++ leBytes 2 (min 65535 (((List.range 64).filter wakeCode).foldl (fun k n => k + u.falseCount n) 0))
          ++ leBytes 8 (((List.range 64).filter wakeCode).foldl (fun (m : U64) n => if (u.wakeCfg n).quar then m ||| bitOf 64 n else m) 0).toNat }))

/-- The events of a port: its link comes up with verification and PLCA as configured and goes down with pause and verification ended; received
pauses stop the port or its classes as they name them and end with their time; a pause frame is repeated while the flag stays set; verification
succeeds on a response and fails at the third attempt; PLCA falls back with its beacons and resumes with them.

Gates, policers, stream recovery and the time-aware bridge: the next entry of a gate list takes effect with its gates and its hold or release,
after the last one the first; a pending list takes over at entry 0; a policer's bucket gains its rate up to its burst; a recovery that has
passed nothing for its time starts afresh; a sync on the slave port sets offset, rate and, after four good ones, GSTATE, and steps the time
when it is off by more than 10 µs; an announce of another clock, relayed at once under external port configuration, and otherwise the best of
those heard against the module's own settings (PRESUMED of IEEE 802.1AS, log entry 108), settles grandmaster and roles, and a missing sync leaves
hold-over; messages are sent and counted, and wait while a pause or a frame on the line holds them.

COMPLETION: where the conditions that its clauses put on the state and the operands hold, exec answers a next state with the effect stated
for FRER_RECOVERY_TIMEOUT, GATE_ENTRY_ADVANCE, GATE_LIST_SWITCHOVER, LINK_DOWN, LINK_UP, PAUSE_EXPIRY, PAUSE_FRAME_RECEIVE, PAUSE_REFRESH,
PLCA_BEACON_LOST, PLCA_BEACON_RETURN, POLICER_REFILL, PREEMPT_VERIFY_RESPONSE, PREEMPT_VERIFY_TIMEOUT, PTP_MESSAGE_RECEIVE,
PTP_SYNC_TIMEOUT, PTP_TRANSMIT_TIMER. -/
def Obligations.PortEvents : Prop :=
  ((∀ (s : State) (p : Nat), p < 26 → s.sw.lagOf p = none →
    ((s.ethPort p).link = false → (s.ethPort p).lowPower = false → s.sw.forwarding = true → (s.block (portBlock p)).serves = true →
      ∃ t, Does (.linkUp p) s t ∧ (t.ethPort p).link = true ∧ (t.swPort p).link = true
        ∧ (t.ethPort p).verify = (if (s.ethPort p).preempt && p < 10 then (if (s.ethPort p).verifyDis then 2 else 1) else 0)
        ∧ (t.ethPort p).plca.active = (decide (22 ≤ p) && !(s.ethPort p).plca.off) ∧ (t.ethPort p).cnt = (s.ethPort p).cnt
        ∧ (Tab.get t.eth.events p {}).ev = (Tab.get s.eth.events p {}).ev ||| 1
        ∧ (∀ q, q ≠ p → t.ethPort q = s.ethPort q ∧ t.swPort q = s.swPort q)
        ∧ t = { s with
            eth := { s.eth with ports := t.eth.ports, events := t.eth.events }
            sw := { s.sw with ports := t.sw.ports } })
    ∧ ((s.ethPort p).link = true →
      ∃ t, Does (.linkDown p) s t ∧ (t.ethPort p).link = false ∧ (t.swPort p).link = false ∧ (t.ethPort p).verify = 0
        ∧ (t.ethPort p).paused = false ∧ (t.ethPort p).pfcPaused = 0 ∧ (t.ethPort p).plca.active = false
        ∧ (t.ethPort p).cnt = (s.ethPort p).cnt ∧ (Tab.get t.eth.events p {}).ev = (Tab.get s.eth.events p {}).ev ||| 1
        ∧ (s.bridgeOn p = true → (t.eth.bridge.port p).asCapable = false ∧ (t.eth.bridge.port p).info = none)
        ∧ (s.bridgeOn p = false → t.eth.bridge = s.eth.bridge ∧ t.eth.gevent = s.eth.gevent ∧ t.tb = s.tb)
        ∧ (∀ q, q ≠ p → t.ethPort q = s.ethPort q ∧ t.swPort q = s.swPort q)
        ∧ t = { s with
            tb := { s.tb with gstate := t.tb.gstate }
            eth := { s.eth with ports := t.eth.ports, events := t.eth.events, bridge := t.eth.bridge, gevent := t.eth.gevent }
            sw := { s.sw with ports := t.sw.ports } }))
  ∧ (∀ (s : State) (p g : Nat), p < 26 → s.sw.lagOf p = some g → (s.ethPort p).link = true →
      ∃ t, Does (.linkDown p) s t ∧ (Tab.get t.sw.lags g {}).active = putBit (Tab.get s.sw.lags g {}).active p false
        ∧ t.sw.event = s.sw.event ||| bitOf 5 2 ∧ t.sw.frames.all (fun f => !f.dests.contains p) = true ∧ t.bus = s.bus ∧ t.ps = s.ps)
  ∧ (∀ (s : State) (p : Nat) (pfc : Bool) (en : Byte) (q : List U16), p < 26 → (s.ethPort p).link = true →
      ∃ t, Does (.pauseFrameReceive p pfc en q) s t
        ∧ (t.ethPort p).paused = (if !pfc && (s.ethPort p).pause then decide (q.headD 0 ≠ 0) else (s.ethPort p).paused)
        ∧ (∀ c, c < 8 → (t.ethPort p).pfcPaused.getLsbD c = (if pfc && (s.ethPort p).pfc && en.getLsbD c then decide (q.getD c 0 ≠ 0)
            else (s.ethPort p).pfcPaused.getLsbD c))
        ∧ (t.ethPort p).cnt.rxPause = (s.ethPort p).cnt.rxPause + 1
        ∧ ((s.ethPort p).ptpDue = 0 → (t.ethPort p).cnt = { (s.ethPort p).cnt with rxPause := (s.ethPort p).cnt.rxPause + 1 }
            ∧ t = { s with eth := { s.eth with ports := t.eth.ports } })
        ∧ (∀ r, r ≠ p → t.ethPort r = s.ethPort r ∧ t.swPort r = s.swPort r)
        ∧ t = { s with
            core := { s.core with fresh := t.core.fresh }
            eth := { s.eth with ports := t.eth.ports }
            sw := { s.sw with ports := t.sw.ports } })
  ∧ (∀ (s : State) (p : Nat) (cl : Byte), p < 26 →
      ∃ t, Does (.pauseExpiry p cl) s t ∧ ((s.ethPort p).pause = true → (t.ethPort p).paused = false)
        ∧ (∀ c, c < 8 → (t.ethPort p).pfcPaused.getLsbD c = ((s.ethPort p).pfcPaused.getLsbD c && !cl.getLsbD c))
        ∧ ((s.ethPort p).ptpDue = 0 → (t.ethPort p).cnt = (s.ethPort p).cnt ∧ t = { s with eth := { s.eth with ports := t.eth.ports } })
        ∧ ((s.ethPort p).pause = true → s.lineFree p = true → (t.ethPort p).ptpDue = 0
            ∧ (t.ethPort p).cnt.txFrames = (s.ethPort p).cnt.txFrames + BitVec.ofNat 64 (s.ethPort p).ptpDue)
        ∧ (∀ r, r ≠ p → t.ethPort r = s.ethPort r ∧ t.swPort r = s.swPort r)
        ∧ t = { s with
            core := { s.core with fresh := t.core.fresh }
            eth := { s.eth with ports := t.eth.ports }
            sw := { s.sw with ports := t.sw.ports } })
  ∧ (∀ (s : State) (p : Nat), p < 22 → (s.ethPort p).pause = true → (s.swPort p).fcAssert = true → (s.ethPort p).link = true →
      (s.lineFree p = true →
        ∃ t, Does (.pauseRefresh p) s t ∧ (t.swPort p).sent = pauseBytes p (s.ethPort p).quanta ∧ (t.swPort p).sentBad = false
          ∧ (t.ethPort p).pauseSent = 0xFF
          ∧ (t.ethPort p).cnt = { (s.ethPort p).cnt with
              txPause := (s.ethPort p).cnt.txPause + 1, txFrames := (s.ethPort p).cnt.txFrames + 1
              txBytes := (s.ethPort p).cnt.txBytes + 64 }
          ∧ (∀ r, r ≠ p → t.ethPort r = s.ethPort r ∧ t.swPort r = s.swPort r)
          ∧ t = { s with
              eth := { s.eth with ports := t.eth.ports }
              sw := { s.sw with ports := t.sw.ports } })
      ∧ (s.lineFree p = false →
          Does (.pauseRefresh p) s (s.updEthPort p (fun e => { e with due := e.due ++ [{ on := 0xFF }] }))))
  ∧ (∀ (s : State) (p : Nat), p < 10 → (s.ethPort p).verify = 1 →
      (∃ t, Does (.preemptVerifyResponse p) s t ∧ (t.ethPort p) = { s.ethPort p with verify := 2 }
        ∧ (Tab.get t.eth.events p {}).ev = (Tab.get s.eth.events p {}).ev ||| 2 ∧ t = { s with eth := t.eth })
      ∧ ((s.ethPort p).tries < 2 →
          Does (.preemptVerifyTimeout p) s (s.updEthPort p (fun e => { e with tries := e.tries + 1 })))
      ∧ (2 ≤ (s.ethPort p).tries → ∃ t, Does (.preemptVerifyTimeout p) s t ∧ (t.ethPort p).verify = 3
          ∧ (Tab.get t.eth.events p {}).ev = (Tab.get s.eth.events p {}).ev ||| 2 ∧ t = { s with eth := t.eth }))
  ∧ (∀ (s : State) (p : Nat), 22 ≤ p → p < 26 → (s.ethPort p).plca.nodeId ≠ 0 →
      ((s.ethPort p).plca.active = true → ∃ t, Does (.plcaBeaconLost p) s t ∧ (t.ethPort p).plca.active = false
        ∧ (t.ethPort p).cnt = { (s.ethPort p).cnt with beaconLost := (s.ethPort p).cnt.beaconLost + 1 }
        ∧ (Tab.get t.eth.events p {}).ev = (Tab.get s.eth.events p {}).ev ||| 16 ∧ (∀ r, r ≠ p → t.ethPort r = s.ethPort r)
        ∧ t = { s with eth := t.eth })
      ∧ ((s.ethPort p).link = true → (s.ethPort p).plca.active = false → (s.ethPort p).plca.off = false →
          Does (.plcaBeaconReturn p) s (s.updEthPort p (fun e => { e with plca := { e.plca with active := true } })))))
  ∧ ((∀ (s : State) (p : Nat) (g : GateList), p < 30 → (s.gate p).oper = some g →
    let k := if (s.gate p).entry + 1 < g.entries.length then (s.gate p).entry + 1 else 0
    ∃ t, Does (.gateEntryAdvance p) s t ∧ t.gate p = { s.gate p with gates := (g.entries.getD k {}).gates, entry := k }
      ∧ (t.ethPort p).hold = (if (g.entries.getD k {}).op = 1 then true else if (g.entries.getD k {}).op = 2 then false else (s.ethPort p).hold)
      ∧ (t.swPort p).halted = ((s.swPort p).halted && decide ((g.entries.getD k {}).op ≠ 2))
      ∧ (∀ q, q ≠ p → t.gate q = s.gate q ∧ t.ethPort q = s.ethPort q ∧ t.swPort q = s.swPort q)
      ∧ t = { s with
          eth := { s.eth with gates := t.eth.gates, ports := t.eth.ports }
          sw := { s.sw with ports := t.sw.ports } })
  ∧ (∀ (s : State) (p : Nat) (g : GateList), p < 30 → (s.gate p).pend = some g →
      ∃ t, Does (.gateListSwitchover p) s t ∧ (t.gate p).oper = some g ∧ (t.gate p).pend = none ∧ (t.gate p).entry = 0
        ∧ (t.gate p).gates = (g.entries.getD 0 {}).gates ∧ t.eth.gevent = s.eth.gevent ||| 8
        ∧ (∀ q, q ≠ p → t.gate q = s.gate q ∧ t.ethPort q = s.ethPort q ∧ t.swPort q = s.swPort q)
        ∧ t = { s with
            eth := { s.eth with gates := t.eth.gates, ports := t.eth.ports, gevent := t.eth.gevent }
            sw := { s.sw with ports := t.sw.ports } })
  ∧ (∀ s : State, ∃ t, Does .policerRefill s t ∧ t = { s with eth := { s.eth with policers := t.eth.policers } } ∧ ∀ n,
      let u : Policer := Tab.get s.eth.policers n {}
      Tab.get t.eth.policers n {} = { u with tokens := min (u.tokens + u.rate.toNat) (u.burst.toNat * 8000) })
  ∧ (∀ (s : State) (n port len : Nat),
      let u : Policer := Tab.get s.eth.policers n {}
      (len * 8000 ≤ u.tokens → (s.police n port len).2 = true
        ∧ Tab.get (s.police n port len).1.eth.policers n {} = { u with tokens := u.tokens - len * 8000, passed := u.passed + 1 })
      ∧ (u.tokens < len * 8000 → (s.police n port len).2 = false
        ∧ Tab.get (s.police n port len).1.eth.policers n {} = { u with dropped := u.dropped + 1 }
        ∧ ((s.police n port len).1.swPort port).cnt.police = (s.swPort port).cnt.police + 1))
  ∧ (∀ (s : State) (n : Nat), n < 512 →
      let f : Frer := Tab.get s.eth.frers n {}
      f.rec_ = true → f.stream ≠ 0 → f.fresh = false →
      ∃ t, Does (.frerRecoveryTimeout n) s t ∧ Tab.get t.eth.frers n {} = { f with fresh := true, seen := 0, resets := satInc f.resets }
        ∧ t.eth.gevent = s.eth.gevent ||| 16 ∧ (∀ m, m ≠ n → Tab.get t.eth.frers m {} = Tab.get s.eth.frers m {})
        ∧ t = { s with eth := { s.eth with frers := t.eth.frers, gevent := t.eth.gevent } })
  ∧ (∀ (s : State) (p : Nat) (m : PtpMessage), p < 22 → s.bridgeOn p = true → (s.ethPort p).link = true →
      (m.kind = .sync → s.eth.bridge.role = 2 → (s.eth.bridge.port p).role = 2 → m.offset.natAbs ≤ 10000 →
        ∃ t, Does (.ptpMessageReceive p m) s t ∧ t.eth.bridge.offset = BitVec.ofInt 64 m.offset
          ∧ t.eth.bridge.good = (if m.offset.natAbs ≤ 1000 then s.eth.bridge.good + 1 else 0)
          ∧ t.tb.gstate = (if 4 ≤ t.eth.bridge.good then 1 else s.tb.gstate) ∧ t.tb.globalT = s.tb.globalT ∧ t.tb.localT = s.tb.localT
          ∧ -128000000 ≤ t.tb.adj.toInt ∧ t.tb.adj.toInt ≤ 128000000
          ∧ t = { s with
              tb := t.tb
              eth := { s.eth with bridge := t.eth.bridge } })
      ∧ (m.kind = .sync → s.eth.bridge.role = 2 → (s.eth.bridge.port p).role = 2 → 10000 < m.offset.natAbs →
        ∃ t, Does (.ptpMessageReceive p m) s t ∧ t.tb.globalT = s.tb.globalT + BitVec.ofInt 64 (-m.offset) ∧ t.tb.steps = s.tb.steps + 1
          ∧ t.tb.lastStep = BitVec.ofInt 64 (-m.offset) ∧ t.eth.gevent.getLsbD 2 = true ∧ t.eth.bridge.good = 0 ∧ t.tb.localT = s.tb.localT
          ∧ (∀ q g, (s.gate q).oper = some g → ((s.gate q).pend = none ∨ t.tb.globalT < (s.gate q).changeTime) →
              (t.gate q).oper = some g ∧ (t.gate q).entry = g.indexAt t.tb.globalT.toNat)
          ∧ (∀ q g, (s.gate q).pend = some g → (s.gate q).changeTime ≤ t.tb.globalT →
              (t.gate q).oper = some g ∧ (t.gate q).pend = none ∧ (t.gate q).entry = g.indexAt t.tb.globalT.toNat)
          ∧ t = { s with
              tb := t.tb
              eth := t.eth
              sw := { s.sw with ports := t.sw.ports } })
      ∧ (m.kind = .pdelay → ∃ t, Does (.ptpMessageReceive p m) s t ∧ (t.eth.bridge.port p).delay = m.delay
          ∧ (t.eth.bridge.port p).ratio = m.ratio ∧ (t.eth.bridge.port p).asCapable = decide (m.delay.toNat ≤ 12800)
          ∧ (t.eth.bridge.port p).info = (if m.delay.toNat ≤ 12800 then (s.eth.bridge.port p).info else none)
          ∧ (∀ q, q ≠ p → t.eth.bridge.port q = { s.eth.bridge.port q with role := (t.eth.bridge.port q).role })
          ∧ t = { s with
              tb := { s.tb with gstate := t.tb.gstate }
              eth := { s.eth with bridge := t.eth.bridge, gevent := t.eth.gevent } })
      ∧ (m.kind = .announce → s.tabLive p = true → m.info.steps ≠ 255 → m.info.sender ≠ ownClock → m.info.root.id ≠ ownClock →
          (s.eth.bridge.ext = true → (s.eth.bridge.port p).role = 2 →
            (∀ q, q < p → s.bridgeOn q = true → (s.eth.bridge.port q).role ≠ 2) →
            ∃ t, Does (.ptpMessageReceive p m) s t ∧ t.eth.bridge.gmId = m.info.root.id ∧ t.eth.bridge.stepsRemoved = m.info.steps + 1
              ∧ t.eth.bridge.role = 2
              ∧ t.eth.gevent = (if s.eth.bridge.gmId ≠ m.info.root.id ∨ s.eth.bridge.role ≠ 2 then s.eth.gevent ||| 1 else s.eth.gevent)
              ∧ t = { s with eth := { s.eth with bridge := t.eth.bridge, gevent := t.eth.gevent } })
          ∧ (s.eth.bridge.ext = false → (∀ q, q < 30 → q ≠ p → s.tabLive q = true → (s.eth.bridge.port q).info = none) →
            ∃ t, Does (.ptpMessageReceive p m) s t ∧ (t.eth.bridge.port p).info = some m.info
              ∧ (({ m.info with steps := m.info.steps + 1 } : PtpInfo).better s.eth.bridge.own p 0 = true →
                  t.eth.bridge.gmId = m.info.root.id ∧ t.eth.bridge.stepsRemoved = m.info.steps + 1 ∧ t.eth.bridge.role = 2
                  ∧ (t.eth.bridge.port p).role = 2 ∧ t.tb = s.tb)
              ∧ (({ m.info with steps := m.info.steps + 1 } : PtpInfo).better s.eth.bridge.own p 0 = false → s.eth.bridge.gmCapable = true →
                  t.eth.bridge.gmId = ownClock ∧ t.eth.bridge.stepsRemoved = 0 ∧ t.eth.bridge.role = 1
                  ∧ t.tb = { s.tb with gstate := 1 })
              ∧ t = { s with
                  tb := { s.tb with gstate := t.tb.gstate }
                  eth := { s.eth with bridge := t.eth.bridge, gevent := t.eth.gevent } }))
      ∧ (∀ k, (k = .pdelay ∨ (s.eth.bridge.port p).role = 1) → s.ptpMay p = false →
          Does (.ptpTransmitTimer p k) s (s.updEthPort p (fun e => { e with ptpDue := e.ptpDue + 1 })))
      ∧ (∀ k, (k = .pdelay ∨ (s.eth.bridge.port p).role = 1) → s.ptpMay p = true → (s.ethPort p).ptpDue = 0 →
          ∃ t, Does (.ptpTransmitTimer p k) s t
          ∧ beAt (t.swPort p).sent 6 6 = (Config.macBase.toNat + 130 + p) % 281474976710656 ∧ beAt (t.swPort p).sent 12 2 = 0x88F7
          ∧ (t.swPort p).sentBad = false
          ∧ (t.ethPort p).cnt = { (s.ethPort p).cnt with
              txFrames := (s.ethPort p).cnt.txFrames + 1
              txBytes := (s.ethPort p).cnt.txBytes + BitVec.ofNat 64 ((t.swPort p).sent.length + 4) }
          ∧ (∀ q, q ≠ p → t.ethPort q = s.ethPort q ∧ t.swPort q = s.swPort q)
          ∧ t = { s with
              core := { s.core with fresh := s.core.fresh + 1 }
              eth := { s.eth with ports := t.eth.ports }
              sw := { s.sw with ports := t.sw.ports } }))
  ∧ (∀ s : State, s.eth.bridge.en = true → (s.eth.bridge.role = 2 ∨ (s.eth.bridge.role = 0 ∧ s.tb.gstate = 1)) → s.tb.gstate ≠ 2 →
      Does .ptpSyncTimeout s { s with
        tb := { s.tb with gstate := 2 }
        eth := { s.eth with
          gevent := s.eth.gevent ||| 2
          bridge := { s.eth.bridge with good := 0 } } }))

/-- Frames at ingress: a frame with a fault of its FCS, its fragments or its length is dropped with its count; a good one is counted and
enters the pipeline, which drops a frame without a destination, admits one with room in the market with its cells charged, refuses one
without, and sends one that cuts through to express SRAM. Where MACsec works on the frame, an untagged one and one without a channel are dropped
and counted in strict validation, a late PN is a replay, a wrong ICV is an authentication failure, and a good one enters as plain text (the frame
format is PRESUMED of IEEE 802.1AE, log entry 24). PX frames count at port 29.

COMPLETION: where the conditions that its clauses put on the state and the operands hold, exec answers a next state with the effect stated
for CUT_THROUGH_START, FRAME_INGRESS. -/
def Obligations.FramesEnter : Prop :=
  (∀ (s : State) (p : Nat) (f : RawFrame), p < 26 → s.sw.forwarding = true → (s.ethPort p).link = true →
    let len := f.bytes.length + 4
    (f.fragErr = true → Does (.frameIngress p f) s (s.cntEth p (fun c => { c with assembly := c.assembly + 1 })))
    ∧ (f.fragErr = false → f.fcsErr = true → Does (.frameIngress p f) s (s.cntEth p (fun c => { c with fcsErr := c.fcsErr + 1 })))
    ∧ (f.fragErr = false → f.fcsErr = false → len < 64 → Does (.frameIngress p f) s (s.cntEth p (fun c => { c with runt := c.runt + 1 })))
    ∧ (f.fragErr = false → f.fcsErr = false → 64 ≤ len → (s.ethPort p).maxFrame.toNat < len →
        Does (.frameIngress p f) s (s.cntEth p (fun c => { c with oversize := c.oversize + 1 })))
    ∧ (f.fragErr = false → f.fcsErr = false → 64 ≤ len → len ≤ (s.ethPort p).maxFrame.toNat → etherType f.bytes ≠ 0x8808 →
        (etherType f.bytes = 0x88F7 → s.bridgeOn p = false) → s.macsecOn p f.bytes = false →
        Does (.frameIngress p f) s ((s.cntEth p (fun c => { c with
          rxFrames := c.rxFrames + 1, rxBytes := c.rxBytes + BitVec.ofNat 64 len })).forward { port := p, bytes := f.bytes }).1)
    ∧ (f.fragErr = false → f.fcsErr = false → 64 ≤ len → len ≤ (s.ethPort p).maxFrame.toNat →
        let u := s.cntEth p (fun c => { c with rxFrames := c.rxFrames + 1, rxBytes := c.rxBytes + BitVec.ofNat 64 len })
        let m := s.macsec p
        let k (ch : Nat) := ch * 4 + u8At f.bytes 14 % 4
        let a (ch : Nat) : MsSa := Tab.get m.rx (k ch) {}
        let pn (ch : Nat) := rxPn m.xpn (a ch).pn (beAt f.bytes 16 4)
        (etherType f.bytes = 0x8808 ∨ (etherType f.bytes = 0x88F7 ∧ s.bridgeOn p = true) → Does (.frameIngress p f) s u)
        ∧ (etherType f.bytes ≠ 0x8808 → s.macsecOn p f.bytes = true →
            (outerType f.bytes ≠ 0x88E5 → m.strict = true →
              Does (.frameIngress p f) s (u.cntMs p (fun c => { c with untagged := c.untagged + 1 })))
            ∧ (outerType f.bytes ≠ 0x88E5 → m.strict = false → Does (.frameIngress p f) s (u.forward { port := p, bytes := f.bytes }).1)
            ∧ (outerType f.bytes = 0x88E5 → m.strict = true → m.channel (secSci f.bytes) = none →
                Does (.frameIngress p f) s (u.cntMs p (fun c => { c with noSa := c.noSa + 1 })))
            ∧ (∀ ch, outerType f.bytes = 0x88E5 → m.channel (secSci f.bytes) = some ch → m.rx.has (k ch) = true →
                ((a ch).revoked = true → Does (.frameIngress p f) s ((u.cntMs p (fun c => { c with rxRevoked := c.rxRevoked + 1 })).ethEvent p 3))
                ∧ ((a ch).revoked = false → m.replay = true → pn ch + m.window.toNat < (a ch).pn.toNat →
                    Does (.frameIngress p f) s (u.cntMs p (fun c => { c with replay := c.replay + 1 })))
                ∧ ((a ch).revoked = false → (m.replay = true → (a ch).pn.toNat ≤ pn ch + m.window.toNat) →
                    (m.strict = true → (a ch).open_ m.xpn (pn ch) f.bytes = none →
                      Does (.frameIngress p f) s (u.cntMs p (fun c => { c with auth := c.auth + 1 })))
                    ∧ (∀ b, (a ch).open_ m.xpn (pn ch) f.bytes = some b →
                        Does (.frameIngress p f) s ((u.updMacsec p (fun m => { m with
                          rx := Tab.put m.rx (k ch) { a ch with pn := BitVec.ofNat 64 (max (a ch).pn.toNat (pn ch + 1)) }
                          cnt := { m.cnt with ok := m.cnt.ok + 1 } })).forward { port := p, bytes := b }).1))))))
  ∧ (∀ (s : State) (f : RawFrame), s.sw.forwarding = true → (s.swPort 29).link = true →
      let u := s.cntEth 29 (fun c => { c with rxFrames := c.rxFrames + 1, rxBytes := c.rxBytes + BitVec.ofNat 64 (f.bytes.length + 4) })
      (etherType f.bytes = 0x88F7 → s.bridgeOn 29 = true → Does (.frameIngress 29 f) s u)
      ∧ (etherType f.bytes ≠ 0x88F7 → Does (.frameIngress 29 f) s (u.forward { port := 29, bytes := f.bytes }).1))
  ∧ (∀ (s : State) (p : Nat) (b : List Byte),
      let a : Arrival := { port := p, bytes := b }
      let l := s.classify a
      let n := cellsOf b
      ((s.swPort p).en = false → s.forward a = (s, false))
      ∧ ((s.swPort p).en = true → l.filtered = true →
          s.forward a = (s.cntSw p (fun c => { c with classify := c.classify + 1 }), false))
      ∧ ((s.swPort p).en = true → l.filtered = false → l.entry = none → l.dests = [] →
          s.forward a = (s.cntSw p (fun c => { c with classify := c.classify + 1 }), false))
      ∧ (∀ e, (s.swPort p).en = true → l.filtered = false → l.entry = none → l.dests = [e] → e ≠ 26 → e ≠ 27 →
          s.sw.classMask.getLsbD l.cls = false →
          (∀ used, (Tab.get s.sw.accts 63 {}).used = used → used + n ≤ s.acctShare 63 → n ≤ s.sw.free →
            ∃ t, s.forward a = (t, true)
              ∧ t.sw.frames = s.sw.frames ++ [{
                  id := s.sw.nextFrame, ingress := p, bytes := b, tagged := isTagged b, vid := BitVec.ofNat 12 l.vid, cls := l.cls
                  hash := s.sw.hash p b, cells := n, dests := [e], time := s.tb.globalT }]
              ∧ t.sw.free = s.sw.free - n ∧ t.sw.expFree = s.sw.expFree ∧ (Tab.get t.sw.accts 63 {}).used = used + n
              ∧ (t.swPort p).cnt = { (s.swPort p).cnt with inFrames := (s.swPort p).cnt.inFrames + 1 }
              ∧ (t.swPort p).occ = (s.swPort p).occ + BitVec.ofNat 20 n ∧ t.sw.nextFrame = s.sw.nextFrame + 1
              ∧ (∀ q, q ≠ p → t.swPort q = s.swPort q ∧ t.ethPort q = s.ethPort q) ∧ t.sw.qps = s.sw.qps ∧ t.sw.flows = s.sw.flows
              ∧ t = { s with
                  eth := { s.eth with ports := t.eth.ports }
                  sw := t.sw })
          ∧ (s.sw.free < n → s.sw.pushEn = false → ∃ t, s.forward a = (t, false) ∧ t.sw.frames = s.sw.frames ∧ t.sw.free = s.sw.free
              ∧ (Tab.get t.sw.accts 63 {}).refused = satInc (Tab.get s.sw.accts 63 {}).refused
              ∧ (t.swPort p).cnt = { (s.swPort p).cnt with refuse := (s.swPort p).cnt.refuse + 1 }
              ∧ t.sw.event = s.sw.event ||| 16 ∧ t = { s with sw := t.sw })))
  ∧ (∀ (s : State) (p : Nat) (f : RawFrame) (e : Nat), p < 26 → s.sw.forwarding = true → (s.ethPort p).link = true →
      (s.swPort p).link = true → s.macsecOn p f.bytes = false → etherType f.bytes ≠ 0x8808 →
      (etherType f.bytes = 0x88F7 → s.bridgeOn p = false) →
      let a : Arrival := { port := p, bytes := f.bytes, wireLen := f.bytes.length }
      s.cutOk a = true → (s.classify a).entry = none → (s.classify a).dests = [e] →
        ∃ t g, Does (.cutThroughStart p f) s t ∧ t.sw.frames = s.sw.frames ++ [g] ∧ g.cut = true ∧ g.express = true ∧ g.dests = [e]
          ∧ g.bytes = f.bytes ∧ g.wireLen = f.bytes.length ∧ g.id = s.sw.nextFrame ∧ t.sw.expFree = s.sw.expFree - cellsOf f.bytes ∧ t.sw.free = s.sw.free
          ∧ (t.swPort p).cnt = { (s.swPort p).cnt with
              inFrames := (s.swPort p).cnt.inFrames + 1
              cut := (s.swPort p).cnt.cut + 1 }
          ∧ (∀ q, q ≠ p → t.swPort q = s.swPort q ∧ t.ethPort q = s.ethPort q)
          ∧ t = { s with
              eth := { s.eth with ports := t.eth.ports }
              sw := t.sw })

/-- Frames leave: an idle port starts the frame of the highest class that has one, in the order of its contenders, and nothing where none
waits; the internal ports pass it to the receive lists; a multicast frame is sent where a destination is ready and joins the residue where
none is; the last byte of a frame counts it, frees the copy, and the cells with the last copy, and on port 28 it hands the frame to the
gateway. Under MACsec the frame leaves protected with the next PN, or is dropped and counted where no association may send. On a T1S segment
without PLCA a collision is counted.

A frame that was cut through and has a bad FCS or runs over length leaves with an inverted FCS and is counted at its ingress; an express
frame interrupts a preemptable one at a fragment of enough bytes with enough left, and HOLD stops it there.

COMPLETION: where the conditions that its clauses put on the state and the operands hold, exec answers a next state with the effect stated
for EGRESS_TRANSMIT_START, FRAME_EGRESS_COMPLETE, MULTICAST_SERVICE, PLCA_TRANSMIT_OPPORTUNITY. -/
def Obligations.FramesLeave : Prop :=
  (∀ (s : State) (p : Nat) (cmd : Instr), s.portUp p = true → (s.swPort p).inFlight = [] →
    ((∃ n, cmd = .egressTransmitStart { port := p, sent := n } ∧ p < 30 ∧ (s.ethPort p).plca.active = false)
      ∨ (cmd = .plcaTransmitOpportunity p ∧ 22 ≤ p ∧ p < 26 ∧ (s.ethPort p).plca.active = true)) →
      ((∀ c, c < 8 → s.nextContender p c = none) → Does cmd s s)
      ∧ (∀ c k i f, c < 8 → (∀ d, c < d → d < 8 → s.nextContender p d = none) → s.nextContender p c = some (k, i) → s.classOk p c = true →
          s.frame i = some f → s.guardOk p c (s.wireLen f p) = true →
          (p ≠ 26 → p ≠ 27 → s.macsecOn p (s.egressEdit f p) = false →
            ∃ t, Does cmd s t ∧ (t.swPort p).inFlight = [i]
              ∧ t.frame i = some { f with begun := true, out := Tab.put f.out p (s.egressEdit f p) } ∧ (t.swPort p).cnt = (s.swPort p).cnt
              ∧ (Tab.get t.sw.planes (f.hash.extractLsb' 0 2).toNat {}).frames = (Tab.get s.sw.planes (f.hash.extractLsb' 0 2).toNat {}).frames + 1
              ∧ (∀ q, q ≠ p → t.swPort q = s.swPort q) ∧ t.sw.free = s.sw.free ∧ t.sw.expFree = s.sw.expFree ∧ t = { s with sw := t.sw })
          ∧ (s.macsecOn p (s.egressEdit f p) = true →
              let b := s.egressEdit f p
              let m := s.macsec p
              let a : MsSa := Tab.get m.tx m.txAn.toNat {}
              (a.revoked = false → m.txValid = true → a.exhausted = false → b.length + 4 + m.adds ≤ 9216 →
                ∃ t, Does cmd s t ∧ (t.swPort p).inFlight = [i]
                  ∧ t.frame i = some { f with begun := true, out := Tab.put f.out p (a.protect m m.txAn.toNat m.txPn.toNat b) }
                  ∧ (t.macsec p).txPn = BitVec.ofNat 64 (m.txPn.toNat + 1) ∧ (t.macsec p).cnt = { m.cnt with prot := m.cnt.prot + 1 }
                  ∧ (t.macsec p).txValid = !decide (pnEnd m.xpn ≤ m.txPn.toNat + 1) ∧ (∀ q, q ≠ p → t.macsec q = s.macsec q)
                  ∧ t = { s with
                      eth := { s.eth with macsecs := t.eth.macsecs, events := t.eth.events }
                      sw := t.sw })
              ∧ (a.revoked = false → m.txValid = false ∨ a.exhausted = true ∨ 9216 < b.length + 4 + m.adds →
                ∃ t, Does cmd s t ∧ (t.swPort p).inFlight = [] ∧ (t.macsec p).cnt = { m.cnt with txDrop := m.cnt.txDrop + 1 }
                  ∧ (t.macsec p).txPn = m.txPn))
          ∧ (∀ q, (p = 26 ∨ p = 27) → f.qps = [q] → q / 64 = p - 26 → (s.qp q).rxList.length < (s.qp q).depth.toNat → f.dests = [p] →
            ∃ t, Does cmd s t ∧ (t.qp q).rxList = (s.qp q).rxList ++ [i] ∧ (t.swPort p).cnt.outFrames = (s.swPort p).cnt.outFrames + 1
              ∧ (t.ethPort p).cnt.txFrames = (s.ethPort p).cnt.txFrames + 1 ∧ (t.frame i).isSome = true
              ∧ (∀ r, r ≠ q → t.qp r = s.qp r) ∧ t.sw.free = s.sw.free
              ∧ t = { s with
                  eth := { s.eth with ports := t.eth.ports }
                  sw := t.sw })))
  ∧ (∀ (s : State) (p cl : Nat) (ready : BitVec 30) (f : Frame), p < 30 → cl < 8 →
    s.sw.frames.find? (fun f => f.ingress = p && f.cls = cl && f.multi && !f.served) = some f → s.frame f.id = some f →
      (f.dests ≠ [] → f.dests.Nodup → (∀ q, q ∈ f.dests → s.mcReady f ready q = false
          ∧ (Tab.get s.sw.residue (q * 8 + f.cls) []).length < 64) →
        ∃ t, Does (.multicastService p cl ready) s t ∧ t.frame f.id = some { f with served := true }
          ∧ (∀ q, q ∈ f.dests → Tab.get t.sw.residue (q * 8 + f.cls) [] = Tab.get s.sw.residue (q * 8 + f.cls) [] ++ [f.id])
          ∧ t.sw.ports = s.sw.ports ∧ t.sw.planes = s.sw.planes ∧ t = { s with sw := t.sw })
      ∧ (∀ q, f.dests = [q] → q ≠ 26 → q ≠ 27 → s.macsecOn q (s.egressEdit f q) = false → s.mcReady f ready q = true →
        ∃ t, Does (.multicastService p cl ready) s t ∧ (t.swPort q).inFlight = (s.swPort q).inFlight ++ [f.id]
          ∧ t.frame f.id = some { f with served := true, begun := true, out := Tab.put f.out q (s.egressEdit f q) }
          ∧ (Tab.get t.sw.planes (f.hash.extractLsb' 0 2).toNat {}).frames
            = (Tab.get s.sw.planes (f.hash.extractLsb' 0 2).toNat {}).frames + 1
          ∧ t.sw.residue = s.sw.residue ∧ (∀ r, r ≠ q → t.swPort r = s.swPort r) ∧ t = { s with sw := t.sw }))
  ∧ (∀ (s : State) (p i : Nat) (bad : Bool) (f : Frame), p < 30 → s.frame i = some f → f.id = i → (s.swPort p).inFlight.contains i = true →
    (s.swPort p).halted = false → f.cut = false →
      let alone := (s.ethPort p).due = [] ∧ (s.ethPort p).ptpDue = 0
      (f.dests = [p] → f.qps = [] →
        ∃ t, Does (.frameEgressComplete p i bad) s t ∧ t.frame i = none
          ∧ (f.express = false → t.sw.free = s.sw.free + f.cells ∧ t.sw.expFree = s.sw.expFree)
          ∧ (f.express = true → t.sw.free = s.sw.free ∧ t.sw.expFree = s.sw.expFree + f.cells)
          ∧ (t.swPort p).cnt = { (s.swPort p).cnt with outFrames := (s.swPort p).cnt.outFrames + 1 }
          ∧ (f.ingress ≠ p → alone → (t.ethPort p).cnt.txFrames = (s.ethPort p).cnt.txFrames + 1)
          ∧ (p = 28 → s.bus.gw.en = true → t.bus = { s.bus with gw := { s.bus.gw with
              inbox := Tab.put s.bus.gw.inbox i (Tab.get f.out 28 []) } })
          ∧ (p ≠ 28 ∨ s.bus.gw.en = false → t.bus = s.bus)
          ∧ t = { s with
              core := { s.core with fresh := t.core.fresh }
              bus := t.bus
              eth := { s.eth with ports := t.eth.ports }
              sw := t.sw })
      ∧ (∀ q, q ≠ p → f.dests = [p, q] →
          ∃ t, Does (.frameEgressComplete p i bad) s t ∧ t.frame i = some { f with dests := [q] } ∧ t.sw.free = s.sw.free
            ∧ (t.swPort p).inFlight.contains i = false ∧ (t.ethPort p).due = []
            ∧ (alone → (t.swPort p).sent = Tab.get f.out p [] ∧ (t.swPort p).sentBad = (s.swPort p).spoiled.contains i
                ∧ (t.ethPort p).cnt.txFrames = (s.ethPort p).cnt.txFrames + 1
                ∧ (t.ethPort p).cnt.txBytes = (s.ethPort p).cnt.txBytes + BitVec.ofNat 64 ((Tab.get f.out p []).length + 4))
            ∧ (∀ r, r ≠ p → t.swPort r = s.swPort r ∧ t.ethPort r = s.ethPort r) ∧ t = { s with
              core := { s.core with fresh := t.core.fresh }
              bus := { s.bus with gw := { s.bus.gw with inbox := t.bus.gw.inbox } }
              eth := { s.eth with ports := t.eth.ports }
              sw := t.sw }))
  ∧ (∀ (s : State) (p i : Nat) (fcs : Bool) (f : Frame), p < 30 → s.frame i = some f → (s.swPort p).inFlight.contains i = true →
    (s.swPort p).halted = false → f.cut = true → f.ingress < 26 →
      let long := decide ((s.ethPort f.ingress).maxFrame.toNat < f.wireLen + 4)
      let c := (s.ethPort f.ingress).cnt
      ∃ t, Does (.frameEgressComplete p i fcs) s t ∧ (t.swPort p).cnt.outFrames = (s.swPort p).cnt.outFrames + 1
        ∧ (t.swPort p).cnt.cutAbort = (if fcs || long then (s.swPort p).cnt.cutAbort + 1 else (s.swPort p).cnt.cutAbort)
        ∧ (f.ingress ≠ p → (s.ethPort p).due = [] → (s.ethPort p).ptpDue = 0 → (t.swPort p).sent = Tab.get f.out p []
            ∧ (t.swPort p).sentBad = (fcs || long || (s.swPort p).spoiled.contains i))
        ∧ (t.ethPort f.ingress).cnt.fcsErr = (if fcs then c.fcsErr + 1 else c.fcsErr)
        ∧ (t.ethPort f.ingress).cnt.oversize = (if !fcs && long then c.oversize + 1 else c.oversize)
        ∧ (t.ethPort f.ingress).cnt.rxFrames = (if fcs || long then c.rxFrames else c.rxFrames + 1)
        ∧ t = { s with
            core := { s.core with fresh := t.core.fresh }
            bus := { s.bus with gw := { s.bus.gw with inbox := t.bus.gw.inbox } }
            eth := { s.eth with ports := t.eth.ports }
            sw := t.sw })
  ∧ (∀ (s : State) (p i n : Nat) (f : Frame), p < 10 → s.portUp p = true → (s.swPort p).inFlight = [i] → s.frame i = some f →
    s.splittable p n = true → (s.swPort p).halted = false → (s.ethPort p).due = [] → (s.ethPort p).plca.active = false →
      let express (c : Nat) : Bool := decide (c < 8) && (s.ethPort p).expressMask.getLsbD c
      let more (was now : State) : Prop := (now.swPort p).frags = (was.swPort p).frags + 1
        ∧ (now.swPort p).fragSent = (was.swPort p).fragSent + n ∧ (now.ethPort p).cnt.preempted
        = (if (was.swPort p).frags = 0 then (was.ethPort p).cnt.preempted + 1 else (was.ethPort p).cnt.preempted)
      (∀ b, let u := s.updSwPort p (fun w => { w with halted := true }); Does (.frameEgressComplete p i b) u u)
      ∧ ((∀ c, express c = true → s.nextContender p c = none) →
        ((s.ethPort p).hold = false → Does (.egressTransmitStart { port := p, sent := n }) s s)
        ∧ ((s.ethPort p).hold = true → ∃ t, Does (.egressTransmitStart { port := p, sent := n }) s t
            ∧ (t.swPort p).halted = true ∧ (t.swPort p).inFlight = [i] ∧ more s t))
      ∧ (∀ c k j g, express c = true → (∀ d, express d = true → c < d → s.nextContender p d = none) → s.nextContender p c = some (k, j) →
          s.classOk p c = true → s.frame j = some g → s.guardOk p c (s.wireLen g p) = true → s.macsecOn p (s.egressEdit g p) = false →
          (s.ethPort p).hold = false →
          ∃ t, Does (.egressTransmitStart { port := p, sent := n }) s t ∧ (t.swPort p).inFlight = [j, i] ∧ more s t
            ∧ (∀ q, q ≠ p → t.swPort q = s.swPort q ∧ t.ethPort q = s.ethPort q)))
  ∧ (∀ (s : State) (p n : Nat), 22 ≤ p → p < 26 → s.portUp p = true → (s.ethPort p).plca.active = false → (s.swPort p).inFlight = [] →
      ((∀ c, c < 8 → s.nextContender p c = none) → Does (.egressTransmitStart { port := p, sent := n, collides := true }) s s)
      ∧ (∀ c k i f, c < 8 → (∀ d, c < d → d < 8 → s.nextContender p d = none) → s.nextContender p c = some (k, i) → s.classOk p c = true →
          s.frame i = some f → s.guardOk p c (s.wireLen f p) = true →
          Does (.egressTransmitStart { port := p, sent := n, collides := true }) s
            (s.cntEth p (fun c => { c with collisions := c.collisions + 1 }))))

/-- Doorbells and queue engines: a tail write of a queue pair or of a ring moves its tail, modulo the depth, and is answered TERR while an
instance reset holds it; the transmit engine reads the next descriptor, ends one with a wrong length with BAD_PARAM, and presents the frame of a
good one to the pipeline with the class it may have; the receive engine writes the frame at the head of the list, in pieces of 64 bytes where it
gives way to an express frame of another pair (DEDUCED, log entry 158), and drops and counts one that the buffer cannot hold, without using its
descriptor. An access that is answered RETRY is made again.

COMPLETION: where the conditions that its clauses put on the state and the operands hold, exec answers a next state with the effect stated
for CR_SQ_TAIL_WRITE, QP_RX_COPY, QP_RX_TAIL_WRITE, QP_TX_DESCRIPTOR_PROCESS, QP_TX_TAIL_WRITE. -/
def Obligations.QueuesAndDoorbells : Prop :=
  (∀ (s : State) (q : Nat) (a : Attr) (v : U16), q < 128 → s.fabricUp = true → s.sends a →
    (s.portFree .write (writeX a (0x11C00000 + q * 0x1000 + 0x10) 4 v.toNat) → s.verdict a (0x11C00000 + q * 0x1000 + 0x10) 4 false true = .ok →
      ((s.qp q).stopped = false → ∃ t, Does (.qpTxTailWrite q a v) s t
        ∧ t.qp q = { s.qp q with txTail := BitVec.ofNat 16 (v.toNat % max 1 (s.qp q).depth.toNat) } ∧ (∀ r, r ≠ q → t.qp r = s.qp r)
        ∧ t = { s with
            sw := { s.sw with qps := t.sw.qps }
            core := { s.core with resp := { code := .ok, data := [] } } })
      ∧ ((s.qp q).stopped = true → Does (.qpTxTailWrite q a v) s { s with core := { s.core with resp := { code := .terr, data := [] } } }))
    ∧ (s.portFree .write (writeX a (0x11C00000 + q * 0x1000 + 0x18) 4 v.toNat) → s.verdict a (0x11C00000 + q * 0x1000 + 0x18) 4 false true = .ok →
      ((s.qp q).stopped = false → ∃ t, Does (.qpRxTailWrite q a v) s t
        ∧ t.qp q = { s.qp q with rxTail := BitVec.ofNat 16 (v.toNat % max 1 (s.qp q).depth.toNat) } ∧ (∀ r, r ≠ q → t.qp r = s.qp r)
        ∧ t = { s with
            sw := { s.sw with qps := t.sw.qps }
            core := { s.core with resp := { code := .ok, data := [] } } })
      ∧ ((s.qp q).stopped = true → Does (.qpRxTailWrite q a v) s { s with core := { s.core with resp := { code := .terr, data := [] } } })))
  ∧ (∀ (s : State) (r : Nat) (a : Attr) (v : U16), r < 64 → s.fabricUp = true → s.sends a →
    s.portFree .write (writeX a (0x14100000 + r * 0x1000 + 0x10) 4 v.toNat) → s.verdict a (0x14100000 + r * 0x1000 + 0x10) 4 false true = .ok →
      ((s.ring r).stopped = false → ∃ t, Does (.crSqTailWrite r a v) s t
        ∧ t.ring r = { s.ring r with sqTail := BitVec.ofNat 16 (v.toNat % max 1 (s.ring r).depth.toNat) } ∧ (∀ k, k ≠ r → t.ring k = s.ring k)
        ∧ t = { s with
            ce := { s.ce with rings := t.ce.rings }
            core := { s.core with resp := { code := .ok, data := [] } } })
      ∧ ((s.ring r).stopped = true → Does (.crSqTailWrite r a v) s { s with core := { s.core with resp := { code := .terr, data := [] } } }))
  ∧ (∀ (s : State) (q : Nat) (t : Attr), q < 128 → s.qpAttr q = some t → s.enginesRun = true → (s.qp q).run = true →
    ((s.qp q).stopped = false ∨ (s.qp q).txBusy = true) → (s.qp q).txHead ≠ (s.qp q).txTail →
      let a := (s.qp q).txBase.toNat + (s.qp q).txHead.toNat * 32
      let r := s.dmaRead t a 32
      (s.dmaMay t a 32 = false → Does (.qpTxDescriptorProcess q) s
        (if s.metered t a = true ∧ (s.reg t.inst.toNat).admits (chargeOf 32) = false then
          s.updReg t.inst.toNat (fun r => { r with heldNow := true }) else s))
      ∧ (s.dmaMay t a 32 = true →
        (r.2.1 = .retry → Does (.qpTxDescriptorProcess q) s (s.dmaWait r.1))
        ∧ (r.2.1 ≠ .ok → r.2.1 ≠ .retry → Does (.qpTxDescriptorProcess q) s (r.1.txDone q t a (0x0100 + BitVec.ofNat 16 r.2.1.code)))
        ∧ (r.2.1 = .ok → s.qpOff q = true → (s.qp q).txBusy = false → Does (.qpTxDescriptorProcess q) s (r.1.txDone q t a 0x0021))
        ∧ (r.2.1 = .ok → (s.qpOff q = false ∨ (s.qp q).txBusy = true) →
          ((u16At r.2.2 8 < 60 ∨ 9212 < u16At r.2.2 8 ∨ 7 < u8At r.2.2 10) →
            Does (.qpTxDescriptorProcess q) s (r.1.txDone q t a 0x0013))
          ∧ (60 ≤ u16At r.2.2 8 → u16At r.2.2 8 ≤ 9212 → u8At r.2.2 10 ≤ 7 →
            let h := s.updQp q (fun u => { u with txBusy := true })
            let b := r.1.dmaRead t (u64At r.2.2 0) (u16At r.2.2 8)
            let g := (b.1.goodFrame (26 + q / 64) b.2.2.length).enter {
              port := 26 + q / 64, bytes := b.2.2, cls := some (min (u8At r.2.2 10) (s.qp q).maxClass.toNat), fromQp := some q }
            (h.dmaMay t (u64At r.2.2 0) (u16At r.2.2 8) = true →
              (b.2.1 = .ok → g.2 = true → Does (.qpTxDescriptorProcess q) s
                ((g.1.txDone q t a 0).onCore (fun c => { c with fresh := c.fresh + 1 })))
              ∧ (b.2.1 = .retry → Does (.qpTxDescriptorProcess q) s (h.dmaWait b.1))
              ∧ (b.2.1 ≠ .ok → b.2.1 ≠ .retry → Does (.qpTxDescriptorProcess q) s
                (b.1.txDone q t a (0x0100 + BitVec.ofNat 16 b.2.1.code))))))))
  ∧ (∀ (s : State) (q a : Nat) (t : Attr) (st : U16), (s.recordWrite t (a + 12) (leBytes 2 st.toNat) (s.msiOf 0x01 q)).1.sw = s.sw →
      (s.txDone q t a st).qp q = { s.qp q with
        txHead := addIndex (s.qp q).txHead (s.qp q).depth (1 + (s.qp q).txSkip), txBusy := false, txSkip := 0 }
      ∧ (∀ r, r ≠ q → (s.txDone q t a st).qp r = s.qp r) ∧ (s.txDone q t a st).sw.frames = s.sw.frames)
  ∧ (∀ (s : State) (q i : Nat) (t : Attr) (f : Frame), q < 128 → s.qpAttr q = some t → s.enginesRun = true → (s.qp q).run = true →
    ((s.qp q).stopped = false ∨ (s.qp q).rxBusy = true) → (s.qp q).rxHead ≠ (s.qp q).rxTail →
    (s.qpOff q = false ∨ (s.qp q).rxBusy = true) → (s.qp q).rxList.head? = some i → s.frame i = some f →
      let a := (s.qp q).rxBase.toNat + (s.qp q).rxHead.toNat * 32
      let b := s.egressEdit f (26 + q / 64)
      let r := s.dmaRead t a 32
      let at_ := (s.qp q).rxAt
      let n := if s.copyYields q f = true ∧ at_ + 64 < b.length then 64 else b.length - at_
      let dst := u64At r.2.2 0 + at_
      let w := (r.1.rxBegin i).dmaWrite t dst ((b.drop at_).take n)
      let h := (s.updQp q (fun u => { u with rxBusy := true })).updFrame i (fun f => { f with begun := true })
      let next (u : Qp) : Qp := { u with rxHead := addIndex u.rxHead u.depth (1 + u.rxSkip), rxBusy := false, rxAt := 0, rxSkip := 0 }
      s.dmaMay t a 32 = true → (r.2.1 = .retry → Does (.qpRxCopy q) s (s.dmaWait r.1)) ∧ (r.2.1 = .ok →
        (u16At r.2.2 8 < b.length →
          Does (.qpRxCopy q) s ((r.1.rxPop q i).updQp q (fun u => { u with rxDrop := satInc u.rxDrop })))
        ∧ (b.length ≤ u16At r.2.2 8 → h.dmaMay t dst n = true →
          (w.2 = .ok → b.length ≤ at_ + n → Does (.qpRxCopy q) s ((w.1.rxPop q i).qpDone q t (a + 10) (f.rxBytes b) next))
          ∧ (w.2 = .ok → at_ + n < b.length → Does (.qpRxCopy q) s (w.1.updQp q (fun u => { u with rxBusy := true, rxAt := at_ + n })))
          ∧ (w.2 = .retry → Does (.qpRxCopy q) s h)
          ∧ (w.2 ≠ .ok → w.2 ≠ .retry → Does (.qpRxCopy q) s
              ((w.1.qpDone q t (a + 12) (leBytes 2 (0x0100 + BitVec.ofNat 16 w.2.code : U16).toNat) next).rxPop q i)))))

/-- Cipher rings: a ring is created empty with the depth and bandwidth asked for; a descriptor that passes its checks becomes a job and one that
does not ends with its status; a waiting job's key is loaded, or the job fails where its node is no longer current; a chunk adds what it reads
and is charged to the ring's bucket; a job ends with the tag's comparison, with the digest or tag written, or with its last text, and a staged
decryption writes its text only where the tag agrees;
every bucket refills up to its bound.

COMPLETION: where the conditions that its clauses put on the state and the operands hold, exec answers a next state with the effect stated
for JOB_CHUNK, JOB_COMPLETE, JOB_FETCH, KEY_REGISTER_LOAD, RING_BUCKET_REFILL, RING_CREATE. -/
def Obligations.RingsAndJobs : Prop :=
  (∀ (rq : Request) (s u : State) (i : Nat), u = s.heard rq → s.takes specRingCreate rq (s.okRingCreate 0 false) false → rq.route = .stall 0 →
      (u.fnOff 0 5 0 = false → u.firstFree 6 64 = some i → u.roomFor 6 0 0 false 1 (u32At rq.payload 4) = true → u.blockIsOff 0x01 = false →
        ∃ t, Replies (.ringCreate rq) rq s t
            { handle := some (mkHandle 6 0 (u.genOf 6 i) i), payload := leBytes 8 (0x14100000 + i * 0x1000) }
          ∧ t.ring i = { depth := BitVec.ofNat 16 (u16At rq.payload 0), enabled := true, mbps := BitVec.ofNat 16 (u32At rq.payload 4) }
          ∧ (∀ m, m ≠ i → t.ring m = u.ring m) ∧ (t.hLive 6 i).isSome = true
          ∧ t = { u with
              mgmt := { u.mgmt with handles := t.mgmt.handles }
              ce := { u.ce with rings := t.ce.rings } })
      ∧ (u.fnOff 0 5 0 = true → Replies (.ringCreate rq) rq s u { st := .fnDisabled })
      ∧ (u.fnOff 0 5 0 = false → u.firstFree 6 64 = none → Replies (.ringCreate rq) rq s u { st := .noResource }))
  ∧ (∀ (s : State) (n : Nat), n < 64 → s.jobEngine = true → (s.hFind 6 n).isSome = true → (s.ring n).run = true → (s.ring n).stopped = false →
    (s.ring n).sqHead ≠ (s.ring n).sqTail → s.ce.jobs.length < 256 → (s.ringJobs n).length < 32 → s.ringRoom n = true → s.ringOff n = false →
      let slot := (s.ring n).sqHead.toNat
      let r := s.dmaRead (s.ringAttr n) ((s.ring n).sqBase.toNat + slot * 64) 64
      let d := descAt r.2.2
      s.dmaMay (s.ringAttr n) ((s.ring n).sqBase.toNat + slot * 64) 64 = true → r.2.1 = .ok →
        (∀ k, s.jobCheck n d = (.ok, k) → ∃ t, Does (.jobFetch n) s t
          ∧ t.ce.jobs = s.ce.jobs ++ [{
              id := s.ce.nextJob, ring := n, slot := slot, desc := d, node := k
              loaded := k.any (fun m => s.ks.engine.contains m) || !d.keyed }]
          ∧ t.ce.nextJob = s.ce.nextJob + 1 ∧ t.ring n = { s.ring n with sqHead := nextIndex (s.ring n).sqHead (s.ring n).depth }
          ∧ (∀ m, m ≠ n → t.ring m = s.ring m) ∧ t.core.dram = s.core.dram)
        ∧ (∀ e k, e ≠ .ok → s.jobCheck n d = (e, k) → Does (.jobFetch n) s
            ((r.1.updRing n (fun g => { g with sqHead := nextIndex g.sqHead g.depth })).jobRecord n slot d e.code 0 false true)))
  ∧ (∀ (s : State) (n : Nat) (d : Desc), (d.ok = false → s.jobCheck n d = (.badParam, none))
      ∧ (d.ok = true → d.key ≠ 0 → hType d.key ≠ 7 → s.jobCheck n d = (.badHandle, none)))
  ∧ (∀ (s : State) (i n : Nat) (j : Job), s.job i = some j → j.node = some n → j.loaded = false → j.fail = none → s.ksReady = true →
    s.jobEngine = true →
      (s.ks.current pathFuel n = true → ∃ t, Does (.keyRegisterLoad i) s t ∧ t.job i = some { j with loaded := true }
        ∧ n ∈ t.ks.engine ∧ (∀ k, k ≠ i → t.job k = s.job k)
        ∧ t = { s with
            ks := { s.ks with engine := t.ks.engine }
            ce := { s.ce with jobs := t.ce.jobs } })
      ∧ (s.ks.current pathFuel n = false → ∃ t, Does (.keyRegisterLoad i) s t ∧ t.job i = some { j with fail := some 0x0020 }
        ∧ (∀ k, k ≠ i → t.job k = s.job k) ∧ t = { s with ce := { s.ce with jobs := t.ce.jobs } }))
  ∧ (∀ (s : State) (i : Nat) (j : Job), s.job i = some j → s.jobEngine = true → s.jobMayStart j = true → j.input.length < j.desc.total →
    j.nextChunk * 8 ≤ (s.ring j.ring).bucket → j.desc.gcm = false → j.desc.isXts = false →
    s.dmaMay (s.ringAttr j.ring) (j.desc.src + j.input.length) j.nextChunk = true →
      let r := s.dmaRead (s.ringAttr j.ring) (j.desc.src + j.input.length) j.nextChunk
      (r.2.1 = .ok → ∃ t, Does (.jobChunk i) s t ∧ t.job i = some { j with input := j.input ++ r.2.2, begun := true, fail := none }
        ∧ (t.ring j.ring).bucket = (s.ring j.ring).bucket - j.nextChunk * 8
        ∧ (t.ring j.ring).bytes = (s.ring j.ring).bytes + BitVec.ofNat 64 j.nextChunk
        ∧ (∀ m, m ≠ j.ring → t.ring m = s.ring m) ∧ t.core.dram = s.core.dram)
      ∧ (r.2.1 ≠ .ok → r.2.1 ≠ .retry → ∃ t, Does (.jobChunk i) s t
          ∧ t.job i = some { j with begun := true, fail := some (fabricStatus r.2.1) } ∧ t.core.dram = s.core.dram))
  ∧ (∀ (s : State) (i : Nat) (j : Job), s.job i = some j → s.jobEngine = true →
      (∀ st, j.fail = some st → Does (.jobComplete i) s (s.jobEnd j st j.wrote true))
      ∧ (j.fail = none → s.jobMayStart j = true → j.desc.total ≤ j.input.length → j.desc.op = 2 → j.desc.len ≤ 65536 →
          let r := s.dmaRead (s.ringAttr j.ring) j.desc.tag j.desc.tagLen
          let w := r.1.dmaWrite (s.ringAttr j.ring) j.desc.dst (s.jobText j)
          r.2.1 = .ok → r.1.core.dram = s.core.dram ∧ Does (.jobComplete i) s (if r.2.2 = s.jobTag j
            then (if w.2 = .retry then s.dmaWait w.1
              else w.1.jobEnd j (if w.2 = .ok then 0 else fabricStatus w.2) (r.1.anyWritten (s.ringAttr j.ring) j.desc.dst (s.jobText j)) true)
            else r.1.jobEnd j 0x0701 j.wrote true))
      ∧ (j.fail = none → s.jobMayStart j = true → j.desc.total ≤ j.input.length → j.desc.isXts = false → j.desc.op ≠ 0x0F →
          j.desc.verifies = false →
          let w := s.dmaWrite (s.ringAttr j.ring) j.desc.tag (s.jobTag j)
          Does (.jobComplete i) s (if w.2 = .retry then s.dmaWait w.1
            else w.1.jobEnd j (if w.2 = .ok then 0 else fabricStatus w.2) j.wrote true))
      ∧ (j.fail = none → s.jobMayStart j = true → j.desc.total ≤ j.input.length → j.desc.isXts = true →
          Does (.jobComplete i) s (s.jobEnd j 0 j.wrote true)))
  ∧ (∀ (s : State) (n slot done : Nat) (d : Desc) (st : U16) (invalid irq : Bool),
      let rec16 := leBytes 4 d.cookie.toNat ++ leBytes 2 st.toNat ++ leBytes 1 d.op ++ leBytes 1 (if invalid then 1 else 0)
        ++ leBytes 4 done ++ leBytes 2 slot ++ leBytes 2 0
      let w := s.recordWrite (s.ringAttr n) ((s.ring n).cqBase.toNat + (s.ring n).cqTail.toNat * 16) rec16
        (if irq = true ∧ d.flags % 2 = 1 then s.msiOf 0x06 n else none)
      let t := s.jobRecord n slot d st done invalid irq
      t.ring n = { w.1.ring n with
          cqTail := nextIndex (w.1.ring n).cqTail (w.1.ring n).depth
          jobs := (w.1.ring n).jobs + 1
          err := if st = 0 then (w.1.ring n).err else satInc (w.1.ring n).err }
        ∧ t.ce.jobsDone = w.1.ce.jobsDone + 1 ∧ t.core.dram = w.1.core.dram ∧ t.ce.jobs = w.1.ce.jobs
        ∧ t.ce.authFail = (if st = 0x0701 then satInc w.1.ce.authFail else w.1.ce.authFail))
  ∧ (∀ s : State, s.jobEngine = true → ∃ t, Does .ringBucketRefill s t ∧ t = { s with ce := { s.ce with rings := t.ce.rings } }
      ∧ ∀ n, t.ring n = { s.ring n with bucket := min 524288 ((s.ring n).bucket + (s.ring n).mbps.toNat) })

/-- The Pass link and the partner: training ends in full operation, in PARTIAL on the heartbeat lane alone, and between two modules of one role in
a clash; lanes that fail and return change the width, and the last one takes the link down; a loss ends every open transaction; heartbeats go
out with the next sequence, and the third in a row makes the partner ALIVE; without them it is DOWN where its fault line is low or its vector says
COMMITTED, and CUT otherwise; role A resets a partner that is CUT once.

COMPLETION: where the conditions that its clauses put on the state and the operands hold, exec answers a next state with the effect stated
for AUTO_PARTNER_RESET, HEARTBEAT_LOSS, HEARTBEAT_RECEIVE, HEARTBEAT_SEND, PARTNER_FAULT_CHANGE, PARTNER_STARTUP_TIMEOUT, PASS_LANE_FAIL,
PASS_LANE_RETRY, PASS_LINK_LOSS, PASS_LINK_TRAINED, ROLE_CLASH_RETRY, SIDEBAND_RECEIVE, SIDEBAND_SEND. -/
def Obligations.LinkAndPartner : Prop :=
  (∀ (s : State) (lanes : BitVec 4), s.pass.paired = true → s.linkMode = true → lanes ≠ 0 →
    (s.pass.link = .training →
      (∃ t, Does (.passLinkTrained true lanes) s t ∧ t.pass = { s.pass with link := .down, event := s.pass.event ||| 1 ||| 32 }
        ∧ t.supply = s.supply ∧ t.sw = s.sw ∧ t.ps = s.ps)
      ∧ ∃ t, Does (.passLinkTrained false lanes) s t
        ∧ t.pass = { s.pass with
            link := .up, lanes := runLanes lanes, reduced := decide (s.aon.mode = .part), event := s.pass.event ||| 1 }
        ∧ (t.swPort 29).link = decide (s.aon.mode ≠ .part) ∧ (∀ p, p ≠ 29 → t.swPort p = s.swPort p)
        ∧ ((s.swPort 29).link = false ∨ s.aon.mode ≠ .part → t.eth = s.eth ∧ t.tb = s.tb)
        ∧ t = { s with
            pass := t.pass
            tb := { s.tb with gstate := t.tb.gstate }
            eth := { s.eth with bridge := t.eth.bridge, gevent := t.eth.gevent }
            sw := { s.sw with ports := t.sw.ports } })
    ∧ (s.pass.link = .down →
      Does (.passLaneRetry lanes) s { s with pass := { s.pass with link := .training, event := s.pass.event ||| 1 } }
      ∧ Does .roleClashRetry s { s with pass := { s.pass with link := .training, event := s.pass.event ||| 1 } })
    ∧ (s.pass.link = .up → runLanes (s.pass.lanes ||| lanes) ≠ s.pass.lanes →
      Does (.passLaneRetry lanes) s { s with pass := { s.pass with
        lanes := runLanes (s.pass.lanes ||| lanes)
        cnt := { s.pass.cnt with retrain := satInc s.pass.cnt.retrain } } }))
  ∧ (∀ (s : State) (l : Nat), l < 4 → s.pass.link = .up → s.pass.lanes.getLsbD l = true →
      (runLanes (putBit s.pass.lanes l false) ≠ 0 → Does (.passLaneFail l) s { s with pass := { s.pass with
        lanes := runLanes (putBit s.pass.lanes l false)
        cnt := { s.pass.cnt with retrain := satInc s.pass.cnt.retrain } } })
      ∧ (runLanes (putBit s.pass.lanes l false) = 0 → ∃ t, Does (.passLaneFail l) s t ∧ t.pass.link = .down ∧ t.pass.lanes = 0
          ∧ t.pass.event = s.pass.event ||| 1 ∧ t.pass.partner = s.pass.partner ∧ t.supply = s.supply ∧ t.ps = s.ps))
  ∧ (∀ s : State, s.linkFull = true → ∃ t, Does .passLinkLoss s t ∧ t.pass.link = .down ∧ t.pass.lanes = 0 ∧ t.pass.trackers = []
      ∧ t.pass.posted = [] ∧ t.pass.portWait = [] ∧ t.pass.recWait = [] ∧ t.pass.poisoned = [] ∧ (t.swPort 29).link = false
      ∧ ((s.swPort 29).link = true → s.bridgeOn 29 = true → (t.eth.bridge.port 29).asCapable = false ∧ (t.eth.bridge.port 29).info = none)
      ∧ t.sw.frames.all (fun f => !f.dests.contains 29) = true
      ∧ t.pass.slots = s.pass.slots.map (fun r => if r.ph = .waiting then { r with ph := .error } else r)
      ∧ ((∀ w, (s.win w).clearing = none) → ∀ r, r ∈ s.pass.posted → s.pass.wins.has r.win = true → (t.win r.win).sticky = true)
      ∧ t.pass.partner = s.pass.partner ∧ t.supply = s.supply ∧ t.ps = s.ps ∧ t.core.dram = s.core.dram)
  ∧ (∀ s : State, s.supply.holdup = false →
      (s.pass.link = .up → Does .heartbeatSend s { s with pass := { s.pass with hbSeq := s.pass.hbSeq + 1, sent := s.pass.sent + 1 } })
      ∧ (s.linkFull = true → Does .sidebandSend s { s with pass := { s.pass with sent := s.pass.sent + 1 } }))
  ∧ (∀ (s : State) (seq : U16) (v : BitVec 256), s.pass.link = .up →
      ∃ t, Does (.heartbeatReceive seq v) s t ∧ t.pass.sbPartner = v ∧ t.pass.hbLast = seq
        ∧ t.pass.sbChg = s.pass.sbChg ||| ((s.pass.sbPartner ^^^ v) >>> 128).setWidth 128
        ∧ (s.pass.partner = .alive → t.pass.partner = .alive
            ∧ t.pass.cnt.missed = satAdd s.pass.cnt.missed (seq - s.pass.hbLast - 1).toNat)
        ∧ (s.pass.partner ≠ .alive → s.pass.beats = 2 → seq = s.pass.hbLast + 1 → t.pass.partner = .alive
            ∧ t.pass.event.getLsbD 1 = true ∧ t.pass.asleep = false ∧ t.pass.autoDone = false)
        ∧ (s.pass.partner ≠ .alive → seq ≠ s.pass.hbLast + 1 → t.pass.partner = s.pass.partner ∧ t.pass.beats = 1)
        ∧ t.pass.wins = s.pass.wins ∧ t.supply = s.supply ∧ t.aon = s.aon ∧ t.eth = s.eth ∧ t.bus = s.bus)
  ∧ (∀ (s : State) (v : BitVec 256), s.linkFull = true →
      ∃ t, Does (.sidebandReceive v) s t ∧ t.pass.sbPartner = v ∧ t.pass.hbLast = s.pass.hbLast ∧ t.pass.partner = s.pass.partner
        ∧ t.pass.sbChg = s.pass.sbChg ||| ((s.pass.sbPartner ^^^ v) >>> 128).setWidth 128
        ∧ t.pass.event = (if ((s.pass.sbPartner ^^^ v) >>> 128).setWidth 128 = (0 : BitVec 128) then s.pass.event else s.pass.event ||| 4)
        ∧ t.supply = s.supply ∧ t.aon = s.aon ∧ t.eth = s.eth ∧ t.bus = s.bus)
  ∧ (∀ s : State, s.pass.paired = true →
      (s.pass.partner = .alive → ∃ t, Does .heartbeatLoss s t
        ∧ t.pass.partner = (if s.pass.fault then .down else if s.pass.sbPartner.extractLsb' 8 3 = 3 then .down else .cut)
        ∧ (s.pass.fault = false → t.pass.asleep = (s.pass.asleep || decide (s.pass.sbPartner.extractLsb' 8 3 = 3)))
        ∧ t.pass.event.getLsbD 1 = true ∧ t.pass.beats = 0 ∧ t.pass.cnt.missed = satAdd s.pass.cnt.missed 5
        ∧ t.pass.trackers = [] ∧ t.pass.posted = [] ∧ t.mgmt.amind.remotes = [] ∧ t.supply = s.supply ∧ t.aon = s.aon)
      ∧ (s.pass.partner = .unknown → s.linkMode = true → s.pass.beats = 0 → ∃ t, Does .partnerStartupTimeout s t
          ∧ t.pass.partner = (if s.pass.fault then .down else .cut) ∧ t.pass.event.getLsbD 1 = true ∧ t.supply = s.supply ∧ t.ps = s.ps)
      ∧ Does (.partnerFaultChange false) s { s with
          supply := { s.supply with partnerLow := false }
          pass := { s.pass with fault := false } }
      ∧ (s.pass.fault = false → ∃ t, Does (.partnerFaultChange true) s t ∧ t.pass.fault = true
          ∧ t.pass.partner = (if s.pass.partner = .cut then .down else s.pass.partner)
          ∧ t.supply = { s.supply with partnerLow := true } ∧ t.aon = s.aon)
      ∧ (s.roleA = true → s.pass.autoRst = true → s.pass.partner = .cut → s.pass.autoDone = false → s.partnerMay = true →
          ∃ t, Does .autoPartnerReset s t ∧ t.supply = { s.supply with partnerRst := true } ∧ t.pass = { s.pass with autoDone := true }
            ∧ t.aon = s.aon ∧ t.ps = s.ps))
  ∧ (∀ (s : State) (low : Bool), s.pass.paired = false →
      Does (.partnerFaultChange low) s { s with supply := { s.supply with partnerLow := low } })

/-- The Pass bridge: the first read of a window takes a free slot and is told to retry, a reissue while data is awaited is told so again,
and one that finds data takes it and frees the slot; a non-posted write holds a tracker until its response or its limit; a posted write is
accepted while its buffer has room, and a failed one makes its window sticky with the first capture, after which everything into the window
is FERR; a read or a write waits for its response until the posted writes before it are sent; the pair commands open windows, clear errors,
write the manager's bits and pulse the partner's reset.

COMPLETION: where the conditions that its clauses put on the state and the operands hold, exec answers a next state with the effect stated
for PAIR_STATUS, PARTNER_RESET, PASS_CLEAR_ACK, PASS_CLEAR_MARKER_ARRIVE, PASS_ERROR_CLEAR, PASS_ERROR_MESSAGE_ARRIVE, PASS_NONPOSTED_WRITE,
PASS_POSTED_FAILURE, PASS_POSTED_WRITE, PASS_READ_DATA_ARRIVE, PASS_READ_SLOT_TIMEOUT, PASS_READY_EXPIRY, PASS_WINDOW_OPEN,
PASS_WINDOW_READ, PASS_WRITE_RESPONSE, PASS_WRITE_TIMEOUT, SIDEBAND_WRITE. -/
def Obligations.PassBridge : Prop :=
  (∀ (s : State) (x : Xact) (w : Nat) (u : Window), target x.addr.toNat = 0x11 → s.fabricUp = true → s.sends x.attr →
    x.fits x.size = true → x.misaligned x.size = false → s.portFree .read x →
    s.verdict x.attr x.addr.toNat x.size true false = .ok → s.windowAt x.attr x.addr.toNat x.size = some (w, u) → s.winOff u = false →
      (u.sticky = true → Does (.passWindowRead x) s ((s.countFerr x.addr.toNat).answered .ferr []))
      ∧ (u.sticky = false → s.pass.slots.find? (fun r => r.x.same x) = none → s.farGone = false →
          (∃ i, i < 256 ∧ ∀ r, r ∈ s.pass.slots → r.id ≠ i) →
          ∃ i, i < 256 ∧ (∀ r, r ∈ s.pass.slots → r.id ≠ i) ∧ Does (.passWindowRead x) s { s with
            pass := { s.pass with slots := s.pass.slots ++ [{ id := i, x := x, behind := s.pass.behind w x.attr.init }] }
            core := { s.core with resp := { code := .retry, data := [] } } })
      ∧ (∀ r, u.sticky = false → s.pass.slots.find? (fun r => r.x.same x) = some r →
          (r.ph = .waiting → Does (.passWindowRead x) s { s with core := { s.core with resp := { code := .retry, data := [] } } })
          ∧ (r.ph = .ready → Does (.passWindowRead x) s { s with
              pass := { s.pass with slots := s.pass.slots.filter (fun q => q.id ≠ r.id) }
              core := { s.core with resp := { code := .ok, data := r.data } } })
          ∧ (r.ph = .error → Does (.passWindowRead x) s (((s.countFerr x.addr.toNat).onPass (fun p => { p with
              slots := p.slots.filter (fun q => q.id ≠ r.id) })).answered .ferr []))))
  ∧ (∀ (s : State) (i : Nat), i < 256 →
      (∀ (r : RdSlot) (ok : Bool) (d : List Byte), s.slot i = some r → r.ph = .waiting → r.behind ≠ 0 →
        Does (.passReadDataArrive i ok d) s s ∧ Does (.passReadSlotTimeout i) s s)
      ∧ (∀ (r : RdSlot) (ok : Bool) (d : List Byte), s.slot i = some r → r.ph = .waiting → r.behind = 0 →
        (∃ t, Does (.passReadDataArrive i ok d) s t
          ∧ t.slot i = some { r with ph := if ok then .ready else .error, data := if ok then d else [] }
          ∧ (∀ k, k ≠ i → t.slot k = s.slot k) ∧ t = { s with pass := { s.pass with slots := t.pass.slots } })
        ∧ ∃ t, Does (.passReadSlotTimeout i) s t ∧ t.slot i = some { r with ph := .error } ∧ (∀ k, k ≠ i → t.slot k = s.slot k)
          ∧ t = { s with pass := { s.pass with slots := t.pass.slots } })
      ∧ (∀ (ok : Bool) (d : List Byte), s.slot i = none →
          Does (.passReadDataArrive i ok d) s { s with pass := { s.pass with cnt := { s.pass.cnt with stray := satInc s.pass.cnt.stray } } })
      ∧ (∀ r : RdSlot, s.slot i = some r → r.ph ≠ .waiting → Does (.passReadyExpiry i) s { s with pass := { s.pass with
          slots := s.pass.slots.filter (fun q => q.id ≠ i), event := s.pass.event ||| 16
          cnt := { s.pass.cnt with expired := satInc s.pass.cnt.expired } } }))
  ∧ (∀ (s : State) (x : Xact) (w : Nat) (u : Window), target x.addr.toNat = 0x11 → s.fabricUp = true → s.sends x.attr →
    x.fits x.data.length = true → x.misaligned x.data.length = false →
    (u.posted = false → s.portFree .write x) → (u.posted = true → s.portFree .posted x) →
    s.verdict x.attr x.addr.toNat x.data.length false true = .ok → s.windowAt x.attr x.addr.toNat x.data.length = some (w, u) →
    s.winOff u = false → s.farGone = false →
      (u.posted = false → u.sticky = true → Does (.passNonpostedWrite x) s ((s.countFerr x.addr.toNat).answered .ferr []))
      ∧ (u.posted = false → u.sticky = false → (∃ i, i < 128 ∧ ∀ r, r ∈ s.pass.trackers → r.id ≠ i) →
          ∃ i, i < 128 ∧ (∀ r, r ∈ s.pass.trackers → r.id ≠ i)
            ∧ Does (.passNonpostedWrite x) s
              (({ s with pass := { s.pass with
                trackers := s.pass.trackers ++ [{ id := i, x := x, behind := s.pass.behind w x.attr.init }] } } : State).issued x.attr))
      ∧ (u.posted = true → u.sticky = true → Does (.passPostedWrite x) s (s.countFerr x.addr.toNat))
      ∧ (u.posted = true → u.sticky = false → s.pass.posted.length < 64 →
          Does (.passPostedWrite x) s { s with pass := { s.pass with posted := s.pass.posted ++ [{ win := w, x := x }] } })
      ∧ (u.posted = true → u.sticky = false → 64 ≤ s.pass.posted.length →
          Does (.passPostedWrite x) s { s with pass := { s.pass with portWait := s.pass.portWait ++ [{ win := w, x := x }] } }))
  ∧ (∀ (s : State) (i : Nat) (r : Tracker), i < 128 → s.tracker i = some r →
      let u : State := { s with pass := { s.pass with trackers := s.pass.trackers.filter (fun q => q.id ≠ r.id) } }
      (r.msi = none → r.behind = 0 → Does (.passWriteResponse i true) s (u.settled r.x.attr .ok []).recordsGo)
      ∧ (∀ b sec, r.msi = some (b, sec) → r.behind = 0 →
          Does (.passWriteResponse i true) s ((u.msiBind b sec 0).settled r.x.attr .ok []).recordsGo)
      ∧ (r.behind ≠ 0 → ∀ ok, Does (.passWriteResponse i ok) s s)
      ∧ (∀ c, ((c = .passWriteResponse i false ∧ r.behind = 0) ∨ c = .passWriteTimeout i) →
          Does c s ((u.countFerr r.x.addr.toNat).settled r.x.attr .ferr []).recordsGo))
  ∧ (∀ (s : State) (a : Attr) (r : Resp) (d : List Byte),
      (8 ≤ a.init.toNat → a.init ≠ 0x18 → s.settled a r d = { s with core := { s.core with resp := { code := r, data := d } } })
      ∧ (a.init.toNat < 8 → ∃ h, s.settled a r d = (if (s.pair a.init.toNat).st = .frozen then { s with core := { s.core with harts := h } }
          else { s with core := { s.core with harts := h, resp := { code := r, data := d } } })
        ∧ (s.settled a r d).hart a.init.toNat = { s.hart a.init.toNat with outstanding := (s.hart a.init.toNat).outstanding - 1 }))
  ∧ (∀ (s : State) (w : Nat), w < 32 →
      (∀ (a : A40) (o : Byte) (n : BitVec 6) (sec : Bool) (c : Resp) (h : Handle), s.hFind 10 w = some h →
        (s.linkFull = false → Does (.passErrorMessageArrive w a o n sec c) s s) ∧ (s.linkFull = true →
        ∃ t, Does (.passErrorMessageArrive w a o n sec c) s t ∧ (t.win w).sticky = true ∧ (t.win w).errValid = true
          ∧ ((s.win w).errValid = true → t.win w = { s.win w with sticky := true })
          ∧ ((s.win w).errValid = false → (t.win w).errAddr = a ∧ (t.win w).errInit = o ∧ (t.win w).errInst = n ∧ (t.win w).errSec = sec
              ∧ (t.win w).errResp = BitVec.ofNat 3 c.code)
          ∧ (∀ k, k ≠ w → t.win k = s.win k)
          ∧ t = { s with
              pass := { s.pass with wins := t.pass.wins }
              core := { s.core with imsics := t.core.imsics, pairs := t.core.pairs } }))
      ∧ (∀ (x : Xact) (o : Byte) (c : Resp), s.linkFull = true → c ∈ [Resp.aerr, .derr, .terr, .qerr] → w ∉ s.pass.poisoned →
          Does (.passPostedFailure w x o c) s { s with pass := { s.pass with
            poisoned := s.pass.poisoned ++ [w], sent := s.pass.sent + 1
            errSent := some { win := w, addr := x.addr, origin := o, inst := x.attr.inst, sec := x.attr.sec, code := c } } })
      ∧ (s.linkFull = true → Does (.passClearMarkerArrive w) s { s with pass := { s.pass with
          poisoned := s.pass.poisoned.filter (fun k => k ≠ w), sent := s.pass.sent + 1 } })
      ∧ (∀ (k : Nat) (q : U16) (rq : Request), (s.win w).clearing = some (k, q) → k < 64 → (s.stall k).st = .serving →
          (s.stall k).captured = some rq → rq.seq = q → rq.route = .stall k →
            ∃ t, Does (.passClearAck w) s t ∧ (t.win w).sticky = false ∧ (t.win w).errValid = false ∧ (t.win w).clearing = none
              ∧ (t.stall k).st = .answered ∧ (t.stall k).rsp.status = 0 ∧ (t.stall k).rsp.payload = (s.win w).capture
              ∧ (∀ j, j ≠ w → t.win j = s.win j) ∧ (∀ j, j ≠ k → t.stall j = s.stall j) ∧ t.supply = s.supply ∧ t.ps = s.ps))
  ∧ (∀ (rq : Request) (s u : State), u = s.heard rq → rq.route = .stall 0 →
      (∀ i, s.takes specPassWindowOpen rq (s.okWindow 0) false → u.fnOff 0 10 0 = false → u.blockIsOff 0x60 = false →
        (u.winOverlap (u64At rq.payload 0) (u64At rq.payload 8) = true → Replies (.passWindowOpen rq) rq s u { st := .busy })
        ∧ (u.winOverlap (u64At rq.payload 0) (u64At rq.payload 8) = false → u.firstFree 10 32 = some i →
            u.roomFor 10 0 0 false 1 ((u64At rq.payload 8 + 0xFFFFF) / 0x100000 * 256) = true →
            ∃ t, Replies (.passWindowOpen rq) rq s t {
                handle := some (mkHandle 10 0 (u.genOf 10 i) i), payload := leBytes 8 (0x4000000000 + u64At rq.payload 0) }
              ∧ t.win i = {
                  opened := true, posted := decide (u8At rq.payload 16 = 1), enabled := true
                  loc := BitVec.ofNat 40 (0x4000000000 + u64At rq.payload 0), partner := BitVec.ofNat 40 (u64At rq.payload 0)
                  size := BitVec.ofNat 40 (u64At rq.payload 8) }
              ∧ (∀ k, k ≠ i → t.win k = u.win k) ∧ (t.hLive 10 i).isSome = true
              ∧ t = { u with
                  mgmt := { u.mgmt with handles := t.mgmt.handles }
                  pass := { u.pass with wins := t.pass.wins } }))
      ∧ (s.takes specPassErrorClear rq (fun p => p.isEmpty) false →
          (u.linkFull = false →
            ∃ t, Replies (.passErrorClear rq) rq s t { payload := (u.win (hIndex rq.handle)).capture }
              ∧ t = u.updWin (hIndex rq.handle) Window.cleared)
          ∧ (u.linkFull = true →
            ∃ t, Does (.passErrorClear rq) s t ∧ (t.win (hIndex rq.handle)).clearing = some (0, rq.seq) ∧ (t.stall 0).st = .serving
              ∧ (t.win (hIndex rq.handle)).sticky = (u.win (hIndex rq.handle)).sticky ∧ t.supply = u.supply ∧ t.ps = u.ps))
      ∧ (s.takes specSidebandWrite rq (fun p => p.length = 32) false →
          ∃ t, Replies (.sidebandWrite rq) rq s t {} ∧ t = { u with pass := { u.pass with sbMgr := t.pass.sbMgr } }
            ∧ ∀ k, k < 128 → t.pass.sbMgr.getLsbD k = (if (leNat (rq.payload.drop 16)).testBit k then (leNat (rq.payload.take 16)).testBit k
                else u.pass.sbMgr.getLsbD k))
      ∧ (s.takes specPartnerReset rq List.isEmpty false →
          (u.partnerMay = true → ∃ t, Replies (.partnerReset rq) rq s t {} ∧ t.supply = { u.supply with partnerRst := true }
            ∧ t.pass = u.pass ∧ t.aon = u.aon ∧ t.ps = u.ps)
          ∧ (u.partnerMay = false → Replies (.partnerReset rq) rq s u {})))
  ∧ Serves .pairStatus specPairStatus (fun _ _ => List.isEmpty) false (fun _ _ => True) (fun _ u => u)
      (fun _ u => { payload := u.pairStatus })
end

