-- ==== Sys2Proof/Laws/State.lean ====
section
/-! SUPPORT. What each update of the state leaves and sets: one lemma per field and update, each true by rfl. -/

namespace Sys2Proof.Machine

open Sys2Proof

section Core
variable (s : State) (f : Core → Core)
@[simp] theorem State.onCore_supply : (s.onCore f).supply = s.supply := rfl
@[simp] theorem State.onCore_aon : (s.onCore f).aon = s.aon := rfl
@[simp] theorem State.onCore_sleep : (s.onCore f).sleep = s.sleep := rfl
@[simp] theorem State.onCore_tb : (s.onCore f).tb = s.tb := rfl
@[simp] theorem State.onCore_timers : (s.onCore f).timers = s.timers := rfl
@[simp] theorem State.onCore_core : (s.onCore f).core = f s.core := rfl
@[simp] theorem State.onCore_mgmt : (s.onCore f).mgmt = s.mgmt := rfl
@[simp] theorem State.onCore_sw : (s.onCore f).sw = s.sw := rfl
@[simp] theorem State.onCore_eth : (s.onCore f).eth = s.eth := rfl
@[simp] theorem State.onCore_bus : (s.onCore f).bus = s.bus := rfl
@[simp] theorem State.onCore_ps : (s.onCore f).ps = s.ps := rfl
@[simp] theorem State.onCore_inp : (s.onCore f).inp = s.inp := rfl
@[simp] theorem State.onCore_ks : (s.onCore f).ks = s.ks := rfl
@[simp] theorem State.onCore_ce : (s.onCore f).ce = s.ce := rfl
@[simp] theorem State.onCore_pass : (s.onCore f).pass = s.pass := rfl
@[simp] theorem State.onCore_pending : (s.onCore f).pending = s.pending := rfl
end Core

section Mgmt
variable (s : State) (f : Mgmt → Mgmt)
@[simp] theorem State.onMgmt_supply : (s.onMgmt f).supply = s.supply := rfl
@[simp] theorem State.onMgmt_aon : (s.onMgmt f).aon = s.aon := rfl
@[simp] theorem State.onMgmt_sleep : (s.onMgmt f).sleep = s.sleep := rfl
@[simp] theorem State.onMgmt_tb : (s.onMgmt f).tb = s.tb := rfl
@[simp] theorem State.onMgmt_timers : (s.onMgmt f).timers = s.timers := rfl
@[simp] theorem State.onMgmt_core : (s.onMgmt f).core = s.core := rfl
@[simp] theorem State.onMgmt_mgmt : (s.onMgmt f).mgmt = f s.mgmt := rfl
@[simp] theorem State.onMgmt_sw : (s.onMgmt f).sw = s.sw := rfl
@[simp] theorem State.onMgmt_eth : (s.onMgmt f).eth = s.eth := rfl
@[simp] theorem State.onMgmt_bus : (s.onMgmt f).bus = s.bus := rfl
@[simp] theorem State.onMgmt_ps : (s.onMgmt f).ps = s.ps := rfl
@[simp] theorem State.onMgmt_inp : (s.onMgmt f).inp = s.inp := rfl
@[simp] theorem State.onMgmt_ks : (s.onMgmt f).ks = s.ks := rfl
@[simp] theorem State.onMgmt_ce : (s.onMgmt f).ce = s.ce := rfl
@[simp] theorem State.onMgmt_pass : (s.onMgmt f).pass = s.pass := rfl
@[simp] theorem State.onMgmt_pending : (s.onMgmt f).pending = s.pending := rfl
end Mgmt

section Amind
variable (s : State) (f : Amind → Amind)
@[simp] theorem State.onAmind_supply : (s.onAmind f).supply = s.supply := rfl
@[simp] theorem State.onAmind_aon : (s.onAmind f).aon = s.aon := rfl
@[simp] theorem State.onAmind_sleep : (s.onAmind f).sleep = s.sleep := rfl
@[simp] theorem State.onAmind_tb : (s.onAmind f).tb = s.tb := rfl
@[simp] theorem State.onAmind_timers : (s.onAmind f).timers = s.timers := rfl
@[simp] theorem State.onAmind_core : (s.onAmind f).core = s.core := rfl
@[simp] theorem State.onAmind_mgmt : (s.onAmind f).mgmt = { s.mgmt with amind := f s.mgmt.amind } := rfl
@[simp] theorem State.onAmind_sw : (s.onAmind f).sw = s.sw := rfl
@[simp] theorem State.onAmind_eth : (s.onAmind f).eth = s.eth := rfl
@[simp] theorem State.onAmind_bus : (s.onAmind f).bus = s.bus := rfl
@[simp] theorem State.onAmind_ps : (s.onAmind f).ps = s.ps := rfl
@[simp] theorem State.onAmind_inp : (s.onAmind f).inp = s.inp := rfl
@[simp] theorem State.onAmind_ks : (s.onAmind f).ks = s.ks := rfl
@[simp] theorem State.onAmind_ce : (s.onAmind f).ce = s.ce := rfl
@[simp] theorem State.onAmind_pass : (s.onAmind f).pass = s.pass := rfl
@[simp] theorem State.onAmind_pending : (s.onAmind f).pending = s.pending := rfl
end Amind

section Sw
variable (s : State) (f : Switch → Switch)
@[simp] theorem State.onSw_supply : (s.onSw f).supply = s.supply := rfl
@[simp] theorem State.onSw_aon : (s.onSw f).aon = s.aon := rfl
@[simp] theorem State.onSw_sleep : (s.onSw f).sleep = s.sleep := rfl
@[simp] theorem State.onSw_tb : (s.onSw f).tb = s.tb := rfl
@[simp] theorem State.onSw_timers : (s.onSw f).timers = s.timers := rfl
@[simp] theorem State.onSw_core : (s.onSw f).core = s.core := rfl
@[simp] theorem State.onSw_mgmt : (s.onSw f).mgmt = s.mgmt := rfl
@[simp] theorem State.onSw_sw : (s.onSw f).sw = f s.sw := rfl
@[simp] theorem State.onSw_eth : (s.onSw f).eth = s.eth := rfl
@[simp] theorem State.onSw_bus : (s.onSw f).bus = s.bus := rfl
@[simp] theorem State.onSw_ps : (s.onSw f).ps = s.ps := rfl
@[simp] theorem State.onSw_inp : (s.onSw f).inp = s.inp := rfl
@[simp] theorem State.onSw_ks : (s.onSw f).ks = s.ks := rfl
@[simp] theorem State.onSw_ce : (s.onSw f).ce = s.ce := rfl
@[simp] theorem State.onSw_pass : (s.onSw f).pass = s.pass := rfl
@[simp] theorem State.onSw_pending : (s.onSw f).pending = s.pending := rfl
end Sw

section Eth
variable (s : State) (f : Eth → Eth)
@[simp] theorem State.onEth_supply : (s.onEth f).supply = s.supply := rfl
@[simp] theorem State.onEth_aon : (s.onEth f).aon = s.aon := rfl
@[simp] theorem State.onEth_sleep : (s.onEth f).sleep = s.sleep := rfl
@[simp] theorem State.onEth_tb : (s.onEth f).tb = s.tb := rfl
@[simp] theorem State.onEth_timers : (s.onEth f).timers = s.timers := rfl
@[simp] theorem State.onEth_core : (s.onEth f).core = s.core := rfl
@[simp] theorem State.onEth_mgmt : (s.onEth f).mgmt = s.mgmt := rfl
@[simp] theorem State.onEth_sw : (s.onEth f).sw = s.sw := rfl
@[simp] theorem State.onEth_eth : (s.onEth f).eth = f s.eth := rfl
@[simp] theorem State.onEth_bus : (s.onEth f).bus = s.bus := rfl
@[simp] theorem State.onEth_ps : (s.onEth f).ps = s.ps := rfl
@[simp] theorem State.onEth_inp : (s.onEth f).inp = s.inp := rfl
@[simp] theorem State.onEth_ks : (s.onEth f).ks = s.ks := rfl
@[simp] theorem State.onEth_ce : (s.onEth f).ce = s.ce := rfl
@[simp] theorem State.onEth_pass : (s.onEth f).pass = s.pass := rfl
@[simp] theorem State.onEth_pending : (s.onEth f).pending = s.pending := rfl
end Eth

section Bus
variable (s : State) (f : Bus → Bus)
@[simp] theorem State.onBus_supply : (s.onBus f).supply = s.supply := rfl
@[simp] theorem State.onBus_aon : (s.onBus f).aon = s.aon := rfl
@[simp] theorem State.onBus_sleep : (s.onBus f).sleep = s.sleep := rfl
@[simp] theorem State.onBus_tb : (s.onBus f).tb = s.tb := rfl
@[simp] theorem State.onBus_timers : (s.onBus f).timers = s.timers := rfl
@[simp] theorem State.onBus_core : (s.onBus f).core = s.core := rfl
@[simp] theorem State.onBus_mgmt : (s.onBus f).mgmt = s.mgmt := rfl
@[simp] theorem State.onBus_sw : (s.onBus f).sw = s.sw := rfl
@[simp] theorem State.onBus_eth : (s.onBus f).eth = s.eth := rfl
@[simp] theorem State.onBus_bus : (s.onBus f).bus = f s.bus := rfl
@[simp] theorem State.onBus_ps : (s.onBus f).ps = s.ps := rfl
@[simp] theorem State.onBus_inp : (s.onBus f).inp = s.inp := rfl
@[simp] theorem State.onBus_ks : (s.onBus f).ks = s.ks := rfl
@[simp] theorem State.onBus_ce : (s.onBus f).ce = s.ce := rfl
@[simp] theorem State.onBus_pass : (s.onBus f).pass = s.pass := rfl
@[simp] theorem State.onBus_pending : (s.onBus f).pending = s.pending := rfl
end Bus

section Gw
variable (s : State) (f : Gateway → Gateway)
@[simp] theorem State.onGw_supply : (s.onGw f).supply = s.supply := rfl
@[simp] theorem State.onGw_aon : (s.onGw f).aon = s.aon := rfl
@[simp] theorem State.onGw_sleep : (s.onGw f).sleep = s.sleep := rfl
@[simp] theorem State.onGw_tb : (s.onGw f).tb = s.tb := rfl
@[simp] theorem State.onGw_timers : (s.onGw f).timers = s.timers := rfl
@[simp] theorem State.onGw_core : (s.onGw f).core = s.core := rfl
@[simp] theorem State.onGw_mgmt : (s.onGw f).mgmt = s.mgmt := rfl
@[simp] theorem State.onGw_sw : (s.onGw f).sw = s.sw := rfl
@[simp] theorem State.onGw_eth : (s.onGw f).eth = s.eth := rfl
@[simp] theorem State.onGw_bus : (s.onGw f).bus = { s.bus with gw := f s.bus.gw } := rfl
@[simp] theorem State.onGw_ps : (s.onGw f).ps = s.ps := rfl
@[simp] theorem State.onGw_inp : (s.onGw f).inp = s.inp := rfl
@[simp] theorem State.onGw_ks : (s.onGw f).ks = s.ks := rfl
@[simp] theorem State.onGw_ce : (s.onGw f).ce = s.ce := rfl
@[simp] theorem State.onGw_pass : (s.onGw f).pass = s.pass := rfl
@[simp] theorem State.onGw_pending : (s.onGw f).pending = s.pending := rfl
end Gw

section Ps
variable (s : State) (f : PowerStage → PowerStage)
@[simp] theorem State.onPs_supply : (s.onPs f).supply = s.supply := rfl
@[simp] theorem State.onPs_aon : (s.onPs f).aon = s.aon := rfl
@[simp] theorem State.onPs_sleep : (s.onPs f).sleep = s.sleep := rfl
@[simp] theorem State.onPs_tb : (s.onPs f).tb = s.tb := rfl
@[simp] theorem State.onPs_timers : (s.onPs f).timers = s.timers := rfl
@[simp] theorem State.onPs_core : (s.onPs f).core = s.core := rfl
@[simp] theorem State.onPs_mgmt : (s.onPs f).mgmt = s.mgmt := rfl
@[simp] theorem State.onPs_sw : (s.onPs f).sw = s.sw := rfl
@[simp] theorem State.onPs_eth : (s.onPs f).eth = s.eth := rfl
@[simp] theorem State.onPs_bus : (s.onPs f).bus = s.bus := rfl
@[simp] theorem State.onPs_ps : (s.onPs f).ps = f s.ps := rfl
@[simp] theorem State.onPs_inp : (s.onPs f).inp = s.inp := rfl
@[simp] theorem State.onPs_ks : (s.onPs f).ks = s.ks := rfl
@[simp] theorem State.onPs_ce : (s.onPs f).ce = s.ce := rfl
@[simp] theorem State.onPs_pass : (s.onPs f).pass = s.pass := rfl
@[simp] theorem State.onPs_pending : (s.onPs f).pending = s.pending := rfl
end Ps

section Inp
variable (s : State) (f : Inputs → Inputs)
@[simp] theorem State.onInp_supply : (s.onInp f).supply = s.supply := rfl
@[simp] theorem State.onInp_aon : (s.onInp f).aon = s.aon := rfl
@[simp] theorem State.onInp_sleep : (s.onInp f).sleep = s.sleep := rfl
@[simp] theorem State.onInp_tb : (s.onInp f).tb = s.tb := rfl
@[simp] theorem State.onInp_timers : (s.onInp f).timers = s.timers := rfl
@[simp] theorem State.onInp_core : (s.onInp f).core = s.core := rfl
@[simp] theorem State.onInp_mgmt : (s.onInp f).mgmt = s.mgmt := rfl
@[simp] theorem State.onInp_sw : (s.onInp f).sw = s.sw := rfl
@[simp] theorem State.onInp_eth : (s.onInp f).eth = s.eth := rfl
@[simp] theorem State.onInp_bus : (s.onInp f).bus = s.bus := rfl
@[simp] theorem State.onInp_ps : (s.onInp f).ps = s.ps := rfl
@[simp] theorem State.onInp_inp : (s.onInp f).inp = f s.inp := rfl
@[simp] theorem State.onInp_ks : (s.onInp f).ks = s.ks := rfl
@[simp] theorem State.onInp_ce : (s.onInp f).ce = s.ce := rfl
@[simp] theorem State.onInp_pass : (s.onInp f).pass = s.pass := rfl
@[simp] theorem State.onInp_pending : (s.onInp f).pending = s.pending := rfl
end Inp

section Ks
variable (s : State) (f : KeyStore → KeyStore)
@[simp] theorem State.onKs_supply : (s.onKs f).supply = s.supply := rfl
@[simp] theorem State.onKs_aon : (s.onKs f).aon = s.aon := rfl
@[simp] theorem State.onKs_sleep : (s.onKs f).sleep = s.sleep := rfl
@[simp] theorem State.onKs_tb : (s.onKs f).tb = s.tb := rfl
@[simp] theorem State.onKs_timers : (s.onKs f).timers = s.timers := rfl
@[simp] theorem State.onKs_core : (s.onKs f).core = s.core := rfl
@[simp] theorem State.onKs_mgmt : (s.onKs f).mgmt = s.mgmt := rfl
@[simp] theorem State.onKs_sw : (s.onKs f).sw = s.sw := rfl
@[simp] theorem State.onKs_eth : (s.onKs f).eth = s.eth := rfl
@[simp] theorem State.onKs_bus : (s.onKs f).bus = s.bus := rfl
@[simp] theorem State.onKs_ps : (s.onKs f).ps = s.ps := rfl
@[simp] theorem State.onKs_inp : (s.onKs f).inp = s.inp := rfl
@[simp] theorem State.onKs_ks : (s.onKs f).ks = f s.ks := rfl
@[simp] theorem State.onKs_ce : (s.onKs f).ce = s.ce := rfl
@[simp] theorem State.onKs_pass : (s.onKs f).pass = s.pass := rfl
@[simp] theorem State.onKs_pending : (s.onKs f).pending = s.pending := rfl
end Ks

section Ce
variable (s : State) (f : Cipher → Cipher)
@[simp] theorem State.onCe_supply : (s.onCe f).supply = s.supply := rfl
@[simp] theorem State.onCe_aon : (s.onCe f).aon = s.aon := rfl
@[simp] theorem State.onCe_sleep : (s.onCe f).sleep = s.sleep := rfl
@[simp] theorem State.onCe_tb : (s.onCe f).tb = s.tb := rfl
@[simp] theorem State.onCe_timers : (s.onCe f).timers = s.timers := rfl
@[simp] theorem State.onCe_core : (s.onCe f).core = s.core := rfl
@[simp] theorem State.onCe_mgmt : (s.onCe f).mgmt = s.mgmt := rfl
@[simp] theorem State.onCe_sw : (s.onCe f).sw = s.sw := rfl
@[simp] theorem State.onCe_eth : (s.onCe f).eth = s.eth := rfl
@[simp] theorem State.onCe_bus : (s.onCe f).bus = s.bus := rfl
@[simp] theorem State.onCe_ps : (s.onCe f).ps = s.ps := rfl
@[simp] theorem State.onCe_inp : (s.onCe f).inp = s.inp := rfl
@[simp] theorem State.onCe_ks : (s.onCe f).ks = s.ks := rfl
@[simp] theorem State.onCe_ce : (s.onCe f).ce = f s.ce := rfl
@[simp] theorem State.onCe_pass : (s.onCe f).pass = s.pass := rfl
@[simp] theorem State.onCe_pending : (s.onCe f).pending = s.pending := rfl
end Ce

section Pass
variable (s : State) (f : Pass → Pass)
@[simp] theorem State.onPass_supply : (s.onPass f).supply = s.supply := rfl
@[simp] theorem State.onPass_aon : (s.onPass f).aon = s.aon := rfl
@[simp] theorem State.onPass_sleep : (s.onPass f).sleep = s.sleep := rfl
@[simp] theorem State.onPass_tb : (s.onPass f).tb = s.tb := rfl
@[simp] theorem State.onPass_timers : (s.onPass f).timers = s.timers := rfl
@[simp] theorem State.onPass_core : (s.onPass f).core = s.core := rfl
@[simp] theorem State.onPass_mgmt : (s.onPass f).mgmt = s.mgmt := rfl
@[simp] theorem State.onPass_sw : (s.onPass f).sw = s.sw := rfl
@[simp] theorem State.onPass_eth : (s.onPass f).eth = s.eth := rfl
@[simp] theorem State.onPass_bus : (s.onPass f).bus = s.bus := rfl
@[simp] theorem State.onPass_ps : (s.onPass f).ps = s.ps := rfl
@[simp] theorem State.onPass_inp : (s.onPass f).inp = s.inp := rfl
@[simp] theorem State.onPass_ks : (s.onPass f).ks = s.ks := rfl
@[simp] theorem State.onPass_ce : (s.onPass f).ce = s.ce := rfl
@[simp] theorem State.onPass_pass : (s.onPass f).pass = f s.pass := rfl
@[simp] theorem State.onPass_pending : (s.onPass f).pending = s.pending := rfl
end Pass

section Aon
variable (s : State) (f : Aon → Aon)
@[simp] theorem State.onAon_supply : (s.onAon f).supply = s.supply := rfl
@[simp] theorem State.onAon_aon : (s.onAon f).aon = f s.aon := rfl
@[simp] theorem State.onAon_sleep : (s.onAon f).sleep = s.sleep := rfl
@[simp] theorem State.onAon_tb : (s.onAon f).tb = s.tb := rfl
@[simp] theorem State.onAon_timers : (s.onAon f).timers = s.timers := rfl
@[simp] theorem State.onAon_core : (s.onAon f).core = s.core := rfl
@[simp] theorem State.onAon_mgmt : (s.onAon f).mgmt = s.mgmt := rfl
@[simp] theorem State.onAon_sw : (s.onAon f).sw = s.sw := rfl
@[simp] theorem State.onAon_eth : (s.onAon f).eth = s.eth := rfl
@[simp] theorem State.onAon_bus : (s.onAon f).bus = s.bus := rfl
@[simp] theorem State.onAon_ps : (s.onAon f).ps = s.ps := rfl
@[simp] theorem State.onAon_inp : (s.onAon f).inp = s.inp := rfl
@[simp] theorem State.onAon_ks : (s.onAon f).ks = s.ks := rfl
@[simp] theorem State.onAon_ce : (s.onAon f).ce = s.ce := rfl
@[simp] theorem State.onAon_pass : (s.onAon f).pass = s.pass := rfl
@[simp] theorem State.onAon_pending : (s.onAon f).pending = s.pending := rfl
end Aon

section Sleep
variable (s : State) (f : Sleep → Sleep)
@[simp] theorem State.onSleep_supply : (s.onSleep f).supply = s.supply := rfl
@[simp] theorem State.onSleep_aon : (s.onSleep f).aon = s.aon := rfl
@[simp] theorem State.onSleep_sleep : (s.onSleep f).sleep = f s.sleep := rfl
@[simp] theorem State.onSleep_tb : (s.onSleep f).tb = s.tb := rfl
@[simp] theorem State.onSleep_timers : (s.onSleep f).timers = s.timers := rfl
@[simp] theorem State.onSleep_core : (s.onSleep f).core = s.core := rfl
@[simp] theorem State.onSleep_mgmt : (s.onSleep f).mgmt = s.mgmt := rfl
@[simp] theorem State.onSleep_sw : (s.onSleep f).sw = s.sw := rfl
@[simp] theorem State.onSleep_eth : (s.onSleep f).eth = s.eth := rfl
@[simp] theorem State.onSleep_bus : (s.onSleep f).bus = s.bus := rfl
@[simp] theorem State.onSleep_ps : (s.onSleep f).ps = s.ps := rfl
@[simp] theorem State.onSleep_inp : (s.onSleep f).inp = s.inp := rfl
@[simp] theorem State.onSleep_ks : (s.onSleep f).ks = s.ks := rfl
@[simp] theorem State.onSleep_ce : (s.onSleep f).ce = s.ce := rfl
@[simp] theorem State.onSleep_pass : (s.onSleep f).pass = s.pass := rfl
@[simp] theorem State.onSleep_pending : (s.onSleep f).pending = s.pending := rfl
end Sleep

section Supply
variable (s : State) (f : Supply → Supply)
@[simp] theorem State.onSupply_supply : (s.onSupply f).supply = f s.supply := rfl
@[simp] theorem State.onSupply_aon : (s.onSupply f).aon = s.aon := rfl
@[simp] theorem State.onSupply_sleep : (s.onSupply f).sleep = s.sleep := rfl
@[simp] theorem State.onSupply_tb : (s.onSupply f).tb = s.tb := rfl
@[simp] theorem State.onSupply_timers : (s.onSupply f).timers = s.timers := rfl
@[simp] theorem State.onSupply_core : (s.onSupply f).core = s.core := rfl
@[simp] theorem State.onSupply_mgmt : (s.onSupply f).mgmt = s.mgmt := rfl
@[simp] theorem State.onSupply_sw : (s.onSupply f).sw = s.sw := rfl
@[simp] theorem State.onSupply_eth : (s.onSupply f).eth = s.eth := rfl
@[simp] theorem State.onSupply_bus : (s.onSupply f).bus = s.bus := rfl
@[simp] theorem State.onSupply_ps : (s.onSupply f).ps = s.ps := rfl
@[simp] theorem State.onSupply_inp : (s.onSupply f).inp = s.inp := rfl
@[simp] theorem State.onSupply_ks : (s.onSupply f).ks = s.ks := rfl
@[simp] theorem State.onSupply_ce : (s.onSupply f).ce = s.ce := rfl
@[simp] theorem State.onSupply_pass : (s.onSupply f).pass = s.pass := rfl
@[simp] theorem State.onSupply_pending : (s.onSupply f).pending = s.pending := rfl
end Supply

section updHart
variable (s : State) (n : Nat) (f : Hart → Hart)
@[simp] theorem State.updHart_supply : (s.updHart n f).supply = s.supply := rfl
@[simp] theorem State.updHart_aon : (s.updHart n f).aon = s.aon := rfl
@[simp] theorem State.updHart_sleep : (s.updHart n f).sleep = s.sleep := rfl
@[simp] theorem State.updHart_tb : (s.updHart n f).tb = s.tb := rfl
@[simp] theorem State.updHart_timers : (s.updHart n f).timers = s.timers := rfl
@[simp] theorem State.updHart_mgmt : (s.updHart n f).mgmt = s.mgmt := rfl
@[simp] theorem State.updHart_sw : (s.updHart n f).sw = s.sw := rfl
@[simp] theorem State.updHart_eth : (s.updHart n f).eth = s.eth := rfl
@[simp] theorem State.updHart_bus : (s.updHart n f).bus = s.bus := rfl
@[simp] theorem State.updHart_ps : (s.updHart n f).ps = s.ps := rfl
@[simp] theorem State.updHart_inp : (s.updHart n f).inp = s.inp := rfl
@[simp] theorem State.updHart_ks : (s.updHart n f).ks = s.ks := rfl
@[simp] theorem State.updHart_ce : (s.updHart n f).ce = s.ce := rfl
@[simp] theorem State.updHart_pass : (s.updHart n f).pass = s.pass := rfl
@[simp] theorem State.updHart_pending : (s.updHart n f).pending = s.pending := rfl
end updHart

section updPair
variable (s : State) (n : Nat) (f : Pair → Pair)
@[simp] theorem State.updPair_supply : (s.updPair n f).supply = s.supply := rfl
@[simp] theorem State.updPair_aon : (s.updPair n f).aon = s.aon := rfl
@[simp] theorem State.updPair_sleep : (s.updPair n f).sleep = s.sleep := rfl
@[simp] theorem State.updPair_tb : (s.updPair n f).tb = s.tb := rfl
@[simp] theorem State.updPair_timers : (s.updPair n f).timers = s.timers := rfl
@[simp] theorem State.updPair_mgmt : (s.updPair n f).mgmt = s.mgmt := rfl
@[simp] theorem State.updPair_sw : (s.updPair n f).sw = s.sw := rfl
@[simp] theorem State.updPair_eth : (s.updPair n f).eth = s.eth := rfl
@[simp] theorem State.updPair_bus : (s.updPair n f).bus = s.bus := rfl
@[simp] theorem State.updPair_ps : (s.updPair n f).ps = s.ps := rfl
@[simp] theorem State.updPair_inp : (s.updPair n f).inp = s.inp := rfl
@[simp] theorem State.updPair_ks : (s.updPair n f).ks = s.ks := rfl
@[simp] theorem State.updPair_ce : (s.updPair n f).ce = s.ce := rfl
@[simp] theorem State.updPair_pass : (s.updPair n f).pass = s.pass := rfl
@[simp] theorem State.updPair_pending : (s.updPair n f).pending = s.pending := rfl
end updPair

section updBlock
variable (s : State) (n : Nat) (f : Block → Block)
@[simp] theorem State.updBlock_supply : (s.updBlock n f).supply = s.supply := rfl
@[simp] theorem State.updBlock_aon : (s.updBlock n f).aon = s.aon := rfl
@[simp] theorem State.updBlock_sleep : (s.updBlock n f).sleep = s.sleep := rfl
@[simp] theorem State.updBlock_tb : (s.updBlock n f).tb = s.tb := rfl
@[simp] theorem State.updBlock_timers : (s.updBlock n f).timers = s.timers := rfl
@[simp] theorem State.updBlock_mgmt : (s.updBlock n f).mgmt = s.mgmt := rfl
@[simp] theorem State.updBlock_sw : (s.updBlock n f).sw = s.sw := rfl
@[simp] theorem State.updBlock_eth : (s.updBlock n f).eth = s.eth := rfl
@[simp] theorem State.updBlock_bus : (s.updBlock n f).bus = s.bus := rfl
@[simp] theorem State.updBlock_ps : (s.updBlock n f).ps = s.ps := rfl
@[simp] theorem State.updBlock_inp : (s.updBlock n f).inp = s.inp := rfl
@[simp] theorem State.updBlock_ks : (s.updBlock n f).ks = s.ks := rfl
@[simp] theorem State.updBlock_ce : (s.updBlock n f).ce = s.ce := rfl
@[simp] theorem State.updBlock_pass : (s.updBlock n f).pass = s.pass := rfl
@[simp] theorem State.updBlock_pending : (s.updBlock n f).pending = s.pending := rfl
end updBlock

section updStall
variable (s : State) (n : Nat) (f : Stall → Stall)
@[simp] theorem State.updStall_supply : (s.updStall n f).supply = s.supply := rfl
@[simp] theorem State.updStall_aon : (s.updStall n f).aon = s.aon := rfl
@[simp] theorem State.updStall_sleep : (s.updStall n f).sleep = s.sleep := rfl
@[simp] theorem State.updStall_tb : (s.updStall n f).tb = s.tb := rfl
@[simp] theorem State.updStall_timers : (s.updStall n f).timers = s.timers := rfl
@[simp] theorem State.updStall_core : (s.updStall n f).core = s.core := rfl
@[simp] theorem State.updStall_sw : (s.updStall n f).sw = s.sw := rfl
@[simp] theorem State.updStall_eth : (s.updStall n f).eth = s.eth := rfl
@[simp] theorem State.updStall_bus : (s.updStall n f).bus = s.bus := rfl
@[simp] theorem State.updStall_ps : (s.updStall n f).ps = s.ps := rfl
@[simp] theorem State.updStall_inp : (s.updStall n f).inp = s.inp := rfl
@[simp] theorem State.updStall_ks : (s.updStall n f).ks = s.ks := rfl
@[simp] theorem State.updStall_ce : (s.updStall n f).ce = s.ce := rfl
@[simp] theorem State.updStall_pass : (s.updStall n f).pass = s.pass := rfl
@[simp] theorem State.updStall_pending : (s.updStall n f).pending = s.pending := rfl
end updStall

section updRoute
variable (s : State) (n : Nat) (f : RouteRec → RouteRec)
@[simp] theorem State.updRoute_supply : (s.updRoute n f).supply = s.supply := rfl
@[simp] theorem State.updRoute_aon : (s.updRoute n f).aon = s.aon := rfl
@[simp] theorem State.updRoute_sleep : (s.updRoute n f).sleep = s.sleep := rfl
@[simp] theorem State.updRoute_tb : (s.updRoute n f).tb = s.tb := rfl
@[simp] theorem State.updRoute_timers : (s.updRoute n f).timers = s.timers := rfl
@[simp] theorem State.updRoute_core : (s.updRoute n f).core = s.core := rfl
@[simp] theorem State.updRoute_sw : (s.updRoute n f).sw = s.sw := rfl
@[simp] theorem State.updRoute_eth : (s.updRoute n f).eth = s.eth := rfl
@[simp] theorem State.updRoute_bus : (s.updRoute n f).bus = s.bus := rfl
@[simp] theorem State.updRoute_ps : (s.updRoute n f).ps = s.ps := rfl
@[simp] theorem State.updRoute_inp : (s.updRoute n f).inp = s.inp := rfl
@[simp] theorem State.updRoute_ks : (s.updRoute n f).ks = s.ks := rfl
@[simp] theorem State.updRoute_ce : (s.updRoute n f).ce = s.ce := rfl
@[simp] theorem State.updRoute_pass : (s.updRoute n f).pass = s.pass := rfl
@[simp] theorem State.updRoute_pending : (s.updRoute n f).pending = s.pending := rfl
end updRoute

section updInst
variable (s : State) (n : Nat) (f : Inst → Inst)
@[simp] theorem State.updInst_supply : (s.updInst n f).supply = s.supply := rfl
@[simp] theorem State.updInst_aon : (s.updInst n f).aon = s.aon := rfl
@[simp] theorem State.updInst_sleep : (s.updInst n f).sleep = s.sleep := rfl
@[simp] theorem State.updInst_tb : (s.updInst n f).tb = s.tb := rfl
@[simp] theorem State.updInst_timers : (s.updInst n f).timers = s.timers := rfl
@[simp] theorem State.updInst_core : (s.updInst n f).core = s.core := rfl
@[simp] theorem State.updInst_sw : (s.updInst n f).sw = s.sw := rfl
@[simp] theorem State.updInst_eth : (s.updInst n f).eth = s.eth := rfl
@[simp] theorem State.updInst_bus : (s.updInst n f).bus = s.bus := rfl
@[simp] theorem State.updInst_ps : (s.updInst n f).ps = s.ps := rfl
@[simp] theorem State.updInst_inp : (s.updInst n f).inp = s.inp := rfl
@[simp] theorem State.updInst_ks : (s.updInst n f).ks = s.ks := rfl
@[simp] theorem State.updInst_ce : (s.updInst n f).ce = s.ce := rfl
@[simp] theorem State.updInst_pass : (s.updInst n f).pass = s.pass := rfl
@[simp] theorem State.updInst_pending : (s.updInst n f).pending = s.pending := rfl
end updInst

section updSwPort
variable (s : State) (n : Nat) (f : SwPort → SwPort)
@[simp] theorem State.updSwPort_supply : (s.updSwPort n f).supply = s.supply := rfl
@[simp] theorem State.updSwPort_aon : (s.updSwPort n f).aon = s.aon := rfl
@[simp] theorem State.updSwPort_sleep : (s.updSwPort n f).sleep = s.sleep := rfl
@[simp] theorem State.updSwPort_tb : (s.updSwPort n f).tb = s.tb := rfl
@[simp] theorem State.updSwPort_timers : (s.updSwPort n f).timers = s.timers := rfl
@[simp] theorem State.updSwPort_core : (s.updSwPort n f).core = s.core := rfl
@[simp] theorem State.updSwPort_mgmt : (s.updSwPort n f).mgmt = s.mgmt := rfl
@[simp] theorem State.updSwPort_eth : (s.updSwPort n f).eth = s.eth := rfl
@[simp] theorem State.updSwPort_bus : (s.updSwPort n f).bus = s.bus := rfl
@[simp] theorem State.updSwPort_ps : (s.updSwPort n f).ps = s.ps := rfl
@[simp] theorem State.updSwPort_inp : (s.updSwPort n f).inp = s.inp := rfl
@[simp] theorem State.updSwPort_ks : (s.updSwPort n f).ks = s.ks := rfl
@[simp] theorem State.updSwPort_ce : (s.updSwPort n f).ce = s.ce := rfl
@[simp] theorem State.updSwPort_pass : (s.updSwPort n f).pass = s.pass := rfl
@[simp] theorem State.updSwPort_pending : (s.updSwPort n f).pending = s.pending := rfl
end updSwPort

section updEthPort
variable (s : State) (n : Nat) (f : EthPort → EthPort)
@[simp] theorem State.updEthPort_supply : (s.updEthPort n f).supply = s.supply := rfl
@[simp] theorem State.updEthPort_aon : (s.updEthPort n f).aon = s.aon := rfl
@[simp] theorem State.updEthPort_sleep : (s.updEthPort n f).sleep = s.sleep := rfl
@[simp] theorem State.updEthPort_tb : (s.updEthPort n f).tb = s.tb := rfl
@[simp] theorem State.updEthPort_timers : (s.updEthPort n f).timers = s.timers := rfl
@[simp] theorem State.updEthPort_core : (s.updEthPort n f).core = s.core := rfl
@[simp] theorem State.updEthPort_mgmt : (s.updEthPort n f).mgmt = s.mgmt := rfl
@[simp] theorem State.updEthPort_sw : (s.updEthPort n f).sw = s.sw := rfl
@[simp] theorem State.updEthPort_bus : (s.updEthPort n f).bus = s.bus := rfl
@[simp] theorem State.updEthPort_ps : (s.updEthPort n f).ps = s.ps := rfl
@[simp] theorem State.updEthPort_inp : (s.updEthPort n f).inp = s.inp := rfl
@[simp] theorem State.updEthPort_ks : (s.updEthPort n f).ks = s.ks := rfl
@[simp] theorem State.updEthPort_ce : (s.updEthPort n f).ce = s.ce := rfl
@[simp] theorem State.updEthPort_pass : (s.updEthPort n f).pass = s.pass := rfl
@[simp] theorem State.updEthPort_pending : (s.updEthPort n f).pending = s.pending := rfl
end updEthPort

section updGate
variable (s : State) (n : Nat) (f : Gate → Gate)
@[simp] theorem State.updGate_supply : (s.updGate n f).supply = s.supply := rfl
@[simp] theorem State.updGate_aon : (s.updGate n f).aon = s.aon := rfl
@[simp] theorem State.updGate_sleep : (s.updGate n f).sleep = s.sleep := rfl
@[simp] theorem State.updGate_tb : (s.updGate n f).tb = s.tb := rfl
@[simp] theorem State.updGate_timers : (s.updGate n f).timers = s.timers := rfl
@[simp] theorem State.updGate_core : (s.updGate n f).core = s.core := rfl
@[simp] theorem State.updGate_mgmt : (s.updGate n f).mgmt = s.mgmt := rfl
@[simp] theorem State.updGate_sw : (s.updGate n f).sw = s.sw := rfl
@[simp] theorem State.updGate_bus : (s.updGate n f).bus = s.bus := rfl
@[simp] theorem State.updGate_ps : (s.updGate n f).ps = s.ps := rfl
@[simp] theorem State.updGate_inp : (s.updGate n f).inp = s.inp := rfl
@[simp] theorem State.updGate_ks : (s.updGate n f).ks = s.ks := rfl
@[simp] theorem State.updGate_ce : (s.updGate n f).ce = s.ce := rfl
@[simp] theorem State.updGate_pass : (s.updGate n f).pass = s.pass := rfl
@[simp] theorem State.updGate_pending : (s.updGate n f).pending = s.pending := rfl
end updGate

section updMacsec
variable (s : State) (n : Nat) (f : Macsec → Macsec)
@[simp] theorem State.updMacsec_supply : (s.updMacsec n f).supply = s.supply := rfl
@[simp] theorem State.updMacsec_aon : (s.updMacsec n f).aon = s.aon := rfl
@[simp] theorem State.updMacsec_sleep : (s.updMacsec n f).sleep = s.sleep := rfl
@[simp] theorem State.updMacsec_tb : (s.updMacsec n f).tb = s.tb := rfl
@[simp] theorem State.updMacsec_timers : (s.updMacsec n f).timers = s.timers := rfl
@[simp] theorem State.updMacsec_core : (s.updMacsec n f).core = s.core := rfl
@[simp] theorem State.updMacsec_mgmt : (s.updMacsec n f).mgmt = s.mgmt := rfl
@[simp] theorem State.updMacsec_sw : (s.updMacsec n f).sw = s.sw := rfl
@[simp] theorem State.updMacsec_bus : (s.updMacsec n f).bus = s.bus := rfl
@[simp] theorem State.updMacsec_ps : (s.updMacsec n f).ps = s.ps := rfl
@[simp] theorem State.updMacsec_inp : (s.updMacsec n f).inp = s.inp := rfl
@[simp] theorem State.updMacsec_ks : (s.updMacsec n f).ks = s.ks := rfl
@[simp] theorem State.updMacsec_ce : (s.updMacsec n f).ce = s.ce := rfl
@[simp] theorem State.updMacsec_pass : (s.updMacsec n f).pass = s.pass := rfl
@[simp] theorem State.updMacsec_pending : (s.updMacsec n f).pending = s.pending := rfl
end updMacsec

section updQp
variable (s : State) (n : Nat) (f : Qp → Qp)
@[simp] theorem State.updQp_supply : (s.updQp n f).supply = s.supply := rfl
@[simp] theorem State.updQp_aon : (s.updQp n f).aon = s.aon := rfl
@[simp] theorem State.updQp_sleep : (s.updQp n f).sleep = s.sleep := rfl
@[simp] theorem State.updQp_tb : (s.updQp n f).tb = s.tb := rfl
@[simp] theorem State.updQp_timers : (s.updQp n f).timers = s.timers := rfl
@[simp] theorem State.updQp_core : (s.updQp n f).core = s.core := rfl
@[simp] theorem State.updQp_mgmt : (s.updQp n f).mgmt = s.mgmt := rfl
@[simp] theorem State.updQp_eth : (s.updQp n f).eth = s.eth := rfl
@[simp] theorem State.updQp_bus : (s.updQp n f).bus = s.bus := rfl
@[simp] theorem State.updQp_ps : (s.updQp n f).ps = s.ps := rfl
@[simp] theorem State.updQp_inp : (s.updQp n f).inp = s.inp := rfl
@[simp] theorem State.updQp_ks : (s.updQp n f).ks = s.ks := rfl
@[simp] theorem State.updQp_ce : (s.updQp n f).ce = s.ce := rfl
@[simp] theorem State.updQp_pass : (s.updQp n f).pass = s.pass := rfl
@[simp] theorem State.updQp_pending : (s.updQp n f).pending = s.pending := rfl
end updQp

section updCan
variable (s : State) (n : Nat) (f : CanCh → CanCh)
@[simp] theorem State.updCan_supply : (s.updCan n f).supply = s.supply := rfl
@[simp] theorem State.updCan_aon : (s.updCan n f).aon = s.aon := rfl
@[simp] theorem State.updCan_sleep : (s.updCan n f).sleep = s.sleep := rfl
@[simp] theorem State.updCan_tb : (s.updCan n f).tb = s.tb := rfl
@[simp] theorem State.updCan_timers : (s.updCan n f).timers = s.timers := rfl
@[simp] theorem State.updCan_core : (s.updCan n f).core = s.core := rfl
@[simp] theorem State.updCan_mgmt : (s.updCan n f).mgmt = s.mgmt := rfl
@[simp] theorem State.updCan_sw : (s.updCan n f).sw = s.sw := rfl
@[simp] theorem State.updCan_eth : (s.updCan n f).eth = s.eth := rfl
@[simp] theorem State.updCan_ps : (s.updCan n f).ps = s.ps := rfl
@[simp] theorem State.updCan_inp : (s.updCan n f).inp = s.inp := rfl
@[simp] theorem State.updCan_ks : (s.updCan n f).ks = s.ks := rfl
@[simp] theorem State.updCan_ce : (s.updCan n f).ce = s.ce := rfl
@[simp] theorem State.updCan_pass : (s.updCan n f).pass = s.pass := rfl
@[simp] theorem State.updCan_pending : (s.updCan n f).pending = s.pending := rfl
end updCan

section updLin
variable (s : State) (n : Nat) (f : LinCh → LinCh)
@[simp] theorem State.updLin_supply : (s.updLin n f).supply = s.supply := rfl
@[simp] theorem State.updLin_aon : (s.updLin n f).aon = s.aon := rfl
@[simp] theorem State.updLin_sleep : (s.updLin n f).sleep = s.sleep := rfl
@[simp] theorem State.updLin_tb : (s.updLin n f).tb = s.tb := rfl
@[simp] theorem State.updLin_timers : (s.updLin n f).timers = s.timers := rfl
@[simp] theorem State.updLin_core : (s.updLin n f).core = s.core := rfl
@[simp] theorem State.updLin_mgmt : (s.updLin n f).mgmt = s.mgmt := rfl
@[simp] theorem State.updLin_sw : (s.updLin n f).sw = s.sw := rfl
@[simp] theorem State.updLin_eth : (s.updLin n f).eth = s.eth := rfl
@[simp] theorem State.updLin_ps : (s.updLin n f).ps = s.ps := rfl
@[simp] theorem State.updLin_inp : (s.updLin n f).inp = s.inp := rfl
@[simp] theorem State.updLin_ks : (s.updLin n f).ks = s.ks := rfl
@[simp] theorem State.updLin_ce : (s.updLin n f).ce = s.ce := rfl
@[simp] theorem State.updLin_pass : (s.updLin n f).pass = s.pass := rfl
@[simp] theorem State.updLin_pending : (s.updLin n f).pending = s.pending := rfl
end updLin

section updLoad
variable (s : State) (n : Nat) (f : LoadCh → LoadCh)
@[simp] theorem State.updLoad_supply : (s.updLoad n f).supply = s.supply := rfl
@[simp] theorem State.updLoad_aon : (s.updLoad n f).aon = s.aon := rfl
@[simp] theorem State.updLoad_sleep : (s.updLoad n f).sleep = s.sleep := rfl
@[simp] theorem State.updLoad_tb : (s.updLoad n f).tb = s.tb := rfl
@[simp] theorem State.updLoad_timers : (s.updLoad n f).timers = s.timers := rfl
@[simp] theorem State.updLoad_core : (s.updLoad n f).core = s.core := rfl
@[simp] theorem State.updLoad_mgmt : (s.updLoad n f).mgmt = s.mgmt := rfl
@[simp] theorem State.updLoad_sw : (s.updLoad n f).sw = s.sw := rfl
@[simp] theorem State.updLoad_eth : (s.updLoad n f).eth = s.eth := rfl
@[simp] theorem State.updLoad_bus : (s.updLoad n f).bus = s.bus := rfl
@[simp] theorem State.updLoad_inp : (s.updLoad n f).inp = s.inp := rfl
@[simp] theorem State.updLoad_ks : (s.updLoad n f).ks = s.ks := rfl
@[simp] theorem State.updLoad_ce : (s.updLoad n f).ce = s.ce := rfl
@[simp] theorem State.updLoad_pass : (s.updLoad n f).pass = s.pass := rfl
@[simp] theorem State.updLoad_pending : (s.updLoad n f).pending = s.pending := rfl
end updLoad

section updWin
variable (s : State) (n : Nat) (f : Window → Window)
@[simp] theorem State.updWin_supply : (s.updWin n f).supply = s.supply := rfl
@[simp] theorem State.updWin_aon : (s.updWin n f).aon = s.aon := rfl
@[simp] theorem State.updWin_sleep : (s.updWin n f).sleep = s.sleep := rfl
@[simp] theorem State.updWin_tb : (s.updWin n f).tb = s.tb := rfl
@[simp] theorem State.updWin_timers : (s.updWin n f).timers = s.timers := rfl
@[simp] theorem State.updWin_core : (s.updWin n f).core = s.core := rfl
@[simp] theorem State.updWin_mgmt : (s.updWin n f).mgmt = s.mgmt := rfl
@[simp] theorem State.updWin_sw : (s.updWin n f).sw = s.sw := rfl
@[simp] theorem State.updWin_eth : (s.updWin n f).eth = s.eth := rfl
@[simp] theorem State.updWin_bus : (s.updWin n f).bus = s.bus := rfl
@[simp] theorem State.updWin_ps : (s.updWin n f).ps = s.ps := rfl
@[simp] theorem State.updWin_inp : (s.updWin n f).inp = s.inp := rfl
@[simp] theorem State.updWin_ks : (s.updWin n f).ks = s.ks := rfl
@[simp] theorem State.updWin_ce : (s.updWin n f).ce = s.ce := rfl
@[simp] theorem State.updWin_pending : (s.updWin n f).pending = s.pending := rfl
end updWin

section updRing
variable (s : State) (n : Nat) (f : Ring → Ring)
@[simp] theorem State.updRing_supply : (s.updRing n f).supply = s.supply := rfl
@[simp] theorem State.updRing_aon : (s.updRing n f).aon = s.aon := rfl
@[simp] theorem State.updRing_sleep : (s.updRing n f).sleep = s.sleep := rfl
@[simp] theorem State.updRing_tb : (s.updRing n f).tb = s.tb := rfl
@[simp] theorem State.updRing_timers : (s.updRing n f).timers = s.timers := rfl
@[simp] theorem State.updRing_core : (s.updRing n f).core = s.core := rfl
@[simp] theorem State.updRing_mgmt : (s.updRing n f).mgmt = s.mgmt := rfl
@[simp] theorem State.updRing_sw : (s.updRing n f).sw = s.sw := rfl
@[simp] theorem State.updRing_eth : (s.updRing n f).eth = s.eth := rfl
@[simp] theorem State.updRing_bus : (s.updRing n f).bus = s.bus := rfl
@[simp] theorem State.updRing_ps : (s.updRing n f).ps = s.ps := rfl
@[simp] theorem State.updRing_inp : (s.updRing n f).inp = s.inp := rfl
@[simp] theorem State.updRing_ks : (s.updRing n f).ks = s.ks := rfl
@[simp] theorem State.updRing_pass : (s.updRing n f).pass = s.pass := rfl
@[simp] theorem State.updRing_pending : (s.updRing n f).pending = s.pending := rfl
end updRing

end Sys2Proof.Machine
end

