-- ==== Sys2Proof/Laws/Tab.lean ====
section
/-! SUPPORT. Tables: what a unit reads after each operation on its table. -/

namespace Sys2Proof

variable {α : Type}

@[simp] theorem Tab.get_drop_same (t : Tab α) (i : Nat) (d : α) : Tab.get (Tab.drop t i) i d = d := by
  induction t with
  | nil => rfl
  | cons e r ih =>
    by_cases h : e.1 = i
    · simp [Tab.drop, h, ih]
    · simp [Tab.drop, Tab.get, h, ih]

theorem Tab.get_drop_ne (t : Tab α) {i j : Nat} (d : α) (h : j ≠ i) : Tab.get (Tab.drop t i) j d = Tab.get t j d := by
  induction t with
  | nil => rfl
  | cons e r ih =>
    by_cases k : e.1 = i
    · have hj : ¬ e.1 = j := fun q => h (q.symm.trans k)
      simp [Tab.drop, Tab.get, k, ih, Ne.symm h]
    · by_cases q : e.1 = j
      · subst q; simp [Tab.drop, Tab.get, k]
      · simp [Tab.drop, Tab.get, k, q, ih]

theorem Tab.has_drop_same (t : Tab α) (i : Nat) : (Tab.drop t i).has i = false := by
  induction t with
  | nil => rfl
  | cons e r ih =>
    by_cases h : e.1 = i
    · simp [Tab.drop, h, ih]
    · simp [Tab.drop, Tab.has, h, ih]

theorem Tab.get_of_not_has (t : Tab α) {i : Nat} (d : α) (h : t.has i = false) : Tab.get t i d = d := by
  induction t with
  | nil => rfl
  | cons e r ih =>
    by_cases k : e.1 = i
    · simp [Tab.has, k] at h
    · simp [Tab.has, k] at h
      simp [Tab.get, k, ih h]

theorem Tab.get_place_same (t : Tab α) (i : Nat) (a d : α) (h : t.has i = false) : Tab.get (Tab.place t i a) i d = a := by
  induction t with
  | nil => simp [Tab.place, Tab.get]
  | cons e r ih =>
    by_cases k : e.1 = i
    · simp [Tab.has, k] at h
    · simp [Tab.has, k] at h
      by_cases q : i < e.1
      · simp [Tab.place, Tab.get, q]
      · simp [Tab.place, Tab.get, q, k, ih h]

theorem Tab.get_place_ne (t : Tab α) {i j : Nat} (a d : α) (h : j ≠ i) : Tab.get (Tab.place t i a) j d = Tab.get t j d := by
  induction t with
  | nil => simp [Tab.place, Tab.get, Ne.symm h]
  | cons e r ih =>
    by_cases q : i < e.1
    · simp [Tab.place, Tab.get, q, Ne.symm h]
    · by_cases k : e.1 = j
      · subst k; simp [Tab.place, Tab.get, q]
      · simp [Tab.place, Tab.get, q, k, ih]

/-- A unit that is set reads what it was set to. -/
@[simp] theorem Tab.get_put_same (t : Tab α) (i : Nat) (a d : α) : Tab.get (Tab.put t i a) i d = a :=
  Tab.get_place_same _ _ _ _ (Tab.has_drop_same t i)

/-- Another unit reads as before. -/
theorem Tab.get_put_ne (t : Tab α) {i j : Nat} (a d : α) (h : j ≠ i) : Tab.get (Tab.put t i a) j d = Tab.get t j d := by
  rw [Tab.put, Tab.get_place_ne _ _ _ h, Tab.get_drop_ne _ _ h]

theorem Tab.get_put (t : Tab α) (i j : Nat) (a d : α) : Tab.get (Tab.put t i a) j d = if j = i then a else Tab.get t j d := by
  by_cases h : j = i
  · subst h; simp
  · simp [h, Tab.get_put_ne t a d h]

@[simp] theorem Tab.get_upd_same (t : Tab α) (i : Nat) (d : α) (f : α → α) : Tab.get (Tab.upd t i d f) i d = f (Tab.get t i d) := by
  simp [Tab.upd]

theorem Tab.get_upd_ne (t : Tab α) {i j : Nat} (d : α) (f : α → α) (h : j ≠ i) :
    Tab.get (Tab.upd t i d f) j d = Tab.get t j d := Tab.get_put_ne _ _ _ h

theorem Tab.get_upd (t : Tab α) (i j : Nat) (d : α) (f : α → α) :
    Tab.get (Tab.upd t i d f) j d = if j = i then f (Tab.get t i d) else Tab.get t j d := Tab.get_put _ _ _ _ _

@[simp] theorem Tab.get_nil (i : Nat) (d : α) : Tab.get ([] : Tab α) i d = d := rfl

theorem Tab.get_map (t : Tab α) (g : α → α) (i : Nat) (d : α) (h : g d = d) :
    Tab.get (t.map (fun e => (e.1, g e.2))) i d = g (Tab.get t i d) := by
  induction t with
  | nil => simp [Tab.get, h]
  | cons e r ih =>
    by_cases k : e.1 = i
    · simp [Tab.get, k]
    · simp [Tab.get, k, ih]

theorem Tab.has_place (t : Tab α) (i j : Nat) (a : α) : (Tab.place t i a).has j = (decide (j = i) || t.has j) := by
  induction t with
  | nil => simp [Tab.place, Tab.has, eq_comm]
  | cons e r ih =>
    by_cases q : i < e.1
    · by_cases k : j = i
      · simp [Tab.place, Tab.has, q, k]
      · simp [Tab.place, Tab.has, q, k, Ne.symm k]
    · by_cases k : e.1 = j
      · subst k; simp [Tab.place, Tab.has, q]
      · simp [Tab.place, Tab.has, q, k, ih]

theorem Tab.has_drop_ne (t : Tab α) {i j : Nat} (h : j ≠ i) : (Tab.drop t i).has j = t.has j := by
  induction t with
  | nil => rfl
  | cons e r ih =>
    by_cases k : e.1 = i
    · simp [Tab.drop, Tab.has, k, ih, Ne.symm h]
    · by_cases q : e.1 = j
      · subst q; simp [Tab.drop, Tab.has, k]
      · simp [Tab.drop, Tab.has, k, q, ih]

theorem Tab.has_put (t : Tab α) (i j : Nat) (a : α) : (Tab.put t i a).has j = (decide (j = i) || t.has j) := by
  rw [Tab.put, Tab.has_place]
  by_cases h : j = i
  · simp [h]
  · simp [h, Tab.has_drop_ne t h]

theorem Tab.drop_drop (t : Tab α) (i : Nat) : Tab.drop (Tab.drop t i) i = Tab.drop t i := by
  induction t with
  | nil => rfl
  | cons e r ih =>
    by_cases h : e.1 = i
    · simp [Tab.drop, h, ih]
    · simp [Tab.drop, h, ih]

theorem Tab.drop_place (t : Tab α) (i : Nat) (a : α) : Tab.drop (Tab.place t i a) i = Tab.drop t i := by
  induction t with
  | nil => simp [Tab.place, Tab.drop]
  | cons e r ih =>
    by_cases q : i < e.1
    · simp [Tab.place, Tab.drop, q]
    · by_cases h : e.1 = i
      · subst h; simp [Tab.place, Tab.drop, ih]
      · simp [Tab.place, Tab.drop, q, h, ih]

/-- The last of two settings of a unit stands. -/
@[simp] theorem Tab.put_put (t : Tab α) (i : Nat) (a b : α) : Tab.put (Tab.put t i a) i b = Tab.put t i b := by
  simp [Tab.put, Tab.drop_place, Tab.drop_drop]

@[simp] theorem Tab.upd_upd (t : Tab α) (i : Nat) (d : α) (f g : α → α) :
    Tab.upd (Tab.upd t i d f) i d g = Tab.upd t i d (fun x => g (f x)) := by
  simp [Tab.upd]

end Sys2Proof
end

