-- ==== Sys2Proof/Laws/Units.lean ====
section
/-! SUPPORT. What each update of a unit leaves of the rest of the state, and what a unit reads after an update of one of its kind. -/

namespace Sys2Proof.Machine

open Sys2Proof

section updTimer
variable (s : State) (n : Nat) (f : Comparator → Comparator)
@[simp] theorem State.updTimer_supply : (s.updTimer n f).supply = s.supply := rfl
@[simp] theorem State.updTimer_aon : (s.updTimer n f).aon = s.aon := rfl
@[simp] theorem State.updTimer_sleep : (s.updTimer n f).sleep = s.sleep := rfl
@[simp] theorem State.updTimer_tb : (s.updTimer n f).tb = s.tb := rfl
@[simp] theorem State.updTimer_core : (s.updTimer n f).core = s.core := rfl
@[simp] theorem State.updTimer_mgmt : (s.updTimer n f).mgmt = s.mgmt := rfl
@[simp] theorem State.updTimer_sw : (s.updTimer n f).sw = s.sw := rfl
@[simp] theorem State.updTimer_eth : (s.updTimer n f).eth = s.eth := rfl
@[simp] theorem State.updTimer_bus : (s.updTimer n f).bus = s.bus := rfl
@[simp] theorem State.updTimer_ps : (s.updTimer n f).ps = s.ps := rfl
@[simp] theorem State.updTimer_inp : (s.updTimer n f).inp = s.inp := rfl
@[simp] theorem State.updTimer_ks : (s.updTimer n f).ks = s.ks := rfl
@[simp] theorem State.updTimer_ce : (s.updTimer n f).ce = s.ce := rfl
@[simp] theorem State.updTimer_pass : (s.updTimer n f).pass = s.pass := rfl
@[simp] theorem State.updTimer_pending : (s.updTimer n f).pending = s.pending := rfl
end updTimer

section updImsic
variable (s : State) (h n : Nat) (f : Imsic → Imsic)
@[simp] theorem State.updImsic_supply : (s.updImsic h n f).supply = s.supply := rfl
@[simp] theorem State.updImsic_aon : (s.updImsic h n f).aon = s.aon := rfl
@[simp] theorem State.updImsic_sleep : (s.updImsic h n f).sleep = s.sleep := rfl
@[simp] theorem State.updImsic_tb : (s.updImsic h n f).tb = s.tb := rfl
@[simp] theorem State.updImsic_timers : (s.updImsic h n f).timers = s.timers := rfl
@[simp] theorem State.updImsic_mgmt : (s.updImsic h n f).mgmt = s.mgmt := rfl
@[simp] theorem State.updImsic_sw : (s.updImsic h n f).sw = s.sw := rfl
@[simp] theorem State.updImsic_eth : (s.updImsic h n f).eth = s.eth := rfl
@[simp] theorem State.updImsic_bus : (s.updImsic h n f).bus = s.bus := rfl
@[simp] theorem State.updImsic_ps : (s.updImsic h n f).ps = s.ps := rfl
@[simp] theorem State.updImsic_inp : (s.updImsic h n f).inp = s.inp := rfl
@[simp] theorem State.updImsic_ks : (s.updImsic h n f).ks = s.ks := rfl
@[simp] theorem State.updImsic_ce : (s.updImsic h n f).ce = s.ce := rfl
@[simp] theorem State.updImsic_pass : (s.updImsic h n f).pass = s.pass := rfl
@[simp] theorem State.updImsic_pending : (s.updImsic h n f).pending = s.pending := rfl
end updImsic

section updAcct
variable (s : State) (n : Nat) (f : Acct → Acct)
@[simp] theorem State.updAcct_supply : (s.updAcct n f).supply = s.supply := rfl
@[simp] theorem State.updAcct_aon : (s.updAcct n f).aon = s.aon := rfl
@[simp] theorem State.updAcct_sleep : (s.updAcct n f).sleep = s.sleep := rfl
@[simp] theorem State.updAcct_tb : (s.updAcct n f).tb = s.tb := rfl
@[simp] theorem State.updAcct_timers : (s.updAcct n f).timers = s.timers := rfl
@[simp] theorem State.updAcct_core : (s.updAcct n f).core = s.core := rfl
@[simp] theorem State.updAcct_mgmt : (s.updAcct n f).mgmt = s.mgmt := rfl
@[simp] theorem State.updAcct_eth : (s.updAcct n f).eth = s.eth := rfl
@[simp] theorem State.updAcct_bus : (s.updAcct n f).bus = s.bus := rfl
@[simp] theorem State.updAcct_ps : (s.updAcct n f).ps = s.ps := rfl
@[simp] theorem State.updAcct_inp : (s.updAcct n f).inp = s.inp := rfl
@[simp] theorem State.updAcct_ks : (s.updAcct n f).ks = s.ks := rfl
@[simp] theorem State.updAcct_ce : (s.updAcct n f).ce = s.ce := rfl
@[simp] theorem State.updAcct_pass : (s.updAcct n f).pass = s.pass := rfl
@[simp] theorem State.updAcct_pending : (s.updAcct n f).pending = s.pending := rfl
end updAcct

section updFrame
variable (s : State) (n : Nat) (f : Frame → Frame)
@[simp] theorem State.updFrame_supply : (s.updFrame n f).supply = s.supply := rfl
@[simp] theorem State.updFrame_aon : (s.updFrame n f).aon = s.aon := rfl
@[simp] theorem State.updFrame_sleep : (s.updFrame n f).sleep = s.sleep := rfl
@[simp] theorem State.updFrame_tb : (s.updFrame n f).tb = s.tb := rfl
@[simp] theorem State.updFrame_timers : (s.updFrame n f).timers = s.timers := rfl
@[simp] theorem State.updFrame_core : (s.updFrame n f).core = s.core := rfl
@[simp] theorem State.updFrame_mgmt : (s.updFrame n f).mgmt = s.mgmt := rfl
@[simp] theorem State.updFrame_eth : (s.updFrame n f).eth = s.eth := rfl
@[simp] theorem State.updFrame_bus : (s.updFrame n f).bus = s.bus := rfl
@[simp] theorem State.updFrame_ps : (s.updFrame n f).ps = s.ps := rfl
@[simp] theorem State.updFrame_inp : (s.updFrame n f).inp = s.inp := rfl
@[simp] theorem State.updFrame_ks : (s.updFrame n f).ks = s.ks := rfl
@[simp] theorem State.updFrame_ce : (s.updFrame n f).ce = s.ce := rfl
@[simp] theorem State.updFrame_pass : (s.updFrame n f).pass = s.pass := rfl
@[simp] theorem State.updFrame_pending : (s.updFrame n f).pending = s.pending := rfl
end updFrame

section updRule
variable (s : State) (n : Nat) (f : GwRule → GwRule)
@[simp] theorem State.updRule_supply : (s.updRule n f).supply = s.supply := rfl
@[simp] theorem State.updRule_aon : (s.updRule n f).aon = s.aon := rfl
@[simp] theorem State.updRule_sleep : (s.updRule n f).sleep = s.sleep := rfl
@[simp] theorem State.updRule_tb : (s.updRule n f).tb = s.tb := rfl
@[simp] theorem State.updRule_timers : (s.updRule n f).timers = s.timers := rfl
@[simp] theorem State.updRule_core : (s.updRule n f).core = s.core := rfl
@[simp] theorem State.updRule_mgmt : (s.updRule n f).mgmt = s.mgmt := rfl
@[simp] theorem State.updRule_sw : (s.updRule n f).sw = s.sw := rfl
@[simp] theorem State.updRule_eth : (s.updRule n f).eth = s.eth := rfl
@[simp] theorem State.updRule_ps : (s.updRule n f).ps = s.ps := rfl
@[simp] theorem State.updRule_inp : (s.updRule n f).inp = s.inp := rfl
@[simp] theorem State.updRule_ks : (s.updRule n f).ks = s.ks := rfl
@[simp] theorem State.updRule_ce : (s.updRule n f).ce = s.ce := rfl
@[simp] theorem State.updRule_pass : (s.updRule n f).pass = s.pass := rfl
@[simp] theorem State.updRule_pending : (s.updRule n f).pending = s.pending := rfl
end updRule

section updSched
variable (s : State) (n : Nat) (f : Sched → Sched)
@[simp] theorem State.updSched_supply : (s.updSched n f).supply = s.supply := rfl
@[simp] theorem State.updSched_aon : (s.updSched n f).aon = s.aon := rfl
@[simp] theorem State.updSched_sleep : (s.updSched n f).sleep = s.sleep := rfl
@[simp] theorem State.updSched_tb : (s.updSched n f).tb = s.tb := rfl
@[simp] theorem State.updSched_timers : (s.updSched n f).timers = s.timers := rfl
@[simp] theorem State.updSched_core : (s.updSched n f).core = s.core := rfl
@[simp] theorem State.updSched_mgmt : (s.updSched n f).mgmt = s.mgmt := rfl
@[simp] theorem State.updSched_sw : (s.updSched n f).sw = s.sw := rfl
@[simp] theorem State.updSched_eth : (s.updSched n f).eth = s.eth := rfl
@[simp] theorem State.updSched_ps : (s.updSched n f).ps = s.ps := rfl
@[simp] theorem State.updSched_inp : (s.updSched n f).inp = s.inp := rfl
@[simp] theorem State.updSched_ks : (s.updSched n f).ks = s.ks := rfl
@[simp] theorem State.updSched_ce : (s.updSched n f).ce = s.ce := rfl
@[simp] theorem State.updSched_pass : (s.updSched n f).pass = s.pass := rfl
@[simp] theorem State.updSched_pending : (s.updSched n f).pending = s.pending := rfl
end updSched

section updObj
variable (s : State) (n m : Nat) (f : CanObj → CanObj)
@[simp] theorem State.updObj_supply : (s.updObj n m f).supply = s.supply := rfl
@[simp] theorem State.updObj_aon : (s.updObj n m f).aon = s.aon := rfl
@[simp] theorem State.updObj_sleep : (s.updObj n m f).sleep = s.sleep := rfl
@[simp] theorem State.updObj_tb : (s.updObj n m f).tb = s.tb := rfl
@[simp] theorem State.updObj_timers : (s.updObj n m f).timers = s.timers := rfl
@[simp] theorem State.updObj_core : (s.updObj n m f).core = s.core := rfl
@[simp] theorem State.updObj_mgmt : (s.updObj n m f).mgmt = s.mgmt := rfl
@[simp] theorem State.updObj_sw : (s.updObj n m f).sw = s.sw := rfl
@[simp] theorem State.updObj_eth : (s.updObj n m f).eth = s.eth := rfl
@[simp] theorem State.updObj_ps : (s.updObj n m f).ps = s.ps := rfl
@[simp] theorem State.updObj_inp : (s.updObj n m f).inp = s.inp := rfl
@[simp] theorem State.updObj_ks : (s.updObj n m f).ks = s.ks := rfl
@[simp] theorem State.updObj_ce : (s.updObj n m f).ce = s.ce := rfl
@[simp] theorem State.updObj_pass : (s.updObj n m f).pass = s.pass := rfl
@[simp] theorem State.updObj_pending : (s.updObj n m f).pending = s.pending := rfl
end updObj

section updBuf
variable (s : State) (n m : Nat) (f : LinBuf → LinBuf)
@[simp] theorem State.updBuf_supply : (s.updBuf n m f).supply = s.supply := rfl
@[simp] theorem State.updBuf_aon : (s.updBuf n m f).aon = s.aon := rfl
@[simp] theorem State.updBuf_sleep : (s.updBuf n m f).sleep = s.sleep := rfl
@[simp] theorem State.updBuf_tb : (s.updBuf n m f).tb = s.tb := rfl
@[simp] theorem State.updBuf_timers : (s.updBuf n m f).timers = s.timers := rfl
@[simp] theorem State.updBuf_core : (s.updBuf n m f).core = s.core := rfl
@[simp] theorem State.updBuf_mgmt : (s.updBuf n m f).mgmt = s.mgmt := rfl
@[simp] theorem State.updBuf_sw : (s.updBuf n m f).sw = s.sw := rfl
@[simp] theorem State.updBuf_eth : (s.updBuf n m f).eth = s.eth := rfl
@[simp] theorem State.updBuf_ps : (s.updBuf n m f).ps = s.ps := rfl
@[simp] theorem State.updBuf_inp : (s.updBuf n m f).inp = s.inp := rfl
@[simp] theorem State.updBuf_ks : (s.updBuf n m f).ks = s.ks := rfl
@[simp] theorem State.updBuf_ce : (s.updBuf n m f).ce = s.ce := rfl
@[simp] theorem State.updBuf_pass : (s.updBuf n m f).pass = s.pass := rfl
@[simp] theorem State.updBuf_pending : (s.updBuf n m f).pending = s.pending := rfl
end updBuf

section updWake
variable (s : State) (n : Nat) (f : WakeCfg → WakeCfg)
@[simp] theorem State.updWake_supply : (s.updWake n f).supply = s.supply := rfl
@[simp] theorem State.updWake_aon : (s.updWake n f).aon = s.aon := rfl
@[simp] theorem State.updWake_tb : (s.updWake n f).tb = s.tb := rfl
@[simp] theorem State.updWake_timers : (s.updWake n f).timers = s.timers := rfl
@[simp] theorem State.updWake_core : (s.updWake n f).core = s.core := rfl
@[simp] theorem State.updWake_mgmt : (s.updWake n f).mgmt = s.mgmt := rfl
@[simp] theorem State.updWake_sw : (s.updWake n f).sw = s.sw := rfl
@[simp] theorem State.updWake_eth : (s.updWake n f).eth = s.eth := rfl
@[simp] theorem State.updWake_bus : (s.updWake n f).bus = s.bus := rfl
@[simp] theorem State.updWake_ps : (s.updWake n f).ps = s.ps := rfl
@[simp] theorem State.updWake_inp : (s.updWake n f).inp = s.inp := rfl
@[simp] theorem State.updWake_ks : (s.updWake n f).ks = s.ks := rfl
@[simp] theorem State.updWake_ce : (s.updWake n f).ce = s.ce := rfl
@[simp] theorem State.updWake_pass : (s.updWake n f).pass = s.pass := rfl
@[simp] theorem State.updWake_pending : (s.updWake n f).pending = s.pending := rfl
end updWake

section updTarget
variable (s : State) (n : Nat) (f : Target → Target)
@[simp] theorem State.updTarget_supply : (s.updTarget n f).supply = s.supply := rfl
@[simp] theorem State.updTarget_aon : (s.updTarget n f).aon = s.aon := rfl
@[simp] theorem State.updTarget_sleep : (s.updTarget n f).sleep = s.sleep := rfl
@[simp] theorem State.updTarget_tb : (s.updTarget n f).tb = s.tb := rfl
@[simp] theorem State.updTarget_timers : (s.updTarget n f).timers = s.timers := rfl
@[simp] theorem State.updTarget_core : (s.updTarget n f).core = s.core := rfl
@[simp] theorem State.updTarget_sw : (s.updTarget n f).sw = s.sw := rfl
@[simp] theorem State.updTarget_eth : (s.updTarget n f).eth = s.eth := rfl
@[simp] theorem State.updTarget_bus : (s.updTarget n f).bus = s.bus := rfl
@[simp] theorem State.updTarget_ps : (s.updTarget n f).ps = s.ps := rfl
@[simp] theorem State.updTarget_inp : (s.updTarget n f).inp = s.inp := rfl
@[simp] theorem State.updTarget_ks : (s.updTarget n f).ks = s.ks := rfl
@[simp] theorem State.updTarget_ce : (s.updTarget n f).ce = s.ce := rfl
@[simp] theorem State.updTarget_pass : (s.updTarget n f).pass = s.pass := rfl
@[simp] theorem State.updTarget_pending : (s.updTarget n f).pending = s.pending := rfl
end updTarget

section updDin
variable (s : State) (n : Nat) (f : DIn → DIn)
@[simp] theorem State.updDin_supply : (s.updDin n f).supply = s.supply := rfl
@[simp] theorem State.updDin_aon : (s.updDin n f).aon = s.aon := rfl
@[simp] theorem State.updDin_sleep : (s.updDin n f).sleep = s.sleep := rfl
@[simp] theorem State.updDin_tb : (s.updDin n f).tb = s.tb := rfl
@[simp] theorem State.updDin_timers : (s.updDin n f).timers = s.timers := rfl
@[simp] theorem State.updDin_core : (s.updDin n f).core = s.core := rfl
@[simp] theorem State.updDin_mgmt : (s.updDin n f).mgmt = s.mgmt := rfl
@[simp] theorem State.updDin_sw : (s.updDin n f).sw = s.sw := rfl
@[simp] theorem State.updDin_eth : (s.updDin n f).eth = s.eth := rfl
@[simp] theorem State.updDin_bus : (s.updDin n f).bus = s.bus := rfl
@[simp] theorem State.updDin_ps : (s.updDin n f).ps = s.ps := rfl
@[simp] theorem State.updDin_ks : (s.updDin n f).ks = s.ks := rfl
@[simp] theorem State.updDin_ce : (s.updDin n f).ce = s.ce := rfl
@[simp] theorem State.updDin_pass : (s.updDin n f).pass = s.pass := rfl
@[simp] theorem State.updDin_pending : (s.updDin n f).pending = s.pending := rfl
end updDin

section updVin
variable (s : State) (n : Nat) (f : VIn → VIn)
@[simp] theorem State.updVin_supply : (s.updVin n f).supply = s.supply := rfl
@[simp] theorem State.updVin_aon : (s.updVin n f).aon = s.aon := rfl
@[simp] theorem State.updVin_sleep : (s.updVin n f).sleep = s.sleep := rfl
@[simp] theorem State.updVin_tb : (s.updVin n f).tb = s.tb := rfl
@[simp] theorem State.updVin_timers : (s.updVin n f).timers = s.timers := rfl
@[simp] theorem State.updVin_core : (s.updVin n f).core = s.core := rfl
@[simp] theorem State.updVin_mgmt : (s.updVin n f).mgmt = s.mgmt := rfl
@[simp] theorem State.updVin_sw : (s.updVin n f).sw = s.sw := rfl
@[simp] theorem State.updVin_eth : (s.updVin n f).eth = s.eth := rfl
@[simp] theorem State.updVin_bus : (s.updVin n f).bus = s.bus := rfl
@[simp] theorem State.updVin_ps : (s.updVin n f).ps = s.ps := rfl
@[simp] theorem State.updVin_ks : (s.updVin n f).ks = s.ks := rfl
@[simp] theorem State.updVin_ce : (s.updVin n f).ce = s.ce := rfl
@[simp] theorem State.updVin_pass : (s.updVin n f).pass = s.pass := rfl
@[simp] theorem State.updVin_pending : (s.updVin n f).pending = s.pending := rfl
end updVin

section updInGroup
variable (s : State) (n : Nat) (f : InGroup → InGroup)
@[simp] theorem State.updInGroup_supply : (s.updInGroup n f).supply = s.supply := rfl
@[simp] theorem State.updInGroup_aon : (s.updInGroup n f).aon = s.aon := rfl
@[simp] theorem State.updInGroup_sleep : (s.updInGroup n f).sleep = s.sleep := rfl
@[simp] theorem State.updInGroup_tb : (s.updInGroup n f).tb = s.tb := rfl
@[simp] theorem State.updInGroup_timers : (s.updInGroup n f).timers = s.timers := rfl
@[simp] theorem State.updInGroup_core : (s.updInGroup n f).core = s.core := rfl
@[simp] theorem State.updInGroup_mgmt : (s.updInGroup n f).mgmt = s.mgmt := rfl
@[simp] theorem State.updInGroup_sw : (s.updInGroup n f).sw = s.sw := rfl
@[simp] theorem State.updInGroup_eth : (s.updInGroup n f).eth = s.eth := rfl
@[simp] theorem State.updInGroup_bus : (s.updInGroup n f).bus = s.bus := rfl
@[simp] theorem State.updInGroup_ps : (s.updInGroup n f).ps = s.ps := rfl
@[simp] theorem State.updInGroup_ks : (s.updInGroup n f).ks = s.ks := rfl
@[simp] theorem State.updInGroup_ce : (s.updInGroup n f).ce = s.ce := rfl
@[simp] theorem State.updInGroup_pass : (s.updInGroup n f).pass = s.pass := rfl
@[simp] theorem State.updInGroup_pending : (s.updInGroup n f).pending = s.pending := rfl
end updInGroup

section updJob
variable (s : State) (n : Nat) (f : Job → Job)
@[simp] theorem State.updJob_supply : (s.updJob n f).supply = s.supply := rfl
@[simp] theorem State.updJob_aon : (s.updJob n f).aon = s.aon := rfl
@[simp] theorem State.updJob_sleep : (s.updJob n f).sleep = s.sleep := rfl
@[simp] theorem State.updJob_tb : (s.updJob n f).tb = s.tb := rfl
@[simp] theorem State.updJob_timers : (s.updJob n f).timers = s.timers := rfl
@[simp] theorem State.updJob_core : (s.updJob n f).core = s.core := rfl
@[simp] theorem State.updJob_mgmt : (s.updJob n f).mgmt = s.mgmt := rfl
@[simp] theorem State.updJob_sw : (s.updJob n f).sw = s.sw := rfl
@[simp] theorem State.updJob_eth : (s.updJob n f).eth = s.eth := rfl
@[simp] theorem State.updJob_bus : (s.updJob n f).bus = s.bus := rfl
@[simp] theorem State.updJob_ps : (s.updJob n f).ps = s.ps := rfl
@[simp] theorem State.updJob_inp : (s.updJob n f).inp = s.inp := rfl
@[simp] theorem State.updJob_ks : (s.updJob n f).ks = s.ks := rfl
@[simp] theorem State.updJob_pass : (s.updJob n f).pass = s.pass := rfl
@[simp] theorem State.updJob_pending : (s.updJob n f).pending = s.pending := rfl
end updJob

section updSlot
variable (s : State) (n : Nat) (f : RdSlot → RdSlot)
@[simp] theorem State.updSlot_supply : (s.updSlot n f).supply = s.supply := rfl
@[simp] theorem State.updSlot_aon : (s.updSlot n f).aon = s.aon := rfl
@[simp] theorem State.updSlot_sleep : (s.updSlot n f).sleep = s.sleep := rfl
@[simp] theorem State.updSlot_tb : (s.updSlot n f).tb = s.tb := rfl
@[simp] theorem State.updSlot_timers : (s.updSlot n f).timers = s.timers := rfl
@[simp] theorem State.updSlot_core : (s.updSlot n f).core = s.core := rfl
@[simp] theorem State.updSlot_mgmt : (s.updSlot n f).mgmt = s.mgmt := rfl
@[simp] theorem State.updSlot_sw : (s.updSlot n f).sw = s.sw := rfl
@[simp] theorem State.updSlot_eth : (s.updSlot n f).eth = s.eth := rfl
@[simp] theorem State.updSlot_bus : (s.updSlot n f).bus = s.bus := rfl
@[simp] theorem State.updSlot_ps : (s.updSlot n f).ps = s.ps := rfl
@[simp] theorem State.updSlot_inp : (s.updSlot n f).inp = s.inp := rfl
@[simp] theorem State.updSlot_ks : (s.updSlot n f).ks = s.ks := rfl
@[simp] theorem State.updSlot_ce : (s.updSlot n f).ce = s.ce := rfl
@[simp] theorem State.updSlot_pending : (s.updSlot n f).pending = s.pending := rfl
end updSlot

section updCluster
variable (s : State) (n : Nat) (f : Cluster → Cluster)
@[simp] theorem State.updCluster_supply : (s.updCluster n f).supply = s.supply := rfl
@[simp] theorem State.updCluster_aon : (s.updCluster n f).aon = s.aon := rfl
@[simp] theorem State.updCluster_sleep : (s.updCluster n f).sleep = s.sleep := rfl
@[simp] theorem State.updCluster_tb : (s.updCluster n f).tb = s.tb := rfl
@[simp] theorem State.updCluster_timers : (s.updCluster n f).timers = s.timers := rfl
@[simp] theorem State.updCluster_mgmt : (s.updCluster n f).mgmt = s.mgmt := rfl
@[simp] theorem State.updCluster_sw : (s.updCluster n f).sw = s.sw := rfl
@[simp] theorem State.updCluster_eth : (s.updCluster n f).eth = s.eth := rfl
@[simp] theorem State.updCluster_bus : (s.updCluster n f).bus = s.bus := rfl
@[simp] theorem State.updCluster_ps : (s.updCluster n f).ps = s.ps := rfl
@[simp] theorem State.updCluster_inp : (s.updCluster n f).inp = s.inp := rfl
@[simp] theorem State.updCluster_ks : (s.updCluster n f).ks = s.ks := rfl
@[simp] theorem State.updCluster_ce : (s.updCluster n f).ce = s.ce := rfl
@[simp] theorem State.updCluster_pass : (s.updCluster n f).pass = s.pass := rfl
@[simp] theorem State.updCluster_pending : (s.updCluster n f).pending = s.pending := rfl
end updCluster

section updReg
variable (s : State) (n : Nat) (f : Regulator → Regulator)
@[simp] theorem State.updReg_supply : (s.updReg n f).supply = s.supply := rfl
@[simp] theorem State.updReg_aon : (s.updReg n f).aon = s.aon := rfl
@[simp] theorem State.updReg_sleep : (s.updReg n f).sleep = s.sleep := rfl
@[simp] theorem State.updReg_tb : (s.updReg n f).tb = s.tb := rfl
@[simp] theorem State.updReg_timers : (s.updReg n f).timers = s.timers := rfl
@[simp] theorem State.updReg_mgmt : (s.updReg n f).mgmt = s.mgmt := rfl
@[simp] theorem State.updReg_sw : (s.updReg n f).sw = s.sw := rfl
@[simp] theorem State.updReg_eth : (s.updReg n f).eth = s.eth := rfl
@[simp] theorem State.updReg_bus : (s.updReg n f).bus = s.bus := rfl
@[simp] theorem State.updReg_ps : (s.updReg n f).ps = s.ps := rfl
@[simp] theorem State.updReg_inp : (s.updReg n f).inp = s.inp := rfl
@[simp] theorem State.updReg_ks : (s.updReg n f).ks = s.ks := rfl
@[simp] theorem State.updReg_ce : (s.updReg n f).ce = s.ce := rfl
@[simp] theorem State.updReg_pass : (s.updReg n f).pass = s.pass := rfl
@[simp] theorem State.updReg_pending : (s.updReg n f).pending = s.pending := rfl
end updReg

section updFrer
variable (s : State) (n : Nat) (f : Frer → Frer)
@[simp] theorem State.updFrer_supply : (s.updFrer n f).supply = s.supply := rfl
@[simp] theorem State.updFrer_aon : (s.updFrer n f).aon = s.aon := rfl
@[simp] theorem State.updFrer_sleep : (s.updFrer n f).sleep = s.sleep := rfl
@[simp] theorem State.updFrer_tb : (s.updFrer n f).tb = s.tb := rfl
@[simp] theorem State.updFrer_timers : (s.updFrer n f).timers = s.timers := rfl
@[simp] theorem State.updFrer_core : (s.updFrer n f).core = s.core := rfl
@[simp] theorem State.updFrer_mgmt : (s.updFrer n f).mgmt = s.mgmt := rfl
@[simp] theorem State.updFrer_sw : (s.updFrer n f).sw = s.sw := rfl
@[simp] theorem State.updFrer_bus : (s.updFrer n f).bus = s.bus := rfl
@[simp] theorem State.updFrer_ps : (s.updFrer n f).ps = s.ps := rfl
@[simp] theorem State.updFrer_inp : (s.updFrer n f).inp = s.inp := rfl
@[simp] theorem State.updFrer_ks : (s.updFrer n f).ks = s.ks := rfl
@[simp] theorem State.updFrer_ce : (s.updFrer n f).ce = s.ce := rfl
@[simp] theorem State.updFrer_pass : (s.updFrer n f).pass = s.pass := rfl
@[simp] theorem State.updFrer_pending : (s.updFrer n f).pending = s.pending := rfl
end updFrer

section updGroup
variable (s : State) (n : Nat) (f : LoadGroup → LoadGroup)
@[simp] theorem State.updGroup_supply : (s.updGroup n f).supply = s.supply := rfl
@[simp] theorem State.updGroup_aon : (s.updGroup n f).aon = s.aon := rfl
@[simp] theorem State.updGroup_sleep : (s.updGroup n f).sleep = s.sleep := rfl
@[simp] theorem State.updGroup_tb : (s.updGroup n f).tb = s.tb := rfl
@[simp] theorem State.updGroup_timers : (s.updGroup n f).timers = s.timers := rfl
@[simp] theorem State.updGroup_core : (s.updGroup n f).core = s.core := rfl
@[simp] theorem State.updGroup_mgmt : (s.updGroup n f).mgmt = s.mgmt := rfl
@[simp] theorem State.updGroup_sw : (s.updGroup n f).sw = s.sw := rfl
@[simp] theorem State.updGroup_eth : (s.updGroup n f).eth = s.eth := rfl
@[simp] theorem State.updGroup_bus : (s.updGroup n f).bus = s.bus := rfl
@[simp] theorem State.updGroup_inp : (s.updGroup n f).inp = s.inp := rfl
@[simp] theorem State.updGroup_ks : (s.updGroup n f).ks = s.ks := rfl
@[simp] theorem State.updGroup_ce : (s.updGroup n f).ce = s.ce := rfl
@[simp] theorem State.updGroup_pass : (s.updGroup n f).pass = s.pass := rfl
@[simp] theorem State.updGroup_pending : (s.updGroup n f).pending = s.pending := rfl
end updGroup

section onDbg
variable (s : State) (f : Dbg → Dbg)
@[simp] theorem State.onDbg_supply : (s.onDbg f).supply = s.supply := rfl
@[simp] theorem State.onDbg_aon : (s.onDbg f).aon = s.aon := rfl
@[simp] theorem State.onDbg_sleep : (s.onDbg f).sleep = s.sleep := rfl
@[simp] theorem State.onDbg_tb : (s.onDbg f).tb = s.tb := rfl
@[simp] theorem State.onDbg_timers : (s.onDbg f).timers = s.timers := rfl
@[simp] theorem State.onDbg_mgmt : (s.onDbg f).mgmt = s.mgmt := rfl
@[simp] theorem State.onDbg_sw : (s.onDbg f).sw = s.sw := rfl
@[simp] theorem State.onDbg_eth : (s.onDbg f).eth = s.eth := rfl
@[simp] theorem State.onDbg_bus : (s.onDbg f).bus = s.bus := rfl
@[simp] theorem State.onDbg_ps : (s.onDbg f).ps = s.ps := rfl
@[simp] theorem State.onDbg_inp : (s.onDbg f).inp = s.inp := rfl
@[simp] theorem State.onDbg_ks : (s.onDbg f).ks = s.ks := rfl
@[simp] theorem State.onDbg_ce : (s.onDbg f).ce = s.ce := rfl
@[simp] theorem State.onDbg_pass : (s.onDbg f).pass = s.pass := rfl
@[simp] theorem State.onDbg_pending : (s.onDbg f).pending = s.pending := rfl
end onDbg

section onBridge
variable (s : State) (f : Bridge → Bridge)
@[simp] theorem State.onBridge_supply : (s.onBridge f).supply = s.supply := rfl
@[simp] theorem State.onBridge_aon : (s.onBridge f).aon = s.aon := rfl
@[simp] theorem State.onBridge_sleep : (s.onBridge f).sleep = s.sleep := rfl
@[simp] theorem State.onBridge_tb : (s.onBridge f).tb = s.tb := rfl
@[simp] theorem State.onBridge_timers : (s.onBridge f).timers = s.timers := rfl
@[simp] theorem State.onBridge_core : (s.onBridge f).core = s.core := rfl
@[simp] theorem State.onBridge_mgmt : (s.onBridge f).mgmt = s.mgmt := rfl
@[simp] theorem State.onBridge_sw : (s.onBridge f).sw = s.sw := rfl
@[simp] theorem State.onBridge_bus : (s.onBridge f).bus = s.bus := rfl
@[simp] theorem State.onBridge_ps : (s.onBridge f).ps = s.ps := rfl
@[simp] theorem State.onBridge_inp : (s.onBridge f).inp = s.inp := rfl
@[simp] theorem State.onBridge_ks : (s.onBridge f).ks = s.ks := rfl
@[simp] theorem State.onBridge_ce : (s.onBridge f).ce = s.ce := rfl
@[simp] theorem State.onBridge_pass : (s.onBridge f).pass = s.pass := rfl
@[simp] theorem State.onBridge_pending : (s.onBridge f).pending = s.pending := rfl
end onBridge

/-! ### What a unit reads after an update -/

section Reads
variable (s : State) (n k : Nat)
theorem State.timer_updTimer (f : Comparator → Comparator) :
    (s.updTimer n f).timer k = if k = n then f (s.timer n) else s.timer k := Tab.get_upd ..
theorem State.hart_updHart (f : Hart → Hart) :
    (s.updHart n f).hart k = if k = n then f (s.hart n) else s.hart k := Tab.get_upd ..
theorem State.pair_updPair (f : Pair → Pair) :
    (s.updPair n f).pair k = if k = n then f (s.pair n) else s.pair k := Tab.get_upd ..
theorem State.block_updBlock (f : Block → Block) :
    (s.updBlock n f).block k = if k = n then f (s.block n) else s.block k := Tab.get_upd ..
theorem State.route_updRoute (f : RouteRec → RouteRec) :
    (s.updRoute n f).route k = if k = n then f (s.route n) else s.route k := Tab.get_upd ..
theorem State.swPort_updSwPort (f : SwPort → SwPort) :
    (s.updSwPort n f).swPort k = if k = n then f (s.swPort n) else s.swPort k := Tab.get_upd ..
theorem State.ethPort_updEthPort (f : EthPort → EthPort) :
    (s.updEthPort n f).ethPort k = if k = n then f (s.ethPort n) else s.ethPort k := Tab.get_upd ..
theorem State.gate_updGate (f : Gate → Gate) :
    (s.updGate n f).gate k = if k = n then f (s.gate n) else s.gate k := Tab.get_upd ..
theorem State.macsec_updMacsec (f : Macsec → Macsec) :
    (s.updMacsec n f).macsec k = if k = n then f (s.macsec n) else s.macsec k := Tab.get_upd ..
theorem State.qp_updQp (f : Qp → Qp) :
    (s.updQp n f).qp k = if k = n then f (s.qp n) else s.qp k := Tab.get_upd ..
theorem State.can_updCan (f : CanCh → CanCh) :
    (s.updCan n f).can k = if k = n then f (s.can n) else s.can k := Tab.get_upd ..
theorem State.lin_updLin (f : LinCh → LinCh) :
    (s.updLin n f).lin k = if k = n then f (s.lin n) else s.lin k := Tab.get_upd ..
theorem State.win_updWin (f : Window → Window) :
    (s.updWin n f).win k = if k = n then f (s.win n) else s.win k := Tab.get_upd ..
theorem State.ring_updRing (f : Ring → Ring) :
    (s.updRing n f).ring k = if k = n then f (s.ring n) else s.ring k := Tab.get_upd ..
theorem State.cluster_updCluster (f : Cluster → Cluster) :
    (s.updCluster n f).cluster k = if k = n then f (s.cluster n) else s.cluster k := Tab.get_upd ..
theorem State.reg_updReg (f : Regulator → Regulator) :
    (s.updReg n f).reg k = if k = n then f (s.reg n) else s.reg k := Tab.get_upd ..
theorem State.din_updDin (f : DIn → DIn) :
    (s.updDin n f).din k = if k = n then f (s.din n) else s.din k := Tab.get_upd ..
theorem State.vin_updVin (f : VIn → VIn) :
    (s.updVin n f).vin k = if k = n then f (s.vin n) else s.vin k := Tab.get_upd ..
theorem State.inGroup_updInGroup (f : InGroup → InGroup) :
    (s.updInGroup n f).inGroup k = if k = n then f (s.inGroup n) else s.inGroup k := Tab.get_upd ..
theorem State.stall_updStall (f : Stall → Stall) : (s.updStall n f).stall k = if k = n then f (s.stall n) else s.stall k := by
  by_cases h : k = n
  · subst h; simp [State.stall, State.updStall, State.onMgmt, State.onAmind]
  · simp [State.stall, State.updStall, State.onMgmt, State.onAmind, h, Tab.get_put_ne]
theorem State.inst_updInst (f : Inst → Inst) : (s.updInst n f).inst k = if k = n then f (s.inst n) else s.inst k := by
  by_cases h : k = n
  · subst h; simp [State.inst, State.updInst, State.onMgmt]
  · simp [State.inst, State.updInst, State.onMgmt, h, Tab.get_put_ne]
theorem State.target_updTarget (f : Target → Target) : (s.updTarget n f).target k = if k = n then f (s.target n) else s.target k := by
  by_cases h : k = n
  · subst h; simp [State.target, State.updTarget, State.onMgmt]
  · simp [State.target, State.updTarget, State.onMgmt, h, Tab.get_put_ne]
/-- The configuration of another wake source stays; IGN is armed whatever is stored (R428). -/
theorem State.wakeCfg_updWake_ne {n k : Nat} (f : WakeCfg → WakeCfg) (h : k ≠ n) : (s.updWake n f).wakeCfg k = s.wakeCfg k := by
  simp [State.wakeCfg, State.updWake, State.onSleep, Tab.get_upd_ne _ _ _ h]
end Reads

end Sys2Proof.Machine
end

