-- ==== Sys2Proof/Laws/Bus.lean ====
section
/-! SUPPORT. What the shared operations on a transaction do: issue, the initiator port, arbitration, and time. -/

namespace Sys2Proof.Machine

open Sys2Proof

/-- Attributes that are as the hardware stamps them go on as they are. -/
theorem State.issue_of_sends {s : State} {t : Attr} (k : Attr → Out) (h : s.sends t) : s.issue t k = k t := by
  simp [State.issue, h.1, h.2.1, h.2.2]

theorem State.issueX_of_sends {s : State} {x : Xact} (k : Xact → Out) (h : s.sends x.attr) : s.issueX x k = k x := by
  rw [State.issueX, State.issue_of_sends _ h]

/-- A transaction that an initiator may not issue is discarded. -/
theorem State.issue_of_not_mayIssue {s : State} {t : Attr} (k : Attr → Out) (hi : initListed t.init = true) (h : s.mayIssue t = false) :
    s.issue t k = .next (s.discarded t) := by
  simp [State.issue, hi, h]

/-- An access that no regulator meters keeps its class and changes nothing. -/
theorem State.meter_of_not_metered {s : State} {t : Attr} {a : Nat} (n : Nat) (h : s.metered t a = false) : s.meter t a n = (s, some t.qos) := by
  simp [State.meter, h]

/-- A transaction that passes at once is accepted by its target, and concluded with what the target says. -/
theorem State.transact_of_passesAtOnce {s : State} {k : XKind} (op : AmoOp) {x : Xact} {n : Nat} (h : s.passesAtOnce k x n) :
    s.transact k op x n = Waiting.concluded { x := x, kind := k, op := op, cls := x.attr.qos } (s.accept k op x) := by
  obtain ⟨up, fits, first, credit, free, wins⟩ := h
  have ahead : s.core.waiting.any (fun v => v.x.ordered x) = false := by
    simp only [List.any_eq_false]
    exact fun w hw => by simp [first w hw]
  simp [State.transact, State.submit, up, fits, ahead, credit, State.meter_of_not_metered n free, wins]

/-- Nothing holds back an access that passes at once. -/
theorem State.held_of_portFree {s : State} {x : Xact} {k : XKind} (h : s.portFree k x) : s.held x k = none := by
  obtain ⟨first, credit, wins⟩ := h
  have ahead : s.core.waiting.any (fun v => v.x.ordered x) = false := by
    simp only [List.any_eq_false]
    exact fun w hw => by simp [first w hw]
  simp [State.held, ahead, credit, wins]

/-- A transaction behind an earlier one of its initiator to its block waits at its port (R122). -/
theorem State.transact_of_ordered {s : State} {k : XKind} (op : AmoOp) {x : Xact} {n : Nat} (up : s.fabricUp = true) (fits : x.fits n = true)
    (h : s.core.waiting.any (fun v => v.x.ordered x) = true) :
    s.transact k op x n = (s.enqueue { x := x, kind := k, op := op, cls := x.attr.qos, withheld := true }).stallsOn x.attr 7 := by
  simp [State.transact, State.submit, up, fits, h]

/-- A fabric that is off takes no transaction. -/
theorem State.transact_of_down {s : State} {k : XKind} (op : AmoOp) {x : Xact} {n : Nat} (h : s.fabricUp = false) : s.transact k op x n = s := by
  simp [State.transact, State.submit, h]

end Sys2Proof.Machine
end

