-- ==== Sys2Proof/Laws/Irq.lean ====
section
/-! SUPPORT. What interrupts, ledger entries and responses can change, said once: interrupts change the interrupt controllers and the
drop counters of the pairs; an entry changes the ledger beside them; a response changes Amind's records beside them. -/

namespace Sys2Proof.Machine

open Sys2Proof

/-- The interrupt controllers and the pairs' records of a state, put into another state. -/
def State.withIrq (s t : State) : State :=
  { s with core := { s.core with
      aplicM := t.core.aplicM, aplicS := t.core.aplicS, imsics := t.core.imsics, pairs := t.core.pairs } }

/-- Nothing but interrupt controllers and pairs' records differs. -/
def State.irqOnly (s t : State) : Prop := t = s.withIrq t

theorem State.irqOnly_refl (s : State) : s.irqOnly s := rfl

theorem State.irqOnly_trans {a b c : State} (h : a.irqOnly b) (k : b.irqOnly c) : a.irqOnly c := by
  unfold State.irqOnly at *
  rw [k, h]
  rfl

theorem State.irqOnly_after {a b c : State} (k : b.irqOnly c) (h : a.irqOnly b) : a.irqOnly c := State.irqOnly_trans h k

theorem State.irqOnly_foldl {α : Type} (f : State → α → State) (hf : ∀ (t : State) a, t.irqOnly (f t a)) (l : List α) (s : State) :
    s.irqOnly (l.foldl f s) := by
  induction l generalizing s with
  | nil => exact s.irqOnly_refl
  | cons a l ih => exact State.irqOnly_trans (hf s a) (ih _)

theorem State.msi_irqOnly (s : State) (h file ident : Nat) : s.irqOnly (s.msi h file ident) := by
  unfold State.msi
  split
  · exact s.irqOnly_refl
  · split <;> rfl

theorem State.fireS_irqOnly (s : State) (i : Nat) : s.irqOnly (s.fireS i) := by
  unfold State.fireS
  simp only
  split
  · exact State.irqOnly_after (State.msi_irqOnly _ _ _ _) rfl
  · exact s.irqOnly_refl

theorem State.fireM_irqOnly (s : State) (i : Nat) : s.irqOnly (s.fireM i) := by
  unfold State.fireM
  simp only
  split
  · exact State.irqOnly_after (State.msi_irqOnly _ _ _ _) rfl
  · exact s.irqOnly_refl

theorem State.pulse_irqOnly (s : State) (i : Nat) : s.irqOnly (s.pulse i) := by
  unfold State.pulse
  split
  · split
    · exact State.irqOnly_after (State.fireS_irqOnly _ _) rfl
    · exact s.irqOnly_refl
  · split
    · exact State.irqOnly_after (State.fireM_irqOnly _ _) rfl
    · exact s.irqOnly_refl

theorem State.settleSrc_irqOnly (s : State) (i : Nat) : s.irqOnly (s.settleSrc i) := by
  unfold State.settleSrc
  simp only
  split
  · split
    · exact s.irqOnly_refl
    · exact State.irqOnly_after (State.fireS_irqOnly _ _) rfl
  · split
    · exact s.irqOnly_refl
    · exact State.irqOnly_after (State.fireM_irqOnly _ _) rfl

/-- The settling of interrupts changes nothing else. -/
theorem State.settle_irqOnly (s : State) : s.irqOnly s.settle :=
  State.irqOnly_foldl _ (fun t i => t.settleSrc_irqOnly i) _ _

section Fields

variable {s t : State}

theorem State.irqOnly_supply (h : s.irqOnly t) : t.supply = s.supply := by rw [h]; rfl
theorem State.irqOnly_aon (h : s.irqOnly t) : t.aon = s.aon := by rw [h]; rfl
theorem State.irqOnly_sleep (h : s.irqOnly t) : t.sleep = s.sleep := by rw [h]; rfl
theorem State.irqOnly_tb (h : s.irqOnly t) : t.tb = s.tb := by rw [h]; rfl
theorem State.irqOnly_timers (h : s.irqOnly t) : t.timers = s.timers := by rw [h]; rfl
theorem State.irqOnly_mgmt (h : s.irqOnly t) : t.mgmt = s.mgmt := by rw [h]; rfl
theorem State.irqOnly_sw (h : s.irqOnly t) : t.sw = s.sw := by rw [h]; rfl
theorem State.irqOnly_eth (h : s.irqOnly t) : t.eth = s.eth := by rw [h]; rfl
theorem State.irqOnly_bus (h : s.irqOnly t) : t.bus = s.bus := by rw [h]; rfl
theorem State.irqOnly_ps (h : s.irqOnly t) : t.ps = s.ps := by rw [h]; rfl
theorem State.irqOnly_inp (h : s.irqOnly t) : t.inp = s.inp := by rw [h]; rfl
theorem State.irqOnly_ks (h : s.irqOnly t) : t.ks = s.ks := by rw [h]; rfl
theorem State.irqOnly_ce (h : s.irqOnly t) : t.ce = s.ce := by rw [h]; rfl
theorem State.irqOnly_pass (h : s.irqOnly t) : t.pass = s.pass := by rw [h]; rfl
theorem State.irqOnly_pending (h : s.irqOnly t) : t.pending = s.pending := by rw [h]; rfl
theorem State.irqOnly_dram (h : s.irqOnly t) : t.core.dram = s.core.dram := by rw [h]; rfl
theorem State.irqOnly_sram (h : s.irqOnly t) : t.core.sram = s.core.sram := by rw [h]; rfl
theorem State.irqOnly_harts (h : s.irqOnly t) : t.core.harts = s.core.harts := by rw [h]; rfl
theorem State.irqOnly_blocks (h : s.irqOnly t) : t.core.blocks = s.core.blocks := by rw [h]; rfl

end Fields

section Settle

variable (s : State)

@[simp] theorem State.settle_supply : s.settle.supply = s.supply := State.irqOnly_supply s.settle_irqOnly
@[simp] theorem State.settle_aon : s.settle.aon = s.aon := State.irqOnly_aon s.settle_irqOnly
@[simp] theorem State.settle_sleep : s.settle.sleep = s.sleep := State.irqOnly_sleep s.settle_irqOnly
@[simp] theorem State.settle_tb : s.settle.tb = s.tb := State.irqOnly_tb s.settle_irqOnly
@[simp] theorem State.settle_timers : s.settle.timers = s.timers := State.irqOnly_timers s.settle_irqOnly
@[simp] theorem State.settle_mgmt : s.settle.mgmt = s.mgmt := State.irqOnly_mgmt s.settle_irqOnly
@[simp] theorem State.settle_sw : s.settle.sw = s.sw := State.irqOnly_sw s.settle_irqOnly
@[simp] theorem State.settle_eth : s.settle.eth = s.eth := State.irqOnly_eth s.settle_irqOnly
@[simp] theorem State.settle_bus : s.settle.bus = s.bus := State.irqOnly_bus s.settle_irqOnly
@[simp] theorem State.settle_ps : s.settle.ps = s.ps := State.irqOnly_ps s.settle_irqOnly
@[simp] theorem State.settle_inp : s.settle.inp = s.inp := State.irqOnly_inp s.settle_irqOnly
@[simp] theorem State.settle_ks : s.settle.ks = s.ks := State.irqOnly_ks s.settle_irqOnly
@[simp] theorem State.settle_ce : s.settle.ce = s.ce := State.irqOnly_ce s.settle_irqOnly
@[simp] theorem State.settle_pass : s.settle.pass = s.pass := State.irqOnly_pass s.settle_irqOnly
@[simp] theorem State.settle_pending : s.settle.pending = s.pending := State.irqOnly_pending s.settle_irqOnly
@[simp] theorem State.settle_dram : s.settle.core.dram = s.core.dram := State.irqOnly_dram s.settle_irqOnly
@[simp] theorem State.settle_sram : s.settle.core.sram = s.core.sram := State.irqOnly_sram s.settle_irqOnly
@[simp] theorem State.settle_harts : s.settle.core.harts = s.core.harts := State.irqOnly_harts s.settle_irqOnly
@[simp] theorem State.settle_blocks : s.settle.core.blocks = s.core.blocks := State.irqOnly_blocks s.settle_irqOnly

end Settle

/-! ### Entries and responses -/

/-- Nothing but Amind's side and the interrupts differs: what entries, notices and responses can change. -/
def State.mgmtOnly (s t : State) : Prop := t = ({ s with mgmt := t.mgmt } : State).withIrq t

theorem State.mgmtOnly_refl (s : State) : s.mgmtOnly s := rfl

theorem State.mgmtOnly_trans {a b c : State} (h : a.mgmtOnly b) (k : b.mgmtOnly c) : a.mgmtOnly c := by
  unfold State.mgmtOnly at *
  rw [k, h]
  rfl

theorem State.mgmtOnly_after {a b c : State} (k : b.mgmtOnly c) (h : a.mgmtOnly b) : a.mgmtOnly c := State.mgmtOnly_trans h k

theorem State.mgmtOnly_of_irqOnly {a b : State} (h : a.irqOnly b) : a.mgmtOnly b := by
  unfold State.mgmtOnly
  rw [State.irqOnly_mgmt h]
  exact h

theorem State.onMgmt_mgmtOnly (s : State) (f : Mgmt → Mgmt) : s.mgmtOnly (s.onMgmt f) := rfl

theorem State.mgmtOnly_foldl {α : Type} (f : State → α → State) (hf : ∀ (t : State) a, t.mgmtOnly (f t a)) (l : List α) (s : State) :
    s.mgmtOnly (l.foldl f s) := by
  induction l generalizing s with
  | nil => exact s.mgmtOnly_refl
  | cons a l ih => exact State.mgmtOnly_trans (hf s a) (ih _)

theorem State.ledgerPut_mgmtOnly (s : State) (w : Writer) (code sev : Nat) (data : List Byte) :
    s.mgmtOnly (s.ledgerPut w code sev data) := by
  unfold State.ledgerPut
  simp only
  split
  · exact State.mgmtOnly_after (State.mgmtOnly_of_irqOnly (State.pulse_irqOnly _ _)) rfl
  · exact s.onMgmt_mgmtOnly _

theorem State.ledgerBy_mgmtOnly (s : State) (w : Writer) (e : Ev) (data : List Byte) : s.mgmtOnly (s.ledgerBy w e data) := by
  unfold State.ledgerBy
  simp only
  split
  · exact s.onMgmt_mgmtOnly _
  · exact State.mgmtOnly_after (State.ledgerPut_mgmtOnly _ _ _ _ _) rfl

theorem State.log_mgmtOnly (s : State) (e : Ev) (data : List Byte) : s.mgmtOnly (s.log e data) := s.ledgerBy_mgmtOnly _ e data

theorem State.logAon_mgmtOnly (s : State) (e : Ev) (data : List Byte) : s.mgmtOnly (s.logAon e data) := by
  unfold State.logAon
  split
  · exact s.onMgmt_mgmtOnly _
  · exact s.ledgerPut_mgmtOnly _ _ _ _

theorem State.aonDrop_mgmtOnly (s : State) (d : Nat × U32) : s.mgmtOnly (s.aonDrop d) := by
  unfold State.aonDrop
  split
  · exact s.onMgmt_mgmtOnly _
  · exact s.ledgerPut_mgmtOnly _ _ _ _

theorem State.aonDrops_mgmtOnly (s : State) : s.mgmtOnly s.aonDrops :=
  State.mgmtOnly_after (State.mgmtOnly_foldl _ (fun t d => t.aonDrop_mgmtOnly d) _ _) rfl

theorem State.commitBuffer_mgmtOnly (s : State) : s.mgmtOnly s.commitBuffer :=
  State.mgmtOnly_after (State.aonDrops_mgmtOnly _) rfl

theorem State.stallIrq_mgmtOnly (s : State) (n : Nat) : s.mgmtOnly (s.stallIrq n) := by
  unfold State.stallIrq
  split
  · exact State.mgmtOnly_of_irqOnly (s.pulse_irqOnly _)
  · split
    · exact State.mgmtOnly_of_irqOnly (s.pulse_irqOnly _)
    · split
      · exact s.mgmtOnly_refl
      · exact State.mgmtOnly_of_irqOnly (s.msi_irqOnly _ _ _)

theorem State.writeNotice_mgmtOnly (s : State) (n : Nat) (r : Response) (st : StallState) : s.mgmtOnly (s.writeNotice n r st) := by
  unfold State.writeNotice
  exact State.mgmtOnly_after (State.stallIrq_mgmtOnly _ _) rfl

theorem State.stallNotice_mgmtOnly (s : State) (n : Nat) (r : Response) : s.mgmtOnly (s.stallNotice n r) := by
  unfold State.stallNotice
  split
  · exact s.mgmtOnly_refl
  · exact s.writeNotice_mgmtOnly _ _ _
  · split <;> rfl

theorem State.svcSend_mgmtOnly (s : State) (k : Nat) (r : Response) : s.mgmtOnly (s.svcSend k r) := by
  unfold State.svcSend
  split <;> rfl

theorem State.ptrSend_mgmtOnly (s : State) (o : Nat) (r : Response) : s.mgmtOnly (s.ptrSend o r) := rfl

theorem State.udpSend_mgmtOnly (s : State) (peer : Peer) (r : Response) : s.mgmtOnly (s.udpSend peer r) := by
  unfold State.udpSend
  split <;> rfl

theorem State.notice_mgmtOnly (s : State) (key : Nat) (r : Response) : s.mgmtOnly (s.notice key r) := by
  unfold State.notice
  split
  · exact s.stallNotice_mgmtOnly _ _
  · split
    · exact s.svcSend_mgmtOnly _ _
    · exact s.ptrSend_mgmtOnly _ _

theorem State.complete_mgmtOnly (s : State) (key : Nat) (seq : U16) (st : Status) (handle : U32) (payload : List Byte) :
    s.mgmtOnly (s.complete key seq st handle payload) := by
  unfold State.complete
  split
  · exact s.mgmtOnly_refl
  · exact State.mgmtOnly_after (State.notice_mgmtOnly _ _ _) rfl

theorem State.completeAll_mgmtOnly (s : State) (ws : List (Nat × U16)) (st : Status) (payload : List Byte) :
    s.mgmtOnly (s.completeAll ws st payload) :=
  State.mgmtOnly_foldl _ (fun t _ => t.complete_mgmtOnly _ _ _ _ _) _ _

theorem State.feedPartner_mgmtOnly (s : State) : s.mgmtOnly s.feedPartner := by
  unfold State.feedPartner
  split
  · exact s.mgmtOnly_refl
  · split
    · rfl
    · exact s.mgmtOnly_refl

/-- Writing a response changes Amind's records and interrupts alone. -/
theorem State.respond_mgmtOnly (s : State) (r : Route) (a : Response) : s.mgmtOnly (s.respond r a) := by
  unfold State.respond
  split
  · split
    · exact State.mgmtOnly_after (State.stallIrq_mgmtOnly _ _) rfl
    · exact s.mgmtOnly_refl
  · exact s.svcSend_mgmtOnly _ _
  · exact State.mgmtOnly_after (State.feedPartner_mgmtOnly _) rfl
  · exact s.udpSend_mgmtOnly _ _

theorem State.record_mgmtOnly (s : State) (rq : Request) (a : Ans) : s.mgmtOnly (s.record rq a) := rfl

theorem State.heard_mgmtOnly (s : State) (rq : Request) : s.mgmtOnly (s.heard rq) := by
  unfold State.heard
  split <;> rfl

/-- A reply changes Amind's records and interrupts alone. -/
theorem State.reply_mgmtOnly (s : State) (rq : Request) (a : Ans) : s.mgmtOnly (s.reply rq a) :=
  State.mgmtOnly_after (State.mgmtOnly_of_irqOnly (State.settle_irqOnly _))
    (State.mgmtOnly_after (State.respond_mgmtOnly _ _ _) (s.record_mgmtOnly rq a))

section MgmtFields

variable {s t : State}

theorem State.mgmtOnly_supply (h : s.mgmtOnly t) : t.supply = s.supply := by rw [h]; rfl
theorem State.mgmtOnly_aon (h : s.mgmtOnly t) : t.aon = s.aon := by rw [h]; rfl
theorem State.mgmtOnly_sleep (h : s.mgmtOnly t) : t.sleep = s.sleep := by rw [h]; rfl
theorem State.mgmtOnly_tb (h : s.mgmtOnly t) : t.tb = s.tb := by rw [h]; rfl
theorem State.mgmtOnly_timers (h : s.mgmtOnly t) : t.timers = s.timers := by rw [h]; rfl
theorem State.mgmtOnly_sw (h : s.mgmtOnly t) : t.sw = s.sw := by rw [h]; rfl
theorem State.mgmtOnly_eth (h : s.mgmtOnly t) : t.eth = s.eth := by rw [h]; rfl
theorem State.mgmtOnly_bus (h : s.mgmtOnly t) : t.bus = s.bus := by rw [h]; rfl
theorem State.mgmtOnly_ps (h : s.mgmtOnly t) : t.ps = s.ps := by rw [h]; rfl
theorem State.mgmtOnly_inp (h : s.mgmtOnly t) : t.inp = s.inp := by rw [h]; rfl
theorem State.mgmtOnly_ks (h : s.mgmtOnly t) : t.ks = s.ks := by rw [h]; rfl
theorem State.mgmtOnly_ce (h : s.mgmtOnly t) : t.ce = s.ce := by rw [h]; rfl
theorem State.mgmtOnly_pass (h : s.mgmtOnly t) : t.pass = s.pass := by rw [h]; rfl
theorem State.mgmtOnly_pending (h : s.mgmtOnly t) : t.pending = s.pending := by rw [h]; rfl
theorem State.mgmtOnly_dram (h : s.mgmtOnly t) : t.core.dram = s.core.dram := by rw [h]; rfl
theorem State.mgmtOnly_sram (h : s.mgmtOnly t) : t.core.sram = s.core.sram := by rw [h]; rfl

end MgmtFields

/-! ### Service of requests -/

theorem State.heard_answersBusy (s : State) (rq : Request) (r : Route) : (s.heard rq).answersBusy r = s.answersBusy r := by
  unfold State.heard
  split <;> rfl

theorem State.heard_replays (s : State) (rq : Request) : (s.heard rq).replays rq = s.replays rq := by
  unfold State.heard
  split <;> rfl

/-- A request that Amind takes: the command's own part on the state that heard it, and the reply. -/
theorem serveWith_takes {c : CmdSpec} {rq : Request} {s : State} {valid : List Byte → Bool} {retiring : Bool}
    (own : State → State × Ans) (h : s.takes c rq valid retiring) :
    serveWith c rq s valid retiring own
      = .next ((own (s.heard rq)).1.reply rq (own (s.heard rq)).2) := by
  obtain ⟨h1, h2, h3, h4, h5, h6, h7, h8, h9⟩ := h
  rw [← s.heard_answersBusy rq] at h5
  rw [← State.heard_replays] at h7
  unfold serveWith
  simp only [h1, h2, h3, h4, h5, h6, h7, h8, h9, fin, State.reply]
  simp

/-- The service of a request always ends in a next state. -/
theorem serveWith_next (c : CmdSpec) (rq : Request) (s : State) (valid : List Byte → Bool) (retiring : Bool)
    (own : State → State × Ans) : ∃ t, serveWith c rq s valid retiring own = .next t := by
  unfold serveWith fin
  simp only
  repeat' split
  all_goals exact ⟨_, rfl⟩

end Sys2Proof.Machine
end

