-- ==== Sys2Proof/Laws/Load.lean ====
section
/-! SUPPORT. What the re-evaluation of load channels can change, said once: the power stage and interrupts; of the channels, the one
re-evaluated; and a channel with an off state is off after it. -/

namespace Sys2Proof.Machine

open Sys2Proof

/-- Nothing but the power stage and interrupts differs. -/
def State.psOnly (s t : State) : Prop := t = ({ s with ps := t.ps } : State).withIrq t

theorem State.psOnly_refl (s : State) : s.psOnly s := rfl

theorem State.psOnly_trans {a b c : State} (h : a.psOnly b) (k : b.psOnly c) : a.psOnly c := by
  unfold State.psOnly at *
  rw [k, h]
  rfl

theorem State.psOnly_after {a b c : State} (k : b.psOnly c) (h : a.psOnly b) : a.psOnly c := State.psOnly_trans h k

theorem State.psOnly_of_irqOnly {a b : State} (h : a.irqOnly b) : a.psOnly b := by
  unfold State.psOnly
  rw [State.irqOnly_ps h]
  exact h

theorem State.psOnly_foldl {α : Type} (f : State → α → State) (hf : ∀ (t : State) a, t.psOnly (f t a)) (l : List α) (s : State) :
    s.psOnly (l.foldl f s) := by
  induction l generalizing s with
  | nil => exact s.psOnly_refl
  | cons a l ih => exact State.psOnly_trans (hf s a) (ih _)

theorem State.onPs_psOnly (s : State) (f : PowerStage → PowerStage) : s.psOnly (s.onPs f) := rfl

theorem State.loadPulse_irqOnly (s : State) (c : Nat) : s.irqOnly (s.loadPulse c) := by
  unfold State.loadPulse
  split
  · exact s.pulse_irqOnly _
  · exact s.irqOnly_refl

theorem State.groupMsi_irqOnly (s : State) (g : Nat) : s.irqOnly (s.groupMsi g) := by
  unfold State.groupMsi
  split
  · exact s.msi_irqOnly _ _ _
  · exact s.irqOnly_refl

/-- A change of a channel is reported in the power stage and by interrupts. -/
theorem State.loadReport_psOnly (s0 s : State) (c : Nat) (b : Bool) : s.psOnly (s0.loadReport s c b) := by
  have pulse (t : State) (c : Nat) : t.psOnly (t.loadPulse c) := State.psOnly_of_irqOnly (t.loadPulse_irqOnly c)
  have opt (p : Prop) [Decidable p] (t : State) (k : Nat) : t.psOnly (if p then (t.psEvent k).loadPulse c else t) := by
    split
    · exact State.psOnly_after (pulse _ _) rfl
    · exact t.psOnly_refl
  have last (p : Prop) [Decidable p] (t : State) : t.psOnly (if p then t.loadPulse c else t) := by
    split
    · exact pulse _ _
    · exact t.psOnly_refl
  unfold State.loadReport
  simp only
  split
  · exact s.psOnly_refl
  · split
    · split
      · rfl
      · split
        · rfl
        · exact State.psOnly_after (State.psOnly_of_irqOnly (State.groupMsi_irqOnly _ _)) rfl
    · exact State.psOnly_after (last _ _) (State.psOnly_after (opt _ _ _) (opt _ _ _))

theorem State.updLoad_psOnly (s : State) (c : Nat) (f : LoadCh → LoadCh) : s.psOnly (s.updLoad c f) := rfl

theorem State.loadStart_psOnly (s : State) (c : Nat) : s.psOnly (s.loadStart c) := by
  unfold State.loadStart
  split
  · exact State.psOnly_after (State.onPs_psOnly _ _) (s.updLoad_psOnly c _)
  · exact s.updLoad_psOnly c _

theorem State.loadSwitch_psOnly (s : State) (c : Nat) : s.psOnly (s.loadSwitch c) := by
  unfold State.loadSwitch
  split <;> split
  · exact s.loadStart_psOnly c
  · exact s.psOnly_refl
  · exact s.psOnly_refl
  · exact s.updLoad_psOnly c _

theorem State.loadDrive_psOnly (s : State) (c : Nat) : s.psOnly (s.loadDrive c) := by
  unfold State.loadDrive
  simp only
  split
  · exact State.psOnly_after (State.updLoad_psOnly _ _ _) (s.loadSwitch_psOnly c)
  · exact s.loadSwitch_psOnly c

theorem State.dutyStep_psOnly (s0 s : State) (c : Nat) : s.psOnly (s0.dutyStep s c) := by
  unfold State.dutyStep
  split
  · exact s.psOnly_refl
  · exact s.updLoad_psOnly c _

theorem State.partnerReport_psOnly (s0 s : State) (c : Nat) : s.psOnly (s0.partnerReport s c) := by
  unfold State.partnerReport
  split
  · exact s.psOnly_refl
  · exact s.onPs_psOnly _

theorem State.loadStep_psOnly (s0 s : State) (c : Nat) (b : Bool) : s.psOnly (s0.loadStep s c b) :=
  State.psOnly_after (State.partnerReport_psOnly _ _ _)
    (State.psOnly_after (State.loadReport_psOnly _ _ _ _)
      (State.psOnly_after (State.loadDrive_psOnly _ _) (s0.dutyStep_psOnly s c)))

/-- The re-evaluation of every channel changes the power stage and interrupts alone. -/
theorem State.loadAll_psOnly (s0 s : State) : s.psOnly (s0.loadAll s) :=
  State.psOnly_foldl _ (fun t c => s0.loadStep_psOnly t c false) _ _

theorem State.loadPolicy_psOnly (s : State) (c : Nat) : s.psOnly (s.loadPolicy c) :=
  State.psOnly_after (State.loadStep_psOnly _ _ _ _) rfl

theorem State.loadPolicies_psOnly (s : State) (m : U64) : s.psOnly (s.loadPolicies m) := by
  unfold State.loadPolicies
  refine State.psOnly_foldl _ (fun t c => ?_) _ _
  split
  · exact t.loadPolicy_psOnly c
  · exact t.psOnly_refl

section Fields

variable {s t : State}

theorem State.psOnly_supply (h : s.psOnly t) : t.supply = s.supply := by rw [h]; rfl
theorem State.psOnly_aon (h : s.psOnly t) : t.aon = s.aon := by rw [h]; rfl
theorem State.psOnly_sleep (h : s.psOnly t) : t.sleep = s.sleep := by rw [h]; rfl
theorem State.psOnly_tb (h : s.psOnly t) : t.tb = s.tb := by rw [h]; rfl
theorem State.psOnly_timers (h : s.psOnly t) : t.timers = s.timers := by rw [h]; rfl
theorem State.psOnly_mgmt (h : s.psOnly t) : t.mgmt = s.mgmt := by rw [h]; rfl
theorem State.psOnly_sw (h : s.psOnly t) : t.sw = s.sw := by rw [h]; rfl
theorem State.psOnly_eth (h : s.psOnly t) : t.eth = s.eth := by rw [h]; rfl
theorem State.psOnly_bus (h : s.psOnly t) : t.bus = s.bus := by rw [h]; rfl
theorem State.psOnly_inp (h : s.psOnly t) : t.inp = s.inp := by rw [h]; rfl
theorem State.psOnly_ks (h : s.psOnly t) : t.ks = s.ks := by rw [h]; rfl
theorem State.psOnly_ce (h : s.psOnly t) : t.ce = s.ce := by rw [h]; rfl
theorem State.psOnly_pass (h : s.psOnly t) : t.pass = s.pass := by rw [h]; rfl
theorem State.psOnly_pending (h : s.psOnly t) : t.pending = s.pending := by rw [h]; rfl
theorem State.psOnly_core (h : s.psOnly t) : t.core = { s.core with
    aplicM := t.core.aplicM, aplicS := t.core.aplicS, imsics := t.core.imsics, pairs := t.core.pairs } := by
  rw [h]; rfl

end Fields

@[simp] theorem State.loadAll_supply (s0 s : State) : (s0.loadAll s).supply = s.supply := State.psOnly_supply (s0.loadAll_psOnly s)
@[simp] theorem State.loadAll_aon (s0 s : State) : (s0.loadAll s).aon = s.aon := State.psOnly_aon (s0.loadAll_psOnly s)
@[simp] theorem State.loadAll_sleep (s0 s : State) : (s0.loadAll s).sleep = s.sleep := State.psOnly_sleep (s0.loadAll_psOnly s)
@[simp] theorem State.loadAll_tb (s0 s : State) : (s0.loadAll s).tb = s.tb := State.psOnly_tb (s0.loadAll_psOnly s)
@[simp] theorem State.loadAll_timers (s0 s : State) : (s0.loadAll s).timers = s.timers := State.psOnly_timers (s0.loadAll_psOnly s)
@[simp] theorem State.loadAll_mgmt (s0 s : State) : (s0.loadAll s).mgmt = s.mgmt := State.psOnly_mgmt (s0.loadAll_psOnly s)
@[simp] theorem State.loadAll_sw (s0 s : State) : (s0.loadAll s).sw = s.sw := State.psOnly_sw (s0.loadAll_psOnly s)
@[simp] theorem State.loadAll_eth (s0 s : State) : (s0.loadAll s).eth = s.eth := State.psOnly_eth (s0.loadAll_psOnly s)
@[simp] theorem State.loadAll_bus (s0 s : State) : (s0.loadAll s).bus = s.bus := State.psOnly_bus (s0.loadAll_psOnly s)
@[simp] theorem State.loadAll_inp (s0 s : State) : (s0.loadAll s).inp = s.inp := State.psOnly_inp (s0.loadAll_psOnly s)
@[simp] theorem State.loadAll_ks (s0 s : State) : (s0.loadAll s).ks = s.ks := State.psOnly_ks (s0.loadAll_psOnly s)
@[simp] theorem State.loadAll_ce (s0 s : State) : (s0.loadAll s).ce = s.ce := State.psOnly_ce (s0.loadAll_psOnly s)
@[simp] theorem State.loadAll_pass (s0 s : State) : (s0.loadAll s).pass = s.pass := State.psOnly_pass (s0.loadAll_psOnly s)
@[simp] theorem State.loadAll_pending (s0 s : State) : (s0.loadAll s).pending = s.pending := State.psOnly_pending (s0.loadAll_psOnly s)

/-! ### Channels -/

@[simp] theorem State.load_updLoad_same (s : State) (c : Nat) (f : LoadCh → LoadCh) : (s.updLoad c f).load c = f (s.load c) := by
  simp [State.load, State.updLoad]

theorem State.load_updLoad_ne (s : State) {c k : Nat} (f : LoadCh → LoadCh) (h : k ≠ c) : (s.updLoad c f).load k = s.load k := by
  simp [State.load, State.updLoad, Tab.get_put_ne _ _ _ h]

theorem State.psEvent_load (s : State) (n k : Nat) : (s.psEvent n).load k = s.load k := rfl

/-- A report changes no channel. -/
theorem State.loadReport_load (s0 s : State) (c : Nat) (b : Bool) (k : Nat) : (s0.loadReport s c b).load k = s.load k := by
  have pulse (t : State) : (t.loadPulse c).load k = t.load k := by
    simp [State.load, State.irqOnly_ps (t.loadPulse_irqOnly c)]
  have opt (p : Prop) [Decidable p] (t : State) (n : Nat) : (if p then (t.psEvent n).loadPulse c else t).load k = t.load k := by
    split
    · rw [pulse]; rfl
    · rfl
  have last (p : Prop) [Decidable p] (t : State) : (if p then t.loadPulse c else t).load k = t.load k := by
    split
    · exact pulse t
    · rfl
  unfold State.loadReport
  simp only
  split
  · rfl
  · split
    · split
      · rfl
      · split
        · rfl
        · simp [State.load, State.irqOnly_ps (State.groupMsi_irqOnly _ _)]; rfl
    · rw [last, opt, opt]

theorem State.partnerReport_load (s0 s : State) (c k : Nat) : (s0.partnerReport s c).load k = s.load k := by
  unfold State.partnerReport
  split <;> rfl

/-- The output of another channel stays. -/
theorem State.loadSwitch_load_ne (s : State) {c k : Nat} (h : k ≠ c) : (s.loadSwitch c).load k = s.load k := by
  have upd (t : State) (f : LoadCh → LoadCh) : (t.updLoad c f).load k = t.load k := State.load_updLoad_ne t f h
  have start : (s.loadStart c).load k = s.load k := by
    unfold State.loadStart
    split <;> exact upd s (fun ch => ch.switchOn s.now _)
  unfold State.loadSwitch
  split <;> split
  · exact start
  · rfl
  · rfl
  · exact upd s _

theorem State.loadDrive_load_ne (s : State) {c k : Nat} (h : k ≠ c) : (s.loadDrive c).load k = s.load k := by
  unfold State.loadDrive
  simp only
  split
  · rw [State.load_updLoad_ne _ _ h, State.loadSwitch_load_ne _ h]
  · exact s.loadSwitch_load_ne h

theorem State.dutyStep_load_ne (s0 s : State) {c k : Nat} (h : k ≠ c) : (s0.dutyStep s c).load k = s.load k := by
  unfold State.dutyStep
  split
  · rfl
  · exact s.load_updLoad_ne _ h

theorem State.loadStep_load_ne (s0 s : State) {c k : Nat} (b : Bool) (h : k ≠ c) : (s0.loadStep s c b).load k = s.load k := by
  unfold State.loadStep
  simp only
  rw [State.partnerReport_load, State.loadReport_load, State.loadDrive_load_ne _ h, State.dutyStep_load_ne _ _ h]

/-- A new DUTY brings no off state and lifts none. -/
theorem State.dutyStep_loadOff (s0 s : State) (c : Nat) : (s0.dutyStep s c).loadOff c = s.loadOff c := by
  unfold State.dutyStep
  split
  · rfl
  · simp only [State.loadOff, State.load_updLoad_same]; rfl

/-- A channel that an off state keeps off is off. -/
theorem State.loadSwitch_off (s : State) (c : Nat) (h : (s.loadOff c).isSome) : ((s.loadSwitch c).load c).drive = .off := by
  have h' : (s.loadOff c).isNone = false := by cases k : s.loadOff c <;> simp_all
  simp only [State.loadSwitch, h', Bool.false_and]
  split
  · contradiction
  · split
    · assumption
    · rw [State.load_updLoad_same]; rfl

theorem State.loadDrive_off (s : State) (c : Nat) (h : (s.loadOff c).isSome) : ((s.loadDrive c).load c).drive = .off := by
  unfold State.loadDrive
  simp only [s.loadSwitch_off c h, if_true, State.load_updLoad_same]
  exact s.loadSwitch_off c h

theorem State.loadStep_off (s0 s : State) (c : Nat) (b : Bool) (h : (s.loadOff c).isSome) :
    ((s0.loadStep s c b).load c).drive = .off := by
  unfold State.loadStep
  simp only
  rw [State.partnerReport_load, State.loadReport_load, State.loadDrive_off _ _ (by rw [State.dutyStep_loadOff]; exact h)]

theorem State.row1_psOnly {s t : State} (h : s.psOnly t) : t.row1 = s.row1 := by simp [State.row1, State.psOnly_supply h]

theorem State.loadOff_row1 (s : State) (c : Nat) (h : s.row1 = true) : s.loadOff c = some 7 := by simp [State.loadOff, h]

/-- Row 1 of R443 keeps every channel off. -/
theorem State.loadAll_row1 (s0 s : State) (h : s.row1 = true) (c : Nat) (hc : c < 60) : ((s0.loadAll s).load c).drive = .off := by
  have key (l : List Nat) : ∀ t : State, t.row1 = true → (c ∈ l ∨ (t.load c).drive = .off) →
      ((l.foldl (fun t c => s0.loadStep t c false) t).load c).drive = .off := by
    induction l with
    | nil => intro t _ h; simpa using h
    | cons k l ih =>
      intro t ht hk
      refine ih _ (by rw [State.row1_psOnly (State.loadStep_psOnly _ _ _ _)]; exact ht) ?_
      by_cases q : c = k
      · subst q
        exact Or.inr (State.loadStep_off _ _ _ _ (by rw [State.loadOff_row1 _ _ ht]; rfl))
      · rw [State.loadStep_load_ne _ _ _ q]
        rcases hk with hk | hk
        · simp [q] at hk; exact Or.inl hk
        · exact Or.inr hk
  exact key _ s h (Or.inl (by simpa using hc))

end Sys2Proof.Machine
end

