-- ==== Sys2Proof/Laws/Memory.lean ====
section
/-! SUPPORT. The cells of a memory: what dropping, placing and setting one do to the list's form and to what is read. -/

namespace Sys2Proof.Machine

open Sys2Proof

theorem cellDrop_sub (m : List Host.Cell) (a : Nat) : ∀ c ∈ cellDrop m a, c ∈ m ∧ c.1 ≠ a := by
  induction m with
  | nil => intro c h; exact absurd h (by simp [cellDrop])
  | cons x r ih =>
    obtain ⟨b, v⟩ := x
    intro c h
    unfold cellDrop at h
    split at h
    · exact ⟨List.mem_cons_of_mem _ (ih c h).1, (ih c h).2⟩
    · rename_i hb
      rcases List.mem_cons.mp h with rfl | h
      · exact ⟨List.mem_cons_self, hb⟩
      · exact ⟨List.mem_cons_of_mem _ (ih c h).1, (ih c h).2⟩

theorem cellDrop_rising {m : List Host.Cell} (a : Nat) (h : Memory.rising m) : Memory.rising (cellDrop m a) := by
  induction m with
  | nil => exact List.Pairwise.nil
  | cons x r ih =>
    obtain ⟨b, v⟩ := x
    have hr := List.pairwise_cons.mp h
    unfold cellDrop
    split
    · exact ih hr.2
    · exact List.pairwise_cons.mpr ⟨fun c hc => hr.1 c (cellDrop_sub r a c hc).1, ih hr.2⟩

theorem cellPlace_mem (m : List Host.Cell) (a : Nat) (v : Byte) : ∀ c ∈ cellPlace m a v, c = (a, v) ∨ c ∈ m := by
  induction m with
  | nil => intro c h; simpa [cellPlace] using h
  | cons x r ih =>
    obtain ⟨b, w⟩ := x
    intro c h
    unfold cellPlace at h
    split at h
    · exact (List.mem_cons.mp h).imp_right id
    · rcases List.mem_cons.mp h with rfl | h
      · exact .inr List.mem_cons_self
      · exact (ih c h).imp_right (List.mem_cons_of_mem _)

theorem cellPlace_rising {m : List Host.Cell} {a : Nat} (v : Byte) (h : Memory.rising m) (ha : ∀ c ∈ m, c.1 ≠ a) :
    Memory.rising (cellPlace m a v) := by
  induction m with
  | nil => exact List.pairwise_singleton _ _
  | cons x r ih =>
    obtain ⟨b, w⟩ := x
    have hr := List.pairwise_cons.mp h
    unfold cellPlace
    split
    · rename_i hab
      exact List.pairwise_cons.mpr ⟨fun c hc => by
        rcases List.mem_cons.mp hc with rfl | hc
        · exact hab
        · exact Nat.lt_trans hab (hr.1 c hc), h⟩
    · rename_i hab
      have hne : b ≠ a := ha (b, w) List.mem_cons_self
      exact List.pairwise_cons.mpr ⟨fun c hc => by
        rcases cellPlace_mem r a v c hc with rfl | hc
        · exact Nat.lt_of_le_of_ne (Nat.le_of_not_lt hab) hne
        · exact hr.1 c hc, ih hr.2 (fun c hc => ha c (List.mem_cons_of_mem _ hc))⟩

theorem cellSet_rising {m : List Host.Cell} (a : Nat) (v : Byte) (h : Memory.rising m) : Memory.rising (cellSet m a v) :=
  cellPlace_rising v (cellDrop_rising a h) (fun c hc => (cellDrop_sub m a c hc).2)

theorem cellDrop_wf {m : List Host.Cell} (a : Nat) (h : Memory.wf m) : Memory.wf (cellDrop m a) :=
  ⟨cellDrop_rising a h.1, List.all_eq_true.mpr (fun c hc => List.all_eq_true.mp h.2 c (cellDrop_sub m a c hc).1)⟩

theorem cellSet_wf {m : List Host.Cell} (a : Nat) {v : Byte} (hv : v ≠ 0) (h : Memory.wf m) : Memory.wf (cellSet m a v) := by
  refine ⟨cellSet_rising a v h.1, List.all_eq_true.mpr (fun c hc => ?_)⟩
  rcases cellPlace_mem _ a v c hc with rfl | hc
  · simpa using hv
  · exact List.all_eq_true.mp h.2 c (cellDrop_sub m a c hc).1

theorem cellAt_cellDrop (m : List Host.Cell) (a b : Nat) : cellAt (cellDrop m a) b = if b = a then none else cellAt m b := by
  induction m with
  | nil => simp [cellDrop, cellAt]
  | cons x r ih =>
    obtain ⟨c, v⟩ := x
    unfold cellDrop
    split
    · rename_i hc
      rw [ih]
      by_cases hb : b = a
      · simp [hb]
      · have : c ≠ b := fun h => hb (h ▸ hc)
        simp [hb, cellAt, this]
    · rename_i hc
      by_cases hb : c = b
      · have : b ≠ a := fun h => hc (hb.trans h)
        simp [cellAt, hb, this]
      · simp [cellAt, hb, ih]

theorem cellAt_cellPlace {m : List Host.Cell} (a : Nat) (v : Byte) (b : Nat) (ha : ∀ c ∈ m, c.1 ≠ a) :
    cellAt (cellPlace m a v) b = if b = a then some v else cellAt m b := by
  induction m with
  | nil => simp [cellPlace, cellAt, eq_comm]
  | cons x r ih =>
    obtain ⟨c, w⟩ := x
    have hc : c ≠ a := ha (c, w) List.mem_cons_self
    unfold cellPlace
    split
    · by_cases hb : b = a
      · simp [cellAt, hb]
      · simp [cellAt, hb, Ne.symm hb]
    · by_cases hb : c = b
      · have : b ≠ a := fun h => hc (hb.trans h)
        simp [cellAt, hb, this]
      · simp [cellAt, hb, ih (fun d hd => ha d (List.mem_cons_of_mem _ hd))]

/-- What a set cell reads as, and every other one. -/
theorem cellAt_cellSet (m : List Host.Cell) (a : Nat) (v : Byte) (b : Nat) :
    cellAt (cellSet m a v) b = if b = a then some v else cellAt m b := by
  rw [cellSet, cellAt_cellPlace a v b (fun c hc => (cellDrop_sub m a c hc).2), cellAt_cellDrop]
  split <;> rfl

/-! ### Operations of the state keep the canonical form -/

theorem State.setDram_memOk {s : State} (a : Nat) (v : Byte) (h : s.memOk) : (s.setDram a v).memOk :=
  ⟨cellSet_rising a v h.1, h.2⟩

theorem State.setSram_memOk {s : State} (a : Nat) (v : Byte) (h : s.memOk) : (s.setSram a v).memOk := by
  refine ⟨h.1, ?_⟩
  show Memory.wf (if v = 0 then cellDrop s.core.sram a else cellSet s.core.sram a v)
  split
  · exact cellDrop_wf a h.2
  · rename_i hv
    exact cellSet_wf a hv h.2

theorem State.setMem_memOk (l : List Byte) : ∀ {s : State} (a : Nat), s.memOk → (s.setMem a l).memOk := by
  induction l with
  | nil => intro s a h; exact h
  | cons b l ih =>
    intro s a h
    refine ih (a + 1) ?_
    split
    · exact State.setDram_memOk a b h
    · split
      · exact State.setSram_memOk a b h
      · exact h

theorem State.loseDram_memOk {s : State} (h : s.memOk) : s.loseDram.memOk := ⟨List.Pairwise.nil, h.2⟩

/-- Updates outside the core keep it. -/
theorem State.memOk_of_core {s t : State} (hd : t.core.dram = s.core.dram) (hs : t.core.sram = s.core.sram) (h : s.memOk) :
    t.memOk := by
  unfold State.memOk
  rw [hd, hs]
  exact h

theorem State.memOk_foldl {α : Type} (f : State → α → State) (hf : ∀ (t : State) a, t.memOk → (f t a).memOk) (l : List α)
    {s : State} (h : s.memOk) : (l.foldl f s).memOk := by
  induction l generalizing s with
  | nil => exact h
  | cons a l ih => exact ih (hf s a h)

end Sys2Proof.Machine
end

