-- ==== Sys2Proof/Tests/Slice0.lean ====
section
/-! SUPPORT. Own tests: ill-formed commands that WellFormed refuses, a state for every hypothesis of the statements, and a few worked
cases of the spec. -/

-- One theorem after the other: each waits for the kernel, and a worker thread for each at once would not fit in memory.
set_option Elab.async false

namespace Sys2Proof.Tests

open Sys2Proof Sys2Proof.Machine

/-! ### States -/

/-- A module in RUN on a 24 V net, with both feeds, every pair running and every port of the switch forwarding. -/
def running : State := {
  supply := {
    feedA := { closed := true }, feedB := { closed := true }, straps := { net := .v24 }, vbus := 24000, bankReady := true
    porHeld := false, faultLow := false }
  aon := { mode := .run, step := 8, startGood := true, startNo := 1 }
  core := { pairs := (List.range 8).map (fun p => (p, { st := .running, pass := true })), checkers := true }
  sw := { forwarding := true }
  ks := { st := .ready }
  ps := { delivered := true } }

/-- The accesses of Amind, which every target admits. -/
def byAmind : Attr := { init := 0x10, inst := 63, sec := true, qos := 3 }

/-- The accesses of the UFS host, here for instance 0. -/
def byUfs : Attr := { init := 0x68 }

/-- A request on a stall. -/
def asks (n : Nat) (op : U16) (h : U32) (p : List Byte) : Request :=
  { route := .stall n, opcode := op, seq := 1, handle := h, len := BitVec.ofNat 16 p.length, payload := p }

/-- A state in which a request waits on its stall. -/
def ask (s : State) (n : Nat) (rq : Request) : State := s.updStall n (fun t => { t with st := .queued, captured := some rq })

/-- The module with the whole of DRAM open to instance 0. -/
def withDram : State := running.onCore (fun c => { c with
  dramRegions := [(0, { base := 0x80000, limit := 0x47FFFF, en := true, nsR := true, nsW := true, sR := true, sW := true, mask := 1 })] })

/-- A command's request waits on a stall, every check in front of the command passes, and the command's own condition holds. -/
def asked (k : CmdSpec) (s : State) (p : List Byte) (valid : List Byte → Bool) (own : State → Bool) (h : U32 := 0) (n : Nat := 0)
    (retiring : Bool := false) : Bool :=
  let rq := asks n (BitVec.ofNat 16 k.op) h p
  decide ((ask s n rq).takes k rq valid retiring) && own ((ask s n rq).heard rq)

/-- A request as the tool of session slot k sends it. -/
def sealedBy (s : State) (k : Nat) (rq : Request) : Request :=
  let e : Envelope := { sid := (s.session k).id, counter := (s.session k).rx + 1 }
  { rq with route := .svc k, env := { e with tag := e.tagOf (Tab.get s.ks.sessKeys k {}).t2m rq.bytes } }

/-- Everything that a datagram of an open session needs beside its tag. -/
def hears (s : State) (k : Nat) : Bool :=
  !s.inService && s.turn (64 + k) && s.listens 21 && k < 2 && s.mgmt.amind.sessions.has k && !(s.session k).setup
    && (s.session k).rx.toNat < ((s.session k).rx + 1).toNat

theorem sealed_waits (s : State) (k : Nat) (rq : Request) (h : hears s k = true) : s.waits (sealedBy s k rq) = true := by
  simp only [hears, Bool.and_eq_true, decide_eq_true_eq, Bool.not_eq_true'] at h
  obtain ⟨⟨⟨⟨⟨⟨a, b⟩, c⟩, d⟩, e⟩, f⟩, g⟩ := h
  simp only [State.waits, sealedBy, Route.key, State.genuine, a, b, c, d, e, f, g, Bool.not_false, Bool.and_self, decide_true,
    Bool.true_and]
  simp [Envelope.tagOf, Envelope.nonce, Envelope.head, Request.bytes]

/-- A command's request waits in a datagram of session slot k: every check in front of the command passes but the tag's, which
`sealed_waits` settles, and the command's own condition holds. -/
def askedTool (c : CmdSpec) (s : State) (p : List Byte) (valid : List Byte → Bool) (own : State → Bool) (h : U32 := 0) (k : Nat := 0)
    (retiring : Bool := false) : Bool :=
  let rq := sealedBy s k (asks 0 (BitVec.ofNat 16 c.op) h p)
  hears s k && decide (s.amindUp = true ∧ rq.opcode.toNat = c.op ∧ rq.relayed = false ∧ s.answersBusy rq.route = false
    ∧ rq.headerOk = true ∧ s.replays rq = false ∧ rq.unknown = false ∧ (s.heard rq).precheck c rq valid retiring = .ok)
    && own (s.heard rq)

theorem askedTool_takes (c : CmdSpec) (s : State) (p : List Byte) (valid : List Byte → Bool) (own : State → Bool) (h : U32) (k : Nat)
    (retiring : Bool) (w : askedTool c s p valid own h k retiring = true) :
    s.takes c (sealedBy s k (asks 0 (BitVec.ofNat 16 c.op) h p)) valid retiring := by
  simp only [askedTool, Bool.and_eq_true, decide_eq_true_eq] at w
  exact ⟨sealed_waits s k _ w.1.1, w.1.2⟩

/-! ### A state for every hypothesis -/

theorem meets_EmptyQueueLetsTimePass :
    (State.reset.pending = [] ∧ State.reset.supply.porHeld = true)
    ∧ (running.pending = [] ∧ running.supply.porHeld = false ∧ running.core.waiting = [] ∧ running.linkFull = false) := by and_intros <;> decide +kernel

theorem meets_StepKeepsMemoryCanonical :
    (running.setDram dramBase 7).memOk ∧ step (running.setDram dramBase 7) = .next (running.setDram dramBase 7).tick :=
  ⟨by unfold State.memOk; decide +kernel, rfl⟩

theorem meets_CommandsKeepQueue : exec .ptpSyncTimeout { running with pending := [.policerRefill] } =
    .next { running with pending := [.policerRefill] } := rfl

theorem meets_CommandsCompleteOrNameAbsentUnits :
    (Instr.linkUp 25).wf = true ∧ (Instr.linkUp 26).request = none ∧ (Instr.linkUp 26).wf = false := by and_intros <;> decide +kernel

theorem meets_AnswersAndInterruptsFrame : 63 < 64 ∧ (asks 63 0x0101 0 []).route = .stall 63 := by and_intros <;> decide +kernel

/-- A request of stall 0 that its header, its sequence or its fields refuse. -/
def hello (seq : U16) (p : List Byte) : Request := { asks 0 0x0101 0 p with seq := seq }

theorem meets_ChecksInOrder :
    (let rq := hello 1 []
     let s := ask { running with sleep := { phase := 3 } } 0 rq
     s.waits rq = true ∧ s.amindUp = true ∧ rq.opcode.toNat = 0x0101 ∧ rq.unknown = false ∧ rq.relayed = false
      ∧ s.answersBusy rq.route = true)
    ∧ (let rq := hello 0 []
       let s := ask running 0 rq
       s.waits rq = true ∧ s.answersBusy rq.route = false ∧ rq.headerOk = false)
    ∧ (let rq := hello 1 []
       let s := ask (running.updRoute 0 (fun r => { r with lastSeq := 1 })) 0 rq
       s.waits rq = true ∧ s.answersBusy rq.route = false ∧ rq.headerOk = true ∧ s.replays rq = true)
    ∧ (let rq := hello 1 []
       let s := ask running 0 rq
       let k : CmdSpec := { op := 0x0101, who := [.sec] }
       s.waits rq = true ∧ s.replays rq = false ∧ s.issuerOk k rq = false
        ∧ (s.heard rq).precheck k rq (fun _ => true) false = .denied ∧ Status.denied ≠ .ok)
    ∧ (let rq := hello 1 []
       let s := ask { running with aon := { running.aon with mode := .safe } } 0 rq
       let k : CmdSpec := { op := 0x0101, who := [.mgr] }
       s.issuerOk k rq = true ∧ s.modeOk k rq.route = false)
    ∧ (let rq := hello 1 [0]
       let s := ask running 0 rq
       let k : CmdSpec := { op := 0x0101, who := [.mgr] }
       s.issuerOk k rq = true ∧ s.modeOk k rq.route = true ∧ List.isEmpty rq.payload = false)
    ∧ (let rq := hello 1 []
       let s := ask running 0 rq
       let k : CmdSpec := { op := 0x0101, who := [.mgr] }
       s.issuerOk k rq = true ∧ s.modeOk k rq.route = true ∧ rq.payload.length = rq.len.toNat ∧ List.isEmpty rq.payload = true) := by
  and_intros <;> decide +kernel

/-- The module with a full buffer of ledger entries. -/
def fullLedger : State := running.onMgmt (fun m => { m with ledger := { m.ledger with buffer := List.replicate 64 {} } })

theorem meets_LedgerEntriesMade :
    running.mgmt.ledger.buffer.length < 64 ∧ 64 ≤ fullLedger.mgmt.ledger.buffer.length := by and_intros <;> decide +kernel

theorem meets_FeedsCrankAndBank :
    (running.supply.feed false).closed = true
    ∧ (let s := running.onSupply (fun p => { p with feedB := { lost := true } })
       (s.supply.feed true).closed = false ∧ (s.supply.feed true).lost = true)
    ∧ (let s := running.onSupply (fun p => { p with feedA := { lost := true }, feedB := { lost := true } })
       s.supply.feedA.closed = false ∧ s.supply.feedB.closed = false ∧ (s.supply.feed true).lost = true)
    ∧ (running.supply.porHeld = false ∧ running.supply.holdup = false ∧ running.supply.crank = false
        ∧ (11999 : U16).toNat < 12000 ∧ running.supply.straps.net = .v24)
    ∧ (let s := running.onSupply (fun p => { p with crank := true })
       s.supply.crank = true ∧ s.supply.holdup = false ∧ 12500 ≤ (12500 : U16).toNat)
    ∧ (running.onSupply (fun p => { p with bankCharging := true })).supply.bankCharging = true := by and_intros <;> decide +kernel

theorem meets_SupplyLimits :
    (running.supply.porHeld = false ∧ running.supply.holdup = false ∧ 58000 < (58001 : U16).toNat)
    ∧ (let s := running.onSupply (fun p => { p with overvolt := true })
       s.supply.overvolt = true ∧ s.supply.holdup = false ∧ 12000 ≤ (58000 : U16).toNat ∧ (58000 : U16).toNat ≤ 58000)
    ∧ ((2 : Byte).toNat ≤ 2 ∧ running.supply.bankReady = true)
    ∧ ((5999 : U16).toNat < 6000 ∧ (running.onSupply (fun p => { p with bankReady := false })).supply.bankReady = false)
    ∧ (running.onSupply (fun p => { p with crank := true })).supply.crank = true
    ∧ (let s := running.onSupply (fun p => { p with holdup := true })
       s.supply.holdup = true ∧ s.supply.porHeld = false)
    ∧ (let s := State.reset.onSupply (fun p => { p with holdupWait := true, straps := { net := .v24 } })
       s.supply.holdupWait = true ∧ s.inFunctional 24000 = true) := by and_intros <;> decide +kernel

/-- A start that waits for VBUS. -/
def vbusWaits : State := running.onSupply (fun p => { p with vbusWait := true })

theorem meets_ResetSourcesAndStarts :
    (State.reset.supply.porHeld = true ∧ State.reset.supply.holdupWait = false)
    ∧ (running.supply.pinHeld = false ∧ running.supply.porHeld = false ∧ running.supply.holdup = false)
    ∧ (let s := State.reset.onSupply (fun p => { p with pinHeld := true })
       s.supply.pinHeld = true ∧ s.supply.holdup = false ∧ s.supply.porHeld = true)
    ∧ (running.onSupply (fun p => { p with rstReq := true })).supply.rstReq = true
    ∧ (running.onSupply (fun p => { p with partnerRst := true })).supply.partnerRst = true
    ∧ (running.onSupply (fun p => { p with holdup := true, pinHeld := true })).supply.holdup = true
    ∧ (let s := running.onSupply (fun p => { p with pinHeld := true })
       s.supply.pinHeld = true ∧ s.supply.holdup = false ∧ s.supply.porHeld = false ∧ s.supply.vbusWait = false
        ∧ s.aon.failedStarts.toNat < 3)
    ∧ (let s := vbusWaits.onAon (fun a => { a with failedStarts := 3, trial := true })
       s.supply.vbusWait = true ∧ s.supply.holdup = false ∧ s.inFunctional s.supply.vbus = true ∧ s.supply.pinHeld = false
        ∧ 3 ≤ s.aon.failedStarts.toNat ∧ s.aon.trial = true)
    ∧ (let s := vbusWaits.onAon (fun a => { a with failedStarts := 15 })
       s.supply.vbusWait = true ∧ 3 ≤ s.aon.failedStarts.toNat ∧ s.aon.trial = false) := by and_intros <;> decide +kernel

/-- A slot that may be loaded. -/
def goodSlot (t : SlotState) : Slot := { st := t, authentic := true, secver := 2 }

/-- A module in START with ACTIVE images in every target, past a step. -/
def starting (n : Nat) : State := { running with
  aon := { mode := .start, step := n }
  core := {}
  mgmt := { running.mgmt with targets := (List.range 4).map (fun k => (k, { slotA := goodSlot .active, minSec := 2 })) } }

/-- A trial of slot B of the stored configuration. -/
def onTrial (st : SlotState) : State := (starting 4).onMgmt (fun m => { m with
  targets := [(1, { slotA := goodSlot .active, slotB := goodSlot st, loaded := some true, onTrial := true, trial := true })] })

theorem meets_SlotsAndTrials :
    (((onTrial .pending).target 1).inState .pending = some true ∧ (((onTrial .pending).target 1).slot true).authentic = true
        ∧ (onTrial .pending).signerOk 1 (((onTrial .pending).target 1).slot true) = true
        ∧ ((onTrial .pending).target 1).minSec.toNat ≤ (((onTrial .pending).target 1).slot true).secver.toNat)
    ∧ (((starting 4).target 1).inState .pending = none ∧ ((starting 4).target 1).trial = false
        ∧ ((starting 4).target 1).inState .active = some false ∧ (((starting 4).target 1).slot false).authentic = true
        ∧ (starting 4).signerOk 1 (((starting 4).target 1).slot false) = true
        ∧ ((starting 4).target 1).minSec.toNat ≤ (((starting 4).target 1).slot false).secver.toNat)
    ∧ (((onTrial .failed).target 1).loaded = some true ∧ ((onTrial .failed).target 1).onTrial = true)
    ∧ (let s := (starting 4).onAon (fun a => { a with ownerKey := some [1] })
       (3 : Nat) ≠ 0 ∧ s.aon.ownerKey = some [1] ∧ ((s.target 3).slot false).signer ≠ [1]) := by and_intros <;> decide +kernel

theorem meets_StartSteps :
    (let s := starting 2
     s.aon.mode = .start ∧ s.aon.step = 2 ∧ s.supply.holdup = false ∧ (s.target 0).inState .pending = none ∧ (s.target 0).trial = false
      ∧ (s.target 0).inState .active = some false ∧ ((s.target 0).slot false).authentic = true
      ∧ (s.target 0).minSec.toNat ≤ ((s.target 0).slot false).secver.toNat ∧ s.ks.st ≠ .alarmed ∧ s.aon.cause.wake = false
      ∧ s.aon.recoveryAt3 = false ∧ s.aon.lifecycle ≠ 4 ∧ s.supply.straps.net ≠ .invalid)
    ∧ ((starting 2).onAon (fun a => { a with recoveryAt3 := true })).aon.recoveryAt3 = true
    ∧ (let s := starting 3
       s.aon.mode = .start ∧ s.aon.step = 3 ∧ s.supply.holdup = false ∧ 7 ∈ (if s.aon.target = .part then [0] else List.range 8)
        ∧ (s.pair 7).pass = false ∧ (s.pair 7).st ≠ .failed)
    ∧ (let s := starting 4
       s.aon.mode = .start ∧ s.aon.step = 4 ∧ s.supply.holdup = false ∧ s.cfgOk {} = true ∧ (s.target 1).inState .pending = none
        ∧ (s.target 1).trial = false ∧ (s.target 1).inState .active = some false ∧ ((s.target 1).slot false).authentic = true
        ∧ s.signerOk 1 ((s.target 1).slot false) = true ∧ (s.target 1).minSec.toNat ≤ ((s.target 1).slot false).secver.toNat)
    ∧ (let s := starting 5
       s.aon.mode = .start ∧ s.aon.step = 5 ∧ s.supply.holdup = false ∧ s.ks.st ≠ .alarmed ∧ s.mgmt.stored.manager = false
        ∧ (s.target 2).inState .pending = none ∧ (s.target 2).trial = false ∧ (s.target 2).inState .active = some false
        ∧ ((s.target 2).slot false).authentic = true ∧ s.signerOk 2 ((s.target 2).slot false) = true ∧ (s.target 2).minSec.toNat ≤ ((s.target 2).slot false).secver.toNat)
    ∧ (let s := (starting 5).onMgmt (fun m => { m with stored := { manager := true } })
       s.mgmt.stored.manager = true ∧ (s.target 3).inState .pending = none ∧ (s.target 3).trial = false
        ∧ (s.target 3).inState .active = some false ∧ ((s.target 3).slot false).authentic = true
        ∧ s.signerOk 3 ((s.target 3).slot false) = true ∧ (s.target 3).minSec.toNat ≤ ((s.target 3).slot false).secver.toNat)
    ∧ (let s := (starting 7).onMgmt (fun m => { m with stored := { manager := true } })
       s.aon.mode = .start ∧ s.aon.step = 7 ∧ s.supply.holdup = false ∧ (s.pair 0).st ≠ .failed ∧ s.aon.goodIssued = false
        ∧ s.mgmt.stored.manager = true)
    ∧ (let s := (starting 7).updPair 0 (fun p => { p with pass := true })
       (s.aon.target = .part → 0 = 0) ∧ (s.pair 0).st = .inReset ∧ (s.pair 0).pass = true) := by and_intros <;> decide +kernel

theorem meets_StartGoodAndTimeout :
    asked specStartGood (starting 5) [] (fun p => p = []) (fun u => u.aon.step ≠ 8)
    ∧ asked specStartGood (((starting 8).updPair 0 (fun p => { p with st := .running, pass := true })).updHart 0 (fun h =>
        { h with bootWait := true })) [] (fun p => p = []) (fun u => u.bootFailed = true)
    ∧ asked specStartGood (starting 8) [] (fun p => p = [])
        (fun u => u.aon.step = 8 ∧ u.aon.target = .run ∧ u.bootFailed = false ∧ u.sleep.falsePending = false)
    ∧ (let s := starting 2
       s.aon.mode = .start ∧ 2 ≤ s.aon.step ∧ s.supply.holdup = false ∧ s.supply.pinHeld = false ∧ s.supply.rstReq = false) := by
  and_intros <;> decide +kernel

/-- Requests for PARTIAL and for RUN that wait. -/
def toPart : State := running.onCore (fun c => { c with toPartial := some {} })
/-- A module in PARTIAL that is asked for RUN. -/
def toRun : State := { running with aon := { running.aon with mode := .part }, core := { running.core with toRun := some [] } }

theorem meets_ModeChanges :
    (toPart.core.toPartial = some {} ∧ ({} : PartialReq).deferred = false ∧ ({} : PartialReq).runAfter = [] ∧ toPart.aon.mode = .run
      ∧ 0x20 ∈ blockIds ∧ toPart.mgmt.stored.keepsBlock 0x20 = false ∧ (toPart.block 0x20).st ≠ .waking
      ∧ (toPart.block 0x20).wakeAfter = false ∧ (toPart.block 0x20).voteReq = [] ∧ toPart.votesOf 0x20 = 0)
    ∧ ((toPart.updBlock 0x5B (fun b => { b with st := .quiescing, votes := 1 })).block 0x5B).st = .quiescing
    ∧ ({ toPart.mgmt.stored with keepPorts := 1 } : StoredCfg).keepsBlock 0x40 = true
    ∧ (toRun.core.toRun = some [] ∧ toRun.aon.mode = .part ∧ toRun.supply.holdup = false)
    ∧ (let valid (p : List Byte) : Bool := p.length = 2 && u8At p 1 = 0 && (u8At p 0 = 2 || u8At p 0 = 3 || u8At p 0 = 4)
       asked (specModeRequest 4) running [4, 0] valid (fun u => u.supply.porHeld = false ∧ u.supply.pinHeld = false
          ∧ u.supply.holdup = false ∧ u.sleep.phase = 0 ∧ u.aon.mode = .run)
       ∧ asked (specModeRequest 2) { running with sleep := { phase := 1 } } [2, 0] valid (fun u => u.sleep.phase ≠ 0)
       ∧ asked (specModeRequest 2) { running with aon := { running.aon with mode := .part } } [2, 0] valid
          (fun u => u.sleep.phase = 0 ∧ u.core.toPartial = none ∧ u.aon.mode = .part)
       ∧ asked (specModeRequest 3) { running with aon := { running.aon with mode := .part } } [3, 0] valid
          (fun u => u.sleep.phase = 0 ∧ u.core.toPartial = none ∧ u.core.toRun = none ∧ u.aon.mode = .part)
       ∧ asked (specModeRequest 3) running [3, 0] valid (fun u => u.sleep.phase = 0 ∧ u.core.toPartial = none ∧ u.aon.mode = .run)
       ∧ asked (specModeRequest 2) (running.updBlock 0x20 (fun b => { b with votes := 1 })) [2, 0] valid
          (fun u => u.core.toPartial = none ∧ u.partialOff.any (fun b => decide (0 < u.votesOf b)) = true)
       ∧ asked (specModeRequest 2) running [2, 0] valid
          (fun u => u.core.toPartial = none ∧ u.partialOff.any (fun b => decide (0 < u.votesOf b)) = false
            ∧ 0x20 ∈ u.partialOff ∧ (u.block 0x20).st = .on)) := by
  and_intros <;> decide +kernel

theorem meets_SafeEntryAndLockstep :
    ((1600 : Int) < (1601 : U16).toInt ∧ running.supply.porHeld = false ∧ running.supply.pinHeld = false ∧ running.supply.holdup = false
      ∧ running.sleep.phase = 0 ∧ running.aon.mode = .run)
    ∧ ((running.pair 7).st = .running ∧ (running.pair 7).split = false ∧ 1 ≤ 7 ∧ 7 ≤ 7) := by and_intros <;> decide +kernel

/-- SAFE whose restart delay runs. -/
def safeDelays : State := running.onAon (fun a => { a with mode := .safe, safeDelay := true })

theorem meets_ResetRequests :
    asked specResetRequest running [] (fun p => p = []) (fun u => u.aon.mode ≠ .safe)
    ∧ asked specResetRequest safeDelays [] (fun p => p = []) (fun u => u.aon.mode = .safe)
    ∧ askedTool specRecoveryRelease ((running.onAon (fun a => { a with mode := .recovery })).onAmind (fun a => { a with
          sessions := [(0, { setup := false, roles := 0xFF })] })) [] (fun p => p = []) (fun _ => true)
    ∧ (safeDelays.aon.mode = .safe ∧ safeDelays.aon.safeDelay = true)
    ∧ (255 < 256 ∧ (1 : Byte).toNat ≤ 1 ∧ running.aon.mode = .run)
    ∧ (let s := running.onAon (fun a => { a with wdogRunning := true })
       s.aon.wdogRunning = true ∧ s.aon.mode ≠ .sleep ∧ s.supply.pinHeld = false ∧ s.supply.rstReq = false) := by
  and_intros <;> decide +kernel

/-- The module with pin 3 marked secure. -/
def securePin3 : State := running.onMgmt (fun m => { m with securePins := [3], claimed := [3] })

/-- The module with a load group of instance 0 over channel 3. -/
def withGroup (sec : Bool) : State := (running.hCreate 4 0 0 sec {} (0, 0, 0)).onPs (fun p => { p with groups := [(0, { mask := 8, sec := sec })] })

theorem meets_SecureWorldCommands :
    asked specCheckerLock running [] (fun p => p = []) (fun _ => true) 0 2
    ∧ asked specSecureClaim running [3] okPin (fun u => u.pinCovered 3 false = false ∧ u.pinRuled 3 = false) 0 2
    ∧ asked specSecureClaim (withGroup false) [3] okPin (fun u => u.pinCovered 3 false = true) 0 2
    ∧ asked specSecureRelease securePin3 [3] okPin (fun u => u.pinCovered 3 true = false) 0 2
    ∧ asked specSecureRelease (withGroup true) [3] okPin (fun u => u.pinCovered 3 true = true) 0 2 := by and_intros <;> decide +kernel

/-- A block in a state, with keep-votes. -/
def blockIn (b : Nat) (st : BlkState) (votes : Nat) : State := running.updBlock b (fun x => { x with st := st, votes := votes })

/-- A live interrupt binding on CAN channel 0 that keeps its block on. -/
def setOn0 : State := (running.hCreate 2 0 0 false {} (0, 0, 0)).onBus (fun b => { b with sets := [(0, { count := 1 })] })

theorem meets_PowerBlocks :
    asked specBlockPower running [0x20, 0] okBlockPower
      (fun u => (u.block 0x20).st = .on ∧ u.liveOn 0x20 false = 0 ∧ u.votesOf 0x20 = 0)
    ∧ asked specBlockPower (blockIn 0x20 .on 1) [0x20, 0] okBlockPower
        (fun u => (u.block 0x20).st = .on ∧ u.liveOn 0x20 false = 0 ∧ 0 < u.votesOf 0x20)
    ∧ asked specBlockPower setOn0 [0x20, 0] okBlockPower (fun u => (u.block 0x20).st ≠ .off ∧ 0 < u.liveOn 0x20 false)
    ∧ asked specBlockPower (blockIn 0x20 .off 0) [0x20, 0] okBlockPower (fun u => (u.block 0x20).st = .off)
    ∧ asked specBlockPower running [0x20, 1] okBlockPower (fun u => (u.block 0x20).st = .on)
    ∧ asked specBlockPower (blockIn 0x20 .off 0) [0x20, 1] okBlockPower (fun u => (u.block 0x20).st = .off)
    ∧ asked specKeepVote running [0x20] okBlock (fun u => (u.block 0x20).votes < 255 ∧ (u.block 0x20).st = .on) 0 2
    ∧ asked specKeepVote (blockIn 0x20 .on 255) [0x20] okBlock (fun u => 255 ≤ (u.block 0x20).votes) 0 2
    ∧ asked specKeepVote (blockIn 0x20 .off 0) [0x20] okBlock (fun u => (u.block 0x20).votes < 255 ∧ (u.block 0x20).st = .off) 0 2
    ∧ asked specKeepRelease (blockIn 0x20 .on 1) [0x20] okBlock
        (fun u => 0 < (u.block 0x20).votes ∧ (u.block 0x20).st = .on ∧ u.core.toPartial = none) 0 2
    ∧ asked specKeepRelease running [0x20] okBlock (fun u => (u.block 0x20).votes = 0) 0 2
    ∧ asked specBlockStatus running [0x20] okBlock (fun _ => true)
    ∧ (0x70 ∈ blockIds ∧ ((blockIn 0x70 .quiescing 0).block 0x70).st = .quiescing ∧ 0x20 ∈ blockIds
        ∧ 0 < ((blockIn 0x20 .quiescing 1).block 0x20).votes ∧ 5 ∉ [4])
    ∧ (0x61 ∈ blockIds ∧ ((blockIn 0x61 .quiescing 0).block 0x61).st = .quiescing ∧ ((blockIn 0x61 .quiescing 0).block 0x61).wakeAfter = false
        ∧ (blockIn 0x61 .quiescing 0).votesOf 0x61 = 0
        ∧ ((blockIn 0x61 .quiescing 0).block 0x61).voteReq = [])
    ∧ ((blockIn 0x61 .quiescing 0).updBlock 0x61 (fun b => { b with wakeAfter := true })).votesOf 0x61 = 0
    ∧ (0x01 ∈ blockIds ∧ ((blockIn 0x01 .waking 0).block 0x01).st = .waking ∧ ((blockIn 0x01 .waking 0).block 0x01).offHeld = false) := by
  and_intros <;> decide +kernel

theorem meets_HealthAndSafety :
    (1450 ≤ (1450 : U16).toInt ∧ (1399 : U16).toInt < 1400 ∧ 850 ≤ (850 : U16).toInt ∧ (799 : U16).toInt < 800 ∧ running.powered = true
        ∧ running.amindUp = true ∧ (starting 2).powered = true ∧ (starting 2).amindUp = false)
    ∧ asked specHealthQuery running [] (fun p => p = []) (fun _ => true)
    ∧ asked specSafetyStatus running [] (fun p => p = []) (fun _ => true) := by and_intros <;> decide +kernel

/-- The module with committed and buffered entries of the ledger. -/
def ledgered : State := running.onMgmt (fun m => { m with
  ledger := { m.ledger with
    buffer := [{ seq := 9, event := 0x0101 }], stored := [{ seq := 7, event := 0x0101 }, { seq := 8, event := 0x0201 }]
    dropped := [(0x0101, 3)] }
  readers := [(0, { mask := 2, next := 7 })] })

/-- A reader of instance 0. -/
def withReader : State := ledgered.hCreate 0x0C 0 0 false {} (0, 1, 0)

theorem meets_LedgerAndReaders :
    (ledgered.mgmt.ledger.buffer = [{ seq := 9, event := 0x0101 }] ∧ ledgered.supply.porHeld = false ∧ ledgered.mgmt.ledger.aonDropped = [])
    ∧ (ledgered.aon.mode = .run ∧ ledgered.mgmt.ledger.stored.length + ledgered.mgmt.ledger.buffer.length ≤ 524288)
    ∧ crc32 ({ seq := 9, check := 5 } : LedgerEntry).body ≠ ({ seq := 9, check := 5 } : LedgerEntry).check
    ∧ (running.mgmt.ledger.dropped = [] ∧ ledgered.mgmt.ledger.dropped = [(0x0101, 3)])
    ∧ asked specLedgerReaderCreate ledgered (leBytes 8 2 ++ leBytes 8 1) (fun p => p.length = 16 && u32At p 4 = 0)
        (fun u => u.firstFree 0x0C 16 = some 0 ∧ u.roomFor 0x0C 0 0 false 1 0 = true)
    ∧ asked specLedgerRead withReader [1, 0, 0, 0] (fun p => p.length = 4 && u16At p 2 = 0 && 1 ≤ u16At p 0 && u16At p 0 ≤ 31)
        (fun u => (Tab.get u.mgmt.readers 0 {}).session = none ∧ u.mgmt.ledger.oldest ≤ (Tab.get u.mgmt.readers 0 {}).next.toNat)
        (mkHandle 0x0C 0 (ledgered.genOf 0x0C 0) 0) := by and_intros <;> decide +kernel

/-- An image that is staged by stall 0. -/
def staged (commit : Option (Bool × U16)) : State := running.onMgmt (fun m => { m with staging := some { size := 4, got := 4, commit := commit } })

/-- A staged image for a target, with a header that declares issue B2 and security version 2, and no payload. -/
def image (target : Byte) : Staging := {
  target := target.toNat, size := 3597, got := 3597, commit := some (false, 1)
  bytes := leBytes 4 0x5357524D ++ [1, 0, target, 1, 0x42, 0x32, 0, 0, 0, 0, 0, 0] ++ leBytes 4 7 ++ leBytes 4 2 }

/-- The module in a life-cycle state. -/
def inLife (b : BitVec 3) : State := running.onAon (fun a => { a with lifecycle := b })

/-- A module with a tool of every role in session slot 0. -/
def tooled (b : BitVec 3) : State := (inLife b).onAmind (fun a => { a with sessions := [(0, { setup := false, roles := 0xFF })] })

/-- The payload check of LIFECYCLE_SET. -/
def okLife (p : List Byte) : Bool := p.length = 100 && u8At p 1 = 0 && u16At p 2 = 0
/-- The payload check of DEBUG_OPEN. -/
def okDebug (p : List Byte) : Bool := p.length = 1 && u8At p 0 ≤ 1

theorem meets_UpdatesAndLifeCycle :
    asked specUpdateBegin running (leBytes 4 1 ++ leBytes 4 4) (fun p => p.length = 8 && u8At p 0 ≤ 3 && u8At p 1 = 0 && u16At p 2 = 0)
      (fun u => u.aon.bootRom = false ∧ u.mgmt.staging = none ∧ ((u.target 1).slot (u.target 1).inactive).st ≠ .pending ∧ 4 ≤ slotSize 1)
    ∧ asked ((staged none).specUpdate 0x0821 (asks 0 0x0821 0 [])) (staged none) (leBytes 4 4 ++ [1]) (fun p => 4 ≤ p.length)
        (fun u => u.mgmt.staging = some { size := 4, got := 4 } ∧ u32At (leBytes 4 4 ++ [1]) 0 = 4)
    ∧ asked ((staged none).specUpdate 0x0821 (asks 0 0x0821 0 [])) (staged none) (leBytes 4 5) (fun p => 4 ≤ p.length) (fun _ => true)
    ∧ asked ((staged none).specUpdate 0x0822 (asks 0 0x0822 0 [])) (staged none) [0, 0]
        (fun p => p.length = 2 && u8At p 0 ≤ 1 && u8At p 1 = 0) (fun u => u.mgmt.staging = some { size := 4, got := 4 })
    ∧ ((staged (some (false, 1))).mgmt.staging = some { size := 4, got := 4, commit := some (false, 1) } ∧ running.aon.mode = .run
        ∧ ({ size := 4, got := 4 } : Staging).headerOk = false)
    ∧ ((image 1).got = (image 1).size ∧ (image 1).headerOk = true ∧ (image 1).declaresB2 = true ∧ (image 1).target = 1
        ∧ (image 0).headerOk = true ∧ (running.target 1).minSec.toNat ≤ u32At (image 1).bytes 20
        ∧ (image 1).declaresB2 = true ∧ (StoredCfg.securePins {}).all pinCode = true ∧ running.cfgOk {} = true
        ∧ running.mgmt.svcNewB = false)
    ∧ (let s := running.onAon (fun a => { a with ownerKey := some [1] })
       (image 1).target ≠ 0 ∧ s.aon.ownerKey = some [1] ∧ ((image 1).bytes.drop 80).take 48 ≠ [1] ∧ s.authentic (image 1) [] [] = false)
    ∧ running.ownerSlot = none
    ∧ asked ((staged none).specUpdate 0x0823 (asks 0 0x0823 0 [])) (staged none) [] (fun p => p = [])
        (fun u => u.mgmt.staging = some { size := 4, got := 4 })
    ∧ askedTool specLifecycleSet (tooled 2) (1 :: List.replicate 99 0) okLife
        (fun u => (u.aon.lifecycle.toNat, 1) ∉ [(0, 1), (0, 2), (0, 4), (1, 2), (1, 4), (2, 3), (2, 4), (3, 2), (3, 4)])
    ∧ askedTool specLifecycleSet (tooled 1) (2 :: List.replicate 99 0) okLife (fun u => u.aon.lifePending = none)
    ∧ ((inLife 2).onAon (fun a => { a with lifePending := some (4, 0, 1) })).aon.lifePending = some (4, 0, 1)
    ∧ askedTool (tooled 3).specDebugOpen (tooled 3) [1] okDebug (fun u => u.core.dbg.opened = none)
    ∧ askedTool ((tooled 3).onDbg (fun d => { d with opened := some 64 })).specDebugOpen
        ((tooled 3).onDbg (fun d => { d with opened := some 64 })) [0] okDebug (fun u => u.core.dbg.opened ≠ none) := by
  and_intros <;> decide +kernel

/-- A timer of instance 0 that is armed and due. -/
def dueTimer (periodic : Bool) : State := { running.hCreate 0x0B 0 0 false {} (0, 1, 0) with
  timers := [(0, { cmp := 10, arm := true, periodic := periodic, period := 8 })], tb := { localT := 100 } }

theorem meets_TimeBaseAndComparators :
    (running.fabricUp = true ∧ running.sends byAmind ∧ running.verdict byAmind 0x16000000 4 true false = .ok ∧ running.verdict byAmind 0x16000008 4 true false = .ok
      ∧ running.portFree .read { attr := byAmind, addr := 0x16000000 } ∧ running.portFree .read { attr := byAmind, addr := 0x16000008 })
    ∧ (((dueTimer false).timer 0).arm = true ∧ (dueTimer false).timerOff 0 = false
        ∧ ((dueTimer false).timer 0).cmp.toNat ≤ (dueTimer false).tb.localT.toNat)
    ∧ (((dueTimer true).timer 0).periodic = true ∧ (dueTimer true).timerOff 0 = false ∧ 8 ≤ ((dueTimer true).timer 0).period.toNat)
    ∧ ((dueTimer true).verdict byAmind 0x16100008 4 false true = .ok ∧ (dueTimer true).timerReset 0 = false ∧ (leBytes 4 9).length = 4
        ∧ (dueTimer true).portFree .write { attr := byAmind, addr := 0x16100008, data := leBytes 4 9 }
        ∧ (dueTimer true).sends byAmind ∧ (dueTimer true).due 0 = true ∧ running.due 0 = false ∧ running.timerOff 0 = false)
    ∧ asked specTimerCreate running [0, 0, 1, 0] (fun p => p.length = 4 && running.bindOk (bindAt p 0) 0 false 0)
        (fun u => u.fnOffFor 0 false 0x0D 0 = false ∧ u.firstFree 0x0B 64 = some 0 ∧ u.roomFor 0x0B 0 0 false 1 0 = true) := by
  and_intros <;> decide +kernel

/-- Hart 7 as a state of the running module has it. -/
def hartIn (f : Hart → Hart) : State := running.updHart 7 f

/-- Hart 7 in normal-world S-mode with calls enabled, and a call target in open secure SRAM at 0x01000010. -/
def caller (f : Hart → Hart) : State :=
  ((hartIn (fun h => f { h with
    world := false, priv := 1, tollen := true, tollBase := 0x100000, tollLimit := 0x11FFFF, x := [(10, 0x01000010)] })).setMem 0x01000010
    [0xDE, 0xC0, 0x17, 0x5A]).onCore (fun c => { c with
      sramRegions := [(0, { base := 0x1000, limit := 0x11FF, en := true, sR := true, sW := true })] })

/-- The word of TOLL with the register x10, of TOLLRET, and of neither. -/
def tollX10 : U32 := 0x0005000B
/-- TOLLRET. -/
def tollretWord : U32 := 0x0000100B

theorem meets_TollPerformed :
    (7 < 8 ∧ tollX10.extractLsb' 0 7 = 0x0B ∧ decodeCustom0 tollX10 = .toll 10 ∧ ((caller id).hart 7).xReg 10 = 0x01000010
      ∧ ((caller id).pair 7).st = .running ∧ ((caller id).hart 7).bootWait = false ∧ ((caller id).hart 7).virt = false
      ∧ ((caller id).hart 7).world = false ∧ ((caller id).hart 7).priv = 1 ∧ ((caller id).hart 7).tollAdmits 0x01000010 = true
      ∧ ((caller id).markerFetch 7 0x01000010).2 = some 0x5A17C0DE)
    ∧ ((caller (fun h => { h with tollen := false })).hart 7).tollAdmits 0x01000010 = false
    ∧ (((caller id).hart 7).tollAdmits 0x01000011 = false ∧ ((caller id).hart 7).tollAdmits 0x00FFFFF0 = false
        ∧ ((caller id).hart 7).tollAdmits 0x01200000 = false ∧ ((caller id).markerFetch 7 0x01000020).2 ≠ some 0x5A17C0DE)
    ∧ (target 0x01000010 < 0x03 ∧ (caller id).verdict (secureAttr 7) 0x01000010 4 true false = .ok)
    ∧ (((caller id).hart 7).csrAt 0x302).getLsbD 24 = false
    ∧ (((caller (fun h => { h with csr := [(0x302, 0x1000000)] })).hart 7).csrAt 0x302).getLsbD 24 = true := by and_intros <;> decide +kernel

theorem meets_RefusalsAndReturns :
    (let s := hartIn (fun h => { h with priv := 1, tollActive := true })
     (s.pair 7).st = .running ∧ (s.hart 7).bootWait = false ∧ (s.hart 7).virt = false ∧ (s.hart 7).world = true ∧ (s.hart 7).priv = 1
      ∧ (s.hart 7).tollActive = true ∧ (s.pair 7).haltReq = false)
    ∧ ((hartIn (fun h => { h with virt := true })).hart 7).virt = true
    ∧ (decodeCustom0 tollretWord = .tollret ∧ decodeCustom0 0x0000200B = .illegal ∧ (0x0000200B : U32).extractLsb' 0 7 = 0x0B)
    ∧ ((running.hart 7).virt = false ∧ (running.hart 7).world = true ∧ (running.hart 7).priv ≠ 1)
    ∧ ((running.hart 7).priv = 3 ∧ (running.hart 7).mpw = true ∧ (running.pair 7).haltReq = false)
    ∧ (let s := hartIn (fun h => { h with mpw := false, mpp := 3 })
       (s.hart 7).priv = 3 ∧ (s.hart 7).mpw = false ∧ (s.hart 7).mpp = 3)
    ∧ (let s := hartIn (fun h => { h with priv := 1 })
       (s.hart 7).priv ≠ 3 ∧ (s.hart 7).priv = 1 ∧ (s.hart 7).virt = false ∧ ((s.hart 7).csrAt 0x300).getLsbD 22 = false)
    ∧ ((hartIn (fun h => { h with priv := 0 })).hart 7).priv = 0 := by and_intros <;> decide +kernel

theorem meets_TrapsEnter :
    ((63 : U64).toNat < 64 ∧ (running.pair 7).st = .running ∧ (running.hart 7).bootWait = false ∧ (running.hart 7).priv = 3)
    ∧ (let s := hartIn (fun h => { h with world := false, priv := 0, csr := [(0x302, 0x100)] })
       (s.hart 7).priv ≠ 3 ∧ ((s.hart 7).csrAt 0x302).getLsbD 8 = true ∧ (s.hart 7).virt = false ∧ (s.hart 7).world = false) := by
  and_intros <;> decide +kernel

theorem meets_InterruptsFencesAndCaches :
    ((hartIn (fun h => { h with mtimecmp := 0 })).hart 7).mtimecmp.toNat ≤ running.tb.localT.toNat
    ∧ (let s := hartIn (fun h => { h with mtip := true, world := false, priv := 1, csr := [(0x304, 0x80)] })
       (s.pair 7).st = .running ∧ (s.hart 7).bootWait = false ∧ (s.hart 7).mtip = true ∧ ((s.hart 7).csrAt 0x304).getLsbD 7 = true
        ∧ (s.hart 7).world = false ∧ (s.hart 7).priv ≠ 3 ∧ s.takeSecure 7 11 = none)
    ∧ ((running.hart 7).world = true ∧ 13 ∈ [2, 6, 9, 10, 12, 13])
    ∧ ((running.hart 7).outstanding = 0 ∧ ((hartIn (fun h => { h with outstanding := 1 })).hart 7).outstanding ≠ 0 ∧ (running.hart 7).priv = 3)
    ∧ ((running.hart 7).world = true ∧ (running.hart 7).scount = false ∧ ((hartIn (fun h => { h with scount := true })).hart 7).scount = true
        ∧ ((running.hart 7).csrAt 0x320).getLsbD 2 = false ∧ ((hartIn (fun h => { h with priv := 1 })).hart 7).priv ≠ 3)
    ∧ (1 < 2 ∧ (running.cluster 1).poison.contains 5 = false)
    ∧ ((running.updCluster 0 (fun c => { c with poison := [5] })).cluster 0).poison.contains
        (({ virt := 0xFFFF000000000140, line := 0x140 } : PoisonUse).line.toNat / 64) = true := by
  and_intros <;> decide +kernel

/-- Pair 7 in debug mode of a module in DEVELOP. -/
def halted : State := { running with aon := { running.aon with lifecycle := 1 } }.updPair 7 (fun p => { p with st := .halted, split := true })

/-- The module in DEVELOP. -/
def develop : State := running.onAon (fun a => { a with lifecycle := 1 })

/-- Open secure SRAM in DEVELOP. -/
def openSram : State := develop.onCore (fun c => { c with
  sramRegions := [(0, { base := 0x1000, limit := 0x11FF, en := true, sR := true, sW := true })] })

/-- The link is in full operation, and range 0 opens all of DRAM to the partner. -/
def linked : State := withDram.onPass (fun p => { p with paired := true, link := .up, lanes := 15, partner := .alive, ranges := [(0, (0x80000, 0x47FFFF))] })

/-- A read by the partner. -/
def farRead (a : A40) : Xact := { addr := a, size := 4 }

theorem meets_DebugAndPartner :
    (develop.aon.lifecycle = 1 ∧ (develop.pair 7).st = .running ∧ (develop.pair 7).split = false
      ∧ (develop.hart 7).dcsrBit .request = true ∧ (develop.hart 7).dcsrBit .ebreak = false)
    ∧ (develop.onDbg (fun d => { d with cmderr := 4 })).core.dbg.cmderr ≠ 0
    ∧ (let s := develop.updPair 7 (fun p => { p with split := true })
       (s.pair 7).st = .running ∧ (s.pair 7).split = true)
    ∧ (halted.aon.lifecycle = 1 ∧ (halted.pair 7).st = .halted ∧ halted.core.dbg.cmderr = 0)
    ∧ (openSram.fabricUp = true ∧ 8 ∈ [1, 2, 4, 8] ∧ (0x011FFFF8 : U64).toNat % 8 = 0 ∧ sramBase ≤ (0x011FFFF8 : U64).toNat
        ∧ (0x011FFFF8 : U64).toNat < sramEnd ∧ openSram.core.dbg.sbError = 0 ∧ openSram.core.dbg.sbBusyErr = false ∧ openSram.core.dbg.sbBusy = false
        ∧ openSram.passesAtOnce .read { attr := { init := 0x18, sec := true, qos := 3 }, addr := 0x011FFFF8, size := 8 } 8
        ∧ openSram.verdict { init := 0x18, sec := true, qos := 3 } 0x011FFFF8 8 true false = .ok)
    ∧ (linked.linkFull = true ∧ linked.fabricUp = true ∧ (farRead 0x80000000).attr.inst ≠ 63 ∧ (farRead 0x80000000).fits 4 = true
        ∧ linked.pass.ranges.any (fun r => r.2.1 ≤ 0x80000 && 0x80000 ≤ r.2.2) = true
        ∧ linked.passesAtOnce .read { farRead 0x80000000 with attr := { init := 0x60 } } 4
        ∧ linked.verdict { init := 0x60 } 0x80000000 4 true false = .ok)
    ∧ ((0x11000000 : A40).toNat < 0x1000000000
        ∧ linked.pass.ranges.any (fun r => r.2.1 ≤ 0x11000 && 0x11000 ≤ r.2.2) = false) := by and_intros <;> decide +kernel

/-- A transaction of the UFS host for instance 0 at an address. -/
def at_ (a : A40) (d : List Byte) : Xact := { attr := byUfs, addr := a, size := 4, data := d }

/-- The module with a reservation of hart 7 on the first line of DRAM. -/
def reserved : State := withDram.updHart 7 (fun h => { h with resv := some (dramBase / 64) })

theorem meets_FabricMemory :
    (withDram.sends byUfs ∧ withDram.passesAtOnce .read (at_ 0x80000000 []) 4 ∧ (at_ 0x80000000 []).misaligned 4 = false
      ∧ dramBase ≤ (0x80000000 : A40).toNat ∧ (0x80000000 : A40).toNat < dramEnd
      ∧ withDram.verdict byUfs 0x80000000 4 true false = .ok)
    ∧ (withDram.passesAtOnce .write (at_ 0x80000000 [1, 2, 3, 4]) 4 ∧ withDram.winPosted (at_ 0x80000000 [1, 2, 3, 4]) = false
        ∧ withDram.verdict byUfs 0x80000000 4 false true = .ok)
    ∧ ((reserved.hart 7).resv = some (dramBase / 64))
    ∧ (running.sends { byUfs with inst := 9 } ∧ running.verdict { byUfs with inst := 9 } 0x16000000 4 true false = .aerr ∧ Resp.aerr ≠ .ok
        ∧ running.passesAtOnce .read { at_ 0x16000000 [] with attr := { byUfs with inst := 9 } } 4)
    ∧ (let s := withDram.updHart 7 (fun h => { h with world := false })
       let x : Xact := { attr := { init := 7 }, addr := 0x80000FFE, size := 4 }
       s.sends x.attr ∧ x.misaligned 4 = true ∧ s.hartRuns 7 = true)
    ∧ (running.core.fabErr.valid = false ∧ (running.capture byUfs 0 false .derr).core.fabErr.valid = true)
    ∧ (withDram.passesAtOnce .amo (at_ 0x80000000 [1, 2, 3, 4]) 4 ∧ (0x80000000 : A40).toNat % 4 = 0 ∧ (at_ 0x80000000 [1, 2, 3, 4]).data.length = 4
        ∧ withDram.poisonKeeps 0x80000000 = false ∧ withDram.verdict byUfs 0x80000000 4 true true = .ok)
    ∧ (withDram.sends (secureAttr 7) ∧ withDram.passesAtOnce .lr { at_ 0x80000000 [] with attr := secureAttr 7 } 4
        ∧ withDram.verdict (secureAttr 7) 0x80000000 4 true false = .ok)
    ∧ (withDram.passesAtOnce .sc { at_ 0x80000000 [1, 2, 3, 4] with attr := secureAttr 7 } 4
        ∧ withDram.verdict (secureAttr 7) 0x80000000 4 true true = .ok ∧ (withDram.hart 7).resv ≠ some (dramBase / 64)
        ∧ (reserved.hart 7).resv = some ((0x80000000 : A40).toNat / 64))
    ∧ (reserved.hartRuns 7 = true ∧ (withDram.updHart 7 (fun h => { h with bootWait := true })).hartRuns 7 = false) := by and_intros <;> decide +kernel

/-- The module with a regulator of instance 1 in force, and a pending change. -/
def regulated (ceil : U16) (bucket : Nat) : State := withDram.onCore (fun c => { c with
  regs := [(1, { en := true, ceil := ceil, ceilBucket := bucket, guarBucket := 16, next := some (true, 1, 2, 3, 4) })] })

/-- An access of instance 1. -/
def inst1 : Attr := { init := 0x20, inst := 1, qos := 1 }

theorem meets_Regulators :
    ((regulated 0xFFFF 0).metered inst1 0x80000000 = true ∧ ((regulated 0xFFFF 0).reg 1).ceil = 0xFFFF)
    ∧ ((regulated 5 32).metered inst1 0x80000000 = true ∧ 32 ≤ ((regulated 5 32).reg 1).ceilBucket)
    ∧ (((regulated 5 15).reg 1).ceil ≠ 0xFFFF ∧ ((regulated 5 15).reg 1).ceilBucket < 16)
    ∧ (inDram 0x16000000 = false ∧ byAmind.sec = true)
    ∧ (withDram.fabricUp = true ∧ withDram.core.waiting = [] ∧ (withDram.reg 1).next = none
        ∧ ((regulated 5 15).reg 1).next = some (true, 1, 2, 3, 4)) := by and_intros <;> decide +kernel

/-- Transactions that wait at DRAM. -/
def queue3 : List Waiting := [{ withheld := true, x := { attr := byUfs } }, { cls := 1 }, { cls := 2, x := { addr := 0x80000000 } }]

theorem meets_ArbitrationOrder :
    (nextWaiting queue3 = some (2, { cls := 2, x := { addr := 0x80000000 } }) ∧ nextWaiting [{ withheld := true }] = none
      ∧ ([{ withheld := true }, { cls := 2 }] : List Waiting)[1]? = some { cls := 2 } ∧ nextWaiting [{ withheld := true }, { cls := 2 }] = none)
    ∧ (let s := running.onCore (fun c => { c with waiting := queue3 })
       s.core.waiting[1]? = some { cls := 1 } ∧ (1 : BitVec 2).toNat < 2 ∧ s.core.waiting[2]? = some { cls := 2, x := { addr := 0x80000000 } } ∧ 2 ≤ (2 : BitVec 2).toNat) := by
  and_intros <;> decide +kernel

/-- A doorbell write of Amind's stamp. -/
def amindAt (a : A40) (d : List Byte) : Xact := { attr := byAmind, addr := a, data := d }

/-- A ring of instance 0, with its handle. -/
def withRing : State := (running.hCreate 6 0 0 false {} (0, 1, 0)).updRing 0 (fun _ => { depth := 16, enabled := true, run := true })

theorem meets_RegisterAccesses :
    (let x := amindAt 0x1613F000 [1, 0, 0, 0]
     running.fabricUp = true ∧ running.sends x.attr ∧ running.passesAtOnce .write x x.data.length ∧ x.misaligned x.data.length = false
      ∧ running.winPosted x = false ∧ target x.addr.toNat ∈ [0x03, 0x05, 0x06, 0x07, 0x08, 0x09, 0x0A, 0x0B, 0x0C, 0x0D, 0x0E]
      ∧ running.due 63 = false ∧ running.verdict x.attr x.addr.toNat 4 false true = .ok ∧ (running.regsWrite x.attr x.addr.toNat x.data).2 = .ok
      ∧ x.data.length = 4 ∧ x.addr.toNat = 0x16100000 + 63 * 0x1000)
    ∧ (let x := amindAt 0x1613F000 (leBytes 8 0x123456789)
       running.sends x.attr ∧ running.passesAtOnce .write x 8 ∧ x.data.length = 8 ∧ x.addr.toNat = 0x16100000 + 63 * 0x1000
        ∧ running.verdict x.attr (0x16100000 + 63 * 0x1000) 8 false true = .ok)
    ∧ (running.passesAtOnce .posted (amindAt 0x02107000 (leBytes 4 255)) 4 ∧ (0x02107000 : A40).toNat = 0x02100000 + 7 * 0x1000 ∧ running.verdict byAmind (0x02100000 + 7 * 0x1000) 4 false true = .ok
        ∧ running.hartUp 7 = true ∧ running.sends (amindAt 0x02107000 (leBytes 4 255)).attr)
    ∧ ((running.pair 7).st = .running ∧ (running.hart 7).bootWait = false ∧ (running.hart 7).priv = 3 ∧ develop.aon.lifecycle = 1)
    ∧ (running.portFree .write { attr := byUfs, addr := 0x18000000, data := leBytes 8 0 }
        ∧ withRing.portFree .write { attr := byUfs, addr := 0x18000000, data := leBytes 8 0 }
        ∧ running.verdict byUfs (0x18000000 + 0 * 0x10000) 8 false true = .ok ∧ running.sends byUfs ∧ running.hFind 6 0 = none
        ∧ running.verdict byAmind (0x18000000 + 62 * 0x10000) 8 false true = .ok)
    ∧ (let v : U64 := (3 : U64) <<< 32 ||| (mkHandle 6 0 (running.genOf 6 0) 0).setWidth 64
       v.setWidth 32 = mkHandle 6 0 (running.genOf 6 0) 0 ∧ (withRing.hFind 6 0).isSome = true ∧ running.genOf 6 0 < 64 ∧ v.getLsbD 48 = false
        ∧ withRing.hFind 6 0 = some { gen := running.genOf 6 0, charge := (0, 1, 0) }
        ∧ withRing.fnOffFor 0 false 5 0 = false ∧ withRing.inReset 0 = false ∧ byUfs.sec = false
        ∧ withRing.verdict byUfs (0x18000000 + 0 * 0x10000) 8 false true = .ok) := by and_intros <;> decide +kernel

/-- Stall 63 in a state, with its notices. -/
def stall63 (st : StallState) (l : List Response) : State := running.updStall 63 (fun t => { t with st := st, notices := l })

/-- A relayed request on stall 1. -/
def relayed (op : U16) : Request := { asks 1 op 0 [] with flags := 1 }

/-- A request of the partner. -/
def fromPartner : Request := { asks 0 0x0903 0 [] with route := .ptr 1 }

/-- A REMOTE request of stall 1 that is outstanding. -/
def remoteOut : State := linked.onAmind (fun a => { a with remotes := [{ stall := 1, req := relayed 0x0801 }] })

theorem meets_StallPagesAndRelay :
    ((amindAt 0x1003F7FF [1]).addr.toNat = 0x10000000 + 63 * 0x1000 + 0x7FF ∧ running.fabricUp = true
      ∧ (amindAt 0x1003F7FF [1]).fits 1 = true ∧ (amindAt 0x1003F7FF [1]).misaligned 1 = false ∧ running.portFree .write (amindAt 0x1003F7FF [1])
      ∧ running.sends byAmind ∧ running.verdict byAmind (0x10000000 + 63 * 0x1000 + 0x7FF) 1 false true = .ok ∧ ((stall63 .notified []).stall 63).st = .notified
      ∧ ((stall63 .queued []).stall 63).st = .queued)
    ∧ (running.portFree .write (writeX byAmind (0x10000000 + 63 * 0x1000 + 0x00E) 2 0)
        ∧ running.portFree .write (writeX byAmind (0x10000000 + 63 * 0x1000 + 0x80E) 2 0))
    ∧ (running.verdict byAmind (0x10000000 + 63 * 0x1000 + 0x00E) 2 false true = .ok ∧ ((stall63 .idle []).stall 63).st = .idle
        ∧ ((stall63 .answered []).stall 63).st = .answered ∧ ((stall63 .answered []).stall 63).notices = [])
    ∧ (running.verdict byAmind (0x10000000 + 63 * 0x1000 + 0x80E) 2 false true = .ok
        ∧ ((stall63 .answered [{}]).stall 63).notices = [{}] ∧ ((stall63 .answered [{}]).stall 63).lost = false
        ∧ ((stall63 .blocked []).stall 63).st = .blocked)
    ∧ (let s := ask linked 1 (relayed 0x0801)
       (relayed 0x0801).route = .stall 1 ∧ s.waits (relayed 0x0801) = true ∧ s.amindUp = true ∧ (relayed 0x0801).flags &&& 1 ≠ 0
        ∧ s.answersBusy (.stall 1) = false ∧ (relayed 0x0801).headerOk = true ∧ (relayed 0x0801).unknown = false
        ∧ (relayed 0x0801).opcode.toNat ∈ [0x0120, 0x0121, 0x0630, 0x0704, 0x0801, 0x0802, 0x0903] ∧ s.aon.mode ≠ .recovery ∧ s.farGone = false)
    ∧ (let s := ask linked 1 (relayed 0x0101)
       s.waits (relayed 0x0101) = true ∧ (relayed 0x0101).unknown = false
        ∧ (relayed 0x0101).opcode.toNat ∉ [0x0120, 0x0121, 0x0630, 0x0704, 0x0801, 0x0802, 0x0903])
    ∧ (ask running 1 (relayed 0x0801)).farGone = true
    ∧ (remoteOut.mgmt.amind.remotes.find? (fun r => r.stall = 1) = some { stall := 1, req := relayed 0x0801 } ∧ remoteOut.amindUp = true
        ∧ remoteOut.linkFull = true ∧ ({ opcode := 0x0801, seq := 1 } : Response).flags &&& 2 = 0 ∧ (relayed 0x0801).seq = 1)
    ∧ (fromPartner.route = .ptr 1 ∧ linked.amindUp = true ∧ linked.linkFull = true ∧ linked.mgmt.amind.ptrWait = []
        ∧ (linked.stall 3).st = .idle ∧ ((linked.updStall 3 (fun t => { t with st := .serving })).stall 3).st ≠ .idle) := by
  and_intros <;> decide +kernel

/-- A set-up datagram. -/
def byUdp (op : U16) (n : Nat) : Request := { asks 0 op 0 (List.replicate n 0) with route := .udp 5, env := { counter := if op = 0x0102 then 2 else 1 } }

/-- The module with sessions in its slots. -/
def sessions (l : Tab Session) : State := running.onAmind (fun a => { a with sessions := l })

/-- A set-up of an address that names credential c. -/
def setup (c : Byte) : Session := { addr := 5, cred := c }

theorem meets_Sessions :
    ((sessions []).takes specSessionOpen (byUdp 0x0101 98) (fun p => p.length = 98) false ∧ (sessions []).mgmt.amind.lockout = false
      ∧ (sessions []).mgmt.amind.sessions.has 0 = false)
    ∧ ((sessions [(0, setup 0)]).takes specSessionOpen (byUdp 0x0101 98) (fun p => p.length = 98) false
        ∧ (sessions [(0, setup 0)]).mgmt.amind.sessions.has 0 = true ∧ (sessions [(0, setup 0)]).mgmt.amind.sessions.has 1 = false)
    ∧ ((sessions []).onAmind (fun a => { a with lockout := true })).mgmt.amind.lockout = true
    ∧ ((sessions [(0, setup 0), (1, setup 0)]).takes specSessionOpen (byUdp 0x0101 98) (fun p => p.length = 98) false
        ∧ (sessions [(0, setup 0), (1, setup 0)]).mgmt.amind.sessions.has 1 = true)
    ∧ ((sessions [(1, setup 0)]).takes specSessionAuth (byUdp 0x0102 100) (fun p => p.length = 100) false
        ∧ (sessions [(1, setup 0)]).mgmt.amind.sessions.find? (fun e => e.2.setup && e.2.id.toNat = 0 && e.2.addr = 5) = some (1, setup 0)
        ∧ running.mgmt.svc.creds.has 0 = true ∧ running.mgmt.amind.denied = [] ∧ running.mgmt.amind.lockout = false)
    ∧ (running.mgmt.svc.creds.has 9 = false
        ∧ (sessions [(1, setup 9)]).mgmt.amind.sessions.find? (fun e => e.2.setup && e.2.id.toNat = 0 && e.2.addr = 5) = some (1, setup 9))
    ∧ (let s := running.onAmind (fun a => { a with denied := [0, 0, 0, 0] })
       s.mgmt.amind.lockout = false ∧ s.mgmt.amind.denied.length = 4
        ∧ s.mgmt.amind.denied.all (fun x => decide (s.tb.localT.toNat - x.toNat < 600000000000)) = true)
    ∧ askedTool specSessionClose (tooled 1) [] (fun p => p = []) (fun _ => true)
    ∧ ((sessions [(1, setup 0)]).mgmt.amind.sessions.has 1 = true ∧ (setup 0).setup = true
        ∧ (Tab.get (tooled 1).mgmt.amind.sessions 0 {}).setup = false)
    ∧ (running.amindUp = true ∧ running.mgmt.svc.udp.isSome = true ∧ running.listens 21 = true ∧ .v4 9 ≠ running.mgmt.svc.addr ∧ running.genuine (byUdp 0x0101 98) = true
      ∧ running.genuine { byUdp 0x0101 98 with route := .svc 0 } = false) := by and_intros <;> decide +kernel

/-- A handle of instance 0 by type and index 0. -/
def withHandle (typ : Nat) (retiring : Bool) : State := running.onMgmt (fun m => { m with
  handles := { m.handles with tab := [(hKey typ 0, { retiring := retiring, bind := { ident := 1 } })] } })

/-- Its value. -/
def value (typ : Nat) : U32 := mkHandle typ 0 1 0

/-- Records of a route. -/
def withRecords (r : RouteRec) : State := running.updRoute 0 (fun _ => r)

theorem meets_HandlesAndOutcomes :
    (asked specHandleQuery (withHandle 4 true) [] (fun p => p = []) (fun u => (u.hFind (hType (value 4)) (hIndex (value 4))).isSome)
        (value 4) 0 true)
    ∧ asked specHandleBindIrq (withHandle 4 false) [7, 0, 2, 0] (fun p => p.length = 4)
        (fun u => u.bindOk (bindAt [7, 0, 2, 0] 0) 0 false 0 = true ∧ (u.hFind (hType (value 4)) (hIndex (value 4))).isSome) (value 4)
    ∧ asked specHandleBindIrq (withHandle 4 false) [8, 0, 2, 0] (fun p => p.length = 4)
        (fun u => u.bindOk (bindAt [8, 0, 2, 0] 0) 0 false 0 = false) (value 4)
    ∧ asked specHandleDestroy (withHandle 7 false) [] (fun p => p = []) (fun _ => hType (value 7) = 7 ∧ hIndex (value 7) < 8) (value 7)
    ∧ asked specHandleDestroy (withHandle 11 false) [] (fun p => p = []) (fun u => hType (value 11) = 0x0B
        ∧ (u.timer (hIndex (value 11))).fired = false ∧ (u.timer (hIndex (value 11))).missed = 0 ∧ (u.timer (hIndex (value 11))).cmp = 0
        ∧ (u.timer (hIndex (value 11))).period = 0) (value 11)
    ∧ asked specHandleDestroy { withHandle 11 false with timers := [(0, { fired := true })] } [] (fun p => p = [])
        (fun u => (u.timer (hIndex (value 11))).fired = true) (value 11)
    ∧ ((withHandle 1 true).hFind (hType (value 1)) (hIndex (value 1)) = some { retiring := true, bind := { ident := 1 } }
        ∧ mkHandle (hType (value 1)) 0 1 (hIndex (value 1)) = value 1)
    ∧ asked specPendingQuery running [1, 0, 2, 0] (fun p => p.length = 4) (fun u => (u.route 0).pend = [])
    ∧ asked specPendingQuery (withRecords { pend := [{ opcode := 1, seq := 2 }] }) [1, 0, 2, 0] (fun p => p.length = 4)
        (fun u => (u.route 0).pend.find? (fun p => p.opcode.toNat = 1 ∧ p.seq.toNat = 2) = some { opcode := 1, seq := 2 })
    ∧ asked specPendingQuery (withRecords { pend := [{ opcode := 1, seq := 2, done := true }] }) [1, 0, 2, 0] (fun p => p.length = 4)
        (fun u => (u.route 0).pend.find? (fun p => p.opcode.toNat = 1 ∧ p.seq.toNat = 2) = some { opcode := 1, seq := 2, done := true })
    ∧ asked specResultRead (withRecords { result := some (3, [7, 8]) }) (leBytes 4 3 ++ leBytes 4 1) (fun p => p.length = 8 && u16At p 2 = 0)
        (fun u => (u.route 0).result = some (3, [7, 8]))
    ∧ asked specResultRead running (leBytes 4 3 ++ leBytes 4 1) (fun p => p.length = 8 && u16At p 2 = 0) (fun u => (u.route 0).result = none)
    ∧ asked specResultRead (withRecords { result := some (3, [7, 8]) }) (leBytes 4 3 ++ leBytes 4 2) (fun p => p.length = 8 && u16At p 2 = 0)
        (fun _ => true) := by and_intros <;> decide +kernel

/-- The running module with instance 5. -/
def guest (i : Inst) : State := running.onMgmt (fun m => { m with insts := Tab.put m.insts 5 i })

/-- A fabric share: class 1, guarantee 10, ceiling 20, burst 100. -/
def fabricShare : Share := { kind := 6, sel := 1, a := 0x14000A, b := 100 }

/-- The payload that asks for it for instance 5. -/
def askFabric : List Byte := [5, 1, 0, 0, 6, 1, 0, 0, 10, 0, 20, 0, 100, 0, 0, 0]

/-- The payload that asks for load channel 3 for instance 5. -/
def askPin3 : List Byte := [5, 1, 0, 0, 7, 0, 0, 0, 8, 0, 0, 0, 0, 0, 0, 0]

/-- A share that holds guest file 2 of hart 7. -/
def fileShare : Inst := { st := .live, shares := [{ kind := 0x0C, sel := 7, a := 2 }] }

/-- Stall 9 of instance 5. -/
def withStall9 (i : Inst) : State := (guest i).updStall 9 (fun t => { t with st := .idle, owner := some 5 })

theorem meets_InstancesStallsAndFiles :
    asked specInstanceCreate running askFabric running.okShares (fun u => u.shareCheck 5 (sharesAt askFabric)
        (mergeShares [] (sharesAt askFabric)) (decide ((u.inst 5).st ≠ .free)) = .ok)
    ∧ asked specInstanceCreate securePin3 askPin3 securePin3.okShares (fun u => (sharesAt askPin3).any (fun e => e.pins.any u.pinSec) = true)
    ∧ asked specInstanceCreate (guest { st := .live }) askFabric running.okShares
        (fun u => (sharesAt askFabric).any (fun e => e.pins.any u.pinSec) = false ∧ (u.inst 5).st ≠ .free)
    ∧ asked specShareChange ((guest { st := .live }).updReg 5 (fun r => { r with en := true })) askFabric running.okShares
        (fun u => (u.inst 5).st = .live ∧ (u.reg 5).en = true
          ∧ u.shareCheck 5 (sharesAt askFabric) (mergeShares (u.inst 5).shares (sharesAt askFabric)) false = .ok)
    ∧ asked specShareChange running askFabric running.okShares (fun u => (u.inst 5).st = .free)
    ∧ asked specShareChange (guest { st := .resetting }) askFabric running.okShares (fun u => (u.inst 5).st = .resetting)
    ∧ asked specInstanceQuery (guest { st := .live, shares := [fabricShare] }) [5] (fun p => p.length = 1) (fun _ => true)
    ∧ asked specInstanceQuery (withStall9 { st := .live }) [0] (fun p => p.length = 1)
        (fun u => (Route.stall 9).issuer = .gst ∧ u.issuerInst (.stall 9) = 5) 0 9
    ∧ asked specStallAssign (guest fileShare) [9, 0, 7, 0, 2, 0] (fun p => p.length = 6 && 4 ≤ u8At p 0 && u8At p 0 ≤ 63 && u8At p 1 ≤ 62)
        (fun u => (u.inst 0).st = .live ∧ u.bindOk (bindAt [9, 0, 7, 0, 2, 0] 2) 0 false 0 = true ∧ (u.stall 9).owner = none)
    ∧ asked specStallAssign (withStall9 fileShare) [9, 0, 7, 0, 2, 0] (fun p => p.length = 6 && 4 ≤ u8At p 0 && u8At p 0 ≤ 63 && u8At p 1 ≤ 62)
        (fun u => u.bindOk (bindAt [9, 0, 7, 0, 2, 0] 2) 0 false 0 = true ∧ (u.stall 9).owner ≠ none)
    ∧ asked specStallWithdraw (withStall9 {}) [9] (fun p => p.length = 1 && 4 ≤ u8At p 0 && u8At p 0 ≤ 63) (fun u => (u.stall 9).owner ≠ none)
    ∧ asked specGuestFileBind (guest fileShare) [5, 7, 2]
        (fun p => p.length = 3 && (u8At p 0 ≤ 62 || u8At p 0 = 0xFF) && u8At p 1 < 8 && 1 ≤ u8At p 2 && u8At p 2 ≤ 15)
        (fun u => (u.inst 5).st = .live ∧ (filesOf (u.inst 5).shares).contains (7, 2) = true ∧ u.core.guestFiles.has 114 = false)
    ∧ asked specGuestFileBind ((guest fileShare).onCore (fun c => { c with guestFiles := [(114, 6)] })) [5, 7, 2]
        (fun p => p.length = 3 && (u8At p 0 ≤ 62 || u8At p 0 = 0xFF) && u8At p 1 < 8 && 1 ≤ u8At p 2 && u8At p 2 ≤ 15)
        (fun u => (filesOf (u.inst 5).shares).contains (7, 2) = true ∧ u.core.guestFiles.has 114 = true ∧ Tab.get u.core.guestFiles 114 0 ≠ 5)
    ∧ asked specGuestFileBind ((guest fileShare).onCore (fun c => { c with guestFiles := [(114, 5)] })) [0xFF, 7, 2]
        (fun p => p.length = 3 && (u8At p 0 ≤ 62 || u8At p 0 = 0xFF) && u8At p 1 < 8 && 1 ≤ u8At p 2 && u8At p 2 ≤ 15)
        (fun u => u.core.guestFiles.has 114 = true ∧ u.fileUsed (Tab.get u.core.guestFiles 114 0) 7 2 = false) := by
  and_intros <;> decide +kernel

/-- Instance 5 owns the handle of LIN channel 1, with a header on its bus. -/
def linDrain (i : Inst) : State := ((guest i).hCreate 3 1 5 false {} (0, 0, 0)).updLin 1 (fun c => { c with header := some 0 })

/-- Instance 5 in reset, past its start. -/
def inReset (i : Inst) : State := guest { i with st := .resetting, resetBegun := true }

theorem meets_DisableResetAndDestroy :
    asked specFnDisable (guest { st := .live, drain := some {} }) [5, 0x0D, 0, 0, 0, 0] okFnDisable
        (fun u => (u.inst 5).st = .live ∧ (u.inst 5).drain ≠ none)
    ∧ asked specFnDisable (guest { st := .live, disabled := [(13, 0)] }) [5, 13, 0, 0, 0, 0] okFnDisable
        (fun u => (u.inst 5).drain = none ∧ (u.inst 5).disabled.contains (13, 0) = true)
    ∧ asked specFnDisable (guest { st := .live }) [5, 0x0D, 0, 0, 100, 0] okFnDisable
        (fun u => (u.inst 5).drain = none ∧ (u.inst 5).disabled.contains (0x0D, 0) = false)
    ∧ asked specFnDisable (linDrain { st := .live }) [5, 4, 1, 0, 0, 0] okFnDisable
        (fun u => (u.inst 5).disabled.contains (4, 1) = false ∧ (u.handlesOf 5 3).contains 1 = true ∧ (u.lin 1).header ≠ none)
    ∧ asked specFnEnable (guest { st := .live, disabled := [(13, 0)] }) [5, 13, 0, 0] (fun p => p.length = 4 && fnNamed p)
        (fun u => (u.inst 5).st = .live ∧ (u.inst 5).drain = none)
    ∧ (5 < 63 ∧ ((linDrain { st := .live, drain := some { kind := 4, sel := 1 } }).inst 5).drain = some { kind := 4, sel := 1 })
    ∧ (let s := guest { st := .live, drain := some { kind := 4, sel := 1 } }
       (s.inst 5).drain = some { kind := 4, sel := 1 } ∧ (s.lin 1).header = none ∧ (s.inst 5).st = .live)
    ∧ asked specInstanceReset (guest { st := .live }) [5] (fun p => p.length = 1)
        (fun u => (u.inst 5).st = .live ∧ (u.inst 5).drain = none ∧ (u.inst 5).resetBegun = false ∧ (u.stall 0).owner = none)
    ∧ ((withStall9 { st := .live }).updStall 9 (fun t => { t with st := .answered })).stall 9 = { st := .answered, owner := some 5 }
    ∧ asked specInstanceReset (withStall9 { st := .live }) [6] (fun p => p.length = 1)
        (fun u => (Route.stall 9).issuer = .gst ∧ 6 ≠ u.issuerInst (.stall 9)) 0 9
    ∧ asked specInstanceReset running [5] (fun p => p.length = 1) (fun u => (u.inst 5).st = .free)
    ∧ asked specInstanceReset (guest { st := .destroying }) [5] (fun p => p.length = 1) (fun u => (u.inst 5).st = .destroying)
    ∧ (((inReset {}).inst 5).resetBegun = true ∧ ((inReset {}).inst 5).drained = false)
    ∧ (((inReset { drained := true }).inst 5).drained = true ∧ ((inReset {}).inst 5).st = .resetting ∧ ((inReset {}).inst 5).destroyReq = []
        ∧ ((inReset { drained := true }).hCreate 0x0B 9 5 false {} (0, 0, 0)).handlesOf 5 0x0B = [9])
    ∧ asked specInstanceDestroy (guest { st := .live }) [5] (fun p => p.length = 1) (fun u => (u.inst 5).st = .live)
    ∧ asked specInstanceDestroy (inReset {}) [5] (fun p => p.length = 1) (fun u => (u.inst 5).st = .resetting)
    ∧ asked specInstanceDestroy (guest { st := .destroying }) [5] (fun p => p.length = 1) (fun u => (u.inst 5).st = .destroying)
    ∧ asked specInstanceDestroy running [62] (fun p => p.length = 1) (fun u => (u.inst 62).st = .free)
    ∧ (let s := guest { st := .destroying, drained := true }
       (s.inst 5).st = .destroying ∧ (s.inst 5).drained = true ∧ (s.inst 5).resetBegun = false ∧ (inReset {}).instBusy 5 = false
        ∧ [0x01, 0x02, 0x03, 0x04, 0x05, 0x06, 0x07, 0x08, 0x09, 0x0A, 0x0B, 0x0C].all (fun k => (s.handlesOf 5 k).isEmpty) = true) := by
  and_intros <;> decide +kernel

/-- The payload of a queue pair of class 3 with 64 descriptors and 1000 cells. -/
def askQp : List Byte := [26, 3, 64, 0, 0xE8, 3, 0, 0, 7, 0, 2, 0]

/-- A flow on port 1 that matches the destination address 2, toward port 0. -/
def askFlow : List Byte := [1, 2, 0, 0, 0, 0, 0, 0, 0, 2, 0, 0xFF, 1, 0, 0, 0, 0, 0, 0, 0, 0, 0, 0, 0, 0, 0, 0, 0]

/-- The first way of its bucket. -/
def flowWay : Nat := flowBucket 1 2 0 2 0 * 4

/-- A gate list for port 7 with one entry of 1000 ns. -/
def askGate : List Byte := [7, 1, 0, 0, 8, 0, 0, 0, 0, 0, 0, 0, 0xE8, 3, 0, 0, 0, 0, 0, 0, 0xE8, 3, 0, 0, 0xFF, 0, 0, 0]

/-- The module with one entry of the flow table. -/
def flows (l : Tab Flow) : State := running.onSw (fun w => { w with flows := l })

/-- The flow of `askFlow`. -/
def flow1 : Flow := { valid := true, mat := 2, ingress := 1, dmac := 2 }

theorem meets_SwitchCommands :
    asked specQueuePairCreate running askQp (running.okQueuePair 0)
        (fun u => u.fnOff 0 1 0 = false ∧ u.firstFree 1 64 = some 0 ∧ u.roomFor 1 0 0 false 1 0 = true)
    ∧ asked specQueuePairCreate (running.updInst 0 (fun i => { i with disabled := [(1, 0)] })) askQp (running.okQueuePair 0)
        (fun u => u.fnOff 0 1 0 = true)
    ∧ asked specQueuePairCreate (running.onMgmt (fun m => { m with handles := { m.handles with free := [(1, { fresh := 64 })] } })) askQp
        (running.okQueuePair 0) (fun u => u.fnOff 0 1 0 = false ∧ u.firstFree 1 64 = none)
    ∧ asked specFlowCreate (flows [(flowWay + 3, flow1)]) askFlow running.okFlow (fun u => (u.sw.probe 2 1 0 2 0).isSome = true)
    ∧ asked specFlowCreate (flows ((List.range 4).map (fun k => (flowWay + k, { flow1 with dmac := 3 })))) askFlow running.okFlow (fun u =>
        (u.sw.probe 2 1 0 2 0).isSome = false
          ∧ [flowWay, flowWay + 1, flowWay + 2, flowWay + 3].all (fun e => (Tab.get u.sw.flows e {}).valid) = true)
    ∧ asked specFlowCreate running askFlow running.okFlow (fun u => (u.sw.probe 2 1 0 2 0).isSome = false
        ∧ (Tab.get u.sw.flows flowWay {}).valid = false ∧ u.firstFree 8 4096 = some 0 ∧ u.handleRoom = true)
    ∧ asked specGateListSet (running.updGate 7 (fun g => { g with pend := some {} })) askGate okGateList (fun u => u.hasGate 7 = true)
    ∧ asked specGateListSet running askGate okGateList (fun u => u.hasGate 7 = false ∧ u.handleRoom = true ∧ u.blockIsOff (portBlock 7) = false)
    ∧ asked specGateListSet (running.updBlock (portBlock 7) (fun b => { b with st := .off })) askGate okGateList
        (fun u => u.blockIsOff (portBlock 7) = true)
    ∧ 1 ≤ (gateListAt askGate).cycle.toNat
    ∧ asked specPortConfig running [7, 1, 0, 0, 0, 0, 0, 0, 0xF2, 5] running.okPortConfig (fun _ => true)
    ∧ (running.supply.straps.svcOpen = true ∧ 10 ≤ (29 : Byte).toNat)
    ∧ asked specPortConfig running [21, 0, 18, 0, 9, 0, 8, 0, 64, 0] running.okPortConfig (fun _ => true)
    ∧ asked specPortStats running [10] (fun p => p.length = 1 && u8At p 0 < 30) (fun _ => true)
    ∧ asked specMarketStatus running [63] (fun p => p.length = 1 && u8At p 0 < 64) (fun _ => true) := by and_intros <;> decide +kernel

/-- The module with a handle to a node of the key tree and the node records. -/
def keys (n : Nat) (l : Tab Node) : State := (running.hCreate 7 n 0 false {} (0, 1, 0)).onKs (fun k => { k with roots := true, nodes := l })

/-- The handle. -/
def keyHandle (n : Nat) : U32 := mkHandle 7 0 1 n

/-- A node below root 3. -/
def node8 (usage : Nat) (invalid : Bool) : Node := { parent := 3, depth := 1, usage := usage, flags := 1, label := [7], invalid := invalid }

/-- The same module while the key store starts. -/
def keysStarting : State := (keys 8 [(8, node8 4 false)]).onKs (fun k => { k with st := .starting })

/-- An association for transmission on port 9, and a request for a signature and for a token. -/
def askSa : List Byte := [9, 0, 3, 0, 1, 0, 0, 0, 0, 0, 0, 0, 1, 0, 0, 0, 0, 0, 0, 0, 0, 0, 0, 0]
def askSign (alg : Byte) : List Byte := alg :: List.replicate 51 0
def askToken : List Byte := 8 :: List.replicate 11 0

/-- A signature or token in generation. -/
def signing (n : Option Nat) (invalid : Bool) : State :=
  (keys 8 [(8, node8 4 invalid)]).onKs (fun k => { k with signing := [{ route := 0, node := n }] })

theorem meets_KeysAndSignatures :
    asked specKeyDerive (keys 3 []) [4, 0, 1, 0, 9] okKeyDerive (fun u =>
        u.parentCheck (asks 0 0x0701 (keyHandle 3) [4, 0, 1, 0, 9]) = .ok ∧ u.ks.st = .ready ∧ u.ks.current pathFuel 3 = true
          ∧ u.ks.node (hIndex (keyHandle 3)) = some (rootNode 3) ∧ (rootNode 3).usage ≠ 0 ∧ (rootNode 3).depth < 8
          ∧ u.ks.matching 3 4 0 [9] = none ∧ u.ks.freeNodes ≠ [] ∧ u.roomFor 7 0 0 false 1 0 = true) (keyHandle 3)
    ∧ asked specKeyInvalidate (keys 3 []) [] (fun p => p = []) (fun u => u.ks.st = .ready ∧ hIndex (keyHandle 3) < 8) (keyHandle 3)
    ∧ asked specKeyInvalidate (keys 8 [(8, node8 4 false)]) [] (fun p => p = []) (fun u => 8 ≤ hIndex (keyHandle 8)
        ∧ u.ks.current pathFuel 8 = true ∧ u.ks.node 8 = some (node8 4 false)) (keyHandle 8)
    ∧ (keysStarting.ks.st ≠ .ready
        ∧ asked specKeyDerive keysStarting [4, 0, 1, 0, 9] okKeyDerive (fun _ => true) (keyHandle 8)
        ∧ asked specKeyInvalidate keysStarting [] (fun p => p = []) (fun _ => true) (keyHandle 8)
        ∧ asked specKeySign keysStarting (askSign 0) okKeySign (fun _ => true) (keyHandle 8)
        ∧ asked specAttest keysStarting askToken okAttest (fun _ => true)
        ∧ asked specMacsecSaSet keysStarting askSa okMacsecSa (fun _ => true) (keyHandle 8))
    ∧ asked specKeySign (keys 8 [(8, node8 3 false)]) (askSign 0) okKeySign (fun u => u.ks.node 8 = some (node8 3 false)) (keyHandle 8)
    ∧ asked specKeySign (keys 8 [(8, node8 4 true)]) (askSign 0) okKeySign (fun u => u.ks.current pathFuel 8 = false) (keyHandle 8)
    ∧ asked specKeySign (keys 8 [(8, node8 4 false)]) (askSign 0) okKeySign (fun u => u.ks.current pathFuel 8 = true) (keyHandle 8)
    ∧ asked specKeySign (keys 8 [(8, node8 4 false)]) (askSign 2) okKeySign (fun u => u.ks.current pathFuel 8 = true) (keyHandle 8)
    ∧ (let s := signing (some 8) false
       s.ks.signing.find? (fun g => g.node.isSome) = some { node := some 8 } ∧ s.ks.st = .ready ∧ s.ks.current pathFuel 8 = true)
    ∧ (signing (some 8) true).ks.current pathFuel 8 = false
    ∧ asked specAttest running askToken okAttest (fun u => u.ks.st = .ready)
    ∧ (signing none false).ks.signing.find? (fun g => g.node.isNone) = some {}
    ∧ asked specMacsecSaSet (keys 8 [(8, node8 3 false)]) askSa okMacsecSa (fun u => u.ks.st = .ready ∧ u.ks.node 8 = some (node8 3 false)
        ∧ u.ks.current pathFuel 8 = true) (keyHandle 8)
    ∧ asked specMacsecSaSet (keys 8 [(8, node8 3 false)]) (askSa.take 12 ++ leBytes 8 0x4000000000000000 ++ leBytes 4 0) okMacsecSa (fun u =>
        pnThreshold (u.macsec 9).xpn ≤ u64At (askSa.take 12 ++ leBytes 8 0x4000000000000000 ++ leBytes 4 0) 12) (keyHandle 8)
    ∧ (1 ≤ (5 : BitVec 3).toNat ∧ (5 : BitVec 3).toNat ≤ 5 ∧ running.ks.st ≠ .alarmed ∧ running.keysPowered = true ∧ running.amindUp = true
        ∧ (let s := starting 2; s.amindUp = false ∧ s.keysPowered = true)) := by and_intros <;> decide +kernel

/-- Instance 0 owns a set with one object, the last of its channel. -/
def oneObj (chan : Nat) (f : CanCh → CanCh) (o : CanObj) : State :=
  (((running.hCreate 2 (chan * 128 + 127) 0 false {} (chan, 1, 0)).updCan chan (fun c => f { c with objs := [(127, o)] })).onBus
    (fun b => { b with sets := [(chan * 128 + 127, { count := 1 })] }))

/-- A channel that takes part on its bus. -/
def active (c : CanCh) : CanCh := { c with st := .active, cfg := { en := true, cc := true } }

/-- A frame with identifier 5. -/
def frame5 : CanFrame := { id := 5 }

/-- An FD frame. -/
def frameFd : CanFrame := { id := 5, fdf := true }

/-- A listening object. -/
def ear (new lock : Bool) : CanObj := { cfg := 1, new := new, lock := lock }

/-- A write of the object's identifier. -/
def idWrite : Xact := { attr := byUfs, size := 4, addr := 0x120FBF04, data := leBytes 4 5 }

/-- The same module, with every handle retiring. -/
def retiring (s : State) : State := s.onMgmt (fun m => { m with handles := { m.handles with
  tab := m.handles.tab.map (fun e => (e.1, { e.2 with retiring := true })) } })

theorem meets_CanObjectsAndSchedule :
    (let s := oneObj 15 active { cfg := 3 }
     s.fabricUp = true ∧ s.sends byUfs ∧ s.verdict byUfs (0x12000000 + 15 * 0x10000 + 0x4000 + 127 * 0x100 + 0x18) 1 false true = .ok ∧ s.objHeld 15 127 = false
      ∧ (s.canObj 15 127).pend = false ∧ (s.can 15).cfg.mode ≠ 1 ∧ (s.canObj 15 127).valid (s.can 15).cfg (longObj 15 127) = true
      ∧ s.portFree .write (writeX byUfs (0x12000000 + 15 * 0x10000 + 0x4000 + 127 * 0x100 + 0x18) 1 0)
      ∧ s.setOf 15 127 = some (2047, { count := 1 }) ∧ s.setOff (2047, { count := 1 }) = false)
    ∧ ((oneObj 15 active { cfg := 3, pend := true }).canObj 15 127).pend = true
    ∧ (let s := oneObj 15 active { cfg := 0x4B }
       (s.canObj 15 127).pend = false ∧ (s.canObj 15 127).valid (s.can 15).cfg (longObj 15 127) = false)
    ∧ ((oneObj 15 (fun c => { c with cfg := { mode := 1 } }) {}).can 15).cfg.mode = 1
    ∧ ((oneObj 15 (fun c => { active c with tx := some 127 }) { cfg := 3, pend := true }).can 15).tx = some 127
    ∧ ((oneObj 15 active { cfg := 3, upd := true, deferred := true }).canObj 15 127).deferred = true
    ∧ (let s := oneObj 15 active { pend := true }
       idWrite.addr.toNat = 0x12000000 + 15 * 0x10000 + 0x4000 + 127 * 0x100 + 4 ∧ idWrite.data = leBytes 4 (5 : U32).toNat
        ∧ s.verdict idWrite.attr (0x12000000 + 15 * 0x10000 + 0x4000 + 127 * 0x100 + 4) 4 false true = .ok ∧ (s.canObj 15 127).pend = true
        ∧ s.portFree .write idWrite)
    ∧ (let s := oneObj 15 active { done := true }
       s.portFree .write (writeX byUfs (0x12000000 + 15 * 0x10000 + 0x3010 + 3 * 4) 4 0) ∧ s.verdict byUfs (0x12000000 + 15 * 0x10000 + 0x3010 + 3 * 4) 4 false true = .ok ∧ 3 * 32 ≤ 127 ∧ 127 < 3 * 32 + 32
        ∧ (0x80000000 : U32).getLsbD (127 - 3 * 32) = true ∧ s.admitObj byUfs 15 127 = true)
    ∧ asked specCanScheduleSet (oneObj 1 active { cfg := 3 }) ([1, 2, 1, 0, 0, 0, 0, 0, 0, 0, 0, 0, 50, 0, 0, 0] ++ [0xFF, 127]) okSchedule (fun u =>
        u.fnOff 0 3 1 = false ∧ u.setOf 1 127 = some (255, { count := 1 }) ∧ u.setWorld 255 = false)
    ∧ asked specCanScheduleSet (running.updInst 0 (fun i => { i with disabled := [(3, 1)] }))
        ([1, 2, 1, 0, 0, 0, 0, 0, 0, 0, 0, 0, 50, 0, 0, 0] ++ [0xFF, 127]) okSchedule (fun u => u.fnOff 0 3 1 = true)
    ∧ asked specCanScheduleSet running ([1, 2, 1, 0, 0, 0, 0, 0, 0, 0, 0, 0, 50, 0, 0, 0] ++ [0xFF, 127]) okSchedule (fun u =>
        127 ∈ ([0xFF, 127] : List Byte) ∧ u.setOf 1 127 = none)
    ∧ (1 < 2 ∧ ((oneObj 1 (fun c => { c with sched := { pend := some { cells := [0xFF] } } }) {}).can 1).sched.pend = some { cells := [0xFF] })
    ∧ (let m : Matrix := { cols := 1, rows := 1, cells := [127] }
       let s (o : CanObj) := oneObj 1 (fun c => { active c with sched := { run := some m } }) o
       ((s {}).can 1).sched.run = some m ∧ (m.cells.getD 0 0xFF).toNat = 127 ∧ m.rows = 1 ∧ (s {}).setOf 1 127 = some (255, { count := 1 })
        ∧ (s {}).setOff (255, { count := 1 }) = false ∧ (s {}).setLive 255 = true
        ∧ (retiring (s {})).setOf 1 127 = some (255, { count := 1 }) ∧ (retiring (s {})).setLive 255 = false ∧ ((s { cfg := 3 }).canObj 1 127).en = true ∧ ((s { cfg := 3 }).canObj 1 127).dir = true
        ∧ ((s { cfg := 3, pend := true }).canObj 1 127).pend = true ∧ ((s { cfg := 3, upd := true }).canObj 1 127).upd = true
        ∧ ((s { cfg := 3 }).canObj 1 127).valid ((s {}).can 1).cfg (longObj 1 127) = true) := by and_intros <;> decide +kernel

theorem meets_CanFrames :
    (let s := oneObj 15 active { cfg := 3, pend := true }
     (s.can 15).st = .active ∧ (s.can 15).integrating = false ∧ (s.can 15).cfg.mode ≠ 1 ∧ (s.can 15).tx = none ∧ (s.can 15).rxBusy = false
      ∧ (s.can 15).next = none ∧ s.canCandidates 15 ≠ [])
    ∧ (((oneObj 15 (fun c => { active c with cfg := { mode := 1 } }) {}).can 15).cfg.mode = 1 ∧ (oneObj 15 active {}).canCandidates 15 = [])
    ∧ (({} : CanObj).fdf = false ∧ ({} : CanObj).xlf = false ∧ ({} : CanObj).rtr = false ∧ ({ cfg := 0x20 } : CanObj).xlf = true
        ∧ ({ cfg := 0x40 } : CanObj).rtr = true)
    ∧ (let s (o : CanObj) := oneObj 15 (fun c => { active c with tx := some 127 }) o
       ((s {}).can 15).tx = some 127 ∧ ((s { pend := true }).canObj 15 127).pend = true
        ∧ ((s { pend := true, cfg := 0x80 }).canObj 15 127).oneshot = true ∧ ((s { pend := true }).canObj 15 127).aborting = false
        ∧ ((s { pend := true, aborting := true }).canObj 15 127).aborting = true
        ∧ (s { pend := true }).setOf 15 127 = some (2047, { count := 1 }) ∧ (s { pend := true }).setOff (2047, { count := 1 }) = false
        ∧ ((s { pend := true }).updInst 0 (fun i => { i with disabled := [(3, 15)] })).setOff (2047, { count := 1 }) = true)
    ∧ ((5 : BitVec 3) ≠ 0 ∧ (5 : BitVec 3) ≠ 7 ∧ (1 : BitVec 3) ≠ 0 ∧ (4 : BitVec 3) ≠ 7 ∧ min 511 (247 + 8 + 8 * 0) ≤ 255
        ∧ 255 < min 511 (248 + 8 + 8 * 0) ∧ ((running.updCan 15 active).can 15).tx = none
        ∧ ((running.updCan 15 (fun c => { active c with tx := some 127 })).can 15).tx.isSome = true)
    ∧ (((running.updCan 15 active).can 15).st = .active ∧ ((running.updCan 15 active).can 15).integrating = false
        ∧ (running.updCan 15 active).xlFast 15 = false)
    ∧ (let s := running.updCan 15 (fun c => { active c with cfg := { en := true, cc := true, xl := true, xbt := 0x40000000 } })
       12 ≤ 15 ∧ (s.can 15).cfg.xbt.getLsbD 30 = true ∧ (s.can 15).st = .active ∧ (s.can 15).integrating = false)
    ∧ (((running.updCan 15 active).can 15).cfg.takes frame5 = true ∧ ((running.updCan 15 active).can 15).cfg.takes frameFd = false
        ∧ (running.updCan 15 active).bus.sets = [])
    ∧ (let s (n l : Bool) := oneObj 15 active (ear n l)
       (List.range 1).map (fun k => 2047 % 128 + k) = [] ++ 127 :: [] ∧ ((s false false).canObj 15 127).hears frame5 (longObj 15 127) = true
        ∧ ((s false false).canObj 15 127).lock = false ∧ ((s false false).canObj 15 127).new = false
        ∧ ((s true false).canObj 15 127).new = true ∧ ((s true false).canObj 15 127).overwrite = false)
    ∧ (let s := oneObj 15 active (ear true true)
       s.portFree .read (readX byUfs (0x12000000 + 15 * 0x10000 + 0x4000 + 127 * 0x100 + 0x20) 4)
        ∧ s.portFree .read (readX byUfs (0x12000000 + 15 * 0x10000 + 0x4000 + 127 * 0x100 + 0xFC) 4)
        ∧ s.fabricUp = true ∧ s.sends byUfs ∧ s.verdict byUfs (0x12000000 + 15 * 0x10000 + 0x4000 + 127 * 0x100 + 0x20) 4 true false = .ok
        ∧ (s.canObj 15 127).dir = false ∧ s.verdict byUfs (0x12000000 + 15 * 0x10000 + 0x4000 + 127 * 0x100 + 0xFC) 4 true false = .ok
        ∧ (s.canObj 15 127).lock = true)
    ∧ ((oneObj 15 active (ear true false)).canObj 15 127).lock = false := by and_intros <;> decide +kernel

/-- A request for a set of 128 objects with 8 priority objects, and for a configuration at 1 Mbit/s. -/
def askSet : List Byte := [15, 0, 128, 8, 7, 0, 2, 0]
def askCan : List Byte := [15, 1, 0, 0, 0, 0x3C, 0x11, 5, 0, 0, 0, 0, 0, 0, 0, 0]

theorem meets_CanChannelsAndSets :
    asked specCanSetCreate running askSet (running.okCanSet 0 false) (fun u => u.canSec 15 = false ∧ u.fnOff 0 3 15 = false
        ∧ u.bus.sets.any (fun e => e.1 / 128 = 15 && e.1 % 128 < 0 + 128 && 0 < e.1 % 128 + e.2.count) = false
        ∧ u.roomFor 2 15 0 false 128 8 = true ∧ (u.block (0x20 + 15)).st ≠ .off)
    ∧ asked specCanSetCreate (oneObj 15 id {}) askSet (running.okCanSet 0 false) (fun u => u.canSec 15 = false ∧ u.fnOff 0 3 15 = false
        ∧ u.bus.sets.any (fun e => e.1 / 128 = 15 && e.1 % 128 < 0 + 128 && 0 < e.1 % 128 + e.2.count) = true)
    ∧ asked specCanChannelConfig running askCan okCanConfig (fun _ => true)
    ∧ (let s (f : CanCh → CanCh) := running.updCan 15 f
       ((s (fun c => { c with next := some {} })).can 15).next = some {} ∧ (running.can 15).tx = none ∧ (running.can 15).rxBusy = false ∧ (running.block (0x20 + 15)).st = .on
        ∧ ((s (fun c => { c with next := some { en := true } })).can 15).st = .stopped)
    ∧ asked specCanRecover (running.updCan 15 (fun c => { c with st := .busOffWait })) [15] (fun p => p.length = 1 && u8At p 0 < 16)
        (fun u => (u.can 15).st = .busOffWait ∧ (u.can 15).cfg.mode ≠ 2)
    ∧ asked specCanRecover running [15] (fun p => p.length = 1 && u8At p 0 < 16) (fun u => (u.can 15).st ≠ .busOffWait)
    ∧ (let s (n : Byte) := running.updCan 15 (fun c => { c with st := .recovering, recov := n })
       ((s 0).can 15).st = .recovering ∧ ((s 126).can 15).recov.toNat < 127 ∧ ((s 127).can 15).recov = 127)
    ∧ asked specCanWakeFilter running ([7, 1, 8, 0] ++ List.replicate 16 1) okWakeFilter (fun _ => true) := by and_intros <;> decide +kernel

/-- LIN channel 7 with a handle of instance 0. -/
def lin7 (f : LinCh → LinCh) : State := (running.hCreate 3 7 0 false {} (7, 1, 0)).updLin 7 (fun l => f { l with en := true, st := .active })

/-- A buffer that publishes, and one that subscribes, 8 bytes. -/
def publish : LinBuf := { cfg := 0x21, updated := true }
def subscribe : LinBuf := { cfg := 0x22 }

/-- The channel at the start of a table with one entry of frame 63. -/
def slot (typ : Nat) (b : LinBuf) : State := lin7 (fun l => { l with run := true, tables := [(0, [{ id := 63, typ := typ }])], bufs := [(63, b)] })

/-- The channel with a header on the bus. -/
def heard (typ : Nat) (b : LinBuf) : State := lin7 (fun l => { l with header := some (63, typ), bufs := [(63, b)] })

/-- A responder. -/
def responder (b : LinBuf) : State := lin7 (fun l => { l with responder := true, bufs := [(63, b)] })

/-- A request for channel 7 at 19 200 bit/s, and for its table 0. -/
def askLin : List Byte := [7, 0, 0, 0, 0, 0x4B, 0, 0, 7, 0, 2, 0]
def askTable : List Byte := [0, 1, 0, 0, 63, 0, 10, 0]

theorem meets_LinBus :
    (let s := slot 2 {}
     s.linRuns 7 = true ∧ (s.lin 7).responder = false ∧ (s.lin 7).goSleep = false ∧ (s.lin 7).run = true ∧ (s.lin 7).st = .active
      ∧ (s.lin 7).begun = false ∧ Tab.get (s.lin 7).tables (s.lin 7).sel.toNat [] = [{ id := 63, typ := 2 }] ∧ (s.lin 7).nextTable = none
      ∧ ((s.lin 7).buf 63).updated = false)
    ∧ ((slot 0 publish).lin 7).buf 63 = publish ∧ publish.dir = 1 ∧ ((slot 0 subscribe).lin 7).buf 63 = subscribe ∧ subscribe.dir = 2
    ∧ (let s := responder publish
       s.linRuns 7 = true ∧ (s.lin 7).responder = true ∧ (s.lin 7).st = .active ∧ ((s.lin 7).buf 63).dir = 1)
    ∧ (((responder subscribe).lin 7).buf 63).dir = 2 ∧ (((responder {}).lin 7).buf 63).dir = 0
    ∧ (((heard 0 subscribe).lin 7).header = some (63, 0) ∧ (((heard 0 subscribe).lin 7).buf 63).dir = 2 ∧ subscribe.len = 8
        ∧ subscribe.valid 63 (List.replicate 8 1 ++ [0xF7]) = true ∧ subscribe.valid 63 (List.replicate 8 1 ++ [0xF8]) = false
        ∧ subscribe.valid 63 (List.replicate 7 1) = false ∧ (((heard 0 publish).lin 7).buf 63).dir ≠ 2)
    ∧ (let s := (heard 1 {}).updLin 7 (fun l => { l with crt := 3 })
       (s.lin 7).header = some (63, 1) ∧ (s.lin 7).crt ≠ (s.lin 7).table ∧ (s.lin 7).nextTable = none
        ∧ ((s.updLin 7 (fun l => { l with nextTable := some [] })).lin 7).nextTable = some []
        ∧ ((heard 1 {}).lin 7).crt = ((heard 1 {}).lin 7).table)
    ∧ (((lin7 id).lin 7).en = true ∧ ((lin7 id).lin 7).st = .active ∧ ((responder {}).lin 7).responder = true
        ∧ ((lin7 (fun l => { l with st := .busSleep })).lin 7).st = .busSleep)
    ∧ ((lin7 id).portFree .write (writeX byUfs (0x13200000 + 7 * 0x1000 + 0x40C + 63 * 0x10) 4 0)
        ∧ (lin7 id).portFree .read (readX byUfs (0x13200000 + 7 * 0x1000 + (0x404 + 63 * 0x10)) 4)
        ∧ (lin7 id).portFree .write (writeX byUfs (0x13200000 + 7 * 0x1000 + 4) 1 0))
    ∧ (running.fabricUp = true ∧ (lin7 id).sends byUfs ∧ (lin7 id).verdict byUfs (0x13200000 + 7 * 0x1000 + 0x40C + 63 * 0x10) 4 false true = .ok
        ∧ (lin7 id).verdict byUfs (0x13200000 + 7 * 0x1000 + (0x404 + 63 * 0x10)) 4 true false = .ok
        ∧ (lin7 id).verdict byUfs (0x13200000 + 7 * 0x1000 + 4) 1 false true = .ok)
    ∧ asked specLinCreate running askLin (running.okLinCreate 0 false) (fun u => u.linSec 7 = false ∧ u.fnOff 0 4 7 = false ∧ u.hFind 3 7 = none
        ∧ u.linRoom 7 0 = true ∧ (u.block (0x30 + 7)).st ≠ .off ∧ (u.lin 7).st = .stopped)
    ∧ asked specLinCreate (lin7 id) askLin (running.okLinCreate 0 false) (fun u => (u.hFind 3 7).isSome = true)
    ∧ asked specLinScheduleSet (lin7 (fun l => { l with rate := 19200, run := true, begun := true })) askTable
        ((lin7 (fun l => { l with rate := 19200 })).okLinSchedule 7)
        (fun u => u.linOff 7 = false ∧ (u.lin 7).run = true ∧ (u.lin 7).begun = true ∧ (u.lin 7).table.toNat = 0) (mkHandle 3 0 1 7)
    ∧ asked specLinScheduleSet (lin7 (fun l => { l with rate := 19200 })) askTable ((lin7 (fun l => { l with rate := 19200 })).okLinSchedule 7)
        (fun u => u.linOff 7 = false ∧ (u.lin 7).run = false) (mkHandle 3 0 1 7) := by and_intros <;> decide +kernel

/-- The module with an enabled gateway and rule 4095. -/
def gated (r : GwRule) : State := running.onBus (fun b => { b with gw := { b.gw with en := true, rules := [(4095, r)] } })

/-- A rule that forwards from CAN channel 0 to channel 15. -/
def onward : GwRule := { kind := 1, action := 1, dest := 15 }

/-- A frame on CAN channel 0, and the same converted. -/
def fromCan0 : TapSource := .can 0 frame5

/-- An Ethernet frame with one ACF CAN message of bus 5. -/
def acfBytes : List Byte := List.replicate 12 0 ++ [0x22, 0xF0, 0x82, 0x80, 16, 0] ++ List.replicate 8 0 ++ acfMsg
where acfMsg : List Byte := [2, 4, 0, 5, 0, 0, 0, 0, 0, 0, 0, 0, 0, 0, 0, 9]

/-- The module with CAN channel 0 marked secure. -/
def securePin160 : State := running.onMgmt (fun m => { m with securePins := [160] })

/-- A rule's payload: number, and the rule from CAN channel 0 to channel 15. -/
def askRule : List Byte := [0xFF, 0x0F, 0, 0, 1, 0, 0, 0] ++ List.replicate 16 0 ++ [1, 15] ++ List.replicate 26 0

theorem meets_GatewayTransfer :
    (tapKnown fromCan0 = true ∧ ((gated {}).updCan 0 active).tapLive fromCan0 = true ∧ (gated {}).tapLive fromCan0 = false
      ∧ tapKnown (.lin 7 63 []) = true)
    ∧ ((gated {}).bus.gw.en = true ∧ (gated {}).bus.gw.rules.all (fun r => !r.2.hits (tapped fromCan0)) = true)
    ∧ (let s := ((gated onward).updCan 15 active).updCan 0 active
       s.bus.gw.rules = [(4095, onward)] ∧ s.tapLive fromCan0 = true ∧ onward.hits (tapped fromCan0) = true ∧ onward.dest.toNat < 16
        ∧ onward.toCan (tapped fromCan0) (s.can 15) 15 = some frame5 ∧ (Tab.get s.bus.gw.queues 15 []).length < 32
        ∧ (s.can 15).st ≠ .stopped ∧ (s.can 15).cfg.mode ≠ 1)
    ∧ 32 ≤ (Tab.get ((gated onward).onBus (fun b => { b with gw := { b.gw with queues := [(15, List.replicate 32 {})] } })).bus.gw.queues 15 []).length
    ∧ ([{}, { frame := frame5 }] : List GwEntry).Pairwise (fun a b => a.frame.key ≤ b.frame.key)
    ∧ (let s := (gated {}).onBus (fun b => { b with gw := { b.gw with inbox := [(0, acfBytes), (1, [])] } })
       s.bus.gw.en = true ∧ s.bus.gw.inbox.has 0 = true ∧ s.bus.gw.inbox.has 1 = true ∧ Tab.get s.bus.gw.inbox 0 [] = acfBytes
        ∧ ntscfParse (Tab.get s.bus.gw.inbox 1 []) = none)
    ∧ (ntscfParse acfBytes = some (0, [(1, acfBytes.acfMsg)]) ∧ acfFrame 1 acfBytes.acfMsg = some (5, { id := 9 }))
    ∧ (Tab.get ((gated {}).onBus (fun b => { b with gw := { b.gw with queues := [(15, [{ id := 3 }])] } })).bus.gw.queues 15 []).any
        (fun e => e.id = 3) = true
    ∧ (Tab.get (gated { batchMsgs := [acfBytes.acfMsg] }).bus.gw.rules 4095 {}).batchMsgs ≠ []
    ∧ asked specGwRuleSet securePin160 askRule okRuleSet (fun u => u.ruleSecure (ruleAt askRule 4) = true)
    ∧ asked specGwRuleSet (gated { secure := true }) askRule okRuleSet (fun u => (Tab.get u.bus.gw.rules 4095 {}).secure = true)
    ∧ asked specGwRuleSet running askRule okRuleSet (fun u => u.ruleSecure (ruleAt askRule 4) = false
        ∧ (Tab.get u.bus.gw.rules 4095 {}).secure = false ∧ (Tab.get u.bus.gw.rules 4095 {}).batchMsgs = [])
    ∧ asked specGwRuleClear (gated onward) [0xFF, 0x0F] (fun p => p.length = 2 && u16At p 0 < 4096) (fun u =>
        (Tab.get u.bus.gw.rules 4095 {}).secure = false ∧ (Tab.get u.bus.gw.rules 4095 {}).batchMsgs = [])
    ∧ asked specGwStats (gated onward) [0xFF, 0x0F] (fun p => p.length = 2 && u16At p 0 < 4096) (fun _ => true) := by
  and_intros <;> decide +kernel

/-- Instance 0 owns a group of load channel c. -/
def withLoad (c : Nat) (f : LoadCh → LoadCh) : State :=
  ((running.hCreate 4 c 0 false {} (0, 1, 0)).onPs (fun p => { p with groups := [(c, { mask := bitOf 64 c })] })).updLoad c
    (fun h => f { h with recorded := true, cfg := { h.cfg with budgeted := true } })

/-- Its output conducts, by its owner's command. -/
def lit (h : LoadCh) : LoadCh := { h with drive := .on, owned := true, out := { on := true, duty := 1000 } }

/-- The handle of the group. -/
def loadHandle (c : Nat) : U32 := mkHandle 4 0 1 c

/-- The payload of a group of channels 58 and 59, and a record of channel 59 and of channel 0. -/
def askLoads : List Byte := leBytes 8 (2 ^ 58 + 2 ^ 59) ++ [7, 0, 2, 0]
def askRecord : List Byte := [59, 1, 1, 31, 0x88, 0x13, 0xE8, 3, 0, 0, 0, 0, 13, 0, 1, 0, 105, 0, 0, 0]

/-- Every channel's claim is at its most. -/
def fullBudget : State := (List.range 60).foldl (fun s c => s.updLoad c (fun h => { h with recorded := true, cfg := { h.cfg with budgeted := true, xsec := 5000, tlim := 200 } }))
  (withLoad 59 id)

/-- A page of instance 0, by instance 0. -/
def outVerdict (s : State) (off n : Nat) : Resp := s.verdict byUfs (0x13400000 + 0 * 0x1000 + off) n false true

theorem meets_LoadCommands :
    (let s := withLoad 59 id
     s.fabricUp = true ∧ s.sends byUfs ∧ outVerdict s (59 * 8) 4 = .ok ∧ s.loadReach byUfs.inst.toNat byUfs.sec 59 = .mine
      ∧ s.loadReach byUfs.inst.toNat byUfs.sec 0 = .other ∧ outVerdict s (0 * 8) 4 = .ok ∧ outVerdict s 0x200 8 = .ok
      ∧ outVerdict s 0x208 8 = .ok ∧ s.portFree .write (writeX byUfs (0x13400000 + 0 * 0x1000 + 59 * 8) 4 0)
      ∧ s.portFree .write (writeX byUfs (0x13400000 + 0 * 0x1000 + 0x200) 8 0)
      ∧ s.portFree .write (writeX byUfs (0x13400000 + 0 * 0x1000 + 0x208) 8 0) ∧ (bitOf 64 59).getLsbD 59 = true ∧ (bitOf 64 59).getLsbD 0 = false)
    ∧ (((withLoad 59 id).load 59).drive = .off ∧ ((withLoad 59 lit).load 59).dutyFrom.toNat ≤ (withLoad 59 lit).tb.localT.toNat
        ∧ (let s := withLoad 59 (fun h => { lit h with dutyOld := 300, dutyFrom := 1000 })
           (s.load 59).drive ≠ .off ∧ s.tb.localT.toNat < (s.load 59).dutyFrom.toNat))
    ∧ asked specLoadGroupCreate (withLoad 59 id) askLoads (running.okLoadGroup 0 false) (fun u => u.fnOff 0 7 0 = false
        ∧ u.ps.groups.any (fun e => e.2.mask &&& BitVec.ofNat 64 (u64At askLoads 0) ≠ 0) = true)
    ∧ asked specLoadGroupCreate (running.onMgmt (fun m => { m with securePins := [58] })) askLoads (running.okLoadGroup 0 false) (fun u =>
        u.ps.groups.any (fun e => e.2.mask &&& BitVec.ofNat 64 (u64At askLoads 0) ≠ 0) = false
          ∧ (BitVec.ofNat 64 (u64At askLoads 0)).getLsbD 58 = true ∧ u.loadMay 0 false 58 = false)
    ∧ asked specLoadGroupCreate running askLoads (running.okLoadGroup 0 false) (fun u =>
        u.ps.groups.any (fun e => e.2.mask &&& BitVec.ofNat 64 (u64At askLoads 0) ≠ 0) = false
          ∧ (chansOf (BitVec.ofNat 64 (u64At askLoads 0))).all (fun c => u.loadMay 0 false c) = true ∧ u.handleRoom = true)
    ∧ asked specLoadChannelConfig fullBudget askRecord (fullBudget.okLoadConfig 59) (fun u => State.budgetOk { u with ps := { u.ps with
        chans := (u.updLoad 59 (fun ch => { ch with cfg := ch.cfg.withRecord (loadClass 59) askRecord, recorded := true })).ps.chans } } = false) (loadHandle 59)
    ∧ asked specLoadChannelConfig (withLoad 59 id) askRecord ((withLoad 59 id).okLoadConfig 59) (fun u => State.budgetOk { u with ps := { u.ps with
        chans := (u.updLoad 59 (fun ch => { ch with cfg := ch.cfg.withRecord (loadClass 59) askRecord, recorded := true })).ps.chans } } = true) (loadHandle 59)
    ∧ asked specLoadSet (withLoad 59 (fun h => { h with prot := { h.prot with oc := true } })) (leBytes 8 (2 ^ 59) ++ leBytes 8 (2 ^ 59))
        ((withLoad 59 id).okLoadSet 59) (fun u => u.fnOffFor 0 false 7 0 = false ∧ (BitVec.ofNat 64 (2 ^ 59)).getLsbD 59 = true
          ∧ u.loadReach 0 false 59 = .mine) (loadHandle 59)
    ∧ asked specLoadLatchClear (withLoad 11 (fun h => { h with prot := { h.prot with th := true, fet := 1301 } })) [11, 7]
        ((withLoad 11 id).okLatchClear 11) (fun u => (7 - (7 &&& (u.load 11).prot.freshBits u.tb.localT)).testBit 1 = true ∧ (u.load 11).prot.th = true
          ∧ (((u.load 11).cfg.thLimit : Int) - 20) * 10 < (u.load 11).prot.fet) (loadHandle 11)
    ∧ asked specLoadLatchClear (withLoad 11 (fun h => { h with prot := { h.prot with th := true, fet := 1300 } })) [11, 7]
        ((withLoad 11 id).okLatchClear 11) (fun u => (u.load 11).prot.fet ≤ (((u.load 11).cfg.thLimit : Int) - 20) * 10) (loadHandle 11)
    ∧ asked specLoadLatchClear (withLoad 59 (fun h => { h with prot := { h.prot with wire := true, setAt := some (0, 4) } })) [59, 4]
        ((withLoad 59 id).okLatchClear 59) (fun u => (4 - (4 &&& (u.load 59).prot.freshBits u.tb.localT)).testBit 2 = false) (loadHandle 59)
    ∧ asked specLoadLatchClear (withLoad 59 (fun h => { h with prot := { h.prot with wire := true } })) [59, 4]
        ((withLoad 59 id).okLatchClear 59) (fun u => (u.load 59).prot.wire = true
          ∧ (4 - (4 &&& (u.load 59).prot.freshBits u.tb.localT)).testBit 2 = true) (loadHandle 59)
    ∧ asked specLoadStatus (withLoad 59 id) [] (fun p => p = []) (fun _ => true) (loadHandle 59) := by and_intros <;> decide +kernel

theorem meets_LoadProtection :
    (let s := withLoad 59 (fun h => { lit h with drive := .soft })
     (s.load 59).drive = .soft ∧ (s.loadOff 59).isNone = true ∧ s.cmdLit 59 = true ∧ (s.load 59).drive ≠ .off)
    ∧ ((withLoad 59 lit).conducts 59 = true ∧ (loadClass 59).tripLevel ((withLoad 59 lit).load 59).prot.inrush < 151
        ∧ 150 ≤ (loadClass 59).tripLevel ((withLoad 59 lit).load 59).prot.inrush
        ∧ ((withLoad 11 (fun h => { h with prot := { h.prot with inrush := true } })).load 11).prot.inrush = true)
    ∧ (let s := withLoad 11 (fun h => { h with prot := { h.prot with oc := true } })
       (s.load 11).drive = .off ∧ s.loadOff 11 = some 5 ∧ (s.load 11).prot.th = false ∧ (s.load 11).prot.cooling = false)
    ∧ ((withLoad 59 lit).load 59).cfg.limit ≤ min (((withLoad 59 (fun h => { lit h with prot := { h.prot with count := 7 } })).load 59).prot.count + 1) 31
    ∧ min (((withLoad 59 (fun h => { lit h with prot := { h.prot with count := 6 } })).load 59).prot.count + 1) 31 < ((withLoad 59 lit).load 59).cfg.limit
    ∧ ((withLoad 59 (fun h => { h with prot := { h.prot with pausing := true } })).load 59).prot.pausing = true
    ∧ ((withLoad 59 lit).load 59).drive = .on
    ∧ ((1500 : Int) ≤ 1500 ∧ (((withLoad 11 lit).load 11).cfg.thLimit : Int) * 10 ≤ 1500 ∧ (1700 : Int) ≤ 1700
        ∧ ((withLoad 12 lit).load 12).cfg.thermLatch = false
        ∧ ((withLoad 51 (fun h => { lit h with cfg := { h.cfg with thermLatch := true } })).load 51).cfg.thermLatch = true)
    ∧ ((running.load 59).drive = .off ∧ (1450 : Int) ≤ 1450)
    ∧ (let s := (withLoad 59 lit).onPs (fun p => { p with base := 1050 })
       ((s.load 59).cfg.tlim : Int) * 1000000000000 ≤ s.wireRef + wireNext 0 0 (s.load 59).cfg.xsec (s.load 59).cfg.tau)
    ∧ (let s := withLoad 59 lit
       s.wireRef + wireNext 0 0 (s.load 59).cfg.xsec (s.load 59).cfg.tau < ((s.load 59).cfg.tlim : Int) * 1000000000000)
    ∧ ((withLoad 59 (fun h => { h with held := some {} })).load 59).held ≠ none := by
  and_intros <;> decide +kernel

/-- A channel that is off and tests for open load. -/
def tester (c : Nat) (testing : Bool) : State := withLoad c (fun h => { h with cfg := { h.cfg with olEn := true }, diag := { h.diag with testing := testing } })

/-- A running module before its stored configuration, with one limp channel. -/
def limping : State := (running.onPs (fun p => { p with delivered := false })).updLoad 59 (fun h => { h with cfg := { h.cfg with limp := true } })

/-- A conducting channel, the measured current of the module above its budget. -/
def overloaded : State := (withLoad 59 (fun h => { lit h with diag := { h.diag with mean := 2000 } })).onMgmt (fun m => { m with
  health := { m.health with amps := [2501] } })

theorem meets_DiagnosticsLimpAndShedding :
    (let s := tester 59 false
     s.testable 59 = true ∧ s.cmdLit 59 = false ∧ (s.load 59).diag.testing = false)
    ∧ (let s := tester 51 false
       s.testable 51 = true ∧ s.cmdLit 51 = false ∧ (s.load 51).diag.testing = false)
    ∧ (tester 59 true).testable 59 = true ∧ ((tester 59 true).load 59).diag.testing = true
    ∧ (tester 51 true).testable 51 = true ∧ ((tester 51 true).load 51).diag.testing = true
    ∧ (let s := withLoad 3 lit
       (s.loadOff 3).isNone = true ∧ s.cmdLit 3 = true ∧ (s.load 3).drive = .on ∧ s.supply.crank = false
        ∧ (s.load 3).diag.revBlock = false ∧ (s.load 3).diag.onCur.toNat < (loadClass 3).underLevel
        ∧ (let u := withLoad 3 (fun h => { lit h with diag := { h.diag with onCur := 26 } })
           (loadClass 3).underLevel < (u.load 3).diag.onCur.toNat))
    ∧ (withLoad 59 id).ps.groups.has 59 = true
    ∧ (limping.supply.porHeld = false ∧ limping.ps.delivered = false ∧ limping.supply.straps.net ≠ .invalid
        ∧ limping.inFunctional limping.supply.vbus = true ∧ limping.ps.limpActive = false ∧ (limping.load 59).cfg.limp = true
        ∧ limping.ps.limpTime = false)
    ∧ (overloaded.amindUp = true ∧ overloaded.toShed = [(59, 1)])
    ∧ (let s := { withLoad 59 lit with supply := { running.supply with feedB := { running.supply.feedB with cur := 1751, above := 50, shedding := true } } }
       s.shedOrder.head? = some 59 ∧ (s.supply.feed true).shedding = true ∧ (s.supply.feed false).shedding = false)
    ∧ (let s := (withLoad 59 (fun h => { h with prot := { h.prot with shed := true } })).onPs (fun p => { p with shedOrder := [(59, 1)] })
       s.ps.shedOrder = (59, 1) :: [] ∧ s.causeHolds 1 = false ∧ s.amindUp = true) := by and_intros <;> decide +kernel

/-- The running module with a group of input 63 of instance 0 and V input 23. -/
def withInputs (f : InGroup → InGroup) : State := ((running.hCreate 5 63 0 false {} (0, 1, 0)).onInp (fun p => { p with
  groups := [(63, f { dmask := bitOf 64 63, vmask := 0x800000, high := [(23, 10)], low := [(23, 5)] })] })).updDin 63 (fun d => { d with edges := 1 })

/-- A request for inputs 0 and 63 and V input 23. -/
def askInputs : List Byte := leBytes 8 (1 + 2 ^ 63) ++ leBytes 8 (2 ^ 23) ++ [7, 0, 2, 0]

theorem above_level (n k m : Nat) (h : m ∈ List.replicate k (n + 1)) : n < m := by
  rw [(List.mem_replicate.1 h).2]
  exact Nat.lt_succ_self n

theorem meets_Inputs :
    ((withInputs id).inputsOn = true ∧ ((withInputs id).din 63).level = false
      ∧ ((withInputs id).onAon (fun a => { a with mode := .sleep })).inputsOn = false)
    ∧ ((∀ m, m ∈ List.replicate 10 (((withInputs id).inputLevels 63).2 + 1) → ((withInputs id).inputLevels 63).2 < m)
        ∧ ((withInputs id).din 63).debounce ≤ 10 ∧ ((withInputs id).din 63).debounce ≤ 255)
    ∧ (((withInputs id).groupOfD 63).map (fun g => (g.1, g.2.stopped, g.2.disabled)) = some (63, false, false)
        ∧ ((withInputs id).din 63).edges.getLsbD 0 = true ∧ ((withInputs id).din 63).edges.getLsbD 1 = false
        ∧ ((withInputs (fun g => { g with evtD := bitOf 64 63 })).inGroup 63).evtD.getLsbD 63 = true)
    ∧ ((withInputs id).groupOfD 0 = none ∧ (withInputs id).inSec 0 = false)
    ∧ (((withInputs id).groupOfV 23).map (fun g => (g.1, g.2.stopped, g.2.disabled)) = some (63, false, false)
        ∧ (Tab.get ((withInputs id).inGroup 63).low 23 0).toNat < (Tab.get ((withInputs id).inGroup 63).high 23 0).toNat)
    ∧ (withInputs id).portFree .write (writeX byUfs (0x13800000 + 63 * 0x1000 + 0x10) 8 0)
    ∧ ((1 : U64) ≠ 0 ∧ (withInputs id).fabricUp = true ∧ (withInputs id).sends byUfs
        ∧ (withInputs id).verdict byUfs (0x13800000 + 63 * 0x1000 + 0x10) 8 false true = .ok)
    ∧ (running.supply.porHeld = false ∧ running.inp.ign ≠ running.ignReads 10001 ∧ (List.replicate 8 0).length = 8)
    ∧ ((running.onInp (fun p => { p with sensOn := 4 })).inp.sensOn.getLsbD 2 = true
        ∧ (let s := running.onInp (fun p => { p with sensFault := 4, sensRun := 4 })
           s.inp.sensFault.getLsbD 2 = true ∧ s.sensWanted.getLsbD 2 = true))
    ∧ asked specInputGroupCreate (withInputs id) askInputs (running.okInputGroup 0 false) (fun u => u.fnOff 0 8 0 = false
        ∧ u.inp.groups.any (fun e => e.2.dmask &&& BitVec.ofNat 64 (u64At askInputs 0) ≠ 0 || e.2.vmask &&& BitVec.ofNat 24 (u32At askInputs 8) ≠ 0)
          = true)
    ∧ asked specInputGroupCreate running askInputs (running.okInputGroup 0 false) (fun u => u.inp.groups = []
        ∧ (BitVec.ofNat 64 (u64At askInputs 0)).getLsbD 0 = true ∧ (List.range 64).all (fun j => u.inMay 0 false 0 j) = true
        ∧ (List.range 24).all (fun j => u.inMay 0 false 1 j) = true ∧ u.handleRoom = true)
    ∧ asked specInputConfig (withInputs id) [63, 5, 255, 3] ((withInputs id).okInputConfig 63) (fun _ => true) (mkHandle 5 0 1 63)
    ∧ asked specInputConfig (withInputs id) [87, 4, 1, 3] ((withInputs id).okInputConfig 63) (fun _ => 64 ≤ 87) (mkHandle 5 0 1 63) := by
  and_intros <;> first | exact fun m => above_level _ 10 m | decide +kernel

/-- The running module in a phase of the sleep order. -/
def sleepy (f : Sleep → Sleep) : State := running.onSleep f

/-- The module in SLEEP. -/
def asleep (f : Sleep → Sleep) : State := { sleepy f with aon := { running.aon with mode := .sleep } }

/-- Two wakes an hour apart, eleven false wakes and source 56. -/
def source (c : WakeCfg) (f : Sleep → Sleep) : State := sleepy (fun p => f { p with cfg := [(56, c)], lastSource := 56 })

/-- Source 56 fires. -/
def fire56 : WakeFire := { source := 56 }

/-- CAN channel 7 fires on an error, and on frame 5. -/
def fire23 (f : Option CanFrame) : WakeFire := { source := 23, frame := f }

/-- CAN channel 7 in selective-wake standby after 31 frame errors. -/
def listening : State := (sleepy (fun p => { p with phase := 3, cfg := [(23, { arm := true })] })).updCan 7 (fun c => {
  c with armed := true, frameErr := 31 })

theorem meets_SleepAndWake :
    asked specSleepOrder (sleepy (fun p => { p with phase := 1 })) [] (fun p => p = []) (fun u => u.sleep.phase ≠ 0)
    ∧ asked specSleepOrder running [] (fun p => p = []) (fun u => u.sleep.phase = 0)
    ∧ (let s := (lin7 id).onSleep (fun p => { p with phase := 1 })
       s.sleep.phase = 1 ∧ (s.lin 7).responder = false ∧ s.linAwake 7 = true)
    ∧ (let s := (sleepy (fun p => { p with phase := 2 })).updEthPort 21 (fun q => { q with tc10 := true, link := true })
       (s.ethPort 21).tc10 = true ∧ (s.ethPort 21).link = true ∧ s.mgmt.stored.sleepMaster.getLsbD 21 = false ∧ s.sleep.phase = 2
        ∧ 21 ∈ s.tc10Up ∧ ((s.onMgmt (fun m => { m with stored := { m.stored with sleepMaster := 0x200000 } })).mgmt.stored).sleepMaster.getLsbD 21 = true
        ∧ (s.onSleep (fun p => { p with portsAsked := 0x200000 })).sleep.portsAsked.getLsbD 21 = true)
    ∧ (let s := sleepy (fun p => { p with phase := 2 })
       s.sleep.phase = 2 ∧ s.drained = true ∧ s.sleep.pending = false)
    ∧ (let s := sleepy (fun p => { p with phase := 2, pending := true })
       s.drained = true ∧ s.sleep.pending = true ∧ s.aon.mode = .run)
    ∧ (sleepy (fun p => { p with phase := 3 })).sleep.phase = 3
    ∧ ((asleep id).aon.mode = .sleep ∧ (asleep id).aon.safeInCommitted = false ∧ (asleep id).sleep.pending = false
        ∧ (asleep (fun p => { p with pending := true })).sleep.pending = true)
    ∧ (let s := source { arm := true } (fun p => { p with phase := 3 })
       wakeCode 56 = true ∧ s.wakeSeen fire56 = s ∧ s.wakeFires fire56 = true ∧ s.powered = true ∧ s.supply.holdup = false
        ∧ s.sleep.phase = 3 ∧ s.sleep.pending = false)
    ∧ (let v := listening.wakeSeen (fire23 none)
       wakeCode 23 = true ∧ v.wakeFires (fire23 none) = true ∧ listening.wakeFires (fire23 none) = false ∧ listening.sleep.phase = 3)
    ∧ (let s := source { arm := true } (fun p => { p with phase := 3, cfg := (0, { arm := true }) :: p.cfg })
       s.wakeSeen { source := 0 } = s ∧ s.wakeFires { source := 0 } = true ∧ s.wakeFires fire56 = true ∧ s.wakeSeen fire56 = s
        ∧ wakeCode 0 = true)
    ∧ (source { arm := true } (fun p => { p with phase := 3, pending := true })).sleep.pending = true
    ∧ (let s := source { arm := true } (fun p => { p with phase := 2 })
       s.sleep.phase = 2 ∧ s.aon.mode = .run ∧ s.sleep.pending = false)
    ∧ (let s := { source { arm := true } id with aon := { running.aon with mode := .sleep } }
       s.sleep.phase = 0 ∧ s.aon.mode = .sleep ∧ s.sleep.dwellDone = false)
    ∧ (source { arm := true } (fun p => { p with dwellDone := true })).sleep.dwellDone = true
    ∧ (let s := { source { arm := true } id with aon := { running.aon with mode := .part } }
       s.sleep.phase = 0 ∧ s.aon.mode = .part ∧ (s.wakeCfg 56).toRun = true ∧ s.core.toRun = none)
    ∧ (let s (n : Nat) := { source { arm := true, falseTimes := List.replicate n 0 } (fun p => { p with window := true, valid := true }) with
         aon := { running.aon with mode := .safe } }
       (s 0).sleep.window = true ∧ (s 0).wakeConfirmed = false ∧ ((s 0).onInp (fun p => { p with ign := true })).wakeConfirmed = true
        ∧ (s 0).sleep.valid = true ∧ (s 0).aon.mode = .safe ∧ (s 0).sleep.lastSource ≠ 8
        ∧ 10 < ((s 10).inHour ((s 10).tb.localT :: (s 10).inHour ((s 10).wakeCfg 56).falseTimes)).length
        ∧ ((s 9).inHour ((s 9).tb.localT :: (s 9).inHour ((s 9).wakeCfg 56).falseTimes)).length ≤ 10)
    ∧ (let s := source { quar := true, held := some (true, false, 100) } id
       (s.wakeCfg 56).quar = true ∧ (s.wakeCfg 56).held = some (true, false, 100))
    ∧ asked specWakeConfig running [56, 1, 2, 0, 0x10, 0x27] running.okWakeConfig (fun u => (u.wakeCfg 56).quar = false)
    ∧ asked specWakeConfig (source { quar := true } id) [56, 1, 3, 0, 0, 0] running.okWakeConfig (fun u => (u.wakeCfg 56).quar = true)
    ∧ asked specWakeStatus running [] (fun p => p = []) (fun _ => true) := by
  and_intros <;> first | exact if_neg (by decide) | decide +kernel

/-- The running module with a state of a port's MAC. -/
def ported (p : Nat) (f : EthPort → EthPort) : State := running.updEthPort p f

/-- An aggregation group of port 21. -/
def bundled : State := ((ported 21 (fun e => { e with link := true })).onSw (fun w => { w with lags := [(7, { members := 0x200000 })] }))

theorem other_clock (x : U64) : x + 1 ≠ x := by bv_omega

/-- An announce of another clock, and a bridge that hears it on port 20. -/
def announce (p : Byte) : PtpMessage := { kind := .announce, info := { root := { prio1 := p, id := ownClock + 1 }, sender := ownClock + 1 } }
def hearing (ext : Bool) : State := (ported 20 (fun e => { e with link := true })).onEth (fun e => { e with
  bridge := { e.bridge with en := true, ext := ext, gmCapable := true, ports := [(20, { role := 2, asCapable := true })] } })

theorem meets_PortEvents :
    (25 < 26 ∧ running.sw.lagOf 25 = none ∧ (running.ethPort 25).link = false ∧ (running.ethPort 25).lowPower = false
      ∧ running.sw.forwarding = true ∧ (running.block (portBlock 25)).serves = true)
    ∧ ((ported 25 (fun e => { e with link := true })).ethPort 25).link = true
    ∧ (bundled.sw.lagOf 21 = some 7 ∧ (bundled.ethPort 21).link = true)
    ∧ (let s := (ported 21 (fun e => { e with pause := true, link := true })).updSwPort 21 (fun u => { u with fcAssert := true })
       (s.ethPort 21).pause = true ∧ (s.swPort 21).fcAssert = true ∧ (s.ethPort 21).link = true ∧ (s.swPort 21).inFlight = []
        ∧ (s.ethPort 21).ptpDue = 0 ∧ s.lineFree 21 = true ∧ (s.updSwPort 21 (fun u => { u with inFlight := [3] })).lineFree 21 = false
        ∧ (s.updSwPort 21 (fun u => { u with inFlight := [3], halted := true })).lineFree 21 = true
        ∧ (s.updSwPort 21 (fun u => { u with inFlight := [4, 3], halted := true })).lineFree 21 = false)
    ∧ (((ported 9 (fun e => { e with verify := 1, tries := 1 })).ethPort 9).verify = 1
        ∧ ((ported 9 (fun e => { e with verify := 1, tries := 1 })).ethPort 9).tries < 2
        ∧ 2 ≤ ((ported 9 (fun e => { e with verify := 1, tries := 2 })).ethPort 9).tries)
    ∧ (let s (a : Bool) := ported 25 (fun e => { e with link := true, plca := { e.plca with nodeId := 1, active := a } })
       ((s true).ethPort 25).plca.nodeId ≠ 0 ∧ ((s true).ethPort 25).plca.active = true ∧ ((s false).ethPort 25).link = true
        ∧ ((s false).ethPort 25).plca.active = false ∧ ((s false).ethPort 25).plca.off = false)
    ∧ (29 < 30 ∧ ((running.updGate 29 (fun g => { g with oper := some {} })).gate 29).oper = some {}
        ∧ ((running.updGate 29 (fun g => { g with pend := some {} })).gate 29).pend = some {})
    ∧ (64 * 8000 ≤ ({ tokens := 512000 } : Policer).tokens ∧ ({} : Policer).tokens < 64 * 8000)
    ∧ (let f : Frer := { rec_ := true, stream := 1, fresh := false }
       511 < 512 ∧ Tab.get (running.onEth (fun e => { e with frers := [(511, f)] })).eth.frers 511 {} = f ∧ f.rec_ = true ∧ f.stream ≠ 0 ∧ f.fresh = false)
    ∧ (let s (r : BitVec 2) := (ported 20 (fun e => { e with link := true })).onEth (fun e => { e with bridge := { e.bridge with
         en := true, ext := true, role := 2, ports := [(20, { role := r })] } })
       (s 2).eth.bridge.en = true ∧ (s 2).bridgeOn 20 = true ∧ (s 2).bridgeOn 25 = false ∧ ((s 2).ethPort 20).link = true
        ∧ (s 2).eth.bridge.role = 2 ∧ ((s 2).eth.bridge.port 20).role = 2 ∧ ((s 1).eth.bridge.port 20).role = 1 ∧ (s 2).tb.gstate ≠ 2
        ∧ (s 1).ptpMay 20 = true ∧ ((s 1).ethPort 20).ptpDue = 0 ∧ ((s 1).updSwPort 20 (fun u => { u with inFlight := [3] })).ptpMay 20 = false)
    ∧ (let s (x : Bool) := hearing x
       (s true).tabLive 20 = true ∧ (s true).eth.bridge.ext = true ∧ ((s true).eth.bridge.port 20).role = 2
        ∧ (List.range 20).all (fun q => !(s true).bridgeOn q || ((s true).eth.bridge.port q).role ≠ 2) = true
        ∧ (s false).tabLive 20 = true ∧ (s false).eth.bridge.ext = false ∧ (s false).eth.bridge.gmCapable = true
        ∧ (List.range 30).all (fun q => q = 20 || !(s false).tabLive q || ((s false).eth.bridge.port q).info.isNone) = true
        ∧ (announce 0).kind = .announce ∧ (announce 0).info.steps ≠ 255
        ∧ ({ (announce 0).info with steps := (announce 0).info.steps + 1 } : PtpInfo).better (s false).eth.bridge.own 20 0 = true
        ∧ ({ (announce 255).info with steps := (announce 255).info.steps + 1 } : PtpInfo).better (s false).eth.bridge.own 20 0 = false)
    ∧ (announce 0).info.sender ≠ ownClock ∧ (announce 0).info.root.id ≠ ownClock
    ∧ (let s := running.onEth (fun e => { e with bridge := { e.bridge with en := true, role := 0 } })
       s.eth.bridge.en = true ∧ s.eth.bridge.role = 0 ∧ ({ s with tb := { s.tb with gstate := 1 } }).tb.gstate = 1)
    ∧ ((-10000 : Int).natAbs ≤ 10000 ∧ 10000 < (-10001 : Int).natAbs) := by
  and_intros <;> first | decide +kernel | exact other_clock _

/-- Ports 8 and 9 enabled and linked, VLAN 1 floods both, port 9 cuts through. -/
def bridged89 (f : Switch → Switch) : State := (((((running.updEthPort 8 (fun e => { e with link := true })).updEthPort 9
  (fun e => { e with link := true })).updSwPort 8 (fun u => { u with en := true, link := true })).updSwPort 9
  (fun u => { u with en := true, link := true, cutThrough := true })).onSw (fun w => f { w with vlans := [(1, { member := 0x300, flood := true })] }))

/-- A frame of zeros, and one from which its fault follows. -/
def zeros (n : Nat) : RawFrame := { bytes := List.replicate n 0 }

/-- A frame with a SecTAG of association 0, SCI 0 and PN 1, and a frame of an EtherType. -/
def secured : RawFrame := { bytes := List.replicate 12 0 ++ [0x88, 0xE5, 0x2C, 0, 0, 0, 0, 1] ++ List.replicate 48 0 }
def typed (t : List Byte) : RawFrame := { bytes := List.replicate 12 0 ++ t ++ List.replicate 46 0 }

/-- MACsec on port 9 with a receive association of channel 0. -/
def guarded (f : Macsec → Macsec) (a : MsSa) : State := (bridged89 id).updMacsec 9 (fun m => f { m with en := true, rxSci := [(0, 0)], rx := [(0, a)] })

theorem meets_FramesEnter :
    (let s := bridged89 id
     s.sw.forwarding = true ∧ (s.ethPort 9).link = true ∧ s.macsecOn 9 (zeros 60).bytes = false ∧ (s.ethPort 9).maxFrame.toNat = 1522
      ∧ (zeros 59).bytes.length + 4 < 64 ∧ 64 ≤ (zeros 60).bytes.length + 4 ∧ (zeros 1518).bytes.length + 4 ≤ 1522
      ∧ 1522 < (zeros 1519).bytes.length + 4 ∧ etherType (zeros 60).bytes ≠ 0x8808 ∧ etherType (zeros 60).bytes ≠ 0x88F7
      ∧ (zeros 60).fragErr = false ∧ (zeros 60).fcsErr = false ∧ ({ fcsErr := true } : RawFrame).fcsErr = true
      ∧ ({ fragErr := true } : RawFrame).fragErr = true)
    ∧ (let s := (bridged89 id).onEth (fun e => { e with bridge := { e.bridge with en := true } })
       etherType (typed [0x88, 0x08]).bytes = 0x8808 ∧ etherType (typed [0x88, 0xF7]).bytes = 0x88F7 ∧ s.bridgeOn 9 = true ∧ s.bridgeOn 29 = true
        ∧ (bridged89 id).bridgeOn 9 = false ∧ ((running.updSwPort 29 (fun u => { u with link := true })).swPort 29).link = true)
    ∧ (let s := guarded id {}
       s.macsecOn 9 (zeros 60).bytes = true ∧ outerType (zeros 60).bytes ≠ 0x88E5 ∧ (s.macsec 9).strict = true
        ∧ ((guarded (fun m => { m with strict := false }) {}).macsec 9).strict = false
        ∧ s.macsecOn 9 secured.bytes = true ∧ etherType secured.bytes ≠ 0x8808 ∧ outerType secured.bytes = 0x88E5
        ∧ (s.macsec 9).channel (secSci secured.bytes) = some 0 ∧ (s.macsec 9).rx.has (0 * 4 + u8At secured.bytes 14 % 4) = true
        ∧ ((guarded (fun m => { m with rxSci := [] }) {}).macsec 9).channel (secSci secured.bytes) = none)
    ∧ (({ revoked := true } : MsSa).revoked = true ∧ ({} : Macsec).replay = true
        ∧ rxPn true ({ pn := 2 } : MsSa).pn (beAt secured.bytes 16 4) + ({} : Macsec).window.toNat < ({ pn := 2 } : MsSa).pn.toNat
        ∧ ({} : MsSa).pn.toNat ≤ rxPn true ({} : MsSa).pn (beAt secured.bytes 16 4) + ({} : Macsec).window.toNat)
    ∧ (({} : MsSa).open_ true 1 secured.bytes = none ∨ ∃ b, ({} : MsSa).open_ true 1 secured.bytes = some b)
    ∧ (let s := bridged89 id
       let l := s.classify { port := 9, bytes := (zeros 60).bytes }
       (s.swPort 9).en = true ∧ l.filtered = false ∧ l.entry = none ∧ l.dests = [8] ∧ s.sw.classMask.getLsbD l.cls = false
        ∧ (Tab.get s.sw.accts 63 {}).used = 0 ∧ 0 + cellsOf (zeros 60).bytes ≤ s.acctShare 63 ∧ cellsOf (zeros 60).bytes ≤ s.sw.free)
    ∧ (running.swPort 9).en = false
    ∧ (((bridged89 id).updSwPort 9 (fun u => { u with vlanFilter := true, pvid := 2 })).classify { port := 9, bytes := (zeros 60).bytes }).filtered = true
    ∧ (let l := ((bridged89 id).updSwPort 9 (fun u => { u with pvid := 2 })).classify { port := 9, bytes := (zeros 60).bytes }
       l.filtered = false ∧ l.entry = none ∧ l.dests = [])
    ∧ (let s := bridged89 (fun w => { w with free := 0, pushEn := false })
       s.sw.free < cellsOf (zeros 60).bytes ∧ s.sw.pushEn = false ∧ (s.classify { port := 9, bytes := (zeros 60).bytes }).dests = [8])
    ∧ (let s := bridged89 id
       (s.swPort 9).link = true ∧ etherType (zeros 124).bytes ≠ 0x8808 ∧ etherType (zeros 124).bytes ≠ 0x88F7
        ∧ s.cutOk { port := 9, bytes := (zeros 124).bytes, wireLen := 124 } = true
        ∧ (s.classify { port := 9, bytes := (zeros 124).bytes, wireLen := 124 }).entry = none
        ∧ (s.classify { port := 9, bytes := (zeros 124).bytes, wireLen := 124 }).dests = [8] ∧ s.macsecOn 9 (zeros 124).bytes = false) := by
  and_intros <;> first | decide +kernel | (cases ({} : MsSa).open_ true 1 secured.bytes with
    | none => exact .inl rfl
    | some b => exact .inr ⟨b, rfl⟩)

/-- A frame of class 7 from port 9 toward some ports. -/
def stored (d : List Nat) : Frame := { id := 3, ingress := 9, bytes := (zeros 60).bytes, cls := 7, cells := 1, dests := d }

/-- Port p up, with a stored frame. -/
def holding (p : Nat) (f : Frame) (g : SwPort → SwPort) : State := (((bridged89 (fun w => { w with frames := [f] })).updEthPort p (fun e => { e with
  link := true })).updSwPort p (fun u => g { u with en := true, link := true }))

/-- A frame that port 8 cuts through. -/
def passing (n : Nat) : Frame := { stored [8] with cut := true, express := true, wireLen := n }

/-- A frame of class 0 that is long enough to be split. -/
def longOne : Frame := { stored [8] with cls := 0, bytes := (zeros 200).bytes }

/-- Port 8 sends a preemptable frame of class 0, with a frame of class 7 behind it or without. -/
def splitting (hold more : Bool) : State := (holding 8 longOne (fun u => { u with inFlight := [3] })).updEthPort 8 (fun e => {
  e with link := true, preempt := true, verify := 2, hold := hold }) |>.onSw (fun w => { w with
    frames := if more then w.frames ++ [{ stored [8] with id := 4 }] else w.frames })

theorem meets_FramesLeave :
    ((bridged89 id).portUp 8 = true ∧ ((bridged89 id).swPort 8).inFlight = [] ∧ 8 < 30 ∧ ((bridged89 id).ethPort 8).plca.active = false
      ∧ (List.range 8).all (fun c => (bridged89 id).nextContender 8 c = none) = true)
    ∧ (let s := (holding 25 (stored [25]) id).updEthPort 25 (fun e => { e with plca := { e.plca with active := true } })
       s.portUp 25 = true ∧ (s.swPort 25).inFlight = [] ∧ (s.ethPort 25).plca.active = true ∧ s.nextContender 25 7 = some (9, 3))
    ∧ (let s := holding 8 (stored [8]) id
       s.nextContender 8 7 = some (9, 3) ∧ s.classOk 8 7 = true ∧ s.frame 3 = some (stored [8])
        ∧ s.guardOk 8 7 (s.wireLen (stored [8]) 8) = true ∧ s.macsecOn 8 (s.egressEdit (stored [8]) 8) = false)
    ∧ (let s := (holding 8 (stored [8]) id).updMacsec 8 (fun m => { m with en := true, txValid := true, tx := [(0, {})] })
       let b := s.egressEdit (stored [8]) 8
       let a : MsSa := Tab.get (s.macsec 8).tx (s.macsec 8).txAn.toNat {}
       s.nextContender 8 7 = some (9, 3) ∧ s.guardOk 8 7 (s.wireLen (stored [8]) 8) = true ∧ s.macsecOn 8 b = true ∧ a.revoked = false
        ∧ (s.macsec 8).txValid = true ∧ a.exhausted = false ∧ b.length + 4 + (s.macsec 8).adds ≤ 9216
        ∧ ((s.updMacsec 8 (fun m => { m with txValid := false })).macsec 8).txValid = false)
    ∧ (let s := (holding 25 (stored [25]) id)
       s.portUp 25 = true ∧ (s.ethPort 25).plca.active = false ∧ (s.swPort 25).inFlight = [] ∧ s.nextContender 25 7 = some (9, 3)
        ∧ s.classOk 25 7 = true ∧ s.guardOk 25 7 (s.wireLen (stored [25]) 25) = true)
    ∧ (let f : Frame := { stored [27] with qps := [127] }
       let s := (holding 27 f id).updQp 127 (fun q => { q with depth := 64, enabled := true })
       s.portUp 27 = true ∧ (s.swPort 27).inFlight = [] ∧ s.nextContender 27 7 = some (9, 3) ∧ s.classOk 27 7 = true ∧ s.frame 3 = some f
        ∧ s.guardOk 27 7 (s.wireLen f 27) = true ∧ f.qps = [127] ∧ 127 / 64 = 27 - 26
        ∧ (s.qp 127).rxList.length < (s.qp 127).depth.toNat ∧ f.dests = [27])
    ∧ (let f : Frame := { stored [7, 8] with multi := true }
       let s := holding 8 f id
       s.sw.frames.find? (fun f => f.ingress = 9 && f.cls = 7 && f.multi && !f.served) = some f ∧ s.frame f.id = some f ∧ f.dests ≠ []
        ∧ f.dests.Nodup ∧ (f.dests.all (fun q => !s.mcReady f 0 q && (Tab.get s.sw.residue (q * 8 + f.cls) []).length < 64)) = true)
    ∧ (let f : Frame := { stored [8] with multi := true }
       let s := holding 8 f id
       s.frame f.id = some f ∧ f.dests = [8] ∧ s.macsecOn 8 (s.egressEdit f 8) = false ∧ s.mcReady f 0x100 8 = true)
    ∧ (let s := holding 29 (stored [29]) (fun u => { u with inFlight := [3] })
       s.frame 3 = some (stored [29]) ∧ (s.swPort 29).halted = false ∧ (s.ethPort 29).due = [] ∧ (stored [29]).id = 3 ∧ (s.swPort 29).inFlight.contains 3 = true ∧ (stored [29]).cut = false
        ∧ (s.ethPort 29).ptpDue = 0 ∧ (stored [29]).ingress ≠ 29 ∧ (stored [29]).qps = [] ∧ (stored [29]).express = false ∧ { stored [29] with express := true }.express = true)
    ∧ (let s := (holding 28 (stored [28]) (fun u => { u with inFlight := [3] })).onBus (fun b => { b with gw := { b.gw with en := true } })
       s.frame 3 = some (stored [28]) ∧ (s.swPort 28).inFlight.contains 3 = true ∧ (s.swPort 28).halted = false ∧ s.bus.gw.en = true)
    ∧ ((stored [8, 7]).dests = [8, 7] ∧ (holding 8 (stored [8, 7]) (fun u => { u with inFlight := [3] })).frame 3 = some (stored [8, 7]))
    ∧ (let s (n : Nat) := holding 8 (passing n) (fun u => { u with inFlight := [3] })
       (s 124).frame 3 = some (passing 124) ∧ ((s 124).swPort 8).inFlight.contains 3 = true ∧ ((s 124).swPort 8).halted = false
        ∧ (passing 124).cut = true ∧ (passing 124).ingress < 26 ∧ ((s 124).ethPort 8).ptpDue = 0 ∧ (passing 124).ingress ≠ 8
        ∧ ((s 1519).ethPort 9).maxFrame.toNat < (passing 1519).wireLen + 4 ∧ ((s 124).ethPort 8).due = [])
    ∧ (let s := splitting false true
       8 < 10 ∧ s.portUp 8 = true ∧ (s.swPort 8).inFlight = [3] ∧ s.frame 3 = some longOne ∧ s.splittable 8 60 = true
        ∧ (s.swPort 8).halted = false ∧ (s.ethPort 8).due = [] ∧ (s.ethPort 8).plca.active = false ∧ (s.ethPort 8).expressMask.getLsbD 7 = true
        ∧ s.nextContender 8 7 = some (9, 4) ∧ s.classOk 8 7 = true ∧ s.frame 4 = some { stored [8] with id := 4 }
        ∧ s.guardOk 8 7 (s.wireLen { stored [8] with id := 4 } 8) = true
        ∧ s.macsecOn 8 (s.egressEdit { stored [8] with id := 4 } 8) = false ∧ (s.ethPort 8).hold = false)
    ∧ (let s (h : Bool) := splitting h false
       (List.range 8).all (fun c => !((s true).ethPort 8).expressMask.getLsbD c || (s true).nextContender 8 c = none) = true
        ∧ (s true).splittable 8 60 = true ∧ ((s true).ethPort 8).hold = true ∧ (s false).splittable 8 140 = true ∧ ((s false).ethPort 8).hold = false) := by
  and_intros <;> decide +kernel

/-- Bytes of DRAM from 0x80000000 on, and queue pair 127 of instance 0. -/
def queued (d : List Byte) (f : Qp → Qp) : State := (((withDram.hCreate 1 127 0 false {} (1, 1, 0)).setMem 0x80000000 d)).updQp 127 (fun q => f {
  q with depth := 64, enabled := true, run := true, txBase := 0x80000000, rxBase := 0x80000000 })

/-- A descriptor with its buffer right behind it: length and class. -/
def descriptor (n : Nat) (c : Byte) : List Byte := leBytes 8 0x80000020 ++ leBytes 2 n ++ [c] ++ List.replicate 21 0

/-- Queue pair 127 with a frame to send, behind an enabled port I1 and a destination. -/
def sending (n : Nat) (c : Byte) : State := (((queued (descriptor n c ++ List.replicate 60 0) (fun q => { q with txTail := 1 })).updSwPort 27
  (fun u => { u with en := true })).updSwPort 8 (fun u => { u with en := true })).onSw (fun w => { w with accts := [(0, { share := 100 })], vlans := [(1, { member := 0x8000100, flood := true })] })

/-- Queue pair 127 with a received frame. -/
def receiving (n : Nat) : State := (queued (descriptor n 0) (fun q => { q with rxTail := 1, rxList := [3] })).onSw (fun w => { w with
  frames := [stored [27]] })

/-- The accesses of the queue pair. -/
def byQp (s : State) : Attr := (s.qpAttr 127).getD {}

/-- Queue pair 127 with its ring behind a Pass window, and with a long preemptable frame while an express one waits for queue pair 126. -/
def farQueued : State := ((linked.hCreate 1 127 0 false {} (1, 1, 0)).hCreate 10 31 0 false {} (0, 1, 256)).onPass (fun p => { p with
  wins := [(31, { opened := true, enabled := true, loc := 0x4000000000, size := 0x1000 })] })
def crowded : State := (((queued [] (fun q => { q with rxTail := 1, rxList := [3] })).updQp 126 (fun q => { q with
  depth := 64, run := true, rxTail := 1, rxList := [4] })).onSw (fun w => { w with
    frames := [{ longOne with ingress := 9 }, { stored [27] with id := 4 }] })).updEthPort 27 (fun e => { e with preempt := true })

theorem meets_QueuesAndDoorbells :
    (let s := queued [] id
     s.portFree .write (writeX byUfs (0x11C00000 + 127 * 0x1000 + 0x10) 4 1)
      ∧ s.portFree .write (writeX byUfs (0x11C00000 + 127 * 0x1000 + 0x18) 4 1) ∧ s.fabricUp = true ∧ s.sends byUfs ∧ s.verdict byUfs (0x11C00000 + 127 * 0x1000 + 0x10) 4 false true = .ok
      ∧ s.verdict byUfs (0x11C00000 + 127 * 0x1000 + 0x18) 4 false true = .ok ∧ (s.qp 127).stopped = false)
    ∧ ((queued [] (fun q => { q with stopped := true })).qp 127).stopped = true
    ∧ (let s := (withDram.hCreate 6 63 0 false {} (0, 1, 0)).updRing 63 (fun r => { r with depth := 16 })
       s.portFree .write (writeX byUfs (0x14100000 + 63 * 0x1000 + 0x10) 4 1) ∧ s.sends byUfs ∧ s.verdict byUfs (0x14100000 + 63 * 0x1000 + 0x10) 4 false true = .ok ∧ (s.ring 63).stopped = false
        ∧ ((s.updRing 63 (fun r => { r with stopped := true })).ring 63).stopped = true)
    ∧ (let s := sending 60 7
       s.qpAttr 127 = some (byQp s) ∧ s.enginesRun = true ∧ (s.qp 127).run = true ∧ (s.qp 127).stopped = false
        ∧ (s.qp 127).txHead ≠ (s.qp 127).txTail ∧ s.qpOff 127 = false ∧ s.dmaMay (byQp s) 0x80000000 32 = true)
    ∧ (let r := (sending 59 0).dmaRead (byQp (sending 59 0)) 0x80000000 32
       r.2.1 = .ok ∧ u16At r.2.2 8 < 60)
    ∧ (let r := (sending 60 8).dmaRead (byQp (sending 60 8)) 0x80000000 32
       r.2.1 = .ok ∧ 7 < u8At r.2.2 10)
    ∧ (let s := sending 60 7
       let r := s.dmaRead (byQp s) 0x80000000 32
       let b := r.1.dmaRead (byQp s) (u64At r.2.2 0) (u16At r.2.2 8)
       let g := (b.1.goodFrame (26 + 127 / 64) b.2.2.length).enter {
         port := 26 + 127 / 64, bytes := b.2.2, cls := some (min (u8At r.2.2 10) (s.qp 127).maxClass.toNat), fromQp := some 127 }
       r.2.1 = .ok ∧ 60 ≤ u16At r.2.2 8 ∧ u16At r.2.2 8 ≤ 9212 ∧ u8At r.2.2 10 ≤ 7 ∧ b.2.1 = .ok ∧ g.2 = true)
    ∧ ((sending 60 7).recordWrite (byQp (sending 60 7)) (0x80000000 + 12) (leBytes 2 0) ((sending 60 7).msiOf 0x01 127)).1.sw = (sending 60 7).sw
    ∧ (farQueued.dmaRead (byQp farQueued) 0x4000000000 32).2.1 = .retry
    ∧ ((sending 60 7).dmaRead (byQp (sending 60 7)) 0x04000000 60).2.1 = .derr
    ∧ ((receiving 64).dmaWrite (byQp (receiving 64)) 0x04000000 [1]).2 = .derr
    ∧ ((farQueued.onPass (fun p => { p with trackers := (List.range 128).map (fun i => { id := i }) })).dmaWrite (byQp farQueued) 0x4000000000 [1]).2 = .retry
    ∧ (let s := receiving 64
       let r := s.dmaRead (byQp s) 0x80000000 32
       let b := s.egressEdit (stored [27]) (26 + 127 / 64)
       (s.qp 127).rxHead ≠ (s.qp 127).rxTail ∧ (s.qp 127).rxList.head? = some 3 ∧ s.frame 3 = some (stored [27]) ∧ r.2.1 = .ok
        ∧ b.length ≤ u16At r.2.2 8 ∧ s.dmaMay (byQp s) 0x80000000 32 = true ∧ (s.qp 127).rxAt = 0 ∧ s.copyYields 127 (stored [27]) = false
        ∧ ((r.1.rxBegin 3).dmaWrite (byQp s) (u64At r.2.2 0 + 0) ((b.drop 0).take (b.length - 0))).2 = .ok ∧ b.length ≤ 0 + (b.length - 0))
    ∧ (crowded.copyYields 127 { longOne with ingress := 9 } = true ∧ 0 + 64 < (crowded.egressEdit { longOne with ingress := 9 } 27).length)
    ∧ (let s := receiving 63
       let r := s.dmaRead (byQp s) 0x80000000 32
       r.2.1 = .ok ∧ u16At r.2.2 8 < (s.egressEdit (stored [27]) (26 + 127 / 64)).length) := by and_intros <;> decide +kernel

/-- Ring 63 of instance 0, running, with bytes of DRAM from 0x80000000 on. -/
def ringed (d : List Byte) (f : Ring → Ring) : State := (((withDram.hCreate 6 63 0 false {} (0, 1, 0)).setMem 0x80000000 d)).updRing 63 (fun r => f {
  r with depth := 16, enabled := true, run := true, sqTail := 1, sqBase := 0x80000000, cqBase := 0x80001000 })

/-- A request for a ring, and a state with one job. -/
def askRing : List Byte := [16, 0, 0, 0, 0xE8, 3, 0, 0, 7, 0, 2, 0]
def working (j : Job) : State := (ringed (List.replicate 16 0) (fun r => { r with bucket := 80 })).onCe (fun c => { c with jobs := [j] })

/-- A hash of 10 bytes, and a decryption of 1 byte. -/
def hash10 (src : Nat) : Job := { id := 2, ring := 63, loaded := true, desc := { op := 0x0B, src := src, len := 10 } }
def decrypt : Job := { id := 2, ring := 63, loaded := true, input := [9], desc := { op := 2, len := 1, tag := 0x80000000, tagLen := 16 } }

/-- Key node 8 and a job that needs it. -/
def needsKey (invalid : Bool) : State := (keys 8 [(8, node8 0 invalid)]).onCe (fun c => { c with jobs := [{ id := 2, ring := 63, node := some 8 }] })

theorem meets_RingsAndJobs :
    asked specRingCreate running askRing (running.okRingCreate 0 false) (fun u => u.fnOff 0 5 0 = false ∧ u.firstFree 6 64 = some 0
        ∧ u.roomFor 6 0 0 false 1 1000 = true ∧ u.blockIsOff 0x01 = false)
    ∧ asked specRingCreate (running.updInst 0 (fun i => { i with disabled := [(5, 0)] })) askRing (running.okRingCreate 0 false)
        (fun u => u.fnOff 0 5 0 = true)
    ∧ asked specRingCreate (running.onMgmt (fun m => { m with handles := { m.handles with free := [(6, { fresh := 64 })] } })) askRing
        (running.okRingCreate 0 false) (fun u => u.fnOff 0 5 0 = false ∧ u.firstFree 6 64 = none)
    ∧ (let s := ringed (0x0B :: List.replicate 63 0) id
       let r := s.dmaRead (s.ringAttr 63) 0x80000000 64
       s.jobEngine = true ∧ (s.hFind 6 63).isSome = true ∧ (s.ring 63).run = true ∧ (s.ring 63).stopped = false
        ∧ (s.ring 63).sqHead ≠ (s.ring 63).sqTail ∧ s.ce.jobs.length < 256 ∧ (s.ringJobs 63).length < 32 ∧ s.ringRoom 63 = true
        ∧ s.ringOff 63 = false ∧ r.2.1 = .ok ∧ s.jobCheck 63 (descAt r.2.2) = (.ok, none))
    ∧ (let s := ringed (List.replicate 64 0) id
       let r := s.dmaRead (s.ringAttr 63) 0x80000000 64
       r.2.1 = .ok ∧ Status.badParam ≠ .ok ∧ s.jobCheck 63 (descAt r.2.2) = (.badParam, none))
    ∧ (({} : Desc).ok = false ∧ (let d : Desc := { op := 1, tagLen := 16, key := 1 }; d.ok = true ∧ d.key ≠ 0 ∧ hType d.key ≠ 7))
    ∧ (let s := needsKey false
       s.job 2 = some { id := 2, ring := 63, node := some 8 } ∧ s.ksReady = true ∧ s.jobEngine = true ∧ s.ks.current pathFuel 8 = true)
    ∧ (needsKey true).ks.current pathFuel 8 = false
    ∧ (let j := hash10 0x80000000
       let s := working j
       s.job 2 = some j ∧ s.jobEngine = true ∧ s.jobMayStart j = true ∧ j.input.length < j.desc.total
        ∧ s.dmaMay (s.ringAttr 63) 0x80000000 10 = true ∧ j.nextChunk * 8 ≤ (s.ring j.ring).bucket ∧ j.desc.gcm = false ∧ j.desc.isXts = false
        ∧ (s.dmaRead (s.ringAttr 63) 0x80000000 10).2.1 = .ok)
    ∧ (let j := hash10 0x04000000
       let s := working j
       s.job 2 = some j ∧ s.jobMayStart j = true ∧ (s.dmaRead (s.ringAttr 63) 0x04000000 10).2.1 = .derr)
    ∧ (let j : Job := { hash10 0 with fail := some 0x0020 }
       (working j).job 2 = some j ∧ j.fail = some 0x0020)
    ∧ (let s := working decrypt
       s.job 2 = some decrypt ∧ s.jobMayStart decrypt = true ∧ decrypt.desc.total ≤ decrypt.input.length ∧ decrypt.desc.len ≤ 65536
        ∧ (s.dmaRead (s.ringAttr 63) 0x80000000 16).2.1 = .ok)
    ∧ (let j : Job := { hash10 0x80000000 with input := List.replicate 10 1 }
       let s := working j
       s.job 2 = some j ∧ s.jobMayStart j = true ∧ j.desc.total ≤ j.input.length ∧ j.desc.isXts = false ∧ j.desc.op ≠ 0x0F
        ∧ j.desc.verifies = false)
    ∧ (let j : Job := { decrypt with desc := { op := 3, len := 1, tagLen := 0 } }
       (working j).job 2 = some j ∧ (working j).jobMayStart j = true ∧ j.desc.total ≤ j.input.length ∧ j.desc.isXts = true) := by
  and_intros <;> decide +kernel

/-- The linked module with another state of its bridge. -/
def passed (f : Pass → Pass) : State := linked.onPass f

theorem meets_LinkAndPartner :
    (let s := passed (fun p => { p with link := .training })
     s.pass.paired = true ∧ s.linkMode = true ∧ (15 : BitVec 4) ≠ 0 ∧ s.pass.link = .training)
    ∧ (passed (fun p => { p with link := .down })).pass.link = .down
    ∧ (let s := passed (fun p => { p with lanes := 3 })
       s.pass.link = .up ∧ runLanes (s.pass.lanes ||| 8) = s.pass.lanes ∧ runLanes (s.pass.lanes ||| 12) ≠ s.pass.lanes)
    ∧ (3 < 4 ∧ linked.pass.link = .up ∧ linked.pass.lanes.getLsbD 3 = true ∧ runLanes (putBit linked.pass.lanes 3 false) ≠ 0
        ∧ (let s := passed (fun p => { p with lanes := 8 }); s.pass.lanes.getLsbD 3 = true ∧ runLanes (putBit s.pass.lanes 3 false) = 0))
    ∧ (let s := passed (fun p => { p with wins := [(31, {})], posted := [{ win := 31 }] })
       s.linkFull = true ∧ (s.pass.wins.all (fun w => w.2.clearing.isNone)) = true ∧ ({ win := 31 } : Posted) ∈ s.pass.posted
        ∧ s.pass.wins.has 31 = true ∧ (s.updSwPort 29 (fun u => { u with link := true })).swPort 29 = { s.swPort 29 with link := true }
        ∧ (s.onEth (fun e => { e with bridge := { e.bridge with en := true } })).bridgeOn 29 = true)
    ∧ (linked.supply.holdup = false ∧ linked.linkFull = true)
    ∧ (linked.pass.partner = .alive ∧ (let s := passed (fun p => { p with partner := .cut, beats := 2, hbLast := 0xFFFF })
       s.pass.link = .up ∧ s.pass.partner ≠ .alive ∧ s.pass.beats = 2 ∧ (0 : U16) = s.pass.hbLast + 1 ∧ (2 : U16) ≠ s.pass.hbLast + 1))
    ∧ ((passed (fun p => { p with fault := true })).pass.partner = .alive ∧ linked.pass.fault = false
        ∧ (passed (fun p => { p with sbPartner := 0x300 })).pass.sbPartner.extractLsb' 8 3 = 3)
    ∧ (let s := passed (fun p => { p with partner := .unknown })
       s.pass.paired = true ∧ s.pass.partner = .unknown ∧ s.linkMode = true ∧ s.pass.beats = 0)
    ∧ running.pass.paired = false
    ∧ (let s := { passed (fun p => { p with autoRst := true, partner := .cut }) with supply := { running.supply with straps := {
         running.supply.straps with pairOpen := true } } }
       s.roleA = true ∧ s.pass.autoRst = true ∧ s.pass.partner = .cut ∧ s.pass.autoDone = false ∧ s.pass.fault = false) := by
  and_intros <;> decide +kernel

/-- The linked module with window 31 of instance 0 over the partner's first page. -/
def windowed (u : Window) (f : Pass → Pass) : State := (linked.hCreate 10 31 0 false {} (0, 1, 256)).onPass (fun p => f { p with
  wins := [(31, { u with opened := true, enabled := true, loc := 0x4000000000, size := 0x1000 })] })

/-- A read and a write of an engine in the window. -/
def winX : Xact := at_ 0x4000000FFC [1, 2, 3, 4]

/-- The handle of the window, and a request for a window. -/
def winHandle : U32 := mkHandle 10 0 1 31
def askWindow : List Byte := leBytes 8 0x1000 ++ leBytes 8 0x1000 ++ [1, 0, 0, 0, 7, 0, 2, 0]

theorem meets_PassBridge :
    (let s := windowed {} id
     winX.fits winX.size = true ∧ winX.misaligned winX.size = false ∧ s.portFree .read winX ∧ s.portFree .write winX ∧ s.portFree .posted winX
      ∧ winX.fits winX.data.length = true ∧ winX.misaligned winX.data.length = false
      ∧ target winX.addr.toNat = 0x11 ∧ s.fabricUp = true ∧ s.verdict winX.attr winX.addr.toNat winX.size true false = .ok
      ∧ (s.windowAt winX.attr winX.addr.toNat winX.size).map (fun e => (e.1, s.winOff e.2, e.2.sticky)) = some (31, false, false)
      ∧ s.pass.slots.find? (fun r => r.x.same winX) = none ∧ s.farGone = false ∧ s.pass.slots.all (fun r => r.id ≠ 255) = true)
    ∧ (windowed { sticky := true } id).pass.wins.all (fun e => e.2.sticky) = true
    ∧ (let s (r : RdSlot) := windowed {} (fun p => { p with slots := [r] })
       (s { id := 255, x := winX }).pass.slots.find? (fun r => r.x.same winX) = some { id := 255, x := winX }
        ∧ ({ id := 255, x := winX } : RdSlot).ph = .waiting ∧ ({ id := 255, x := winX } : RdSlot).behind = 0
        ∧ (s { id := 255, behind := 1 }).slot 255 = some { id := 255, behind := 1 } ∧ ({ ph := .ready } : RdSlot).ph = .ready
        ∧ (s { id := 255, x := winX, ph := .ready }).pass.slots.find? (fun r => r.x.same winX) = some { id := 255, x := winX, ph := .ready }
        ∧ 255 < 256 ∧ (s { id := 255 }).slot 255 = some { id := 255 } ∧ (s { id := 0 }).slot 255 = none
        ∧ (s { id := 255, ph := .error }).slot 255 = some { id := 255, ph := .error })
    ∧ (let s (u : Window) := windowed u id
       8 ≤ winX.attr.init.toNat ∧ (s {}).verdict winX.attr winX.addr.toNat winX.data.length false true = .ok
        ∧ ((s {}).windowAt winX.attr winX.addr.toNat winX.data.length).map (fun e => (e.1, (s {}).winOff e.2, e.2.posted)) = some (31, false, false)
        ∧ ((s { posted := true }).windowAt winX.attr winX.addr.toNat winX.data.length).map (fun e => (e.1, e.2.posted, e.2.sticky))
          = some (31, true, false)
        ∧ ((s { posted := true, sticky := true }).windowAt winX.attr winX.addr.toNat winX.data.length).map (fun e => (e.1, e.2.posted, e.2.sticky))
          = some (31, true, true)
        ∧ (s {}).pass.trackers.all (fun r => r.id ≠ 127) = true ∧ (s {}).pass.posted.length < 64
        ∧ 64 ≤ (windowed { posted := true } (fun p => { p with posted := List.replicate 64 {} })).pass.posted.length)
    ∧ (let s := windowed {} (fun p => { p with trackers := [{ id := 127, x := winX }] })
       127 < 128 ∧ s.tracker 127 = some { id := 127, x := winX }
        ∧ (windowed {} (fun p => { p with trackers := [{ id := 127, behind := 1 }] })).tracker 127 = some { id := 127, behind := 1 })
    ∧ ((windowed {} id).hFind 10 31 = some { gen := 1, charge := (0, 1, 256) } ∧ ((windowed {} id).win 31).errValid = false
        ∧ ((windowed { errValid := true } id).win 31).errValid = true ∧ (windowed {} id).linkFull = true
        ∧ (windowed {} (fun p => { p with link := .down })).linkFull = false
        ∧ Resp.qerr ∈ [Resp.aerr, .derr, .terr, .qerr] ∧ 31 ∉ (windowed {} id).pass.poisoned)
    ∧ (let rq := asks 63 0x0902 winHandle []
       let s := (windowed { clearing := some (63, rq.seq), sticky := true } id).updStall 63 (fun t => { t with st := .serving, captured := some rq })
       (s.win 31).clearing = some (63, 1) ∧ (s.stall 63).st = .serving ∧ (s.stall 63).captured = some rq ∧ rq.seq = 1 ∧ rq.route = .stall 63)
    ∧ asked specPassWindowOpen ((windowed {} id).onPass (fun p => { p with wins := [(31, { opened := true, partner := 0x1FFF, size := 1 })] })) askWindow
        (running.okWindow 0) (fun u => u.fnOff 0 10 0 = false ∧ u.blockIsOff 0x60 = false ∧ u.winOverlap 0x1000 0x1000 = true)
    ∧ asked specPassWindowOpen linked askWindow (running.okWindow 0) (fun u => u.fnOff 0 10 0 = false ∧ u.blockIsOff 0x60 = false
        ∧ u.winOverlap 0x1000 0x1000 = false ∧ u.firstFree 10 32 = some 0 ∧ u.roomFor 10 0 0 false 1 ((0x1000 + 0xFFFFF) / 0x100000 * 256) = true)
    ∧ asked specPassErrorClear ((windowed { sticky := true } id).onPass (fun p => { p with link := .down })) [] (fun p => p.isEmpty)
        (fun u => u.linkFull = false) winHandle
    ∧ asked specPassErrorClear (windowed { sticky := true } id) [] (fun p => p.isEmpty)
        (fun u => u.linkFull = true) winHandle
    ∧ asked specSidebandWrite linked (List.replicate 32 0xFF) (fun p => p.length = 32) (fun _ => true)
    ∧ asked specPartnerReset linked [] List.isEmpty (fun _ => true)
    ∧ asked specPairStatus linked [] List.isEmpty (fun _ => true) := by and_intros <;> decide +kernel

/-! ### Ill-formed commands -/

theorem test_wf_refuses_absent_units_first : ([
    .comparatorSelftestDone 8 false 0, .lockstepMismatch 8 0 0, .blockQuiesceIdle 2, .quiesceTimeout { block := 2 }, .blockReady 2,
    .blockReadyTimeout 2, .engineWedgedDetect 0 2, .engineWedgedDetect 256 0, .comparatorFire 64, .hartTimerMatch 8 0,
    .hartTimerMatch 0 4, .loadReserved 8 {}, .storeConditional 8 {}, .toll 8 0, .tollret 8, .mret 8, .sret 8, .trapEntry 8 0 0 0,
    .interruptTake 8 0, .fence 8, .fenceI 8, .mworldWrite 8 0, .l1ParityError 8, .l2CorrectableError 2, .l2UncorrectableError 2 0,
    .poisonedLineConsumed 8 false {} 0, .debugModeEntry { pair := 8 }, .debugResume 8, .debugAccessRegister 8 0, .stallDoorbell 64 {},
    .stallRelease 64 {}, .stallRequestAreaWrite 64 {}, .sessionSetupTimeout 2, .sessionIdleTimeout 2, .remoteResponseReturn 2 {},
    .remoteTimeout 2, .instanceDestroyComplete 63, .instanceResetDrainEnd 63, .instanceResetComplete 63, .fnDisableDrainTimeout 63,
    .fnDisableComplete 63, .canConfigApply 16, .frameIngress 26 {}, .frameIngress 28 {}, .cutThroughStart 26 {}] : List Instr).all (fun c => !c.wf) = true := by decide

theorem test_wf_refuses_absent_units_second : ([
    .cutThroughStart 28 {}, .multicastService 30 0 0, .multicastService 0 8 0, .egressTransmitStart { port := 30 },
    .frameEgressComplete 30 0 false, .linkUp 26, .linkDown 26, .pauseFrameReceive 26 false 0 [], .pauseExpiry 26 0, .pauseRefresh 26,
    .gateEntryAdvance 30, .gateListSwitchover 30, .preemptVerifyResponse 10, .preemptVerifyTimeout 10, .frerRecoveryTimeout 512,
    .ptpMessageReceive 30 {}, .ptpTransmitTimer 30 .sync, .plcaBeaconLost 21, .plcaBeaconLost 26, .plcaBeaconReturn 21,
    .plcaBeaconReturn 26, .plcaTransmitOpportunity 21, .plcaTransmitOpportunity 26, .tc10SleepRequestReceive 22,
    .qpTxTailWrite 128 {} 0, .qpRxTailWrite 128 {} 0, .qpTxDescriptorProcess 128, .qpRxCopy 128, .canFrameReceived 16 {},
    .canProtocolException 16 {}, .canTxStart { chan := 16 }, .canTxSuccess 16, .canArbitrationLost 16, .canBusError 16 {} 0 false,
    .canRecessiveSequence 16, .objTxReqWrite 16 0 {}, .objTxReqWrite 0 128 {}, .objTxAbortWrite 16 0 {}, .objTxAbortWrite 0 128 {},
    .objUpdWrite 16 0 {} false, .objUpdWrite 0 128 {} false, .objConfigWrite 16 0 {}, .objConfigWrite 0 128 {}, .objRxIdRead 16 0 {},
    .objRxIdRead 0 128 {}] : List Instr).all (fun c => !c.wf) = true := by decide

theorem test_wf_refuses_absent_units_third : ([
    .objRxEndRead 16 0 {}, .objRxEndRead 0 128 {}, .canLockExpiry 16 0, .canLockExpiry 0 128, .mapTxdoneWrite 16 0 {} 0,
    .mapTxdoneWrite 0 4 {} 0, .canScheduleColumn 2, .canScheduleChange 2, .gatewayBatchHoldExpiry 4096, .gatewayQueueAgeExpiry 16 0,
    .linSlotStart 8, .linHeaderReceived 8 0, .linHeaderReceived 0 64, .linResponseReceived 8 [], .linFrmDataHiWrite 8 0 {} 0,
    .linFrmDataHiWrite 0 64 {} 0, .linFrmStatRead 8 0 {}, .linFrmStatRead 0 64 {}, .linGotoSleepWrite 8 {}, .linWakeWrite 8 {},
    .linSchedSelWrite 8 {} 0, .linGotoSleepReceived 8, .linBusIdleTimeout 8, .linWakeupDetected 8, .wakeEvent [{ source := 9 }], .quarantineEnd 9,
    .loadOutWrite 64 0 {} 0 0, .loadOutWrite 0 60 {} 0 0, .loadOnSetWrite 64 {} 0, .loadOnClrWrite 64 {} 0, .softStartComplete 60,
    .overcurrentTrip { chan := 60 }, .retryPauseEnd 60, .retryGoodTimer 60, .fetTemperatureSample 60 0, .wireModelUpdate 60 0 0 0,
    .inrushWindowEnd 60, .holdWindowExpiry 60, .offStateTestStart 60 0, .offStateTestEnd 60 0, .undercurrentTimer 60 false,
    .reverseCurrentBlock 4, .reverseBlockClear 4, .groupMsiRateTimer 60, .debounceComplete 64 [] 0] : List Instr).all (fun c => !c.wf) = true := by decide

theorem test_wf_refuses_absent_units_fourth : ([
    .analogThresholdChange 24 [], .inEvtClearWrite 88 {} 0 0, .sensorSupplyCurrentLimit 3, .sensorSupplyRetry 3, .crSqTailWrite 64 {} 0,
    .jobFetch 64, .passLaneFail 4, .passReadDataArrive 256 false [], .passReadSlotTimeout 256, .passReadyExpiry 256,
    .passWriteResponse 128 false, .passWriteTimeout 128, .passInboundTransaction .read {} 32 0, .passPostedFailure 32 {} 0 .ok,
    .passErrorMessageArrive 32 0 0 0 false .ok, .passClearMarkerArrive 32, .passClearAck 32, .canBusIntegration 16,
    .linResponseError 8 (.checksum []), .linNoResponse 8, .addressResolutionRequest 30 (.v4 0)] : List Instr).all (fun c => !c.wf) = true := by decide

/-- The attributes of an initiator that the module does not have. -/
def byNone : Attr := { init := 0xEE }

theorem test_wf_refuses_absent_initiator : ([
    .tbLowWordRead { attr := byNone }, .tcCtrlWrite { attr := byNone }, .fabricRead { attr := byNone }, .fabricWrite { attr := byNone },
    .postedWrite { attr := byNone }, .fabricAmo .add { attr := byNone }, .stallDoorbell 0 byNone, .stallRelease 0 byNone,
    .stallRequestAreaWrite 0 { attr := byNone }, .qpTxTailWrite 0 byNone 0, .qpRxTailWrite 0 byNone 0, .instDbWrite { attr := byNone },
    .objTxReqWrite 0 0 byNone, .objTxAbortWrite 0 0 byNone, .objUpdWrite 0 0 byNone false, .objConfigWrite 0 0 { attr := byNone },
    .objRxIdRead 0 0 byNone, .objRxEndRead 0 0 byNone, .mapTxdoneWrite 0 0 byNone 0, .linFrmDataHiWrite 0 0 byNone 0,
    .linFrmStatRead 0 0 byNone, .linGotoSleepWrite 0 byNone, .linWakeWrite 0 byNone, .linSchedSelWrite 0 byNone 0,
    .loadOutWrite 0 0 byNone 0 0, .loadOnSetWrite 0 byNone 0, .loadOnClrWrite 0 byNone 0, .inEvtClearWrite 0 byNone 0 0,
    .crSqTailWrite 0 byNone 0, .passWindowRead { attr := byNone }, .passNonpostedWrite { attr := byNone },
    .passPostedWrite { attr := byNone }, .registerWrite (.fabric { attr := byNone }), .registerWrite (.csr 8 0 0),
    .lockstepMismatch 0 0 0, .lockstepMismatch 0 8 0] : List Instr).all (fun c => !c.wf) = true := by decide

/-- Every command that carries a request. -/
def requests : List (Request → Instr) := [
    .remoteRequestRelay, .partnerRequestArrive, .sessionOpen, .sessionAuth, .sessionClose, .handleQuery, .handleDestroy,
    .handleBindIrq, .timerCreate, .pendingQuery, .resultRead, .instanceCreate, .instanceDestroy, .instanceReset, .shareChange,
    .fnDisable, .fnEnable, .stallAssign, .stallWithdraw, .guestFileBind, .instanceQuery, .queuePairCreate, .flowCreate, .gateListSet,
    .portConfig, .portStats, .macsecSaSet, .marketStatus, .canSetCreate, .canChannelConfig, .canRecover, .canWakeFilter,
    .canScheduleSet, .linCreate, .linScheduleSet, .gwRuleSet, .gwRuleClear, .gwStats, .loadGroupCreate, .loadChannelConfig, .loadSet,
    .loadLatchClear, .loadStatus, .inputGroupCreate, .inputConfig, .modeRequest, .startGood, .sleepOrder, .wakeConfig, .wakeStatus,
    .blockPower, .keepVote, .keepRelease, .blockStatus, .checkerLock, .secureClaim, .secureRelease, .resetRequest, .recoveryRelease,
    .keyDerive, .keyInvalidate, .keySign, .attest, .ringCreate, .healthQuery, .safetyStatus, .ledgerReaderCreate, .ledgerRead,
    .updateBegin, .updateData, .updateCommit, .updateAbort, .lifecycleSet, .debugOpen, .passWindowOpen, .passErrorClear, .pairStatus,
    .sidebandWrite, .partnerReset]

theorem test_wf_refuses_absent_stall : requests.all (fun c => !(c { route := .stall 64 }).wf) = true := by decide
theorem test_wf_refuses_absent_session : requests.all (fun c => !(c { route := .svc 2 }).wf) = true := by decide
theorem test_wf_refuses_absent_stall_of_partner : requests.all (fun c => !(c { route := .ptr 2 }).wf) = true := by decide
theorem test_wf_refuses_payload_of_other_length : requests.all (fun c => !(c { route := .stall 0, len := 1 }).wf) = true := by decide
theorem test_wf_admits_empty_request : requests.all (fun c => (c { route := .stall 0 }).wf) = true := by decide

/-! ### Words of the custom-0 opcode, written out from R181 -/

/-- imm 0, rs1 x10, funct3 0, rd 0, opcode 0001011. -/
theorem test_decode_toll : decodeTableWord 32 0b00000000000001010000000000001011 = some (.toll 0 tollX10) ∧ decodeCustom0 tollX10 = .toll 10 := by decide
/-- funct3 1, the rest 0. -/
theorem test_decode_tollret : decodeTableWord 32 0b00000000000000000001000000001011 = some (.tollret 0) := by decide
/-- TOLLRET with rs1, TOLL with rd, and TOLL with imm are none of the two; a word of another opcode spells no command. -/
theorem test_decode_illegal : decodeCustom0 0b00000000000010000001000000001011 = .illegal ∧ decodeCustom0 0b00000000000001010000000010001011 = .illegal
    ∧ decodeCustom0 0b10000000000001010000000000001011 = .illegal ∧ decodeTableWord 32 0b00000000000001010000000000010011 = none := by decide

/-! ### Worked examples of the spec -/

/-- The timing words of the worked example under R377: 160 quanta with the sample point at 128, and 40 with it at 30. -/
theorem test_can_timing_words : nbtOk 0x0F9F7E00 = true ∧ nbtBit 0x0F9F7E00 = 160 ∧ ((0x0F9F7E00 : U32).extractLsb' 8 8).toNat + 2 = 128
    ∧ dbtOk 0x0F9F7E00 0x07A94B80 16 false = true ∧ dbtBit 0x07A94B80 = 40 := by decide

/-- The cells of the worked example under R309: 600 bytes with FCS take 3 cells, 1518 take 6. -/
theorem test_cells : cellsOf (List.replicate 596 0) = 3 ∧ cellsOf (List.replicate 1514 0) = 6 := by decide +kernel

/-- The change time of the worked example under R346: loaded at 340 µs with a cycle of 500 µs, it takes force at 500 µs. -/
theorem test_gate_change : ({ cycle := 500000 } : GateList).changeAt 10000340000 = 10000500000 := by decide

/-- The wire of the worked example under R480: 2.5 mm² settles 40.5 K above its reference at 20 A, and 161.9 K at 40 A. -/
theorem test_wire_rise : wireSteady 20000 250 / 100000000000 = 404 ∧ wireSteady 40000 250 / 100000000000 = 1619 := by decide +kernel

/-- The pauses of the worked example on M4 under R484: 1 ms after trip 1, 64 ms after trip 7. -/
theorem test_retry_pauses : ((({} : LoadProt).overcurrent 8 0).pauseEnd = 1000000) ∧ (({ count := 6 } : LoadProt).overcurrent 8 0).pauseEnd = 64000000
    ∧ (({ count := 7 } : LoadProt).overcurrent 8 0).oc = true := by decide

/-- The late wake of the worked example on WK2: latched in phase 3, LATE, and the dwell's end starts the module. -/
theorem test_late_wake : (match execWakeEvent [{ source := 2 }] (running.onSleep (fun p => { p with phase := 3, cfg := [(2, { arm := true })] })) with
    | .next t => t.sleep.late && t.sleep.pending && t.sleep.lastSource = 2
    | .fault _ => false
    | .refused _ => false) = true := by decide +kernel

/-- The NTSCF frame of the worked example on E4: 46 bytes, padded to 60 before its FCS. -/
theorem test_ntscf_length : (ntscfFrame { action := 3, vlan := 20, cls := 6 } [List.replicate 16 0]).length = 60 := by decide +kernel

end Sys2Proof.Tests
end

/-! SUPPORT. The queue of waiting commands is left by every operation: one lemma for each function of the model that gives a state, in the
order of the model's files, and from them, in the last section, the same for every command. -/

namespace Sys2Proof.Machine

open Sys2Proof

/-! ### Shapes -/

@[simp] theorem State.pending_ite {c : Prop} [Decidable c] (a b : State) :
    (if c then a else b).pending = if c then a.pending else b.pending := apply_ite _ _ _ _

@[simp] theorem State.fst_ite {α : Type} {c : Prop} [Decidable c] (p q : State × α) :
    (if c then p else q).1 = if c then p.1 else q.1 := apply_ite _ _ _ _

/-- A change of the state keeps the queue. A lemma that takes a change takes this as its hypothesis: behind the name `simp` can discharge it
with the update laws that hold by `rfl`, which it cannot for the bare equation. -/
def KeepsQueue (f : State → State) : Prop := ∀ t, (f t).pending = t.pending

@[simp] theorem keepsQueue_iff {f : State → State} : KeepsQueue f ↔ ∀ t, (f t).pending = t.pending := Iff.rfl

@[simp] theorem State.foldl_pending {α : Type} {f : State → α → State} (hf : ∀ a, KeepsQueue (fun t => f t a)) (l : List α)
    (s : State) : (l.foldl f s).pending = s.pending := by
  induction l generalizing s with
  | nil => rfl
  | cons a l ih => rw [List.foldl_cons, ih]; exact hf a s

theorem State.foldl_fst_pending {α β : Type} {q : List Instr} {f : State × β → α → State × β}
    (hf : ∀ p a, p.1.pending = q → (f p a).1.pending = q) (l : List α) {p : State × β} (hp : p.1.pending = q) :
    (l.foldl f p).1.pending = q :=
  List.foldlRecOn l f hp (fun p hp a _ => hf p a hp)

/-- An outcome keeps the queue of a state: the next state, if there is one, has the queue of `s`. -/
def Out.KeepsQueue (o : Out) (s : State) : Prop := ∀ t, o = .next t → t.pending = s.pending

@[simp] theorem Out.next_keepsQueue {s t : State} : Out.KeepsQueue (.next t) s ↔ t.pending = s.pending :=
  ⟨fun h => h t rfl, fun h _ e => by cases e; exact h⟩

@[simp] theorem Out.fault_keepsQueue (r : Fault) (s : State) : Out.KeepsQueue (.fault r) s := fun _ e => by cases e

@[simp] theorem Out.ite_keepsQueue {c : Prop} [Decidable c] {a b : Out} {s : State} :
    Out.KeepsQueue (if c then a else b) s ↔ if c then a.KeepsQueue s else b.KeepsQueue s := by split <;> rfl

@[simp] theorem noUnit_keepsQueue (s : State) : noUnit.KeepsQueue s := Out.fault_keepsQueue _ s

/-! ### State, interrupts, ledger, responses and handles (Machine/Ops.lean) -/

@[simp] theorem State.cntSw_pending (s : State) (p : Nat) (f : SwCnt → SwCnt) : (s.cntSw p f).pending = s.pending := by simp [State.cntSw]

@[simp] theorem State.cntEth_pending (s : State) (p : Nat) (f : EthCnt → EthCnt) : (s.cntEth p f).pending = s.pending := by
  simp [State.cntEth]

@[simp] theorem State.ethEvent_pending (s : State) (p k : Nat) : (s.ethEvent p k).pending = s.pending := by simp [State.ethEvent]
@[simp] theorem State.ethGlobal_pending (s : State) (k : Nat) : (s.ethGlobal k).pending = s.pending := by simp [State.ethGlobal]
@[simp] theorem State.swEvent_pending (s : State) (k : Nat) : (s.swEvent k).pending = s.pending := by simp [State.swEvent]
@[simp] theorem State.canEvent_pending (s : State) (n k : Nat) : (s.canEvent n k).pending = s.pending := by simp [State.canEvent]
@[simp] theorem State.psEvent_pending (s : State) (k : Nat) : (s.psEvent k).pending = s.pending := by simp [State.psEvent]
@[simp] theorem State.passEvent_pending (s : State) (k : Nat) : (s.passEvent k).pending = s.pending := by simp [State.passEvent]
@[simp] theorem State.setDram_pending (s : State) (a : Nat) (v : Byte) : (s.setDram a v).pending = s.pending := by simp [State.setDram]
@[simp] theorem State.setSram_pending (s : State) (a : Nat) (v : Byte) : (s.setSram a v).pending = s.pending := by simp [State.setSram]

@[simp] theorem State.setMem_pending (s : State) (a : Nat) (bs : List Byte) : (s.setMem a bs).pending = s.pending := by
  induction bs generalizing s a with
  | nil => rfl
  | cons b bs ih => simp [State.setMem, ih]

@[simp] theorem State.msi_pending (s : State) (h file ident : Nat) : (s.msi h file ident).pending = s.pending := by
  simp only [State.msi, State.pending_ite, State.onCore_pending, State.updPair_pending, ite_self]

@[simp] theorem State.msiBind_pending (s : State) (b : Bind) (sec : Bool) (off : Nat) : (s.msiBind b sec off).pending = s.pending := by
  simp [State.msiBind]

@[simp] theorem State.fireS_pending (s : State) (i : Nat) : (s.fireS i).pending = s.pending := by simp [State.fireS]
@[simp] theorem State.fireM_pending (s : State) (i : Nat) : (s.fireM i).pending = s.pending := by simp [State.fireM]
@[simp] theorem State.pulse_pending (s : State) (i : Nat) : (s.pulse i).pending = s.pending := by simp [State.pulse]

@[simp] theorem State.ledgerPut_pending (s : State) (w : Writer) (code sev : Nat) (data : List Byte) :
    (s.ledgerPut w code sev data).pending = s.pending := by simp [State.ledgerPut]

@[simp] theorem State.ledgerBy_pending (s : State) (w : Writer) (e : Ev) (data : List Byte) :
    (s.ledgerBy w e data).pending = s.pending := by simp [State.ledgerBy]

@[simp] theorem State.log_pending (s : State) (e : Ev) (data : List Byte) : (s.log e data).pending = s.pending := by simp [State.log]

@[simp] theorem State.logAon_pending (s : State) (e : Ev) (data : List Byte) : (s.logAon e data).pending = s.pending := by
  simp [State.logAon]

@[simp] theorem State.aonDrop_pending (s : State) (d : Nat × U32) : (s.aonDrop d).pending = s.pending := by simp [State.aonDrop]
@[simp] theorem State.aonDrops_pending (s : State) : s.aonDrops.pending = s.pending := by simp [State.aonDrops]
@[simp] theorem State.commitBuffer_pending (s : State) : s.commitBuffer.pending = s.pending := by simp [State.commitBuffer]
@[simp] theorem State.stallIrq_pending (s : State) (n : Nat) : (s.stallIrq n).pending = s.pending := by simp [State.stallIrq]

@[simp] theorem State.writeNotice_pending (s : State) (n : Nat) (r : Response) (st : StallState) :
    (s.writeNotice n r st).pending = s.pending := by simp [State.writeNotice]

@[simp] theorem State.stallNotice_pending (s : State) (n : Nat) (r : Response) : (s.stallNotice n r).pending = s.pending := by
  unfold State.stallNotice
  split <;> simp

@[simp] theorem State.svcSend_pending (s : State) (k : Nat) (r : Response) : (s.svcSend k r).pending = s.pending := by simp [State.svcSend]

@[simp] theorem State.udpSend_pending (s : State) (peer : Peer) (r : Response) : (s.udpSend peer r).pending = s.pending := by
  simp [State.udpSend]

@[simp] theorem State.ptrSend_pending (s : State) (o : Nat) (r : Response) : (s.ptrSend o r).pending = s.pending := by simp [State.ptrSend]
@[simp] theorem State.notice_pending (s : State) (key : Nat) (r : Response) : (s.notice key r).pending = s.pending := by simp [State.notice]

@[simp] theorem State.closePend_pending (s : State) (key : Nat) (p : PendRec) (st : Status) :
    (s.closePend key p st).pending = s.pending := by simp [State.closePend]

@[simp] theorem State.complete_pending (s : State) (key : Nat) (seq : U16) (st : Status) (handle : U32) (payload : List Byte) :
    (s.complete key seq st handle payload).pending = s.pending := by
  unfold State.complete
  split <;> simp

@[simp] theorem State.completeQuiet_pending (s : State) (key : Nat) (seq : U16) (st : Status) :
    (s.completeQuiet key seq st).pending = s.pending := by
  unfold State.completeQuiet
  split <;> simp

@[simp] theorem State.completeOpt_pending (s : State) (w : Option (Nat × U16)) (st : Status) (payload : List Byte) :
    (s.completeOpt w st payload).pending = s.pending := by
  unfold State.completeOpt
  split <;> simp

@[simp] theorem State.completeAll_pending (s : State) (ws : List (Nat × U16)) (st : Status) (payload : List Byte) :
    (s.completeAll ws st payload).pending = s.pending := by simp [State.completeAll]

@[simp] theorem State.unsolicited_pending (s : State) (key : Nat) (opcode : U16) (payload : List Byte) :
    (s.unsolicited key opcode payload).pending = s.pending := by simp [State.unsolicited]

@[simp] theorem State.feedPartner_pending (s : State) : s.feedPartner.pending = s.pending := by
  unfold State.feedPartner
  split <;> simp

@[simp] theorem State.respond_pending (s : State) (r : Route) (a : Response) : (s.respond r a).pending = s.pending := by
  unfold State.respond
  split <;> simp

@[simp] theorem State.setResult_pending (s : State) (key : Nat) (bytes : List Byte) : (s.setResult key bytes).pending = s.pending := by
  simp [State.setResult]

@[simp] theorem State.takeFree_pending (s : State) (k n : Nat) : (s.takeFree k n).pending = s.pending := by simp [State.takeFree]

@[simp] theorem State.hCreate_pending (s : State) (typ index owner : Nat) (sec : Bool) (b : Bind) (charge : Nat × Nat × Nat) :
    (s.hCreate typ index owner sec b charge).pending = s.pending := by simp [State.hCreate]

@[simp] theorem State.hFree_pending (s : State) (typ index : Nat) : (s.hFree typ index).pending = s.pending := by simp [State.hFree]

/-! ### The end of a command (Machine/Flags.lean) -/

@[simp] theorem State.raiseAgain_pending (s : State) (i : Nat) : (s.raiseAgain i).pending = s.pending := by simp [State.raiseAgain]
@[simp] theorem fin_keepsQueue {s t : State} : (fin t).KeepsQueue s ↔ t.pending = s.pending := by simp [fin]

/-! ### Issue, wait and access (Machine/Admission.lean) -/

@[simp] theorem State.discarded_pending (s : State) (t : Attr) : (s.discarded t).pending = s.pending := by simp [State.discarded]

@[simp] theorem State.issue_keepsQueue (s : State) (t : Attr) {k : Attr → Out} (hk : ∀ t, (k t).KeepsQueue s) :
    (s.issue t k).KeepsQueue s := by simp [State.issue, hk]

@[simp] theorem State.issueX_keepsQueue (s : State) (x : Xact) {k : Xact → Out} (hk : ∀ x, (k x).KeepsQueue s) :
    (s.issueX x k).KeepsQueue s := State.issue_keepsQueue s x.attr fun _ => hk _

@[simp] theorem State.capture_pending (s : State) (t : Attr) (a : Nat) (wr : Bool) (r : Resp) :
    (s.capture t a wr r).pending = s.pending := by simp [State.capture]

@[simp] theorem State.answered_pending (s : State) (r : Resp) (d : List Byte) : (s.answered r d).pending = s.pending := by
  simp [State.answered]

@[simp] theorem State.issued_pending (s : State) (t : Attr) : (s.issued t).pending = s.pending := by simp [State.issued]
@[simp] theorem State.enqueue_pending (s : State) (w : Waiting) : (s.enqueue w).pending = s.pending := by simp [State.enqueue]

theorem State.held_pending {s t : State} {x : Xact} {kind : XKind} (h : s.held x kind = some t) : t.pending = s.pending := by
  simp only [State.held] at h
  repeat' split at h
  all_goals cases h <;> simp

@[simp] theorem State.accessAt_pending (s : State) (x : Xact) (kind : XKind) {own : State → State × Resp × List Byte}
    (hown : KeepsQueue (fun t => (own t).1)) : (s.accessAt x kind own).pending = s.pending := by
  unfold State.accessAt
  extract_lets n
  split
  · rfl
  · split
    · exact State.held_pending ‹_›
    · split
      · exact (State.answered_pending ..).trans (hown s)
      · simp

@[simp] theorem State.writeAt_pending (s : State) (x : Xact) {own : State → State} (hown : KeepsQueue own) :
    (s.writeAt x own).pending = s.pending := State.accessAt_pending s x .write hown

/-! ### Requests (Machine/Operands.lean) -/

@[simp] theorem State.record_pending (s : State) (rq : Request) (a : Ans) : (s.record rq a).pending = s.pending := by simp [State.record]

@[simp] theorem State.heard_pending (s : State) (rq : Request) : (s.heard rq).pending = s.pending := by
  unfold State.heard
  split <;> simp

@[simp] theorem State.dropped_pending (s : State) (rq : Request) : (s.dropped rq).pending = s.pending := by simp [State.dropped]

@[simp] theorem serveWith_keepsQueue (c : CmdSpec) (rq : Request) (s : State) (valid : List Byte → Bool) (retiring : Bool)
    {own : State → State × Ans} (hown : KeepsQueue (fun t => (own t).1)) : (serveWith c rq s valid retiring own).KeepsQueue s := by
  have h : (own (s.heard rq)).1.pending = s.pending := by simpa using hown (s.heard rq)
  unfold serveWith
  simp only
  repeat' split
  all_goals simp [h]

@[simp] theorem serve_keepsQueue (c : CmdSpec) (rq : Request) (s : State) (valid : List Byte → Bool) {own : State → State × Ans}
    (hown : KeepsQueue (fun t => (own t).1)) : (serve c rq s valid own).KeepsQueue s := serveWith_keepsQueue c rq s valid false hown

@[simp] theorem no_pending (s : State) (e : Status) : (no s e).1.pending = s.pending := by simp [no]
@[simp] theorem yes_pending (s : State) : (yes s).1.pending = s.pending := by simp [yes]
@[simp] theorem yesWith_pending (s : State) (p : List Byte) : (yesWith s p).1.pending = s.pending := by simp [yesWith]

/-! ### The time-aware bridge (Machine/Bridge.lean) -/

@[simp] theorem State.updTab_pending (s : State) (p : Nat) (f : TabPort → TabPort) : (s.updTab p f).pending = s.pending := by
  simp [State.updTab]

@[simp] theorem State.setGm_pending (s : State) (id : U64) (steps : Byte) (role : BitVec 2) :
    (s.setGm id steps role).pending = s.pending := by simp [State.setGm]

@[simp] theorem State.grandmaster_pending (s : State) : s.grandmaster.pending = s.pending := by simp [State.grandmaster]

@[simp] theorem State.tabRoles_pending (s : State) (slave : Option Nat) (root : PtpClock) (steps : Byte) :
    (s.tabRoles slave root steps).pending = s.pending := by simp [State.tabRoles]

@[simp] theorem State.bmca_pending (s : State) : s.bmca.pending = s.pending := by
  unfold State.bmca
  simp only
  repeat' split
  all_goals simp

@[simp] theorem State.tabDown_pending (s : State) (p : Nat) : (s.tabDown p).pending = s.pending := by simp [State.tabDown]

/-! ### The switch: market and frames (Machine/Switch.lean) -/

@[simp] theorem State.fcNow_pending (s : State) (p : Nat) (f : FcFrame) : (s.fcNow p f).pending = s.pending := by simp [State.fcNow]
@[simp] theorem State.fcSend_pending (s : State) (p : Nat) (f : FcFrame) : (s.fcSend p f).pending = s.pending := by simp [State.fcSend]
@[simp] theorem State.fcFlush_pending (s : State) (p : Nat) : (s.fcFlush p).pending = s.pending := by simp [State.fcFlush]
@[simp] theorem State.flowControl_pending (s : State) (p : Nat) : (s.flowControl p).pending = s.pending := by simp [State.flowControl]
@[simp] theorem State.marketLow_pending (s : State) : s.marketLow.pending = s.pending := by simp [State.marketLow]

@[simp] theorem State.takeCells_pending (s : State) (f : Frame) (via : Option Nat) : (s.takeCells f via).pending = s.pending := by
  unfold State.takeCells
  repeat' split
  all_goals simp

@[simp] theorem State.freeFrame_pending (s : State) (f : Frame) : (s.freeFrame f).pending = s.pending := by
  unfold State.freeFrame
  repeat' split
  all_goals simp

@[simp] theorem State.freeIfDone_pending (s : State) (i : Nat) : (s.freeIfDone i).pending = s.pending := by
  unfold State.freeIfDone
  split <;> simp

@[simp] theorem State.rxBegin_pending (s : State) (i : Nat) : (s.rxBegin i).pending = s.pending := by simp [State.rxBegin]
@[simp] theorem State.rxPop_pending (s : State) (q i : Nat) : (s.rxPop q i).pending = s.pending := by simp [State.rxPop]
@[simp] theorem State.dropDest_pending (s : State) (i p : Nat) : (s.dropDest i p).pending = s.pending := by simp [State.dropDest]
@[simp] theorem State.pushOut_pending (s : State) (f : Frame) : (s.pushOut f).pending = s.pending := by simp [State.pushOut]
@[simp] theorem State.keep_pending (s : State) (f : Frame) (via : Option Nat) : (s.keep f via).pending = s.pending := by simp [State.keep]

@[simp] theorem State.refuseFrame_pending (s : State) (f : Frame) (acct : Nat) : (s.refuseFrame f acct).pending = s.pending := by
  simp [State.refuseFrame]

@[simp] theorem State.store_pending (s : State) (f : Frame) : (s.store f).1.pending = s.pending := by
  unfold State.store
  simp only
  repeat' split
  all_goals simp

/-! ### Ingress and forwarding (Machine/Forward.lean) -/

@[simp] theorem State.dropClassify_pending (s : State) (p : Nat) : (s.dropClassify p).pending = s.pending := by simp [State.dropClassify]
@[simp] theorem State.dropQp_pending (s : State) (p : Nat) : (s.dropQp p).pending = s.pending := by simp [State.dropQp]
@[simp] theorem State.police_pending (s : State) (n port len : Nat) : (s.police n port len).1.pending = s.pending := by simp [State.police]

@[simp] theorem State.frerStage_pending (s : State) (l : Lookup) (port : Nat) (b : List Byte) :
    (s.frerStage l port b).1.pending = s.pending := by
  unfold State.frerStage
  simp only
  repeat' split
  all_goals simp

@[simp] theorem State.forward_pending (s : State) (a : Arrival) : (s.forward a).1.pending = s.pending := by
  unfold State.forward
  cases he : (s.classify a).entry <;> cases hp : s.policerOf (s.classify a) <;> simp [he, hp]

@[simp] theorem State.cntMs_pending (s : State) (p : Nat) (f : MsCnt → MsCnt) : (s.cntMs p f).pending = s.pending := by simp [State.cntMs]

@[simp] theorem State.macsecRx_pending (s : State) (p : Nat) (f : RawFrame) : (s.macsecRx p f).1.pending = s.pending := by
  unfold State.macsecRx
  simp only
  repeat' split
  all_goals simp

@[simp] theorem State.macsecTx_pending (s : State) (p : Nat) (b : List Byte) : (s.macsecTx p b).1.pending = s.pending := by
  simp [State.macsecTx]

theorem State.macDrop_pending {s t : State} {p : Nat} {f : RawFrame} (h : s.macDrop p f = some t) : t.pending = s.pending := by
  simp only [State.macDrop] at h
  repeat' split at h
  all_goals cases h <;> simp

@[simp] theorem State.goodFrame_pending (s : State) (p n : Nat) : (s.goodFrame p n).pending = s.pending := by simp [State.goodFrame]

@[simp] theorem execFrameIngress_keepsQueue (port : Nat) (f : RawFrame) (s : State) : (execFrameIngress port f s).KeepsQueue s := by
  unfold execFrameIngress
  cases h : s.macDrop port f with
  | some t => simp [State.macDrop_pending h]
  | none =>
    cases hb : ((s.goodFrame port f.bytes.length).macsecRx port f).2 <;> simp [hb]

@[simp] theorem State.cutThrough_pending (s : State) (a : Arrival) : (s.cutThrough a).1.pending = s.pending := by simp [State.cutThrough]
@[simp] theorem State.enter_pending (s : State) (a : Arrival) : (s.enter a).1.pending = s.pending := by simp [State.enter]

@[simp] theorem execCutThroughStart_keepsQueue (port : Nat) (f : RawFrame) (s : State) : (execCutThroughStart port f s).KeepsQueue s := by
  unfold execCutThroughStart
  simp only
  repeat' split
  all_goals simp

@[simp] theorem State.lagLink_pending (s : State) (p : Nat) (up : Bool) : (s.lagLink p up).pending = s.pending := by
  unfold State.lagLink
  split <;> simp

@[simp] theorem execLinkUp_keepsQueue (port : Nat) (s : State) : (execLinkUp port s).KeepsQueue s := by simp [execLinkUp]
@[simp] theorem State.linkDown_pending (s : State) (port : Nat) : (s.linkDown port).pending = s.pending := by simp [State.linkDown]
@[simp] theorem execLinkDown_keepsQueue (port : Nat) (s : State) : (execLinkDown port s).KeepsQueue s := by simp [execLinkDown]

/-! ### CAN (Machine/Can.lean) -/

@[simp] theorem State.setMsi_pending (s : State) (key off : Nat) : (s.setMsi key off).pending = s.pending := by
  unfold State.setMsi
  split <;> simp

@[simp] theorem State.objMsi_pending (s : State) (chan obj : Nat) : (s.objMsi chan obj).pending = s.pending := by
  unfold State.objMsi
  split <;> simp

@[simp] theorem State.setMsis_pending (s : State) (chan : Nat) : (s.setMsis chan).pending = s.pending := by simp [State.setMsis]

@[simp] theorem State.canGoto_pending (s : State) (chan : Nat) (st : CanState) : (s.canGoto chan st).pending = s.pending := by
  simp [State.canGoto]

@[simp] theorem State.txEnd_pending (s : State) (chan obj : Nat) (st : U16) (msi : Bool) :
    (s.txEnd chan obj st msi).pending = s.pending := by simp [State.txEnd]

@[simp] theorem State.objReq_pending (s : State) (chan obj : Nat) : (s.objReq chan obj).pending = s.pending := by simp [State.objReq]
@[simp] theorem State.objAbort_pending (s : State) (chan obj : Nat) : (s.objAbort chan obj).pending = s.pending := by simp [State.objAbort]

@[simp] theorem State.objUpd_pending (s : State) (chan obj : Nat) (upd : Bool) : (s.objUpd chan obj upd).pending = s.pending := by
  simp [State.objUpd]

@[simp] theorem execCanTxStart_keepsQueue (sof : CanSof) (s : State) : (execCanTxStart sof s).KeepsQueue s := by
  unfold execCanTxStart
  simp only
  repeat' split
  all_goals simp

@[simp] theorem State.canOffBus_pending (s : State) (chan : Nat) : (s.canOffBus chan).pending = s.pending := by simp [State.canOffBus]
@[simp] theorem State.gwSent_pending (s : State) (chan : Nat) : (s.gwSent chan).pending = s.pending := by simp [State.gwSent]

@[simp] theorem State.canConfine_pending (s : State) (chan : Nat) : (s.canConfine chan).pending = s.pending := by
  unfold State.canConfine
  simp only
  split <;> simp

@[simp] theorem execCanTxSuccess_keepsQueue (chan : Nat) (s : State) : (execCanTxSuccess chan s).KeepsQueue s := by
  unfold execCanTxSuccess
  repeat' split
  all_goals simp

@[simp] theorem State.txFail_pending (s : State) (chan obj : Nat) (oneShot : U16) : (s.txFail chan obj oneShot).pending = s.pending := by
  simp [State.txFail]

@[simp] theorem execCanArbitrationLost_keepsQueue (chan : Nat) (s : State) : (execCanArbitrationLost chan s).KeepsQueue s := by
  unfold execCanArbitrationLost
  repeat' split
  all_goals simp

@[simp] theorem State.canBusOffEnter_pending (s : State) (chan : Nat) : (s.canBusOffEnter chan).pending = s.pending := by
  simp [State.canBusOffEnter]

@[simp] theorem execCanBusError_keepsQueue (chan : Nat) (fault : CanFault) (more : Nat) (spared : Bool) (s : State) :
    (execCanBusError chan fault more spared s).KeepsQueue s := by
  unfold execCanBusError
  simp only
  repeat' split
  all_goals simp

@[simp] theorem execCanRecessiveSequence_keepsQueue (chan : Nat) (s : State) : (execCanRecessiveSequence chan s).KeepsQueue s := by
  simp [execCanRecessiveSequence]

@[simp] theorem execCanBusIntegration_keepsQueue (chan : Nat) (s : State) : (execCanBusIntegration chan s).KeepsQueue s := by
  simp [execCanBusIntegration]

@[simp] theorem State.setFilter_pending (s : State) (chan : Nat) (e : Nat × CanSet) (f : CanFrame) :
    (s.setFilter chan e f).1.pending = s.pending := by
  unfold State.setFilter
  simp only
  repeat' split
  all_goals simp

@[simp] theorem State.canFilter_pending (s : State) (chan : Nat) (f : CanFrame) : (s.canFilter chan f).pending = s.pending := by
  simp only [State.canFilter, State.pending_ite, State.updCan_pending, ite_self]
  exact State.foldl_fst_pending (fun p e h => by split <;> simp [h]) _ rfl

@[simp] theorem execCanFrameReceived_keepsQueue (chan : Nat) (f : CanFrame) (s : State) : (execCanFrameReceived chan f s).KeepsQueue s := by
  simp [execCanFrameReceived]

@[simp] theorem execCanProtocolException_keepsQueue (chan : Nat) (f : CanFrame) (s : State) :
    (execCanProtocolException chan f s).KeepsQueue s := by simp [execCanProtocolException]

@[simp] theorem State.objRead_pending (s : State) (chan obj off : Nat) : (s.objRead chan obj off).pending = s.pending := by
  simp [State.objRead]

@[simp] theorem State.objPut_pending (s : State) (chan obj off : Nat) (v m : U32) : (s.objPut chan obj off v m).pending = s.pending := by
  simp [State.objPut]

@[simp] theorem State.objWrite_pending (s : State) (chan obj off : Nat) (v m : U32) :
    (s.objWrite chan obj off v m).1.pending = s.pending := by simp [State.objWrite]

@[simp] theorem State.objWrites_pending (s : State) (chan obj base a : Nat) (d : List Byte) :
    (s.objWrites chan obj base a d).1.pending = s.pending :=
  State.foldl_fst_pending (fun p w h => by simp [h]) _ rfl

@[simp] theorem State.objRow_keepsQueue (s : State) (chan obj : Nat) (t : Attr) (off : Nat) (v m : U32) :
    (s.objRow chan obj t off v m).KeepsQueue s := by simp [State.objRow]

@[simp] theorem execObjTxReqWrite_keepsQueue (chan obj : Nat) (attr : Attr) (s : State) :
    (execObjTxReqWrite chan obj attr s).KeepsQueue s := by simp [execObjTxReqWrite]

@[simp] theorem execObjTxAbortWrite_keepsQueue (chan obj : Nat) (attr : Attr) (s : State) :
    (execObjTxAbortWrite chan obj attr s).KeepsQueue s := by simp [execObjTxAbortWrite]

@[simp] theorem execObjUpdWrite_keepsQueue (chan obj : Nat) (attr : Attr) (upd : Bool) (s : State) :
    (execObjUpdWrite chan obj attr upd s).KeepsQueue s := by simp [execObjUpdWrite]

@[simp] theorem State.objReadRow_keepsQueue (s : State) (chan obj : Nat) (t : Attr) (off : Nat) :
    (s.objReadRow chan obj t off).KeepsQueue s := by simp [State.objReadRow]

@[simp] theorem execObjRxIdRead_keepsQueue (chan obj : Nat) (attr : Attr) (s : State) : (execObjRxIdRead chan obj attr s).KeepsQueue s := by
  simp [execObjRxIdRead]

@[simp] theorem execObjRxEndRead_keepsQueue (chan obj : Nat) (attr : Attr) (s : State) :
    (execObjRxEndRead chan obj attr s).KeepsQueue s := by simp [execObjRxEndRead]

@[simp] theorem execCanLockExpiry_keepsQueue (chan obj : Nat) (s : State) : (execCanLockExpiry chan obj s).KeepsQueue s := by
  simp [execCanLockExpiry]

@[simp] theorem State.mapClear_pending (s : State) (t : Attr) (chan word : Nat) (v : U32) :
    (s.mapClear t chan word v).pending = s.pending := by simp [State.mapClear]

@[simp] theorem execMapTxdoneWrite_keepsQueue (chan word : Nat) (attr : Attr) (value : U32) (s : State) :
    (execMapTxdoneWrite chan word attr value s).KeepsQueue s := by simp [execMapTxdoneWrite]

@[simp] theorem State.schEnd_pending (s : State) (chan : Nat) : (s.schEnd chan).pending = s.pending := by simp [State.schEnd]

@[simp] theorem State.schCell_pending (s : State) (chan owner cell : Nat) : (s.schCell chan owner cell).pending = s.pending := by
  simp [State.schCell]

@[simp] theorem execCanScheduleColumn_keepsQueue (chan : Nat) (s : State) : (execCanScheduleColumn chan s).KeepsQueue s := by
  unfold execCanScheduleColumn
  repeat' split
  all_goals simp

@[simp] theorem execCanScheduleChange_keepsQueue (chan : Nat) (s : State) : (execCanScheduleChange chan s).KeepsQueue s := by
  unfold execCanScheduleChange
  repeat' split
  all_goals simp

@[simp] theorem State.schStopOf_pending (s : State) (owner : Nat) : (s.schStopOf owner).pending = s.pending := by simp [State.schStopOf]

@[simp] theorem State.setAbort_pending (s : State) (key : Nat) (st : U16) (msi : Bool) : (s.setAbort key st msi).pending = s.pending := by
  simp [State.setAbort]

@[simp] theorem State.zeroObjs_pending (s : State) (chan first count : Nat) : (s.zeroObjs chan first count).pending = s.pending := by
  simp [State.zeroObjs]

@[simp] theorem State.setZero_pending (s : State) (key : Nat) : (s.setZero key).pending = s.pending := by simp [State.setZero]
@[simp] theorem State.setStop_pending (s : State) (key : Nat) (b : Bool) : (s.setStop key b).pending = s.pending := by simp [State.setStop]

@[simp] theorem State.setDrop_pending (s : State) (key : Nat) : (s.setDrop key).pending = s.pending := by
  unfold State.setDrop
  simp only
  split <;> simp

@[simp] theorem ownCanSetCreate_pending (rq : Request) (s : State) : (ownCanSetCreate rq s).1.pending = s.pending := by
  simp [ownCanSetCreate]

@[simp] theorem execCanSetCreate_keepsQueue (rq : Request) (s : State) : (execCanSetCreate rq s).KeepsQueue s := by simp [execCanSetCreate]

@[simp] theorem ownCanChannelConfig_pending (rq : Request) (s : State) : (ownCanChannelConfig rq s).1.pending = s.pending := by
  simp [ownCanChannelConfig]

@[simp] theorem execCanChannelConfig_keepsQueue (rq : Request) (s : State) : (execCanChannelConfig rq s).KeepsQueue s := by
  simp [execCanChannelConfig]

@[simp] theorem State.canBadFormats_pending (s : State) (chan : Nat) : (s.canBadFormats chan).pending = s.pending := by
  simp [State.canBadFormats]

@[simp] theorem State.canApply_pending (s : State) (chan : Nat) (g : CanCfg) : (s.canApply chan g).pending = s.pending := by
  unfold State.canApply
  simp only
  repeat' split
  all_goals simp

@[simp] theorem execCanConfigApply_keepsQueue (chan : Nat) (s : State) : (execCanConfigApply chan s).KeepsQueue s := by
  unfold execCanConfigApply
  repeat' split
  all_goals simp

@[simp] theorem State.canStored_pending (s : State) (g : Tab CanCfg) : (s.canStored g).pending = s.pending := by simp [State.canStored]
@[simp] theorem ownCanRecover_pending (rq : Request) (s : State) : (ownCanRecover rq s).1.pending = s.pending := by simp [ownCanRecover]
@[simp] theorem execCanRecover_keepsQueue (rq : Request) (s : State) : (execCanRecover rq s).KeepsQueue s := by simp [execCanRecover]

@[simp] theorem ownCanWakeFilter_pending (rq : Request) (s : State) : (ownCanWakeFilter rq s).1.pending = s.pending := by
  simp [ownCanWakeFilter]

@[simp] theorem execCanWakeFilter_keepsQueue (rq : Request) (s : State) : (execCanWakeFilter rq s).KeepsQueue s := by
  simp [execCanWakeFilter]

@[simp] theorem ownCanScheduleSet_pending (rq : Request) (s : State) : (ownCanScheduleSet rq s).1.pending = s.pending := by
  simp [ownCanScheduleSet]

@[simp] theorem execCanScheduleSet_keepsQueue (rq : Request) (s : State) : (execCanScheduleSet rq s).KeepsQueue s := by
  simp [execCanScheduleSet]

/-! ### LIN (Machine/Lin.lean) -/

@[simp] theorem State.linMsi_pending (s : State) (chan : Nat) : (s.linMsi chan).pending = s.pending := by
  unfold State.linMsi
  split <;> simp

@[simp] theorem State.linEvent_pending (s : State) (chan k : Nat) : (s.linEvent chan k).pending = s.pending := by simp [State.linEvent]
@[simp] theorem State.linBufMsi_pending (s : State) (chan id : Nat) : (s.linBufMsi chan id).pending = s.pending := by simp [State.linBufMsi]
@[simp] theorem State.linSent_pending (s : State) (chan id : Nat) : (s.linSent chan id).pending = s.pending := by simp [State.linSent]

@[simp] theorem State.linOwnerWrite_pending (s : State) (chan id : Nat) (d : List Byte) :
    (s.linOwnerWrite chan id d).pending = s.pending := by simp [State.linOwnerWrite]

@[simp] theorem State.linBusSleep_pending (s : State) (chan : Nat) : (s.linBusSleep chan).pending = s.pending := by simp [State.linBusSleep]

@[simp] theorem execLinSlotStart_keepsQueue (chan : Nat) (s : State) : (execLinSlotStart chan s).KeepsQueue s := by
  unfold execLinSlotStart
  simp only
  repeat' split
  all_goals simp

@[simp] theorem execLinHeaderReceived_keepsQueue (chan id : Nat) (s : State) : (execLinHeaderReceived chan id s).KeepsQueue s := by
  simp [execLinHeaderReceived]

@[simp] theorem State.linJudge_pending (s : State) (chan id : Nat) (bytes : List Byte) :
    (s.linJudge chan id bytes).pending = s.pending := by simp [State.linJudge]

@[simp] theorem execLinResponseReceived_keepsQueue (chan : Nat) (bytes : List Byte) (s : State) :
    (execLinResponseReceived chan bytes s).KeepsQueue s := by
  unfold execLinResponseReceived
  repeat' split
  all_goals simp

@[simp] theorem execLinResponseError_keepsQueue (chan : Nat) (kind : LinError) (s : State) :
    (execLinResponseError chan kind s).KeepsQueue s := by
  unfold execLinResponseError
  repeat' split
  all_goals simp

@[simp] theorem execLinNoResponse_keepsQueue (chan : Nat) (s : State) : (execLinNoResponse chan s).KeepsQueue s := by
  unfold execLinNoResponse
  repeat' split
  all_goals simp

@[simp] theorem execLinGotoSleepReceived_keepsQueue (chan : Nat) (s : State) : (execLinGotoSleepReceived chan s).KeepsQueue s := by
  simp [execLinGotoSleepReceived]

@[simp] theorem execLinBusIdleTimeout_keepsQueue (chan : Nat) (s : State) : (execLinBusIdleTimeout chan s).KeepsQueue s := by
  simp [execLinBusIdleTimeout]

@[simp] theorem execLinWakeupDetected_keepsQueue (chan : Nat) (s : State) : (execLinWakeupDetected chan s).KeepsQueue s := by
  simp [execLinWakeupDetected]

@[simp] theorem State.linPulse_pending (s : State) (chan : Nat) : (s.linPulse chan).pending = s.pending := by simp [State.linPulse]
@[simp] theorem State.linRead_pending (s : State) (chan off : Nat) : (s.linRead chan off).pending = s.pending := by simp [State.linRead]

@[simp] theorem State.linCtrl_pending (s : State) (chan : Nat) (v m : U32) : (s.linCtrl chan v m).pending = s.pending := by
  simp [State.linCtrl]

@[simp] theorem State.linPut_pending (s : State) (chan off : Nat) (v m : U32) : (s.linPut chan off v m).pending = s.pending := by
  simp [State.linPut]

@[simp] theorem execLinFrmDataHiWrite_keepsQueue (chan id : Nat) (attr : Attr) (value : U32) (s : State) :
    (execLinFrmDataHiWrite chan id attr value s).KeepsQueue s := by simp [execLinFrmDataHiWrite]

@[simp] theorem execLinFrmStatRead_keepsQueue (chan id : Nat) (attr : Attr) (s : State) :
    (execLinFrmStatRead chan id attr s).KeepsQueue s := by simp [execLinFrmStatRead]

@[simp] theorem execLinGotoSleepWrite_keepsQueue (chan : Nat) (attr : Attr) (s : State) :
    (execLinGotoSleepWrite chan attr s).KeepsQueue s := by simp [execLinGotoSleepWrite]

@[simp] theorem execLinWakeWrite_keepsQueue (chan : Nat) (attr : Attr) (s : State) : (execLinWakeWrite chan attr s).KeepsQueue s := by
  simp [execLinWakeWrite]

@[simp] theorem execLinSchedSelWrite_keepsQueue (chan : Nat) (attr : Attr) (value : BitVec 2) (s : State) :
    (execLinSchedSelWrite chan attr value s).KeepsQueue s := by simp [execLinSchedSelWrite]

@[simp] theorem State.linClear_pending (s : State) (chan : Nat) : (s.linClear chan).pending = s.pending := by simp [State.linClear]

@[simp] theorem State.linHalt_pending (s : State) (chan : Nat) (b : Bool) : (s.linHalt chan b).pending = s.pending := by
  simp [State.linHalt]

@[simp] theorem ownLinCreate_pending (rq : Request) (s : State) : (ownLinCreate rq s).1.pending = s.pending := by simp [ownLinCreate]
@[simp] theorem execLinCreate_keepsQueue (rq : Request) (s : State) : (execLinCreate rq s).KeepsQueue s := by simp [execLinCreate]

@[simp] theorem ownLinScheduleSet_pending (rq : Request) (s : State) : (ownLinScheduleSet rq s).1.pending = s.pending := by
  simp [ownLinScheduleSet]

@[simp] theorem execLinScheduleSet_keepsQueue (rq : Request) (s : State) : (execLinScheduleSet rq s).KeepsQueue s := by
  simp [execLinScheduleSet]

/-! ### The frame gateway (Machine/Gateway.lean) -/

@[simp] theorem State.gwEvent_pending (s : State) (k : Nat) : (s.gwEvent k).pending = s.pending := by simp [State.gwEvent]
@[simp] theorem State.convertDrop_pending (s : State) (n : Nat) : (s.convertDrop n).pending = s.pending := by simp [State.convertDrop]
@[simp] theorem State.ruleForward_pending (s : State) (n : Nat) : (s.ruleForward n).pending = s.pending := by simp [State.ruleForward]

@[simp] theorem State.gwQueue_pending (s : State) (chan : Nat) (f : CanFrame) : (s.gwQueue chan f).1.pending = s.pending := by
  simp [State.gwQueue]

@[simp] theorem State.actCan_pending (s : State) (n : Nat) (r : GwRule) (t : Tapped) : (s.actCan n r t).pending = s.pending := by
  unfold State.actCan
  simp only
  split <;> simp

@[simp] theorem State.actLin_pending (s : State) (n : Nat) (r : GwRule) (t : Tapped) : (s.actLin n r t).pending = s.pending := by
  simp [State.actLin]

@[simp] theorem State.ntscfSend_pending (s : State) (n : Nat) (msgs : List (List Byte)) : (s.ntscfSend n msgs).pending = s.pending := by
  simp [State.ntscfSend]

@[simp] theorem State.actAcf_pending (s : State) (n : Nat) (r : GwRule) (t : Tapped) : (s.actAcf n r t).pending = s.pending := by
  simp [State.actAcf]

@[simp] theorem State.ruleAct_pending (s : State) (n : Nat) (r : GwRule) (t : Tapped) : (s.ruleAct n r t).pending = s.pending := by
  unfold State.ruleAct
  split <;> simp

@[simp] theorem State.evaluate_pending (s : State) (t : Tapped) (l : List (Nat × GwRule)) (k : Nat) :
    (s.evaluate t l k).pending = s.pending := by
  induction l generalizing s k with
  | nil => simp [State.evaluate]
  | cons e l ih => simp [State.evaluate, ih]

@[simp] theorem State.tap_pending (s : State) (t : Tapped) : (s.tap t).pending = s.pending := by simp [State.tap]
@[simp] theorem execGatewayTap_keepsQueue (src : TapSource) (s : State) : (execGatewayTap src s).KeepsQueue s := by simp [execGatewayTap]
@[simp] theorem State.unparsed_pending (s : State) : s.unparsed.pending = s.pending := by simp [State.unparsed]

@[simp] theorem execGatewayEthFrame_keepsQueue (frame : Nat) (s : State) : (execGatewayEthFrame frame s).KeepsQueue s := by
  unfold execGatewayEthFrame
  split
  · simp
  · extract_lets s1
    split
    · simp [s1]
    · rw [fin_keepsQueue, State.foldl_pending]
      · simp [s1]
      · intro m t
        split
        · split <;> simp
        · simp

@[simp] theorem execGatewayBatchHoldExpiry_keepsQueue (rule : Nat) (s : State) : (execGatewayBatchHoldExpiry rule s).KeepsQueue s := by
  simp [execGatewayBatchHoldExpiry]

@[simp] theorem execGatewayQueueAgeExpiry_keepsQueue (chan entry : Nat) (s : State) :
    (execGatewayQueueAgeExpiry chan entry s).KeepsQueue s := by simp [execGatewayQueueAgeExpiry]

@[simp] theorem State.putRule_pending (s : State) (n : Nat) (r : GwRule) : (s.putRule n r).pending = s.pending := by simp [State.putRule]
@[simp] theorem ownGwRuleSet_pending (rq : Request) (s : State) : (ownGwRuleSet rq s).1.pending = s.pending := by simp [ownGwRuleSet]
@[simp] theorem execGwRuleSet_keepsQueue (rq : Request) (s : State) : (execGwRuleSet rq s).KeepsQueue s := by simp [execGwRuleSet]
@[simp] theorem ownGwRuleClear_pending (rq : Request) (s : State) : (ownGwRuleClear rq s).1.pending = s.pending := by simp [ownGwRuleClear]
@[simp] theorem execGwRuleClear_keepsQueue (rq : Request) (s : State) : (execGwRuleClear rq s).KeepsQueue s := by simp [execGwRuleClear]
@[simp] theorem execGwStats_keepsQueue (rq : Request) (s : State) : (execGwStats rq s).KeepsQueue s := by simp [execGwStats]

/-! ### Load channels (Machine/Load.lean) -/

@[simp] theorem State.loadStart_pending (s : State) (c : Nat) : (s.loadStart c).pending = s.pending := by simp [State.loadStart]
@[simp] theorem State.loadSwitch_pending (s : State) (c : Nat) : (s.loadSwitch c).pending = s.pending := by simp [State.loadSwitch]
@[simp] theorem State.loadDrive_pending (s : State) (c : Nat) : (s.loadDrive c).pending = s.pending := by simp [State.loadDrive]
@[simp] theorem State.loadPulse_pending (s : State) (c : Nat) : (s.loadPulse c).pending = s.pending := by simp [State.loadPulse]

@[simp] theorem State.groupMsi_pending (s : State) (g : Nat) : (s.groupMsi g).pending = s.pending := by
  unfold State.groupMsi
  split <;> simp

@[simp] theorem State.loadReport_pending (s0 s : State) (c : Nat) (byOwner : Bool) : (s0.loadReport s c byOwner).pending = s.pending := by
  unfold State.loadReport
  split <;> simp

@[simp] theorem State.partnerReport_pending (s0 s : State) (c : Nat) : (s0.partnerReport s c).pending = s.pending := by
  simp [State.partnerReport]

@[simp] theorem State.dutyStep_pending (s0 s : State) (c : Nat) : (s0.dutyStep s c).pending = s.pending := by simp [State.dutyStep]

@[simp] theorem State.loadStep_pending (s0 s : State) (c : Nat) (byOwner : Bool) : (s0.loadStep s c byOwner).pending = s.pending := by
  simp [State.loadStep]

@[simp] theorem State.latchLog_pending (s : State) (e : Ev) (c bits : Nat) : (s.latchLog e c bits).pending = s.pending := by
  simp [State.latchLog]

@[simp] theorem State.loadPolicy_pending (s : State) (c : Nat) : (s.loadPolicy c).pending = s.pending := by simp [State.loadPolicy]

@[simp] theorem State.loadPolicies_pending (s : State) (mask : U64) : (s.loadPolicies mask).pending = s.pending := by
  simp [State.loadPolicies]

@[simp] theorem State.loadWrite_pending (s : State) (c : Nat) (f : LoadCmd → LoadCmd) : (s.loadWrite c f).pending = s.pending := by
  simp [State.loadWrite]

@[simp] theorem State.loadIgnore_pending (s : State) (page : Nat) : (s.loadIgnore page).pending = s.pending := by simp [State.loadIgnore]

@[simp] theorem State.loadWrites_pending (s : State) (page inst : Nat) (sec : Bool) (cs : List Nat) (f : Nat → LoadCmd → LoadCmd) :
    (s.loadWrites page inst sec cs f).pending = s.pending := by simp [State.loadWrites]

@[simp] theorem State.loadOutPut_pending (s : State) (page : Nat) (t : Attr) (c : Nat) (v m : U32) :
    (s.loadOutPut page t c v m).pending = s.pending := by simp [State.loadOutPut]

@[simp] theorem State.loadMask_pending (s : State) (page : Nat) (t : Attr) (mask : U64) (on : Bool) :
    (s.loadMask page t mask on).pending = s.pending := by simp [State.loadMask]

@[simp] theorem execLoadOutWrite_keepsQueue (page chan : Nat) (attr : Attr) (mask value : U32) (s : State) :
    (execLoadOutWrite page chan attr mask value s).KeepsQueue s := by simp [execLoadOutWrite]

@[simp] theorem execLoadOnSetWrite_keepsQueue (page : Nat) (attr : Attr) (mask : U64) (s : State) :
    (execLoadOnSetWrite page attr mask s).KeepsQueue s := by simp [execLoadOnSetWrite]

@[simp] theorem execLoadOnClrWrite_keepsQueue (page : Nat) (attr : Attr) (mask : U64) (s : State) :
    (execLoadOnClrWrite page attr mask s).KeepsQueue s := by simp [execLoadOnClrWrite]

@[simp] theorem State.loadChgClear_pending (s : State) (page : Nat) (t : Attr) (mask : U64) :
    (s.loadChgClear page t mask).pending = s.pending := by simp [State.loadChgClear]

@[simp] theorem State.groupMake_pending (s : State) (g : Nat) (u : LoadGroup) : (s.groupMake g u).pending = s.pending := by
  simp [State.groupMake]

@[simp] theorem ownLoadGroupCreate_pending (rq : Request) (s : State) : (ownLoadGroupCreate rq s).1.pending = s.pending := by
  simp [ownLoadGroupCreate]

@[simp] theorem execLoadGroupCreate_keepsQueue (rq : Request) (s : State) : (execLoadGroupCreate rq s).KeepsQueue s := by
  simp [execLoadGroupCreate]

@[simp] theorem State.groupDrop_pending (s : State) (g : Nat) : (s.groupDrop g).pending = s.pending := by simp [State.groupDrop]

@[simp] theorem ownLoadChannelConfig_pending (rq : Request) (s : State) : (ownLoadChannelConfig rq s).1.pending = s.pending := by
  simp [ownLoadChannelConfig]

@[simp] theorem execLoadChannelConfig_keepsQueue (rq : Request) (s : State) : (execLoadChannelConfig rq s).KeepsQueue s := by
  simp [execLoadChannelConfig]

@[simp] theorem ownLoadSet_pending (rq : Request) (s : State) : (ownLoadSet rq s).1.pending = s.pending := by simp [ownLoadSet]
@[simp] theorem execLoadSet_keepsQueue (rq : Request) (s : State) : (execLoadSet rq s).KeepsQueue s := by simp [execLoadSet]

@[simp] theorem ownLoadLatchClear_pending (rq : Request) (s : State) : (ownLoadLatchClear rq s).1.pending = s.pending := by
  simp [ownLoadLatchClear]

@[simp] theorem execLoadLatchClear_keepsQueue (rq : Request) (s : State) : (execLoadLatchClear rq s).KeepsQueue s := by
  simp [execLoadLatchClear]

@[simp] theorem execLoadStatus_keepsQueue (rq : Request) (s : State) : (execLoadStatus rq s).KeepsQueue s := by simp [execLoadStatus]

/-! ### Protection of load channels (Machine/Protect.lean) -/

@[simp] theorem execSoftStartComplete_keepsQueue (chan : Nat) (s : State) : (execSoftStartComplete chan s).KeepsQueue s := by
  simp [execSoftStartComplete]

@[simp] theorem State.logNew_pending (s0 s : State) (c bits : Nat) : (s0.logNew s c bits).pending = s.pending := by simp [State.logNew]

@[simp] theorem execOvercurrentTrip_keepsQueue (trip : TripPoint) (s : State) : (execOvercurrentTrip trip s).KeepsQueue s := by
  simp [execOvercurrentTrip]

@[simp] theorem execRetryPauseEnd_keepsQueue (chan : Nat) (s : State) : (execRetryPauseEnd chan s).KeepsQueue s := by
  simp [execRetryPauseEnd]

@[simp] theorem execRetryGoodTimer_keepsQueue (chan : Nat) (s : State) : (execRetryGoodTimer chan s).KeepsQueue s := by
  simp [execRetryGoodTimer]

@[simp] theorem execFetTemperatureSample_keepsQueue (chan : Nat) (temp : ℤ) (s : State) :
    (execFetTemperatureSample chan temp s).KeepsQueue s := by simp [execFetTemperatureSample]

@[simp] theorem execWireModelUpdate_keepsQueue (chan rms mean onCur : Nat) (s : State) :
    (execWireModelUpdate chan rms mean onCur s).KeepsQueue s := by simp [execWireModelUpdate]

@[simp] theorem execInrushWindowEnd_keepsQueue (chan : Nat) (s : State) : (execInrushWindowEnd chan s).KeepsQueue s := by
  simp [execInrushWindowEnd]

@[simp] theorem execHoldWindowExpiry_keepsQueue (chan : Nat) (s : State) : (execHoldWindowExpiry chan s).KeepsQueue s := by
  simp [execHoldWindowExpiry]

@[simp] theorem State.limpOn_pending (s : State) : s.limpOn.pending = s.pending := by simp [State.limpOn]
@[simp] theorem execLimpSwitchOn_keepsQueue (s : State) : (execLimpSwitchOn s).KeepsQueue s := by simp [execLimpSwitchOn]

@[simp] theorem execVbusFunctionalRangeReached_keepsQueue (mv : U16) (s : State) : (execVbusFunctionalRangeReached mv s).KeepsQueue s := by
  simp [execVbusFunctionalRangeReached]

@[simp] theorem execOffStateTestStart_keepsQueue (chan mv : Nat) (s : State) : (execOffStateTestStart chan mv s).KeepsQueue s := by
  simp [execOffStateTestStart]

@[simp] theorem execOffStateTestEnd_keepsQueue (chan mv : Nat) (s : State) : (execOffStateTestEnd chan mv s).KeepsQueue s := by
  simp [execOffStateTestEnd]

@[simp] theorem execUndercurrentTimer_keepsQueue (chan : Nat) (below : Bool) (s : State) :
    (execUndercurrentTimer chan below s).KeepsQueue s := by simp [execUndercurrentTimer]

@[simp] theorem execReverseCurrentBlock_keepsQueue (chan : Nat) (s : State) : (execReverseCurrentBlock chan s).KeepsQueue s := by
  simp [execReverseCurrentBlock]

@[simp] theorem execReverseBlockClear_keepsQueue (chan : Nat) (s : State) : (execReverseBlockClear chan s).KeepsQueue s := by
  simp [execReverseBlockClear]

@[simp] theorem execGroupMsiRateTimer_keepsQueue (group : Nat) (s : State) : (execGroupMsiRateTimer group s).KeepsQueue s := by
  simp [execGroupMsiRateTimer]

@[simp] theorem State.shedAll_pending (s : State) (cs : List (Nat × Nat)) : (s.shedAll cs).pending = s.pending := by simp [State.shedAll]
@[simp] theorem execLoadShed_keepsQueue (s : State) : (execLoadShed s).KeepsQueue s := by simp [execLoadShed]

@[simp] theorem execPowerStageShed_keepsQueue (feed : Bool) (s : State) : (execPowerStageShed feed s).KeepsQueue s := by
  unfold execPowerStageShed
  simp only
  split <;> simp

@[simp] theorem execLoadRestore_keepsQueue (s : State) : (execLoadRestore s).KeepsQueue s := by
  unfold execLoadRestore
  split <;> simp

@[simp] theorem State.psPut_pending (s : State) (o : Nat) (v m : U32) : (s.psPut o v m).pending = s.pending := by simp [State.psPut]

@[simp] theorem State.loadPagePut_pending (s : State) (t : Attr) (page o : Nat) (v m : U32) :
    (s.loadPagePut t page o v m).pending = s.pending := by simp [State.loadPagePut]

/-! ### Inputs (Machine/Inputs.lean) -/

@[simp] theorem State.inEvent_pending (s : State) (k : Nat) : (s.inEvent k).pending = s.pending := by simp [State.inEvent]

@[simp] theorem State.inMsi_pending (s : State) (g : Nat) : (s.inMsi g).pending = s.pending := by
  unfold State.inMsi
  split <;> simp

@[simp] theorem State.inPost_pending (s : State) (g : Nat) (f : InGroup → InGroup) : (s.inPost g f).pending = s.pending := by
  simp [State.inPost]

@[simp] theorem State.dEdge_pending (s : State) (d : Nat) (rising : Bool) (time : U64) : (s.dEdge d rising time).pending = s.pending := by
  unfold State.dEdge
  split <;> simp

@[simp] theorem State.dSample_pending (s : State) (d mv : Nat) (time : U64) : (s.dSample d mv time).pending = s.pending := by
  simp [State.dSample]

@[simp] theorem execDebounceComplete_keepsQueue (input : Nat) (samples : List Nat) (time : U64) (s : State) :
    (execDebounceComplete input samples time s).KeepsQueue s := by simp [execDebounceComplete]

@[simp] theorem State.vSample_pending (s : State) (v : Nat) (mv : ℤ) : (s.vSample v mv).pending = s.pending := by
  unfold State.vSample
  split <;> simp

@[simp] theorem execAnalogThresholdChange_keepsQueue (input : Nat) (samples : List ℤ) (s : State) :
    (execAnalogThresholdChange input samples s).KeepsQueue s := by simp [execAnalogThresholdChange]

@[simp] theorem State.inClear_pending (s : State) (g : Nat) (d : U64) (v : BitVec 24) : (s.inClear g d v).pending = s.pending := by
  simp [State.inClear]

@[simp] theorem State.inLeft_pending (s : State) (g : Nat) : (s.inLeft g).pending = s.pending := by simp [State.inLeft]

@[simp] theorem execInEvtClearWrite_keepsQueue (group : Nat) (attr : Attr) (d : U64) (v : BitVec 24) (s : State) :
    (execInEvtClearWrite group attr d v s).KeepsQueue s := by simp [execInEvtClearWrite]

@[simp] theorem execInWakeChange_keepsQueue (wk : List Nat) (ign : Nat) (s : State) : (execInWakeChange wk ign s).KeepsQueue s := by
  simp [execInWakeChange]

@[simp] theorem State.sensStep_pending (s : State) : s.sensStep.pending = s.pending := by simp [State.sensStep]

@[simp] theorem execSensorSupplyCurrentLimit_keepsQueue (supply : Nat) (s : State) :
    (execSensorSupplyCurrentLimit supply s).KeepsQueue s := by simp [execSensorSupplyCurrentLimit]

@[simp] theorem execSensorSupplyRetry_keepsQueue (supply : Nat) (s : State) : (execSensorSupplyRetry supply s).KeepsQueue s := by
  simp [execSensorSupplyRetry]

@[simp] theorem ownInputGroupCreate_pending (rq : Request) (s : State) : (ownInputGroupCreate rq s).1.pending = s.pending := by
  simp [ownInputGroupCreate]

@[simp] theorem execInputGroupCreate_keepsQueue (rq : Request) (s : State) : (execInputGroupCreate rq s).KeepsQueue s := by
  simp [execInputGroupCreate]

@[simp] theorem State.inGroupDrop_pending (s : State) (g : Nat) : (s.inGroupDrop g).pending = s.pending := by simp [State.inGroupDrop]
@[simp] theorem ownInputConfig_pending (rq : Request) (s : State) : (ownInputConfig rq s).1.pending = s.pending := by simp [ownInputConfig]
@[simp] theorem execInputConfig_keepsQueue (rq : Request) (s : State) : (execInputConfig rq s).KeepsQueue s := by simp [execInputConfig]

@[simp] theorem State.inPagePut_pending (s : State) (g o : Nat) (v m : U32) : (s.inPagePut g o v m).pending = s.pending := by
  simp [State.inPagePut]

@[simp] theorem State.inPut_pending (s : State) (o : Nat) (v m : U32) : (s.inPut o v m).pending = s.pending := by simp [State.inPut]

/-! ### Keys (Machine/Keys.lean) -/

@[simp] theorem State.rstPulse_pending (s : State) (c : ReqCause) : (s.rstPulse c).pending = s.pending := by simp [State.rstPulse]

@[simp] theorem State.amindPulse_pending (s : State) (c : ReqCause) (code issuer : Nat) :
    (s.amindPulse c code issuer).pending = s.pending := by simp [State.amindPulse]

@[simp] theorem State.reclaim_pending (s : State) : s.reclaim.pending = s.pending := by simp [State.reclaim]

@[simp] theorem State.purgeMacsec_pending (s : State) (hit : Nat → Bool) : (s.purgeMacsec hit).pending = s.pending := by
  simp [State.purgeMacsec]

@[simp] theorem State.purge_pending (s : State) (top : Nat) : (s.purge top).pending = s.pending := by simp [State.purge]

@[simp] theorem State.nodeHandle_pending (s : State) (n own : Nat) (sec : Bool) : (s.nodeHandle n own sec).1.pending = s.pending := by
  simp [State.nodeHandle]

@[simp] theorem ownKeyDerive_pending (rq : Request) (s : State) : (ownKeyDerive rq s).1.pending = s.pending := by
  unfold ownKeyDerive
  simp only
  repeat' split
  all_goals simp

@[simp] theorem execKeyDerive_keepsQueue (rq : Request) (s : State) : (execKeyDerive rq s).KeepsQueue s := by simp [execKeyDerive]

@[simp] theorem ownKeyInvalidate_pending (rq : Request) (s : State) : (ownKeyInvalidate rq s).1.pending = s.pending := by
  simp [ownKeyInvalidate]

@[simp] theorem execKeyInvalidate_keepsQueue (rq : Request) (s : State) : (execKeyInvalidate rq s).KeepsQueue s := by
  simp [execKeyInvalidate]

@[simp] theorem ownKeySign_pending (rq : Request) (s : State) : (ownKeySign rq s).1.pending = s.pending := by simp [ownKeySign]
@[simp] theorem execKeySign_keepsQueue (rq : Request) (s : State) : (execKeySign rq s).KeepsQueue s := by simp [execKeySign]

@[simp] theorem State.signDone_pending (s : State) (g : Signing) (bytes : List Byte) : (s.signDone g bytes).pending = s.pending := by
  simp [State.signDone]

@[simp] theorem execKeySignComplete_keepsQueue (s : State) : (execKeySignComplete s).KeepsQueue s := by
  unfold execKeySignComplete
  split <;> simp

@[simp] theorem ownAttest_pending (rq : Request) (s : State) : (ownAttest rq s).1.pending = s.pending := by simp [ownAttest]
@[simp] theorem execAttest_keepsQueue (rq : Request) (s : State) : (execAttest rq s).KeepsQueue s := by simp [execAttest]

@[simp] theorem execAttestComplete_keepsQueue (s : State) : (execAttestComplete s).KeepsQueue s := by
  unfold execAttestComplete
  split <;> simp

@[simp] theorem ownMacsecSa_pending (rq : Request) (s : State) : (ownMacsecSa rq s).1.pending = s.pending := by
  unfold ownMacsecSa
  simp only
  repeat' split
  all_goals simp

@[simp] theorem execMacsecSaSet_keepsQueue (rq : Request) (s : State) : (execMacsecSaSet rq s).KeepsQueue s := by simp [execMacsecSaSet]
@[simp] theorem State.loseDram_pending (s : State) : s.loseDram.pending = s.pending := by simp [State.loseDram]
@[simp] theorem State.discardDramKey_pending (s : State) : s.discardDramKey.pending = s.pending := by simp [State.discardDramKey]

@[simp] theorem execKeyStoreAlarm_keepsQueue (code : BitVec 3) (s : State) : (execKeyStoreAlarm code s).KeepsQueue s := by
  simp [execKeyStoreAlarm]

@[simp] theorem State.ceEventPut_pending (s : State) (o : Nat) (v m : U32) : (s.ceEventPut o v m).pending = s.pending := by
  simp [State.ceEventPut]

/-! ### Cipher rings (Machine/Rings.lean) -/

@[simp] theorem ownRingCreate_pending (rq : Request) (s : State) : (ownRingCreate rq s).1.pending = s.pending := by
  unfold ownRingCreate
  split <;> simp

@[simp] theorem execRingCreate_keepsQueue (rq : Request) (s : State) : (execRingCreate rq s).KeepsQueue s := by simp [execRingCreate]
@[simp] theorem State.ringTail_pending (s : State) (r : Nat) (v : U16) : (s.ringTail r v).pending = s.pending := by simp [State.ringTail]

@[simp] theorem execCrSqTailWrite_keepsQueue (ring : Nat) (attr : Attr) (value : U16) (s : State) :
    (execCrSqTailWrite ring attr value s).KeepsQueue s := by simp [execCrSqTailWrite]

@[simp] theorem State.ringPut_pending (s : State) (r o : Nat) (v m : U32) : (s.ringPut r o v m).pending = s.pending := by
  simp [State.ringPut]

/-! ### Timers (Machine/Time.lean) -/

@[simp] theorem execTbLowWordRead_keepsQueue (x : Xact) (s : State) : (execTbLowWordRead x s).KeepsQueue s := by simp [execTbLowWordRead]

@[simp] theorem State.timerMsi_pending (s : State) (n : Nat) : (s.timerMsi n).pending = s.pending := by
  unfold State.timerMsi
  split <;> simp

@[simp] theorem State.fireDue_pending (s : State) (n : Nat) : (s.fireDue n).pending = s.pending := by simp [State.fireDue]

@[simp] theorem execComparatorFire_keepsQueue (timer : Nat) (s : State) : (execComparatorFire timer s).KeepsQueue s := by
  simp [execComparatorFire]

@[simp] theorem State.tcCtrlSet_pending (s : State) (n : Nat) (v m : U32) : (s.tcCtrlSet n v m).pending = s.pending := by
  simp [State.tcCtrlSet]

@[simp] theorem State.tcCtrlPut_pending (s : State) (n : Nat) (v m : U32) : (s.tcCtrlPut n v m).pending = s.pending := by
  simp [State.tcCtrlPut]

@[simp] theorem State.tcPut_pending (s : State) (n o : Nat) (v m : U32) : (s.tcPut n o v m).pending = s.pending := by simp [State.tcPut]
@[simp] theorem State.tcFirst_pending (s : State) (a : Nat) : (s.tcFirst a).pending = s.pending := by simp [State.tcFirst]
@[simp] theorem execTcCtrlWrite_keepsQueue (x : Xact) (s : State) : (execTcCtrlWrite x s).KeepsQueue s := by simp [execTcCtrlWrite]

@[simp] theorem ownTimerCreate_pending (rq : Request) (s : State) : (ownTimerCreate rq s).1.pending = s.pending := by
  unfold ownTimerCreate
  split <;> simp

@[simp] theorem execTimerCreate_keepsQueue (rq : Request) (s : State) : (execTimerCreate rq s).KeepsQueue s := by simp [execTimerCreate]

/-! ### Registers of harts (Machine/Csr.lean) -/

@[simp] theorem State.retired_pending (s : State) (n : Nat) (f : Hart → Hart) : (s.retired n f).pending = s.pending := by
  simp [State.retired]

@[simp] theorem State.stalledOn_pending (s : State) (n ev : Nat) : (s.stalledOn n ev).pending = s.pending := by simp [State.stalledOn]
@[simp] theorem State.timerBits_pending (s : State) (n : Nat) : (s.timerBits n).pending = s.pending := by simp [State.timerBits]

@[simp] theorem State.putCsr_pending (s : State) (n : Nat) (w dbg : Bool) (c : Nat) (v : U64) :
    (s.putCsr n w dbg c v).pending = s.pending := by simp [State.putCsr]

@[simp] theorem State.csrSet_pending (s : State) (n : Nat) (w dbg : Bool) (c : Nat) (v : U64) :
    (s.csrSet n w dbg c v).pending = s.pending := by simp [State.csrSet]

@[simp] theorem State.csrWrite_pending (s : State) (n : Nat) (w : Bool) (c : Nat) (v : U64) : (s.csrWrite n w c v).pending = s.pending := by
  simp [State.csrWrite]

/-! ### Harts (Machine/Harts.lean) -/

@[simp] theorem State.trap_pending (s : State) (n cause : Nat) (tval pc : U64) : (s.trap n cause tval pc).pending = s.pending := by
  simp [State.trap]

@[simp] theorem State.illegal_pending (s : State) (n cause : Nat) : (s.illegal n cause).pending = s.pending := by simp [State.illegal]

@[simp] theorem execTrapEntry_keepsQueue (hart : Nat) (cause tval pc : U64) (s : State) :
    (execTrapEntry hart cause tval pc s).KeepsQueue s := by simp [execTrapEntry]

@[simp] theorem State.misalignedTrap_pending (s : State) (hart cause : Nat) : (s.misalignedTrap hart cause).pending = s.pending := by
  simp [State.misalignedTrap]

@[simp] theorem State.aligned_keepsQueue (s : State) (x : Xact) (n cause : Nat) {k : Out} (hk : k.KeepsQueue s) :
    (s.aligned x n cause k).KeepsQueue s := by simp [State.aligned, hk]

@[simp] theorem State.debugEnter_pending (s : State) (p : Nat) (why : HaltCause) : (s.debugEnter p why).pending = s.pending := by
  simp [State.debugEnter]

@[simp] theorem State.heldHalt_pending (s : State) (p : Nat) : (s.heldHalt p).pending = s.pending := by simp [State.heldHalt]

@[simp] theorem State.haltPair_pending (s : State) (p : Nat) (why : HaltCause) : (s.haltPair p why).pending = s.pending := by
  unfold State.haltPair
  repeat' split
  all_goals simp

@[simp] theorem execDebugModeEntry_keepsQueue (entry : DebugEntry) (s : State) : (execDebugModeEntry entry s).KeepsQueue s := by
  simp [execDebugModeEntry]

@[simp] theorem State.resumePair_pending (s : State) (p : Nat) : (s.resumePair p).pending = s.pending := by simp [State.resumePair]
@[simp] theorem execDebugResume_keepsQueue (pair : Nat) (s : State) : (execDebugResume pair s).KeepsQueue s := by simp [execDebugResume]

@[simp] theorem State.regWrite_pending (s : State) (n r : Nat) (v : U64) : (s.regWrite n r v).pending = s.pending := by
  simp [State.regWrite]

@[simp] theorem State.cmderr_pending (s : State) (c : Nat) : (s.cmderr c).pending = s.pending := by simp [State.cmderr]

@[simp] theorem State.transfer_pending (s : State) (hart : Nat) (command : U32) : (s.transfer hart command).pending = s.pending := by
  simp [State.transfer]

@[simp] theorem execDebugAccessRegister_keepsQueue (hart : Nat) (command : U32) (s : State) :
    (execDebugAccessRegister hart command s).KeepsQueue s := by simp [execDebugAccessRegister]

@[simp] theorem execMret_keepsQueue (hart : Nat) (s : State) : (execMret hart s).KeepsQueue s := by simp [execMret]
@[simp] theorem execSret_keepsQueue (hart : Nat) (s : State) : (execSret hart s).KeepsQueue s := by simp [execSret]

@[simp] theorem State.markerFetch_pending (s : State) (hart a : Nat) : (s.markerFetch hart a).1.pending = s.pending := by
  unfold State.markerFetch
  repeat' split
  all_goals simp

@[simp] theorem State.tollChecks_pending (s : State) (hart : Nat) (t : U64) : (s.tollChecks hart t).1.pending = s.pending := by
  simp [State.tollChecks]

@[simp] theorem State.tollAt_pending (s : State) (hart : Nat) (target : U64) : (s.tollAt hart target).pending = s.pending := by
  simp [State.tollAt]

@[simp] theorem State.tollretAt_pending (s : State) (hart : Nat) : (s.tollretAt hart).pending = s.pending := by simp [State.tollretAt]

@[simp] theorem execToll_keepsQueue (hart : Nat) (word : U32) (s : State) : (execToll hart word s).KeepsQueue s := by
  unfold execToll
  repeat' split
  all_goals simp

@[simp] theorem execTollret_keepsQueue (hart : Nat) (s : State) : (execTollret hart s).KeepsQueue s := by simp [execTollret]

@[simp] theorem State.csrExec_pending (s : State) (n c : Nat) (v : U64) : (s.csrExec n c v).pending = s.pending := by
  unfold State.csrExec
  split <;> simp

@[simp] theorem execMworldWrite_keepsQueue (hart : Nat) (value : U64) (s : State) : (execMworldWrite hart value s).KeepsQueue s := by
  simp [execMworldWrite]

@[simp] theorem execFence_keepsQueue (hart : Nat) (s : State) : (execFence hart s).KeepsQueue s := by simp [execFence]
@[simp] theorem execFenceI_keepsQueue (hart : Nat) (s : State) : (execFenceI hart s).KeepsQueue s := by simp [execFenceI]

@[simp] theorem execHartTimerMatch_keepsQueue (hart which : Nat) (s : State) : (execHartTimerMatch hart which s).KeepsQueue s := by
  simp [execHartTimerMatch]

@[simp] theorem execInterruptTake_keepsQueue (hart cause : Nat) (s : State) : (execInterruptTake hart cause s).KeepsQueue s := by
  unfold execInterruptTake
  simp only
  repeat' split
  all_goals simp

@[simp] theorem execL1ParityError_keepsQueue (hart : Nat) (s : State) : (execL1ParityError hart s).KeepsQueue s := by
  simp [execL1ParityError]

@[simp] theorem execL2CorrectableError_keepsQueue (cluster : Nat) (s : State) : (execL2CorrectableError cluster s).KeepsQueue s := by
  simp [execL2CorrectableError]

@[simp] theorem execL2UncorrectableError_keepsQueue (cluster : Nat) (line : A40) (s : State) :
    (execL2UncorrectableError cluster line s).KeepsQueue s := by simp [execL2UncorrectableError]

@[simp] theorem execPoisonedLineConsumed_keepsQueue (hart : Nat) (fetch : Bool) (addr : PoisonUse) (pc : U64) (s : State) :
    (execPoisonedLineConsumed hart fetch addr pc s).KeepsQueue s := by simp [execPoisonedLineConsumed]

@[simp] theorem State.genMsi_pending (s : State) (o file : Nat) (v : U32) : (s.genMsi o file v).pending = s.pending := by
  simp [State.genMsi]

/- A change of one part enters here and in `State.ethPut_pending` as a hypothesis: by the `rfl` of its law the kernel would compare the
part itself before and after, and unfold the offset, a large numeral, one by one. -/
@[simp] theorem State.aplicPut_pending (s : State) (o : Nat) (v : U32) : (s.aplicPut o v).pending = s.pending := by
  have h := s.onCore_pending
  simp [State.aplicPut, -State.onCore_pending, h]

/-! ### Register pages (Machine/Pages.lean) -/

@[simp] theorem State.swPut_pending (s : State) (o : Nat) (v m : U32) : (s.swPut o v m).pending = s.pending := by simp [State.swPut]
@[simp] theorem State.qpTxTail_pending (s : State) (i : Nat) (v : U16) : (s.qpTxTail i v).pending = s.pending := by simp [State.qpTxTail]
@[simp] theorem State.qpRxTail_pending (s : State) (i : Nat) (v : U16) : (s.qpRxTail i v).pending = s.pending := by simp [State.qpRxTail]
@[simp] theorem State.qpPut_pending (s : State) (i o : Nat) (v m : U32) : (s.qpPut i o v m).pending = s.pending := by simp [State.qpPut]

@[simp] theorem State.qpTailRow_keepsQueue (s : State) (i o : Nat) (t : Attr) (value : U16) {own : State → State}
    (hown : KeepsQueue own) : (s.qpTailRow i o t value own).KeepsQueue s := by
  simp [State.qpTailRow, keepsQueue_iff.mp hown]

@[simp] theorem execQpTxTailWrite_keepsQueue (qp : Nat) (attr : Attr) (value : U16) (s : State) :
    (execQpTxTailWrite qp attr value s).KeepsQueue s := by simp [execQpTxTailWrite]

@[simp] theorem execQpRxTailWrite_keepsQueue (qp : Nat) (attr : Attr) (value : U16) (s : State) :
    (execQpRxTailWrite qp attr value s).KeepsQueue s := by simp [execQpRxTailWrite]

@[simp] theorem State.ethPut_pending (s : State) (o : Nat) (v m : U32) : (s.ethPut o v m).1.pending = s.pending := by
  have h := s.onEth_pending
  simp [State.ethPut, -State.onEth_pending, h]

@[simp] theorem State.canRead_pending (s : State) (t : Attr) (a : Nat) : (s.canRead t a).1.pending = s.pending := by simp [State.canRead]

@[simp] theorem State.canWrite_pending (s : State) (t : Attr) (a : Nat) (v m : U32) : (s.canWrite t a v m).1.pending = s.pending := by
  simp [State.canWrite]

/-! ### The Pass link (Machine/PassLink.lean) -/

@[simp] theorem State.setLink_pending (s : State) (l : LinkState) : (s.setLink l).pending = s.pending := by simp [State.setLink]
@[simp] theorem State.pxLink_pending (s : State) : s.pxLink.pending = s.pending := by simp [State.pxLink]
@[simp] theorem State.sbTake_pending (s : State) (v : BitVec 256) : (s.sbTake v).pending = s.pending := by simp [State.sbTake]

@[simp] theorem State.countFerr_pending (s : State) (a : Nat) : (s.countFerr a).pending = s.pending := by
  unfold State.countFerr
  split <;> simp

@[simp] theorem State.portReply_pending (s : State) (t : Attr) (r : Resp) (d : List Byte) : (s.portReply t r d).pending = s.pending := by
  simp [State.portReply]

@[simp] theorem State.settled_pending (s : State) (t : Attr) (r : Resp) (d : List Byte) : (s.settled t r d).pending = s.pending := by
  simp [State.settled]

@[simp] theorem State.answerHeld_pending (s : State) (key : Nat) (seq : U16) (a : Ans) : (s.answerHeld key seq a).pending = s.pending := by
  unfold State.answerHeld
  split <;> simp

@[simp] theorem State.endClear_pending (s : State) (w : Nat) : (s.endClear w).pending = s.pending := by
  unfold State.endClear
  split <;> simp

@[simp] theorem State.passEnd_pending (s : State) : s.passEnd.pending = s.pending := by simp [State.passEnd]
@[simp] theorem State.pxFlush_pending (s : State) : s.pxFlush.pending = s.pending := by simp [State.pxFlush]
@[simp] theorem State.passLeave_pending (s : State) : s.passLeave.pending = s.pending := by simp [State.passLeave]
@[simp] theorem State.linkLost_pending (s : State) : s.linkLost.pending = s.pending := by simp [State.linkLost]
@[simp] theorem execPassLinkLoss_keepsQueue (s : State) : (execPassLinkLoss s).KeepsQueue s := by simp [execPassLinkLoss]

@[simp] theorem execPassLinkTrained_keepsQueue (sameRole : Bool) (lanes : BitVec 4) (s : State) :
    (execPassLinkTrained sameRole lanes s).KeepsQueue s := by simp [execPassLinkTrained]

@[simp] theorem execPassLaneFail_keepsQueue (lane : Nat) (s : State) : (execPassLaneFail lane s).KeepsQueue s := by simp [execPassLaneFail]

@[simp] theorem execPassLaneRetry_keepsQueue (lanes : BitVec 4) (s : State) : (execPassLaneRetry lanes s).KeepsQueue s := by
  unfold execPassLaneRetry
  repeat' split
  all_goals simp

@[simp] theorem execRoleClashRetry_keepsQueue (s : State) : (execRoleClashRetry s).KeepsQueue s := by simp [execRoleClashRetry]
@[simp] theorem execHeartbeatSend_keepsQueue (s : State) : (execHeartbeatSend s).KeepsQueue s := by simp [execHeartbeatSend]
@[simp] theorem execSidebandSend_keepsQueue (s : State) : (execSidebandSend s).KeepsQueue s := by simp [execSidebandSend]

@[simp] theorem execSidebandReceive_keepsQueue (vector : BitVec 256) (s : State) : (execSidebandReceive vector s).KeepsQueue s := by
  simp [execSidebandReceive]

@[simp] theorem State.partnerTo_pending (s : State) (st : Partner) : (s.partnerTo st).pending = s.pending := by simp [State.partnerTo]
@[simp] theorem State.remotesFail_pending (s : State) : s.remotesFail.pending = s.pending := by simp [State.remotesFail]

@[simp] theorem execHeartbeatReceive_keepsQueue (seq : U16) (vector : BitVec 256) (s : State) :
    (execHeartbeatReceive seq vector s).KeepsQueue s := by simp [execHeartbeatReceive]

@[simp] theorem State.takeOver_pending (s : State) (c : Nat) : (s.takeOver c).pending = s.pending := by simp [State.takeOver]
@[simp] theorem State.takeOverAll_pending (s : State) : s.takeOverAll.pending = s.pending := by simp [State.takeOverAll]
@[simp] theorem State.logLost_pending (s : State) : s.logLost.pending = s.pending := by simp [State.logLost]
@[simp] theorem execHeartbeatLoss_keepsQueue (s : State) : (execHeartbeatLoss s).KeepsQueue s := by simp [execHeartbeatLoss]

@[simp] theorem execPartnerStartupTimeout_keepsQueue (s : State) : (execPartnerStartupTimeout s).KeepsQueue s := by
  simp [execPartnerStartupTimeout]

@[simp] theorem execPartnerFaultChange_keepsQueue (low : Bool) (s : State) : (execPartnerFaultChange low s).KeepsQueue s := by
  unfold execPartnerFaultChange
  repeat' split
  all_goals simp

@[simp] theorem State.partnerPulse_pending (s : State) (auto : Bool) : (s.partnerPulse auto).pending = s.pending := by
  simp [State.partnerPulse]

@[simp] theorem execAutoPartnerReset_keepsQueue (s : State) : (execAutoPartnerReset s).KeepsQueue s := by simp [execAutoPartnerReset]

@[simp] theorem State.winRead_pending (s : State) (x : Xact) : (s.winRead x).1.pending = s.pending := by
  unfold State.winRead
  simp only
  repeat' split
  all_goals simp

@[simp] theorem State.winWrite_pending (s : State) (x : Xact) : (s.winWrite x).1.pending = s.pending := by
  unfold State.winWrite
  simp only
  repeat' split
  all_goals simp

@[simp] theorem State.winPost_pending (s : State) (x : Xact) : (s.winPost x).1.pending = s.pending := by
  unfold State.winPost
  simp only
  split <;> simp

@[simp] theorem State.winRow_keepsQueue (s : State) (x : Xact) (len : Nat) (wr : Bool) {own : State → State × Option Resp × List Byte}
    (hown : KeepsQueue (fun t => (own t).1)) : (s.winRow x len wr own).KeepsQueue s := by
  have h : (own s).1.pending = s.pending := hown s
  unfold State.winRow
  split
  · simp
  · apply State.aligned_keepsQueue
    split
    · simpa using State.held_pending ‹_›
    · split
      · simp only
        split <;> simp [h]
      · simp

@[simp] theorem execPassWindowRead_keepsQueue (x : Xact) (s : State) : (execPassWindowRead x s).KeepsQueue s := by simp [execPassWindowRead]

@[simp] theorem execPassNonpostedWrite_keepsQueue (x : Xact) (s : State) : (execPassNonpostedWrite x s).KeepsQueue s := by
  simp [execPassNonpostedWrite]

@[simp] theorem execPassPostedWrite_keepsQueue (x : Xact) (s : State) : (execPassPostedWrite x s).KeepsQueue s := by
  refine State.issueX_keepsQueue s x fun x => ?_
  split
  · simp
  · split
    · simp
    · refine State.aligned_keepsQueue s x _ _ ?_
      split
      · simpa using State.held_pending ‹_›
      · split <;> simp

@[simp] theorem State.stray_pending (s : State) : s.stray.pending = s.pending := by simp [State.stray]

@[simp] theorem execPassReadDataArrive_keepsQueue (slot : Nat) (ok : Bool) (data : List Byte) (s : State) :
    (execPassReadDataArrive slot ok data s).KeepsQueue s := by
  unfold execPassReadDataArrive
  repeat' split
  all_goals simp

@[simp] theorem execPassReadSlotTimeout_keepsQueue (slot : Nat) (s : State) : (execPassReadSlotTimeout slot s).KeepsQueue s := by
  unfold execPassReadSlotTimeout
  repeat' split
  all_goals simp

@[simp] theorem execPassReadyExpiry_keepsQueue (slot : Nat) (s : State) : (execPassReadyExpiry slot s).KeepsQueue s := by
  unfold execPassReadyExpiry
  repeat' split
  all_goals simp

@[simp] theorem State.recordsGo_pending (s : State) : s.recordsGo.pending = s.pending := by
  unfold State.recordsGo
  simp only
  repeat' split
  all_goals simp

@[simp] theorem State.trackerEnd_pending (s : State) (r : Tracker) (c : Resp) : (s.trackerEnd r c).pending = s.pending := by
  unfold State.trackerEnd
  split <;> simp

@[simp] theorem execPassWriteResponse_keepsQueue (tracker : Nat) (ok : Bool) (s : State) :
    (execPassWriteResponse tracker ok s).KeepsQueue s := by
  unfold execPassWriteResponse
  repeat' split
  all_goals simp

@[simp] theorem execPassWriteTimeout_keepsQueue (tracker : Nat) (s : State) : (execPassWriteTimeout tracker s).KeepsQueue s := by
  unfold execPassWriteTimeout
  repeat' split
  all_goals simp

@[simp] theorem State.passFree_pending (s : State) (inst : Nat) : (s.passFree inst).pending = s.pending := by simp [State.passFree]

@[simp] theorem State.winsStop_pending (s : State) (inst : Nat) (b : Bool) : (s.winsStop inst b).pending = s.pending := by
  simp [State.winsStop]

@[simp] theorem execPassErrorMessageArrive_keepsQueue (win : Nat) (addr : A40) (origin : Byte) (inst : BitVec 6) (sec : Bool)
    (code : Resp) (s : State) :
    (execPassErrorMessageArrive win addr origin inst sec code s).KeepsQueue s := by
  unfold execPassErrorMessageArrive
  repeat' split
  all_goals simp

@[simp] theorem execPassClearAck_keepsQueue (win : Nat) (s : State) : (execPassClearAck win s).KeepsQueue s := by simp [execPassClearAck]

@[simp] theorem execPassClearMarkerArrive_keepsQueue (win : Nat) (s : State) : (execPassClearMarkerArrive win s).KeepsQueue s := by
  simp [execPassClearMarkerArrive]

@[simp] theorem State.poison_pending (s : State) (e : PassErr) : (s.poison e).pending = s.pending := by simp [State.poison]

@[simp] theorem execPassPostedFailure_keepsQueue (win : Nat) (x : Xact) (origin : Byte) (code : Resp) (s : State) :
    (execPassPostedFailure win x origin code s).KeepsQueue s := by simp [execPassPostedFailure]

@[simp] theorem ownPassWindowOpen_pending (rq : Request) (s : State) : (ownPassWindowOpen rq s).1.pending = s.pending := by
  unfold ownPassWindowOpen
  split <;> simp

@[simp] theorem execPassWindowOpen_keepsQueue (rq : Request) (s : State) : (execPassWindowOpen rq s).KeepsQueue s := by
  simp [execPassWindowOpen]

@[simp] theorem State.keepServing_pending (s : State) (r : Route) : (s.keepServing r).pending = s.pending := by
  unfold State.keepServing
  split <;> simp

@[simp] theorem ownPassErrorClear_pending (rq : Request) (s : State) : (ownPassErrorClear rq s).1.pending = s.pending := by
  simp [ownPassErrorClear]

@[simp] theorem execPassErrorClear_keepsQueue (rq : Request) (s : State) : (execPassErrorClear rq s).KeepsQueue s := by
  simp [execPassErrorClear]

@[simp] theorem execPairStatus_keepsQueue (rq : Request) (s : State) : (execPairStatus rq s).KeepsQueue s := by simp [execPairStatus]

@[simp] theorem execSidebandWrite_keepsQueue (rq : Request) (s : State) : (execSidebandWrite rq s).KeepsQueue s := by
  simp [execSidebandWrite]

@[simp] theorem execPartnerReset_keepsQueue (rq : Request) (s : State) : (execPartnerReset rq s).KeepsQueue s := by simp [execPartnerReset]
@[simp] theorem execPartnerRstPulseEnd_keepsQueue (s : State) : (execPartnerRstPulseEnd s).KeepsQueue s := by simp [execPartnerRstPulseEnd]
@[simp] theorem State.passPut_pending (s : State) (o : Nat) (v m : U32) : (s.passPut o v m).pending = s.pending := by simp [State.passPut]

/-! ### Stalls, sessions and the relay (Machine/Stalls.lean) -/

@[simp] theorem State.nextNotice_pending (s : State) (n : Nat) (st : StallState) : (s.nextNotice n st).pending = s.pending := by
  unfold State.nextNotice
  split <;> simp

@[simp] theorem State.doorbell_pending (s : State) (n : Nat) : (s.doorbell n).pending = s.pending := by
  unfold State.doorbell
  simp only
  split <;> simp

@[simp] theorem State.release_pending (s : State) (n : Nat) : (s.release n).pending = s.pending := by
  unfold State.release
  simp only
  split <;> simp

@[simp] theorem State.stallWrite_pending (s : State) (n o : Nat) (d : List Byte) : (s.stallWrite n o d).1.pending = s.pending := by
  simp [State.stallWrite]

@[simp] theorem execStallRequestAreaWrite_keepsQueue (stall : Nat) (x : Xact) (s : State) :
    (execStallRequestAreaWrite stall x s).KeepsQueue s := by
  unfold execStallRequestAreaWrite
  split
  · simp
  · exact State.issueX_keepsQueue s x fun x => State.aligned_keepsQueue s x _ _ (by simp)

@[simp] theorem execStallDoorbell_keepsQueue (stall : Nat) (attr : Attr) (s : State) : (execStallDoorbell stall attr s).KeepsQueue s := by
  simp [execStallDoorbell]

@[simp] theorem execStallRelease_keepsQueue (stall : Nat) (attr : Attr) (s : State) : (execStallRelease stall attr s).KeepsQueue s := by
  simp [execStallRelease]

@[simp] theorem State.stallReset_pending (s : State) (n : Nat) : (s.stallReset n).pending = s.pending := by simp [State.stallReset]
@[simp] theorem State.debugClose_pending (s : State) : s.debugClose.pending = s.pending := by simp [State.debugClose]
@[simp] theorem State.dropReaders_pending (s : State) (key : Nat) : (s.dropReaders key).pending = s.pending := by simp [State.dropReaders]

@[simp] theorem State.dropStaging_pending (s : State) (key : Nat) : (s.dropStaging key).pending = s.pending := by
  unfold State.dropStaging
  split <;> simp

@[simp] theorem State.dropKeys_pending (s : State) (k : Nat) : (s.dropKeys k).pending = s.pending := by simp [State.dropKeys]
@[simp] theorem State.closeSession_pending (s : State) (k : Nat) : (s.closeSession k).pending = s.pending := by simp [State.closeSession]

@[simp] theorem State.countDenied_pending (s : State) (cred : Byte) : (s.countDenied cred).pending = s.pending := by
  simp [State.countDenied]

@[simp] theorem denySetup_pending (s : State) (cred : Byte) : (denySetup s cred).1.pending = s.pending := by simp [denySetup]

@[simp] theorem ownSessionOpen_pending (rq : Request) (s : State) : (ownSessionOpen rq s).1.pending = s.pending := by
  unfold ownSessionOpen
  repeat' split
  all_goals simp

@[simp] theorem execSessionOpen_keepsQueue (rq : Request) (s : State) : (execSessionOpen rq s).KeepsQueue s := by simp [execSessionOpen]

@[simp] theorem ownSessionAuth_pending (rq : Request) (s : State) : (ownSessionAuth rq s).1.pending = s.pending := by
  unfold ownSessionAuth
  simp only
  split <;> simp

@[simp] theorem execSessionAuth_keepsQueue (rq : Request) (s : State) : (execSessionAuth rq s).KeepsQueue s := by simp [execSessionAuth]

@[simp] theorem execSessionClose_keepsQueue (rq : Request) (s : State) : (execSessionClose rq s).KeepsQueue s := by
  unfold execSessionClose
  repeat' split
  all_goals simp

@[simp] theorem execUdpDatagramDrop_keepsQueue (s : State) : (execUdpDatagramDrop s).KeepsQueue s := by simp [execUdpDatagramDrop]

@[simp] theorem execSessionSetupTimeout_keepsQueue (slot : Nat) (s : State) : (execSessionSetupTimeout slot s).KeepsQueue s := by
  simp [execSessionSetupTimeout]

@[simp] theorem execSessionIdleTimeout_keepsQueue (slot : Nat) (s : State) : (execSessionIdleTimeout slot s).KeepsQueue s := by
  simp [execSessionIdleTimeout]

@[simp] theorem execSvcLockoutEnd_keepsQueue (s : State) : (execSvcLockoutEnd s).KeepsQueue s := by simp [execSvcLockoutEnd]

@[simp] theorem execAddressResolutionRequest_keepsQueue (port : Nat) (asked : IpAddr) (s : State) :
    (execAddressResolutionRequest port asked s).KeepsQueue s := by simp [execAddressResolutionRequest]

@[simp] theorem execRemoteRequestRelay_keepsQueue (rq : Request) (s : State) : (execRemoteRequestRelay rq s).KeepsQueue s := by
  unfold execRemoteRequestRelay
  repeat' split
  all_goals simp

@[simp] theorem State.dropRemote_pending (s : State) (stall : Nat) : (s.dropRemote stall).pending = s.pending := by simp [State.dropRemote]

@[simp] theorem execRemoteResponseReturn_keepsQueue (stall : Nat) (rsp : Response) (s : State) :
    (execRemoteResponseReturn stall rsp s).KeepsQueue s := by
  unfold execRemoteResponseReturn
  repeat' split
  all_goals simp

@[simp] theorem execRemoteTimeout_keepsQueue (stall : Nat) (s : State) : (execRemoteTimeout stall s).KeepsQueue s := by
  unfold execRemoteTimeout
  repeat' split
  all_goals simp

@[simp] theorem execPartnerRequestArrive_keepsQueue (rq : Request) (s : State) : (execPartnerRequestArrive rq s).KeepsQueue s := by
  unfold execPartnerRequestArrive
  split <;> simp

/-! ### Register rows, memory and transactions (Machine/Bus.lean) -/

@[simp] theorem State.dbRefuse_pending (s : State) (n : Nat) (st : Status) : (s.dbRefuse n st).pending = s.pending := by
  simp [State.dbRefuse]

@[simp] theorem State.dbWrite_pending (s : State) (n : Nat) (sec : Bool) (v : U64) : (s.dbWrite n sec v).pending = s.pending := by
  unfold State.dbWrite
  simp only
  split <;> simp

@[simp] theorem State.instWrite_pending (s : State) (t : Attr) (n o : Nat) (d : List Byte) : (s.instWrite t n o d).pending = s.pending := by
  simp [State.instWrite]

@[simp] theorem execInstDbWrite_keepsQueue (x : Xact) (s : State) : (execInstDbWrite x s).KeepsQueue s := by
  refine State.issueX_keepsQueue s x fun x => ?_
  extract_lets a
  split
  · simp
  · exact State.aligned_keepsQueue s x _ _ (by simp)

@[simp] theorem State.put03_pending (s : State) (a : Nat) (v m : U32) : (s.put03 a v m).pending = s.pending := by
  simp only [State.put03, State.pending_ite, State.aplicPut_pending]
  split
  · rfl
  · split
    · simp
    · rfl

@[simp] theorem State.put08_pending (s : State) (a : Nat) (v m : U32) : (s.put08 a v m).pending = s.pending := by simp [State.put08]
@[simp] theorem State.put0A_pending (s : State) (a : Nat) (v m : U32) : (s.put0A a v m).pending = s.pending := by simp [State.put0A]
@[simp] theorem State.put0B_pending (s : State) (a : Nat) (v m : U32) : (s.put0B a v m).1.pending = s.pending := by simp [State.put0B]

@[simp] theorem State.word0D_pending (s : State) (t : Attr) (a : Nat) (latch : Bool) : (s.word0D t a latch).1.pending = s.pending := by
  simp [State.word0D]

@[simp] theorem State.put0E_pending (s : State) (a : Nat) (v m : U32) : (s.put0E a v m).pending = s.pending := by simp [State.put0E]

@[simp] theorem State.regWord_pending (s : State) (t : Attr) (a : Nat) (latch : Bool) : (s.regWord t a latch).1.pending = s.pending := by
  unfold State.regWord
  split <;> simp

@[simp] theorem State.regPut_pending (s : State) (t : Attr) (a : Nat) (v m : U32) : (s.regPut t a v m).1.pending = s.pending := by
  unfold State.regPut
  split <;> simp

@[simp] theorem State.regBytes_pending (s : State) (t : Attr) (a n : Nat) : (s.regBytes t a n).1.pending = s.pending :=
  State.foldl_fst_pending (fun p k h => by simp [h]) _ rfl

@[simp] theorem State.ignoreOnce_pending (old s : State) (a : Nat) : (old.ignoreOnce s a).pending = s.pending := by simp [State.ignoreOnce]
@[simp] theorem State.inAfter_pending (s : State) (a n : Nat) : (s.inAfter a n).pending = s.pending := by simp [State.inAfter]

@[simp] theorem State.regsWrite_pending (s : State) (t : Attr) (a : Nat) (d : List Byte) : (s.regsWrite t a d).1.pending = s.pending := by
  simp only [State.regsWrite, State.inAfter_pending, State.ignoreOnce_pending]
  exact State.foldl_fst_pending (fun p w h => by simp [h]) _ (by simp)

@[simp] theorem State.unreserve_pending (s : State) (a n : Nat) (keep : Option Nat) : (s.unreserve a n keep).pending = s.pending := by
  simp [State.unreserve]

@[simp] theorem State.unpoison_pending (s : State) (a n : Nat) : (s.unpoison a n).pending = s.pending := by simp [State.unpoison]

@[simp] theorem State.setClean_pending (s : State) (a : Nat) (d : List Byte) : (s.setClean a d).pending = s.pending := by
  induction d generalizing s a with
  | nil => rfl
  | cons b d ih => simp [State.setClean, ih]

@[simp] theorem State.memPut_pending (s : State) (a : Nat) (d : List Byte) (keep : Option Nat) :
    (s.memPut a d keep).pending = s.pending := by simp [State.memPut]

@[simp] theorem State.memWrite_pending (s : State) (a : Nat) (d : List Byte) : (s.memWrite a d).pending = s.pending := by
  simp [State.memWrite]

@[simp] theorem State.meter_pending (s : State) (t : Attr) (a n : Nat) : (s.meter t a n).1.pending = s.pending := by simp [State.meter]

@[simp] theorem State.meterDma_pending (s : State) (t : Attr) (a n : Nat) : (s.meterDma t a n).pending = s.pending := by
  have h := s.meter_pending t a n
  unfold State.meterDma
  generalize s.meter t a n = q at h ⊢
  obtain ⟨u, _ | c⟩ := q <;> simpa using h

@[simp] theorem State.writeTarget_pending (s : State) (x : Xact) : (s.writeTarget x).1.pending = s.pending := by
  unfold State.writeTarget
  simp only
  split <;> simp

@[simp] theorem State.readTarget_pending (s : State) (x : Xact) : (s.readTarget x).1.pending = s.pending := by
  unfold State.readTarget
  simp only
  split <;> simp

@[simp] theorem State.amoTarget_pending (s : State) (op : AmoOp) (x : Xact) : (s.amoTarget op x).1.pending = s.pending := by
  simp [State.amoTarget]

@[simp] theorem State.lrTarget_pending (s : State) (x : Xact) : (s.lrTarget x).1.pending = s.pending := by simp [State.lrTarget]
@[simp] theorem State.scTarget_pending (s : State) (x : Xact) : (s.scTarget x).1.pending = s.pending := by simp [State.scTarget]

@[simp] theorem State.accept_pending (s : State) (k : XKind) (op : AmoOp) (x : Xact) : (s.accept k op x).1.pending = s.pending := by
  unfold State.accept
  simp only
  repeat' split
  all_goals simp

@[simp] theorem State.atomicDone_pending (s : State) (w : Waiting) (r : Resp) : (s.atomicDone w r).pending = s.pending := by
  simp [State.atomicDone]

@[simp] theorem State.stallsOn_pending (s : State) (t : Attr) (ev : Nat) : (s.stallsOn t ev).pending = s.pending := by simp [State.stallsOn]

@[simp] theorem Waiting.concluded_pending (w : Waiting) (q : State × Option Resp × List Byte) :
    (w.concluded q).pending = q.1.pending := by
  unfold Waiting.concluded
  split <;> simp

@[simp] theorem State.submit_pending (s : State) (w : Waiting) (n : Nat) : (s.submit w n).pending = s.pending := by
  have h := s.meter_pending w.x.attr w.x.addr.toNat n
  unfold State.submit
  simp only
  generalize s.meter w.x.attr w.x.addr.toNat n = q at h ⊢
  obtain ⟨u, _ | c⟩ := q <;> simp_all

@[simp] theorem State.transact_pending (s : State) (k : XKind) (op : AmoOp) (x : Xact) (n : Nat) :
    (s.transact k op x n).pending = s.pending := by simp [State.transact]

@[simp] theorem execFabricRead_keepsQueue (x : Xact) (s : State) : (execFabricRead x s).KeepsQueue s := by simp [execFabricRead]
@[simp] theorem execFabricWrite_keepsQueue (x : Xact) (s : State) : (execFabricWrite x s).KeepsQueue s := by simp [execFabricWrite]
@[simp] theorem execPostedWrite_keepsQueue (x : Xact) (s : State) : (execPostedWrite x s).KeepsQueue s := by simp [execPostedWrite]

@[simp] theorem execFabricAmo_keepsQueue (op : AmoOp) (x : Xact) (s : State) : (execFabricAmo op x s).KeepsQueue s := by
  simp [execFabricAmo]

@[simp] theorem execLoadReserved_keepsQueue (hart : Nat) (x : Xact) (s : State) : (execLoadReserved hart x s).KeepsQueue s := by
  simp [execLoadReserved]

@[simp] theorem execStoreConditional_keepsQueue (hart : Nat) (x : Xact) (s : State) : (execStoreConditional hart x s).KeepsQueue s := by
  simp [execStoreConditional]

@[simp] theorem State.releaseOne_pending (s : State) (i : Nat) : (s.releaseOne i).pending = s.pending := by
  unfold State.releaseOne
  split
  · rfl
  · next w _ =>
    have h := s.meter_pending w.x.attr w.x.addr.toNat (max w.x.size w.x.data.length)
    generalize s.meter w.x.attr w.x.addr.toNat (max w.x.size w.x.data.length) = q at h ⊢
    obtain ⟨u, _ | c⟩ := q <;> simp_all

@[simp] theorem State.releaseHeld_pending (s : State) : s.releaseHeld.pending = s.pending := by simp [State.releaseHeld]
@[simp] theorem execRegulatorRefill_keepsQueue (s : State) : (execRegulatorRefill s).KeepsQueue s := by simp [execRegulatorRefill]

@[simp] theorem execArbitrationAging_keepsQueue (index : Nat) (s : State) : (execArbitrationAging index s).KeepsQueue s := by
  unfold execArbitrationAging
  split <;> simp

@[simp] theorem State.sbAccess_pending (s : State) (write : Bool) (addr : U64) (size : Nat) (data : U64) :
    (s.sbAccess write addr size data).pending = s.pending := by
  unfold State.sbAccess
  split <;> simp

@[simp] theorem execDebugSystemBusAccess_keepsQueue (write : Bool) (addr : U64) (size : Nat) (data : U64) (s : State) :
    (execDebugSystemBusAccess write addr size data s).KeepsQueue s := by
  unfold execDebugSystemBusAccess
  split <;> simp

@[simp] theorem execPassInboundTransaction_keepsQueue (kind : XKind) (x : Xact) (win : Nat) (origin : Byte) (s : State) :
    (execPassInboundTransaction kind x win origin s).KeepsQueue s := by
  simp [execPassInboundTransaction]

@[simp] theorem State.dmcontrol_pending (s : State) (v : U32) : (s.dmcontrol v).pending = s.pending := by simp [State.dmcontrol]
@[simp] theorem State.dmiWrite_pending (s : State) (a : Nat) (v : U32) : (s.dmiWrite a v).pending = s.pending := by simp [State.dmiWrite]

@[simp] theorem execRegisterWrite_keepsQueue (w : RegOp) (s : State) : (execRegisterWrite w s).KeepsQueue s := by
  unfold execRegisterWrite
  split <;> simp

@[simp] theorem execObjConfigWrite_keepsQueue (chan obj : Nat) (x : Xact) (s : State) : (execObjConfigWrite chan obj x s).KeepsQueue s := by
  unfold execObjConfigWrite
  split
  · simp
  · exact State.issueX_keepsQueue s x fun x => State.aligned_keepsQueue s x _ _ (by simp)

/-! ### Transmission, gates and time (Machine/Ethernet.lean) -/

@[simp] theorem State.countHeld_pending (s : State) (p i : Nat) : (s.countHeld p i).pending = s.pending := by
  unfold State.countHeld
  split <;> simp

@[simp] theorem State.deliver_pending (s : State) (i p : Nat) : (s.deliver i p).pending = s.pending := by
  unfold State.deliver
  split <;> simp

@[simp] theorem State.cross_pending (s : State) (f : Frame) : (s.cross f).pending = s.pending := by simp [State.cross]

@[simp] theorem State.send_pending (s : State) (i p : Nat) (front : Bool) : (s.send i p front).pending = s.pending := by
  unfold State.send
  simp only
  repeat' split
  all_goals simp

@[simp] theorem State.popResidue_pending (s : State) (p c k i : Nat) : (s.popResidue p c k i).pending = s.pending := by
  simp [State.popResidue]

@[simp] theorem State.select_pending (s : State) (p : Nat) (l : List Nat) : (s.select p l).1.pending = s.pending := by
  induction l generalizing s with
  | nil => rfl
  | cons c l ih =>
    unfold State.select
    split <;> simp [ih]

@[simp] theorem State.transmit_pending (s : State) (p : Nat) (l : List Nat) : (s.transmit p l).pending = s.pending := by
  have h := s.select_pending p l
  unfold State.transmit
  generalize s.select p l = q at h ⊢
  obtain ⟨t, _ | e⟩ := q
  · exact h
  · cases hf : t.frame e.2.2 <;> simpa [hf] using h

@[simp] theorem State.boundary_pending (s : State) (p sent : Nat) : (s.boundary p sent).pending = s.pending := by simp [State.boundary]

@[simp] theorem State.atBoundary_pending (s : State) (p sent : Nat) : (s.atBoundary p sent).pending = s.pending := by
  simp [State.atBoundary]

@[simp] theorem State.opportunity_pending (s0 : State) (p sent : Nat) : (s0.opportunity p sent).pending = s0.pending := by
  simp [State.opportunity]

@[simp] theorem State.collide_pending (s : State) (p : Nat) : (s.collide p).pending = s.pending := by
  have h := s.select_pending p (s.startable p 0)
  unfold State.collide
  generalize s.select p (s.startable p 0) = q at h ⊢
  obtain ⟨t, _ | e⟩ := q <;> simpa using h

@[simp] theorem execEgressTransmitStart_keepsQueue (point : TxPoint) (s : State) : (execEgressTransmitStart point s).KeepsQueue s := by
  simp [execEgressTransmitStart]

@[simp] theorem execPlcaTransmitOpportunity_keepsQueue (port : Nat) (s : State) : (execPlcaTransmitOpportunity port s).KeepsQueue s := by
  simp [execPlcaTransmitOpportunity]

@[simp] theorem State.ptpNow_pending (s : State) (p : Nat) : (s.ptpNow p).pending = s.pending := by simp [State.ptpNow]
@[simp] theorem State.ptpFlush_pending (s : State) (p : Nat) : (s.ptpFlush p).pending = s.pending := by simp [State.ptpFlush]

@[simp] theorem State.cutEnd_pending (s : State) (f : Frame) (fcsBad long : Bool) : (s.cutEnd f fcsBad long).pending = s.pending := by
  simp [State.cutEnd]

@[simp] theorem execFrameEgressComplete_keepsQueue (port frame : Nat) (fcsBad : Bool) (s : State) :
    (execFrameEgressComplete port frame fcsBad s).KeepsQueue s := by
  unfold execFrameEgressComplete
  repeat' split
  all_goals simp

@[simp] theorem State.addResidue_pending (s : State) (f : Frame) (p : Nat) : (s.addResidue f p).pending = s.pending := by
  simp [State.addResidue]

@[simp] theorem execMulticastService_keepsQueue (port cls : Nat) (ready : BitVec 30) (s : State) :
    (execMulticastService port cls ready s).KeepsQueue s := by
  unfold execMulticastService
  repeat' split
  all_goals simp

@[simp] theorem execPauseFrameReceive_keepsQueue (port : Nat) (pfc : Bool) (enables : Byte) (quanta : List U16) (s : State) :
    (execPauseFrameReceive port pfc enables quanta s).KeepsQueue s := by simp [execPauseFrameReceive]

@[simp] theorem execPauseExpiry_keepsQueue (port : Nat) (classes : Byte) (s : State) : (execPauseExpiry port classes s).KeepsQueue s := by
  simp [execPauseExpiry]

@[simp] theorem execPauseRefresh_keepsQueue (port : Nat) (s : State) : (execPauseRefresh port s).KeepsQueue s := by simp [execPauseRefresh]
@[simp] theorem State.setHold_pending (s : State) (p : Nat) (h : Bool) : (s.setHold p h).pending = s.pending := by simp [State.setHold]

@[simp] theorem State.applyGate_pending (s : State) (p : Nat) (g : GateList) (k : Nat) : (s.applyGate p g k).pending = s.pending := by
  simp [State.applyGate]

@[simp] theorem execGateEntryAdvance_keepsQueue (port : Nat) (s : State) : (execGateEntryAdvance port s).KeepsQueue s := by
  unfold execGateEntryAdvance
  repeat' split
  all_goals simp

@[simp] theorem State.switchOver_pending (s : State) (p : Nat) : (s.switchOver p).pending = s.pending := by
  unfold State.switchOver
  split <;> simp

@[simp] theorem execGateListSwitchover_keepsQueue (port : Nat) (s : State) : (execGateListSwitchover port s).KeepsQueue s := by
  unfold execGateListSwitchover
  repeat' split
  all_goals simp

@[simp] theorem State.openGates_pending (s : State) (p : Nat) : (s.openGates p).pending = s.pending := by simp [State.openGates]

@[simp] theorem execPreemptVerifyResponse_keepsQueue (port : Nat) (s : State) : (execPreemptVerifyResponse port s).KeepsQueue s := by
  simp [execPreemptVerifyResponse]

@[simp] theorem execPreemptVerifyTimeout_keepsQueue (port : Nat) (s : State) : (execPreemptVerifyTimeout port s).KeepsQueue s := by
  simp [execPreemptVerifyTimeout]

@[simp] theorem execPolicerRefill_keepsQueue (s : State) : (execPolicerRefill s).KeepsQueue s := by simp [execPolicerRefill]

@[simp] theorem execFrerRecoveryTimeout_keepsQueue (stream : Nat) (s : State) : (execFrerRecoveryTimeout stream s).KeepsQueue s := by
  simp [execFrerRecoveryTimeout]

@[simp] theorem State.gateTo_pending (s : State) (p t : Nat) : (s.gateTo p t).pending = s.pending := by
  unfold State.gateTo
  split <;> simp

@[simp] theorem State.stepGlobal_pending (s : State) (d : ℤ) : (s.stepGlobal d).pending = s.pending := by simp [State.stepGlobal]

@[simp] theorem State.ptpAnnounce_pending (s : State) (p : Nat) (m : PtpMessage) : (s.ptpAnnounce p m).pending = s.pending := by
  simp [State.ptpAnnounce]

@[simp] theorem State.ptpSync_pending (s : State) (p : Nat) (m : PtpMessage) : (s.ptpSync p m).pending = s.pending := by
  simp [State.ptpSync]

@[simp] theorem State.ptpDelay_pending (s : State) (p : Nat) (m : PtpMessage) : (s.ptpDelay p m).pending = s.pending := by
  simp [State.ptpDelay]

@[simp] theorem execPtpMessageReceive_keepsQueue (port : Nat) (m : PtpMessage) (s : State) :
    (execPtpMessageReceive port m s).KeepsQueue s := by
  unfold execPtpMessageReceive
  repeat' split
  all_goals simp

@[simp] theorem execPtpSyncTimeout_keepsQueue (s : State) : (execPtpSyncTimeout s).KeepsQueue s := by simp [execPtpSyncTimeout]

@[simp] theorem execPtpTransmitTimer_keepsQueue (port : Nat) (kind : PtpKind) (s : State) :
    (execPtpTransmitTimer port kind s).KeepsQueue s := by simp [execPtpTransmitTimer]

@[simp] theorem execPlcaBeaconLost_keepsQueue (port : Nat) (s : State) : (execPlcaBeaconLost port s).KeepsQueue s := by
  simp [execPlcaBeaconLost]

@[simp] theorem execPlcaBeaconReturn_keepsQueue (port : Nat) (s : State) : (execPlcaBeaconReturn port s).KeepsQueue s := by
  simp [execPlcaBeaconReturn]

/-! ### Engines that act on memory (Machine/Engines.lean) -/

@[simp] theorem State.dmaRead_pending (s : State) (t : Attr) (a n : Nat) : (s.dmaRead t a n).1.pending = s.pending :=
  State.foldl_fst_pending (fun p b h => by simp [h]) _ rfl

@[simp] theorem State.dmaWrite_pending (s : State) (t : Attr) (a : Nat) (d : List Byte) : (s.dmaWrite t a d).1.pending = s.pending :=
  State.foldl_fst_pending (fun p b h => by simp [h]) _ rfl

@[simp] theorem State.dmaWait_pending (old new : State) : (old.dmaWait new).pending = old.pending := by
  refine State.foldl_pending (fun r t => ?_) _ _
  simp only
  split <;> rfl

@[simp] theorem State.dmaBegin_pending (s : State) (t : Attr) (a n : Nat) (k : State) :
    (s.dmaBegin t a n k).pending = if s.dmaMay t a n then k.pending else s.pending := by
  simp [State.dmaBegin]

@[simp] theorem State.recordWrite_pending (s : State) (t : Attr) (a : Nat) (d : List Byte) (msi : Option (Bind × Bool)) :
    (s.recordWrite t a d msi).1.pending = s.pending := by
  unfold State.recordWrite
  simp only
  split <;> simp
@[simp] theorem State.recordWrite_msi_pending (s : State) (t : Attr) (a : Nat) (d : List Byte) (msi : Option (Bind × Bool)) (u : State) :
    ((s.recordWrite t a d msi).2.2 u).pending = u.pending := by
  unfold State.recordWrite
  simp only
  split
  · rfl
  · rfl
  · simp only
    split <;> simp

@[simp] theorem State.qpDone_pending (s : State) (q : Nat) (t : Attr) (a : Nat) (d : List Byte) (head : Qp → Qp) :
    (s.qpDone q t a d head).pending = s.pending := by simp [State.qpDone]

@[simp] theorem State.txDone_pending (s : State) (q : Nat) (t : Attr) (a : Nat) (st : U16) : (s.txDone q t a st).pending = s.pending := by
  simp [State.txDone]

@[simp] theorem State.txDesc_pending (s : State) (q : Nat) (t : Attr) : (s.txDesc q t).pending = s.pending := by simp [State.txDesc]

@[simp] theorem execQpTxDescriptorProcess_keepsQueue (qp : Nat) (s : State) : (execQpTxDescriptorProcess qp s).KeepsQueue s := by
  unfold execQpTxDescriptorProcess
  repeat' split
  all_goals simp

@[simp] theorem State.rxDesc_pending (s : State) (q : Nat) (t : Attr) : (s.rxDesc q t).pending = s.pending := by
  unfold State.rxDesc
  simp only
  repeat' split
  all_goals simp

@[simp] theorem execQpRxCopy_keepsQueue (qp : Nat) (s : State) : (execQpRxCopy qp s).KeepsQueue s := by
  unfold execQpRxCopy
  repeat' split
  all_goals simp

@[simp] theorem State.qpFlush_pending (s : State) (q : Nat) (st : U16) (quiet : Bool) : (s.qpFlush q st quiet).pending = s.pending := by
  unfold State.qpFlush
  split <;> simp

@[simp] theorem State.qpAbort_pending (s : State) (q : Nat) (st : U16) (quiet : Bool) : (s.qpAbort q st quiet).pending = s.pending := by
  unfold State.qpAbort
  simp only
  repeat' split
  all_goals simp

@[simp] theorem State.jobRecord_pending (s : State) (r slot : Nat) (d : Desc) (st : U16) (done : Nat) (invalid irq : Bool) :
    (s.jobRecord r slot d st done invalid irq).pending = s.pending := by simp [State.jobRecord]

@[simp] theorem State.jobFetch_pending (s : State) (ring : Nat) : (s.jobFetch ring).pending = s.pending := by
  unfold State.jobFetch
  simp only
  repeat' split
  all_goals simp

@[simp] theorem execJobFetch_keepsQueue (ring : Nat) (s : State) : (execJobFetch ring s).KeepsQueue s := by simp [execJobFetch]
@[simp] theorem State.loadEngine_pending (s : State) (n : Nat) : (s.loadEngine n).pending = s.pending := by simp [State.loadEngine]

@[simp] theorem execKeyRegisterLoad_keepsQueue (job : Nat) (s : State) : (execKeyRegisterLoad job s).KeepsQueue s := by
  unfold execKeyRegisterLoad
  repeat' split
  all_goals simp

@[simp] theorem State.countNode_pending (s : State) (n : Option Nat) (c : Nat) : (s.countNode n c).pending = s.pending := by
  unfold State.countNode
  split <;> simp

@[simp] theorem State.chunk_pending (s : State) (j : Job) : (s.chunk j).pending = s.pending := by simp [State.chunk]

@[simp] theorem execJobChunk_keepsQueue (job : Nat) (s : State) : (execJobChunk job s).KeepsQueue s := by
  unfold execJobChunk
  split <;> simp

@[simp] theorem State.jobFinish_pending (s : State) (j : Job) : (s.jobFinish j).1.pending = s.pending := by simp [State.jobFinish]

@[simp] theorem State.jobEnd_pending (s : State) (j : Job) (st : U16) (wrote irq : Bool) :
    (s.jobEnd j st wrote irq).pending = s.pending := by simp [State.jobEnd]

@[simp] theorem execJobComplete_keepsQueue (job : Nat) (s : State) : (execJobComplete job s).KeepsQueue s := by
  unfold execJobComplete
  repeat' split
  all_goals simp

@[simp] theorem execRingBucketRefill_keepsQueue (s : State) : (execRingBucketRefill s).KeepsQueue s := by simp [execRingBucketRefill]

@[simp] theorem State.ringFlush_pending (s : State) (r : Nat) (st : U16) (jobs irq : Bool) :
    (s.ringFlush r st jobs irq).pending = s.pending := by simp [State.ringFlush]

/-! ### Power of blocks (Machine/Blocks.lean) -/

@[simp] theorem State.blockReset_pending (s : State) (b : Nat) : (s.blockReset b).pending = s.pending := by simp [State.blockReset]
@[simp] theorem State.blockRuns_pending (s : State) (b : Nat) : (s.blockRuns b).pending = s.pending := by simp [State.blockRuns]
@[simp] theorem State.blockRailOff_pending (s : State) (b : Nat) : (s.blockRailOff b).pending = s.pending := by simp [State.blockRailOff]
@[simp] theorem State.blockQuiesce_pending (s : State) (b : Nat) : (s.blockQuiesce b).pending = s.pending := by simp [State.blockQuiesce]
@[simp] theorem State.blockWakes_pending (s : State) (b : Nat) : (s.blockWakes b).pending = s.pending := by simp [State.blockWakes]

@[simp] theorem State.partialBegin_pending (s : State) : s.partialBegin.pending = s.pending := by
  refine State.foldl_pending (fun b t => ?_) _ _
  simp only
  split <;> simp

@[simp] theorem State.voteEnded_pending (s : State) (b : Nat) : (s.voteEnded b).pending = s.pending := by
  unfold State.voteEnded
  simp only
  split <;> simp

@[simp] theorem State.handleVote_pending (s : State) (typ index : Nat) : (s.handleVote typ index).pending = s.pending := by
  unfold State.handleVote
  split <;> simp

@[simp] theorem State.portSleep_pending (s : State) (p : Nat) : (s.portSleep p).pending = s.pending := by simp [State.portSleep]

@[simp] theorem State.partialOffAll_pending (s : State) : s.partialOffAll.pending = s.pending := by
  simp only [State.partialOffAll]
  rw [State.foldl_pending, State.foldl_pending]
  · simp
  · intro b t
    simp only
    split <;> simp

@[simp] theorem State.enterPartial_pending (s : State) : s.enterPartial.pending = s.pending := by simp [State.enterPartial]

@[simp] theorem State.runBegin_pending (s : State) (waiters : List (Nat × U16)) : (s.runBegin waiters).pending = s.pending := by
  simp [State.runBegin]

@[simp] theorem execModePartialEntered_keepsQueue (s : State) : (execModePartialEntered s).KeepsQueue s := by
  unfold execModePartialEntered
  split <;> simp

@[simp] theorem execBlockQuiesceIdle_keepsQueue (block : Nat) (s : State) : (execBlockQuiesceIdle block s).KeepsQueue s := by
  simp [execBlockQuiesceIdle]

@[simp] theorem State.lineLost_pending (s : State) (line : Nat) : (s.lineLost line).pending = s.pending := by simp [State.lineLost]

@[simp] theorem execQuiesceTimeout_keepsQueue (cut : QuiesceCut) (s : State) : (execQuiesceTimeout cut s).KeepsQueue s := by
  simp [execQuiesceTimeout]

@[simp] theorem execBlockReady_keepsQueue (block : Nat) (s : State) : (execBlockReady block s).KeepsQueue s := by simp [execBlockReady]

@[simp] theorem execBlockReadyTimeout_keepsQueue (block : Nat) (s : State) : (execBlockReadyTimeout block s).KeepsQueue s := by
  simp [execBlockReadyTimeout]

@[simp] theorem wait_pending (s : State) (reason : Byte) : (wait s reason).1.pending = s.pending := by simp [wait]

@[simp] theorem State.blockOffReq_pending (s : State) (b : Nat) (w : Nat × U16) : (s.blockOffReq b w).1.pending = s.pending := by
  unfold State.blockOffReq
  simp only
  repeat' split
  all_goals simp

@[simp] theorem State.blockOnReq_pending (s : State) (b : Nat) (w : Nat × U16) : (s.blockOnReq b w).1.pending = s.pending := by
  unfold State.blockOnReq
  simp only
  split <;> simp

@[simp] theorem execBlockPower_keepsQueue (rq : Request) (s : State) : (execBlockPower rq s).KeepsQueue s := by simp [execBlockPower]

@[simp] theorem ownKeepVote_pending (rq : Request) (s : State) : (ownKeepVote rq s).1.pending = s.pending := by
  unfold ownKeepVote
  simp only
  repeat' split
  all_goals simp

@[simp] theorem execKeepVote_keepsQueue (rq : Request) (s : State) : (execKeepVote rq s).KeepsQueue s := by simp [execKeepVote]
@[simp] theorem execKeepRelease_keepsQueue (rq : Request) (s : State) : (execKeepRelease rq s).KeepsQueue s := by simp [execKeepRelease]
@[simp] theorem execBlockStatus_keepsQueue (rq : Request) (s : State) : (execBlockStatus rq s).KeepsQueue s := by simp [execBlockStatus]

/-! ### Commands of the switch (Machine/SwitchCmds.lean) -/

@[simp] theorem State.qpForget_pending (s : State) (q : Nat) : (s.qpForget q).pending = s.pending := by simp [State.qpForget]

@[simp] theorem ownQueuePairCreate_pending (rq : Request) (s : State) : (ownQueuePairCreate rq s).1.pending = s.pending := by
  unfold ownQueuePairCreate
  simp only
  repeat' split
  all_goals simp

@[simp] theorem execQueuePairCreate_keepsQueue (rq : Request) (s : State) : (execQueuePairCreate rq s).KeepsQueue s := by
  simp [execQueuePairCreate]

@[simp] theorem State.setPolicer_pending (s : State) (n rate burst : Nat) : (s.setPolicer n rate burst).pending = s.pending := by
  simp [State.setPolicer]

@[simp] theorem ownFlowCreate_pending (rq : Request) (s : State) : (ownFlowCreate rq s).1.pending = s.pending := by
  unfold ownFlowCreate
  simp only
  repeat' split
  all_goals simp

@[simp] theorem execFlowCreate_keepsQueue (rq : Request) (s : State) : (execFlowCreate rq s).KeepsQueue s := by simp [execFlowCreate]

@[simp] theorem State.dropFlow_pending (s : State) (slot : Nat) : (s.dropFlow slot).pending = s.pending := by
  unfold State.dropFlow
  split <;> simp

@[simp] theorem State.loadGate_pending (s : State) (p : Nat) (g : GateList) : (s.loadGate p g).pending = s.pending := by
  simp [State.loadGate]

@[simp] theorem ownGateListSet_pending (rq : Request) (s : State) : (ownGateListSet rq s).1.pending = s.pending := by
  unfold ownGateListSet
  repeat' split
  all_goals simp

@[simp] theorem execGateListSet_keepsQueue (rq : Request) (s : State) : (execGateListSet rq s).KeepsQueue s := by simp [execGateListSet]
@[simp] theorem State.wakeDisarm_pending (s : State) (port : Nat) : (s.wakeDisarm port).pending = s.pending := by simp [State.wakeDisarm]
@[simp] theorem ownPortConfig_pending (rq : Request) (s : State) : (ownPortConfig rq s).1.pending = s.pending := by simp [ownPortConfig]
@[simp] theorem execPortConfig_keepsQueue (rq : Request) (s : State) : (execPortConfig rq s).KeepsQueue s := by simp [execPortConfig]
@[simp] theorem execPortStats_keepsQueue (rq : Request) (s : State) : (execPortStats rq s).KeepsQueue s := by simp [execPortStats]
@[simp] theorem execMarketStatus_keepsQueue (rq : Request) (s : State) : (execMarketStatus rq s).KeepsQueue s := by simp [execMarketStatus]

/-! ### Handles (Machine/Handles.lean) -/

@[simp] theorem State.wedged_pending (s : State) (unit kind : Nat) : (s.wedged unit kind).pending = s.pending := by simp [State.wedged]
@[simp] theorem State.qpClear_pending (s : State) (q : Nat) : (s.qpClear q).pending = s.pending := by simp [State.qpClear]
@[simp] theorem State.winFree_pending (s : State) (w : Nat) : (s.winFree w).pending = s.pending := by simp [State.winFree]

@[simp] theorem State.handleStop_pending (s : State) (typ index : Nat) : (s.handleStop typ index).pending = s.pending := by
  simp [State.handleStop]

@[simp] theorem State.handleClear_pending (s : State) (typ index : Nat) : (s.handleClear typ index).pending = s.pending := by
  simp [State.handleClear]

@[simp] theorem State.handleFree_pending (s : State) (typ index : Nat) : (s.handleFree typ index).pending = s.pending := by
  simp [State.handleFree]

@[simp] theorem State.handleDestroy_pending (s : State) (typ index : Nat) (waiter : Option (Nat × U16)) :
    (s.handleDestroy typ index waiter).1.pending = s.pending := by simp [State.handleDestroy]

@[simp] theorem State.retireEnd_pending (s : State) (typ index : Nat) (value : U32) (waiter : Option (Nat × U16)) :
    (s.retireEnd typ index value waiter).pending = s.pending := by
  unfold State.retireEnd
  split <;> simp

@[simp] theorem State.handleEnd_pending (s : State) (typ index : Nat) : (s.handleEnd typ index).pending = s.pending := by
  unfold State.handleEnd
  split <;> simp

@[simp] theorem execHandleRetireComplete_keepsQueue (handle : U32) (s : State) : (execHandleRetireComplete handle s).KeepsQueue s := by
  unfold execHandleRetireComplete
  split <;> simp

@[simp] theorem execHandleRetireTimeout_keepsQueue (handle : U32) (unit : Nat) (s : State) :
    (execHandleRetireTimeout handle unit s).KeepsQueue s := by
  unfold execHandleRetireTimeout
  split <;> simp

@[simp] theorem execHandleQuery_keepsQueue (rq : Request) (s : State) : (execHandleQuery rq s).KeepsQueue s := by
  apply serveWith_keepsQueue
  intro t
  simp only
  split <;> simp

@[simp] theorem ownHandleDestroy_pending (rq : Request) (s : State) : (ownHandleDestroy rq s).1.pending = s.pending := by
  simp [ownHandleDestroy]

@[simp] theorem execHandleDestroy_keepsQueue (rq : Request) (s : State) : (execHandleDestroy rq s).KeepsQueue s := by
  simp [execHandleDestroy]

@[simp] theorem ownHandleBindIrq_pending (rq : Request) (s : State) : (ownHandleBindIrq rq s).1.pending = s.pending := by
  unfold ownHandleBindIrq
  split <;> simp

@[simp] theorem execHandleBindIrq_keepsQueue (rq : Request) (s : State) : (execHandleBindIrq rq s).KeepsQueue s := by
  simp [execHandleBindIrq]

@[simp] theorem execPendingQuery_keepsQueue (rq : Request) (s : State) : (execPendingQuery rq s).KeepsQueue s := by simp [execPendingQuery]

@[simp] theorem ownResultRead_pending (rq : Request) (s : State) : (ownResultRead rq s).1.pending = s.pending := by
  unfold ownResultRead
  split <;> simp

@[simp] theorem execResultRead_keepsQueue (rq : Request) (s : State) : (execResultRead rq s).KeepsQueue s := by simp [execResultRead]

/-! ### Resets of instances (Machine/Resets.lean) -/

@[simp] theorem State.rebuildDram_pending (s : State) : s.rebuildDram.pending = s.pending := by simp [State.rebuildDram]

@[simp] theorem State.setRefuse_pending (s : State) (key : Nat) (st : U16) : (s.setRefuse key st).pending = s.pending := by
  simp [State.setRefuse]

@[simp] theorem State.loadsMute_pending (s : State) (n : Nat) (b policy : Bool) : (s.loadsMute n b policy).pending = s.pending := by
  simp [State.loadsMute]

@[simp] theorem State.inputsStop_pending (s : State) (n : Nat) (stop off clear : Bool) :
    (s.inputsStop n stop off clear).pending = s.pending := by simp [State.inputsStop]

@[simp] theorem State.fnStop_pending (s : State) (n kind sel : Nat) : (s.fnStop n kind sel).pending = s.pending := by simp [State.fnStop]
@[simp] theorem State.fnAbort_pending (s : State) (n kind sel : Nat) : (s.fnAbort n kind sel).pending = s.pending := by simp [State.fnAbort]
@[simp] theorem State.fnResume_pending (s : State) (n kind : Nat) : (s.fnResume n kind).pending = s.pending := by simp [State.fnResume]
@[simp] theorem State.stallsReset_pending (s : State) (n : Nat) : (s.stallsReset n).pending = s.pending := by simp [State.stallsReset]
@[simp] theorem State.instBegin_pending (s : State) (n : Nat) : (s.instBegin n).pending = s.pending := by simp [State.instBegin]
@[simp] theorem State.instMayBegin_pending (s : State) (n : Nat) : (s.instMayBegin n).pending = s.pending := by simp [State.instMayBegin]
@[simp] theorem State.instAbort_pending (s : State) (n : Nat) : (s.instAbort n).pending = s.pending := by simp [State.instAbort]
@[simp] theorem State.instClear_pending (s : State) (n : Nat) : (s.instClear n).pending = s.pending := by simp [State.instClear]
@[simp] theorem State.destroyAll_pending (s : State) (n : Nat) : (s.destroyAll n).pending = s.pending := by simp [State.destroyAll]
@[simp] theorem State.instEnd_pending (s : State) (n : Nat) : (s.instEnd n).pending = s.pending := by simp [State.instEnd]

@[simp] theorem State.resetNotice_pending (s : State) (w : Option (Nat × U16)) : (s.resetNotice w).pending = s.pending := by
  unfold State.resetNotice
  split <;> simp

@[simp] theorem State.instReport_pending (s : State) (n : Nat) : (s.instReport n).pending = s.pending := by simp [State.instReport]

@[simp] theorem execInstanceResetDrainEnd_keepsQueue (inst : Nat) (s : State) : (execInstanceResetDrainEnd inst s).KeepsQueue s := by
  simp [execInstanceResetDrainEnd]

@[simp] theorem execInstanceResetComplete_keepsQueue (inst : Nat) (s : State) : (execInstanceResetComplete inst s).KeepsQueue s := by
  simp [execInstanceResetComplete]

@[simp] theorem ownInstanceReset_pending (rq : Request) (s : State) : (ownInstanceReset rq s).1.pending = s.pending := by
  unfold ownInstanceReset
  simp only
  repeat' split
  all_goals simp

@[simp] theorem execInstanceReset_keepsQueue (rq : Request) (s : State) : (execInstanceReset rq s).KeepsQueue s := by
  simp [execInstanceReset]

@[simp] theorem ownInstanceDestroy_pending (rq : Request) (s : State) : (ownInstanceDestroy rq s).1.pending = s.pending := by
  unfold ownInstanceDestroy
  simp only
  repeat' split
  all_goals simp

@[simp] theorem execInstanceDestroy_keepsQueue (rq : Request) (s : State) : (execInstanceDestroy rq s).KeepsQueue s := by
  simp [execInstanceDestroy]

@[simp] theorem State.stallClose_pending (s : State) (k : Nat) : (s.stallClose k).pending = s.pending := by simp [State.stallClose]
@[simp] theorem State.acctEnd_pending (s : State) (n : Nat) : (s.acctEnd n).pending = s.pending := by simp [State.acctEnd]
@[simp] theorem State.instDrop_pending (s : State) (n : Nat) : (s.instDrop n).pending = s.pending := by simp [State.instDrop]

@[simp] theorem execInstanceDestroyComplete_keepsQueue (inst : Nat) (s : State) : (execInstanceDestroyComplete inst s).KeepsQueue s := by
  simp [execInstanceDestroyComplete]

@[simp] theorem ownFnDisable_pending (rq : Request) (s : State) : (ownFnDisable rq s).1.pending = s.pending := by
  unfold ownFnDisable
  simp only
  split <;> simp

@[simp] theorem execFnDisable_keepsQueue (rq : Request) (s : State) : (execFnDisable rq s).KeepsQueue s := by simp [execFnDisable]

@[simp] theorem execFnDisableDrainTimeout_keepsQueue (inst : Nat) (s : State) : (execFnDisableDrainTimeout inst s).KeepsQueue s := by
  unfold execFnDisableDrainTimeout
  repeat' split
  all_goals simp

@[simp] theorem execFnDisableComplete_keepsQueue (inst : Nat) (s : State) : (execFnDisableComplete inst s).KeepsQueue s := by
  unfold execFnDisableComplete
  repeat' split
  all_goals simp

@[simp] theorem ownFnEnable_pending (rq : Request) (s : State) : (ownFnEnable rq s).1.pending = s.pending := by
  unfold ownFnEnable
  simp only
  split <;> simp

@[simp] theorem execFnEnable_keepsQueue (rq : Request) (s : State) : (execFnEnable rq s).KeepsQueue s := by simp [execFnEnable]

/-! ### Instances (Machine/Instances.lean) -/

@[simp] theorem State.shareApply_pending (s : State) (n : Nat) (new l : List Share) : (s.shareApply n new l).pending = s.pending := by
  unfold State.shareApply
  split <;> simp

@[simp] theorem State.instMake_pending (s : State) (n : Nat) (l : List Share) : (s.instMake n l).pending = s.pending := by
  simp [State.instMake]

@[simp] theorem ownInstanceCreate_pending (rq : Request) (s : State) : (ownInstanceCreate rq s).1.pending = s.pending := by
  unfold ownInstanceCreate
  simp only
  repeat' split
  all_goals simp

@[simp] theorem execInstanceCreate_keepsQueue (rq : Request) (s : State) : (execInstanceCreate rq s).KeepsQueue s := by
  simp [execInstanceCreate]

@[simp] theorem ownShareChange_pending (rq : Request) (s : State) : (ownShareChange rq s).1.pending = s.pending := by
  unfold ownShareChange
  simp only
  repeat' split
  all_goals simp

@[simp] theorem execShareChange_keepsQueue (rq : Request) (s : State) : (execShareChange rq s).KeepsQueue s := by simp [execShareChange]

@[simp] theorem ownInstanceQuery_pending (rq : Request) (s : State) : (ownInstanceQuery rq s).1.pending = s.pending := by
  simp [ownInstanceQuery]

@[simp] theorem execInstanceQuery_keepsQueue (rq : Request) (s : State) : (execInstanceQuery rq s).KeepsQueue s := by
  simp [execInstanceQuery]

@[simp] theorem ownStallAssign_pending (rq : Request) (s : State) : (ownStallAssign rq s).1.pending = s.pending := by
  unfold ownStallAssign
  simp only
  split <;> simp

@[simp] theorem execStallAssign_keepsQueue (rq : Request) (s : State) : (execStallAssign rq s).KeepsQueue s := by simp [execStallAssign]

@[simp] theorem execStallWithdraw_keepsQueue (rq : Request) (s : State) : (execStallWithdraw rq s).KeepsQueue s := by
  simp [execStallWithdraw]

@[simp] theorem ownGuestFileBind_pending (rq : Request) (s : State) : (ownGuestFileBind rq s).1.pending = s.pending := by
  unfold ownGuestFileBind
  simp only
  repeat' split
  all_goals simp

@[simp] theorem execGuestFileBind_keepsQueue (rq : Request) (s : State) : (execGuestFileBind rq s).KeepsQueue s := by
  simp [execGuestFileBind]

/-! ### Supply (Machine/Supply.lean) -/

@[simp] theorem State.logEither_pending (s : State) (e : Ev) (data : List Byte) : (s.logEither e data).pending = s.pending := by
  simp [State.logEither]

@[simp] theorem State.feedsStep_pending (s : State) : s.feedsStep.pending = s.pending := by simp [State.feedsStep]

@[simp] theorem execFeedSwitchOpen_keepsQueue (feed : Bool) (s : State) : (execFeedSwitchOpen feed s).KeepsQueue s := by
  simp [execFeedSwitchOpen]

@[simp] theorem State.feedClose_pending (s : State) (feed : Bool) : (s.feedClose feed).pending = s.pending := by simp [State.feedClose]

@[simp] theorem execFeedSwitchClose_keepsQueue (feed : Bool) (s : State) : (execFeedSwitchClose feed s).KeepsQueue s := by
  simp [execFeedSwitchClose]

@[simp] theorem execFeedConnectNoSource_keepsQueue (feeds : FeedPair) (s : State) : (execFeedConnectNoSource feeds s).KeepsQueue s := by
  simp [execFeedConnectNoSource]

@[simp] theorem State.charge_pending (s : State) (mv : U16) : (s.charge mv).pending = s.pending := by simp [State.charge]
@[simp] theorem execCrankSet_keepsQueue (mv : U16) (s : State) : (execCrankSet mv s).KeepsQueue s := by simp [execCrankSet]
@[simp] theorem execCrankClear_keepsQueue (mv : U16) (s : State) : (execCrankClear mv s).KeepsQueue s := by simp [execCrankClear]

@[simp] theorem execOvervoltageEnter_keepsQueue (mv : U16) (s : State) : (execOvervoltageEnter mv s).KeepsQueue s := by
  simp [execOvervoltageEnter]

@[simp] theorem execOvervoltageExit_keepsQueue (mv : U16) (s : State) : (execOvervoltageExit mv s).KeepsQueue s := by
  simp [execOvervoltageExit]

@[simp] theorem execBankReady_keepsQueue (s : State) : (execBankReady s).KeepsQueue s := by simp [execBankReady]
@[simp] theorem State.domainsReset_pending (s : State) : s.domainsReset.pending = s.pending := by simp [State.domainsReset]

@[simp] theorem State.powerDown_pending (s : State) (ok waiting : Bool) : (s.powerDown ok waiting).pending = s.pending := by
  simp [State.powerDown]

@[simp] theorem State.macsecZero_pending (s : State) : s.macsecZero.pending = s.pending := by simp [State.macsecZero]

@[simp] theorem State.holdupBegin_pending (s : State) (mv : U16) (cause : Byte) : (s.holdupBegin mv cause).pending = s.pending := by
  simp [State.holdupBegin]

@[simp] theorem execSupplyLoss_keepsQueue (mv : U16) (cause : Byte) (s : State) : (execSupplyLoss mv cause s).KeepsQueue s := by
  simp [execSupplyLoss]

@[simp] theorem execHoldupCommitComplete_keepsQueue (s : State) : (execHoldupCommitComplete s).KeepsQueue s := by
  simp [execHoldupCommitComplete]

@[simp] theorem execHoldupRestart_keepsQueue (mv : U16) (s : State) : (execHoldupRestart mv s).KeepsQueue s := by simp [execHoldupRestart]
@[simp] theorem execRstReqPulseEnd_keepsQueue (s : State) : (execRstReqPulseEnd s).KeepsQueue s := by simp [execRstReqPulseEnd]
@[simp] theorem State.pinReach_pending (s : State) : s.pinReach.pending = s.pending := by simp [State.pinReach]
@[simp] theorem execResetNValid_keepsQueue (s : State) : (execResetNValid s).KeepsQueue s := by simp [execResetNValid]

@[simp] theorem execPowerOnResetRelease_keepsQueue (net : NetSel) (pairOpen svcOpen : Bool) (s : State) :
    (execPowerOnResetRelease net pairOpen svcOpen s).KeepsQueue s := by simp [execPowerOnResetRelease]

@[simp] theorem State.startBegin_pending (s : State) (wake : Bool) : (s.startBegin wake).pending = s.pending := by simp [State.startBegin]
@[simp] theorem execStartVbusWaitEnd_keepsQueue (s : State) : (execStartVbusWaitEnd s).KeepsQueue s := by simp [execStartVbusWaitEnd]
@[simp] theorem execResetNRelease_keepsQueue (s : State) : (execResetNRelease s).KeepsQueue s := by simp [execResetNRelease]

/-! ### Sleep and wake (Machine/Sleep.lean) -/

@[simp] theorem State.orderBegin_pending (s : State) (self : Bool) (order : Option (Nat × U16)) :
    (s.orderBegin self order).pending = s.pending := by simp [State.orderBegin]

@[simp] theorem State.orderBusy_pending (s : State) (source : Byte) : (s.orderBusy source).pending = s.pending := by
  unfold State.orderBusy
  repeat' split
  all_goals simp

@[simp] theorem State.drainEnd_pending (s : State) (cut : Bool) : (s.drainEnd cut).pending = s.pending := by simp [State.drainEnd]
@[simp] theorem State.orderClosed_pending (s : State) : s.orderClosed.pending = s.pending := by simp [State.orderClosed]
@[simp] theorem State.wakeLinks_pending (s : State) : s.wakeLinks.pending = s.pending := by simp [State.wakeLinks]

@[simp] theorem State.orderAbort_pending (s : State) (source : Nat) : (s.orderAbort source).pending = s.pending := by
  simp [State.orderAbort]

@[simp] theorem execSleepOrder_keepsQueue (rq : Request) (s : State) : (execSleepOrder rq s).KeepsQueue s := by simp [execSleepOrder]
@[simp] theorem State.portDrained_pending (s : State) (p : Nat) : (s.portDrained p).pending = s.pending := by simp [State.portDrained]

@[simp] theorem execSleepPreparationsIssued_keepsQueue (s : State) : (execSleepPreparationsIssued s).KeepsQueue s := by
  simp [execSleepPreparationsIssued]

@[simp] theorem execTc10SleepRequestReceive_keepsQueue (port : Nat) (s : State) : (execTc10SleepRequestReceive port s).KeepsQueue s := by
  simp [execTc10SleepRequestReceive]

@[simp] theorem State.votesDrop_pending (s : State) : s.votesDrop.pending = s.pending := by simp [State.votesDrop]
@[simp] theorem State.commit_pending (s : State) : s.commit.pending = s.pending := by simp [State.commit]
@[simp] theorem State.commitStep_pending (s : State) (cut : Bool) : (s.commitStep cut).pending = s.pending := by simp [State.commitStep]
@[simp] theorem execDrainConditionsMet_keepsQueue (s : State) : (execDrainConditionsMet s).KeepsQueue s := by simp [execDrainConditionsMet]
@[simp] theorem execDrainLimitExpiry_keepsQueue (s : State) : (execDrainLimitExpiry s).KeepsQueue s := by simp [execDrainLimitExpiry]
@[simp] theorem State.loadsKeep_pending (s : State) : s.loadsKeep.pending = s.pending := by simp [State.loadsKeep]
@[simp] theorem State.wakeKeep_pending (s old : State) : (s.wakeKeep old).pending = s.pending := by simp [State.wakeKeep]

@[simp] theorem execCommittedDomainsOff_keepsQueue (s : State) : (execCommittedDomainsOff s).KeepsQueue s := by
  simp [execCommittedDomainsOff]

@[simp] theorem State.loadsAfterSleep_pending (s : State) : s.loadsAfterSleep.pending = s.pending := by simp [State.loadsAfterSleep]
@[simp] theorem State.sleepStart_pending (s : State) : s.sleepStart.pending = s.pending := by simp [State.sleepStart]
@[simp] theorem execSleepDwellEnd_keepsQueue (s : State) : (execSleepDwellEnd s).KeepsQueue s := by simp [execSleepDwellEnd]

@[simp] theorem State.latchWake_pending (s : State) (n : Nat) (late : Bool) : (s.latchWake n late).pending = s.pending := by
  simp [State.latchWake]

@[simp] theorem State.wakeSeen_pending (s : State) (f : WakeFire) : (s.wakeSeen f).pending = s.pending := by simp [State.wakeSeen]

@[simp] theorem execWakeEvent_keepsQueue (fires : List WakeFire) (s : State) : (execWakeEvent fires s).KeepsQueue s := by
  unfold execWakeEvent
  repeat' split
  all_goals simp

@[simp] theorem execWakeConfirmation_keepsQueue (s : State) : (execWakeConfirmation s).KeepsQueue s := by simp [execWakeConfirmation]

@[simp] theorem execFalseWakeTimeout_keepsQueue (s : State) : (execFalseWakeTimeout s).KeepsQueue s := by
  unfold execFalseWakeTimeout
  simp only
  repeat' split
  all_goals simp

@[simp] theorem State.showArmed_pending (s : State) (n : Nat) : (s.showArmed n).pending = s.pending := by simp [State.showArmed]

@[simp] theorem execQuarantineEnd_keepsQueue (source : Nat) (s : State) : (execQuarantineEnd source s).KeepsQueue s := by
  simp [execQuarantineEnd]

@[simp] theorem ownWakeConfig_pending (rq : Request) (s : State) : (ownWakeConfig rq s).1.pending = s.pending := by simp [ownWakeConfig]
@[simp] theorem execWakeConfig_keepsQueue (rq : Request) (s : State) : (execWakeConfig rq s).KeepsQueue s := by simp [execWakeConfig]
@[simp] theorem execWakeStatus_keepsQueue (rq : Request) (s : State) : (execWakeStatus rq s).KeepsQueue s := by simp [execWakeStatus]

/-! ### The stored configuration (Machine/Stored.lean) -/

@[simp] theorem State.loadDefaults_pending (s : State) (g : StoredCfg) : (s.loadDefaults g).pending = s.pending := by
  simp [State.loadDefaults]

@[simp] theorem State.flowPlace_pending (s : State) (f : Flow) : (s.flowPlace f).pending = s.pending := by
  unfold State.flowPlace
  simp only
  repeat' split
  all_goals simp

@[simp] theorem State.ethPortSet_pending (s : State) (p : Nat) (g : EthPort) : (s.ethPortSet p g).pending = s.pending := by
  simp [State.ethPortSet]

@[simp] theorem State.swPortSet_pending (s : State) (p : Nat) (g : SwPort) : (s.swPortSet p g).pending = s.pending := by
  simp [State.swPortSet]

@[simp] theorem State.applySwitch_pending (s0 : State) (g : StoredNet) : (s0.applySwitch g).pending = s0.pending := by
  simp [State.applySwitch]

@[simp] theorem State.portsStored_pending (s : State) (g : StoredNet) : (s.portsStored g).pending = s.pending := by simp [State.portsStored]
@[simp] theorem State.applyEth_pending (s : State) (g : StoredNet) : (s.applyEth g).pending = s.pending := by simp [State.applyEth]
@[simp] theorem State.applyLin_pending (s : State) (g : StoredIo) : (s.applyLin g).pending = s.pending := by simp [State.applyLin]
@[simp] theorem State.applyRules_pending (s : State) (g : StoredIo) : (s.applyRules g).pending = s.pending := by simp [State.applyRules]
@[simp] theorem State.applyBus_pending (s : State) (g : StoredIo) : (s.applyBus g).pending = s.pending := by simp [State.applyBus]
@[simp] theorem State.applyLoads_pending (s : State) (g : StoredCfg) : (s.applyLoads g).pending = s.pending := by simp [State.applyLoads]
@[simp] theorem State.applyInputs_pending (s : State) (g : StoredIo) : (s.applyInputs g).pending = s.pending := by simp [State.applyInputs]
@[simp] theorem State.applyWake_pending (s : State) (g : StoredCfg) : (s.applyWake g).pending = s.pending := by simp [State.applyWake]
@[simp] theorem State.applyCheckers_pending (s : State) : s.applyCheckers.pending = s.pending := by simp [State.applyCheckers]
@[simp] theorem State.wakeForward_pending (s : State) : s.wakeForward.pending = s.pending := by simp [State.wakeForward]
@[simp] theorem State.applyPass_pending (s : State) (g : StoredCfg) : (s.applyPass g).pending = s.pending := by simp [State.applyPass]
@[simp] theorem State.applyStored_pending (s : State) (g : StoredCfg) : (s.applyStored g).pending = s.pending := by simp [State.applyStored]

/-! ### SAFE (Machine/Safe.lean) -/

@[simp] theorem State.safeLog_pending (s : State) (cause : Byte) (pair lane : Nat) (pc : U64) :
    (s.safeLog cause pair lane pc).pending = s.pending := by simp [State.safeLog]

@[simp] theorem State.guestsEnd_pending (s : State) : s.guestsEnd.pending = s.pending := by simp [State.guestsEnd]
@[simp] theorem State.runtimeEnd_pending (s : State) : s.runtimeEnd.pending = s.pending := by simp [State.runtimeEnd]
@[simp] theorem State.queuesEnd_pending (s : State) : s.queuesEnd.pending = s.pending := by simp [State.queuesEnd]

@[simp] theorem State.guestRequestsClose_pending (s : State) : s.guestRequestsClose.pending = s.pending := by
  simp [State.guestRequestsClose]

@[simp] theorem State.requestsClose_pending (s : State) : s.requestsClose.pending = s.pending := by
  unfold State.requestsClose
  repeat' split
  all_goals simp

@[simp] theorem State.blocksOn_pending (s0 : State) : s0.blocksOn.pending = s0.pending := by simp [State.blocksOn]
@[simp] theorem State.pairsHeld_pending (s : State) : s.pairsHeld.pending = s.pending := by simp [State.pairsHeld]

@[simp] theorem State.safeEntry_pending (s : State) (cause : Byte) (pair lane : Nat) (pc : U64) :
    (s.safeEntry cause pair lane pc).pending = s.pending := by simp [State.safeEntry]

@[simp] theorem State.safeCommitted_pending (s : State) (cause : Byte) (pair lane : Nat) (pc : U64) :
    (s.safeCommitted cause pair lane pc).pending = s.pending := by simp [State.safeCommitted]

@[simp] theorem State.pairTogether_pending (s : State) (cause : Byte) (pair : Nat) : (s.pairTogether cause pair).pending = s.pending := by
  simp [State.pairTogether]

@[simp] theorem State.safeTrigger_pending (s : State) (cause : Byte) (pair lane : Nat) (pc : U64) :
    (s.safeTrigger cause pair lane pc).pending = s.pending := by simp [State.safeTrigger]

@[simp] theorem execLockstepMismatch_keepsQueue (pair lane : Nat) (pc : U64) (s : State) :
    (execLockstepMismatch pair lane pc s).KeepsQueue s := by simp [execLockstepMismatch]

@[simp] theorem execAmindLockstepMismatch_keepsQueue (lane : Nat) (pc : U64) (s : State) :
    (execAmindLockstepMismatch lane pc s).KeepsQueue s := by simp [execAmindLockstepMismatch]

@[simp] theorem execMemoryUncorrectable_keepsQueue (_mem : MemUnit) (s : State) : (execMemoryUncorrectable _mem s).KeepsQueue s := by
  simp [execMemoryUncorrectable]

@[simp] theorem execJunctionOvertemp_keepsQueue (temp : U16) (s : State) : (execJunctionOvertemp temp s).KeepsQueue s := by
  simp [execJunctionOvertemp]

@[simp] theorem execSafeRestartDelayExpiry_keepsQueue (s : State) : (execSafeRestartDelayExpiry s).KeepsQueue s := by
  simp [execSafeRestartDelayExpiry]

@[simp] theorem ownPartial_pending (rq : Request) (s : State) : (ownPartial rq s).1.pending = s.pending := by
  unfold ownPartial
  split <;> simp

@[simp] theorem ownRun_pending (rq : Request) (s : State) : (ownRun rq s).1.pending = s.pending := by
  unfold ownRun
  repeat' split
  all_goals simp

@[simp] theorem execModeRequest_keepsQueue (rq : Request) (s : State) : (execModeRequest rq s).KeepsQueue s := by simp [execModeRequest]
@[simp] theorem execResetRequest_keepsQueue (rq : Request) (s : State) : (execResetRequest rq s).KeepsQueue s := by simp [execResetRequest]

@[simp] theorem execRecoveryRelease_keepsQueue (rq : Request) (s : State) : (execRecoveryRelease rq s).KeepsQueue s := by
  simp [execRecoveryRelease]

@[simp] theorem execAmindWdogExpiry_keepsQueue (s : State) : (execAmindWdogExpiry s).KeepsQueue s := by simp [execAmindWdogExpiry]

@[simp] theorem execEngineWedgedDetect_keepsQueue (unit : Nat) (kind : Byte) (s : State) :
    (execEngineWedgedDetect unit kind s).KeepsQueue s := by simp [execEngineWedgedDetect]

@[simp] theorem execCheckerLock_keepsQueue (rq : Request) (s : State) : (execCheckerLock rq s).KeepsQueue s := by simp [execCheckerLock]

@[simp] theorem State.pinChange_pending (s : State) (n : Nat) (claim : Bool) : (s.pinChange n claim).pending = s.pending := by
  simp [State.pinChange]

@[simp] theorem execSecureClaim_keepsQueue (rq : Request) (s : State) : (execSecureClaim rq s).KeepsQueue s := by simp [execSecureClaim]

@[simp] theorem execSecureRelease_keepsQueue (rq : Request) (s : State) : (execSecureRelease rq s).KeepsQueue s := by
  simp [execSecureRelease]

/-! ### The start (Machine/Start.lean) -/

@[simp] theorem State.selectSlot_pending (s : State) (n : Nat) : (s.selectSlot n).1.pending = s.pending := by
  unfold State.selectSlot
  simp only
  repeat' split
  all_goals simp

@[simp] theorem State.promote_pending (s : State) (n : Nat) : (s.promote n).pending = s.pending := by
  unfold State.promote
  simp only
  split <;> simp

@[simp] theorem State.loadRecovers_pending (s : State) (c : Nat) : (s.loadRecovers c).pending = s.pending := by simp [State.loadRecovers]
@[simp] theorem State.enterRecovery_pending (s : State) : s.enterRecovery.pending = s.pending := by simp [State.enterRecovery]
@[simp] theorem State.keysUp_pending (s : State) : s.keysUp.pending = s.pending := by simp [State.keysUp]
@[simp] theorem State.wakeLog_pending (s : State) : s.wakeLog.pending = s.pending := by simp [State.wakeLog]
@[simp] theorem State.strapLog_pending (s : State) : s.strapLog.pending = s.pending := by simp [State.strapLog]

@[simp] theorem State.bankMeasured_pending (s : State) (bankCap : U16) : (s.bankMeasured bankCap).pending = s.pending := by
  simp [State.bankMeasured]

@[simp] theorem State.svcLoad_pending (s : State) : s.svcLoad.pending = s.pending := by simp [State.svcLoad]
@[simp] theorem State.testsBegin_pending (s : State) (l : List Nat) : (s.testsBegin l).pending = s.pending := by simp [State.testsBegin]

@[simp] theorem execAmindFirmwareAuthenticated_keepsQueue (report : FirmwareReport) (s : State) :
    (execAmindFirmwareAuthenticated report s).KeepsQueue s := by
  unfold execAmindFirmwareAuthenticated
  simp only
  repeat' split
  all_goals simp

@[simp] theorem State.selfTest_pending (s : State) (p : Nat) (pass : Bool) (lane : Nat) : (s.selfTest p pass lane).pending = s.pending := by
  simp [State.selfTest]

@[simp] theorem State.memoriesWiped_pending (s : State) : s.memoriesWiped.pending = s.pending := by simp [State.memoriesWiped]

@[simp] theorem execComparatorSelftestDone_keepsQueue (pair : Nat) (pass : Bool) (lane : Nat) (s : State) :
    (execComparatorSelftestDone pair pass lane s).KeepsQueue s := by simp [execComparatorSelftestDone]

@[simp] theorem State.configFails_pending (s : State) : s.configFails.1.pending = s.pending := by
  unfold State.configFails
  simp only
  split <;> simp

@[simp] theorem execStartConfigApplied_keepsQueue (cfg : StoredCfg) (bankCap : U16) (s : State) :
    (execStartConfigApplied cfg bankCap s).KeepsQueue s := by
  unfold execStartConfigApplied
  simp only
  repeat' split
  all_goals simp

@[simp] theorem State.rootHandle_pending (s : State) (n : Nat) : (s.rootHandle n).pending = s.pending := by simp [State.rootHandle]
@[simp] theorem State.carve_pending (s : State) : s.carve.pending = s.pending := by simp [State.carve]

@[simp] theorem State.measure_pending (s : State) (digest2 : List Byte) (digest3 : Option (List Byte)) :
    (s.measure digest2 digest3).pending = s.pending := by simp [State.measure]

@[simp] theorem State.selectImages_pending (s : State) : s.selectImages.1.pending = s.pending := by simp [State.selectImages]

@[simp] theorem State.placed_pending (s : State) (secure mgr : List (A40 × List Byte)) : (s.placed secure mgr).pending = s.pending := by
  simp [State.placed]

@[simp] theorem execSecureImagePlaced_keepsQueue (digest2 : List Byte) (digest3 : Option (List Byte)) (entry mgrEntry : A40)
    (parts : ImageParts) (s : State) :
    (execSecureImagePlaced digest2 digest3 entry mgrEntry parts s).KeepsQueue s := by simp [execSecureImagePlaced]

@[simp] theorem State.bootHart_pending (s : State) (h : Nat) : (s.bootHart h).pending = s.pending := by simp [State.bootHart]
@[simp] theorem State.pairsRun_pending (s : State) (l : List Nat) : (s.pairsRun l).pending = s.pending := by simp [State.pairsRun]

@[simp] theorem State.startComplete_pending (s : State) : s.startComplete.pending = s.pending := by
  unfold State.startComplete
  simp only
  repeat' split
  all_goals simp

@[simp] theorem State.maybeGood_pending (s : State) : s.maybeGood.pending = s.pending := by simp [State.maybeGood]
@[simp] theorem execPairsReleased_keepsQueue (s : State) : (execPairsReleased s).KeepsQueue s := by simp [execPairsReleased]
@[simp] theorem execStartGood_keepsQueue (rq : Request) (s : State) : (execStartGood rq s).KeepsQueue s := by simp [execStartGood]
@[simp] theorem execStartTimeout_keepsQueue (s : State) : (execStartTimeout s).KeepsQueue s := by simp [execStartTimeout]
@[simp] theorem State.blocksRunAgain_pending (s : State) : s.blocksRunAgain.pending = s.pending := by simp [State.blocksRunAgain]
@[simp] theorem State.portsWake_pending (s : State) : s.portsWake.pending = s.pending := by simp [State.portsWake]

@[simp] theorem execModeRunEntered_keepsQueue (fails : List (Nat × Nat)) (s : State) : (execModeRunEntered fails s).KeepsQueue s := by
  unfold execModeRunEntered
  split <;> simp

/-! ### Health, ledger, updates and life cycle (Machine/Records.lean) -/

@[simp] theorem execHealthSample_keepsQueue (h : Sensors) (feedA feedB : U16) (s : State) :
    (execHealthSample h feedA feedB s).KeepsQueue s := by simp [execHealthSample]

@[simp] theorem execHealthQuery_keepsQueue (rq : Request) (s : State) : (execHealthQuery rq s).KeepsQueue s := by simp [execHealthQuery]
@[simp] theorem execSafetyStatus_keepsQueue (rq : Request) (s : State) : (execSafetyStatus rq s).KeepsQueue s := by simp [execSafetyStatus]

@[simp] theorem execLedgerAonCommit_keepsQueue (s : State) : (execLedgerAonCommit s).KeepsQueue s := by
  unfold execLedgerAonCommit
  split <;> simp

@[simp] theorem execLedgerAmindCommit_keepsQueue (s : State) : (execLedgerAmindCommit s).KeepsQueue s := by simp [execLedgerAmindCommit]

@[simp] theorem execLedgerRateSecondEnd_keepsQueue (s : State) : (execLedgerRateSecondEnd s).KeepsQueue s := by
  simp [execLedgerRateSecondEnd]

@[simp] theorem ownLedgerReaderCreate_pending (rq : Request) (s : State) : (ownLedgerReaderCreate rq s).1.pending = s.pending := by
  unfold ownLedgerReaderCreate
  split <;> simp

@[simp] theorem execLedgerReaderCreate_keepsQueue (rq : Request) (s : State) : (execLedgerReaderCreate rq s).KeepsQueue s := by
  simp [execLedgerReaderCreate]

@[simp] theorem ownLedgerRead_pending (rq : Request) (s : State) : (ownLedgerRead rq s).1.pending = s.pending := by simp [ownLedgerRead]
@[simp] theorem execLedgerRead_keepsQueue (rq : Request) (s : State) : (execLedgerRead rq s).KeepsQueue s := by simp [execLedgerRead]
@[simp] theorem ownUpdateBegin_pending (rq : Request) (s : State) : (ownUpdateBegin rq s).1.pending = s.pending := by simp [ownUpdateBegin]
@[simp] theorem execUpdateBegin_keepsQueue (rq : Request) (s : State) : (execUpdateBegin rq s).KeepsQueue s := by simp [execUpdateBegin]

@[simp] theorem withStaging_pending (rq : Request) (s : State) {own : Staging → State × Ans}
    (hown : ∀ g, (own g).1.pending = s.pending) : (withStaging rq s own).1.pending = s.pending := by
  unfold withStaging
  split <;> simp [hown]

@[simp] theorem ownUpdateData_pending (rq : Request) (s : State) : (ownUpdateData rq s).1.pending = s.pending := by simp [ownUpdateData]
@[simp] theorem execUpdateData_keepsQueue (rq : Request) (s : State) : (execUpdateData rq s).KeepsQueue s := by simp [execUpdateData]

@[simp] theorem ownUpdateCommit_pending (rq : Request) (s : State) : (ownUpdateCommit rq s).1.pending = s.pending := by
  simp [ownUpdateCommit]

@[simp] theorem execUpdateCommit_keepsQueue (rq : Request) (s : State) : (execUpdateCommit rq s).KeepsQueue s := by simp [execUpdateCommit]
@[simp] theorem State.svcWrite_pending (s : State) (r : SvcRecord) : (s.svcWrite r).pending = s.pending := by simp [State.svcWrite]

@[simp] theorem execUpdateCommitComplete_keepsQueue (ownerEc ownerPq : List Byte) (cfg : StoredCfg) (record : SvcRecord) (s : State) :
    (execUpdateCommitComplete ownerEc ownerPq cfg record s).KeepsQueue s := by
  unfold execUpdateCommitComplete
  repeat' split
  all_goals simp

@[simp] theorem ownUpdateAbort_pending (rq : Request) (s : State) : (ownUpdateAbort rq s).1.pending = s.pending := by simp [ownUpdateAbort]
@[simp] theorem execUpdateAbort_keepsQueue (rq : Request) (s : State) : (execUpdateAbort rq s).KeepsQueue s := by simp [execUpdateAbort]

@[simp] theorem ownLifecycleSet_pending (rq : Request) (s : State) : (ownLifecycleSet rq s).1.pending = s.pending := by
  simp [ownLifecycleSet]

@[simp] theorem execLifecycleSet_keepsQueue (rq : Request) (s : State) : (execLifecycleSet rq s).KeepsQueue s := by simp [execLifecycleSet]
@[simp] theorem State.slotsErased_pending (s : State) : s.slotsErased.pending = s.pending := by simp [State.slotsErased]

@[simp] theorem execLifecycleTransitionCommit_keepsQueue (s : State) : (execLifecycleTransitionCommit s).KeepsQueue s := by
  unfold execLifecycleTransitionCommit
  split <;> simp

@[simp] theorem ownDebugOpen_pending (rq : Request) (s : State) : (ownDebugOpen rq s).1.pending = s.pending := by simp [ownDebugOpen]
@[simp] theorem execDebugOpen_keepsQueue (rq : Request) (s : State) : (execDebugOpen rq s).KeepsQueue s := by simp [execDebugOpen]

/-! ### Every command -/

/-- No command touches the queue: each arm of the dispatcher has its lemma above. -/
theorem exec_keepsQueue (c : Instr) (s : State) : Out.KeepsQueue (exec c s) s := by
  cases c <;> simp [exec]

end Sys2Proof.Machine

namespace Sys2Proof.Proofs

open Sys2Proof Sys2Proof.Machine

/-- Settles O6: every operation that a command is made of leaves the queue. -/
theorem commandsKeepQueue : Obligations.CommandsKeepQueue := fun c s => exec_keepsQueue c s

/-- Settles O1, by the case of `step` for a queue with a front. -/
theorem stepRunsFrontCommand : Obligations.StepRunsFrontCommand := fun _ _ _ => rfl

end Sys2Proof.Proofs

/-! SUPPORT. What the passing of one clock period can change: the time base, the switch's shapers and the interrupts, where no transaction
waits and the link is down. -/

namespace Sys2Proof.Machine

open Sys2Proof

/-! ### The credits of the shapers (Machine/Ethernet.lean) -/

/-- Nothing but the Ethernet ports' side differs. -/
def State.ethOnly (s t : State) : Prop := t = { s with eth := t.eth }

theorem State.ethOnly_refl (s : State) : s.ethOnly s := rfl

theorem State.ethOnly_trans {a b c : State} (h : a.ethOnly b) (k : b.ethOnly c) : a.ethOnly c := by
  unfold State.ethOnly at *
  rw [k, h]

theorem State.shape_ethOnly (s : State) (p : Nat) : s.ethOnly (s.shape p) := by
  unfold State.shape
  simp only
  split
  · exact s.ethOnly_refl
  · rfl

theorem State.shapeAll_ethOnly (s : State) : s.ethOnly s.shapeAll :=
  List.foldlRecOn s.eth.ports _ s.ethOnly_refl (fun t h e _ => State.ethOnly_trans h (t.shape_ethOnly e.1))

/-- A change of the ports' side with interrupts settled behind it. -/
theorem State.eq_withIrq_of_ethOnly_irqOnly {a b c : State} (h : a.ethOnly b) (k : b.irqOnly c) :
    c = ({ a with eth := c.eth } : State).withIrq c := by
  unfold State.ethOnly State.irqOnly at *
  rw [k, h]
  rfl

/-! ### The tick (Machine/Tick.lean) -/

theorem step_of_pending_nil {s : State} (h : s.pending = []) : step s = .next s.tick := by simp only [step, h]

theorem State.tick_of_porHeld {s : State} (h : s.supply.porHeld = true) : s.tick = s := by simp only [State.tick, h, if_true]

theorem State.arbitrate_of_waiting_nil {s : State} (h : s.core.waiting = []) : s.arbitrate = s := by
  simp [State.arbitrate, h, nextWaiting, eligible]

/-- Where no transaction waits and the link is not in full operation, a tick is one cycle of the time base, the shapers' credits and the
settling of interrupts. -/
theorem State.tick_of_quiet {s : State} (hpor : s.supply.porHeld = false) (hwait : s.core.waiting = []) (hlink : s.linkFull = false) :
    s.tick = ({ s with tb := s.tb.cycle } : State).shapeAll.settle := by
  have hshape := State.shapeAll_ethOnly { s with tb := s.tb.cycle }
  have hcore : ({ s with tb := s.tb.cycle } : State).shapeAll.core.waiting = [] := by rw [hshape]; exact hwait
  have hfull : ({ s with tb := s.tb.cycle } : State).shapeAll.linkFull = false := by rw [hshape]; exact hlink
  simp only [State.tick, hpor, State.arbitrate_of_waiting_nil hcore, hfull, Bool.false_eq_true, if_false]

/-- The frame of such a tick: beside the time base's cycle only the ports' credits and the interrupts move. -/
theorem State.tick_frame_of_quiet {s : State} (hpor : s.supply.porHeld = false) (hwait : s.core.waiting = [])
    (hlink : s.linkFull = false) : s.tick = ({ s with tb := s.tb.cycle, eth := s.tick.eth } : State).withIrq s.tick := by
  rw [State.tick_of_quiet hpor hwait hlink]
  exact State.eq_withIrq_of_ethOnly_irqOnly (State.shapeAll_ethOnly _) (State.settle_irqOnly _)

end Sys2Proof.Machine

namespace Sys2Proof.Proofs

open Sys2Proof Sys2Proof.Machine

/-- Settles O2: an empty queue makes the step a tick, and `State.tick_frame_of_quiet` says what a tick of a powered module changes. -/
theorem emptyQueueLetsTimePass : Obligations.EmptyQueueLetsTimePass := by
  intro s hqueue
  refine ⟨fun hpor => ?_, fun hpor hwait hlink => ⟨s.tick, step_of_pending_nil hqueue, ?_⟩⟩
  · rw [step_of_pending_nil hqueue, State.tick_of_porHeld hpor]
  · have hframe := State.tick_frame_of_quiet hpor hwait hlink
    refine ⟨congrArg State.tb hframe, ?_, congrArg State.core hframe⟩
    rw [hframe]
    rfl

end Sys2Proof.Proofs

/-! SUPPORT. How a command ends, in the order of the model's files: one that names no unit, or brings a request, always in a next state; one
that names units in a next state where they exist, and otherwise in the fault. -/

namespace Sys2Proof.Machine

open Sys2Proof

/-! ### Shapes -/

/-- The outcome is a next state. -/
def Out.Completes (o : Out) : Prop := ∃ t, o = .next t

/-- The outcome of a command that names units: a next state where they exist, and otherwise the fault. -/
def Out.Answers (o : Out) (known : Prop) : Prop := (known → o.Completes) ∧ (¬ known → o = noUnit)

@[simp] theorem Out.next_completes (s : State) : Out.Completes (.next s) := ⟨s, rfl⟩

@[simp] theorem fin_completes (s : State) : (fin s).Completes := ⟨s.settle, rfl⟩

@[simp] theorem Out.completes_ite {p : Prop} [Decidable p] {a b : Out} :
    Out.Completes (if p then a else b) ↔ if p then a.Completes else b.Completes := by split <;> rfl

@[simp] theorem State.aligned_completes (s : State) (x : Xact) (n cause : Nat) {k : Out} (hk : k.Completes) :
    (s.aligned x n cause k).Completes := by simp [State.aligned, hk]

theorem Out.answers_of_completes {o : Out} {known : Prop} (hk : known) (ho : o.Completes) : o.Answers known :=
  ⟨fun _ => ho, fun h => absurd hk h⟩

@[simp] theorem Out.answers_true {o : Out} : o.Answers True ↔ o.Completes :=
  ⟨fun h => h.1 trivial, Out.answers_of_completes trivial⟩

@[simp] theorem serveWith_completes (c : CmdSpec) (rq : Request) (s : State) (valid : List Byte → Bool) (retiring : Bool)
    (own : State → State × Ans) : (serveWith c rq s valid retiring own).Completes := serveWith_next c rq s valid retiring own

@[simp] theorem serve_completes (c : CmdSpec) (rq : Request) (s : State) (valid : List Byte → Bool) (own : State → State × Ans) :
    (serve c rq s valid own).Completes := serveWith_completes c rq s valid false own

/-- The check of a unit number in front of a meaning that always completes. -/
theorem Out.answers_guard {p known : Prop} [Decidable p] {o : Out} (hp : known ↔ ¬ p) (ho : o.Completes) :
    Out.Answers (if p then noUnit else o) known := by
  by_cases h : p
  · simp [Out.Answers, hp, h]
  · simp [Out.Answers, hp, h, ho]

/-- A transaction of an initiator: what comes behind its issue runs for a listed initiator alone. -/
theorem State.issue_answers (s : State) (t : Attr) {k : Attr → Out} (hk : ∀ t, (k t).Completes) :
    (s.issue t k).Answers (initListed t.init = true) := by
  cases h : initListed t.init
  · simp [Out.Answers, State.issue, h]
  · exact Out.answers_of_completes rfl (by simp [State.issue, h, hk])

theorem State.issueX_answers (s : State) (x : Xact) {k : Xact → Out} (hk : ∀ x, (k x).Completes) :
    (s.issueX x k).Answers (x.wf = true) := s.issue_answers x.attr fun _ => hk _

/-- The check of a unit number in front of a second one. -/
theorem Out.answers_guard_and {p known other : Prop} [Decidable p] {o : Out} (hp : known ↔ ¬ p) (ho : o.Answers other) :
    Out.Answers (if p then noUnit else o) (known ∧ other) := by
  by_cases h : p
  · simp [Out.Answers, hp, h]
  · simpa [Out.Answers, hp, h] using ho

/-! ### Machine/Forward.lean -/

@[simp] theorem execFrameIngress_answers (port : Nat) (f : RawFrame) (s : State) :
    (execFrameIngress port f s).Answers (port < 26 ∨ port = 29) := by
  refine Out.answers_guard not_not.symm ?_
  simp only
  repeat' split
  all_goals simp

@[simp] theorem execCutThroughStart_answers (port : Nat) (f : RawFrame) (s : State) :
    (execCutThroughStart port f s).Answers (port < 26 ∨ port = 29) := by
  refine Out.answers_guard not_not.symm ?_
  simp only
  repeat' split
  all_goals simp

@[simp] theorem execLinkUp_answers (port : Nat) (s : State) : (execLinkUp port s).Answers (port < 26) :=
  Out.answers_guard not_not.symm (by simp)

@[simp] theorem execLinkDown_answers (port : Nat) (s : State) : (execLinkDown port s).Answers (port < 26) :=
  Out.answers_guard not_not.symm (by simp)

/-! ### Machine/Can.lean -/

theorem State.objRow_answers (s : State) (chan obj : Nat) (t : Attr) (off : Nat) (v m : U32) :
    (s.objRow chan obj t off v m).Answers ((chan < 16 ∧ obj < 128) ∧ initListed t.init = true) :=
  Out.answers_guard_and (by omega) (s.issue_answers _ fun _ => by simp)

theorem State.objReadRow_answers (s : State) (chan obj : Nat) (t : Attr) (off : Nat) :
    (s.objReadRow chan obj t off).Answers ((chan < 16 ∧ obj < 128) ∧ initListed t.init = true) :=
  Out.answers_guard_and (by omega) (s.issue_answers _ fun _ => by simp)

@[simp] theorem execCanTxStart_answers (sof : CanSof) (s : State) : (execCanTxStart sof s).Answers (sof.chan < 16) := by
  refine Out.answers_guard Nat.not_le.symm ?_
  simp only
  repeat' split
  all_goals simp

@[simp] theorem execCanTxSuccess_answers (chan : Nat) (s : State) : (execCanTxSuccess chan s).Answers (chan < 16) :=
  Out.answers_guard Nat.not_le.symm (by split <;> simp)

@[simp] theorem execCanArbitrationLost_answers (chan : Nat) (s : State) : (execCanArbitrationLost chan s).Answers (chan < 16) :=
  Out.answers_guard Nat.not_le.symm (by split <;> simp)

@[simp] theorem execCanBusError_answers (chan : Nat) (fault : CanFault) (more : Nat) (spared : Bool) (s : State) :
    (execCanBusError chan fault more spared s).Answers (chan < 16) :=
  Out.answers_guard Nat.not_le.symm (by simp)

@[simp] theorem execCanRecessiveSequence_answers (chan : Nat) (s : State) : (execCanRecessiveSequence chan s).Answers (chan < 16) :=
  Out.answers_guard Nat.not_le.symm (by simp)

@[simp] theorem execCanBusIntegration_answers (chan : Nat) (s : State) : (execCanBusIntegration chan s).Answers (chan < 16) :=
  Out.answers_guard Nat.not_le.symm (by simp)

@[simp] theorem execCanFrameReceived_answers (chan : Nat) (f : CanFrame) (s : State) :
    (execCanFrameReceived chan f s).Answers (chan < 16) :=
  Out.answers_guard Nat.not_le.symm (by simp)

@[simp] theorem execCanProtocolException_answers (chan : Nat) (f : CanFrame) (s : State) :
    (execCanProtocolException chan f s).Answers (chan < 16) :=
  Out.answers_guard Nat.not_le.symm (by simp)

@[simp] theorem execObjTxReqWrite_answers (chan obj : Nat) (attr : Attr) (s : State) :
    (execObjTxReqWrite chan obj attr s).Answers ((chan < 16 ∧ obj < 128) ∧ initListed attr.init = true) := s.objRow_answers ..

@[simp] theorem execObjTxAbortWrite_answers (chan obj : Nat) (attr : Attr) (s : State) :
    (execObjTxAbortWrite chan obj attr s).Answers ((chan < 16 ∧ obj < 128) ∧ initListed attr.init = true) := s.objRow_answers ..

@[simp] theorem execObjUpdWrite_answers (chan obj : Nat) (attr : Attr) (upd : Bool) (s : State) :
    (execObjUpdWrite chan obj attr upd s).Answers ((chan < 16 ∧ obj < 128) ∧ initListed attr.init = true) := s.objRow_answers ..

@[simp] theorem execObjRxIdRead_answers (chan obj : Nat) (attr : Attr) (s : State) :
    (execObjRxIdRead chan obj attr s).Answers ((chan < 16 ∧ obj < 128) ∧ initListed attr.init = true) := s.objReadRow_answers ..

@[simp] theorem execObjRxEndRead_answers (chan obj : Nat) (attr : Attr) (s : State) :
    (execObjRxEndRead chan obj attr s).Answers ((chan < 16 ∧ obj < 128) ∧ initListed attr.init = true) := s.objReadRow_answers ..

@[simp] theorem execCanLockExpiry_answers (chan obj : Nat) (s : State) : (execCanLockExpiry chan obj s).Answers (chan < 16 ∧ obj < 128) :=
  Out.answers_guard (by omega) (by simp)

@[simp] theorem execMapTxdoneWrite_answers (chan word : Nat) (attr : Attr) (value : U32) (s : State) :
    (execMapTxdoneWrite chan word attr value s).Answers ((chan < 16 ∧ word < 4) ∧ initListed attr.init = true) :=
  Out.answers_guard_and (by omega) (s.issue_answers _ fun _ => by simp)

@[simp] theorem execCanScheduleColumn_answers (chan : Nat) (s : State) : (execCanScheduleColumn chan s).Answers (chan < 2) :=
  Out.answers_guard Nat.not_le.symm (by split <;> simp)

@[simp] theorem execCanScheduleChange_answers (chan : Nat) (s : State) : (execCanScheduleChange chan s).Answers (chan < 2) :=
  Out.answers_guard Nat.not_le.symm (by split <;> simp)

@[simp] theorem execCanSetCreate_completes (rq : Request) (s : State) : (execCanSetCreate rq s).Completes := by simp [execCanSetCreate]

@[simp] theorem execCanChannelConfig_completes (rq : Request) (s : State) : (execCanChannelConfig rq s).Completes := by
  simp [execCanChannelConfig]

@[simp] theorem execCanConfigApply_answers (chan : Nat) (s : State) : (execCanConfigApply chan s).Answers (chan < 16) :=
  Out.answers_guard Nat.not_le.symm (by split <;> simp)

@[simp] theorem execCanRecover_completes (rq : Request) (s : State) : (execCanRecover rq s).Completes := by simp [execCanRecover]
@[simp] theorem execCanWakeFilter_completes (rq : Request) (s : State) : (execCanWakeFilter rq s).Completes := by simp [execCanWakeFilter]

@[simp] theorem execCanScheduleSet_completes (rq : Request) (s : State) : (execCanScheduleSet rq s).Completes := by
  simp [execCanScheduleSet]

/-! ### Machine/Lin.lean -/

@[simp] theorem execLinSlotStart_answers (chan : Nat) (s : State) : (execLinSlotStart chan s).Answers (chan < 8) := by
  refine Out.answers_guard Nat.not_le.symm ?_
  simp only
  repeat' split
  all_goals simp

@[simp] theorem execLinHeaderReceived_answers (chan : Nat) (id : Nat) (s : State) :
    (execLinHeaderReceived chan id s).Answers (chan < 8 ∧ id < 64) :=
  Out.answers_guard (by omega) (by simp)

@[simp] theorem execLinResponseReceived_answers (chan : Nat) (bytes : List Byte) (s : State) :
    (execLinResponseReceived chan bytes s).Answers (chan < 8) :=
  Out.answers_guard Nat.not_le.symm (by split <;> simp)

@[simp] theorem execLinResponseError_answers (chan : Nat) (kind : LinError) (s : State) :
    (execLinResponseError chan kind s).Answers (chan < 8) := by
  refine Out.answers_guard Nat.not_le.symm ?_
  simp only
  repeat' split
  all_goals simp

@[simp] theorem execLinNoResponse_answers (chan : Nat) (s : State) : (execLinNoResponse chan s).Answers (chan < 8) :=
  Out.answers_guard Nat.not_le.symm (by split <;> simp)

@[simp] theorem execLinGotoSleepReceived_answers (chan : Nat) (s : State) : (execLinGotoSleepReceived chan s).Answers (chan < 8) :=
  Out.answers_guard Nat.not_le.symm (by simp)

@[simp] theorem execLinBusIdleTimeout_answers (chan : Nat) (s : State) : (execLinBusIdleTimeout chan s).Answers (chan < 8) :=
  Out.answers_guard Nat.not_le.symm (by simp)

@[simp] theorem execLinWakeupDetected_answers (chan : Nat) (s : State) : (execLinWakeupDetected chan s).Answers (chan < 8) :=
  Out.answers_guard Nat.not_le.symm (by simp)

@[simp] theorem execLinFrmDataHiWrite_answers (chan id : Nat) (attr : Attr) (value : U32) (s : State) :
    (execLinFrmDataHiWrite chan id attr value s).Answers ((chan < 8 ∧ id < 64) ∧ initListed attr.init = true) :=
  Out.answers_guard_and (by omega) (s.issue_answers _ fun _ => by simp)

@[simp] theorem execLinFrmStatRead_answers (chan id : Nat) (attr : Attr) (s : State) :
    (execLinFrmStatRead chan id attr s).Answers ((chan < 8 ∧ id < 64) ∧ initListed attr.init = true) :=
  Out.answers_guard_and (by omega) (s.issue_answers _ fun _ => by simp)

@[simp] theorem execLinGotoSleepWrite_answers (chan : Nat) (attr : Attr) (s : State) :
    (execLinGotoSleepWrite chan attr s).Answers (chan < 8 ∧ initListed attr.init = true) :=
  Out.answers_guard_and Nat.not_le.symm (s.issue_answers _ fun _ => by simp)

@[simp] theorem execLinWakeWrite_answers (chan : Nat) (attr : Attr) (s : State) :
    (execLinWakeWrite chan attr s).Answers (chan < 8 ∧ initListed attr.init = true) :=
  Out.answers_guard_and Nat.not_le.symm (s.issue_answers _ fun _ => by simp)

@[simp] theorem execLinSchedSelWrite_answers (chan : Nat) (attr : Attr) (value : BitVec 2) (s : State) :
    (execLinSchedSelWrite chan attr value s).Answers (chan < 8 ∧ initListed attr.init = true) :=
  Out.answers_guard_and Nat.not_le.symm (s.issue_answers _ fun _ => by simp)

@[simp] theorem execLinCreate_completes (rq : Request) (s : State) : (execLinCreate rq s).Completes := by simp [execLinCreate]

@[simp] theorem execLinScheduleSet_completes (rq : Request) (s : State) : (execLinScheduleSet rq s).Completes := by
  simp [execLinScheduleSet]

/-! ### Machine/Gateway.lean -/

@[simp] theorem execGatewayTap_answers (src : TapSource) (s : State) : (execGatewayTap src s).Answers (tapKnown src = true) :=
  Out.answers_guard not_not.symm (by simp)

@[simp] theorem execGatewayEthFrame_completes (frame : Nat) (s : State) : (execGatewayEthFrame frame s).Completes := by
  unfold execGatewayEthFrame
  simp only
  repeat' split
  all_goals simp

@[simp] theorem execGatewayBatchHoldExpiry_answers (rule : Nat) (s : State) : (execGatewayBatchHoldExpiry rule s).Answers (rule < 4096) :=
  Out.answers_guard Nat.not_le.symm (by simp)

@[simp] theorem execGatewayQueueAgeExpiry_answers (chan entry : Nat) (s : State) :
    (execGatewayQueueAgeExpiry chan entry s).Answers (chan < 16) :=
  Out.answers_guard Nat.not_le.symm (by simp)

@[simp] theorem execGwRuleSet_completes (rq : Request) (s : State) : (execGwRuleSet rq s).Completes := by simp [execGwRuleSet]
@[simp] theorem execGwRuleClear_completes (rq : Request) (s : State) : (execGwRuleClear rq s).Completes := by simp [execGwRuleClear]
@[simp] theorem execGwStats_completes (rq : Request) (s : State) : (execGwStats rq s).Completes := by simp [execGwStats]

/-! ### Machine/Load.lean -/

@[simp] theorem execLoadOutWrite_answers (page chan : Nat) (attr : Attr) (mask value : U32) (s : State) :
    (execLoadOutWrite page chan attr mask value s).Answers ((page < 64 ∧ chan < 60) ∧ initListed attr.init = true) :=
  Out.answers_guard_and (by omega) (s.issue_answers _ fun _ => by simp)

@[simp] theorem execLoadOnSetWrite_answers (page : Nat) (attr : Attr) (mask : U64) (s : State) :
    (execLoadOnSetWrite page attr mask s).Answers (page < 64 ∧ initListed attr.init = true) :=
  Out.answers_guard_and Nat.not_le.symm (s.issue_answers _ fun _ => by simp)

@[simp] theorem execLoadOnClrWrite_answers (page : Nat) (attr : Attr) (mask : U64) (s : State) :
    (execLoadOnClrWrite page attr mask s).Answers (page < 64 ∧ initListed attr.init = true) :=
  Out.answers_guard_and Nat.not_le.symm (s.issue_answers _ fun _ => by simp)

@[simp] theorem execLoadGroupCreate_completes (rq : Request) (s : State) : (execLoadGroupCreate rq s).Completes := by
  simp [execLoadGroupCreate]

@[simp] theorem execLoadChannelConfig_completes (rq : Request) (s : State) : (execLoadChannelConfig rq s).Completes := by
  simp [execLoadChannelConfig]

@[simp] theorem execLoadSet_completes (rq : Request) (s : State) : (execLoadSet rq s).Completes := by simp [execLoadSet]

@[simp] theorem execLoadLatchClear_completes (rq : Request) (s : State) : (execLoadLatchClear rq s).Completes := by
  simp [execLoadLatchClear]

@[simp] theorem execLoadStatus_completes (rq : Request) (s : State) : (execLoadStatus rq s).Completes := by simp [execLoadStatus]

/-! ### Machine/Protect.lean -/

@[simp] theorem execSoftStartComplete_answers (chan : Nat) (s : State) : (execSoftStartComplete chan s).Answers (chan < 60) :=
  Out.answers_guard Nat.not_le.symm (by simp)

@[simp] theorem execOvercurrentTrip_answers (trip : TripPoint) (s : State) : (execOvercurrentTrip trip s).Answers (trip.chan < 60) :=
  Out.answers_guard Nat.not_le.symm (by simp)

@[simp] theorem execRetryPauseEnd_answers (chan : Nat) (s : State) : (execRetryPauseEnd chan s).Answers (chan < 60) :=
  Out.answers_guard Nat.not_le.symm (by simp)

@[simp] theorem execRetryGoodTimer_answers (chan : Nat) (s : State) : (execRetryGoodTimer chan s).Answers (chan < 60) :=
  Out.answers_guard Nat.not_le.symm (by simp)

@[simp] theorem execFetTemperatureSample_answers (chan : Nat) (temp : Int) (s : State) :
    (execFetTemperatureSample chan temp s).Answers (chan < 60) :=
  Out.answers_guard Nat.not_le.symm (by simp)

@[simp] theorem execWireModelUpdate_answers (chan rms mean onCur : Nat) (s : State) :
    (execWireModelUpdate chan rms mean onCur s).Answers (chan < 60) :=
  Out.answers_guard Nat.not_le.symm (by simp)

@[simp] theorem execInrushWindowEnd_answers (chan : Nat) (s : State) : (execInrushWindowEnd chan s).Answers (chan < 60) :=
  Out.answers_guard Nat.not_le.symm (by simp)

@[simp] theorem execHoldWindowExpiry_answers (chan : Nat) (s : State) : (execHoldWindowExpiry chan s).Answers (chan < 60) :=
  Out.answers_guard Nat.not_le.symm (by simp)

@[simp] theorem execLimpSwitchOn_completes (s : State) : (execLimpSwitchOn s).Completes := by simp [execLimpSwitchOn]

@[simp] theorem execVbusFunctionalRangeReached_completes (mv : U16) (s : State) : (execVbusFunctionalRangeReached mv s).Completes := by
  simp [execVbusFunctionalRangeReached]

@[simp] theorem execOffStateTestStart_answers (chan mv : Nat) (s : State) : (execOffStateTestStart chan mv s).Answers (chan < 60) :=
  Out.answers_guard Nat.not_le.symm (by simp)

@[simp] theorem execOffStateTestEnd_answers (chan mv : Nat) (s : State) : (execOffStateTestEnd chan mv s).Answers (chan < 60) :=
  Out.answers_guard Nat.not_le.symm (by simp)

@[simp] theorem execUndercurrentTimer_answers (chan : Nat) (below : Bool) (s : State) :
    (execUndercurrentTimer chan below s).Answers (chan < 60) :=
  Out.answers_guard Nat.not_le.symm (by simp)

@[simp] theorem execReverseCurrentBlock_answers (chan : Nat) (s : State) : (execReverseCurrentBlock chan s).Answers (chan < 4) :=
  Out.answers_guard Nat.not_le.symm (by simp)

@[simp] theorem execReverseBlockClear_answers (chan : Nat) (s : State) : (execReverseBlockClear chan s).Answers (chan < 4) :=
  Out.answers_guard Nat.not_le.symm (by simp)

@[simp] theorem execGroupMsiRateTimer_answers (group : Nat) (s : State) : (execGroupMsiRateTimer group s).Answers (group < 60) :=
  Out.answers_guard Nat.not_le.symm (by simp)

@[simp] theorem execLoadShed_completes (s : State) : (execLoadShed s).Completes := by simp [execLoadShed]

@[simp] theorem execPowerStageShed_completes (feed : Bool) (s : State) : (execPowerStageShed feed s).Completes := by
  unfold execPowerStageShed
  simp only
  repeat' split
  all_goals simp

@[simp] theorem execLoadRestore_completes (s : State) : (execLoadRestore s).Completes := by
  unfold execLoadRestore
  split <;> simp

/-! ### Machine/Inputs.lean -/

@[simp] theorem execDebounceComplete_answers (input : Nat) (samples : List Nat) (time : U64) (s : State) :
    (execDebounceComplete input samples time s).Answers (input < 64) :=
  Out.answers_guard Nat.not_le.symm (by simp)

@[simp] theorem execAnalogThresholdChange_answers (input : Nat) (samples : List Int) (s : State) :
    (execAnalogThresholdChange input samples s).Answers (input < 24) :=
  Out.answers_guard Nat.not_le.symm (by simp)

@[simp] theorem execInEvtClearWrite_answers (group : Nat) (attr : Attr) (d : U64) (v : BitVec 24) (s : State) :
    (execInEvtClearWrite group attr d v s).Answers (group < 88 ∧ initListed attr.init = true) :=
  Out.answers_guard_and Nat.not_le.symm (s.issue_answers _ fun _ => by simp)

@[simp] theorem execInWakeChange_completes (wk : List Nat) (ign : Nat) (s : State) : (execInWakeChange wk ign s).Completes := by
  simp [execInWakeChange]

@[simp] theorem execSensorSupplyCurrentLimit_answers (supply : Nat) (s : State) :
    (execSensorSupplyCurrentLimit supply s).Answers (supply < 3) :=
  Out.answers_guard Nat.not_le.symm (by simp)

@[simp] theorem execSensorSupplyRetry_answers (supply : Nat) (s : State) : (execSensorSupplyRetry supply s).Answers (supply < 3) :=
  Out.answers_guard Nat.not_le.symm (by simp)

@[simp] theorem execInputGroupCreate_completes (rq : Request) (s : State) : (execInputGroupCreate rq s).Completes := by
  simp [execInputGroupCreate]

@[simp] theorem execInputConfig_completes (rq : Request) (s : State) : (execInputConfig rq s).Completes := by simp [execInputConfig]

/-! ### Machine/Keys.lean -/

@[simp] theorem execKeyDerive_completes (rq : Request) (s : State) : (execKeyDerive rq s).Completes := by simp [execKeyDerive]
@[simp] theorem execKeyInvalidate_completes (rq : Request) (s : State) : (execKeyInvalidate rq s).Completes := by simp [execKeyInvalidate]
@[simp] theorem execKeySign_completes (rq : Request) (s : State) : (execKeySign rq s).Completes := by simp [execKeySign]

@[simp] theorem execKeySignComplete_completes (s : State) : (execKeySignComplete s).Completes := by
  unfold execKeySignComplete
  split <;> simp

@[simp] theorem execAttest_completes (rq : Request) (s : State) : (execAttest rq s).Completes := by simp [execAttest]

@[simp] theorem execAttestComplete_completes (s : State) : (execAttestComplete s).Completes := by
  unfold execAttestComplete
  split <;> simp

@[simp] theorem execMacsecSaSet_completes (rq : Request) (s : State) : (execMacsecSaSet rq s).Completes := by simp [execMacsecSaSet]

@[simp] theorem execKeyStoreAlarm_completes (code : BitVec 3) (s : State) : (execKeyStoreAlarm code s).Completes := by
  simp [execKeyStoreAlarm]

/-! ### Machine/Rings.lean -/

@[simp] theorem execRingCreate_completes (rq : Request) (s : State) : (execRingCreate rq s).Completes := by simp [execRingCreate]

@[simp] theorem execCrSqTailWrite_answers (ring : Nat) (attr : Attr) (value : U16) (s : State) :
    (execCrSqTailWrite ring attr value s).Answers (ring < 64 ∧ initListed attr.init = true) :=
  Out.answers_guard_and Nat.not_le.symm (s.issue_answers _ fun _ => by simp)

/-! ### Machine/Time.lean -/

@[simp] theorem execTbLowWordRead_answers (x : Xact) (s : State) : (execTbLowWordRead x s).Answers (x.wf = true) :=
  s.issueX_answers x fun _ => by simp

@[simp] theorem execComparatorFire_answers (timer : Nat) (s : State) : (execComparatorFire timer s).Answers (timer < 64) :=
  Out.answers_guard Nat.not_le.symm (by simp)

@[simp] theorem execTcCtrlWrite_answers (x : Xact) (s : State) : (execTcCtrlWrite x s).Answers (x.wf = true) :=
  s.issueX_answers x fun _ => by simp

@[simp] theorem execTimerCreate_completes (rq : Request) (s : State) : (execTimerCreate rq s).Completes := by simp [execTimerCreate]

/-! ### Machine/Harts.lean -/

@[simp] theorem execTrapEntry_answers (hart : Nat) (cause tval pc : U64) (s : State) :
    (execTrapEntry hart cause tval pc s).Answers (hart < 8) :=
  Out.answers_guard Nat.not_le.symm (by simp)

@[simp] theorem execDebugModeEntry_answers (entry : DebugEntry) (s : State) : (execDebugModeEntry entry s).Answers (entry.pair < 8) :=
  Out.answers_guard Nat.not_le.symm (by simp)

@[simp] theorem execDebugResume_answers (pair : Nat) (s : State) : (execDebugResume pair s).Answers (pair < 8) :=
  Out.answers_guard Nat.not_le.symm (by simp)

@[simp] theorem execDebugAccessRegister_answers (hart : Nat) (command : U32) (s : State) :
    (execDebugAccessRegister hart command s).Answers (hart < 8) :=
  Out.answers_guard Nat.not_le.symm (by simp)

@[simp] theorem execMret_answers (hart : Nat) (s : State) : (execMret hart s).Answers (hart < 8) :=
  Out.answers_guard Nat.not_le.symm (by simp)

@[simp] theorem execSret_answers (hart : Nat) (s : State) : (execSret hart s).Answers (hart < 8) :=
  Out.answers_guard Nat.not_le.symm (by simp)

@[simp] theorem execToll_answers (hart : Nat) (word : U32) (s : State) : (execToll hart word s).Answers (hart < 8) := by
  refine Out.answers_guard Nat.not_le.symm ?_
  repeat' split
  all_goals simp

@[simp] theorem execTollret_answers (hart : Nat) (s : State) : (execTollret hart s).Answers (hart < 8) :=
  Out.answers_guard Nat.not_le.symm (by simp)

@[simp] theorem execMworldWrite_answers (hart : Nat) (value : U64) (s : State) : (execMworldWrite hart value s).Answers (hart < 8) :=
  Out.answers_guard Nat.not_le.symm (by simp)

@[simp] theorem execFence_answers (hart : Nat) (s : State) : (execFence hart s).Answers (hart < 8) :=
  Out.answers_guard Nat.not_le.symm (by simp)

@[simp] theorem execFenceI_answers (hart : Nat) (s : State) : (execFenceI hart s).Answers (hart < 8) :=
  Out.answers_guard Nat.not_le.symm (by simp)

@[simp] theorem execHartTimerMatch_answers (hart which : Nat) (s : State) :
    (execHartTimerMatch hart which s).Answers (hart < 8 ∧ which < 4) :=
  Out.answers_guard (by omega) (by simp)

@[simp] theorem execInterruptTake_answers (hart cause : Nat) (s : State) : (execInterruptTake hart cause s).Answers (hart < 8) := by
  refine Out.answers_guard Nat.not_le.symm ?_
  simp only
  repeat' split
  all_goals simp

@[simp] theorem execL1ParityError_answers (hart : Nat) (s : State) : (execL1ParityError hart s).Answers (hart < 8) :=
  Out.answers_guard Nat.not_le.symm (by simp)

@[simp] theorem execL2CorrectableError_answers (cluster : Nat) (s : State) : (execL2CorrectableError cluster s).Answers (cluster < 2) :=
  Out.answers_guard Nat.not_le.symm (by simp)

@[simp] theorem execL2UncorrectableError_answers (cluster : Nat) (line : A40) (s : State) :
    (execL2UncorrectableError cluster line s).Answers (cluster < 2) :=
  Out.answers_guard Nat.not_le.symm (by simp)

@[simp] theorem execPoisonedLineConsumed_answers (hart : Nat) (fetch : Bool) (addr : PoisonUse) (pc : U64) (s : State) :
    (execPoisonedLineConsumed hart fetch addr pc s).Answers (hart < 8) :=
  Out.answers_guard Nat.not_le.symm (by simp)

/-! ### Machine/Pages.lean -/

theorem State.qpTailRow_answers (s : State) (i o : Nat) (t : Attr) (value : U16) (own : State → State) :
    (s.qpTailRow i o t value own).Answers (i < 128 ∧ initListed t.init = true) :=
  Out.answers_guard_and Nat.not_le.symm (s.issue_answers _ fun _ => by simp)

@[simp] theorem execQpTxTailWrite_answers (qp : Nat) (attr : Attr) (value : U16) (s : State) :
    (execQpTxTailWrite qp attr value s).Answers (qp < 128 ∧ initListed attr.init = true) := s.qpTailRow_answers ..

@[simp] theorem execQpRxTailWrite_answers (qp : Nat) (attr : Attr) (value : U16) (s : State) :
    (execQpRxTailWrite qp attr value s).Answers (qp < 128 ∧ initListed attr.init = true) := s.qpTailRow_answers ..

/-! ### Machine/PassLink.lean -/

theorem State.winRow_completes (s : State) (x : Xact) (len : Nat) (wr : Bool) (own : State → State × Option Resp × List Byte) :
    (s.winRow x len wr own).Completes := by
  unfold State.winRow
  split
  · simp
  · refine s.aligned_completes x len _ ?_
    simp only
    repeat' split
    all_goals simp

@[simp] theorem execPassLinkLoss_completes (s : State) : (execPassLinkLoss s).Completes := by simp [execPassLinkLoss]

@[simp] theorem execPassLinkTrained_completes (sameRole : Bool) (lanes : BitVec 4) (s : State) :
    (execPassLinkTrained sameRole lanes s).Completes := by simp [execPassLinkTrained]

@[simp] theorem execPassLaneFail_answers (lane : Nat) (s : State) : (execPassLaneFail lane s).Answers (lane < 4) :=
  Out.answers_guard Nat.not_le.symm (by simp)

@[simp] theorem execPassLaneRetry_completes (lanes : BitVec 4) (s : State) : (execPassLaneRetry lanes s).Completes := by
  unfold execPassLaneRetry
  simp only
  repeat' split
  all_goals simp

@[simp] theorem execRoleClashRetry_completes (s : State) : (execRoleClashRetry s).Completes := by simp [execRoleClashRetry]
@[simp] theorem execHeartbeatSend_completes (s : State) : (execHeartbeatSend s).Completes := by simp [execHeartbeatSend]
@[simp] theorem execSidebandSend_completes (s : State) : (execSidebandSend s).Completes := by simp [execSidebandSend]

@[simp] theorem execSidebandReceive_completes (vector : BitVec 256) (s : State) : (execSidebandReceive vector s).Completes := by
  simp [execSidebandReceive]

@[simp] theorem execHeartbeatReceive_completes (seq : U16) (vector : BitVec 256) (s : State) :
    (execHeartbeatReceive seq vector s).Completes := by simp [execHeartbeatReceive]

@[simp] theorem execHeartbeatLoss_completes (s : State) : (execHeartbeatLoss s).Completes := by simp [execHeartbeatLoss]

@[simp] theorem execPartnerStartupTimeout_completes (s : State) : (execPartnerStartupTimeout s).Completes := by
  simp [execPartnerStartupTimeout]

@[simp] theorem execPartnerFaultChange_completes (low : Bool) (s : State) : (execPartnerFaultChange low s).Completes := by
  unfold execPartnerFaultChange
  simp only
  repeat' split
  all_goals simp

@[simp] theorem execAutoPartnerReset_completes (s : State) : (execAutoPartnerReset s).Completes := by simp [execAutoPartnerReset]

@[simp] theorem execPassWindowRead_answers (x : Xact) (s : State) : (execPassWindowRead x s).Answers (x.wf = true) :=
  s.issueX_answers x fun x => s.winRow_completes x _ _ _

@[simp] theorem execPassNonpostedWrite_answers (x : Xact) (s : State) : (execPassNonpostedWrite x s).Answers (x.wf = true) :=
  s.issueX_answers x fun x => by simp [State.winRow_completes]

@[simp] theorem execPassPostedWrite_answers (x : Xact) (s : State) : (execPassPostedWrite x s).Answers (x.wf = true) := by
  refine s.issueX_answers x fun x => ?_
  split
  · simp
  · split
    · simp
    · refine s.aligned_completes x _ _ ?_
      repeat' split
      all_goals simp

@[simp] theorem execPassReadDataArrive_answers (slot : Nat) (ok : Bool) (data : List Byte) (s : State) :
    (execPassReadDataArrive slot ok data s).Answers (slot < 256) :=
  Out.answers_guard Nat.not_le.symm (by split <;> simp)

@[simp] theorem execPassReadSlotTimeout_answers (slot : Nat) (s : State) : (execPassReadSlotTimeout slot s).Answers (slot < 256) :=
  Out.answers_guard Nat.not_le.symm (by split <;> simp)

@[simp] theorem execPassReadyExpiry_answers (slot : Nat) (s : State) : (execPassReadyExpiry slot s).Answers (slot < 256) :=
  Out.answers_guard Nat.not_le.symm (by split <;> simp)

@[simp] theorem execPassWriteResponse_answers (tracker : Nat) (ok : Bool) (s : State) :
    (execPassWriteResponse tracker ok s).Answers (tracker < 128) :=
  Out.answers_guard Nat.not_le.symm (by split <;> simp)

@[simp] theorem execPassWriteTimeout_answers (tracker : Nat) (s : State) : (execPassWriteTimeout tracker s).Answers (tracker < 128) :=
  Out.answers_guard Nat.not_le.symm (by split <;> simp)

@[simp] theorem execPassErrorMessageArrive_answers (win : Nat) (addr : A40) (origin : Byte) (inst : BitVec 6) (sec : Bool) (code : Resp)
    (s : State) :
    (execPassErrorMessageArrive win addr origin inst sec code s).Answers (win < 32) :=
  Out.answers_guard Nat.not_le.symm (by split <;> simp)

@[simp] theorem execPassClearAck_answers (win : Nat) (s : State) : (execPassClearAck win s).Answers (win < 32) :=
  Out.answers_guard Nat.not_le.symm (by simp)

@[simp] theorem execPassClearMarkerArrive_answers (win : Nat) (s : State) : (execPassClearMarkerArrive win s).Answers (win < 32) :=
  Out.answers_guard Nat.not_le.symm (by simp)

@[simp] theorem execPassPostedFailure_answers (win : Nat) (x : Xact) (origin : Byte) (code : Resp) (s : State) :
    (execPassPostedFailure win x origin code s).Answers (win < 32) :=
  Out.answers_guard Nat.not_le.symm (by simp)

@[simp] theorem execPassWindowOpen_completes (rq : Request) (s : State) : (execPassWindowOpen rq s).Completes := by
  simp [execPassWindowOpen]

@[simp] theorem execPassErrorClear_completes (rq : Request) (s : State) : (execPassErrorClear rq s).Completes := by
  unfold execPassErrorClear
  simp only
  split <;> simp

@[simp] theorem execPairStatus_completes (rq : Request) (s : State) : (execPairStatus rq s).Completes := by simp [execPairStatus]
@[simp] theorem execSidebandWrite_completes (rq : Request) (s : State) : (execSidebandWrite rq s).Completes := by simp [execSidebandWrite]
@[simp] theorem execPartnerReset_completes (rq : Request) (s : State) : (execPartnerReset rq s).Completes := by simp [execPartnerReset]
@[simp] theorem execPartnerRstPulseEnd_completes (s : State) : (execPartnerRstPulseEnd s).Completes := by simp [execPartnerRstPulseEnd]

/-! ### Machine/Stalls.lean -/

@[simp] theorem execStallRequestAreaWrite_answers (stall : Nat) (x : Xact) (s : State) :
    (execStallRequestAreaWrite stall x s).Answers (stall < 64 ∧ x.wf = true) :=
  Out.answers_guard_and Nat.not_le.symm (s.issueX_answers _ fun _ => by simp)

@[simp] theorem execStallDoorbell_answers (stall : Nat) (attr : Attr) (s : State) :
    (execStallDoorbell stall attr s).Answers (stall < 64 ∧ initListed attr.init = true) :=
  Out.answers_guard_and Nat.not_le.symm (s.issue_answers _ fun _ => by simp)

@[simp] theorem execStallRelease_answers (stall : Nat) (attr : Attr) (s : State) :
    (execStallRelease stall attr s).Answers (stall < 64 ∧ initListed attr.init = true) :=
  Out.answers_guard_and Nat.not_le.symm (s.issue_answers _ fun _ => by simp)

@[simp] theorem execSessionOpen_completes (rq : Request) (s : State) : (execSessionOpen rq s).Completes := by simp [execSessionOpen]
@[simp] theorem execSessionAuth_completes (rq : Request) (s : State) : (execSessionAuth rq s).Completes := by simp [execSessionAuth]

@[simp] theorem execSessionClose_completes (rq : Request) (s : State) : (execSessionClose rq s).Completes := by
  unfold execSessionClose
  split
  · split <;> simp
  · simp

@[simp] theorem execUdpDatagramDrop_completes (s : State) : (execUdpDatagramDrop s).Completes := by simp [execUdpDatagramDrop]

@[simp] theorem execSessionSetupTimeout_answers (slot : Nat) (s : State) : (execSessionSetupTimeout slot s).Answers (slot < 2) :=
  Out.answers_guard Nat.not_le.symm (by simp)

@[simp] theorem execSessionIdleTimeout_answers (slot : Nat) (s : State) : (execSessionIdleTimeout slot s).Answers (slot < 2) :=
  Out.answers_guard Nat.not_le.symm (by simp)

@[simp] theorem execSvcLockoutEnd_completes (s : State) : (execSvcLockoutEnd s).Completes := by simp [execSvcLockoutEnd]

@[simp] theorem execAddressResolutionRequest_answers (port : Nat) (asked : IpAddr) (s : State) :
    (execAddressResolutionRequest port asked s).Answers (port < 30) :=
  Out.answers_guard Nat.not_le.symm (by simp)

@[simp] theorem execRemoteRequestRelay_completes (rq : Request) (s : State) : (execRemoteRequestRelay rq s).Completes := by
  unfold execRemoteRequestRelay
  simp only
  repeat' split
  all_goals simp

@[simp] theorem execRemoteResponseReturn_answers (stall : Nat) (rsp : Response) (s : State) :
    (execRemoteResponseReturn stall rsp s).Answers (stall < 2) := by
  refine Out.answers_guard Nat.not_le.symm ?_
  repeat' split
  all_goals simp

@[simp] theorem execRemoteTimeout_answers (stall : Nat) (s : State) : (execRemoteTimeout stall s).Answers (stall < 2) :=
  Out.answers_guard Nat.not_le.symm (by split <;> simp)

/-- A request of the partner names one of its two stalls. -/
theorem execPartnerRequestArrive_completes {rq : Request} (h : rq.wf = true) (s : State) : (execPartnerRequestArrive rq s).Completes := by
  unfold execPartnerRequestArrive
  split
  case h_1 o hroute =>
    have ho : o < 2 := by simpa [Request.wf, hroute, Route.wf] using (Bool.and_eq_true_iff.mp h).1
    simp [Nat.not_le.mpr ho]
  all_goals simp

/-! ### Machine/Bus.lean -/

theorem unitSource_eq : unitSource = wakeCode := rfl

@[simp] theorem execInstDbWrite_answers (x : Xact) (s : State) : (execInstDbWrite x s).Answers (x.wf = true) :=
  s.issueX_answers x fun _ => by simp

@[simp] theorem execFabricRead_answers (x : Xact) (s : State) : (execFabricRead x s).Answers (x.wf = true) :=
  s.issueX_answers x fun _ => by simp

@[simp] theorem execFabricWrite_answers (x : Xact) (s : State) : (execFabricWrite x s).Answers (x.wf = true) :=
  s.issueX_answers x fun _ => by simp

@[simp] theorem execPostedWrite_answers (x : Xact) (s : State) : (execPostedWrite x s).Answers (x.wf = true) :=
  s.issueX_answers x fun _ => by simp

@[simp] theorem execFabricAmo_answers (op : AmoOp) (x : Xact) (s : State) : (execFabricAmo op x s).Answers (x.wf = true) :=
  s.issueX_answers x fun _ => by simp

/-- A hart that exists is a listed initiator. -/
theorem Xact.ofHart_wf {hart : Nat} (h : hart < 8) (x : Xact) : (x.ofHart hart).wf = true := by
  simp [Xact.wf, Xact.ofHart, initListed]
  omega

/-- The check of a hart in front of a transaction that the hart issues. -/
theorem State.answers_guard_issueX_ofHart (s : State) (hart : Nat) (x : Xact) {k : Xact → Out} (hk : ∀ x, (k x).Completes) :
    Out.Answers (if 8 ≤ hart then noUnit else s.issueX (x.ofHart hart) k) (hart < 8) := by
  split
  next h => exact ⟨fun h' => absurd h (Nat.not_le.mpr h'), fun _ => rfl⟩
  next h =>
    have hlt : hart < 8 := Nat.not_le.mp h
    exact Out.answers_of_completes hlt ((s.issueX_answers _ hk).1 (x.ofHart_wf hlt))

@[simp] theorem execLoadReserved_answers (hart : Nat) (x : Xact) (s : State) : (execLoadReserved hart x s).Answers (hart < 8) :=
  s.answers_guard_issueX_ofHart hart x fun _ => by simp

@[simp] theorem execStoreConditional_answers (hart : Nat) (x : Xact) (s : State) : (execStoreConditional hart x s).Answers (hart < 8) :=
  s.answers_guard_issueX_ofHart hart x fun _ => by simp

@[simp] theorem execRegulatorRefill_completes (s : State) : (execRegulatorRefill s).Completes := by simp [execRegulatorRefill]

@[simp] theorem execArbitrationAging_completes (index : Nat) (s : State) : (execArbitrationAging index s).Completes := by
  unfold execArbitrationAging
  split <;> simp

@[simp] theorem execDebugSystemBusAccess_completes (write : Bool) (addr : U64) (size : Nat) (data : U64) (s : State) :
    (execDebugSystemBusAccess write addr size data s).Completes := by
  unfold execDebugSystemBusAccess
  split <;> simp

@[simp] theorem execPassInboundTransaction_answers (kind : XKind) (x : Xact) (win : Nat) (origin : Byte) (s : State) :
    (execPassInboundTransaction kind x win origin s).Answers (win < 32) :=
  Out.answers_guard Nat.not_le.symm (by simp)

@[simp] theorem execRegisterWrite_answers (w : RegOp) (s : State) : (execRegisterWrite w s).Answers (w.wf = true) := by
  unfold execRegisterWrite
  cases w with
  | fabric x => exact s.issueX_answers x fun _ => by simp
  | csr hart c v => exact Out.answers_guard (by simp [RegOp.wf]) (by simp)
  | dmi a v => exact Out.answers_of_completes rfl (by simp)

@[simp] theorem execObjConfigWrite_answers (chan obj : Nat) (x : Xact) (s : State) :
    (execObjConfigWrite chan obj x s).Answers ((chan < 16 ∧ obj < 128) ∧ x.wf = true) :=
  Out.answers_guard_and (by omega) (s.issueX_answers _ fun _ => by simp)

/-! ### Machine/Ethernet.lean -/

@[simp] theorem execEgressTransmitStart_answers (point : TxPoint) (s : State) :
    (execEgressTransmitStart point s).Answers (point.port < 30) :=
  Out.answers_guard not_not.symm (by simp)

@[simp] theorem execPlcaTransmitOpportunity_answers (port : Nat) (s : State) :
    (execPlcaTransmitOpportunity port s).Answers (22 ≤ port ∧ port < 26) :=
  Out.answers_guard not_not.symm (by simp)

@[simp] theorem execFrameEgressComplete_answers (port frame : Nat) (fcsBad : Bool) (s : State) :
    (execFrameEgressComplete port frame fcsBad s).Answers (port < 30) :=
  Out.answers_guard not_not.symm (by split <;> simp)

@[simp] theorem execMulticastService_answers (port cls : Nat) (ready : BitVec 30) (s : State) :
    (execMulticastService port cls ready s).Answers (port < 30 ∧ cls < 8) :=
  Out.answers_guard not_not.symm (by split <;> simp)

@[simp] theorem execPauseFrameReceive_answers (port : Nat) (pfc : Bool) (enables : Byte) (quanta : List U16) (s : State) :
    (execPauseFrameReceive port pfc enables quanta s).Answers (port < 26) :=
  Out.answers_guard not_not.symm (by simp)

@[simp] theorem execPauseExpiry_answers (port : Nat) (classes : Byte) (s : State) : (execPauseExpiry port classes s).Answers (port < 26) :=
  Out.answers_guard not_not.symm (by simp)

@[simp] theorem execPauseRefresh_answers (port : Nat) (s : State) : (execPauseRefresh port s).Answers (port < 26) :=
  Out.answers_guard not_not.symm (by simp)

@[simp] theorem execGateEntryAdvance_answers (port : Nat) (s : State) : (execGateEntryAdvance port s).Answers (port < 30) :=
  Out.answers_guard not_not.symm (by split <;> simp)

@[simp] theorem execGateListSwitchover_answers (port : Nat) (s : State) : (execGateListSwitchover port s).Answers (port < 30) :=
  Out.answers_guard not_not.symm (by split <;> simp)

@[simp] theorem execPreemptVerifyResponse_answers (port : Nat) (s : State) : (execPreemptVerifyResponse port s).Answers (port < 10) :=
  Out.answers_guard not_not.symm (by simp)

@[simp] theorem execPreemptVerifyTimeout_answers (port : Nat) (s : State) : (execPreemptVerifyTimeout port s).Answers (port < 10) :=
  Out.answers_guard not_not.symm (by simp)

@[simp] theorem execPolicerRefill_completes (s : State) : (execPolicerRefill s).Completes := by simp [execPolicerRefill]

@[simp] theorem execFrerRecoveryTimeout_answers (stream : Nat) (s : State) : (execFrerRecoveryTimeout stream s).Answers (stream < 512) :=
  Out.answers_guard not_not.symm (by simp)

@[simp] theorem execPtpMessageReceive_answers (port : Nat) (m : PtpMessage) (s : State) :
    (execPtpMessageReceive port m s).Answers (port < 30) := by
  refine Out.answers_guard not_not.symm ?_
  repeat' split
  all_goals simp

@[simp] theorem execPtpSyncTimeout_completes (s : State) : (execPtpSyncTimeout s).Completes := by simp [execPtpSyncTimeout]

@[simp] theorem execPtpTransmitTimer_answers (port : Nat) (kind : PtpKind) (s : State) :
    (execPtpTransmitTimer port kind s).Answers (port < 30) :=
  Out.answers_guard not_not.symm (by simp)

@[simp] theorem execPlcaBeaconLost_answers (port : Nat) (s : State) : (execPlcaBeaconLost port s).Answers (22 ≤ port ∧ port < 26) :=
  Out.answers_guard not_not.symm (by simp)

@[simp] theorem execPlcaBeaconReturn_answers (port : Nat) (s : State) : (execPlcaBeaconReturn port s).Answers (22 ≤ port ∧ port < 26) :=
  Out.answers_guard not_not.symm (by simp)

/-! ### Machine/Engines.lean -/

@[simp] theorem execQpTxDescriptorProcess_answers (qp : Nat) (s : State) : (execQpTxDescriptorProcess qp s).Answers (qp < 128) :=
  Out.answers_guard Nat.not_le.symm (by split <;> simp)

@[simp] theorem execQpRxCopy_answers (qp : Nat) (s : State) : (execQpRxCopy qp s).Answers (qp < 128) :=
  Out.answers_guard Nat.not_le.symm (by split <;> simp)

@[simp] theorem execJobFetch_answers (ring : Nat) (s : State) : (execJobFetch ring s).Answers (ring < 64) :=
  Out.answers_guard Nat.not_le.symm (by simp)

@[simp] theorem execKeyRegisterLoad_completes (job : Nat) (s : State) : (execKeyRegisterLoad job s).Completes := by
  unfold execKeyRegisterLoad
  repeat' split
  all_goals simp

@[simp] theorem execJobChunk_completes (job : Nat) (s : State) : (execJobChunk job s).Completes := by
  unfold execJobChunk
  split <;> simp

@[simp] theorem execJobComplete_completes (job : Nat) (s : State) : (execJobComplete job s).Completes := by
  unfold execJobComplete
  simp only
  repeat' split
  all_goals simp

@[simp] theorem execRingBucketRefill_completes (s : State) : (execRingBucketRefill s).Completes := by simp [execRingBucketRefill]

/-! ### Machine/Blocks.lean -/

theorem unitBlocks_eq : unitBlocks = blockIds := rfl

@[simp] theorem execModePartialEntered_completes (s : State) : (execModePartialEntered s).Completes := by
  unfold execModePartialEntered
  split <;> simp

@[simp] theorem execBlockQuiesceIdle_answers (block : Nat) (s : State) : (execBlockQuiesceIdle block s).Answers (block ∈ blockIds) :=
  Out.answers_guard (by simp) (by simp)

@[simp] theorem execQuiesceTimeout_answers (cut : QuiesceCut) (s : State) : (execQuiesceTimeout cut s).Answers (cut.block ∈ blockIds) :=
  Out.answers_guard (by simp) (by simp)

@[simp] theorem execBlockReady_answers (block : Nat) (s : State) : (execBlockReady block s).Answers (block ∈ blockIds) :=
  Out.answers_guard (by simp) (by simp)

@[simp] theorem execBlockReadyTimeout_answers (block : Nat) (s : State) : (execBlockReadyTimeout block s).Answers (block ∈ blockIds) :=
  Out.answers_guard (by simp) (by simp)

@[simp] theorem execBlockPower_completes (rq : Request) (s : State) : (execBlockPower rq s).Completes := by simp [execBlockPower]
@[simp] theorem execKeepVote_completes (rq : Request) (s : State) : (execKeepVote rq s).Completes := by simp [execKeepVote]
@[simp] theorem execKeepRelease_completes (rq : Request) (s : State) : (execKeepRelease rq s).Completes := by simp [execKeepRelease]
@[simp] theorem execBlockStatus_completes (rq : Request) (s : State) : (execBlockStatus rq s).Completes := by simp [execBlockStatus]

/-! ### Machine/SwitchCmds.lean -/

@[simp] theorem execQueuePairCreate_completes (rq : Request) (s : State) : (execQueuePairCreate rq s).Completes := by
  simp [execQueuePairCreate]

@[simp] theorem execFlowCreate_completes (rq : Request) (s : State) : (execFlowCreate rq s).Completes := by simp [execFlowCreate]
@[simp] theorem execGateListSet_completes (rq : Request) (s : State) : (execGateListSet rq s).Completes := by simp [execGateListSet]
@[simp] theorem execPortConfig_completes (rq : Request) (s : State) : (execPortConfig rq s).Completes := by simp [execPortConfig]
@[simp] theorem execPortStats_completes (rq : Request) (s : State) : (execPortStats rq s).Completes := by simp [execPortStats]
@[simp] theorem execMarketStatus_completes (rq : Request) (s : State) : (execMarketStatus rq s).Completes := by simp [execMarketStatus]

/-! ### Machine/Handles.lean -/

@[simp] theorem execHandleRetireComplete_completes (handle : U32) (s : State) : (execHandleRetireComplete handle s).Completes := by
  unfold execHandleRetireComplete
  split <;> simp

@[simp] theorem execHandleRetireTimeout_completes (handle : U32) (unit : Nat) (s : State) :
    (execHandleRetireTimeout handle unit s).Completes := by
  unfold execHandleRetireTimeout
  split <;> simp

@[simp] theorem execHandleQuery_completes (rq : Request) (s : State) : (execHandleQuery rq s).Completes := by simp [execHandleQuery]
@[simp] theorem execHandleDestroy_completes (rq : Request) (s : State) : (execHandleDestroy rq s).Completes := by simp [execHandleDestroy]
@[simp] theorem execHandleBindIrq_completes (rq : Request) (s : State) : (execHandleBindIrq rq s).Completes := by simp [execHandleBindIrq]
@[simp] theorem execPendingQuery_completes (rq : Request) (s : State) : (execPendingQuery rq s).Completes := by simp [execPendingQuery]
@[simp] theorem execResultRead_completes (rq : Request) (s : State) : (execResultRead rq s).Completes := by simp [execResultRead]

/-! ### Machine/Resets.lean -/

@[simp] theorem execInstanceResetDrainEnd_answers (inst : Nat) (s : State) : (execInstanceResetDrainEnd inst s).Answers (inst < 63) :=
  Out.answers_guard Nat.not_le.symm (by simp)

@[simp] theorem execInstanceResetComplete_answers (inst : Nat) (s : State) : (execInstanceResetComplete inst s).Answers (inst < 63) :=
  Out.answers_guard Nat.not_le.symm (by simp)

@[simp] theorem execInstanceReset_completes (rq : Request) (s : State) : (execInstanceReset rq s).Completes := by simp [execInstanceReset]

@[simp] theorem execInstanceDestroy_completes (rq : Request) (s : State) : (execInstanceDestroy rq s).Completes := by
  simp [execInstanceDestroy]

@[simp] theorem execInstanceDestroyComplete_answers (inst : Nat) (s : State) : (execInstanceDestroyComplete inst s).Answers (inst < 63) :=
  Out.answers_guard Nat.not_le.symm (by simp)

@[simp] theorem execFnDisable_completes (rq : Request) (s : State) : (execFnDisable rq s).Completes := by simp [execFnDisable]

@[simp] theorem execFnDisableDrainTimeout_answers (inst : Nat) (s : State) : (execFnDisableDrainTimeout inst s).Answers (inst < 63) :=
  Out.answers_guard Nat.not_le.symm (by split <;> simp)

@[simp] theorem execFnDisableComplete_answers (inst : Nat) (s : State) : (execFnDisableComplete inst s).Answers (inst < 63) :=
  Out.answers_guard Nat.not_le.symm (by split <;> simp)

@[simp] theorem execFnEnable_completes (rq : Request) (s : State) : (execFnEnable rq s).Completes := by simp [execFnEnable]

/-! ### Machine/Instances.lean -/

@[simp] theorem execInstanceCreate_completes (rq : Request) (s : State) : (execInstanceCreate rq s).Completes := by
  simp [execInstanceCreate]

@[simp] theorem execShareChange_completes (rq : Request) (s : State) : (execShareChange rq s).Completes := by simp [execShareChange]
@[simp] theorem execInstanceQuery_completes (rq : Request) (s : State) : (execInstanceQuery rq s).Completes := by simp [execInstanceQuery]
@[simp] theorem execStallAssign_completes (rq : Request) (s : State) : (execStallAssign rq s).Completes := by simp [execStallAssign]
@[simp] theorem execStallWithdraw_completes (rq : Request) (s : State) : (execStallWithdraw rq s).Completes := by simp [execStallWithdraw]
@[simp] theorem execGuestFileBind_completes (rq : Request) (s : State) : (execGuestFileBind rq s).Completes := by simp [execGuestFileBind]

/-! ### Machine/Supply.lean -/

@[simp] theorem execFeedSwitchOpen_completes (feed : Bool) (s : State) : (execFeedSwitchOpen feed s).Completes := by
  simp [execFeedSwitchOpen]

@[simp] theorem execFeedSwitchClose_completes (feed : Bool) (s : State) : (execFeedSwitchClose feed s).Completes := by
  simp [execFeedSwitchClose]

@[simp] theorem execFeedConnectNoSource_completes (feeds : FeedPair) (s : State) : (execFeedConnectNoSource feeds s).Completes := by
  simp [execFeedConnectNoSource]

@[simp] theorem execCrankSet_completes (mv : U16) (s : State) : (execCrankSet mv s).Completes := by simp [execCrankSet]
@[simp] theorem execCrankClear_completes (mv : U16) (s : State) : (execCrankClear mv s).Completes := by simp [execCrankClear]

@[simp] theorem execOvervoltageEnter_completes (mv : U16) (s : State) : (execOvervoltageEnter mv s).Completes := by
  simp [execOvervoltageEnter]

@[simp] theorem execOvervoltageExit_completes (mv : U16) (s : State) : (execOvervoltageExit mv s).Completes := by simp [execOvervoltageExit]
@[simp] theorem execBankReady_completes (s : State) : (execBankReady s).Completes := by simp [execBankReady]

@[simp] theorem execSupplyLoss_completes (mv : U16) (cause : Byte) (s : State) : (execSupplyLoss mv cause s).Completes := by
  simp [execSupplyLoss]

@[simp] theorem execHoldupCommitComplete_completes (s : State) : (execHoldupCommitComplete s).Completes := by
  simp [execHoldupCommitComplete]

@[simp] theorem execHoldupRestart_completes (mv : U16) (s : State) : (execHoldupRestart mv s).Completes := by simp [execHoldupRestart]
@[simp] theorem execRstReqPulseEnd_completes (s : State) : (execRstReqPulseEnd s).Completes := by simp [execRstReqPulseEnd]
@[simp] theorem execResetNValid_completes (s : State) : (execResetNValid s).Completes := by simp [execResetNValid]

@[simp] theorem execPowerOnResetRelease_completes (net : NetSel) (pairOpen svcOpen : Bool) (s : State) :
    (execPowerOnResetRelease net pairOpen svcOpen s).Completes := by simp [execPowerOnResetRelease]

@[simp] theorem execStartVbusWaitEnd_completes (s : State) : (execStartVbusWaitEnd s).Completes := by simp [execStartVbusWaitEnd]
@[simp] theorem execResetNRelease_completes (s : State) : (execResetNRelease s).Completes := by simp [execResetNRelease]

/-! ### Machine/Sleep.lean -/

@[simp] theorem execSleepOrder_completes (rq : Request) (s : State) : (execSleepOrder rq s).Completes := by simp [execSleepOrder]

@[simp] theorem execSleepPreparationsIssued_completes (s : State) : (execSleepPreparationsIssued s).Completes := by
  simp [execSleepPreparationsIssued]

@[simp] theorem execTc10SleepRequestReceive_answers (port : Nat) (s : State) : (execTc10SleepRequestReceive port s).Answers (port < 22) :=
  Out.answers_guard Nat.not_le.symm (by simp)

@[simp] theorem execDrainConditionsMet_completes (s : State) : (execDrainConditionsMet s).Completes := by simp [execDrainConditionsMet]
@[simp] theorem execDrainLimitExpiry_completes (s : State) : (execDrainLimitExpiry s).Completes := by simp [execDrainLimitExpiry]
@[simp] theorem execCommittedDomainsOff_completes (s : State) : (execCommittedDomainsOff s).Completes := by simp [execCommittedDomainsOff]
@[simp] theorem execSleepDwellEnd_completes (s : State) : (execSleepDwellEnd s).Completes := by simp [execSleepDwellEnd]

@[simp] theorem execWakeEvent_answers (fires : List WakeFire) (s : State) :
    (execWakeEvent fires s).Answers (fires.all (fun f => unitSource f.source) = true) := by
  refine Out.answers_guard not_not.symm ?_
  simp only
  repeat' split
  all_goals simp

@[simp] theorem execWakeConfirmation_completes (s : State) : (execWakeConfirmation s).Completes := by simp [execWakeConfirmation]
@[simp] theorem execFalseWakeTimeout_completes (s : State) : (execFalseWakeTimeout s).Completes := by simp [execFalseWakeTimeout]

@[simp] theorem execQuarantineEnd_answers (source : Nat) (s : State) : (execQuarantineEnd source s).Answers (wakeCode source = true) :=
  Out.answers_guard not_not.symm (by simp)

@[simp] theorem execWakeConfig_completes (rq : Request) (s : State) : (execWakeConfig rq s).Completes := by simp [execWakeConfig]
@[simp] theorem execWakeStatus_completes (rq : Request) (s : State) : (execWakeStatus rq s).Completes := by simp [execWakeStatus]

/-! ### Machine/Safe.lean -/

@[simp] theorem execLockstepMismatch_answers (pair lane : Nat) (pc : U64) (s : State) :
    (execLockstepMismatch pair lane pc s).Answers ((pair < 8 ∧ 1 ≤ lane) ∧ lane ≤ 7) :=
  Out.answers_guard (by omega) (by simp)

@[simp] theorem execAmindLockstepMismatch_completes (lane : Nat) (pc : U64) (s : State) :
    (execAmindLockstepMismatch lane pc s).Completes := by simp [execAmindLockstepMismatch]

@[simp] theorem execMemoryUncorrectable_completes (_mem : MemUnit) (s : State) : (execMemoryUncorrectable _mem s).Completes := by
  simp [execMemoryUncorrectable]

@[simp] theorem execJunctionOvertemp_completes (temp : U16) (s : State) : (execJunctionOvertemp temp s).Completes := by
  simp [execJunctionOvertemp]

@[simp] theorem execSafeRestartDelayExpiry_completes (s : State) : (execSafeRestartDelayExpiry s).Completes := by
  simp [execSafeRestartDelayExpiry]

@[simp] theorem execModeRequest_completes (rq : Request) (s : State) : (execModeRequest rq s).Completes := by simp [execModeRequest]
@[simp] theorem execResetRequest_completes (rq : Request) (s : State) : (execResetRequest rq s).Completes := by simp [execResetRequest]

@[simp] theorem execRecoveryRelease_completes (rq : Request) (s : State) : (execRecoveryRelease rq s).Completes := by
  simp [execRecoveryRelease]

@[simp] theorem execAmindWdogExpiry_completes (s : State) : (execAmindWdogExpiry s).Completes := by simp [execAmindWdogExpiry]

@[simp] theorem execEngineWedgedDetect_answers (unit : Nat) (kind : Byte) (s : State) :
    (execEngineWedgedDetect unit kind s).Answers (kind.toNat ≤ 1 ∧ unit < 256) :=
  Out.answers_guard (by omega) (by simp)

@[simp] theorem execCheckerLock_completes (rq : Request) (s : State) : (execCheckerLock rq s).Completes := by simp [execCheckerLock]
@[simp] theorem execSecureClaim_completes (rq : Request) (s : State) : (execSecureClaim rq s).Completes := by simp [execSecureClaim]
@[simp] theorem execSecureRelease_completes (rq : Request) (s : State) : (execSecureRelease rq s).Completes := by simp [execSecureRelease]

/-! ### Machine/Start.lean -/

@[simp] theorem execAmindFirmwareAuthenticated_completes (report : FirmwareReport) (s : State) :
    (execAmindFirmwareAuthenticated report s).Completes := by
  unfold execAmindFirmwareAuthenticated
  simp only
  repeat' split
  all_goals simp

@[simp] theorem execComparatorSelftestDone_answers (pair : Nat) (pass : Bool) (lane : Nat) (s : State) :
    (execComparatorSelftestDone pair pass lane s).Answers (pair < 8) :=
  Out.answers_guard Nat.not_le.symm (by simp)

@[simp] theorem execStartConfigApplied_completes (cfg : StoredCfg) (bankCap : U16) (s : State) :
    (execStartConfigApplied cfg bankCap s).Completes := by
  unfold execStartConfigApplied
  simp only
  repeat' split
  all_goals simp

@[simp] theorem execSecureImagePlaced_completes (digest2 : List Byte) (digest3 : Option (List Byte))
    (entry mgrEntry : A40)
    (parts : ImageParts) (s : State) :
    (execSecureImagePlaced digest2 digest3 entry mgrEntry parts s).Completes := by simp [execSecureImagePlaced]

@[simp] theorem execPairsReleased_completes (s : State) : (execPairsReleased s).Completes := by simp [execPairsReleased]
@[simp] theorem execStartGood_completes (rq : Request) (s : State) : (execStartGood rq s).Completes := by simp [execStartGood]
@[simp] theorem execStartTimeout_completes (s : State) : (execStartTimeout s).Completes := by simp [execStartTimeout]

@[simp] theorem execModeRunEntered_completes (fails : List (Nat × Nat)) (s : State) : (execModeRunEntered fails s).Completes := by
  unfold execModeRunEntered
  split <;> simp

/-! ### Machine/Records.lean -/

@[simp] theorem execHealthSample_completes (h : Sensors) (feedA feedB : U16) (s : State) :
    (execHealthSample h feedA feedB s).Completes := by simp [execHealthSample]

@[simp] theorem execHealthQuery_completes (rq : Request) (s : State) : (execHealthQuery rq s).Completes := by simp [execHealthQuery]
@[simp] theorem execSafetyStatus_completes (rq : Request) (s : State) : (execSafetyStatus rq s).Completes := by simp [execSafetyStatus]

@[simp] theorem execLedgerAonCommit_completes (s : State) : (execLedgerAonCommit s).Completes := by
  unfold execLedgerAonCommit
  split <;> simp

@[simp] theorem execLedgerAmindCommit_completes (s : State) : (execLedgerAmindCommit s).Completes := by simp [execLedgerAmindCommit]
@[simp] theorem execLedgerRateSecondEnd_completes (s : State) : (execLedgerRateSecondEnd s).Completes := by simp [execLedgerRateSecondEnd]

@[simp] theorem execLedgerReaderCreate_completes (rq : Request) (s : State) : (execLedgerReaderCreate rq s).Completes := by
  simp [execLedgerReaderCreate]

@[simp] theorem execLedgerRead_completes (rq : Request) (s : State) : (execLedgerRead rq s).Completes := by simp [execLedgerRead]
@[simp] theorem execUpdateBegin_completes (rq : Request) (s : State) : (execUpdateBegin rq s).Completes := by simp [execUpdateBegin]
@[simp] theorem execUpdateData_completes (rq : Request) (s : State) : (execUpdateData rq s).Completes := by simp [execUpdateData]
@[simp] theorem execUpdateCommit_completes (rq : Request) (s : State) : (execUpdateCommit rq s).Completes := by simp [execUpdateCommit]

@[simp] theorem execUpdateCommitComplete_completes (ownerEc ownerPq : List Byte) (cfg : StoredCfg) (record : SvcRecord) (s : State) :
    (execUpdateCommitComplete ownerEc ownerPq cfg record s).Completes := by
  unfold execUpdateCommitComplete
  repeat' split
  all_goals simp

@[simp] theorem execUpdateAbort_completes (rq : Request) (s : State) : (execUpdateAbort rq s).Completes := by simp [execUpdateAbort]
@[simp] theorem execLifecycleSet_completes (rq : Request) (s : State) : (execLifecycleSet rq s).Completes := by simp [execLifecycleSet]

@[simp] theorem execLifecycleTransitionCommit_completes (s : State) : (execLifecycleTransitionCommit s).Completes := by
  unfold execLifecycleTransitionCommit
  split <;> simp

@[simp] theorem execDebugOpen_completes (rq : Request) (s : State) : (execDebugOpen rq s).Completes := by simp [execDebugOpen]

/-! ### Every command -/

/-- Every request that Amind, the relay or the partner's port takes ends in a next state. -/
theorem exec_completes_of_request {c : Instr} {rq : Request} (hc : c.request = some rq) (hwf : c.wf = true) (s : State) :
    Out.Completes (exec c s) := by
  cases c
  all_goals cases hc
  case partnerRequestArrive => exact execPartnerRequestArrive_completes hwf s
  all_goals simp [exec]

/-- A command without a request answers as the units that it names exist. -/
theorem exec_answers {c : Instr} (hc : c.request = none) (s : State) : Out.Answers (exec c s) (c.wf = true) := by
  cases c
  all_goals cases hc
  case wakeEvent fires => exact execWakeEvent_answers fires s
  case gatewayTap src => cases src <;> exact execGatewayTap_answers _ s
  all_goals simp [exec, Instr.wf, unitBlocks_eq, unitSource_eq, -Order.lt_two_iff]

end Sys2Proof.Machine

namespace Sys2Proof.Proofs

open Sys2Proof Sys2Proof.Machine

/-- Settles O7: a request always completes by Amind's service of it, and a command without one by the check of its units. -/
theorem commandsCompleteOrNameAbsentUnits : Obligations.CommandsCompleteOrNameAbsentUnits := by
  refine ⟨fun c s hwf => ?_, fun c s hc hwf => (exec_answers hc s).2 (by simp [hwf])⟩
  cases hc : c.request with
  | some rq => exact exec_completes_of_request hc hwf s
  | none => exact (exec_answers hc s).1 hwf

end Sys2Proof.Proofs

/-! SUPPORT. The feeds, VBUS and the hold-up bank: what a feed's switch, a new VBUS and the end of CRANK change (Machine/Supply.lean). -/

namespace Sys2Proof.Machine

open Sys2Proof

/-! ### Feeds -/

@[simp] theorem Supply.feed_updFeed_same (u : Supply) (b : Bool) (f : Feed → Feed) : (u.updFeed b f).feed b = f (u.feed b) := by
  cases b <;> rfl

theorem Supply.feed_updFeed_not (u : Supply) (b : Bool) (f : Feed → Feed) : (u.updFeed b f).feed (!b) = u.feed (!b) := by
  cases b <;> rfl

/-- A condition on either feed, from the view of one of them. -/
theorem Supply.lost_or (u : Supply) (b : Bool) : (u.feedA.lost || u.feedB.lost) = ((u.feed b).lost || (u.feed (!b)).lost) := by
  cases b
  · rfl
  · exact Bool.or_comm ..

theorem State.logEither_mgmtOnly (s : State) (e : Ev) (data : List Byte) : s.mgmtOnly (s.logEither e data) := by
  unfold State.logEither
  split
  · exact s.mgmtOnly_refl
  · split
    · exact s.log_mgmtOnly e data
    · exact s.logAon_mgmtOnly e data

@[simp] theorem State.logEither_supply (s : State) (e : Ev) (data : List Byte) : (s.logEither e data).supply = s.supply :=
  State.mgmtOnly_supply (s.logEither_mgmtOnly e data)

@[simp] theorem State.logEither_ps (s : State) (e : Ev) (data : List Byte) : (s.logEither e data).ps = s.ps :=
  State.mgmtOnly_ps (s.logEither_mgmtOnly e data)

/-- The load budget with one feed's loss ended: the other feed decides. -/
theorem State.feedsStep_closed (s : State) (f : Bool) :
    (s.onSupply (fun u => u.updFeed f (fun x => { x with closed := true, lost := false }))).feedsStep = { s with
      supply := s.supply.updFeed f (fun x => { x with closed := true, lost := false })
      ps := { s.ps with budget := if (s.supply.feed (!f)).lost then 1600 else 2500 } } := by
  simp [State.feedsStep, State.onPs, State.onSupply, Supply.lost_or _ f, Supply.feed_updFeed_not]

theorem State.feedClose_of_lost {s : State} {f : Bool} (h : (s.supply.feed f).lost = true) :
    s.feedClose f = ({ s with
      supply := s.supply.updFeed f (fun x => { x with closed := true, lost := false })
      ps := { s.ps with budget := if (s.supply.feed (!f)).lost then 1600 else 2500 } } : State).logEither .feedRestored [feedByte f] := by
  simp only [State.feedClose, h, if_true, State.feedsStep_closed]

theorem State.feedClose_supply (s : State) (f : Bool) :
    (s.feedClose f).supply = s.supply.updFeed f (fun x => { x with closed := true, lost := false }) := by
  simp only [State.feedClose, State.feedsStep_closed]
  split <;> simp

theorem State.feedClose_ps (s : State) (f : Bool) :
    (s.feedClose f).ps = { s.ps with budget := if (s.supply.feed (!f)).lost then 1600 else 2500 } := by
  simp only [State.feedClose, State.feedsStep_closed]
  split <;> simp

theorem exec_feedSwitchOpen_of_closed {s : State} {f : Bool} (h : (s.supply.feed f).closed = true) :
    Does (.feedSwitchOpen f) s ({ s with
      supply := s.supply.updFeed f (fun _ => { closed := false, lost := true, cur := 0 })
      ps := { s.ps with budget := 1600 } }.logEither .feedLost [feedByte f]) := by
  have hlost : (s.onSupply (fun u => u.updFeed f (fun _ => { lost := true }))).feedsStep = { s with
      supply := s.supply.updFeed f (fun _ => { lost := true }), ps := { s.ps with budget := 1600 } } := by
    simp [State.feedsStep, State.onPs, State.onSupply, Supply.lost_or _ f]
  simp only [Does, exec, execFeedSwitchOpen, h, hlost, not_true_eq_false, if_false, fin]

theorem exec_feedSwitchClose_of_open {s : State} {f : Bool} (h : (s.supply.feed f).closed = false) :
    Does (.feedSwitchClose f) s (s.feedClose f) := by
  simp only [Does, exec, execFeedSwitchClose, h, Bool.false_eq_true, if_false, fin]

theorem exec_feedSwitchClose_of_closed {s : State} {f : Bool} (h : (s.supply.feed f).closed = true) :
    exec (.feedSwitchClose f) s = .next s := by
  simp only [exec, execFeedSwitchClose, h, if_true]

/-- With no switch closed, each feed that is not reversed connects. -/
theorem exec_feedConnectNoSource_of_open {s : State} (ha : s.supply.feedA.closed = false) (hb : s.supply.feedB.closed = false)
    (a b : Bool) : Does (.feedConnectNoSource ⟨a, b⟩) s
      (if b then (if a then s.feedClose false else s).feedClose true else if a then s.feedClose false else s) := by
  simp only [Does, exec, execFeedConnectNoSource, ha, hb, Bool.false_eq_true, or_self, if_false, fin]

theorem exec_feedConnectNoSource_of_closed {s : State} {f : Bool} (h : (s.supply.feed f).closed = true) (x : FeedPair) :
    exec (.feedConnectNoSource x) s = .next s := by
  have hany : s.supply.feedA.closed = true ∨ s.supply.feedB.closed = true := by
    cases f
    · exact Or.inl h
    · exact Or.inr h
  simp only [exec, execFeedConnectNoSource, hany, if_true]

/-- Where no source is connected, one feed that is not reversed connects as a switch that closes does. -/
theorem exec_feedConnectNoSource_alone {s : State} (ha : s.supply.feedA.closed = false) (hb : s.supply.feedB.closed = false) (f : Bool) :
    Does (.feedConnectNoSource ⟨!f, f⟩) s (s.feedClose f) := by
  have h := exec_feedConnectNoSource_of_open ha hb (!f) f
  cases f <;> exact h

/-- Both feeds connected: no feed is lost. -/
theorem exec_feedConnectNoSource_both {s : State} (ha : s.supply.feedA.closed = false) (hb : s.supply.feedB.closed = false) :
    Does (.feedConnectNoSource ⟨true, true⟩) s ((s.feedClose false).feedClose true) :=
  exec_feedConnectNoSource_of_open ha hb true true

/-! ### VBUS and the bank -/

/-- While CRANK is set the bank does not charge. -/
theorem exec_crankSet_of_low {s : State} {mv : U16} (hpor : s.supply.porHeld = false) (hhold : s.supply.holdup = false)
    (hcrank : s.supply.crank = false) (hlow : mv.toNat < s.supply.straps.net.functional.1) :
    Does (.crankSet mv) s { s with supply := { s.supply with crank := true, vbus := mv, bankCharging := false } } := by
  simp [Does, exec, execCrankSet, State.powered, State.charge, State.onSupply, fin, hpor, hhold, hcrank, Nat.not_le.mpr hlow]

theorem exec_bankReady_of_charging {s : State} (h : s.supply.bankCharging = true) :
    Does .bankReady s { s with supply := { s.supply with bankReady := true, bankCharging := false } } := by
  simp only [Does, exec, execBankReady, h, if_true, fin, State.onSupply]

/-! ### The inrush windows -/

/-- The inrush window of a channel that is on begins anew. -/
def LoadCh.inrushAgain (ch : LoadCh) : LoadCh := if ch.drive = .off then ch else { ch with prot := { ch.prot with inrush := true } }

/-- The same for one channel of the module, as the end of CRANK does it. -/
def State.inrushAgain (t : State) (c : Nat) : State :=
  if (t.load c).lit then t.updLoad c (fun ch => { ch with prot := { ch.prot with inrush := true } }) else t

/-- Nothing but the channels of the power stage differs. -/
def State.chansOnly (s t : State) : Prop := t = { s with ps := { s.ps with chans := t.ps.chans } }

theorem State.chansOnly_supply {s t : State} (h : s.chansOnly t) : t.supply = s.supply := by rw [h]

theorem State.inrushAgain_chansOnly (t : State) (c : Nat) : t.chansOnly (t.inrushAgain c) := by
  unfold State.inrushAgain
  split <;> rfl

theorem State.inrushAgain_load (t : State) (c k : Nat) :
    (t.inrushAgain c).load k = if k = c then (t.load k).inrushAgain else t.load k := by
  by_cases hk : k = c
  · subst hk
    by_cases hoff : (t.load k).drive = .off <;> simp [State.inrushAgain, LoadCh.inrushAgain, LoadCh.lit, hoff]
  · unfold State.inrushAgain
    split <;> simp [hk, State.load_updLoad_ne]

theorem State.foldl_inrushAgain_chansOnly (l : List Nat) (s : State) : s.chansOnly (l.foldl State.inrushAgain s) :=
  List.foldlRecOn l _ (rfl : s.chansOnly s) fun t h c _ => by
    have hstep := t.inrushAgain_chansOnly c
    unfold State.chansOnly at *
    rw [hstep, h]

/-- Each listed channel once, no other. -/
theorem State.foldl_inrushAgain_load (l : List Nat) (hl : l.Nodup) (s : State) (k : Nat) :
    (l.foldl State.inrushAgain s).load k = if k ∈ l then (s.load k).inrushAgain else s.load k := by
  induction l generalizing s with
  | nil => rfl
  | cons c l ih =>
    obtain ⟨hc, hl⟩ := List.nodup_cons.mp hl
    rw [List.foldl_cons, ih hl, State.inrushAgain_load]
    by_cases hk : k = c
    · subst hk
      simp [hc]
    · simp [hk]

/-- The end of CRANK: VBUS is judged anew, and every inrush window begins anew. -/
def State.crankEnded (s : State) (mv : U16) : State :=
  (List.range 60).foldl State.inrushAgain ((s.onSupply (fun u => { u with crank := false })).charge mv)

theorem State.crankEnded_chansOnly (s : State) (mv : U16) :
    ((s.onSupply (fun u => { u with crank := false })).charge mv).chansOnly (s.crankEnded mv) :=
  State.foldl_inrushAgain_chansOnly _ _

theorem State.crankEnded_supply (s : State) (mv : U16) :
    (s.crankEnded mv).supply = ((s.onSupply (fun u => { u with crank := false })).charge mv).supply :=
  State.chansOnly_supply (s.crankEnded_chansOnly mv)

theorem State.crankEnded_load (s : State) (mv : U16) {c : Nat} (hc : c < 60) : (s.crankEnded mv).load c = (s.load c).inrushAgain := by
  have hload := State.foldl_inrushAgain_load (List.range 60) List.nodup_range
    ((s.onSupply (fun u => { u with crank := false })).charge mv) c
  rw [if_pos (List.mem_range.mpr hc)] at hload
  exact hload

/-- VBUS half a volt above the limit ends CRANK. -/
theorem exec_crankClear_of_above {s : State} {mv : U16} (hcrank : s.supply.crank = true) (hhold : s.supply.holdup = false)
    (habove : s.supply.straps.net.functional.1 + 500 ≤ mv.toNat) :
    Does (.crankClear mv) s (s.crankEnded mv) := by
  simp only [Does, exec, execCrankClear, hcrank, hhold, Nat.not_lt.mpr habove, not_true_eq_false, Bool.false_eq_true, or_self,
    if_false, fin]
  rfl

end Sys2Proof.Machine

namespace Sys2Proof.Proofs

open Sys2Proof Sys2Proof.Machine

/-- Settles O12: each command where its condition holds, by the lemmas on feeds, VBUS and inrush windows above. -/
theorem feedsCrankAndBank : Obligations.FeedsCrankAndBank := by
  refine ⟨⟨?opens, ?closes, ?bothConnect, ?staysClosed⟩, ?crankSet, ?crankClear, ?bankReady⟩
  case opens => exact fun s f hclosed => exec_feedSwitchOpen_of_closed hclosed
  case closes =>
    exact fun s f hopen hlost => ⟨State.feedClose_of_lost hlost ▸ exec_feedSwitchClose_of_open hopen,
      fun ha hb => State.feedClose_of_lost hlost ▸ exec_feedConnectNoSource_alone ha hb f⟩
  case bothConnect =>
    refine fun s ha hb => ⟨_, exec_feedConnectNoSource_both ha hb, ?_, ?_⟩
    · simp [State.feedClose_ps, State.feedClose_supply, Supply.feed, Supply.updFeed]
    · simp [State.feedClose_supply, Supply.updFeed]
  case staysClosed =>
    exact fun s f x y hclosed => ⟨exec_feedSwitchClose_of_closed hclosed, exec_feedConnectNoSource_of_closed hclosed _⟩
  case crankSet =>
    refine fun s mv hpor hhold hcrank hlow => exec_crankSet_of_low hpor hhold hcrank ?_
    cases hnet : s.supply.straps.net <;> simpa [hnet, NetSel.functional] using hlow
  case crankClear =>
    intro s mv hcrank hhold habove
    have hlimit : s.supply.straps.net.functional.1 + 500 ≤ mv.toNat := by
      cases hnet : s.supply.straps.net <;> simpa [hnet, NetSel.functional] using habove
    refine ⟨_, exec_crankClear_of_above hcrank hhold hlimit, ?_, ?_, ?_, ?_, fun c hc => s.crankEnded_load mv hc⟩
    all_goals rw [State.crankEnded_supply]
    · rfl
    · rfl
    · rfl
    · exact s.crankEnded_chansOnly mv
  case bankReady => exact fun s hcharging => exec_bankReady_of_charging hcharging

end Sys2Proof.Proofs

/-! SUPPORT. The reset sources and the beginning of a start: what the reach of a pin reset leaves, and what steps 1 and 2 write
(Machine/Supply.lean). -/

namespace Sys2Proof.Machine

open Sys2Proof

/-! ### The reach of a pin reset -/

/-- Beside the power stage, a pin reset leaves what the reset of the domains leaves, with the always-on domain in START. -/
theorem State.pinReach_psOnly (s : State) :
    ({ s.domainsReset with aon := s.aon.atReset, sleep := s.sleep.atReset } : State).psOnly s.pinReach := by
  refine State.psOnly_after (State.loadAll_psOnly _ _) ?_
  have hpolicies := s.loadPolicies_psOnly (BitVec.allOnes 64)
  generalize s.loadPolicies (BitVec.allOnes 64) = t at hpolicies
  unfold State.psOnly at *
  rw [hpolicies]
  rfl

@[simp] theorem State.pinReach_supply (s : State) : s.pinReach.supply = s.supply := (State.psOnly_supply s.pinReach_psOnly).trans rfl
@[simp] theorem State.pinReach_aon (s : State) : s.pinReach.aon = s.aon.atReset := State.psOnly_aon s.pinReach_psOnly
@[simp] theorem State.pinReach_timers (s : State) : s.pinReach.timers = [] := State.psOnly_timers s.pinReach_psOnly
@[simp] theorem State.pinReach_sw (s : State) : s.pinReach.sw = {} := State.psOnly_sw s.pinReach_psOnly
@[simp] theorem State.pinReach_eth (s : State) : s.pinReach.eth = {} := State.psOnly_eth s.pinReach_psOnly
@[simp] theorem State.pinReach_bus (s : State) : s.pinReach.bus = {} := State.psOnly_bus s.pinReach_psOnly
@[simp] theorem State.pinReach_ce (s : State) : s.pinReach.ce = {} := State.psOnly_ce s.pinReach_psOnly
@[simp] theorem State.pinReach_pass (s : State) : s.pinReach.pass = {} := State.psOnly_pass s.pinReach_psOnly
@[simp] theorem State.pinReach_ks (s : State) : s.pinReach.ks = s.ks.kept := State.psOnly_ks s.pinReach_psOnly

@[simp] theorem State.pinReach_mgmt (s : State) : s.pinReach.mgmt = s.mgmt.kept { s.mgmt.ledger with rate := [], dropped := [] } :=
  State.psOnly_mgmt s.pinReach_psOnly

@[simp] theorem State.pinReach_localT (s : State) : s.pinReach.tb.localT = s.tb.localT := by
  rw [State.psOnly_tb s.pinReach_psOnly]
  rfl

/-- Of the core a pin reset leaves the counters of free values and of memory keys, and what the policies' interrupts set. -/
theorem State.pinReach_core (s : State) : s.pinReach.core = {
    fresh := s.core.fresh, dramEpoch := s.core.dramEpoch + 1, aplicM := s.pinReach.core.aplicM, aplicS := s.pinReach.core.aplicS
    imsics := s.pinReach.core.imsics, pairs := s.pinReach.core.pairs } := State.psOnly_core s.pinReach_psOnly

/-- A valid low level on RESET_N of a powered module: the cause is kept for step 1, and the reset reaches its domains. -/
theorem exec_resetNValid_of_powered {s : State} (hpin : s.supply.pinHeld = false) (hpor : s.supply.porHeld = false)
    (hhold : s.supply.holdup = false) :
    Does .resetNValid s ((s.onAon (fun a =>
      { a with nextPin := true, nextReq := if s.supply.rstReq then a.nextReq else none })).pinReach.onSupply
        (fun u => { u with pinHeld := true, faultLow := true })) := by
  simp only [Does, exec, execResetNValid, hpin, hpor, hhold, Bool.false_eq_true, if_false, fin]

/-! ### The pins -/

theorem exec_resetNRelease_of_holdup {s : State} (hhold : s.supply.holdup = true) :
    Does .resetNRelease s { s with supply := { s.supply with pinDeferred := false, pinHeld := false } } := by
  simp only [Does, exec, execResetNRelease, hhold, if_true, fin, State.onSupply]

/-- The release of RESET_N: with power-on reset held, or VBUS waited for, the start has to wait. -/
theorem exec_resetNRelease_of_held {s : State} (hpin : s.supply.pinHeld = true) (hhold : s.supply.holdup = false) :
    Does .resetNRelease s (if s.supply.porHeld ∨ s.supply.vbusWait then s.onSupply (fun u => { u with pinHeld := false })
      else (s.onSupply (fun u => { u with pinHeld := false })).startBegin false) := by
  simp only [Does, exec, execResetNRelease, hpin, hhold, Bool.false_eq_true, not_true_eq_false, if_false, fin]

theorem exec_rstReqPulseEnd_of_low {s : State} (h : s.supply.rstReq = true) :
    Does .rstReqPulseEnd s { s with supply := { s.supply with rstReq := false } } := by
  simp only [Does, exec, execRstReqPulseEnd, h, if_true, fin, State.onSupply]

theorem exec_partnerRstPulseEnd_of_low {s : State} (h : s.supply.partnerRst = true) :
    Does .partnerRstPulseEnd s { s with supply := { s.supply with partnerRst := false } } := by
  simp only [Does, exec, execPartnerRstPulseEnd, h, if_true, fin, State.onSupply]

/-! ### Steps 1 and 2 of a start -/

theorem Aon.countStart_of_few {a : Aon} (h : a.failedStarts.toNat < 3) :
    a.countStart = { a with failedStarts := a.failedStarts + 1 } := if_pos h

theorem Aon.countStart_of_trial {a : Aon} (h : 3 ≤ a.failedStarts.toNat) (htrial : a.trial = true) :
    a.countStart = { a with failedStarts := satInc a.failedStarts, trial := false } := by
  simp [Aon.countStart, Nat.not_lt.mpr h, htrial]

theorem Aon.countStart_of_many {a : Aon} (h : 3 ≤ a.failedStarts.toNat) (htrial : a.trial = false) :
    a.countStart = { a with recoveryAt3 := true } := by
  simp [Aon.countStart, Nat.not_lt.mpr h, htrial]

/-- Whatever step 1 counts, the rest of the always-on domain stays. -/
theorem Aon.countStart_frame (a : Aon) : a.countStart =
    { a with failedStarts := a.countStart.failedStarts, trial := a.countStart.trial, recoveryAt3 := a.countStart.recoveryAt3 } := by
  unfold Aon.countStart
  split
  · rfl
  · split <;> rfl

@[simp] theorem State.startBegin_supply (s : State) (wake : Bool) :
    (s.startBegin wake).supply = { s.supply with faultLow := true } := by simp [State.startBegin]

@[simp] theorem State.startBegin_aon (s : State) (wake : Bool) : (s.startBegin wake).aon = { (s.aon.latchCause wake).countStart with
    mode := .start, step := 2, startNo := s.aon.startNo + 1, t0 := s.tb.localT, safeInCommitted := false } := by
  simp [State.startBegin, State.now]

@[simp] theorem State.startBegin_handles (s : State) (wake : Bool) : (s.startBegin wake).mgmt.handles =
    { gens := s.mgmt.handles.gens, starts := s.mgmt.handles.starts + 1 } := by simp [State.startBegin]

/-- The state in which a start begins: both reset sources are released. -/
def State.released (s : State) : State := { s with supply := { s.supply with pinHeld := false, vbusWait := false } }

theorem exec_resetNRelease_starts {s : State} (hpin : s.supply.pinHeld = true) (hhold : s.supply.holdup = false)
    (hpor : s.supply.porHeld = false) (hwait : s.supply.vbusWait = false) : Does .resetNRelease s (s.released.startBegin false) := by
  have hreleased : s.onSupply (fun u => { u with pinHeld := false }) = s.released := by
    simp only [State.onSupply, State.released, ← hwait]
  simpa [hpor, hwait, hreleased] using exec_resetNRelease_of_held hpin hhold

theorem exec_startVbusWaitEnd_starts {s : State} (hwait : s.supply.vbusWait = true) (hhold : s.supply.holdup = false)
    (hrange : s.inFunctional s.supply.vbus = true) (hpin : s.supply.pinHeld = false) :
    Does .startVbusWaitEnd s (s.released.startBegin false) := by
  have hreleased : s.onSupply (fun u => { u with vbusWait := false }) = s.released := by
    simp only [State.onSupply, State.released, ← hpin]
  simp [Does, exec, execStartVbusWaitEnd, hwait, hhold, hrange, hpin, hreleased, fin]

end Sys2Proof.Machine

namespace Sys2Proof.Proofs

open Sys2Proof Sys2Proof.Machine

/-- Settles O14: each reset source by what its command does, and both ways into a start by the one state in which it begins. -/
theorem resetSourcesAndStarts : Obligations.ResetSourcesAndStarts := by
  refine ⟨⟨?powerOn, ?pin, ?releaseHeld, ?releaseHoldup, ?request, ?partner⟩, ?starts⟩
  case powerOn =>
    intro s net pairOpen svcOpen hpor hwait
    refine ⟨_, if_neg (by simp [hpor, hwait]), ?_⟩
    and_intros <;> rfl
  case pin =>
    intro s hpin hpor hhold
    refine ⟨_, exec_resetNValid_of_powered hpin hpor hhold, ?_⟩
    rw [State.onSupply_core, State.pinReach_core]
    simp [Aon.atReset, Mgmt.kept, KeyStore.kept]
  case releaseHeld =>
    intro s hpin hhold hheld
    simpa [hheld, State.onSupply] using exec_resetNRelease_of_held hpin hhold
  case releaseHoldup => exact fun s => exec_resetNRelease_of_holdup
  case request => exact fun s => exec_rstReqPulseEnd_of_low
  case partner => exact fun s => exec_partnerRstPulseEnd_of_low
  case starts =>
    intro s c hc
    have hdoes : Does c s (s.released.startBegin false) := by
      rcases hc with ⟨rfl, hpin, hhold, hpor, hwait⟩ | ⟨rfl, hwait, hhold, hrange, hpin⟩
      · exact exec_resetNRelease_starts hpin hhold hpor hwait
      · exact exec_startVbusWaitEnd_starts hwait hhold hrange hpin
    refine ⟨_, hdoes, ?_⟩
    rw [State.startBegin_supply, State.startBegin_aon, State.startBegin_handles]
    have hframe := (s.released.aon.latchCause false).countStart_frame
    refine ⟨rfl, rfl, rfl, rfl, rfl, rfl, rfl, ?_, ?_, ?_, ?_, fun hfew => ?_, fun hmany htrial => ?_, fun hmany htrial => ?_, rfl, rfl⟩
    iterate 4
      rw [hframe]
      rfl
    · rw [Aon.countStart_of_few (a := s.released.aon.latchCause false) hfew]
      exact ⟨rfl, rfl⟩
    · rw [Aon.countStart_of_trial (a := s.released.aon.latchCause false) hmany htrial]
      exact ⟨rfl, rfl⟩
    · rw [Aon.countStart_of_many (a := s.released.aon.latchCause false) hmany htrial]
      exact ⟨rfl, rfl⟩

end Sys2Proof.Proofs

/-! SUPPORT. Updates, the life cycle and the debug port: what ledger entries and notices leave of Amind's records, what a pulse on RST_REQ_N
changes, and the own parts of the commands (Machine/Records.lean). -/

namespace Sys2Proof.Machine

open Sys2Proof

/-! ### Entries and notices leave the other records -/

/-- Of what Amind keeps nothing differs but the ledger and the records of stalls, routes and sessions. -/
def State.recordsOnly (s t : State) : Prop := t.mgmt = { s.mgmt with amind := t.mgmt.amind, ledger := t.mgmt.ledger }

theorem State.recordsOnly_refl (s : State) : s.recordsOnly s := rfl

theorem State.recordsOnly_trans {a b c : State} (h : a.recordsOnly b) (k : b.recordsOnly c) : a.recordsOnly c := by
  unfold State.recordsOnly at *
  rw [k, h]

theorem State.recordsOnly_after {a b c : State} (k : b.recordsOnly c) (h : a.recordsOnly b) : a.recordsOnly c :=
  State.recordsOnly_trans h k

theorem State.recordsOnly_of_irqOnly {a b : State} (h : a.irqOnly b) : a.recordsOnly b := by
  rw [State.recordsOnly, State.irqOnly_mgmt h]

theorem State.ledgerPut_recordsOnly (s : State) (w : Writer) (code sev : Nat) (data : List Byte) :
    s.recordsOnly (s.ledgerPut w code sev data) := by
  unfold State.ledgerPut
  simp only
  split
  · exact State.recordsOnly_after (State.recordsOnly_of_irqOnly (State.pulse_irqOnly _ _)) rfl
  · rfl

theorem State.log_recordsOnly (s : State) (e : Ev) (data : List Byte) : s.recordsOnly (s.log e data) := by
  unfold State.log State.ledgerBy
  simp only
  split
  · rfl
  · exact State.recordsOnly_after (State.ledgerPut_recordsOnly _ _ _ _ _) rfl

theorem State.aonDrop_recordsOnly (s : State) (d : Nat × U32) : s.recordsOnly (s.aonDrop d) := by
  unfold State.aonDrop
  split
  · rfl
  · exact s.ledgerPut_recordsOnly _ _ _ _

theorem State.commitBuffer_recordsOnly (s : State) : s.recordsOnly s.commitBuffer := by
  unfold State.commitBuffer State.aonDrops
  exact List.foldlRecOn (motive := s.recordsOnly) _ _ (by rfl) fun t h d _ => State.recordsOnly_trans h (t.aonDrop_recordsOnly d)

theorem State.stallIrq_recordsOnly (s : State) (n : Nat) : s.recordsOnly (s.stallIrq n) := by
  unfold State.stallIrq
  split
  · exact State.recordsOnly_of_irqOnly (s.pulse_irqOnly _)
  · split
    · exact State.recordsOnly_of_irqOnly (s.pulse_irqOnly _)
    · split
      · rfl
      · exact State.recordsOnly_of_irqOnly (s.msi_irqOnly _ _ _)

theorem State.stallNotice_recordsOnly (s : State) (n : Nat) (r : Response) : s.recordsOnly (s.stallNotice n r) := by
  unfold State.stallNotice
  split
  · rfl
  · exact State.recordsOnly_after (State.stallIrq_recordsOnly _ _) rfl
  · split <;> rfl

theorem State.notice_recordsOnly (s : State) (key : Nat) (r : Response) : s.recordsOnly (s.notice key r) := by
  unfold State.notice
  split
  · exact s.stallNotice_recordsOnly _ _
  · split
    · unfold State.svcSend
      split <;> rfl
    · rfl

theorem State.complete_recordsOnly (s : State) (key : Nat) (seq : U16) (st : Status) (handle : U32) (payload : List Byte) :
    s.recordsOnly (s.complete key seq st handle payload) := by
  unfold State.complete
  split
  · rfl
  · exact State.recordsOnly_after (State.notice_recordsOnly _ _ _) rfl

section Records

variable {s t : State}

theorem State.recordsOnly_staging (h : s.recordsOnly t) : t.mgmt.staging = s.mgmt.staging := by rw [h]
theorem State.recordsOnly_targets (h : s.recordsOnly t) : t.mgmt.targets = s.mgmt.targets := by rw [h]
theorem State.recordsOnly_svcA (h : s.recordsOnly t) : t.mgmt.svcA = s.mgmt.svcA := by rw [h]
theorem State.recordsOnly_svcB (h : s.recordsOnly t) : t.mgmt.svcB = s.mgmt.svcB := by rw [h]
theorem State.recordsOnly_svcNewB (h : s.recordsOnly t) : t.mgmt.svcNewB = s.mgmt.svcNewB := by rw [h]
theorem State.recordsOnly_svc (h : s.recordsOnly t) : t.mgmt.svc = s.mgmt.svc := by rw [h]

theorem State.recordsOnly_target (h : s.recordsOnly t) (n : Nat) : t.target n = s.target n := by
  rw [State.target, State.recordsOnly_targets h, State.target]

theorem State.mgmtOnly_core (h : s.mgmtOnly t) : t.core = { s.core with
    aplicM := t.core.aplicM, aplicS := t.core.aplicS, imsics := t.core.imsics, pairs := t.core.pairs } := by
  rw [h]; rfl

end Records

/-! ### Interrupts leave the pairs' states -/

/-- Of the pairs nothing differs but the counters of dropped MSIs. -/
def State.dropsOnly (s t : State) : Prop := ∀ p, t.pair p = { s.pair p with msiDrop := (t.pair p).msiDrop }

theorem State.dropsOnly_refl (s : State) : s.dropsOnly s := fun _ => rfl

theorem State.dropsOnly_trans {a b c : State} (h : a.dropsOnly b) (k : b.dropsOnly c) : a.dropsOnly c := by
  intro p
  rw [k p, h p]

theorem State.dropsOnly_after {a b c : State} (k : b.dropsOnly c) (h : a.dropsOnly b) : a.dropsOnly c := State.dropsOnly_trans h k

theorem State.msi_dropsOnly (s : State) (h file ident : Nat) : s.dropsOnly (s.msi h file ident) := by
  intro p
  unfold State.msi
  split
  · rfl
  · split
    · rfl
    · by_cases hp : p = h
      · subst hp
        simp [State.pair, State.updPair]
      · simp [State.pair, State.updPair, Tab.get_upd_ne _ _ _ hp]

theorem State.fireS_dropsOnly (s : State) (i : Nat) : s.dropsOnly (s.fireS i) := by
  unfold State.fireS
  simp only
  split
  · exact State.dropsOnly_after (State.msi_dropsOnly _ _ _ _) (fun _ => rfl)
  · exact s.dropsOnly_refl

theorem State.fireM_dropsOnly (s : State) (i : Nat) : s.dropsOnly (s.fireM i) := by
  unfold State.fireM
  simp only
  split
  · exact State.dropsOnly_after (State.msi_dropsOnly _ _ _ _) (fun _ => rfl)
  · exact s.dropsOnly_refl

theorem State.pulse_dropsOnly (s : State) (i : Nat) : s.dropsOnly (s.pulse i) := by
  unfold State.pulse
  split
  · split
    · exact State.dropsOnly_after (State.fireS_dropsOnly _ _) (fun _ => rfl)
    · exact s.dropsOnly_refl
  · split
    · exact State.dropsOnly_after (State.fireM_dropsOnly _ _) (fun _ => rfl)
    · exact s.dropsOnly_refl

theorem State.ledgerPut_dropsOnly (s : State) (w : Writer) (code sev : Nat) (data : List Byte) :
    s.dropsOnly (s.ledgerPut w code sev data) := by
  unfold State.ledgerPut
  simp only
  split
  · exact State.dropsOnly_after (State.pulse_dropsOnly _ _) (fun _ => rfl)
  · exact fun _ => rfl

theorem State.log_dropsOnly (s : State) (e : Ev) (data : List Byte) : s.dropsOnly (s.log e data) := by
  unfold State.log State.ledgerBy
  simp only
  split
  · exact fun _ => rfl
  · exact State.dropsOnly_after (State.ledgerPut_dropsOnly _ _ _ _ _) (fun _ => rfl)

/-! ### Service of a request -/

/-- A request that Amind takes is answered with what the command's own part gives on the state that has heard it. -/
theorem replies_of_own {c : Instr} {k : CmdSpec} {rq : Request} {s t : State} {a : Ans} {valid : List Byte → Bool}
    {own : State → State × Ans} (hc : exec c s = serve k rq s valid own) (htakes : s.takes k rq valid false)
    (hown : own (s.heard rq) = (t, a)) : Replies c rq s t a := by
  rw [Replies, hc, serve, serveWith_takes own htakes, hown]

/-! ### Slots -/

@[simp] theorem Target.slot_updSlot_same (t : Target) (b : Bool) (f : Slot → Slot) : (t.updSlot b f).slot b = f (t.slot b) := by
  cases b <;> rfl

@[simp] theorem Target.slot_updSlot_not (t : Target) (b : Bool) (f : Slot → Slot) : (t.updSlot b f).slot (!b) = t.slot (!b) := by
  cases b <;> rfl

@[simp] theorem State.target_updTarget_same (s : State) (n : Nat) (f : Target → Target) :
    (s.updTarget n f).target n = f (s.target n) := by
  simp [State.target, State.updTarget]

theorem State.target_updTarget_ne (s : State) {n m : Nat} (f : Target → Target) (h : m ≠ n) :
    (s.updTarget n f).target m = s.target m := by
  simp [State.target, State.updTarget, Tab.get_put_ne _ _ _ h]

/-! ### Updates -/

/-- The state in which UPDATE_BEGIN leaves a module that takes it: the inactive slot erased and the image staged (R281). -/
def State.updateBegun (s : State) (rq : Request) : State :=
  (s.updTarget (u8At rq.payload 0) (fun x => x.updSlot x.inactive (fun _ => {}))).onMgmt (fun m => { m with
    staging := some { route := rq.route.key, target := u8At rq.payload 0, size := u32At rq.payload 4 } })

theorem ownUpdateBegin_of_free {rq : Request} {s : State} (hrom : s.aon.bootRom = false) (hfree : s.mgmt.staging = none)
    (hslot : ((s.target (u8At rq.payload 0)).slot (s.target (u8At rq.payload 0)).inactive).st ≠ .pending)
    (hsize : u32At rq.payload 4 ≤ slotSize (u8At rq.payload 0)) : ownUpdateBegin rq s = (s.updateBegun rq, {}) := by
  simp [ownUpdateBegin, hrom, hfree, hslot, Nat.not_lt.mpr hsize, yes, State.updateBegun]

theorem State.updateBegun_target (s : State) (rq : Request) : (s.updateBegun rq).target (u8At rq.payload 0)
    = (s.target (u8At rq.payload 0)).updSlot (s.target (u8At rq.payload 0)).inactive (fun _ => {}) :=
  s.target_updTarget_same _ fun x => x.updSlot x.inactive fun _ => {}

/-- An update command of the route that staged the image, outside a commit. -/
theorem withStaging_of_staged {rq : Request} {s : State} {g : Staging} (hstaged : s.mgmt.staging = some g) (hroute : g.route = rq.route.key)
    (hopen : g.commit = none) (own : Staging → State × Ans) : withStaging rq s own = own g := by
  simp [withStaging, State.stagedBy, hstaged, hroute, hopen]

/-- A number of n bytes. -/
theorem leNat_lt (l : List Byte) : leNat l < 256 ^ l.length := by
  induction l with
  | nil => simp [leNat]
  | cons b l ih =>
    have hb := b.isLt
    simp only [leNat, List.length_cons, pow_succ]
    omega

theorem u32At_lt (p : List Byte) (i : Nat) : u32At p i < 4294967296 := by
  have hlen : ((p.drop i).take 4).length ≤ 4 := by simp
  exact (leNat_lt _).trans_le (Nat.pow_le_pow_right (by decide) hlen)

/-- The security version that the header gives, as a number. -/
theorem Staging.secver_toNat (g : Staging) : g.secver.toNat = u32At g.bytes 20 := by
  rw [Staging.secver, BitVec.toNat_ofNat]
  exact Nat.mod_eq_of_lt (u32At_lt _ _)

/-- What a commit asks of an image: R281, R611, R613, and for a stored configuration R194 and R488. -/
theorem State.commitVerdict_eq_ok_iff (s : State) (g : Staging) (authentic : Bool) (cfg : StoredCfg) :
    s.commitVerdict g authentic cfg = .ok ↔
      (g.got = g.size && (g.target ≠ 1 || (cfg.securePins.all pinCode && s.cfgOk cfg)) && authentic && g.headerOk && g.declaresB2
        && decide ((s.target g.target).minSec.toNat ≤ u32At g.bytes 20)) = true := by
  unfold State.commitVerdict
  rw [Staging.secver_toNat]
  split
  next hgot => simp [hgot]
  next hgot =>
    split
    next hpins => simp_all
    next hpins =>
      split
      next hdenied => grind
      next hdenied => grind

theorem State.amindUp_of_mode {s : State} (hmode : s.aon.mode = .run ∨ s.aon.mode = .part ∨ s.aon.mode = .recovery)
    (hhold : s.supply.holdup = false) : s.amindUp = true := by
  rcases hmode with h | h | h <;> simp [State.amindUp, h, hhold]

/-- The slot that a committed image takes (R281, R611, R612). -/
def Staging.committed (g : Staging) (ec pq : List Byte) : Slot :=
  { st := .pending, authentic := true, secver := g.secver, version := g.version, signer := g.signer
    ownerEc := if g.target = 1 then ec else [], ownerPq := if g.target = 1 then pq else [] }

/-- The inactive slot of the staged target takes the image, and nothing is staged any more. -/
def State.slotCommitted (s : State) (g : Staging) (ec pq : List Byte) : State :=
  (s.onMgmt (fun m => { m with staging := none })).updTarget g.target (fun t => t.updSlot t.inactive (fun _ => g.committed ec pq))

/-- The state before the notice of a committed image: a stored configuration brings the service record and the defaults of the loads
with it. -/
def State.imageCommitted (s : State) (g : Staging) (ec pq : List Byte) (cfg : StoredCfg) (r : SvcRecord) : State :=
  if g.target = 1 then ((s.slotCommitted g ec pq).svcWrite r).loadDefaults cfg else s.slotCommitted g ec pq

/-- The end of a commit without a restart. -/
theorem exec_updateCommitComplete {s : State} {g : Staging} {q : U16} {ec pq : List Byte} {cfg : StoredCfg} {r : SvcRecord}
    (hstaged : s.mgmt.staging = some g) (hcommit : g.commit = some (false, q)) (hup : s.amindUp = true) :
    Does (.updateCommitComplete ec pq cfg r) s
      (if s.commitVerdict g (s.authentic g ec pq) cfg = .ok then (s.imageCommitted g ec pq cfg r).complete g.route q .ok 0 []
        else (s.onMgmt (fun m => { m with staging := none })).complete g.route q (s.commitVerdict g (s.authentic g ec pq) cfg) 0 []) := by
  simp only [Does, exec, execUpdateCommitComplete, hstaged, hcommit, hup, not_true_eq_false, if_false, fin,
    State.imageCommitted, State.slotCommitted, Staging.committed]
  by_cases h : s.commitVerdict g (s.authentic g ec pq) cfg = .ok <;> simp [h]

section ImageCommitted

variable (s : State) (g : Staging) (ec pq : List Byte) (cfg : StoredCfg) (r : SvcRecord)

theorem State.svcWrite_of_newB {s : State} (h : s.mgmt.svcNewB = true) : s.svcWrite r =
    { s with mgmt := { s.mgmt with svcA := some r.taken, svcNewB := false } } := by
  simp [State.svcWrite, State.onMgmt, h]

theorem State.svcWrite_of_newA {s : State} (h : s.mgmt.svcNewB = false) : s.svcWrite r =
    { s with mgmt := { s.mgmt with svcB := some r.taken, svcNewB := true } } := by
  simp [State.svcWrite, State.onMgmt, h]

/-- Beside what the slot takes, a committed image changes the copies of the service record and the defaults of the loads alone. -/
theorem State.imageCommitted_frame : s.imageCommitted g ec pq cfg r = { s.slotCommitted g ec pq with
    mgmt := { (s.slotCommitted g ec pq).mgmt with
      svcA := (s.imageCommitted g ec pq cfg r).mgmt.svcA, svcB := (s.imageCommitted g ec pq cfg r).mgmt.svcB
      svcNewB := (s.imageCommitted g ec pq cfg r).mgmt.svcNewB }
    ps := (s.imageCommitted g ec pq cfg r).ps } := by
  unfold State.imageCommitted
  split
  next =>
    cases hnew : (s.slotCommitted g ec pq).mgmt.svcNewB with
    | true => rw [State.svcWrite_of_newB r hnew]; rfl
    | false => rw [State.svcWrite_of_newA r hnew]; rfl
  next => rfl

theorem State.imageCommitted_slot :
    ((s.imageCommitted g ec pq cfg r).target g.target).slot (s.target g.target).inactive = g.committed ec pq := by
  have htarget : (s.imageCommitted g ec pq cfg r).target g.target = (s.slotCommitted g ec pq).target g.target := by
    rw [State.imageCommitted_frame]
    rfl
  rw [htarget, State.slotCommitted, State.target_updTarget_same]
  exact Target.slot_updSlot_same _ _ _

/-- A commit of another target leaves the service record and the power stage. -/
theorem State.imageCommitted_of_other (h : g.target ≠ 1) : s.imageCommitted g ec pq cfg r = s.slotCommitted g ec pq := if_neg h

theorem State.imageCommitted_ps (h : g.target = 1) :
    (s.imageCommitted g ec pq cfg r).ps = { s.ps with nv := cfg.io.loads, nvAmb := cfg.io.wireAmb } := by
  rw [State.imageCommitted, if_pos h]
  rfl

theorem State.imageCommitted_svcA (h : g.target = 1) (hnew : s.mgmt.svcNewB = true) :
    (s.imageCommitted g ec pq cfg r).mgmt.svcA = some r.taken ∧ (s.imageCommitted g ec pq cfg r).mgmt.svcB = s.mgmt.svcB
      ∧ (s.imageCommitted g ec pq cfg r).mgmt.svcNewB = false := by
  rw [State.imageCommitted, if_pos h, State.svcWrite_of_newB r (s := s.slotCommitted g ec pq) hnew]
  exact ⟨rfl, rfl, rfl⟩

theorem State.imageCommitted_svcB (h : g.target = 1) (hnew : s.mgmt.svcNewB = false) :
    (s.imageCommitted g ec pq cfg r).mgmt.svcB = some r.taken ∧ (s.imageCommitted g ec pq cfg r).mgmt.svcA = s.mgmt.svcA
      ∧ (s.imageCommitted g ec pq cfg r).mgmt.svcNewB = true := by
  rw [State.imageCommitted, if_pos h, State.svcWrite_of_newA r (s := s.slotCommitted g ec pq) hnew]
  exact ⟨rfl, rfl, rfl⟩

end ImageCommitted

section UpdateRequests

variable {rq : Request} {s : State} {g : Staging}

theorem replies_updateBegin
    (htakes : s.takes specUpdateBegin rq (fun p => p.length = 8 && u8At p 0 ≤ 3 && u8At p 1 = 0 && u16At p 2 = 0) false)
    (hrom : (s.heard rq).aon.bootRom = false) (hfree : (s.heard rq).mgmt.staging = none)
    (hslot : (((s.heard rq).target (u8At rq.payload 0)).slot ((s.heard rq).target (u8At rq.payload 0)).inactive).st ≠ .pending)
    (hsize : u32At rq.payload 4 ≤ slotSize (u8At rq.payload 0)) :
    Replies (.updateBegin rq) rq s ((s.heard rq).updateBegun rq) {} :=
  replies_of_own (by simp only [exec, execUpdateBegin]) htakes (ownUpdateBegin_of_free hrom hfree hslot hsize)

theorem replies_updateData (htakes : s.takes (s.specUpdate 0x0821 rq) rq (fun p => 4 ≤ p.length) false)
    (hstaged : (s.heard rq).mgmt.staging = some g) (hroute : g.route = rq.route.key) (hopen : g.commit = none)
    (hnext : u32At rq.payload 0 = g.got) :
    Replies (.updateData rq) rq s ((s.heard rq).onMgmt (fun m => { m with
      staging := some { g with got := g.got + (rq.payload.length - 4), bytes := g.bytes ++ rq.payload.drop 4 } })) {} := by
  refine replies_of_own (own := ownUpdateData rq) (by simp only [exec, execUpdateData]) htakes ?_
  rw [ownUpdateData, withStaging_of_staged hstaged hroute hopen]
  simp [hnext, yes]

theorem replies_updateData_elsewhere (htakes : s.takes (s.specUpdate 0x0821 rq) rq (fun p => 4 ≤ p.length) false)
    (hstaged : (s.heard rq).mgmt.staging = some g) (hroute : g.route = rq.route.key) (hopen : g.commit = none)
    (hnext : u32At rq.payload 0 ≠ g.got) : Replies (.updateData rq) rq s (s.heard rq) { st := .badParam } := by
  refine replies_of_own (own := ownUpdateData rq) (by simp only [exec, execUpdateData]) htakes ?_
  rw [ownUpdateData, withStaging_of_staged hstaged hroute hopen, if_pos hnext, no]

theorem replies_updateCommit (htakes : s.takes (s.specUpdate 0x0822 rq) rq (fun p => p.length = 2 && u8At p 0 ≤ 1 && u8At p 1 = 0) false)
    (hstaged : (s.heard rq).mgmt.staging = some g) (hroute : g.route = rq.route.key) (hopen : g.commit = none) :
    Replies (.updateCommit rq) rq s ((s.heard rq).onMgmt (fun m => { m with
      staging := some { g with commit := some (u8At rq.payload 0 = 1, rq.seq) } })) { st := .pending, reason := 0 } := by
  refine replies_of_own (own := ownUpdateCommit rq) (by simp only [exec, execUpdateCommit]) htakes ?_
  rw [ownUpdateCommit, withStaging_of_staged hstaged hroute hopen, wait]

theorem replies_updateAbort (htakes : s.takes (s.specUpdate 0x0823 rq) rq (fun p => p = []) false)
    (hstaged : (s.heard rq).mgmt.staging = some g) (hroute : g.route = rq.route.key) (hopen : g.commit = none) :
    Replies (.updateAbort rq) rq s ((s.heard rq).onMgmt (fun m => { m with staging := none })) {} := by
  refine replies_of_own (own := ownUpdateAbort rq) (by simp only [exec, execUpdateAbort]) htakes ?_
  rw [ownUpdateAbort, withStaging_of_staged hstaged hroute hopen, yes]

end UpdateRequests

/-- From the transition out of BLANK onward an image of another signer does not authenticate (R612). -/
theorem State.authentic_of_other_signer {s : State} {g : Staging} {h : List Byte} (ec pq : List Byte) (htarget : g.target ≠ 0)
    (howner : s.aon.ownerKey = some h) (hsigner : g.signer ≠ h) : s.authentic g ec pq = false := by
  simp [State.authentic, htarget, howner, hsigner.symm]

/-! ### The life cycle -/

theorem State.lifeSigned_of_no_owner {s : State} (h : s.ownerSlot = none) (b : Nat) (auth : List Byte) : s.lifeSigned b auth = false := by
  simp [State.lifeSigned, h]

theorem lifeStep_iff (a b : Nat) : lifeStep a b = true ↔
    (a, b) ∈ [(0, 1), (0, 2), (0, 4), (1, 2), (1, 4), (2, 3), (2, 4), (3, 2), (3, 4)] := List.contains_iff_mem

theorem ownLifecycleSet_of_unlisted {rq : Request} {s : State} (h : lifeStep s.aon.lifecycle.toNat (u8At rq.payload 0) = false) :
    ownLifecycleSet rq s = (s, { st := .badParam }) := by
  simp [ownLifecycleSet, h, no]

theorem ownLifecycleSet_of_listed {rq : Request} {s : State} (h : lifeStep s.aon.lifecycle.toNat (u8At rq.payload 0) = true)
    (hfree : s.aon.lifePending = none) : ownLifecycleSet rq s =
      (if s.lifeSigned (u8At rq.payload 0) (rq.payload.drop 4) then s.onAon (fun a => { a with
          lifePending := some (BitVec.ofNat 3 (u8At rq.payload 0), rq.route.key, rq.seq) }) else s,
        if s.lifeSigned (u8At rq.payload 0) (rq.payload.drop 4) then { st := .pending, reason := 0 } else { st := .denied }) := by
  by_cases hsigned : s.lifeSigned (u8At rq.payload 0) (rq.payload.drop 4) <;> simp [ownLifecycleSet, h, hfree, hsigned, no, wait]

/-- A pulse on RST_REQ_N, also one that goes on, leaves the pin low, and beside the pin and the cause of the reset to come
all is as before. -/
theorem State.rstPulse_frame (s : State) (c : ReqCause) : s.rstPulse c =
    { s with supply := { s.supply with rstReq := true }, aon := { s.aon with nextReq := (s.rstPulse c).aon.nextReq } } := by
  unfold State.rstPulse
  split
  next hlow =>
    have hsupply : s.supply = { s.supply with rstReq := true } := by rw [← hlow]
    rw [← hsupply]
  next => rfl

/-- Amind's pulse: its entry alone comes before it. -/
theorem State.amindPulse_eq (s : State) (c : ReqCause) (code issuer : Nat) :
    ∃ (d : ReqCause) (t : State), s.amindPulse c code issuer = t.rstPulse d ∧ s.mgmtOnly t ∧ s.recordsOnly t :=
  ⟨_, _, rfl,
    State.mgmtOnly_after (State.commitBuffer_mgmtOnly _)
      (State.mgmtOnly_after (State.ledgerPut_mgmtOnly _ _ _ _ _) s.commitBuffer_mgmtOnly),
    State.recordsOnly_after (State.commitBuffer_recordsOnly _)
      (State.recordsOnly_after (State.ledgerPut_recordsOnly _ _ _ _ _) s.commitBuffer_recordsOnly)⟩

section AmindPulse

variable (s : State) (c : ReqCause) (code issuer : Nat)

theorem State.amindPulse_supply : (s.amindPulse c code issuer).supply = { s.supply with rstReq := true } := by
  obtain ⟨d, t, heq, hmgmt, -⟩ := s.amindPulse_eq c code issuer
  rw [heq, State.rstPulse_frame, State.mgmtOnly_supply hmgmt]

theorem State.amindPulse_aon : (s.amindPulse c code issuer).aon = { s.aon with nextReq := (s.amindPulse c code issuer).aon.nextReq } := by
  obtain ⟨d, t, heq, hmgmt, -⟩ := s.amindPulse_eq c code issuer
  rw [heq, State.rstPulse_frame, State.mgmtOnly_aon hmgmt]

theorem State.amindPulse_ce : (s.amindPulse c code issuer).ce = s.ce := by
  obtain ⟨d, t, heq, hmgmt, -⟩ := s.amindPulse_eq c code issuer
  rw [heq, State.rstPulse_frame, State.mgmtOnly_ce hmgmt]

theorem State.amindPulse_dram : (s.amindPulse c code issuer).core.dram = s.core.dram := by
  obtain ⟨d, t, heq, hmgmt, -⟩ := s.amindPulse_eq c code issuer
  rw [heq, State.rstPulse_frame, State.mgmtOnly_dram hmgmt]

theorem State.amindPulse_harts : (s.amindPulse c code issuer).core.harts = s.core.harts := by
  obtain ⟨d, t, heq, hmgmt, -⟩ := s.amindPulse_eq c code issuer
  rw [heq, State.rstPulse_frame, State.mgmtOnly_core hmgmt]

theorem State.amindPulse_targets : (s.amindPulse c code issuer).mgmt.targets = s.mgmt.targets := by
  obtain ⟨d, t, heq, -, hrecords⟩ := s.amindPulse_eq c code issuer
  rw [heq, State.rstPulse_frame, State.recordsOnly_targets hrecords]

end AmindPulse

/-- The state after the entry of a transition, which is committed before all else (R618). -/
def State.lifeRecorded (s : State) (b : BitVec 3) : State :=
  (s.log .lifecycleChange
    ([s.aon.lifecycle.setWidth 8, b.setWidth 8, 0, 0] ++ leBytes 4 (s.aon.lifeCount + 1).toNat)).commitBuffer

theorem State.lifeRecorded_mgmtOnly (s : State) (b : BitVec 3) : s.mgmtOnly (s.lifeRecorded b) :=
  State.mgmtOnly_after (State.commitBuffer_mgmtOnly _) (s.log_mgmtOnly _ _)

theorem State.lifeRecorded_recordsOnly (s : State) (b : BitVec 3) : s.recordsOnly (s.lifeRecorded b) :=
  State.recordsOnly_after (State.commitBuffer_recordsOnly _) (s.log_recordsOnly _ _)

/-- The new life-cycle state and its count, with SCOUNT cleared in every hart (R192, R618, R620). -/
def State.lifeChanged (s : State) (b : BitVec 3) : State :=
  ((s.lifeRecorded b).onAon (fun a => { a with
    lifecycle := b, lifeCount := s.aon.lifeCount + 1, ownerKey := if a.lifecycle = 0 then s.ownerSlot.map Slot.signer else a.ownerKey
    lifePending := none })).onCore (fun c => { c with harts := c.harts.map (fun e => (e.1, { e.2 with scount := false })) })

/-- The state before the notice of a transition: in RETIRED without the harts' images, and without the key of DRAM (R563, R621). -/
def State.transitioned (s : State) (b : BitVec 3) : State :=
  (if b = 4 then (s.lifeChanged b).slotsErased else s.lifeChanged b).discardDramKey

theorem exec_lifecycleTransitionCommit {s : State} {b : BitVec 3} {key : Nat} {q : U16} (hpending : s.aon.lifePending = some (b, key, q))
    (hup : s.amindUp = true) :
    Does .lifecycleTransitionCommit s (((s.transitioned b).complete key q .ok 0 []).amindPulse .cmd 4 Issuer.svc.code) := by
  simp only [Does, exec, execLifecycleTransitionCommit, hpending, hup, not_true_eq_false, if_false, fin]
  rfl

theorem State.slotsErased_frame (s : State) :
    s.slotsErased = { s with mgmt := { s.mgmt with targets := s.slotsErased.mgmt.targets } } := rfl

theorem State.slotsErased_target {n : Nat} (h : n = 2 ∨ n = 3) (s : State) :
    (s.slotsErased.target n).slotA = {} ∧ (s.slotsErased.target n).slotB = {} := by
  simp only [State.slotsErased, List.foldl_cons, List.foldl_nil]
  rcases h with rfl | rfl
  · rw [State.target_updTarget_ne _ _ (by decide), State.target_updTarget_same]
    exact ⟨rfl, rfl⟩
  · rw [State.target_updTarget_same]
    exact ⟨rfl, rfl⟩

theorem State.lifeChanged_supply (s : State) (b : BitVec 3) : (s.lifeChanged b).supply = s.supply :=
  (State.mgmtOnly_supply (s.lifeRecorded_mgmtOnly b) :)

theorem State.lifeChanged_aon (s : State) (b : BitVec 3) : (s.lifeChanged b).aon = { s.aon with
    lifecycle := b, lifeCount := s.aon.lifeCount + 1
    ownerKey := if s.aon.lifecycle = 0 then s.ownerSlot.map Slot.signer else s.aon.ownerKey, lifePending := none } := by
  simp only [State.lifeChanged, State.onCore, State.onAon, State.mgmtOnly_aon (s.lifeRecorded_mgmtOnly b)]

theorem State.lifeChanged_scount (s : State) (b : BitVec 3) (h : Nat) : ((s.lifeChanged b).hart h).scount = false :=
  congrArg Hart.scount (Tab.get_map (s.lifeRecorded b).core.harts (fun k => { k with scount := false }) h {} rfl)

theorem State.lifeChanged_targets (s : State) (b : BitVec 3) : (s.lifeChanged b).mgmt.targets = s.mgmt.targets :=
  (State.recordsOnly_targets (s.lifeRecorded_recordsOnly b) :)

/-- Beside the targets, a transition leaves what it leaves without the erasure of RETIRED. -/
theorem State.transitioned_frame (s : State) (b : BitVec 3) : s.transitioned b = (s.lifeChanged b).discardDramKey.onMgmt (fun m =>
    { m with targets := (s.transitioned b).mgmt.targets }) := by
  unfold State.transitioned
  generalize s.lifeChanged b = t
  split
  next => rw [t.slotsErased_frame]; rfl
  next => rfl

theorem State.transitioned_supply (s : State) (b : BitVec 3) : (s.transitioned b).supply = s.supply := by
  rw [State.transitioned_frame, ← s.lifeChanged_supply b]
  rfl

theorem State.transitioned_aon (s : State) (b : BitVec 3) : (s.transitioned b).aon = { s.aon with
    lifecycle := b, lifeCount := s.aon.lifeCount + 1
    ownerKey := if s.aon.lifecycle = 0 then s.ownerSlot.map Slot.signer else s.aon.ownerKey, lifePending := none } := by
  rw [State.transitioned_frame, ← s.lifeChanged_aon b]
  rfl

theorem State.transitioned_dram (s : State) (b : BitVec 3) : (s.transitioned b).core.dram = [] := by
  rw [State.transitioned_frame]
  rfl

theorem State.transitioned_ime (s : State) (b : BitVec 3) : (s.transitioned b).ce.ime = false := by
  rw [State.transitioned_frame]
  rfl

theorem State.transitioned_scount (s : State) (b : BitVec 3) (h : Nat) : ((s.transitioned b).hart h).scount = false := by
  rw [State.transitioned_frame, ← s.lifeChanged_scount b h]
  rfl

theorem State.transitioned_target_of_retired {s : State} {n : Nat} (h : n = 2 ∨ n = 3) :
    ((s.transitioned 4).target n).slotA = {} ∧ ((s.transitioned 4).target n).slotB = {} := by
  rw [State.transitioned, if_pos rfl]
  exact State.slotsErased_target h _

theorem State.transitioned_targets {s : State} {b : BitVec 3} (h : b ≠ 4) : (s.transitioned b).mgmt.targets = s.mgmt.targets := by
  rw [State.transitioned, if_neg h, ← s.lifeChanged_targets b]
  rfl

/-! ### The debug port -/

theorem ownDebugOpen_of_closed {rq : Request} {s : State} (hopen : u8At rq.payload 0 = 1) (hclosed : s.core.dbg.opened = none) :
    ownDebugOpen rq s
      = ((s.onCore (fun c => { c with dbg := { c.dbg with opened := some rq.route.key } })).log .debugOpened [1], {}) := by
  simp [ownDebugOpen, hopen, hclosed, yes]

theorem ownDebugOpen_of_close {rq : Request} {s : State} (hclose : u8At rq.payload 0 = 0) : ownDebugOpen rq s = (s.debugClose, {}) := by
  simp [ownDebugOpen, hclose, yes]

/-- The pair runs on when the port closes (R164). -/
def Pair.resumed (p : Pair) : Pair := { p with haltReq := false, st := if p.st = .halted then .running else p.st }

theorem Pair.resumed_st_ne (p : Pair) : p.resumed.st ≠ .halted := by
  unfold Pair.resumed
  split <;> simp_all

/-- The port closed, before its entry. -/
def State.portClosed (s : State) : State :=
  s.onCore (fun c => { c with dbg := { c.dbg with opened := none }, pairs := c.pairs.map (fun e => (e.1, e.2.resumed)) })

theorem State.portClosed_pair (s : State) (p : Nat) : s.portClosed.pair p = (s.pair p).resumed :=
  Tab.get_map s.core.pairs Pair.resumed p {} rfl

theorem State.debugClose_of_open {s : State} (h : s.core.dbg.opened ≠ none) : s.debugClose = s.portClosed.log .debugOpened [0] :=
  if_pos (Option.isSome_iff_ne_none.mpr h)

theorem State.debugClose_opened (s : State) : s.debugClose.core.dbg.opened = none := by
  by_cases h : s.core.dbg.opened = none
  · rw [State.debugClose, if_neg (by simp [h]), h]
  · rw [State.debugClose_of_open h, State.mgmtOnly_core (State.log_mgmtOnly _ _ _)]
    rfl

theorem State.debugClose_pair {s : State} (h : s.core.dbg.opened ≠ none) (p : Nat) :
    s.debugClose.pair p = { (s.pair p).resumed with msiDrop := (s.debugClose.pair p).msiDrop } := by
  rw [State.debugClose_of_open h, ← State.portClosed_pair]
  exact s.portClosed.log_dropsOnly _ _ p

end Sys2Proof.Machine

namespace Sys2Proof.Proofs

open Sys2Proof Sys2Proof.Machine

/-- Settles O25: each request by its command's own part on the state that heard it, the two commits by the state before their notice, of
which the notice and the pulse leave all that the statement names. -/
theorem updatesAndLifeCycle : Obligations.UpdatesAndLifeCycle := by
  refine ⟨⟨?begin, ?data, ?commit, ?commitEnd, ?signer, ?abort⟩,
    ⟨?unlisted, ?listed, ?noOwner, ?lifeEnd, ?debugOpens, ?debugCloses⟩⟩
  case begin =>
    rintro rq s u rfl htakes hroute hrom hfree hslot hsize
    refine ⟨_, replies_updateBegin htakes hrom hfree hslot hsize, ?_, ?_, ?_, rfl⟩
    · simp [State.updateBegun, State.onMgmt, hroute, Route.key]
    · rw [State.updateBegun_target, Target.slot_updSlot_same]
    · rw [State.updateBegun_target, Target.slot_updSlot_not]
  case data =>
    rintro rq s u g rfl htakes hroute hstaged howner hopen
    have hkey : g.route = rq.route.key := by rw [howner, hroute]; rfl
    exact ⟨replies_updateData htakes hstaged hkey hopen, replies_updateData_elsewhere htakes hstaged hkey hopen⟩
  case commit =>
    rintro rq s u g rfl htakes hroute hstaged howner hopen
    exact replies_updateCommit htakes hstaged (by rw [howner, hroute]; rfl) hopen
  case abort =>
    rintro rq s u g rfl htakes hroute hstaged howner hopen
    exact replies_updateAbort htakes hstaged (by rw [howner, hroute]; rfl) hopen
  case signer => exact fun s g ec pq h htarget howner hsigner => State.authentic_of_other_signer ec pq htarget howner hsigner
  case commitEnd =>
    intro s g q ec pq cfg r ok hstaged hcommit hmode hhold hok
    have hup := State.amindUp_of_mode (hmode.imp_right .inl) hhold
    have hdoes := exec_updateCommitComplete (ec := ec) (pq := pq) (cfg := cfg) (r := r) hstaged hcommit hup
    have hverdict := s.commitVerdict_eq_ok_iff g (s.authentic g ec pq) cfg
    rw [← hok] at hverdict
    cases ok with
    | true =>
      rw [if_pos (hverdict.mpr rfl)] at hdoes
      have hmgmt := (s.imageCommitted g ec pq cfg r).complete_mgmtOnly g.route q .ok 0 []
      have hrecords := (s.imageCommitted g ec pq cfg r).complete_recordsOnly g.route q .ok 0 []
      have hframe := s.imageCommitted_frame g ec pq cfg r
      refine ⟨_, hdoes, ?_, fun _ => ⟨?_, fun hother => ?_, fun hcfg => ⟨?_, fun hnew => ?_, fun hnew => ?_⟩⟩,
        fun h => ?_, ?_, ?_, ?_⟩
      · rw [State.recordsOnly_staging hrecords, hframe]; rfl
      · rw [State.recordsOnly_target hrecords, State.imageCommitted_slot]; rfl
      · rw [State.recordsOnly_svcA hrecords, State.recordsOnly_svcB hrecords, State.mgmtOnly_ps hmgmt,
          State.imageCommitted_of_other _ _ _ _ _ _ hother]
        exact ⟨rfl, rfl, rfl⟩
      · rw [State.mgmtOnly_ps hmgmt, State.imageCommitted_ps _ _ _ _ _ _ hcfg]
      · rw [State.recordsOnly_svcA hrecords, State.recordsOnly_svcB hrecords, State.recordsOnly_svcNewB hrecords]
        exact State.imageCommitted_svcA _ _ _ _ _ _ hcfg hnew
      · rw [State.recordsOnly_svcA hrecords, State.recordsOnly_svcB hrecords, State.recordsOnly_svcNewB hrecords]
        exact State.imageCommitted_svcB _ _ _ _ _ _ hcfg hnew
      · exact absurd h (by decide)
      · rw [State.recordsOnly_svc hrecords, hframe]; rfl
      · rw [State.mgmtOnly_supply hmgmt, hframe]; rfl
      · rw [State.mgmtOnly_aon hmgmt, hframe]; rfl
    | false =>
      rw [if_neg (by simp [hverdict])] at hdoes
      have hmgmt := (s.onMgmt (fun m => { m with staging := none })).complete_mgmtOnly g.route q
        (s.commitVerdict g (s.authentic g ec pq) cfg) 0 []
      have hrecords := (s.onMgmt (fun m => { m with staging := none })).complete_recordsOnly g.route q
        (s.commitVerdict g (s.authentic g ec pq) cfg) 0 []
      exact ⟨_, hdoes, State.recordsOnly_staging hrecords, fun h => absurd h (by decide),
        fun _ => ⟨(State.recordsOnly_targets hrecords :), (State.recordsOnly_svcA hrecords :), (State.recordsOnly_svcB hrecords :),
          (State.mgmtOnly_ps hmgmt :)⟩,
        (State.recordsOnly_svc hrecords :), (State.mgmtOnly_supply hmgmt :), (State.mgmtOnly_aon hmgmt :)⟩
  case unlisted =>
    intro rq s htakes hunlisted
    refine replies_of_own (own := ownLifecycleSet rq) (by simp only [exec, execLifecycleSet]) htakes (ownLifecycleSet_of_unlisted ?_)
    rwa [← Bool.not_eq_true, lifeStep_iff]
  case listed =>
    rintro rq s htakes ⟨hlisted, hfree⟩
    exact replies_of_own (own := ownLifecycleSet rq) (by simp only [exec, execLifecycleSet]) htakes
      (ownLifecycleSet_of_listed ((lifeStep_iff _ _).mpr hlisted) hfree)
  case noOwner => exact fun s b auth h => State.lifeSigned_of_no_owner h b auth
  case lifeEnd =>
    intro s b key q hpending hmode hhold
    have hmgmt := (s.transitioned b).complete_mgmtOnly key q .ok 0 []
    have hrecords := (s.transitioned b).complete_recordsOnly key q .ok 0 []
    have haon := ((s.transitioned b).complete key q .ok 0 []).amindPulse_aon .cmd 4 Issuer.svc.code
    rw [State.mgmtOnly_aon hmgmt, State.transitioned_aon] at haon
    refine ⟨_, exec_lifecycleTransitionCommit hpending (State.amindUp_of_mode hmode hhold), congrArg Aon.lifecycle haon,
      congrArg Aon.lifeCount haon, congrArg Aon.ownerKey haon, congrArg Aon.lifePending haon, ?_, ?_, ?_, ?_, ?_, ?_⟩
    · rw [State.amindPulse_ce, State.mgmtOnly_ce hmgmt, State.transitioned_ime]
    · rw [State.amindPulse_dram, State.mgmtOnly_dram hmgmt, State.transitioned_dram]
    · intro h
      rw [State.hart, State.amindPulse_harts, State.mgmtOnly_core hmgmt]
      exact s.transitioned_scount b h
    · rw [State.amindPulse_supply, State.mgmtOnly_supply hmgmt, State.transitioned_supply]
    · rintro rfl n hn
      rw [State.target, State.amindPulse_targets, State.recordsOnly_targets hrecords]
      exact State.transitioned_target_of_retired hn
    · intro hb
      rw [State.amindPulse_targets, State.recordsOnly_targets hrecords, State.transitioned_targets hb]
  case debugOpens =>
    rintro rq s u rfl htakes hopen hclosed
    exact replies_of_own (own := ownDebugOpen rq) (by simp only [exec, execDebugOpen]) htakes (ownDebugOpen_of_closed hopen hclosed)
  case debugCloses =>
    rintro rq s u rfl htakes hclose
    refine ⟨replies_of_own (own := ownDebugOpen rq) (by simp only [exec, execDebugOpen]) htakes (ownDebugOpen_of_close hclose),
      State.debugClose_opened _, fun p hopened => ?_⟩
    rw [State.debugClose_pair hopened]
    exact ⟨rfl, Pair.resumed_st_ne _⟩

end Sys2Proof.Proofs

/-! SUPPORT. The content of the two memories: one lemma for each function of the model that leaves it, in the order of the model's
files; for the few that write it, that its canonical form stays; and from them the same for every command and every step. -/

namespace Sys2Proof.Machine

open Sys2Proof

/-! ### Shapes -/

/-- The content of the two memories. -/
def Core.mem (c : Core) : List Host.Cell × List Host.Cell := (c.dram, c.sram)

/-- The canonical form of the two memories. -/
def MemOk (m : List Host.Cell × List Host.Cell) : Prop := Memory.rising m.1 ∧ Memory.wf m.2

@[simp] theorem State.memOk_iff {s : State} : s.memOk ↔ MemOk s.core.mem := Iff.rfl

theorem State.memOk.mem {s : State} (h : s.memOk) : MemOk s.core.mem := h

@[simp] theorem Core.mem_eta (c : Core) : (c.dram, c.sram) = c.mem := rfl

@[simp] theorem Core.mem_mk (a1 a2 a3 a4 a5 a6 a7 a8 a9 a10 a11 a12 a13 a14 a15 a16 a17 a18 d e r l f) :
    (Core.mk a1 a2 a3 a4 a5 a6 a7 a8 a9 a10 a11 a12 a13 a14 a15 a16 a17 a18 d e r l f).mem = (d, r) := Prod.ext rfl rfl

@[simp] theorem Core.mem_ite {c : Prop} [Decidable c] (a b : Core) :
    (if c then a else b).mem = if c then a.mem else b.mem := apply_ite Core.mem _ _ _

@[simp] theorem State.mem_ite {c : Prop} [Decidable c] (a b : State) :
    (if c then a else b).core.mem = if c then a.core.mem else b.core.mem :=
  apply_ite (fun t : State => t.core.mem) _ _ _

/-- A change of the state leaves both memories. A lemma that takes a change takes this as its hypothesis: behind the name `simp` can
discharge it with the update laws that hold by `rfl`, which it cannot for the bare equation. -/
def KeepsMem (f : State → State) : Prop := ∀ t, (f t).core.mem = t.core.mem

@[simp] theorem keepsMem_iff {f : State → State} : KeepsMem f ↔ ∀ t, (f t).core.mem = t.core.mem := Iff.rfl

@[simp] theorem State.foldl_mem {α : Type} {f : State → α → State} (hf : ∀ a, KeepsMem (fun t => f t a)) (l : List α)
    (s : State) : (l.foldl f s).core.mem = s.core.mem := by
  induction l generalizing s with
  | nil => rfl
  | cons a l ih => rw [List.foldl_cons, ih, hf a s]

theorem State.foldl_fst_mem {α β : Type} {q : List Host.Cell × List Host.Cell} {f : State × β → α → State × β}
    (hf : ∀ p a, p.1.core.mem = q → (f p a).1.core.mem = q) (l : List α) {p : State × β} (hp : p.1.core.mem = q) :
    (l.foldl f p).1.core.mem = q :=
  List.foldlRecOn l f hp (fun p hp a _ => hf p a hp)

@[simp] theorem MemOk.ite_iff {c : Prop} [Decidable c] {a b : List Host.Cell × List Host.Cell} :
    MemOk (if c then a else b) ↔ if c then MemOk a else MemOk b := by split <;> rfl

/-- A change of the state keeps the canonical form of the memories. -/
def KeepsMemOk (f : State → State) : Prop := ∀ t, t.memOk → (f t).memOk

@[simp] theorem keepsMemOk_iff {f : State → State} : KeepsMemOk f ↔ ∀ t, MemOk t.core.mem → MemOk (f t).core.mem := Iff.rfl

theorem State.foldl_memOk {α : Type} {f : State → α → State} (hf : ∀ a, KeepsMemOk (fun t => f t a)) (l : List α)
    {s : State} (h : s.memOk) : (l.foldl f s).memOk :=
  List.foldlRecOn l f h (fun t ht a _ => hf a t ht)

theorem State.foldl_fst_memOk {α β : Type} {f : State × β → α → State × β}
    (hf : ∀ p a, p.1.memOk → (f p a).1.memOk) (l : List α) {p : State × β} (hp : p.1.memOk) :
    (l.foldl f p).1.memOk :=
  List.foldlRecOn l f hp (fun p hp a _ => hf p a hp)

/-- The next state of an outcome, if there is one, has its memories in canonical form. -/
def Out.MemOk (o : Out) : Prop := ∀ t, o = .next t → t.memOk

@[simp] theorem Out.next_memOk {t : State} : Out.MemOk (.next t) ↔ Machine.MemOk t.core.mem :=
  ⟨fun h => h t rfl, fun h _ e => by cases e; exact h⟩

@[simp] theorem Out.fault_memOk (r : Fault) : Out.MemOk (.fault r) := fun _ e => by cases e

@[simp] theorem Out.ite_memOk {c : Prop} [Decidable c] {a b : Out} :
    Out.MemOk (if c then a else b) ↔ if c then a.MemOk else b.MemOk := by split <;> rfl

@[simp] theorem noUnit_memOk : noUnit.MemOk := Out.fault_memOk _

/-! ### Updates of the core beside the memories -/

section CoreUpdates
variable (s : State) (n k : Nat)
@[simp] theorem State.settle_mem : s.settle.core.mem = s.core.mem := Prod.ext s.settle_dram s.settle_sram
@[simp] theorem State.updHart_mem (f : Hart → Hart) : (s.updHart n f).core.mem = s.core.mem := rfl
@[simp] theorem State.updPair_mem (f : Pair → Pair) : (s.updPair n f).core.mem = s.core.mem := rfl
@[simp] theorem State.updBlock_mem (f : Block → Block) : (s.updBlock n f).core.mem = s.core.mem := rfl
@[simp] theorem State.updReg_mem (f : Regulator → Regulator) : (s.updReg n f).core.mem = s.core.mem := rfl
@[simp] theorem State.updCluster_mem (f : Cluster → Cluster) : (s.updCluster n f).core.mem = s.core.mem := rfl
@[simp] theorem State.updImsic_mem (f : Imsic → Imsic) : (s.updImsic n k f).core.mem = s.core.mem := rfl
@[simp] theorem State.onDbg_mem (f : Dbg → Dbg) : (s.onDbg f).core.mem = s.core.mem := rfl
@[simp] theorem State.loadAll_mem (t : State) : (s.loadAll t).core.mem = t.core.mem := by
  rw [State.psOnly_core (s.loadAll_psOnly t)]
  rfl
end CoreUpdates

/-! ### State, interrupts, ledger, responses and handles (Machine/Ops.lean) -/

@[simp] theorem State.cntSw_mem (s : State) (p : Nat) (f : SwCnt → SwCnt) : (s.cntSw p f).core.mem = s.core.mem := by simp [State.cntSw]

@[simp] theorem State.cntEth_mem (s : State) (p : Nat) (f : EthCnt → EthCnt) : (s.cntEth p f).core.mem = s.core.mem := by
  simp [State.cntEth]

@[simp] theorem State.ethEvent_mem (s : State) (p k : Nat) : (s.ethEvent p k).core.mem = s.core.mem := by simp [State.ethEvent]

@[simp] theorem State.ethGlobal_mem (s : State) (k : Nat) : (s.ethGlobal k).core.mem = s.core.mem := by simp [State.ethGlobal]

@[simp] theorem State.swEvent_mem (s : State) (k : Nat) : (s.swEvent k).core.mem = s.core.mem := by simp [State.swEvent]

@[simp] theorem State.canEvent_mem (s : State) (n k : Nat) : (s.canEvent n k).core.mem = s.core.mem := by simp [State.canEvent]

@[simp] theorem State.psEvent_mem (s : State) (k : Nat) : (s.psEvent k).core.mem = s.core.mem := by simp [State.psEvent]

@[simp] theorem State.passEvent_mem (s : State) (k : Nat) : (s.passEvent k).core.mem = s.core.mem := by simp [State.passEvent]

@[simp] theorem State.msi_mem (s : State) (h file ident : Nat) : (s.msi h file ident).core.mem = s.core.mem := by
  unfold State.msi
  split
  · rfl
  · split <;> rfl

@[simp] theorem State.msiBind_mem (s : State) (b : Bind) (sec : Bool) (off : Nat) : (s.msiBind b sec off).core.mem = s.core.mem := by
  simp [State.msiBind]

@[simp] theorem State.fireS_mem (s : State) (i : Nat) : (s.fireS i).core.mem = s.core.mem := by simp [State.fireS]

@[simp] theorem State.fireM_mem (s : State) (i : Nat) : (s.fireM i).core.mem = s.core.mem := by simp [State.fireM]

@[simp] theorem State.pulse_mem (s : State) (i : Nat) : (s.pulse i).core.mem = s.core.mem := by simp [State.pulse]

@[simp] theorem State.ledgerPut_mem (s : State) (w : Writer) (code sev : Nat) (data : List Byte) :
    (s.ledgerPut w code sev data).core.mem = s.core.mem := by simp [State.ledgerPut]

@[simp] theorem State.ledgerBy_mem (s : State) (w : Writer) (e : Ev) (data : List Byte) :
    (s.ledgerBy w e data).core.mem = s.core.mem := by simp [State.ledgerBy]

@[simp] theorem State.log_mem (s : State) (e : Ev) (data : List Byte) : (s.log e data).core.mem = s.core.mem := by simp [State.log]

@[simp] theorem State.logAon_mem (s : State) (e : Ev) (data : List Byte) : (s.logAon e data).core.mem = s.core.mem := by
  simp [State.logAon]

@[simp] theorem State.aonDrops_mem (s : State) : s.aonDrops.core.mem = s.core.mem := by simp [State.aonDrops, State.aonDrop]

@[simp] theorem State.commitBuffer_mem (s : State) : s.commitBuffer.core.mem = s.core.mem := by simp [State.commitBuffer]

@[simp] theorem State.stallIrq_mem (s : State) (n : Nat) : (s.stallIrq n).core.mem = s.core.mem := by simp [State.stallIrq]

@[simp] theorem State.writeNotice_mem (s : State) (n : Nat) (r : Response) (st : StallState) :
    (s.writeNotice n r st).core.mem = s.core.mem := by simp [State.writeNotice]

@[simp] theorem State.stallNotice_mem (s : State) (n : Nat) (r : Response) : (s.stallNotice n r).core.mem = s.core.mem := by
  unfold State.stallNotice
  split <;> simp

@[simp] theorem State.svcSend_mem (s : State) (k : Nat) (r : Response) : (s.svcSend k r).core.mem = s.core.mem := by simp [State.svcSend]

@[simp] theorem State.ptrSend_mem (s : State) (o : Nat) (r : Response) : (s.ptrSend o r).core.mem = s.core.mem := by simp [State.ptrSend]

@[simp] theorem State.notice_mem (s : State) (key : Nat) (r : Response) : (s.notice key r).core.mem = s.core.mem := by simp [State.notice]

@[simp] theorem State.closePend_mem (s : State) (key : Nat) (p : PendRec) (st : Status) :
    (s.closePend key p st).core.mem = s.core.mem := by simp [State.closePend]

@[simp] theorem State.complete_mem (s : State) (key : Nat) (seq : U16) (st : Status) (handle : U32) (payload : List Byte) :
    (s.complete key seq st handle payload).core.mem = s.core.mem := by
  unfold State.complete
  split <;> simp

@[simp] theorem State.completeQuiet_mem (s : State) (key : Nat) (seq : U16) (st : Status) :
    (s.completeQuiet key seq st).core.mem = s.core.mem := by
  unfold State.completeQuiet
  split <;> simp

@[simp] theorem State.completeOpt_mem (s : State) (w : Option (Nat × U16)) (st : Status) (payload : List Byte) :
    (s.completeOpt w st payload).core.mem = s.core.mem := by
  unfold State.completeOpt
  split <;> simp

@[simp] theorem State.completeAll_mem (s : State) (ws : List (Nat × U16)) (st : Status) (payload : List Byte) :
    (s.completeAll ws st payload).core.mem = s.core.mem := by simp [State.completeAll]

@[simp] theorem State.unsolicited_mem (s : State) (key : Nat) (opcode : U16) (payload : List Byte) :
    (s.unsolicited key opcode payload).core.mem = s.core.mem := by simp [State.unsolicited]

@[simp] theorem State.feedPartner_mem (s : State) : s.feedPartner.core.mem = s.core.mem := by
  unfold State.feedPartner
  split <;> simp

@[simp] theorem State.respond_mem (s : State) (r : Route) (a : Response) : (s.respond r a).core.mem = s.core.mem := by
  unfold State.respond
  split <;> simp [State.udpSend]

@[simp] theorem State.setResult_mem (s : State) (key : Nat) (bytes : List Byte) : (s.setResult key bytes).core.mem = s.core.mem := by
  simp [State.setResult]

@[simp] theorem State.takeFree_mem (s : State) (k n : Nat) : (s.takeFree k n).core.mem = s.core.mem := by simp [State.takeFree]

@[simp] theorem State.hCreate_mem (s : State) (typ index owner : Nat) (sec : Bool) (b : Bind) (charge : Nat × Nat × Nat) :
    (s.hCreate typ index owner sec b charge).core.mem = s.core.mem := by simp [State.hCreate]

@[simp] theorem State.hFree_mem (s : State) (typ index : Nat) : (s.hFree typ index).core.mem = s.core.mem := by simp [State.hFree]

/-! ### The end of a command (Machine/Flags.lean) -/

@[simp] theorem State.raiseAgain_mem (s : State) (i : Nat) : (s.raiseAgain i).core.mem = s.core.mem := by simp [State.raiseAgain]

/-! ### Issue, wait and access (Machine/Admission.lean) -/

@[simp] theorem State.discarded_mem (s : State) (t : Attr) : (s.discarded t).core.mem = s.core.mem := by simp [State.discarded]

@[simp] theorem State.capture_mem (s : State) (t : Attr) (a : Nat) (wr : Bool) (r : Resp) :
    (s.capture t a wr r).core.mem = s.core.mem := by simp [State.capture]

@[simp] theorem State.answered_mem (s : State) (r : Resp) (d : List Byte) : (s.answered r d).core.mem = s.core.mem := by
  simp [State.answered]

@[simp] theorem State.issued_mem (s : State) (t : Attr) : (s.issued t).core.mem = s.core.mem := by simp [State.issued]

@[simp] theorem State.enqueue_mem (s : State) (w : Waiting) : (s.enqueue w).core.mem = s.core.mem := by simp [State.enqueue]

theorem State.held_mem {s t : State} {x : Xact} {kind : XKind} (h : s.held x kind = some t) : t.core.mem = s.core.mem := by
  simp only [State.held] at h
  repeat' split at h
  all_goals cases h <;> simp

@[simp] theorem State.accessAt_mem (s : State) (x : Xact) (kind : XKind) {own : State → State × Resp × List Byte}
    (hown : KeepsMem (fun t => (own t).1)) : (s.accessAt x kind own).core.mem = s.core.mem := by
  unfold State.accessAt
  extract_lets n
  split
  · rfl
  · split
    · exact State.held_mem ‹_›
    · split
      · exact (State.answered_mem ..).trans (hown s)
      · simp

@[simp] theorem State.writeAt_mem (s : State) (x : Xact) {own : State → State} (hown : KeepsMem own) :
    (s.writeAt x own).core.mem = s.core.mem := State.accessAt_mem s x .write hown

/-! ### Requests (Machine/Operands.lean) -/

@[simp] theorem State.record_mem (s : State) (rq : Request) (a : Ans) : (s.record rq a).core.mem = s.core.mem := by simp [State.record]

@[simp] theorem State.heard_mem (s : State) (rq : Request) : (s.heard rq).core.mem = s.core.mem := by
  unfold State.heard
  split <;> simp

@[simp] theorem State.dropped_mem (s : State) (rq : Request) : (s.dropped rq).core.mem = s.core.mem := by simp [State.dropped]

@[simp] theorem no_mem (s : State) (e : Status) : (no s e).1.core.mem = s.core.mem := by simp [no]

@[simp] theorem yes_mem (s : State) : (yes s).1.core.mem = s.core.mem := by simp [yes]

@[simp] theorem yesWith_mem (s : State) (p : List Byte) : (yesWith s p).1.core.mem = s.core.mem := by simp [yesWith]

/-! ### The time-aware bridge (Machine/Bridge.lean) -/

@[simp] theorem State.updTab_mem (s : State) (p : Nat) (f : TabPort → TabPort) : (s.updTab p f).core.mem = s.core.mem := by
  simp [State.updTab]

@[simp] theorem State.setGm_mem (s : State) (id : U64) (steps : Byte) (role : BitVec 2) :
    (s.setGm id steps role).core.mem = s.core.mem := by simp [State.setGm]

@[simp] theorem State.bmca_mem (s : State) : s.bmca.core.mem = s.core.mem := by
  unfold State.bmca
  simp only
  repeat' split
  all_goals simp [State.grandmaster, State.tabRoles]

@[simp] theorem State.tabDown_mem (s : State) (p : Nat) : (s.tabDown p).core.mem = s.core.mem := by simp [State.tabDown]

/-! ### The switch: market and frames (Machine/Switch.lean) -/

@[simp] theorem State.fcNow_mem (s : State) (p : Nat) (f : FcFrame) : (s.fcNow p f).core.mem = s.core.mem := by simp [State.fcNow]

@[simp] theorem State.fcSend_mem (s : State) (p : Nat) (f : FcFrame) : (s.fcSend p f).core.mem = s.core.mem := by simp [State.fcSend]

@[simp] theorem State.fcFlush_mem (s : State) (p : Nat) : (s.fcFlush p).core.mem = s.core.mem := by simp [State.fcFlush]

@[simp] theorem State.flowControl_mem (s : State) (p : Nat) : (s.flowControl p).core.mem = s.core.mem := by simp [State.flowControl]

@[simp] theorem State.marketLow_mem (s : State) : s.marketLow.core.mem = s.core.mem := by simp [State.marketLow]

@[simp] theorem State.takeCells_mem (s : State) (f : Frame) (via : Option Nat) : (s.takeCells f via).core.mem = s.core.mem := by
  unfold State.takeCells
  repeat' split
  all_goals simp

@[simp] theorem State.freeFrame_mem (s : State) (f : Frame) : (s.freeFrame f).core.mem = s.core.mem := by
  unfold State.freeFrame
  repeat' split
  all_goals simp

@[simp] theorem State.freeIfDone_mem (s : State) (i : Nat) : (s.freeIfDone i).core.mem = s.core.mem := by
  unfold State.freeIfDone
  split <;> simp

@[simp] theorem State.rxBegin_mem (s : State) (i : Nat) : (s.rxBegin i).core.mem = s.core.mem := by simp [State.rxBegin]

@[simp] theorem State.rxPop_mem (s : State) (q i : Nat) : (s.rxPop q i).core.mem = s.core.mem := by simp [State.rxPop]

@[simp] theorem State.dropDest_mem (s : State) (i p : Nat) : (s.dropDest i p).core.mem = s.core.mem := by simp [State.dropDest]

@[simp] theorem State.pushOut_mem (s : State) (f : Frame) : (s.pushOut f).core.mem = s.core.mem := by simp [State.pushOut]

@[simp] theorem State.keep_mem (s : State) (f : Frame) (via : Option Nat) : (s.keep f via).core.mem = s.core.mem := by simp [State.keep]

@[simp] theorem State.refuseFrame_mem (s : State) (f : Frame) (acct : Nat) : (s.refuseFrame f acct).core.mem = s.core.mem := by
  simp [State.refuseFrame]

@[simp] theorem State.store_mem (s : State) (f : Frame) : (s.store f).1.core.mem = s.core.mem := by
  unfold State.store
  simp only
  repeat' split
  all_goals simp

/-! ### Ingress and forwarding (Machine/Forward.lean) -/

@[simp] theorem State.dropQp_mem (s : State) (p : Nat) : (s.dropQp p).core.mem = s.core.mem := by simp [State.dropQp]

@[simp] theorem State.frerStage_mem (s : State) (l : Lookup) (port : Nat) (b : List Byte) :
    (s.frerStage l port b).1.core.mem = s.core.mem := by
  unfold State.frerStage
  simp only
  repeat' split
  all_goals simp

@[simp] theorem State.forward_mem (s : State) (a : Arrival) : (s.forward a).1.core.mem = s.core.mem := by
  unfold State.forward
  cases he : (s.classify a).entry <;> cases hp : s.policerOf (s.classify a) <;> simp [he, hp, State.dropClassify, State.police]

@[simp] theorem State.cntMs_mem (s : State) (p : Nat) (f : MsCnt → MsCnt) : (s.cntMs p f).core.mem = s.core.mem := by simp [State.cntMs]

@[simp] theorem State.macsecRx_mem (s : State) (p : Nat) (f : RawFrame) : (s.macsecRx p f).1.core.mem = s.core.mem := by
  unfold State.macsecRx
  simp only
  repeat' split
  all_goals simp

theorem State.macDrop_mem {s t : State} {p : Nat} {f : RawFrame} (h : s.macDrop p f = some t) : t.core.mem = s.core.mem := by
  simp only [State.macDrop] at h
  repeat' split at h
  all_goals cases h <;> simp

@[simp] theorem State.goodFrame_mem (s : State) (p n : Nat) : (s.goodFrame p n).core.mem = s.core.mem := by simp [State.goodFrame]

@[simp] theorem State.cutThrough_mem (s : State) (a : Arrival) : (s.cutThrough a).1.core.mem = s.core.mem := by simp [State.cutThrough]

@[simp] theorem State.enter_mem (s : State) (a : Arrival) : (s.enter a).1.core.mem = s.core.mem := by simp [State.enter]

@[simp] theorem State.lagLink_mem (s : State) (p : Nat) (up : Bool) : (s.lagLink p up).core.mem = s.core.mem := by
  unfold State.lagLink
  split <;> simp

@[simp] theorem State.linkDown_mem (s : State) (port : Nat) : (s.linkDown port).core.mem = s.core.mem := by simp [State.linkDown]

/-! ### CAN (Machine/Can.lean) -/

@[simp] theorem State.setMsi_mem (s : State) (key off : Nat) : (s.setMsi key off).core.mem = s.core.mem := by
  unfold State.setMsi
  split <;> simp

@[simp] theorem State.objMsi_mem (s : State) (chan obj : Nat) : (s.objMsi chan obj).core.mem = s.core.mem := by
  unfold State.objMsi
  split <;> simp

@[simp] theorem State.canGoto_mem (s : State) (chan : Nat) (st : CanState) : (s.canGoto chan st).core.mem = s.core.mem := by
  simp [State.canGoto, State.setMsis]

@[simp] theorem State.txEnd_mem (s : State) (chan obj : Nat) (st : U16) (msi : Bool) :
    (s.txEnd chan obj st msi).core.mem = s.core.mem := by simp [State.txEnd]

@[simp] theorem State.objReq_mem (s : State) (chan obj : Nat) : (s.objReq chan obj).core.mem = s.core.mem := by simp [State.objReq]

@[simp] theorem State.canOffBus_mem (s : State) (chan : Nat) : (s.canOffBus chan).core.mem = s.core.mem := by simp [State.canOffBus]

@[simp] theorem State.gwSent_mem (s : State) (chan : Nat) : (s.gwSent chan).core.mem = s.core.mem := by simp [State.gwSent]

@[simp] theorem State.canConfine_mem (s : State) (chan : Nat) : (s.canConfine chan).core.mem = s.core.mem := by
  unfold State.canConfine
  simp only
  split <;> simp

@[simp] theorem State.txFail_mem (s : State) (chan obj : Nat) (oneShot : U16) : (s.txFail chan obj oneShot).core.mem = s.core.mem := by
  simp [State.txFail]

@[simp] theorem State.canBusOffEnter_mem (s : State) (chan : Nat) : (s.canBusOffEnter chan).core.mem = s.core.mem := by
  simp [State.canBusOffEnter]

@[simp] theorem State.setFilter_mem (s : State) (chan : Nat) (e : Nat × CanSet) (f : CanFrame) :
    (s.setFilter chan e f).1.core.mem = s.core.mem := by
  unfold State.setFilter
  simp only
  repeat' split
  all_goals simp

@[simp] theorem State.canFilter_mem (s : State) (chan : Nat) (f : CanFrame) : (s.canFilter chan f).core.mem = s.core.mem := by
  simp only [State.canFilter, State.mem_ite, State.updCan_core, ite_self]
  exact State.foldl_fst_mem (fun p e h => by split <;> simp [h]) _ rfl

@[simp] theorem State.objRead_mem (s : State) (chan obj off : Nat) : (s.objRead chan obj off).core.mem = s.core.mem := by
  simp [State.objRead]

@[simp] theorem State.objWrite_mem (s : State) (chan obj off : Nat) (v m : U32) :
    (s.objWrite chan obj off v m).1.core.mem = s.core.mem := by simp [State.objWrite, State.objAbort, State.objUpd, State.objPut]

@[simp] theorem State.objWrites_mem (s : State) (chan obj base a : Nat) (d : List Byte) :
    (s.objWrites chan obj base a d).1.core.mem = s.core.mem :=
  State.foldl_fst_mem (fun p w h => by simp [h]) _ rfl

@[simp] theorem State.mapClear_mem (s : State) (t : Attr) (chan word : Nat) (v : U32) :
    (s.mapClear t chan word v).core.mem = s.core.mem := by simp [State.mapClear]

@[simp] theorem State.schEnd_mem (s : State) (chan : Nat) : (s.schEnd chan).core.mem = s.core.mem := by simp [State.schEnd]

@[simp] theorem State.schCell_mem (s : State) (chan owner cell : Nat) : (s.schCell chan owner cell).core.mem = s.core.mem := by
  simp [State.schCell]

@[simp] theorem State.setAbort_mem (s : State) (key : Nat) (st : U16) (msi : Bool) : (s.setAbort key st msi).core.mem = s.core.mem := by
  simp [State.setAbort]

@[simp] theorem State.zeroObjs_mem (s : State) (chan first count : Nat) : (s.zeroObjs chan first count).core.mem = s.core.mem := by
  simp [State.zeroObjs]

@[simp] theorem State.setZero_mem (s : State) (key : Nat) : (s.setZero key).core.mem = s.core.mem := by simp [State.setZero]

@[simp] theorem State.setStop_mem (s : State) (key : Nat) (b : Bool) : (s.setStop key b).core.mem = s.core.mem := by simp [State.setStop]

@[simp] theorem State.setDrop_mem (s : State) (key : Nat) : (s.setDrop key).core.mem = s.core.mem := by
  unfold State.setDrop
  simp only
  split <;> simp

@[simp] theorem State.canApply_mem (s : State) (chan : Nat) (g : CanCfg) : (s.canApply chan g).core.mem = s.core.mem := by
  unfold State.canApply
  simp only
  repeat' split
  all_goals simp [State.canBadFormats]

@[simp] theorem State.canStored_mem (s : State) (g : Tab CanCfg) : (s.canStored g).core.mem = s.core.mem := by simp [State.canStored]

@[simp] theorem ownCanWakeFilter_mem (rq : Request) (s : State) : (ownCanWakeFilter rq s).1.core.mem = s.core.mem := by
  simp [ownCanWakeFilter]

/-! ### LIN (Machine/Lin.lean) -/

@[simp] theorem State.linMsi_mem (s : State) (chan : Nat) : (s.linMsi chan).core.mem = s.core.mem := by
  unfold State.linMsi
  split <;> simp

@[simp] theorem State.linEvent_mem (s : State) (chan k : Nat) : (s.linEvent chan k).core.mem = s.core.mem := by simp [State.linEvent]

@[simp] theorem State.linBufMsi_mem (s : State) (chan id : Nat) : (s.linBufMsi chan id).core.mem = s.core.mem := by simp [State.linBufMsi]

@[simp] theorem State.linSent_mem (s : State) (chan id : Nat) : (s.linSent chan id).core.mem = s.core.mem := by simp [State.linSent]

@[simp] theorem State.linBusSleep_mem (s : State) (chan : Nat) : (s.linBusSleep chan).core.mem = s.core.mem := by simp [State.linBusSleep]

@[simp] theorem State.linJudge_mem (s : State) (chan id : Nat) (bytes : List Byte) :
    (s.linJudge chan id bytes).core.mem = s.core.mem := by simp [State.linJudge]

@[simp] theorem State.linPulse_mem (s : State) (chan : Nat) : (s.linPulse chan).core.mem = s.core.mem := by simp [State.linPulse]

@[simp] theorem State.linRead_mem (s : State) (chan off : Nat) : (s.linRead chan off).core.mem = s.core.mem := by simp [State.linRead]

@[simp] theorem State.linCtrl_mem (s : State) (chan : Nat) (v m : U32) : (s.linCtrl chan v m).core.mem = s.core.mem := by
  simp [State.linCtrl]

@[simp] theorem State.linPut_mem (s : State) (chan off : Nat) (v m : U32) : (s.linPut chan off v m).core.mem = s.core.mem := by
  simp [State.linPut]

@[simp] theorem State.linClear_mem (s : State) (chan : Nat) : (s.linClear chan).core.mem = s.core.mem := by simp [State.linClear]

@[simp] theorem State.linHalt_mem (s : State) (chan : Nat) (b : Bool) : (s.linHalt chan b).core.mem = s.core.mem := by
  simp [State.linHalt]

/-! ### The frame gateway (Machine/Gateway.lean) -/

@[simp] theorem State.gwEvent_mem (s : State) (k : Nat) : (s.gwEvent k).core.mem = s.core.mem := by simp [State.gwEvent]

@[simp] theorem State.convertDrop_mem (s : State) (n : Nat) : (s.convertDrop n).core.mem = s.core.mem := by simp [State.convertDrop]

@[simp] theorem State.ruleForward_mem (s : State) (n : Nat) : (s.ruleForward n).core.mem = s.core.mem := by simp [State.ruleForward]

@[simp] theorem State.actCan_mem (s : State) (n : Nat) (r : GwRule) (t : Tapped) : (s.actCan n r t).core.mem = s.core.mem := by
  unfold State.actCan
  simp only
  split <;> simp [State.gwQueue]

@[simp] theorem State.ntscfSend_mem (s : State) (n : Nat) (msgs : List (List Byte)) : (s.ntscfSend n msgs).core.mem = s.core.mem := by
  simp [State.ntscfSend]

@[simp] theorem State.ruleAct_mem (s : State) (n : Nat) (r : GwRule) (t : Tapped) : (s.ruleAct n r t).core.mem = s.core.mem := by
  unfold State.ruleAct
  split <;> simp [State.linOwnerWrite, State.actLin, State.actAcf]

@[simp] theorem State.evaluate_mem (s : State) (t : Tapped) (l : List (Nat × GwRule)) (k : Nat) :
    (s.evaluate t l k).core.mem = s.core.mem := by
  induction l generalizing s k with
  | nil => simp [State.evaluate]
  | cons e l ih => simp [State.evaluate, ih]

@[simp] theorem State.tap_mem (s : State) (t : Tapped) : (s.tap t).core.mem = s.core.mem := by simp [State.tap]

@[simp] theorem State.unparsed_mem (s : State) : s.unparsed.core.mem = s.core.mem := by simp [State.unparsed]

@[simp] theorem State.putRule_mem (s : State) (n : Nat) (r : GwRule) : (s.putRule n r).core.mem = s.core.mem := by simp [State.putRule]

/-! ### Load channels (Machine/Load.lean) -/

@[simp] theorem State.loadStart_mem (s : State) (c : Nat) : (s.loadStart c).core.mem = s.core.mem := by simp [State.loadStart]

@[simp] theorem State.loadSwitch_mem (s : State) (c : Nat) : (s.loadSwitch c).core.mem = s.core.mem := by simp [State.loadSwitch]

@[simp] theorem State.loadDrive_mem (s : State) (c : Nat) : (s.loadDrive c).core.mem = s.core.mem := by simp [State.loadDrive]

@[simp] theorem State.loadPulse_mem (s : State) (c : Nat) : (s.loadPulse c).core.mem = s.core.mem := by simp [State.loadPulse]

@[simp] theorem State.groupMsi_mem (s : State) (g : Nat) : (s.groupMsi g).core.mem = s.core.mem := by
  unfold State.groupMsi
  split <;> simp

@[simp] theorem State.loadReport_mem (s0 s : State) (c : Nat) (byOwner : Bool) : (s0.loadReport s c byOwner).core.mem = s.core.mem := by
  unfold State.loadReport
  split <;> simp

@[simp] theorem State.partnerReport_mem (s0 s : State) (c : Nat) : (s0.partnerReport s c).core.mem = s.core.mem := by
  simp [State.partnerReport]

@[simp] theorem State.dutyStep_mem (s0 s : State) (c : Nat) : (s0.dutyStep s c).core.mem = s.core.mem := by simp [State.dutyStep]

@[simp] theorem State.loadStep_mem (s0 s : State) (c : Nat) (byOwner : Bool) : (s0.loadStep s c byOwner).core.mem = s.core.mem := by
  simp [State.loadStep]

@[simp] theorem State.latchLog_mem (s : State) (e : Ev) (c bits : Nat) : (s.latchLog e c bits).core.mem = s.core.mem := by
  simp [State.latchLog]

@[simp] theorem State.loadPolicies_mem (s : State) (mask : U64) : (s.loadPolicies mask).core.mem = s.core.mem := by
  simp [State.loadPolicies, State.loadPolicy]

@[simp] theorem State.loadIgnore_mem (s : State) (page : Nat) : (s.loadIgnore page).core.mem = s.core.mem := by simp [State.loadIgnore]

@[simp] theorem State.loadWrites_mem (s : State) (page inst : Nat) (sec : Bool) (cs : List Nat) (f : Nat → LoadCmd → LoadCmd) :
    (s.loadWrites page inst sec cs f).core.mem = s.core.mem := by simp [State.loadWrites, State.loadWrite]

@[simp] theorem State.loadOutPut_mem (s : State) (page : Nat) (t : Attr) (c : Nat) (v m : U32) :
    (s.loadOutPut page t c v m).core.mem = s.core.mem := by simp [State.loadOutPut]

@[simp] theorem State.loadMask_mem (s : State) (page : Nat) (t : Attr) (mask : U64) (on : Bool) :
    (s.loadMask page t mask on).core.mem = s.core.mem := by simp [State.loadMask]

@[simp] theorem ownLoadGroupCreate_mem (rq : Request) (s : State) : (ownLoadGroupCreate rq s).1.core.mem = s.core.mem := by
  simp [ownLoadGroupCreate, State.groupMake]

/-! ### Protection of load channels (Machine/Protect.lean) -/

@[simp] theorem State.logNew_mem (s0 s : State) (c bits : Nat) : (s0.logNew s c bits).core.mem = s.core.mem := by simp [State.logNew]

@[simp] theorem State.limpOn_mem (s : State) : s.limpOn.core.mem = s.core.mem := by simp [State.limpOn]

@[simp] theorem State.shedAll_mem (s : State) (cs : List (Nat × Nat)) : (s.shedAll cs).core.mem = s.core.mem := by simp [State.shedAll]

/-! ### Inputs (Machine/Inputs.lean) -/

@[simp] theorem State.inEvent_mem (s : State) (k : Nat) : (s.inEvent k).core.mem = s.core.mem := by simp [State.inEvent]

@[simp] theorem State.inMsi_mem (s : State) (g : Nat) : (s.inMsi g).core.mem = s.core.mem := by
  unfold State.inMsi
  split <;> simp

@[simp] theorem State.inPost_mem (s : State) (g : Nat) (f : InGroup → InGroup) : (s.inPost g f).core.mem = s.core.mem := by
  simp [State.inPost]

@[simp] theorem State.dEdge_mem (s : State) (d : Nat) (rising : Bool) (time : U64) : (s.dEdge d rising time).core.mem = s.core.mem := by
  unfold State.dEdge
  split <;> simp

@[simp] theorem State.dSample_mem (s : State) (d mv : Nat) (time : U64) : (s.dSample d mv time).core.mem = s.core.mem := by
  simp [State.dSample]

@[simp] theorem State.vSample_mem (s : State) (v : Nat) (mv : ℤ) : (s.vSample v mv).core.mem = s.core.mem := by
  unfold State.vSample
  split <;> simp

@[simp] theorem State.inClear_mem (s : State) (g : Nat) (d : U64) (v : BitVec 24) : (s.inClear g d v).core.mem = s.core.mem := by
  simp [State.inClear]

@[simp] theorem State.inLeft_mem (s : State) (g : Nat) : (s.inLeft g).core.mem = s.core.mem := by simp [State.inLeft]

@[simp] theorem State.sensStep_mem (s : State) : s.sensStep.core.mem = s.core.mem := by simp [State.sensStep]

/-! ### Keys (Machine/Keys.lean) -/

@[simp] theorem State.rstPulse_mem (s : State) (c : ReqCause) : (s.rstPulse c).core.mem = s.core.mem := by simp [State.rstPulse]

@[simp] theorem State.amindPulse_mem (s : State) (c : ReqCause) (code issuer : Nat) :
    (s.amindPulse c code issuer).core.mem = s.core.mem := by simp [State.amindPulse]

@[simp] theorem State.reclaim_mem (s : State) : s.reclaim.core.mem = s.core.mem := by simp [State.reclaim]

@[simp] theorem State.purgeMacsec_mem (s : State) (hit : Nat → Bool) : (s.purgeMacsec hit).core.mem = s.core.mem := by
  simp [State.purgeMacsec]

@[simp] theorem ownKeyDerive_mem (rq : Request) (s : State) : (ownKeyDerive rq s).1.core.mem = s.core.mem := by
  unfold ownKeyDerive
  simp only
  repeat' split
  all_goals simp [State.nodeHandle]

@[simp] theorem ownKeyInvalidate_mem (rq : Request) (s : State) : (ownKeyInvalidate rq s).1.core.mem = s.core.mem := by
  simp [ownKeyInvalidate, State.purge]

@[simp] theorem State.signDone_mem (s : State) (g : Signing) (bytes : List Byte) : (s.signDone g bytes).core.mem = s.core.mem := by
  simp [State.signDone]

@[simp] theorem ownMacsecSa_mem (rq : Request) (s : State) : (ownMacsecSa rq s).1.core.mem = s.core.mem := by
  unfold ownMacsecSa
  simp only
  repeat' split
  all_goals simp

/-! ### Cipher rings (Machine/Rings.lean) -/

@[simp] theorem ownRingCreate_mem (rq : Request) (s : State) : (ownRingCreate rq s).1.core.mem = s.core.mem := by
  unfold ownRingCreate
  split <;> simp

@[simp] theorem State.ringTail_mem (s : State) (r : Nat) (v : U16) : (s.ringTail r v).core.mem = s.core.mem := by simp [State.ringTail]

/-! ### Timers (Machine/Time.lean) -/

@[simp] theorem State.timerMsi_mem (s : State) (n : Nat) : (s.timerMsi n).core.mem = s.core.mem := by
  unfold State.timerMsi
  split <;> simp

@[simp] theorem State.fireDue_mem (s : State) (n : Nat) : (s.fireDue n).core.mem = s.core.mem := by simp [State.fireDue]

@[simp] theorem State.tcCtrlSet_mem (s : State) (n : Nat) (v m : U32) : (s.tcCtrlSet n v m).core.mem = s.core.mem := by
  simp [State.tcCtrlSet]

@[simp] theorem State.tcCtrlPut_mem (s : State) (n : Nat) (v m : U32) : (s.tcCtrlPut n v m).core.mem = s.core.mem := by
  simp [State.tcCtrlPut]

@[simp] theorem State.tcFirst_mem (s : State) (a : Nat) : (s.tcFirst a).core.mem = s.core.mem := by simp [State.tcFirst]

@[simp] theorem ownTimerCreate_mem (rq : Request) (s : State) : (ownTimerCreate rq s).1.core.mem = s.core.mem := by
  unfold ownTimerCreate
  split <;> simp

/-! ### Registers of harts (Machine/Csr.lean) -/

@[simp] theorem State.retired_mem (s : State) (n : Nat) (f : Hart → Hart) : (s.retired n f).core.mem = s.core.mem := by
  simp [State.retired]

@[simp] theorem State.csrSet_mem (s : State) (n : Nat) (w dbg : Bool) (c : Nat) (v : U64) :
    (s.csrSet n w dbg c v).core.mem = s.core.mem := by simp [State.csrSet, State.timerBits, State.putCsr]

/-! ### Harts (Machine/Harts.lean) -/

@[simp] theorem State.trap_mem (s : State) (n cause : Nat) (tval pc : U64) : (s.trap n cause tval pc).core.mem = s.core.mem := by
  simp [State.trap]

@[simp] theorem State.illegal_mem (s : State) (n cause : Nat) : (s.illegal n cause).core.mem = s.core.mem := by simp [State.illegal]

@[simp] theorem State.misalignedTrap_mem (s : State) (hart cause : Nat) : (s.misalignedTrap hart cause).core.mem = s.core.mem := by
  simp [State.misalignedTrap]

@[simp] theorem State.debugEnter_mem (s : State) (p : Nat) (why : HaltCause) : (s.debugEnter p why).core.mem = s.core.mem := by
  simp [State.debugEnter]

@[simp] theorem State.heldHalt_mem (s : State) (p : Nat) : (s.heldHalt p).core.mem = s.core.mem := by simp [State.heldHalt]

@[simp] theorem State.haltPair_mem (s : State) (p : Nat) (why : HaltCause) : (s.haltPair p why).core.mem = s.core.mem := by
  unfold State.haltPair
  repeat' split
  all_goals simp

@[simp] theorem State.resumePair_mem (s : State) (p : Nat) : (s.resumePair p).core.mem = s.core.mem := by simp [State.resumePair]

@[simp] theorem State.cmderr_mem (s : State) (c : Nat) : (s.cmderr c).core.mem = s.core.mem := by simp [State.cmderr]

@[simp] theorem State.transfer_mem (s : State) (hart : Nat) (command : U32) : (s.transfer hart command).core.mem = s.core.mem := by
  simp [State.transfer, State.regWrite]

@[simp] theorem State.markerFetch_mem (s : State) (hart a : Nat) : (s.markerFetch hart a).1.core.mem = s.core.mem := by
  unfold State.markerFetch
  repeat' split
  all_goals simp

@[simp] theorem State.tollAt_mem (s : State) (hart : Nat) (target : U64) : (s.tollAt hart target).core.mem = s.core.mem := by
  simp [State.tollAt, State.tollChecks]

@[simp] theorem State.tollretAt_mem (s : State) (hart : Nat) : (s.tollretAt hart).core.mem = s.core.mem := by simp [State.tollretAt]

@[simp] theorem State.csrExec_mem (s : State) (n c : Nat) (v : U64) : (s.csrExec n c v).core.mem = s.core.mem := by
  unfold State.csrExec
  split <;> simp [State.csrWrite]

/- A change of one part enters here and in `State.ethPut_mem` as a hypothesis: by the `rfl` of its law the kernel would compare the part
itself before and after, and unfold the offset, a large numeral, one by one. -/
@[simp] theorem State.aplicPut_mem (s : State) (o : Nat) (v : U32) : (s.aplicPut o v).core.mem = s.core.mem := by
  have h := s.onCore_core
  simp [State.aplicPut, -State.onCore_core, h, State.genMsi]

/-! ### Register pages (Machine/Pages.lean) -/

@[simp] theorem State.qpTxTail_mem (s : State) (i : Nat) (v : U16) : (s.qpTxTail i v).core.mem = s.core.mem := by simp [State.qpTxTail]

@[simp] theorem State.qpRxTail_mem (s : State) (i : Nat) (v : U16) : (s.qpRxTail i v).core.mem = s.core.mem := by simp [State.qpRxTail]

@[simp] theorem State.ethPut_mem (s : State) (o : Nat) (v m : U32) : (s.ethPut o v m).1.core.mem = s.core.mem := by
  have h := s.onEth_core
  simp [State.ethPut, -State.onEth_core, h, State.qpPut]

/-! ### The Pass link (Machine/PassLink.lean) -/

@[simp] theorem State.setLink_mem (s : State) (l : LinkState) : (s.setLink l).core.mem = s.core.mem := by simp [State.setLink]

@[simp] theorem State.pxLink_mem (s : State) : s.pxLink.core.mem = s.core.mem := by simp [State.pxLink]

@[simp] theorem State.sbTake_mem (s : State) (v : BitVec 256) : (s.sbTake v).core.mem = s.core.mem := by simp [State.sbTake]

@[simp] theorem State.countFerr_mem (s : State) (a : Nat) : (s.countFerr a).core.mem = s.core.mem := by
  unfold State.countFerr
  split <;> simp

@[simp] theorem State.portReply_mem (s : State) (t : Attr) (r : Resp) (d : List Byte) : (s.portReply t r d).core.mem = s.core.mem := by
  simp [State.portReply]

@[simp] theorem State.settled_mem (s : State) (t : Attr) (r : Resp) (d : List Byte) : (s.settled t r d).core.mem = s.core.mem := by
  simp [State.settled]

@[simp] theorem State.answerHeld_mem (s : State) (key : Nat) (seq : U16) (a : Ans) : (s.answerHeld key seq a).core.mem = s.core.mem := by
  unfold State.answerHeld
  split <;> simp

@[simp] theorem State.endClear_mem (s : State) (w : Nat) : (s.endClear w).core.mem = s.core.mem := by
  unfold State.endClear
  split <;> simp

@[simp] theorem State.passEnd_mem (s : State) : s.passEnd.core.mem = s.core.mem := by simp [State.passEnd]

@[simp] theorem State.passLeave_mem (s : State) : s.passLeave.core.mem = s.core.mem := by simp [State.passLeave, State.pxFlush]

@[simp] theorem State.linkLost_mem (s : State) : s.linkLost.core.mem = s.core.mem := by simp [State.linkLost]

@[simp] theorem State.partnerTo_mem (s : State) (st : Partner) : (s.partnerTo st).core.mem = s.core.mem := by simp [State.partnerTo]

@[simp] theorem State.remotesFail_mem (s : State) : s.remotesFail.core.mem = s.core.mem := by simp [State.remotesFail]

@[simp] theorem State.takeOverAll_mem (s : State) : s.takeOverAll.core.mem = s.core.mem := by simp [State.takeOverAll, State.takeOver]

@[simp] theorem State.logLost_mem (s : State) : s.logLost.core.mem = s.core.mem := by simp [State.logLost]

@[simp] theorem State.partnerPulse_mem (s : State) (auto : Bool) : (s.partnerPulse auto).core.mem = s.core.mem := by
  simp [State.partnerPulse]

@[simp] theorem State.winRead_mem (s : State) (x : Xact) : (s.winRead x).1.core.mem = s.core.mem := by
  unfold State.winRead
  simp only
  repeat' split
  all_goals simp

@[simp] theorem State.winWrite_mem (s : State) (x : Xact) : (s.winWrite x).1.core.mem = s.core.mem := by
  unfold State.winWrite
  simp only
  repeat' split
  all_goals simp

@[simp] theorem State.winPost_mem (s : State) (x : Xact) : (s.winPost x).1.core.mem = s.core.mem := by
  unfold State.winPost
  simp only
  split <;> simp

@[simp] theorem State.stray_mem (s : State) : s.stray.core.mem = s.core.mem := by simp [State.stray]

@[simp] theorem State.recordsGo_mem (s : State) : s.recordsGo.core.mem = s.core.mem := by
  unfold State.recordsGo
  simp only
  repeat' split
  all_goals simp

@[simp] theorem State.trackerEnd_mem (s : State) (r : Tracker) (c : Resp) : (s.trackerEnd r c).core.mem = s.core.mem := by
  unfold State.trackerEnd
  split <;> simp

@[simp] theorem State.passFree_mem (s : State) (inst : Nat) : (s.passFree inst).core.mem = s.core.mem := by simp [State.passFree]

@[simp] theorem State.winsStop_mem (s : State) (inst : Nat) (b : Bool) : (s.winsStop inst b).core.mem = s.core.mem := by
  simp [State.winsStop]

@[simp] theorem State.poison_mem (s : State) (e : PassErr) : (s.poison e).core.mem = s.core.mem := by simp [State.poison]

@[simp] theorem ownPassWindowOpen_mem (rq : Request) (s : State) : (ownPassWindowOpen rq s).1.core.mem = s.core.mem := by
  unfold ownPassWindowOpen
  split <;> simp

@[simp] theorem State.keepServing_mem (s : State) (r : Route) : (s.keepServing r).core.mem = s.core.mem := by
  unfold State.keepServing
  split <;> simp

@[simp] theorem ownPassErrorClear_mem (rq : Request) (s : State) : (ownPassErrorClear rq s).1.core.mem = s.core.mem := by
  simp [ownPassErrorClear]

/-! ### Stalls, sessions and the relay (Machine/Stalls.lean) -/

@[simp] theorem State.nextNotice_mem (s : State) (n : Nat) (st : StallState) : (s.nextNotice n st).core.mem = s.core.mem := by
  unfold State.nextNotice
  split <;> simp

@[simp] theorem State.doorbell_mem (s : State) (n : Nat) : (s.doorbell n).core.mem = s.core.mem := by
  unfold State.doorbell
  simp only
  split <;> simp

@[simp] theorem State.release_mem (s : State) (n : Nat) : (s.release n).core.mem = s.core.mem := by
  unfold State.release
  simp only
  split <;> simp

@[simp] theorem State.stallWrite_mem (s : State) (n o : Nat) (d : List Byte) : (s.stallWrite n o d).1.core.mem = s.core.mem := by
  simp [State.stallWrite]

@[simp] theorem State.stallReset_mem (s : State) (n : Nat) : (s.stallReset n).core.mem = s.core.mem := by simp [State.stallReset]

@[simp] theorem State.debugClose_mem (s : State) : s.debugClose.core.mem = s.core.mem := by simp [State.debugClose]

@[simp] theorem State.dropStaging_mem (s : State) (key : Nat) : (s.dropStaging key).core.mem = s.core.mem := by
  unfold State.dropStaging
  split <;> simp

@[simp] theorem State.dropKeys_mem (s : State) (k : Nat) : (s.dropKeys k).core.mem = s.core.mem := by simp [State.dropKeys]

@[simp] theorem State.closeSession_mem (s : State) (k : Nat) : (s.closeSession k).core.mem = s.core.mem := by
  simp [State.closeSession, State.dropReaders]

@[simp] theorem denySetup_mem (s : State) (cred : Byte) : (denySetup s cred).1.core.mem = s.core.mem := by
  simp [denySetup, State.countDenied]

@[simp] theorem ownSessionOpen_mem (rq : Request) (s : State) : (ownSessionOpen rq s).1.core.mem = s.core.mem := by
  unfold ownSessionOpen
  repeat' split
  all_goals simp

@[simp] theorem ownSessionAuth_mem (rq : Request) (s : State) : (ownSessionAuth rq s).1.core.mem = s.core.mem := by
  unfold ownSessionAuth
  simp only
  split <;> simp

@[simp] theorem State.dropRemote_mem (s : State) (stall : Nat) : (s.dropRemote stall).core.mem = s.core.mem := by simp [State.dropRemote]

/-! ### Register rows, memory and transactions (Machine/Bus.lean) -/

@[simp] theorem State.dbRefuse_mem (s : State) (n : Nat) (st : Status) : (s.dbRefuse n st).core.mem = s.core.mem := by
  simp [State.dbRefuse]

@[simp] theorem State.dbWrite_mem (s : State) (n : Nat) (sec : Bool) (v : U64) : (s.dbWrite n sec v).core.mem = s.core.mem := by
  unfold State.dbWrite
  simp only
  split <;> simp

@[simp] theorem State.instWrite_mem (s : State) (t : Attr) (n o : Nat) (d : List Byte) : (s.instWrite t n o d).core.mem = s.core.mem := by
  simp [State.instWrite]

@[simp] theorem State.put03_mem (s : State) (a : Nat) (v m : U32) : (s.put03 a v m).core.mem = s.core.mem := by
  simp only [State.put03, State.mem_ite, State.aplicPut_mem]
  split
  · rfl
  · split
    · simp
    · rfl

@[simp] theorem State.regWord_mem (s : State) (t : Attr) (a : Nat) (latch : Bool) : (s.regWord t a latch).1.core.mem = s.core.mem := by
  unfold State.regWord
  split <;> simp [State.canRead, State.word0D]

@[simp] theorem State.regPut_mem (s : State) (t : Attr) (a : Nat) (v m : U32) : (s.regPut t a v m).1.core.mem = s.core.mem := by
  unfold State.regPut
  split <;> simp [State.loadChgClear, State.psPut, State.loadPagePut, State.inPagePut, State.inPut, State.ceEventPut, State.ringPut,
    State.tcPut, State.swPut, State.canWrite, State.passPut, State.put08, State.put0A, State.put0B, State.put0E]

@[simp] theorem State.regBytes_mem (s : State) (t : Attr) (a n : Nat) : (s.regBytes t a n).1.core.mem = s.core.mem :=
  State.foldl_fst_mem (fun p k h => by simp [h]) _ rfl

@[simp] theorem State.ignoreOnce_mem (old s : State) (a : Nat) : (old.ignoreOnce s a).core.mem = s.core.mem := by simp [State.ignoreOnce]

@[simp] theorem State.inAfter_mem (s : State) (a n : Nat) : (s.inAfter a n).core.mem = s.core.mem := by simp [State.inAfter]

@[simp] theorem State.regsWrite_mem (s : State) (t : Attr) (a : Nat) (d : List Byte) : (s.regsWrite t a d).1.core.mem = s.core.mem := by
  simp only [State.regsWrite, State.inAfter_mem, State.ignoreOnce_mem]
  exact State.foldl_fst_mem (fun p w h => by simp [h]) _ (by simp)

@[simp] theorem State.unreserve_mem (s : State) (a n : Nat) (keep : Option Nat) : (s.unreserve a n keep).core.mem = s.core.mem := by
  simp [State.unreserve]

@[simp] theorem State.unpoison_mem (s : State) (a n : Nat) : (s.unpoison a n).core.mem = s.core.mem := by simp [State.unpoison]

@[simp] theorem State.meter_mem (s : State) (t : Attr) (a n : Nat) : (s.meter t a n).1.core.mem = s.core.mem := by simp [State.meter]

@[simp] theorem State.meterDma_mem (s : State) (t : Attr) (a n : Nat) : (s.meterDma t a n).core.mem = s.core.mem := by
  have h := s.meter_mem t a n
  unfold State.meterDma
  generalize s.meter t a n = q at h ⊢
  obtain ⟨u, _ | c⟩ := q <;> simpa using h

@[simp] theorem State.readTarget_mem (s : State) (x : Xact) : (s.readTarget x).1.core.mem = s.core.mem := by
  unfold State.readTarget
  simp only
  split <;> simp

@[simp] theorem State.lrTarget_mem (s : State) (x : Xact) : (s.lrTarget x).1.core.mem = s.core.mem := by simp [State.lrTarget]

@[simp] theorem State.stallsOn_mem (s : State) (t : Attr) (ev : Nat) : (s.stallsOn t ev).core.mem = s.core.mem := by
  simp [State.stallsOn, State.stalledOn]

@[simp] theorem Waiting.concluded_mem (w : Waiting) (q : State × Option Resp × List Byte) :
    (w.concluded q).core.mem = q.1.core.mem := by
  unfold Waiting.concluded
  split <;> simp [State.atomicDone]

@[simp] theorem State.releaseOne_mem (s : State) (i : Nat) : (s.releaseOne i).core.mem = s.core.mem := by
  unfold State.releaseOne
  split
  · rfl
  · next w _ =>
    have h := s.meter_mem w.x.attr w.x.addr.toNat (max w.x.size w.x.data.length)
    generalize s.meter w.x.attr w.x.addr.toNat (max w.x.size w.x.data.length) = q at h ⊢
    obtain ⟨u, _ | c⟩ := q <;> simp_all

@[simp] theorem State.releaseHeld_mem (s : State) : s.releaseHeld.core.mem = s.core.mem := by simp [State.releaseHeld]

@[simp] theorem State.dmcontrol_mem (s : State) (v : U32) : (s.dmcontrol v).core.mem = s.core.mem := by simp [State.dmcontrol]

/-! ### Transmission, gates and time (Machine/Ethernet.lean) -/

@[simp] theorem State.countHeld_mem (s : State) (p i : Nat) : (s.countHeld p i).core.mem = s.core.mem := by
  unfold State.countHeld
  split <;> simp

@[simp] theorem State.deliver_mem (s : State) (i p : Nat) : (s.deliver i p).core.mem = s.core.mem := by
  unfold State.deliver
  split <;> simp

@[simp] theorem State.cross_mem (s : State) (f : Frame) : (s.cross f).core.mem = s.core.mem := by simp [State.cross]

@[simp] theorem State.send_mem (s : State) (i p : Nat) (front : Bool) : (s.send i p front).core.mem = s.core.mem := by
  unfold State.send
  simp only
  repeat' split
  all_goals simp [State.macsecTx]

@[simp] theorem State.popResidue_mem (s : State) (p c k i : Nat) : (s.popResidue p c k i).core.mem = s.core.mem := by
  simp [State.popResidue]

@[simp] theorem State.select_mem (s : State) (p : Nat) (l : List Nat) : (s.select p l).1.core.mem = s.core.mem := by
  induction l generalizing s with
  | nil => rfl
  | cons c l ih =>
    unfold State.select
    split <;> simp [ih]

@[simp] theorem State.transmit_mem (s : State) (p : Nat) (l : List Nat) : (s.transmit p l).core.mem = s.core.mem := by
  have h := s.select_mem p l
  unfold State.transmit
  generalize s.select p l = q at h ⊢
  obtain ⟨t, _ | e⟩ := q
  · exact h
  · cases hf : t.frame e.2.2 <;> simpa [hf] using h

@[simp] theorem State.boundary_mem (s : State) (p sent : Nat) : (s.boundary p sent).core.mem = s.core.mem := by simp [State.boundary]

@[simp] theorem State.opportunity_mem (s0 : State) (p sent : Nat) : (s0.opportunity p sent).core.mem = s0.core.mem := by
  simp [State.opportunity, State.atBoundary]

@[simp] theorem State.collide_mem (s : State) (p : Nat) : (s.collide p).core.mem = s.core.mem := by
  have h := s.select_mem p (s.startable p 0)
  unfold State.collide
  generalize s.select p (s.startable p 0) = q at h ⊢
  obtain ⟨t, _ | e⟩ := q <;> simpa using h

@[simp] theorem State.ptpFlush_mem (s : State) (p : Nat) : (s.ptpFlush p).core.mem = s.core.mem := by simp [State.ptpFlush, State.ptpNow]

@[simp] theorem State.cutEnd_mem (s : State) (f : Frame) (fcsBad long : Bool) : (s.cutEnd f fcsBad long).core.mem = s.core.mem := by
  simp [State.cutEnd]

@[simp] theorem State.addResidue_mem (s : State) (f : Frame) (p : Nat) : (s.addResidue f p).core.mem = s.core.mem := by
  simp [State.addResidue]

@[simp] theorem State.setHold_mem (s : State) (p : Nat) (h : Bool) : (s.setHold p h).core.mem = s.core.mem := by simp [State.setHold]

@[simp] theorem State.applyGate_mem (s : State) (p : Nat) (g : GateList) (k : Nat) : (s.applyGate p g k).core.mem = s.core.mem := by
  simp [State.applyGate]

@[simp] theorem State.switchOver_mem (s : State) (p : Nat) : (s.switchOver p).core.mem = s.core.mem := by
  unfold State.switchOver
  split <;> simp

@[simp] theorem State.openGates_mem (s : State) (p : Nat) : (s.openGates p).core.mem = s.core.mem := by simp [State.openGates]

@[simp] theorem State.gateTo_mem (s : State) (p t : Nat) : (s.gateTo p t).core.mem = s.core.mem := by
  unfold State.gateTo
  split <;> simp

@[simp] theorem State.ptpAnnounce_mem (s : State) (p : Nat) (m : PtpMessage) : (s.ptpAnnounce p m).core.mem = s.core.mem := by
  simp [State.ptpAnnounce]

@[simp] theorem State.ptpSync_mem (s : State) (p : Nat) (m : PtpMessage) : (s.ptpSync p m).core.mem = s.core.mem := by
  simp [State.ptpSync, State.stepGlobal]

@[simp] theorem State.ptpDelay_mem (s : State) (p : Nat) (m : PtpMessage) : (s.ptpDelay p m).core.mem = s.core.mem := by
  simp [State.ptpDelay]

/-! ### Engines that act on memory (Machine/Engines.lean) -/

@[simp] theorem State.dmaWait_mem (old new : State) : (old.dmaWait new).core.mem = old.core.mem := by
  refine State.foldl_mem (fun r t => ?_) _ _
  simp only
  split <;> rfl

@[simp] theorem State.dmaBegin_mem (s : State) (t : Attr) (a n : Nat) (k : State) :
    (s.dmaBegin t a n k).core.mem = if s.dmaMay t a n then k.core.mem else s.core.mem := by
  simp [State.dmaBegin]

@[simp] theorem State.recordWrite_msi_mem (s : State) (t : Attr) (a : Nat) (d : List Byte) (msi : Option (Bind × Bool)) (u : State) :
    ((s.recordWrite t a d msi).2.2 u).core.mem = u.core.mem := by
  unfold State.recordWrite
  simp only
  split
  · rfl
  · rfl
  · simp only
    split <;> simp

@[simp] theorem State.loadEngine_mem (s : State) (n : Nat) : (s.loadEngine n).core.mem = s.core.mem := by simp [State.loadEngine]

@[simp] theorem State.countNode_mem (s : State) (n : Option Nat) (c : Nat) : (s.countNode n c).core.mem = s.core.mem := by
  unfold State.countNode
  split <;> simp

/-! ### Power of blocks (Machine/Blocks.lean) -/

@[simp] theorem State.blockRuns_mem (s : State) (b : Nat) : (s.blockRuns b).core.mem = s.core.mem := by simp [State.blockRuns]

@[simp] theorem State.blockRailOff_mem (s : State) (b : Nat) : (s.blockRailOff b).core.mem = s.core.mem := by
  simp [State.blockRailOff, State.blockReset]

@[simp] theorem State.blockQuiesce_mem (s : State) (b : Nat) : (s.blockQuiesce b).core.mem = s.core.mem := by simp [State.blockQuiesce]

@[simp] theorem State.blockWakes_mem (s : State) (b : Nat) : (s.blockWakes b).core.mem = s.core.mem := by simp [State.blockWakes]

@[simp] theorem State.partialBegin_mem (s : State) : s.partialBegin.core.mem = s.core.mem := by
  refine State.foldl_mem (fun b t => ?_) _ _
  simp only
  split <;> simp

@[simp] theorem State.voteEnded_mem (s : State) (b : Nat) : (s.voteEnded b).core.mem = s.core.mem := by
  unfold State.voteEnded
  simp only
  split <;> simp

@[simp] theorem State.handleVote_mem (s : State) (typ index : Nat) : (s.handleVote typ index).core.mem = s.core.mem := by
  unfold State.handleVote
  split <;> simp

@[simp] theorem State.partialOffAll_mem (s : State) : s.partialOffAll.core.mem = s.core.mem := by
  simp only [State.partialOffAll]
  rw [State.foldl_mem, State.foldl_mem]
  · simp [State.portSleep]
  · intro b t
    simp only
    split <;> simp

@[simp] theorem State.enterPartial_mem (s : State) : s.enterPartial.core.mem = s.core.mem := by simp [State.enterPartial]

@[simp] theorem State.runBegin_mem (s : State) (waiters : List (Nat × U16)) : (s.runBegin waiters).core.mem = s.core.mem := by
  simp [State.runBegin]

@[simp] theorem wait_mem (s : State) (reason : Byte) : (wait s reason).1.core.mem = s.core.mem := by simp [wait]

@[simp] theorem State.blockOffReq_mem (s : State) (b : Nat) (w : Nat × U16) : (s.blockOffReq b w).1.core.mem = s.core.mem := by
  unfold State.blockOffReq
  simp only
  repeat' split
  all_goals simp

@[simp] theorem State.blockOnReq_mem (s : State) (b : Nat) (w : Nat × U16) : (s.blockOnReq b w).1.core.mem = s.core.mem := by
  unfold State.blockOnReq
  simp only
  split <;> simp

@[simp] theorem ownKeepVote_mem (rq : Request) (s : State) : (ownKeepVote rq s).1.core.mem = s.core.mem := by
  unfold ownKeepVote
  simp only
  repeat' split
  all_goals simp

/-! ### Commands of the switch (Machine/SwitchCmds.lean) -/

@[simp] theorem ownQueuePairCreate_mem (rq : Request) (s : State) : (ownQueuePairCreate rq s).1.core.mem = s.core.mem := by
  unfold ownQueuePairCreate
  simp only
  repeat' split
  all_goals simp [State.qpForget]

@[simp] theorem State.setPolicer_mem (s : State) (n rate burst : Nat) : (s.setPolicer n rate burst).core.mem = s.core.mem := by
  simp [State.setPolicer]

@[simp] theorem ownFlowCreate_mem (rq : Request) (s : State) : (ownFlowCreate rq s).1.core.mem = s.core.mem := by
  unfold ownFlowCreate
  simp only
  repeat' split
  all_goals simp

@[simp] theorem State.dropFlow_mem (s : State) (slot : Nat) : (s.dropFlow slot).core.mem = s.core.mem := by
  unfold State.dropFlow
  split <;> simp

@[simp] theorem State.loadGate_mem (s : State) (p : Nat) (g : GateList) : (s.loadGate p g).core.mem = s.core.mem := by
  simp [State.loadGate]

@[simp] theorem ownGateListSet_mem (rq : Request) (s : State) : (ownGateListSet rq s).1.core.mem = s.core.mem := by
  unfold ownGateListSet
  repeat' split
  all_goals simp

@[simp] theorem ownPortConfig_mem (rq : Request) (s : State) : (ownPortConfig rq s).1.core.mem = s.core.mem := by
  simp [ownPortConfig, State.wakeDisarm]

/-! ### Handles (Machine/Handles.lean) -/

@[simp] theorem State.wedged_mem (s : State) (unit kind : Nat) : (s.wedged unit kind).core.mem = s.core.mem := by simp [State.wedged]

@[simp] theorem State.qpClear_mem (s : State) (q : Nat) : (s.qpClear q).core.mem = s.core.mem := by simp [State.qpClear]

@[simp] theorem State.handleStop_mem (s : State) (typ index : Nat) : (s.handleStop typ index).core.mem = s.core.mem := by
  simp [State.handleStop]

@[simp] theorem State.handleClear_mem (s : State) (typ index : Nat) : (s.handleClear typ index).core.mem = s.core.mem := by
  simp [State.handleClear, State.groupDrop, State.inGroupDrop, State.winFree]

@[simp] theorem State.handleFree_mem (s : State) (typ index : Nat) : (s.handleFree typ index).core.mem = s.core.mem := by
  simp [State.handleFree]

@[simp] theorem State.handleDestroy_mem (s : State) (typ index : Nat) (waiter : Option (Nat × U16)) :
    (s.handleDestroy typ index waiter).1.core.mem = s.core.mem := by simp [State.handleDestroy]

@[simp] theorem State.retireEnd_mem (s : State) (typ index : Nat) (value : U32) (waiter : Option (Nat × U16)) :
    (s.retireEnd typ index value waiter).core.mem = s.core.mem := by
  unfold State.retireEnd
  split <;> simp

@[simp] theorem State.handleEnd_mem (s : State) (typ index : Nat) : (s.handleEnd typ index).core.mem = s.core.mem := by
  unfold State.handleEnd
  split <;> simp

@[simp] theorem ownHandleBindIrq_mem (rq : Request) (s : State) : (ownHandleBindIrq rq s).1.core.mem = s.core.mem := by
  unfold ownHandleBindIrq
  split <;> simp

@[simp] theorem ownResultRead_mem (rq : Request) (s : State) : (ownResultRead rq s).1.core.mem = s.core.mem := by
  unfold ownResultRead
  split <;> simp

/-! ### Resets of instances (Machine/Resets.lean) -/

@[simp] theorem State.rebuildDram_mem (s : State) : s.rebuildDram.core.mem = s.core.mem := by simp [State.rebuildDram]

@[simp] theorem State.setRefuse_mem (s : State) (key : Nat) (st : U16) : (s.setRefuse key st).core.mem = s.core.mem := by
  simp [State.setRefuse]

@[simp] theorem State.loadsMute_mem (s : State) (n : Nat) (b policy : Bool) : (s.loadsMute n b policy).core.mem = s.core.mem := by
  simp [State.loadsMute]

@[simp] theorem State.inputsStop_mem (s : State) (n : Nat) (stop off clear : Bool) :
    (s.inputsStop n stop off clear).core.mem = s.core.mem := by simp [State.inputsStop]

@[simp] theorem State.instBegin_mem (s : State) (n : Nat) : (s.instBegin n).core.mem = s.core.mem := by
  simp [State.instBegin, State.schStopOf, State.stallsReset]

@[simp] theorem State.instMayBegin_mem (s : State) (n : Nat) : (s.instMayBegin n).core.mem = s.core.mem := by simp [State.instMayBegin]

@[simp] theorem State.instClear_mem (s : State) (n : Nat) : (s.instClear n).core.mem = s.core.mem := by simp [State.instClear]

@[simp] theorem State.instEnd_mem (s : State) (n : Nat) : (s.instEnd n).core.mem = s.core.mem := by simp [State.instEnd, State.destroyAll]

@[simp] theorem State.resetNotice_mem (s : State) (w : Option (Nat × U16)) : (s.resetNotice w).core.mem = s.core.mem := by
  unfold State.resetNotice
  split <;> simp

@[simp] theorem ownInstanceReset_mem (rq : Request) (s : State) : (ownInstanceReset rq s).1.core.mem = s.core.mem := by
  unfold ownInstanceReset
  simp only
  repeat' split
  all_goals simp

@[simp] theorem ownInstanceDestroy_mem (rq : Request) (s : State) : (ownInstanceDestroy rq s).1.core.mem = s.core.mem := by
  unfold ownInstanceDestroy
  simp only
  repeat' split
  all_goals simp

@[simp] theorem State.stallClose_mem (s : State) (k : Nat) : (s.stallClose k).core.mem = s.core.mem := by simp [State.stallClose]

@[simp] theorem State.instDrop_mem (s : State) (n : Nat) : (s.instDrop n).core.mem = s.core.mem := by simp [State.instDrop, State.acctEnd]

@[simp] theorem ownFnEnable_mem (rq : Request) (s : State) : (ownFnEnable rq s).1.core.mem = s.core.mem := by
  unfold ownFnEnable
  simp only
  split <;> simp [State.fnResume]

/-! ### Instances (Machine/Instances.lean) -/

@[simp] theorem State.shareApply_mem (s : State) (n : Nat) (new l : List Share) : (s.shareApply n new l).core.mem = s.core.mem := by
  unfold State.shareApply
  split <;> simp

@[simp] theorem ownInstanceCreate_mem (rq : Request) (s : State) : (ownInstanceCreate rq s).1.core.mem = s.core.mem := by
  unfold ownInstanceCreate
  simp only
  repeat' split
  all_goals simp [State.instMake]

@[simp] theorem ownShareChange_mem (rq : Request) (s : State) : (ownShareChange rq s).1.core.mem = s.core.mem := by
  unfold ownShareChange
  simp only
  repeat' split
  all_goals simp

@[simp] theorem ownStallAssign_mem (rq : Request) (s : State) : (ownStallAssign rq s).1.core.mem = s.core.mem := by
  unfold ownStallAssign
  simp only
  split <;> simp

@[simp] theorem ownGuestFileBind_mem (rq : Request) (s : State) : (ownGuestFileBind rq s).1.core.mem = s.core.mem := by
  unfold ownGuestFileBind
  simp only
  repeat' split
  all_goals simp

/-! ### Supply (Machine/Supply.lean) -/

@[simp] theorem State.logEither_mem (s : State) (e : Ev) (data : List Byte) : (s.logEither e data).core.mem = s.core.mem := by
  simp [State.logEither]

@[simp] theorem State.feedsStep_mem (s : State) : s.feedsStep.core.mem = s.core.mem := by simp [State.feedsStep]

@[simp] theorem State.feedClose_mem (s : State) (feed : Bool) : (s.feedClose feed).core.mem = s.core.mem := by simp [State.feedClose]

@[simp] theorem State.charge_mem (s : State) (mv : U16) : (s.charge mv).core.mem = s.core.mem := by simp [State.charge]

@[simp] theorem State.holdupBegin_mem (s : State) (mv : U16) (cause : Byte) : (s.holdupBegin mv cause).core.mem = s.core.mem := by
  simp [State.holdupBegin, State.macsecZero]

@[simp] theorem State.startBegin_mem (s : State) (wake : Bool) : (s.startBegin wake).core.mem = s.core.mem := by simp [State.startBegin]

/-! ### Sleep and wake (Machine/Sleep.lean) -/

@[simp] theorem State.orderBegin_mem (s : State) (self : Bool) (order : Option (Nat × U16)) :
    (s.orderBegin self order).core.mem = s.core.mem := by simp [State.orderBegin]

@[simp] theorem State.orderBusy_mem (s : State) (source : Byte) : (s.orderBusy source).core.mem = s.core.mem := by
  unfold State.orderBusy
  repeat' split
  all_goals simp

@[simp] theorem State.drainEnd_mem (s : State) (cut : Bool) : (s.drainEnd cut).core.mem = s.core.mem := by simp [State.drainEnd]

@[simp] theorem State.orderClosed_mem (s : State) : s.orderClosed.core.mem = s.core.mem := by simp [State.orderClosed]

@[simp] theorem State.wakeLinks_mem (s : State) : s.wakeLinks.core.mem = s.core.mem := by simp [State.wakeLinks]

@[simp] theorem State.orderAbort_mem (s : State) (source : Nat) : (s.orderAbort source).core.mem = s.core.mem := by
  simp [State.orderAbort]

@[simp] theorem State.portDrained_mem (s : State) (p : Nat) : (s.portDrained p).core.mem = s.core.mem := by simp [State.portDrained]

@[simp] theorem State.commit_mem (s : State) : s.commit.core.mem = s.core.mem := by simp [State.commit]

@[simp] theorem State.commitStep_mem (s : State) (cut : Bool) : (s.commitStep cut).core.mem = s.core.mem := by
  simp [State.commitStep, State.votesDrop]

@[simp] theorem State.wakeKeep_mem (s old : State) : (s.wakeKeep old).core.mem = s.core.mem := by simp [State.wakeKeep]

@[simp] theorem State.sleepStart_mem (s : State) : s.sleepStart.core.mem = s.core.mem := by simp [State.sleepStart, State.loadsAfterSleep]

@[simp] theorem State.latchWake_mem (s : State) (n : Nat) (late : Bool) : (s.latchWake n late).core.mem = s.core.mem := by
  simp [State.latchWake]

@[simp] theorem State.wakeSeen_mem (s : State) (f : WakeFire) : (s.wakeSeen f).core.mem = s.core.mem := by simp [State.wakeSeen]

@[simp] theorem State.showArmed_mem (s : State) (n : Nat) : (s.showArmed n).core.mem = s.core.mem := by simp [State.showArmed]

/-! ### The stored configuration (Machine/Stored.lean) -/

@[simp] theorem State.loadDefaults_mem (s : State) (g : StoredCfg) : (s.loadDefaults g).core.mem = s.core.mem := by
  simp [State.loadDefaults]

@[simp] theorem State.flowPlace_mem (s : State) (f : Flow) : (s.flowPlace f).core.mem = s.core.mem := by
  unfold State.flowPlace
  simp only
  repeat' split
  all_goals simp

@[simp] theorem State.ethPortSet_mem (s : State) (p : Nat) (g : EthPort) : (s.ethPortSet p g).core.mem = s.core.mem := by
  simp [State.ethPortSet]

@[simp] theorem State.swPortSet_mem (s : State) (p : Nat) (g : SwPort) : (s.swPortSet p g).core.mem = s.core.mem := by
  simp [State.swPortSet]

@[simp] theorem State.applyLin_mem (s : State) (g : StoredIo) : (s.applyLin g).core.mem = s.core.mem := by simp [State.applyLin]

@[simp] theorem State.applyRules_mem (s : State) (g : StoredIo) : (s.applyRules g).core.mem = s.core.mem := by simp [State.applyRules]

@[simp] theorem State.applyStored_mem (s : State) (g : StoredCfg) : (s.applyStored g).core.mem = s.core.mem := by
  simp [State.applyStored, State.applySwitch, State.applyEth, State.applyBus, State.applyLoads, State.applyInputs, State.applyWake,
    State.applyCheckers, State.wakeForward, State.applyPass]

/-! ### SAFE (Machine/Safe.lean) -/

@[simp] theorem State.safeLog_mem (s : State) (cause : Byte) (pair lane : Nat) (pc : U64) :
    (s.safeLog cause pair lane pc).core.mem = s.core.mem := by simp [State.safeLog]

@[simp] theorem State.guestsEnd_mem (s : State) : s.guestsEnd.core.mem = s.core.mem := by simp [State.guestsEnd]

@[simp] theorem State.runtimeEnd_mem (s : State) : s.runtimeEnd.core.mem = s.core.mem := by simp [State.runtimeEnd, State.portsStored]

@[simp] theorem State.queuesEnd_mem (s : State) : s.queuesEnd.core.mem = s.core.mem := by simp [State.queuesEnd]

@[simp] theorem State.requestsClose_mem (s : State) : s.requestsClose.core.mem = s.core.mem := by
  unfold State.requestsClose
  repeat' split
  all_goals simp

@[simp] theorem State.blocksOn_mem (s0 : State) : s0.blocksOn.core.mem = s0.core.mem := by simp [State.blocksOn, State.guestRequestsClose]

@[simp] theorem State.pairsHeld_mem (s : State) : s.pairsHeld.core.mem = s.core.mem := by simp [State.pairsHeld]

@[simp] theorem State.pairTogether_mem (s : State) (cause : Byte) (pair : Nat) : (s.pairTogether cause pair).core.mem = s.core.mem := by
  simp [State.pairTogether]

@[simp] theorem ownPartial_mem (rq : Request) (s : State) : (ownPartial rq s).1.core.mem = s.core.mem := by
  unfold ownPartial
  split <;> simp

@[simp] theorem ownRun_mem (rq : Request) (s : State) : (ownRun rq s).1.core.mem = s.core.mem := by
  unfold ownRun
  repeat' split
  all_goals simp

@[simp] theorem State.pinChange_mem (s : State) (n : Nat) (claim : Bool) : (s.pinChange n claim).core.mem = s.core.mem := by
  simp [State.pinChange]

/-! ### The start (Machine/Start.lean) -/

@[simp] theorem State.selectSlot_mem (s : State) (n : Nat) : (s.selectSlot n).1.core.mem = s.core.mem := by
  unfold State.selectSlot
  simp only
  repeat' split
  all_goals simp

@[simp] theorem State.promote_mem (s : State) (n : Nat) : (s.promote n).core.mem = s.core.mem := by
  unfold State.promote
  simp only
  split <;> simp

@[simp] theorem State.enterRecovery_mem (s : State) : s.enterRecovery.core.mem = s.core.mem := by
  simp [State.enterRecovery, State.loadRecovers]

@[simp] theorem State.keysUp_mem (s : State) : s.keysUp.core.mem = s.core.mem := by simp [State.keysUp]

@[simp] theorem State.wakeLog_mem (s : State) : s.wakeLog.core.mem = s.core.mem := by simp [State.wakeLog]

@[simp] theorem State.strapLog_mem (s : State) : s.strapLog.core.mem = s.core.mem := by simp [State.strapLog]

@[simp] theorem State.bankMeasured_mem (s : State) (bankCap : U16) : (s.bankMeasured bankCap).core.mem = s.core.mem := by
  simp [State.bankMeasured]

@[simp] theorem State.svcLoad_mem (s : State) : s.svcLoad.core.mem = s.core.mem := by simp [State.svcLoad]

@[simp] theorem State.testsBegin_mem (s : State) (l : List Nat) : (s.testsBegin l).core.mem = s.core.mem := by simp [State.testsBegin]

@[simp] theorem State.selfTest_mem (s : State) (p : Nat) (pass : Bool) (lane : Nat) : (s.selfTest p pass lane).core.mem = s.core.mem := by
  simp [State.selfTest]

@[simp] theorem State.configFails_mem (s : State) : s.configFails.1.core.mem = s.core.mem := by
  unfold State.configFails
  simp only
  split <;> simp

@[simp] theorem State.carve_mem (s : State) : s.carve.core.mem = s.core.mem := by simp [State.carve]

@[simp] theorem State.measure_mem (s : State) (digest2 : List Byte) (digest3 : Option (List Byte)) :
    (s.measure digest2 digest3).core.mem = s.core.mem := by simp [State.measure, State.rootHandle]

@[simp] theorem State.selectImages_mem (s : State) : s.selectImages.1.core.mem = s.core.mem := by simp [State.selectImages]

@[simp] theorem State.pairsRun_mem (s : State) (l : List Nat) : (s.pairsRun l).core.mem = s.core.mem := by
  simp [State.pairsRun, State.bootHart]

@[simp] theorem State.startComplete_mem (s : State) : s.startComplete.core.mem = s.core.mem := by
  unfold State.startComplete
  simp only
  repeat' split
  all_goals simp

@[simp] theorem State.maybeGood_mem (s : State) : s.maybeGood.core.mem = s.core.mem := by simp [State.maybeGood]

@[simp] theorem State.blocksRunAgain_mem (s : State) : s.blocksRunAgain.core.mem = s.core.mem := by simp [State.blocksRunAgain]

@[simp] theorem State.portsWake_mem (s : State) : s.portsWake.core.mem = s.core.mem := by simp [State.portsWake]

/-! ### Health, ledger, updates and life cycle (Machine/Records.lean) -/

@[simp] theorem ownLedgerReaderCreate_mem (rq : Request) (s : State) : (ownLedgerReaderCreate rq s).1.core.mem = s.core.mem := by
  unfold ownLedgerReaderCreate
  split <;> simp

@[simp] theorem withStaging_mem (rq : Request) (s : State) {own : Staging → State × Ans}
    (hown : ∀ g, (own g).1.core.mem = s.core.mem) : (withStaging rq s own).1.core.mem = s.core.mem := by
  unfold withStaging
  split <;> simp [hown]

@[simp] theorem ownUpdateData_mem (rq : Request) (s : State) : (ownUpdateData rq s).1.core.mem = s.core.mem := by simp [ownUpdateData]

@[simp] theorem ownUpdateCommit_mem (rq : Request) (s : State) : (ownUpdateCommit rq s).1.core.mem = s.core.mem := by
  simp [ownUpdateCommit]

@[simp] theorem State.svcWrite_mem (s : State) (r : SvcRecord) : (s.svcWrite r).core.mem = s.core.mem := by simp [State.svcWrite]

@[simp] theorem ownUpdateAbort_mem (rq : Request) (s : State) : (ownUpdateAbort rq s).1.core.mem = s.core.mem := by simp [ownUpdateAbort]

@[simp] theorem State.slotsErased_mem (s : State) : s.slotsErased.core.mem = s.core.mem := by simp [State.slotsErased]

/-! ### What writes the memories -/

@[simp] theorem State.discardDramKey_memOk {s : State} (h : s.memOk) : MemOk s.discardDramKey.core.mem := ⟨List.Pairwise.nil, h.2⟩

theorem State.setClean_memOk {s : State} (a : Nat) (d : List Byte) (h : s.memOk) : MemOk (s.setClean a d).core.mem := by
  induction d generalizing s a with
  | nil => exact h
  | cons b d ih =>
    refine ih _ ?_
    split
    · exact h
    · exact State.setMem_memOk _ _ h

@[simp] theorem State.memPut_memOk {s : State} (a : Nat) (d : List Byte) (keep : Option Nat) (h : s.memOk) :
    MemOk (s.memPut a d keep).core.mem := by
  have hclean : MemOk ((s.unpoison a d.length).setClean a d).core.mem := State.setClean_memOk a d (by simpa using h)
  simp [State.memPut, hclean]

@[simp] theorem State.memWrite_memOk {s : State} (a : Nat) (d : List Byte) (h : s.memOk) : MemOk (s.memWrite a d).core.mem :=
  State.memPut_memOk a d none h

/-! ### The acceptance of a transaction -/

@[simp] theorem State.writeTarget_memOk {s : State} (x : Xact) (h : s.memOk) : MemOk (s.writeTarget x).1.core.mem := by
  unfold State.writeTarget
  simp only
  split <;> simp [h.mem]

@[simp] theorem State.amoTarget_memOk {s : State} (op : AmoOp) (x : Xact) (h : s.memOk) :
    MemOk (s.amoTarget op x).1.core.mem := by simp [State.amoTarget, h.mem]

@[simp] theorem State.scTarget_memOk {s : State} (x : Xact) (h : s.memOk) : MemOk (s.scTarget x).1.core.mem := by
  simp [State.scTarget, h.mem]

@[simp] theorem State.accept_memOk {s : State} (k : XKind) (op : AmoOp) (x : Xact) (h : s.memOk) :
    MemOk (s.accept k op x).1.core.mem := by
  unfold State.accept
  simp only
  repeat' split
  all_goals simp [h.mem]

@[simp] theorem State.submit_memOk {s : State} (w : Waiting) (n : Nat) (h : s.memOk) : MemOk (s.submit w n).core.mem := by
  have hmeter : MemOk (s.meter w.x.attr w.x.addr.toNat n).1.core.mem := by simpa using h
  unfold State.submit
  simp only
  generalize s.meter w.x.attr w.x.addr.toNat n = q at hmeter ⊢
  obtain ⟨u, _ | c⟩ := q <;> simp_all

@[simp] theorem State.transact_memOk {s : State} (k : XKind) (op : AmoOp) (x : Xact) (n : Nat) (h : s.memOk) :
    MemOk (s.transact k op x n).core.mem := State.submit_memOk _ n h

@[simp] theorem State.sbAccess_memOk {s : State} (write : Bool) (addr : U64) (size : Nat) (data : U64) (h : s.memOk) :
    MemOk (s.sbAccess write addr size data).core.mem := by
  unfold State.sbAccess
  split <;> simp [h.mem]

@[simp] theorem State.dmiWrite_memOk {s : State} (a : Nat) (v : U32) (h : s.memOk) : MemOk (s.dmiWrite a v).core.mem := by
  simp [State.dmiWrite, h.mem]

theorem State.arbitrate_memOk {s : State} (h : s.memOk) : MemOk s.arbitrate.core.mem := by
  unfold State.arbitrate
  split
  · exact h
  · simp [State.returned, h.mem]

/-! ### The engines -/

@[simp] theorem State.dmaRead_memOk {s : State} (t : Attr) (a n : Nat) (h : s.memOk) : MemOk (s.dmaRead t a n).1.core.mem :=
  State.foldl_fst_memOk (fun p b hp => by split <;> simp [hp.mem]) _ h

@[simp] theorem State.dmaWrite_memOk {s : State} (t : Attr) (a : Nat) (d : List Byte) (h : s.memOk) :
    MemOk (s.dmaWrite t a d).1.core.mem :=
  State.foldl_fst_memOk (fun p b hp => by split <;> simp [hp.mem]) _ h

@[simp] theorem State.recordWrite_memOk {s : State} (t : Attr) (a : Nat) (d : List Byte) (msi : Option (Bind × Bool)) (h : s.memOk) :
    MemOk (s.recordWrite t a d msi).1.core.mem := by
  unfold State.recordWrite
  simp only
  split <;> simp [h.mem]

@[simp] theorem State.qpDone_memOk {s : State} (q : Nat) (t : Attr) (a : Nat) (d : List Byte) (head : Qp → Qp) (h : s.memOk) :
    MemOk (s.qpDone q t a d head).core.mem := by simp [State.qpDone, h.mem]

@[simp] theorem State.txDone_memOk {s : State} (q : Nat) (t : Attr) (a : Nat) (st : U16) (h : s.memOk) :
    MemOk (s.txDone q t a st).core.mem := State.qpDone_memOk _ _ _ _ _ h

@[simp] theorem State.txDesc_memOk {s : State} (q : Nat) (t : Attr) (h : s.memOk) : MemOk (s.txDesc q t).core.mem := by
  have hread (a b m n : Nat) : MemOk ((s.dmaRead t a m).1.dmaRead t b n).1.core.mem :=
    State.dmaRead_memOk t b n (State.dmaRead_memOk t a m h)
  simp [State.txDesc, h.mem, hread]

@[simp] theorem State.rxDesc_memOk {s : State} (q : Nat) (t : Attr) (h : s.memOk) : MemOk (s.rxDesc q t).core.mem := by
  have hcopy (a b m i : Nat) (d : List Byte) : MemOk (((s.dmaRead t a m).1.rxBegin i).dmaWrite t b d).1.core.mem :=
    State.dmaWrite_memOk t b d (by simp [h.mem])
  unfold State.rxDesc
  simp only
  repeat' split
  all_goals simp [h.mem, hcopy]

@[simp] theorem State.qpFlush_memOk {s : State} (q : Nat) (st : U16) (quiet : Bool) (h : s.memOk) :
    MemOk (s.qpFlush q st quiet).core.mem := by
  unfold State.qpFlush
  split
  · exact h
  · exact State.foldl_memOk (fun _ t ht => by simp [ht.mem]) _ (State.foldl_memOk (fun _ t ht => by simp [ht.mem]) _ h)

@[simp] theorem State.qpAbort_memOk {s : State} (q : Nat) (st : U16) (quiet : Bool) (h : s.memOk) :
    MemOk (s.qpAbort q st quiet).core.mem := by
  unfold State.qpAbort
  simp only
  repeat' split
  all_goals simp [h.mem]

@[simp] theorem State.jobRecord_memOk {s : State} (r slot : Nat) (d : Desc) (st : U16) (done : Nat) (invalid irq : Bool)
    (h : s.memOk) : MemOk (s.jobRecord r slot d st done invalid irq).core.mem := by simp [State.jobRecord, h.mem]

@[simp] theorem State.jobFetch_memOk {s : State} (ring : Nat) (h : s.memOk) : MemOk (s.jobFetch ring).core.mem := by
  unfold State.jobFetch
  simp only
  repeat' split
  all_goals simp [h.mem]

@[simp] theorem State.chunk_memOk {s : State} (j : Job) (h : s.memOk) : MemOk (s.chunk j).core.mem := by
  have hcopy (a b n : Nat) (d : List Byte) :
      MemOk ((s.dmaRead (s.ringAttr j.ring) a n).1.dmaWrite (s.ringAttr j.ring) b d).1.core.mem :=
    State.dmaWrite_memOk _ b d (State.dmaRead_memOk _ a n h)
  simp [State.chunk, h.mem, hcopy]

@[simp] theorem State.jobFinish_memOk {s : State} (j : Job) (h : s.memOk) : MemOk (s.jobFinish j).1.core.mem := by
  simp [State.jobFinish, h.mem]

@[simp] theorem State.jobEnd_memOk {s : State} (j : Job) (st : U16) (wrote irq : Bool) (h : s.memOk) :
    MemOk (s.jobEnd j st wrote irq).core.mem := State.jobRecord_memOk _ _ _ _ _ _ _ h

@[simp] theorem State.ringFlush_memOk {s : State} (r : Nat) (st : U16) (jobs irq : Bool) (h : s.memOk) :
    MemOk (s.ringFlush r st jobs irq).core.mem := by
  refine State.foldl_memOk (fun _ t ht => by simp [ht.mem]) _ ?_
  split
  · exact State.foldl_memOk (fun _ t ht => by simp [ht.mem]) _ h
  · exact h

/-! ### Blocks and instances -/

@[simp] theorem State.lineLost_memOk {s : State} (line : Nat) (h : s.memOk) : MemOk (s.lineLost line).core.mem :=
  State.setMem_memOk _ _ h

@[simp] theorem State.fnStop_memOk {s : State} (n kind sel : Nat) (h : s.memOk) : MemOk (s.fnStop n kind sel).core.mem := by
  have hqps (l : List Nat) : MemOk (l.foldl (fun t q => t.qpFlush q 0x0021#16 false) s).core.mem :=
    State.foldl_memOk (fun _ t ht => by simp [ht.mem]) l h
  have hrings (l : List Nat) : MemOk (l.foldl (fun t r => t.ringFlush r 0x0021#16 false true) s).core.mem :=
    State.foldl_memOk (fun _ t ht => by simp [ht.mem]) l h
  simp [State.fnStop, h.mem, hqps, hrings]

@[simp] theorem State.fnAbort_memOk {s : State} (n kind sel : Nat) (h : s.memOk) : MemOk (s.fnAbort n kind sel).core.mem := by
  have hqps (l : List Nat) : MemOk (l.foldl (fun t q => t.qpAbort q 0x0021#16 false) s).core.mem :=
    State.foldl_memOk (fun _ t ht => by simp [ht.mem]) l h
  have hjobs (l : List Nat) :
      MemOk (l.foldl (fun t r => (t.ringJobs r).foldl (fun u j => u.jobEnd j 0x0021#16 j.wrote true) t) s).core.mem :=
    State.foldl_memOk (fun _ _ ht => State.foldl_memOk (fun _ u hu => by simp [hu.mem]) _ ht) l h
  simp [State.fnAbort, h.mem, hqps, hjobs]

@[simp] theorem State.instAbort_memOk {s : State} (n : Nat) (h : s.memOk) : MemOk (s.instAbort n).core.mem := by
  have hqps (l : List Nat) : MemOk (l.foldl (fun t q => t.qpAbort q 0x0022#16 true) s).core.mem :=
    State.foldl_memOk (fun _ t ht => by simp [ht.mem]) l h
  have hrings (l : List Nat) {t : State} (ht : t.memOk) : MemOk (l.foldl (fun t r => t.ringFlush r 0x0022#16 true false) t).core.mem :=
    State.foldl_memOk (fun _ t ht => by simp [ht.mem]) l ht
  simp [State.instAbort, hqps, hrings]

@[simp] theorem State.instReport_memOk {s : State} (n : Nat) (h : s.memOk) : MemOk (s.instReport n).core.mem := by
  simp [State.instReport, h.mem]

@[simp] theorem ownFnDisable_memOk (rq : Request) {s : State} (h : s.memOk) : MemOk (ownFnDisable rq s).1.core.mem := by
  unfold ownFnDisable
  simp only
  split <;> simp [h.mem]

/-! ### Resets, SAFE and the start -/

theorem memOk_nil : MemOk ([], []) := ⟨List.Pairwise.nil, List.Pairwise.nil, rfl⟩

@[simp] theorem State.powerDown_memOk (s : State) (ok waiting : Bool) : MemOk (s.powerDown ok waiting).core.mem := memOk_nil

@[simp] theorem State.domainsReset_memOk (s : State) : MemOk s.domainsReset.core.mem := memOk_nil

@[simp] theorem State.pinReach_memOk (s : State) : MemOk s.pinReach.core.mem := by
  rw [State.pinReach_core]
  exact memOk_nil

@[simp] theorem State.memoriesWiped_memOk (s : State) : MemOk s.memoriesWiped.core.mem := memOk_nil

@[simp] theorem State.safeEntry_memOk {s : State} (cause : Byte) (pair lane : Nat) (pc : U64) (h : s.memOk) :
    MemOk (s.safeEntry cause pair lane pc).core.mem := by simp [State.safeEntry, h.mem]

@[simp] theorem State.safeTrigger_memOk {s : State} (cause : Byte) (pair lane : Nat) (pc : U64) (h : s.memOk) :
    MemOk (s.safeTrigger cause pair lane pc).core.mem := by simp [State.safeTrigger, State.safeCommitted, h.mem]

@[simp] theorem State.placed_memOk {s : State} (secure mgr : List (A40 × List Byte)) (h : s.memOk) :
    MemOk (s.placed secure mgr).core.mem := by
  have hput (p : A40 × List Byte) : KeepsMemOk (fun t => t.setMem p.1.toNat p.2) := fun _ => State.setMem_memOk _ _
  unfold State.placed
  simp only
  split
  · exact State.foldl_memOk hput _ (State.foldl_memOk hput _ h)
  · exact State.foldl_memOk hput _ h

/-! ### Shapes of outcomes -/

@[simp] theorem fin_memOk {s : State} : (fin s).MemOk ↔ MemOk s.core.mem := by simp [fin]

@[simp] theorem State.issue_memOk_iff {s : State} (t : Attr) {k : Attr → Out} (h : s.memOk) :
    (s.issue t k).MemOk ↔ (initListed t.init = true → s.mayIssue t = true → (k (s.stamp t)).MemOk) := by
  by_cases hl : initListed t.init <;> by_cases hi : s.mayIssue t <;> simp [State.issue, hl, hi, h.mem]

@[simp] theorem State.issueX_memOk_iff {s : State} (x : Xact) {k : Xact → Out} (h : s.memOk) : (s.issueX x k).MemOk ↔
    (initListed x.attr.init = true → s.mayIssue x.attr = true → (k { x with attr := s.stamp x.attr }).MemOk) :=
  State.issue_memOk_iff x.attr h

@[simp] theorem State.aligned_memOk_iff {s : State} (x : Xact) (n cause : Nat) {k : Out} (h : s.memOk) :
    (s.aligned x n cause k).MemOk ↔ (x.misaligned n = false → k.MemOk) := by
  by_cases hm : x.misaligned n <;> simp [State.aligned, hm, h.mem]

@[simp] theorem serveWith_memOk (c : CmdSpec) (rq : Request) {s : State} (valid : List Byte → Bool) (retiring : Bool)
    {own : State → State × Ans} (h : s.memOk) (hown : KeepsMemOk (fun t => (own t).1)) :
    (serveWith c rq s valid retiring own).MemOk := by
  have hheard : MemOk (own (s.heard rq)).1.core.mem := hown _ (by simpa using h)
  unfold serveWith
  simp only
  repeat' split
  all_goals simp [h.mem, hheard]

@[simp] theorem serve_memOk (c : CmdSpec) (rq : Request) {s : State} (valid : List Byte → Bool) {own : State → State × Ans}
    (h : s.memOk) (hown : KeepsMemOk (fun t => (own t).1)) : (serve c rq s valid own).MemOk :=
  serveWith_memOk c rq valid false h hown

@[simp] theorem State.qpTailRow_memOk {s : State} (i o : Nat) (t : Attr) (value : U16) {own : State → State} (h : s.memOk)
    (hown : KeepsMem own) : (s.qpTailRow i o t value own).MemOk := by
  simp [State.qpTailRow, h.mem, keepsMem_iff.mp hown]

@[simp] theorem State.winRow_memOk {s : State} (x : Xact) (len : Nat) (wr : Bool) {own : State → State × Option Resp × List Byte}
    (h : s.memOk) (hown : KeepsMem (fun t => (own t).1)) : (s.winRow x len wr own).MemOk := by
  have hs : (own s).1.core.mem = s.core.mem := hown s
  unfold State.winRow
  split
  · exact Out.next_memOk.mpr h
  · refine (State.aligned_memOk_iff _ _ _ h).mpr fun _ => ?_
    split
    · simp [State.held_mem ‹_›, h.mem]
    · split
      · simp only
        split <;> simp [hs, h.mem]
      · simp [h.mem]

/-! ### Ingress and forwarding (Machine/Forward.lean) -/

@[simp] theorem execFrameIngress_memOk (port : Nat) (f : RawFrame) {s : State} (h : s.memOk) : (execFrameIngress port f s).MemOk := by
  unfold execFrameIngress
  cases hdrop : s.macDrop port f with
  | some t => simp [h.mem, State.macDrop_mem hdrop]
  | none =>
    cases hb : ((s.goodFrame port f.bytes.length).macsecRx port f).2 <;> simp [h.mem, hb]

@[simp] theorem execCutThroughStart_memOk (port : Nat) (f : RawFrame) {s : State} (h : s.memOk) :
    (execCutThroughStart port f s).MemOk := by
  unfold execCutThroughStart
  simp only
  repeat' split
  all_goals simp [h.mem]

/-! ### CAN (Machine/Can.lean) -/

@[simp] theorem execCanTxStart_memOk (sof : CanSof) {s : State} (h : s.memOk) : (execCanTxStart sof s).MemOk := by
  unfold execCanTxStart
  simp only
  repeat' split
  all_goals simp [h.mem]

@[simp] theorem execCanTxSuccess_memOk (chan : Nat) {s : State} (h : s.memOk) : (execCanTxSuccess chan s).MemOk := by
  unfold execCanTxSuccess
  repeat' split
  all_goals simp [h.mem]

@[simp] theorem execCanArbitrationLost_memOk (chan : Nat) {s : State} (h : s.memOk) : (execCanArbitrationLost chan s).MemOk := by
  unfold execCanArbitrationLost
  repeat' split
  all_goals simp [h.mem]

@[simp] theorem execCanBusError_memOk (chan : Nat) (fault : CanFault) (more : Nat) (spared : Bool) {s : State} (h : s.memOk) :
    (execCanBusError chan fault more spared s).MemOk := by
  unfold execCanBusError
  simp only
  repeat' split
  all_goals simp [h.mem]

@[simp] theorem execCanScheduleColumn_memOk (chan : Nat) {s : State} (h : s.memOk) : (execCanScheduleColumn chan s).MemOk := by
  unfold execCanScheduleColumn
  repeat' split
  all_goals simp [h.mem]

@[simp] theorem execCanScheduleChange_memOk (chan : Nat) {s : State} (h : s.memOk) : (execCanScheduleChange chan s).MemOk := by
  unfold execCanScheduleChange
  repeat' split
  all_goals simp [h.mem]

@[simp] theorem execCanConfigApply_memOk (chan : Nat) {s : State} (h : s.memOk) : (execCanConfigApply chan s).MemOk := by
  unfold execCanConfigApply
  repeat' split
  all_goals simp [h.mem]

/-! ### LIN (Machine/Lin.lean) -/

@[simp] theorem execLinSlotStart_memOk (chan : Nat) {s : State} (h : s.memOk) : (execLinSlotStart chan s).MemOk := by
  unfold execLinSlotStart
  simp only
  repeat' split
  all_goals simp [h.mem]

@[simp] theorem execLinResponseReceived_memOk (chan : Nat) (bytes : List Byte) {s : State} (h : s.memOk) :
    (execLinResponseReceived chan bytes s).MemOk := by
  unfold execLinResponseReceived
  repeat' split
  all_goals simp [h.mem]

@[simp] theorem execLinResponseError_memOk (chan : Nat) (kind : LinError) {s : State} (h : s.memOk) :
    (execLinResponseError chan kind s).MemOk := by
  unfold execLinResponseError
  repeat' split
  all_goals simp [h.mem]

@[simp] theorem execLinNoResponse_memOk (chan : Nat) {s : State} (h : s.memOk) : (execLinNoResponse chan s).MemOk := by
  unfold execLinNoResponse
  repeat' split
  all_goals simp [h.mem]

/-! ### The frame gateway (Machine/Gateway.lean) -/

@[simp] theorem execGatewayEthFrame_memOk (frame : Nat) {s : State} (h : s.memOk) : (execGatewayEthFrame frame s).MemOk := by
  unfold execGatewayEthFrame
  split
  · exact Out.next_memOk.mpr h
  · extract_lets s1
    split
    · simp [h.mem, s1]
    · rw [fin_memOk, State.foldl_mem]
      · simp [h.mem, s1]
      · intro m t
        split
        · split <;> simp
        · simp

/-! ### Protection of load channels (Machine/Protect.lean) -/

@[simp] theorem execPowerStageShed_memOk (feed : Bool) {s : State} (h : s.memOk) : (execPowerStageShed feed s).MemOk := by
  unfold execPowerStageShed
  simp only
  split <;> simp [h.mem]

@[simp] theorem execLoadRestore_memOk {s : State} (h : s.memOk) : (execLoadRestore s).MemOk := by
  unfold execLoadRestore
  split <;> simp [h.mem]

/-! ### Keys (Machine/Keys.lean) -/

@[simp] theorem execKeySignComplete_memOk {s : State} (h : s.memOk) : (execKeySignComplete s).MemOk := by
  unfold execKeySignComplete
  split <;> simp [h.mem]

@[simp] theorem execAttestComplete_memOk {s : State} (h : s.memOk) : (execAttestComplete s).MemOk := by
  unfold execAttestComplete
  split <;> simp [h.mem]

/-! ### Harts (Machine/Harts.lean) -/

@[simp] theorem execToll_memOk (hart : Nat) (word : U32) {s : State} (h : s.memOk) : (execToll hart word s).MemOk := by
  unfold execToll
  repeat' split
  all_goals simp [h.mem]

@[simp] theorem execInterruptTake_memOk (hart cause : Nat) {s : State} (h : s.memOk) : (execInterruptTake hart cause s).MemOk := by
  unfold execInterruptTake
  simp only
  repeat' split
  all_goals simp [h.mem]

/-! ### The Pass link (Machine/PassLink.lean) -/

@[simp] theorem execPassLaneRetry_memOk (lanes : BitVec 4) {s : State} (h : s.memOk) : (execPassLaneRetry lanes s).MemOk := by
  unfold execPassLaneRetry
  repeat' split
  all_goals simp [h.mem]

@[simp] theorem execPartnerFaultChange_memOk (low : Bool) {s : State} (h : s.memOk) : (execPartnerFaultChange low s).MemOk := by
  unfold execPartnerFaultChange
  repeat' split
  all_goals simp [h.mem]

@[simp] theorem execPassPostedWrite_memOk (x : Xact) {s : State} (h : s.memOk) : (execPassPostedWrite x s).MemOk := by
  refine (State.issueX_memOk_iff x h).mpr fun _ _ => ?_
  split
  · exact Out.next_memOk.mpr h
  · split
    · exact Out.next_memOk.mpr h
    · refine (State.aligned_memOk_iff _ _ _ h).mpr fun _ => ?_
      split
      · simp [State.held_mem ‹_›, h.mem]
      · split <;> simp [h.mem]

@[simp] theorem execPassReadDataArrive_memOk (slot : Nat) (ok : Bool) (data : List Byte) {s : State} (h : s.memOk) :
    (execPassReadDataArrive slot ok data s).MemOk := by
  unfold execPassReadDataArrive
  repeat' split
  all_goals simp [h.mem]

@[simp] theorem execPassReadSlotTimeout_memOk (slot : Nat) {s : State} (h : s.memOk) : (execPassReadSlotTimeout slot s).MemOk := by
  unfold execPassReadSlotTimeout
  repeat' split
  all_goals simp [h.mem]

@[simp] theorem execPassReadyExpiry_memOk (slot : Nat) {s : State} (h : s.memOk) : (execPassReadyExpiry slot s).MemOk := by
  unfold execPassReadyExpiry
  repeat' split
  all_goals simp [h.mem]

@[simp] theorem execPassWriteResponse_memOk (tracker : Nat) (ok : Bool) {s : State} (h : s.memOk) :
    (execPassWriteResponse tracker ok s).MemOk := by
  unfold execPassWriteResponse
  repeat' split
  all_goals simp [h.mem]

@[simp] theorem execPassWriteTimeout_memOk (tracker : Nat) {s : State} (h : s.memOk) : (execPassWriteTimeout tracker s).MemOk := by
  unfold execPassWriteTimeout
  repeat' split
  all_goals simp [h.mem]

@[simp] theorem execPassErrorMessageArrive_memOk (win : Nat) (addr : A40) (origin : Byte) (inst : BitVec 6) (sec : Bool)
    (code : Resp) {s : State} (h : s.memOk) : (execPassErrorMessageArrive win addr origin inst sec code s).MemOk := by
  unfold execPassErrorMessageArrive
  repeat' split
  all_goals simp [h.mem]

/-! ### Stalls, sessions and the relay (Machine/Stalls.lean) -/

@[simp] theorem execSessionClose_memOk (rq : Request) {s : State} (h : s.memOk) : (execSessionClose rq s).MemOk := by
  unfold execSessionClose
  repeat' split
  all_goals simp [h.mem]

@[simp] theorem execRemoteRequestRelay_memOk (rq : Request) {s : State} (h : s.memOk) : (execRemoteRequestRelay rq s).MemOk := by
  unfold execRemoteRequestRelay
  repeat' split
  all_goals simp [h.mem]

@[simp] theorem execRemoteResponseReturn_memOk (stall : Nat) (rsp : Response) {s : State} (h : s.memOk) :
    (execRemoteResponseReturn stall rsp s).MemOk := by
  unfold execRemoteResponseReturn
  repeat' split
  all_goals simp [h.mem]

@[simp] theorem execRemoteTimeout_memOk (stall : Nat) {s : State} (h : s.memOk) : (execRemoteTimeout stall s).MemOk := by
  unfold execRemoteTimeout
  repeat' split
  all_goals simp [h.mem]

@[simp] theorem execPartnerRequestArrive_memOk (rq : Request) {s : State} (h : s.memOk) : (execPartnerRequestArrive rq s).MemOk := by
  unfold execPartnerRequestArrive
  split <;> simp [h.mem]

/-! ### Register rows, memory and transactions (Machine/Bus.lean) -/

@[simp] theorem execArbitrationAging_memOk (index : Nat) {s : State} (h : s.memOk) : (execArbitrationAging index s).MemOk := by
  unfold execArbitrationAging
  split <;> simp [h.mem]

@[simp] theorem execDebugSystemBusAccess_memOk (write : Bool) (addr : U64) (size : Nat) (data : U64) {s : State} (h : s.memOk) :
    (execDebugSystemBusAccess write addr size data s).MemOk := by
  unfold execDebugSystemBusAccess
  split <;> simp [h.mem]

@[simp] theorem execRegisterWrite_memOk (w : RegOp) {s : State} (h : s.memOk) : (execRegisterWrite w s).MemOk := by
  unfold execRegisterWrite
  split <;> simp [h.mem]

/-! ### Transmission, gates and time (Machine/Ethernet.lean) -/

@[simp] theorem execFrameEgressComplete_memOk (port frame : Nat) (fcsBad : Bool) {s : State} (h : s.memOk) :
    (execFrameEgressComplete port frame fcsBad s).MemOk := by
  unfold execFrameEgressComplete
  repeat' split
  all_goals simp [h.mem]

@[simp] theorem execMulticastService_memOk (port cls : Nat) (ready : BitVec 30) {s : State} (h : s.memOk) :
    (execMulticastService port cls ready s).MemOk := by
  unfold execMulticastService
  repeat' split
  all_goals simp [h.mem]

@[simp] theorem execGateEntryAdvance_memOk (port : Nat) {s : State} (h : s.memOk) : (execGateEntryAdvance port s).MemOk := by
  unfold execGateEntryAdvance
  repeat' split
  all_goals simp [h.mem]

@[simp] theorem execGateListSwitchover_memOk (port : Nat) {s : State} (h : s.memOk) : (execGateListSwitchover port s).MemOk := by
  unfold execGateListSwitchover
  repeat' split
  all_goals simp [h.mem]

@[simp] theorem execPtpMessageReceive_memOk (port : Nat) (m : PtpMessage) {s : State} (h : s.memOk) :
    (execPtpMessageReceive port m s).MemOk := by
  unfold execPtpMessageReceive
  repeat' split
  all_goals simp [h.mem]

/-! ### Engines that act on memory (Machine/Engines.lean) -/

@[simp] theorem execQpTxDescriptorProcess_memOk (qp : Nat) {s : State} (h : s.memOk) : (execQpTxDescriptorProcess qp s).MemOk := by
  unfold execQpTxDescriptorProcess
  repeat' split
  all_goals simp [h.mem]

@[simp] theorem execQpRxCopy_memOk (qp : Nat) {s : State} (h : s.memOk) : (execQpRxCopy qp s).MemOk := by
  unfold execQpRxCopy
  repeat' split
  all_goals simp [h.mem]

@[simp] theorem execKeyRegisterLoad_memOk (job : Nat) {s : State} (h : s.memOk) : (execKeyRegisterLoad job s).MemOk := by
  unfold execKeyRegisterLoad
  repeat' split
  all_goals simp [h.mem]

@[simp] theorem execJobChunk_memOk (job : Nat) {s : State} (h : s.memOk) : (execJobChunk job s).MemOk := by
  unfold execJobChunk
  split <;> simp [h.mem]

@[simp] theorem execJobComplete_memOk (job : Nat) {s : State} (h : s.memOk) : (execJobComplete job s).MemOk := by
  unfold execJobComplete
  repeat' split
  all_goals simp [h.mem]

/-! ### Power of blocks (Machine/Blocks.lean) -/

@[simp] theorem execModePartialEntered_memOk {s : State} (h : s.memOk) : (execModePartialEntered s).MemOk := by
  unfold execModePartialEntered
  split <;> simp [h.mem]

/-! ### Handles (Machine/Handles.lean) -/

@[simp] theorem execHandleRetireComplete_memOk (handle : U32) {s : State} (h : s.memOk) : (execHandleRetireComplete handle s).MemOk := by
  unfold execHandleRetireComplete
  split <;> simp [h.mem]

@[simp] theorem execHandleRetireTimeout_memOk (handle : U32) (unit : Nat) {s : State} (h : s.memOk) :
    (execHandleRetireTimeout handle unit s).MemOk := by
  unfold execHandleRetireTimeout
  split <;> simp [h.mem]

@[simp] theorem execHandleQuery_memOk (rq : Request) {s : State} (h : s.memOk) : (execHandleQuery rq s).MemOk := by
  refine serveWith_memOk _ rq _ _ h fun t ht => ?_
  simp only
  split <;> exact ht

/-! ### Resets of instances (Machine/Resets.lean) -/

@[simp] theorem execFnDisableDrainTimeout_memOk (inst : Nat) {s : State} (h : s.memOk) : (execFnDisableDrainTimeout inst s).MemOk := by
  unfold execFnDisableDrainTimeout
  repeat' split
  all_goals simp [h.mem]

@[simp] theorem execFnDisableComplete_memOk (inst : Nat) {s : State} (h : s.memOk) : (execFnDisableComplete inst s).MemOk := by
  unfold execFnDisableComplete
  repeat' split
  all_goals simp [h.mem]

/-! ### Sleep and wake (Machine/Sleep.lean) -/

@[simp] theorem execWakeEvent_memOk (fires : List WakeFire) {s : State} (h : s.memOk) : (execWakeEvent fires s).MemOk := by
  unfold execWakeEvent
  repeat' split
  all_goals simp [h.mem]

@[simp] theorem execFalseWakeTimeout_memOk {s : State} (h : s.memOk) : (execFalseWakeTimeout s).MemOk := by
  unfold execFalseWakeTimeout
  simp only
  repeat' split
  all_goals simp [h.mem]

/-! ### The start (Machine/Start.lean) -/

@[simp] theorem execAmindFirmwareAuthenticated_memOk (report : FirmwareReport) {s : State} (h : s.memOk) :
    (execAmindFirmwareAuthenticated report s).MemOk := by
  unfold execAmindFirmwareAuthenticated
  simp only
  repeat' split
  all_goals simp [h.mem]

@[simp] theorem execStartConfigApplied_memOk (cfg : StoredCfg) (bankCap : U16) {s : State} (h : s.memOk) :
    (execStartConfigApplied cfg bankCap s).MemOk := by
  unfold execStartConfigApplied
  simp only
  repeat' split
  all_goals simp [h.mem]

@[simp] theorem execModeRunEntered_memOk (fails : List (Nat × Nat)) {s : State} (h : s.memOk) : (execModeRunEntered fails s).MemOk := by
  unfold execModeRunEntered
  split <;> simp [h.mem]

/-! ### Health, ledger, updates and life cycle (Machine/Records.lean) -/

@[simp] theorem execLedgerAonCommit_memOk {s : State} (h : s.memOk) : (execLedgerAonCommit s).MemOk := by
  unfold execLedgerAonCommit
  split <;> simp [h.mem]

@[simp] theorem execUpdateCommitComplete_memOk (ownerEc ownerPq : List Byte) (cfg : StoredCfg) (record : SvcRecord) {s : State} (h :
    s.memOk) :
    (execUpdateCommitComplete ownerEc ownerPq cfg record s).MemOk := by
  unfold execUpdateCommitComplete
  repeat' split
  all_goals simp [h.mem]

@[simp] theorem execLifecycleTransitionCommit_memOk {s : State} (h : s.memOk) : (execLifecycleTransitionCommit s).MemOk := by
  unfold execLifecycleTransitionCommit
  split <;> simp [h.mem]

/-! ### Commands that write more than once -/

@[simp] theorem execQuiesceTimeout_memOk (cut : QuiesceCut) {s : State} (h : s.memOk) : (execQuiesceTimeout cut s).MemOk := by
  have hlost (l : List Nat) : MemOk (l.foldl State.lineLost s).core.mem :=
    State.foldl_memOk (fun _ t ht => by simp [ht.mem]) l h
  simp [execQuiesceTimeout, h.mem, hlost]

@[simp] theorem execFnDisable_memOk (rq : Request) {s : State} (h : s.memOk) : (execFnDisable rq s).MemOk :=
  serve_memOk _ rq _ h fun _ ht => ownFnDisable_memOk rq ht

@[simp] theorem execModeRequest_memOk (rq : Request) {s : State} (h : s.memOk) : (execModeRequest rq s).MemOk :=
  serve_memOk _ rq _ h fun t ht => by
    have hsafe : MemOk (t.safeTrigger 5#8 0 0 0#64).core.mem := State.safeTrigger_memOk _ _ _ _ ht
    simp [hsafe, ht.mem]

@[simp] theorem execSecureImagePlaced_memOk (digest2 : List Byte) (digest3 : Option (List Byte)) (entry mgrEntry : A40)
    (parts : ImageParts) {s : State} (h : s.memOk) : (execSecureImagePlaced digest2 digest3 entry mgrEntry parts s).MemOk := by
  have hplaced : ((s.selectImages.1.measure digest2 digest3).carve.placed parts.secure parts.mgr).memOk :=
    State.placed_memOk _ _ (by simp [h.mem])
  have hrecord (a : Nat) (d : List Byte) :
      MemOk (((s.selectImages.1.measure digest2 digest3).carve.placed parts.secure parts.mgr).setMem a d).core.mem :=
    State.setMem_memOk d a hplaced
  simp [execSecureImagePlaced, h.mem, hrecord]

/-! ### Every command and every step -/

theorem exec_memOk (c : Instr) {s : State} (h : s.memOk) : Out.MemOk (exec c s) := by
  cases c <;> simp [exec, h.mem,
    execLinkUp, execLinkDown, execCanRecessiveSequence, execCanBusIntegration, execCanFrameReceived, execCanProtocolException,
    execObjTxReqWrite, execObjTxAbortWrite, execObjUpdWrite, execObjRxIdRead, execObjRxEndRead, execCanLockExpiry, execMapTxdoneWrite,
    execCanSetCreate, execCanChannelConfig, execCanRecover, execCanWakeFilter, execCanScheduleSet, execLinHeaderReceived,
    execLinGotoSleepReceived, execLinBusIdleTimeout, execLinWakeupDetected, execLinFrmDataHiWrite, execLinFrmStatRead,
    execLinGotoSleepWrite, execLinWakeWrite, execLinSchedSelWrite, execLinCreate, execLinScheduleSet, execGatewayTap,
    execGatewayBatchHoldExpiry, execGatewayQueueAgeExpiry, execGwRuleSet, execGwRuleClear, execGwStats, execLoadOutWrite,
    execLoadOnSetWrite, execLoadOnClrWrite, execLoadGroupCreate, execLoadChannelConfig, execLoadSet, execLoadLatchClear, execLoadStatus,
    execSoftStartComplete, execOvercurrentTrip, execRetryPauseEnd, execRetryGoodTimer, execFetTemperatureSample, execWireModelUpdate,
    execInrushWindowEnd, execHoldWindowExpiry, execLimpSwitchOn, execVbusFunctionalRangeReached, execOffStateTestStart,
    execOffStateTestEnd, execUndercurrentTimer, execReverseCurrentBlock, execReverseBlockClear, execGroupMsiRateTimer, execLoadShed,
    execDebounceComplete, execAnalogThresholdChange, execInEvtClearWrite, execInWakeChange, execSensorSupplyCurrentLimit,
    execSensorSupplyRetry, execInputGroupCreate, execInputConfig, execKeyDerive, execKeyInvalidate, execKeySign, execAttest,
    execMacsecSaSet, execKeyStoreAlarm, execRingCreate, execCrSqTailWrite, execTbLowWordRead, execComparatorFire, execTcCtrlWrite,
    execTimerCreate, execTrapEntry, execDebugModeEntry, execDebugResume, execDebugAccessRegister, execMret, execSret, execTollret,
    execMworldWrite, execFence, execFenceI, execHartTimerMatch, execL1ParityError, execL2CorrectableError, execL2UncorrectableError,
    execPoisonedLineConsumed, execQpTxTailWrite, execQpRxTailWrite, execPassLinkLoss, execPassLinkTrained, execPassLaneFail,
    execRoleClashRetry, execHeartbeatSend, execSidebandSend, execSidebandReceive, execHeartbeatReceive, execHeartbeatLoss,
    execPartnerStartupTimeout, execAutoPartnerReset, execPassWindowRead, execPassNonpostedWrite, execPassClearAck,
    execPassClearMarkerArrive, execPassPostedFailure, execPassWindowOpen, execPassErrorClear, execPairStatus, execSidebandWrite,
    execPartnerReset, execPartnerRstPulseEnd, execStallDoorbell, execStallRelease, execSessionOpen, execSessionAuth, execUdpDatagramDrop,
    execSessionSetupTimeout, execSessionIdleTimeout, execSvcLockoutEnd, execAddressResolutionRequest, execFabricRead, execFabricWrite,
    execPostedWrite, execFabricAmo, execLoadReserved, execStoreConditional, execRegulatorRefill, execPassInboundTransaction,
    execEgressTransmitStart, execPlcaTransmitOpportunity, execPauseFrameReceive, execPauseExpiry, execPauseRefresh,
    execPreemptVerifyResponse, execPreemptVerifyTimeout, execPolicerRefill, execFrerRecoveryTimeout, execPtpSyncTimeout,
    execPtpTransmitTimer, execPlcaBeaconLost, execPlcaBeaconReturn, execJobFetch, execRingBucketRefill, execBlockQuiesceIdle,
    execBlockReady, execBlockReadyTimeout, execBlockPower, execKeepVote, execKeepRelease, execBlockStatus, execQueuePairCreate,
    execFlowCreate, execGateListSet, execPortConfig, execPortStats, execMarketStatus, execHandleDestroy, execHandleBindIrq,
    execPendingQuery, execResultRead, execInstanceResetDrainEnd, execInstanceResetComplete, execInstanceReset, execInstanceDestroy,
    execInstanceDestroyComplete, execFnEnable, execInstanceCreate, execShareChange, execInstanceQuery, execStallAssign, execStallWithdraw,
    execGuestFileBind, execFeedSwitchOpen, execFeedSwitchClose, execFeedConnectNoSource, execCrankSet, execCrankClear,
    execOvervoltageEnter, execOvervoltageExit, execBankReady, execSupplyLoss, execHoldupCommitComplete, execHoldupRestart,
    execRstReqPulseEnd, execResetNValid, execPowerOnResetRelease, execStartVbusWaitEnd, execResetNRelease, execSleepOrder,
    execSleepPreparationsIssued, execTc10SleepRequestReceive, execDrainConditionsMet, execDrainLimitExpiry, execCommittedDomainsOff,
    execSleepDwellEnd, execWakeConfirmation, execQuarantineEnd, execWakeConfig, execWakeStatus, execLockstepMismatch,
    execAmindLockstepMismatch, execMemoryUncorrectable, execJunctionOvertemp, execSafeRestartDelayExpiry, execResetRequest,
    execRecoveryRelease, execAmindWdogExpiry, execEngineWedgedDetect, execCheckerLock, execSecureClaim, execSecureRelease,
    execComparatorSelftestDone, execPairsReleased, execStartGood, execStartTimeout, execHealthSample, execHealthQuery, execSafetyStatus,
    execLedgerAmindCommit, execLedgerRateSecondEnd, execLedgerReaderCreate, execLedgerRead, execUpdateBegin, execUpdateData,
    execUpdateCommit, execUpdateAbort, execLifecycleSet, execDebugOpen, execStallRequestAreaWrite, execInstDbWrite, execObjConfigWrite,
    ownCanSetCreate, ownCanChannelConfig, ownCanRecover, ownCanScheduleSet, ownLinCreate, ownLinScheduleSet, ownGwRuleSet, ownGwRuleClear,
    ownLoadChannelConfig, ownLoadSet, ownLoadLatchClear, ownInputGroupCreate, ownInputConfig, ownKeySign, ownAttest, ownHandleDestroy,
    ownInstanceQuery, ownWakeConfig, ownLedgerRead, ownUpdateBegin, ownLifecycleSet, ownDebugOpen, State.objRow, State.objReadRow]

theorem State.shapeAll_mem (s : State) : s.shapeAll.core.mem = s.core.mem := by
  rw [s.shapeAll_ethOnly]

theorem State.tick_memOk {s : State} (h : s.memOk) : s.tick.memOk := by
  unfold State.tick
  split
  · exact h
  · have harb : ({ s with tb := s.tb.cycle } : State).shapeAll.arbitrate.memOk :=
      State.arbitrate_memOk (by rw [State.memOk_iff, State.shapeAll_mem]; exact h)
    extract_lets s1 s2
    rw [State.memOk_iff, State.settle_mem]
    simp only [s2]
    split <;> exact harb

/-- Every step keeps the canonical form of both memories. -/
theorem step_memOk {s : State} (h : s.memOk) : Out.MemOk (step s) := by
  unfold step
  split
  · exact Out.next_memOk.mpr (State.tick_memOk h)
  · exact exec_memOk _ h

end Sys2Proof.Machine

namespace Sys2Proof.Proofs

open Sys2Proof Sys2Proof.Machine

/-- Settles O5: what writes memory sets cells one by one or empties it, and every command is made of such writes and of what leaves it. -/
theorem stepKeepsMemoryCanonical : Obligations.StepKeepsMemoryCanonical := fun _ t h hstep => step_memOk h t hstep

/-- Settles O4: both memories are empty. -/
theorem resetMemoryCanonical : Obligations.ResetMemoryCanonical := memOk_nil

end Sys2Proof.Proofs

/-! SUPPORT. The bytes of the two memories, and an entry of the always-on domain, after one write. -/

namespace Sys2Proof.Machine

open Sys2Proof

/-! ### Bytes and ledger entries -/

theorem State.setDram_dramByte (s : State) (a b : Nat) (v : Byte) :
    (s.setDram a v).dramByte b = if b = a then v else s.dramByte b := by
  have hcell : cellAt (s.setDram a v).core.dram b = if b = a then some v else cellAt s.core.dram b := cellAt_cellSet _ _ _ _
  by_cases hb : b = a
  · rw [State.dramByte, hcell, if_pos hb, if_pos hb]
  · rw [State.dramByte, hcell, if_neg hb, if_neg hb]
    rfl

/-- A zero that is written is a cell that is dropped, which reads 0 again. -/
theorem State.setSram_sramByte (s : State) (a b : Nat) (v : Byte) :
    (s.setSram a v).sramByte b = if b = a then v else s.sramByte b := by
  by_cases hv : v = 0
  · have hcell : cellAt (s.setSram a v).core.sram b = if b = a then none else cellAt s.core.sram b := by
      rw [← cellAt_cellDrop, State.setSram, State.onCore, if_pos hv]
    rw [State.sramByte, hcell, hv]
    split <;> rfl
  · have hcell : cellAt (s.setSram a v).core.sram b = if b = a then some v else cellAt s.core.sram b := by
      rw [← cellAt_cellSet, State.setSram, State.onCore, if_neg hv]
    rw [State.sramByte, hcell]
    split <;> rfl

/-- An entry changes the buffer, the last sequence and what an interrupt changes. -/
theorem State.ledgerPut_mgmt (s : State) (w : Writer) (code sev : Nat) (data : List Byte) :
    (s.ledgerPut w code sev data).mgmt = { s.mgmt with ledger := { s.mgmt.ledger with
      buffer := s.mgmt.ledger.buffer ++ [s.entry w code sev data], lastSeq := s.mgmt.ledger.lastSeq + 1 } } := by
  unfold State.ledgerPut
  simp only
  split
  · exact State.irqOnly_mgmt (State.pulse_irqOnly _ _)
  · rfl

theorem State.logAon_full {s : State} (e : Ev) (data : List Byte) (hfull : 64 ≤ s.mgmt.ledger.buffer.length) :
    s.logAon e data = s.onMgmt (fun m => { m with ledger := { m.ledger with
      aonDropped := Tab.upd m.ledger.aonDropped e.info.1 0 satInc } }) := if_pos hfull

theorem State.logAon_room {s : State} (e : Ev) (data : List Byte) (hroom : s.mgmt.ledger.buffer.length < 64) :
    s.logAon e data = s.ledgerPut .aon e.info.1 e.info.2 data := if_neg (Nat.not_le.mpr hroom)

/-- Of the management's fields an entry of the always-on domain changes the ledger alone. -/
theorem State.logAon_mgmt (s : State) (e : Ev) (data : List Byte) :
    (s.logAon e data).mgmt = { s.mgmt with ledger := (s.logAon e data).mgmt.ledger } := by
  rcases Nat.lt_or_ge s.mgmt.ledger.buffer.length 64 with hroom | hfull
  · rw [State.logAon_room e data hroom, State.ledgerPut_mgmt]
  · rw [State.logAon_full e data hfull]
    rfl

theorem State.logAon_eq (s : State) (e : Ev) (data : List Byte) : s.logAon e data = { s with
    mgmt := { s.mgmt with ledger := (s.logAon e data).mgmt.ledger }
    core := { s.core with
      aplicM := (s.logAon e data).core.aplicM, aplicS := (s.logAon e data).core.aplicS
      imsics := (s.logAon e data).core.imsics, pairs := (s.logAon e data).core.pairs } } := by
  have h := s.logAon_mgmtOnly e data
  rw [State.mgmtOnly, State.logAon_mgmt] at h
  exact h

end Sys2Proof.Machine

namespace Sys2Proof.Proofs

open Sys2Proof Sys2Proof.Machine

/-- Settles O9: a memory is a list of cells, and `cellAt` after `cellSet` or `cellDrop` says which byte is read. -/
theorem memoryReadAfterWrite : Obligations.MemoryReadAfterWrite := by
  intro s a b v
  refine ⟨s.setDram_dramByte a b v, s.setSram_sramByte a b v, rfl, rfl, fun hempty => ?_⟩
  rw [State.sramByte, hempty]
  rfl

/-- Settles O3: every table of the module as delivered is empty, so a unit reads as its initial value. -/
theorem resetValues : Obligations.ResetValues := by
  unfold Obligations.ResetValues
  refine ⟨rfl, rfl, rfl, rfl, rfl, rfl, rfl, rfl, rfl, rfl, fun p => rfl, fun h => ⟨rfl, rfl, rfl, rfl⟩, fun n => ?_,
    fun n => ⟨rfl, rfl⟩, fun n => ⟨rfl, rfl⟩, rfl, rfl, rfl, fun c hc => ?_, fun c => ?_, rfl, rfl, rfl⟩
  · rw [State.stall, show State.reset.mgmt.amind.stalls = [] from rfl, Tab.get_nil, Stall.initial]
    split <;> rfl
  · have hload : State.reset.load c = LoadCh.initial c := rfl
    have hclass : loadClass c = .h := if_pos hc
    rw [hload, LoadCh.initial, hclass]
    exact ⟨rfl, rfl⟩
  · have hload : State.reset.load c = LoadCh.initial c := rfl
    rw [hload, LoadCh.initial]
    cases loadClass c <;> exact ⟨rfl, rfl, rfl⟩

/-- Settles O11: with room the entry is made by `ledgerPut`, and in a full buffer by the drop counter alone. -/
theorem ledgerEntriesMade : Obligations.LedgerEntriesMade := by
  intro s e d
  refine ⟨fun hroom => ?_, fun hfull => s.logAon_full e d hfull, s.logAon_eq e d⟩
  rw [State.logAon_room e d hroom, State.ledgerPut_mgmt]
  rfl

end Sys2Proof.Proofs

/-! SUPPORT. What a reset of a block, its configuration, a stored configuration and ledger entries leave of the control part: one lemma for
each function of the model, in the order of the model's files. -/

namespace Sys2Proof.Machine

open Sys2Proof

/-! ### The control part -/

/-- The part of the state that the units' own operations leave alone. -/
structure Kept where
  /-- The always-on domain. -/
  aon : Aon
  /-- The supply. -/
  supply : Supply
  /-- The power blocks. -/
  blocks : Tab Block
  /-- The times that the content of DRAM was lost. -/
  dramEpoch : Nat
  /-- The stored configuration in force. -/
  stored : StoredCfg
  /-- The secure pins. -/
  securePins : List Nat
  /-- The handles. -/
  handles : Handles
  /-- The byte limit of the key store. -/
  byteLimit : U64

/-- The control part of a state. -/
def State.kept (s : State) : Kept where
  aon := s.aon
  supply := s.supply
  blocks := s.core.blocks
  dramEpoch := s.core.dramEpoch
  stored := s.mgmt.stored
  securePins := s.mgmt.securePins
  handles := s.mgmt.handles
  byteLimit := s.ks.byteLimit

section Fields
variable {s t : State} (h : t.kept = s.kept)
include h
theorem State.aon_of_kept : t.aon = s.aon := congrArg Kept.aon h
theorem State.supply_of_kept : t.supply = s.supply := congrArg Kept.supply h
theorem State.blocks_of_kept : t.core.blocks = s.core.blocks := congrArg Kept.blocks h
theorem State.dramEpoch_of_kept : t.core.dramEpoch = s.core.dramEpoch := congrArg Kept.dramEpoch h
theorem State.handles_of_kept : t.mgmt.handles = s.mgmt.handles := congrArg Kept.handles h
theorem State.block_of_kept (b : Nat) : t.block b = s.block b := by rw [State.block, State.blocks_of_kept h, State.block]
end Fields

/-- What changes Amind's records, the ledger and interrupts alone leaves the control part. -/
theorem State.kept_of_recordsOnly {s t : State} (h : s.mgmtOnly t) (k : s.recordsOnly t) : t.kept = s.kept := by
  rw [State.kept, State.mgmtOnly_core h, h, k]
  rfl

@[simp] theorem State.kept_ite {c : Prop} [Decidable c] (a b : State) :
    (if c then a else b).kept = if c then a.kept else b.kept := apply_ite State.kept _ _ _

/-- A change of the state leaves the control part. -/
def Keeps (f : State → State) : Prop := ∀ t, (f t).kept = t.kept

@[simp] theorem keeps_iff {f : State → State} : Keeps f ↔ ∀ t, (f t).kept = t.kept := Iff.rfl

@[simp] theorem State.foldl_kept {α : Type} {f : State → α → State} (hf : ∀ a, Keeps (fun t => f t a)) (l : List α)
    (s : State) : (l.foldl f s).kept = s.kept := by
  induction l generalizing s with
  | nil => rfl
  | cons a l ih => rw [List.foldl_cons, ih, hf a s]

/-! ### Units -/

@[simp] theorem State.onSw_kept (s : State) (f) : (s.onSw f).kept = s.kept := rfl
@[simp] theorem State.onEth_kept (s : State) (f) : (s.onEth f).kept = s.kept := rfl
@[simp] theorem State.onBus_kept (s : State) (f) : (s.onBus f).kept = s.kept := rfl
@[simp] theorem State.onGw_kept (s : State) (f) : (s.onGw f).kept = s.kept := rfl
@[simp] theorem State.onPs_kept (s : State) (f) : (s.onPs f).kept = s.kept := rfl
@[simp] theorem State.onInp_kept (s : State) (f) : (s.onInp f).kept = s.kept := rfl
@[simp] theorem State.onCe_kept (s : State) (f) : (s.onCe f).kept = s.kept := rfl
@[simp] theorem State.onPass_kept (s : State) (f) : (s.onPass f).kept = s.kept := rfl
@[simp] theorem State.onSleep_kept (s : State) (f) : (s.onSleep f).kept = s.kept := rfl
@[simp] theorem State.onAmind_kept (s : State) (f) : (s.onAmind f).kept = s.kept := rfl
@[simp] theorem State.onBridge_kept (s : State) (f) : (s.onBridge f).kept = s.kept := rfl
@[simp] theorem State.onDbg_kept (s : State) (f) : (s.onDbg f).kept = s.kept := rfl
@[simp] theorem State.updAcct_kept (s : State) (n : Nat) (f) : (s.updAcct n f).kept = s.kept := rfl
@[simp] theorem State.updCan_kept (s : State) (n : Nat) (f) : (s.updCan n f).kept = s.kept := rfl
@[simp] theorem State.updEthPort_kept (s : State) (n : Nat) (f) : (s.updEthPort n f).kept = s.kept := rfl
@[simp] theorem State.updGate_kept (s : State) (n : Nat) (f) : (s.updGate n f).kept = s.kept := rfl
@[simp] theorem State.updGroup_kept (s : State) (n : Nat) (f) : (s.updGroup n f).kept = s.kept := rfl
@[simp] theorem State.updHart_kept (s : State) (n : Nat) (f) : (s.updHart n f).kept = s.kept := rfl
@[simp] theorem State.updInst_kept (s : State) (n : Nat) (f) : (s.updInst n f).kept = s.kept := rfl
@[simp] theorem State.updLin_kept (s : State) (n : Nat) (f) : (s.updLin n f).kept = s.kept := rfl
@[simp] theorem State.updLoad_kept (s : State) (n : Nat) (f) : (s.updLoad n f).kept = s.kept := rfl
@[simp] theorem State.updMacsec_kept (s : State) (n : Nat) (f) : (s.updMacsec n f).kept = s.kept := rfl
@[simp] theorem State.updPair_kept (s : State) (n : Nat) (f) : (s.updPair n f).kept = s.kept := rfl
@[simp] theorem State.updQp_kept (s : State) (n : Nat) (f) : (s.updQp n f).kept = s.kept := rfl
@[simp] theorem State.updReg_kept (s : State) (n : Nat) (f) : (s.updReg n f).kept = s.kept := rfl
@[simp] theorem State.updRoute_kept (s : State) (n : Nat) (f) : (s.updRoute n f).kept = s.kept := rfl
@[simp] theorem State.updStall_kept (s : State) (n : Nat) (f) : (s.updStall n f).kept = s.kept := rfl
@[simp] theorem State.updSwPort_kept (s : State) (n : Nat) (f) : (s.updSwPort n f).kept = s.kept := rfl
@[simp] theorem State.updWake_kept (s : State) (n : Nat) (f) : (s.updWake n f).kept = s.kept := rfl
@[simp] theorem State.updWin_kept (s : State) (n : Nat) (f) : (s.updWin n f).kept = s.kept := rfl
@[simp] theorem State.updObj_kept (s : State) (n m : Nat) (f) : (s.updObj n m f).kept = s.kept := rfl
@[simp] theorem State.updFrame_kept (s : State) (i : Nat) (f) : (s.updFrame i f).kept = s.kept := rfl

@[simp] theorem State.onCore_kept {s : State} {f : Core → Core} (hb : (f s.core).blocks = s.core.blocks)
    (he : (f s.core).dramEpoch = s.core.dramEpoch) : (s.onCore f).kept = s.kept := by
  simp [State.kept, hb, he]

@[simp] theorem State.onKs_kept {s : State} {f : KeyStore → KeyStore} (h : (f s.ks).byteLimit = s.ks.byteLimit) :
    (s.onKs f).kept = s.kept := by
  simp [State.kept, h]

@[simp] theorem State.ethEvent_kept (s : State) (p k : Nat) : (s.ethEvent p k).kept = s.kept := by simp [State.ethEvent]

@[simp] theorem State.ethGlobal_kept (s : State) (k : Nat) : (s.ethGlobal k).kept = s.kept := by simp [State.ethGlobal]

@[simp] theorem State.swEvent_kept (s : State) (k : Nat) : (s.swEvent k).kept = s.kept := by simp [State.swEvent]

@[simp] theorem State.canEvent_kept (s : State) (n k : Nat) : (s.canEvent n k).kept = s.kept := by simp [State.canEvent]

@[simp] theorem State.psEvent_kept (s : State) (k : Nat) : (s.psEvent k).kept = s.kept := by simp [State.psEvent]

@[simp] theorem State.passEvent_kept (s : State) (k : Nat) : (s.passEvent k).kept = s.kept := by simp [State.passEvent]

@[simp] theorem State.msi_kept (s : State) (h file ident : Nat) : (s.msi h file ident).kept = s.kept := by
  unfold State.msi
  split
  · rfl
  · split <;> rfl

@[simp] theorem State.msiBind_kept (s : State) (b : Bind) (sec : Bool) (off : Nat) : (s.msiBind b sec off).kept = s.kept := by
  simp [State.msiBind]

@[simp] theorem State.fireS_kept (s : State) (i : Nat) : (s.fireS i).kept = s.kept := by simp [State.fireS]

@[simp] theorem State.fireM_kept (s : State) (i : Nat) : (s.fireM i).kept = s.kept := by simp [State.fireM]

@[simp] theorem State.pulse_kept (s : State) (i : Nat) : (s.pulse i).kept = s.kept := by simp [State.pulse]

@[simp] theorem State.stallIrq_kept (s : State) (n : Nat) : (s.stallIrq n).kept = s.kept := by simp [State.stallIrq]

@[simp] theorem State.svcSend_kept (s : State) (k : Nat) (r : Response) : (s.svcSend k r).kept = s.kept := by simp [State.svcSend]

@[simp] theorem State.ptrSend_kept (s : State) (o : Nat) (r : Response) : (s.ptrSend o r).kept = s.kept := by simp [State.ptrSend]

@[simp] theorem State.feedPartner_kept (s : State) : s.feedPartner.kept = s.kept := by
  unfold State.feedPartner
  split <;> simp

@[simp] theorem State.respond_kept (s : State) (r : Route) (a : Response) : (s.respond r a).kept = s.kept := by
  unfold State.respond
  split <;> simp [State.udpSend]

@[simp] theorem State.capture_kept (s : State) (t : Attr) (a : Nat) (wr : Bool) (r : Resp) :
    (s.capture t a wr r).kept = s.kept := by simp [State.capture]

@[simp] theorem State.answered_kept (s : State) (r : Resp) (d : List Byte) : (s.answered r d).kept = s.kept := by
  simp [State.answered]

@[simp] theorem State.issued_kept (s : State) (t : Attr) : (s.issued t).kept = s.kept := by simp [State.issued]

@[simp] theorem State.record_kept (s : State) (rq : Request) (a : Ans) : (s.record rq a).kept = s.kept := by simp [State.record]

@[simp] theorem State.updTab_kept (s : State) (p : Nat) (f : TabPort → TabPort) : (s.updTab p f).kept = s.kept := by
  simp [State.updTab]

@[simp] theorem State.setGm_kept (s : State) (id : U64) (steps : Byte) (role : BitVec 2) :
    (s.setGm id steps role).kept = s.kept := by simp [State.setGm]

@[simp] theorem State.grandmaster_kept (s : State) : s.grandmaster.kept = s.kept := s.setGm_kept ownClock 0 1

@[simp] theorem State.bmca_kept (s : State) : s.bmca.kept = s.kept := by
  unfold State.bmca
  simp only
  repeat' split
  all_goals simp [State.tabRoles]

@[simp] theorem State.tabDown_kept (s : State) (p : Nat) : (s.tabDown p).kept = s.kept := by simp [State.tabDown]

@[simp] theorem State.fcNow_kept (s : State) (p : Nat) (f : FcFrame) : (s.fcNow p f).kept = s.kept := by simp [State.fcNow]

@[simp] theorem State.fcSend_kept (s : State) (p : Nat) (f : FcFrame) : (s.fcSend p f).kept = s.kept := by simp [State.fcSend]

@[simp] theorem State.flowControl_kept (s : State) (p : Nat) : (s.flowControl p).kept = s.kept := by simp [State.flowControl]

@[simp] theorem State.marketLow_kept (s : State) : s.marketLow.kept = s.kept := by simp [State.marketLow]

@[simp] theorem State.freeFrame_kept (s : State) (f : Frame) : (s.freeFrame f).kept = s.kept := by
  unfold State.freeFrame
  repeat' split
  all_goals simp

@[simp] theorem State.freeIfDone_kept (s : State) (i : Nat) : (s.freeIfDone i).kept = s.kept := by
  unfold State.freeIfDone
  split <;> simp

@[simp] theorem State.dropDest_kept (s : State) (i p : Nat) : (s.dropDest i p).kept = s.kept := by simp [State.dropDest]

@[simp] theorem State.lagLink_kept (s : State) (p : Nat) (up : Bool) : (s.lagLink p up).kept = s.kept := by
  unfold State.lagLink
  split <;> simp

@[simp] theorem State.linkDown_kept (s : State) (port : Nat) : (s.linkDown port).kept = s.kept := by simp [State.linkDown]

@[simp] theorem State.setMsi_kept (s : State) (key off : Nat) : (s.setMsi key off).kept = s.kept := by
  unfold State.setMsi
  split <;> simp

@[simp] theorem State.objMsi_kept (s : State) (chan obj : Nat) : (s.objMsi chan obj).kept = s.kept := by
  unfold State.objMsi
  split <;> simp

@[simp] theorem State.canGoto_kept (s : State) (chan : Nat) (st : CanState) : (s.canGoto chan st).kept = s.kept := by
  simp [State.canGoto, State.setMsis]

@[simp] theorem State.txEnd_kept (s : State) (chan obj : Nat) (st : U16) (msi : Bool) :
    (s.txEnd chan obj st msi).kept = s.kept := by simp [State.txEnd]

@[simp] theorem State.canOffBus_kept (s : State) (chan : Nat) : (s.canOffBus chan).kept = s.kept := by simp [State.canOffBus]

@[simp] theorem State.canApply_kept (s : State) (chan : Nat) (g : CanCfg) : (s.canApply chan g).kept = s.kept := by
  unfold State.canApply
  simp only
  repeat' split
  all_goals simp [State.canBadFormats]

@[simp] theorem State.linPulse_kept (s : State) (chan : Nat) : (s.linPulse chan).kept = s.kept := by simp [State.linPulse]

@[simp] theorem State.linClear_kept (s : State) (chan : Nat) : (s.linClear chan).kept = s.kept := by simp [State.linClear]

@[simp] theorem State.loadStart_kept (s : State) (c : Nat) : (s.loadStart c).kept = s.kept := by simp [State.loadStart]

@[simp] theorem State.loadSwitch_kept (s : State) (c : Nat) : (s.loadSwitch c).kept = s.kept := by simp [State.loadSwitch]

@[simp] theorem State.loadDrive_kept (s : State) (c : Nat) : (s.loadDrive c).kept = s.kept := by simp [State.loadDrive]

@[simp] theorem State.loadPulse_kept (s : State) (c : Nat) : (s.loadPulse c).kept = s.kept := by simp [State.loadPulse]

@[simp] theorem State.groupMsi_kept (s : State) (g : Nat) : (s.groupMsi g).kept = s.kept := by
  unfold State.groupMsi
  split <;> simp

@[simp] theorem State.loadReport_kept (s0 s : State) (c : Nat) (byOwner : Bool) : (s0.loadReport s c byOwner).kept = s.kept := by
  unfold State.loadReport
  split <;> simp

@[simp] theorem State.partnerReport_kept (s0 s : State) (c : Nat) : (s0.partnerReport s c).kept = s.kept := by
  simp [State.partnerReport]

@[simp] theorem State.dutyStep_kept (s0 s : State) (c : Nat) : (s0.dutyStep s c).kept = s.kept := by simp [State.dutyStep]

@[simp] theorem State.loadStep_kept (s0 s : State) (c : Nat) (byOwner : Bool) : (s0.loadStep s c byOwner).kept = s.kept := by
  simp [State.loadStep]

@[simp] theorem State.sensStep_kept (s : State) : s.sensStep.kept = s.kept := by simp [State.sensStep]

@[simp] theorem State.setLink_kept (s : State) (l : LinkState) : (s.setLink l).kept = s.kept := by simp [State.setLink]

@[simp] theorem State.pxLink_kept (s : State) : s.pxLink.kept = s.kept := by simp [State.pxLink]

@[simp] theorem State.countFerr_kept (s : State) (a : Nat) : (s.countFerr a).kept = s.kept := by
  unfold State.countFerr
  split <;> simp

@[simp] theorem State.portReply_kept (s : State) (t : Attr) (r : Resp) (d : List Byte) : (s.portReply t r d).kept = s.kept := by
  simp [State.portReply]

@[simp] theorem State.settled_kept (s : State) (t : Attr) (r : Resp) (d : List Byte) : (s.settled t r d).kept = s.kept := by
  simp [State.settled]

@[simp] theorem State.answerHeld_kept (s : State) (key : Nat) (seq : U16) (a : Ans) : (s.answerHeld key seq a).kept = s.kept := by
  unfold State.answerHeld
  split <;> simp

@[simp] theorem State.endClear_kept (s : State) (w : Nat) : (s.endClear w).kept = s.kept := by
  unfold State.endClear
  split <;> simp

@[simp] theorem State.passEnd_kept (s : State) : s.passEnd.kept = s.kept := by simp [State.passEnd]

@[simp] theorem State.passLeave_kept (s : State) : s.passLeave.kept = s.kept := by simp [State.passLeave, State.pxFlush]

@[simp] theorem State.linkLost_kept (s : State) : s.linkLost.kept = s.kept := by simp [State.linkLost]

@[simp] theorem State.winWrite_kept (s : State) (x : Xact) : (s.winWrite x).1.kept = s.kept := by
  unfold State.winWrite
  simp only
  repeat' split
  all_goals simp

@[simp] theorem State.recordsGo_kept (s : State) : s.recordsGo.kept = s.kept := by
  unfold State.recordsGo
  simp only
  repeat' split
  all_goals simp

@[simp] theorem State.trackerEnd_kept (s : State) (r : Tracker) (c : Resp) : (s.trackerEnd r c).kept = s.kept := by
  unfold State.trackerEnd
  split <;> simp

@[simp] theorem State.blockRuns_kept (s : State) (b : Nat) : (s.blockRuns b).kept = s.kept := by simp [State.blockRuns]

@[simp] theorem State.setPolicer_kept (s : State) (n rate burst : Nat) : (s.setPolicer n rate burst).kept = s.kept := by
  simp [State.setPolicer]

@[simp] theorem State.loadGate_kept (s : State) (p : Nat) (g : GateList) : (s.loadGate p g).kept = s.kept := by
  simp [State.loadGate]

@[simp] theorem State.rebuildDram_kept (s : State) : s.rebuildDram.kept = s.kept := by simp [State.rebuildDram]

@[simp] theorem State.shareApply_kept (s : State) (n : Nat) (new l : List Share) : (s.shareApply n new l).kept = s.kept := by
  unfold State.shareApply
  split <;> simp

@[simp] theorem State.showArmed_kept (s : State) (n : Nat) : (s.showArmed n).kept = s.kept := by simp [State.showArmed]

@[simp] theorem State.loadDefaults_kept (s : State) (g : StoredCfg) : (s.loadDefaults g).kept = s.kept := by
  simp [State.loadDefaults]

@[simp] theorem State.flowPlace_kept (s : State) (f : Flow) : (s.flowPlace f).kept = s.kept := by
  unfold State.flowPlace
  simp only
  repeat' split
  all_goals simp

@[simp] theorem State.ethPortSet_kept (s : State) (p : Nat) (g : EthPort) : (s.ethPortSet p g).kept = s.kept := by
  simp [State.ethPortSet]

@[simp] theorem State.swPortSet_kept (s : State) (p : Nat) (g : SwPort) : (s.swPortSet p g).kept = s.kept := by
  simp [State.swPortSet]

@[simp] theorem State.applyLin_kept (s : State) (g : StoredIo) : (s.applyLin g).kept = s.kept := by simp [State.applyLin]

@[simp] theorem State.applyRules_kept (s : State) (g : StoredIo) : (s.applyRules g).kept = s.kept := by simp [State.applyRules]

theorem State.applyStored_kept (s : State) (g : StoredCfg) :
    (s.applyStored g).kept = { s.kept with stored := g, securePins := g.securePins, byteLimit := g.byteLimit } := by
  simp only [State.applyStored, State.applySwitch, State.applyEth, State.applyBus, State.applyLoads, State.applyInputs, State.applyWake,
    State.applyCheckers, State.wakeForward, State.applyPass]
  simp
  rfl

end Sys2Proof.Machine

/-! SUPPORT. Power blocks: what a rail that goes off, a block that wakes and a request for a block change. -/

namespace Sys2Proof.Machine

open Sys2Proof

/-! ### Memory that is written -/

theorem State.core_mem_dram {s t : State} (h : t.core.mem = s.core.mem) : t.core.dram = s.core.dram := congrArg Prod.fst h

theorem State.core_mem_sram {s t : State} (h : t.core.mem = s.core.mem) : t.core.sram = s.core.sram := congrArg Prod.snd h

@[simp] theorem State.setDram_kept (s : State) (a : Nat) (v : Byte) : (s.setDram a v).kept = s.kept := rfl

@[simp] theorem State.setSram_kept (s : State) (a : Nat) (v : Byte) : (s.setSram a v).kept = s.kept := rfl

@[simp] theorem State.setMem_kept (s : State) (a : Nat) (l : List Byte) : (s.setMem a l).kept = s.kept := by
  induction l generalizing s a with
  | nil => rfl
  | cons b l ih =>
    rw [State.setMem, ih]
    simp

theorem State.setMem_cons_dramByte_ne (s : State) {a x : Nat} (b : Byte) (h : x ≠ a) :
    (if inDram a then s.setDram a b else if inSram a then s.setSram a b else s).dramByte x = s.dramByte x := by
  split
  · rw [State.setDram_dramByte, if_neg h]
  · split <;> rfl

theorem State.setMem_cons_sramByte_ne (s : State) {a x : Nat} (b : Byte) (h : x ≠ a) :
    (if inDram a then s.setDram a b else if inSram a then s.setSram a b else s).sramByte x = s.sramByte x := by
  split
  · rfl
  · split
    · rw [State.setSram_sramByte, if_neg h]
    · rfl

/-- Bytes outside what is written stay. -/
theorem State.setMem_bytes_outside {x : Nat} (l : List Byte) : ∀ {s : State} {a : Nat}, x < a ∨ a + l.length ≤ x →
    (s.setMem a l).dramByte x = s.dramByte x ∧ (s.setMem a l).sramByte x = s.sramByte x := by
  induction l with
  | nil => exact fun _ => ⟨rfl, rfl⟩
  | cons b l ih =>
    intro s a h
    rw [List.length_cons] at h
    have hne : x ≠ a := by omega
    obtain ⟨hd, hs⟩ := ih (s := if inDram a then s.setDram a b else if inSram a then s.setSram a b else s) (a := a + 1) (by omega)
    exact ⟨hd.trans (s.setMem_cons_dramByte_ne b hne), hs.trans (s.setMem_cons_sramByte_ne b hne)⟩

/-! ### Lines that are lost -/

theorem State.lineLost_kept (s : State) (line : Nat) : (s.lineLost line).kept = s.kept := by simp [State.lineLost]

theorem State.fresh_bytes (s : State) (x : Nat) : (s.onCore (fun c => { c with fresh := c.fresh + 1 })).dramByte x = s.dramByte x
    ∧ (s.onCore (fun c => { c with fresh := c.fresh + 1 })).sramByte x = s.sramByte x := ⟨rfl, rfl⟩

theorem State.lineLost_bytes {s : State} {line x : Nat} (h : x / 64 ≠ line) :
    (s.lineLost line).dramByte x = s.dramByte x ∧ (s.lineLost line).sramByte x = s.sramByte x := by
  have hout : x < line * 64 ∨ line * 64 + ((List.range 64).map (fun i => Config.lostByte s.core.fresh (line * 64 + i))).length ≤ x := by
    rw [List.length_map, List.length_range]
    omega
  rw [State.lineLost, (State.fresh_bytes _ x).1, (State.fresh_bytes _ x).2]
  exact State.setMem_bytes_outside _ hout

theorem State.linesLost_kept (l : List Nat) (s : State) : (l.foldl State.lineLost s).kept = s.kept :=
  State.foldl_kept (fun line t => t.lineLost_kept line) l s

theorem State.linesLost_bytes {x : Nat} (l : List Nat) : ∀ {s : State}, x / 64 ∉ l →
    (l.foldl State.lineLost s).dramByte x = s.dramByte x ∧ (l.foldl State.lineLost s).sramByte x = s.sramByte x := by
  induction l with
  | nil => exact fun _ => ⟨rfl, rfl⟩
  | cons line l ih =>
    intro s h
    rw [List.mem_cons, not_or] at h
    obtain ⟨hline, hrest⟩ := h
    obtain ⟨hd, hs⟩ := ih (s := s.lineLost line) hrest
    obtain ⟨hd1, hs1⟩ := State.lineLost_bytes (s := s) hline
    exact ⟨hd.trans hd1, hs.trans hs1⟩

/-- Bytes are read from the memories' content and, of DRAM, from the times that it was lost. -/
theorem State.bytes_of_kept_mem {s t : State} (hkept : t.kept = s.kept) (hmem : t.core.mem = s.core.mem) (x : Nat) :
    t.dramByte x = s.dramByte x ∧ t.sramByte x = s.sramByte x := by
  rw [State.dramByte, State.dramByte, State.sramByte, State.sramByte, State.core_mem_dram hmem, State.core_mem_sram hmem,
    State.dramEpoch_of_kept hkept]
  exact ⟨rfl, rfl⟩

/-! ### Notices and entries leave the control part and the pairs -/

theorem State.log_kept (s : State) (e : Ev) (data : List Byte) : (s.log e data).kept = s.kept :=
  State.kept_of_recordsOnly (s.log_mgmtOnly e data) (s.log_recordsOnly e data)

theorem State.completeAll_recordsOnly (s : State) (ws : List (Nat × U16)) (st : Status) (payload : List Byte) :
    s.recordsOnly (s.completeAll ws st payload) :=
  List.foldlRecOn (motive := s.recordsOnly) ws _ s.recordsOnly_refl fun t h w _ =>
    State.recordsOnly_trans h (t.complete_recordsOnly w.1 w.2 st 0 payload)

@[simp] theorem State.completeAll_kept (s : State) (ws : List (Nat × U16)) (st : Status) (payload : List Byte) :
    (s.completeAll ws st payload).kept = s.kept :=
  State.kept_of_recordsOnly (s.completeAll_mgmtOnly ws st payload) (s.completeAll_recordsOnly ws st payload)

theorem State.stallIrq_dropsOnly (s : State) (n : Nat) : s.dropsOnly (s.stallIrq n) := by
  unfold State.stallIrq
  split
  · exact s.pulse_dropsOnly _
  · split
    · exact s.pulse_dropsOnly _
    · split
      · exact s.dropsOnly_refl
      · exact s.msi_dropsOnly _ _ _

theorem State.notice_dropsOnly (s : State) (key : Nat) (r : Response) : s.dropsOnly (s.notice key r) := by
  unfold State.notice
  split
  · unfold State.stallNotice
    split
    · exact s.dropsOnly_refl
    · exact State.dropsOnly_after (State.stallIrq_dropsOnly _ _) (fun _ => rfl)
    · split <;> exact fun _ => rfl
  · split
    · unfold State.svcSend
      split <;> exact fun _ => rfl
    · exact fun _ => rfl

theorem State.complete_dropsOnly (s : State) (key : Nat) (seq : U16) (st : Status) (handle : U32) (payload : List Byte) :
    s.dropsOnly (s.complete key seq st handle payload) := by
  unfold State.complete
  split
  · exact s.dropsOnly_refl
  · exact State.dropsOnly_after (State.notice_dropsOnly _ _ _) (fun _ => rfl)

theorem State.completeAll_dropsOnly (s : State) (ws : List (Nat × U16)) (st : Status) (payload : List Byte) :
    s.dropsOnly (s.completeAll ws st payload) :=
  List.foldlRecOn (motive := s.dropsOnly) ws _ s.dropsOnly_refl fun t h w _ =>
    State.dropsOnly_trans h (t.complete_dropsOnly w.1 w.2 st 0 payload)

theorem State.dropsOnly_st {s t : State} (h : s.dropsOnly t) (p : Nat) : (t.pair p).st = (s.pair p).st := by rw [h p]

theorem State.dropsOnly_pass {s t : State} (h : s.dropsOnly t) (p : Nat) : (t.pair p).pass = (s.pair p).pass := by rw [h p]

theorem State.dropsOnly_stf {s t : State} (h : s.dropsOnly t) (p : Nat) : (t.pair p).stf = (s.pair p).stf := by rw [h p]

/-- A change of each pair of a list, once. -/
theorem State.pair_foldl_updPair (f : Pair → Pair) (q : Nat) : ∀ {l : List Nat} {s : State}, l.Nodup →
    (l.foldl (fun t p => t.updPair p f) s).pair q = if q ∈ l then f (s.pair q) else s.pair q := by
  intro l
  induction l with
  | nil => intro s _; simp
  | cons p l ih =>
    intro s h
    obtain ⟨hp, hl⟩ := List.nodup_cons.mp h
    rw [List.foldl_cons, ih hl, State.pair_updPair]
    by_cases hq : q = p
    · subst hq
      simp [hp]
    · simp [hq]

/-! ### The rail of a block -/

theorem State.updBlock_kept (s : State) (b : Nat) (f : Block → Block) :
    (s.updBlock b f).kept = { s.kept with blocks := Tab.upd s.kept.blocks b {} f } := rfl

theorem State.updBlock_kept_congr {s t : State} (h : t.kept = s.kept) (b : Nat) (f : Block → Block) :
    (t.updBlock b f).kept = (s.updBlock b f).kept := by rw [State.updBlock_kept, State.updBlock_kept, h]

theorem State.votesOf_of_kept {s t : State} (h : t.kept = s.kept) (b : Nat) : t.votesOf b = s.votesOf b := by
  rw [State.votesOf, State.votesOf, State.block_of_kept h, State.liveOn, State.liveOn, State.handles_of_kept h]

theorem State.blockReset_kept (s : State) (b : Nat) : (s.blockReset b).kept = s.kept := by 
  unfold State.blockReset
  split
  · rfl
  · simp

/-- What a block becomes whose rail goes off and which wakes at once. -/
def Block.wakesAtOnce (x : Block) : Block := { x with st := .waking, wakeAfter := false }

/-- What a block becomes whose rail goes off. -/
def Block.goesOff (x : Block) : Block := { x with st := .off, offHeld := false, offReq := [] }

/-- A block whose rail goes off wakes at once. -/
def State.railWakes (s : State) (b : Nat) : Prop :=
  b ≠ 0x70 ∧ ((s.block b).wakeAfter = true ∨ (s.block b).voteReq ≠ [] ∨ 0 < s.votesOf b)

theorem State.blockRailOff_of_wakes {s : State} {b : Nat} (h : s.railWakes b) :
    s.blockRailOff b = (s.blockReset b).updBlock b Block.wakesAtOnce := by
  have hk := s.blockReset_kept b
  unfold State.blockRailOff
  simp only [State.block_of_kept hk, State.votesOf_of_kept hk]
  exact if_pos h

theorem State.blockRailOff_of_off {s : State} {b : Nat} (h : ¬ s.railWakes b) :
    s.blockRailOff b = ((s.blockReset b).updBlock b Block.goesOff).completeAll (s.block b).offReq .ok [] := by
  have hk := s.blockReset_kept b
  unfold State.blockRailOff
  simp only [State.block_of_kept hk, State.votesOf_of_kept hk]
  exact if_neg h

theorem State.blockRailOff_kept_of_wakes {s : State} {b : Nat} (h : s.railWakes b) :
    (s.blockRailOff b).kept = (s.updBlock b Block.wakesAtOnce).kept := by
  rw [State.blockRailOff_of_wakes h, State.updBlock_kept_congr (s.blockReset_kept b)]

theorem State.blockRailOff_kept_of_off {s : State} {b : Nat} (h : ¬ s.railWakes b) :
    (s.blockRailOff b).kept = (s.updBlock b Block.goesOff).kept := by
  rw [State.blockRailOff_of_off h, State.completeAll_kept, State.updBlock_kept_congr (s.blockReset_kept b)]

/-- The rail of a block changes, of the control part, this block alone. -/
theorem State.blockRailOff_kept (s : State) (b : Nat) :
    ∃ f, (f = Block.wakesAtOnce ∨ f = Block.goesOff) ∧ (s.blockRailOff b).kept = (s.updBlock b f).kept := by
  by_cases h : s.railWakes b
  · exact ⟨_, .inl rfl, State.blockRailOff_kept_of_wakes h⟩
  · exact ⟨_, .inr rfl, State.blockRailOff_kept_of_off h⟩

theorem State.block_of_kept_updBlock {s t : State} {b : Nat} {f : Block → Block} (h : t.kept = (s.updBlock b f).kept) (k : Nat) :
    t.block k = if k = b then f (s.block b) else s.block k := by
  rw [State.block_of_kept h, State.block_updBlock]

theorem State.onCore_pair {s : State} {f : Core → Core} (h : (f s.core).pairs = s.core.pairs) (p : Nat) :
    (s.onCore f).pair p = s.pair p := by rw [State.pair, State.onCore_core, h, State.pair]

theorem State.blockReset_mode (s : State) : s.blockReset 0x70
    = ((List.range 7).foldl (fun t k => t.updPair (k + 1) (fun p => { p with st := .off })) s).onCore (fun c =>
      { c with clusters := Tab.upd c.clusters 1 {} (fun k => { k with poison := [] }) }) := by
  simp [State.blockReset]

theorem State.blockReset_pair_off {s : State} {p : Nat} (h1 : 1 ≤ p) (h8 : p < 8) : ((s.blockReset 0x70).pair p).st = .off := by
  have hmap : (List.range 7).foldl (fun t k => t.updPair (k + 1) (fun p => { p with st := .off })) s
      = ((List.range 7).map (· + 1)).foldl (fun t k => t.updPair k (fun p => { p with st := .off })) s := List.foldl_map.symm
  have hp : p ∈ (List.range 7).map (· + 1) := List.mem_map.mpr ⟨p - 1, List.mem_range.mpr (by omega), by omega⟩
  rw [State.blockReset_mode, hmap, State.onCore_pair rfl, State.pair_foldl_updPair _ _ (by decide), if_pos hp]

/-- Block 0x70 follows the mode: its rail switches P1 to P7 off. -/
theorem State.blockRailOff_pair_off {s : State} {p : Nat} (h1 : 1 ≤ p) (h8 : p < 8) : ((s.blockRailOff 0x70).pair p).st = .off := by
  rw [State.blockRailOff_of_off (fun h => h.1 rfl), State.dropsOnly_st (State.completeAll_dropsOnly _ _ _ _),
    State.updBlock, State.onCore_pair rfl]
  exact State.blockReset_pair_off h1 h8

/-! ### A block that wakes -/

/-- What a waking block without a held off request becomes. -/
def Block.wakes (x : Block) : Block := { x with st := .on, onReq := [], voteReq := [] }

theorem State.blockWakes_kept {s : State} {b : Nat} (h : (s.block b).offHeld = false) :
    (s.blockWakes b).kept = (s.updBlock b Block.wakes).kept := by
  have hupd : (s.updBlock b (fun x => { x with st := if x.offHeld then .deferred else .on, onReq := [], voteReq := [] })).kept
      = (s.updBlock b Block.wakes).kept := by
    have hb : (Tab.get s.kept.blocks b {}).offHeld = false := h
    simp [State.updBlock_kept, Tab.upd, Block.wakes, hb]
  unfold State.blockWakes
  simp only [h]
  simpa using hupd

/-! ### The block power state machine -/

/-- What the rail of a block that goes off leaves: the block wakes at once or is off, and of the control part nothing else changes. -/
theorem State.blockRailOff_block {s u : State} (hu : u.kept = s.kept) (b : Nat) :
    (((u.blockRailOff b).block b).st = .off ∨ ((u.blockRailOff b).block b).st = .waking)
    ∧ ((s.block b).wakeAfter = false → (s.block b).voteReq = [] → s.votesOf b = 0 →
        ((u.blockRailOff b).block b).st = .off ∧ ((u.blockRailOff b).block b).offReq = [] ∧ ((u.blockRailOff b).block b).offHeld = false)
    ∧ (b = 0x70 → ((u.blockRailOff b).block b).st = .off ∧ ∀ p, 1 ≤ p → p < 8 → ((u.blockRailOff b).pair p).st = .off)
    ∧ (b ≠ 0x70 → ((s.block b).wakeAfter = true ∨ (s.block b).voteReq ≠ [] ∨ 0 < (s.block b).votes) →
        ((u.blockRailOff b).block b).st = .waking) := by
  have hwakes : u.railWakes b → (u.blockRailOff b).block b = (s.block b).wakesAtOnce := fun h => by
    rw [State.block_of_kept_updBlock (State.blockRailOff_kept_of_wakes h), if_pos rfl, State.block_of_kept hu]
  have hoff : ¬ u.railWakes b → (u.blockRailOff b).block b = (s.block b).goesOff := fun h => by
    rw [State.block_of_kept_updBlock (State.blockRailOff_kept_of_off h), if_pos rfl, State.block_of_kept hu]
  have hiff : u.railWakes b ↔ s.railWakes b := by
    rw [State.railWakes, State.railWakes, State.block_of_kept hu, State.votesOf_of_kept hu]
  refine ⟨?_, fun hwake hreq hvotes => ?_, fun hb => ?_, fun hb hvote => ?_⟩
  · by_cases h : u.railWakes b
    · exact .inr (by rw [hwakes h]; rfl)
    · exact .inl (by rw [hoff h]; rfl)
  · have h : ¬ u.railWakes b := by
      rw [hiff, State.railWakes, hwake, hreq, hvotes]
      simp
    rw [hoff h]
    exact ⟨rfl, rfl, rfl⟩
  · subst hb
    refine ⟨?_, fun p h1 h8 => State.blockRailOff_pair_off h1 h8⟩
    rw [hoff fun h => h.1 rfl]
    rfl
  · have hvotes : 0 < (s.block b).votes → 0 < s.votesOf b := fun h => Nat.lt_of_lt_of_le h (Nat.le_add_right _ _)
    have h : u.railWakes b := hiff.mpr ⟨hb, hvote.imp id (Or.imp id hvotes)⟩
    rw [hwakes h]
    rfl

theorem State.blockRailOff_others (s : State) (b : Nat) :
    (∀ k, k ≠ b → (s.blockRailOff b).block k = s.block k) ∧ (s.blockRailOff b).supply = s.supply ∧ (s.blockRailOff b).aon = s.aon
      ∧ (s.blockRailOff b).core.dramEpoch = s.core.dramEpoch := by
  obtain ⟨f, -, hkept⟩ := s.blockRailOff_kept b
  exact ⟨fun k hk => by rw [State.block_of_kept_updBlock hkept, if_neg hk], congrArg Kept.supply hkept, congrArg Kept.aon hkept,
    congrArg Kept.dramEpoch hkept⟩

theorem State.blockRailOff_bytes (s : State) (b x : Nat) :
    (s.blockRailOff b).dramByte x = s.dramByte x ∧ (s.blockRailOff b).sramByte x = s.sramByte x := by
  rw [State.dramByte, State.dramByte, State.sramByte, State.sramByte, State.core_mem_dram (s.blockRailOff_mem b),
    State.core_mem_sram (s.blockRailOff_mem b), (s.blockRailOff_others b).2.2.2]
  exact ⟨rfl, rfl⟩

/-- The dirty lines that a timeout cuts off, lost and recorded. -/
def State.linesCut (s : State) (b : Nat) (l : List Nat) : State :=
  if b = 0x70 ∧ l ≠ [] then (l.foldl State.lineLost s).log .l2FlushCut (leBytes 4 l.length) else s

theorem State.linesCut_kept (s : State) (b : Nat) (l : List Nat) : (s.linesCut b l).kept = s.kept := by
  unfold State.linesCut
  split
  · rw [State.log_kept, State.linesLost_kept]
  · rfl

theorem State.linesCut_of_none {s : State} {b : Nat} {l : List Nat} (h : b ≠ 0x70 ∨ l = []) : s.linesCut b l = s :=
  if_neg fun hcut => h.elim (fun hb => hb hcut.1) hcut.2

theorem State.linesCut_bytes {s : State} {b x : Nat} {l : List Nat} (h : x / 64 ∉ l) :
    (s.linesCut b l).dramByte x = s.dramByte x ∧ (s.linesCut b l).sramByte x = s.sramByte x := by
  unfold State.linesCut
  split
  · obtain ⟨hd, hs⟩ := State.bytes_of_kept_mem ((l.foldl State.lineLost s).log_kept .l2FlushCut (leBytes 4 l.length))
      ((l.foldl State.lineLost s).log_mem .l2FlushCut (leBytes 4 l.length)) x
    obtain ⟨hd1, hs1⟩ := State.linesLost_bytes (s := s) l h
    exact ⟨hd.trans hd1, hs.trans hs1⟩
  · exact ⟨rfl, rfl⟩

theorem does_blockQuiesceIdle {s : State} {b : Nat} (hb : b ∈ blockIds) (hst : (s.block b).st = .quiescing) :
    Does (.blockQuiesceIdle b) s (s.blockRailOff b) := by
  simp [Does, exec, execBlockQuiesceIdle, hb, hst, fin]

theorem does_quiesceTimeout {s : State} {b : Nat} {l : List Nat} (hb : b ∈ blockIds) (hst : (s.block b).st = .quiescing) :
    Does (.quiesceTimeout ⟨b, l⟩) s ((s.linesCut b l).blockRailOff b) := by
  simp [Does, exec, execQuiesceTimeout, hb, hst, fin, State.linesCut]

theorem does_blockReady {s : State} {b : Nat} (hb : b ∈ blockIds) (hst : (s.block b).st = .waking) :
    Does (.blockReady b) s (s.blockWakes b) := by
  simp [Does, exec, execBlockReady, hb, hst, fin]

theorem does_blockReadyTimeout {s : State} {b : Nat} (hb : b ∈ blockIds) (hst : (s.block b).st = .waking) :
    Does (.blockReadyTimeout b) s ((s.log .engineWedged [BitVec.ofNat 8 b, 0]).amindPulse .wedged 1 0xFF) := by
  simp [Does, exec, execBlockReadyTimeout, hb, hst, fin]

/-- The end of a quiesce, idle or cut off: the rail of the block goes off once the lines are lost. -/
theorem does_quiesceEnd {s : State} {b : Nat} {c : Instr} (hb : b ∈ blockIds)
    (hc : c = .blockQuiesceIdle b ∨ ∃ l, c = .quiesceTimeout ⟨b, l⟩) (hst : (s.block b).st = .quiescing) :
    ∃ l, Does c s ((s.linesCut b l).blockRailOff b) ∧ (c = .blockQuiesceIdle b ∧ l = [] ∨ c = .quiesceTimeout ⟨b, l⟩) := by
  rcases hc with rfl | ⟨l, rfl⟩
  · exact ⟨[], by rw [State.linesCut_of_none (.inr rfl)]; exact does_blockQuiesceIdle hb hst, .inl ⟨rfl, rfl⟩⟩
  · exact ⟨l, does_quiesceTimeout hb hst, .inr rfl⟩

/-- The end of a quiesce. -/
theorem quiesced_block {s : State} {b : Nat} {c : Instr} (hb : b ∈ blockIds)
    (hc : c = .blockQuiesceIdle b ∨ ∃ l, c = .quiesceTimeout ⟨b, l⟩) (hst : (s.block b).st = .quiescing) :
    ∃ t, Does c s t ∧ ((t.block b).st = .off ∨ (t.block b).st = .waking)
        ∧ ((s.block b).wakeAfter = false → (s.block b).voteReq = [] → s.votesOf b = 0 →
            (t.block b).st = .off ∧ (t.block b).offReq = [] ∧ (t.block b).offHeld = false)
        ∧ (b = 0x70 → (t.block b).st = .off ∧ ∀ p, 1 ≤ p → p < 8 → (t.pair p).st = .off)
        ∧ (b ≠ 0x70 → ((s.block b).wakeAfter = true ∨ (s.block b).voteReq ≠ [] ∨ 0 < (s.block b).votes) → (t.block b).st = .waking)
        ∧ (∀ k, k ≠ b → t.block k = s.block k) ∧ t.supply = s.supply ∧ t.aon = s.aon
        ∧ (b ≠ 0x70 ∨ c = .blockQuiesceIdle b ∨ c = .quiesceTimeout ⟨b, []⟩ → t.core.dram = s.core.dram ∧ t.core.sram = s.core.sram)
        ∧ (∀ l a, c = .quiesceTimeout ⟨b, l⟩ → a / 64 ∉ l → t.dramByte a = s.dramByte a ∧ t.sramByte a = s.sramByte a) := by
  obtain ⟨l, hdoes, hl⟩ := does_quiesceEnd hb hc hst
  have hcut := s.linesCut_kept b l
  obtain ⟨hst, hoff, hmode, hwake⟩ := State.blockRailOff_block hcut b
  obtain ⟨hothers, hsupply, haon, -⟩ := (s.linesCut b l).blockRailOff_others b
  refine ⟨_, hdoes, hst, hoff, hmode, hwake, fun k hk => (hothers k hk).trans (State.block_of_kept hcut k),
    hsupply.trans (State.supply_of_kept hcut), haon.trans (State.aon_of_kept hcut), fun hnone => ?_, fun l' a hc' ha => ?_⟩
  · have huncut : b ≠ 0x70 ∨ l = [] := by
      rcases hl with ⟨-, rfl⟩ | rfl
      · exact .inr rfl
      · simpa using hnone
    rw [State.linesCut_of_none huncut]
    exact ⟨State.core_mem_dram (s.blockRailOff_mem b), State.core_mem_sram (s.blockRailOff_mem b)⟩
  · obtain ⟨hd, hs⟩ := (s.linesCut b l).blockRailOff_bytes b a
    have hsame : l = l' := by
      rcases hl with ⟨rfl, -⟩ | rfl
      · simp at hc'
      · simpa using hc'
    subst hsame
    obtain ⟨hd1, hs1⟩ := State.linesCut_bytes (s := s) (b := b) ha
    exact ⟨hd.trans hd1, hs.trans hs1⟩

/-! ### Requests for a block -/

/-- Requests whose command's own part is known under a condition on the state that heard them. -/
theorem serves_of_own {c : Request → Instr} {k : CmdSpec} {valid : List Byte → Bool} {part : Request → State → State × Ans}
    {own : Request → State → Prop} {t : Request → State → State} {a : Request → State → Ans}
    (hc : ∀ rq s, exec (c rq) s = serve k rq s valid (part rq)) (hpart : ∀ rq u, own rq u → part rq u = (t rq u, a rq u)) :
    Serves c k (fun _ _ => valid) false own t a :=
  fun rq s htakes hown => replies_of_own (hc rq s) htakes (hpart rq _ hown)

theorem State.updBlock_updBlock (s : State) (b : Nat) (f g : Block → Block) :
    (s.updBlock b f).updBlock b g = s.updBlock b (fun x => g (f x)) := by
  simp [State.updBlock, State.onCore]

/-- The part of BLOCK_POWER that the state decides. -/
def ownBlockPower (rq : Request) (s : State) : State × Ans :=
  if u8At rq.payload 1 = 0 then s.blockOffReq (u8At rq.payload 0) (rq.route.key, rq.seq)
  else s.blockOnReq (u8At rq.payload 0) (rq.route.key, rq.seq)

theorem exec_blockPower (rq : Request) (s : State) :
    exec (.blockPower rq) s = serve specBlockPower rq s okBlockPower (ownBlockPower rq) := rfl

theorem exec_keepVote (rq : Request) (s : State) : exec (.keepVote rq) s = serve specKeepVote rq s okBlock (ownKeepVote rq) := rfl

/-- The part of KEEP_RELEASE that the state decides. -/
def ownKeepRelease (rq : Request) (s : State) : State × Ans :=
  if (s.block (u8At rq.payload 0)).votes = 0 then no s .badParam
  else yes ((s.updBlock (u8At rq.payload 0) (fun x => { x with votes := x.votes - 1 })).voteEnded (u8At rq.payload 0))

theorem exec_keepRelease (rq : Request) (s : State) :
    exec (.keepRelease rq) s = serve specKeepRelease rq s okBlock (ownKeepRelease rq) := rfl

theorem exec_blockStatus (rq : Request) (s : State) : exec (.blockStatus rq) s
    = serve specBlockStatus rq s okBlock (fun s => yesWith s (s.blockInfo (u8At rq.payload 0))) := rfl

theorem serves_blockPower {own : Request → State → Prop} {t : Request → State → State} {a : Request → State → Ans}
    (h : ∀ rq u, own rq u → ownBlockPower rq u = (t rq u, a rq u)) :
    Serves .blockPower specBlockPower (fun _ _ p => okBlockPower p) false own t a :=
  serves_of_own exec_blockPower h

section Requests
variable {s : State} {b : Nat} {w : Nat × U16}

theorem State.blockOffReq_on (hst : (s.block b).st = .on) (hlive : s.liveOn b false = 0) (hvotes : s.votesOf b = 0) :
    s.blockOffReq b w = (s.updBlock b (fun x => { x with
      st := .quiescing, offHeld := true, wakeAfter := false, byReq := true, offReq := x.offReq ++ [w] }),
      { st := .pending, reason := 0 }) := by
  simp [State.blockOffReq, hst, hlive, hvotes, wait, State.blockQuiesce, State.updBlock_updBlock]

theorem State.blockOffReq_voted (hst : (s.block b).st = .on) (hlive : s.liveOn b false = 0) (hvotes : 0 < s.votesOf b) :
    s.blockOffReq b w = (s.updBlock b (fun x => { x with
      st := .deferred, offHeld := true, byReq := true, offReq := x.offReq ++ [w] }), { st := .pending, reason := 1 }) := by
  simp [State.blockOffReq, hst, hlive, hvotes, wait]

theorem State.blockOffReq_live (hst : (s.block b).st ≠ .off) (hlive : 0 < s.liveOn b false) :
    s.blockOffReq b w = (s, { st := .busy }) := if_pos ⟨hst, hlive⟩

theorem State.blockOffReq_off (hst : (s.block b).st = .off) : s.blockOffReq b w = (s, {}) := by
  simp [State.blockOffReq, hst, yes]

theorem State.blockOnReq_on (hst : (s.block b).st = .on) :
    s.blockOnReq b w = (s.updBlock b (fun x => { x with byReq := false }), {}) := by
  simp [State.blockOnReq, hst, yes]

theorem State.blockOnReq_off (hst : (s.block b).st = .off) :
    s.blockOnReq b w = (s.updBlock b (fun x => { x with st := .waking, offHeld := false, offReq := [], byReq := false, onReq := [w] }),
      { st := .pending, reason := 0 }) := by
  simp [State.blockOnReq, hst, wait]

/-- The answer of BLOCK_STATUS for a block whose power requests switch. -/
theorem State.blockInfo_of_ne (hb : b ≠ 0x70) : s.blockInfo b = [BitVec.ofNat 8 (s.block b).st.code,
    BitVec.ofNat 8 (min 255 (s.votesOf b)), if (s.block b).offHeld then 1 else 0, 0] := if_neg hb

theorem State.voteEnded_of_none (hst : (s.block b).st ≠ .deferred) (hpart : s.core.toPartial = none) : s.voteEnded b = s := by
  unfold State.voteEnded
  simp [hst, hpart]

end Requests

theorem ownKeepRelease_of_on {rq : Request} {s : State} (hvotes : 0 < (s.block (u8At rq.payload 0)).votes)
    (hst : (s.block (u8At rq.payload 0)).st = .on) (hpart : s.core.toPartial = none) :
    ownKeepRelease rq s = (s.updBlock (u8At rq.payload 0) (fun x => { x with votes := x.votes - 1 }), {}) := by
  have hon : ((s.updBlock (u8At rq.payload 0) (fun x => { x with votes := x.votes - 1 })).block (u8At rq.payload 0)).st ≠ .deferred := by
    rw [State.block_updBlock, if_pos rfl, hst]
    decide
  rw [ownKeepRelease, if_neg (Nat.ne_of_gt hvotes), State.voteEnded_of_none hon hpart, yes]

end Sys2Proof.Machine

namespace Sys2Proof.Proofs

open Sys2Proof Sys2Proof.Machine

/-- Settles O22: a request by the state of its block, and the state machine by whether the rail that goes off wakes at once. -/
theorem powerBlocks : Obligations.PowerBlocks := by
  refine ⟨⟨?_, ?_, ?_, ?_, ?_, ?_⟩, ⟨?_, ?_, ?_, ?_, ?_, ?_⟩, ?_, ?_, ?_⟩
  · exact serves_blockPower fun rq u ⟨hreq, hst, hlive, hvotes⟩ => (if_pos hreq).trans (State.blockOffReq_on hst hlive hvotes)
  · exact serves_blockPower fun rq u ⟨hreq, hst, hlive, hvotes⟩ => (if_pos hreq).trans (State.blockOffReq_voted hst hlive hvotes)
  · exact serves_blockPower fun rq u ⟨hreq, hst, hlive⟩ => (if_pos hreq).trans (State.blockOffReq_live hst hlive)
  · exact serves_blockPower fun rq u ⟨hreq, hst⟩ => (if_pos hreq).trans (State.blockOffReq_off hst)
  · exact serves_blockPower fun rq u ⟨hreq, hst⟩ => (if_neg (by omega)).trans (State.blockOnReq_on hst)
  · exact serves_blockPower fun rq u ⟨hreq, hst⟩ => (if_neg (by omega)).trans (State.blockOnReq_off hst)
  · refine serves_of_own exec_keepVote fun rq u ⟨hroom, hst⟩ => ?_
    simp [ownKeepVote, Nat.not_le.mpr hroom, hst, yes]
  · refine serves_of_own exec_keepVote fun rq u hfull => ?_
    simp [ownKeepVote, hfull, no]
  · refine serves_of_own exec_keepVote fun rq u ⟨hroom, hst, hb⟩ => ?_
    simp [ownKeepVote, Nat.not_le.mpr hroom, hst, hb, wait]
  · refine serves_of_own exec_keepRelease fun rq u ⟨hvotes, hst, hpart⟩ => ownKeepRelease_of_on hvotes hst hpart
  · refine serves_of_own exec_keepRelease fun rq u hnone => ?_
    simp [ownKeepRelease, hnone, no]
  · refine serves_of_own exec_blockStatus fun rq u hb => ?_
    rw [yesWith, State.blockInfo_of_ne hb]
    cases (u.block (u8At rq.payload 0)).st <;> rfl
  · exact fun s b c hb hc hst => quiesced_block hb hc hst
  · intro s b hb hst hheld
    have hkept := State.blockWakes_kept hheld
    refine ⟨_, does_blockReady hb hst, ?_, ?_, ?_, fun k hk => ?_, congrArg Kept.supply hkept, congrArg Kept.aon hkept, ?_⟩
    · rw [State.block_of_kept_updBlock hkept, if_pos rfl]; rfl
    · rw [State.block_of_kept_updBlock hkept, if_pos rfl]; rfl
    · rw [State.block_of_kept_updBlock hkept, if_pos rfl]; rfl
    · rw [State.block_of_kept_updBlock hkept, if_neg hk]
    · exact State.core_mem_dram (s.blockWakes_mem b)
  · exact fun s b hb hst => does_blockReadyTimeout hb hst

end Sys2Proof.Proofs

/-! SUPPORT. The end of a start: START_GOOD and the start timeout. -/

namespace Sys2Proof.Machine

open Sys2Proof

/-! ### START_GOOD -/

theorem State.mgmtOnly_harts {s t : State} (h : s.mgmtOnly t) : t.core.harts = s.core.harts := by rw [h]; rfl

theorem State.updTarget_mgmtOnly (s : State) (n : Nat) (f : Target → Target) : s.mgmtOnly (s.updTarget n f) := s.onMgmt_mgmtOnly _

theorem State.promote_mgmtOnly (s : State) (n : Nat) : s.mgmtOnly (s.promote n) := by
  unfold State.promote
  simp only
  split
  · exact s.mgmtOnly_refl
  · split
    · exact State.mgmtOnly_after (State.log_mgmtOnly _ _ _)
        (State.mgmtOnly_after (State.updTarget_mgmtOnly _ _ _) (s.updTarget_mgmtOnly _ _))
    · exact s.updTarget_mgmtOnly _ _

/-- The milliseconds of a start, as its entry and SAFETY_STATUS show them. -/
def State.startMs (s : State) : Nat := min 65535 ((s.now.toNat - s.aon.t0.toNat) / 1000000)

/-- The trial images of a start committed, and START_GOOD recorded. -/
def State.goodRecorded (s : State) : State :=
  ([0, 1, 2, 3].foldl State.promote s).log .startGood (leBytes 2 s.startMs ++ [BitVec.ofNat 8 s.aon.target.code])

theorem State.goodRecorded_mgmtOnly (s : State) : s.mgmtOnly s.goodRecorded :=
  State.mgmtOnly_after (State.log_mgmtOnly _ _ _) (State.mgmtOnly_foldl _ State.promote_mgmtOnly _ _)

/-- The state of a start's end, whose loads then follow the mode. -/
def State.good (s : State) : State :=
  (s.goodRecorded.onSupply (fun u => { u with faultLow := false })).onAon (fun a => { a with
    step := 9, startGood := true, goodTime := BitVec.ofNat 16 s.startMs, failedStarts := 0 })

/-- A start for RUN that no wake follows ends in RUN, its loads and sensor supplies as there. -/
theorem State.startComplete_of_run {s : State} (htarget : s.aon.target = .run) (hfalse : s.sleep.falsePending = false) :
    s.startComplete = (s.good.loadAll (s.good.onAon (fun a => { a with mode := .run }))).sensStep.onSleep (fun p =>
      { p with falsePending := false, runAfterGood := false }) := by
  simp only [State.startComplete, htarget, hfalse, State.good, State.goodRecorded, State.startMs, reduceCtorEq, if_false, and_false,
    false_and, Bool.false_eq_true]

@[simp] theorem State.sensStep_aon (s : State) : s.sensStep.aon = s.aon := rfl

@[simp] theorem State.sensStep_supply (s : State) : s.sensStep.supply = s.supply := rfl

@[simp] theorem State.sensStep_core (s : State) : s.sensStep.core = s.core := rfl

@[simp] theorem State.sensStep_bus (s : State) : s.sensStep.bus = s.bus := rfl

@[simp] theorem State.loadAll_harts (s0 s : State) : (s0.loadAll s).core.harts = s.core.harts := by
  rw [State.psOnly_core (s0.loadAll_psOnly s)]

/-- What the end of a start for RUN sets and leaves. -/
theorem State.startComplete_run_frame {s : State} (htarget : s.aon.target = .run) (hfalse : s.sleep.falsePending = false) :
    s.startComplete.aon = { s.aon with
      mode := .run, step := 9, startGood := true, goodTime := BitVec.ofNat 16 s.startMs, failedStarts := 0 }
    ∧ s.startComplete.supply = { s.supply with faultLow := false } ∧ s.startComplete.core.harts = s.core.harts
    ∧ s.startComplete.bus = s.bus := by
  have hrec := s.goodRecorded_mgmtOnly
  rw [State.startComplete_of_run htarget hfalse]
  refine ⟨?_, ?_, ?_, ?_⟩
  · simp [State.good, State.mgmtOnly_aon hrec]
  · simp [State.good, State.mgmtOnly_supply hrec]
  · simp [State.good, State.mgmtOnly_harts hrec]
  · simp [State.good, State.mgmtOnly_bus hrec]

/-- The part of START_GOOD that the state decides. -/
def ownStartGood (s : State) : State × Ans := yes (s.onAon (fun a => { a with goodIssued := true })).maybeGood

theorem exec_startGood (rq : Request) (s : State) : exec (.startGood rq) s = serve specStartGood rq s (fun p => p = []) ownStartGood := rfl

theorem State.goodIssued_bootFailed (s : State) :
    (s.onAon (fun a => { a with goodIssued := true })).bootFailed = s.bootFailed := rfl

/-- START_GOOD is kept where step 8 has not completed or a released hart waits. -/
theorem ownStartGood_kept {s : State} (h : s.aon.step ≠ 8 ∨ s.bootFailed = true) :
    ownStartGood s = (s.onAon (fun a => { a with goodIssued := true }), {}) := by
  rw [ownStartGood, State.maybeGood, if_neg, yes]
  rintro ⟨-, hstep, -, hok⟩
  rw [State.goodIssued_bootFailed] at hok
  exact h.elim (fun h => h hstep) hok

theorem ownStartGood_ends {s : State} (hmode : s.aon.mode = .start) (hstep : s.aon.step = 8) (hboot : s.bootFailed = false) :
    ownStartGood s = ((s.onAon (fun a => { a with goodIssued := true })).startComplete, {}) := by
  have hok : ¬ (s.onAon (fun a => { a with goodIssued := true })).bootFailed = true := by
    rw [State.goodIssued_bootFailed, hboot]
    exact Bool.false_ne_true
  rw [ownStartGood, State.maybeGood, if_pos ⟨hmode, hstep, .inl rfl, hok⟩, yes]

/-- Amind takes START_GOOD in START alone. -/
theorem mode_of_takes_startGood {rq : Request} {s : State} {valid : List Byte → Bool} (h : s.takes specStartGood rq valid false) :
    (s.heard rq).aon.mode = .start := by
  obtain ⟨-, -, -, -, -, -, -, -, hcheck⟩ := h
  by_contra hmode
  have hwrong : (s.heard rq).modeOk specStartGood rq.route = false := by
    unfold State.modeOk
    split <;> simp_all [specStartGood]
  rw [State.precheck, hwrong] at hcheck
  split at hcheck <;> simp at hcheck

/-! ### The start timeout -/

theorem does_startTimeout {s : State} (hmode : s.aon.mode = .start) (hstep : 2 ≤ s.aon.step) (hhold : s.supply.holdup = false)
    (hpin : s.supply.pinHeld = false) (hreq : s.supply.rstReq = false) :
    Does .startTimeout s { s.logAon .startTimeout [BitVec.ofNat 8 (if s.aon.step = 5 then 6 else s.aon.step)] with
      supply := { s.supply with rstReq := true }, aon := { s.aon with nextTimeout := true, nextReq := none } } := by
  have hlog := s.logAon_mgmtOnly .startTimeout [BitVec.ofNat 8 (if s.aon.step = 5 then 6 else s.aon.step)]
  have hexec : exec .startTimeout s = execStartTimeout s := rfl
  rw [Does, hexec, execStartTimeout, if_neg (by simp [hmode, hstep, hhold, hpin])]
  simp only [hreq, Bool.false_eq_true, if_false, fin, State.onSupply, State.onAon, State.mgmtOnly_supply hlog, State.mgmtOnly_aon hlog]

end Sys2Proof.Machine

namespace Sys2Proof.Proofs

open Sys2Proof Sys2Proof.Machine

/-- Settles O17: START_GOOD by whether its part ends the start, which Amind takes in START alone. -/
theorem startGoodAndTimeout : Obligations.StartGoodAndTimeout := by
  refine ⟨fun rq s htakes hkept => replies_of_own (exec_startGood rq s) htakes (ownStartGood_kept hkept),
    fun rq s u hu htakes hstep htarget hboot hfalse => ?_, fun s hmode hstep hhold hpin hreq => does_startTimeout hmode hstep hhold hpin hreq⟩
  subst hu
  have hmode := mode_of_takes_startGood htakes
  obtain ⟨haon, hsupply, hharts, hbus⟩ :=
    State.startComplete_run_frame (s := (s.heard rq).onAon (fun a => { a with goodIssued := true })) htarget hfalse
  refine ⟨_, replies_of_own (exec_startGood rq s) htakes (ownStartGood_ends hmode hstep hboot), by rw [haon], by rw [haon],
    by rw [haon], by rw [haon], by rw [hsupply], by rw [haon]; rfl, hharts, hbus⟩

end Sys2Proof.Proofs

/-! SUPPORT. A SAFE entry that leaves a hart other than after a reset: the end of a guest's Pass window sends a record write that waited for a
tracker, and what that write is issued for counts it as outstanding. -/

namespace Sys2Proof.Machine

open Sys2Proof

theorem State.settle_hart (s : State) (h : Nat) : s.settle.hart h = s.hart h := by
  rw [State.hart, State.irqOnly_harts s.settle_irqOnly, State.hart]

/-- The harts of a state that a command brings are those that its own part leaves. -/
theorem hart_of_does {c : Instr} {s t u : State} (ht : Does c s t) (hu : Does c s u) (h : Nat) : t.hart h = u.hart h := by
  have hsettle : t.settle = u.settle := Host.Outcome.next.inj (ht.symm.trans hu)
  rw [← t.settle_hart, hsettle, u.settle_hart]

/-- A module in RUN with a guest's open Pass window, whose one write is unanswered while a record write of initiator 0 waits for a tracker. -/
def recordWaiting : State where
  supply := { porHeld := false }
  aon := { mode := .run }
  mgmt := { handles := { tab := [(hKey 0x0A 0, { owner := 1 })] } }
  pass := {
    link := .up
    wins := [(0, { opened := true, owner := 1, size := 64 })]
    trackers := [{}]
    recWait := [{ x := { attr := { inst := 1 }, data := [0] } }] }

theorem does_junctionOvertemp (s : State) {temp : U16} (h : 1600 < temp.toInt) :
    Does (.junctionOvertemp temp) s (s.safeTrigger 4 0 0 0) := if_neg (Int.not_le.mpr h)

set_option maxRecDepth 2000 in
theorem recordWaiting_safe_outstanding : ((recordWaiting.safeTrigger 4 0 0 0).hart 0).outstanding = 1 := by decide +kernel

end Sys2Proof.Machine

namespace Sys2Proof.Proofs

open Sys2Proof Sys2Proof.Machine

/-- Refutes O19: above 160 °C the entry from `recordWaiting` leaves hart 0 with an outstanding transaction, and so not as after a reset. The
pairs are reset before the guests end, and the end of the guest's window answers its write, which frees the tracker for the waiting record.
No hypothesis keeps the initiator of a waiting record an engine's. -/
theorem not_safeEntryAndLockstep : ¬ Obligations.SafeEntryAndLockstep := by
  intro h
  obtain ⟨t, hdoes, -, -, -, -, -, -, -, -, -, hharts, -⟩ := h.1 recordWaiting (.junctionOvertemp 1601) 4
    (.inr (.inr ⟨rfl, 1601, rfl, by decide⟩)) rfl rfl rfl rfl (.inl rfl)
  have hhart := hart_of_does hdoes (does_junctionOvertemp recordWaiting (by decide)) 0
  have hout : (t.hart 0).outstanding = 1 := by rw [hhart, recordWaiting_safe_outstanding]
  rw [hharts 0] at hout
  exact absurd hout (by decide)

end Sys2Proof.Proofs

/-! SUPPORT. The steps of a start: what the choice of a slot, the bank, the self-test, the images and the release of the pairs change. -/

namespace Sys2Proof.Machine

open Sys2Proof

/-! ### The states of the pairs -/

/-- The states of the pairs, which the load channels leave. -/
def State.pairSt (s : State) : Nat → PairState := fun p => (s.pair p).st

theorem State.pairSt_of_dropsOnly {s t : State} (h : s.dropsOnly t) : t.pairSt = s.pairSt := funext fun p => State.dropsOnly_st h p

@[simp] theorem State.pairSt_ite {c : Prop} [Decidable c] (a b : State) :
    (if c then a else b).pairSt = if c then a.pairSt else b.pairSt := apply_ite State.pairSt _ _ _

@[simp] theorem State.onPs_pairSt (s : State) (f) : (s.onPs f).pairSt = s.pairSt := rfl

@[simp] theorem State.psEvent_pairSt (s : State) (k : Nat) : (s.psEvent k).pairSt = s.pairSt := rfl

@[simp] theorem State.updLoad_pairSt (s : State) (c : Nat) (f) : (s.updLoad c f).pairSt = s.pairSt := rfl

@[simp] theorem State.updGroup_pairSt (s : State) (g : Nat) (f) : (s.updGroup g f).pairSt = s.pairSt := rfl

@[simp] theorem State.loadPulse_pairSt (s : State) (c : Nat) : (s.loadPulse c).pairSt = s.pairSt := by
  simp [State.loadPulse, State.pairSt_of_dropsOnly (s.pulse_dropsOnly _)]

@[simp] theorem State.groupMsi_pairSt (s : State) (g : Nat) : (s.groupMsi g).pairSt = s.pairSt := by
  unfold State.groupMsi
  split
  · exact State.pairSt_of_dropsOnly (s.msi_dropsOnly _ _ _)
  · rfl

@[simp] theorem State.loadReport_pairSt (s0 s : State) (c : Nat) (b : Bool) : (s0.loadReport s c b).pairSt = s.pairSt := by
  unfold State.loadReport
  split <;> simp

@[simp] theorem State.loadStart_pairSt (s : State) (c : Nat) : (s.loadStart c).pairSt = s.pairSt := by simp [State.loadStart]

@[simp] theorem State.loadSwitch_pairSt (s : State) (c : Nat) : (s.loadSwitch c).pairSt = s.pairSt := by simp [State.loadSwitch]

@[simp] theorem State.loadDrive_pairSt (s : State) (c : Nat) : (s.loadDrive c).pairSt = s.pairSt := by simp [State.loadDrive]

@[simp] theorem State.dutyStep_pairSt (s0 s : State) (c : Nat) : (s0.dutyStep s c).pairSt = s.pairSt := by simp [State.dutyStep]

@[simp] theorem State.partnerReport_pairSt (s0 s : State) (c : Nat) : (s0.partnerReport s c).pairSt = s.pairSt := by
  simp [State.partnerReport]

@[simp] theorem State.loadStep_pairSt (s0 s : State) (c : Nat) (b : Bool) : (s0.loadStep s c b).pairSt = s.pairSt := by
  simp [State.loadStep]

theorem State.foldl_pairSt {α : Type} {f : State → α → State} (hf : ∀ t a, (f t a).pairSt = t.pairSt) (l : List α) (s : State) :
    (l.foldl f s).pairSt = s.pairSt :=
  List.foldlRecOn (motive := fun t => t.pairSt = s.pairSt) l f rfl fun t ht a _ => (hf t a).trans ht

@[simp] theorem State.loadAll_pairSt (s0 s : State) : (s0.loadAll s).pairSt = s.pairSt :=
  State.foldl_pairSt (fun t c => s0.loadStep_pairSt t c false) _ s

@[simp] theorem State.sensStep_pairSt (s : State) : s.sensStep.pairSt = s.pairSt := rfl

/-! ### The choice of a slot -/

/-- A target that has no trial image and whose ACTIVE image can be loaded. -/
structure State.Loadable (s : State) (n : Nat) (b : Bool) : Prop where
  pending : (s.target n).inState .pending = none
  trial : (s.target n).trial = false
  active : (s.target n).inState .active = some b
  usable : s.usable n b = true

/-- The ACTIVE image of a target is loaded, and not on trial. -/
def State.loaded (s : State) (n : Nat) (b : Bool) : State := s.updTarget n (fun x => { x with loaded := some b, onTrial := false })

theorem State.selectSlot_of_loadable {s : State} {n : Nat} {b : Bool} (h : s.Loadable n b) : s.selectSlot n = (s.loaded n b, some b) := by
  simp [State.selectSlot, h.pending, h.trial, h.active, h.usable, State.loaded]

theorem State.usable_of_slot {s : State} {n : Nat} {b : Bool} (hauth : ((s.target n).slot b).authentic = true)
    (hsigner : s.signerOk n ((s.target n).slot b) = true) (hsec : (s.target n).minSec.toNat ≤ ((s.target n).slot b).secver.toNat) :
    s.usable n b = true := by
  simp [State.usable, Target.usable, hauth, hsigner, hsec]

theorem State.loaded_target_ne (s : State) {n m : Nat} (b : Bool) (h : m ≠ n) : (s.loaded n b).target m = s.target m :=
  s.target_updTarget_ne _ h

/-- The signers that a target needs come from target 1 alone. -/
theorem State.loaded_signerOk (s : State) {n : Nat} (m : Nat) (b : Bool) (k : Slot) (h : 1 ≠ n) :
    (s.loaded n b).signerOk m k = s.signerOk m k := by
  have howner : (s.loaded n b).ownerSlot = s.ownerSlot := by rw [State.ownerSlot, State.loaded_target_ne s b h, State.ownerSlot]
  have haon : (s.loaded n b).aon = s.aon := rfl
  simp only [State.signerOk, howner, haon]

theorem State.loaded_loadable {s : State} {n m : Nat} {b c : Bool} (h1 : 1 ≠ n) (hm : m ≠ n) (h : s.Loadable m c) :
    (s.loaded n b).Loadable m c := by
  have ht := s.loaded_target_ne b hm
  exact ⟨by rw [ht, h.pending], by rw [ht, h.trial], by rw [ht, h.active],
    by rw [State.usable, State.loaded_signerOk s m b _ h1, ht]; exact h.usable⟩

@[simp] theorem State.loaded_kept (s : State) (n : Nat) (b : Bool) : (s.loaded n b).kept = s.kept := rfl

/-! ### The bank and RECOVERY -/

/-- The bank as Amind measures it. -/
def Supply.measured (u : Supply) (cap : U16) : Supply := { u with bankCap := cap, holdupLow := decide (cap.toNat < 1200) }

theorem State.bankMeasured_mgmtOnly (s : State) (cap : U16) :
    ({ s with supply := s.supply.measured cap } : State).mgmtOnly (s.bankMeasured cap) := by
  unfold State.bankMeasured
  simp only
  split
  · exact State.log_mgmtOnly _ _ _
  · rfl

theorem State.bankMeasured_supply (s : State) (cap : U16) : (s.bankMeasured cap).supply = s.supply.measured cap :=
  State.mgmtOnly_supply (s.bankMeasured_mgmtOnly cap)

theorem State.bankMeasured_kept (s : State) (cap : U16) :
    (s.bankMeasured cap).kept = { s.kept with supply := s.supply.measured cap } := by
  unfold State.bankMeasured
  simp only
  split
  · rw [State.log_kept]
    rfl
  · rfl

/-- Every pair is off. -/
def State.pairsOff (s : State) : State := (List.range 8).foldl (fun t p => t.updPair p (fun q => { q with st := .off })) s

/-- The switch, the Ethernet ports, the buses and the Pass link as after a reset, and no hart. -/
def State.unitsOff (s : State) : State :=
  ({ s with sw := {}, eth := {}, bus := {}, pass := {} } : State).onCore (fun c => { c with harts := [] })

theorem State.unitsOff_pair (s : State) (p : Nat) : s.unitsOff.pair p = s.pair p := rfl

/-- RECOVERY before the load channels take their defaults. -/
def State.recoveryEntered (s : State) : State :=
  ((s.onAon (fun a => { a with mode := .recovery })).onSupply (fun u => { u with faultLow := true })).pairsOff.unitsOff

/-- The channels at RECOVERY entry, the limp loads among them. -/
def State.loadsRecovered (s : State) : State :=
  let s5 := (List.range 60).foldl State.loadRecovers s
  if s5.limpMay ∧ s5.limpMask ≠ [] ∧ ¬ s5.ps.limpActive then (s5.onPs (fun p => { p with limpActive := true })).psEvent 0 else s5

theorem State.enterRecovery_eq (s : State) : s.enterRecovery = (s.loadAll s.recoveryEntered.loadsRecovered).sensStep := by
  unfold State.enterRecovery State.loadsRecovered State.recoveryEntered State.unitsOff State.pairsOff
  with_reducible rfl

theorem State.loadRecovers_psOnly (s : State) (c : Nat) : s.psOnly (s.loadRecovers c) := s.updLoad_psOnly c _

theorem State.loadRecovers_pairSt (s : State) (c : Nat) : (s.loadRecovers c).pairSt = s.pairSt := s.updLoad_pairSt c _

theorem State.loadsRecovered_psOnly (s : State) : s.psOnly s.loadsRecovered := by
  have hfold : s.psOnly ((List.range 60).foldl State.loadRecovers s) := State.psOnly_foldl _ State.loadRecovers_psOnly _ _
  unfold State.loadsRecovered
  simp only
  split
  · exact State.psOnly_after (State.onPs_psOnly _ _) (State.psOnly_after (State.onPs_psOnly _ _) hfold)
  · exact hfold

theorem State.loadsRecovered_pairSt (s : State) : s.loadsRecovered.pairSt = s.pairSt := by
  simp [State.loadsRecovered, State.foldl_pairSt State.loadRecovers_pairSt]

theorem State.updPairs_frame (f : Pair → Pair) (l : List Nat) (s : State) : l.foldl (fun t p => t.updPair p f) s
    = s.onCore (fun c => { c with pairs := (l.foldl (fun t p => t.updPair p f) s).core.pairs }) :=
  List.foldlRecOn (motive := fun t => t = s.onCore (fun c => { c with pairs := t.core.pairs })) l _ rfl fun t ht p _ => by
    rw [ht]
    rfl

theorem State.pairsOff_pair {s : State} {p : Nat} (hp : p < 8) : (s.pairsOff.pair p).st = .off := by
  rw [State.pairsOff, State.pair_foldl_updPair _ _ List.nodup_range, if_pos (List.mem_range.mpr hp)]

theorem State.pairsOff_frame (s : State) : s.pairsOff = s.onCore (fun c => { c with pairs := s.pairsOff.core.pairs }) :=
  State.updPairs_frame _ _ _

@[simp] theorem State.pairsOff_aon (s : State) : s.pairsOff.aon = s.aon := by rw [State.pairsOff_frame, State.onCore_aon]

@[simp] theorem State.pairsOff_supply (s : State) : s.pairsOff.supply = s.supply := by rw [State.pairsOff_frame, State.onCore_supply]

@[simp] theorem State.unitsOff_aon (s : State) : s.unitsOff.aon = s.aon := rfl

@[simp] theorem State.unitsOff_supply (s : State) : s.unitsOff.supply = s.supply := rfl

/-- What RECOVERY sets. -/
theorem State.enterRecovery_frame (s : State) :
    s.enterRecovery.aon = { s.aon with mode := .recovery } ∧ s.enterRecovery.supply = { s.supply with faultLow := true }
    ∧ (∀ p, p < 8 → (s.enterRecovery.pair p).st = .off) ∧ s.enterRecovery.core.harts = [] ∧ s.enterRecovery.sw = {}
    ∧ s.enterRecovery.eth = {} ∧ s.enterRecovery.bus = {} := by
  have hps := s.recoveryEntered.loadsRecovered_psOnly
  rw [State.enterRecovery_eq]
  refine ⟨?_, ?_, fun p hp => ?_, ?_, ?_, ?_, ?_⟩
  · rw [State.sensStep_aon, State.loadAll_aon, State.psOnly_aon hps, State.recoveryEntered]
    simp
  · rw [State.sensStep_supply, State.loadAll_supply, State.psOnly_supply hps, State.recoveryEntered]
    simp
  · have hst : (s.loadAll s.recoveryEntered.loadsRecovered).sensStep.pairSt = s.recoveryEntered.pairSt := by
      rw [State.sensStep_pairSt, State.loadAll_pairSt, State.loadsRecovered_pairSt]
    have hoff : (s.recoveryEntered.pair p).st = .off := by
      rw [State.recoveryEntered, State.unitsOff_pair, State.pairsOff_pair hp]
    exact (congrFun hst p).trans hoff
  · rw [State.sensStep_core, State.loadAll_harts, State.psOnly_core hps]
    rfl
  · exact (State.loadAll_sw _ _).trans (State.psOnly_sw hps)
  · exact (State.loadAll_eth _ _).trans (State.psOnly_eth hps)
  · exact (State.loadAll_bus _ _).trans (State.psOnly_bus hps)

/-! ### Step 3 -/

theorem State.loaded_target_same (s : State) (n : Nat) (b : Bool) : ((s.loaded n b).target n).loaded = some b := by
  rw [State.loaded, State.target_updTarget_same]

/-- Step 3 with the firmware of slot b running, layer 1 measured and the key store ready. -/
def State.firmwareUp (s : State) (b : Bool) (digest : List Byte) : State :=
  ((((((s.onAon (fun a => { a with step := 3, wdogRunning := true })).svcLoad).loaded 0 b).onKs (fun k => { k with
    layers := Tab.put k.layers 1 (fixLen 48 digest) })).onKs (fun k => { k with st := .ready })).onCe (fun c => { c with ime := true }))

/-- What step 3 makes of a start whose firmware runs: RECOVERY, or the self-tests of the pairs to release. -/
def State.firmwareStep (s : State) (b : Bool) (digest : List Byte) (cap : U16) : State :=
  let u := (s.firmwareUp b digest).strapLog
  if s.aon.recoveryAt3 ∨ s.aon.lifecycle = 4 ∨ s.supply.straps.net = .invalid then (u.bankMeasured cap).enterRecovery
  else u.testsBegin u.toRelease

theorem does_firmware {s : State} {b : Bool} (digest : List Byte) (cap : U16) (hmode : s.aon.mode = .start) (hstep : s.aon.step = 2)
    (hhold : s.supply.holdup = false) (hload : s.Loadable 0 b) (hkeys : s.ks.st ≠ .alarmed) (hwake : s.aon.cause.wake = false) :
    Does (.amindFirmwareAuthenticated ⟨digest, cap⟩) s (s.firmwareStep b digest cap) := by
  have hload1 : ((s.onAon (fun a => { a with step := 3, wdogRunning := true })).svcLoad).Loadable 0 b :=
    ⟨hload.pending, hload.trial, hload.active, hload.usable⟩
  have hexec : exec (.amindFirmwareAuthenticated ⟨digest, cap⟩) s = execAmindFirmwareAuthenticated ⟨digest, cap⟩ s := rfl
  have hgo : ¬ ¬ (s.aon.mode = .start ∧ s.aon.step = 2 ∧ ¬ s.supply.holdup) := by simp [hmode, hstep, hhold]
  have hkeysUp : ((((s.onAon (fun a => { a with step := 3, wdogRunning := true })).svcLoad).loaded 0 b).onKs (fun k => { k with
      layers := Tab.put k.layers 1 (fixLen 48 digest) })).keysUp = s.firmwareUp b digest := if_neg hkeys
  have hwakeLog : (s.firmwareUp b digest).wakeLog = s.firmwareUp b digest := if_pos (by rw [Bool.not_eq_true]; exact hwake)
  rw [Does, hexec, execAmindFirmwareAuthenticated, if_neg hgo]
  simp only [State.selectSlot_of_loadable hload1, hkeysUp, hwakeLog]
  rfl

theorem State.testsBegin_frame (s : State) (l : List Nat) :
    s.testsBegin l = s.onCore (fun c => { c with pairs := (s.testsBegin l).core.pairs }) := State.updPairs_frame _ _ _

theorem State.testsBegin_pair_st (s : State) {l : List Nat} (hl : l.Nodup) (p : Nat) :
    ((s.testsBegin l).pair p).st = if p ∈ l then .selftest else (s.pair p).st := by
  rw [State.testsBegin, State.pair_foldl_updPair _ _ hl]
  split <;> rfl

theorem State.toRelease_nodup (s : State) : s.toRelease.Nodup := by
  unfold State.toRelease
  split
  · exact List.nodup_singleton _
  · exact List.nodup_range

theorem State.mem_toRelease (s : State) {p : Nat} (hp : p < 8) : p ∈ s.toRelease ↔ ¬ (s.aon.target = .part ∧ p ≠ 0) := by
  unfold State.toRelease
  split <;> rename_i h <;> simp [h, hp]

/-- Firmware that runs in a start for another mode than RECOVERY. -/
theorem State.firmwareStep_tests {s : State} {b : Bool} (digest : List Byte) (cap : U16) (hrec : s.aon.recoveryAt3 = false)
    (hlife : s.aon.lifecycle ≠ 4) (hnet : s.supply.straps.net ≠ .invalid) :
    s.firmwareStep b digest cap = (s.firmwareUp b digest).testsBegin s.toRelease := by
  have hstrap : (s.firmwareUp b digest).strapLog = s.firmwareUp b digest := if_neg hnet
  have hno : ¬ (s.aon.recoveryAt3 = true ∨ s.aon.lifecycle = 4 ∨ s.supply.straps.net = .invalid) :=
    not_or.mpr ⟨by rw [hrec]; exact Bool.false_ne_true, not_or.mpr ⟨hlife, hnet⟩⟩
  rw [State.firmwareStep, hstrap, if_neg hno]
  rfl

/-- Step 3: the firmware runs and the pairs are tested, or the start ends in RECOVERY. -/
theorem startFirmware {s : State} {b : Bool} (digest : List Byte) (cap : U16) (hmode : s.aon.mode = .start) (hstep : s.aon.step = 2)
    (hhold : s.supply.holdup = false) (hload : s.Loadable 0 b) (hkeys : s.ks.st ≠ .alarmed) (hwake : s.aon.cause.wake = false) :
    (s.aon.recoveryAt3 = false → s.aon.lifecycle ≠ 4 → s.supply.straps.net ≠ .invalid →
        ∃ t, Does (.amindFirmwareAuthenticated ⟨digest, cap⟩) s t ∧ t.aon = { s.aon with step := 3, wdogRunning := true }
          ∧ t.ks = { s.ks with layers := Tab.put s.ks.layers 1 (fixLen 48 digest), st := .ready } ∧ t.ce = { s.ce with ime := true }
          ∧ t = { s with aon := t.aon, ks := t.ks, ce := t.ce, mgmt := t.mgmt, core := t.core }
          ∧ (∀ p, p < 8 → (t.pair p).st = if s.aon.target = .part ∧ p ≠ 0 then (s.pair p).st else .selftest)
          ∧ t.core.harts = s.core.harts ∧ t.core.dram = s.core.dram ∧ (t.target 0).loaded = some b)
      ∧ ((s.aon.recoveryAt3 = true ∨ s.aon.lifecycle = 4 ∨ s.supply.straps.net = .invalid) →
        ∃ t, Does (.amindFirmwareAuthenticated ⟨digest, cap⟩) s t ∧ t.aon.mode = .recovery ∧ t.supply.faultLow = true
          ∧ t.supply.bankCap = cap ∧ t.supply.holdupLow = decide (cap.toNat < 1200)
          ∧ (∀ p, p < 8 → (t.pair p).st = .off) ∧ t.core.harts = [] ∧ t.sw = {} ∧ t.eth = {} ∧ t.bus = {}) := by
  have hdoes := does_firmware digest cap hmode hstep hhold hload hkeys hwake
  refine ⟨fun hrec hlife hnet => ?_, fun hrec => ?_⟩
  · rw [State.firmwareStep_tests digest cap hrec hlife hnet] at hdoes
    have hframe := (s.firmwareUp b digest).testsBegin_frame s.toRelease
    refine ⟨_, hdoes, ?_, ?_, ?_, ?_, fun p hp => ?_, ?_, ?_, ?_⟩
    · rw [hframe]; rfl
    · rw [hframe]; rfl
    · rw [hframe]; rfl
    · rw [hframe]; rfl
    · rw [State.testsBegin_pair_st _ s.toRelease_nodup, ite_congr (propext (s.mem_toRelease hp)) (fun _ => rfl) (fun _ => rfl), ite_not]
      rfl
    · rw [hframe]; rfl
    · rw [hframe]; rfl
    · rw [hframe]
      exact State.loaded_target_same _ 0 b
  · obtain ⟨haon, hsupply, hpairs, hharts, hsw, heth, hbus⟩ :=
      (((s.firmwareUp b digest).strapLog).bankMeasured cap).enterRecovery_frame
    rw [State.bankMeasured_supply] at hsupply
    rw [State.firmwareStep, if_pos hrec] at hdoes
    exact ⟨_, hdoes, by rw [haon], by rw [hsupply], by rw [hsupply]; rfl, by rw [hsupply]; rfl, hpairs, hharts, hsw, heth, hbus⟩

/-! ### Step 4 -/

theorem State.updPair_mgmtOnly (s : State) (p : Nat) (f : Pair → Pair) : s.mgmtOnly (s.updPair p f) := rfl

theorem State.raiseAgain_irqOnly (s : State) (i : Nat) : s.irqOnly (s.raiseAgain i) := by
  unfold State.raiseAgain
  split
  · exact s.pulse_irqOnly i
  · exact s.irqOnly_refl

theorem State.raiseAgain_dropsOnly (s : State) (i : Nat) : s.dropsOnly (s.raiseAgain i) := by
  unfold State.raiseAgain
  split
  · exact s.pulse_dropsOnly i
  · exact s.dropsOnly_refl

/-- A pair that fails its self-test, before the entry of it. -/
def State.testFailed (s : State) (p : Nat) : State :=
  (s.raiseAgain 192).updPair p (fun q => { q with pass := false, stf := true, st := .failed })

theorem State.selfTest_pass (s : State) (p lane : Nat) :
    s.selfTest p true lane = s.updPair p (fun q => { q with pass := true, stf := false, st := .inReset }) := rfl

theorem State.selfTest_fail (s : State) (p lane : Nat) :
    s.selfTest p false lane = (s.testFailed p).log .selftestFail [BitVec.ofNat 8 p, BitVec.ofNat 8 lane] := rfl

theorem State.testFailed_mgmtOnly (s : State) (p : Nat) : s.mgmtOnly (s.testFailed p) :=
  State.mgmtOnly_after (State.updPair_mgmtOnly _ _ _) (State.mgmtOnly_of_irqOnly (s.raiseAgain_irqOnly 192))

theorem State.selfTest_mgmtOnly (s : State) (p : Nat) (pass : Bool) (lane : Nat) : s.mgmtOnly (s.selfTest p pass lane) := by
  cases pass with
  | true => exact s.updPair_mgmtOnly p _
  | false => exact State.mgmtOnly_after (State.log_mgmtOnly _ _ _) (s.testFailed_mgmtOnly p)

/-- The self-test of a pair decides this pair's state. -/
theorem State.selfTest_pair_same (s : State) (p : Nat) (pass : Bool) (lane : Nat) :
    ((s.selfTest p pass lane).pair p).pass = pass ∧ ((s.selfTest p pass lane).pair p).stf = !pass
      ∧ ((s.selfTest p pass lane).pair p).st = if pass then .inReset else .failed := by
  cases pass with
  | true =>
    rw [State.selfTest_pass, State.pair_updPair, if_pos rfl]
    exact ⟨rfl, rfl, rfl⟩
  | false =>
    have hdrops := (s.testFailed p).log_dropsOnly .selftestFail [BitVec.ofNat 8 p, BitVec.ofNat 8 lane]
    rw [State.selfTest_fail, State.dropsOnly_pass hdrops, State.dropsOnly_stf hdrops, State.dropsOnly_st hdrops, State.testFailed,
      State.pair_updPair, if_pos rfl]
    exact ⟨rfl, rfl, rfl⟩

theorem State.selfTest_pair_ne (s : State) {p q : Nat} (pass : Bool) (lane : Nat) (h : q ≠ p) :
    ((s.selfTest p pass lane).pair q).st = (s.pair q).st ∧ ((s.selfTest p pass lane).pair q).pass = (s.pair q).pass
      ∧ ((s.selfTest p pass lane).pair q).stf = (s.pair q).stf := by
  cases pass with
  | true =>
    rw [State.selfTest_pass, State.pair_updPair, if_neg h]
    exact ⟨rfl, rfl, rfl⟩
  | false =>
    have hdrops := (s.testFailed p).log_dropsOnly .selftestFail [BitVec.ofNat 8 p, BitVec.ofNat 8 lane]
    have hraise := s.raiseAgain_dropsOnly 192
    rw [State.selfTest_fail, State.dropsOnly_pass hdrops, State.dropsOnly_stf hdrops, State.dropsOnly_st hdrops, State.testFailed,
      State.pair_updPair, if_neg h, State.dropsOnly_pass hraise, State.dropsOnly_stf hraise, State.dropsOnly_st hraise]
    exact ⟨rfl, rfl, rfl⟩

theorem State.selfTest_tested (s : State) (p : Nat) (pass : Bool) (lane q : Nat) :
    (s.selfTest p pass lane).tested q = (decide (q = p) || s.tested q) := by
  by_cases h : q = p
  · subst h
    obtain ⟨hpass, -, hst⟩ := s.selfTest_pair_same q pass lane
    rw [State.tested, hpass, hst]
    cases pass <;> simp
  · obtain ⟨hst, hpass, -⟩ := s.selfTest_pair_ne pass lane h
    rw [State.tested, hst, hpass, State.tested]
    simp [h]

/-- Amind's entry takes the next sequence, or its code or the buffer is full. -/
theorem State.log_lastSeq (s : State) (e : Ev) (data : List Byte) :
    (s.log e data).mgmt.ledger.lastSeq = s.mgmt.ledger.lastSeq + 1 ∨ 64 ≤ Tab.get s.mgmt.ledger.rate e.info.1 0
      ∨ 56 ≤ s.mgmt.ledger.amindCount := by
  by_cases hfull : 64 ≤ Tab.get s.mgmt.ledger.rate e.info.1 0 ∨ 56 ≤ s.mgmt.ledger.amindCount
  · exact .inr hfull
  · refine .inl ?_
    rw [State.log, State.ledgerBy]
    simp only [if_neg hfull]
    rw [State.ledgerPut_mgmt]
    rfl

/-- A pair that fails its self-test is recorded. -/
theorem State.selfTest_lastSeq (s : State) (p lane : Nat) :
    (s.selfTest p false lane).mgmt.ledger.lastSeq = s.mgmt.ledger.lastSeq + 1 ∨ 64 ≤ Tab.get s.mgmt.ledger.rate 0x0102 0
      ∨ 56 ≤ s.mgmt.ledger.amindCount := by
  have hmgmt : (s.testFailed p).mgmt = s.mgmt := (State.updPair_mgmt _ _ _).trans (State.irqOnly_mgmt (s.raiseAgain_irqOnly 192))
  have hlog := (s.testFailed p).log_lastSeq .selftestFail [BitVec.ofNat 8 p, BitVec.ofNat 8 lane]
  rw [hmgmt] at hlog
  exact hlog

/-- Step 4 with the memories of the module wiped. -/
def State.stepFour (s : State) : State := s.memoriesWiped.onAon (fun a => { a with step := 4 })

section StepFour
variable (s : State)
theorem State.stepFour_aon : s.stepFour.aon = { s.aon with step := 4 } := rfl
theorem State.stepFour_pair (p : Nat) : s.stepFour.pair p = s.pair p := rfl
theorem State.stepFour_memories : s.stepFour.core.dram = [] ∧ s.stepFour.core.dramEpoch = s.core.dramEpoch + 1
    ∧ s.stepFour.core.sram = [] ∧ s.stepFour.sw.frames = [] := ⟨rfl, rfl, rfl, rfl⟩
theorem State.stepFour_supply : s.stepFour.supply = s.supply := rfl
theorem State.stepFour_ps : s.stepFour.ps = s.ps := rfl
theorem State.stepFour_bus : s.stepFour.bus = s.bus := rfl
theorem State.stepFour_mgmt : s.stepFour.mgmt = s.mgmt := rfl
theorem State.stepFour_harts : s.stepFour.core.harts = s.core.harts := rfl
end StepFour

/-- What the end of a self-test makes of the state: step 4 after the last one. -/
def State.testStep (s : State) (p : Nat) (pass : Bool) (lane : Nat) : State :=
  if s.toRelease.all (fun q => decide (q = p) || s.tested q) then
    (s.selfTest p pass lane).stepFour
  else s.selfTest p pass lane

theorem does_selftest {s : State} {p lane : Nat} {pass : Bool} (hp : p < 8) (hmode : s.aon.mode = .start) (hstep : s.aon.step = 3)
    (hhold : s.supply.holdup = false) (hin : p ∈ s.toRelease) (hpass : (s.pair p).pass = false) (hst : (s.pair p).st ≠ .failed) :
    Does (.comparatorSelftestDone p pass lane) s (s.testStep p pass lane) := by
  have hexec : exec (.comparatorSelftestDone p pass lane) s = execComparatorSelftestDone p pass lane s := rfl
  have hnew : s.tested p = false := by simp [State.tested, hpass, hst]
  have hrelease : (s.selfTest p pass lane).toRelease = s.toRelease := by
    rw [State.toRelease, State.mgmtOnly_aon (s.selfTest_mgmtOnly p pass lane), State.toRelease]
  have hgo : s.aon.mode = .start ∧ s.aon.step = 3 ∧ s.toRelease.contains p ∧ ¬ s.tested p ∧ ¬ s.supply.holdup := by
    simp [hmode, hstep, hin, hnew, hhold]
  rw [Does, hexec, execComparatorSelftestDone, if_neg (Nat.not_le.mpr hp), if_pos hgo]
  simp only [hrelease, funext (s.selfTest_tested p pass lane)]
  rfl

/-- Step 4: a pair's self-test ends. -/
theorem startSelftest {s : State} {p lane : Nat} {pass : Bool} (hp : p < 8) (hmode : s.aon.mode = .start) (hstep : s.aon.step = 3)
    (hhold : s.supply.holdup = false) (hin : p ∈ s.toRelease) (hpass : (s.pair p).pass = false) (hst : (s.pair p).st ≠ .failed) :
    ∃ t, Does (.comparatorSelftestDone p pass lane) s t ∧ (t.pair p).pass = pass ∧ (t.pair p).stf = !pass
        ∧ (t.pair p).st = (if pass then .inReset else .failed)
        ∧ (∀ q, q ≠ p → (t.pair q).st = (s.pair q).st ∧ (t.pair q).pass = (s.pair q).pass ∧ (t.pair q).stf = (s.pair q).stf)
        ∧ t.aon = { s.aon with step := if s.toRelease.all (fun q => q = p || s.tested q) then 4 else 3 }
        ∧ (t.aon.step = 4 → t.core.dram = [] ∧ t.core.dramEpoch = s.core.dramEpoch + 1 ∧ t.core.sram = [] ∧ t.sw.frames = [])
        ∧ (t.aon.step = 3 → t.core.dram = s.core.dram ∧ t.core.sram = s.core.sram ∧ t.sw = s.sw)
        ∧ t.supply = s.supply ∧ t.ps = s.ps ∧ t.bus = s.bus ∧ t.core.harts = s.core.harts
        ∧ (pass = false → t.mgmt.ledger.lastSeq = s.mgmt.ledger.lastSeq + 1 ∨ 64 ≤ Tab.get s.mgmt.ledger.rate 0x0102 0
            ∨ 56 ≤ s.mgmt.ledger.amindCount) := by
  have hframe := s.selfTest_mgmtOnly p pass lane
  have hdoes := does_selftest (pass := pass) (lane := lane) hp hmode hstep hhold hin hpass hst
  obtain ⟨hsame1, hsame2, hsame3⟩ := s.selfTest_pair_same p pass lane
  have hne := fun q (h : q ≠ p) => s.selfTest_pair_ne pass lane h
  have hseq : pass = false → (s.selfTest p pass lane).mgmt.ledger.lastSeq = s.mgmt.ledger.lastSeq + 1
      ∨ 64 ≤ Tab.get s.mgmt.ledger.rate 0x0102 0 ∨ 56 ≤ s.mgmt.ledger.amindCount := by
    rintro rfl
    exact s.selfTest_lastSeq p lane
  have haon := State.mgmtOnly_aon hframe
  have hsupply := State.mgmtOnly_supply hframe
  have hps := State.mgmtOnly_ps hframe
  have hbus := State.mgmtOnly_bus hframe
  have hharts := State.mgmtOnly_harts hframe
  have hepoch : (s.selfTest p pass lane).core.dramEpoch = s.core.dramEpoch := by rw [State.mgmtOnly_core hframe]
  unfold State.testStep at hdoes
  split at hdoes
  case isTrue hlast =>
    rw [if_pos hlast]
    refine ⟨_, hdoes, ?_⟩
    simp only [State.stepFour_pair, State.stepFour_aon, State.stepFour_memories, State.stepFour_supply, State.stepFour_ps,
      State.stepFour_bus, State.stepFour_mgmt, State.stepFour_harts]
    rw [haon, hepoch]
    exact ⟨hsame1, hsame2, hsame3, hne, rfl, fun _ => ⟨trivial, rfl, trivial, trivial⟩, fun h => absurd h (by decide), hsupply,
      hps, hbus, hharts, hseq⟩
  case isFalse hmore =>
    rw [if_neg hmore]
    have hstep' : (s.selfTest p pass lane).aon.step = 3 := by rw [haon, hstep]
    refine ⟨_, hdoes, hsame1, hsame2, hsame3, hne, ?_, fun h => absurd (hstep'.symm.trans h) (by decide),
      fun _ => ⟨State.mgmtOnly_dram hframe, State.mgmtOnly_sram hframe, State.mgmtOnly_sw hframe⟩,
      hsupply, hps, hbus, hharts, hseq⟩
    rw [haon, ← hstep]

/-! ### Step 5 -/

theorem does_startConfig {s : State} {cfg : StoredCfg} {cap : U16} {b : Bool} (hmode : s.aon.mode = .start) (hstep : s.aon.step = 4)
    (hhold : s.supply.holdup = false) (hcfg : s.cfgOk cfg = true) (hload : s.Loadable 1 b) :
    Does (.startConfigApplied cfg cap) s ((((s.loaded 1 b).bankMeasured cap).applyStored cfg).onAon (fun a => { a with step := 5 })) := by
  have hexec : exec (.startConfigApplied cfg cap) s = execStartConfigApplied cfg cap s := rfl
  have hgo : ¬ ¬ (s.aon.mode = .start ∧ s.aon.step = 4 ∧ ¬ s.supply.holdup) := by simp [hmode, hstep, hhold]
  rw [Does, hexec, execStartConfigApplied, if_neg hgo, if_pos hcfg]
  simp only [State.selectSlot_of_loadable hload]
  rfl

/-- Step 5 leaves the control part but for the bank and what the configuration gives. -/
theorem State.configApplied_kept (s : State) (cfg : StoredCfg) (cap : U16) (b : Bool) :
    (((s.loaded 1 b).bankMeasured cap).applyStored cfg).kept = { s.kept with
      supply := s.supply.measured cap, stored := cfg, securePins := cfg.securePins, byteLimit := cfg.byteLimit } := by
  rw [State.applyStored_kept, State.bankMeasured_kept, State.loaded_kept]
  rfl

theorem State.configApplied_dram (s : State) (cfg : StoredCfg) (cap : U16) (b : Bool) :
    (((s.loaded 1 b).bankMeasured cap).applyStored cfg).core.dram = s.core.dram := by
  have hmem : (((s.loaded 1 b).bankMeasured cap).applyStored cfg).core.mem = (s.loaded 1 b).core.mem := by
    rw [State.applyStored_mem, State.bankMeasured_mem]
  exact State.core_mem_dram hmem

/-- Step 5: the stored configuration is in force. -/
theorem startConfig {s : State} {cfg : StoredCfg} {cap : U16} {b : Bool} (hmode : s.aon.mode = .start) (hstep : s.aon.step = 4)
    (hhold : s.supply.holdup = false) (hcfg : s.cfgOk cfg = true) (hload : s.Loadable 1 b) :
    ∃ t, Does (.startConfigApplied cfg cap) s t ∧ t.aon.step = 5 ∧ t.aon.mode = .start ∧ t.mgmt.stored = cfg
        ∧ t.supply = { s.supply with bankCap := cap, holdupLow := decide (cap.toNat < 1200) } ∧ t.mgmt.securePins = cfg.securePins
        ∧ t.ks.byteLimit = cfg.byteLimit ∧ t.core.dram = s.core.dram := by
  have hkept := s.configApplied_kept cfg cap b
  refine ⟨_, does_startConfig hmode hstep hhold hcfg hload, ?_, ?_, congrArg Kept.stored hkept, congrArg Kept.supply hkept,
    congrArg Kept.securePins hkept, congrArg Kept.byteLimit hkept, s.configApplied_dram cfg cap b⟩
  · rw [State.onAon_aon]
  · rw [State.onAon_aon]
    exact (congrArg (fun k : Kept => k.aon.mode) hkept).trans hmode

/-! ### Bytes that are written and read -/

/-- Nothing but the content of the memories differs. -/
def State.memOnly (s t : State) : Prop := t = s.onCore (fun c => { c with dram := t.core.dram, sram := t.core.sram })

theorem State.memOnly_refl (s : State) : s.memOnly s := rfl

theorem State.memOnly_trans {a b c : State} (h : a.memOnly b) (k : b.memOnly c) : a.memOnly c := by
  unfold State.memOnly at *
  rw [k, h]
  rfl

theorem State.setMem_memOnly (s : State) (a : Nat) (l : List Byte) : s.memOnly (s.setMem a l) := by
  induction l generalizing s a with
  | nil => exact s.memOnly_refl
  | cons b l ih =>
    refine State.memOnly_trans ?_ (ih _ _)
    split
    · rfl
    · split <;> rfl

theorem State.placed_memOnly (s : State) (secure mgr : List (A40 × List Byte)) : s.memOnly (s.placed secure mgr) := by
  have hput (l : List (A40 × List Byte)) (u : State) : u.memOnly (l.foldl (fun t p => t.setMem p.1.toNat p.2) u) :=
    List.foldlRecOn (motive := u.memOnly) l _ u.memOnly_refl fun t ht p _ => State.memOnly_trans ht (t.setMem_memOnly _ _)
  unfold State.placed
  simp only
  split
  · exact State.memOnly_trans (hput _ _) (hput _ _)
  · exact hput _ _

section MemOnly
variable {s t : State} (h : s.memOnly t)
include h
theorem State.memOnly_aon : t.aon = s.aon := by rw [h]; rfl
theorem State.memOnly_mgmt : t.mgmt = s.mgmt := by rw [h]; rfl
theorem State.memOnly_ks : t.ks = s.ks := by rw [h]; rfl
end MemOnly

theorem regions_of_sram {x : Nat} (hlo : sramBase ≤ x) (hhi : x < sramEnd) : inSram x = true ∧ inDram x = false := by
  have hdram : ¬ dramBase ≤ x := by
    unfold dramBase
    unfold sramEnd at hhi
    omega
  exact ⟨by rw [inSram, decide_eq_true hlo, decide_eq_true hhi, Bool.and_self], by rw [inDram, decide_eq_false hdram, Bool.false_and]⟩

/-- A byte written to secure SRAM is the byte read. -/
theorem State.setMem_sramByte (l : List Byte) : ∀ {s : State} {a i : Nat} (hi : i < l.length), sramBase ≤ a → a + i < sramEnd →
    (s.setMem a l).sramByte (a + i) = l[i] := by
  induction l with
  | nil => exact fun hi => absurd hi (Nat.not_lt_zero _)
  | cons b l ih =>
    intro s a i hi hlo hhi
    obtain ⟨hsram, hdram⟩ := regions_of_sram hlo (x := a) (by omega)
    rw [State.setMem, hdram, hsram, if_neg Bool.false_ne_true, if_pos rfl]
    cases i with
    | zero =>
      rw [(State.setMem_bytes_outside l (.inl (by omega))).2, State.setSram_sramByte, Nat.add_zero, if_pos rfl]
      rfl
    | succ i =>
      have h := ih (s := s.setSram a b) (a := a + 1) (i := i) (Nat.lt_of_succ_lt_succ hi) (by omega) (by omega)
      rw [Nat.add_right_comm] at h
      exact h

/-- What is read of bytes written to secure SRAM. -/
theorem State.setMem_memBytes {s : State} {a o n : Nat} {l : List Byte} (hlo : sramBase ≤ a) (hhi : a + o + n ≤ sramEnd)
    (hlen : o + n ≤ l.length) : (s.setMem a l).memBytes (a + o) n = (l.drop o).take n := by
  refine List.ext_getElem (by simp [State.memBytes]; omega) fun i hi _ => ?_
  have hin : i < n := by simpa [State.memBytes] using hi
  obtain ⟨hsram, hdram⟩ := regions_of_sram (x := a + o + i) (by omega) (by omega)
  have hbyte := State.setMem_sramByte (s := s) l (i := o + i) (by omega) hlo (by omega)
  rw [← Nat.add_assoc] at hbyte
  simp [State.memBytes, hsram, hdram, hbyte]

/-! ### Step 7 -/

/-- Both images loaded from the slots that b gives, the manager image where it is declared. -/
def State.imagesLoaded (s : State) (b : Nat → Bool) : State :=
  if s.mgmt.stored.manager then (s.loaded 2 (b 2)).loaded 3 (b 3) else s.loaded 2 (b 2)

theorem State.selectImages_of_loadable {s : State} {b : Nat → Bool} (h2 : s.Loadable 2 (b 2))
    (h3 : s.mgmt.stored.manager = true → s.Loadable 3 (b 3)) : s.selectImages = (s.imagesLoaded b, true) := by
  have hstored : (s.loaded 2 (b 2)).mgmt.stored = s.mgmt.stored := rfl
  unfold State.selectImages
  simp only [State.selectSlot_of_loadable h2, Option.isNone_some, Bool.false_eq_true, if_false, State.imagesLoaded]
  by_cases hman : s.mgmt.stored.manager = true
  · have h3' : (s.loaded 2 (b 2)).Loadable 3 (b 3) := State.loaded_loadable (by decide) (by decide) (h3 hman)
    simp [hman, State.selectSlot_of_loadable h3']
  · simp [hman]

theorem State.imagesLoaded_fields (s : State) (b : Nat → Bool) :
    (s.imagesLoaded b).aon = s.aon ∧ (s.imagesLoaded b).mgmt.stored = s.mgmt.stored ∧ (s.imagesLoaded b).ks = s.ks := by
  unfold State.imagesLoaded
  split <;> exact ⟨rfl, rfl, rfl⟩

/-- The handles of the roots leave mode, configuration and layers. -/
theorem State.rootHandles_fields (l : List Nat) (s : State) :
    (l.foldl State.rootHandle s).aon = s.aon ∧ (l.foldl State.rootHandle s).mgmt.stored = s.mgmt.stored
      ∧ (l.foldl State.rootHandle s).ks.layers = s.ks.layers ∧ (l.foldl State.rootHandle s).ks.roots = s.ks.roots := by
  induction l generalizing s with
  | nil => exact ⟨rfl, rfl, rfl, rfl⟩
  | cons n l ih => exact ih (s.rootHandle n)

/-- Layers 2 and 3 measured. -/
def State.layersMeasured (s : State) (digest2 : List Byte) (digest3 : Option (List Byte)) : State :=
  let s1 := s.onKs (fun k => { k with layers := Tab.put k.layers 2 (fixLen 48 digest2), roots := k.st ≠ .alarmed })
  if s.mgmt.stored.manager then s1.onKs (fun k => { k with layers := Tab.put k.layers 3 (fixLen 48 (digest3.getD [])), layer3 := true })
  else s1

theorem State.layersMeasured_fields (s : State) (digest2 : List Byte) (digest3 : Option (List Byte)) :
    (s.layersMeasured digest2 digest3).aon = s.aon ∧ (s.layersMeasured digest2 digest3).mgmt.stored = s.mgmt.stored
      ∧ (s.layersMeasured digest2 digest3).ks.layer 2 = fixLen 48 digest2
      ∧ (s.layersMeasured digest2 digest3).ks.roots = decide (s.ks.st ≠ .alarmed)
      ∧ (s.layersMeasured digest2 digest3).ks.st = s.ks.st := by
  have hlayer2 (t : Tab (List Byte)) : Tab.get (Tab.put t 2 (fixLen 48 digest2)) 2 (List.replicate 48 0) = fixLen 48 digest2 :=
    Tab.get_put_same _ _ _ _
  unfold State.layersMeasured
  simp only
  split
  · exact ⟨rfl, rfl, (Tab.get_put_ne _ _ _ (by decide)).trans (hlayer2 _), rfl, rfl⟩
  · exact ⟨rfl, rfl, hlayer2 _, rfl, rfl⟩

theorem State.measure_of_ready {s : State} (digest2 : List Byte) (digest3 : Option (List Byte)) (hkeys : s.ks.st ≠ .alarmed) :
    s.measure digest2 digest3 = [2, 3, 4, 5].foldl State.rootHandle (s.layersMeasured digest2 digest3) := by
  obtain ⟨-, -, -, -, hst⟩ := s.layersMeasured_fields digest2 digest3
  exact if_neg (by rw [← hst] at hkeys; exact hkeys)

/-- Layers 2 and 3 of a key store that answers. -/
theorem State.measure_fields {s : State} (digest2 : List Byte) (digest3 : Option (List Byte)) (hkeys : s.ks.st ≠ .alarmed) :
    (s.measure digest2 digest3).aon = s.aon ∧ (s.measure digest2 digest3).mgmt.stored = s.mgmt.stored
      ∧ (s.measure digest2 digest3).ks.layer 2 = fixLen 48 digest2 ∧ (s.measure digest2 digest3).ks.roots = true := by
  obtain ⟨haon, hstored, hlayer, hroots, -⟩ := s.layersMeasured_fields digest2 digest3
  obtain ⟨haon1, hstored1, hlayers1, hroots1⟩ := State.rootHandles_fields [2, 3, 4, 5] (s.layersMeasured digest2 digest3)
  rw [State.measure_of_ready digest2 digest3 hkeys]
  refine ⟨haon1.trans haon, hstored1.trans hstored, ?_, (hroots1.trans hroots).trans (decide_eq_true hkeys)⟩
  rw [KeyStore.layer, hlayers1]
  exact hlayer

/-- The state in which the images are measured, carved out and placed. -/
def State.imagesPlaced (s : State) (b : Nat → Bool) (digest2 : List Byte) (digest3 : Option (List Byte)) (parts : ImageParts) : State :=
  (((s.imagesLoaded b).measure digest2 digest3).carve).placed parts.secure parts.mgr

theorem State.imagesPlaced_fields {s : State} (b : Nat → Bool) (digest2 : List Byte) (digest3 : Option (List Byte)) (parts : ImageParts)
    (hkeys : s.ks.st ≠ .alarmed) :
    (s.imagesPlaced b digest2 digest3 parts).aon = s.aon ∧ (s.imagesPlaced b digest2 digest3 parts).mgmt.stored = s.mgmt.stored
      ∧ (s.imagesPlaced b digest2 digest3 parts).ks.layer 2 = fixLen 48 digest2
      ∧ (s.imagesPlaced b digest2 digest3 parts).ks.roots = true := by
  obtain ⟨haon, hstored, hks⟩ := s.imagesLoaded_fields b
  obtain ⟨haon1, hstored1, hlayer1, hroots1⟩ := State.measure_fields (s := s.imagesLoaded b) digest2 digest3 (by rw [hks]; exact hkeys)
  have hmem := (((s.imagesLoaded b).measure digest2 digest3).carve).placed_memOnly parts.secure parts.mgr
  rw [State.imagesPlaced, State.memOnly_aon hmem, State.memOnly_mgmt hmem, State.memOnly_ks hmem]
  exact ⟨haon1.trans haon, hstored1.trans hstored, hlayer1, hroots1⟩

/-- The state at the end of step 7. -/
def State.bootWritten (s : State) (entry mgrEntry : A40) : State :=
  (s.setMem bootRecord (s.bootBytes entry mgrEntry)).onAon (fun a => { a with step := 7 })

theorem does_secureImage {s : State} {b : Nat → Bool} {digest2 : List Byte} {digest3 : Option (List Byte)} {entry mgrEntry : A40}
    {parts : ImageParts} (hmode : s.aon.mode = .start) (hstep : s.aon.step = 5) (hhold : s.supply.holdup = false)
    (h2 : s.Loadable 2 (b 2)) (h3 : s.mgmt.stored.manager = true → s.Loadable 3 (b 3)) :
    Does (.secureImagePlaced digest2 digest3 entry mgrEntry parts) s
      ((s.imagesPlaced b digest2 digest3 parts).bootWritten entry mgrEntry) := by
  have hexec : exec (.secureImagePlaced digest2 digest3 entry mgrEntry parts) s
      = execSecureImagePlaced digest2 digest3 entry mgrEntry parts s := rfl
  have hgo : ¬ ¬ (s.aon.mode = .start ∧ s.aon.step = 5 ∧ ¬ s.supply.holdup) := by simp [hmode, hstep, hhold]
  rw [Does, hexec, execSecureImagePlaced, if_neg hgo]
  simp only [State.selectImages_of_loadable h2 h3, not_true_eq_false, if_false]
  rfl

theorem leBytes_length (n v : Nat) : (leBytes n v).length = n := by
  induction n generalizing v with
  | zero => rfl
  | succ n ih => rw [leBytes, List.length_cons, ih]

/-- The boot record behind its two entries: pairs, mode, carve-outs and layers (R207). -/
def State.bootRest (s : State) : List Byte :=
  let outs := s.mgmt.stored.carveOuts.take 4
  leBytes 1 ((s.toRelease.filter (fun p => (s.pair p).st ≠ .failed)).foldl (fun n p => n + 2 ^ p) 0) ++ leBytes 1 s.aon.target.code
    ++ leBytes 2 outs.length ++ leBytes 4 0 ++ fixLen 64 (outs.map (fun c => leBytes 8 c.1 ++ leBytes 8 c.2)).flatten
    ++ s.ks.layer 2 ++ s.ks.layer 3

/-- The boot record begins with its magic, its version and the two entries. -/
theorem State.bootBytes_head (s : State) (entry mgrEntry : A40) : s.bootBytes entry mgrEntry
    = (leBytes 4 0x424F4F54 ++ leBytes 4 1) ++ (leBytes 8 entry.toNat
      ++ (leBytes 8 (if s.mgmt.stored.manager then mgrEntry.toNat else 0) ++ s.bootRest)) := by
  simp only [State.bootBytes, State.bootRest, List.append_assoc]

theorem State.onAon_memBytes (s : State) (f : Aon → Aon) (a n : Nat) : (s.onAon f).memBytes a n = s.memBytes a n := rfl

/-- What the boot record holds for the boot ROM. -/
theorem State.bootWritten_record (s : State) (entry mgrEntry : A40) :
    (s.bootWritten entry mgrEntry).memBytes bootRecord 8 = leBytes 4 0x424F4F54 ++ leBytes 4 1
    ∧ (s.bootWritten entry mgrEntry).memBytes (bootRecord + 8) 8 = leBytes 8 entry.toNat
    ∧ (s.bootWritten entry mgrEntry).memBytes (bootRecord + 16) 8
      = leBytes 8 (if s.mgmt.stored.manager then mgrEntry.toNat else 0) := by
  have hlo : sramBase ≤ bootRecord := by decide
  have hbytes := s.bootBytes_head entry mgrEntry
  have hmagic : (leBytes 4 0x424F4F54 ++ leBytes 4 1).length = 8 := rfl
  have hentry := leBytes_length 8 entry.toNat
  have hmgr := leBytes_length 8 (if s.mgmt.stored.manager then mgrEntry.toNat else 0)
  rw [State.bootWritten, State.onAon_memBytes, State.onAon_memBytes, State.onAon_memBytes]
  have hlen : 24 ≤ (s.bootBytes entry mgrEntry).length := by
    rw [hbytes]
    simp only [List.length_append, leBytes_length]
    omega
  refine ⟨?_, ?_, ?_⟩
  · have h := State.setMem_memBytes (s := s) (o := 0) (n := 8) hlo (by decide) (l := s.bootBytes entry mgrEntry) (by omega)
    refine h.trans ?_
    rw [hbytes, List.drop_zero, List.take_left' hmagic]
  · rw [State.setMem_memBytes hlo (by decide) (by omega), hbytes, List.drop_left' hmagic, List.take_left' hentry]
  · rw [State.setMem_memBytes hlo (by decide) (by omega), hbytes, ← List.append_assoc, List.drop_left' (by simp [leBytes_length]),
      List.take_left' hmgr]

/-- Step 7: the images and the boot record are placed. -/
theorem startImages {s : State} {b : Nat → Bool} {digest2 : List Byte} {digest3 : Option (List Byte)} {entry mgrEntry : A40}
    {parts : ImageParts} (hmode : s.aon.mode = .start) (hstep : s.aon.step = 5) (hhold : s.supply.holdup = false)
    (hkeys : s.ks.st ≠ .alarmed) (h2 : s.Loadable 2 (b 2)) (h3 : s.mgmt.stored.manager = true → s.Loadable 3 (b 3)) :
    ∃ t, Does (.secureImagePlaced digest2 digest3 entry mgrEntry parts) s t ∧ t.aon.step = 7 ∧ t.aon.mode = .start
        ∧ t.memBytes 0x00011FF000 8 = [0x54, 0x4F, 0x4F, 0x42, 1, 0, 0, 0] ∧ t.memBytes 0x00011FF008 8 = leBytes 8 entry.toNat
        ∧ t.memBytes 0x00011FF010 8 = leBytes 8 (if s.mgmt.stored.manager then mgrEntry.toNat else 0)
        ∧ t.ks.layer 2 = fixLen 48 digest2 ∧ t.ks.roots = true := by
  obtain ⟨haon, hstored, hlayer, hroots⟩ := State.imagesPlaced_fields b digest2 digest3 parts hkeys
  have hmem := (s.imagesPlaced b digest2 digest3 parts).setMem_memOnly bootRecord
    ((s.imagesPlaced b digest2 digest3 parts).bootBytes entry mgrEntry)
  obtain ⟨hmagic, hentry, hmgr⟩ := (s.imagesPlaced b digest2 digest3 parts).bootWritten_record entry mgrEntry
  rw [hstored] at hmgr
  have hks := State.memOnly_ks hmem
  refine ⟨_, does_secureImage hmode hstep hhold h2 h3, ?_, ?_, hmagic, hentry, hmgr, ?_, ?_⟩
  · rw [State.bootWritten, State.onAon_aon]
  · rw [State.bootWritten, State.onAon_aon, State.memOnly_aon hmem, haon]
    exact hmode
  · rw [State.bootWritten, State.onAon_ks, hks, hlayer]
  · rw [State.bootWritten, State.onAon_ks, hks, hroots]

/-! ### Step 8 -/

/-- A hart that its boot ROM has released: secure world, M-mode, its number in x10. -/
def Hart.Released (x : Hart) (h : Nat) : Prop := x.world = true ∧ x.priv = 3 ∧ Tab.get x.x 10 0 = BitVec.ofNat 64 h

/-- What a boot ROM leaves: everything but the harts, the pairs, the fabric's capture and the supply of free values. -/
def State.bootOnly (s t : State) : Prop :=
  t = s.onCore (fun c => { c with harts := t.core.harts, pairs := t.core.pairs, fabErr := t.core.fabErr, fresh := t.core.fresh })

theorem State.bootOnly_trans {a b c : State} (h : a.bootOnly b) (k : b.bootOnly c) : a.bootOnly c := by
  unfold State.bootOnly at *
  rw [k, h]
  rfl

theorem State.capture_bootOnly (s : State) (t : Attr) (a : Nat) (wr : Bool) (r : Resp) : s.bootOnly (s.capture t a wr r) := by
  unfold State.capture
  split <;> rfl

theorem State.capture_pairs_harts (s : State) (t : Attr) (a : Nat) (wr : Bool) (r : Resp) :
    (s.capture t a wr r).core.pairs = s.core.pairs ∧ (s.capture t a wr r).core.harts = s.core.harts := by
  unfold State.capture
  split <;> exact ⟨rfl, rfl⟩

theorem State.markerFetch_bootOnly (s : State) (h a : Nat) : s.bootOnly (s.markerFetch h a).1 := by
  unfold State.markerFetch
  split
  · rfl
  · split
    · rfl
    · exact s.capture_bootOnly _ _ _ _

theorem State.markerFetch_pairs_harts (s : State) (h a : Nat) :
    (s.markerFetch h a).1.core.pairs = s.core.pairs ∧ (s.markerFetch h a).1.core.harts = s.core.harts := by
  unfold State.markerFetch
  split
  · exact ⟨rfl, rfl⟩
  · split
    · exact ⟨rfl, rfl⟩
    · exact s.capture_pairs_harts _ _ _ _

/-- A boot ROM releases its hart and its pair. -/
theorem State.bootHart_eq (s : State) (h : Nat) : ∃ (x : Hart) (u : State), x.Released h ∧ s.bootOnly u ∧ u.core.pairs = s.core.pairs
    ∧ u.core.harts = s.core.harts
    ∧ s.bootHart h = (((u.updHart h (fun _ => x)).updPair h (fun p => { p with st := .running })).onCore (fun c =>
      { c with fresh := c.fresh + 1 })) :=
  ⟨_, _, ⟨rfl, rfl, rfl⟩, s.markerFetch_bootOnly h _, (s.markerFetch_pairs_harts h _).1, (s.markerFetch_pairs_harts h _).2, rfl⟩

theorem State.bootHart_bootOnly (s : State) (h : Nat) : s.bootOnly (s.bootHart h) := by
  obtain ⟨x, u, -, hu, -, -, heq⟩ := s.bootHart_eq h
  rw [heq]
  exact State.bootOnly_trans hu rfl

theorem State.onCore_hart {s : State} {f : Core → Core} (h : (f s.core).harts = s.core.harts) (p : Nat) :
    (s.onCore f).hart p = s.hart p := by rw [State.hart, State.onCore_core, h, State.hart]

theorem State.bootHart_same (s : State) (h : Nat) : ((s.bootHart h).pair h).st = .running ∧ ((s.bootHart h).hart h).Released h := by
  obtain ⟨x, u, hx, -, -, -, heq⟩ := s.bootHart_eq h
  rw [heq, State.onCore_pair rfl, State.onCore_hart rfl, State.pair_updPair, if_pos rfl, State.updPair, State.onCore_hart rfl,
    State.hart_updHart, if_pos rfl]
  exact ⟨rfl, hx⟩

theorem State.bootHart_ne (s : State) {h p : Nat} (hp : p ≠ h) : (s.bootHart h).pair p = s.pair p ∧ (s.bootHart h).hart p = s.hart p := by
  obtain ⟨x, u, -, -, hpairs, hharts, heq⟩ := s.bootHart_eq h
  have hpair : u.pair p = s.pair p := by rw [State.pair, hpairs, State.pair]
  have hhart : u.hart p = s.hart p := by rw [State.hart, hharts, State.hart]
  rw [heq, State.onCore_pair rfl, State.onCore_hart rfl, State.pair_updPair, if_neg hp, State.updHart, State.onCore_pair rfl, hpair,
    State.updPair, State.onCore_hart rfl, ← hhart]
  exact ⟨rfl, (u.hart_updHart h p _).trans (if_neg hp)⟩

theorem State.bootHarts_bootOnly (l : List Nat) (s : State) : s.bootOnly (l.foldl State.bootHart s) :=
  List.foldlRecOn (motive := s.bootOnly) l _ (by rfl) fun t ht h _ => State.bootOnly_trans ht (t.bootHart_bootOnly h)

theorem State.bootHarts_notin {p : Nat} : ∀ {l : List Nat} {s : State}, p ∉ l →
    (l.foldl State.bootHart s).pair p = s.pair p ∧ (l.foldl State.bootHart s).hart p = s.hart p := by
  intro l
  induction l with
  | nil => exact fun _ => ⟨rfl, rfl⟩
  | cons h l ih =>
    intro s hp
    rw [List.mem_cons, not_or] at hp
    obtain ⟨hne, hrest⟩ := hp
    obtain ⟨hpair, hhart⟩ := ih (s := s.bootHart h) hrest
    obtain ⟨hpair1, hhart1⟩ := s.bootHart_ne hne
    rw [List.foldl_cons]
    exact ⟨hpair.trans hpair1, hhart.trans hhart1⟩

theorem State.bootHarts_in {p : Nat} : ∀ {l : List Nat} {s : State}, l.Nodup → p ∈ l →
    ((l.foldl State.bootHart s).pair p).st = .running ∧ ((l.foldl State.bootHart s).hart p).Released p := by
  intro l
  induction l with
  | nil => exact fun _ hp => absurd hp (List.not_mem_nil)
  | cons h l ih =>
    intro s hl hp
    obtain ⟨hnot, hl⟩ := List.nodup_cons.mp hl
    rcases List.mem_cons.mp hp with rfl | hp
    · obtain ⟨hpair, hhart⟩ := State.bootHarts_notin (s := s.bootHart p) hnot
      rw [List.foldl_cons, hpair, hhart]
      exact s.bootHart_same p
    · rw [List.foldl_cons]
      exact ih hl hp

theorem does_pairsReleased {s : State} (hmode : s.aon.mode = .start) (hstep : s.aon.step = 7) (hhold : s.supply.holdup = false)
    (hst : (s.pair 0).st ≠ .failed) (hgood : s.aon.goodIssued = false) (hman : s.mgmt.stored.manager = true) :
    Does .pairsReleased s ((s.pairsRun s.toRelease).onAon (fun a => { a with step := 8 })) := by
  have hboot := State.bootHarts_bootOnly (s.toRelease.filter (fun p => (s.pair p).st = .inReset && (s.pair p).pass)) s
  have haon : (s.pairsRun s.toRelease).aon = s.aon := by rw [State.pairsRun, hboot]; rfl
  have hmgmt : (s.pairsRun s.toRelease).mgmt = s.mgmt := by rw [State.pairsRun, hboot]; rfl
  have hexec : exec .pairsReleased s = execPairsReleased s := rfl
  have hgo : ¬ (¬ (s.aon.mode = .start ∧ s.aon.step = 7 ∧ ¬ s.supply.holdup) ∨ (s.pair 0).st = .failed) := by
    simp [hmode, hstep, hhold, hst]
  have hwait : ((s.pairsRun s.toRelease).onAon (fun a => { a with step := 8 })).maybeGood
      = (s.pairsRun s.toRelease).onAon (fun a => { a with step := 8 }) := by
    refine if_neg ?_
    rintro ⟨-, -, hissued, -⟩
    rw [State.onAon_aon, State.onAon_mgmt, haon, hmgmt, hgood, hman] at hissued
    simp at hissued
  rw [Does, hexec, execPairsReleased, if_neg hgo, hwait, fin]

/-- Step 8: the pairs that passed their self-test run. -/
theorem startRelease {s : State} (hmode : s.aon.mode = .start) (hstep : s.aon.step = 7) (hhold : s.supply.holdup = false)
    (hst : (s.pair 0).st ≠ .failed) (hgood : s.aon.goodIssued = false) (hman : s.mgmt.stored.manager = true) :
    ∃ t, Does .pairsReleased s t ∧ t.aon = { s.aon with step := 8 }
        ∧ (∀ p, p < 8 → (s.aon.target = .part → p = 0) → (s.pair p).st = .inReset → (s.pair p).pass = true →
            (t.pair p).st = .running ∧ (t.hart p).world = true ∧ (t.hart p).priv = 3
            ∧ Tab.get (t.hart p).x 10 0 = BitVec.ofNat 64 p)
        ∧ (∀ p, (s.pair p).st ≠ .inReset ∨ (s.pair p).pass = false → t.pair p = s.pair p)
        ∧ t.mgmt = s.mgmt ∧ t.supply = s.supply ∧ t.core.dram = s.core.dram ∧ t.core.sram = s.core.sram := by
  have hboot := State.bootHarts_bootOnly (s.toRelease.filter (fun p => (s.pair p).st = .inReset && (s.pair p).pass)) s
  have hmem (p : Nat) : p ∈ s.toRelease.filter (fun p => (s.pair p).st = .inReset && (s.pair p).pass)
      ↔ p ∈ s.toRelease ∧ (s.pair p).st = .inReset ∧ (s.pair p).pass = true := by simp
  refine ⟨_, does_pairsReleased hmode hstep hhold hst hgood hman, ?_, fun p hp htarget hreset hpass => ?_,
    fun p hp => ?_, ?_, ?_, ?_, ?_⟩
  · rw [State.onAon_aon, State.pairsRun, hboot]
    rfl
  · have hin : p ∈ s.toRelease := (s.mem_toRelease hp).mpr fun ⟨hpart, hne⟩ => hne (htarget hpart)
    obtain ⟨hpair, hworld, hpriv, hx⟩ := State.bootHarts_in (s := s) (s.toRelease_nodup.filter _) ((hmem p).mpr ⟨hin, hreset, hpass⟩)
    exact ⟨hpair, hworld, hpriv, hx⟩
  · have hnot : p ∉ s.toRelease.filter (fun p => (s.pair p).st = .inReset && (s.pair p).pass) := fun hin => by
      obtain ⟨-, hreset, hpass⟩ := (hmem p).mp hin
      exact hp.elim (fun h => h hreset) fun h => Bool.false_ne_true (h.symm.trans hpass)
    exact (State.bootHarts_notin hnot).1
  · rw [State.onAon_mgmt, State.pairsRun, hboot]
    rfl
  · rw [State.onAon_supply, State.pairsRun, hboot]
    rfl
  · rw [State.onAon_core, State.pairsRun, hboot]
    rfl
  · rw [State.onAon_core, State.pairsRun, hboot]
    rfl

end Sys2Proof.Machine

namespace Sys2Proof.Proofs

open Sys2Proof Sys2Proof.Machine

/-- Settles O16: each step by the state that its command leaves, the slots being loadable as the clauses say. -/
theorem startSteps : Obligations.StartSteps := by
  refine ⟨?_, ?_, ?_, ?_, ?_⟩
  · intro s digest cap b hmode hstep hhold hpend htrial hactive hauth hsec hkeys hwake
    exact startFirmware digest cap hmode hstep hhold ⟨hpend, htrial, hactive, State.usable_of_slot hauth rfl hsec⟩ hkeys hwake
  · intro s p lane pass hp hmode hstep hhold hin hpass hst
    exact startSelftest hp hmode hstep hhold hin hpass hst
  · intro s cfg cap b hmode hstep hhold hcfg hpend htrial hactive hauth hsigner hsec
    exact startConfig hmode hstep hhold hcfg ⟨hpend, htrial, hactive, State.usable_of_slot hauth hsigner hsec⟩
  · intro s d2 d3 e m secure mgr b hmode hstep hhold hkeys hslots
    have hload (n : Nat) (hn : n = 2 ∨ (n = 3 ∧ s.mgmt.stored.manager = true)) : s.Loadable n (b n) := by
      obtain ⟨hpend, htrial, hactive, hauth, hsigner, hsec⟩ := hslots n hn
      exact ⟨hpend, htrial, hactive, State.usable_of_slot hauth hsigner hsec⟩
    exact startImages hmode hstep hhold hkeys (hload 2 (.inl rfl)) fun hman => hload 3 (.inr ⟨rfl, hman⟩)
  · intro s hmode hstep hhold hst hgood hman
    exact startRelease hmode hstep hhold hst hgood hman

end Sys2Proof.Proofs

/-! SUPPORT. Arbitration: who may pass an arbitration point, and who passes it first (Machine/Bus.lean). -/

namespace Sys2Proof.Machine

open Sys2Proof

/-! ### Who may pass -/

/-- A listed pair names its place, stands at the point, and none before it has its initiator and block. -/
theorem mem_eligible_iff {l : List Waiting} {i : Nat} {w : Waiting} : (i, w) ∈ eligible l ↔
    l[i]? = some w ∧ w.withheld = false ∧ ∀ (j : Nat) (v : Waiting), j < i → l[j]? = some v → v.x.ordered w.x = false := by
  have hbefore : ((l.take i).all fun v => !v.x.ordered w.x) = true ↔
      ∀ (j : Nat) (v : Waiting), j < i → l[j]? = some v → v.x.ordered w.x = false := by
    simp only [List.all_eq_true, List.mem_iff_getElem?, List.getElem?_take, Bool.not_eq_true']
    constructor
    · exact fun h j v hj hv => h v ⟨j, by rw [if_pos hj]; exact hv⟩
    · rintro h v ⟨j, hj⟩
      by_cases hlt : j < i
      · exact h j v hlt (by simpa [hlt] using hj)
      · simp [hlt] at hj
  rw [eligible, List.mem_filter, Bool.and_eq_true, hbefore, Bool.not_eq_true', List.mem_mapIdx]
  refine and_congr_left fun _ => ⟨?_, ?_⟩
  · rintro ⟨k, hk, heq⟩
    obtain ⟨rfl, rfl⟩ := Prod.mk.inj heq
    exact List.getElem?_eq_getElem hk
  · intro h
    obtain ⟨hi, rfl⟩ := List.getElem?_eq_some_iff.mp h
    exact ⟨i, hi, rfl⟩

/-- The places rise along the list. -/
theorem eligible_sorted (l : List Waiting) : (eligible l).Pairwise (fun a b => a.1 < b.1) := by
  refine List.Pairwise.filter _ (List.pairwise_iff_getElem.mpr fun i j hi hj hij => ?_)
  simpa using hij

/-! ### Who goes first -/

/-- Of the best so far and another transaction, the one of the higher class, and the earlier one within a class. -/
def firstOf (b : Option (Nat × Waiting)) (e : Nat × Waiting) : Option (Nat × Waiting) :=
  match b with
  | none => some e
  | some v => if v.2.cls.toNat < e.2.cls.toNat then some e else some v

theorem nextWaiting_eq_foldl (l : List Waiting) : nextWaiting l = (eligible l).foldl firstOf none := rfl

/-- One transaction goes before another: its class is higher, or the same and its place no later. -/
def GoesBefore (a b : Nat × Waiting) : Prop :=
  b.2.cls.toNat ≤ a.2.cls.toNat ∧ (b.2.cls = a.2.cls → a.1 ≤ b.1)

theorem GoesBefore.refl (a : Nat × Waiting) : GoesBefore a a := ⟨Nat.le_refl _, fun _ => Nat.le_refl _⟩

/-- A choice that begins with a transaction, before every later one in place, ends with one of them that goes before all. -/
theorem foldl_firstOf_some {r : List (Nat × Waiting)} : ∀ {b : Nat × Waiting}, (b :: r).Pairwise (fun x y => x.1 < y.1) →
    ∃ e ∈ b :: r, r.foldl firstOf (some b) = some e ∧ ∀ d ∈ b :: r, GoesBefore e d := by
  induction r with
  | nil => exact fun {b} _ => ⟨b, by simp, rfl, by simp [GoesBefore.refl]⟩
  | cons a r ih =>
    intro b hsorted
    obtain ⟨hb, har⟩ := List.pairwise_cons.mp hsorted
    have hba : b.1 < a.1 := hb a (by simp)
    by_cases hcls : b.2.cls.toNat < a.2.cls.toNat
    · obtain ⟨e, he, hfold, hall⟩ := ih har
      refine ⟨e, List.mem_cons_of_mem _ he, by simpa [firstOf, hcls] using hfold, fun d hd => ?_⟩
      obtain rfl | hd := List.mem_cons.mp hd
      · have hae := (hall a (by simp)).1
        exact ⟨by omega, fun heq => absurd (congrArg BitVec.toNat heq) (by omega)⟩
      · exact hall d hd
    · have hbr : (b :: r).Pairwise (fun x y => x.1 < y.1) :=
        List.pairwise_cons.mpr ⟨fun d hd => hb d (List.mem_cons_of_mem _ hd), (List.pairwise_cons.mp har).2⟩
      obtain ⟨e, he, hfold, hall⟩ := ih hbr
      refine ⟨e, by simp only [List.mem_cons] at he ⊢; tauto, by simpa [firstOf, hcls] using hfold, fun d hd => ?_⟩
      obtain rfl | hd := List.mem_cons.mp hd
      · exact hall d (by simp)
      · obtain rfl | hd := List.mem_cons.mp hd
        · obtain ⟨hle, hsame⟩ := hall b (by simp)
          refine ⟨by omega, fun heq => ?_⟩
          have hcb : b.2.cls = e.2.cls := BitVec.eq_of_toNat_eq (by have := congrArg BitVec.toNat heq; omega)
          exact Nat.le_of_lt (Nat.lt_of_le_of_lt (hsame hcb) hba)
        · exact hall d (List.mem_cons_of_mem _ hd)

/-- The one that goes first may pass, and goes before all that may. -/
theorem nextWaiting_eq_some {l : List Waiting} {e : Nat × Waiting} (h : nextWaiting l = some e) :
    e ∈ eligible l ∧ ∀ d ∈ eligible l, GoesBefore e d := by
  have hsorted := eligible_sorted l
  rw [nextWaiting_eq_foldl] at h
  cases hlist : eligible l with
  | nil => simp [hlist] at h
  | cons b r =>
    rw [hlist] at h hsorted
    obtain ⟨e', he', hfold, hall⟩ := foldl_firstOf_some hsorted
    obtain rfl : e' = e := Option.some.inj (hfold.symm.trans h)
    exact ⟨he', hall⟩

theorem eligible_of_nextWaiting_none {l : List Waiting} (h : nextWaiting l = none) : eligible l = [] := by
  have hsorted := eligible_sorted l
  rw [nextWaiting_eq_foldl] at h
  cases hlist : eligible l with
  | nil => rfl
  | cons b r =>
    rw [hlist] at h hsorted
    obtain ⟨e, -, hfold, -⟩ := foldl_firstOf_some hsorted
    exact absurd (hfold.symm.trans h) (by simp)

/-! ### Aging -/

theorem does_arbitrationAging {s : State} {i : Nat} {w : Waiting} (hw : s.core.waiting[i]? = some w) (hheld : w.withheld = false)
    (hcls : w.cls.toNat < 2) :
    Does (.arbitrationAging i) s { s with core := { s.core with waiting := s.core.waiting.set i { w with cls := w.cls + 1 } } } := by
  simp only [Does, exec, execArbitrationAging, hw, hheld, Nat.not_le.mpr hcls, Bool.false_eq_true, or_self, if_false, fin, State.onCore]

theorem exec_arbitrationAging_of_high {s : State} {i : Nat} {w : Waiting} (hw : s.core.waiting[i]? = some w) (hcls : 2 ≤ w.cls.toNat) :
    exec (.arbitrationAging i) s = .next s := by
  simp only [exec, execArbitrationAging, hw, hcls, or_true, if_true]

end Sys2Proof.Machine

namespace Sys2Proof.Proofs

open Sys2Proof Sys2Proof.Machine

/-- Settles O35: the choice runs along the transactions that may pass, whose places rise, so the first of a class stays. -/
theorem arbitrationOrder : Obligations.ArbitrationOrder := by
  refine ⟨fun l i w h => ?_, fun l h j v hv hheld => ?_, fun s i w hw hheld =>
    ⟨does_arbitrationAging hw hheld, exec_arbitrationAging_of_high hw⟩⟩
  · obtain ⟨hmem, hall⟩ := nextWaiting_eq_some h
    obtain ⟨hw, hheld, hbefore⟩ := mem_eligible_iff.mp hmem
    exact ⟨hw, hheld, hbefore, fun j v hv hvheld hvbefore => hall (j, v) (mem_eligible_iff.mpr ⟨hv, hvheld, hvbefore⟩)⟩
  · by_contra hnone
    have hmem : (j, v) ∈ eligible l := mem_eligible_iff.mpr ⟨hv, hheld, fun k u hk hu => by
      by_contra hord
      exact hnone ⟨k, u, hk, hu, by simpa using hord⟩⟩
    rw [eligible_of_nextWaiting_none h] at hmem
    exact absurd hmem (by simp)

end Sys2Proof.Proofs

/-! SUPPORT. Regulators: what one admits, charges and withholds, and what a refill leaves (Machine/Bus.lean). -/

namespace Sys2Proof.Machine

open Sys2Proof

/-! ### Metering -/

theorem State.meter_of_admitted {s : State} {t : Attr} {a n : Nat} (h : s.metered t a = true)
    (hadm : (s.reg t.inst.toNat).admits (chargeOf n) = true) : s.meter t a n =
      (s.updReg t.inst.toNat (fun _ => ((s.reg t.inst.toNat).charge (chargeOf n) t.qos).1),
        some ((s.reg t.inst.toNat).charge (chargeOf n) t.qos).2) := by
  simp [State.meter, h, hadm]

theorem State.meter_of_withheld {s : State} {t : Attr} {a n : Nat} (h : s.metered t a = true)
    (hadm : (s.reg t.inst.toNat).admits (chargeOf n) = false) :
    s.meter t a n = (s.updReg t.inst.toNat (fun r => { r with heldNow := true }), none) := by
  simp [State.meter, h, hadm]

/-- Metering changes the regulator of the transaction's instance alone. -/
theorem State.meter_reg_ne (s : State) (t : Attr) (a n : Nat) {k : Nat} (hk : k ≠ t.inst.toNat) :
    (s.meter t a n).1.reg k = s.reg k := by
  cases hmet : s.metered t a with
  | false => rw [State.meter_of_not_metered n hmet]
  | true =>
    cases hadm : (s.reg t.inst.toNat).admits (chargeOf n) with
    | true => rw [State.meter_of_admitted hmet hadm, State.reg_updReg, if_neg hk]
    | false => rw [State.meter_of_withheld hmet hadm, State.reg_updReg, if_neg hk]

theorem State.not_metered_of {s : State} {t : Attr} {a : Nat} (h : t.sec = true ∨ t.inst = 63 ∨ inDram a = false) :
    s.metered t a = false := by
  unfold State.metered
  obtain h | h | h := h <;> simp [h]

theorem Regulator.admits_iff {r : Regulator} {n : Nat} : r.admits n = true ↔ r.ceil = 0xFFFF ∨ n ≤ r.ceilBucket := by
  simp [Regulator.admits]

/-! ### Refill -/

/-- The regulator with its waiting change in force. -/
def Regulator.changed (r : Regulator) : Regulator :=
  match r.next with
  | some (e, c, g, l, b) => { r with en := e, cls := c, guar := g, ceil := l, burst := b, next := none }
  | none => r

theorem Regulator.changed_of_none {r : Regulator} (h : r.next = none) : r.changed = r := by
  unfold Regulator.changed
  rw [h]

theorem Regulator.changed_of_some {r : Regulator} {e : Bool} {c : BitVec 2} {g l b : U16} (h : r.next = some (e, c, g, l, b)) :
    r.changed = { r with en := e, cls := c, guar := g, ceil := l, burst := b, next := none } := by
  unfold Regulator.changed
  rw [h]

theorem Regulator.changed_bytes (r : Regulator) : r.changed.bytes = r.bytes := by
  unfold Regulator.changed
  split <;> rfl

theorem Regulator.refill_eq (r : Regulator) : r.refill = { r.changed with
    guarBucket := min (r.changed.burst.toNat * 256) (r.guarBucket + r.changed.guar.toNat * 16)
    ceilBucket := min (r.changed.burst.toNat * 256) (r.ceilBucket + r.changed.ceil.toNat * 16)
    held := if r.heldNow then satInc r.held else r.held, heldNow := false } := by
  cases hnext : r.next with
  | none => simp only [Regulator.refill, hnext, Regulator.changed_of_none hnext]
  | some change => simp only [Regulator.refill, hnext, Regulator.changed_of_some hnext]

theorem Regulator.refill_default : ({} : Regulator).refill = {} := by simp [Regulator.refill]

/-- Every regulator is refilled. -/
def State.refilled (s : State) : State := s.onCore (fun c => { c with regs := c.regs.map (fun e => (e.1, e.2.refill)) })

theorem State.refilled_reg (s : State) (n : Nat) : s.refilled.reg n = (s.reg n).refill :=
  Tab.get_map _ Regulator.refill n {} Regulator.refill_default

/-- Where nothing waits, a refill releases nothing. -/
theorem does_regulatorRefill {s : State} (hup : s.fabricUp = true) (hwait : s.core.waiting = []) : Does .regulatorRefill s s.refilled := by
  have hrelease : s.refilled.releaseHeld = s.refilled := by simp [State.releaseHeld, State.refilled, hwait]
  simp only [Does, exec, execRegulatorRefill, hup, not_true_eq_false, if_false, fin]
  exact congrArg (fun t : State => Host.Outcome.next t.settle) hrelease

end Sys2Proof.Machine

namespace Sys2Proof.Proofs

open Sys2Proof Sys2Proof.Machine

/-- Settles O34: metering by whether the ceiling admits the charge, and a refill by the one of each regulator. -/
theorem regulators : Obligations.Regulators := by
  refine ⟨fun s t a n hmet => ⟨fun hadm => ?_, fun hceil hlow => ?_, fun k hk => s.meter_reg_ne t a n hk⟩,
    fun s t a n h => State.meter_of_not_metered n (State.not_metered_of h), fun s hup hwait => ?_⟩
  · rw [State.meter_of_admitted hmet (Regulator.admits_iff.mpr hadm), State.reg_updReg, if_pos rfl]
    refine ⟨?_, rfl, ?_, rfl⟩ <;> simp [Regulator.charge, chargeOf]
  · refine State.meter_of_withheld hmet (Bool.eq_false_iff.mpr fun hadm => ?_)
    exact (Regulator.admits_iff.mp hadm).elim hceil (Nat.not_le.mpr hlow)
  · refine ⟨s.refilled, does_regulatorRefill hup hwait, rfl, fun n => ?_⟩
    rw [State.refilled_reg, Regulator.refill_eq]
    refine ⟨fun h => ?_, fun e c g l b h => ?_, rfl, rfl, rfl, (s.reg n).changed_bytes⟩
    · simp only [Regulator.changed_of_none h, and_self]
    · simp only [Regulator.changed_of_some h, and_self]

end Sys2Proof.Proofs

/-! SUPPORT. The commands of the secure world: what CHECKER_LOCK locks, and what a change of the pin table leaves (Machine/Safe.lean). -/

namespace Sys2Proof.Machine

open Sys2Proof

/-! ### The lock of the checkers -/

/-- A region as CHECKER_LOCK leaves it in secure SRAM: locked if it is enabled. -/
def Region.lockedIfOn (g : Region) : Region := { g with lock := g.lock || g.en }

/-- Regions 0 to 3 of a table are locked. -/
def lockFirstFour (t : Tab Region) : Tab Region :=
  [0, 1, 2, 3].foldl (fun (t : Tab Region) n => Tab.upd t n {} (fun g => { g with lock := true })) t

theorem lockFirstFour_get (t : Tab Region) (n : Nat) :
    Tab.get (lockFirstFour t) n {} = { Tab.get t n {} with lock := (Tab.get t n {}).lock || decide (n < 4) } := by
  by_cases hn : n < 4
  · obtain rfl | rfl | rfl | rfl : n = 0 ∨ n = 1 ∨ n = 2 ∨ n = 3 := by omega
    all_goals simp [lockFirstFour, Tab.get_upd]
  · obtain ⟨h0, h1, h2, h3⟩ : n ≠ 0 ∧ n ≠ 1 ∧ n ≠ 2 ∧ n ≠ 3 := by omega
    simp [lockFirstFour, Tab.get_upd, hn, h0, h1, h2, h3]

/-- The checkers are locked. -/
def State.checkersLocked (s : State) : State := s.onCore (fun c => { c with
  locked := true
  sramRegions := c.sramRegions.map (fun e => (e.1, e.2.lockedIfOn))
  dramRegions := lockFirstFour c.dramRegions })

theorem State.checkersLocked_sram (s : State) (n : Nat) :
    Tab.get s.checkersLocked.core.sramRegions n {} = (Tab.get s.core.sramRegions n {}).lockedIfOn :=
  Tab.get_map _ Region.lockedIfOn n {} rfl

theorem replies_checkerLock {rq : Request} {s : State} (htakes : s.takes specCheckerLock rq (fun p => p = []) false) :
    Replies (.checkerLock rq) rq s (s.heard rq).checkersLocked {} :=
  serveWith_takes (fun s => yes s.checkersLocked) htakes

/-! ### The pin table -/

theorem exec_secureClaim (rq : Request) (s : State) : exec (.secureClaim rq) s = serve specSecureClaim rq s okPin (fun s =>
    if s.pinCovered (u8At rq.payload 0) false ∨ s.pinRuled (u8At rq.payload 0) then no s .busy
    else yes (s.pinChange (u8At rq.payload 0) true)) := rfl

theorem exec_secureRelease (rq : Request) (s : State) : exec (.secureRelease rq) s = serve specSecureRelease rq s okPin (fun s =>
    if s.pinCovered (u8At rq.payload 0) true then no s .busy else yes (s.pinChange (u8At rq.payload 0) false)) := rfl

end Sys2Proof.Machine

namespace Sys2Proof.Proofs

open Sys2Proof Sys2Proof.Machine

/-- Settles O21: each request by its command's own part, which for a pin turns on whether the pin is in use. -/
theorem secureWorldCommands : Obligations.SecureWorldCommands := by
  refine ⟨?lock, ?claim, ?claimBusy, ?release, ?releaseBusy⟩
  case lock =>
    rintro rq s u rfl htakes
    exact ⟨_, replies_checkerLock htakes, rfl, rfl, State.checkersLocked_sram _, lockFirstFour_get _⟩
  case claim =>
    refine serves_of_own exec_secureClaim fun rq s h => ?_
    obtain ⟨hcovered, hruled⟩ := h
    simp only [hcovered, hruled]
    rfl
  case claimBusy => exact serves_of_own exec_secureClaim fun rq s hused => if_pos hused
  case release =>
    refine serves_of_own exec_secureRelease fun rq s hcovered => ?_
    simp only [hcovered]
    rfl
  case releaseBusy => exact serves_of_own exec_secureRelease fun rq s hcovered => if_pos hcovered

end Sys2Proof.Proofs

/-! SUPPORT. The time base and its comparators: reads of the counter page, firing, TC_CTRL and a new timer (Machine/Time.lean), and the rows
of one register that pass their port at once (Machine/Admission.lean). -/

namespace Sys2Proof.Machine

open Sys2Proof

/-! ### A row of one register -/

/-- A register row that passes its port and its checks has its own effect and is answered. -/
theorem State.accessAt_of_ok {s : State} {x : Xact} {k : XKind} {own : State → State × Resp × List Byte} (hup : s.fabricUp = true)
    (hfits : x.fits (if k = .read then x.size else x.data.length) = true) (hport : s.portFree k x)
    (hok : s.verdict x.attr x.addr.toNat (if k = .read then x.size else x.data.length) (k = .read) (k ≠ .read) = .ok) :
    s.accessAt x k own = (own s).1.answered (own s).2.1 (own s).2.2 := by
  simp only [State.accessAt, hup, hfits, State.held_of_portFree hport, hok, not_true_eq_false, or_self, if_false]

theorem State.readAt_of_ok {s : State} {x : Xact} {own : State → State × Resp × List Byte} (hup : s.fabricUp = true)
    (hfits : x.fits x.size = true) (hport : s.portFree .read x) (hok : s.verdict x.attr x.addr.toNat x.size true false = .ok) :
    s.accessAt x .read own = (own s).1.answered (own s).2.1 (own s).2.2 :=
  State.accessAt_of_ok hup hfits hport hok

theorem State.writeAt_of_ok {s : State} {x : Xact} {own : State → State} (hup : s.fabricUp = true) (hfits : x.fits x.data.length = true)
    (hport : s.portFree .write x) (hok : s.verdict x.attr x.addr.toNat x.data.length false true = .ok) :
    s.writeAt x own = (own s).answered .ok [] :=
  State.accessAt_of_ok hup hfits hport hok

/-- An aligned access of up to eight bytes is one that R119 allows. -/
theorem Xact.fits_of_aligned {x : Xact} {n : Nat} (hn : n = 4 ∨ n = 8) (ha : x.addr.toNat % n = 0) : x.fits n = true := by
  simp only [Xact.fits, Bool.and_eq_true, Bool.or_eq_true, decide_eq_true_eq]
  obtain rfl | rfl := hn <;> omega

/-- An aligned access raises no exception. -/
theorem Xact.misaligned_of_aligned {x : Xact} {n : Nat} (ha : x.addr.toNat % n = 0) : x.misaligned n = false := by
  simp [Xact.misaligned, ha]

/-! ### The counter page -/

theorem does_tbLowWordRead {s : State} {x : Xact} {o : Nat} (ho : o = 0 ∨ o = 8) (ha : x.addr.toNat = tbPage + o) (hup : s.fabricUp = true)
    (hsends : s.sends x.attr) (hsize : x.size = 4) (hport : s.portFree .read x) (hok : s.verdict x.attr (tbPage + o) 4 true false = .ok) :
    Does (.tbLowWordRead x) s (State.answered { s with tb := (s.tb.read x.attr.init.toNat o).1 } .ok
      (leBytes 4 (s.tb.read x.attr.init.toNat o).2.toNat)) := by
  have hlow : (x.addr.toNat = tbPage ∨ x.addr.toNat = tbPage + 8) ∧ x.size = 4 := ⟨by omega, hsize⟩
  have hfits : x.fits x.size = true := by
    rw [hsize]
    exact Xact.fits_of_aligned (.inl rfl) (by rw [ha, tbPage]; omega)
  rw [← ha, ← hsize] at hok
  have ho' : x.addr.toNat - tbPage = o := by omega
  simp only [Does, exec, execTbLowWordRead, State.issueX_of_sends _ hsends, if_pos hlow, State.readAt_of_ok hup hfits hport hok, ho', fin]

/-! ### Firing -/

theorem State.due_iff {s : State} {n : Nat} : s.due n = true ↔
    (s.timer n).arm = true ∧ s.timerOff n = false ∧ (s.timer n).cmp.toNat ≤ (s.counter (s.timer n)).toNat := by
  simp [State.due, and_assoc]

theorem State.fireDue_of_not_due {s : State} {n : Nat} (h : s.due n = false) : s.fireDue n = s := by simp [State.fireDue, h]

/-- Nothing but the interrupt files and the pairs' drop counters differs. -/
def State.filesOnly (s t : State) : Prop := t = { s with core := { s.core with imsics := t.core.imsics, pairs := t.core.pairs } }

theorem State.msi_filesOnly (s : State) (h file ident : Nat) : s.filesOnly (s.msi h file ident) := by
  unfold State.msi
  split
  · rfl
  · split <;> rfl

theorem State.timerMsi_filesOnly (s : State) (n : Nat) : s.filesOnly (s.timerMsi n) := by
  unfold State.timerMsi
  split
  · exact s.msi_filesOnly _ _ _
  · rfl

theorem State.filesOnly_timers {s t : State} (h : s.filesOnly t) : t.timers = s.timers := by rw [h]

/-- A firing changes its comparator, interrupt files and drop counters alone. -/
theorem State.fireDue_frame (s : State) (n : Nat) : s.fireDue n = { s with
    timers := (s.fireDue n).timers, core := { s.core with imsics := (s.fireDue n).core.imsics, pairs := (s.fireDue n).core.pairs } } := by
  unfold State.fireDue
  split
  next =>
    have hmsi := State.timerMsi_filesOnly (s.updTimer n (fun c => c.fire (s.counter c))) n
    rw [State.filesOnly_timers hmsi]
    exact hmsi
  next => rfl

theorem State.fireDue_mgmt (s : State) (n : Nat) : (s.fireDue n).mgmt = s.mgmt := by rw [State.fireDue_frame]

theorem State.fireDue_timer (s : State) (n k : Nat) : (s.fireDue n).timer k =
    if k = n ∧ s.due n = true then (s.timer n).fire (s.counter (s.timer n)) else s.timer k := by
  unfold State.fireDue
  split
  next hdue =>
    simp only [State.timer, State.filesOnly_timers (State.timerMsi_filesOnly _ n), hdue, and_true]
    exact s.timer_updTimer n k _
  next hdue => simp [hdue]

theorem State.fireDue_timer_ne (s : State) {n k : Nat} (h : k ≠ n) : (s.fireDue n).timer k = s.timer k := by
  simp [State.fireDue_timer, h]

theorem State.fireDue_timer_of_due {s : State} {n : Nat} (h : s.due n = true) :
    (s.fireDue n).timer n = (s.timer n).fire (s.counter (s.timer n)) := by
  simp [State.fireDue_timer, h]

theorem does_comparatorFire {n : Nat} (hn : n < 64) (s : State) : Does (.comparatorFire n) s (s.fireDue n) := by
  simp only [Does, exec, execComparatorFire, Nat.not_le.mpr hn, if_false, fin]

/-- The periods that a periodic comparator skips when it fires. -/
def Comparator.skipped (c : Comparator) (now : U64) : Nat := (now.toNat - c.cmp.toNat) / max 1 c.period.toNat

theorem Comparator.fire_of_periodic {c : Comparator} (h : c.periodic = true) (now : U64) : c.fire now = { c with
    fired := true, cmp := c.cmp + BitVec.ofNat 64 ((c.skipped now + 1) * c.period.toNat), missed := satAdd c.missed (c.skipped now) } := by
  simp [Comparator.fire, h, Comparator.skipped]

theorem Comparator.fire_of_single {c : Comparator} (h : c.periodic = false) (now : U64) :
    c.fire now = { c with fired := true, arm := false } := by
  simp [Comparator.fire, h]

/-- Neither its base, its period nor its kind changes when a comparator fires. -/
theorem Comparator.fire_config (c : Comparator) (now : U64) : (c.fire now).fired = true ∧ (c.fire now).base = c.base
    ∧ (c.fire now).period = c.period ∧ (c.fire now).periodic = c.periodic := by
  cases h : c.periodic with
  | true => simp [Comparator.fire_of_periodic h, h]
  | false => simp [Comparator.fire_of_single h, h]

/-- The new value is the first one beyond the counter. -/
theorem Comparator.skipped_bounds {c : Comparator} {now : U64} (hle : c.cmp.toNat ≤ now.toNat) (hperiod : 0 < c.period.toNat) :
    now.toNat < c.cmp.toNat + (c.skipped now + 1) * c.period.toNat ∧ c.cmp.toNat + c.skipped now * c.period.toNat ≤ now.toNat := by
  have hmax : max 1 c.period.toNat = c.period.toNat := by omega
  rw [Comparator.skipped, hmax]
  have hdiv := Nat.div_add_mod' (now.toNat - c.cmp.toNat) c.period.toNat
  have hmod := Nat.mod_lt (now.toNat - c.cmp.toNat) hperiod
  rw [Nat.add_mul]
  omega

/-! ### TC_CTRL -/

theorem mix_allOnes (old v : U32) : mix old v (BitVec.allOnes 32) = v := by
  rw [mix, BitVec.not_allOnes, BitVec.and_zero, BitVec.and_allOnes, BitVec.zero_or]

/-- A write of the whole word, where arming is not refused. -/
def Comparator.ctrl (c : Comparator) (v : U32) : Comparator := { c with
  base := v.getLsbD 1, periodic := v.getLsbD 3, arm := v.getLsbD 0 && !(v.getLsbD 3 && c.period.toNat < 8)
  fired := c.fired && !v.getLsbD 2, missed := if v.getLsbD 2 then 0 else c.missed }

theorem State.tcCtrlSet_allOnes {s : State} {n : Nat} (v : U32) (hoff : s.timerOff n = false) (hreset : s.timerReset n = false) :
    s.tcCtrlSet n v (BitVec.allOnes 32) = s.updTimer n (fun c => c.ctrl v) := by
  simp only [State.tcCtrlSet, hoff, hreset, mix_allOnes, BitVec.and_allOnes, Bool.or_self, Bool.not_false, Bool.true_or, Bool.and_true,
    Comparator.ctrl]

theorem State.timerOff_of_mgmt {s t : State} (h : t.mgmt = s.mgmt) (n : Nat) : t.timerOff n = s.timerOff n := by
  simp only [State.timerOff, State.hFind, State.fnOffFor, State.fnOff, State.inst, h]

theorem State.timerReset_of_mgmt {s t : State} (h : t.mgmt = s.mgmt) (n : Nat) : t.timerReset n = s.timerReset n := by
  simp only [State.timerReset, State.hFind, State.inst, h]

/-- The state after a write of TC_CTRL of comparator n, behind a firing that is due. -/
def State.ctrlWritten (s : State) (n : Nat) (v : U32) : State := ((s.fireDue n).updTimer n (fun c => c.ctrl v)).answered .ok []

theorem State.ctrlWritten_timer (s : State) (n k : Nat) (v : U32) :
    (s.ctrlWritten n v).timer k = if k = n then ((s.fireDue n).timer n).ctrl v else s.timer k := by
  have htimer : (s.ctrlWritten n v).timer k = if k = n then ((s.fireDue n).timer n).ctrl v else (s.fireDue n).timer k :=
    (s.fireDue n).timer_updTimer n k (fun c => c.ctrl v)
  rw [htimer]
  split
  next => rfl
  next hk => exact s.fireDue_timer_ne hk

/-- The bits of a word written from bytes. -/
theorem Comparator.ctrl_ofNat (c : Comparator) (k : Nat) : c.ctrl (BitVec.ofNat 32 k) = { c with
    base := k.testBit 1, periodic := k.testBit 3, arm := k.testBit 0 && !(k.testBit 3 && decide (c.period.toNat < 8))
    fired := c.fired && !k.testBit 2, missed := if k.testBit 2 then 0 else c.missed } := by
  simp only [Comparator.ctrl, BitVec.getLsbD_ofNat, Nat.reduceLT, decide_true, Bool.true_and]

/-- A write of TC_CTRL has its effect behind a firing that is due. -/
theorem does_tcCtrlWrite {s : State} {x : Xact} {n : Nat} (hn : n < 64) (ha : x.addr.toNat = 0x16100008 + n * 0x1000)
    (hlen : x.data.length = 4) (hup : s.fabricUp = true) (hsends : s.sends x.attr) (hport : s.portFree .write x)
    (hok : s.verdict x.attr (0x16100008 + n * 0x1000) 4 false true = .ok) (hoff : s.timerOff n = false) (hreset : s.timerReset n = false) :
    Does (.tcCtrlWrite x) s (s.ctrlWritten n (BitVec.ofNat 32 (leNat x.data))) := by
  have hrow : tcBase ≤ x.addr.toNat ∧ x.addr.toNat < tcBase + 0x40000 ∧ x.addr.toNat % 0x1000 = 8 ∧ x.data.length = 4 := by
    rw [tcBase]; omega
  have hnum : (x.addr.toNat - tcBase) / 0x1000 = n := by rw [tcBase]; omega
  have hfits : x.fits x.data.length = true := by
    rw [hlen]
    exact Xact.fits_of_aligned (.inl rfl) (by omega)
  have hset := State.tcCtrlSet_allOnes (BitVec.ofNat 32 (leNat x.data))
    ((State.timerOff_of_mgmt (s.fireDue_mgmt n) n).trans hoff) ((State.timerReset_of_mgmt (s.fireDue_mgmt n) n).trans hreset)
  rw [← ha, ← hlen] at hok
  simp only [Does, exec, execTcCtrlWrite, State.issueX_of_sends _ hsends, if_pos hrow, State.writeAt_of_ok hup hfits hport hok, hnum,
    State.tcCtrlPut, hset, fin, State.ctrlWritten]

/-! ### A new timer -/

/-- A new handle is LIVE. -/
theorem State.hCreate_hLive_isSome (s : State) (typ index owner : Nat) (sec : Bool) (b : Bind) (charge : Nat × Nat × Nat) :
    ((s.hCreate typ index owner sec b charge).hLive typ index).isSome = true := by
  simp [State.hLive, State.hFind, State.hCreate, Tab.has_put]

/-- The state after TIMER_CREATE of the manager has been granted comparator n. -/
def State.timerGranted (s : State) (rq : Request) (n : Nat) : State :=
  ((s.takeFree 0x0B 64).hCreate 0x0B n 0 false (bindAt rq.payload 0) (0, 1, 0)).updTimer n (fun _ => {})

theorem ownTimerCreate_of_free {rq : Request} {s : State} {n : Nat} (hroute : rq.route = .stall 0) (hoff : s.fnOffFor 0 false 0x0D 0 = false)
    (hfree : s.firstFree 0x0B 64 = some n) (hroom : s.roomFor 0x0B 0 0 false 1 0 = true) :
    ownTimerCreate rq s = (s.timerGranted rq n,
      { handle := some (mkHandle 0x0B 0 (s.genOf 0x0B n) n), payload := leBytes 8 (0x16100000 + n * 0x1000) }) := by
  have hinst : s.issuerInst (.stall 0) = 0 := rfl
  have hsec : rq.isSec = false := by simp [Request.isSec, hroute]
  simp only [ownTimerCreate, hroute, hinst, hsec, hoff, hfree, hroom, Bool.false_eq_true, not_true_eq_false, if_false, tcBase,
    State.timerGranted]

end Sys2Proof.Machine

namespace Sys2Proof.Proofs

open Sys2Proof Sys2Proof.Machine

/-- Settles O26: each row of the counter page and of TC_CTRL by its own effect, a firing by whether the comparator is periodic, and
TIMER_CREATE by its own part. -/
theorem timeBaseAndComparators : Obligations.TimeBaseAndComparators := by
  refine ⟨?lowWord, ?fires, ?ctrl, ?creates⟩
  case lowWord =>
    exact fun s x hup hsends hsize hport => ⟨fun ha hok => does_tbLowWordRead (.inl rfl) ha hup hsends hsize hport hok,
      fun ha hok => does_tbLowWordRead (.inr rfl) ha hup hsends hsize hport hok⟩
  case fires =>
    intro s n hn harm hoff hreached
    have hdue : s.due n = true := State.due_iff.mpr ⟨harm, hoff, hreached⟩
    refine ⟨s.fireDue n, does_comparatorFire hn s, ?_⟩
    rw [State.fireDue_timer_of_due hdue]
    obtain ⟨hfired, hbase, hperiod, hkind⟩ := (s.timer n).fire_config (s.counter (s.timer n))
    refine ⟨hfired, hbase, hperiod, hkind, fun hsingle => ?_, fun hperiodic => ?_, fun m hm => s.fireDue_timer_ne hm, s.fireDue_frame n⟩
    · simp [Comparator.fire_of_single hsingle]
    · rw [Comparator.fire_of_periodic hperiodic]
      exact ⟨harm, _, rfl, rfl, fun h8 => Comparator.skipped_bounds hreached (by omega)⟩
  case ctrl =>
    intro s x n hn ha hlen hup hsends hport hok hoff hreset
    have hdoes := does_tcCtrlWrite hn ha hlen hup hsends hport hok hoff hreset
    have hsame := s.ctrlWritten_timer n n (BitVec.ofNat 32 (leNat x.data))
    rw [if_pos rfl, Comparator.ctrl_ofNat] at hsame
    have hother (m : Nat) (hm : m ≠ n) : (s.ctrlWritten n (BitVec.ofNat 32 (leNat x.data))).timer m = s.timer m := by
      rw [State.ctrlWritten_timer, if_neg hm]
    refine ⟨fun hdue => ⟨_, hdoes, ?_⟩, fun hdue => ⟨_, hdoes, ?_⟩⟩
    · obtain ⟨hfired, -, hperiod, -⟩ := (s.timer n).fire_config (s.counter (s.timer n))
      rw [← State.fireDue_timer_of_due hdue] at hfired hperiod
      rw [hsame, hfired, hperiod]
      exact ⟨rfl, rfl, rfl, rfl, rfl, hother⟩
    · rw [State.fireDue_of_not_due hdue] at hsame
      rw [hsame]
      refine ⟨rfl, rfl, rfl, rfl, rfl, rfl, rfl, hother, ?_⟩
      rw [State.ctrlWritten, State.fireDue_of_not_due hdue]
      rfl
  case creates =>
    rintro rq s u n rfl htakes hroute hoff hfree hroom
    refine ⟨_, replies_of_own rfl htakes (ownTimerCreate_of_free hroute hoff hfree hroom), ?_, fun m hm => ?_, ?_, rfl⟩
    · simp [State.timerGranted, State.timer_updTimer]
    · rw [State.timerGranted, State.timer_updTimer, if_neg hm]
      rfl
    · exact State.hCreate_hLive_isSome _ _ _ _ _ _ _

end Sys2Proof.Proofs

/-! SUPPORT. Interrupts of a hart across the worlds, its retirements, MWORLD and the errors of its caches (Machine/Csr.lean,
Machine/Harts.lean). -/

namespace Sys2Proof.Machine

open Sys2Proof

/-! ### CSRs, events and retirements -/

theorem Hart.csrAt_setCsr (h : Hart) (n k : Nat) (v : U64) : (h.setCsr n v).csrAt k = if k = n then v else h.csrAt k := Tab.get_put ..

@[simp] theorem Hart.csrAt_setCsr_same (h : Hart) (n : Nat) (v : U64) : (h.setCsr n v).csrAt n = v := by simp [Hart.csrAt_setCsr]

/-- Nothing of a hart but its shared CSRs from 0x320 on differs. -/
def Hart.countersOnly (h k : Hart) : Prop := k = { h with csr := k.csr } ∧ ∀ c < 0x320, k.csrAt c = h.csrAt c

theorem Hart.countersOnly_refl (h : Hart) : h.countersOnly h := ⟨rfl, fun _ _ => rfl⟩

theorem Hart.countersOnly_trans {h k j : Hart} (hk : h.countersOnly k) (kj : k.countersOnly j) : h.countersOnly j := by
  obtain ⟨hframe, hcsr⟩ := hk
  obtain ⟨kframe, kcsr⟩ := kj
  refine ⟨?_, fun c hc => (kcsr c hc).trans (hcsr c hc)⟩
  rw [kframe, hframe]

theorem Hart.setCsr_countersOnly (h : Hart) {n : Nat} (hn : 0x320 ≤ n) (v : U64) : h.countersOnly (h.setCsr n v) :=
  ⟨rfl, fun c hc => by rw [Hart.csrAt_setCsr, if_neg (by omega)]⟩

theorem Hart.bump_countersOnly (h : Hart) (k n : Nat) : h.countersOnly (h.bump k n) := by
  have hcount := h.setCsr_countersOnly (n := 0xB00 + k) (by omega) (h.csrAt (0xB00 + k) + BitVec.ofNat 64 n)
  unfold Hart.bump
  simp only
  split
  · exact Hart.countersOnly_trans (Hart.countersOnly_trans hcount (Hart.setCsr_countersOnly _ (by omega) _))
      (Hart.setCsr_countersOnly _ (by omega) _)
  · exact hcount

/-- An event counts, and changes nothing else. -/
theorem Hart.event_countersOnly (h : Hart) (ev : Nat) : h.countersOnly (h.event ev) := by
  unfold Hart.event Hart.events
  split
  · exact h.countersOnly_refl
  · refine List.foldlRecOn (motive := h.countersOnly) _ _ h.countersOnly_refl fun t ht i _ => ?_
    simp only
    split
    · exact Hart.countersOnly_trans ht (t.bump_countersOnly _ _)
    · exact ht

theorem Hart.event_frame (h : Hart) (ev : Nat) : h.event ev = { h with csr := (h.event ev).csr } := (h.event_countersOnly ev).1

theorem Hart.counting_iff {h : Hart} : h.counting = true ↔ h.world = false ∨ h.scount = true := by simp [Hart.counting]

theorem Hart.retire_of_counting {h : Hart} (hc : h.counting = true) (b : Nat) : h.retire b =
    let k := if (h.csrAt 0x320).getLsbD 2 then h else h.setCsr 0xB02 (h.csrAt 0xB02 + 1)
    if (h.csrAt 0x320).getLsbD 0 then k else k.setCsr 0xB00 (h.csrAt 0xB00 + BitVec.ofNat 64 b) := by
  simp [Hart.retire, hc]

theorem Hart.retire_of_not_counting {h : Hart} (hc : h.counting = false) (b : Nat) : h.retire b = h := by simp [Hart.retire, hc]

theorem Hart.retire_frame (h : Hart) (b : Nat) : h.retire b = { h with csr := (h.retire b).csr } := by
  cases hc : h.counting with
  | false => rw [Hart.retire_of_not_counting hc]
  | true =>
    rw [Hart.retire_of_counting hc]
    simp only
    split <;> split <;> rfl

theorem Hart.retire_csrAt (h : Hart) (b : Nat) {c : Nat} (hcycle : c ≠ 0xB00) (hinstret : c ≠ 0xB02) :
    (h.retire b).csrAt c = h.csrAt c := by
  cases hc : h.counting with
  | false => rw [Hart.retire_of_not_counting hc]
  | true =>
    rw [Hart.retire_of_counting hc]
    simp only
    split <;> split <;> simp [Hart.csrAt_setCsr, hcycle, hinstret]

theorem Hart.retire_instret {h : Hart} (hc : h.counting = true) (hon : (h.csrAt 0x320).getLsbD 2 = false) (b : Nat) :
    (h.retire b).csrAt 0xB02 = h.csrAt 0xB02 + 1 := by
  rw [Hart.retire_of_counting hc]
  simp only [hon]
  split <;> simp [Hart.csrAt_setCsr]

theorem State.hart_retired (s : State) (n k : Nat) (f : Hart → Hart) : (s.retired n f).hart k =
    if k = n then f ((s.hart n).retire (1 + Config.freeNat 3 s.core.fresh)) else s.hart k :=
  s.hart_updHart n k (fun h => f (h.retire (1 + Config.freeNat 3 s.core.fresh)))

/-! ### Interrupts -/

/-- An interrupt enters M-mode in the secure world; the world that it leaves, its pc and the cause are saved. -/
theorem Hart.trapM_entry (h : Hart) (cause : Nat) (tval pc gpa : U64) :
    (h.trapM cause true tval pc gpa).world = true ∧ (h.trapM cause true tval pc gpa).priv = 3
      ∧ (h.trapM cause true tval pc gpa).mpw = h.world ∧ (h.trapM cause true tval pc gpa).csrAt 0x341 = pc
      ∧ (h.trapM cause true tval pc gpa).csrAt 0x342 = causeWord cause true :=
  ⟨rfl, rfl, rfl, by simp [Hart.trapM, Hart.csrAt_setCsr], by simp [Hart.trapM, Hart.csrAt_setCsr]⟩

theorem State.takeSecure_of_not_pending {s : State} {n cause : Nat} (h : s.pendingSecure n cause = false) : s.takeSecure n cause = none := by
  simp [State.takeSecure, h]

theorem State.takeSecure_timer {s : State} {n : Nat} (hpending : (s.hart n).mtip = true) (hon : ((s.hart n).csrAt 0x304).getLsbD 7 = true)
    (hworld : (s.hart n).world = false) (hpriv : (s.hart n).priv ≠ 3) :
    s.takeSecure n 7 = some ((s.hart n).trapM 7 true 0 (s.hart n).pc 0) := by
  have hsecure : s.pendingSecure n 7 = true := hpending
  have hbelow : (s.hart n).priv = 3 → (s.hart n).mie = true := fun hmachine => absurd hmachine hpriv
  simpa [State.takeSecure, hsecure, hon, hworld] using hbelow

theorem State.takesIrq_of_secure {s : State} {n cause : Nat} {k : Hart} (h : s.takeSecure n cause = some k) :
    s.takesIrq n cause = some (0, k) := by
  simp [State.takesIrq, h]

/-- An interrupt that is not a secure one has a later rank. -/
theorem State.takesIrq_rank_pos {s : State} {n cause r : Nat} {k : Hart} (h : s.takeSecure n cause = none)
    (ht : s.takesIrq n cause = some (r, k)) : 0 < r := by
  simp only [State.takesIrq, h] at ht
  split at ht
  · obtain ⟨rfl, -⟩ := Prod.mk.inj (Option.some.inj ht)
    split <;> decide
  · obtain ⟨_, _, heq⟩ := Option.map_eq_some_iff.mp ht
    exact (Prod.mk.inj heq).1 ▸ (by decide)

/-- In the priority order only the machine external and software interrupts stand before the machine timer interrupt. -/
theorem causeOrder_timer : ∀ c ∈ causeOrder, c = 11 ∨ c = 3 ∨ causeOrder.idxOf 7 ≤ causeOrder.idxOf c := by decide

/-- The machine timer interrupt goes before all but the machine external one; no hart has a machine software interrupt. -/
theorem State.goesFirst_timer {s : State} {n : Nat} (h : s.takeSecure n 11 = none) : s.goesFirst n 7 0 = true := by
  have hsoft : s.takeSecure n 3 = none := State.takeSecure_of_not_pending rfl
  simp only [State.goesFirst, List.all_eq_true]
  intro c hc
  split
  next => rfl
  next r k htakes =>
    obtain rfl | rfl | horder := causeOrder_timer c hc
    · simp [State.takesIrq_rank_pos h htakes]
    · simp [State.takesIrq_rank_pos hsoft htakes]
    · obtain rfl | hpos := Nat.eq_zero_or_pos r
      · simp [horder]
      · simp [hpos]

theorem exec_interruptTake_of_none {s : State} {n cause : Nat} (hn : n < 8) (h : s.takesIrq n cause = none) :
    exec (.interruptTake n cause) s = .next s := by
  simp [exec, execInterruptTake, Nat.not_le.mpr hn, h]

theorem does_interruptTake {s : State} {n cause r : Nat} {k k' : Hart} (hn : n < 8) (hruns : s.hartRuns n = true)
    (htakes : s.takesIrq n cause = some (r, k)) (hfirst : s.goesFirst n cause r = true)
    (hcounted : (s.updHart n (fun h => h.event 0x09)).takesIrq n cause = some (r, k')) :
    Does (.interruptTake n cause) s (s.updHart n (fun _ => k')) := by
  have htwice : (s.updHart n (fun h => h.event 0x09)).updHart n (fun _ => k') = s.updHart n (fun _ => k') := by
    simp [State.updHart, State.onCore]
  simp [Does, exec, execInterruptTake, Nat.not_le.mpr hn, hruns, htakes, hfirst, hcounted, htwice, fin]

/-- No interrupt of the normal world is taken in the secure world. -/
theorem State.takesIrq_of_world {s : State} {n cause : Nat} (hworld : (s.hart n).world = true) (hcause : cause ∈ [2, 6, 9, 10, 12, 13]) :
    s.takesIrq n cause = none := by
  have hsecure : s.takeSecure n cause = none := State.takeSecure_of_not_pending (by
    simp only [List.mem_cons, List.not_mem_nil, or_false] at hcause
    obtain rfl | rfl | rfl | rfl | rfl | rfl := hcause <;> rfl)
  have hnormal : s.takeNormal n cause = none := by simp [State.takeNormal, hworld]
  have hvs : s.takeVS n cause = none := by simp [State.takeVS, hworld]
  simp [State.takesIrq, hsecure, hnormal, hvs]

/-- The machine timer interrupt of a hart in the normal world is taken, unless the machine external one can be. -/
theorem does_interruptTake_timer {s : State} {n : Nat} (hn : n < 8) (hruns : s.hartRuns n = true) (hpending : (s.hart n).mtip = true)
    (hon : ((s.hart n).csrAt 0x304).getLsbD 7 = true) (hworld : (s.hart n).world = false) (hpriv : (s.hart n).priv ≠ 3)
    (hext : s.takeSecure n 11 = none) : Does (.interruptTake n 7) s
      (s.updHart n (fun _ => ((s.hart n).event 0x09).trapM 7 true 0 (s.hart n).pc 0)) := by
  obtain ⟨hframe, hcsr⟩ := (s.hart n).event_countersOnly 0x09
  have hsame : (s.updHart n (fun h => h.event 0x09)).hart n = (s.hart n).event 0x09 := by simp [State.hart_updHart]
  have hcounted := State.takeSecure_timer (s := s.updHart n (fun h => h.event 0x09)) (n := n) (by rw [hsame, hframe]; exact hpending)
    (by rw [hsame, hcsr _ (by omega)]; exact hon) (by rw [hsame, hframe]; exact hworld) (by rw [hsame, hframe]; exact hpriv)
  rw [hsame] at hcounted
  have hpc : ((s.hart n).event 0x09).pc = (s.hart n).pc := by rw [hframe]
  rw [hpc] at hcounted
  exact does_interruptTake hn hruns (State.takesIrq_of_secure (State.takeSecure_timer hpending hon hworld hpriv))
    (State.goesFirst_timer hext) (State.takesIrq_of_secure hcounted)

theorem does_hartTimerMatch {s : State} {n : Nat} (hn : n < 8) (hreached : (s.hart n).mtimecmp.toNat ≤ s.tb.localT.toNat) :
    Does (.hartTimerMatch n 0) s (s.updHart n (fun k => { k with mtip := true })) := by
  simp [Does, exec, execHartTimerMatch, Nat.not_le.mpr hn, hreached, fin]

/-! ### Fences and MWORLD -/

theorem State.hartRuns_of {s : State} {n : Nat} (hst : (s.pair n).st = .running) (hboot : (s.hart n).bootWait = false) :
    s.hartRuns n = true := by simp [State.hartRuns, hst, hboot]

theorem exec_fence {s : State} {n : Nat} (hn : n < 8) (hruns : s.hartRuns n = true) : exec (.fence n) s =
    if (s.hart n).outstanding = 0 then fin (s.retired n (fun k => { k with pc := k.pc + 4 })) else .next s := by
  simp [exec, execFence, Nat.not_le.mpr hn, hruns]

theorem does_fenceI {s : State} {n : Nat} (hn : n < 8) (hruns : s.hartRuns n = true) :
    Does (.fenceI n) s (s.retired n (fun k => { k with pc := k.pc + 4, fencei := k.fencei + 1 })) := by
  simp [Does, exec, execFenceI, Nat.not_le.mpr hn, hruns, fin]

theorem exec_mworldWrite {s : State} {n : Nat} (hn : n < 8) (hruns : s.hartRuns n = true) (v : U64) :
    exec (.mworldWrite n v) s = fin (s.csrExec n 0x7C1 v) := by
  simp [exec, execMworldWrite, Nat.not_le.mpr hn, hruns]

/-- An M-level CSR is M-mode's alone. -/
theorem State.levelFault_machine {s : State} {n c : Nat} (hknown : csrKnown c = true) (hlevel : c / 256 = 3 ∨ c / 256 = 7)
    (hdebug : ¬ (0x7B0 ≤ c ∧ c ≤ 0x7B3)) (hselect : c ≠ 0x351) :
    s.levelFault n c = if (s.hart n).priv = 3 then none else some 2 := by
  have hmachine : c / 256 % 4 = 3 := by omega
  have hwritable : c / 1024 ≠ 3 := by omega
  simp [State.levelFault, hknown, hwritable, hdebug, hmachine, hselect]

theorem State.csrFault_machine {s : State} {n c : Nat} (hknown : csrKnown c = true) (hlevel : c / 256 = 3 ∨ c / 256 = 7)
    (hdebug : ¬ (0x7B0 ≤ c ∧ c ≤ 0x7B3)) (hselect : c ≠ 0x351) :
    s.csrFault n c = if (s.hart n).priv = 3 then none else some 2 := by
  by_cases hpriv : (s.hart n).priv = 3
  · simp only [State.csrFault, State.levelFault_machine hknown hlevel hdebug hselect, hpriv, if_true, Hart.sstcFault, or_true]
  · simp only [State.csrFault, State.levelFault_machine hknown hlevel hdebug hselect, hpriv, if_false]

/-- A CSR that M-mode may write is written with the bank that MPW names, and the instruction retires. -/
theorem State.csrExec_of_machine {s : State} {n c : Nat} (hpriv : (s.hart n).priv = 3) (hfault : s.csrFault n c = none)
    (hvs : vsNumber c = c) (v : U64) :
    s.csrExec n c v = (s.csrWrite n (s.hart n).mpw c v).retired n (fun k => { k with pc := k.pc + 4 }) := by
  simp only [State.csrExec, hfault, hpriv, if_true, hvs, ite_self]

theorem State.csrWrite_mworld (s : State) (n : Nat) (w : Bool) (v : U64) : s.csrWrite n w 0x7C1 v = s.updHart n (fun k => { k with
    mpw := v.getLsbD 0, tollen := v.getLsbD 1, scount := v.getLsbD 2 && s.aon.lifecycle = 1 }) := rfl

theorem does_mworldWrite {s : State} {n : Nat} (hn : n < 8) (hruns : s.hartRuns n = true) (hpriv : (s.hart n).priv = 3) (v : U64) :
    Does (.mworldWrite n v) s ((s.updHart n (fun k => { k with
      mpw := v.getLsbD 0, tollen := v.getLsbD 1, scount := v.getLsbD 2 && s.aon.lifecycle = 1 })).retired n (fun k =>
        { k with pc := k.pc + 4 })) := by
  have hfault : s.csrFault n 0x7C1 = none := by
    rw [State.csrFault_machine (by decide) (by decide) (by decide) (by decide), if_pos hpriv]
  rw [Does, exec_mworldWrite hn hruns, State.csrExec_of_machine hpriv hfault (by decide), State.csrWrite_mworld, fin]

theorem does_mworldWrite_outside {s : State} {n : Nat} (hn : n < 8) (hruns : s.hartRuns n = true) (hpriv : (s.hart n).priv ≠ 3) (v : U64) :
    Does (.mworldWrite n v) s (s.illegal n 2) := by
  have hfault : s.csrFault n 0x7C1 = some 2 := by
    rw [State.csrFault_machine (by decide) (by decide) (by decide) (by decide), if_neg hpriv]
  simp only [Does, exec_mworldWrite hn hruns, State.csrExec, hfault, fin]

/-! ### The caches -/

theorem does_l1ParityError {s : State} {n : Nat} (hn : n < 8) :
    Does (.l1ParityError n) s (s.updPair n (fun p => { p with l1 := satInc p.l1 })) := by
  simp only [Does, exec, execL1ParityError, Nat.not_le.mpr hn, if_false, fin]

theorem does_l2CorrectableError {s : State} {k : Nat} (hk : k < 2) :
    Does (.l2CorrectableError k) s (s.updCluster k (fun c => { c with corr := satInc c.corr })) := by
  simp only [Does, exec, execL2CorrectableError, Nat.not_le.mpr hk, if_false, fin]

theorem State.irqOnly_cluster {s t : State} (h : s.irqOnly t) (k : Nat) : t.cluster k = s.cluster k := by
  rw [h]
  rfl

/-- Two changes that agree on the unit's value are one. -/
theorem State.updCluster_congr {s : State} {k : Nat} {f g : Cluster → Cluster} (h : f (s.cluster k) = g (s.cluster k)) :
    s.updCluster k f = s.updCluster k g := by
  simp only [State.cluster] at h
  simp only [State.updCluster, State.onCore, Tab.upd, h]

/-- An uncorrectable error poisons a line that is not poisoned yet. -/
theorem does_l2UncorrectableError {s : State} {k : Nat} {a : A40} (hk : k < 2) (hclean : (s.cluster k).poison.contains (a.toNat / 64) = false) :
    Does (.l2UncorrectableError k a) s (((s.raiseAgain 193).updCluster k (fun c => { c with
      uncorr := satInc c.uncorr, poison := c.poison ++ [a.toNat / 64] })).log .l2Uncorrectable
        ([BitVec.ofNat 8 k, 0, 0, 0] ++ leBytes 8 (a.toNat / 64 * 64))) := by
  simp only [Does, exec, execL2UncorrectableError, Nat.not_le.mpr hk, if_false, fin]
  rw [State.updCluster_congr]
  simp only [State.irqOnly_cluster (s.raiseAgain_irqOnly 193), hclean, Bool.false_eq_true, if_false]

/-- A line that a cluster holds poisoned is a listed cluster's: an unlisted one holds none. -/
theorem Tab.any_of_get {α : Type} {t : Tab α} {i : Nat} {d : α} {p : α → Bool} (hd : p d = false) (h : p (Tab.get t i d) = true) :
    t.any (fun e => p e.2) = true := by
  induction t with
  | nil => simp [hd] at h
  | cons e r ih =>
    by_cases he : e.1 = i
    · have hfirst : p e.2 = true := by simpa [Tab.get, he] using h
      simp [hfirst]
    · have hrest : p (Tab.get r i d) = true := by simpa [Tab.get, he] using h
      simp [ih hrest]

theorem does_poisonedLineConsumed {s : State} {n : Nat} {u : PoisonUse} (hn : n < 8) (hruns : s.hartRuns n = true)
    (hpoison : ∃ k, (s.cluster k).poison.contains (u.line.toNat / 64) = true) (fetch : Bool) (pc : U64) :
    Does (.poisonedLineConsumed n fetch u pc) s (s.trap n (if fetch then 1 else 5) u.virt pc) := by
  obtain ⟨k, hk⟩ := hpoison
  have hany : s.core.clusters.any (fun e => e.2.poison.contains (u.line.toNat / 64)) = true :=
    Tab.any_of_get (p := fun c : Cluster => c.poison.contains (u.line.toNat / 64)) rfl hk
  simp only [Does, exec, execPoisonedLineConsumed, Nat.not_le.mpr hn, hruns, hany, and_self, if_true, if_false, fin]

end Sys2Proof.Machine

namespace Sys2Proof.Proofs

open Sys2Proof Sys2Proof.Machine

/-- Settles O30: the timer interrupt by its rank and its place in the priority order, a write of MWORLD by the level of the hart, and each
error by what its command counts. -/
theorem interruptsFencesAndCaches : Obligations.InterruptsFencesAndCaches := by
  refine ⟨⟨?reached, ?taken, ?heldBack⟩, ⟨?fences, ?retired, ?retirement, ?parity, ?correctable, ?uncorrectable, ?consumed⟩⟩
  case reached => exact fun s n hn hreached => does_hartTimerMatch hn hreached
  case taken =>
    intro s n hn hst hboot hpending hon hworld hpriv hext
    obtain ⟨hin, hm, hmpw, hepc, hcause⟩ := ((s.hart n).event 0x09).trapM_entry 7 0 (s.hart n).pc 0
    have hfrom : ((s.hart n).event 0x09).world = false := by rw [Hart.event_frame]; exact hworld
    refine ⟨_, does_interruptTake_timer hn (State.hartRuns_of hst hboot) hpending hon hworld hpriv hext, ?_⟩
    rw [State.hart_updHart, if_pos rfl]
    exact ⟨rfl, hin, hm, hmpw.trans hfrom, hepc, hcause.trans (by decide)⟩
  case heldBack => exact fun s n cause hn hworld hcause => exec_interruptTake_of_none hn (State.takesIrq_of_world hworld hcause)
  case fences =>
    intro s n hn hst hboot
    have hruns := State.hartRuns_of hst hboot
    refine ⟨fun h => ?_, fun h => ?_, does_fenceI hn hruns, fun v hpriv => does_mworldWrite hn hruns hpriv v,
      fun v hpriv => does_mworldWrite_outside hn hruns hpriv v⟩
    · rw [Does, exec_fence hn hruns, if_pos h, fin]
    · rw [exec_fence hn hruns, if_neg h]
  case retired =>
    refine fun s n f => ⟨1 + Config.freeNat 3 s.core.fresh, by omega, ?_, fun k hk => ?_, rfl⟩
    · rw [State.hart_retired, if_pos rfl]
    · rw [State.hart_retired, if_neg hk]
  case retirement =>
    refine fun k b => ⟨k.retire_frame b, fun c => k.retire_csrAt b, fun hworld hscount => ?_, fun hcounts hon => ?_⟩
    · exact Hart.retire_of_not_counting (by simp [Hart.counting, hworld, hscount]) b
    · exact Hart.retire_instret (Hart.counting_iff.mpr hcounts) hon b
  case parity => exact fun s n hn => does_l1ParityError hn
  case correctable => exact fun s k hk => does_l2CorrectableError hk
  case uncorrectable => exact fun s k a hk hclean => does_l2UncorrectableError hk hclean
  case consumed => exact fun s n fetch u pc hn hst hboot hpoison =>
    does_poisonedLineConsumed hn (State.hartRuns_of hst hboot) hpoison fetch pc

end Sys2Proof.Proofs

/-! SUPPORT. A write to a register leaves the states of the pairs: one lemma for each function of the model that such a write runs, in the
order of the model's files. -/

namespace Sys2Proof.Machine

open Sys2Proof

/-! ### Units -/

@[simp] theorem State.onSw_pairSt (s : State) (f) : (s.onSw f).pairSt = s.pairSt := rfl
@[simp] theorem State.onEth_pairSt (s : State) (f) : (s.onEth f).pairSt = s.pairSt := rfl
@[simp] theorem State.onBus_pairSt (s : State) (f) : (s.onBus f).pairSt = s.pairSt := rfl
@[simp] theorem State.onGw_pairSt (s : State) (f) : (s.onGw f).pairSt = s.pairSt := rfl
@[simp] theorem State.onInp_pairSt (s : State) (f) : (s.onInp f).pairSt = s.pairSt := rfl
@[simp] theorem State.onKs_pairSt (s : State) (f) : (s.onKs f).pairSt = s.pairSt := rfl
@[simp] theorem State.onCe_pairSt (s : State) (f) : (s.onCe f).pairSt = s.pairSt := rfl
@[simp] theorem State.onPass_pairSt (s : State) (f) : (s.onPass f).pairSt = s.pairSt := rfl
@[simp] theorem State.updHart_pairSt (s : State) (n : Nat) (f) : (s.updHart n f).pairSt = s.pairSt := rfl
@[simp] theorem State.updQp_pairSt (s : State) (n : Nat) (f) : (s.updQp n f).pairSt = s.pairSt := rfl
@[simp] theorem State.updCan_pairSt (s : State) (n : Nat) (f) : (s.updCan n f).pairSt = s.pairSt := rfl
@[simp] theorem State.updObj_pairSt (s : State) (n m : Nat) (f) : (s.updObj n m f).pairSt = s.pairSt := rfl
@[simp] theorem State.updLin_pairSt (s : State) (n : Nat) (f) : (s.updLin n f).pairSt = s.pairSt := rfl
@[simp] theorem State.updBuf_pairSt (s : State) (n m : Nat) (f) : (s.updBuf n m f).pairSt = s.pairSt := rfl
@[simp] theorem State.updRing_pairSt (s : State) (n : Nat) (f) : (s.updRing n f).pairSt = s.pairSt := rfl
@[simp] theorem State.updTimer_pairSt (s : State) (n : Nat) (f) : (s.updTimer n f).pairSt = s.pairSt := rfl
@[simp] theorem State.updInGroup_pairSt (s : State) (n : Nat) (f) : (s.updInGroup n f).pairSt = s.pairSt := rfl

@[simp] theorem State.onCore_pairSt {s : State} {f : Core → Core} (h : (f s.core).pairs = s.core.pairs) :
    (s.onCore f).pairSt = s.pairSt := funext fun p => by simp [State.pairSt, State.pair, h]

/-! ### Interrupts -/

@[simp] theorem State.msi_pairSt (s : State) (h file ident : Nat) : (s.msi h file ident).pairSt = s.pairSt :=
  State.pairSt_of_dropsOnly (s.msi_dropsOnly h file ident)

@[simp] theorem State.msiBind_pairSt (s : State) (b : Bind) (sec : Bool) (off : Nat) : (s.msiBind b sec off).pairSt = s.pairSt := by
  simp [State.msiBind]

@[simp] theorem State.fireS_pairSt (s : State) (i : Nat) : (s.fireS i).pairSt = s.pairSt :=
  State.pairSt_of_dropsOnly (s.fireS_dropsOnly i)

@[simp] theorem State.fireM_pairSt (s : State) (i : Nat) : (s.fireM i).pairSt = s.pairSt :=
  State.pairSt_of_dropsOnly (s.fireM_dropsOnly i)

@[simp] theorem State.pulse_pairSt (s : State) (i : Nat) : (s.pulse i).pairSt = s.pairSt :=
  State.pairSt_of_dropsOnly (s.pulse_dropsOnly i)

/-! ### CAN and LIN (Machine/Can.lean, Machine/Lin.lean) -/

@[simp] theorem State.setMsi_pairSt (s : State) (key off : Nat) : (s.setMsi key off).pairSt = s.pairSt := by
  unfold State.setMsi
  split <;> simp

@[simp] theorem State.objMsi_pairSt (s : State) (chan obj : Nat) : (s.objMsi chan obj).pairSt = s.pairSt := by
  unfold State.objMsi
  split <;> simp

@[simp] theorem State.txEnd_pairSt (s : State) (chan obj : Nat) (st : U16) (msi : Bool) : (s.txEnd chan obj st msi).pairSt = s.pairSt := by
  simp [State.txEnd]

@[simp] theorem State.objReq_pairSt (s : State) (chan obj : Nat) : (s.objReq chan obj).pairSt = s.pairSt := by simp [State.objReq]

@[simp] theorem State.objWrite_pairSt (s : State) (chan obj off : Nat) (v m : U32) : (s.objWrite chan obj off v m).1.pairSt = s.pairSt := by
  simp [State.objWrite, State.objAbort, State.objUpd, State.objPut]

@[simp] theorem State.mapClear_pairSt (s : State) (t : Attr) (chan word : Nat) (v : U32) : (s.mapClear t chan word v).pairSt = s.pairSt := by
  simp [State.mapClear, State.foldl_pairSt]

@[simp] theorem State.linPulse_pairSt (s : State) (chan : Nat) : (s.linPulse chan).pairSt = s.pairSt := by simp [State.linPulse]

@[simp] theorem State.linCtrl_pairSt (s : State) (chan : Nat) (v m : U32) : (s.linCtrl chan v m).pairSt = s.pairSt := by
  simp [State.linCtrl]

@[simp] theorem State.linPut_pairSt (s : State) (chan off : Nat) (v m : U32) : (s.linPut chan off v m).pairSt = s.pairSt := by
  simp [State.linPut]

/-! ### The power stage and the inputs (Machine/Load.lean, Machine/Protect.lean, Machine/Inputs.lean) -/

@[simp] theorem State.loadIgnore_pairSt (s : State) (page : Nat) : (s.loadIgnore page).pairSt = s.pairSt := by simp [State.loadIgnore]

@[simp] theorem State.loadWrites_pairSt (s : State) (page inst : Nat) (sec : Bool) (cs : List Nat) (f : Nat → LoadCmd → LoadCmd) :
    (s.loadWrites page inst sec cs f).pairSt = s.pairSt := by
  simp [State.loadWrites, State.loadWrite, State.foldl_pairSt]

@[simp] theorem State.loadOutPut_pairSt (s : State) (page : Nat) (t : Attr) (c : Nat) (v m : U32) :
    (s.loadOutPut page t c v m).pairSt = s.pairSt := by simp [State.loadOutPut]

@[simp] theorem State.loadMask_pairSt (s : State) (page : Nat) (t : Attr) (mask : U64) (on : Bool) :
    (s.loadMask page t mask on).pairSt = s.pairSt := by simp [State.loadMask]

@[simp] theorem State.inMsi_pairSt (s : State) (g : Nat) : (s.inMsi g).pairSt = s.pairSt := by
  unfold State.inMsi
  split <;> simp

@[simp] theorem State.inClear_pairSt (s : State) (g : Nat) (d : U64) (v : BitVec 24) : (s.inClear g d v).pairSt = s.pairSt := by
  simp [State.inClear]

@[simp] theorem State.inLeft_pairSt (s : State) (g : Nat) : (s.inLeft g).pairSt = s.pairSt := by simp [State.inLeft]

/-! ### Rings, timers, the APLIC and the switch (Machine/Rings.lean, Machine/Time.lean, Machine/Harts.lean, Machine/Pages.lean) -/

@[simp] theorem State.ringTail_pairSt (s : State) (r : Nat) (v : U16) : (s.ringTail r v).pairSt = s.pairSt := by simp [State.ringTail]

@[simp] theorem State.timerMsi_pairSt (s : State) (n : Nat) : (s.timerMsi n).pairSt = s.pairSt := by
  unfold State.timerMsi
  split <;> simp

@[simp] theorem State.fireDue_pairSt (s : State) (n : Nat) : (s.fireDue n).pairSt = s.pairSt := by simp [State.fireDue]

@[simp] theorem State.tcCtrlSet_pairSt (s : State) (n : Nat) (v m : U32) : (s.tcCtrlSet n v m).pairSt = s.pairSt := by
  simp [State.tcCtrlSet]

@[simp] theorem State.tcFirst_pairSt (s : State) (a : Nat) : (s.tcFirst a).pairSt = s.pairSt := by simp [State.tcFirst]

@[simp] theorem State.genMsi_pairSt (s : State) (o file : Nat) (v : U32) : (s.genMsi o file v).pairSt = s.pairSt := by simp [State.genMsi]

@[simp] theorem State.aplicPut_pairSt (s : State) (o : Nat) (v : U32) : (s.aplicPut o v).pairSt = s.pairSt := by
  unfold State.aplicPut
  split
  · exact (State.genMsi_pairSt _ _ _ _).trans ((State.foldl_pairSt (fun t i => by simp) _ _).trans (State.onCore_pairSt rfl))
  · exact (State.genMsi_pairSt _ _ _ _).trans ((State.foldl_pairSt (fun t i => by simp) _ _).trans (State.onCore_pairSt rfl))

@[simp] theorem State.marketLow_pairSt (s : State) : s.marketLow.pairSt = s.pairSt := by
  unfold State.marketLow
  split <;> rfl

@[simp] theorem State.swPut_pairSt (s : State) (o : Nat) (v m : U32) : (s.swPut o v m).pairSt = s.pairSt := by simp [State.swPut]

@[simp] theorem State.qpTxTail_pairSt (s : State) (i : Nat) (v : U16) : (s.qpTxTail i v).pairSt = s.pairSt := by simp [State.qpTxTail]

@[simp] theorem State.qpRxTail_pairSt (s : State) (i : Nat) (v : U16) : (s.qpRxTail i v).pairSt = s.pairSt := by simp [State.qpRxTail]

@[simp] theorem State.qpPut_pairSt (s : State) (i o : Nat) (v m : U32) : (s.qpPut i o v m).pairSt = s.pairSt := by simp [State.qpPut]

@[simp] theorem State.ethPut_pairSt (s : State) (o : Nat) (v m : U32) : (s.ethPut o v m).1.pairSt = s.pairSt := by
  unfold State.ethPut
  split
  · rw [State.onEth_pairSt]
  · split
    · simp only
      split
      · rfl
      · exact s.qpPut_pairSt _ _ _ _
    · rfl

/-! ### Register rows (Machine/Bus.lean) -/

@[simp] theorem State.put03_pairSt (s : State) (a : Nat) (v m : U32) : (s.put03 a v m).pairSt = s.pairSt := by
  unfold State.put03
  split
  · simp
  · split <;> simp

@[simp] theorem State.regPut_pairSt (s : State) (t : Attr) (a : Nat) (v m : U32) : (s.regPut t a v m).1.pairSt = s.pairSt := by
  unfold State.regPut
  split <;> simp [State.loadChgClear, State.psPut, State.loadPagePut, State.inPagePut, State.inPut, State.ceEventPut, State.ringPut,
    State.tcPut, State.canWrite, State.passPut, State.put08, State.put0A, State.put0B, State.put0E]

@[simp] theorem State.ignoreOnce_pairSt (old s : State) (a : Nat) : (old.ignoreOnce s a).pairSt = s.pairSt := by simp [State.ignoreOnce]

@[simp] theorem State.inAfter_pairSt (s : State) (a n : Nat) : (s.inAfter a n).pairSt = s.pairSt := by simp [State.inAfter]

/-- The writes of a register access leave the states of the pairs. -/
theorem State.regsWrite_pairSt (s : State) (t : Attr) (a : Nat) (d : List Byte) : (s.regsWrite t a d).1.pairSt = s.pairSt := by
  simp only [State.regsWrite, State.inAfter_pairSt, State.ignoreOnce_pairSt]
  refine List.foldlRecOn (motive := fun q : State × Resp => q.1.pairSt = s.pairSt) _ _ (s.tcFirst_pairSt a) fun q hq w _ => ?_
  split
  · exact hq
  · split
    · exact (State.regPut_pairSt _ _ _ _ _).trans hq
    · rfl

end Sys2Proof.Machine

/-! SUPPORT. Writes to registers: the words of a write, what a word does behind the fabric, and the doorbell of an instance page
(Machine/Flags.lean, Machine/Time.lean, Machine/Bus.lean). -/

namespace Sys2Proof.Machine

open Sys2Proof

/-! ### Bytes and words -/

theorem leNat_append (l r : List Byte) : leNat (l ++ r) = leNat l + 256 ^ l.length * leNat r := by
  induction l with
  | nil => simp [leNat]
  | cons b l ih =>
    simp only [List.cons_append, leNat, ih, List.length_cons, pow_succ]
    ring

theorem leNat_leBytes (n v : Nat) : leNat (leBytes n v) = v % 256 ^ n := by
  induction n generalizing v with
  | zero => simp [leBytes, leNat, Nat.mod_one]
  | succ n ih =>
    rw [leBytes, leNat, ih, BitVec.toNat_ofNat, pow_succ' 256 n]
    exact Nat.mod_mul.symm

/-- Whole words at an aligned address. -/
theorem wordsOf_of_aligned {a m : Nat} {d : List Byte} (ha : a % 4 = 0) (hd : d.length = 4 * m) : wordsOf a d =
    (List.range m).map (fun k => (a + 4 * k, BitVec.ofNat 32 (leNat ((d.drop (4 * k)).take 4)), BitVec.allOnes 32)) := by
  have hcount : (a + d.length + 3) / 4 - a / 4 = m := by omega
  have hfirst : a / 4 * 4 = a := by omega
  simp only [wordsOf, hcount, hfirst]
  refine List.map_congr_left fun k hk => ?_
  have hkm : k < m := List.mem_range.mp hk
  have hbytes : (List.range 4).map (fun i => if a ≤ a + 4 * k + i then d.getD (a + 4 * k + i - a) 0 else 0) = (d.drop (4 * k)).take 4 := by
    refine List.ext_getElem (by simp; omega) fun i hi _ => ?_
    have hi4 : i < 4 := by simpa using hi
    have hin : 4 * k + i < d.length := by omega
    simp [Nat.add_assoc, hin]
  have hmask : (List.range 4).map (fun i => if a ≤ a + 4 * k + i ∧ a + 4 * k + i < a + d.length then (0xFF : Byte) else 0)
      = (List.range 4).map (fun _ => 0xFF) := by
    refine List.map_congr_left fun i hi => if_pos ?_
    have hi4 : i < 4 := List.mem_range.mp hi
    omega
  rw [hbytes, hmask]
  rfl

theorem wordsOf_of_four {a : Nat} {d : List Byte} (ha : a % 4 = 0) (hd : d.length = 4) :
    wordsOf a d = [(a, BitVec.ofNat 32 (leNat d), BitVec.allOnes 32)] := by
  rw [wordsOf_of_aligned (m := 1) ha hd]
  simp [← hd]

theorem wordsOf_of_eight {a : Nat} {d : List Byte} (ha : a % 4 = 0) (hd : d.length = 8) : wordsOf a d =
    [(a, BitVec.ofNat 32 (leNat (d.take 4)), BitVec.allOnes 32), (a + 4, BitVec.ofNat 32 (leNat (d.drop 4)), BitVec.allOnes 32)] := by
  have hrest : (d.drop 4).take 4 = d.drop 4 := List.take_of_length_le (by simp [hd])
  rw [wordsOf_of_aligned (m := 2) ha hd]
  simp [List.range_succ, hrest]

theorem lo32_toNat (x : U64) : (lo32 x).toNat = x.toNat % 4294967296 := by simp [lo32]

theorem hi32_toNat (x : U64) : (hi32 x).toNat = x.toNat / 4294967296 := by
  have hlt := x.isLt
  simp only [hi32, BitVec.truncate_eq_setWidth, BitVec.toNat_setWidth, BitVec.toNat_ushiftRight, Nat.shiftRight_eq_div_pow]
  omega

/-- Two registers with the same words are one. -/
theorem eq_of_words {x y : U64} (hlo : lo32 x = lo32 y) (hhi : hi32 x = hi32 y) : x = y := by
  have hlow := congrArg BitVec.toNat hlo
  have hhigh := congrArg BitVec.toNat hhi
  rw [lo32_toNat, lo32_toNat] at hlow
  rw [hi32_toNat, hi32_toNat] at hhigh
  exact BitVec.eq_of_toNat_eq (by omega)

theorem lo32_put64_low (x : U64) (v : U32) : lo32 (put64 x false v (BitVec.allOnes 32)) = v := by
  simp only [put64, mix_allOnes, Bool.false_eq_true, if_false]
  ext i _
  simp [lo32]

theorem hi32_put64_low (x : U64) (v m : U32) : hi32 (put64 x false v m) = hi32 x := by
  simp only [put64, Bool.false_eq_true, if_false]
  ext i hi
  obtain ⟨hplace, hin⟩ : 32 + i < 64 ∧ i < 64 := by omega
  simp [hi32, hplace, hin, hi]

theorem lo32_put64_high (x : U64) (v m : U32) : lo32 (put64 x true v m) = lo32 x := by
  simp only [put64, if_true]
  ext i _
  simp [lo32]

theorem hi32_put64_high (x : U64) (v : U32) : hi32 (put64 x true v (BitVec.allOnes 32)) = v := by
  simp only [put64, mix_allOnes, if_true]
  ext i hi
  obtain ⟨hplace, hin⟩ : 32 + i < 64 ∧ i < 64 := by omega
  simp [hi32, hplace, hin, BitVec.getLsbD_eq_getElem hi]

/-- Both words of eight bytes set the whole register. -/
theorem put64_both {d : List Byte} (hd : d.length = 8) (x : U64) :
    put64 (put64 x false (BitVec.ofNat 32 (leNat (d.take 4))) (BitVec.allOnes 32)) true (BitVec.ofNat 32 (leNat (d.drop 4)))
      (BitVec.allOnes 32) = BitVec.ofNat 64 (leNat d) := by
  have hsplit := leNat_append (d.take 4) (d.drop 4)
  have htake : (d.take 4).length = 4 := by simp [hd]
  have hlo := leNat_lt (d.take 4)
  have hhi := leNat_lt (d.drop 4)
  have hdrop : (d.drop 4).length = 4 := by simp [hd]
  rw [List.take_append_drop, htake] at hsplit
  rw [htake] at hlo
  rw [hdrop] at hhi
  refine eq_of_words ?_ ?_
  · rw [lo32_put64_high, lo32_put64_low]
    refine BitVec.eq_of_toNat_eq ?_
    rw [lo32_toNat, BitVec.toNat_ofNat, BitVec.toNat_ofNat]
    omega
  · rw [hi32_put64_high]
    refine BitVec.eq_of_toNat_eq ?_
    rw [hi32_toNat, BitVec.toNat_ofNat, BitVec.toNat_ofNat]
    omega

/-! ### A register write behind the fabric -/

theorem State.capture_ok (s : State) (t : Attr) (a : Nat) (wr : Bool) : s.capture t a wr .ok = s := rfl

/-- The target is one whose registers are written word by word. -/
def Xact.toRegs (x : Xact) : Prop := target x.addr.toNat ∈ [0x03, 0x05, 0x06, 0x07, 0x08, 0x09, 0x0A, 0x0B, 0x0C, 0x0D, 0x0E]

theorem State.writeTarget_regs {s : State} {x : Xact} (h : x.toRegs) :
    s.writeTarget x = ((s.regsWrite x.attr x.addr.toNat x.data).1, some (s.regsWrite x.attr x.addr.toNat x.data).2) := by
  simp only [Xact.toRegs, List.mem_cons, List.not_mem_nil, or_false] at h
  obtain h | h | h | h | h | h | h | h | h | h | h := h <;> simp only [State.writeTarget, h]

/-- The pair of an initiator that issues is not frozen, and the debug port issues nothing of its own: the initiator sees the answer. -/
theorem State.portReply_of_mayIssue {s u : State} {t : Attr} (hissue : s.mayIssue t = true) (hst : u.pairSt = s.pairSt) (r : Resp)
    (d : List Byte) : u.portReply t r d = u.answered r d := by
  have hport : t.init ≠ 0x18 := by
    intro h
    simp [State.mayIssue, engineInit, h] at hissue
  have hfrozen : ¬ (t.init.toNat < 8 ∧ (u.pair t.init.toNat).st = .frozen) := by
    rintro ⟨hhart, hu⟩
    have hs : (s.pair t.init.toNat).st = .frozen := (congrFun hst t.init.toNat).symm.trans hu
    simp [State.mayIssue, hhart, hs] at hissue
  rw [State.portReply, if_neg hport, if_neg hfrozen]

/-- A register write that passes at once and that its checker admits has its effect, and is answered. -/
theorem State.transact_write_regs {s : State} {x : Xact} (hsends : s.sends x.attr) (hpass : s.passesAtOnce .write x x.data.length)
    (htarget : x.toRegs)
    (hok : s.verdict x.attr x.addr.toNat x.data.length false true = .ok)
    (hresp : (s.regsWrite x.attr x.addr.toNat x.data).2 = .ok) :
    s.transact .write .swap x x.data.length = (s.regsWrite x.attr x.addr.toNat x.data).1.answered .ok [] := by
  obtain ⟨-, hissue, -⟩ := hsends
  have haccept : s.accept .write .swap x = ((s.regsWrite x.attr x.addr.toNat x.data).1, some .ok, []) := by
    simp [State.accept, hok, State.writeTarget_regs htarget, hresp, State.capture_ok]
  rw [State.transact_of_passesAtOnce _ hpass, haccept, Waiting.concluded]
  simp [State.portReply_of_mayIssue hissue (State.regsWrite_pairSt _ _ _ _), State.atomicDone]

theorem exec_registerWrite_fabric {s : State} {x : Xact} (hsends : s.sends x.attr)
    (hregion : 0x03 ≤ target x.addr.toNat ∧ target x.addr.toNat ≤ 0x0F)
    (hfits : x.fits x.data.length = true) (haligned : x.misaligned x.data.length = false) :
    exec (.registerWrite (.fabric x)) s = fin (s.transact .write .swap x x.data.length) := by
  simp [exec, execRegisterWrite, State.issueX_of_sends _ hsends, hregion, hfits, State.aligned, haligned]

theorem exec_fabricWrite {s : State} {x : Xact} (hsends : s.sends x.attr) (hwin : s.winPosted x = false)
    (haligned : x.misaligned x.data.length = false) :
    exec (.fabricWrite x) s = fin (s.transact .write .swap x x.data.length) := by
  simp [exec, execFabricWrite, State.issueX_of_sends _ hsends, hwin, State.aligned, haligned]

theorem does_registerWrite {s : State} {x : Xact} (hsends : s.sends x.attr) (hpass : s.passesAtOnce .write x x.data.length)
    (haligned : x.misaligned x.data.length = false)
    (htarget : x.toRegs)
    (hok : s.verdict x.attr x.addr.toNat x.data.length false true = .ok)
    (hresp : (s.regsWrite x.attr x.addr.toNat x.data).2 = .ok) :
    Does (.registerWrite (.fabric x)) s ((s.regsWrite x.attr x.addr.toNat x.data).1.answered .ok []) := by
  have hregion : 0x03 ≤ target x.addr.toNat ∧ target x.addr.toNat ≤ 0x0F := by
    simp only [Xact.toRegs, List.mem_cons, List.not_mem_nil, or_false] at htarget
    omega
  rw [Does, exec_registerWrite_fabric hsends hregion hpass.2.1 haligned, State.transact_write_regs hsends hpass htarget hok hresp, fin]

/-! ### Words of a register write -/

/-- A write of one word of a region that counts no ignored write and no input event. -/
theorem State.regsWrite_of_four {s u : State} {t : Attr} {a : Nat} {d : List Byte} (ha : a % 4 = 0) (hd : d.length = 4)
    (htarget : Machine.target a ≠ 0x09) (hinput : within a 0x13800000 0x200000 = false)
    (hput : (s.tcFirst a).regPut t a (BitVec.ofNat 32 (leNat d)) (BitVec.allOnes 32) = (u, .ok)) : s.regsWrite t a d = (u, .ok) := by
  have hin : ∀ v : State, v.inAfter a d.length = v := fun v => by simp [State.inAfter, hinput]
  have hign : ∀ v : State, s.ignoreOnce v a = v := fun v => by simp [State.ignoreOnce, htarget]
  simp only [State.regsWrite, wordsOf_of_four ha hd, List.foldl_cons, List.foldl_nil, ne_eq, not_true_eq_false, if_false, hput, if_true,
    hin, hign]

/-- The same of two words. -/
theorem State.regsWrite_of_eight {s u v : State} {t : Attr} {a : Nat} {d : List Byte} (ha : a % 4 = 0) (hd : d.length = 8)
    (htarget : Machine.target a ≠ 0x09) (hinput : within a 0x13800000 0x200000 = false)
    (hlow : (s.tcFirst a).regPut t a (BitVec.ofNat 32 (leNat (d.take 4))) (BitVec.allOnes 32) = (u, .ok))
    (hhigh : u.regPut t (a + 4) (BitVec.ofNat 32 (leNat (d.drop 4))) (BitVec.allOnes 32) = (v, .ok)) : s.regsWrite t a d = (v, .ok) := by
  have hin : ∀ v : State, v.inAfter a d.length = v := fun v => by simp [State.inAfter, hinput]
  have hign : ∀ v : State, s.ignoreOnce v a = v := fun v => by simp [State.ignoreOnce, htarget]
  simp only [State.regsWrite, wordsOf_of_eight ha hd, List.foldl_cons, List.foldl_nil, ne_eq, not_true_eq_false, if_false, hlow, hhigh,
    if_true, hin, hign]

/-! ### Address ranges -/

theorem within_eq_true {a b l : Nat} (hlow : b ≤ a) (hhigh : a < b + l) : within a b l = true := by simp [within, hlow, hhigh]

theorem within_eq_false_of_lt {a b l : Nat} (h : a < b) : within a b l = false := by simp [within, h]

theorem within_eq_false_of_le {a b l : Nat} (h : b + l ≤ a) : within a b l = false := by simp [within, h]

/-! ### Comparator pages -/

theorem State.timer_answered (s : State) (r : Resp) (d : List Byte) (n : Nat) : (s.answered r d).timer n = s.timer n := rfl

/-- The bounds of an address in the page of a comparator. -/
theorem comparator_bounds {n o : Nat} (hn : n < 64) (ho : o < 0x1000) :
    0x16100000 ≤ 0x16100000 + n * 0x1000 + o ∧ 0x16100000 + n * 0x1000 + o < 0x16100000 + 0x40000 := by omega

theorem target_of_timeRegion {a : Nat} (hlow : 0x16000000 ≤ a) (hhigh : a < 0x17000000) : target a = 0x0D := by
  have hbelow : ∀ b l, b + l ≤ 0x16000000 → within a b l = false := fun b l h => within_eq_false_of_le (h.trans hlow)
  have hin : within a 0x16000000 0x1000000 = true := within_eq_true hlow (by omega)
  simp [target, hbelow, hin]

theorem target_of_fileRegion {a : Nat} (hlow : 0x02000000 ≤ a) (hhigh : a < 0x03000000) : target a = 0x03 := by
  have hbelow : ∀ b l, b + l ≤ 0x02000000 → within a b l = false := fun b l h => within_eq_false_of_le (h.trans hlow)
  have hin : within a 0x02000000 0x1000000 = true := within_eq_true hlow (by omega)
  simp [target, hbelow, hin]

theorem target_of_instRegion {a : Nat} (hlow : 0x18000000 ≤ a) (hhigh : a < 0x18400000) : target a = 0x0F := by
  have hbelow : ∀ b l, b + l ≤ 0x18000000 → within a b l = false := fun b l h => within_eq_false_of_le (h.trans hlow)
  have hin : within a 0x18000000 0x400000 = true := within_eq_true hlow (by omega)
  simp [target, hbelow, hin]

theorem State.tcFirst_of_comparator {s : State} {n : Nat} (hn : n < 64) : s.tcFirst (0x16100000 + n * 0x1000) = s.fireDue n := by
  have hnum : (0x16100000 + n * 0x1000 - 0x16100000) / 0x1000 = n := by omega
  rw [State.tcFirst, tcBase, if_pos (by omega), hnum]

theorem State.regPut_of_comparator {s : State} {t : Attr} {n o : Nat} (hn : n < 64) (ho : o < 0x1000) (v m : U32) :
    s.regPut t (0x16100000 + n * 0x1000 + o) v m = (s.tcPut n o v m, .ok) := by
  obtain ⟨hlow, hhigh⟩ := comparator_bounds hn ho
  have htarget : Machine.target (0x16100000 + n * 0x1000 + o) = 0x0D := target_of_timeRegion (by omega) (by omega)
  have hnum : (0x16100000 + n * 0x1000 + o - 0x16100000) / 0x1000 = n := by omega
  have hoff : (0x16100000 + n * 0x1000 + o) % 0x1000 = o := by omega
  simp only [State.regPut, htarget, within_eq_true hlow hhigh, if_true, hnum, hoff]

theorem State.tcPut_cmpLow (s : State) (n : Nat) (v m : U32) :
    s.tcPut n 0 v m = s.updTimer n (fun c => { c with cmp := put64 c.cmp false v m }) := rfl

theorem State.tcPut_cmpHigh (s : State) (n : Nat) (v m : U32) :
    s.tcPut n 4 v m = s.updTimer n (fun c => { c with cmp := put64 c.cmp true v m }) := rfl

/-- The first word of a write to a comparator stands behind the firing that is due. -/
theorem State.regPut_tcFirst_of_comparator {s : State} {t : Attr} {n : Nat} (hn : n < 64) (v m : U32) :
    (s.tcFirst (0x16100000 + n * 0x1000)).regPut t (0x16100000 + n * 0x1000) v m = ((s.fireDue n).tcPut n 0 v m, .ok) := by
  rw [State.tcFirst_of_comparator hn]
  exact State.regPut_of_comparator (o := 0) hn (by omega) v m

/-- A word of TC_CMP sets its half of the comparator, behind the firing that is due. -/
theorem State.regsWrite_cmpLow {s : State} {t : Attr} {a n : Nat} {d : List Byte} (hn : n < 64) (ha : a = 0x16100000 + n * 0x1000)
    (hd : d.length = 4) : s.regsWrite t a d =
      ((s.fireDue n).updTimer n (fun c => { c with cmp := put64 c.cmp false (BitVec.ofNat 32 (leNat d)) (BitVec.allOnes 32) }), .ok) := by
  subst ha
  refine State.regsWrite_of_four (by omega) hd ?_ (within_eq_false_of_le (by omega)) ?_
  · rw [target_of_timeRegion (by omega) (by omega)]
    decide
  · rw [State.regPut_tcFirst_of_comparator hn, State.tcPut_cmpLow]

/-- A write of 64 bits to TC_CMP takes effect whole, behind the one firing that is due. -/
theorem State.regsWrite_cmp {s : State} {t : Attr} {a n : Nat} {d : List Byte} (hn : n < 64) (ha : a = 0x16100000 + n * 0x1000)
    (hd : d.length = 8) : ∃ u, s.regsWrite t a d = (u, .ok) ∧ u.timer n = { (s.fireDue n).timer n with cmp := BitVec.ofNat 64 (leNat d) }
      ∧ (∀ k, k ≠ n → u.timer k = s.timer k) ∧ u.core = (s.fireDue n).core := by
  subst ha
  refine ⟨_, State.regsWrite_of_eight (by omega) hd ?_ (within_eq_false_of_le (by omega))
    (State.regPut_tcFirst_of_comparator hn _ _) (State.regPut_of_comparator (o := 4) hn (by omega) _ _), ?_, fun k hk => ?_, rfl⟩
  · rw [target_of_timeRegion (by omega) (by omega)]
    decide
  · rw [State.tcPut_cmpHigh, State.timer_updTimer, if_pos rfl, State.tcPut_cmpLow, State.timer_updTimer, if_pos rfl]
    simp only [put64_both hd]
  · rw [State.tcPut_cmpHigh, State.timer_updTimer, if_neg hk, State.tcPut_cmpLow, State.timer_updTimer, if_neg hk,
      State.fireDue_timer_ne _ hk]

/-- A write to the comparator that its checker admits. -/
theorem does_comparatorWrite {s u : State} {x : Xact} {n m : Nat} (hm : m = 4 ∨ m = 8) (hn : n < 64) (hsends : s.sends x.attr)
    (hlen : x.data.length = m) (ha : x.addr.toNat = 0x16100000 + n * 0x1000) (hpass : s.passesAtOnce .write x m)
    (hok : s.verdict x.attr (0x16100000 + n * 0x1000) m false true = .ok) (hput : s.regsWrite x.attr x.addr.toNat x.data = (u, .ok)) :
    Does (.registerWrite (.fabric x)) s (u.answered .ok []) := by
  subst hlen
  have haligned : x.misaligned x.data.length = false := by
    refine Xact.misaligned_of_aligned ?_
    obtain hm | hm := hm <;> rw [hm] <;> omega
  have htarget : x.toRegs := by simp [Xact.toRegs, target_of_timeRegion (a := x.addr.toNat) (by omega) (by omega)]
  have hdoes := does_registerWrite hsends hpass haligned htarget (ha ▸ hok) (by rw [hput])
  rwa [hput] at hdoes

/-! ### CSRs and the debug module -/

theorem does_registerWrite_mtvec {s : State} {n : Nat} (hn : n < 8) (hruns : s.hartRuns n = true) (hpriv : (s.hart n).priv = 3) (v : U64) :
    Does (.registerWrite (.csr n 0x305 v)) s ((s.updHart n (fun k => k.setCsr 0x305 (v &&& ~~~2))).retired n (fun k =>
      { k with pc := k.pc + 4 })) := by
  have hfault : s.csrFault n 0x305 = none := by
    rw [State.csrFault_machine (by decide) (by decide) (by decide) (by decide), if_pos hpriv]
  have hset (w : Bool) : s.csrWrite n w 0x305 v = s.updHart n (fun k => k.setCsr 0x305 (v &&& ~~~2)) := rfl
  simp only [Does, exec, execRegisterWrite, Nat.not_le.mpr hn, hruns, State.csrExec_of_machine hpriv hfault (by decide), hset, fin,
    not_true_eq_false, if_false]

theorem does_registerWrite_abstractcs {s : State} (hopen : s.portOpen = true) (v : U32) : Does (.registerWrite (.dmi 0x16 v)) s
    (s.onDbg (fun d => { d with cmderr := d.cmderr &&& ~~~(v.extractLsb' 8 3) })) := by
  simp [Does, exec, execRegisterWrite, State.dmiWrite, hopen, fin]

/-! ### MSIs -/

theorem fileAt_of_machine {h : Nat} (hh : h < 8) : fileAt (0x02100000 + h * 0x1000) = some (h, 0) := by
  have hnum : (0x02100000 + h * 0x1000 - 0x02100000) / 0x1000 = h := by omega
  rw [fileAt, within_eq_true (by omega) (by omega), if_pos rfl, hnum]

theorem State.put03_of_machine (s : State) {h : Nat} (hh : h < 8) (v : U32) :
    s.put03 (0x02100000 + h * 0x1000) v (BitVec.allOnes 32) = s.msi h 0 v.toNat := by
  have hpage : (0x02100000 + h * 0x1000) % 0x1000 = 0 := by omega
  have hdomain : within (0x02100000 + h * 0x1000) 0x02000000 0x8000 = false := within_eq_false_of_le (by omega)
  simp only [State.put03, hdomain, Bool.false_eq_true, if_false, fileAt_of_machine hh, hpage, if_true, BitVec.and_allOnes]

theorem State.msi_of_hartUp {s : State} {h file ident : Nat} (hlow : 1 ≤ ident) (hhigh : ident ≤ fileMax file) (hup : s.hartUp h = true) :
    s.msi h file ident = s.updImsic h file (fun f => { f with eip := f.eip ||| bitOf 512 ident }) := by
  rw [State.msi, if_neg (by omega), if_pos hup]
  rfl

theorem State.imsic_updImsic_same (s : State) (h file : Nat) (u : Imsic → Imsic) :
    (s.updImsic h file u).imsic h file = u (s.imsic h file) := Tab.get_upd_same ..

/-- The files of two harts, or two files of one, are different records. -/
theorem State.imsic_updImsic_of_ne (s : State) {h file k g : Nat} (u : Imsic → Imsic) (hfile : file < 17) (hg : g < 17)
    (hne : (k, g) ≠ (h, file)) : (s.updImsic h file u).imsic k g = s.imsic k g := by
  refine Tab.get_upd_ne _ _ _ fun heq => hne ?_
  rw [Prod.mk.injEq]
  omega

theorem State.regsWrite_machineFile {s : State} {t : Attr} {a h ident : Nat} (hh : h < 8) (hident : ident ≤ 255)
    (ha : a = 0x02100000 + h * 0x1000) : s.regsWrite t a (leBytes 4 ident) = (s.msi h 0 ident, .ok) := by
  subst ha
  have htarget : Machine.target (0x02100000 + h * 0x1000) = 0x03 := target_of_fileRegion (by omega) (by omega)
  have hfirst : s.tcFirst (0x02100000 + h * 0x1000) = s := by
    rw [State.tcFirst, tcBase, if_neg (by omega)]
  have hword : (BitVec.ofNat 32 (leNat (leBytes 4 ident))).toNat = ident := by
    rw [leNat_leBytes, BitVec.toNat_ofNat]
    omega
  refine State.regsWrite_of_four (by omega) (leBytes_length _ _) (by rw [htarget]; decide) (within_eq_false_of_lt (by omega)) ?_
  simp only [State.regPut, htarget, hfirst, State.put03_of_machine _ hh, hword]

/-- A posted MSI that passes at once and that its checker admits reaches its file; no response returns. -/
theorem does_postedWrite_machineFile {s : State} {x : Xact} {h ident : Nat} (hh : h < 8) (hident : ident ≤ 255) (hsends : s.sends x.attr)
    (hdata : x.data = leBytes 4 ident) (ha : x.addr.toNat = 0x02100000 + h * 0x1000) (hpass : s.passesAtOnce .posted x 4)
    (hok : s.verdict x.attr (0x02100000 + h * 0x1000) 4 false true = .ok) : Does (.postedWrite x) s (s.msi h 0 ident) := by
  have hlen : x.data.length = 4 := by rw [hdata, leBytes_length]
  have htarget : Machine.target x.addr.toNat = 0x03 := target_of_fileRegion (by omega) (by omega)
  have hregs : x.toRegs := by simp [Xact.toRegs, htarget]
  have hput : s.regsWrite x.attr x.addr.toNat x.data = (s.msi h 0 ident, .ok) := by
    rw [hdata, State.regsWrite_machineFile hh hident ha]
  have haccept : s.accept .posted .swap x = (s.msi h 0 ident, some .ok, []) := by
    rw [← ha, ← hlen] at hok
    simp [State.accept, hok, htarget, State.writeTarget_regs hregs, hput, State.capture_ok]
  have haligned : x.misaligned 4 = false := Xact.misaligned_of_aligned (by omega)
  simp [Does, exec, execPostedWrite, State.issueX_of_sends _ hsends, ha, fileAt_of_machine hh, hlen, State.aligned, haligned,
    State.transact_of_passesAtOnce _ hpass, haccept, Waiting.concluded, fin]

/-! ### Doorbells of an instance page -/

/-- The fields of a handle value do not overlap. -/
theorem mkHandle_toNat {typ owner gen index : Nat} (htyp : typ < 256) (howner : owner < 64) (hgen : gen < 64)
    (hindex : index < 4096) : (mkHandle typ owner gen index).toNat = typ * 16777216 + owner * 262144 + gen * 4096 + index := by
  rw [mkHandle, BitVec.toNat_ofNat, Nat.mod_eq_of_lt (by omega)]

theorem hType_mkHandle {typ owner gen index : Nat} (htyp : typ < 256) (howner : owner < 64) (hgen : gen < 64)
    (hindex : index < 4096) : hType (mkHandle typ owner gen index) = typ := by
  rw [hType, BitVec.extractLsb'_toNat, mkHandle_toNat htyp howner hgen hindex, Nat.shiftRight_eq_div_pow]
  omega

theorem hOwner_mkHandle {typ owner gen index : Nat} (htyp : typ < 256) (howner : owner < 64) (hgen : gen < 64)
    (hindex : index < 4096) : hOwner (mkHandle typ owner gen index) = owner := by
  rw [hOwner, BitVec.extractLsb'_toNat, mkHandle_toNat htyp howner hgen hindex, Nat.shiftRight_eq_div_pow]
  omega

theorem hGen_mkHandle {typ owner gen index : Nat} (htyp : typ < 256) (howner : owner < 64) (hgen : gen < 64)
    (hindex : index < 4096) : hGen (mkHandle typ owner gen index) = gen := by
  rw [hGen, BitVec.extractLsb'_toNat, mkHandle_toNat htyp howner hgen hindex, Nat.shiftRight_eq_div_pow]
  omega

theorem hIndex_mkHandle {typ owner gen index : Nat} (htyp : typ < 256) (howner : owner < 64) (hgen : gen < 64)
    (hindex : index < 4096) : hIndex (mkHandle typ owner gen index) = index := by
  rw [hIndex, BitVec.extractLsb'_toNat, mkHandle_toNat htyp howner hgen hindex, Nat.shiftRight_eq_div_pow]
  omega

theorem State.dbWrite_of_missing {s : State} {n : Nat} {sec : Bool} {v : U64}
    (hnone : s.hFind (hType (v.setWidth 32)) (hIndex (v.setWidth 32)) = none) : s.dbWrite n sec v = s.dbRefuse n .badHandle := by
  simp only [State.dbWrite, State.dbHandle, hnone]

/-- The own ring of the writer, whose function runs. -/
theorem State.dbWrite_of_ring {s : State} {n k : Nat} {sec : Bool} {v : U64} {e : Handle} (hn : n < 63)
    (hv : v.setWidth 32 = mkHandle 0x06 n e.gen k) (hk : k < 64) (hgen : e.gen < 64) (hfind : s.hFind 0x06 k = some e)
    (hlive : e.retiring = false) (howner : e.owner = n) (hsec : e.sec = sec) (htx : v.getLsbD 48 = false)
    (hon : s.fnOffFor n e.sec 0x05 0 = false) (hreset : s.inReset n = false) :
    s.dbWrite n sec v = s.ringTail k ((v >>> 32).setWidth 16) := by
  have hindex : k < 4096 := by omega
  have htype := hType_mkHandle (typ := 0x06) (owner := n) (by omega) (by omega) hgen hindex
  have hown := hOwner_mkHandle (typ := 0x06) (owner := n) (by omega) (by omega) hgen hindex
  have hgen' := hGen_mkHandle (typ := 0x06) (owner := n) (by omega) (by omega) hgen hindex
  have hindex' := hIndex_mkHandle (typ := 0x06) (owner := n) (by omega) (by omega) hgen hindex
  have hhandle : s.dbHandle n sec (mkHandle 0x06 n e.gen k) = .ok := by
    simp [State.dbHandle, htype, hindex', hfind, hlive, hgen', hown, howner, hsec]
  rw [hsec] at hon
  have hkind : kindOfType 0x06 = 0x05 := by decide
  rw [BitVec.getLsbD_eq_getElem (by omega)] at htx
  simp [State.dbWrite, hv, hhandle, htype, hindex', hown, hkind, hon, hreset, htx]

theorem does_instDbWrite {s : State} {x : Xact} {n : Nat} {v : U64} (hn : n < 63) (hup : s.fabricUp = true) (hsends : s.sends x.attr)
    (hdata : x.data = leBytes 8 v.toNat) (ha : x.addr.toNat = 0x18000000 + n * 0x10000) (hport : s.portFree .write x)
    (hok : s.verdict x.attr (0x18000000 + n * 0x10000) 8 false true = .ok) :
    Does (.instDbWrite x) s ((s.dbWrite n x.attr.sec v).answered .ok []) := by
  have hlen : x.data.length = 8 := by rw [hdata, leBytes_length]
  have htarget : target x.addr.toNat = 0x0F := target_of_instRegion (by omega) (by omega)
  have haligned : x.addr.toNat % 8 = 0 := by omega
  have hnum : (x.addr.toNat - 0x18000000) / 0x10000 = n := by omega
  have hoff : x.addr.toNat % 0x10000 = 0 := by omega
  have hword : BitVec.ofNat 64 (leNat x.data) = v := by
    rw [hdata, leNat_leBytes]
    refine BitVec.eq_of_toNat_eq ?_
    rw [BitVec.toNat_ofNat]
    omega
  rw [← ha, ← hlen] at hok
  have hown (u : State) : u.instWrite x.attr n 0 x.data = u.dbWrite n x.attr.sec v := by simp [State.instWrite, hlen, hword]
  have hwrite := State.writeAt_of_ok (own := fun u => u.dbWrite n x.attr.sec v) hup
    (hlen ▸ Xact.fits_of_aligned (.inr rfl) haligned) hport hok
  simp only [Does, exec, execInstDbWrite, State.issueX_of_sends _ hsends, htarget, hnum, hoff, ne_eq, not_true_eq_false, if_false,
    State.aligned, hlen, Xact.misaligned_of_aligned haligned, Bool.false_eq_true, hown, hwrite, fin]

end Sys2Proof.Machine

namespace Sys2Proof.Proofs

open Sys2Proof Sys2Proof.Machine

/-- Settles O36: each write is brought down to the words that it sets, behind its port and its checker. -/
theorem registerAccesses : Obligations.RegisterAccesses := by
  refine ⟨?words, ?cmpLow, ?cmpWhole, ?csr, ?dmi, ?msi, ?doorbell⟩
  case words =>
    intro s x hsends hpass haligned hwin htarget hok hresp
    refine ⟨does_registerWrite hsends hpass haligned htarget hok hresp, ?_⟩
    rw [Does, exec_fabricWrite hsends hwin haligned, State.transact_write_regs hsends hpass htarget hok hresp, fin]
  case cmpLow =>
    intro s x n hn hsends hpass hlen ha hdue hok
    have hput := State.regsWrite_cmpLow (s := s) (t := x.attr) hn ha hlen
    rw [State.fireDue_of_not_due hdue] at hput
    refine ⟨_, does_comparatorWrite (.inl rfl) hn hsends hlen ha hpass hok hput, ?_, ?_, ?_, fun k hk => ?_, rfl⟩
    · rw [State.timer_answered, State.timer_updTimer, if_pos rfl]
      exact lo32_put64_low _ _
    · rw [State.timer_answered, State.timer_updTimer, if_pos rfl]
      exact hi32_put64_low _ _ _
    · rw [State.timer_answered, State.timer_updTimer, if_pos rfl]
    · rw [State.timer_answered, State.timer_updTimer, if_neg hk]
  case cmpWhole =>
    intro s x n hn hsends hpass hlen ha hok
    obtain ⟨u, hput, htimer, hother, hcore⟩ := State.regsWrite_cmp (s := s) (t := x.attr) hn ha hlen
    refine ⟨_, does_comparatorWrite (.inr rfl) hn hsends hlen ha hpass hok hput, ?_, ?_, ?_, ?_, ?_, hother⟩
    case refine_5 =>
      change u.core.imsics = _
      rw [hcore]
    all_goals rw [State.timer_answered, htimer]
  case csr => exact fun s h v hh hst hboot hpriv => does_registerWrite_mtvec hh (State.hartRuns_of hst hboot) hpriv v
  case dmi => exact fun s v hdevelop => does_registerWrite_abstractcs (by simp [State.portOpen, hdevelop]) v
  case msi =>
    intro s x h ident hh hlow hhigh hsends hdata ha hpass hok hup
    have hmsi := State.msi_of_hartUp (file := 0) hlow hhigh hup
    refine ⟨_, does_postedWrite_machineFile hh hhigh hsends hdata ha hpass hok, ?_, ?_, fun k f hf hne => ?_, ?_⟩
    · rw [hmsi, State.imsic_updImsic_same]
    · rw [hmsi, State.imsic_updImsic_same]
    · rw [hmsi, State.imsic_updImsic_of_ne _ _ (by omega) hf hne]
    · rw [hmsi]
      rfl
  case doorbell =>
    intro s x n v hn hup hsends hdata ha hport hok
    have hdoes := does_instDbWrite hn hup hsends hdata ha hport hok
    refine ⟨fun hnone => ?missing, fun e k hv hk hgen hfind hlive howner hsec htx hon hreset => ?ring⟩
    case missing => rwa [State.dbWrite_of_missing hnone] at hdoes
    case ring => rwa [State.dbWrite_of_ring hn hv hk hgen hfind hlive howner hsec htx hon hreset] at hdoes

end Sys2Proof.Proofs

/-! ## The identification registers and misa

Laws of the CSRs that read one value whatever the state (R141, R143). They show no interrupt, so a read of them goes past `csrIrq` to the
chain of `csrRead`. -/

namespace Sys2Proof.Machine

open Sys2Proof

/-- The CSRs that identify a hart: misa, mvendorid, marchid, mimpid, mhartid (R141, R143). -/
def identityCsrs : List Nat := [0x301, 0xF11, 0xF12, 0xF13, 0xF14]

theorem State.csrIrq_of_identity (s : State) (n : Nat) (w : Bool) {c : Nat} (hc : c ∈ identityCsrs) : s.csrIrq n w c = none := by
  simp only [identityCsrs, List.mem_cons, List.not_mem_nil, or_false] at hc
  obtain rfl | rfl | rfl | rfl | rfl := hc <;> simp [State.csrIrq]

@[simp] theorem State.csrRead_mvendorid (s : State) (n : Nat) (w : Bool) : s.csrRead n w 0xF11 = 0 := by
  simp [State.csrRead, s.csrIrq_of_identity n w (c := 0xF11) (by decide)]

@[simp] theorem State.csrRead_marchid (s : State) (n : Nat) (w : Bool) : s.csrRead n w 0xF12 = 0x8000000000000C40 := by
  simp [State.csrRead, s.csrIrq_of_identity n w (c := 0xF12) (by decide)]

@[simp] theorem State.csrRead_mimpid (s : State) (n : Nat) (w : Bool) : s.csrRead n w 0xF13 = 0x00000000000000B2 := by
  simp [State.csrRead, s.csrIrq_of_identity n w (c := 0xF13) (by decide)]

@[simp] theorem State.csrRead_mhartid (s : State) (n : Nat) (w : Bool) : s.csrRead n w 0xF14 = BitVec.ofNat 64 n := by
  simp [State.csrRead, s.csrIrq_of_identity n w (c := 0xF14) (by decide)]

@[simp] theorem State.csrRead_misa (s : State) (n : Nat) (w : Bool) : s.csrRead n w 0x301 = misaValue := by
  simp [State.csrRead, s.csrIrq_of_identity n w (c := 0x301) (by decide)]

/-- misa is no CSR of an interrupt file and no timer's, so the write stays in the hart, which ignores it (R141). -/
theorem State.csrWrite_misa (s : State) (n : Nat) (w : Bool) (v : U64) : s.csrWrite n w 0x301 v = s.updHart n (fun h => h) := by
  have hput : s.csrWrite n w 0x301 v = s.putCsr n w false 0x301 v := by simp [State.csrWrite, State.csrSet]
  simp [hput, State.putCsr, csrIrqPut]

end Sys2Proof.Machine

namespace Sys2Proof.Proofs

open Sys2Proof Sys2Proof.Machine

/-- Settles O32: register by register, by what each reads and by what a write of misa does. -/
theorem identificationRegisters : Obligations.IdentificationRegisters := fun s n w =>
  ⟨s.csrRead_mvendorid n w, s.csrRead_marchid n w, s.csrRead_mimpid n w, s.csrRead_mhartid n w, s.csrRead_misa n w, s.csrWrite_misa n w⟩

end Sys2Proof.Proofs

/-! SUPPORT. Traps, returns and the calls between the worlds: where an exception enters and what it saves, and what TOLL, TOLLRET, MRET and
SRET change of their hart (Machine/Harts.lean). -/

namespace Sys2Proof.Machine

open Sys2Proof

/-! ### What an exception saves -/

/-- Hart k is hart h after an exception that entered M-mode in the secure world (R176). -/
structure Hart.EntersM (h k : Hart) (cause : Nat) (tval pc : U64) : Prop where
  world : k.world = true
  priv : k.priv = 3
  virt : k.virt = false
  mpw : k.mpw = h.world
  mpp : k.mpp = h.priv
  mpv : k.mpv = h.virt
  mpie : k.mpie = h.mie
  mie : k.mie = false
  mepc : k.csrAt 0x341 = pc
  mcause : k.csrAt 0x342 = BitVec.ofNat 64 cause
  mtval : k.csrAt 0x343 = tval
  pc : k.pc = h.csrAt 0x305 &&& ~~~3

/-- Hart k is hart h after an exception that entered S-mode, with V = 0, of world w (R177). -/
structure Hart.EntersS (h k : Hart) (w : Bool) (cause : Nat) (tval pc : U64) : Prop where
  world : k.world = w
  priv : k.priv = 1
  virt : k.virt = false
  sepc : k.bank w 0x141 = pc
  scause : k.bank w 0x142 = BitVec.ofNat 64 cause
  stval : k.bank w 0x143 = tval
  pc : k.pc = h.bank w 0x105 &&& ~~~3
  mpw : k.mpw = h.mpw

/-- Hart k holds the open call and the integer registers of hart h. -/
structure Hart.KeepsCall (h k : Hart) : Prop where
  tollActive : k.tollActive = h.tollActive
  tollEpc : k.tollEpc = h.tollEpc
  x : k.x = h.x

@[simp] theorem causeWord_exception (cause : Nat) : causeWord cause false = BitVec.ofNat 64 cause := by simp [causeWord, bit64]

@[simp] theorem vectorAt_exception (tvec : U64) (cause : Nat) : vectorAt tvec cause false = tvec &&& ~~~3 := by simp [vectorAt]

theorem Hart.bank_setBank (h : Hart) (w : Bool) (n k : Nat) (v : U64) :
    (h.setBank w n v).bank w k = if k = n then v else h.bank w k := by
  cases w <;> exact Tab.get_put ..

/-- Nothing of a hart but its shared CSRs differs, where only its counters do. -/
theorem Hart.countersOnly.exists_csr {h g : Hart} (hg : h.countersOnly g) : ∃ c, g = { h with csr := c } := ⟨g.csr, hg.1⟩

theorem Hart.trapM_csrAt (h : Hart) (cause : Nat) (tval pc gpa : U64) :
    (h.trapM cause false tval pc gpa).csrAt 0x341 = pc ∧ (h.trapM cause false tval pc gpa).csrAt 0x342 = BitVec.ofNat 64 cause
      ∧ (h.trapM cause false tval pc gpa).csrAt 0x343 = tval := by
  refine ⟨?_, ?_, ?_⟩ <;> simp [Hart.trapM, Hart.csrAt_setCsr]

theorem Hart.trapM_entersM (h : Hart) (cause : Nat) (tval pc gpa : U64) :
    h.EntersM (h.trapM cause false tval pc gpa) cause tval pc := by
  obtain ⟨hmepc, hmcause, hmtval⟩ := h.trapM_csrAt cause tval pc gpa
  exact {
    world := rfl, priv := rfl, virt := rfl, mpw := rfl, mpp := rfl, mpv := rfl, mpie := rfl, mie := rfl
    mepc := hmepc, mcause := hmcause, mtval := hmtval, pc := vectorAt_exception _ cause }

/-- What the trap to S-mode leaves outside the bank of its world and the fields of the H extension. -/
theorem Hart.trapS_frame (h : Hart) (cause : Nat) (intr : Bool) (tval pc gpa : U64) :
    let k := h.trapS cause intr tval pc gpa
    k = { h with
      priv := 1, virt := false, pc := vectorAt (h.bank h.world 0x105) cause intr, csr := k.csr, spv := k.spv, spvp := k.spvp
      hgva := k.hgva, bankN := k.bankN, bankS := k.bankS } := by
  obtain ⟨world⟩ := h
  cases world <;> rfl

/-- The bank after the trap to S-mode: sstatus, sepc, scause and stval are written, and nothing else. -/
theorem Hart.trapS_bank (h : Hart) (cause : Nat) (tval pc gpa : U64) (n : Nat) :
    (h.trapS cause false tval pc gpa).bank h.world n =
      if n = 0x143 then tval else if n = 0x142 then BitVec.ofNat 64 cause else if n = 0x141 then pc
      else if n = 0x100 then sstatusTrap (h.bank h.world 0x100) (h.priv = 1) else h.bank h.world n := by
  have hwrites : (h.trapS cause false tval pc gpa).bank h.world n =
      ((((h.setBank h.world 0x100 (sstatusTrap (h.bank h.world 0x100) (h.priv = 1))).setBank h.world 0x141 pc).setBank h.world 0x142
        (causeWord cause false)).setBank h.world 0x143 tval).bank h.world n := by
    obtain ⟨world⟩ := h
    cases world <;> rfl
  simp only [hwrites, Hart.bank_setBank, causeWord_exception]

theorem Hart.trapS_entersS (h : Hart) (cause : Nat) (tval pc gpa : U64) :
    h.EntersS (h.trapS cause false tval pc gpa) h.world cause tval pc := by
  have hframe := h.trapS_frame cause false tval pc gpa
  exact {
    world := by rw [hframe], priv := by rw [hframe], virt := by rw [hframe], mpw := by rw [hframe]
    sepc := by simp [Hart.trapS_bank], scause := by simp [Hart.trapS_bank], stval := by simp [Hart.trapS_bank]
    pc := by rw [hframe]; exact vectorAt_exception _ cause }

/-! ### Where an exception enters -/

theorem Hart.exception_of_machine {h : Hart} {cause : Nat} (hm : h.priv = 3 ∨ (h.csrAt 0x302).getLsbD cause = false) (tval pc gpa : U64) :
    h.exception cause tval pc gpa = h.trapM cause false tval pc gpa := by
  simp only [Hart.exception, Bool.not_eq_true, hm, if_true]

theorem Hart.exception_of_supervisor {h : Hart} {cause : Nat} (hpriv : h.priv ≠ 3) (hgives : (h.csrAt 0x302).getLsbD cause = true)
    (hvirt : h.virt = false) (tval pc gpa : U64) : h.exception cause tval pc gpa = h.trapS cause false tval pc gpa := by
  have hbelow : ¬ (h.priv = 3 ∨ ¬ (h.csrAt 0x302).getLsbD cause = true) := fun hm => hm.elim hpriv (fun hkeeps => hkeeps hgives)
  simp only [Hart.exception, if_neg hbelow, hvirt, Bool.false_eq_true, false_and, if_false]

/-- An exception enters by one of three traps, and none of them touches the open call or the integer registers (R186). -/
theorem Hart.exception_keepsCall (h : Hart) (cause : Nat) (tval pc gpa : U64) : h.KeepsCall (h.exception cause tval pc gpa) := by
  unfold Hart.exception
  split
  · exact ⟨rfl, rfl, rfl⟩
  · split
    · exact ⟨rfl, rfl, rfl⟩
    · rw [Hart.trapS_frame]
      exact ⟨rfl, rfl, rfl⟩

/-! ### The trap of a hart -/

theorem Hart.EntersM.of_counted {h g k : Hart} {cause : Nat} {tval pc : U64} (hg : h.countersOnly g) (e : g.EntersM k cause tval pc) :
    h.EntersM k cause tval pc := by
  have hpc : k.pc = h.csrAt 0x305 &&& ~~~3 := hg.2 0x305 (by decide) ▸ e.pc
  obtain ⟨c, rfl⟩ := hg.exists_csr
  exact ⟨e.world, e.priv, e.virt, e.mpw, e.mpp, e.mpv, e.mpie, e.mie, e.mepc, e.mcause, e.mtval, hpc⟩

theorem Hart.EntersS.of_counted {h g k : Hart} {w : Bool} {cause : Nat} {tval pc : U64} (hg : h.countersOnly g)
    (e : g.EntersS k w cause tval pc) : h.EntersS k w cause tval pc := by
  obtain ⟨c, rfl⟩ := hg.exists_csr
  exact ⟨e.world, e.priv, e.virt, e.sepc, e.scause, e.stval, e.pc, e.mpw⟩

theorem Hart.KeepsCall.of_counted {h g k : Hart} (hg : h.countersOnly g) (e : g.KeepsCall k) : h.KeepsCall k := by
  obtain ⟨c, rfl⟩ := hg.exists_csr
  exact ⟨e.tollActive, e.tollEpc, e.x⟩

section Trap
variable (s : State) (n cause : Nat) (tval pc : U64)

/-- The trap of a hart is an exception behind event 0x09. -/
theorem State.hart_trap : ∃ gpa, ∀ k, (s.trap n cause tval pc).hart k =
    if k = n then ((s.hart n).event 0x09).exception cause tval pc gpa else s.hart k :=
  ⟨_, fun k => s.hart_updHart n k (fun h => (h.event 0x09).exception cause tval pc
    (if gpaCause cause then Config.freeWord 1 s.core.fresh else 0))⟩

theorem State.trap_frame : s.trap n cause tval pc =
    { s with core := { s.core with harts := (s.trap n cause tval pc).core.harts, fresh := s.core.fresh + 1 } } := rfl

theorem State.hart_trap_ne {k : Nat} (hk : k ≠ n) : (s.trap n cause tval pc).hart k = s.hart k := by
  obtain ⟨gpa, htrap⟩ := s.hart_trap n cause tval pc
  rw [htrap, if_neg hk]

theorem State.trap_keepsCall : (s.hart n).KeepsCall ((s.trap n cause tval pc).hart n) := by
  obtain ⟨gpa, htrap⟩ := s.hart_trap n cause tval pc
  rw [htrap, if_pos rfl]
  exact (Hart.exception_keepsCall ..).of_counted (Hart.event_countersOnly _ 0x09)

variable {s n cause}

theorem State.trap_entersM (hm : (s.hart n).priv = 3 ∨ ((s.hart n).csrAt 0x302).getLsbD cause = false) :
    (s.hart n).EntersM ((s.trap n cause tval pc).hart n) cause tval pc := by
  have hcounted := (s.hart n).event_countersOnly 0x09
  have hmedeleg := hcounted.2 0x302 (by decide)
  have hpriv : ((s.hart n).event 0x09).priv = (s.hart n).priv := by rw [Hart.event_frame]
  obtain ⟨gpa, htrap⟩ := s.hart_trap n cause tval pc
  rw [htrap, if_pos rfl, Hart.exception_of_machine (by rwa [hmedeleg, hpriv])]
  exact (Hart.trapM_entersM ..).of_counted hcounted

theorem State.trap_entersS (hpriv : (s.hart n).priv ≠ 3) (hgives : ((s.hart n).csrAt 0x302).getLsbD cause = true)
    (hvirt : (s.hart n).virt = false) {w : Bool} (hworld : (s.hart n).world = w) :
    (s.hart n).EntersS ((s.trap n cause tval pc).hart n) w cause tval pc := by
  have hin : ((s.hart n).event 0x09).world = w := by rwa [Hart.event_frame]
  have hcounted := (s.hart n).event_countersOnly 0x09
  have hmedeleg := hcounted.2 0x302 (by decide)
  obtain ⟨gpa, htrap⟩ := s.hart_trap n cause tval pc
  rw [htrap, if_pos rfl, Hart.exception_of_supervisor (by rwa [Hart.event_frame]) (by rwa [hmedeleg]) (by rwa [Hart.event_frame])]
  exact (hin ▸ Hart.trapS_entersS ..).of_counted hcounted

end Trap

theorem does_trapEntry {s : State} {n : Nat} {cause : U64} (hn : n < 8) (hruns : s.hartRuns n = true) (hcause : cause.toNat < 64)
    (tval pc : U64) : Does (.trapEntry n cause tval pc) s (s.trap n cause.toNat tval pc) := by
  simp only [Does, exec, execTrapEntry, Nat.not_le.mpr hn, hruns, hcause, and_self, if_true, if_false, fin]

end Sys2Proof.Machine

namespace Sys2Proof.Proofs

open Sys2Proof Sys2Proof.Machine

/-- Settles O29: by what the trap to M-mode and the trap to S-mode each save, behind the event that counts a trap. -/
theorem trapsEnter : Obligations.TrapsEnter := by
  intro s n cause tval pc hn hst hboot hcause
  have hword : BitVec.ofNat 64 cause.toNat = cause := by simp
  have hcall := s.trap_keepsCall n cause.toNat tval pc
  refine ⟨_, does_trapEntry hn (State.hartRuns_of hst hboot) hcause tval pc, fun hm => ?machine, fun hpriv hgives hvirt hworld => ?supervisor,
    hcall.tollActive, hcall.tollEpc, hcall.x, fun k hk => s.hart_trap_ne n _ tval pc hk, s.trap_frame n _ tval pc⟩
  case machine =>
    have e := State.trap_entersM tval pc hm
    exact ⟨e.world, e.priv, e.virt, e.mpw, e.mpp, e.mpv, e.mpie, e.mie, e.mepc, e.mcause.trans hword, e.mtval, e.pc⟩
  case supervisor =>
    have e := State.trap_entersS tval pc hpriv hgives hvirt hworld
    exact ⟨e.world, e.priv, e.virt, e.sepc, e.scause.trans hword, e.stval, e.pc, e.mpw⟩

end Sys2Proof.Proofs

/-! SUPPORT. The calls between the worlds and the returns: what TOLL, TOLLRET, MRET and SRET do where they are permitted, and what refuses
them elsewhere (Machine/Harts.lean). -/

namespace Sys2Proof.Machine

open Sys2Proof

/-! ### A retirement -/

section Retired
variable (s : State) (n : Nat) (f : Hart → Hart)

theorem State.hart_retired_same : ∃ b, (s.retired n f).hart n = f ((s.hart n).retire b) :=
  ⟨_, (s.hart_retired n n f).trans (if_pos rfl)⟩

theorem State.hart_retired_ne {k : Nat} (hk : k ≠ n) : (s.retired n f).hart k = s.hart k := by rw [State.hart_retired, if_neg hk]

theorem State.retired_frame : s.retired n f =
    { s with core := { s.core with harts := (s.retired n f).core.harts, fresh := s.core.fresh + 1 } } := rfl

/-- No halt waits, so the return of the hart to the normal world is followed by none (R162). -/
theorem State.heldHalt_retired (hreq : (s.pair n).haltReq = false) : (s.retired n f).heldHalt n = s.retired n f := by
  have hpair : (s.retired n f).pair n = s.pair n := rfl
  simp only [State.heldHalt, hpair, hreq, Bool.false_eq_true, false_and, if_false]

end Retired

/-! ### The words of the custom-0 opcode -/

theorem State.not_halted_of_runs {s : State} {n : Nat} (hruns : s.hartRuns n = true) : (s.pair n).st ≠ .halted := by
  intro hhalted
  simp [State.hartRuns, hhalted] at hruns

section Custom0
variable {s : State} {n : Nat} {w : U32}

theorem exec_tollret (hn : n < 8) (hruns : s.hartRuns n = true) : exec (.tollret n) s = fin (s.tollretAt n) := by
  simp only [exec, execTollret, Nat.not_le.mpr hn, State.not_halted_of_runs hruns, hruns, not_true, if_false]

theorem exec_toll_of_toll (hn : n < 8) (hop : w.extractLsb' 0 7 = 0x0B) (hruns : s.hartRuns n = true) {r : Nat}
    (hd : decodeCustom0 w = .toll r) : exec (.toll n w) s = fin (s.tollAt n ((s.hart n).xReg r)) := by
  simp only [exec, execToll, Nat.not_le.mpr hn, hop, State.not_halted_of_runs hruns, hruns, hd, ne_eq, not_true, if_false]

theorem exec_toll_of_tollret (hn : n < 8) (hop : w.extractLsb' 0 7 = 0x0B) (hruns : s.hartRuns n = true)
    (hd : decodeCustom0 w = .tollret) : exec (.toll n w) s = exec (.tollret n) s := by
  rw [exec_tollret hn hruns]
  simp only [exec, execToll, Nat.not_le.mpr hn, hop, State.not_halted_of_runs hruns, hruns, hd, ne_eq, not_true, if_false]

theorem does_toll_of_illegal (hn : n < 8) (hop : w.extractLsb' 0 7 = 0x0B) (hruns : s.hartRuns n = true)
    (hd : decodeCustom0 w = .illegal) : Does (.toll n w) s (s.illegal n 2) := by
  simp only [Does, exec, execToll, Nat.not_le.mpr hn, hop, State.not_halted_of_runs hruns, hruns, hd, ne_eq, not_true, if_false, fin]

end Custom0

/-! ### TOLL and TOLLRET, by the state of the hart -/

section Calls
variable {s : State} {n : Nat}

theorem State.tollretAt_of_virt (hvirt : (s.hart n).virt = true) : s.tollretAt n = s.illegal n 22 := by
  simp only [State.tollretAt, hvirt, if_true]

theorem State.tollretAt_of_refused (hvirt : (s.hart n).virt = false)
    (hout : (s.hart n).world = false ∨ (s.hart n).priv ≠ 1 ∨ (s.hart n).tollActive = false) : s.tollretAt n = s.illegal n 2 := by
  have hrefused : ¬ ((s.hart n).world = true ∧ (s.hart n).priv = 1 ∧ (s.hart n).tollActive = true) := by
    rintro ⟨hworld, hpriv, hactive⟩
    simp [hworld, hpriv, hactive] at hout
  simp only [State.tollretAt, hvirt, Bool.false_eq_true, if_false, hrefused, not_false_eq_true, if_true]

/-- The hart after a TOLLRET that is permitted (R185). -/
def Hart.tollret (h : Hart) : Hart := { h with world := false, priv := 1, virt := false, tollActive := false, pc := h.tollEpc }

theorem Hart.tollret_retire (h : Hart) (b : Nat) : (h.retire b).tollret = { h.tollret with csr := (h.retire b).csr } := by
  rw [h.retire_frame b]
  rfl

theorem State.tollretAt_of_open (hvirt : (s.hart n).virt = false) (hworld : (s.hart n).world = true) (hpriv : (s.hart n).priv = 1)
    (hactive : (s.hart n).tollActive = true) : s.tollretAt n = (s.retired n Hart.tollret).heldHalt n := by
  simp only [State.tollretAt, hvirt, Bool.false_eq_true, if_false, hworld, hpriv, hactive, and_self, not_true]
  rfl

/-- TOLLRET with an open call, and no halt that waits for the normal world (R162, R185). -/
theorem does_tollret (hn : n < 8) (hruns : s.hartRuns n = true) (hvirt : (s.hart n).virt = false) (hworld : (s.hart n).world = true)
    (hpriv : (s.hart n).priv = 1) (hactive : (s.hart n).tollActive = true) (hreq : (s.pair n).haltReq = false) :
    Does (.tollret n) s (s.retired n Hart.tollret) := by
  rw [Does, exec_tollret hn hruns, State.tollretAt_of_open hvirt hworld hpriv hactive, State.heldHalt_retired _ _ _ hreq, fin]

theorem State.tollAt_of_virt (hvirt : (s.hart n).virt = true) (a : U64) : s.tollAt n a = s.illegal n 22 := by
  simp only [State.tollAt, hvirt, if_true]

theorem State.tollAt_of_refused (hvirt : (s.hart n).virt = false) (hout : (s.hart n).world = true ∨ (s.hart n).priv ≠ 1) (a : U64) :
    s.tollAt n a = s.illegal n 2 := by
  simp only [State.tollAt, hvirt, Bool.false_eq_true, if_false, if_pos hout]

/-- TOLL in normal-world S-mode with V = 0 (R182). -/
theorem State.tollAt_of_permitted (hvirt : (s.hart n).virt = false) (hworld : (s.hart n).world = false) (hpriv : (s.hart n).priv = 1)
    (a : U64) : s.tollAt n a = if (s.tollChecks n a).2 then (s.tollChecks n a).1.retired n (fun h => h.toll a)
      else (s.tollChecks n a).1.trap n 24 a (s.hart n).pc := by
  simp only [State.tollAt, hvirt, hworld, hpriv, Bool.false_eq_true, ne_eq, not_true, or_self, if_false]

end Calls

/-! ### MRET and SRET -/

section Returns
variable {s : State} {n : Nat}

theorem does_mret_of_refused (hn : n < 8) (hruns : s.hartRuns n = true)
    (hout : (s.hart n).priv ≠ 3 ∨ (s.hart n).mpw = false ∧ (s.hart n).mpp = 3) : Does (.mret n) s (s.illegal n 2) := by
  have hrefused : (s.hart n).priv ≠ 3 ∨ ¬ (s.hart n).mpw = true ∧ (s.hart n).mpp = 3 := by rwa [Bool.not_eq_true]
  simp only [Does, exec, execMret, Nat.not_le.mpr hn, hruns, not_true, if_false, if_pos hrefused, fin]

theorem Hart.mret_retire (h : Hart) (b : Nat) : (h.retire b).mret = { h.mret with csr := (h.retire b).csr } := by
  have hmepc : (h.retire b).csrAt 0x341 = h.csrAt 0x341 := h.retire_csrAt b (by decide) (by decide)
  rw [Hart.mret, Hart.mret, hmepc, h.retire_frame b]

theorem does_mret (hn : n < 8) (hruns : s.hartRuns n = true) (hpriv : (s.hart n).priv = 3)
    (hto : (s.hart n).mpw = true ∨ (s.hart n).mpp ≠ 3) (hreq : (s.pair n).haltReq = false) :
    Does (.mret n) s (s.retired n Hart.mret) := by
  have hpermitted : ¬ ((s.hart n).priv ≠ 3 ∨ ¬ (s.hart n).mpw = true ∧ (s.hart n).mpp = 3) := by
    rintro (hbelow | ⟨hnormal, hm⟩)
    · exact hbelow hpriv
    · exact hto.elim hnormal (fun hother => hother hm)
  simp only [Does, exec, execMret, Nat.not_le.mpr hn, hruns, not_true, if_false, if_neg hpermitted, State.heldHalt_retired _ _ _ hreq, fin]

theorem does_sret_of_user (hn : n < 8) (hruns : s.hartRuns n = true) (hpriv : (s.hart n).priv = 0) (hvirt : (s.hart n).virt = false) :
    Does (.sret n) s (s.illegal n 2) := by
  simp only [Does, exec, execSret, Nat.not_le.mpr hn, hruns, hpriv, hvirt, not_true, Bool.false_eq_true, true_or, if_true, if_false, fin]

/-- The hart after sret with V = 0: M-mode returns through the bank that MWORLD.MPW names, S-mode through that of its world (R177, R179). -/
def Hart.sret (h : Hart) : Hart := h.sretS (if h.priv = 3 then h.mpw else h.world)

theorem does_sret (hn : n < 8) (hruns : s.hartRuns n = true) (hvirt : (s.hart n).virt = false) (hpriv : (s.hart n).priv ≠ 0)
    (htsr : (s.hart n).priv = 1 → ((s.hart n).csrAt 0x300).getLsbD 22 = false) : Does (.sret n) s (s.retired n Hart.sret) := by
  have hpermitted : ¬ ((s.hart n).priv = 0 ∨ (s.hart n).priv = 1 ∧ ((s.hart n).csrAt 0x300).getLsbD 22 = true) := by
    rintro (huser | ⟨hsup, hon⟩)
    · exact hpriv huser
    · exact Bool.eq_false_iff.mp (htsr hsup) hon
  simp only [Does, exec, execSret, Nat.not_le.mpr hn, hruns, hvirt, not_true, Bool.false_eq_true, if_false, if_neg hpermitted, fin]
  rfl

/-- What sret through the bank of a world leaves outside that bank and the fields of the return. -/
theorem Hart.sretS_frame (h : Hart) (w : Bool) :
    let k := h.sretS w
    k = { h with
      priv := if (h.bank w 0x100).getLsbD 8 then 1 else 0, virt := k.virt, spv := k.spv, mprv := false
      pc := h.bank w 0x141 &&& ~~~1, bankN := k.bankN, bankS := k.bankS } := by
  cases w <;> rfl

theorem Hart.sret_retire (h : Hart) (b : Nat) : (h.retire b).sret = { h.sret with csr := (h.retire b).csr } := by
  rw [h.retire_frame b, Hart.sret, Hart.sret]
  cases (if h.priv = 3 then h.mpw else h.world) <;> rfl

theorem Hart.sret_of_not_machine {h : Hart} (hpriv : h.priv ≠ 3) : h.sret = h.sretS h.world := by rw [Hart.sret, if_neg hpriv]

end Returns

end Sys2Proof.Machine

namespace Sys2Proof.Proofs

open Sys2Proof Sys2Proof.Machine

/-- Settles O28: what each instruction answers by the state of its hart, and what a retirement with its change leaves. -/
theorem refusalsAndReturns : Obligations.RefusalsAndReturns := by
  refine ⟨fun s n r w hn hop hst hboot => ?calls, fun s n hn hst hboot => ?returns⟩
  case calls =>
    have hruns := State.hartRuns_of hst hboot
    have hexec := exec_tollret hn hruns
    refine ⟨fun hvirt hworld hpriv hactive hreq => ?back, fun hvirt => ⟨fun hd => ?callGuest, ?backGuest⟩, fun hvirt hout hd => ?callRefused,
      fun hvirt hout => ?backRefused, exec_toll_of_tollret hn hop hruns, does_toll_of_illegal hn hop hruns⟩
    case back =>
      obtain ⟨b, hhart⟩ := s.hart_retired_same n Hart.tollret
      rw [Hart.tollret_retire] at hhart
      refine ⟨_, does_tollret hn hruns hvirt hworld hpriv hactive hreq, ?_, ?_, fun k hk => s.hart_retired_ne n _ hk, s.retired_frame n _⟩
      · rw [hhart]
        rfl
      · rw [hhart]
        exact fun c => (s.hart n).retire_csrAt b
    case callGuest => rw [Does, exec_toll_of_toll hn hop hruns hd, State.tollAt_of_virt hvirt, fin]
    case backGuest => rw [Does, hexec, State.tollretAt_of_virt hvirt, fin]
    case callRefused => rw [Does, exec_toll_of_toll hn hop hruns hd, State.tollAt_of_refused hvirt hout, fin]
    case backRefused => rw [Does, hexec, State.tollretAt_of_refused hvirt hout, fin]
  case returns =>
    have hruns := State.hartRuns_of hst hboot
    refine ⟨fun hpriv hto hreq => ?mret, fun _ hmpw hmpp => does_mret_of_refused hn hruns (.inr ⟨hmpw, hmpp⟩),
      fun hpriv => does_mret_of_refused hn hruns (.inl hpriv), fun hpriv hvirt htsr => ?sret, does_sret_of_user hn hruns⟩
    case mret =>
      refine ⟨_, does_mret hn hruns hpriv hto hreq, s.retired_frame n _, fun k hk => s.hart_retired_ne n _ hk, ?_⟩
      obtain ⟨b, hhart⟩ := s.hart_retired_same n Hart.mret
      rw [hhart, Hart.mret_retire]
      exact ⟨rfl, rfl, rfl, rfl, rfl, rfl, rfl, rfl, rfl⟩
    case sret =>
      refine ⟨_, does_sret hn hruns hvirt (hpriv ▸ by decide) (fun _ => htsr), s.retired_frame n _,
        fun k hk => s.hart_retired_ne n _ hk, ?_⟩
      obtain ⟨b, hhart⟩ := s.hart_retired_same n Hart.sret
      have hbelow : (s.hart n).priv ≠ 3 := hpriv ▸ by decide
      rw [hhart, Hart.sret_retire, Hart.sret_of_not_machine hbelow, Hart.sretS_frame]
      exact ⟨rfl, rfl, rfl, rfl⟩

end Sys2Proof.Proofs

/-! SUPPORT. The checks of TOLL: the call window, the marker fetch, and the call or the toll fault that follows (Machine/Harts.lean). -/

namespace Sys2Proof.Machine

open Sys2Proof

/-! ### The call window -/

theorem tollWord_toNat (b : BitVec 36) : (tollWord b).toNat = b.toNat * 16 := by
  have hfits : b.toNat * 16 < 2 ^ 64 := by omega
  simp only [tollWord, BitVec.toNat_shiftLeft, BitVec.toNat_setWidth, Nat.shiftLeft_eq]
  omega

theorem Hart.tollAdmits_eq (h : Hart) (a : U64) : h.tollAdmits a = (h.tollen && decide (a &&& 0xF = 0)
    && decide (h.tollBase.toNat * 16 ≤ a.toNat) && decide (a.toNat ≤ h.tollLimit.toNat * 16)) := by
  simp only [Hart.tollAdmits, tollWord_toNat]

/-! ### The marker fetch -/

theorem State.capture_eq_fabErr (s : State) (t : Attr) (a : Nat) (wr : Bool) (r : Resp) :
    ∃ e, s.capture t a wr r = s.onCore (fun c => { c with fabErr := e }) := by
  unfold State.capture
  split
  · exact ⟨_, rfl⟩
  · exact ⟨s.core.fabErr, rfl⟩

/-- The marker fetch changes nothing but what the fabric counts and captures of an error (R131). -/
theorem State.markerFetch_eq_fabErr (s : State) (n a : Nat) : ∃ e, (s.markerFetch n a).1 = s.onCore (fun c => { c with fabErr := e }) := by
  unfold State.markerFetch
  split
  · exact ⟨s.core.fabErr, rfl⟩
  · split
    · exact ⟨s.core.fabErr, rfl⟩
    · exact s.capture_eq_fabErr ..

theorem State.markerFetch_of_ok {s : State} {n a : Nat} (hregion : Machine.target a < 0x03 ∨ Machine.target a = 0x10)
    (hok : s.verdict (secureAttr n) a 4 true false = .ok) : s.markerFetch n a = (s, some (leNat (s.memBytes a 4))) := by
  have hmem : ¬ (0x03 ≤ Machine.target a ∧ Machine.target a ≠ 0x10) := by omega
  rw [State.markerFetch, if_neg hmem, hok]

/-! ### The call and the toll fault -/

theorem Hart.toll_retire (h : Hart) (b : Nat) (a : U64) : (h.retire b).toll a = { h.toll a with csr := (h.retire b).csr } := by
  rw [h.retire_frame b]
  rfl

section TollChecks
variable {s : State} {n : Nat} {a : U64}

theorem State.tollChecks_of_passed (hadmits : (s.hart n).tollAdmits a = true) (hmark : (s.markerFetch n a.toNat).2 = some 0x5A17C0DE) :
    s.tollChecks n a = ((s.markerFetch n a.toNat).1, true) := by
  simp [State.tollChecks, hadmits, hmark, tollMarker]

/-- The marker is fetched only where the checks before it pass, so the state of a toll fault is the one behind the fetch only there. -/
theorem State.tollChecks_of_failed (hfails : (s.hart n).tollAdmits a = false ∨ (s.markerFetch n a.toNat).2 ≠ some 0x5A17C0DE) :
    s.tollChecks n a = (if (s.hart n).tollAdmits a then (s.markerFetch n a.toNat).1 else s, false) := by
  cases hadmits : (s.hart n).tollAdmits a with
  | false => simp [State.tollChecks, hadmits]
  | true =>
    have hmark : (s.markerFetch n a.toNat).2 ≠ some tollMarker := hfails.resolve_left (by simp [hadmits])
    simp [State.tollChecks, hadmits, hmark]

end TollChecks

/-- The checks of TOLL leave every hart. -/
theorem State.hart_tollFetched (s : State) (n a : Nat) (b : Bool) (k : Nat) :
    (if b then (s.markerFetch n a).1 else s).hart k = s.hart k := by
  obtain ⟨e, he⟩ := s.markerFetch_eq_fabErr n a
  rw [he]
  cases b <;> rfl

end Sys2Proof.Machine

namespace Sys2Proof.Proofs

open Sys2Proof Sys2Proof.Machine

/-- Settles O27: by the result of the checks of TOLL, which leave every hart, and by the trap of cause 24 where one of them fails. -/
theorem tollPerformed : Obligations.TollPerformed := by
  intro s n r w a hn hop hd ha hst hboot hvirt hworld hpriv q f
  obtain ⟨e, he⟩ : ∃ e, q.1 = s.onCore (fun c => { c with fabErr := e }) := s.markerFetch_eq_fabErr n a.toNat
  have hexec : exec (.toll n w) s = fin (s.tollAt n a) := ha ▸ exec_toll_of_toll hn hop (State.hartRuns_of hst hboot) hd
  rw [State.tollAt_of_permitted hvirt hworld hpriv] at hexec
  refine ⟨Hart.tollAdmits_eq _ a, by rw [he]; rfl, State.markerFetch_of_ok, fun hadmits hmark => ?passed, fun hfails => ?failed⟩
  case passed =>
    rw [State.tollChecks_of_passed hadmits hmark, if_pos rfl] at hexec
    obtain ⟨b, hhart⟩ := q.1.hart_retired_same n (fun h => h.toll a)
    have hsame : q.1.hart n = s.hart n := by rw [he]; rfl
    rw [hsame, Hart.toll_retire] at hhart
    refine ⟨q.1.retired n (fun h => h.toll a), hexec, ?_⟩
    rw [hhart]
    refine ⟨rfl, rfl, rfl, rfl, rfl, rfl, rfl, fun c => (s.hart n).retire_csrAt b, fun k hk => ?_, ?_⟩
    · rw [q.1.hart_retired_ne n _ hk, he]
      rfl
    · rw [he]
      rfl
  case failed =>
    rw [State.tollChecks_of_failed hfails, if_neg Bool.false_ne_true] at hexec
    have hsame : f.hart n = s.hart n := s.hart_tollFetched ..
    refine ⟨hexec, fun hkeeps => ?machine, fun hgives => ?supervisor⟩
    case machine =>
      have entry := State.trap_entersM (s := f) (n := n) (cause := 24) a (s.hart n).pc (.inr (by rwa [hsame]))
      rw [hsame] at entry
      exact ⟨entry.world, entry.priv, entry.mpw.trans hworld, entry.mcause, entry.mtval⟩
    case supervisor =>
      have entry := State.trap_entersS (s := f) (n := n) (cause := 24) a (s.hart n).pc (by simp [hsame, hpriv]) (by rwa [hsame])
        (by rwa [hsame]) (w := false) (by rwa [hsame])
      exact ⟨entry.world, entry.priv, entry.scause, entry.stval⟩

end Sys2Proof.Proofs

/-! SUPPORT. Answers: the settling of interrupts leaves all of a pair but its drop counter, a response leaves all of Amind's side but the
stalls and the routes, and the checks of a request end in one of four responses or in the command's own part. -/

namespace Sys2Proof.Machine

open Sys2Proof

/-! ### Interrupts -/

theorem State.settleSrc_dropsOnly (s : State) (i : Nat) : s.dropsOnly (s.settleSrc i) := by
  unfold State.settleSrc
  simp only
  split
  · split
    · exact s.dropsOnly_refl
    · exact State.dropsOnly_after (State.fireS_dropsOnly _ _) (fun _ => rfl)
  · split
    · exact s.dropsOnly_refl
    · exact State.dropsOnly_after (State.fireM_dropsOnly _ _) (fun _ => rfl)

theorem State.settle_dropsOnly (s : State) : s.dropsOnly s.settle :=
  List.foldlRecOn (motive := s.dropsOnly) _ _ s.dropsOnly_refl fun _ h i _ => State.dropsOnly_trans h (State.settleSrc_dropsOnly _ i)

theorem State.stallIrq_mgmt (s : State) (n : Nat) : (s.stallIrq n).mgmt = s.mgmt := by
  unfold State.stallIrq
  repeat' split
  · exact State.irqOnly_mgmt (s.pulse_irqOnly _)
  · exact State.irqOnly_mgmt (s.pulse_irqOnly _)
  · rfl
  · exact State.irqOnly_mgmt (s.msi_irqOnly _ _ _)

/-! ### Responses -/

/-- A stall with a response in its area: NOTICE_WAIT tells that notices wait (R221, R225). -/
def Stall.answeredBy (x : Stall) (a : Response) : Stall :=
  { x with st := .answered, captured := none, rsp := if x.notices.isEmpty then a else { a with flags := a.flags ||| flWait } }

/-- A response reaches a stall in service alone. -/
theorem State.respond_stall_mgmt (s : State) (n : Nat) (a : Response) :
    (s.respond (.stall n) a).mgmt = if (s.stall n).inService then (s.updStall n (·.answeredBy a)).mgmt else s.mgmt := by
  cases h : (s.stall n).inService with
  | true =>
    simp only [State.respond, h, if_true]
    exact State.stallIrq_mgmt _ _
  | false => simp [State.respond, h]

theorem State.svcSend_mgmt (s : State) (k : Nat) (a : Response) :
    (s.svcSend k a).mgmt = { s.mgmt with amind := (s.svcSend k a).mgmt.amind } := by
  unfold State.svcSend
  split <;> rfl

theorem State.udpSend_mgmt (s : State) (p : Peer) (a : Response) :
    (s.udpSend p a).mgmt = { s.mgmt with amind := (s.udpSend p a).mgmt.amind } := by
  unfold State.udpSend
  split <;> rfl

theorem State.feedPartner_mgmt (s : State) : s.feedPartner.mgmt = { s.mgmt with amind := s.feedPartner.mgmt.amind } := by
  unfold State.feedPartner
  repeat' split
  all_goals rfl

/-- Of Amind's side a response changes the records of requests alone: not the ledger and not the handles. -/
theorem State.respond_mgmt (s : State) (r : Route) (a : Response) :
    (s.respond r a).mgmt = { s.mgmt with amind := (s.respond r a).mgmt.amind } := by
  cases r with
  | stall n =>
    rw [State.respond_stall_mgmt]
    split <;> rfl
  | svc k => exact s.svcSend_mgmt k a
  | ptr o => exact State.feedPartner_mgmt _
  | udp p => exact s.udpSend_mgmt p a

theorem State.reply_mgmt (s : State) (rq : Request) (a : Ans) : (s.reply rq a).mgmt = { s.mgmt with amind := (s.reply rq a).mgmt.amind } := by
  rw [State.reply, State.settle_mgmt, State.respond_mgmt]
  rfl

/-- A reply changes Amind's records of requests, the interrupt controllers and the pairs' drop counters. -/
theorem State.reply_eq (s : State) (rq : Request) (a : Ans) : s.reply rq a = { s with
    mgmt := { s.mgmt with amind := (s.reply rq a).mgmt.amind }
    core := { s.core with
      aplicM := (s.reply rq a).core.aplicM, aplicS := (s.reply rq a).core.aplicS, imsics := (s.reply rq a).core.imsics
      pairs := (s.reply rq a).core.pairs } } := by
  rw [← State.reply_mgmt]
  exact s.reply_mgmtOnly rq a

section ReplyToStall

variable {s : State} {rq : Request} {n : Nat} (a : Ans)

theorem State.stall_of_mgmt {s t : State} (h : t.mgmt = s.mgmt) (m : Nat) : t.stall m = s.stall m := by rw [State.stall, h, State.stall]

theorem State.route_of_mgmt {s t : State} (h : t.mgmt = s.mgmt) (m : Nat) : t.route m = s.route m := by rw [State.route, h, State.route]

theorem State.reply_stall_mgmt (hroute : rq.route = .stall n) : (s.reply rq a).mgmt
    = if (s.stall n).inService then ((s.record rq a).updStall n (·.answeredBy (answerOf rq a))).mgmt else (s.record rq a).mgmt := by
  rw [State.reply, State.settle_mgmt, hroute]
  exact (s.record rq a).respond_stall_mgmt n (answerOf rq a)

/-- A stall takes the reply to its request while it is in service; no other stall changes. -/
theorem State.reply_stall (hroute : rq.route = .stall n) (m : Nat) : (s.reply rq a).stall m
    = if (s.stall n).inService ∧ m = n then (s.stall n).answeredBy (answerOf rq a) else s.stall m := by
  have hmgmt := State.reply_stall_mgmt (s := s) a hroute
  have hrec : ∀ k, (s.record rq a).stall k = s.stall k := fun _ => rfl
  cases hserv : (s.stall n).inService with
  | true =>
    rw [hserv, if_pos rfl] at hmgmt
    rw [State.stall_of_mgmt hmgmt, State.stall_updStall, hrec, hrec]
    simp
  | false =>
    rw [hserv, if_neg Bool.false_ne_true] at hmgmt
    rw [State.stall_of_mgmt hmgmt, hrec]
    simp

/-- The route of a stall in service keeps the reply under its sequence (R223). -/
theorem State.reply_route (hroute : rq.route = .stall n) (hserv : (s.stall n).inService = true) :
    ((s.reply rq a).route n).lastSeq = rq.seq ∧ ((s.reply rq a).route n).stored = answerOf rq a := by
  have hmgmt := State.reply_stall_mgmt (s := s) a hroute
  rw [hserv, if_pos rfl] at hmgmt
  have hkept : s.holdsRequest rq.route = true := by rw [hroute]; exact hserv
  have hrec : (s.reply rq a).route n = (s.record rq a).route n := State.route_of_mgmt hmgmt n
  rw [hrec, State.record, hroute, Route.key, State.route_updRoute, if_pos rfl, ← hroute, hkept]
  exact ⟨rfl, rfl⟩

end ReplyToStall

@[simp] theorem Stall.answeredBy_rsp (x : Stall) (a : Response) :
    (x.answeredBy a).rsp = { a with flags := if x.notices.isEmpty then a.flags else a.flags ||| flWait } := by
  simp only [Stall.answeredBy]
  split <;> rfl

/-! ### The checks of a request -/

section Checks

variable {c : CmdSpec} {rq : Request} {s : State} {valid : List Byte → Bool} {retiring : Bool} {own : State → State × Ans}
  (hwaits : s.waits rq = true) (hup : s.amindUp = true) (hop : rq.opcode.toNat = c.op) (hknown : rq.unknown = false)
  (hrelayed : rq.relayed = false)
include hwaits hup hop hknown hrelayed

/-- The checks of R226 in their order, for a request that waits on its route and carries the command's opcode. -/
theorem serveWith_of_waits : serveWith c rq s valid retiring own =
    if s.answersBusy rq.route then fin ((s.heard rq).respond rq.route (answerOf rq { st := .busy }))
    else if ¬ rq.headerOk then fin ((s.heard rq).respond rq.route (answerOf rq { st := .badParam }))
    else if s.replays rq then
      fin ((s.heard rq).respond rq.route
        { (s.route rq.route.key).stored with flags := (s.route rq.route.key).stored.flags ||| flReplay })
    else if (s.heard rq).precheck c rq valid retiring = .ok then .next ((own (s.heard rq)).1.reply rq (own (s.heard rq)).2)
    else .next ((s.heard rq).reply rq { st := (s.heard rq).precheck c rq valid retiring }) := by
  have hroute : (s.heard rq).route rq.route.key = s.route rq.route.key := by
    unfold State.heard
    split <;> rfl
  simp only [serveWith, hwaits, hup, hop, hknown, hrelayed, State.heard_answersBusy, State.heard_replays, hroute]
  generalize (s.heard rq).precheck c rq valid retiring = e
  cases e <;> simp [fin, State.reply]

end Checks

end Sys2Proof.Machine

namespace Sys2Proof.Proofs

open Sys2Proof Sys2Proof.Machine

/-- Settles O8: the settling runs over sources, each of which raises MSIs at most, and a reply by the route it goes to. -/
theorem answersAndInterruptsFrame : Obligations.AnswersAndInterruptsFrame := by
  refine ⟨fun s => ⟨s.settle_irqOnly, s.settle_dropsOnly⟩, fun s rq a => ⟨s.reply_eq rq a, fun n _ hroute hserv m => ?cleared,
    fun n _ hroute hserv => ?answered⟩⟩
  case cleared => simp [State.reply_stall a hroute, hserv]
  case answered =>
    obtain ⟨hseq, hstored⟩ := State.reply_route a hroute hserv
    simp only [State.reply_stall a hroute, hserv, if_true, true_and, Stall.answeredBy_rsp, hseq, hstored]
    exact ⟨rfl, rfl, rfl, rfl, rfl, rfl, fun m hm => if_neg hm⟩

/-- Settles O10: the service of a waiting request is a cascade of its checks, and so is the status of checks 4 to 8. -/
theorem checksInOrder : Obligations.ChecksInOrder := by
  intro k rq s valid retiring own hwaits hup hop hknown hrelayed u
  have cascade := serveWith_of_waits (valid := valid) (retiring := retiring) (own := own) hwaits hup hop hknown hrelayed
  refine ⟨fun hbusy => ?_, fun hbusy hhead => ?_, fun hbusy hhead hrep => ?_, fun hbusy hhead hrep e he hcheck => ?_,
    fun hissuer => ?_, fun hissuer hmode => ?_, fun hissuer hmode hfields => ?_, fun hissuer hmode hlen hvalid => ?_⟩
  · rw [cascade, if_pos hbusy, fin]
  · simp [cascade, hbusy, hhead, fin, u]
  · simp [cascade, hbusy, hhead, hrep, fin, flReplay, u]
  · subst hcheck
    simp [cascade, hbusy, hhead, hrep, he, u]
  · simp [State.precheck, hissuer]
  · simp [State.precheck, hissuer, hmode]
  · have hbad : ¬ (rq.payload.length = rq.len.toNat ∧ valid rq.payload = true) := by
      rcases hfields with hlen | hvalid
      · exact fun h => hlen h.1
      · simp [hvalid]
    simp [State.precheck, hissuer, hmode, hbad]
  · simp [State.precheck, hissuer, hmode, hlen, hvalid]

end Sys2Proof.Proofs

/-! SUPPORT. Handles: what a change, an end and a destruction of a handle leave of the other handles and of the units. -/

namespace Sys2Proof.Machine

open Sys2Proof

/-! ### The table of handles -/

theorem hIndex_lt (h : U32) : hIndex h < 4096 := (h.extractLsb' 0 12).isLt

theorem hKey_ne {a b typ i : Nat} (hne : (a, b) ≠ (typ, i)) (hb : b < 4096) (hi : i < 4096) : hKey a b ≠ hKey typ i := by
  intro h
  simp only [hKey] at h
  exact hne (Prod.ext (by simp only; omega) (by simp only; omega))

theorem State.hFind_of_handles {s t : State} (h : t.mgmt.handles = s.mgmt.handles) (a b : Nat) : t.hFind a b = s.hFind a b := by
  rw [State.hFind, h, State.hFind]

theorem State.get_of_hFind {s : State} {typ i : Nat} {e : Handle} (h : s.hFind typ i = some e) :
    Tab.get s.mgmt.handles.tab (hKey typ i) {} = e := by
  unfold State.hFind at h
  split at h
  · exact Option.some.inj h
  · cases h

/-- The entry of a handle changed by f. -/
def State.updHandle (s : State) (typ i : Nat) (f : Handle → Handle) : State :=
  s.onMgmt (fun m => { m with handles := { m.handles with tab := Tab.upd m.handles.tab (hKey typ i) {} f } })

theorem State.hFind_updHandle_same (s : State) (typ i : Nat) (f : Handle → Handle) :
    (s.updHandle typ i f).hFind typ i = some (f (Tab.get s.mgmt.handles.tab (hKey typ i) {})) := by
  simp [State.hFind, State.updHandle, Tab.upd, Tab.has_put]

theorem State.hFind_updHandle_ne (s : State) {typ i a b : Nat} (f : Handle → Handle) (hne : (a, b) ≠ (typ, i)) (hb : b < 4096)
    (hi : i < 4096) : (s.updHandle typ i f).hFind a b = s.hFind a b := by
  have hkey := hKey_ne hne hb hi
  simp [State.hFind, State.updHandle, Tab.upd, Tab.has_put, Tab.get_put_ne _ _ _ hkey, hkey]

theorem State.hFind_hFree_same (s : State) (typ i : Nat) : (s.hFree typ i).hFind typ i = none := by
  simp [State.hFind, State.hFree, Tab.has_drop_same]

theorem State.hFind_hFree_ne (s : State) {typ i a b : Nat} (hne : (a, b) ≠ (typ, i)) (hb : b < 4096) (hi : i < 4096) :
    (s.hFree typ i).hFind a b = s.hFind a b := by
  have hkey := hKey_ne hne hb hi
  simp [State.hFind, State.hFree, Tab.has_drop_ne _ hkey, Tab.get_drop_ne _ _ hkey]

/-! ### What the engines clear -/

@[simp] theorem State.rxPop_kept (s : State) (q i : Nat) : (s.rxPop q i).kept = s.kept := by simp [State.rxPop]

@[simp] theorem State.qpClear_kept (s : State) (q : Nat) : (s.qpClear q).kept = s.kept := by simp [State.qpClear]

@[simp] theorem State.updSched_kept (s : State) (chan : Nat) (f : Sched → Sched) : (s.updSched chan f).kept = s.kept := rfl

@[simp] theorem State.schEnd_kept (s : State) (chan : Nat) : (s.schEnd chan).kept = s.kept := by simp [State.schEnd]

@[simp] theorem State.setZero_kept (s : State) (key : Nat) : (s.setZero key).kept = s.kept := by simp [State.setZero, State.zeroObjs]

@[simp] theorem State.setDrop_kept (s : State) (key : Nat) : (s.setDrop key).kept = s.kept := by
  unfold State.setDrop
  simp only
  split <;> simp

@[simp] theorem State.loadPolicy_kept (s : State) (c : Nat) : (s.loadPolicy c).kept = s.kept := by simp [State.loadPolicy]

@[simp] theorem State.groupDrop_kept (s : State) (g : Nat) : (s.groupDrop g).kept = s.kept := by
  simp [State.groupDrop, State.loadPolicies]

@[simp] theorem State.dropFlow_kept (s : State) (slot : Nat) : (s.dropFlow slot).kept = s.kept := by
  unfold State.dropFlow
  split <;> simp

@[simp] theorem State.winFree_kept (s : State) (w : Nat) : (s.winFree w).kept = s.kept := by simp [State.winFree]

@[simp] theorem State.withTimers_kept (s : State) (l : Tab Comparator) : ({ s with timers := l } : State).kept = s.kept := rfl

@[simp] theorem State.readerDrop_kept (s : State) (i : Nat) :
    (s.onMgmt (fun m => { m with readers := Tab.drop m.readers i })).kept = s.kept := rfl

/-- The engines clear contexts of their own, whatever the type of the handle. -/
theorem State.handleClear_kept (s : State) (typ i : Nat) : (s.handleClear typ i).kept = s.kept := by
  simp [State.handleClear, State.inGroupDrop]

/-! ### The vote that ends with a handle -/

/-- Nothing but the cores' part differs. -/
def State.coreOnly (s t : State) : Prop := t = { s with core := t.core }

theorem State.coreOnly_refl (s : State) : s.coreOnly s := rfl

theorem State.coreOnly_trans {a b c : State} (h : a.coreOnly b) (k : b.coreOnly c) : a.coreOnly c := by
  rw [State.coreOnly, k, h]

theorem State.updBlock_coreOnly (s : State) (b : Nat) (f : Block → Block) : s.coreOnly (s.updBlock b f) := rfl

theorem State.partialBegin_coreOnly (s : State) : s.coreOnly s.partialBegin := by
  refine State.coreOnly_trans (List.foldlRecOn (motive := s.coreOnly) s.partialOff _ s.coreOnly_refl fun t h b _ =>
    State.coreOnly_trans h ?_) rfl
  split <;> rfl

theorem State.voteEnded_coreOnly (s : State) (b : Nat) : s.coreOnly (s.voteEnded b) := by
  have hquiet : s.coreOnly (if (s.block b).st = .deferred ∧ s.votesOf b = 0 then s.blockQuiesce b else s) := by split <;> rfl
  refine State.coreOnly_trans hquiet ?_
  simp only [State.voteEnded]
  generalize (if (s.block b).st = .deferred ∧ s.votesOf b = 0 then s.blockQuiesce b else s) = s1
  split
  · split
    · exact State.partialBegin_coreOnly _
    · exact State.coreOnly_refl _
  · exact State.coreOnly_refl _

theorem State.handleVote_coreOnly (s : State) (typ i : Nat) : s.coreOnly (s.handleVote typ i) := by
  unfold State.handleVote
  split
  · exact s.voteEnded_coreOnly _
  · exact s.coreOnly_refl

theorem State.reclaim_eq (s : State) : s.reclaim = { s with ks := s.reclaim.ks } := by
  refine List.foldlRecOn (motive := fun t : State => t = { s with ks := t.ks }) _ _ rfl fun t h e _ => ?_
  simp only
  split
  · rw [h]
    rfl
  · exact h

/-! ### The end of a handle -/

/-- Supply, always-on domain and handles of a state: what the end of a handle changes in its own entry alone. -/
def State.keptByEnd (s : State) : Supply × Aon × Handles := (s.supply, s.aon, s.mgmt.handles)

theorem State.handleFree_keptByEnd (s : State) (typ i : Nat) : (s.handleFree typ i).keptByEnd = (s.hFree typ i).keptByEnd := by
  have hclear := s.handleClear_kept typ i
  have hfree : ((s.handleClear typ i).hFree typ i).keptByEnd = (s.hFree typ i).keptByEnd := by
    simp only [State.keptByEnd, State.hFree, State.onMgmt_supply, State.onMgmt_aon, State.onMgmt_mgmt, State.supply_of_kept hclear,
      State.aon_of_kept hclear, State.handles_of_kept hclear]
  have hvote : (((s.handleClear typ i).hFree typ i).handleVote typ i).keptByEnd = (s.hFree typ i).keptByEnd := by
    rw [State.handleVote_coreOnly, ← hfree]
    rfl
  simp only [State.handleFree]
  split
  · rw [State.reclaim_eq, ← hvote]
    rfl
  · exact hvote

theorem State.retireEnd_keptByEnd (s : State) (typ i : Nat) (v : U32) (w : Option (Nat × U16)) :
    (s.retireEnd typ i v w).keptByEnd = (s.hFree typ i).keptByEnd := by
  rw [← s.handleFree_keptByEnd]
  cases w with
  | none => rfl
  | some w =>
    have hkept := State.kept_of_recordsOnly ((s.handleFree typ i).complete_mgmtOnly w.1 w.2 .ok v [])
      ((s.handleFree typ i).complete_recordsOnly w.1 w.2 .ok v [])
    simp only [State.keptByEnd, State.retireEnd, State.supply_of_kept hkept, State.aon_of_kept hkept, State.handles_of_kept hkept]

theorem State.retireEnd_frame (s : State) (typ i : Nat) (v : U32) (w : Option (Nat × U16)) (hi : i < 4096) :
    (s.retireEnd typ i v w).hFind typ i = none
    ∧ (∀ a b, (a, b) ≠ (typ, i) → b < 4096 → (s.retireEnd typ i v w).hFind a b = s.hFind a b)
    ∧ (s.retireEnd typ i v w).supply = s.supply ∧ (s.retireEnd typ i v w).aon = s.aon := by
  have h := s.retireEnd_keptByEnd typ i v w
  have hhandles := State.hFind_of_handles (congrArg (fun x => x.2.2) h)
  exact ⟨(hhandles _ _).trans (s.hFind_hFree_same typ i), fun a b hne hb => (hhandles a b).trans (s.hFind_hFree_ne hne hb hi),
    congrArg (fun x => x.1) h, congrArg (fun x => x.2.1) h⟩

theorem State.retiringOf_of_retiring {s : State} {h : U32} {e : Handle} (hfind : s.hFind (hType h) (hIndex h) = some e)
    (hret : e.retiring = true) (hval : mkHandle (hType h) e.owner e.gen (hIndex h) = h) : s.retiringOf h = some e := by
  simp [State.retiringOf, hfind, hret, Handle.value, hval]

theorem does_handleRetireComplete {s : State} {h : U32} {e : Handle} (hret : s.retiringOf h = some e) :
    Does (.handleRetireComplete h) s (s.retireEnd (hType h) (hIndex h) h e.waiter) := by
  simp [Does, exec, execHandleRetireComplete, hret, fin]

theorem does_handleRetireTimeout {s : State} {h : U32} {e : Handle} (unit : Nat) (hret : s.retiringOf h = some e) :
    Does (.handleRetireTimeout h unit) s (s.wedged unit 1) := by
  simp [Does, exec, execHandleRetireTimeout, hret, fin]

/-! ### The destruction of a comparator's handle -/

section Comparators

variable (s : State) (i : Nat) (w : Option (Nat × U16))

/-- A comparator holds a context: it is armed or has fired, or its time or its period is set (R522). -/
def Comparator.holds (c : Comparator) : Bool := c.arm || c.fired || c.missed ≠ 0 || c.cmp ≠ 0 || c.period ≠ 0

/-- The comparator of a handle that retires, disarmed. -/
def State.disarmed : State := s.updTimer i (fun c => { c with arm := false })

theorem State.timer_disarmed_same : (s.disarmed i).timer i = { s.timer i with arm := false } := by
  rw [State.disarmed, State.timer_updTimer, if_pos rfl]

theorem State.timer_disarmed_ne {m : Nat} (h : m ≠ i) : (s.disarmed i).timer m = s.timer m := by
  rw [State.disarmed, State.timer_updTimer, if_neg h]

theorem State.holdsContext_comparator : s.holdsContext 0x0B i = (s.timer i).holds := by
  simp [State.holdsContext, State.handleBusy, Comparator.holds]

theorem State.handleDestroy_comparator_held (h : ((s.disarmed i).timer i).holds = true) :
    s.handleDestroy 0x0B i w = ((s.disarmed i).updHandle 0x0B i (fun e => { e with retiring := true, waiter := w }), true) := by
  rw [← State.holdsContext_comparator] at h
  exact if_pos h

/-- The comparator of a handle that is FREE, as after a reset. -/
def State.comparatorFreed : State := ({ s with timers := Tab.drop s.timers i } : State).hFree 0x0B i

theorem State.handleDestroy_comparator_free (h : ((s.disarmed i).timer i).holds = false) :
    s.handleDestroy 0x0B i w = ((s.disarmed i).comparatorFreed i, false) := by
  rw [← State.holdsContext_comparator] at h
  exact if_neg (Bool.eq_false_iff.mp h)

theorem State.timer_comparatorFreed_same : (s.comparatorFreed i).timer i = {} := Tab.get_drop_same ..

theorem State.timer_comparatorFreed_ne {m : Nat} (h : m ≠ i) : (s.comparatorFreed i).timer m = s.timer m := Tab.get_drop_ne _ _ h

theorem State.gens_comparatorFreed : Tab.get (s.comparatorFreed i).mgmt.handles.gens (hKey 0x0B i) 0
    = (Tab.get s.mgmt.handles.gens (hKey 0x0B i) 0 + 1) % 63 := by
  simp [State.comparatorFreed, State.hFree]

end Comparators

/-! ### The handle commands -/

section Commands

variable {rq : Request} {s : State}

theorem isEmpty_eq_decide_nil : (List.isEmpty : List Byte → Bool) = fun p => decide (p = []) := by
  funext p
  cases p <;> rfl

theorem replies_handleQuery {h : Handle} (htakes : s.takes specHandleQuery rq (fun p => p = []) true)
    (hfind : (s.heard rq).hFind (hType rq.handle) (hIndex rq.handle) = some h) :
    Replies (.handleQuery rq) rq s (s.heard rq) {
      payload := leBytes 1 (if h.retiring then 2 else 1) ++ leBytes 1 (if h.sec then 1 else 0) ++ bindBytes h.bind } := by
  rw [← isEmpty_eq_decide_nil] at htakes
  simp only [Replies, exec, execHandleQuery, serveWith_takes _ htakes, hfind, yesWith]

theorem ownHandleBindIrq_of_find {u : State} {h : Handle} (hfind : u.hFind (hType rq.handle) (hIndex rq.handle) = some h)
    (htyp : hType rq.handle ≠ 2) : ownHandleBindIrq rq u =
      if u.bindOk (bindAt rq.payload 0) h.owner h.sec 0 then
        (u.updHandle (hType rq.handle) (hIndex rq.handle) (fun e => { e with bind := bindAt rq.payload 0 }), {})
      else (u, { st := .badParam }) := by
  simp only [ownHandleBindIrq, hfind, if_neg htyp, ite_not]
  rfl

theorem replies_handleBindIrq {t : State} {a : Ans} (htakes : s.takes specHandleBindIrq rq (fun p => p.length = 4) false)
    (hown : ownHandleBindIrq rq (s.heard rq) = (t, a)) : Replies (.handleBindIrq rq) rq s t a :=
  replies_of_own (by simp only [exec, execHandleBindIrq]) htakes hown

theorem replies_handleDestroy {t : State} {a : Ans} (htakes : s.takes specHandleDestroy rq (fun p => p = []) false)
    (hown : ownHandleDestroy rq (s.heard rq) = (t, a)) : Replies (.handleDestroy rq) rq s t a := by
  rw [← isEmpty_eq_decide_nil] at htakes
  exact replies_of_own (by simp only [exec, execHandleDestroy]) htakes hown

theorem ownHandleDestroy_root {u : State} (htyp : hType rq.handle = 0x07) (hroot : hIndex rq.handle < 8) :
    ownHandleDestroy rq u = (u, { st := .denied }) := if_pos ⟨htyp, hroot⟩

theorem ownHandleDestroy_comparator {u : State} (htyp : hType rq.handle = 0x0B) : ownHandleDestroy rq u =
    ((u.handleDestroy 0x0B (hIndex rq.handle) (some (rq.route.key, rq.seq))).1,
      { st := if (u.handleDestroy 0x0B (hIndex rq.handle) (some (rq.route.key, rq.seq))).2 then .pending else .ok }) := by
  simp [ownHandleDestroy, htyp]

/-! ### Outcomes and results -/

section PendBytes

variable {u : State} {key op seq : Nat}

theorem State.pendBytes_none (h : (u.route key).pend.find? (fun p => p.opcode.toNat = op ∧ p.seq.toNat = seq) = none) :
    u.pendBytes key op seq = [0, 0, 0, 0] := by
  simp only [State.pendBytes, h]

theorem State.pendBytes_some {r : PendRec}
    (h : (u.route key).pend.find? (fun p => p.opcode.toNat = op ∧ p.seq.toNat = seq) = some r) :
    u.pendBytes key op seq = if r.done then [2, r.reason] ++ leBytes 2 r.final.toNat else [1, r.reason, 0, 0] := by
  simp only [State.pendBytes, h]

end PendBytes

theorem replies_pendingQuery (htakes : s.takes specPendingQuery rq (fun p => p.length = 4) false) :
    Replies (.pendingQuery rq) rq s (s.heard rq)
      { payload := (s.heard rq).pendBytes rq.route.key (u16At rq.payload 0) (u16At rq.payload 2) } :=
  replies_of_own (own := fun u => yesWith u (u.pendBytes rq.route.key (u16At rq.payload 0) (u16At rq.payload 2)))
    (by simp only [exec, execPendingQuery]) htakes rfl

theorem replies_resultRead {t : State} {a : Ans} (htakes : s.takes specResultRead rq (fun p => p.length = 8 && u16At p 2 = 0) false)
    (hown : ownResultRead rq (s.heard rq) = (t, a)) : Replies (.resultRead rq) rq s t a :=
  replies_of_own (by simp only [exec, execResultRead]) htakes hown

theorem ownResultRead_none {u : State} (hres : (u.route rq.route.key).result = none) :
    ownResultRead rq u = (u, { st := .badParam }) := by
  simp [ownResultRead, hres, no]

theorem ownResultRead_some {u : State} {id : U16} {b : List Byte} (hres : (u.route rq.route.key).result = some (id, b)) :
    ownResultRead rq u = if id.toNat ≠ u16At rq.payload 0 ∨ b.length ≤ u32At rq.payload 4 then (u, { st := .badParam })
      else (u, { payload := leBytes 4 (u32At rq.payload 4) ++ leBytes 4 b.length
        ++ (b.drop (u32At rq.payload 4)).take rq.route.resultRoom }) := by
  simp only [ownResultRead, hres, no, yesWith]

end Commands

end Sys2Proof.Machine

namespace Sys2Proof.Proofs

open Sys2Proof Sys2Proof.Machine

/-- Settles O39: each command by its own part; the end of a handle leaves the others, since the engines clear contexts of their own. -/
theorem handlesAndOutcomes : Obligations.HandlesAndOutcomes := by
  refine ⟨⟨?query, ?bind, ?destroy, ?retire⟩, ?pending, ?result⟩
  case query =>
    rintro rq s _ h rfl htakes - hfind
    simpa only [bindBytes, List.append_assoc] using replies_handleQuery htakes hfind
  case bind =>
    rintro rq s _ h rfl htakes - hfind htyp
    have hown := ownHandleBindIrq_of_find hfind htyp
    refine ⟨fun hok => ⟨_, replies_handleBindIrq htakes (hown.trans (if_pos hok)), ?_,
      fun a b hne hb => State.hFind_updHandle_ne _ _ hne hb (hIndex_lt _), rfl⟩,
      fun hbad => replies_handleBindIrq htakes (hown.trans (if_neg (by simp [hbad])))⟩
    rw [State.hFind_updHandle_same, State.get_of_hFind hfind]
  case destroy =>
    rintro rq s _ rfl htakes hroute
    have hkey : rq.route.key = 0 := by rw [hroute]; rfl
    refine ⟨fun htyp hroot => replies_handleDestroy htakes (ownHandleDestroy_root htyp hroot), fun htyp hheld => ?held,
      fun htyp hfired hmissed hcmp hperiod => ?free⟩
    case held =>
      have hholds : (((s.heard rq).disarmed (hIndex rq.handle)).timer (hIndex rq.handle)).holds = true := by
        rw [State.timer_disarmed_same]
        simpa [Comparator.holds, or_assoc] using hheld
      have hown := ownHandleDestroy_comparator (u := s.heard rq) htyp
      rw [State.handleDestroy_comparator_held _ _ _ hholds] at hown
      refine ⟨_, _, replies_handleDestroy htakes hown, State.hFind_updHandle_same .., rfl, by rw [hkey], State.timer_disarmed_same ..,
        fun m hm => State.timer_disarmed_ne _ _ hm, rfl, rfl⟩
    case free =>
      have hholds : (((s.heard rq).disarmed (hIndex rq.handle)).timer (hIndex rq.handle)).holds = false := by
        rw [State.timer_disarmed_same]
        simp [Comparator.holds, hfired, hmissed, hcmp, hperiod]
      have hown := ownHandleDestroy_comparator (u := s.heard rq) htyp
      rw [State.handleDestroy_comparator_free _ _ _ hholds] at hown
      exact ⟨_, replies_handleDestroy htakes hown, State.hFind_hFree_same .., State.gens_comparatorFreed ..,
        State.timer_comparatorFreed_same .., fun m hm => (State.timer_comparatorFreed_ne _ _ hm).trans (State.timer_disarmed_ne _ _ hm),
        rfl, rfl, rfl, rfl, rfl, rfl⟩
  case retire =>
    intro s h e hfind hret hval
    have hof := State.retiringOf_of_retiring hfind hret hval
    exact ⟨⟨_, does_handleRetireComplete hof, State.retireEnd_frame _ _ _ _ _ (hIndex_lt h)⟩,
      fun unit => does_handleRetireTimeout unit hof⟩
  case pending =>
    rintro rq s _ key rfl htakes hroute rec?
    have hkey : rq.route.key = key := by rw [hroute]; rfl
    have hrep := replies_pendingQuery htakes
    rw [hkey] at hrep
    refine ⟨fun hnone => ?_, fun r hsome hopen => ?_, fun r hsome hdone => ?_⟩
    · rwa [State.pendBytes_none hnone] at hrep
    · rwa [State.pendBytes_some hsome, hopen, if_neg Bool.false_ne_true] at hrep
    · rwa [State.pendBytes_some hsome, hdone, if_pos rfl] at hrep
  case result =>
    rintro rq s _ key rfl htakes hroute
    have hkey : key = rq.route.key := by rw [hroute]; rfl
    have hroom : rq.route.resultRoom = 2024 := by rw [hroute]; rfl
    subst hkey
    refine ⟨fun id b hres hid hlen => replies_resultRead htakes ?_, fun hres => replies_resultRead htakes (ownResultRead_none hres),
      fun id b hres hbad => replies_resultRead htakes ((ownResultRead_some hres).trans (if_pos hbad))⟩
    rw [ownResultRead_some hres, if_neg (by simp [hid, hlen]), hroom]

end Sys2Proof.Proofs

/-! SUPPORT. The instance commands: what a share list, an assignment of a stall and its withdrawal change, and the own parts of the commands
(Machine/Instances.lean). -/

namespace Sys2Proof.Machine

open Sys2Proof

/-! ### Share lists -/

theorem State.inst_of_mgmt {s t : State} (h : t.mgmt = s.mgmt) (m : Nat) : t.inst m = s.inst m := by rw [State.inst, h, State.inst]

theorem State.reg_of_regs {s t : State} (h : t.core.regs = s.core.regs) (m : Nat) : t.reg m = s.reg m := by rw [State.reg, h, State.reg]

/-- Nothing but instances, regulators, regions of DRAM, guest files and market accounts differs: what a share list reaches. -/
def State.sharesOnly (s t : State) : Prop := t = { s with
  mgmt := { s.mgmt with insts := t.mgmt.insts }
  core := { s.core with regs := t.core.regs, dramRegions := t.core.dramRegions, guestFiles := t.core.guestFiles }
  sw := { s.sw with accts := t.sw.accts } }

section Shares

variable (s : State) (n : Nat) (new l : List Share)

theorem State.shareCheck_of_secure (busy : Bool) (h : new.any (fun e => e.pins.any s.pinSec) = true) :
    s.shareCheck n new l busy = .denied := if_pos h

theorem State.shareCheck_of_busy (h : new.any (fun e => e.pins.any s.pinSec) = false) : s.shareCheck n new l true = .busy := by
  simp [State.shareCheck, h]

theorem State.shareApply_mgmt : (s.shareApply n new l).mgmt = (s.updInst n (fun i => { i with shares := l })).mgmt := by
  unfold State.shareApply
  split <;> simp [State.rebuildDram]

theorem State.shareApply_inst (m : Nat) :
    (s.shareApply n new l).inst m = if m = n then { s.inst n with shares := l } else s.inst m :=
  (State.inst_of_mgmt (s.shareApply_mgmt n new l) m).trans (s.inst_updInst n m _)

/-- The regulator takes the fabric share of the request. -/
theorem State.shareApply_reg {e : Share} (h : new.find? (fun e => e.kind = 6) = some e) :
    (s.shareApply n new l).reg n = (s.reg n).take e := by
  have hregs : (s.shareApply n new l).core.regs = (s.updReg n (fun r => r.take e)).core.regs := by
    simp [State.shareApply, h, State.rebuildDram, State.updReg]
  rw [State.reg_of_regs hregs, State.reg_updReg, if_pos rfl]

theorem State.shareApply_sharesOnly : s.sharesOnly (s.shareApply n new l) := by
  unfold State.shareApply
  split <;> rfl

theorem State.instMake_inst (m : Nat) :
    (s.instMake n new).inst m = if m = n then { st := .live, shares := mergeShares [] new } else s.inst m := by
  have hmade (k : Nat) : ((s.updInst n (fun _ => { st := .live })).updReg n Regulator.fresh).inst k
      = if k = n then { st := .live } else s.inst k :=
    (State.inst_of_mgmt (State.updReg_mgmt ..) k).trans (s.inst_updInst n k _)
  rw [State.instMake, State.shareApply_inst, hmade, hmade, if_pos rfl]
  split <;> rfl

theorem State.instMake_reg {e : Share} (h : new.find? (fun e => e.kind = 6) = some e) :
    (s.instMake n new).reg n = (s.reg n).fresh.take e := by
  rw [State.instMake, State.shareApply_reg _ _ _ _ h, State.reg_updReg, if_pos rfl]
  rfl

theorem State.instMake_sharesOnly : s.sharesOnly (s.instMake n new) :=
  State.shareApply_sharesOnly ((s.updInst n (fun _ => { st := .live })).updReg n Regulator.fresh) n new (mergeShares [] new)

end Shares

/-! ### The life of an instance -/

section Life

variable {s : State} {n : Nat} (too : Bool)

theorem State.lifeSays_live (h : (s.inst n).st = .live) : s.lifeSays n too = none := by simp [State.lifeSays, h]
theorem State.lifeSays_free (h : (s.inst n).st = .free) : s.lifeSays n too = some .badParam := by simp [State.lifeSays, h]
theorem State.lifeSays_destroying (h : (s.inst n).st = .destroying) : s.lifeSays n too = some .busy := by simp [State.lifeSays, h]
theorem State.lifeSays_resetting (h : (s.inst n).st = .resetting) : s.lifeSays n too = if too then none else some .busy := by
  simp [State.lifeSays, h]

theorem State.lifeSays_ending (h : (s.inst n).st = .resetting ∨ (s.inst n).st = .destroying) : s.lifeSays n false = some .busy := by
  rcases h with h | h
  · exact State.lifeSays_resetting _ h
  · exact State.lifeSays_destroying _ h

end Life

/-! ### Stalls -/

theorem State.stall_updRoute (s : State) (k : Nat) (f : RouteRec → RouteRec) (m : Nat) : (s.updRoute k f).stall m = s.stall m := rfl

theorem State.route_updStall (s : State) (k : Nat) (f : Stall → Stall) (m : Nat) : (s.updStall k f).route m = s.route m := rfl

section Stalls

variable (s : State) (k m : Nat)

theorem State.stallReset_stall :
    (s.stallReset k).stall m = if m = k then { st := .idle, owner := (s.stall k).owner, bind := (s.stall k).bind } else s.stall m := by
  rw [State.stallReset, State.stall_updRoute, State.stall_updStall]

theorem State.stallReset_route :
    (s.stallReset k).route m = if m = k then { s.route k with lastSeq := 0, stored := {}, result := none } else s.route m := by
  rw [State.stallReset, State.route_updRoute, State.route_updStall, State.route_updStall]

theorem State.stallClose_stall : (s.stallClose k).stall m = if m = k then { st := .closed } else s.stall m := by
  rw [State.stallClose, State.stall_updStall, State.stallReset_stall, State.stallReset_stall]
  split <;> simp [*]

/-- The stall as STALL_ASSIGN leaves it. -/
def State.stallAssigned (n : Nat) (b : Bind) : State := (s.stallReset k).updStall k (fun t => { t with owner := some n, bind := b })

theorem State.stallAssigned_stall (n : Nat) (b : Bind) :
    (s.stallAssigned k n b).stall m = if m = k then { st := .idle, owner := some n, bind := b } else s.stall m := by
  rw [State.stallAssigned, State.stall_updStall, State.stallReset_stall, State.stallReset_stall]
  split <;> simp [*]

theorem State.stallAssigned_route (n : Nat) (b : Bind) :
    (s.stallAssigned k n b).route m = if m = k then { s.route k with lastSeq := 0, stored := {}, result := none } else s.route m :=
  (State.route_updStall _ _ _ _).trans (s.stallReset_route k m)

end Stalls

/-! ### The own parts of the commands -/

section Commands

variable {rq : Request} {s : State}

theorem ownInstanceCreate_of_ok (h : 1 ≤ u8At rq.payload 0)
    (hok : s.shareCheck (u8At rq.payload 0) (sharesAt rq.payload) (mergeShares [] (sharesAt rq.payload))
      ((s.inst (u8At rq.payload 0)).st ≠ .free) = .ok) :
    ownInstanceCreate rq s = yesWith (s.instMake (u8At rq.payload 0) (sharesAt rq.payload)) (leBytes 1 (u8At rq.payload 0)) := by
  simp only [ownInstanceCreate, if_neg (Nat.ne_of_gt h), hok]

theorem ownInstanceCreate_of_secure (h : 1 ≤ u8At rq.payload 0) (hsec : (sharesAt rq.payload).any (fun e => e.pins.any s.pinSec) = true) :
    ownInstanceCreate rq s = no s .denied := by
  simp only [ownInstanceCreate, if_neg (Nat.ne_of_gt h), State.shareCheck_of_secure _ _ _ _ _ hsec]

theorem ownInstanceCreate_of_used (h : 1 ≤ u8At rq.payload 0) (hsec : (sharesAt rq.payload).any (fun e => e.pins.any s.pinSec) = false)
    (hused : (s.inst (u8At rq.payload 0)).st ≠ .free) : ownInstanceCreate rq s = no s .busy := by
  simp only [ownInstanceCreate, if_neg (Nat.ne_of_gt h), decide_eq_true hused, State.shareCheck_of_busy _ _ _ _ hsec]

theorem ownShareChange_of_life {e : Status} (h : s.lifeSays (u8At rq.payload 0) false = some e) : ownShareChange rq s = no s e := by
  simp only [ownShareChange, h]

theorem ownShareChange_of_live (hlive : (s.inst (u8At rq.payload 0)).st = .live) (h1 : 1 ≤ u8At rq.payload 0)
    (hok : s.shareCheck (u8At rq.payload 0) (sharesAt rq.payload)
      (mergeShares (s.inst (u8At rq.payload 0)).shares (sharesAt rq.payload)) false = .ok) :
    ownShareChange rq s = yes (s.shareApply (u8At rq.payload 0) (sharesAt rq.payload)
      (mergeShares (s.inst (u8At rq.payload 0)).shares (sharesAt rq.payload))) := by
  have h0 : u8At rq.payload 0 ≠ 0 := Nat.ne_of_gt h1
  simp [ownShareChange, State.lifeSays_live _ hlive, h0, hok]

theorem ownInstanceQuery_denied (hgst : rq.route.issuer = .gst) (hother : u8At rq.payload 0 ≠ s.issuerInst rq.route) :
    ownInstanceQuery rq s = no s .denied := if_pos ⟨hgst, hother⟩

theorem ownStallAssign_of_live (hlive : (s.inst (u8At rq.payload 1)).st = .live)
    (hbind : s.bindOk (bindAt rq.payload 2) (u8At rq.payload 1) false 0 = true) : ownStallAssign rq s =
      if (s.stall (u8At rq.payload 0)).owner.isSome then no s .busy
      else yes (s.stallAssigned (u8At rq.payload 0) (u8At rq.payload 1) (bindAt rq.payload 2)) := by
  simp only [ownStallAssign, State.lifeSays_live _ hlive, hbind, not_true_eq_false, if_false]
  rfl

/-- The part of STALL_WITHDRAW that the state decides. -/
def ownStallWithdraw (rq : Request) (s : State) : State × Ans :=
  yes (if (s.stall (u8At rq.payload 0)).owner.isSome then s.stallClose (u8At rq.payload 0) else s)

theorem exec_stallWithdraw (rq : Request) (s : State) : exec (.stallWithdraw rq) s
    = serve specStallWithdraw rq s (fun p => p.length = 1 && 4 ≤ u8At p 0 && u8At p 0 ≤ 63) (ownStallWithdraw rq) := rfl

theorem ownStallWithdraw_of_owned (h : (s.stall (u8At rq.payload 0)).owner ≠ none) :
    ownStallWithdraw rq s = (s.stallClose (u8At rq.payload 0), {}) := by
  rw [ownStallWithdraw, if_pos (Option.isSome_iff_ne_none.mpr h), yes]

/-- The number of the guest file that a request names. -/
def Request.guestFile (rq : Request) : Nat := u8At rq.payload 1 * 16 + u8At rq.payload 2

theorem ownGuestFileBind_of_live (hn : u8At rq.payload 0 ≤ 62) (hlive : (s.inst (u8At rq.payload 0)).st = .live)
    (hshare : (filesOf (s.inst (u8At rq.payload 0)).shares).contains (u8At rq.payload 1, u8At rq.payload 2) = true) :
    ownGuestFileBind rq s =
      if s.core.guestFiles.has rq.guestFile = true ∧ Tab.get s.core.guestFiles rq.guestFile 0 ≠ u8At rq.payload 0 then no s .busy
      else yes (s.onCore (fun c => { c with guestFiles := Tab.put c.guestFiles rq.guestFile (u8At rq.payload 0) })) := by
  have hff : u8At rq.payload 0 ≠ 0xFF := by omega
  simp only [ownGuestFileBind, if_neg hff, State.lifeSays_live _ hlive, hshare, not_true_eq_false, if_false, Request.guestFile]
  by_cases hhas : s.core.guestFiles.has (u8At rq.payload 1 * 16 + u8At rq.payload 2) = true <;> simp [hhas]

theorem ownGuestFileBind_unbind (hn : u8At rq.payload 0 = 0xFF) (hhas : s.core.guestFiles.has rq.guestFile = true)
    (hused : s.fileUsed (Tab.get s.core.guestFiles rq.guestFile 0) (u8At rq.payload 1) (u8At rq.payload 2) = false) :
    ownGuestFileBind rq s = yes (s.onCore (fun c => { c with guestFiles := Tab.drop c.guestFiles rq.guestFile })) := by
  rw [Request.guestFile] at hhas hused
  simp [ownGuestFileBind, hn, hhas, hused, Request.guestFile]

end Commands

end Sys2Proof.Machine

namespace Sys2Proof.Proofs

open Sys2Proof Sys2Proof.Machine

/-- Settles O40: INSTANCE_CREATE and SHARE_CHANGE by the check of their shares, the others by the state of the instance, the owner of the stall
and the instance that the guest file is bound to. -/
theorem instancesStallsAndFiles : Obligations.InstancesStallsAndFiles := by
  refine ⟨⟨?create, ?change, ?query, ?queryOther⟩, ?assign, ?withdraw, ?file⟩
  case create =>
    rintro rq s _ n rfl htakes - rfl h1
    refine ⟨fun hok => ⟨_, replies_of_own rfl htakes (ownInstanceCreate_of_ok h1 hok), ?_, fun m hm => ?_, fun e he => ?_, ?_⟩,
      fun hsec => replies_of_own rfl htakes (ownInstanceCreate_of_secure h1 hsec),
      fun hsec hused => replies_of_own rfl htakes (ownInstanceCreate_of_used h1 hsec hused)⟩
    · rw [State.instMake_inst, if_pos rfl]
    · rw [State.instMake_inst, if_neg hm]
    · rw [State.instMake_reg _ _ _ he]
      rfl
    · exact State.instMake_sharesOnly _ _ _
  case change =>
    rintro rq s _ n rfl htakes - rfl h1
    refine ⟨fun hlive hok => ⟨_, replies_of_own rfl htakes (ownShareChange_of_live hlive h1 hok), ?_, fun m hm => ?_, fun e he => ?_, ?_⟩,
      fun hfree => replies_of_own rfl htakes (ownShareChange_of_life (State.lifeSays_free _ hfree)),
      fun hend => replies_of_own rfl htakes (ownShareChange_of_life (State.lifeSays_ending hend))⟩
    · rw [State.shareApply_inst, if_pos rfl]
    · rw [State.shareApply_inst, if_neg hm]
    · rw [State.shareApply_reg _ _ _ _ he]
      rfl
    · exact State.shareApply_sharesOnly _ _ _ _
  case query =>
    rintro rq s htakes ⟨hroute, hn⟩
    have hgst : ¬ (rq.route.issuer = .gst ∧ u8At rq.payload 0 ≠ (s.heard rq).issuerInst rq.route) := fun h => by
      simp [hroute, Route.issuer] at h
    refine replies_of_own rfl htakes ((if_neg hgst).trans ((if_neg (by omega)).trans ?_))
    cases (((s.heard rq).inst (u8At rq.payload 0)).st) <;> rfl
  case queryOther =>
    rintro rq s _ rfl htakes hgst hother
    exact replies_of_own rfl htakes (ownInstanceQuery_denied hgst hother)
  case assign =>
    rintro rq s _ k n rfl htakes - rfl rfl hlive hbind
    have hown := ownStallAssign_of_live hlive hbind
    refine ⟨fun hnone => ⟨_, replies_of_own rfl htakes (hown.trans (if_neg (by simp [hnone]))), ?_, ?_, ?_, fun m hm => ?_, rfl⟩,
      fun hsome => replies_of_own rfl htakes (hown.trans (if_pos (Option.isSome_iff_ne_none.mpr hsome)))⟩
    · rw [State.stallAssigned_stall, if_pos rfl]
    · rw [State.stallAssigned_route, if_pos rfl]
    · rw [State.stallAssigned_route, if_pos rfl]
    · rw [State.stallAssigned_stall, if_neg hm, State.stallAssigned_route, if_neg hm]
      exact ⟨rfl, rfl⟩
  case withdraw =>
    rintro rq s _ k rfl htakes - rfl hsome
    refine ⟨_, replies_of_own (exec_stallWithdraw rq s) htakes (ownStallWithdraw_of_owned hsome), ?_, fun m hm => ?_, rfl⟩
    · rw [State.stallClose_stall, if_pos rfl]
    · rw [State.stallClose_stall, if_neg hm]
  case file =>
    rintro rq s _ n f rfl htakes - rfl rfl
    refine ⟨fun hn hlive hshare => ?_, fun hn hhas hused => replies_of_own rfl htakes (ownGuestFileBind_unbind hn hhas hused)⟩
    have hown := ownGuestFileBind_of_live hn hlive hshare
    refine ⟨fun hfree => replies_of_own rfl htakes (hown.trans (if_neg ?_)),
      fun hhas hother => replies_of_own rfl htakes (hown.trans (if_pos ⟨hhas, hother⟩))⟩
    rintro ⟨hhas, hother⟩
    rcases hfree with hfree | hsame
    · exact Bool.false_ne_true (hfree.symm.trans hhas)
    · exact hother hsame

end Sys2Proof.Proofs

/-! SUPPORT. The commands of the switch: what a new queue pair, flow entry and gate list and the configuration of a port change, and what the
pause frames and messages of a port leave of the configuration of the ports (Machine/SwitchCmds.lean). -/

namespace Sys2Proof.Machine

open Sys2Proof

/-! ### Queue pairs -/

section QueuePairs

variable (s : State) (rq : Request)

/-- The state after QUEUE_PAIR_CREATE of the manager has been granted pair i of I0. -/
def State.qpGranted (i : Nat) : State :=
  (((s.takeFree 1 64).hCreate 1 i 0 false (bindAt rq.payload 8) (0, 1, 0)).qpForget i).updQp i (fun _ =>
    { depth := BitVec.ofNat 16 (u16At rq.payload 2), maxClass := BitVec.ofNat 3 (u8At rq.payload 1), enabled := true
      mac := Config.macBase + BitVec.ofNat 48 i, cap := BitVec.ofNat 20 (u32At rq.payload 4) })

/-- No frame is charged to a pair that is forgotten. -/
theorem State.qpForget_frames (q : Nat) : ∀ f ∈ (s.qpForget q).sw.frames, f.chargedQp ≠ some q := by
  intro f hf
  obtain ⟨g, -, rfl⟩ := List.mem_map.mp hf
  split
  · simp
  · assumption

variable {s rq} {i : Nat}

theorem ownQueuePairCreate_off (hroute : rq.route = .stall 0) (h26 : u8At rq.payload 0 = 26) (hoff : s.fnOff 0 1 0 = true) :
    ownQueuePairCreate rq s = no s .fnDisabled := by
  have hinst : s.issuerInst rq.route = 0 := by rw [hroute]; rfl
  simp [ownQueuePairCreate, hinst, h26, hoff]

theorem ownQueuePairCreate_full (hroute : rq.route = .stall 0) (h26 : u8At rq.payload 0 = 26) (hon : s.fnOff 0 1 0 = false)
    (hfull : s.firstFree 1 64 = none) : ownQueuePairCreate rq s = no s .noResource := by
  have hinst : s.issuerInst rq.route = 0 := by rw [hroute]; rfl
  simp [ownQueuePairCreate, hinst, h26, hon, hfull]

theorem ownQueuePairCreate_free (hroute : rq.route = .stall 0) (h26 : u8At rq.payload 0 = 26) (hon : s.fnOff 0 1 0 = false)
    (hfree : s.firstFree 1 64 = some i) (hroom : s.roomFor 1 0 0 false 1 0 = true) :
    ownQueuePairCreate rq s = (s.qpGranted rq i,
      { handle := some (mkHandle 1 0 (s.genOf 1 i) i), payload := leBytes 8 (0x11C00000 + i * 0x1000) }) := by
  have hinst : s.issuerInst rq.route = 0 := by rw [hroute]; rfl
  simp [ownQueuePairCreate, hinst, h26, hon, hfree, hroom, State.qpGranted]

end QueuePairs

/-! ### Flow entries -/

section Flows

variable (s : State) (rq : Request)

/-- The first way of the bucket of a request's flow. -/
def Request.flowKey (rq : Request) : Nat :=
  flowBucket (u8At rq.payload 0) (BitVec.ofNat 3 (u8At rq.payload 1)) (u16At rq.payload 2) (beAt rq.payload 4 6) (u8At rq.payload 10) * 4

/-- An entry of the request's match stands in the table already. -/
def State.flowFound : Bool :=
  (s.sw.probe (BitVec.ofNat 3 (u8At rq.payload 1)) (u8At rq.payload 0) (u16At rq.payload 2) (beAt rq.payload 4 6)
    (u8At rq.payload 10)).isSome

/-- The entry of a request without a policer, in slot i. -/
def Request.flow (rq : Request) (i : Nat) : Flow where
  valid := true
  mat := BitVec.ofNat 3 (u8At rq.payload 1)
  ingress := BitVec.ofNat 5 (u8At rq.payload 0)
  eclass := if u8At rq.payload 11 = 0xFF then 15 else BitVec.ofNat 4 (u8At rq.payload 11)
  slot := BitVec.ofNat 12 i
  vlan := BitVec.ofNat 12 (u16At rq.payload 2)
  pcp := BitVec.ofNat 3 (u8At rq.payload 10)
  dmac := BitVec.ofNat 48 (beAt rq.payload 4 6)
  egress := BitVec.ofNat 30 (u32At rq.payload 12)
  stream := BitVec.ofNat 32 (u32At rq.payload 16)
  policer := 0xFFFF

/-- The state after FLOW_CREATE has put an entry without a policer into slot i, in the first way of its bucket. -/
def State.flowGranted (i : Nat) : State :=
  ((s.takeFree 8 4096).hCreate 8 i 0 false {} (0, 0, 0)).onSw (fun w => { w with flows := Tab.put w.flows rq.flowKey (rq.flow i) })

variable {s rq} {i : Nat}

theorem exec_flowCreate : exec (.flowCreate rq) s = serve specFlowCreate rq s s.okFlow (ownFlowCreate rq) := rfl

theorem ownFlowCreate_found (h : s.flowFound rq = true) : ownFlowCreate rq s = no s .busy := if_pos h

theorem ownFlowCreate_full (hnew : s.flowFound rq = false)
    (hfull : [rq.flowKey, rq.flowKey + 1, rq.flowKey + 2, rq.flowKey + 3].all (fun e => (Tab.get s.sw.flows e {}).valid) = true) :
    ownFlowCreate rq s = no s .noResource := by
  have hnone : [rq.flowKey, rq.flowKey + 1, rq.flowKey + 2, rq.flowKey + 3].find? (fun e => !(Tab.get s.sw.flows e {}).valid) = none := by
    simpa using hfull
  rw [Request.flowKey] at hnone
  refine (if_neg (ne_true_of_eq_false hnew)).trans ?_
  simp only [hnone]

theorem ownFlowCreate_free (hnew : s.flowFound rq = false) (hway : (Tab.get s.sw.flows rq.flowKey {}).valid = false)
    (hpol : u32At rq.payload 20 = 0) (hfree : s.firstFree 8 4096 = some i) (hroom : s.handleRoom = true) :
    ownFlowCreate rq s = (s.flowGranted rq i, { handle := some (mkHandle 8 0 (s.genOf 8 i) i) }) := by
  have hfirst : [rq.flowKey, rq.flowKey + 1, rq.flowKey + 2, rq.flowKey + 3].find? (fun e => !(Tab.get s.sw.flows e {}).valid)
      = some rq.flowKey := List.find?_cons_of_pos (by rw [hway]; rfl)
  rw [Request.flowKey] at hfirst
  refine (if_neg (ne_true_of_eq_false hnew)).trans ?_
  simp only [hfirst, hfree, hpol, hroom, if_true, not_true_eq_false, if_false]
  rfl

end Flows

/-! ### Gate lists -/

section Gates

variable (s : State) (rq : Request)

/-- The state after GATE_LIST_SET has loaded the list of a port that held none. -/
def State.gateGranted : State :=
  (s.hCreate 9 (u8At rq.payload 0) 0 false {} (0, 0, 0)).loadGate (u8At rq.payload 0) (gateListAt rq.payload)

theorem State.gateGranted_gate : (s.gateGranted rq).gate (u8At rq.payload 0) = { s.gate (u8At rq.payload 0) with
    pend := some (gateListAt rq.payload), changeTime := BitVec.ofNat 64 ((gateListAt rq.payload).changeAt s.tb.globalT.toNat) } := by
  rw [State.gateGranted, State.loadGate, State.gate_updGate, if_pos rfl]
  rfl

theorem State.gateGranted_gate_ne {q : Nat} (hq : q ≠ u8At rq.payload 0) : (s.gateGranted rq).gate q = s.gate q := by
  rw [State.gateGranted, State.loadGate, State.gate_updGate, if_neg hq]
  rfl

variable {s rq}

theorem ownGateListSet_refused (hnew : rq.handle = 0)
    (h : s.hasGate (u8At rq.payload 0) = true ∨ s.blockIsOff (portBlock (u8At rq.payload 0)) = true) :
    ownGateListSet rq s = no s .noResource :=
  (if_pos hnew).trans (if_pos (h.imp id Or.inr))

theorem ownGateListSet_new (hnew : rq.handle = 0) (hgate : s.hasGate (u8At rq.payload 0) = false) (hroom : s.handleRoom = true)
    (hon : s.blockIsOff (portBlock (u8At rq.payload 0)) = false) :
    ownGateListSet rq s = (s.gateGranted rq,
      { handle := some (mkHandle 9 0 (s.genOf 9 (u8At rq.payload 0)) (u8At rq.payload 0)) }) :=
  (if_pos hnew).trans (if_neg (by simp [hgate, hroom, hon]))

/-- The change time is the first time of the list's cycles that leaves 100 µs (R342). -/
theorem GateList.changeAt_least (g : GateList) (t : Nat) (hcycle : 1 ≤ g.cycle.toNat) :
    t + 100000 ≤ g.changeAt t ∧ (∃ n, g.changeAt t = g.base.toNat + n * g.cycle.toNat)
      ∧ ∀ n, t + 100000 ≤ g.base.toNat + n * g.cycle.toNat → g.changeAt t ≤ g.base.toNat + n * g.cycle.toNat := by
  unfold GateList.changeAt
  simp only
  generalize g.base.toNat = b
  generalize g.cycle.toNat = c at hcycle
  split
  case isTrue hlate => exact ⟨hlate, ⟨0, by omega⟩, fun n _ => by omega⟩
  case isFalse hearly =>
    have hup : t + 100000 - b ≤ (t + 100000 - b + c - 1) / c * c := by
      have := Nat.lt_div_mul_add (a := t + 100000 - b + c - 1) (b := c) hcycle
      omega
    refine ⟨by omega, ⟨_, rfl⟩, fun n hn => Nat.add_le_add_left (Nat.mul_le_mul_right c ?_) b⟩
    exact Nat.le_of_lt_succ (Nat.div_lt_of_lt_mul (by rw [Nat.mul_succ, Nat.mul_comm]; omega))

end Gates

/-! ### What a port sends leaves the configuration of the ports -/

/-- The configuration of a switch port. -/
def SwPort.setting (u : SwPort) : Bool × U16 × U16 := (u.en, u.high, u.low)

/-- The configuration of an Ethernet port. -/
def EthPort.setting (e : EthPort) : Bool × Bool × Bool × Bool × BitVec 14 := (e.pause, e.pfc, e.tc10, e.preempt, e.maxFrame)

/-- Nothing but switch, ports and core differs, and each port keeps its configuration. -/
def State.settingsKept (s t : State) : Prop :=
  (∀ q, (t.swPort q).setting = (s.swPort q).setting) ∧ (∀ q, (t.ethPort q).setting = (s.ethPort q).setting)
    ∧ t = { s with sw := t.sw, eth := t.eth, core := t.core }

theorem State.settingsKept_refl (s : State) : s.settingsKept s := ⟨fun _ => rfl, fun _ => rfl, rfl⟩

theorem State.settingsKept_trans {a b c : State} (h : a.settingsKept b) (k : b.settingsKept c) : a.settingsKept c := by
  obtain ⟨hsw, heth, hrest⟩ := h
  obtain ⟨ksw, keth, krest⟩ := k
  exact ⟨fun q => (ksw q).trans (hsw q), fun q => (keth q).trans (heth q), by rw [krest, hrest]⟩

theorem State.updSwPort_settingsKept (s : State) (p : Nat) {f : SwPort → SwPort} (hf : ∀ u, (f u).setting = u.setting) :
    s.settingsKept (s.updSwPort p f) := by
  refine ⟨fun q => ?_, fun _ => rfl, rfl⟩
  rw [State.swPort_updSwPort]
  split
  · subst q
    exact hf _
  · rfl

theorem State.updEthPort_settingsKept (s : State) (p : Nat) {f : EthPort → EthPort} (hf : ∀ e, (f e).setting = e.setting) :
    s.settingsKept (s.updEthPort p f) := by
  refine ⟨fun _ => rfl, fun q => ?_, rfl⟩
  rw [State.ethPort_updEthPort]
  split
  · subst q
    exact hf _
  · rfl

theorem State.fcNow_settingsKept (s : State) (p : Nat) (f : FcFrame) : s.settingsKept (s.fcNow p f) :=
  State.settingsKept_trans (s.updSwPort_settingsKept p (f := fun u => { u with sent := f.bytes p (s.ethPort p).quanta, sentBad := false })
    fun _ => rfl) (State.updEthPort_settingsKept _ p fun _ => rfl)

theorem State.fcSend_settingsKept (s : State) (p : Nat) (f : FcFrame) : s.settingsKept (s.fcSend p f) := by
  unfold State.fcSend
  split
  · exact s.settingsKept_refl
  · split
    · exact s.fcNow_settingsKept p f
    · exact s.updEthPort_settingsKept p fun _ => rfl

theorem State.flowControl_settingsKept (s : State) (p : Nat) : s.settingsKept (s.flowControl p) := by
  unfold State.flowControl
  extract_lets u fc pfc s1
  have hflags : s.settingsKept s1 := s.updSwPort_settingsKept p fun _ => rfl
  split
  · exact State.settingsKept_trans hflags (s1.fcSend_settingsKept p _)
  · split
    · exact State.settingsKept_trans hflags (s1.fcSend_settingsKept p _)
    · exact hflags

theorem State.ptpNow_settingsKept (s : State) (p : Nat) : s.settingsKept (s.ptpNow p) :=
  State.settingsKept_trans (State.settingsKept_trans
    (s.updSwPort_settingsKept p (f := fun u => { u with sent := ptpBytes p s.core.fresh, sentBad := false }) fun _ => rfl)
    (State.updEthPort_settingsKept _ p (f := fun e => { e with cnt := { e.cnt with
      txFrames := e.cnt.txFrames + 1, txBytes := e.cnt.txBytes + BitVec.ofNat 64 ((ptpBytes p s.core.fresh).length + 4) } }) fun _ => rfl))
    ⟨fun _ => rfl, fun _ => rfl, rfl⟩

theorem State.ptpFlush_settingsKept (s : State) (p : Nat) : s.settingsKept (s.ptpFlush p) := by
  unfold State.ptpFlush
  split
  · exact s.settingsKept_refl
  · exact State.settingsKept_trans (List.foldlRecOn (motive := s.settingsKept) _ _ s.settingsKept_refl
      fun t h _ _ => State.settingsKept_trans h (t.ptpNow_settingsKept p)) (State.updEthPort_settingsKept _ p fun _ => rfl)

/-! ### The configuration of a port -/

/-- A switch port as PORT_CONFIG sets it. -/
def SwPort.asked (p : List Byte) (svcOpen : Bool) (u : SwPort) : SwPort := { u with
  en := u8At p 1 = 1 && !(u8At p 0 = 21 && svcOpen), high := BitVec.ofNat 16 (u16At p 4), low := BitVec.ofNat 16 (u16At p 6) }

/-- An Ethernet port as PORT_CONFIG sets it. -/
def EthPort.asked (p : List Byte) (svcOpen : Bool) (e : EthPort) : EthPort := { e with
  pause := (u8At p 2).testBit 0, pfc := (u8At p 2).testBit 1, preempt := (u8At p 2).testBit 2, frer := (u8At p 2).testBit 3
  tc10 := (u8At p 2).testBit 4 && !(u8At p 0 = 21 && svcOpen), maxFrame := BitVec.ofNat 14 (u16At p 8)
  paused := e.paused && (u8At p 2).testBit 0, pfcPaused := if (u8At p 2).testBit 1 then e.pfcPaused else 0
  verify := if (u8At p 2).testBit 2 then e.verify else 0 }

section PortConfig

variable (s : State) (rq : Request)

/-- The wake source of the port is disarmed where TC10 is not asked for. -/
def State.portArmed : State := if (u8At rq.payload 2).testBit 4 then s else s.wakeDisarm (u8At rq.payload 0)

/-- The port has its configuration, and nothing has been sent yet. -/
def State.portSet : State :=
  ((s.portArmed rq).updSwPort (u8At rq.payload 0) (·.asked rq.payload s.supply.straps.svcOpen)).updEthPort (u8At rq.payload 0)
    (·.asked rq.payload s.supply.straps.svcOpen)

theorem State.wakeCfg_of_sleep {s t : State} (h : t.sleep = s.sleep) (k : Nat) : t.wakeCfg k = s.wakeCfg k := by
  rw [State.wakeCfg, h]
  rfl

theorem State.portArmed_eq : s.portArmed rq = { s with sleep := (s.portArmed rq).sleep } := by
  unfold State.portArmed State.wakeDisarm
  repeat' split
  all_goals rfl

theorem State.portSet_eq : s.portSet rq = { s with
    sleep := (s.portArmed rq).sleep, sw := (s.portSet rq).sw, eth := (s.portSet rq).eth } := by
  simp only [State.portSet, State.updEthPort, State.updSwPort, State.onSw, State.onEth]
  rw [State.portArmed_eq]

theorem State.portSet_swPort (q : Nat) : (s.portSet rq).swPort q
    = if q = u8At rq.payload 0 then (s.swPort q).asked rq.payload s.supply.straps.svcOpen else s.swPort q := by
  have hsame (k : Nat) : (s.portArmed rq).swPort k = s.swPort k := by rw [State.portArmed_eq]; rfl
  refine (State.swPort_updSwPort (s.portArmed rq) (u8At rq.payload 0) q _).trans ?_
  rw [hsame, hsame]
  split
  · subst q
    rfl
  · rfl

theorem State.portSet_ethPort (q : Nat) : (s.portSet rq).ethPort q
    = if q = u8At rq.payload 0 then (s.ethPort q).asked rq.payload s.supply.straps.svcOpen else s.ethPort q := by
  have hsame (k : Nat) : ((s.portArmed rq).updSwPort (u8At rq.payload 0) (·.asked rq.payload s.supply.straps.svcOpen)).ethPort k
      = s.ethPort k := by
    rw [State.portArmed_eq]
    rfl
  rw [State.portSet, State.ethPort_updEthPort, hsame, hsame]
  split
  · subst q
    rfl
  · rfl

/-- Without TC10 the wake source of an external port is not armed. -/
theorem State.portArmed_disarms (h : (u8At rq.payload 2).testBit 4 = false) (hport : u8At rq.payload 0 < 22) :
    ((s.portArmed rq).wakeCfg (24 + u8At rq.payload 0)).arm = false := by
  have h8 : 24 + u8At rq.payload 0 ≠ 8 := by omega
  simp [State.portArmed, h, State.wakeDisarm, Nat.not_le.mpr hport, State.wakeCfg, State.updWake, h8]

variable {s rq}

/-- What keeps the configuration that PORT_CONFIG sets differs from the state before in the wake sources, switch, ports and core alone. -/
theorem State.eq_of_portSet_settingsKept {t : State} (h : (s.portSet rq).settingsKept t) :
    t = { s with sleep := (s.portArmed rq).sleep, sw := t.sw, eth := t.eth, core := t.core } := by
  obtain ⟨-, -, hrest⟩ := h
  exact hrest.trans (by rw [s.portSet_eq])

theorem ownPortConfig_eq : ownPortConfig rq s
    = (((s.portSet rq).flowControl (u8At rq.payload 0)).ptpFlush (u8At rq.payload 0), {}) := rfl

theorem State.portSet_settingsKept :
    (s.portSet rq).settingsKept (((s.portSet rq).flowControl (u8At rq.payload 0)).ptpFlush (u8At rq.payload 0)) :=
  State.settingsKept_trans (State.flowControl_settingsKept _ _) (State.ptpFlush_settingsKept _ _)

end PortConfig

/-! ### Counters -/

/-- The counters of a port without a MACsec unit. -/
theorem State.portStats_of_high (s : State) {p : Nat} (h : 10 ≤ p) : s.portStats p =
    leBytes 8 (s.ethPort p).cnt.rxFrames.toNat ++ leBytes 8 (s.ethPort p).cnt.rxBytes.toNat
      ++ leBytes 8 (s.ethPort p).cnt.txFrames.toNat ++ leBytes 8 (s.ethPort p).cnt.txBytes.toNat
      ++ leBytes 8 (s.ethPort p).cnt.fcsErr.toNat
      ++ leBytes 8 ((s.swPort p).cnt.police + (s.swPort p).cnt.classify + (s.swPort p).cnt.refuse).toNat
      ++ leBytes 8 ((s.swPort p).cnt.residue + (s.swPort p).cnt.pushed + (s.swPort p).cnt.qp + BitVec.ofNat 64 (s.flushes p)).toNat
      ++ leBytes 8 0 := by
  simp [State.portStats, Nat.not_lt.mpr h]

/-- PORT_STATS's own part. -/
def ownPortStats (rq : Request) (s : State) : State × Ans := yesWith s (s.portStats (u8At rq.payload 0))

theorem exec_portStats (rq : Request) (s : State) : exec (.portStats rq) s
    = serve specPortStats rq s (fun p => p.length = 1 && u8At p 0 < 30) (ownPortStats rq) := rfl

/-- MARKET_STATUS's own part. -/
def ownMarketStatus (rq : Request) (s : State) : State × Ans := yesWith s (s.marketStatus (u8At rq.payload 0))

theorem exec_marketStatus (rq : Request) (s : State) : exec (.marketStatus rq) s
    = serve specMarketStatus rq s (fun p => p.length = 1 && u8At p 0 < 64) (ownMarketStatus rq) := rfl

/-- What MARKET_STATUS answers of an account. -/
theorem ownMarketStatus_eq (rq : Request) (s : State) : ownMarketStatus rq s = (s, {
    payload := leBytes 4 (s.acctShare (u8At rq.payload 0)) ++ leBytes 4 (Tab.get s.sw.accts (u8At rq.payload 0) {}).used
      ++ leBytes 4 (Tab.get s.sw.accts (u8At rq.payload 0) {}).refused.toNat
      ++ leBytes 4 (Tab.get s.sw.accts (u8At rq.payload 0) {}).pushout.toNat }) := rfl

end Sys2Proof.Machine

namespace Sys2Proof.Proofs

open Sys2Proof Sys2Proof.Machine

/-- Settles O42: each creation by its own part, PORT_CONFIG by what the port is set to, since what it sends then leaves every configuration. -/
theorem switchCommands : Obligations.SwitchCommands := by
  refine ⟨?queuePair, ?flow, ?gate, fun g t => g.changeAt_least t, ?config, ?stats,
    serves_of_own exec_marketStatus fun rq u _ => ownMarketStatus_eq rq u⟩
  case queuePair =>
    rintro rq s _ i rfl htakes hroute h26
    have hexec : exec (.queuePairCreate rq) s = serve specQueuePairCreate rq s (s.okQueuePair 0) (ownQueuePairCreate rq) := by
      have hinst : s.issuerInst rq.route = 0 := by rw [hroute]; rfl
      rw [← hinst]
      rfl
    refine ⟨fun hon hfree hroom => ⟨_, replies_of_own hexec htakes (ownQueuePairCreate_free hroute h26 hon hfree hroom), ?_,
      fun m hm => ?_, ?_, ?_, rfl⟩, fun hoff => replies_of_own hexec htakes (ownQueuePairCreate_off hroute h26 hoff),
      fun hon hfull => replies_of_own hexec htakes (ownQueuePairCreate_full hroute h26 hon hfull)⟩
    · rw [State.qpGranted, State.qp_updQp, if_pos rfl]
    · rw [State.qpGranted, State.qp_updQp, if_neg hm]
      rfl
    · exact State.hCreate_hLive_isSome _ _ _ _ _ _ _
    · exact State.qpForget_frames _ _
  case flow =>
    rintro rq s _ rfl htakes - p key found
    refine ⟨fun hfound => replies_of_own exec_flowCreate htakes (ownFlowCreate_found hfound),
      fun hnew hfull => replies_of_own exec_flowCreate htakes (ownFlowCreate_full hnew hfull),
      fun i hnew hway hpol hfree hroom => ⟨_, replies_of_own exec_flowCreate htakes (ownFlowCreate_free hnew hway hpol hfree hroom), ?_⟩⟩
    have hsame : Tab.get ((s.heard rq).flowGranted rq i).sw.flows rq.flowKey {} = rq.flow i := Tab.get_put_same _ _ _ _
    refine ⟨congrArg Flow.valid hsame, congrArg Flow.egress hsame, congrArg Flow.dmac hsame, congrArg Flow.policer hsame,
      fun k hk => Tab.get_put_ne _ _ _ hk, State.hCreate_hLive_isSome _ _ _ _ _ _ _, rfl⟩
  case gate =>
    rintro rq s _ p rfl htakes - rfl hnew
    refine ⟨fun hbad => replies_of_own rfl htakes (ownGateListSet_refused hnew hbad), fun hgate hroom hon =>
      ⟨_, replies_of_own rfl htakes (ownGateListSet_new hnew hgate hroom hon), ?_⟩⟩
    have hsame := State.gateGranted_gate (s.heard rq) rq
    refine ⟨by rw [hsame], by rw [hsame], by rw [hsame],
      fun q hq => State.gateGranted_gate_ne _ _ hq, State.hCreate_hLive_isSome _ _ _ _ _ _ _, rfl, rfl⟩
  case config =>
    rintro rq s _ p rfl htakes - rfl
    have hkept := State.portSet_settingsKept (s := s.heard rq) (rq := rq)
    have hrest := State.eq_of_portSet_settingsKept hkept
    obtain ⟨hsw, heth, -⟩ := hkept
    have hswp := hsw (u8At rq.payload 0)
    have hethp := heth (u8At rq.payload 0)
    rw [State.portSet_swPort, if_pos rfl] at hswp
    rw [State.portSet_ethPort, if_pos rfl] at hethp
    simp only [SwPort.setting, SwPort.asked, EthPort.setting, EthPort.asked, Prod.mk.injEq] at hswp hethp
    obtain ⟨hen, hhigh, hlow⟩ := hswp
    obtain ⟨hpause, hpfc, htc10, hpreempt, hmax⟩ := hethp
    refine ⟨_, replies_of_own rfl htakes ownPortConfig_eq, hen, hhigh, hlow, hpause, hpfc, htc10, fun hno hport => ?_, hpreempt, hmax,
      fun q hq => ⟨?_, ?_⟩, ?_, ?_, ?_⟩
    · exact (congrArg WakeCfg.arm (State.wakeCfg_of_sleep (congrArg State.sleep hrest) _)).trans
        (State.portArmed_disarms _ _ hno hport)
    · have hq1 := hsw q
      rw [State.portSet_swPort, if_neg hq] at hq1
      exact congrArg (·.1) hq1
    · have hq2 := heth q
      rw [State.portSet_ethPort, if_neg hq] at hq2
      exact congrArg (·.2.2.2.2) hq2
    all_goals rw [hrest]
  case stats =>
    exact serves_of_own exec_portStats fun rq u hport => congrArg (yesWith u) (u.portStats_of_high hport)

end Sys2Proof.Proofs

/-! SUPPORT. The key store: what a commit, a purge and a reclaim change, the own parts of the key commands, the completion of signatures and
tokens, and the alarm (Machine/Keys.lean). -/

namespace Sys2Proof.Machine

open Sys2Proof

/-! ### The tree -/

theorem KeyStore.node_of_derived (k : KeyStore) {n : Nat} (h : 8 ≤ n) :
    k.node n = if k.nodes.has n then some (Tab.get k.nodes n {}) else none := if_neg (Nat.not_lt.mpr h)

theorem KeyStore.le_of_mem_freeNodes {k : KeyStore} {n : Nat} (h : n ∈ k.freeNodes) : 8 ≤ n := by
  obtain ⟨i, -, rfl⟩ := List.mem_map.mp (List.mem_filter.mp h).1
  exact Nat.le_add_left 8 i

/-- A tree change by one record writes this record and its counter. -/
theorem KeyStore.commit_nodes (k : KeyStore) (n : Nat) (r : Node) : (k.commit [(n, some r)]).nodes = Tab.put k.nodes n r := rfl

theorem KeyStore.commit_node (k : KeyStore) {n : Nat} (h : 8 ≤ n) (r : Node) : (k.commit [(n, some r)]).node n = some r := by
  rw [KeyStore.node_of_derived _ h, KeyStore.commit_nodes, Tab.has_put, Tab.get_put_same]
  simp

/-- Of the key store nothing differs but nodes, journal and the event of a tree that grows. -/
def KeyStore.treeOnly (k l : KeyStore) : Prop := l = { k with
  nodes := l.nodes, slotA := l.slotA, slotB := l.slotB, homeCounter := l.homeCounter, ksEvent := l.ksEvent }

theorem KeyStore.treeOnly_trans {a b c : KeyStore} (h : a.treeOnly b) (k : b.treeOnly c) : a.treeOnly c := by
  unfold KeyStore.treeOnly at *
  rw [k, h]

theorem KeyStore.commit_treeOnly (k : KeyStore) (cs : List (Nat × Option Node)) : k.treeOnly (k.commit cs) := by
  unfold KeyStore.treeOnly KeyStore.commit
  simp only
  split <;> rfl

/-- Each node of the second tree stands so in the first: nodes only leave. -/
def KeyStore.nodesLeave (k l : KeyStore) : Prop := ∀ m r, l.node m = some r → k.node m = some r

/-- Dropped numbers leave a table, and every other unit stays. -/
theorem applyChanges_none (t : Tab Node) (l : List Nat) (m : Nat) (h : (applyChanges t (l.map (fun n => (n, none)))).has m = true) :
    t.has m = true ∧ Tab.get (applyChanges t (l.map (fun n => (n, none)))) m {} = Tab.get t m {} := by
  induction l generalizing t with
  | nil => exact ⟨h, rfl⟩
  | cons n l ih =>
    obtain ⟨hhas, hget⟩ := ih (Tab.drop t n) h
    have hm : m ≠ n := by
      rintro rfl
      rw [Tab.has_drop_same] at hhas
      exact Bool.false_ne_true hhas
    rw [Tab.has_drop_ne t hm] at hhas
    exact ⟨hhas, hget.trans (Tab.get_drop_ne t {} hm)⟩

theorem KeyStore.commit_none_nodesLeave (k : KeyStore) (l : List Nat) : k.nodesLeave (k.commit (l.map (fun n => (n, none)))) := by
  intro m r hnode
  have htree := k.commit_treeOnly (l.map (fun n => (n, none)))
  by_cases hm : m < 8
  · rw [KeyStore.node, if_pos hm, htree] at hnode
    rw [KeyStore.node, if_pos hm]
    exact hnode
  · rw [KeyStore.node_of_derived _ (Nat.le_of_not_lt hm)] at hnode ⊢
    have hnodes : (k.commit (l.map (fun n => (n, none)))).nodes = applyChanges k.nodes (l.map (fun n => (n, none))) := rfl
    rw [hnodes] at hnode
    split at hnode
    case isTrue hhas =>
      obtain ⟨hk, hget⟩ := applyChanges_none _ _ _ hhas
      rw [if_pos hk, ← hget]
      exact hnode
    case isFalse => exact absurd hnode (by simp)

/-- Reclaiming only takes nodes out of the tree. -/
theorem State.reclaim_ks (s : State) : s.ks.treeOnly s.reclaim.ks ∧ s.ks.nodesLeave s.reclaim.ks := by
  refine List.foldlRecOn (motive := fun t : State => s.ks.treeOnly t.ks ∧ s.ks.nodesLeave t.ks) _ _ ⟨rfl, fun _ _ h => h⟩
    fun t ⟨htree, hleave⟩ e _ => ?_
  simp only
  split
  · exact ⟨KeyStore.treeOnly_trans htree (t.ks.commit_treeOnly _), fun m r h => hleave m r (t.ks.commit_none_nodesLeave _ m r h)⟩
  · exact ⟨htree, hleave⟩

/-- A node that is invalid wherever it stands is not current. -/
theorem KeyStore.not_current_of_invalid (k : KeyStore) {n : Nat} (fuel : Nat) (hn : 8 ≤ n)
    (h : ∀ r, k.node n = some r → r.invalid = true) : k.current fuel n = false := by
  cases fuel with
  | zero => rfl
  | succ fuel =>
    rw [KeyStore.current]
    split
    · rfl
    · next r hr => rw [if_neg (Nat.not_lt.mpr hn), if_pos (h r hr)]

/-! ### Purges -/

/-- Nothing but key store, crypto engine, switch and ports differs. -/
def State.keysOnly (s t : State) : Prop := t = { s with ks := t.ks, ce := t.ce, sw := t.sw, eth := t.eth }

theorem State.keysOnly_trans {a b c : State} (h : a.keysOnly b) (k : b.keysOnly c) : a.keysOnly c := by
  unfold State.keysOnly at *
  rw [k, h]

theorem State.keysOnly_after {a b c : State} (k : b.keysOnly c) (h : a.keysOnly b) : a.keysOnly c := State.keysOnly_trans h k

/-- Nothing but the switch and its ports differs. -/
def State.portsOnly (s t : State) : Prop := t = { s with sw := t.sw, eth := t.eth }

theorem State.keysOnly_of_portsOnly {s t : State} (h : s.portsOnly t) : s.keysOnly t := by
  unfold State.keysOnly
  rw [h]

theorem State.purgeMacsec_portsOnly (s : State) (hit : Nat → Bool) : s.portsOnly (s.purgeMacsec hit) := by
  refine List.foldlRecOn (motive := s.portsOnly) _ _ rfl fun t h p _ => ?_
  simp only
  split
  · rw [State.portsOnly, h]
    rfl
  · exact h

theorem State.purgeMacsec_ks (s : State) (hit : Nat → Bool) : (s.purgeMacsec hit).ks = s.ks := by rw [s.purgeMacsec_portsOnly hit]

theorem KeyStore.under_self (k : KeyStore) (n fuel : Nat) : k.under n (fuel + 1) n = true := by
  rw [KeyStore.under, if_pos rfl]

/-- What a purge of a node leaves of the key store. -/
theorem State.purge_ks (s : State) (n : Nat) : (s.purge n).ks = { s.ks with
    engine := s.ks.engine.filter (fun m => !s.ks.under n pathFuel m), purges := satInc s.ks.purges, ceEvent := s.ks.ceEvent ||| 1 } :=
  State.purgeMacsec_ks _ _

theorem State.purge_keysOnly (s : State) (n : Nat) : s.keysOnly (s.purge n) :=
  State.keysOnly_after (State.keysOnly_of_portsOnly (State.purgeMacsec_portsOnly _ _)) rfl

theorem State.reclaim_keysOnly (s : State) : s.keysOnly s.reclaim := by
  rw [State.keysOnly, State.reclaim_eq]

/-! ### KEY_DERIVE and KEY_INVALIDATE -/

section Commands

variable {s : State} {rq : Request}

theorem State.ksReady_of_ready (h : s.ks.st = .ready) : s.ksReady = true := by simp [State.ksReady, h]

theorem State.not_ksReady (h : s.ks.st ≠ .ready) : ¬ s.ksReady = true := by simpa [State.ksReady] using h

/-- The state after KEY_DERIVE of the manager has made node n below a node. -/
def State.nodeMade (s : State) (rq : Request) (n : Nat) : State :=
  (((s.onCore (fun c => { c with fresh := c.fresh + 1 })).onKs (fun k =>
    k.commit [(n, some (s.ks.newNode (hIndex rq.handle) rq.payload none))]))).hCreate 7 n 0 false {} (0, 1, 0)

/-- The tree after KEY_DERIVE: the new record, and the counter that its creation took. -/
theorem State.nodeMade_tree (s : State) (rq : Request) (n : Nat) :
    (s.nodeMade rq n).ks.nodes = Tab.put s.ks.nodes n (s.ks.newNode (hIndex rq.handle) rq.payload none)
      ∧ (s.nodeMade rq n).ks.homeCounter = s.ks.counter + 1 := ⟨rfl, rfl⟩

/-- The number that KEY_DERIVE takes: a free value. -/
def State.newNodeNumber (s : State) : Nat := s.ks.freeNodes.getD (Config.freeNat 7 s.core.fresh % s.ks.freeNodes.length) 8

theorem State.newNodeNumber_mem (h : s.ks.freeNodes ≠ []) : s.newNodeNumber ∈ s.ks.freeNodes := by
  have hlt : Config.freeNat 7 s.core.fresh % s.ks.freeNodes.length < s.ks.freeNodes.length :=
    Nat.mod_lt _ (List.length_pos_iff.mpr h)
  rw [State.newNodeNumber, List.getD_eq_getElem _ _ hlt]
  exact List.getElem_mem hlt

theorem ownKeyDerive_new {par : Node} (hroute : rq.route = .stall 0) (hready : s.ks.st = .ready) (hparent : s.parentCheck rq = .ok)
    (hcur : s.ks.current pathFuel (hIndex rq.handle) = true) (hpar : s.ks.node (hIndex rq.handle) = some par) (husage : par.usage ≠ 0)
    (hdepth : par.depth < 8)
    (hnew : s.ks.matching (hIndex rq.handle) (u8At rq.payload 0) (u8At rq.payload 1) (rq.payload.drop 4) = none)
    (hfree : s.ks.freeNodes ≠ []) (hroom : s.roomFor 7 0 0 false 1 0 = true) :
    ownKeyDerive rq s = (s.nodeMade rq s.newNodeNumber,
      { handle := some (mkHandle 7 0 (s.genOf 7 s.newNodeNumber) s.newNodeNumber), payload := leBytes 1 (par.depth + 1) }) := by
  have hinst : s.issuerInst (.stall 0) = 0 := rfl
  have hsec : rq.isSec = false := by simp [Request.isSec, hroute]
  have hnode := s.ks.commit_node (KeyStore.le_of_mem_freeNodes (State.newNodeNumber_mem hfree))
    (s.ks.newNode (hIndex rq.handle) rq.payload none)
  have hshow : ((s.onCore (fun c => { c with fresh := c.fresh + 1 })).onKs (fun k =>
      k.commit [(s.newNodeNumber, some (s.ks.newNode (hIndex rq.handle) rq.payload none))])).nodeHandle s.newNodeNumber 0 false
      = (s.nodeMade rq s.newNodeNumber,
        { handle := some (mkHandle 7 0 (s.genOf 7 s.newNodeNumber) s.newNodeNumber), payload := leBytes 1 (par.depth + 1) }) := by
    have hdep : (s.ks.newNode (hIndex rq.handle) rq.payload none).depth = par.depth + 1 := by simp [KeyStore.newNode, hpar]
    simp only [State.nodeHandle, State.onKs, State.onCore, hnode, Option.getD_some, hdep]
    rfl
  rw [← hshow]
  simp only [ownKeyDerive, State.ksReady_of_ready hready, hparent, hcur, hpar, husage, hnew, hfree, hroom, hroute, hinst, hsec,
    Nat.not_le.mpr hdepth, Option.getD_some, State.newNodeNumber, not_true_eq_false, if_false, false_and, false_or]

/-- The state after KEY_INVALIDATE has stopped a current node. -/
def State.invalidated (s : State) (n : Nat) (r : Node) : State :=
  ((s.onKs (fun k => k.commit [(n, some { r with invalid := true, gen := r.gen + 1 })])).purge n).reclaim

theorem ownKeyInvalidate_root (hready : s.ks.st = .ready) (h : hIndex rq.handle < 8) : ownKeyInvalidate rq s = no s .badParam := by
  simp [ownKeyInvalidate, State.ksReady_of_ready hready, h]

theorem ownKeyInvalidate_current {r : Node} (hready : s.ks.st = .ready) (h : 8 ≤ hIndex rq.handle)
    (hcur : s.ks.current pathFuel (hIndex rq.handle) = true) (hr : s.ks.node (hIndex rq.handle) = some r) :
    ownKeyInvalidate rq s = yes (s.invalidated (hIndex rq.handle) r) := by
  simp [ownKeyInvalidate, State.ksReady_of_ready hready, Nat.not_lt.mpr h, hcur, hr, State.invalidated]

section Invalidated

variable {n : Nat} {r : Node}

theorem State.invalidated_not_current (hn : 8 ≤ n) (fuel : Nat) : (s.invalidated n r).ks.current fuel n = false := by
  refine KeyStore.not_current_of_invalid _ fuel hn fun q hq => ?_
  have hpurged := (State.reclaim_ks _).2 n q hq
  rw [State.purge_ks] at hpurged
  have hnode := s.ks.commit_node hn { r with invalid := true, gen := r.gen + 1 }
  rw [KeyStore.node_of_derived _ hn] at hnode hpurged
  rw [← Option.some.inj (hnode.symm.trans hpurged)]

/-- Engine, purges and event after an invalidation. -/
theorem State.invalidated_ks : n ∉ (s.invalidated n r).ks.engine ∧ (s.invalidated n r).ks.purges = satInc s.ks.purges
    ∧ (s.invalidated n r).ks.ceEvent = s.ks.ceEvent ||| 1 := by
  have htree := (State.reclaim_ks ((s.onKs (fun k => k.commit [(n, some { r with invalid := true, gen := r.gen + 1 })])).purge n)).1
  have hcommit := s.ks.commit_treeOnly [(n, some { r with invalid := true, gen := r.gen + 1 })]
  have hself := (s.ks.commit [(n, some { r with invalid := true, gen := r.gen + 1 })]).under_self n 9
  rw [State.purge_ks] at htree
  unfold State.invalidated
  rw [htree]
  refine ⟨fun hmem => ?_, congrArg (fun k => satInc k.purges) hcommit, congrArg (fun k => k.ceEvent ||| 1) hcommit⟩
  have := (List.mem_filter.mp hmem).2
  rw [State.onKs, pathFuel, hself] at this
  exact Bool.false_ne_true this

theorem State.invalidated_keysOnly : s.keysOnly (s.invalidated n r) :=
  State.keysOnly_after (State.reclaim_keysOnly _) (State.keysOnly_after (State.purge_keysOnly _ _) rfl)

end Invalidated

/-! ### Signatures and tokens -/

theorem ownKeySign_usage {r : Node} (hready : s.ks.st = .ready) (hr : s.ks.node (hIndex rq.handle) = some r) (h : r.usage ≠ 4) :
    ownKeySign rq s = no s .badParam := by
  simp [ownKeySign, State.ksReady_of_ready hready, hr, h]

theorem ownKeySign_revoked {r : Node} (hready : s.ks.st = .ready) (hr : s.ks.node (hIndex rq.handle) = some r) (h : r.usage = 4)
    (hcur : s.ks.current pathFuel (hIndex rq.handle) = false) : ownKeySign rq s = no s .keyRevoked := by
  simp [ownKeySign, State.ksReady_of_ready hready, hr, h, hcur]

/-- The state after a signature that is made at once. -/
def State.signedNow (s : State) (rq : Request) : State :=
  (s.setResult rq.route.key (s.ks.sign (some (hIndex rq.handle)) 0 (rq.payload.drop 4))).onKs (fun k => { k with signed := k.signed + 1 })

theorem ownKeySign_now {r : Node} (hready : s.ks.st = .ready) (hr : s.ks.node (hIndex rq.handle) = some r) (h : r.usage = 4)
    (hcur : s.ks.current pathFuel (hIndex rq.handle) = true) (halg : u8At rq.payload 0 = 0) :
    ownKeySign rq s = yesWith (s.signedNow rq) ((s.signedNow rq).resultInfo rq.route.key) := by
  simp [ownKeySign, State.ksReady_of_ready hready, hr, h, hcur, halg, State.signedNow]

theorem ownKeySign_later {r : Node} (hready : s.ks.st = .ready) (hr : s.ks.node (hIndex rq.handle) = some r) (h : r.usage = 4)
    (hcur : s.ks.current pathFuel (hIndex rq.handle) = true) (halg : u8At rq.payload 0 ≠ 0) :
    ownKeySign rq s = (s.onKs (fun k => { k with signing := k.signing ++ [{
      route := rq.route.key, seq := rq.seq, node := some (hIndex rq.handle), alg := u8At rq.payload 0, data := rq.payload.drop 4 }] }),
      { st := .pending }) := by
  simp [ownKeySign, State.ksReady_of_ready hready, hr, h, hcur, halg]

/-- The number of the next result of a route. -/
def RouteRec.nextId (r : RouteRec) : U16 := if r.resultId + 1 = 0 then 1 else r.resultId + 1

theorem RouteRec.nextId_ne_zero (r : RouteRec) : r.nextId ≠ 0 := by
  unfold RouteRec.nextId
  split
  · decide
  · assumption

theorem State.setResult_result (s : State) (key : Nat) (b : List Byte) :
    ((s.setResult key b).route key).result = some ((s.route key).nextId, b) := by
  rw [State.setResult, State.route_updRoute, if_pos rfl]
  rfl

theorem State.resultInfo_of_result {key : Nat} {id : U16} {b : List Byte} (h : (s.route key).result = some (id, b)) :
    s.resultInfo key = leBytes 2 id.toNat ++ [0, 0] ++ leBytes 4 b.length := by
  simp only [State.resultInfo, h]
  rfl

theorem fixLen_length (n : Nat) (b : List Byte) : (fixLen n b).length = n := by
  simp [fixLen]

/-- An ECDSA signature alone has 96 bytes. -/
theorem KeyStore.sign_length (k : KeyStore) (n : Option Nat) (digest : List Byte) : (k.sign n 0 digest).length = 96 := by
  simp [KeyStore.sign, ecdsaSign, fixLen_length]

/-! ### What a completion leaves of a route -/

theorem State.route_of_irqOnly {s t : State} (h : s.irqOnly t) (k : Nat) : t.route k = s.route k :=
  State.route_of_mgmt (State.irqOnly_mgmt h) k

theorem State.stallIrq_irqOnly (s : State) (n : Nat) : s.irqOnly (s.stallIrq n) := by
  unfold State.stallIrq
  split
  · exact s.pulse_irqOnly _
  · split
    · exact s.pulse_irqOnly _
    · split
      · exact State.irqOnly_refl s
      · exact s.msi_irqOnly _ _ _

theorem State.updRoute_result (s : State) (n : Nat) {f : RouteRec → RouteRec} (hf : ∀ r, (f r).result = r.result) (k : Nat) :
    ((s.updRoute n f).route k).result = (s.route k).result := by
  rw [State.route_updRoute]
  split
  · subst k
    exact hf _
  · rfl

theorem State.svcSend_result (s : State) (n : Nat) (r : Response) (k : Nat) : ((s.svcSend n r).route k).result = (s.route k).result := by
  unfold State.svcSend
  split
  · exact s.updRoute_result (64 + n) (f := fun t => { t with
      sent := r, sentIn := (Tab.get s.mgmt.amind.sessions n {}).seal (Tab.get s.ks.sessKeys n {}).m2t r }) (fun _ => rfl) k
  · rfl

/-- A notice leaves the results of the routes. -/
theorem State.notice_result (s : State) (key : Nat) (r : Response) (k : Nat) :
    ((s.notice key r).route k).result = (s.route k).result := by
  unfold State.notice
  split
  · unfold State.stallNotice State.writeNotice
    split
    · rfl
    · rw [State.route_of_irqOnly (State.stallIrq_irqOnly _ _)]
      rfl
    · split <;> rfl
  · split
    · exact s.svcSend_result _ _ _
    · rfl

theorem State.closePend_result (s : State) (key : Nat) (p : PendRec) (st : Status) (k : Nat) :
    ((s.closePend key p st).route k).result = (s.route k).result := by
  unfold State.closePend
  exact s.updRoute_result key (fun _ => by rfl) k

theorem State.complete_result (s : State) (key : Nat) (seq : U16) (st : Status) (handle : U32) (payload : List Byte) (k : Nat) :
    ((s.complete key seq st handle payload).route k).result = (s.route k).result := by
  unfold State.complete
  split
  · rfl
  · rw [State.notice_result, State.closePend_result]

/-- What the making of a signature or token leaves. -/
theorem State.signDone_frame (s : State) (g : Signing) (b : List Byte) :
    (s.signDone g b).ks = { s.ks with signing := s.ks.signing.erase g, signed := s.ks.signed + 1 }
      ∧ ((s.signDone g b).route g.route).result = some ((s.route g.route).nextId, b)
      ∧ (s.signDone g b).supply = s.supply ∧ (s.signDone g b).aon = s.aon := by
  unfold State.signDone
  extract_lets s1
  have hmgmt := s1.complete_mgmtOnly g.route g.seq .ok 0 (s1.resultInfo g.route)
  refine ⟨State.mgmtOnly_ks hmgmt, ?_, (State.mgmtOnly_supply hmgmt).trans rfl, (State.mgmtOnly_aon hmgmt).trans rfl⟩
  rw [State.complete_result]
  exact s.setResult_result _ _

/-- The state after a signature whose node is no longer current. -/
def State.signRevoked (s : State) (g : Signing) : State :=
  (s.onKs (fun k => { k with signing := k.signing.erase g })).complete g.route g.seq .keyRevoked 0 []

theorem does_keySignComplete {g : Signing} {n : Nat} (hfind : s.ks.signing.find? (fun g => g.node.isSome) = some g)
    (hnode : g.node = some n) (hready : s.ks.st = .ready) : Does .keySignComplete s
      (if s.ks.current pathFuel n then s.signDone g (s.ks.sign g.node g.alg g.data) else s.signRevoked g) := by
  rw [Does]
  refine (show exec .keySignComplete s = execKeySignComplete s from rfl).trans ?_
  simp only [execKeySignComplete, hfind, State.ksReady_of_ready hready, hnode, Option.getD_some, not_true_eq_false, if_false]
  split <;> rfl

theorem does_attestComplete {g : Signing} (hfind : s.ks.signing.find? (fun g => g.node.isNone) = some g) (hready : s.ks.st = .ready) :
    Does .attestComplete s (s.signDone g (s.ks.token (s.claims g))) := by
  rw [Does]
  refine (show exec .attestComplete s = execAttestComplete s from rfl).trans ?_
  simp only [execAttestComplete, hfind, State.ksReady_of_ready hready, not_true_eq_false, if_false, fin]

/-! ### MACsec associations -/

/-- The transmit association that MACSEC_SA_SET installs. -/
def State.txSa (s : State) (rq : Request) : MsSa where
  node := hIndex rq.handle
  pn := BitVec.ofNat 64 (u64At rq.payload 12)
  reg := u8At rq.payload 0 * 20 + u8At rq.payload 2
  ssci := BitVec.ofNat 32 (u32At rq.payload 20)
  key := s.ks.keyBytes (hIndex rq.handle) 0 44

/-- A MACsec unit with that association. -/
def Macsec.withTx (m : Macsec) (p : List Byte) (a : MsSa) : Macsec := { m with
  txAn := BitVec.ofNat 2 (u8At p 2), txValid := true, txPn := BitVec.ofNat 64 (u64At p 12), txSci := BitVec.ofNat 64 (u64At p 4)
  tx := Tab.put m.tx (u8At p 2) a }

/-- The state after MACSEC_SA_SET has installed a transmit association. -/
def State.txInstalled (s : State) (rq : Request) : State :=
  let t := s.updMacsec (u8At rq.payload 0) (·.withTx rq.payload (s.txSa rq))
  if pnThreshold (s.macsec (u8At rq.payload 0)).xpn ≤ u64At rq.payload 12 then t.ethEvent (u8At rq.payload 0) 2 else t

theorem State.ethEvent_events (s : State) (p k : Nat) : Tab.get (s.ethEvent p k).eth.events p {}
    = { Tab.get s.eth.events p {} with ev := (Tab.get s.eth.events p {}).ev ||| bitOf 5 k } := by
  rw [State.ethEvent, State.onEth, Tab.get_upd_same]

theorem u64At_lt (p : List Byte) (i : Nat) : u64At p i < 2 ^ 64 :=
  (leNat_lt _).trans_le (Nat.pow_le_pow_right (by decide) (List.length_take_le _ _))

theorem ownMacsecSa_tx {r : Node} (hready : s.ks.st = .ready) (hr : s.ks.node (hIndex rq.handle) = some r) (h : r.usage = 3)
    (hcur : s.ks.current pathFuel (hIndex rq.handle) = true) (hdir : u8At rq.payload 1 = 0) :
    ownMacsecSa rq s = yes (s.txInstalled rq) := by
  have hpn : (BitVec.ofNat 64 (u64At rq.payload 12)).toNat = u64At rq.payload 12 := by
    rw [BitVec.toNat_ofNat, Nat.mod_eq_of_lt (u64At_lt _ _)]
  simp only [ownMacsecSa, State.ksReady_of_ready hready, hr, h, hcur, hdir, hpn, Option.getD_some, not_true_eq_false, ne_eq, if_false,
    if_true]
  rfl

theorem State.txInstalled_macsec (q : Nat) : (s.txInstalled rq).macsec q
    = if q = u8At rq.payload 0 then (s.macsec q).withTx rq.payload (s.txSa rq) else s.macsec q := by
  have hupd := State.macsec_updMacsec s (u8At rq.payload 0) q (·.withTx rq.payload (s.txSa rq))
  have heq : (s.txInstalled rq).macsec q = (s.updMacsec (u8At rq.payload 0) (·.withTx rq.payload (s.txSa rq))).macsec q := by
    unfold State.txInstalled
    simp only
    split <;> rfl
  rw [heq, hupd]
  split
  · subst q
    rfl
  · rfl

theorem State.txInstalled_event (h : pnThreshold (s.macsec (u8At rq.payload 0)).xpn ≤ u64At rq.payload 12) :
    (Tab.get (s.txInstalled rq).eth.events (u8At rq.payload 0) {}).ev = (Tab.get s.eth.events (u8At rq.payload 0) {}).ev ||| 4 := by
  rw [State.txInstalled, if_pos h]
  exact congrArg EthEvent.ev (State.ethEvent_events _ _ _)

theorem State.txInstalled_eq : s.txInstalled rq = { s with eth := (s.txInstalled rq).eth } := by
  unfold State.txInstalled
  simp only
  split <;> rfl

/-! ### While the key store is not ready -/

theorem ownKeyDerive_busy (h : s.ks.st ≠ .ready) : ownKeyDerive rq s = no s .busy := if_pos (State.not_ksReady h)
theorem ownKeyInvalidate_busy (h : s.ks.st ≠ .ready) : ownKeyInvalidate rq s = no s .busy := if_pos (State.not_ksReady h)
theorem ownKeySign_busy (h : s.ks.st ≠ .ready) : ownKeySign rq s = no s .busy := if_pos (State.not_ksReady h)
theorem ownAttest_busy (h : s.ks.st ≠ .ready) : ownAttest rq s = no s .busy := if_pos (State.not_ksReady h)
theorem ownMacsecSa_busy (h : s.ks.st ≠ .ready) : ownMacsecSa rq s = no s .busy := if_pos (State.not_ksReady h)

theorem ownAttest_ready (h : s.ks.st = .ready) : ownAttest rq s = (s.onKs (fun k => { k with signing := k.signing ++ [{
    route := rq.route.key, seq := rq.seq, data := rq.payload.drop 4, issuer := (rq.route.issuer.code, s.issuerInst rq.route) }] }),
    { st := .pending }) := if_neg (not_not_intro (State.ksReady_of_ready h))

/-! ### The alarm -/

/-- The key store and the engine's jobs as an alarm leaves them. -/
def State.zeroed (s : State) (code : BitVec 3) : State :=
  (s.onKs (fun k => { k with
    st := .alarmed, alarm := code, engine := [], roots := false, layers := [], signing := [], sessKeys := []
    ksEvent := k.ksEvent ||| 1 })).onCe (fun c => { c with jobs := [] })

/-- The state after an alarm, before Amind learns of it. -/
def State.alarmed (s : State) (code : BitVec 3) : State := ((s.zeroed code).purgeMacsec (fun _ => true)).discardDramKey

theorem State.alarmed_eq (code : BitVec 3) : ∃ t, (s.zeroed code).portsOnly t ∧ s.alarmed code = t.discardDramKey :=
  ⟨_, State.purgeMacsec_portsOnly _ _, rfl⟩

/-- The state after Amind has recorded an alarm and pulsed RST_REQ_N. -/
def State.alarmReported (s : State) (code : BitVec 3) : State :=
  ((s.alarmed code).log .keyAlarm [BitVec.ofNat 8 code.toNat]).amindPulse .key 5 0xFF

theorem does_keyStoreAlarm {code : BitVec 3} (hmin : 1 ≤ code.toNat) (hmax : code.toNat ≤ 5) (hst : s.ks.st ≠ .alarmed)
    (hpower : s.keysPowered = true) :
    Does (.keyStoreAlarm code) s (if s.amindUp then s.alarmReported code else s.alarmed code) := by
  have hcode : code ≠ 0 := by
    rintro rfl
    exact absurd hmin (by decide)
  rw [Does]
  refine (show exec (.keyStoreAlarm code) s = execKeyStoreAlarm code s from rfl).trans ?_
  simp only [execKeyStoreAlarm, hcode, Nat.not_lt.mpr hmax, hst, hpower, not_true_eq_false, or_self, if_false]
  rfl

/-- Amind's pulse for any cause but a command shows this cause at the next pin reset, unless a pulse goes on. -/
theorem State.amindPulse_of_ne_cmd (s : State) {c : ReqCause} (hc : c ≠ .cmd) (code issuer : Nat) :
    ∃ t, s.mgmtOnly t ∧ s.amindPulse c code issuer = t.rstPulse c := by
  rw [State.amindPulse, if_neg (fun h => hc h.2)]
  exact ⟨_, State.mgmtOnly_after (State.commitBuffer_mgmtOnly _)
    (State.mgmtOnly_after (State.ledgerPut_mgmtOnly _ _ _ _ _) s.commitBuffer_mgmtOnly), rfl⟩

theorem State.rstPulse_aon (s : State) (c : ReqCause) :
    (s.rstPulse c).aon = { s.aon with nextReq := if s.supply.rstReq then s.aon.nextReq else some c } := by
  unfold State.rstPulse
  split <;> rfl

/-- Amind's report changes its own records and interrupts, the pin and the cause of the reset to come. -/
theorem State.alarmReported_eq (code : BitVec 3) : ∃ t, (s.alarmed code).mgmtOnly t ∧ s.alarmReported code = t.rstPulse .key := by
  obtain ⟨t, hmgmt, heq⟩ := State.amindPulse_of_ne_cmd ((s.alarmed code).log .keyAlarm [BitVec.ofNat 8 code.toNat]) (c := .key)
    (by decide) 5 0xFF
  exact ⟨t, State.mgmtOnly_trans (State.log_mgmtOnly _ _ _) hmgmt, heq⟩

/-- The effect of an alarm on key store, crypto engine and memories. -/
def State.alarmTaken (s : State) (code : BitVec 3) (t : State) : Prop :=
  t.ks.st = .alarmed ∧ t.ks.alarm = code ∧ t.ks.engine = [] ∧ t.ks.roots = false ∧ t.ks.layers = [] ∧ t.ks.signing = []
    ∧ t.ks.sessKeys = [] ∧ t.ks.ksEvent = s.ks.ksEvent ||| 1 ∧ t.ks.nodes = s.ks.nodes ∧ t.ce.ime = false ∧ t.ce.jobs = []
    ∧ t.core.dram = [] ∧ t.core.dramEpoch = s.core.dramEpoch + 1 ∧ t.core.sram = s.core.sram

theorem State.alarmed_taken (code : BitVec 3) : s.alarmTaken code (s.alarmed code) := by
  obtain ⟨t, hports, heq⟩ := State.alarmed_eq (s := s) code
  rw [heq, hports]
  exact ⟨rfl, rfl, rfl, rfl, rfl, rfl, rfl, rfl, rfl, rfl, rfl, rfl, rfl, rfl⟩

/-- An alarm leaves supply, always-on domain and power stage until Amind reports it. -/
theorem State.alarmed_same (code : BitVec 3) :
    (s.alarmed code).supply = s.supply ∧ (s.alarmed code).aon = s.aon ∧ (s.alarmed code).ps = s.ps := by
  obtain ⟨t, hports, heq⟩ := State.alarmed_eq (s := s) code
  rw [heq, hports]
  exact ⟨rfl, rfl, rfl⟩

theorem State.alarmTaken_mgmtOnly {code : BitVec 3} {a b : State} (h : s.alarmTaken code a) (k : a.mgmtOnly b) : s.alarmTaken code b := by
  unfold State.alarmTaken at *
  rw [State.mgmtOnly_ks k, State.mgmtOnly_ce k, State.mgmtOnly_core k]
  exact h

theorem State.alarmTaken_rstPulse {code : BitVec 3} {a : State} (h : s.alarmTaken code a) (c : ReqCause) :
    s.alarmTaken code (a.rstPulse c) := by
  rw [State.rstPulse_frame]
  exact h

end Commands

end Sys2Proof.Machine

namespace Sys2Proof.Proofs

open Sys2Proof Sys2Proof.Machine

/-- Settles O43: a derivation and an invalidation by the commit of one record; a reclaim only takes nodes away, so that an invalid node stays
without effect; a completion leaves the results of the routes; and Amind's report of an alarm comes after the key store's own sequence. -/
theorem keysAndSignatures : Obligations.KeysAndSignatures := by
  refine ⟨⟨?derive, ?invalidate, ?busy⟩, ?sign, ?signDone, ?attest, ?attestDone, ?macsec, ?alarm⟩
  case derive =>
    rintro rq s _ rfl htakes hroute hready hparent hcur par hpar husage hdepth hnew hfree hroom
    obtain ⟨hnodes, hcounter⟩ := State.nodeMade_tree (s.heard rq) rq (s.heard rq).newNodeNumber
    refine ⟨_, _, replies_of_own rfl htakes (ownKeyDerive_new hroute hready hparent hcur hpar husage hdepth hnew hfree hroom),
      State.newNodeNumber_mem hfree, ?_, fun m hm => ?_, hcounter, State.hCreate_hLive_isSome _ _ _ _ _ _ _, rfl, rfl, rfl⟩
    · rw [hnodes, Tab.get_put_same]
      simp [KeyStore.newNode, hpar]
    · rw [hnodes, Tab.get_put_ne _ _ _ hm]
  case invalidate =>
    rintro rq s _ rfl htakes - hready
    refine ⟨fun hroot => replies_of_own rfl htakes (ownKeyInvalidate_root hready hroot), fun r hn hcur hr =>
      ⟨_, replies_of_own rfl htakes (ownKeyInvalidate_current hready hn hcur hr), State.invalidated_not_current hn _, ?_⟩⟩
    obtain ⟨hengine, hpurges, hevent⟩ := State.invalidated_ks (s := s.heard rq) (n := hIndex rq.handle) (r := r)
    refine ⟨hengine, hpurges, hevent, ?_, ?_, ?_⟩
    all_goals rw [State.invalidated_keysOnly]
  case busy =>
    rintro rq s _ rfl - hnot
    exact ⟨fun h => replies_of_own rfl h (ownKeyDerive_busy hnot), fun h => replies_of_own rfl h (ownKeyInvalidate_busy hnot),
      fun h => replies_of_own rfl h (ownKeySign_busy hnot), fun h => replies_of_own rfl h (ownAttest_busy hnot),
      fun h => replies_of_own rfl h (ownMacsecSa_busy hnot)⟩
  case sign =>
    rintro rq s _ r rfl htakes hroute hready hr
    have hkey : rq.route.key = 0 := by rw [hroute]; rfl
    refine ⟨fun h => replies_of_own rfl htakes (ownKeySign_usage hready hr h),
      fun h hcur => replies_of_own rfl htakes (ownKeySign_revoked hready hr h hcur), fun h hcur halg => ?_, fun h hcur halg => ?_⟩
    · have hres : (((s.heard rq).signedNow rq).route 0).result
          = some (((s.heard rq).route 0).nextId, (s.heard rq).ks.sign (some (hIndex rq.handle)) 0 (rq.payload.drop 4)) := by
        rw [State.signedNow, hkey]
        exact State.setResult_result _ _ _
      have hown := ownKeySign_now hready hr h hcur halg
      rw [hkey, State.resultInfo_of_result hres, KeyStore.sign_length] at hown
      exact ⟨_, _, _, replies_of_own rfl htakes hown, hres, KeyStore.sign_length _ _ _, RouteRec.nextId_ne_zero _, rfl, rfl⟩
    · have hown := ownKeySign_later hready hr h hcur halg
      rw [hkey] at hown
      exact replies_of_own rfl htakes hown
  case signDone =>
    intro s g n hfind hnode hready
    refine ⟨_, does_keySignComplete hfind hnode hready, ?_⟩
    obtain ⟨hks, hres, hsupply, haon⟩ := s.signDone_frame g (s.ks.sign g.node g.alg g.data)
    have hmgmt := (s.onKs (fun k => { k with signing := k.signing.erase g })).complete_mgmtOnly g.route g.seq .keyRevoked 0 []
    cases hcur : s.ks.current pathFuel n with
    | true =>
      rw [if_pos rfl, hks, hsupply, haon]
      exact ⟨rfl, fun _ => ⟨_, hres⟩, nofun, rfl, rfl, rfl⟩
    | false =>
      rw [if_neg Bool.false_ne_true, State.signRevoked, State.mgmtOnly_ks hmgmt, State.complete_result, State.mgmtOnly_supply hmgmt,
        State.mgmtOnly_aon hmgmt]
      exact ⟨rfl, nofun, fun _ => rfl, rfl, rfl, rfl⟩
  case attest =>
    rintro rq s _ rfl htakes hroute hready
    have hown := ownAttest_ready (rq := rq) (s := s.heard rq) hready
    have hkey : rq.route.key = 0 := by rw [hroute]; rfl
    have hinst : (s.heard rq).issuerInst rq.route = 0 := by rw [hroute]; rfl
    rw [hkey, hinst] at hown
    exact replies_of_own rfl htakes hown
  case attestDone =>
    intro s g hfind hready
    obtain ⟨hks, hres, hsupply, haon⟩ := s.signDone_frame g (s.ks.token (s.claims g))
    exact ⟨_, does_attestComplete hfind hready, congrArg KeyStore.signing hks, ⟨_, hres⟩, hsupply, haon⟩
  case macsec =>
    rintro rq s _ r _ rfl htakes - hready hr husage hcur rfl hdir
    have hunit := State.txInstalled_macsec (s := s.heard rq) (rq := rq) (u8At rq.payload 0)
    rw [if_pos rfl] at hunit
    refine ⟨_, replies_of_own rfl htakes (ownMacsecSa_tx hready hr husage hcur hdir), ?_⟩
    rw [hunit]
    refine ⟨rfl, rfl, rfl, rfl, ?_, State.txInstalled_event, ?_, rfl, fun q hq => ?_, State.txInstalled_eq⟩
    · exact congrArg MsSa.key (Tab.get_put_same _ _ _ _)
    · exact congrArg MsSa.node (Tab.get_put_same _ _ _ _)
    · rw [State.txInstalled_macsec, if_neg hq]
  case alarm =>
    intro s code hmin hmax hst hpower
    refine ⟨_, does_keyStoreAlarm hmin hmax hst hpower, ?_⟩
    have htaken := State.alarmed_taken (s := s) code
    obtain ⟨hsupply, haon, hps⟩ := State.alarmed_same (s := s) code
    cases hup : s.amindUp with
    | true =>
      obtain ⟨t, hmgmt, hpulse⟩ := State.alarmReported_eq (s := s) code
      have heffect := State.alarmTaken_rstPulse (State.alarmTaken_mgmtOnly htaken hmgmt) .key
      have hsup : (t.rstPulse .key).supply = { s.supply with rstReq := true } := by
        rw [State.rstPulse_frame, State.mgmtOnly_supply hmgmt, hsupply]
      have hreq : (t.rstPulse .key).aon.nextReq = if s.supply.rstReq then s.aon.nextReq else some .key := by
        rw [State.rstPulse_aon, State.mgmtOnly_supply hmgmt, State.mgmtOnly_aon hmgmt, hsupply, haon]
      have hstages : (t.rstPulse .key).ps = s.ps := by
        rw [State.rstPulse_frame, State.mgmtOnly_ps hmgmt, hps]
      rw [if_pos rfl, hpulse]
      simpa only [State.alarmTaken, and_assoc] using And.intro heffect ⟨fun _ => ⟨hsup, hreq⟩, nofun, hstages⟩
    | false =>
      rw [if_neg Bool.false_ne_true]
      simpa only [State.alarmTaken, and_assoc] using And.intro htaken ⟨nofun, fun _ => ⟨hsupply, haon⟩, hps⟩

end Sys2Proof.Proofs

/-! SUPPORT. What the engines leave of Amind's side: one lemma for each function of the model that an abort, a stop or a clear runs, in the
order of the model's files. -/

namespace Sys2Proof.Machine

open Sys2Proof

/-! ### Supply, always-on domain, Amind and the headers of the LIN channels -/

/-- The headers on the LIN buses. -/
def State.headers (s : State) (c : Nat) : Option (Nat × Nat) := (s.lin c).header

/-- Supply, always-on domain and Amind's side of a state. -/
def State.seat (s : State) : Supply × Aon × Mgmt := (s.supply, s.aon, s.mgmt)

/-- The seat of a state, with the headers on the LIN buses. -/
def State.quiet (s : State) : (Supply × Aon × Mgmt) × (Nat → Option (Nat × Nat)) := (s.seat, s.headers)

theorem State.seat_of_quiet {s t : State} (h : t.quiet = s.quiet) : t.seat = s.seat := congrArg Prod.fst h

theorem State.quiet_of {s t : State} (hsupply : t.supply = s.supply) (haon : t.aon = s.aon) (hmgmt : t.mgmt = s.mgmt)
    (hheaders : t.headers = s.headers) : t.quiet = s.quiet := by
  rw [State.quiet, State.seat, hsupply, haon, hmgmt, hheaders, State.quiet, State.seat]

theorem State.headers_of_bus {s t : State} (h : t.bus = s.bus) : t.headers = s.headers := by
  funext c
  rw [State.headers, State.lin, h, State.headers, State.lin]

theorem State.quiet_of_irqOnly {s t : State} (h : s.irqOnly t) : t.quiet = s.quiet :=
  State.quiet_of (State.irqOnly_supply h) (State.irqOnly_aon h) (State.irqOnly_mgmt h) (State.headers_of_bus (State.irqOnly_bus h))

theorem State.quiet_of_psOnly {s t : State} (h : s.psOnly t) : t.quiet = s.quiet := by
  rw [h]
  rfl

theorem State.quiet_of_settingsKept {s t : State} (h : s.settingsKept t) : t.quiet = s.quiet := by
  obtain ⟨-, -, hrest⟩ := h
  rw [hrest]
  rfl

@[simp] theorem State.quiet_ite {c : Prop} [Decidable c] (a b : State) :
    (if c then a else b).quiet = if c then a.quiet else b.quiet := apply_ite State.quiet _ _ _

/-- A change of the state leaves all this. A lemma that takes a change takes this as its hypothesis, so that `simp` can discharge it. -/
def Quiet (f : State → State) : Prop := ∀ t, (f t).quiet = t.quiet

@[simp] theorem quiet_iff {f : State → State} : Quiet f ↔ ∀ t, (f t).quiet = t.quiet := Iff.rfl

@[simp] theorem State.foldl_quiet {α : Type} {f : State → α → State} (hf : ∀ a, Quiet (fun t => f t a)) (l : List α) (s : State) :
    (l.foldl f s).quiet = s.quiet := by
  induction l generalizing s with
  | nil => rfl
  | cons a l ih => rw [List.foldl_cons, ih, hf a s]

/-! ### Units -/

@[simp] theorem State.onSw_quiet (s : State) (f) : (s.onSw f).quiet = s.quiet := rfl
@[simp] theorem State.onEth_quiet (s : State) (f) : (s.onEth f).quiet = s.quiet := rfl
@[simp] theorem State.onPs_quiet (s : State) (f) : (s.onPs f).quiet = s.quiet := rfl
@[simp] theorem State.onInp_quiet (s : State) (f) : (s.onInp f).quiet = s.quiet := rfl
@[simp] theorem State.onKs_quiet (s : State) (f) : (s.onKs f).quiet = s.quiet := rfl
@[simp] theorem State.onCe_quiet (s : State) (f) : (s.onCe f).quiet = s.quiet := rfl
@[simp] theorem State.onPass_quiet (s : State) (f) : (s.onPass f).quiet = s.quiet := rfl
@[simp] theorem State.onCore_quiet (s : State) (f) : (s.onCore f).quiet = s.quiet := rfl
@[simp] theorem State.onDbg_quiet (s : State) (f) : (s.onDbg f).quiet = s.quiet := rfl
@[simp] theorem State.onGw_quiet (s : State) (f) : (s.onGw f).quiet = s.quiet := rfl
@[simp] theorem State.updHart_quiet (s : State) (n : Nat) (f) : (s.updHart n f).quiet = s.quiet := rfl
@[simp] theorem State.updQp_quiet (s : State) (n : Nat) (f) : (s.updQp n f).quiet = s.quiet := rfl
@[simp] theorem State.updFrame_quiet (s : State) (n : Nat) (f) : (s.updFrame n f).quiet = s.quiet := rfl
@[simp] theorem State.updAcct_quiet (s : State) (n : Nat) (f) : (s.updAcct n f).quiet = s.quiet := rfl
@[simp] theorem State.updSwPort_quiet (s : State) (n : Nat) (f) : (s.updSwPort n f).quiet = s.quiet := rfl
@[simp] theorem State.updCan_quiet (s : State) (n : Nat) (f) : (s.updCan n f).quiet = s.quiet := rfl
@[simp] theorem State.updObj_quiet (s : State) (n m : Nat) (f) : (s.updObj n m f).quiet = s.quiet := rfl
@[simp] theorem State.updSched_quiet (s : State) (n : Nat) (f) : (s.updSched n f).quiet = s.quiet := rfl
@[simp] theorem State.canEvent_quiet (s : State) (n k : Nat) : (s.canEvent n k).quiet = s.quiet := rfl
@[simp] theorem State.swEvent_quiet (s : State) (k : Nat) : (s.swEvent k).quiet = s.quiet := rfl
@[simp] theorem State.updRing_quiet (s : State) (n : Nat) (f) : (s.updRing n f).quiet = s.quiet := rfl
@[simp] theorem State.updTimer_quiet (s : State) (n : Nat) (f) : (s.updTimer n f).quiet = s.quiet := rfl
@[simp] theorem State.updInGroup_quiet (s : State) (n : Nat) (f) : (s.updInGroup n f).quiet = s.quiet := rfl
@[simp] theorem State.updReg_quiet (s : State) (n : Nat) (f) : (s.updReg n f).quiet = s.quiet := rfl
@[simp] theorem State.updWin_quiet (s : State) (n : Nat) (f) : (s.updWin n f).quiet = s.quiet := rfl

/-- A change of a LIN channel that leaves its header. -/
@[simp] theorem State.updLin_quiet (s : State) (n : Nat) {f : LinCh → LinCh} (hf : ∀ l, (f l).header = l.header) :
    (s.updLin n f).quiet = s.quiet := by
  refine State.quiet_of rfl rfl rfl (funext fun c => ?_)
  rw [State.headers, State.lin_updLin]
  split
  · subst c
    exact hf _
  · rfl

@[simp] theorem State.updBuf_quiet (s : State) (n m : Nat) (f) : (s.updBuf n m f).quiet = s.quiet := s.updLin_quiet n fun _ => by rfl

/-! ### Interrupts -/

@[simp] theorem State.msi_quiet (s : State) (h file ident : Nat) : (s.msi h file ident).quiet = s.quiet :=
  State.quiet_of_irqOnly (s.msi_irqOnly h file ident)

@[simp] theorem State.msiBind_quiet (s : State) (b : Bind) (sec : Bool) (off : Nat) : (s.msiBind b sec off).quiet = s.quiet := by
  simp [State.msiBind]

@[simp] theorem State.fireS_quiet (s : State) (i : Nat) : (s.fireS i).quiet = s.quiet := State.quiet_of_irqOnly (s.fireS_irqOnly i)

@[simp] theorem State.fireM_quiet (s : State) (i : Nat) : (s.fireM i).quiet = s.quiet := State.quiet_of_irqOnly (s.fireM_irqOnly i)

/-! ### Switch (Machine/Switch.lean) -/

@[simp] theorem State.marketLow_quiet (s : State) : s.marketLow.quiet = s.quiet := by simp [State.marketLow]

@[simp] theorem State.flowControl_quiet (s : State) (p : Nat) : (s.flowControl p).quiet = s.quiet :=
  State.quiet_of_settingsKept (s.flowControl_settingsKept p)

@[simp] theorem State.freeFrame_quiet (s : State) (f : Frame) : (s.freeFrame f).quiet = s.quiet := by
  unfold State.freeFrame
  simp only
  repeat' split
  all_goals simp

@[simp] theorem State.freeIfDone_quiet (s : State) (i : Nat) : (s.freeIfDone i).quiet = s.quiet := by
  unfold State.freeIfDone
  split <;> simp

@[simp] theorem State.rxPop_quiet (s : State) (q i : Nat) : (s.rxPop q i).quiet = s.quiet := by simp [State.rxPop]

/-! ### CAN and LIN (Machine/Can.lean, Machine/Lin.lean) -/

@[simp] theorem State.setMsi_quiet (s : State) (key off : Nat) : (s.setMsi key off).quiet = s.quiet := by
  unfold State.setMsi
  split <;> simp

@[simp] theorem State.objMsi_quiet (s : State) (chan obj : Nat) : (s.objMsi chan obj).quiet = s.quiet := by
  unfold State.objMsi
  split <;> simp

@[simp] theorem State.txEnd_quiet (s : State) (chan obj : Nat) (st : U16) (msi : Bool) : (s.txEnd chan obj st msi).quiet = s.quiet := by
  simp [State.txEnd]

@[simp] theorem State.objReq_quiet (s : State) (chan obj : Nat) : (s.objReq chan obj).quiet = s.quiet := by simp [State.objReq]

@[simp] theorem State.objRead_quiet (s : State) (chan obj off : Nat) : (s.objRead chan obj off).quiet = s.quiet := by simp [State.objRead]

@[simp] theorem State.objWrite_quiet (s : State) (chan obj off : Nat) (v m : U32) : (s.objWrite chan obj off v m).1.quiet = s.quiet := by
  simp [State.objWrite, State.objAbort, State.objUpd, State.objPut]

@[simp] theorem State.mapClear_quiet (s : State) (t : Attr) (chan word : Nat) (v : U32) : (s.mapClear t chan word v).quiet = s.quiet := by
  simp [State.mapClear]

@[simp] theorem State.schEnd_quiet (s : State) (chan : Nat) : (s.schEnd chan).quiet = s.quiet := by simp [State.schEnd]

@[simp] theorem State.schStopOf_quiet (s : State) (owner : Nat) : (s.schStopOf owner).quiet = s.quiet := by simp [State.schStopOf]

@[simp] theorem State.setAbort_quiet (s : State) (key : Nat) (st : U16) (msi : Bool) : (s.setAbort key st msi).quiet = s.quiet := by
  simp [State.setAbort]

@[simp] theorem State.setZero_quiet (s : State) (key : Nat) : (s.setZero key).quiet = s.quiet := by simp [State.setZero, State.zeroObjs]

@[simp] theorem State.setStop_quiet (s : State) (key : Nat) (b : Bool) : (s.setStop key b).quiet = s.quiet := rfl

@[simp] theorem State.linPulse_quiet (s : State) (chan : Nat) : (s.linPulse chan).quiet = s.quiet := by
  simp [State.linPulse]

@[simp] theorem State.linRead_quiet (s : State) (chan off : Nat) : (s.linRead chan off).quiet = s.quiet := by simp [State.linRead]

@[simp] theorem State.linCtrl_quiet (s : State) (chan : Nat) (v m : U32) : (s.linCtrl chan v m).quiet = s.quiet := by
  simp [State.linCtrl]

@[simp] theorem State.linPut_quiet (s : State) (chan off : Nat) (v m : U32) : (s.linPut chan off v m).quiet = s.quiet := by
  simp [State.linPut]

@[simp] theorem State.linHalt_quiet (s : State) (chan : Nat) (b : Bool) : (s.linHalt chan b).quiet = s.quiet :=
  s.updLin_quiet chan fun _ => by rfl

/-! ### The power stage and the inputs (Machine/Load.lean, Machine/Protect.lean, Machine/Inputs.lean) -/

@[simp] theorem State.loadPolicies_quiet (s : State) (mask : U64) : (s.loadPolicies mask).quiet = s.quiet :=
  State.quiet_of_psOnly (s.loadPolicies_psOnly mask)

@[simp] theorem State.loadStep_quiet (s0 s : State) (c : Nat) (b : Bool) : (s0.loadStep s c b).quiet = s.quiet :=
  State.quiet_of_psOnly (s0.loadStep_psOnly s c b)

@[simp] theorem State.loadIgnore_quiet (s : State) (page : Nat) : (s.loadIgnore page).quiet = s.quiet := rfl

@[simp] theorem State.loadWrites_quiet (s : State) (page inst : Nat) (sec : Bool) (cs : List Nat) (f : Nat → LoadCmd → LoadCmd) :
    (s.loadWrites page inst sec cs f).quiet = s.quiet := by
  have hload (t : State) (c : Nat) (g : LoadCh → LoadCh) : (t.updLoad c g).quiet = t.quiet := rfl
  simp [State.loadWrites, State.loadWrite, hload]

@[simp] theorem State.loadOutPut_quiet (s : State) (page : Nat) (t : Attr) (c : Nat) (v m : U32) :
    (s.loadOutPut page t c v m).quiet = s.quiet := by simp [State.loadOutPut]

@[simp] theorem State.loadMask_quiet (s : State) (page : Nat) (t : Attr) (mask : U64) (on : Bool) :
    (s.loadMask page t mask on).quiet = s.quiet := by simp [State.loadMask]

@[simp] theorem State.inMsi_quiet (s : State) (g : Nat) : (s.inMsi g).quiet = s.quiet := by
  unfold State.inMsi
  split <;> simp

@[simp] theorem State.inClear_quiet (s : State) (g : Nat) (d : U64) (v : BitVec 24) : (s.inClear g d v).quiet = s.quiet := by
  simp [State.inClear]

@[simp] theorem State.inLeft_quiet (s : State) (g : Nat) : (s.inLeft g).quiet = s.quiet := by simp [State.inLeft]

/-! ### Rings, timers, the APLIC and the switch (Machine/Rings.lean, Machine/Time.lean, Machine/Harts.lean, Machine/Pages.lean) -/

@[simp] theorem State.ringTail_quiet (s : State) (r : Nat) (v : U16) : (s.ringTail r v).quiet = s.quiet := rfl

@[simp] theorem State.timerMsi_quiet (s : State) (n : Nat) : (s.timerMsi n).quiet = s.quiet := by
  unfold State.timerMsi
  split <;> simp

@[simp] theorem State.fireDue_quiet (s : State) (n : Nat) : (s.fireDue n).quiet = s.quiet := by simp [State.fireDue]

@[simp] theorem State.tcCtrlSet_quiet (s : State) (n : Nat) (v m : U32) : (s.tcCtrlSet n v m).quiet = s.quiet := by simp [State.tcCtrlSet]

@[simp] theorem State.tcFirst_quiet (s : State) (a : Nat) : (s.tcFirst a).quiet = s.quiet := by simp [State.tcFirst]

@[simp] theorem State.genMsi_quiet (s : State) (o file : Nat) (v : U32) : (s.genMsi o file v).quiet = s.quiet := by simp [State.genMsi]

@[simp] theorem State.aplicPut_quiet (s : State) (o : Nat) (v : U32) : (s.aplicPut o v).quiet = s.quiet := by
  unfold State.aplicPut
  split
  · exact (State.genMsi_quiet _ _ _ _).trans ((State.foldl_quiet (fun i t => by simp) _ _).trans (State.onCore_quiet _ _))
  · exact (State.genMsi_quiet _ _ _ _).trans ((State.foldl_quiet (fun i t => by simp) _ _).trans (State.onCore_quiet _ _))

@[simp] theorem State.swPut_quiet (s : State) (o : Nat) (v m : U32) : (s.swPut o v m).quiet = s.quiet := by simp [State.swPut]

@[simp] theorem State.qpTxTail_quiet (s : State) (i : Nat) (v : U16) : (s.qpTxTail i v).quiet = s.quiet := rfl

@[simp] theorem State.qpRxTail_quiet (s : State) (i : Nat) (v : U16) : (s.qpRxTail i v).quiet = s.quiet := rfl

@[simp] theorem State.qpPut_quiet (s : State) (i o : Nat) (v m : U32) : (s.qpPut i o v m).quiet = s.quiet := by simp [State.qpPut]

@[simp] theorem State.ethPut_quiet (s : State) (o : Nat) (v m : U32) : (s.ethPut o v m).1.quiet = s.quiet := by
  unfold State.ethPut
  split
  · rw [State.onEth_quiet]
  · split
    · simp only
      split
      · rfl
      · exact s.qpPut_quiet _ _ _ _
    · rfl

@[simp] theorem State.canRead_quiet (s : State) (t : Attr) (a : Nat) : (s.canRead t a).1.quiet = s.quiet := by
  unfold State.canRead
  simp only
  repeat' split
  all_goals simp

/-! ### The Pass link (Machine/PassLink.lean) -/

@[simp] theorem State.countFerr_quiet (s : State) (a : Nat) : (s.countFerr a).quiet = s.quiet := by
  unfold State.countFerr
  split <;> simp

@[simp] theorem State.answered_quiet (s : State) (r : Resp) (d : List Byte) : (s.answered r d).quiet = s.quiet := rfl

@[simp] theorem State.issued_quiet (s : State) (t : Attr) : (s.issued t).quiet = s.quiet := by simp [State.issued]

@[simp] theorem State.settled_quiet (s : State) (t : Attr) (r : Resp) (d : List Byte) : (s.settled t r d).quiet = s.quiet := by
  simp [State.settled, State.portReply]

@[simp] theorem State.capture_quiet (s : State) (t : Attr) (a : Nat) (wr : Bool) (r : Resp) : (s.capture t a wr r).quiet = s.quiet := by
  simp [State.capture]

@[simp] theorem State.winRead_quiet (s : State) (x : Xact) : (s.winRead x).1.quiet = s.quiet := by
  unfold State.winRead
  simp only
  repeat' split
  all_goals simp

@[simp] theorem State.winWrite_quiet (s : State) (x : Xact) : (s.winWrite x).1.quiet = s.quiet := by
  unfold State.winWrite
  simp only
  repeat' split
  all_goals simp

@[simp] theorem State.recordsGo_quiet (s : State) : s.recordsGo.quiet = s.quiet := by
  unfold State.recordsGo
  simp only
  repeat' split
  all_goals simp

@[simp] theorem State.trackerEnd_quiet (s : State) (r : Tracker) (c : Resp) : (s.trackerEnd r c).quiet = s.quiet := by
  unfold State.trackerEnd
  split <;> simp

@[simp] theorem State.passFree_quiet (s : State) (inst : Nat) : (s.passFree inst).quiet = s.quiet := by simp [State.passFree]

@[simp] theorem State.winsStop_quiet (s : State) (inst : Nat) (b : Bool) : (s.winsStop inst b).quiet = s.quiet := rfl

/-! ### Registers and memory (Machine/Bus.lean) -/

@[simp] theorem State.put03_quiet (s : State) (a : Nat) (v m : U32) : (s.put03 a v m).quiet = s.quiet := by
  unfold State.put03
  split
  · simp
  · split <;> simp

@[simp] theorem State.regPut_quiet (s : State) (t : Attr) (a : Nat) (v m : U32) : (s.regPut t a v m).1.quiet = s.quiet := by
  unfold State.regPut
  split <;> simp [State.loadChgClear, State.psPut, State.loadPagePut, State.inPagePut, State.inPut, State.ceEventPut, State.ringPut,
    State.tcPut, State.canWrite, State.passPut, State.put08, State.put0A, State.put0B, State.put0E]

@[simp] theorem State.ignoreOnce_quiet (old s : State) (a : Nat) : (old.ignoreOnce s a).quiet = s.quiet := by simp [State.ignoreOnce]

@[simp] theorem State.inAfter_quiet (s : State) (a n : Nat) : (s.inAfter a n).quiet = s.quiet := by simp [State.inAfter]

@[simp] theorem State.regsWrite_quiet (s : State) (t : Attr) (a : Nat) (d : List Byte) : (s.regsWrite t a d).1.quiet = s.quiet := by
  simp only [State.regsWrite, State.inAfter_quiet, State.ignoreOnce_quiet]
  refine List.foldlRecOn (motive := fun q : State × Resp => q.1.quiet = s.quiet) _ _ (s.tcFirst_quiet a) fun q hq w _ => ?_
  split
  · exact hq
  · split
    · exact (State.regPut_quiet _ _ _ _ _).trans hq
    · rfl

@[simp] theorem State.word0D_quiet (s : State) (t : Attr) (a : Nat) (latch : Bool) : (s.word0D t a latch).1.quiet = s.quiet := by
  have hlatch (b : TimeBase) : ({ s with tb := b } : State).quiet = s.quiet := rfl
  unfold State.word0D
  simp only
  repeat' split
  all_goals simp only [hlatch]

@[simp] theorem State.regWord_quiet (s : State) (t : Attr) (a : Nat) (latch : Bool) : (s.regWord t a latch).1.quiet = s.quiet := by
  unfold State.regWord
  split <;> simp

@[simp] theorem State.regBytes_quiet (s : State) (t : Attr) (a n : Nat) : (s.regBytes t a n).1.quiet = s.quiet :=
  List.foldlRecOn (motive := fun p : State × List Byte => p.1.quiet = s.quiet) _ _ rfl fun _ h _ _ => (State.regWord_quiet _ _ _ _).trans h

@[simp] theorem State.setMem_quiet (s : State) (a : Nat) (d : List Byte) : (s.setMem a d).quiet = s.quiet := by
  induction d generalizing s a with
  | nil => rfl
  | cons b d ih =>
    have hdram : (s.setDram a b).quiet = s.quiet := rfl
    have hsram : (s.setSram a b).quiet = s.quiet := rfl
    simp [State.setMem, ih, hdram, hsram]

@[simp] theorem State.setClean_quiet (s : State) (a : Nat) (d : List Byte) : (s.setClean a d).quiet = s.quiet := by
  induction d generalizing s a with
  | nil => rfl
  | cons b d ih => simp [State.setClean, ih]

@[simp] theorem State.memWrite_quiet (s : State) (a : Nat) (d : List Byte) : (s.memWrite a d).quiet = s.quiet := by
  simp [State.memWrite, State.memPut, State.unreserve, State.unpoison]

@[simp] theorem State.meterDma_quiet (s : State) (t : Attr) (a n : Nat) : (s.meterDma t a n).quiet = s.quiet := by
  have hmeter : (s.meter t a n).1.quiet = s.quiet := by simp [State.meter]
  unfold State.meterDma
  split
  · next heq => exact (congrArg (fun p => p.1.quiet) heq).symm.trans hmeter
  · next heq => exact (State.updReg_quiet _ _ _).trans ((congrArg (fun p => p.1.quiet) heq).symm.trans hmeter)

@[simp] theorem State.readTarget_quiet (s : State) (x : Xact) : (s.readTarget x).1.quiet = s.quiet := by
  unfold State.readTarget
  simp only
  split <;> simp

theorem State.accept_read_quiet (s : State) (op : AmoOp) (x : Xact) : (s.accept .read op x).1.quiet = s.quiet := by
  unfold State.accept
  simp only
  repeat' split
  all_goals simp

@[simp] theorem State.dmaRead_quiet (s : State) (t : Attr) (a n : Nat) : (s.dmaRead t a n).1.quiet = s.quiet := by
  refine List.foldlRecOn (motive := fun p : State × Resp × List Byte => p.1.quiet = s.quiet) _ _ rfl fun p h b _ => ?_
  split
  · exact h
  · exact ((State.accept_read_quiet _ _ _).trans (State.meterDma_quiet _ _ _ _)).trans h

/-! ### Stops and clears (Machine/Resets.lean) -/

@[simp] theorem State.qpClear_quiet (s : State) (q : Nat) : (s.qpClear q).quiet = s.quiet := by simp [State.qpClear]

@[simp] theorem State.loadsMute_quiet (s : State) (n : Nat) (b policy : Bool) : (s.loadsMute n b policy).quiet = s.quiet := by
  simp [State.loadsMute]

@[simp] theorem State.inputsStop_quiet (s : State) (n : Nat) (stop off clear : Bool) : (s.inputsStop n stop off clear).quiet = s.quiet := by
  simp [State.inputsStop]

end Sys2Proof.Machine

/-! SUPPORT. What an abort of the engines leaves: their records may reach the stall pages and the doorbells of instances, and beside the
records of stalls and the refused doorbells nothing of Amind's side changes (Machine/Stalls.lean, Machine/Bus.lean, Machine/Resets.lean). -/

namespace Sys2Proof.Machine

open Sys2Proof

/-! ### The calm part of a state -/

/-- An instance without its account of refused doorbells. -/
def Inst.noDb (i : Inst) : Inst := { i with dbRefused := 0, dbLast := 0 }

/-- The instances without their accounts of refused doorbells. -/
def State.instances (s : State) (n : Nat) : Inst := (s.inst n).noDb

/-- Supply, always-on domain, handles and instances, with the headers on the LIN buses. -/
def State.calm (s : State) : (Supply × Aon × Handles × (Nat → Inst)) × (Nat → Option (Nat × Nat)) :=
  ((s.supply, s.aon, s.mgmt.handles, s.instances), s.headers)

theorem State.instances_of_mgmt {s t : State} (h : t.mgmt = s.mgmt) : t.instances = s.instances := by
  funext n
  rw [State.instances, State.inst_of_mgmt h, State.instances]

theorem State.calm_of_quiet {s t : State} (h : t.quiet = s.quiet) : t.calm = s.calm := by
  simp only [State.quiet, State.seat, Prod.mk.injEq] at h
  obtain ⟨⟨hsupply, haon, hmgmt⟩, hheaders⟩ := h
  rw [State.calm, hsupply, haon, hmgmt, State.instances_of_mgmt hmgmt, hheaders, State.calm]

theorem State.calm_of_irqOnly {s t : State} (h : s.irqOnly t) : t.calm = s.calm := State.calm_of_quiet (State.quiet_of_irqOnly h)

@[simp] theorem State.calm_ite {c : Prop} [Decidable c] (a b : State) :
    (if c then a else b).calm = if c then a.calm else b.calm := apply_ite State.calm _ _ _

/-- A change of the state leaves the calm part. -/
def Calm (f : State → State) : Prop := ∀ t, (f t).calm = t.calm

@[simp] theorem calm_iff {f : State → State} : Calm f ↔ ∀ t, (f t).calm = t.calm := Iff.rfl

@[simp] theorem State.foldl_calm {α : Type} {f : State → α → State} (hf : ∀ a, Calm (fun t => f t a)) (l : List α) (s : State) :
    (l.foldl f s).calm = s.calm := by
  induction l generalizing s with
  | nil => rfl
  | cons a l ih => rw [List.foldl_cons, ih, hf a s]

@[simp] theorem State.onCore_calm (s : State) (f) : (s.onCore f).calm = s.calm := rfl
@[simp] theorem State.onCe_calm (s : State) (f) : (s.onCe f).calm = s.calm := rfl
@[simp] theorem State.onPass_calm (s : State) (f) : (s.onPass f).calm = s.calm := rfl
@[simp] theorem State.updQp_calm (s : State) (n : Nat) (f) : (s.updQp n f).calm = s.calm := rfl
@[simp] theorem State.updRing_calm (s : State) (n : Nat) (f) : (s.updRing n f).calm = s.calm := rfl
@[simp] theorem State.updStall_calm (s : State) (n : Nat) (f) : (s.updStall n f).calm = s.calm := rfl
@[simp] theorem State.msiBind_calm (s : State) (b : Bind) (sec : Bool) (off : Nat) : (s.msiBind b sec off).calm = s.calm :=
  State.calm_of_quiet (s.msiBind_quiet b sec off)
@[simp] theorem State.capture_calm (s : State) (t : Attr) (a : Nat) (wr : Bool) (r : Resp) : (s.capture t a wr r).calm = s.calm :=
  State.calm_of_quiet (s.capture_quiet t a wr r)
@[simp] theorem State.rxPop_calm (s : State) (q i : Nat) : (s.rxPop q i).calm = s.calm := State.calm_of_quiet (s.rxPop_quiet q i)
@[simp] theorem State.dmaRead_calm (s : State) (t : Attr) (a n : Nat) : (s.dmaRead t a n).1.calm = s.calm :=
  State.calm_of_quiet (s.dmaRead_quiet t a n)

/-! ### Stall pages (Machine/Stalls.lean) -/

@[simp] theorem State.writeNotice_calm (s : State) (n : Nat) (r : Response) (st : StallState) : (s.writeNotice n r st).calm = s.calm :=
  (State.calm_of_irqOnly (State.stallIrq_irqOnly _ _)).trans (s.updStall_calm n _)

@[simp] theorem State.nextNotice_calm (s : State) (n : Nat) (st : StallState) : (s.nextNotice n st).calm = s.calm := by
  unfold State.nextNotice
  split <;> simp

@[simp] theorem State.doorbell_calm (s : State) (n : Nat) : (s.doorbell n).calm = s.calm := by
  unfold State.doorbell
  simp only
  split <;> simp

@[simp] theorem State.release_calm (s : State) (n : Nat) : (s.release n).calm = s.calm := by
  unfold State.release
  simp only
  split <;> simp

@[simp] theorem State.stallWrite_calm (s : State) (n o : Nat) (d : List Byte) : (s.stallWrite n o d).1.calm = s.calm := by
  simp [State.stallWrite]

/-! ### Instance pages (Machine/Bus.lean) -/

/-- A refused doorbell changes the account of its page alone. -/
@[simp] theorem State.dbRefuse_calm (s : State) (n : Nat) (st : Status) : (s.dbRefuse n st).calm = s.calm := by
  have hinst : (s.dbRefuse n st).instances = s.instances := funext fun m => by
    rw [State.instances, State.dbRefuse, State.inst_updInst, State.instances]
    split
    · subst m
      rfl
    · rfl
  rw [State.calm, hinst]
  rfl

@[simp] theorem State.instWrite_calm (s : State) (t : Attr) (n o : Nat) (d : List Byte) : (s.instWrite t n o d).calm = s.calm := by
  have hring (k : Nat) (v : U16) : (s.ringTail k v).calm = s.calm := rfl
  have hrx (k : Nat) (v : U16) : (s.qpRxTail k v).calm = s.calm := rfl
  have htx (k : Nat) (v : U16) : (s.qpTxTail k v).calm = s.calm := rfl
  have hdb (v : U64) : (s.dbWrite n t.sec v).calm = s.calm := by
    unfold State.dbWrite
    simp only
    split <;> simp [hring, hrx, htx]
  simp [State.instWrite, hdb]

/-! ### Transactions -/

@[simp] theorem State.writeTarget_calm (s : State) (x : Xact) : (s.writeTarget x).1.calm = s.calm := by
  have hmem (d : List Byte) : (s.memWrite x.addr.toNat d).calm = s.calm := State.calm_of_quiet (s.memWrite_quiet _ d)
  have hwin : (s.winWrite x).1.calm = s.calm := State.calm_of_quiet (s.winWrite_quiet x)
  have hregs : (s.regsWrite x.attr x.addr.toNat x.data).1.calm = s.calm := State.calm_of_quiet (s.regsWrite_quiet _ _ _)
  unfold State.writeTarget
  simp only
  split <;> simp [hmem, hwin, hregs]

theorem State.accept_write_calm (s : State) (op : AmoOp) (x : Xact) : (s.accept .write op x).1.calm = s.calm := by
  unfold State.accept
  simp only
  repeat' split
  all_goals simp

/-- A record reaches memory, a page or a window, and its MSI an interrupt file. -/
@[simp] theorem State.recordWrite_calm (s : State) (t : Attr) (a : Nat) (d : List Byte) (msi : Option (Bind × Bool)) :
    (s.recordWrite t a d msi).1.calm = s.calm := by
  have haccept (x : Xact) : ((s.meterDma t a d.length).accept .write .swap x).1.calm = s.calm :=
    (State.accept_write_calm _ _ _).trans (State.calm_of_quiet (s.meterDma_quiet t a d.length))
  unfold State.recordWrite
  simp only
  split <;> simp [haccept]

@[simp] theorem State.recordWrite_msi_calm (s : State) (t : Attr) (a : Nat) (d : List Byte) (msi : Option (Bind × Bool)) (u : State) :
    ((s.recordWrite t a d msi).2.2 u).calm = u.calm := by
  unfold State.recordWrite
  simp only
  repeat' split
  all_goals simp

/-! ### Aborts (Machine/Engines.lean, Machine/Rings.lean) -/

@[simp] theorem State.qpAbort_calm (s : State) (q : Nat) (st : U16) (quiet : Bool) : (s.qpAbort q st quiet).calm = s.calm := by
  unfold State.qpAbort
  simp only
  repeat' split
  all_goals simp

@[simp] theorem State.jobRecord_calm (s : State) (r slot : Nat) (d : Desc) (st : U16) (done : Nat) (invalid irq : Bool) :
    (s.jobRecord r slot d st done invalid irq).calm = s.calm := by simp [State.jobRecord]

@[simp] theorem State.jobEnd_calm (s : State) (j : Job) (st : U16) (wrote irq : Bool) : (s.jobEnd j st wrote irq).calm = s.calm := by
  simp [State.jobEnd]

@[simp] theorem State.ringFlush_calm (s : State) (r : Nat) (st : U16) (jobs irq : Bool) : (s.ringFlush r st jobs irq).calm = s.calm := by
  simp [State.ringFlush]

end Sys2Proof.Machine

/-! SUPPORT. Function disable, and reset and destruction of an instance: the beginning, the abort, the clearing and the end of a sequence, and
the own parts of the commands (Machine/Resets.lean). -/

namespace Sys2Proof.Machine

open Sys2Proof

/-! ### Instances and handles by what holds them -/

theorem State.inst_of_insts {s t : State} (h : t.mgmt.insts = s.mgmt.insts) (m : Nat) : t.inst m = s.inst m := by
  rw [State.inst, h, State.inst]

theorem State.inst_of_recordsOnly {s t : State} (h : s.recordsOnly t) (m : Nat) : t.inst m = s.inst m := State.inst_of_insts (by rw [h]) m

theorem State.reply_inst (s : State) (rq : Request) (a : Ans) (m : Nat) : (s.reply rq a).inst m = s.inst m :=
  State.inst_of_insts (by rw [State.reply_mgmt]) m

theorem State.handlesOf_of_handles {s t : State} (h : t.mgmt.handles = s.mgmt.handles) (n typ : Nat) : t.handlesOf n typ = s.handlesOf n typ := by
  rw [State.handlesOf, h, State.handlesOf]

/-- What a chain of changes leaves that each of them leaves. -/
theorem State.foldl_same {α β : Type} (p : State → β) {f : State → α → State} (hf : ∀ t a, p (f t a) = p t) (l : List α) (s : State) :
    p (l.foldl f s) = p s :=
  List.foldlRecOn (motive := fun t => p t = p s) _ _ rfl fun t h a _ => (hf t a).trans h

/-! ### Stalls of an instance -/

/-- A unit that differs from the default is listed. -/
theorem Tab.mem_of_get_ne {α : Type} (t : Tab α) (i : Nat) (d : α) (h : Tab.get t i d ≠ d) : (i, Tab.get t i d) ∈ t := by
  induction t with
  | nil => exact absurd rfl h
  | cons e r ih =>
    obtain ⟨j, a⟩ := e
    rw [Tab.get] at h ⊢
    split
    · next hj => rw [hj]; exact List.mem_cons_self
    · next hj => rw [if_neg hj] at h; exact List.mem_cons_of_mem _ (ih h)

theorem State.mem_stallsOf {s : State} {n k : Nat} (h : (s.stall k).owner = some n) : k ∈ s.stallsOf n := by
  have hne : s.stall k ≠ Stall.initial k := fun heq => by
    rw [heq, Stall.initial] at h
    split at h <;> exact absurd h (by simp)
  exact List.mem_map.mpr ⟨(k, s.stall k), List.mem_filter.mpr ⟨Tab.mem_of_get_ne _ _ _ hne, decide_eq_true h⟩, rfl⟩

/-- A stall and its route stand as an instance reset leaves them. -/
def State.stallCleared (s : State) (k : Nat) : Prop := (s.stall k).st = .idle ∧ (s.stall k).area = [] ∧ (s.stall k).notices = []
  ∧ (s.stall k).rsp = {} ∧ (s.route k).lastSeq = 0 ∧ (s.route k).result = none

theorem State.stallReset_cleared (s : State) (j k : Nat) (h : k = j ∨ s.stallCleared k) : (s.stallReset j).stallCleared k := by
  unfold State.stallCleared
  rw [State.stallReset_stall, State.stallReset_route]
  by_cases hk : k = j
  · rw [if_pos hk, if_pos hk]
    exact ⟨rfl, rfl, rfl, rfl, rfl, rfl⟩
  · rw [if_neg hk, if_neg hk]
    exact h.resolve_left hk

theorem State.foldl_stallReset_cleared (l : List Nat) (s : State) (k : Nat) (h : k ∈ l ∨ s.stallCleared k) :
    (l.foldl (fun t j => t.stallReset j) s).stallCleared k := by
  induction l generalizing s with
  | nil => exact h.resolve_left (by simp)
  | cons j l ih =>
    refine ih _ ?_
    rcases h with h | h
    · rcases List.mem_cons.mp h with rfl | h
      · exact .inr (s.stallReset_cleared _ _ (.inl rfl))
      · exact .inl h
    · exact .inr (s.stallReset_cleared _ _ (.inr h))

theorem State.stallsReset_cleared {s : State} {n k : Nat} (h : (s.stall k).owner = some n) : (s.stallsReset n).stallCleared k :=
  State.foldl_stallReset_cleared _ _ _ (.inl (State.mem_stallsOf h))

/-- The reset of the stalls changes their records alone. -/
theorem State.stallsReset_frame (s : State) (n : Nat) : s.mgmtOnly (s.stallsReset n) ∧ s.recordsOnly (s.stallsReset n) :=
  List.foldlRecOn (motive := fun t => s.mgmtOnly t ∧ s.recordsOnly t) _ _ ⟨rfl, rfl⟩ fun _ ⟨hmgmt, hrec⟩ _ _ =>
    ⟨State.mgmtOnly_trans hmgmt rfl, State.recordsOnly_trans hrec rfl⟩

/-! ### The beginning of the sequence -/

section Begin

variable (s : State) (n : Nat)

/-- The instance as the sequence begins. -/
def Inst.begun (i : Inst) : Inst := { i with resetBegun := true, drained := false }

/-- Step 1 resets the stalls of a state that has begun the sequence, and whose engines have stopped. -/
theorem State.instBegin_eq : ∃ u : State, u.quiet = (s.updInst n Inst.begun).quiet ∧ s.instBegin n = u.stallsReset n := by
  refine ⟨_, ?_, rfl⟩
  simp
  rfl

theorem State.instBegin_supply_aon : (s.instBegin n).supply = s.supply ∧ (s.instBegin n).aon = s.aon := by
  obtain ⟨u, hquiet, heq⟩ := s.instBegin_eq n
  have hseat := congrArg Prod.fst hquiet
  obtain ⟨hmgmt, -⟩ := u.stallsReset_frame n
  rw [heq, State.mgmtOnly_supply hmgmt, State.mgmtOnly_aon hmgmt]
  exact ⟨congrArg (·.1) hseat, congrArg (·.2.1) hseat⟩

theorem State.instBegin_inst (m : Nat) : (s.instBegin n).inst m = if m = n then (s.inst n).begun else s.inst m := by
  obtain ⟨u, hquiet, heq⟩ := s.instBegin_eq n
  obtain ⟨-, hrec⟩ := u.stallsReset_frame n
  rw [heq, State.inst_of_recordsOnly hrec, State.inst_of_mgmt (congrArg (fun q => q.1.2.2) hquiet), State.inst_updInst]

theorem State.instBegin_cleared {k : Nat} (h : (s.stall k).owner = some n) : (s.instBegin n).stallCleared k := by
  obtain ⟨u, hquiet, heq⟩ := s.instBegin_eq n
  rw [heq]
  exact State.stallsReset_cleared ((congrArg Stall.owner (State.stall_of_mgmt (s := s.updInst n Inst.begun) (congrArg (fun q => q.1.2.2) hquiet) k)).trans h)

theorem State.instMayBegin_supply_aon : (s.instMayBegin n).supply = s.supply ∧ (s.instMayBegin n).aon = s.aon := by
  unfold State.instMayBegin
  split
  · exact ⟨rfl, rfl⟩
  · exact s.instBegin_supply_aon n

theorem State.instMayBegin_inst (m : Nat) : (s.instMayBegin n).inst m
    = if m = n ∧ (s.inst n).drain = none then (s.inst n).begun else s.inst m := by
  unfold State.instMayBegin
  cases hdrain : (s.inst n).drain with
  | none => simp [State.instBegin_inst]
  | some d => simp

theorem State.instMayBegin_cleared {k : Nat} (hdrain : (s.inst n).drain = none) (h : (s.stall k).owner = some n) :
    (s.instMayBegin n).stallCleared k := by
  rw [State.instMayBegin, hdrain]
  exact s.instBegin_cleared n h

end Begin

/-! ### The abort -/

section Abort

variable (s : State) (n : Nat)

/-- The headers on the buses of a list of LIN channels end. -/
def State.linsHush (s : State) (l : List Nat) : State := l.foldl (fun t c => t.updLin c (fun u => { u with header := none })) s

theorem State.linsHush_calm (l : List Nat) : (s.linsHush l).calm.1 = s.calm.1 := by
  unfold State.linsHush
  exact State.foldl_same (fun t => t.calm.1) (fun _ _ => by rfl) _ _

theorem State.linsHush_headers (l : List Nat) (c : Nat) (h : c ∈ l ∨ s.headers c = none) : (s.linsHush l).headers c = none := by
  induction l generalizing s with
  | nil => exact h.resolve_left (by simp)
  | cons j l ih =>
    refine ih _ ?_
    by_cases hc : c = j
    · exact .inr (by rw [State.headers, State.lin_updLin, if_pos hc])
    · refine h.imp (fun hmem => (List.mem_cons.mp hmem).resolve_left hc) fun hnone => ?_
      rw [State.headers, State.lin_updLin, if_neg hc]
      exact hnone

/-- The instance as the abort leaves it. -/
def Inst.aborted (items : Nat) (i : Inst) : Inst := { i with drained := true, aborts := BitVec.ofNat 32 items }

/-- Instances that differ in their accounts of refused doorbells alone. -/
theorem Inst.eq_of_noDb {i j : Inst} (h : i.noDb = j.noDb) :
    i = { j with dbRefused := i.dbRefused, dbLast := i.dbLast } := by
  cases i
  cases j
  simp only [Inst.noDb, Inst.mk.injEq] at h ⊢
  simp only [h, and_self]

/-- The queue pairs and the object sets of an instance are aborted. -/
def State.sendersAbort : State :=
  let s0 := (s.handlesOf n 0x01).foldl (fun t q => t.qpAbort q 0x0022 true) s
  (s0.handlesOf n 0x02).foldl (fun t k => t.setAbort k 0x0022 false) s0

theorem State.sendersAbort_calm : (s.sendersAbort n).calm = s.calm :=
  (State.foldl_calm (fun _ t => State.calm_of_quiet (t.setAbort_quiet _ _ _)) _ _).trans
    (State.foldl_calm (fun _ t => t.qpAbort_calm _ _ _) _ _)

/-- The rings and the Pass windows of an instance are aborted. -/
def State.ringsAbort : State := ((s.handlesOf n 0x06).foldl (fun t r => t.ringFlush r 0x0022 true false) s).passFree n

theorem State.ringsAbort_calm : (s.ringsAbort n).calm = s.calm :=
  (State.calm_of_quiet (State.passFree_quiet _ n)).trans (State.foldl_calm (fun _ t => t.ringFlush_calm _ _ _ _) _ _)

/-- The work of an instance in the engines is aborted. -/
def State.workAbort : State := ((s.sendersAbort n).linsHush ((s.sendersAbort n).handlesOf n 3)).ringsAbort n

/-- Step 3 ends the work in the engines and then marks the instance. -/
theorem State.instAbort_eq : s.instAbort n = (s.workAbort n).updInst n (Inst.aborted (s.instItems n)) := rfl

theorem State.workAbort_calm : (s.workAbort n).calm.1 = s.calm.1 := by
  rw [State.workAbort, State.ringsAbort_calm, State.linsHush_calm, State.sendersAbort_calm]

theorem State.workAbort_headers (c : Nat) (h : c ∈ s.handlesOf n 3) : ((s.workAbort n).lin c).header = none := by
  have hhandles : (s.sendersAbort n).handlesOf n 3 = s.handlesOf n 3 :=
    State.handlesOf_of_handles (congrArg (fun q => q.1.2.2.1) (s.sendersAbort_calm n)) n 3
  rw [← State.headers, State.workAbort, hhandles]
  exact (congrFun (congrArg Prod.snd (State.ringsAbort_calm _ n)) c).trans (State.linsHush_headers _ _ c (.inl h))

theorem State.lin_after_updInst (f : Inst → Inst) (c : Nat) : (s.updInst n f).lin c = s.lin c := rfl

theorem State.workAbort_inst (m : Nat) : (s.workAbort n).inst m = { s.inst m with
    dbRefused := ((s.workAbort n).inst m).dbRefused, dbLast := ((s.workAbort n).inst m).dbLast } :=
  Inst.eq_of_noDb (congrFun (congrArg (fun q => q.2.2.2) (s.workAbort_calm n)) m)

theorem State.instAbort_supply_aon : (s.instAbort n).supply = s.supply ∧ (s.instAbort n).aon = s.aon := by
  rw [State.instAbort_eq]
  exact ⟨congrArg (·.1) (s.workAbort_calm n), congrArg (·.2.1) (s.workAbort_calm n)⟩

theorem State.instAbort_inst : (s.instAbort n).inst n = { (s.inst n).aborted (s.instItems n) with
    dbRefused := ((s.workAbort n).inst n).dbRefused, dbLast := ((s.workAbort n).inst n).dbLast } := by
  rw [State.instAbort_eq, State.inst_updInst, if_pos rfl, State.workAbort_inst]
  rfl

/-- What the abort writes of an instance, whatever its accounts of refused doorbells. -/
theorem Inst.aborted_marks (i : Inst) (items : Nat) (refused : U32) (last : U16) :
    ({ i.aborted items with dbRefused := refused, dbLast := last } : Inst).drained = true
      ∧ ({ i.aborted items with dbRefused := refused, dbLast := last } : Inst).st = i.st
      ∧ ({ i.aborted items with dbRefused := refused, dbLast := last } : Inst).aborts = BitVec.ofNat 32 items := ⟨rfl, rfl, rfl⟩

theorem State.instAbort_marks : ((s.instAbort n).inst n).drained = true ∧ ((s.instAbort n).inst n).st = (s.inst n).st
    ∧ ((s.instAbort n).inst n).aborts = BitVec.ofNat 32 (s.instItems n) := by
  rw [State.instAbort_inst]
  exact Inst.aborted_marks _ _ _ _

theorem State.instAbort_headers {c : Nat} (h : c ∈ s.handlesOf n 3) : ((s.instAbort n).lin c).header = none := by
  rw [State.instAbort_eq, State.lin_after_updInst]
  exact s.workAbort_headers n c h

end Abort

/-! ### The clearing and the report -/

section Clear

variable (s : State) (n : Nat)

/-- The contexts of queue pairs, object sets, LIN channels and rings are cleared. -/
def State.contextsClear : State :=
  let s1 := (s.handlesOf n 0x01).foldl (fun t q => t.qpClear q) s
  let s2 := (s1.handlesOf n 0x02).foldl (fun t k => (t.setZero k).setStop k false) s1
  let s3 := (s2.handlesOf n 0x03).foldl (fun t c => (t.linClear c).linHalt c false) s2
  (s3.handlesOf n 0x06).foldl (fun t r => t.updRing r (fun g => { g with
    sqTail := 0, sqHead := 0, cqTail := 0, cqHead := 0, run := false, stopped := false })) s3

theorem State.contextsClear_seat : (s.contextsClear n).seat = s.seat := by
  unfold State.contextsClear
  extract_lets s1 s2 s3
  have h1 : s1.quiet = s.quiet := State.foldl_quiet (fun _ t => t.qpClear_quiet _) _ _
  have h2 : s2.quiet = s1.quiet := State.foldl_quiet (fun k t => ((t.setZero k).setStop_quiet k false).trans (t.setZero_quiet k)) _ _
  have hlin (t : State) (c : Nat) : ((t.linClear c).linHalt c false).seat = t.seat := rfl
  have h3 : s3.seat = s2.seat := State.foldl_same State.seat hlin _ _
  exact (State.seat_of_quiet (State.foldl_quiet (fun r t => t.updRing_quiet r _) _ _)).trans
    (h3.trans (State.seat_of_quiet (h2.trans h1)))

/-- A comparator as a reset of its owner leaves it. -/
def Comparator.cleared (u : Comparator) : Comparator := { u with arm := false, fired := false, missed := 0, cmp := 0, period := 0 }

/-- The comparators of a list are cleared. -/
def State.timersClear (s : State) (l : List Nat) : State := l.foldl (fun t c => t.updTimer c Comparator.cleared) s

theorem State.timersClear_quiet (l : List Nat) : (s.timersClear l).quiet = s.quiet :=
  State.foldl_quiet (fun c t => t.updTimer_quiet c Comparator.cleared) _ _

/-- A comparator does not fire. -/
def Comparator.disarmed (c : Comparator) : Prop := c.arm = false ∧ c.fired = false ∧ c.cmp = 0 ∧ c.period = 0

theorem State.timersClear_disarmed (l : List Nat) (c : Nat) (h : c ∈ l ∨ (s.timer c).disarmed) : ((s.timersClear l).timer c).disarmed := by
  induction l generalizing s with
  | nil => exact h.resolve_left (by simp)
  | cons j l ih =>
    refine ih _ ?_
    rw [State.timer_updTimer]
    by_cases hc : c = j
    · rw [if_pos hc]
      exact .inr ⟨rfl, rfl, rfl, rfl⟩
    · rw [if_neg hc]
      exact h.imp_left fun hmem => (List.mem_cons.mp hmem).resolve_left hc

/-- Loads, inputs and windows of an instance go on. -/
def State.pagesResume : State :=
  ((s.loadsMute n (s.fnOff n 0x07 0) false).inputsStop n (s.fnOff n 0x08 0) (s.fnOff n 0x08 0) true).winsStop n false

theorem State.pagesResume_quiet : (s.pagesResume n).quiet = s.quiet :=
  (State.winsStop_quiet _ _ _).trans ((State.inputsStop_quiet _ _ _ _ _).trans (State.loadsMute_quiet _ _ _ _))

theorem State.pagesResume_timers : (s.pagesResume n).timers = s.timers := by
  have hloads (t : State) (g : Nat) : (t.onPs (fun p => { p with groups := Tab.upd p.groups g {} (fun u => { u with
    muted := s.fnOff n 0x07 0 }) })).timers = t.timers := rfl
  have hinputs (t : State) (g : Nat) (f : InGroup → InGroup) : (t.updInGroup g f).timers = t.timers := rfl
  exact (State.foldl_same State.timers (fun t g => hinputs t g _) _ _).trans (State.foldl_same State.timers hloads _ _)

/-- Step 5 in its parts. -/
theorem State.instClear_eq : s.instClear n
    = ((s.contextsClear n).timersClear ((s.contextsClear n).handlesOf n 0x0B)).pagesResume n := rfl

theorem State.instClear_seat : (s.instClear n).seat = s.seat := by
  rw [State.instClear_eq, State.seat_of_quiet (State.pagesResume_quiet _ _), State.seat_of_quiet (State.timersClear_quiet _ _),
    State.contextsClear_seat]

theorem State.instClear_disarmed {c : Nat} (h : c ∈ s.handlesOf n 0x0B) : ((s.instClear n).timer c).disarmed := by
  have hhandles : (s.contextsClear n).handlesOf n 0x0B = s.handlesOf n 0x0B :=
    State.handlesOf_of_handles (congrArg (fun q : Supply × Aon × Mgmt => q.2.2.handles) (s.contextsClear_seat n)) n 0x0B
  rw [State.instClear_eq, hhandles, State.timer, State.pagesResume_timers]
  exact State.timersClear_disarmed _ _ c (.inl h)

end Clear

end Sys2Proof.Machine

/-! SUPPORT. Function disable, and reset and destruction of an instance: the report of a reset, the end of an instance, and the own parts of
the commands (Machine/Resets.lean). -/

namespace Sys2Proof.Machine

open Sys2Proof

/-! ### The report and the end -/

section Report

variable (s : State) (n : Nat)

/-- The notice of a reset changes the records of routes and stalls alone. -/
theorem State.resetNotice_frame (w : Option (Nat × U16)) : s.mgmtOnly (s.resetNotice w) ∧ s.recordsOnly (s.resetNotice w) := by
  unfold State.resetNotice State.completeQuiet
  split
  · exact ⟨rfl, rfl⟩
  · split
    · split <;> exact ⟨rfl, rfl⟩
    · exact ⟨s.complete_mgmtOnly _ _ _ _ _, s.complete_recordsOnly _ _ _ _ _⟩

/-- The instance as its reset ends. -/
def Inst.reported (now : U64) (i : Inst) : Inst := { i with
  st := .live, resets := i.resets + 1, resetTime := now, resetReq := none, resetBegun := false, drained := false }

/-- A state whose work has been aborted, where it was not before. -/
def State.drainedFirst : State := if (s.inst n).drained then s else s.instAbort n

/-- States that agree where a sequence is not at work agree in these parts. -/
theorem State.parts_of_seat {s t : State} (h : t.seat = s.seat) : t.supply = s.supply ∧ t.aon = s.aon ∧ t.mgmt = s.mgmt :=
  ⟨congrArg (·.1) h, congrArg (·.2.1) h, congrArg (·.2.2) h⟩

theorem State.instReport_eq (hst : (s.inst n).st = .resetting) (hreq : (s.inst n).destroyReq = []) : s.instReport n
    = (((s.drainedFirst n).instClear n).updInst n (Inst.reported s.now)).resetNotice (s.inst n).resetReq := by
  have hnot : (s.inst n).st ≠ .destroying := by simp [hst]
  simp only [State.instReport, if_neg hnot, hreq, List.isEmpty_nil, if_true]
  rfl

theorem State.drainedFirst_frame : (s.drainedFirst n).supply = s.supply ∧ (s.drainedFirst n).aon = s.aon
    ∧ ((s.drainedFirst n).inst n).resets = (s.inst n).resets ∧ ((s.drainedFirst n).inst n).shares = (s.inst n).shares := by
  unfold State.drainedFirst
  split
  · exact ⟨rfl, rfl, rfl, rfl⟩
  · obtain ⟨hsupply, haon⟩ := s.instAbort_supply_aon n
    rw [State.instAbort_inst]
    exact ⟨hsupply, haon, rfl, rfl⟩

/-- What a change of one instance and the notice of its reset leave. -/
theorem State.resetNotice_updInst (f : Inst → Inst) (w : Option (Nat × U16)) : ((s.updInst n f).resetNotice w).inst n = f (s.inst n)
    ∧ ((s.updInst n f).resetNotice w).timers = s.timers ∧ ((s.updInst n f).resetNotice w).aon = s.aon
    ∧ ((s.updInst n f).resetNotice w).supply = s.supply := by
  obtain ⟨hmgmt, hrec⟩ := (s.updInst n f).resetNotice_frame w
  refine ⟨?_, State.mgmtOnly_timers hmgmt, State.mgmtOnly_aon hmgmt, State.mgmtOnly_supply hmgmt⟩
  rw [State.inst_of_recordsOnly hrec, State.inst_updInst, if_pos rfl]

/-- What the end of a reset leaves. -/
theorem State.instReport_frame (hst : (s.inst n).st = .resetting) (hreq : (s.inst n).destroyReq = []) :
    (s.instReport n).inst n = ((s.drainedFirst n).inst n).reported s.now ∧ (s.instReport n).timers = ((s.drainedFirst n).instClear n).timers
      ∧ (s.instReport n).aon = s.aon ∧ (s.instReport n).supply = s.supply := by
  obtain ⟨hsupply, haon, -, -⟩ := s.drainedFirst_frame n
  obtain ⟨hclearSupply, hclearAon, hclearMgmt⟩ := State.parts_of_seat ((s.drainedFirst n).instClear_seat n)
  obtain ⟨hinst, htimers, hnoticeAon, hnoticeSupply⟩ :=
    ((s.drainedFirst n).instClear n).resetNotice_updInst n (Inst.reported s.now) (s.inst n).resetReq
  rw [State.instReport_eq s n hst hreq, hinst, htimers, hnoticeAon, hnoticeSupply, hclearAon, hclearSupply, haon, hsupply,
    State.inst_of_mgmt hclearMgmt]
  exact ⟨rfl, rfl, rfl, rfl⟩

theorem State.reported_marks : (((s.drainedFirst n).inst n).reported s.now).st = .live
    ∧ (((s.drainedFirst n).inst n).reported s.now).resets = (s.inst n).resets + 1
    ∧ (((s.drainedFirst n).inst n).reported s.now).resetTime = s.tb.localT ∧ (((s.drainedFirst n).inst n).reported s.now).resetReq = none
    ∧ (((s.drainedFirst n).inst n).reported s.now).shares = (s.inst n).shares := by
  obtain ⟨-, -, hresets, hshares⟩ := s.drainedFirst_frame n
  exact ⟨rfl, congrArg (· + 1) hresets, rfl, rfl, hshares⟩

/-- A guest as the last of its stalls, files, shares and cells leave it. -/
def Inst.dropped (i : Inst) : Inst := { i with
  st := .free, shares := [], drain := none, disabled := [], resetReq := none, resetBegun := false, drained := false, destroyReq := [] }

/-- The stalls of an instance are withdrawn. -/
def State.stallsClose : State := (s.stallsOf n).foldl (fun t k => t.stallClose k) s

theorem State.stallsClose_eq : s.stallsClose n = { s with mgmt := (s.stallsClose n).mgmt } ∧ (s.stallsClose n).mgmt.insts = s.mgmt.insts :=
  List.foldlRecOn (motive := fun t : State => t = { s with mgmt := t.mgmt } ∧ t.mgmt.insts = s.mgmt.insts) _ _ ⟨rfl, rfl⟩
    fun t ⟨hsame, hinsts⟩ k _ => ⟨by rw [hsame]; rfl, hinsts⟩

/-- A guest leaves files, regulator, market account, shares and DRAM regions. -/
def State.guestLeave : State :=
  (((s.onCore (fun c => { c with
    guestFiles := c.guestFiles.filter (fun e => e.2 ≠ n), regs := Tab.upd c.regs n {} Regulator.leave })).acctEnd n).updInst n
      Inst.dropped).rebuildDram

theorem State.instDrop_eq : s.instDrop n = (s.stallsClose n).guestLeave n := rfl

theorem State.guestLeave_supply : (s.guestLeave n).supply = s.supply := by simp [State.guestLeave, State.rebuildDram, State.acctEnd]

theorem State.guestLeave_aon : (s.guestLeave n).aon = s.aon := by simp [State.guestLeave, State.rebuildDram, State.acctEnd]

theorem State.guestLeave_mgmt : (s.guestLeave n).mgmt = (s.updInst n Inst.dropped).mgmt := by
  simp [State.guestLeave, State.rebuildDram, State.acctEnd, State.updInst]

theorem State.guestLeave_regs : (s.guestLeave n).core.regs = Tab.upd s.core.regs n {} Regulator.leave := by
  simp [State.guestLeave, State.rebuildDram, State.acctEnd]

theorem State.guestLeave_files : (s.guestLeave n).core.guestFiles = s.core.guestFiles.filter (fun e => e.2 ≠ n) := by
  simp [State.guestLeave, State.rebuildDram, State.acctEnd]

theorem State.instDrop_inst (m : Nat) : (s.instDrop n).inst m = if m = n then (s.inst n).dropped else s.inst m := by
  have hsame (k : Nat) : (s.stallsClose n).inst k = s.inst k := State.inst_of_insts (s.stallsClose_eq n).2 k
  rw [State.instDrop_eq, State.inst_of_mgmt (State.guestLeave_mgmt _ n), State.inst_updInst, hsame, hsame]

theorem State.instDrop_reg (m : Nat) : (s.instDrop n).reg m = if m = n then (s.reg n).leave else s.reg m := by
  obtain ⟨hsame, -⟩ := s.stallsClose_eq n
  rw [State.reg, State.instDrop_eq, State.guestLeave_regs, hsame]
  exact Tab.get_upd _ _ _ _ _

theorem State.instDrop_files {f : Nat × Nat} (h : f ∈ (s.instDrop n).core.guestFiles) : f.2 ≠ n := by
  rw [State.instDrop_eq, State.guestLeave_files] at h
  exact of_decide_eq_true (List.mem_filter.mp h).2

theorem State.instDrop_supply_aon : (s.instDrop n).supply = s.supply ∧ (s.instDrop n).aon = s.aon := by
  obtain ⟨hsame, -⟩ := s.stallsClose_eq n
  rw [State.instDrop_eq, State.guestLeave_supply, State.guestLeave_aon, hsame]
  exact ⟨rfl, rfl⟩

end Report

/-! ### The own parts of the commands -/

section Commands

variable {s : State} {rq : Request} {n : Nat}

theorem ownFnDisable_draining (hlive : (s.inst (u8At rq.payload 0)).st = .live) (h : (s.inst (u8At rq.payload 0)).drain ≠ none) :
    ownFnDisable rq s = no s .busy := by
  simp only [ownFnDisable, State.lifeSays_live _ hlive, Option.isSome_iff_ne_none.mpr h, if_true]

theorem ownFnDisable_off (hlive : (s.inst (u8At rq.payload 0)).st = .live) (hdrain : (s.inst (u8At rq.payload 0)).drain = none)
    (hoff : s.fnOff (u8At rq.payload 0) (u8At rq.payload 1) (u8At rq.payload 2) = true) : ownFnDisable rq s = yes s := by
  simp [ownFnDisable, State.lifeSays_live _ hlive, hdrain, hoff]

/-- An instance with a function disabled. -/
def Inst.withOff (i : Inst) (f : Nat × Nat) : Inst := { i with disabled := f :: i.disabled }

/-- An instance with a function enabled. -/
def Inst.withOn (i : Inst) (f : Nat × Nat) : Inst := { i with disabled := i.disabled.filter (fun g => g ≠ f) }

theorem Inst.withOn_of_on {i : Inst} {f : Nat × Nat} (h : i.disabled.contains f = false) : i.withOn f = i := by
  have hall : i.disabled.filter (fun g => g ≠ f) = i.disabled := by
    refine List.filter_eq_self.mpr fun g hg => decide_eq_true ?_
    rintro rfl
    rw [List.contains_iff_mem.mpr hg] at h
    exact Bool.false_ne_true h.symm
  rw [Inst.withOn, hall]

/-- The state after a function has been disabled: the engine has stopped. -/
def State.fnStopped (s : State) (n kind sel : Nat) : State := (s.updInst n (·.withOff (kind, sel))).fnStop n kind sel

/-- The drain that a request starts. -/
def Request.drainOf (rq : Request) : Drain := { kind := u8At rq.payload 1, sel := u8At rq.payload 2, waiter := (rq.route.key, rq.seq) }

theorem ownFnDisable_on (hlive : (s.inst (u8At rq.payload 0)).st = .live) (hdrain : (s.inst (u8At rq.payload 0)).drain = none)
    (hon : s.fnOff (u8At rq.payload 0) (u8At rq.payload 1) (u8At rq.payload 2) = false) : ownFnDisable rq s =
      if (s.fnStopped (u8At rq.payload 0) (u8At rq.payload 1) (u8At rq.payload 2)).fnBusy (u8At rq.payload 0) (u8At rq.payload 1)
          (u8At rq.payload 2) then
        ((s.fnStopped (u8At rq.payload 0) (u8At rq.payload 1) (u8At rq.payload 2)).updInst (u8At rq.payload 0) (fun i => { i with
          drain := some rq.drainOf }), { st := .pending })
      else yes (s.fnStopped (u8At rq.payload 0) (u8At rq.payload 1) (u8At rq.payload 2)) := by
  simp only [ownFnDisable, State.lifeSays_live _ hlive, hdrain, hon, Option.isSome_none, Bool.false_eq_true, if_false]
  rfl

/-- Timers hold no work. -/
theorem State.fnStopped_timers (s : State) (n : Nat) : s.fnStopped n 0x0D 0 = s.updInst n (·.withOff (0x0D, 0)) := rfl

theorem State.fnBusy_timers (s : State) (n sel : Nat) : s.fnBusy n 0x0D sel = false := rfl

/-- A LIN channel holds work while a header is on the bus. -/
theorem State.fnStopped_lin (s : State) (n sel : Nat) : s.fnStopped n 4 sel = s.updInst n (·.withOff (4, sel)) := rfl

theorem State.fnBusy_lin (s : State) (n sel : Nat) : s.fnBusy n 4 sel = ((s.handlesOf n 3).contains sel && (s.lin sel).header.isSome) := rfl

theorem ownFnEnable_eq (hlive : (s.inst (u8At rq.payload 0)).st = .live) (hdrain : (s.inst (u8At rq.payload 0)).drain = none)
    (hloads : u8At rq.payload 1 ≠ 7) (hinputs : u8At rq.payload 1 ≠ 8) : ownFnEnable rq s =
      if s.fnOff (u8At rq.payload 0) (u8At rq.payload 1) (u8At rq.payload 2) then
        yes (s.updInst (u8At rq.payload 0) (·.withOn (u8At rq.payload 1, u8At rq.payload 2)))
      else yes s := by
  simp only [ownFnEnable, State.lifeSays_live _ hlive, hdrain, Option.isSome_none, Bool.false_eq_true, if_false, ite_not,
    State.fnResume, if_neg hloads, if_neg hinputs]
  rfl

/-- An instance that a request is to reset. -/
def Inst.resetFor (i : Inst) (rq : Request) : Inst := { i with st := .resetting, resetReq := some (rq.route.key, rq.seq) }

/-- The state after a reset has been taken. -/
def State.resetTaken (s : State) (rq : Request) (n : Nat) : State := (s.updInst n (·.resetFor rq)).instMayBegin n

theorem State.resetTaken_inst (s : State) (rq : Request) (n : Nat) : (s.resetTaken rq n).inst n
    = if (s.inst n).drain = none then ((s.inst n).resetFor rq).begun else (s.inst n).resetFor rq := by
  rw [State.resetTaken, State.instMayBegin_inst, State.inst_updInst, if_pos rfl]
  simp [Inst.resetFor]

theorem State.resetTaken_inst_ne (s : State) (rq : Request) {n m : Nat} (hm : m ≠ n) : (s.resetTaken rq n).inst m = s.inst m := by
  rw [State.resetTaken, State.instMayBegin_inst, if_neg fun h => hm h.1, State.inst_updInst, if_neg hm]

theorem State.resetTaken_cleared {k : Nat} (hdrain : (s.inst n).drain = none) (h : (s.stall k).owner = some n) :
    (s.resetTaken rq n).stallCleared k :=
  State.instMayBegin_cleared _ n (by rw [State.inst_updInst, if_pos rfl]; exact hdrain) h

theorem ownInstanceReset_denied (hgst : rq.route.issuer = .gst) (hother : u8At rq.payload 0 ≠ s.issuerInst rq.route) :
    ownInstanceReset rq s = no s .denied := if_pos ⟨hgst, hother⟩

section Manager

variable (hroute : rq.route = .stall 0) (h1 : 1 ≤ u8At rq.payload 0) (h62 : u8At rq.payload 0 ≤ 62)

include hroute h1 h62

theorem ownInstanceReset_of_life {e : Status} (h : s.lifeSays (u8At rq.payload 0) false = some e) : ownInstanceReset rq s = no s e := by
  have hmgr : rq.route.issuer ≠ .gst := by simp [hroute, Route.issuer]
  have hguest : ¬ (u8At rq.payload 0 = 0 ∨ 63 ≤ u8At rq.payload 0) := by omega
  simp only [ownInstanceReset, hmgr, false_and, if_false, if_neg hguest, h]

theorem ownInstanceReset_live (h : (s.inst (u8At rq.payload 0)).st = .live) : ownInstanceReset rq s =
    (s.resetTaken rq (u8At rq.payload 0), { st := .pending }) := by
  have hmgr : rq.route.issuer ≠ .gst := by simp [hroute, Route.issuer]
  have hguest : ¬ (u8At rq.payload 0 = 0 ∨ 63 ≤ u8At rq.payload 0) := by omega
  simp only [ownInstanceReset, hmgr, false_and, if_false, if_neg hguest, State.lifeSays_live _ h, State.resetTaken, Inst.resetFor]

end Manager

/-- An instance that a request is to destroy. -/
def Inst.destroyedBy (i : Inst) (rq : Request) : Inst := { i with destroyReq := i.destroyReq ++ [(rq.route.key, rq.seq)] }

/-- The state after a destruction of a live instance has been taken. -/
def State.destroyTaken (s : State) (rq : Request) (n : Nat) : State :=
  ((s.updInst n (·.destroyedBy rq)).updInst n (fun i => { i with st := .destroying })).instMayBegin n

theorem State.destroyTaken_inst (s : State) (rq : Request) (n : Nat) : ((s.destroyTaken rq n).inst n).st = .destroying
    ∧ ((s.destroyTaken rq n).inst n).destroyReq = (s.inst n).destroyReq ++ [(rq.route.key, rq.seq)] := by
  rw [State.destroyTaken, State.instMayBegin_inst, State.inst_updInst, if_pos rfl, State.inst_updInst, if_pos rfl]
  split <;> exact ⟨rfl, rfl⟩

section Destroy

variable (h1 : 1 ≤ u8At rq.payload 0) (h62 : u8At rq.payload 0 ≤ 62)

include h1 h62

theorem ownInstanceDestroy_of_life {e : Status} (h : s.lifeSays (u8At rq.payload 0) true = some e) : ownInstanceDestroy rq s = no s e := by
  have hguest : ¬ (u8At rq.payload 0 = 0 ∨ 63 ≤ u8At rq.payload 0) := by omega
  simp only [ownInstanceDestroy, if_neg hguest, h]

theorem ownInstanceDestroy_live (h : (s.inst (u8At rq.payload 0)).st = .live) : ownInstanceDestroy rq s =
    (s.destroyTaken rq (u8At rq.payload 0), { st := .pending }) := by
  have hguest : ¬ (u8At rq.payload 0 = 0 ∨ 63 ≤ u8At rq.payload 0) := by omega
  simp only [ownInstanceDestroy, if_neg hguest, State.lifeSays_live _ h, h, if_true, State.destroyTaken, Inst.destroyedBy]

theorem ownInstanceDestroy_resetting (h : (s.inst (u8At rq.payload 0)).st = .resetting) : ownInstanceDestroy rq s =
    (s.updInst (u8At rq.payload 0) (·.destroyedBy rq), { st := .pending }) := by
  have hguest : ¬ (u8At rq.payload 0 = 0 ∨ 63 ≤ u8At rq.payload 0) := by omega
  have hlife : s.lifeSays (u8At rq.payload 0) true = none := State.lifeSays_resetting true h
  have hnot : (s.inst (u8At rq.payload 0)).st ≠ .live := by simp [h]
  simp only [ownInstanceDestroy, if_neg hguest, hlife, if_neg hnot, Inst.destroyedBy]

end Destroy

/-! ### What the other commands do -/

theorem does_fnDisableDrainTimeout {d : Drain} (hn : n < 63) (hdrain : (s.inst n).drain = some d) (hkind : d.kind = 4) :
    Does (.fnDisableDrainTimeout n) s (s.updLin d.sel (fun l => { l with header := none })) := by
  have hexec : exec (.fnDisableDrainTimeout n) s = execFnDisableDrainTimeout n s := rfl
  have habort : s.fnAbort n d.kind d.sel = s.updLin d.sel (fun l => { l with header := none }) := by rw [hkind]; rfl
  simp only [Does, hexec, execFnDisableDrainTimeout, Nat.not_le.mpr hn, if_false, hdrain, habort, fin]

theorem does_fnDisableComplete {d : Drain} (hn : n < 63) (hdrain : (s.inst n).drain = some d) (hkind : d.kind = 4)
    (hheader : (s.lin d.sel).header = none) (hlive : (s.inst n).st = .live) : Does (.fnDisableComplete n) s
      ((s.updInst n (fun i => { i with drain := none })).complete d.waiter.1 d.waiter.2 .ok 0 []) := by
  have hexec : exec (.fnDisableComplete n) s = execFnDisableComplete n s := rfl
  have hidle : s.fnBusy n d.kind d.sel = false := by rw [hkind, State.fnBusy_lin, hheader, Option.isSome_none, Bool.and_false]
  simp only [Does, hexec, execFnDisableComplete, Nat.not_le.mpr hn, if_false, hdrain, hidle, hlive, if_true, fin, Bool.false_eq_true]

theorem does_instanceResetDrainEnd (hn : n ≤ 62) (hbegun : (s.inst n).resetBegun = true) (hfull : (s.inst n).drained = false) :
    Does (.instanceResetDrainEnd n) s (s.instAbort n) := by
  have hexec : exec (.instanceResetDrainEnd n) s = execInstanceResetDrainEnd n s := rfl
  have hguest : ¬ 63 ≤ n := by omega
  simp only [Does, hexec, execInstanceResetDrainEnd, if_neg hguest, hbegun, hfull, Bool.false_eq_true, not_false_eq_true, and_self, if_true,
    fin]

theorem does_instanceResetComplete (hn : n ≤ 62) (hbegun : (s.inst n).resetBegun = true)
    (hidle : (s.inst n).drained = true ∨ s.instBusy n = false) : Does (.instanceResetComplete n) s (s.instReport n) := by
  have hexec : exec (.instanceResetComplete n) s = execInstanceResetComplete n s := rfl
  have hguest : ¬ 63 ≤ n := by omega
  have hnow : (s.inst n).resetBegun ∧ ((s.inst n).drained ∨ ¬ s.instBusy n) :=
    ⟨hbegun, hidle.imp_right fun h => ne_true_of_eq_false h⟩
  simp only [Does, hexec, execInstanceResetComplete, if_neg hguest, if_pos hnow, fin]

theorem does_instanceDestroyComplete (hn : n ≤ 62) (hst : (s.inst n).st = .destroying) (hdrained : (s.inst n).drained = true)
    (hbegun : (s.inst n).resetBegun = false) (hfree : allTypes.all (fun t => (s.handlesOf n t).isEmpty) = true) :
    Does (.instanceDestroyComplete n) s ((s.instDrop n).completeAll (s.inst n).destroyReq .ok []) := by
  have hexec : exec (.instanceDestroyComplete n) s = execInstanceDestroyComplete n s := rfl
  have hguest : ¬ 63 ≤ n := by omega
  simp only [Does, hexec, execInstanceDestroyComplete, if_neg hguest, hst, hdrained, hbegun, hfree, Bool.false_eq_true, not_false_eq_true,
    and_self, if_true, fin]

end Commands

/-! ### A reply to stall 0 -/

/-- The reply to the manager leaves the other stalls and their routes. -/
theorem State.reply_cleared {s : State} {rq : Request} {k : Nat} (a : Ans) (hroute : rq.route = .stall 0) (hk : k ≠ 0)
    (h : s.stallCleared k) : (s.reply rq a).stallCleared k := by
  have hstall : (s.reply rq a).stall k = s.stall k := by rw [State.reply_stall a hroute, if_neg fun h => hk h.2]
  have hrecord : (s.record rq a).route k = s.route k := by rw [State.record, State.route_updRoute, hroute, if_neg (by exact hk)]
  have hreply : (s.reply rq a).route k = s.route k := by
    refine Eq.trans ?_ hrecord
    have hmgmt := State.reply_stall_mgmt (s := s) a hroute
    split at hmgmt
    · exact State.route_of_mgmt hmgmt k
    · exact State.route_of_mgmt hmgmt k
  unfold State.stallCleared
  rw [hstall, hreply]
  exact h

end Sys2Proof.Machine

namespace Sys2Proof.Proofs

open Sys2Proof Sys2Proof.Machine

/-- Settles O41: the commands that begin a sequence by what its first step leaves; the abort by the calm part of the state, which the
records of the engines leave even where they reach a page of registers; the report and the end by their parts. -/
theorem disableResetAndDestroy : Obligations.DisableResetAndDestroy := by
  refine ⟨⟨?disable, ?enable, ?drain⟩, ?reset, ?sequence, ?destroy, ?destroyed⟩
  case disable =>
    rintro rq s _ n rfl htakes - rfl hlive
    refine ⟨fun hdrain => replies_of_own rfl htakes (ownFnDisable_draining hlive hdrain),
      fun hdrain hoff => replies_of_own rfl htakes (ownFnDisable_off hlive hdrain hoff),
      fun hdrain hon hkind hsel => ?_, fun hdrain hon hkind hheld hheader => ?_⟩
    · have hown := ownFnDisable_on (rq := rq) hlive hdrain (by rw [hkind, hsel]; exact hon)
      rw [hkind, hsel, State.fnBusy_timers, if_neg Bool.false_ne_true, State.fnStopped_timers] at hown
      refine ⟨_, replies_of_own rfl htakes hown, ?_, fun m hm => ?_, rfl⟩
      · rw [State.inst_updInst, if_pos rfl]
        rfl
      · rw [State.inst_updInst, if_neg hm]
    · have hown := ownFnDisable_on (rq := rq) hlive hdrain (by rw [hkind]; exact hon)
      have hbusy : ((s.heard rq).fnStopped (u8At rq.payload 0) 4 (u8At rq.payload 2)).fnBusy (u8At rq.payload 0) 4 (u8At rq.payload 2) = true := by
        rw [State.fnBusy_lin, State.fnStopped_lin, Bool.and_eq_true]
        exact ⟨hheld, Option.isSome_iff_ne_none.mpr hheader⟩
      rw [hkind, hbusy, if_pos rfl, State.fnStopped_lin] at hown
      refine ⟨_, replies_of_own rfl htakes hown, ?_, fun m hm => ?_, rfl⟩
      · rw [State.inst_updInst, if_pos rfl, State.inst_updInst, if_pos rfl, Request.drainOf, hkind]
        rfl
      · rw [State.inst_updInst, if_neg hm, State.inst_updInst, if_neg hm]
  case enable =>
    rintro rq s _ n rfl htakes - rfl hlive hdrain hloads hinputs
    have hown := ownFnEnable_eq hlive hdrain hloads hinputs
    cases hoff : (s.heard rq).fnOff (u8At rq.payload 0) (u8At rq.payload 1) (u8At rq.payload 2) with
    | true =>
      rw [hoff, if_pos rfl] at hown
      refine ⟨_, replies_of_own rfl htakes hown, ?_, fun m hm => ?_, rfl⟩
      · rw [State.inst_updInst, if_pos rfl]
        rfl
      · rw [State.inst_updInst, if_neg hm]
    | false =>
      rw [hoff, if_neg Bool.false_ne_true] at hown
      refine ⟨_, replies_of_own rfl htakes hown, ?_, fun _ _ => rfl, rfl⟩
      exact (Inst.withOn_of_on hoff).symm
  case drain =>
    intro s n d hn hdrain hkind
    refine ⟨⟨_, does_fnDisableDrainTimeout hn hdrain hkind, ?_, fun c hc => ?_, rfl⟩, fun hheader hlive =>
      ⟨_, does_fnDisableComplete hn hdrain hkind hheader hlive, ?_⟩⟩
    · rw [State.lin_updLin, if_pos rfl]
    · rw [State.lin_updLin, if_neg hc]
    · have hmgmt := (s.updInst n (fun i => { i with drain := none })).complete_mgmtOnly d.waiter.1 d.waiter.2 .ok 0 []
      have hrec := (s.updInst n (fun i => { i with drain := none })).complete_recordsOnly d.waiter.1 d.waiter.2 .ok 0 []
      refine ⟨?_, fun m hm => ?_, State.mgmtOnly_bus hmgmt, State.mgmtOnly_supply hmgmt⟩
      · rw [State.inst_of_recordsOnly hrec, State.inst_updInst, if_pos rfl]
      · rw [State.inst_of_recordsOnly hrec, State.inst_updInst, if_neg hm]
  case reset =>
    rintro rq s _ n rfl htakes rfl h1 h62
    refine ⟨fun hroute hlive hstall => ?_, fun hgst hother => replies_of_own rfl htakes (ownInstanceReset_denied hgst hother),
      fun hroute hfree => replies_of_own rfl htakes (ownInstanceReset_of_life hroute h1 h62 (State.lifeSays_free _ hfree)),
      fun hroute hend => replies_of_own rfl htakes (ownInstanceReset_of_life hroute h1 h62 (State.lifeSays_ending hend))⟩
    have hkey : rq.route.key = 0 := by rw [hroute]; rfl
    have hmgmt := ((s.heard rq).resetTaken rq (u8At rq.payload 0)).reply_mgmtOnly rq { st := .pending }
    obtain ⟨hsupply, haon⟩ := ((s.heard rq).updInst (u8At rq.payload 0) (·.resetFor rq)).instMayBegin_supply_aon (u8At rq.payload 0)
    refine ⟨_, replies_of_own rfl htakes (ownInstanceReset_live hroute h1 h62 hlive), ?_⟩
    simp only [State.reply_inst, State.resetTaken_inst]
    refine ⟨?_, ?_, ?_, ?_, fun m hm => ?_, fun hdrain _ k hk => ?_, (State.mgmtOnly_aon hmgmt).trans haon,
      (State.mgmtOnly_supply hmgmt).trans hsupply⟩
    · split <;> rfl
    · rw [← hkey]
      split <;> rfl
    · split <;> rfl
    · split <;> rfl
    · rw [State.resetTaken_inst_ne _ _ hm]
      exact ⟨rfl, rfl⟩
    · have hk0 : k ≠ 0 := by
        rintro rfl
        rw [hstall] at hk
        exact absurd hk (by simp)
      exact State.reply_cleared _ hroute hk0 (State.resetTaken_cleared hdrain hk)
  case sequence =>
    intro s n h1 h62 hbegun
    refine ⟨fun hfull => ⟨_, does_instanceResetDrainEnd h62 hbegun hfull, ?_⟩, fun hidle hst hreq =>
      ⟨_, does_instanceResetComplete h62 hbegun hidle, ?_⟩⟩
    · obtain ⟨hsupply, haon⟩ := s.instAbort_supply_aon n
      obtain ⟨hdrained, hst, haborts⟩ := s.instAbort_marks n
      exact ⟨hdrained, hst, haborts, fun c hc => s.instAbort_headers n hc, haon, hsupply⟩
    · obtain ⟨hinst, htimers, haon, hsupply⟩ := s.instReport_frame n hst hreq
      obtain ⟨hlive, hresets, htime, hnone, hshares⟩ := s.reported_marks n
      rw [hinst]
      refine ⟨hlive, hresets, htime, hnone, hshares, fun hdrained c hc => ?_, haon, hsupply⟩
      have htimer : (s.instReport n).timer c = (s.instClear n).timer c := by
        rw [State.timer, htimers, State.drainedFirst, if_pos hdrained, State.timer]
      rw [htimer]
      exact s.instClear_disarmed n hc
  case destroy =>
    rintro rq s _ n rfl htakes hroute rfl h1 h62
    have hkey : rq.route.key = 0 := by rw [hroute]; rfl
    refine ⟨fun hlive => ⟨_, replies_of_own rfl htakes (ownInstanceDestroy_live h1 h62 hlive), ?_⟩,
      fun hres => ⟨_, replies_of_own rfl htakes (ownInstanceDestroy_resetting h1 h62 hres), ?_, fun m hm => ?_, rfl⟩,
      fun hend => replies_of_own rfl htakes (ownInstanceDestroy_of_life h1 h62 (State.lifeSays_destroying _ hend)),
      fun hfree => replies_of_own rfl htakes (ownInstanceDestroy_of_life h1 h62 (State.lifeSays_free _ hfree))⟩
    · obtain ⟨hst, hreq⟩ := (s.heard rq).destroyTaken_inst rq (u8At rq.payload 0)
      obtain ⟨hsupply, haon⟩ := (((s.heard rq).updInst (u8At rq.payload 0) (·.destroyedBy rq)).updInst (u8At rq.payload 0) (fun i => { i with
        st := .destroying })).instMayBegin_supply_aon (u8At rq.payload 0)
      rw [hkey] at hreq
      exact ⟨hst, hreq, haon, hsupply⟩
    · rw [State.inst_updInst, if_pos rfl, Inst.destroyedBy, hkey]
    · rw [State.inst_updInst, if_neg hm]
  case destroyed =>
    intro s n h1 h62 hst hdrained hbegun hfree
    have hmgmt := (s.instDrop n).completeAll_mgmtOnly (s.inst n).destroyReq .ok []
    have hrec := (s.instDrop n).completeAll_recordsOnly (s.inst n).destroyReq .ok []
    have hcore := State.mgmtOnly_core hmgmt
    obtain ⟨hsupply, haon⟩ := s.instDrop_supply_aon n
    refine ⟨_, does_instanceDestroyComplete h62 hst hdrained hbegun hfree, ?_⟩
    have hreg := State.reg_of_regs (s := s.instDrop n) (by rw [hcore])
    simp only [State.inst_of_recordsOnly hrec, State.instDrop_inst, hreg, State.instDrop_reg, if_true]
    refine ⟨rfl, rfl, rfl, fun m hm => if_neg hm, rfl, fun m hm => if_neg hm, fun f hf => ?_, (State.mgmtOnly_aon hmgmt).trans haon,
      (State.mgmtOnly_supply hmgmt).trans hsupply⟩
    rw [hcore] at hf
    exact s.instDrop_files n hf

end Sys2Proof.Proofs

/-! SUPPORT. The row of a frame's last byte where HOLD has stopped the frame (Machine/Ethernet.lean), and a module whose interrupts have not
settled. -/

namespace Sys2Proof.Machine

open Sys2Proof

/-- The last byte of a frame that stands at a fragment boundary does not leave: nothing changes, and no interrupt settles. -/
theorem exec_frameEgressComplete_of_halted {s : State} {p i : Nat} {b : Bool} {f : Frame} (hp : p < 30) (hf : s.frame i = some f)
    (hhalted : (s.swPort p).halted = true) (hlast : (s.swPort p).inFlight.getLast? = some i) :
    exec (.frameEgressComplete p i b) s = .next s := by
  have hrow : exec (.frameEgressComplete p i b) s = execFrameEgressComplete p i b s := rfl
  simp [hrow, execFrameEgressComplete, hp, hf, hhalted, hlast]

/-- Port 8 sends a preemptable frame of 128 bytes, while the fabric's error capture holds an error that the APLIC, which takes its source 200
as Level1, has not seen yet. -/
def splittingUnsettled : State where
  core := { fabErr := { valid := true }, aplicM := { src := [(200, 6)] } }
  sw := {
    forwarding := true
    ports := [(8, { en := true, inFlight := [0] })]
    frames := [{ dests := [8], out := [(8, List.replicate 124 0)] }] }
  eth := { ports := [(8, { link := true, preempt := true, verify := 2 })] }

/-- The same module with the frame at a fragment boundary. -/
def haltedUnsettled : State := splittingUnsettled.updSwPort 8 (fun w => { w with halted := true })

theorem haltedUnsettled_settle_ne : haltedUnsettled.settle ≠ haltedUnsettled := by decide +kernel

end Sys2Proof.Machine

namespace Sys2Proof.Proofs

open Sys2Proof Sys2Proof.Machine

/-- Refutes O56: the statement has the last byte of a frame that HOLD has stopped bring a state whose interrupts have settled, and in the model
that command leaves the state just as it is. They differ in `haltedUnsettled`, where a configured source has a level that its domain has not
taken. -/
theorem not_framesLeave : ¬ Obligations.FramesLeave := by
  intro h
  obtain ⟨-, -, -, -, hsplit, -⟩ := h
  have hdoes : Does (.frameEgressComplete 8 0 false) haltedUnsettled haltedUnsettled :=
    (hsplit splittingUnsettled 8 0 60 _ (by decide) rfl rfl rfl (by decide +kernel) rfl rfl rfl).1 false
  have hexec : exec (.frameEgressComplete 8 0 false) haltedUnsettled = .next haltedUnsettled :=
    exec_frameEgressComplete_of_halted (by decide) rfl rfl rfl
  exact haltedUnsettled_settle_ne (Host.Outcome.next.inj (hdoes.symm.trans hexec))

end Sys2Proof.Proofs

/-! SUPPORT. The places of the interrupted copies under an access of an engine: one lemma for each function of the model that a transaction
runs, in the order of the model's files. A transaction may move the tail of a pair, and a page of the switch or of the pairs may change; none
of this moves the place of a copy. -/

namespace Sys2Proof.Machine

open Sys2Proof

/-- The bytes that the interrupted copy of each pair has written. -/
def State.copied (s : State) (q : Nat) : Nat := (s.qp q).rxAt

theorem State.copied_of_sw {s t : State} (h : t.sw = s.sw) : t.copied = s.copied := funext fun q => by
  rw [State.copied, State.qp, h, State.copied, State.qp]

theorem State.copied_of_irqOnly {s t : State} (h : s.irqOnly t) : t.copied = s.copied := State.copied_of_sw (State.irqOnly_sw h)

@[simp] theorem State.copied_ite {c : Prop} [Decidable c] (a b : State) :
    (if c then a else b).copied = if c then a.copied else b.copied := apply_ite State.copied _ _ _

theorem State.foldl_copied {α : Type} {f : State → α → State} (hf : ∀ t a, (f t a).copied = t.copied) (l : List α) (s : State) :
    (l.foldl f s).copied = s.copied :=
  List.foldlRecOn (motive := fun t => t.copied = s.copied) l f rfl fun t ht a _ => (hf t a).trans ht

/-! ### Units -/

@[simp] theorem State.onEth_copied (s : State) (f) : (s.onEth f).copied = s.copied := rfl
@[simp] theorem State.onPs_copied (s : State) (f) : (s.onPs f).copied = s.copied := rfl
@[simp] theorem State.onInp_copied (s : State) (f) : (s.onInp f).copied = s.copied := rfl
@[simp] theorem State.onGw_copied (s : State) (f) : (s.onGw f).copied = s.copied := rfl
@[simp] theorem State.onKs_copied (s : State) (f) : (s.onKs f).copied = s.copied := rfl
@[simp] theorem State.onCe_copied (s : State) (f) : (s.onCe f).copied = s.copied := rfl
@[simp] theorem State.onPass_copied (s : State) (f) : (s.onPass f).copied = s.copied := rfl
@[simp] theorem State.onCore_copied (s : State) (f) : (s.onCore f).copied = s.copied := rfl
@[simp] theorem State.updHart_copied (s : State) (n : Nat) (f) : (s.updHart n f).copied = s.copied := rfl
@[simp] theorem State.updStall_copied (s : State) (n : Nat) (f) : (s.updStall n f).copied = s.copied := rfl
@[simp] theorem State.updCan_copied (s : State) (n : Nat) (f) : (s.updCan n f).copied = s.copied := rfl
@[simp] theorem State.updObj_copied (s : State) (n m : Nat) (f) : (s.updObj n m f).copied = s.copied := rfl
@[simp] theorem State.updLin_copied (s : State) (n : Nat) (f) : (s.updLin n f).copied = s.copied := rfl
@[simp] theorem State.updBuf_copied (s : State) (n m : Nat) (f) : (s.updBuf n m f).copied = s.copied := rfl
@[simp] theorem State.updRing_copied (s : State) (n : Nat) (f) : (s.updRing n f).copied = s.copied := rfl
@[simp] theorem State.updTimer_copied (s : State) (n : Nat) (f) : (s.updTimer n f).copied = s.copied := rfl
@[simp] theorem State.updInGroup_copied (s : State) (n : Nat) (f) : (s.updInGroup n f).copied = s.copied := rfl
@[simp] theorem State.updReg_copied (s : State) (n : Nat) (f) : (s.updReg n f).copied = s.copied := rfl
@[simp] theorem State.updWin_copied (s : State) (n : Nat) (f) : (s.updWin n f).copied = s.copied := rfl
@[simp] theorem State.updFrame_copied (s : State) (n : Nat) (f) : (s.updFrame n f).copied = s.copied := rfl

@[simp] theorem State.onSw_copied {s : State} {f : Switch → Switch} (h : (f s.sw).qps = s.sw.qps) : (s.onSw f).copied = s.copied :=
  funext fun q => by simp [State.copied, State.qp, h]

@[simp] theorem State.updQp_copied (s : State) (n : Nat) {f : Qp → Qp} (hf : ∀ u, (f u).rxAt = u.rxAt) :
    (s.updQp n f).copied = s.copied := funext fun q => by
  rw [State.copied, State.qp_updQp, State.copied]
  split
  · subst q
    exact hf _
  · rfl

/-! ### Interrupts -/

@[simp] theorem State.msi_copied (s : State) (h file ident : Nat) : (s.msi h file ident).copied = s.copied :=
  State.copied_of_irqOnly (s.msi_irqOnly ..)

@[simp] theorem State.msiBind_copied (s : State) (b : Bind) (sec : Bool) (off : Nat) : (s.msiBind b sec off).copied = s.copied := s.msi_copied ..
@[simp] theorem State.fireS_copied (s : State) (i : Nat) : (s.fireS i).copied = s.copied := State.copied_of_irqOnly (s.fireS_irqOnly i)
@[simp] theorem State.fireM_copied (s : State) (i : Nat) : (s.fireM i).copied = s.copied := State.copied_of_irqOnly (s.fireM_irqOnly i)
@[simp] theorem State.stallIrq_copied (s : State) (n : Nat) : (s.stallIrq n).copied = s.copied := State.copied_of_irqOnly (s.stallIrq_irqOnly n)

@[simp] theorem State.writeNotice_copied (s : State) (n : Nat) (r : Response) (st : StallState) : (s.writeNotice n r st).copied = s.copied := by
  simp [State.writeNotice]

@[simp] theorem State.capture_copied (s : State) (t : Attr) (a : Nat) (wr : Bool) (r : Resp) : (s.capture t a wr r).copied = s.copied := by
  simp [State.capture]

@[simp] theorem State.issued_copied (s : State) (t : Attr) : (s.issued t).copied = s.copied := by simp [State.issued]

/-! ### CAN and LIN (Machine/Can.lean, Machine/Lin.lean) -/

@[simp] theorem State.setMsi_copied (s : State) (key off : Nat) : (s.setMsi key off).copied = s.copied := by
  unfold State.setMsi
  split <;> simp

@[simp] theorem State.objMsi_copied (s : State) (chan obj : Nat) : (s.objMsi chan obj).copied = s.copied := by
  unfold State.objMsi
  split <;> simp

@[simp] theorem State.txEnd_copied (s : State) (chan obj : Nat) (st : U16) (msi : Bool) : (s.txEnd chan obj st msi).copied = s.copied := by
  simp [State.txEnd]

@[simp] theorem State.objReq_copied (s : State) (chan obj : Nat) : (s.objReq chan obj).copied = s.copied := by simp [State.objReq]

@[simp] theorem State.objRead_copied (s : State) (chan obj off : Nat) : (s.objRead chan obj off).copied = s.copied := by simp [State.objRead]

@[simp] theorem State.objWrite_copied (s : State) (chan obj off : Nat) (v m : U32) : (s.objWrite chan obj off v m).1.copied = s.copied := by
  simp [State.objWrite, State.objAbort, State.objUpd, State.objPut]

@[simp] theorem State.mapClear_copied (s : State) (t : Attr) (chan word : Nat) (v : U32) : (s.mapClear t chan word v).copied = s.copied := by
  simp [State.mapClear, State.foldl_copied]

@[simp] theorem State.linPulse_copied (s : State) (chan : Nat) : (s.linPulse chan).copied = s.copied := by simp [State.linPulse]

@[simp] theorem State.linRead_copied (s : State) (chan off : Nat) : (s.linRead chan off).copied = s.copied := by simp [State.linRead]

@[simp] theorem State.linPut_copied (s : State) (chan off : Nat) (v m : U32) : (s.linPut chan off v m).copied = s.copied := by
  simp [State.linPut, State.linCtrl]

/-! ### The power stage and the inputs (Machine/Load.lean, Machine/Inputs.lean) -/

@[simp] theorem State.loadStep_copied (s0 s : State) (c : Nat) (b : Bool) : (s0.loadStep s c b).copied = s.copied :=
  State.copied_of_sw (State.psOnly_sw (s0.loadStep_psOnly s c b))

@[simp] theorem State.updLoad_copied (s : State) (c : Nat) (f) : (s.updLoad c f).copied = s.copied := rfl

@[simp] theorem State.loadIgnore_copied (s : State) (page : Nat) : (s.loadIgnore page).copied = s.copied := by simp [State.loadIgnore]

@[simp] theorem State.loadWrites_copied (s : State) (page inst : Nat) (sec : Bool) (cs : List Nat) (f : Nat → LoadCmd → LoadCmd) :
    (s.loadWrites page inst sec cs f).copied = s.copied := by
  simp [State.loadWrites, State.loadWrite, State.foldl_copied]

@[simp] theorem State.loadOutPut_copied (s : State) (page : Nat) (t : Attr) (c : Nat) (v m : U32) :
    (s.loadOutPut page t c v m).copied = s.copied := by simp [State.loadOutPut]

@[simp] theorem State.loadMask_copied (s : State) (page : Nat) (t : Attr) (mask : U64) (on : Bool) :
    (s.loadMask page t mask on).copied = s.copied := by simp [State.loadMask]

@[simp] theorem State.inMsi_copied (s : State) (g : Nat) : (s.inMsi g).copied = s.copied := by
  unfold State.inMsi
  split <;> simp

@[simp] theorem State.inClear_copied (s : State) (g : Nat) (d : U64) (v : BitVec 24) : (s.inClear g d v).copied = s.copied := by
  simp [State.inClear]

@[simp] theorem State.inLeft_copied (s : State) (g : Nat) : (s.inLeft g).copied = s.copied := by simp [State.inLeft]

/-! ### Timers and the APLIC (Machine/Time.lean, Machine/Harts.lean) -/

@[simp] theorem State.timerMsi_copied (s : State) (n : Nat) : (s.timerMsi n).copied = s.copied := by
  unfold State.timerMsi
  split <;> simp

@[simp] theorem State.fireDue_copied (s : State) (n : Nat) : (s.fireDue n).copied = s.copied := by simp [State.fireDue]

@[simp] theorem State.tcCtrlSet_copied (s : State) (n : Nat) (v m : U32) : (s.tcCtrlSet n v m).copied = s.copied := by simp [State.tcCtrlSet]

@[simp] theorem State.tcFirst_copied (s : State) (a : Nat) : (s.tcFirst a).copied = s.copied := by simp [State.tcFirst]

@[simp] theorem State.ringTail_copied (s : State) (r : Nat) (v : U16) : (s.ringTail r v).copied = s.copied := rfl

@[simp] theorem State.aplicPut_copied (s : State) (o : Nat) (v : U32) : (s.aplicPut o v).copied = s.copied := by
  have hgen (t : State) (o file : Nat) : (t.genMsi o file v).copied = t.copied := by simp [State.genMsi]
  unfold State.aplicPut
  split
  · exact (hgen _ _ _).trans ((State.foldl_copied (fun t i => by simp) _ _).trans (State.onCore_copied _ _))
  · exact (hgen _ _ _).trans ((State.foldl_copied (fun t i => by simp) _ _).trans (State.onCore_copied _ _))

/-! ### The Pass link (Machine/PassLink.lean) -/

@[simp] theorem State.countFerr_copied (s : State) (a : Nat) : (s.countFerr a).copied = s.copied := by
  unfold State.countFerr
  split <;> simp

@[simp] theorem State.winRead_copied (s : State) (x : Xact) : (s.winRead x).1.copied = s.copied := by
  unfold State.winRead
  simp only
  repeat' split
  all_goals simp

@[simp] theorem State.winWrite_copied (s : State) (x : Xact) : (s.winWrite x).1.copied = s.copied := by
  unfold State.winWrite
  simp only
  repeat' split
  all_goals simp

@[simp] theorem State.winPost_copied (s : State) (x : Xact) : (s.winPost x).1.copied = s.copied := by
  unfold State.winPost
  simp only
  repeat' split
  all_goals simp

/-! ### Stall pages (Machine/Stalls.lean) -/

@[simp] theorem State.nextNotice_copied (s : State) (n : Nat) (st : StallState) : (s.nextNotice n st).copied = s.copied := by
  unfold State.nextNotice
  split <;> simp

@[simp] theorem State.doorbell_copied (s : State) (n : Nat) : (s.doorbell n).copied = s.copied := by
  unfold State.doorbell
  simp only
  split <;> simp

@[simp] theorem State.release_copied (s : State) (n : Nat) : (s.release n).copied = s.copied := by
  unfold State.release
  simp only
  split <;> simp

@[simp] theorem State.stallWrite_copied (s : State) (n o : Nat) (d : List Byte) : (s.stallWrite n o d).1.copied = s.copied := by
  simp [State.stallWrite]

/-! ### Memory and reads (Machine/Bus.lean) -/

@[simp] theorem State.setMem_copied (s : State) (a : Nat) (d : List Byte) : (s.setMem a d).copied = s.copied := by
  induction d generalizing s a with
  | nil => rfl
  | cons b d ih =>
    have hdram : (s.setDram a b).copied = s.copied := rfl
    have hsram : (s.setSram a b).copied = s.copied := rfl
    simp [State.setMem, ih, hdram, hsram]

@[simp] theorem State.setClean_copied (s : State) (a : Nat) (d : List Byte) : (s.setClean a d).copied = s.copied := by
  induction d generalizing s a with
  | nil => rfl
  | cons b d ih => simp [State.setClean, ih]

@[simp] theorem State.memWrite_copied (s : State) (a : Nat) (d : List Byte) : (s.memWrite a d).copied = s.copied := by
  simp [State.memWrite, State.memPut, State.unreserve, State.unpoison]

@[simp] theorem State.meterDma_copied (s : State) (t : Attr) (a n : Nat) : (s.meterDma t a n).copied = s.copied := by
  have hmeter : (s.meter t a n).1.copied = s.copied := by simp [State.meter]
  unfold State.meterDma
  split
  · next heq => exact (congrArg (fun p => p.1.copied) heq).symm.trans hmeter
  · next heq => exact (congrArg (fun p => p.1.copied) heq).symm.trans hmeter

@[simp] theorem State.regWord_copied (s : State) (t : Attr) (a : Nat) (latch : Bool) : (s.regWord t a latch).1.copied = s.copied := by
  have hcan : (s.canRead t a).1.copied = s.copied := by
    unfold State.canRead
    simp only
    repeat' split
    all_goals simp
  have htime : (s.word0D t a latch).1.copied = s.copied := by
    have hlatch (b : TimeBase) : ({ s with tb := b } : State).copied = s.copied := rfl
    unfold State.word0D
    simp only
    repeat' split
    all_goals simp only [hlatch]
  unfold State.regWord
  split <;> simp [hcan, htime]

@[simp] theorem State.readTarget_copied (s : State) (x : Xact) : (s.readTarget x).1.copied = s.copied := by
  have hregs (n : Nat) : (s.regBytes x.attr x.addr.toNat n).1.copied = s.copied :=
    List.foldlRecOn (motive := fun p : State × List Byte => p.1.copied = s.copied) _ _ rfl fun p h k _ => (p.1.regWord_copied _ _ _).trans h
  unfold State.readTarget
  simp only
  split <;> simp [hregs]

theorem State.accept_read_copied (s : State) (op : AmoOp) (x : Xact) : (s.accept .read op x).1.copied = s.copied := by
  unfold State.accept
  simp only
  repeat' split
  all_goals simp

@[simp] theorem State.dmaRead_copied (s : State) (t : Attr) (a n : Nat) : (s.dmaRead t a n).1.copied = s.copied := by
  refine List.foldlRecOn (motive := fun p : State × Resp × List Byte => p.1.copied = s.copied) _ _ rfl fun p h b _ => ?_
  split
  · exact h
  · exact ((State.accept_read_copied _ _ _).trans (State.meterDma_copied _ _ _ _)).trans h

/-! ### Switch and pairs (Machine/Pages.lean) -/

@[simp] theorem State.qpPut_copied (s : State) (i o : Nat) (v m : U32) : (s.qpPut i o v m).copied = s.copied := by
  simp [State.qpPut, State.qpTxTail, State.qpRxTail]

@[simp] theorem State.marketLow_copied (s : State) : s.marketLow.copied = s.copied := by
  unfold State.marketLow
  split
  · exact State.onSw_copied rfl
  · rfl

@[simp] theorem State.swPut_copied (s : State) (o : Nat) (v m : U32) : (s.swPut o v m).copied = s.copied := by
  unfold State.swPut
  split
  · exact (State.marketLow_copied _).trans (State.onSw_copied rfl)
  · split
    · exact State.onSw_copied rfl
    · rfl

@[simp] theorem State.ethPut_copied (s : State) (o : Nat) (v m : U32) : (s.ethPut o v m).1.copied = s.copied := by
  unfold State.ethPut
  split
  · rw [State.onEth_copied]
  · split
    · simp only
      split
      · rfl
      · exact s.qpPut_copied _ _ _ _
    · rfl

/-! ### Register rows (Machine/Bus.lean) -/

@[simp] theorem State.put03_copied (s : State) (a : Nat) (v m : U32) : (s.put03 a v m).copied = s.copied := by
  unfold State.put03
  split
  · simp
  · split <;> simp

@[simp] theorem State.regPut_copied (s : State) (t : Attr) (a : Nat) (v m : U32) : (s.regPut t a v m).1.copied = s.copied := by
  unfold State.regPut
  split <;> simp [State.loadChgClear, State.psPut, State.loadPagePut, State.inPagePut, State.inPut, State.ceEventPut, State.ringPut,
    State.tcPut, State.canWrite, State.passPut, State.put08, State.put0A, State.put0B, State.put0E]

@[simp] theorem State.ignoreOnce_copied (old s : State) (a : Nat) : (old.ignoreOnce s a).copied = s.copied := by simp [State.ignoreOnce]

@[simp] theorem State.inAfter_copied (s : State) (a n : Nat) : (s.inAfter a n).copied = s.copied := by simp [State.inAfter]

@[simp] theorem State.regsWrite_copied (s : State) (t : Attr) (a : Nat) (d : List Byte) : (s.regsWrite t a d).1.copied = s.copied := by
  simp only [State.regsWrite, State.inAfter_copied, State.ignoreOnce_copied]
  refine List.foldlRecOn (motive := fun q : State × Resp => q.1.copied = s.copied) _ _ (s.tcFirst_copied a) fun q hq w _ => ?_
  split
  · exact hq
  · split
    · exact (State.regPut_copied _ _ _ _ _).trans hq
    · rfl

@[simp] theorem State.instWrite_copied (s : State) (t : Attr) (n o : Nat) (d : List Byte) : (s.instWrite t n o d).copied = s.copied := by
  have hrefuse (st : Status) : (s.dbRefuse n st).copied = s.copied := rfl
  have hring (k : Nat) (v : U16) : (s.ringTail k v).copied = s.copied := rfl
  have hdb (v : U64) : (s.dbWrite n t.sec v).copied = s.copied := by
    unfold State.dbWrite
    simp only
    split <;> simp [hrefuse, hring, State.qpTxTail, State.qpRxTail]
  simp [State.instWrite, hdb, hrefuse]

@[simp] theorem State.writeTarget_copied (s : State) (x : Xact) : (s.writeTarget x).1.copied = s.copied := by
  unfold State.writeTarget
  simp only
  split <;> simp

theorem State.accept_write_copied (s : State) (op : AmoOp) (x : Xact) : (s.accept .write op x).1.copied = s.copied := by
  unfold State.accept
  simp only
  repeat' split
  all_goals simp

theorem State.accept_posted_copied (s : State) (op : AmoOp) (x : Xact) : (s.accept .posted op x).1.copied = s.copied := by
  unfold State.accept
  simp only
  repeat' split
  all_goals simp

/-- The writes of an engine leave the place of every copy: the engine itself moves it, behind them. -/
@[simp] theorem State.dmaWrite_copied (s : State) (t : Attr) (a : Nat) (d : List Byte) : (s.dmaWrite t a d).1.copied = s.copied := by
  refine List.foldlRecOn (motive := fun p : State × Resp => p.1.copied = s.copied) _ _ rfl fun p h b _ => ?_
  split
  · exact h
  · simp only
    split
    · exact ((State.accept_posted_copied _ _ _).trans (State.meterDma_copied _ _ _ _)).trans h
    · exact ((State.accept_write_copied _ _ _).trans (State.meterDma_copied _ _ _ _)).trans h

end Sys2Proof.Machine

/-! SUPPORT. Doorbells of queue pairs and rings, and the queue engines: the rows behind their checks, and what the work of an engine is by the
answers to its accesses (Machine/Pages.lean, Machine/Rings.lean, Machine/Engines.lean). -/

namespace Sys2Proof.Machine

open Sys2Proof

/-! ### Doorbells -/

/-- A write of four bytes to an aligned register that passes its port and its checks has its row's own effect and is answered. -/
theorem State.accessAt_writeX {s : State} {a : Attr} {addr v : Nat} {own : State → State × Resp × List Byte} (hup : s.fabricUp = true)
    (haddr : addr < 2 ^ 40) (haligned : addr % 4 = 0) (hport : s.portFree .write (writeX a addr 4 v))
    (hok : s.verdict a addr 4 false true = .ok) :
    s.accessAt (writeX a addr 4 v) .write own = (own s).1.answered (own s).2.1 (own s).2.2 := by
  have hto : (writeX a addr 4 v).addr.toNat = addr := by
    rw [writeX, BitVec.toNat_ofNat, Nat.mod_eq_of_lt haddr]
  have hlen : (writeX a addr 4 v).data.length = 4 := by simp [writeX, leBytes]
  refine State.accessAt_of_ok hup ?_ hport ?_
  · simp only [reduceCtorEq, if_false, hlen]
    exact Xact.fits_of_aligned (.inl rfl) (hto.symm ▸ haligned)
  · simp only [reduceCtorEq, if_false, hlen, hto, decide_false, ne_eq, not_false_eq_true, decide_true]
    exact hok

section Doorbells

variable {s : State} {n o : Nat} {a : Attr} {v : U16}

/-- A doorbell of a queue page behind its checks: TERR while an instance reset holds the pair, and else the page's own effect. -/
theorem State.qpTailRow_of_ok (own : State → State) (hn : n < 128) (ho : o < 0x1000) (haligned : o % 4 = 0) (hup : s.fabricUp = true)
    (hsends : s.sends a) (hport : s.portFree .write (writeX a (qpPage n + o) 4 v.toNat))
    (hok : s.verdict a (qpPage n + o) 4 false true = .ok) :
    s.qpTailRow n o a v own = fin (if (s.qp n).stopped then s.answered .terr [] else (own s).answered .ok []) := by
  rw [State.qpTailRow, if_neg (by omega), State.issue_of_sends _ hsends,
    State.accessAt_writeX hup (by unfold qpPage; omega) (by unfold qpPage; omega) hport hok]
  split <;> rfl

/-- The doorbell of a ring behind its checks. -/
theorem exec_crSqTailWrite_of_ok (hn : n < 64) (hup : s.fabricUp = true) (hsends : s.sends a)
    (hport : s.portFree .write (writeX a (ringPage n + 0x10) 4 v.toNat)) (hok : s.verdict a (ringPage n + 0x10) 4 false true = .ok) :
    exec (.crSqTailWrite n a v) s = fin (if (s.ring n).stopped then s.answered .terr [] else (s.ringTail n v).answered .ok []) := by
  have hrow : exec (.crSqTailWrite n a v) s = execCrSqTailWrite n a v s := rfl
  rw [hrow, execCrSqTailWrite, if_neg (by omega), State.issue_of_sends _ hsends,
    State.accessAt_writeX hup (by unfold ringPage; omega) (by unfold ringPage; omega) hport hok]
  split <;> rfl

end Doorbells

/-! ### The first access of an engine -/

theorem State.dmaBegin_of_may {s k : State} {t : Attr} {a n : Nat} (h : s.dmaMay t a n = true) : s.dmaBegin t a n k = k := if_pos h

/-- Work whose first access is withheld has not begun; the refill in progress counts it where the ceiling withholds it. -/
theorem State.dmaBegin_of_not_may {s k : State} {t : Attr} {a n : Nat} (h : s.dmaMay t a n = false) :
    s.dmaBegin t a n k = if s.metered t a = true ∧ (s.reg t.inst.toNat).admits (chargeOf (min n 256)) = false then
      s.updReg t.inst.toNat (fun r => { r with heldNow := true }) else s := by
  simp [State.dmaBegin, h]

section Engines

variable {s : State} {q : Nat} {t : Attr}

/-- A running engine with a descriptor begins its work on it. -/
theorem exec_qpTxDescriptorProcess (hq : q < 128) (ht : s.qpAttr q = some t) (hengines : s.enginesRun = true) (hrun : (s.qp q).run = true)
    (hfetch : (s.qp q).stopped = false ∨ (s.qp q).txBusy = true) (hpost : (s.qp q).txHead ≠ (s.qp q).txTail) :
    exec (.qpTxDescriptorProcess q) s
      = fin (s.dmaBegin t ((s.qp q).txBase.toNat + (s.qp q).txHead.toNat * 32) 32 (s.txDesc q t)) := by
  have hrow : exec (.qpTxDescriptorProcess q) s = execQpTxDescriptorProcess q s := rfl
  have hgo : s.enginesRun = true ∧ (s.qp q).run = true ∧ (¬ (s.qp q).stopped = true ∨ (s.qp q).txBusy = true)
      ∧ (s.qp q).txHead ≠ (s.qp q).txTail := ⟨hengines, hrun, hfetch.imp_left (by simp [·]), hpost⟩
  rw [hrow, execQpTxDescriptorProcess, if_neg (by omega)]
  simp only [ht, if_pos hgo]

theorem exec_qpRxCopy (hq : q < 128) (ht : s.qpAttr q = some t) (hengines : s.enginesRun = true) (hrun : (s.qp q).run = true)
    (hfetch : (s.qp q).stopped = false ∨ (s.qp q).rxBusy = true) (hpost : (s.qp q).rxHead ≠ (s.qp q).rxTail) :
    exec (.qpRxCopy q) s = fin (s.dmaBegin t ((s.qp q).rxBase.toNat + (s.qp q).rxHead.toNat * 32) 32 (s.rxDesc q t)) := by
  have hrow : exec (.qpRxCopy q) s = execQpRxCopy q s := rfl
  have hgo : s.enginesRun = true ∧ (s.qp q).run = true ∧ (¬ (s.qp q).stopped = true ∨ (s.qp q).rxBusy = true)
      ∧ (s.qp q).rxHead ≠ (s.qp q).rxTail := ⟨hengines, hrun, hfetch.imp_left (by simp [·]), hpost⟩
  rw [hrow, execQpRxCopy, if_neg (by omega)]
  simp only [ht, if_pos hgo]

end Engines

/-! ### The transmit engine -/

section Transmit

variable (s : State) (q : Nat) (t : Attr)

/-- The address of the descriptor at the head of a transmit ring. -/
def State.txAddr : Nat := (s.qp q).txBase.toNat + (s.qp q).txHead.toNat * 32

/-- The read of that descriptor. -/
def State.txRead : State × Resp × List Byte := s.dmaRead t (s.txAddr q) 32

/-- The read of the frame that it names. -/
def State.txBuffer : State × Resp × List Byte :=
  (s.txRead q t).1.dmaRead t (u64At (s.txRead q t).2.2 0) (u16At (s.txRead q t).2.2 8)

/-- The length or the class that it gives is none that R314 permits. -/
def State.txBad : Prop := u16At (s.txRead q t).2.2 8 < 60 ∨ 9212 < u16At (s.txRead q t).2.2 8 ∨ 7 < u8At (s.txRead q t).2.2 10

/-- The pair with the buffer transfer of the descriptor begun. -/
def State.txHeld : State := s.updQp q (fun u => { u with txBusy := true })

/-- The frame of the descriptor as it is presented to the pipeline. -/
def State.txEnter : State × Bool :=
  ((s.txBuffer q t).1.goodFrame (26 + q / 64) (s.txBuffer q t).2.2.length).enter {
    port := 26 + q / 64, bytes := (s.txBuffer q t).2.2
    cls := some (min (u8At (s.txRead q t).2.2 10) (s.qp q).maxClass.toNat), fromQp := some q }

/-- What the buffer transfer of a good descriptor comes to, once its first access may pass. -/
def State.txTransfer : State :=
  if (s.txBuffer q t).2.1 = .retry then (s.txHeld q).dmaWait (s.txBuffer q t).1
  else if (s.txBuffer q t).2.1 ≠ .ok then (s.txBuffer q t).1.txDone q t (s.txAddr q) (fabricStatus (s.txBuffer q t).2.1)
  else ((s.txEnter q t).1.txDone q t (s.txAddr q)
    (State.txStatus (s.txBuffer q t).1 (s.txEnter q t).1 (26 + q / 64) (s.txEnter q t).2)).onCore (fun c => { c with fresh := c.fresh + 1 })

variable {s q t}

theorem State.txDesc_retry (h : (s.txRead q t).2.1 = .retry) : s.txDesc q t = s.dmaWait (s.txRead q t).1 := if_pos h

theorem State.txDesc_error (hok : (s.txRead q t).2.1 ≠ .ok) (hretry : (s.txRead q t).2.1 ≠ .retry) :
    s.txDesc q t = (s.txRead q t).1.txDone q t (s.txAddr q) (fabricStatus (s.txRead q t).2.1) :=
  (if_neg hretry).trans (if_pos hok)

theorem State.txDesc_off (hok : (s.txRead q t).2.1 = .ok) (hoff : s.qpOff q = true) (hidle : (s.qp q).txBusy = false) :
    s.txDesc q t = (s.txRead q t).1.txDone q t (s.txAddr q) 0x0021 :=
  (if_neg (hok.trans_ne (by decide))).trans <| (if_neg (not_not_intro hok)).trans <|
    if_pos ⟨hoff, (Bool.eq_false_iff).mp hidle⟩

variable (hok : (s.txRead q t).2.1 = .ok) (hon : s.qpOff q = false ∨ (s.qp q).txBusy = true)
include hok hon

theorem State.txDesc_bad (hbad : s.txBad q t) : s.txDesc q t = (s.txRead q t).1.txDone q t (s.txAddr q) 0x0013 :=
  (if_neg (hok.trans_ne (by decide))).trans <| (if_neg (not_not_intro hok)).trans <|
    (if_neg fun h => hon.elim (Bool.eq_false_iff.mp · h.1) h.2).trans (if_pos hbad)

theorem State.txDesc_good (hgood : ¬ s.txBad q t) (hmay : (s.txHeld q).dmaMay t (u64At (s.txRead q t).2.2 0) (u16At (s.txRead q t).2.2 8) = true) :
    s.txDesc q t = s.txTransfer q t :=
  (if_neg (hok.trans_ne (by decide))).trans <| (if_neg (not_not_intro hok)).trans <|
    (if_neg fun h => hon.elim (Bool.eq_false_iff.mp · h.1) h.2).trans ((if_neg hgood).trans (State.dmaBegin_of_may hmay))

end Transmit

/-- The interrupts that an MSI sets leave the queues. -/
theorem State.msiBind_sw (s : State) (b : Bind) (sec : Bool) (off : Nat) : (s.msiBind b sec off).sw = s.sw :=
  State.irqOnly_sw (s.msi_irqOnly _ _ _)

/-- What follows a record's write leaves the switch. -/
theorem State.recordWrite_after_sw (s u : State) (t : Attr) (a : Nat) (d : List Byte) (msi : Option (Bind × Bool)) :
    ((s.recordWrite t a d msi).2.2 u).sw = u.sw := by
  unfold State.recordWrite
  extract_lets x q
  split
  · rfl
  · rfl
  · rcases msi with _ | ⟨b, sec⟩
    · rfl
    · dsimp only
      split
      · exact u.msiBind_sw b sec 0
      · rfl

/-- Where the write of a status leaves the switch, the end of a descriptor moves the head of its own ring alone. -/
theorem State.txDone_sw {s : State} {q a : Nat} {t : Attr} {st : U16}
    (h : (s.recordWrite t (a + 12) (leBytes 2 st.toNat) (s.msiOf 0x01 q)).1.sw = s.sw) :
    (s.txDone q t a st).sw = (s.updQp q Qp.txNext).sw := by
  rw [State.txDone, State.qpDone, State.recordWrite_after_sw, State.updQp, State.updQp, State.onSw_sw, State.onSw_sw, h]

/-! ### The receive engine -/

/-- What a change makes of a pair depends on that pair alone. -/
theorem State.updQp_congr {s : State} {q : Nat} {f g : Qp → Qp} (h : f (s.qp q) = g (s.qp q)) : s.updQp q f = s.updQp q g := by
  have hput (k : Qp → Qp) : s.updQp q k = s.onSw (fun w => { w with qps := Tab.put w.qps q (k (s.qp q)) }) := rfl
  rw [hput, hput, h]

section Receive

variable (s : State) (q : Nat) (t : Attr) (i : Nat) (f : Frame)

/-- The read of the descriptor at the head of a receive ring. -/
def State.rxRead : State × Resp × List Byte := s.dmaRead t ((s.qp q).rxBase.toNat + (s.qp q).rxHead.toNat * 32) 32

/-- The bytes that the pair receives of a frame. -/
def State.rxFrame : List Byte := s.egressEdit f (26 + q / 64)

/-- The length of the next piece of the copy (R349). -/
def State.rxPiece : Nat :=
  if s.copyYields q f = true ∧ (s.qp q).rxAt + 64 < (s.rxFrame q f).length then 64 else (s.rxFrame q f).length - (s.qp q).rxAt

/-- Where the next piece goes. -/
def State.rxDst : Nat := u64At (s.rxRead q t).2.2 0 + (s.qp q).rxAt

/-- The write of the next piece. -/
def State.rxWrite : State × Resp :=
  ((s.rxRead q t).1.rxBegin i).dmaWrite t (s.rxDst q t) (((s.rxFrame q f).drop (s.qp q).rxAt).take (s.rxPiece q f))

/-- The pair and the frame with the copy begun. -/
def State.rxHeld : State := (s.updQp q (fun u => { u with rxBusy := true })).rxBegin i

/-- What the copy of a piece comes to, once its first access may pass. -/
def State.rxTransfer : State :=
  if (s.rxWrite q t i f).2 = .retry then s.rxHeld q i
  else if (s.rxWrite q t i f).2 = .ok ∧ (s.qp q).rxAt + s.rxPiece q f < (s.rxFrame q f).length then
    (s.rxWrite q t i f).1.updQp q (fun u => { u with rxBusy := true, rxAt := u.rxAt + s.rxPiece q f })
  else if (s.rxWrite q t i f).2 ≠ .ok then
    ((s.rxWrite q t i f).1.qpDone q t ((s.qp q).rxBase.toNat + (s.qp q).rxHead.toNat * 32 + 12)
      (leBytes 2 (fabricStatus (s.rxWrite q t i f).2).toNat) Qp.rxNext).rxPop q i
  else ((s.rxWrite q t i f).1.rxPop q i).qpDone q t ((s.qp q).rxBase.toNat + (s.qp q).rxHead.toNat * 32 + 10)
    (f.rxBytes (s.rxFrame q f)) Qp.rxNext

/-- The accesses of the copy leave its place. -/
theorem State.rxWrite_rxAt : ((s.rxWrite q t i f).1.qp q).rxAt = (s.qp q).rxAt := by
  have h : (s.rxWrite q t i f).1.copied = s.copied := by simp [State.rxWrite, State.rxRead, State.rxBegin]
  exact congrFun h q

variable {s q t i f} (hon : s.qpOff q = false ∨ (s.qp q).rxBusy = true) (hlist : (s.qp q).rxList.head? = some i) (hframe : s.frame i = some f)
include hon hlist hframe

/-- The receive engine over a frame at the head of the list. -/
theorem State.rxDesc_frame : s.rxDesc q t =
    if (s.rxRead q t).2.1 = .retry then s.dmaWait (s.rxRead q t).1
    else if (s.rxRead q t).2.1 ≠ .ok then
      (s.rxRead q t).1.qpDone q t ((s.qp q).rxBase.toNat + (s.qp q).rxHead.toNat * 32 + 12)
        (leBytes 2 (fabricStatus (s.rxRead q t).2.1).toNat) Qp.rxNext
    else if u16At (s.rxRead q t).2.2 8 < (s.rxFrame q f).length then
      ((s.rxRead q t).1.rxPop q i).updQp q (fun u => { u with rxDrop := satInc u.rxDrop })
    else (s.rxHeld q i).dmaBegin t (s.rxDst q t) (s.rxPiece q f) (s.rxTransfer q t i f) := by
  have hgo : ¬ (s.qpOff q = true ∧ ¬ (s.qp q).rxBusy = true) := fun h => hon.elim (Bool.eq_false_iff.mp · h.1) h.2
  simp only [State.rxDesc, if_neg hgo, hlist, hframe]
  rfl

theorem State.rxDesc_retry (h : (s.rxRead q t).2.1 = .retry) : s.rxDesc q t = s.dmaWait (s.rxRead q t).1 :=
  (State.rxDesc_frame hon hlist hframe).trans (if_pos h)

variable (hok : (s.rxRead q t).2.1 = .ok)
include hok

theorem State.rxDesc_long (hlong : u16At (s.rxRead q t).2.2 8 < (s.rxFrame q f).length) :
    s.rxDesc q t = ((s.rxRead q t).1.rxPop q i).updQp q (fun u => { u with rxDrop := satInc u.rxDrop }) :=
  (State.rxDesc_frame hon hlist hframe).trans <| (if_neg (hok.trans_ne (by decide))).trans <|
    (if_neg (not_not_intro hok)).trans (if_pos hlong)

theorem State.rxDesc_fits (hfits : (s.rxFrame q f).length ≤ u16At (s.rxRead q t).2.2 8)
    (hmay : (s.rxHeld q i).dmaMay t (s.rxDst q t) (s.rxPiece q f) = true) : s.rxDesc q t = s.rxTransfer q t i f :=
  (State.rxDesc_frame hon hlist hframe).trans <| (if_neg (hok.trans_ne (by decide))).trans <|
    (if_neg (not_not_intro hok)).trans <| (if_neg (Nat.not_lt.mpr hfits)).trans (State.dmaBegin_of_may hmay)

end Receive

end Sys2Proof.Machine

namespace Sys2Proof.Proofs

open Sys2Proof Sys2Proof.Machine

/-- Settles O57: the doorbells by their rows behind the checks, each engine by what it does for each answer to its accesses. -/
theorem queuesAndDoorbells : Obligations.QueuesAndDoorbells := by
  refine ⟨?tails, ?ring, ?transmit, ?done, ?receive⟩
  case tails =>
    intro s q a v hq hup hsends
    constructor
    · intro hport hok
      have hrow := State.qpTailRow_of_ok (fun s => s.qpTxTail q v) hq (by decide) (by decide) hup hsends hport hok
      refine ⟨fun hrun => ⟨(s.qpTxTail q v).answered .ok [], ?_, ?_, fun r hr => ?_, rfl⟩, fun hstop => ?_⟩
      · exact hrow.trans (by rw [hrun]; rfl)
      · exact (s.qp_updQp q q _).trans (if_pos rfl)
      · exact (s.qp_updQp q r _).trans (if_neg hr)
      · exact hrow.trans (by rw [hstop]; rfl)
    · intro hport hok
      have hrow := State.qpTailRow_of_ok (fun s => s.qpRxTail q v) hq (by decide) (by decide) hup hsends hport hok
      refine ⟨fun hrun => ⟨(s.qpRxTail q v).answered .ok [], ?_, ?_, fun r hr => ?_, rfl⟩, fun hstop => ?_⟩
      · exact hrow.trans (by rw [hrun]; rfl)
      · exact (s.qp_updQp q q _).trans (if_pos rfl)
      · exact (s.qp_updQp q r _).trans (if_neg hr)
      · exact hrow.trans (by rw [hstop]; rfl)
  case ring =>
    intro s r a v hr hup hsends hport hok
    have hrow := exec_crSqTailWrite_of_ok hr hup hsends hport hok
    refine ⟨fun hrun => ⟨(s.ringTail r v).answered .ok [], ?_, ?_, fun k hk => ?_, rfl⟩, fun hstop => ?_⟩
    · exact hrow.trans (by rw [hrun]; rfl)
    · exact (s.ring_updRing r r _).trans (if_pos rfl)
    · exact (s.ring_updRing r k _).trans (if_neg hk)
    · exact hrow.trans (by rw [hstop]; rfl)
  case transmit =>
    intro s q t hq ht hengines hrun hfetch hpost a r
    have hexec := exec_qpTxDescriptorProcess hq ht hengines hrun hfetch hpost
    refine ⟨fun hmay => hexec.trans (congrArg fin (State.dmaBegin_of_not_may hmay)), fun hmay => ?_⟩
    rw [State.dmaBegin_of_may hmay] at hexec
    refine ⟨fun hretry => hexec.trans (congrArg fin (State.txDesc_retry hretry)),
      fun hne hretry => hexec.trans (congrArg fin (State.txDesc_error hne hretry)),
      fun hok hoff hidle => hexec.trans (congrArg fin (State.txDesc_off hok hoff hidle)), fun hok hon => ?_⟩
    refine ⟨fun hbad => hexec.trans (congrArg fin (State.txDesc_bad hok hon hbad)), ?_⟩
    intro hmin hmax hcls h b g hmay
    have hgood : ¬ s.txBad q t := by
      rintro (hlt | hlt | hlt)
      · exact Nat.not_lt.mpr hmin hlt
      · exact Nat.not_lt.mpr hmax hlt
      · exact Nat.not_lt.mpr hcls hlt
    rw [State.txDesc_good hok hon hgood hmay] at hexec
    refine ⟨fun hbuf hin => hexec.trans (congrArg fin ?_), fun hretry => hexec.trans (congrArg fin (if_pos hretry)),
      fun hne hretry => hexec.trans (congrArg fin ((if_neg hretry).trans (if_pos hne)))⟩
    have hstatus : State.txStatus (s.txBuffer q t).1 (s.txEnter q t).1 (26 + q / 64) (s.txEnter q t).2 = 0 := if_pos hin
    refine (if_neg (hbuf.trans_ne (by decide))).trans ((if_neg (not_not_intro hbuf)).trans ?_)
    rw [hstatus]
    rfl
  case done =>
    intro s q a t st hwrite
    have hsw := State.txDone_sw hwrite
    have hqp (r : Nat) : (s.txDone q t a st).qp r = (s.updQp q Qp.txNext).qp r := by rw [State.qp, hsw, State.qp]
    refine ⟨?_, fun r hr => ?_, by rw [hsw]; rfl⟩
    · rw [hqp, State.qp_updQp, if_pos rfl]
      rfl
    · rw [hqp, State.qp_updQp, if_neg hr]
  case receive =>
    intro s q i t f hq ht hengines hrun hfetch hpost hon hlist hframe a b r at_ n dst w h next hmay
    have hexec := exec_qpRxCopy hq ht hengines hrun hfetch hpost
    rw [State.dmaBegin_of_may hmay] at hexec
    refine ⟨fun hretry => hexec.trans (congrArg fin (State.rxDesc_retry hon hlist hframe hretry)), fun hok =>
      ⟨fun hlong => hexec.trans (congrArg fin (State.rxDesc_long hon hlist hframe hok hlong)), fun hfits hmay' => ?_⟩⟩
    rw [State.rxDesc_fits hon hlist hframe hok hfits hmay'] at hexec
    refine ⟨fun hw hend => hexec.trans (congrArg fin ?_), fun hw hmore => hexec.trans (congrArg fin ?_),
      fun hretry => hexec.trans (congrArg fin (if_pos hretry)), fun hne hretry => hexec.trans (congrArg fin ?_)⟩
    · exact (if_neg (hw.trans_ne (by decide))).trans <| (if_neg fun h => Nat.not_lt.mpr hend h.2).trans (if_neg (not_not_intro hw))
    · have hpart : s.rxTransfer q t i f
          = (s.rxWrite q t i f).1.updQp q (fun u => { u with rxBusy := true, rxAt := u.rxAt + s.rxPiece q f }) :=
        (if_neg (hw.trans_ne (by decide))).trans (if_pos ⟨hw, hmore⟩)
      refine hpart.trans (State.updQp_congr ?_)
      rw [s.rxWrite_rxAt]
      rfl
    · exact (if_neg hretry).trans <| (if_neg fun h => hne h.1).trans (if_pos hne)

end Sys2Proof.Proofs

/-! SUPPORT. A frame at ingress: its MAC and MACsec checks, and the pipeline of a frame with one destination (Machine/Switch.lean,
Machine/Macsec.lean, Machine/Ethernet.lean). -/

namespace Sys2Proof.Machine

open Sys2Proof

/-! ### MACsec on reception (R361 to R363) -/

/-- MACsec works on no frame of gPTP. -/
theorem State.etherType_of_macsecOn {s : State} {p : Nat} {b : List Byte} (h : s.macsecOn p b = true) : etherType b ≠ 0x88F7 := by
  intro hptp
  simp [State.macsecOn, msBypass, hptp] at h

section MacsecRx

variable {s : State} {p : Nat} {f : RawFrame}

theorem State.macsecRx_off (hoff : s.macsecOn p f.bytes = false) : s.macsecRx p f = (s, some f.bytes) := by
  simp [State.macsecRx, hoff]

theorem State.macsecRx_untagged_strict (hon : s.macsecOn p f.bytes = true) (hout : outerType f.bytes ≠ 0x88E5)
    (hstrict : (s.macsec p).strict = true) :
    s.macsecRx p f = (s.cntMs p (fun c => { c with untagged := c.untagged + 1 }), none) := by
  simp [State.macsecRx, hon, hout, hstrict]

theorem State.macsecRx_untagged_lenient (hon : s.macsecOn p f.bytes = true) (hout : outerType f.bytes ≠ 0x88E5)
    (hstrict : (s.macsec p).strict = false) : s.macsecRx p f = (s, some f.bytes) := by
  simp [State.macsecRx, hon, hout, hstrict]

theorem State.macsecRx_noChannel (hon : s.macsecOn p f.bytes = true) (hout : outerType f.bytes = 0x88E5)
    (hstrict : (s.macsec p).strict = true) (hchannel : (s.macsec p).channel (secSci f.bytes) = none) :
    s.macsecRx p f = (s.cntMs p (fun c => { c with noSa := c.noSa + 1 }), none) := by
  simp [State.macsecRx, hon, hout, hstrict, hchannel]

variable (s p f)

/-- The number of the association that a protected frame names in channel ch. -/
def State.rxKey (f : RawFrame) (ch : Nat) : Nat := ch * 4 + u8At f.bytes 14 % 4

/-- That association. -/
def State.rxSa (ch : Nat) : MsSa := Tab.get (s.macsec p).rx (State.rxKey f ch) {}

/-- The PN of the frame, recovered from its low half where XPN is on. -/
def State.rxPnOf (ch : Nat) : Nat := rxPn (s.macsec p).xpn (s.rxSa p f ch).pn (beAt f.bytes 16 4)

/-- The plain text that passes where validation is not strict. -/
def State.rxLenient : Option (List Byte) :=
  if ¬ (s.macsec p).strict ∧ u8At f.bytes 14 / 4 % 4 = 0 then some (f.bytes.take 12 ++ (secParts f.bytes).2.1) else none

/-- The unit after a good frame: the window moves to its PN. -/
def State.rxOpened (ch : Nat) : State := s.updMacsec p (fun m => { m with
  rx := Tab.put m.rx (State.rxKey f ch)
    { s.rxSa p f ch with pn := BitVec.ofNat 64 (max (s.rxSa p f ch).pn.toNat (s.rxPnOf p f ch + 1)) }
  cnt := { m.cnt with ok := m.cnt.ok + 1 } })

variable {s p f} {ch : Nat} (hon : s.macsecOn p f.bytes = true) (hout : outerType f.bytes = 0x88E5)
  (hchannel : (s.macsec p).channel (secSci f.bytes) = some ch) (hhas : (s.macsec p).rx.has (State.rxKey f ch) = true)
include hon hout hchannel hhas

/-- A protected frame whose channel has the association that it names. -/
theorem State.macsecRx_of_sa : s.macsecRx p f =
    if (s.rxSa p f ch).revoked then ((s.cntMs p (fun c => { c with rxRevoked := c.rxRevoked + 1 })).ethEvent p 3, none)
    else if (s.macsec p).replay ∧ s.rxPnOf p f ch + (s.macsec p).window.toNat < (s.rxSa p f ch).pn.toNat then
      (s.cntMs p (fun c => { c with replay := c.replay + 1 }), none)
    else match (s.rxSa p f ch).open_ (s.macsec p).xpn (s.rxPnOf p f ch) f.bytes with
      | none => (match s.rxLenient p f with
        | some l => (s, some l)
        | none => (s.cntMs p (fun c => { c with auth := c.auth + 1 }), none))
      | some b => (s.rxOpened p f ch, some b) := by
  rw [State.rxKey] at hhas
  simp only [State.macsecRx, hon, not_true_eq_false, if_false, if_neg (not_not_intro hout), hchannel, hhas, if_true]
  rfl

theorem State.macsecRx_revoked (hrevoked : (s.rxSa p f ch).revoked = true) :
    s.macsecRx p f = ((s.cntMs p (fun c => { c with rxRevoked := c.rxRevoked + 1 })).ethEvent p 3, none) :=
  (State.macsecRx_of_sa hon hout hchannel hhas).trans (if_pos hrevoked)

variable (hrevoked : (s.rxSa p f ch).revoked = false)
include hrevoked

theorem State.macsecRx_replay (hreplay : (s.macsec p).replay = true)
    (hlate : s.rxPnOf p f ch + (s.macsec p).window.toNat < (s.rxSa p f ch).pn.toNat) :
    s.macsecRx p f = (s.cntMs p (fun c => { c with replay := c.replay + 1 }), none) :=
  (State.macsecRx_of_sa hon hout hchannel hhas).trans <| (if_neg (Bool.eq_false_iff.mp hrevoked)).trans (if_pos ⟨hreplay, hlate⟩)

variable (hintime : (s.macsec p).replay = true → (s.rxSa p f ch).pn.toNat ≤ s.rxPnOf p f ch + (s.macsec p).window.toNat)
include hintime

theorem State.macsecRx_auth (hstrict : (s.macsec p).strict = true)
    (hopen : (s.rxSa p f ch).open_ (s.macsec p).xpn (s.rxPnOf p f ch) f.bytes = none) :
    s.macsecRx p f = (s.cntMs p (fun c => { c with auth := c.auth + 1 }), none) := by
  have hlenient : s.rxLenient p f = none := if_neg fun h => h.1 hstrict
  rw [State.macsecRx_of_sa hon hout hchannel hhas, if_neg (Bool.eq_false_iff.mp hrevoked),
    if_neg fun h => Nat.not_lt.mpr (hintime h.1) h.2, hopen, hlenient]

theorem State.macsecRx_good {b : List Byte} (hopen : (s.rxSa p f ch).open_ (s.macsec p).xpn (s.rxPnOf p f ch) f.bytes = some b) :
    s.macsecRx p f = (s.rxOpened p f ch, some b) := by
  rw [State.macsecRx_of_sa hon hout hchannel hhas, if_neg (Bool.eq_false_iff.mp hrevoked),
    if_neg fun h => Nat.not_lt.mpr (hintime h.1) h.2, hopen]

end MacsecRx

/-! ### The MAC -/

section Ingress

variable {s : State} {p : Nat} {f : RawFrame}

theorem State.macDrop_good (hfrag : f.fragErr = false) (hfcs : f.fcsErr = false) (hmin : 64 ≤ f.bytes.length + 4)
    (hmax : f.bytes.length + 4 ≤ (s.ethPort p).maxFrame.toNat) : s.macDrop p f = none := by
  simp only [State.macDrop, hfrag, hfcs, Bool.false_eq_true, if_false, if_neg (Nat.not_lt.mpr hmin), if_neg (Nat.not_lt.mpr hmax)]

variable (hp : p < 26) (hforward : s.sw.forwarding = true) (hlink : (s.ethPort p).link = true)
include hp hforward hlink

/-- A frame that the MAC drops. -/
theorem exec_frameIngress_of_drop {t : State} (hdrop : s.macDrop p f = some t) : exec (.frameIngress p f) s = fin t := by
  have hrow : exec (.frameIngress p f) s = execFrameIngress p f s := rfl
  simp [hrow, execFrameIngress, hp, hforward, hlink, hdrop, show p ≠ 29 by omega]

variable (hgood : s.macDrop p f = none)
include hgood

/-- A good frame that the MAC or gPTP takes for itself is counted. -/
theorem exec_frameIngress_of_taken (htaken : etherType f.bytes = 0x8808 ∨ (etherType f.bytes = 0x88F7 ∧ s.bridgeOn p = true)) :
    exec (.frameIngress p f) s = fin (s.goodFrame p f.bytes.length) := by
  have hrow : exec (.frameIngress p f) s = execFrameIngress p f s := rfl
  rcases htaken with h | ⟨h, hbridge⟩
  · simp [hrow, execFrameIngress, hp, hforward, hlink, hgood, show p ≠ 29 by omega, h]
  · simp [hrow, execFrameIngress, hp, hforward, hlink, hgood, show p ≠ 29 by omega, h, hbridge]

variable (hmac : etherType f.bytes ≠ 0x8808) (hptp : etherType f.bytes = 0x88F7 → s.bridgeOn p = false)
include hmac hptp

/-- Any other good frame meets MACsec. -/
theorem exec_frameIngress_of_stopped {t : State} (hms : (s.goodFrame p f.bytes.length).macsecRx p f = (t, none)) :
    exec (.frameIngress p f) s = fin t := by
  have hrow : exec (.frameIngress p f) s = execFrameIngress p f s := rfl
  have hnot : ¬ (etherType f.bytes = 0x88F7 ∧ s.bridgeOn p = true) := fun h => Bool.eq_false_iff.mp (hptp h.1) h.2
  simp [hrow, execFrameIngress, hp, hforward, hlink, hgood, show p ≠ 29 by omega, hmac, hnot, hms]

/-- What MACsec lets through enters the pipeline. -/
theorem exec_frameIngress_of_passed {t : State} {b : List Byte} (hms : (s.goodFrame p f.bytes.length).macsecRx p f = (t, some b)) :
    exec (.frameIngress p f) s = fin (t.forward { port := p, bytes := b }).1 := by
  have hrow : exec (.frameIngress p f) s = execFrameIngress p f s := rfl
  have hnot : ¬ (etherType f.bytes = 0x88F7 ∧ s.bridgeOn p = true) := fun h => Bool.eq_false_iff.mp (hptp h.1) h.2
  simp [hrow, execFrameIngress, hp, hforward, hlink, hgood, show p ≠ 29 by omega, hmac, hnot, hms]

end Ingress

/-- A frame of PX port 29. -/
theorem exec_frameIngress_px {s : State} {f : RawFrame} (hforward : s.sw.forwarding = true) (hlink : (s.swPort 29).link = true) :
    exec (.frameIngress 29 f) s = if etherType f.bytes = 0x88F7 ∧ s.bridgeOn 29 then fin (s.goodFrame 29 f.bytes.length)
      else fin ((s.goodFrame 29 f.bytes.length).forward { port := 29, bytes := f.bytes }).1 := by
  have hrow : exec (.frameIngress 29 f) s = execFrameIngress 29 f s := rfl
  simp [hrow, execFrameIngress, hforward, hlink]

end Sys2Proof.Machine

/-! SUPPORT. The pipeline over a frame with one destination: the market and express SRAM, and what flow control leaves (Machine/Switch.lean,
Machine/Pipeline.lean). -/

namespace Sys2Proof.Machine

open Sys2Proof

/-! ### Flow control -/

/-- From s to t, port p changes in its flow control, and SW_EVENT; the counters and the occupancy of p, and all else, stay. -/
def State.portOnly (p : Nat) (s t : State) : Prop :=
  (t.swPort p).cnt = (s.swPort p).cnt ∧ (t.swPort p).occ = (s.swPort p).occ
    ∧ (∀ q, q ≠ p → t.swPort q = s.swPort q ∧ t.ethPort q = s.ethPort q)
    ∧ t = { s with
        eth := { s.eth with ports := t.eth.ports }
        sw := { s.sw with
          ports := t.sw.ports
          event := t.sw.event } }

theorem State.portOnly_refl (p : Nat) (s : State) : State.portOnly p s s := ⟨rfl, rfl, fun _ _ => ⟨rfl, rfl⟩, rfl⟩

theorem State.portOnly_trans {p : Nat} {a b c : State} (h : State.portOnly p a b) (k : State.portOnly p b c) : State.portOnly p a c := by
  obtain ⟨hcnt, hocc, hother, hrest⟩ := h
  obtain ⟨kcnt, kocc, kother, krest⟩ := k
  refine ⟨kcnt.trans hcnt, kocc.trans hocc, fun q hq => ?_, by rw [krest, hrest]⟩
  exact ⟨(kother q hq).1.trans (hother q hq).1, (kother q hq).2.trans (hother q hq).2⟩

theorem State.updSwPort_portOnly (s : State) (p : Nat) {f : SwPort → SwPort} (hcnt : ∀ u, (f u).cnt = u.cnt) (hocc : ∀ u, (f u).occ = u.occ) :
    State.portOnly p s (s.updSwPort p f) := by
  have hself : (s.updSwPort p f).swPort p = f (s.swPort p) := by rw [State.swPort_updSwPort, if_pos rfl]
  refine ⟨hself ▸ hcnt _, hself ▸ hocc _, fun q hq => ⟨?_, rfl⟩, rfl⟩
  rw [State.swPort_updSwPort, if_neg hq]

theorem State.updEthPort_portOnly (s : State) (p : Nat) (f : EthPort → EthPort) : State.portOnly p s (s.updEthPort p f) := by
  refine ⟨rfl, rfl, fun q hq => ⟨rfl, ?_⟩, rfl⟩
  rw [State.ethPort_updEthPort, if_neg hq]

theorem State.fcSend_portOnly (s : State) (p : Nat) (f : FcFrame) : State.portOnly p s (s.fcSend p f) := by
  unfold State.fcSend
  split
  · exact State.portOnly_refl p s
  · split
    · exact State.portOnly_trans (s.updSwPort_portOnly p (f := fun u => { u with sent := f.bytes p (s.ethPort p).quanta, sentBad := false })
        (fun _ => rfl) fun _ => rfl) (State.updEthPort_portOnly _ p _)
    · exact s.updEthPort_portOnly p _

theorem State.flowControl_portOnly (s : State) (p : Nat) : State.portOnly p s (s.flowControl p) := by
  unfold State.flowControl
  extract_lets u fc pfc s1
  have hflags : State.portOnly p s s1 := s.updSwPort_portOnly p (fun _ => rfl) fun _ => rfl
  split
  · exact State.portOnly_trans hflags (s1.fcSend_portOnly p _)
  · split
    · exact State.portOnly_trans hflags (s1.fcSend_portOnly p _)
    · exact hflags

theorem State.marketLow_portOnly (s : State) (p : Nat) : State.portOnly p s s.marketLow := by
  unfold State.marketLow
  split
  · exact ⟨rfl, rfl, fun _ _ => ⟨rfl, rfl⟩, rfl⟩
  · exact State.portOnly_refl p s

/-! ### Admission (R289, R290) -/

/-- The cells of a market frame charged to its account and to its port. -/
def State.chargeMarket (s : State) (f : Frame) : State :=
  ((s.updSwPort f.ingress (fun u => { u with
    occ := u.occ + BitVec.ofNat 20 f.cells
    occCls := Tab.upd u.occCls f.cls 0 (fun n => n + f.cells) })).onSw (fun w => { w with free := w.free - f.cells })).updAcct f.acct
      (fun a => { a with used := a.used + f.cells })

theorem State.takeCells_market {s : State} {f : Frame} (h : f.express = false) :
    State.portOnly f.ingress (s.chargeMarket f) (s.takeCells f none) := by
  have htake : s.takeCells f none = ((s.chargeMarket f).flowControl f.ingress).marketLow := by simp [State.takeCells, h, State.chargeMarket]
  rw [htake]
  exact State.portOnly_trans (State.flowControl_portOnly _ _) (State.marketLow_portOnly _ _)

/-- The cells of an express frame; it takes part in no account and no occupancy. -/
theorem State.takeCells_express {s : State} {f : Frame} (h : f.express = true) :
    State.portOnly f.ingress (s.onSw (fun w => { w with expFree := w.expFree - f.cells })) (s.takeCells f none) := by
  have hsame : State.portOnly f.ingress (s.onSw (fun w => { w with expFree := w.expFree - f.cells }))
      ((s.updSwPort f.ingress (fun u => { u with occ := u.occ, occCls := u.occCls })).onSw (fun w => { w with expFree := w.expFree - f.cells })) :=
    State.updSwPort_portOnly (s.onSw (fun w => { w with expFree := w.expFree - f.cells })) f.ingress
      (f := fun u => { u with occ := u.occ, occCls := u.occCls }) (fun _ => rfl) fun _ => rfl
  have htake : s.takeCells f none = (((s.updSwPort f.ingress (fun u => { u with occ := u.occ, occCls := u.occCls })).onSw
      (fun w => { w with expFree := w.expFree - f.cells })).flowControl f.ingress).marketLow := by
    simp [State.takeCells, h]
  rw [htake]
  exact State.portOnly_trans hsame (State.portOnly_trans (State.flowControl_portOnly _ _) (State.marketLow_portOnly _ _))

theorem State.toExpress_of_room {s : State} {f : Frame} (hcut : f.cut = true) (hports : ∀ p ∈ f.dests, p ≠ 26 ∧ p ≠ 27)
    (hroom : s.expressRoom f = true) : s.toExpress f = true := by
  simpa [State.toExpress, hcut, hroom] using hports

theorem State.store_express {s : State} {f : Frame} (h : s.toExpress f = true) : s.store f = (s.keep { f with express := true } none, true) :=
  if_pos h

section Market

variable {s : State} {f : Frame} (hcut : f.cut = false) (hmask : s.sw.classMask.getLsbD f.cls = false) (hvia : f.via = none)
include hcut hmask hvia

/-- A frame of no express class and of no queue pair is charged to account 63. -/
theorem State.store_market : s.store f =
    if (Tab.get s.sw.accts 63 {}).used + f.cells ≤ s.acctShare 63 ∧ f.cells ≤ s.sw.free then (s.keep { f with acct := 63 } none, true)
    else if s.sw.pushEn ∧ s.sw.minClass ≤ f.cls then
      match s.victims 63 f.cls 8 (s.needed 63 f.cells) [] with
      | none => (s.refuseFrame f 63, false)
      | some vs =>
        ((((vs.foldl State.pushOut s).updAcct 63 (fun a => { a with pushout := satAdd a.pushout vs.length })).onCore
          (fun c => { c with fresh := c.fresh + 1 })).keep { f with acct := 63 } none, true)
    else (s.refuseFrame f 63, false) := by
  have hexpress : s.toExpress f = false := by simp [State.toExpress, hcut, hmask]
  have hspills : s.spills f = false := by simp [State.spills, hmask]
  simp only [State.store, hexpress, hspills, hvia, Bool.false_eq_true, if_false]
  rfl

theorem State.store_room (hshare : (Tab.get s.sw.accts 63 {}).used + f.cells ≤ s.acctShare 63) (hfree : f.cells ≤ s.sw.free) :
    s.store f = (s.keep { f with acct := 63 } none, true) :=
  (State.store_market hcut hmask hvia).trans (if_pos ⟨hshare, hfree⟩)

theorem State.store_full (hfull : s.sw.free < f.cells) (hpush : s.sw.pushEn = false) : s.store f = (s.refuseFrame f 63, false) :=
  (State.store_market hcut hmask hvia).trans <| (if_neg fun h => Nat.not_lt.mpr h.2 hfull).trans
    (if_neg fun h => Bool.eq_false_iff.mp hpush h.1)

end Market

/-! ### The pipeline -/

/-- The frame of an arrival that a flooding VLAN sends to port e alone. -/
def State.arrived (s : State) (a : Arrival) (e : Nat) : Frame where
  ingress := a.port
  bytes := a.bytes
  tagged := isTagged a.bytes
  vid := BitVec.ofNat 12 (s.classify a).vid
  cls := (s.classify a).cls
  hash := s.sw.hash a.port a.bytes
  cells := cellsOf a.bytes
  fromQp := a.fromQp
  dests := [e]
  cut := a.cut
  wireLen := a.wireLen
  time := s.tb.globalT

section Forward

variable {s : State} {a : Arrival} (hen : (s.swPort a.port).en = true)
include hen

theorem State.forward_filtered (h : (s.classify a).filtered = true) : s.forward a = (s.dropClassify a.port, false) := by
  simp [State.forward, hen, h]

variable (hfiltered : (s.classify a).filtered = false) (hentry : (s.classify a).entry = none)
include hfiltered hentry

theorem State.forward_nowhere (hdests : (s.classify a).dests = []) : s.forward a = (s.dropClassify a.port, false) := by
  simp [State.forward, hen, hfiltered, hentry, hdests]

/-- With neither policer nor stream, the frame goes to its port as it came. -/
theorem State.forward_single {e : Nat} (hdests : (s.classify a).dests = [e]) (hcard : e ≠ 26) (hcard' : e ≠ 27) :
    s.forward a = s.store (s.arrived a e) := by
  have hpolicer : s.policerOf (s.classify a) = none := by simp [State.policerOf, hentry]
  have hfrer (t : State) (b : List Byte) : t.frerStage (s.classify a) a.port b = (t, b, none, true) := by
    simp [State.frerStage, State.streamOf, hentry]
  simp [State.forward, hen, hfiltered, hentry, hdests, hcard, hcard', hcard.symm, hcard'.symm, hpolicer, hfrer, State.arrived]

end Forward

/-! ### The switch with a frame more -/

theorem State.swPort_cntSw_same (s : State) (p : Nat) (f : SwCnt → SwCnt) :
    (s.cntSw p f).swPort p = { s.swPort p with cnt := f (s.swPort p).cnt } := (s.swPort_updSwPort ..).trans (if_pos rfl)

theorem State.swPort_cntSw_ne (s : State) {p q : Nat} (f : SwCnt → SwCnt) (h : q ≠ p) : (s.cntSw p f).swPort q = s.swPort q :=
  (s.swPort_updSwPort ..).trans (if_neg h)

/-- From s to u, cells of a frame that enters by port p are charged: the counters of p and the other ports stay. -/
def State.charged (p : Nat) (s u : State) : Prop :=
  (u.swPort p).cnt = (s.swPort p).cnt ∧ (∀ q, q ≠ p → u.swPort q = s.swPort q)
    ∧ u = { s with
        sw := { s.sw with
          ports := u.sw.ports
          free := u.sw.free
          expFree := u.sw.expFree
          accts := u.sw.accts } }

/-- What an admission does beside charging the cells: the frame is the last one, its ingress counts it, and of the other ports nothing changes. -/
def State.admitted (s t : State) (f : Frame) : Prop :=
  t.sw.frames = s.sw.frames ++ [{ f with id := s.sw.nextFrame, chargedQp := none }] ∧ t.sw.nextFrame = s.sw.nextFrame + 1
    ∧ (t.swPort f.ingress).cnt = { (s.swPort f.ingress).cnt with inFrames := (s.swPort f.ingress).cnt.inFrames + 1 }
    ∧ (∀ q, q ≠ f.ingress → t.swPort q = s.swPort q ∧ t.ethPort q = s.ethPort q) ∧ t.sw.qps = s.sw.qps ∧ t.sw.flows = s.sw.flows
    ∧ t = { s with
        eth := { s.eth with ports := t.eth.ports }
        sw := t.sw }

theorem State.keep_eq (s : State) (f : Frame) : s.keep f none =
    ((s.takeCells { f with id := s.sw.nextFrame, chargedQp := none } none).onSw (fun w => { w with
      frames := w.frames ++ [{ f with id := s.sw.nextFrame, chargedQp := none }]
      nextFrame := w.nextFrame + 1 })).cntSw f.ingress (fun c => { c with inFrames := c.inFrames + 1 }) := by
  rw [State.keep, ite_self]

/-- An admission behind the charge of its cells: flow control may answer at the ingress. -/
theorem State.keep_of_charged {s u : State} {f : Frame} (hcharged : State.charged f.ingress s u)
    (htake : State.portOnly f.ingress u (s.takeCells { f with id := s.sw.nextFrame, chargedQp := none } none)) :
    s.admitted (s.keep f none) f ∧ (s.keep f none).sw.free = u.sw.free ∧ (s.keep f none).sw.expFree = u.sw.expFree
      ∧ (s.keep f none).sw.accts = u.sw.accts ∧ ((s.keep f none).swPort f.ingress).occ = (u.swPort f.ingress).occ := by
  obtain ⟨ccnt, cother, crest⟩ := hcharged
  obtain ⟨tcnt, tocc, tother, trest⟩ := htake
  rw [State.keep_eq]
  generalize s.takeCells { f with id := s.sw.nextFrame, chargedQp := none } none = t at tcnt tocc tother trest ⊢
  have hframes : t.sw.frames = s.sw.frames := by rw [trest, crest]
  have hnext : t.sw.nextFrame = s.sw.nextFrame := by rw [trest, crest]
  have hqps : t.sw.qps = s.sw.qps := by rw [trest, crest]
  have hflows : t.sw.flows = s.sw.flows := by rw [trest, crest]
  have hfree : t.sw.free = u.sw.free := by rw [trest]
  have hexpress : t.sw.expFree = u.sw.expFree := by rw [trest]
  have haccts : t.sw.accts = u.sw.accts := by rw [trest]
  have heth (q : Nat) : u.ethPort q = s.ethPort q := by rw [crest]; rfl
  refine ⟨⟨congrArg (· ++ [_]) hframes, congrArg (· + 1) hnext, ?cnt, fun q hq => ⟨?port, (tother q hq).2.trans (heth q)⟩, hqps, hflows,
    ?rest⟩, hfree, hexpress, haccts, ?occ⟩
  case cnt => rw [State.swPort_cntSw_same, ← ccnt, ← tcnt]; rfl
  case port => rw [State.swPort_cntSw_ne _ _ hq, ← cother q hq, ← (tother q hq).1]; rfl
  case rest => rw [trest, crest]; rfl
  case occ => rw [State.swPort_cntSw_same, ← tocc]; rfl

/-- A frame admitted to the market. -/
theorem State.keep_market {s : State} {f : Frame} (h : f.express = false) :
    s.admitted (s.keep f none) f ∧ (s.keep f none).sw.free = s.sw.free - f.cells ∧ (s.keep f none).sw.expFree = s.sw.expFree
      ∧ (Tab.get (s.keep f none).sw.accts f.acct {}).used = (Tab.get s.sw.accts f.acct {}).used + f.cells
      ∧ ((s.keep f none).swPort f.ingress).occ = (s.swPort f.ingress).occ + BitVec.ofNat 20 f.cells := by
  have hport (q : Nat) : (s.chargeMarket f).swPort q = if q = f.ingress then { s.swPort f.ingress with
      occ := (s.swPort f.ingress).occ + BitVec.ofNat 20 f.cells
      occCls := Tab.upd (s.swPort f.ingress).occCls f.cls 0 (fun n => n + f.cells) } else s.swPort q :=
    s.swPort_updSwPort f.ingress q fun u => { u with
      occ := u.occ + BitVec.ofNat 20 f.cells
      occCls := Tab.upd u.occCls f.cls 0 (fun n => n + f.cells) }
  have hacct : (Tab.get (s.chargeMarket f).sw.accts f.acct {}).used = (Tab.get s.sw.accts f.acct {}).used + f.cells :=
    congrArg Acct.used (Tab.get_upd_same s.sw.accts f.acct {} (fun a => { a with used := a.used + f.cells }))
  have hcharged : State.charged f.ingress s (s.chargeMarket f) :=
    ⟨by rw [hport, if_pos rfl], fun q hq => by rw [hport, if_neg hq], rfl⟩
  obtain ⟨hadmitted, hfree, hexpress, haccts, hocc⟩ := State.keep_of_charged hcharged (State.takeCells_market h)
  exact ⟨hadmitted, hfree, hexpress, by rw [haccts, hacct], by rw [hocc, hport, if_pos rfl]⟩

/-- A frame admitted to express SRAM. -/
theorem State.keep_express {s : State} {f : Frame} (h : f.express = true) :
    s.admitted (s.keep f none) f ∧ (s.keep f none).sw.free = s.sw.free ∧ (s.keep f none).sw.expFree = s.sw.expFree - f.cells := by
  have hcharged : State.charged f.ingress s (s.onSw (fun w => { w with expFree := w.expFree - f.cells })) :=
    ⟨rfl, fun _ _ => rfl, rfl⟩
  obtain ⟨hadmitted, hfree, hexpress, -, -⟩ := State.keep_of_charged hcharged (State.takeCells_express h)
  exact ⟨hadmitted, hfree, hexpress⟩

/-- A frame refused at ingress. -/
theorem State.refuseFrame_counts (s : State) (f : Frame) (n : Nat) :
    (Tab.get (s.refuseFrame f n).sw.accts n {}).refused = satInc (Tab.get s.sw.accts n {}).refused
      ∧ ((s.refuseFrame f n).swPort f.ingress).cnt
        = { (s.swPort f.ingress).cnt with refuse := (s.swPort f.ingress).cnt.refuse + 1 } := by
  have hport := (s.updAcct n (fun a => { a with refused := satInc a.refused })).swPort_cntSw_same f.ingress
    (fun c => { c with refuse := c.refuse + 1 })
  exact ⟨congrArg Acct.refused (Tab.get_upd_same s.sw.accts n {} (fun a => { a with refused := satInc a.refused })),
    congrArg SwPort.cnt hport⟩

/-! ### Cut-through (R287) -/

/-- What a frame that cuts through needs of its lookup and of its egress port. -/
theorem State.cutOk_single {s : State} {a : Arrival} {e : Nat} (h : s.cutOk a = true) (hdests : (s.classify a).dests = [e]) :
    (s.swPort a.port).en = true ∧ (s.classify a).filtered = false ∧ e ≠ 26 ∧ e ≠ 27
      ∧ s.expressRoom { dests := [e], cells := cellsOf a.bytes, cut := true } = true := by
  simp only [State.cutOk, hdests, Bool.and_eq_true, Bool.not_eq_true', decide_eq_true_eq] at h
  obtain ⟨⟨⟨⟨⟨hen, -⟩, -⟩, hfiltered⟩, -⟩, ⟨⟨⟨⟨⟨-, hcard⟩, hcard'⟩, -⟩, -⟩, hroom⟩⟩ := h
  exact ⟨hen, hfiltered, hcard, hcard', hroom⟩

/-- A frame that cuts through to a port is in express SRAM, and its ingress counts it twice over. -/
theorem State.cutThrough_single {s : State} {a : Arrival} {e : Nat} (hok : s.cutOk a = true) (hentry : (s.classify a).entry = none)
    (hdests : (s.classify a).dests = [e]) :
    s.cutThrough a = ((s.keep { s.arrived { a with cut := true } e with express := true } none).cntSw a.port
      (fun c => { c with cut := c.cut + 1 }), true) := by
  obtain ⟨hen, hfiltered, hcard, hcard', hroom⟩ := State.cutOk_single hok hdests
  have hforward : s.forward { a with cut := true } = s.store (s.arrived { a with cut := true } e) :=
    State.forward_single (a := { a with cut := true }) hen hfiltered hentry hdests hcard hcard'
  have hstore := State.store_express (s := s) (f := s.arrived { a with cut := true } e)
    (State.toExpress_of_room rfl (fun p hp => List.mem_singleton.mp hp ▸ ⟨hcard, hcard'⟩) hroom)
  rw [State.cutThrough, hforward, hstore]
  rfl

/-- A frame that begins to cut through. -/
theorem exec_cutThroughStart {s : State} {p : Nat} {f : RawFrame} (hp : p < 26) (hforward : s.sw.forwarding = true)
    (hmac : (s.ethPort p).link = true) (hlink : (s.swPort p).link = true) (hms : s.macsecOn p f.bytes = false)
    (hcontrol : etherType f.bytes ≠ 0x8808) (hptp : etherType f.bytes = 0x88F7 → s.bridgeOn p = false)
    (hok : s.cutOk { port := p, bytes := f.bytes, wireLen := f.bytes.length } = true) :
    exec (.cutThroughStart p f) s = fin (s.cutThrough { port := p, bytes := f.bytes, wireLen := f.bytes.length }).1 := by
  have hrow : exec (.cutThroughStart p f) s = execCutThroughStart p f s := rfl
  have hnot : ¬ (etherType f.bytes = 0x88F7 ∧ s.bridgeOn p = true) := fun h => Bool.eq_false_iff.mp (hptp h.1) h.2
  simp [hrow, execCutThroughStart, hp, hforward, hmac, hlink, hcontrol, hnot, State.macsecRx_off hms, hok]

end Sys2Proof.Machine

namespace Sys2Proof.Proofs

open Sys2Proof Sys2Proof.Machine

/-- Settles O55: the MAC's drops and counts, MACsec by what the association decides, and the pipeline of a frame with one destination by its
admission. -/
theorem framesEnter : Obligations.FramesEnter := by
  refine ⟨?ingress, ?px, ?pipeline, ?cut⟩
  case ingress =>
    intro s p f hp hforward hlink len
    refine ⟨fun hfrag => ?frag, fun hfrag hfcs => ?fcs, fun hfrag hfcs hmin => ?runt, fun hfrag hfcs hmin hmax => ?oversize,
      fun hfrag hfcs hmin hmax hmac hptp hoff => ?plain, fun hfrag hfcs hmin hmax => ?good⟩
    case frag => exact exec_frameIngress_of_drop hp hforward hlink (by simp [State.macDrop, hfrag])
    case fcs => exact exec_frameIngress_of_drop hp hforward hlink (by simp [State.macDrop, hfrag, hfcs])
    case runt => exact exec_frameIngress_of_drop hp hforward hlink (by simp [State.macDrop, hfrag, hfcs, show f.bytes.length + 4 < 64 from hmin])
    case oversize =>
      exact exec_frameIngress_of_drop hp hforward hlink (by
        simp [State.macDrop, hfrag, hfcs, show ¬ f.bytes.length + 4 < 64 from Nat.not_lt.mpr hmin,
          show (s.ethPort p).maxFrame.toNat < f.bytes.length + 4 from hmax])
    case plain =>
      exact exec_frameIngress_of_passed hp hforward hlink (State.macDrop_good hfrag hfcs hmin hmax) hmac hptp (State.macsecRx_off hoff)
    case good =>
      intro u m k a pn
      have hgood := State.macDrop_good hfrag hfcs hmin hmax
      refine ⟨exec_frameIngress_of_taken hp hforward hlink hgood, fun hmac hon => ?_⟩
      have hptp : etherType f.bytes = 0x88F7 → s.bridgeOn p = false := fun h => absurd h (State.etherType_of_macsecOn hon)
      have hstopped {t : State} (h : u.macsecRx p f = (t, none)) : exec (.frameIngress p f) s = fin t :=
        exec_frameIngress_of_stopped hp hforward hlink hgood hmac hptp h
      have hpassed {t : State} {b : List Byte} (h : u.macsecRx p f = (t, some b)) :
          exec (.frameIngress p f) s = fin (t.forward { port := p, bytes := b }).1 :=
        exec_frameIngress_of_passed hp hforward hlink hgood hmac hptp h
      have hon' : u.macsecOn p f.bytes = true := hon
      refine ⟨fun hout hstrict => hstopped (State.macsecRx_untagged_strict hon' hout hstrict),
        fun hout hstrict => hpassed (State.macsecRx_untagged_lenient hon' hout hstrict),
        fun hout hstrict hchannel => hstopped (State.macsecRx_noChannel hon' hout hstrict hchannel), fun ch hout hchannel hhas => ?_⟩
      refine ⟨fun hrevoked => hstopped (State.macsecRx_revoked hon' hout hchannel hhas hrevoked),
        fun hrevoked hreplay hlate => hstopped (State.macsecRx_replay hon' hout hchannel hhas hrevoked hreplay hlate),
        fun hrevoked hintime => ⟨fun hstrict hopen => hstopped ?_, fun b hopen => hpassed ?_⟩⟩
      · exact State.macsecRx_auth hon' hout hchannel hhas hrevoked hintime hstrict hopen
      · exact State.macsecRx_good hon' hout hchannel hhas hrevoked hintime hopen
  case px =>
    intro s f hforward hlink u
    have hexec := exec_frameIngress_px hforward hlink (f := f)
    exact ⟨fun hptp hbridge => hexec.trans (if_pos ⟨hptp, hbridge⟩), fun hptp => hexec.trans (if_neg fun h => hptp h.1)⟩
  case pipeline =>
    intro s p b a l n
    refine ⟨fun hen => ?_, fun hen hfiltered => State.forward_filtered hen hfiltered,
      fun hen hfiltered hentry hdests => State.forward_nowhere hen hfiltered hentry hdests,
      fun e hen hfiltered hentry hdests hcard hcard' hmask => ?_⟩
    · exact if_pos (Bool.eq_false_iff.mp hen)
    have hstore : s.forward a = s.store (s.arrived a e) := State.forward_single hen hfiltered hentry hdests hcard hcard'
    have hvia : (s.arrived a e).via = none := by simp [State.arrived, Frame.via, a, hcard, hcard']
    refine ⟨fun used hused hshare hfree => ?_, fun hfull hpush => ?_⟩
    · rw [← hused] at hshare ⊢
      obtain ⟨⟨hframes, hnext, hcnt, hother, hqps, hflows, hrest⟩, hfree', hexpress, haccts, hocc⟩ :=
        State.keep_market (s := s) (f := { s.arrived a e with acct := 63 }) rfl
      exact ⟨_, hstore.trans (State.store_room rfl hmask hvia hshare hfree), hframes, hfree', hexpress, haccts, hcnt, hocc, hnext, hother,
        hqps, hflows, hrest⟩
    · obtain ⟨hrefused, hcnt⟩ := s.refuseFrame_counts (s.arrived a e) 63
      exact ⟨_, hstore.trans (State.store_full rfl hmask hvia hfull hpush), rfl, rfl, hrefused, hcnt, rfl, rfl⟩
  case cut =>
    intro s p f e hp hforward hmac hlink hms hcontrol hptp a hok hentry hdests
    obtain ⟨⟨hframes, hnext, hcnt, hother, hqps, hflows, hrest⟩, hfree, hexpress⟩ :=
      State.keep_express (s := s) (f := { s.arrived { a with cut := true } e with express := true }) rfl
    have hexec := exec_cutThroughStart hp hforward hmac hlink hms hcontrol hptp hok
    rw [State.cutThrough_single hok hentry hdests] at hexec
    refine ⟨_, _, hexec, hframes, rfl, rfl, rfl, rfl, rfl, rfl, hexpress, hfree, ?_, fun q hq => ⟨?_, (hother q hq).2⟩, ?_⟩
    · rw [State.swPort_cntSw_same]
      exact congrArg (fun c : SwCnt => { c with cut := c.cut + 1 }) hcnt
    · exact (State.swPort_cntSw_ne _ _ hq).trans (hother q hq).1
    · rw [hrest]
      rfl

end Sys2Proof.Proofs

/-! SUPPORT. The time-aware bridge: what the choice of the master leaves, and what it settles (Machine/Bridge.lean). -/

namespace Sys2Proof.Machine

open Sys2Proof

/-! ### The choice of the master -/

/-- From s to t, a master is chosen: GSTATE, the global events and the bridge may change, and of each bridge port the role alone. -/
def State.masterOnly (s t : State) : Prop :=
  (∀ q, t.eth.bridge.port q = { s.eth.bridge.port q with role := (t.eth.bridge.port q).role })
    ∧ t = { s with
        tb := { s.tb with gstate := t.tb.gstate }
        eth := { s.eth with bridge := t.eth.bridge, gevent := t.eth.gevent } }

theorem State.masterOnly_refl (s : State) : s.masterOnly s := ⟨fun _ => rfl, rfl⟩

theorem State.masterOnly_trans {a b c : State} (h : a.masterOnly b) (k : b.masterOnly c) : a.masterOnly c := by
  obtain ⟨hport, hrest⟩ := h
  obtain ⟨kport, krest⟩ := k
  exact ⟨fun q => (kport q).trans (by rw [hport q]), by rw [krest, hrest]⟩

theorem State.setGm_eq (s : State) (id : U64) (steps : Byte) (role : BitVec 2) : s.setGm id steps role = s.onEth (fun e => { e with
    bridge := { e.bridge with
      gmId := id, stepsRemoved := steps, role := role
      good := if s.eth.bridge.gmId ≠ id ∨ s.eth.bridge.role ≠ role then 0 else e.bridge.good }
    gevent := if s.eth.bridge.gmId ≠ id ∨ s.eth.bridge.role ≠ role then e.gevent ||| 1 else e.gevent }) := by
  by_cases h : s.eth.bridge.gmId ≠ id ∨ s.eth.bridge.role ≠ role
  · simp only [State.setGm, if_pos h]
    rfl
  · simp only [State.setGm, if_neg h]
    rfl

/-- A grandmaster, its distance and the module's role are settled; the ports and the time base stay. -/
theorem State.setGm_settles (s : State) (id : U64) (steps : Byte) (role : BitVec 2) :
    (s.setGm id steps role).eth.bridge.gmId = id ∧ (s.setGm id steps role).eth.bridge.stepsRemoved = steps
      ∧ (s.setGm id steps role).eth.bridge.role = role ∧ (∀ q, (s.setGm id steps role).eth.bridge.port q = s.eth.bridge.port q)
      ∧ (s.setGm id steps role).tb = s.tb := by
  rw [State.setGm_eq]
  exact ⟨rfl, rfl, rfl, fun _ => rfl, rfl⟩

theorem State.setGm_masterOnly (s : State) (id : U64) (steps : Byte) (role : BitVec 2) : s.masterOnly (s.setGm id steps role) := by
  rw [State.setGm_eq]
  exact ⟨fun _ => rfl, rfl⟩

theorem State.grandmaster_masterOnly (s : State) : s.masterOnly s.grandmaster :=
  State.masterOnly_trans (s.setGm_masterOnly ownClock 0 1) ⟨fun _ => rfl, rfl⟩

/-- Roles that are given to a list of ports, one by one. -/
def State.giveRoles (s : State) (l : List Nat) (r : Nat → BitVec 2) : State := s.onBridge (fun b => { b with
  ports := l.foldl (fun t p => if r p = (Tab.get t p {}).role then t else Tab.upd t p {} (fun u => { u with role := r p })) b.ports })

/-- Each port of the list has its own role, and nothing else of a port changes. -/
theorem State.giveRoles_port (s : State) (l : List Nat) (r : Nat → BitVec 2) (q : Nat) : (s.giveRoles l r).eth.bridge.port q
    = { s.eth.bridge.port q with role := if q ∈ l then r q else (s.eth.bridge.port q).role } := by
  simp only [State.giveRoles, State.onBridge, State.onEth_eth, Bridge.port]
  generalize s.eth.bridge.ports = t
  induction l generalizing t with
  | nil => rfl
  | cons p l ih =>
    have hone : Tab.get (if r p = (Tab.get t p {}).role then t else Tab.upd t p {} (fun u => { u with role := r p })) q {}
        = { Tab.get t q {} with role := if q = p then r q else (Tab.get t q {}).role } := by
      by_cases hq : q = p
      · subst q
        rw [if_pos rfl]
        split
        · next hsame => rw [hsame]
        · rw [Tab.get_upd_same]
      · rw [if_neg hq]
        split
        · rfl
        · rw [Tab.get_upd_ne _ _ _ hq]
    rw [List.foldl_cons, ih, hone]
    by_cases hl : q ∈ l <;> by_cases hq : q = p <;> simp [hl, hq]

theorem State.giveRoles_masterOnly (s : State) (l : List Nat) (r : Nat → BitVec 2) : s.masterOnly (s.giveRoles l r) :=
  ⟨fun q => (s.giveRoles_port l r q).trans (by rw [s.giveRoles_port]), rfl⟩

theorem State.giveRoles_tb (s : State) (l : List Nat) (r : Nat → BitVec 2) : (s.giveRoles l r).tb = s.tb := rfl

/-- The role that the best master clock algorithm gives a port. -/
def State.tabRole (s : State) (slave : Option Nat) (root : PtpClock) (steps : Byte) (p : Nat) : BitVec 2 :=
  if !s.tabLive p then 0 else if slave = some p then 2 else s.eth.bridge.besideRole p root steps

theorem State.tabRoles_eq (s : State) (slave : Option Nat) (root : PtpClock) (steps : Byte) : s.tabRoles slave root steps
    = s.giveRoles ((List.range 30).filter (fun p => p < 22 || p = 29)) (s.tabRole slave root steps) := by
  unfold State.tabRoles State.giveRoles State.tabRole State.onBridge State.onEth
  rfl

theorem State.tabRoles_masterOnly (s : State) (slave : Option Nat) (root : PtpClock) (steps : Byte) :
    s.masterOnly (s.tabRoles slave root steps) := by
  rw [State.tabRoles_eq]
  exact s.giveRoles_masterOnly ..

theorem State.tabRoles_tb (s : State) (slave : Option Nat) (root : PtpClock) (steps : Byte) : (s.tabRoles slave root steps).tb = s.tb := by
  rw [State.tabRoles_eq, State.giveRoles_tb]

/-- The live slave port has the role of one. -/
theorem State.tabRoles_slave {s : State} {p : Nat} (hp : p < 22) (hlive : s.tabLive p = true) (root : PtpClock) (steps : Byte) :
    ((s.tabRoles (some p) root steps).eth.bridge.port p).role = 2 := by
  have hmem : p ∈ (List.range 30).filter (fun p => p < 22 || p = 29) := List.mem_filter.mpr ⟨List.mem_range.mpr (by omega), by simp [hp]⟩
  rw [State.tabRoles_eq, State.giveRoles_port, if_pos hmem, State.tabRole, hlive]
  simp

/-- The module alone: it is grandmaster where it can be. -/
def State.tabAlone (s : State) : State :=
  if s.eth.bridge.gmCapable then (s.tabRoles none s.eth.bridge.own.root 0).grandmaster
  else (s.tabRoles none s.eth.bridge.own.root 0).setGm 0 0 0

theorem State.tabAlone_masterOnly (s : State) : s.masterOnly s.tabAlone := by
  unfold State.tabAlone
  split
  · exact State.masterOnly_trans (State.tabRoles_masterOnly ..) (State.grandmaster_masterOnly _)
  · exact State.masterOnly_trans (State.tabRoles_masterOnly ..) (State.setGm_masterOnly ..)

theorem State.bmca_masterOnly (s : State) : s.masterOnly s.bmca := by
  unfold State.bmca
  extract_lets b alone
  split
  · exact s.masterOnly_refl
  split
  · split
    · split
      · exact s.setGm_masterOnly ..
      · exact s.masterOnly_refl
    · split
      · exact s.grandmaster_masterOnly
      · exact s.masterOnly_refl
  split
  · exact s.tabAlone_masterOnly
  · split
    · exact State.masterOnly_trans (State.tabRoles_masterOnly ..) (State.setGm_masterOnly ..)
    · exact s.tabAlone_masterOnly

/-- Under external port configuration the lowest slave port names the master. -/
theorem State.bmca_ext {s : State} {p : Nat} {i : PtpInfo} (hen : s.eth.bridge.en = true) (hext : s.eth.bridge.ext = true) (hp : p < 30)
    (hon : s.bridgeOn p = true) (hrole : (s.eth.bridge.port p).role = 2)
    (hlowest : ∀ q, q < p → s.bridgeOn q = true → (s.eth.bridge.port q).role ≠ 2) (hinfo : (s.eth.bridge.port p).info = some i) :
    s.bmca = s.setGm i.root.id (i.steps + 1) 2 := by
  have hfind : (List.range 30).find? (fun p => s.bridgeOn p && (s.eth.bridge.port p).role = 2) = some p := by
    refine List.find?_range_eq_some.mpr ⟨by simp [hon, hrole], List.mem_range.mpr hp, fun q hq => ?_⟩
    cases hqon : s.bridgeOn q with
    | false => rfl
    | true => rw [Bool.true_and, decide_eq_false (hlowest q hq hqon), Bool.not_false]
  simp only [State.bmca, hen, hext, hfind, hinfo, not_true_eq_false, if_false, if_true]

/-- Where one live port alone has heard an announce, that is what has been heard. -/
theorem State.tabHeard_single {s : State} {p : Nat} {i : PtpInfo} (hp : p < 30) (hlive : s.tabLive p = true)
    (hinfo : (s.eth.bridge.port p).info = some i) (hothers : ∀ q, q < 30 → q ≠ p → s.tabLive q = true → (s.eth.bridge.port q).info = none) :
    s.tabHeard = [(p, { i with steps := i.steps + 1 })] := by
  obtain ⟨l, r, hsplit⟩ := List.append_of_mem (List.mem_range.mpr hp)
  have hnodup : (l ++ p :: r).Nodup := hsplit ▸ List.nodup_range
  have hsilent (q : Nat) (hq : q ∈ l ++ r) : (if s.tabLive q then
      ((s.eth.bridge.port q).info).map (fun i => (q, { i with steps := i.steps + 1 })) else none) = none := by
    have hne : q ≠ p := fun h => (List.nodup_middle.mp hnodup).notMem (h ▸ hq)
    have hq30 : q < 30 := List.mem_range.mp (hsplit ▸ List.perm_middle.symm.subset (List.mem_cons_of_mem _ hq))
    split
    · next hlive => rw [hothers q hq30 hne hlive]; rfl
    · rfl
  rw [State.tabHeard, hsplit, List.filterMap_append, List.filterMap_cons, if_pos hlive, hinfo,
    List.filterMap_eq_nil_iff.mpr fun q hq => hsilent q (List.mem_append_left _ hq),
    List.filterMap_eq_nil_iff.mpr fun q hq => hsilent q (List.mem_append_right _ hq)]
  rfl

/-- Where the module can be grandmaster, alone it is. -/
theorem State.tabAlone_capable {s : State} (h : s.eth.bridge.gmCapable = true) : s.tabAlone.eth.bridge.gmId = ownClock
    ∧ s.tabAlone.eth.bridge.stepsRemoved = 0 ∧ s.tabAlone.eth.bridge.role = 1 ∧ s.tabAlone.tb = { s.tb with gstate := 1 } := by
  obtain ⟨hid, hsteps, hrole, -, htb⟩ := (s.tabRoles none s.eth.bridge.own.root 0).setGm_settles ownClock 0 1
  rw [State.tabAlone, if_pos h, State.grandmaster]
  exact ⟨hid, hsteps, hrole, by rw [htb, State.tabRoles_tb]⟩

/-- The best master clock algorithm over a single announce. -/
theorem State.bmca_single {s : State} {p : Nat} {i : PtpInfo} (hen : s.eth.bridge.en = true) (hext : s.eth.bridge.ext = false)
    (hheard : s.tabHeard = [(p, i)]) :
    s.bmca = if i.better s.eth.bridge.own p 0 then (s.tabRoles (some p) i.root i.steps).setGm i.root.id i.steps 2 else s.tabAlone := by
  have hbest : bestMaster s.tabHeard = some (p, i) := by rw [hheard]; rfl
  simp [State.bmca, hen, hext, hbest, State.tabAlone]

end Sys2Proof.Machine

/-! SUPPORT. A port's link: what its rows do at a port of its own and at a member of an aggregation group (Machine/Forward.lean). -/

namespace Sys2Proof.Machine

open Sys2Proof

/-! ### A bridge port without its link -/

theorem Bridge.port_updTab (s : State) (p q : Nat) (f : TabPort → TabPort) :
    (s.updTab p f).eth.bridge.port q = if q = p then f (s.eth.bridge.port p) else s.eth.bridge.port q := Tab.get_upd ..

theorem State.tabDown_of_off {s : State} {p : Nat} (h : s.bridgeOn p = false) : s.tabDown p = s := by simp [State.tabDown, h]

theorem State.tabDown_of_on {s : State} {p : Nat} (h : s.bridgeOn p = true) :
    s.tabDown p = (s.updTab p (fun t => { t with asCapable := false, info := none })).bmca := by simp [State.tabDown, h]

/-- The bridge has heard nothing on the port, and has no neighbour there. -/
theorem State.tabDown_port {s : State} {p : Nat} (h : s.bridgeOn p = true) :
    ((s.tabDown p).eth.bridge.port p).asCapable = false ∧ ((s.tabDown p).eth.bridge.port p).info = none := by
  obtain ⟨hport, -⟩ := (s.updTab p (fun t => { t with asCapable := false, info := none })).bmca_masterOnly
  rw [State.tabDown_of_on h, hport p, Bridge.port_updTab, if_pos rfl]
  exact ⟨rfl, rfl⟩

/-- Beside GSTATE, the global events and the bridge nothing changes. -/
theorem State.tabDown_rest (s : State) (p : Nat) : s.tabDown p = { s with
    tb := { s.tb with gstate := (s.tabDown p).tb.gstate }
    eth := { s.eth with bridge := (s.tabDown p).eth.bridge, gevent := (s.tabDown p).eth.gevent } } := by
  cases h : s.bridgeOn p with
  | false => rw [State.tabDown_of_off h]
  | true =>
    obtain ⟨-, hrest⟩ := (s.updTab p (fun t => { t with asCapable := false, info := none })).bmca_masterOnly
    rw [State.tabDown_of_on h]
    exact hrest

/-! ### A port of its own -/

/-- A port unit with its link. -/
def EthPort.linked (p : Nat) (e : EthPort) : EthPort := { e with
  link := true, phyOff := false, tries := 0
  verify := if e.preempt && p < 10 then (if e.verifyDis then 2 else 1) else 0
  plca := { e.plca with active := decide (22 ≤ p) && !e.plca.off } }

/-- A port unit without its link. -/
def EthPort.unlinked (e : EthPort) : EthPort := { e with
  link := false, verify := 0, tries := 0, paused := false, pfcPaused := 0, due := [], ptpDue := 0
  plca := { e.plca with active := false } }

/-- A port with its link, or without it, in both its units. -/
def State.portLink (s : State) (p : Nat) (up : Bool) : State :=
  (s.updEthPort p (if up then EthPort.linked p else EthPort.unlinked)).updSwPort p (fun u => { u with link := up })

section Link

variable {s : State} {p : Nat}

theorem State.portLink_ethPort (up : Bool) (q : Nat) : (s.portLink p up).ethPort q
    = if q = p then (if up then EthPort.linked p else EthPort.unlinked) (s.ethPort p) else s.ethPort q := State.ethPort_updEthPort ..

theorem State.portLink_swPort (up : Bool) (q : Nat) : (s.portLink p up).swPort q
    = if q = p then { s.swPort p with link := up } else s.swPort q := State.swPort_updSwPort ..

theorem State.lagLink_of_single (h : s.sw.lagOf p = none) (up : Bool) : s.lagLink p up = s := by simp [State.lagLink, h]

theorem exec_linkUp_of_single (hp : p < 26) (hlag : s.sw.lagOf p = none) (hlink : (s.ethPort p).link = false)
    (hpower : (s.ethPort p).lowPower = false) (hforward : s.sw.forwarding = true) (hblock : (s.block (portBlock p)).serves = true) :
    exec (.linkUp p) s = fin ((s.portLink p true).ethEvent p 0) := by
  have hrow : exec (.linkUp p) s = execLinkUp p s := rfl
  have hsingle : (s.portLink p true).lagLink p true = s.portLink p true := State.lagLink_of_single (s := s.portLink p true) hlag true
  have hgo : ¬ ((s.ethPort p).link = true ∨ (s.ethPort p).lowPower = true ∨ ¬ s.sw.forwarding = true
      ∨ ¬ (s.block (portBlock p)).serves = true) := by simp [hlink, hpower, hforward, hblock]
  rw [hrow, execLinkUp, if_neg (not_not_intro hp), if_neg hgo, ← hsingle]
  rfl

theorem exec_linkDown (hp : p < 26) (hlink : (s.ethPort p).link = true) :
    exec (.linkDown p) s = fin ((((s.portLink p false).lagLink p false).ethEvent p 0).tabDown p) := by
  have hrow : exec (.linkDown p) s = execLinkDown p s := rfl
  rw [hrow, execLinkDown, if_neg (not_not_intro hp), if_pos hlink]
  rfl

/-- A port of its own without its link. -/
def State.portDown (s : State) (p : Nat) : State := ((s.portLink p false).ethEvent p 0).tabDown p

theorem exec_linkDown_of_single (hp : p < 26) (hlag : s.sw.lagOf p = none) (hlink : (s.ethPort p).link = true) :
    exec (.linkDown p) s = fin (s.portDown p) := by
  rw [exec_linkDown hp hlink, State.lagLink_of_single (s := s.portLink p false) hlag, State.portDown]

variable (s p)

theorem State.portDown_rest : s.portDown p = { s with
    tb := { s.tb with gstate := (s.portDown p).tb.gstate }
    eth := { s.eth with
      ports := (s.portLink p false).eth.ports, events := ((s.portLink p false).ethEvent p 0).eth.events
      bridge := (s.portDown p).eth.bridge, gevent := (s.portDown p).eth.gevent }
    sw := { s.sw with ports := (s.portLink p false).sw.ports } } := State.tabDown_rest ((s.portLink p false).ethEvent p 0) p

theorem State.portDown_ethPort (q : Nat) : (s.portDown p).ethPort q = if q = p then (s.ethPort p).unlinked else s.ethPort q := by
  rw [State.portDown_rest]
  exact State.portLink_ethPort false q

theorem State.portDown_swPort (q : Nat) : (s.portDown p).swPort q = if q = p then { s.swPort p with link := false } else s.swPort q := by
  rw [State.portDown_rest]
  exact State.portLink_swPort false q

theorem State.portDown_events : (Tab.get (s.portDown p).eth.events p {}).ev = (Tab.get s.eth.events p {}).ev ||| 1 := by
  rw [State.portDown_rest]
  exact congrArg EthEvent.ev (State.ethEvent_events (s.portLink p false) p 0)

end Link

/-! ### A member of an aggregation group (R299, R300) -/

/-- From s to t, frames leave the switch or lose destinations, and none comes; aggregation groups and SW_EVENT stay, and so does all beside the
switch and the Ethernet ports. -/
def State.lossOnly (s t : State) : Prop :=
  (∀ f ∈ t.sw.frames, ∃ g ∈ s.sw.frames, g.id = f.id ∧ ∀ d ∈ f.dests, d ∈ g.dests)
    ∧ t.sw.lags = s.sw.lags ∧ t.sw.event = s.sw.event ∧ t = { s with sw := t.sw, eth := t.eth }

theorem State.lossOnly_of_frames {s t : State} (hframes : t.sw.frames = s.sw.frames) (hlags : t.sw.lags = s.sw.lags)
    (hevent : t.sw.event = s.sw.event) (hrest : t = { s with sw := t.sw, eth := t.eth }) : s.lossOnly t :=
  ⟨fun f hf => ⟨f, hframes ▸ hf, rfl, fun _ => id⟩, hlags, hevent, hrest⟩

theorem State.lossOnly_refl (s : State) : s.lossOnly s := State.lossOnly_of_frames rfl rfl rfl rfl

theorem State.lossOnly_trans {a b c : State} (h : a.lossOnly b) (k : b.lossOnly c) : a.lossOnly c := by
  obtain ⟨hframes, hlags, hevent, hrest⟩ := h
  obtain ⟨kframes, klags, kevent, krest⟩ := k
  refine ⟨fun f hf => ?_, klags.trans hlags, kevent.trans hevent, by rw [krest, hrest]⟩
  obtain ⟨g, hg, hid, hdests⟩ := kframes f hf
  obtain ⟨g', hg', hid', hdests'⟩ := hframes g hg
  exact ⟨g', hg', hid'.trans hid, fun d hd => hdests' d (hdests d hd)⟩

theorem State.updSwPort_lossOnly (s : State) (p : Nat) (f : SwPort → SwPort) : s.lossOnly (s.updSwPort p f) :=
  State.lossOnly_of_frames rfl rfl rfl rfl

theorem State.updEthPort_lossOnly (s : State) (p : Nat) (f : EthPort → EthPort) : s.lossOnly (s.updEthPort p f) :=
  State.lossOnly_of_frames rfl rfl rfl rfl

theorem State.fcSend_lossOnly (s : State) (p : Nat) (f : FcFrame) : s.lossOnly (s.fcSend p f) := by
  unfold State.fcSend
  split
  · exact s.lossOnly_refl
  · split
    · exact State.lossOnly_trans (s.updSwPort_lossOnly p _) (State.updEthPort_lossOnly _ p _)
    · exact s.updEthPort_lossOnly p _

theorem State.flowControl_lossOnly (s : State) (p : Nat) : s.lossOnly (s.flowControl p) := by
  unfold State.flowControl
  extract_lets u fc pfc s1
  have hflags : s.lossOnly s1 := s.updSwPort_lossOnly p _
  split
  · exact State.lossOnly_trans hflags (s1.fcSend_lossOnly p _)
  · split
    · exact State.lossOnly_trans hflags (s1.fcSend_lossOnly p _)
    · exact hflags

theorem State.freeFrame_lossOnly (s : State) (f : Frame) : s.lossOnly (s.freeFrame f) := by
  unfold State.freeFrame
  extract_lets s1 t s2
  have hcells : s.lossOnly s2 := by
    dsimp only [s2]
    split
    · exact State.lossOnly_of_frames rfl rfl rfl rfl
    · split <;> exact State.lossOnly_of_frames rfl rfl rfl rfl
  refine State.lossOnly_trans (b := s2.onSw _) ?_ (State.flowControl_lossOnly _ _)
  exact State.lossOnly_trans hcells ⟨fun g hg => ⟨g, (List.mem_filter.mp hg).1, rfl, fun _ => id⟩, rfl, rfl, rfl⟩

theorem State.freeIfDone_lossOnly (s : State) (i : Nat) : s.lossOnly (s.freeIfDone i) := by
  unfold State.freeIfDone
  split
  · exact s.lossOnly_refl
  · split
    · exact s.freeFrame_lossOnly _
    · exact s.lossOnly_refl

/-- The copies of the frames of number i towards port p are gone, and no frame is freed yet. -/
def State.strip (s : State) (i p : Nat) : State :=
  ((s.updFrame i (fun f => { f with dests := f.dests.filter (fun d => d ≠ p) })).onSw (fun w => { w with
    residue := w.residue.map (fun r => if r.1 / 8 = p then (r.1, r.2.filter (fun j => j ≠ i)) else r) })).updSwPort p
    (fun u => { u with inFlight := u.inFlight.filter (fun j => j ≠ i) })

theorem State.mem_strip {s : State} {i p : Nat} {f : Frame} (h : f ∈ (s.strip i p).sw.frames) :
    ∃ g ∈ s.sw.frames, f = if g.id = i then { g with dests := g.dests.filter (fun d => d ≠ p) } else g := by
  obtain ⟨g, hg, heq⟩ := List.mem_map.mp h
  exact ⟨g, hg, heq.symm⟩

theorem State.strip_lossOnly (s : State) (i p : Nat) : s.lossOnly (s.strip i p) := by
  refine ⟨fun f hf => ?_, rfl, rfl, rfl⟩
  obtain ⟨g, hg, rfl⟩ := State.mem_strip hf
  refine ⟨g, hg, ?_⟩
  split
  · exact ⟨rfl, fun d hd => (List.mem_filter.mp hd).1⟩
  · exact ⟨rfl, fun _ => id⟩

theorem State.dropDest_lossOnly (s : State) (i p : Nat) : s.lossOnly (s.dropDest i p) :=
  State.lossOnly_trans (s.strip_lossOnly i p) (State.freeIfDone_lossOnly _ i)

/-- No frame of the number keeps the port. -/
theorem State.dropDest_dests {s : State} {i p : Nat} {f : Frame} (h : f ∈ (s.dropDest i p).sw.frames) (hp : p ∈ f.dests) : f.id ≠ i := by
  obtain ⟨hframes, -⟩ := State.freeIfDone_lossOnly (s.strip i p) i
  obtain ⟨g, hg, hid, hdests⟩ := hframes f h
  obtain ⟨g', -, rfl⟩ := State.mem_strip hg
  intro hi
  by_cases hg' : g'.id = i
  · rw [if_pos hg'] at hdests
    simpa using (List.mem_filter.mp (hdests p hp)).2
  · rw [if_neg hg'] at hid
    exact hg' (hid.trans hi)

/-- The copies of a list of frames towards port p are lost. -/
def State.dropAll (s : State) (l : List Frame) (p : Nat) : State := l.foldl (fun t f => t.dropDest f.id p) s

theorem State.dropAll_lossOnly (s : State) (l : List Frame) (p : Nat) : s.lossOnly (s.dropAll l p) :=
  List.foldlRecOn (motive := s.lossOnly) l _ s.lossOnly_refl fun t h f _ => State.lossOnly_trans h (t.dropDest_lossOnly f.id p)

/-- A frame that keeps the port is of no number in the list. -/
theorem State.dropAll_dests {l : List Frame} {p : Nat} {f : Frame} (hp : p ∈ f.dests) :
    ∀ {s : State}, f ∈ (s.dropAll l p).sw.frames → ∀ g ∈ l, f.id ≠ g.id := by
  induction l with
  | nil => simp
  | cons e l ih =>
    intro s h g hg
    rcases List.mem_cons.mp hg with rfl | hg
    · obtain ⟨hframes, -⟩ := State.dropAll_lossOnly (s.dropDest g.id p) l p
      obtain ⟨f', hf', hid, hdests⟩ := hframes f h
      exact hid ▸ State.dropDest_dests hf' (hdests p hp)
    · exact ih h g hg

section Group

variable {s : State} {p g : Nat}

/-- The group without the port, before its frames are lost. -/
def State.lagLeft (s : State) (p g : Nat) : State :=
  ((s.onSw (fun w => { w with lags := Tab.upd w.lags g {} (fun l => { l with active := putBit l.active p false }) })).updSwPort p
    (fun u => { u with lagActive := false })).swEvent 2

/-- The frames that wait for a port. -/
def State.framesFor (s : State) (p : Nat) : List Frame := s.sw.frames.filter (fun f => f.dests.contains p)

theorem State.lagLink_down (h : s.sw.lagOf p = some g) : s.lagLink p false
    = ((s.lagLeft p g).dropAll ((s.lagLeft p g).framesFor p) p).onSw (fun w => { w with
        lags := Tab.upd w.lags g {} (fun l => { l with flush := satAdd l.flush ((s.lagLeft p g).framesFor p).length }) }) := by
  simp only [State.lagLink, h, Bool.false_eq_true, if_false]
  rfl

theorem State.lagLink_down_lags (h : s.sw.lagOf p = some g) :
    (Tab.get (s.lagLink p false).sw.lags g {}).active = putBit (Tab.get s.sw.lags g {}).active p false := by
  obtain ⟨-, hlags, -, -⟩ := (s.lagLeft p g).dropAll_lossOnly ((s.lagLeft p g).framesFor p) p
  rw [State.lagLink_down h, State.onSw_sw, Tab.get_upd_same, hlags]
  exact congrArg Lag.active (Tab.get_upd_same s.sw.lags g {} (fun l => { l with active := putBit l.active p false }))

/-- No frame waits for the port any more. -/
theorem State.lagLink_down_frames (h : s.sw.lagOf p = some g) : ∀ f ∈ (s.lagLink p false).sw.frames, p ∉ f.dests := by
  intro f hf hp
  rw [State.lagLink_down h] at hf
  obtain ⟨hframes, -⟩ := (s.lagLeft p g).dropAll_lossOnly ((s.lagLeft p g).framesFor p) p
  obtain ⟨f', hf', hid, hdests⟩ := hframes f hf
  have hlost : f' ∈ (s.lagLeft p g).framesFor p := List.mem_filter.mpr ⟨hf', List.contains_iff_mem.mpr (hdests p hp)⟩
  exact State.dropAll_dests hp hf f' hlost hid.symm

theorem State.lagLink_down_rest (h : s.sw.lagOf p = some g) : (s.lagLink p false).sw.event = s.sw.event ||| bitOf 5 2
    ∧ s.lagLink p false = { s with sw := (s.lagLink p false).sw, eth := (s.lagLink p false).eth } := by
  obtain ⟨-, -, hevent, hrest⟩ := (s.lagLeft p g).dropAll_lossOnly ((s.lagLeft p g).framesFor p) p
  rw [State.lagLink_down h]
  exact ⟨hevent, by rw [hrest]; rfl⟩

/-- A member of a group without its link. -/
def State.memberDown (s : State) (p : Nat) : State := (((s.portLink p false).lagLink p false).ethEvent p 0).tabDown p

theorem State.memberDown_sw (s : State) (p : Nat) : (s.memberDown p).sw = ((s.portLink p false).lagLink p false).sw := by
  rw [State.memberDown, State.tabDown_rest]
  rfl

theorem State.memberDown_rest (h : s.sw.lagOf p = some g) : (s.memberDown p).bus = s.bus ∧ (s.memberDown p).ps = s.ps := by
  obtain ⟨-, hrest⟩ := State.lagLink_down_rest (s := s.portLink p false) h
  rw [State.memberDown, State.tabDown_rest, hrest]
  exact ⟨rfl, rfl⟩

end Group

end Sys2Proof.Machine

/-! SUPPORT. What a port's MAC sends and when: messages of the bridge, pause frames, and pause as it is received (R335 to R337). -/

namespace Sys2Proof.Machine

open Sys2Proof

/-! ### Bytes as the wire orders them -/

theorem foldl_bytes (l : List Byte) : l.foldl (fun a b => a * 256 + b.toNat) 0 = leNat l.reverse := by
  rw [← List.foldr_reverse]
  induction l.reverse with
  | nil => rfl
  | cons b l ih => rw [List.foldr_cons, ih, leNat, Nat.mul_comm, Nat.add_comm]

theorem beBytes_length (n v : Nat) : (beBytes n v).length = n := by rw [beBytes, List.length_reverse, leBytes_length]

/-- What a number reads as at its place among other bytes. -/
theorem beAt_beBytes (l r : List Byte) (n v : Nat) : beAt (l ++ beBytes n v ++ r) l.length n = v % 256 ^ n := by
  rw [beAt, List.append_assoc, List.drop_left, List.take_left' (beBytes_length n v), foldl_bytes, beBytes, List.reverse_reverse,
    leNat_leBytes]

/-- The source address of a message of the bridge. -/
theorem beAt_ptpBytes_source (p n : Nat) : beAt (ptpBytes p n) 6 6 = (Config.macBase.toNat + 130 + p) % 281474976710656 := by
  have h := beAt_beBytes (beBytes 6 0x0180C200000E) (beBytes 2 0x88F7
    ++ (List.range (Config.freeNat 26 n)).map (fun i => Config.freeByte (26 + 64 * i) n)) 6 (Config.macBase.toNat + 130 + p)
  rw [beBytes_length] at h
  rw [ptpBytes, List.append_assoc (beBytes 6 _ ++ _)]
  exact h

theorem beAt_ptpBytes_type (p n : Nat) : beAt (ptpBytes p n) 12 2 = 0x88F7 := by
  have h := beAt_beBytes (beBytes 6 0x0180C200000E ++ beBytes 6 (Config.macBase.toNat + 130 + p))
    ((List.range (Config.freeNat 26 n)).map (fun i => Config.freeByte (26 + 64 * i) n)) 2 0x88F7
  rw [List.length_append, beBytes_length, beBytes_length] at h
  exact h

/-! ### Messages of the bridge -/

/-- From s to t, port p sends: its counters of what it sends and what waits for it may change, and the numbering of events; of the other
ports nothing does. -/
def State.sendsOnly (p : Nat) (s t : State) : Prop :=
  t.ethPort p = { s.ethPort p with
      cnt := { (s.ethPort p).cnt with txFrames := (t.ethPort p).cnt.txFrames, txBytes := (t.ethPort p).cnt.txBytes }
      ptpDue := (t.ethPort p).ptpDue }
    ∧ (∀ r, r ≠ p → t.ethPort r = s.ethPort r ∧ t.swPort r = s.swPort r)
    ∧ t = { s with
        core := { s.core with fresh := t.core.fresh }
        eth := { s.eth with ports := t.eth.ports }
        sw := { s.sw with ports := t.sw.ports } }

theorem State.sendsOnly_refl (p : Nat) (s : State) : State.sendsOnly p s s := ⟨rfl, fun _ _ => ⟨rfl, rfl⟩, rfl⟩

theorem State.sendsOnly_trans {p : Nat} {a b c : State} (h : State.sendsOnly p a b) (k : State.sendsOnly p b c) : State.sendsOnly p a c := by
  obtain ⟨hport, hother, hrest⟩ := h
  obtain ⟨kport, kother, krest⟩ := k
  refine ⟨kport.trans (by rw [hport]), fun r hr => ?_, by rw [krest, hrest]⟩
  exact ⟨(kother r hr).1.trans (hother r hr).1, (kother r hr).2.trans (hother r hr).2⟩

theorem State.ptpNow_ethPort (s : State) (p q : Nat) : (s.ptpNow p).ethPort q = if q = p then { s.ethPort p with
    cnt := { (s.ethPort p).cnt with
      txFrames := (s.ethPort p).cnt.txFrames + 1
      txBytes := (s.ethPort p).cnt.txBytes + BitVec.ofNat 64 ((ptpBytes p s.core.fresh).length + 4) } } else s.ethPort q :=
  State.ethPort_updEthPort (s.updSwPort p fun u => { u with sent := ptpBytes p s.core.fresh, sentBad := false }) p q fun u => { u with
    cnt := { u.cnt with
      txFrames := u.cnt.txFrames + 1, txBytes := u.cnt.txBytes + BitVec.ofNat 64 ((ptpBytes p s.core.fresh).length + 4) } }

theorem State.ptpNow_swPort (s : State) (p q : Nat) : (s.ptpNow p).swPort q
    = if q = p then { s.swPort p with sent := ptpBytes p s.core.fresh, sentBad := false } else s.swPort q :=
  State.swPort_updSwPort s p q fun u => { u with sent := ptpBytes p s.core.fresh, sentBad := false }

theorem State.ptpNow_sendsOnly (s : State) (p : Nat) : State.sendsOnly p s (s.ptpNow p) := by
  refine ⟨?_, fun r hr => ?_, rfl⟩
  · rw [State.ptpNow_ethPort, if_pos rfl]
  · rw [State.ptpNow_ethPort, State.ptpNow_swPort, if_neg hr, if_neg hr]
    exact ⟨rfl, rfl⟩

/-- Port p sends n messages. -/
def State.ptpMany (s : State) (p n : Nat) : State := (List.range n).foldl (fun t _ => t.ptpNow p) s

theorem State.ptpMany_succ (s : State) (p n : Nat) : s.ptpMany p (n + 1) = (s.ptpMany p n).ptpNow p := by
  rw [State.ptpMany, List.range_succ, List.foldl_append]
  rfl

theorem State.ptpMany_sendsOnly (s : State) (p n : Nat) : State.sendsOnly p s (s.ptpMany p n) :=
  List.foldlRecOn (motive := State.sendsOnly p s) _ _ (State.sendsOnly_refl p s) fun t h _ _ =>
    State.sendsOnly_trans h (t.ptpNow_sendsOnly p)

theorem State.ptpMany_txFrames (s : State) (p n : Nat) :
    ((s.ptpMany p n).ethPort p).cnt.txFrames = (s.ethPort p).cnt.txFrames + BitVec.ofNat 64 n := by
  induction n with
  | zero => exact (BitVec.add_zero _).symm
  | succ n ih =>
    have hone : ((s.ptpMany p (n + 1)).ethPort p).cnt.txFrames = ((s.ptpMany p n).ethPort p).cnt.txFrames + 1 := by
      rw [State.ptpMany_succ, State.ptpNow_ethPort, if_pos rfl]
    rw [hone, ih, BitVec.ofNat_add, BitVec.add_assoc]
    rfl

/-- No message waits at a port. -/
def State.ptpSent (s : State) (p : Nat) : State := s.updEthPort p (fun e => { e with ptpDue := 0 })

theorem State.ptpSent_ethPort (s : State) (p q : Nat) : (s.ptpSent p).ethPort q
    = if q = p then { s.ethPort p with ptpDue := 0 } else s.ethPort q := State.ethPort_updEthPort ..

theorem State.ptpSent_sendsOnly (s : State) (p : Nat) : State.sendsOnly p s (s.ptpSent p) := by
  refine ⟨?_, fun r hr => ⟨?_, rfl⟩, rfl⟩
  · rw [State.ptpSent_ethPort, if_pos rfl]
  · rw [State.ptpSent_ethPort, if_neg hr]

theorem State.ptpFlush_of_may {s : State} {p : Nat} (h : s.ptpMay p = true) :
    s.ptpFlush p = (s.ptpMany p (s.ethPort p).ptpDue).ptpSent p := if_neg (not_not_intro h)

theorem State.ptpFlush_of_not_may {s : State} {p : Nat} (h : s.ptpMay p = false) : s.ptpFlush p = s :=
  if_pos (Bool.eq_false_iff.mp h)

theorem State.ptpFlush_sendsOnly (s : State) (p : Nat) : State.sendsOnly p s (s.ptpFlush p) := by
  cases h : s.ptpMay p with
  | false => rw [State.ptpFlush_of_not_may h]; exact State.sendsOnly_refl p s
  | true =>
    rw [State.ptpFlush_of_may h]
    exact State.sendsOnly_trans (s.ptpMany_sendsOnly p _) (State.ptpSent_sendsOnly _ p)

/-- Where no message waits, none is sent. -/
theorem State.ptpFlush_none {s : State} {p : Nat} (h : (s.ethPort p).ptpDue = 0) :
    (s.ptpFlush p).ethPort p = s.ethPort p ∧ s.ptpFlush p = { s with eth := { s.eth with ports := (s.ptpFlush p).eth.ports } } := by
  cases hmay : s.ptpMay p with
  | false => rw [State.ptpFlush_of_not_may hmay]; exact ⟨rfl, rfl⟩
  | true =>
    have hsent : s.ptpFlush p = s.ptpSent p := by rw [State.ptpFlush_of_may hmay, h]; rfl
    rw [hsent, State.ptpSent_ethPort, if_pos rfl, ← h]
    exact ⟨rfl, rfl⟩

/-- Where they may start, all that wait are sent. -/
theorem State.ptpFlush_all {s : State} {p : Nat} (h : s.ptpMay p = true) : ((s.ptpFlush p).ethPort p).ptpDue = 0
    ∧ ((s.ptpFlush p).ethPort p).cnt.txFrames = (s.ethPort p).cnt.txFrames + BitVec.ofNat 64 (s.ethPort p).ptpDue := by
  rw [State.ptpFlush_of_may h, State.ptpSent_ethPort, if_pos rfl, ← State.ptpMany_txFrames]
  exact ⟨rfl, rfl⟩

/-! ### Pause as it is received -/

theorem getLsbD_putBit {w : Nat} (m : BitVec w) {i k : Nat} (b : Bool) (hi : i < w) :
    (putBit m i b).getLsbD k = if k = i then b else m.getLsbD k := by
  have hbit : (bitOf w i).getLsbD k = decide (k = i) := by
    rw [bitOf, BitVec.getLsbD_ofNat, Nat.testBit_two_pow]
    by_cases hk : k = i
    · simp [hk, hi]
    · simp [hk, Ne.symm hk]
  cases b with
  | true =>
    rw [putBit, if_pos rfl, BitVec.getLsbD_or, hbit]
    by_cases hk : k = i <;> simp [hk]
  | false =>
    rw [putBit, if_neg Bool.false_ne_true, BitVec.getLsbD_and, BitVec.getLsbD_not, hbit]
    by_cases hk : k = i
    · simp [hk]
    · simpa [hk] using fun h => BitVec.lt_of_getLsbD h

/-- A PFC frame sets the classes that it enables, each as its quanta say. -/
theorem getLsbD_foldl_putBit (en : Byte) (v : Nat → Bool) {c : Nat} (hc : c < 8) (l : List Nat) (hl : ∀ k ∈ l, k < 8) (m : Byte) :
    (l.foldl (fun m k => if en.getLsbD k then putBit m k (v k) else m) m).getLsbD c
      = if c ∈ l ∧ en.getLsbD c = true then v c else m.getLsbD c := by
  induction l generalizing m with
  | nil => simp
  | cons k l ih =>
    have hone : (if en.getLsbD k then putBit m k (v k) else m).getLsbD c
        = if c = k ∧ en.getLsbD c = true then v c else m.getLsbD c := by
      by_cases hk : c = k
      · subst c
        cases hen : en.getLsbD k with
        | false => simp
        | true => simp [getLsbD_putBit m (v k) hc]
      · split
        · rw [getLsbD_putBit m (v k) (hl k List.mem_cons_self)]
          simp [hk]
        · simp [hk]
    rw [List.foldl_cons, ih fun j hj => hl j (List.mem_cons_of_mem _ hj), hone]
    by_cases htail : c ∈ l ∧ en.getLsbD c = true
    · rw [if_pos htail, if_pos ⟨List.mem_cons_of_mem _ htail.1, htail.2⟩]
    · rw [if_neg htail]
      refine if_congr ?_ rfl rfl
      rw [List.mem_cons]
      tauto

/-- A port unit after a pause or PFC frame. -/
def EthPort.pauseHeard (e : EthPort) (pfc : Bool) (en : Byte) (q : List U16) : EthPort := { e with
  cnt := { e.cnt with rxPause := e.cnt.rxPause + 1 }
  paused := if !pfc && e.pause then q.headD 0 ≠ 0 else e.paused
  pfcPaused := if pfc && e.pfc then
      (List.range 8).foldl (fun m c => if en.getLsbD c then putBit m c (q.getD c 0 ≠ 0) else m) e.pfcPaused
    else e.pfcPaused }

/-- A port unit whose pause, and that of the classes named, is over. -/
def EthPort.resumed (e : EthPort) (cl : Byte) : EthPort := { e with
  paused := if e.pause then false else e.paused
  pfcPaused := e.pfcPaused &&& ~~~cl }

theorem EthPort.pauseHeard_pfcPaused (e : EthPort) (pfc : Bool) (en : Byte) (q : List U16) {c : Nat} (hc : c < 8) :
    (e.pauseHeard pfc en q).pfcPaused.getLsbD c
      = if pfc && e.pfc && en.getLsbD c then decide (q.getD c 0 ≠ 0) else e.pfcPaused.getLsbD c := by
  have hset := getLsbD_foldl_putBit en (fun c => decide (q.getD c 0 ≠ 0)) hc (List.range 8) (fun k hk => List.mem_range.mp hk) e.pfcPaused
  simp only [List.mem_range, hc, true_and] at hset
  unfold EthPort.pauseHeard
  by_cases hpfc : (pfc && e.pfc) = true
  · simp only [hpfc, if_true, Bool.true_and]
    exact hset
  · simp only [hpfc, Bool.false_eq_true, if_false, Bool.false_and]

theorem EthPort.resumed_pfcPaused (e : EthPort) (cl : Byte) {c : Nat} (hc : c < 8) :
    (e.resumed cl).pfcPaused.getLsbD c = (e.pfcPaused.getLsbD c && !cl.getLsbD c) := by
  simp [EthPort.resumed, hc]

section Pause

variable {s : State} {p : Nat}

theorem State.ethPort_updEthPort_same (s : State) (p : Nat) (f : EthPort → EthPort) : (s.updEthPort p f).ethPort p = f (s.ethPort p) :=
  (State.ethPort_updEthPort ..).trans (if_pos rfl)

theorem State.ethPort_updEthPort_ne (s : State) {p q : Nat} (f : EthPort → EthPort) (h : q ≠ p) :
    (s.updEthPort p f).ethPort q = s.ethPort q := (State.ethPort_updEthPort ..).trans (if_neg h)

/-- A change of a port's unit, and then what waits for it: the other ports stay, and so does all else but the port units and the numbering of
events. -/
theorem State.updEthPort_ptpFlush_rest (s : State) (p : Nat) (f : EthPort → EthPort) :
    (∀ r, r ≠ p → ((s.updEthPort p f).ptpFlush p).ethPort r = s.ethPort r ∧ ((s.updEthPort p f).ptpFlush p).swPort r = s.swPort r)
      ∧ (s.updEthPort p f).ptpFlush p = { s with
          core := { s.core with fresh := ((s.updEthPort p f).ptpFlush p).core.fresh }
          eth := { s.eth with ports := ((s.updEthPort p f).ptpFlush p).eth.ports }
          sw := { s.sw with ports := ((s.updEthPort p f).ptpFlush p).sw.ports } } := by
  obtain ⟨-, hother, hrest⟩ := (s.updEthPort p f).ptpFlush_sendsOnly p
  exact ⟨fun r hr => ⟨(hother r hr).1.trans (s.ethPort_updEthPort_ne f hr), (hother r hr).2⟩, hrest⟩

theorem State.updEthPort_ptpFlush_none {f : EthPort → EthPort} (hf : ∀ e, (f e).ptpDue = e.ptpDue) (h : (s.ethPort p).ptpDue = 0) :
    ((s.updEthPort p f).ptpFlush p).ethPort p = f (s.ethPort p)
      ∧ (s.updEthPort p f).ptpFlush p = { s with eth := { s.eth with ports := ((s.updEthPort p f).ptpFlush p).eth.ports } } := by
  have hnone : ((s.updEthPort p f).ethPort p).ptpDue = 0 := by rw [State.ethPort_updEthPort_same, hf, h]
  obtain ⟨hport, hrest⟩ := State.ptpFlush_none hnone
  exact ⟨hport.trans (s.ethPort_updEthPort_same p f), hrest⟩

theorem exec_pauseFrameReceive (hp : p < 26) (hlink : (s.ethPort p).link = true) (pfc : Bool) (en : Byte) (q : List U16) :
    exec (.pauseFrameReceive p pfc en q) s = fin ((s.updEthPort p (·.pauseHeard pfc en q)).ptpFlush p) := by
  have hrow : exec (.pauseFrameReceive p pfc en q) s = execPauseFrameReceive p pfc en q s := rfl
  rw [hrow, execPauseFrameReceive, if_neg (not_not_intro hp), if_neg (not_not_intro hlink)]
  rfl

/-- Once its pause is over, a port with a free line may send the messages that wait. -/
theorem State.resumed_ptpMay (hpause : (s.ethPort p).pause = true) (hfree : s.lineFree p = true) (cl : Byte) :
    (s.updEthPort p (·.resumed cl)).ptpMay p = true := by
  have hfree' : (s.updEthPort p (·.resumed cl)).lineFree p = true := hfree
  rw [State.ptpMay, hfree', State.ethPort_updEthPort_same]
  simp [EthPort.resumed, hpause]

theorem exec_pauseExpiry (hp : p < 26) (cl : Byte) :
    exec (.pauseExpiry p cl) s = fin ((s.updEthPort p (·.resumed cl)).ptpFlush p) := by
  have hrow : exec (.pauseExpiry p cl) s = execPauseExpiry p cl s := rfl
  rw [hrow, execPauseExpiry, if_neg (not_not_intro hp)]
  rfl

/-! ### Pause as it is sent -/

theorem exec_pauseRefresh (hp : p < 22) (hpause : (s.ethPort p).pause = true) (hflag : (s.swPort p).fcAssert = true)
    (hlink : (s.ethPort p).link = true) : exec (.pauseRefresh p) s =
      fin (if s.lineFree p then s.fcNow p { on := 0xFF } else s.updEthPort p (fun e => { e with due := e.due ++ [{ on := 0xFF }] })) := by
  have hrow : exec (.pauseRefresh p) s = execPauseRefresh p s := rfl
  have hp' : p < 26 := by omega
  rw [hrow, execPauseRefresh, if_neg (not_not_intro hp'), if_pos ⟨hp, hpause, hflag, hlink⟩, State.fcSend, if_neg (not_not_intro hlink)]

theorem State.fcNow_swPort (s : State) (p q : Nat) (f : FcFrame) : (s.fcNow p f).swPort q
    = if q = p then { s.swPort p with sent := f.bytes p (s.ethPort p).quanta, sentBad := false } else s.swPort q :=
  State.swPort_updSwPort s p q fun u => { u with sent := f.bytes p (s.ethPort p).quanta, sentBad := false }

theorem State.fcNow_ethPort (s : State) (p q : Nat) (f : FcFrame) : (s.fcNow p f).ethPort q = if q = p then { s.ethPort p with
    pauseSent := f.on
    cnt := { (s.ethPort p).cnt with
      txPause := (s.ethPort p).cnt.txPause + 1, txFrames := (s.ethPort p).cnt.txFrames + 1
      txBytes := (s.ethPort p).cnt.txBytes + 64 } } else s.ethPort q :=
  State.ethPort_updEthPort (s.updSwPort p _) p q _

end Pause

/-! ### Verification and PLCA (R348, R358) -/

section Ports

variable {s : State} {p : Nat}

/-- A port's unit after a change that sets an event of the port. -/
theorem State.ethPort_portEvent_same (s : State) (p k : Nat) (f : EthPort → EthPort) :
    ((s.updEthPort p f).ethEvent p k).ethPort p = f (s.ethPort p) := s.ethPort_updEthPort_same p f

theorem State.ethPort_portEvent_ne (s : State) {p q : Nat} (k : Nat) (f : EthPort → EthPort) (h : q ≠ p) :
    ((s.updEthPort p f).ethEvent p k).ethPort q = s.ethPort q := s.ethPort_updEthPort_ne f h

theorem State.events_portEvent (s : State) (p k : Nat) (f : EthPort → EthPort) :
    (Tab.get ((s.updEthPort p f).ethEvent p k).eth.events p {}).ev = (Tab.get s.eth.events p {}).ev ||| bitOf 5 k :=
  congrArg EthEvent.ev (State.ethEvent_events ..)

theorem exec_preemptVerifyResponse (hp : p < 10) (hverify : (s.ethPort p).verify = 1) : exec (.preemptVerifyResponse p) s
    = fin ((s.updEthPort p (fun e => { e with verify := 2 })).ethEvent p 1) := by
  have hrow : exec (.preemptVerifyResponse p) s = execPreemptVerifyResponse p s := rfl
  rw [hrow, execPreemptVerifyResponse, if_neg (not_not_intro hp), if_pos hverify]

theorem exec_preemptVerifyTimeout (hp : p < 10) (hverify : (s.ethPort p).verify = 1) : exec (.preemptVerifyTimeout p) s
    = if 2 ≤ (s.ethPort p).tries then fin ((s.updEthPort p (fun e => { e with tries := 3, verify := 3 })).ethEvent p 1)
      else fin (s.updEthPort p (fun e => { e with tries := e.tries + 1 })) := by
  have hrow : exec (.preemptVerifyTimeout p) s = execPreemptVerifyTimeout p s := rfl
  rw [hrow, execPreemptVerifyTimeout, if_neg (not_not_intro hp), if_neg (not_not_intro hverify)]

theorem exec_plcaBeaconLost (hp : 22 ≤ p) (hp' : p < 26) (hnode : (s.ethPort p).plca.nodeId ≠ 0) (hactive : (s.ethPort p).plca.active = true) :
    exec (.plcaBeaconLost p) s = fin ((s.updEthPort p (fun e => { e with
      plca := { e.plca with active := false }, cnt := { e.cnt with beaconLost := e.cnt.beaconLost + 1 } })).ethEvent p 4) := by
  have hrow : exec (.plcaBeaconLost p) s = execPlcaBeaconLost p s := rfl
  rw [hrow, execPlcaBeaconLost, if_neg (not_not_intro ⟨hp, hp'⟩), if_pos ⟨hactive, hnode⟩]

theorem exec_plcaBeaconReturn (hp : 22 ≤ p) (hp' : p < 26) (hnode : (s.ethPort p).plca.nodeId ≠ 0) (hlink : (s.ethPort p).link = true)
    (hactive : (s.ethPort p).plca.active = false) (hoff : (s.ethPort p).plca.off = false) :
    exec (.plcaBeaconReturn p) s = fin (s.updEthPort p (fun e => { e with plca := { e.plca with active := true } })) := by
  have hrow : exec (.plcaBeaconReturn p) s = execPlcaBeaconReturn p s := rfl
  have hgo : (s.ethPort p).link = true ∧ ¬ (s.ethPort p).plca.active = true ∧ ¬ (s.ethPort p).plca.off = true
      ∧ (s.ethPort p).plca.nodeId ≠ 0 := ⟨hlink, Bool.eq_false_iff.mp hactive, Bool.eq_false_iff.mp hoff, hnode⟩
  rw [hrow, execPlcaBeaconReturn, if_neg (not_not_intro ⟨hp, hp'⟩)]
  exact if_pos hgo

end Ports

end Sys2Proof.Machine

/-! SUPPORT. Gate lists, policers and stream recovery in time, and the step of TIME_GLOBAL that moves the lists (Machine/Ethernet.lean). -/

namespace Sys2Proof.Machine

open Sys2Proof

/-! ### Gate lists (R342 to R346) -/

/-- HOLD of a port as an entry leaves it: set, cleared, or as it was. -/
def GateEntry.hold (e : GateEntry) (was : Bool) : Bool := if e.op = 1 then true else if e.op = 2 then false else was

/-- From s to t, port p's gate unit, HOLD and the stop of its frame may change; the other ports stay, and so does all else. -/
def State.gateOnly (p : Nat) (s t : State) : Prop :=
  (∀ q, q ≠ p → t.gate q = s.gate q ∧ t.ethPort q = s.ethPort q ∧ t.swPort q = s.swPort q)
    ∧ t = { s with
        eth := { s.eth with gates := t.eth.gates, ports := t.eth.ports }
        sw := { s.sw with ports := t.sw.ports } }

section Gates

variable (s : State) (p : Nat)

theorem State.setHold_ethPort (h : Bool) (q : Nat) : (s.setHold p h).ethPort q = if q = p then { s.ethPort p with hold := h } else s.ethPort q :=
  State.ethPort_updEthPort s p q fun e => { e with hold := h }

theorem State.setHold_swPort (h : Bool) (q : Nat) : (s.setHold p h).swPort q
    = if q = p then { s.swPort p with halted := (s.swPort p).halted && h } else s.swPort q :=
  State.swPort_updSwPort (s.updEthPort p fun e => { e with hold := h }) p q fun u => { u with halted := u.halted && h }

variable (g : GateList) (k : Nat)

/-- The gate unit of a port with an entry in force. -/
def State.gateEntry (s : State) (p : Nat) (g : GateList) (k : Nat) : State :=
  s.updGate p (fun u => { u with gates := (g.entries.getD k {}).gates, entry := k })

theorem State.applyGate_eq : s.applyGate p g k = if (g.entries.getD k {}).op = 1 then (s.gateEntry p g k).setHold p true
    else if (g.entries.getD k {}).op = 2 then (s.gateEntry p g k).setHold p false else s.gateEntry p g k := rfl

theorem State.applyGate_gate (q : Nat) : (s.applyGate p g k).gate q
    = if q = p then { s.gate p with gates := (g.entries.getD k {}).gates, entry := k } else s.gate q := by
  have hentry : (s.applyGate p g k).gate q = (s.gateEntry p g k).gate q := by
    rw [State.applyGate_eq]
    split
    · rfl
    · split <;> rfl
  exact hentry.trans (State.gate_updGate ..)

theorem State.applyGate_ethPort (q : Nat) : (s.applyGate p g k).ethPort q
    = if q = p then { s.ethPort p with hold := (g.entries.getD k {}).hold (s.ethPort p).hold } else s.ethPort q := by
  rw [State.applyGate_eq, GateEntry.hold]
  split
  · exact State.setHold_ethPort ..
  · split
    · exact State.setHold_ethPort ..
    · split
      · next hq => rw [hq]; rfl
      · rfl

theorem State.applyGate_swPort (q : Nat) : (s.applyGate p g k).swPort q = if q = p then
    { s.swPort p with halted := (s.swPort p).halted && decide ((g.entries.getD k {}).op ≠ 2) } else s.swPort q := by
  rw [State.applyGate_eq]
  split
  · next hop => rw [hop]; exact State.setHold_swPort ..
  · split
    · next hop => rw [hop]; exact State.setHold_swPort ..
    · next hop =>
      rw [decide_eq_true hop, Bool.and_true]
      split
      · next hq => rw [hq]; rfl
      · rfl

theorem State.applyGate_rest : s.applyGate p g k = { s with
    eth := { s.eth with gates := (s.applyGate p g k).eth.gates, ports := (s.applyGate p g k).eth.ports }
    sw := { s.sw with ports := (s.applyGate p g k).sw.ports } } := by
  rw [State.applyGate_eq]
  split
  · rfl
  · split <;> rfl

theorem State.applyGate_gateOnly : State.gateOnly p s (s.applyGate p g k) := by
  refine ⟨fun q hq => ?_, s.applyGate_rest p g k⟩
  rw [State.applyGate_gate, State.applyGate_ethPort, State.applyGate_swPort, if_neg hq, if_neg hq, if_neg hq]
  exact ⟨rfl, rfl, rfl⟩

variable {s p g}

theorem exec_gateEntryAdvance (hp : p < 30) (hoper : (s.gate p).oper = some g) : exec (.gateEntryAdvance p) s
    = fin (s.applyGate p g (if (s.gate p).entry + 1 < g.entries.length then (s.gate p).entry + 1 else 0)) := by
  have hrow : exec (.gateEntryAdvance p) s = execGateEntryAdvance p s := rfl
  simp only [hrow, execGateEntryAdvance, not_true_eq_false, if_false, hp, hoper]

/-- The pending list of a port is in force. -/
def State.gateTaken (s : State) (p : Nat) (g : GateList) : State := s.updGate p (fun u => { u with oper := some g, pend := none })

theorem State.switchOver_of_pend (hpend : (s.gate p).pend = some g) :
    s.switchOver p = ((s.gateTaken p g).applyGate p g 0).ethGlobal 3 := by
  simp only [State.switchOver, hpend]
  rfl

theorem exec_gateListSwitchover (hp : p < 30) (hpend : (s.gate p).pend = some g) :
    exec (.gateListSwitchover p) s = fin (((s.gateTaken p g).applyGate p g 0).ethGlobal 3) := by
  have hrow : exec (.gateListSwitchover p) s = execGateListSwitchover p s := rfl
  rw [← State.switchOver_of_pend hpend]
  simp only [hrow, execGateListSwitchover, not_true_eq_false, if_false, hp, hpend]

theorem State.switchOver_gate (q : Nat) :
    (((s.gateTaken p g).applyGate p g 0).ethGlobal 3).gate q = if q = p then
      { s.gate p with oper := some g, pend := none, gates := (g.entries.getD 0 {}).gates, entry := 0 } else s.gate q := by
  have htaken (q : Nat) : (s.gateTaken p g).gate q = if q = p then { s.gate p with oper := some g, pend := none } else s.gate q :=
    State.gate_updGate ..
  refine ((s.gateTaken p g).applyGate_gate p g 0 q).trans ?_
  rw [htaken, htaken, if_pos rfl]
  by_cases hq : q = p
  · rw [if_pos hq, if_pos hq]
  · rw [if_neg hq, if_neg hq, if_neg hq]

end Gates

/-! ### A step of TIME_GLOBAL (R344) -/

/-- A gate unit at time t: a pending list whose change time has passed is in force. -/
def Gate.listAt (u : Gate) (t : U64) : Gate :=
  if u.pend.isSome ∧ u.changeTime ≤ t then { u with oper := u.pend, pend := none } else u

/-- A gate unit at time t: the list in force is at its place. -/
def Gate.entryAt (u : Gate) (t : U64) : Gate :=
  match u.oper with
  | none => u
  | some g => { u with gates := (g.entries.getD (g.indexAt t.toNat) {}).gates, entry := g.indexAt t.toNat }

/-- A gate unit after TIME_GLOBAL has stepped to t. -/
def Gate.movedTo (u : Gate) (t : U64) : Gate := (u.listAt t).entryAt t

section GateUnit

variable {u : Gate} {t : U64}

theorem Gate.entryAt_of_oper {g : GateList} (h : u.oper = some g) :
    u.entryAt t = { u with gates := (g.entries.getD (g.indexAt t.toNat) {}).gates, entry := g.indexAt t.toNat } := by
  simp only [Gate.entryAt, h]

theorem Gate.entryAt_of_none (h : u.oper = none) : u.entryAt t = u := by
  simp only [Gate.entryAt, h]

/-- The place of a list leaves which list is in force and which is pending. -/
theorem Gate.entryAt_lists : (u.entryAt t).oper = u.oper ∧ (u.entryAt t).pend = u.pend ∧ (u.entryAt t).changeTime = u.changeTime := by
  cases h : u.oper with
  | none => rw [Gate.entryAt_of_none h]; exact ⟨h, rfl, rfl⟩
  | some g => rw [Gate.entryAt_of_oper h]; exact ⟨h, rfl, rfl⟩

theorem Gate.listAt_of_not_due (h : u.pend = none ∨ t < u.changeTime) : u.listAt t = u := by
  refine if_neg fun hdue => ?_
  rcases h with hpend | hearly
  · simp [hpend] at hdue
  · exact BitVec.not_lt.mpr hdue.2 hearly

theorem Gate.listAt_of_due {g : GateList} (hpend : u.pend = some g) (h : u.changeTime ≤ t) :
    u.listAt t = { u with oper := some g, pend := none } := by
  rw [Gate.listAt, if_pos ⟨by rw [hpend]; rfl, h⟩, hpend]

/-- No list is pending any more whose time has come. -/
theorem Gate.listAt_not_due : (u.listAt t).pend = none ∨ t < (u.listAt t).changeTime := by
  unfold Gate.listAt
  split
  · exact .inl rfl
  · next h =>
    cases hpend : u.pend with
    | none => exact .inl rfl
    | some g => exact .inr (BitVec.not_le.mp fun hdue => h ⟨by rw [hpend]; rfl, hdue⟩)

/-- A second step to the same time changes nothing. -/
theorem Gate.movedTo_movedTo : (u.movedTo t).movedTo t = u.movedTo t := by
  obtain ⟨hoper, hpend, htime⟩ := Gate.entryAt_lists (u := u.listAt t) (t := t)
  have hnotdue : ((u.listAt t).entryAt t).listAt t = (u.listAt t).entryAt t :=
    Gate.listAt_of_not_due (by rw [hpend, htime]; exact Gate.listAt_not_due)
  unfold Gate.movedTo
  rw [hnotdue]
  cases h : (u.listAt t).oper with
  | none => rw [Gate.entryAt_of_none h, Gate.entryAt_of_none h]
  | some g => rw [Gate.entryAt_of_oper (hoper.trans h), Gate.entryAt_of_oper h]

/-- The list in force goes on at its place. -/
theorem Gate.movedTo_of_not_due {g : GateList} (hoper : u.oper = some g) (h : u.pend = none ∨ t < u.changeTime) :
    (u.movedTo t).oper = some g ∧ (u.movedTo t).entry = g.indexAt t.toNat := by
  rw [Gate.movedTo, Gate.listAt_of_not_due h, Gate.entryAt_of_oper hoper]
  exact ⟨hoper, rfl⟩

/-- The pending list takes over at its place. -/
theorem Gate.movedTo_of_due {g : GateList} (hpend : u.pend = some g) (h : u.changeTime ≤ t) :
    (u.movedTo t).oper = some g ∧ (u.movedTo t).pend = none ∧ (u.movedTo t).entry = g.indexAt t.toNat := by
  rw [Gate.movedTo, Gate.listAt_of_due hpend h, Gate.entryAt_of_oper rfl]
  exact ⟨rfl, rfl, rfl⟩

end GateUnit

/-- From s to t, gate lists move: of Ethernet the gates, the port units and the global events may change, and of the switch the ports. -/
def State.gatesMoved (s t : State) : Prop := t = { s with
  eth := { s.eth with gates := t.eth.gates, ports := t.eth.ports, gevent := t.eth.gevent }
  sw := { s.sw with ports := t.sw.ports } }

theorem State.gatesMoved_trans {a b c : State} (h : a.gatesMoved b) (k : b.gatesMoved c) : a.gatesMoved c := by
  unfold State.gatesMoved at *
  rw [k, h]

/-- What a step of TIME_GLOBAL to t does at one port. -/
def State.gateStep (s : State) (t : U64) (p : Nat) : State :=
  (if (s.gate p).pend.isSome ∧ (s.gate p).changeTime ≤ t then s.switchOver p else s).gateTo p t.toNat

section GateStep

variable (s : State) (t : U64) (p : Nat)

theorem State.gateTo_gate (q : Nat) : (s.gateTo p t.toNat).gate q = if q = p then (s.gate p).entryAt t else s.gate q := by
  unfold State.gateTo
  split
  · next g hoper =>
    rw [State.applyGate_gate, Gate.entryAt_of_oper hoper]
  · next hnone =>
    rw [Gate.entryAt_of_none hnone]
    split
    · next hq => rw [hq]
    · rfl

theorem State.applyGate_gatesMoved (g : GateList) (k : Nat) : s.gatesMoved (s.applyGate p g k) := by
  unfold State.gatesMoved
  rw [State.applyGate_rest]

theorem State.gateTo_gatesMoved (n : Nat) : s.gatesMoved (s.gateTo p n) := by
  unfold State.gateTo
  split
  · exact s.applyGate_gatesMoved p ..
  · rfl

theorem State.switchOver_gatesMoved : s.gatesMoved (s.switchOver p) := by
  cases hpend : (s.gate p).pend with
  | none => simp only [State.switchOver, hpend]; rfl
  | some g =>
    rw [State.switchOver_of_pend hpend]
    have htaken : s.gatesMoved (s.gateTaken p g) := rfl
    exact State.gatesMoved_trans (State.gatesMoved_trans htaken ((s.gateTaken p g).applyGate_gatesMoved p g 0)) rfl

theorem State.gateStep_gate (q : Nat) : (s.gateStep t p).gate q = if q = p then (s.gate p).movedTo t else s.gate q := by
  rw [State.gateStep, Gate.movedTo]
  cases hpend : (s.gate p).pend with
  | none =>
    rw [if_neg (by simp), State.gateTo_gate, Gate.listAt_of_not_due (.inl hpend)]
  | some g =>
    by_cases hdue : (s.gate p).changeTime ≤ t
    · rw [if_pos ⟨rfl, hdue⟩, State.gateTo_gate, Gate.listAt_of_due hpend hdue, State.switchOver_of_pend hpend, State.switchOver_gate,
        State.switchOver_gate, if_pos rfl, Gate.entryAt_of_oper rfl, Gate.entryAt_of_oper rfl]
      split <;> rfl
    · rw [if_neg fun h => hdue h.2, State.gateTo_gate, Gate.listAt_of_not_due (.inr (BitVec.not_le.mp hdue))]

theorem State.gateStep_gatesMoved : s.gatesMoved (s.gateStep t p) := by
  unfold State.gateStep
  split
  · exact State.gatesMoved_trans (s.switchOver_gatesMoved p) (State.gateTo_gatesMoved ..)
  · exact s.gateTo_gatesMoved p _

end GateStep

/-- The gate units of a list of ports move to time t. -/
def State.gateSteps (s : State) (t : U64) (l : Tab Gate) : State := l.foldl (fun u g => u.gateStep t g.1) s

theorem State.gateSteps_gatesMoved (s : State) (t : U64) (l : Tab Gate) : s.gatesMoved (s.gateSteps t l) :=
  List.foldlRecOn (motive := s.gatesMoved) l _ rfl fun u h g _ => State.gatesMoved_trans h (u.gateStep_gatesMoved t g.1)

theorem State.gateSteps_gate (t : U64) (l : Tab Gate) (q : Nat) :
    ∀ s : State, (s.gateSteps t l).gate q = if Tab.has l q then (s.gate q).movedTo t else s.gate q := by
  induction l with
  | nil => intro s; rfl
  | cons e l ih =>
    intro s
    have hstep : (s.gateSteps t (e :: l)).gate q = if Tab.has l q then ((s.gateStep t e.1).gate q).movedTo t else (s.gateStep t e.1).gate q := ih _
    rw [hstep, State.gateStep_gate, Tab.has]
    by_cases hq : q = e.1
    · subst hq
      rw [if_pos rfl, if_pos rfl, if_pos rfl, Gate.movedTo_movedTo, ite_self]
    · rw [if_neg hq, if_neg (Ne.symm hq)]

/-- A step of TIME_GLOBAL moves every gate unit; an unlisted one has no list. -/
theorem State.gateSteps_gates (s : State) (t : U64) (q : Nat) : (s.gateSteps t s.eth.gates).gate q = (s.gate q).movedTo t := by
  rw [State.gateSteps_gate]
  cases h : s.eth.gates.has q with
  | true => rfl
  | false =>
    have hdefault : s.gate q = {} := Tab.get_of_not_has _ _ h
    rw [hdefault]
    rfl

/-- TIME_GLOBAL after a step, with what its registers record of it. -/
def TimeBase.stepped (b : TimeBase) (d : Int) : TimeBase := { b with
  globalT := b.globalT + BitVec.ofInt 64 d, steps := b.steps + 1, lastStep := BitVec.ofInt 64 d }

theorem State.stepGlobal_eq (s : State) (d : Int) : s.stepGlobal d =
    (({ s with tb := s.tb.stepped d } : State).gateSteps (s.tb.globalT + BitVec.ofInt 64 d) s.eth.gates).ethGlobal 2 := rfl

theorem State.stepGlobal_gate (s : State) (d : Int) (q : Nat) :
    (s.stepGlobal d).gate q = (s.gate q).movedTo (s.tb.globalT + BitVec.ofInt 64 d) :=
  State.gateSteps_gates ({ s with tb := s.tb.stepped d } : State) (s.tb.globalT + BitVec.ofInt 64 d) q

theorem State.stepGlobal_rest (s : State) (d : Int) : s.stepGlobal d = { s with
    tb := s.tb.stepped d
    eth := { s.eth with
      gates := (s.stepGlobal d).eth.gates, ports := (s.stepGlobal d).eth.ports, gevent := (s.stepGlobal d).eth.gevent }
    sw := { s.sw with ports := (s.stepGlobal d).sw.ports } } := by
  have hmoved := ({ s with tb := s.tb.stepped d } : State).gateSteps_gatesMoved (s.tb.globalT + BitVec.ofInt 64 d) s.eth.gates
  exact State.gatesMoved_trans hmoved (c := s.stepGlobal d) rfl

theorem State.stepGlobal_gevent (s : State) (d : Int) : (s.stepGlobal d).eth.gevent.getLsbD 2 = true := by
  rw [State.stepGlobal_eq, State.ethGlobal, State.onEth_eth, BitVec.getLsbD_or]
  exact Bool.or_true _

end Sys2Proof.Machine

/-! SUPPORT. Policers, stream recovery, and the messages of the time-aware bridge (Machine/Switch.lean, Machine/Ethernet.lean). -/

namespace Sys2Proof.Machine

open Sys2Proof

/-! ### Policers and streams (R351, R354) -/

/-- A policer after one µs of refill. -/
def Policer.refilled (u : Policer) : Policer := { u with tokens := min (u.tokens + u.rate.toNat) (u.burst.toNat * 8000) }

theorem exec_policerRefill (s : State) : exec .policerRefill s
    = fin (s.onEth (fun e => { e with policers := e.policers.map (fun p => (p.1, p.2.refilled)) })) := rfl

theorem State.police_passes {s : State} {n len : Nat} (port : Nat) (h : len * 8000 ≤ (Tab.get s.eth.policers n {}).tokens) :
    s.police n port len = (s.onEth (fun e => { e with policers := Tab.put e.policers n { Tab.get s.eth.policers n {} with
      tokens := (Tab.get s.eth.policers n {}).tokens - len * 8000, passed := (Tab.get s.eth.policers n {}).passed + 1 } }), true) := if_pos h

theorem State.police_drops {s : State} {n len : Nat} (port : Nat) (h : (Tab.get s.eth.policers n {}).tokens < len * 8000) :
    s.police n port len = ((s.onEth (fun e => { e with policers := Tab.put e.policers n { Tab.get s.eth.policers n {} with
      dropped := (Tab.get s.eth.policers n {}).dropped + 1 } })).cntSw port (fun c => { c with police := c.police + 1 }), false) :=
  if_neg (Nat.not_le.mpr h)

theorem State.frers_updFrer (s : State) (n k m : Nat) (f : Frer → Frer) : Tab.get ((s.updFrer n f).ethGlobal k).eth.frers m {}
    = if m = n then f (Tab.get s.eth.frers n {}) else Tab.get s.eth.frers m {} := Tab.get_upd ..

theorem exec_frerRecoveryTimeout {s : State} {n : Nat} (hn : n < 512) (hrec : (Tab.get s.eth.frers n {}).rec_ = true)
    (hstream : (Tab.get s.eth.frers n {}).stream ≠ 0) (hfresh : (Tab.get s.eth.frers n {}).fresh = false) : exec (.frerRecoveryTimeout n) s
      = fin ((s.updFrer n (fun f => { f with fresh := true, seen := 0, resets := satInc f.resets })).ethGlobal 4) := by
  have hrow : exec (.frerRecoveryTimeout n) s = execFrerRecoveryTimeout n s := rfl
  rw [hrow, execFrerRecoveryTimeout, if_neg (not_not_intro hn)]
  exact if_pos ⟨hrec, hstream, Bool.eq_false_iff.mp hfresh⟩

/-! ### Messages received (R355, R357) -/

theorem clampRate_range (v : U32) : -128000000 ≤ (clampRate v).toInt ∧ (clampRate v).toInt ≤ 128000000 := by
  unfold clampRate
  split
  · decide
  · split
    · decide
    · omega

/-- What a message of the bridge does. -/
def State.ptpTake (s : State) (p : Nat) (m : PtpMessage) : State :=
  match m.kind with
  | .sync => s.ptpSync p m
  | .announce => s.ptpAnnounce p m
  | .pdelay => s.ptpDelay p m

section Ptp

variable {s : State} {p : Nat} {m : PtpMessage}

theorem State.bridgeOn_en (h : s.bridgeOn p = true) : s.eth.bridge.en = true := by
  unfold State.bridgeOn at h
  simp only [Bool.and_eq_true] at h
  exact h.1.1

theorem exec_ptpMessageReceive (hp : p < 22) (hon : s.bridgeOn p = true) (hlink : (s.ethPort p).link = true) :
    exec (.ptpMessageReceive p m) s = fin (s.ptpTake p m) := by
  have hrow : exec (.ptpMessageReceive p m) s = execPtpMessageReceive p m s := rfl
  have hp' : p < 30 := by omega
  rw [hrow, execPtpMessageReceive, if_neg (not_not_intro hp'), if_neg (not_not_intro ⟨hon, .inr hlink⟩), State.ptpTake]
  cases m.kind <;> rfl

theorem State.ptpTake_sync (h : m.kind = .sync) : s.ptpTake p m = s.ptpSync p m := by simp only [State.ptpTake, h]
theorem State.ptpTake_announce (h : m.kind = .announce) : s.ptpTake p m = s.ptpAnnounce p m := by simp only [State.ptpTake, h]
theorem State.ptpTake_pdelay (h : m.kind = .pdelay) : s.ptpTake p m = s.ptpDelay p m := by simp only [State.ptpTake, h]

/-- The bridge's record of a sync. -/
def Bridge.synced (b : Bridge) (m : PtpMessage) : Bridge := { b with
  offset := BitVec.ofInt 64 m.offset, good := if m.offset.natAbs ≤ 1000 then b.good + 1 else 0, servo := b.servo + 1 }

/-- The module after a sync, before a step of the time. -/
def State.synced (s : State) (m : PtpMessage) : State := { s with
  tb := { s.tb with
    adj := clampRate (Config.servoRate s.eth.bridge.servo m.offset)
    gstate := if 4 ≤ (s.eth.bridge.synced m).good then 1 else s.tb.gstate }
  eth := { s.eth with bridge := s.eth.bridge.synced m } }

theorem State.ptpSync_of_slave (hrole : s.eth.bridge.role = 2) (hport : (s.eth.bridge.port p).role = 2) :
    s.ptpSync p m = if 10000 < m.offset.natAbs then (s.synced m).stepGlobal (-m.offset) else s.synced m := by
  have hgood : (if decide (m.offset.natAbs ≤ 1000) = true then s.eth.bridge.good + 1 else 0) = (s.eth.bridge.synced m).good := by
    simp only [decide_eq_true_eq]
    rfl
  simp only [State.ptpSync, hrole, hport, and_self, not_true_eq_false, if_false, hgood]
  rfl

/-- A peer delay exchange as the port records it. -/
def TabPort.measured (u : TabPort) (m : PtpMessage) : TabPort := { u with
  delay := m.delay, ratio := m.ratio, asCapable := decide (m.delay.toNat ≤ 12800)
  info := if m.delay.toNat ≤ 12800 then u.info else none }

theorem State.ptpDelay_eq : s.ptpDelay p m = (s.updTab p (·.measured m)).bmca := by
  have hinfo (u : TabPort) : (if decide (m.delay.toNat ≤ 12800) = true then u.info else none) = (u.measured m).info := by
    simp only [decide_eq_true_eq]
    rfl
  simp only [State.ptpDelay, hinfo]
  rfl

/-- A port that has heard an announce. -/
def State.tabTold (s : State) (p : Nat) (i : PtpInfo) : State := s.updTab p (fun t => { t with info := some i })

theorem State.ptpAnnounce_of_other (hlive : s.tabLive p = true) (hsteps : m.info.steps ≠ 255) (hsender : m.info.sender ≠ ownClock)
    (hroot : m.info.root.id ≠ ownClock) : s.ptpAnnounce p m = (s.tabTold p m.info).bmca := by
  refine if_neg ?_
  rintro (h | h | h | h)
  · exact h hlive
  · exact hsteps h
  · exact hsender h
  · exact hroot h

theorem State.tabTold_port (i : PtpInfo) (q : Nat) : (s.tabTold p i).eth.bridge.port q
    = if q = p then { s.eth.bridge.port p with info := some i } else s.eth.bridge.port q := Bridge.port_updTab ..

theorem State.tabTold_role (i : PtpInfo) (q : Nat) : ((s.tabTold p i).eth.bridge.port q).role = (s.eth.bridge.port q).role := by
  rw [State.tabTold_port]
  split
  · next hq => rw [hq]
  · rfl

theorem State.tabTold_live (i : PtpInfo) (q : Nat) : (s.tabTold p i).tabLive q = s.tabLive q := by
  have hcapable : ((s.tabTold p i).eth.bridge.port q).asCapable = (s.eth.bridge.port q).asCapable := by
    rw [State.tabTold_port]
    split
    · next hq => rw [hq]
    · rfl
  rw [State.tabLive, hcapable]
  rfl

/-- An announce on the lowest slave port under external port configuration. -/
theorem State.tabTold_bmca_ext (hp : p < 22) (hon : s.bridgeOn p = true) (hext : s.eth.bridge.ext = true)
    (hrole : (s.eth.bridge.port p).role = 2) (hlowest : ∀ q, q < p → s.bridgeOn q = true → (s.eth.bridge.port q).role ≠ 2) (i : PtpInfo) :
    (s.tabTold p i).bmca = (s.tabTold p i).setGm i.root.id (i.steps + 1) 2 :=
  State.bmca_ext (s := s.tabTold p i) (State.bridgeOn_en hon) hext (by omega) hon ((State.tabTold_role i p).trans hrole)
    (fun q hq hqon => (State.tabTold_role i q).trans_ne (hlowest q hq hqon)) (by rw [State.tabTold_port, if_pos rfl])

/-- An announce where no other live port has heard one. -/
theorem State.tabTold_bmca_single (hp : p < 22) (hlive : s.tabLive p = true) (hon : s.bridgeOn p = true) (hext : s.eth.bridge.ext = false)
    (hothers : ∀ q, q < 30 → q ≠ p → s.tabLive q = true → (s.eth.bridge.port q).info = none) (i : PtpInfo) :
    (s.tabTold p i).bmca = if ({ i with steps := i.steps + 1 } : PtpInfo).better s.eth.bridge.own p 0
      then ((s.tabTold p i).tabRoles (some p) i.root (i.steps + 1)).setGm i.root.id (i.steps + 1) 2 else (s.tabTold p i).tabAlone := by
  refine State.bmca_single (s := s.tabTold p i) (State.bridgeOn_en hon) hext
    (State.tabHeard_single (by omega) ((State.tabTold_live i p).trans hlive) (by rw [State.tabTold_port, if_pos rfl]) fun q hq hne hqlive => ?_)
  rw [State.tabTold_port, if_neg hne]
  exact hothers q hq hne ((State.tabTold_live i q).symm.trans hqlive)

/-- An announce that is better than the module's own settings makes its port the slave. -/
theorem State.tabTold_follows (hp : p < 22) (hlive : s.tabLive p = true) (i : PtpInfo) (root : PtpClock) (steps : Byte) :
    let t := ((s.tabTold p i).tabRoles (some p) root steps).setGm root.id steps 2
    t.eth.bridge.gmId = root.id ∧ t.eth.bridge.stepsRemoved = steps ∧ t.eth.bridge.role = 2 ∧ (t.eth.bridge.port p).role = 2 ∧ t.tb = s.tb := by
  obtain ⟨hid, hsteps, hrole, hport, htb⟩ := ((s.tabTold p i).tabRoles (some p) root steps).setGm_settles root.id steps 2
  refine ⟨hid, hsteps, hrole, ?_, by rw [htb, State.tabRoles_tb]; rfl⟩
  rw [hport, State.tabRoles_slave hp ((State.tabTold_live i p).trans hlive)]

/-! ### Messages sent (R311, R337) -/

/-- One more message waits at a port. -/
def State.ptpAsked (s : State) (p : Nat) : State := s.updEthPort p (fun e => { e with ptpDue := e.ptpDue + 1 })

theorem State.ptpAsked_may : (s.ptpAsked p).ptpMay p = s.ptpMay p := by
  have hport : (s.ptpAsked p).ethPort p = { s.ethPort p with ptpDue := (s.ethPort p).ptpDue + 1 } := s.ethPort_updEthPort_same p _
  rw [State.ptpMay, hport]
  rfl

theorem exec_ptpTransmitTimer (hp : p < 22) (hon : s.bridgeOn p = true) (hlink : (s.ethPort p).link = true) {k : PtpKind}
    (hk : k = .pdelay ∨ (s.eth.bridge.port p).role = 1) : exec (.ptpTransmitTimer p k) s = fin ((s.ptpAsked p).ptpFlush p) := by
  have hrow : exec (.ptpTransmitTimer p k) s = execPtpTransmitTimer p k s := rfl
  have hp' : p < 30 := by omega
  have hgo : ¬ (k ≠ .pdelay ∧ (s.eth.bridge.port p).role ≠ 1) := fun h => hk.elim h.1 h.2
  rw [hrow, execPtpTransmitTimer, if_neg (not_not_intro hp'), if_neg (not_not_intro ⟨hon, .inr hlink⟩), if_neg hgo]
  rfl

/-- Where nothing else waits and a message may start, it is sent. -/
theorem State.ptpAsked_sends (hmay : s.ptpMay p = true) (hdue : (s.ethPort p).ptpDue = 0) :
    (s.ptpAsked p).ptpFlush p = ((s.ptpAsked p).ptpNow p).ptpSent p := by
  have hone : ((s.ptpAsked p).ethPort p).ptpDue = 1 := by
    rw [State.ptpAsked, State.ethPort_updEthPort_same, hdue]
  rw [State.ptpFlush_of_may (State.ptpAsked_may.trans hmay), hone]
  rfl

theorem State.ptpAsked_sent_swPort (q : Nat) : (((s.ptpAsked p).ptpNow p).ptpSent p).swPort q
    = if q = p then { s.swPort p with sent := ptpBytes p s.core.fresh, sentBad := false } else s.swPort q := (s.ptpAsked p).ptpNow_swPort p q

theorem State.ptpAsked_sent_cnt : ((((s.ptpAsked p).ptpNow p).ptpSent p).ethPort p).cnt = { (s.ethPort p).cnt with
    txFrames := (s.ethPort p).cnt.txFrames + 1
    txBytes := (s.ethPort p).cnt.txBytes + BitVec.ofNat 64 ((ptpBytes p s.core.fresh).length + 4) } := by
  rw [State.ptpSent_ethPort, if_pos rfl, State.ptpNow_ethPort, if_pos rfl, State.ptpAsked, State.ethPort_updEthPort_same]
  rfl

theorem State.ptpAsked_sent_ethPort_ne {q : Nat} (h : q ≠ p) : (((s.ptpAsked p).ptpNow p).ptpSent p).ethPort q = s.ethPort q := by
  rw [State.ptpSent_ethPort, if_neg h, State.ptpNow_ethPort, if_neg h, State.ptpAsked, State.ethPort_updEthPort_ne _ _ h]

theorem exec_ptpSyncTimeout (hen : s.eth.bridge.en = true) (hrole : s.eth.bridge.role = 2 ∨ (s.eth.bridge.role = 0 ∧ s.tb.gstate = 1))
    (hstate : s.tb.gstate ≠ 2) : exec .ptpSyncTimeout s = fin { s with
      tb := { s.tb with gstate := 2 }
      eth := { s.eth with gevent := s.eth.gevent ||| 2, bridge := { s.eth.bridge with good := 0 } } } := by
  have hrow : exec .ptpSyncTimeout s = execPtpSyncTimeout s := rfl
  rw [hrow, execPtpSyncTimeout, if_pos ⟨hen, hstate, hrole⟩]
  rfl

end Ptp

end Sys2Proof.Machine

namespace Sys2Proof.Proofs

open Sys2Proof Sys2Proof.Machine

/-- Settles O54: each row by the state that it leaves; the choice of the master and what a port sends by what they can change at all. -/
theorem portEvents : Obligations.PortEvents := by
  refine ⟨⟨fun s p hp hlag => ⟨fun hlink hpower hforward hblock => ?up, fun hlink => ?down⟩, fun s p g hp hlag hlink => ?group, ?heard, ?expiry,
    ?refresh, ?verify, ?plca⟩, ?entry, ?list, ?refill, ?police, ?recovery, ?messages,
    fun s hen hrole hstate => exec_ptpSyncTimeout hen hrole hstate⟩
  case up =>
    have hport := (State.portLink_ethPort (s := s) (p := p) true p).trans (if_pos rfl)
    have hsw := (State.portLink_swPort (s := s) (p := p) true p).trans (if_pos rfl)
    exact ⟨_, exec_linkUp_of_single hp hlag hlink hpower hforward hblock, congrArg EthPort.link hport, congrArg SwPort.link hsw,
      congrArg EthPort.verify hport, congrArg (·.plca.active) hport, (congrArg EthPort.cnt hport).trans rfl,
      congrArg EthEvent.ev (State.ethEvent_events ..),
      fun q hq => ⟨(State.portLink_ethPort true q).trans (if_neg hq), (State.portLink_swPort true q).trans (if_neg hq)⟩, rfl⟩
  case down =>
    have hport := (s.portDown_ethPort p p).trans (if_pos rfl)
    have hsw := (s.portDown_swPort p p).trans (if_pos rfl)
    refine ⟨_, exec_linkDown_of_single hp hlag hlink, congrArg EthPort.link hport, congrArg SwPort.link hsw, congrArg EthPort.verify hport,
      congrArg EthPort.paused hport, congrArg EthPort.pfcPaused hport, congrArg (·.plca.active) hport, (congrArg EthPort.cnt hport).trans rfl,
      s.portDown_events p, fun hon => State.tabDown_port hon, fun hoff => ?_,
      fun q hq => ⟨(s.portDown_ethPort p q).trans (if_neg hq), (s.portDown_swPort p q).trans (if_neg hq)⟩, by rw [State.portDown_rest]⟩
    rw [State.portDown, State.tabDown_of_off (s := (s.portLink p false).ethEvent p 0) hoff]
    exact ⟨rfl, rfl, rfl⟩
  case group =>
    have hlag' : (s.portLink p false).sw.lagOf p = some g := hlag
    obtain ⟨hevent, -⟩ := State.lagLink_down_rest hlag'
    obtain ⟨hbus, hps⟩ := State.memberDown_rest hlag
    refine ⟨s.memberDown p, exec_linkDown hp hlink, ?_, ?_, ?_, hbus, hps⟩
    · rw [State.memberDown_sw]
      exact State.lagLink_down_lags hlag'
    · rw [State.memberDown_sw]
      exact hevent
    · rw [State.memberDown_sw]
      simpa using State.lagLink_down_frames hlag'
  case heard =>
    intro s p pfc en q hp hlink
    obtain ⟨hport, -, -⟩ := (s.updEthPort p (·.pauseHeard pfc en q)).ptpFlush_sendsOnly p
    rw [State.ethPort_updEthPort_same] at hport
    obtain ⟨hother, hrest⟩ := s.updEthPort_ptpFlush_rest p (·.pauseHeard pfc en q)
    refine ⟨_, exec_pauseFrameReceive hp hlink pfc en q, ?_, fun c hc => ?_, ?_, fun hdue => ?_, hother, hrest⟩
    · rw [hport]; rfl
    · rw [hport]
      exact EthPort.pauseHeard_pfcPaused _ _ _ _ hc
    · rw [hport]; rfl
    · obtain ⟨hsame, hnone⟩ := State.updEthPort_ptpFlush_none (f := (·.pauseHeard pfc en q)) (fun _ => rfl) hdue
      exact ⟨by rw [hsame]; rfl, hnone⟩
  case expiry =>
    intro s p cl hp
    obtain ⟨hport, -, -⟩ := (s.updEthPort p (·.resumed cl)).ptpFlush_sendsOnly p
    rw [State.ethPort_updEthPort_same] at hport
    obtain ⟨hother, hrest⟩ := s.updEthPort_ptpFlush_rest p (·.resumed cl)
    refine ⟨_, exec_pauseExpiry hp cl, fun hpause => ?_, fun c hc => ?_, fun hdue => ?_, fun hpause hfree => ?_, hother, hrest⟩
    · rw [hport]
      exact if_pos hpause
    · rw [hport]
      exact EthPort.resumed_pfcPaused _ _ hc
    · obtain ⟨hsame, hnone⟩ := State.updEthPort_ptpFlush_none (f := (·.resumed cl)) (fun _ => rfl) hdue
      exact ⟨by rw [hsame]; rfl, hnone⟩
    · have hall := State.ptpFlush_all (State.resumed_ptpMay hpause hfree cl)
      rw [State.ethPort_updEthPort_same] at hall
      exact hall
  case refresh =>
    intro s p hp hpause hflag hlink
    have hexec := exec_pauseRefresh hp hpause hflag hlink
    refine ⟨fun hfree => ?_, fun hbusy => ?_⟩
    · rw [if_pos hfree] at hexec
      have hsw := s.fcNow_swPort p p { on := 0xFF }
      have heth := s.fcNow_ethPort p p { on := 0xFF }
      rw [if_pos rfl] at hsw heth
      refine ⟨_, hexec, by rw [hsw]; rfl, by rw [hsw], by rw [heth], by rw [heth], fun r hr => ?_, rfl⟩
      rw [State.fcNow_swPort, State.fcNow_ethPort, if_neg hr, if_neg hr]
      exact ⟨rfl, rfl⟩
    · rw [if_neg (Bool.eq_false_iff.mp hbusy)] at hexec
      exact hexec
  case verify =>
    intro s p hp hverify
    refine ⟨?_, fun htries => ?_, fun htries => ?_⟩
    · exact ⟨_, exec_preemptVerifyResponse hp hverify, s.ethPort_portEvent_same p _ _, s.events_portEvent p _ _, rfl⟩
    · exact (exec_preemptVerifyTimeout hp hverify).trans (if_neg (Nat.not_le.mpr htries))
    · exact ⟨_, (exec_preemptVerifyTimeout hp hverify).trans (if_pos htries), congrArg EthPort.verify (s.ethPort_portEvent_same p _ _),
        s.events_portEvent p _ _, rfl⟩
  case plca =>
    intro s p hp hp' hnode
    refine ⟨fun hactive => ?_, fun hlink hactive hoff => exec_plcaBeaconReturn hp hp' hnode hlink hactive hoff⟩
    exact ⟨_, exec_plcaBeaconLost hp hp' hnode hactive, congrArg (·.plca.active) (s.ethPort_portEvent_same p _ _),
      congrArg EthPort.cnt (s.ethPort_portEvent_same p _ _), s.events_portEvent p _ _,
      fun r hr => s.ethPort_portEvent_ne _ _ hr, rfl⟩
  case entry =>
    intro s p g hp hoper k
    obtain ⟨hother, hrest⟩ := s.applyGate_gateOnly p g k
    refine ⟨_, exec_gateEntryAdvance hp hoper, (s.applyGate_gate p g k p).trans (if_pos rfl), ?_, ?_, hother, hrest⟩
    · exact congrArg EthPort.hold ((s.applyGate_ethPort p g k p).trans (if_pos rfl))
    · exact congrArg SwPort.halted ((s.applyGate_swPort p g k p).trans (if_pos rfl))
  case list =>
    intro s p g hp hpend
    have hgate := (State.switchOver_gate (s := s) (p := p) (g := g) p).trans (if_pos rfl)
    obtain ⟨hother, hrest⟩ := (s.gateTaken p g).applyGate_gateOnly p g 0
    refine ⟨_, exec_gateListSwitchover hp hpend, congrArg Gate.oper hgate, congrArg Gate.pend hgate, congrArg Gate.entry hgate,
      congrArg Gate.gates hgate, ?_, fun q hq => ⟨(State.switchOver_gate q).trans (if_neg hq), (hother q hq).2⟩, ?_⟩
    · rw [hrest]; rfl
    · rw [hrest]; rfl
  case refill =>
    exact fun s => ⟨_, exec_policerRefill s, rfl, fun n => Tab.get_map s.eth.policers Policer.refilled n {} rfl⟩
  case police =>
    intro s n port len u
    refine ⟨fun hpass => ?_, fun hdrop => ?_⟩
    · rw [State.police_passes port hpass]
      exact ⟨rfl, Tab.get_put_same ..⟩
    · rw [State.police_drops port hdrop]
      exact ⟨rfl, Tab.get_put_same .., congrArg (·.cnt.police) (State.swPort_cntSw_same ..)⟩
  case recovery =>
    intro s n hn f hrec hstream hfresh
    exact ⟨_, exec_frerRecoveryTimeout hn hrec hstream hfresh, (s.frers_updFrer n 4 n _).trans (if_pos rfl), rfl,
      fun m hm => (s.frers_updFrer n 4 m _).trans (if_neg hm), rfl⟩
  case messages =>
    intro s p m hp hon hlink
    have hexec : exec (.ptpMessageReceive p m) s = fin (s.ptpTake p m) := exec_ptpMessageReceive hp hon hlink
    refine ⟨fun hkind hrole hport hnear => ?near, fun hkind hrole hport hfar => ?far, fun hkind => ?delay,
      fun hkind hlive hsteps hsender hroot => ?announce, fun k hk hmay => ?wait, fun k hk hmay hdue => ?send⟩
    case near =>
      rw [State.ptpTake_sync hkind, State.ptpSync_of_slave hrole hport, if_neg (Nat.not_lt.mpr hnear)] at hexec
      obtain ⟨hlow, hhigh⟩ := clampRate_range (Config.servoRate s.eth.bridge.servo m.offset)
      exact ⟨_, hexec, rfl, rfl, rfl, rfl, rfl, hlow, hhigh, rfl⟩
    case far =>
      rw [State.ptpTake_sync hkind, State.ptpSync_of_slave hrole hport, if_pos hfar] at hexec
      have hrest := (s.synced m).stepGlobal_rest (-m.offset)
      have htime : ((s.synced m).stepGlobal (-m.offset)).tb = (s.synced m).tb.stepped (-m.offset) := by rw [hrest]
      have hgate := (s.synced m).stepGlobal_gate (-m.offset)
      refine ⟨_, hexec, by rw [htime]; rfl, by rw [htime]; rfl, by rw [htime]; rfl, State.stepGlobal_gevent .., ?_, by rw [htime]; rfl,
        fun q g hoper hkeep => ?_, fun q g hpend hdue => ?_, by rw [hrest]; rfl⟩
      · rw [hrest]
        exact if_neg (by omega)
      · rw [htime] at hkeep ⊢
        rw [hgate]
        exact Gate.movedTo_of_not_due hoper hkeep
      · rw [htime] at hdue ⊢
        rw [hgate]
        exact Gate.movedTo_of_due hpend hdue
    case delay =>
      rw [State.ptpTake_pdelay hkind, State.ptpDelay_eq] at hexec
      obtain ⟨hports, hrest⟩ := (s.updTab p (·.measured m)).bmca_masterOnly
      have hport := hports p
      rw [Bridge.port_updTab, if_pos rfl] at hport
      refine ⟨_, hexec, by rw [hport]; rfl, by rw [hport]; rfl, by rw [hport]; rfl, by rw [hport]; rfl, fun q hq => ?_, hrest⟩
      exact (hports q).trans (by rw [Bridge.port_updTab, if_neg hq])
    case announce =>
      rw [State.ptpTake_announce hkind, State.ptpAnnounce_of_other hlive hsteps hsender hroot] at hexec
      refine ⟨fun hext hrole hlowest => ?ext, fun hext hothers => ?best⟩
      case ext =>
        rw [State.tabTold_bmca_ext hp hon hext hrole hlowest, State.setGm_eq] at hexec
        exact ⟨_, hexec, rfl, rfl, rfl, rfl, rfl⟩
      case best =>
        obtain ⟨hports, hrest⟩ := (s.tabTold p m.info).bmca_masterOnly
        have hchoice := State.tabTold_bmca_single hp hlive hon hext hothers m.info
        refine ⟨_, hexec, ?_, fun hbetter => ?_, fun hworse hcapable => ?_, hrest⟩
        · rw [hports p, State.tabTold_port, if_pos rfl]
        · rw [hchoice, if_pos hbetter]
          exact State.tabTold_follows hp hlive ..
        · rw [hchoice, if_neg (Bool.eq_false_iff.mp hworse)]
          exact State.tabAlone_capable (s := s.tabTold p m.info) hcapable
    case wait =>
      have hwaits : (s.ptpAsked p).ptpFlush p = s.ptpAsked p := State.ptpFlush_of_not_may (State.ptpAsked_may.trans hmay)
      exact (exec_ptpTransmitTimer hp hon hlink hk).trans (congrArg fin hwaits)
    case send =>
      have hsw := (State.ptpAsked_sent_swPort (s := s) (p := p) p).trans (if_pos rfl)
      refine ⟨_, (exec_ptpTransmitTimer hp hon hlink hk).trans (congrArg fin (State.ptpAsked_sends hmay hdue)), ?_⟩
      rw [hsw]
      exact ⟨beAt_ptpBytes_source .., beAt_ptpBytes_type .., rfl, State.ptpAsked_sent_cnt,
        fun q hq => ⟨State.ptpAsked_sent_ethPort_ne hq, (State.ptpAsked_sent_swPort q).trans (if_neg hq)⟩, rfl⟩

end Sys2Proof.Proofs

/-! SUPPORT. The slots of a target: which one a start loads, and what START_GOOD makes of a trial (R613 to R616). -/

namespace Sys2Proof.Machine

open Sys2Proof

/-- The PENDING image of a target is loaded as its trial. -/
def State.loadedTrial (s : State) (n : Nat) (b : Bool) : State :=
  (s.updTarget n (fun x => { x.updSlot b (fun k => { k with st := .failed }) with trial := true })).updTarget n
    (fun x => { x with loaded := some b, onTrial := true })

theorem State.selectSlot_of_pending {s : State} {n : Nat} {b : Bool} (hpending : (s.target n).inState .pending = some b)
    (husable : s.usable n b = true) : s.selectSlot n = (s.loadedTrial n b, some b) := by
  simp [State.selectSlot, hpending, husable, State.loadedTrial]

theorem State.loadedTrial_target (s : State) (n : Nat) (b : Bool) : (s.loadedTrial n b).target n =
    { (s.target n).updSlot b (fun k => { k with st := .failed }) with trial := true, loaded := some b, onTrial := true } := by
  simp [State.loadedTrial]

theorem State.loadedTrial_target_ne (s : State) {n m : Nat} (b : Bool) (h : m ≠ n) : (s.loadedTrial n b).target m = s.target m := by
  simp [State.loadedTrial, State.target_updTarget_ne _ _ h]

/-- Whatever slot a start chooses can be loaded. -/
theorem State.usable_of_selectSlot {s : State} {n : Nat} {b : Bool} (h : (s.selectSlot n).2 = some b) : s.usable n b = true := by
  simp only [State.selectSlot] at h
  split at h
  case h_1 =>
    split at h
    case isTrue hb => cases h; exact hb
    case isFalse =>
      split at h
      case isTrue hb => cases h; exact hb.2
      case isFalse => cases h
  case h_2 =>
    split at h
    case h_1 =>
      split at h
      case isTrue hb => cases h; exact hb
      case isFalse =>
        split at h
        case isTrue hb => cases h; exact hb.2
        case isFalse => cases h
    case h_2 =>
      split at h
      case h_1 =>
        split at h
        case isTrue hb => cases h; exact hb
        case isFalse => cases h
      case h_2 => cases h

/-- With the owner key recorded, an image of the owner's targets needs its signer. -/
theorem State.signer_of_signerOk {s : State} {n : Nat} {k : Slot} {h : List Byte} (hn : n ≠ 0) (howner : s.aon.ownerKey = some h)
    (hok : s.signerOk n k = true) : k.signer = h := by
  obtain ⟨m, rfl⟩ := Nat.exists_eq_succ_of_ne_zero hn
  simpa [State.signerOk, howner] using hok

theorem State.signerOk_of_usable {s : State} {n : Nat} {b : Bool} (h : s.usable n b = true) : s.signerOk n ((s.target n).slot b) = true :=
  (Bool.and_eq_true_iff.mp h).2

/-- The target that START_GOOD leaves where slot b is its trial. -/
def Target.promoted (t : Target) (b : Bool) : Target :=
  { (t.updSlot (!b) (fun o => if o.st = .active then { o with st := .valid } else o)).updSlot b (fun o => { o with st := .active }) with
    minSec := if t.minSec.toNat < (t.slot b).secver.toNat then (t.slot b).secver else t.minSec
    trial := false
    onTrial := false }

theorem State.promote_target {s : State} {n : Nat} {b : Bool} (hloaded : (s.target n).loaded = some b)
    (htrial : (s.target n).onTrial = true) : (s.promote n).target n = (s.target n).promoted b := by
  simp only [State.promote, hloaded, htrial, if_true]
  rw [State.recordsOnly_target (State.log_recordsOnly _ _ _), State.target_updTarget_same, State.target_updTarget_same]
  cases b <;> rfl

theorem Target.promoted_slots (t : Target) (b : Bool) : ((t.promoted b).slot b).st = .active
    ∧ ((t.promoted b).slot (!b)).st = if (t.slot (!b)).st = .active then .valid else (t.slot (!b)).st := by
  have hother (o : Slot) : (if o.st = .active then { o with st := .valid } else o).st = if o.st = .active then .valid else o.st :=
    apply_ite ..
  cases b
  · exact ⟨rfl, hother t.slotB⟩
  · exact ⟨rfl, hother t.slotA⟩

theorem Target.promoted_minSec (t : Target) (b : Bool) :
    (t.promoted b).minSec.toNat = max t.minSec.toNat (t.slot b).secver.toNat := by
  simp only [Target.promoted]
  split <;> omega

end Sys2Proof.Machine

namespace Sys2Proof.Proofs

open Sys2Proof Sys2Proof.Machine

/-- Settles O15: the choice by the state of the slots, a trial's end by the promoted target, and a foreign signer by what every chosen slot
satisfies. -/
theorem slotsAndTrials : Obligations.SlotsAndTrials := by
  refine ⟨?pending, ?active, ?good, ?signer⟩
  case pending =>
    intro s n b hpending hauth hsigner hsec
    rw [State.selectSlot_of_pending hpending (State.usable_of_slot hauth hsigner hsec)]
    rw [State.loadedTrial_target]
    exact ⟨rfl, congrArg Slot.st (Target.slot_updSlot_same _ b _), Target.slot_updSlot_not _ b _, rfl, rfl, rfl,
      fun k hk => s.loadedTrial_target_ne b hk⟩
  case active =>
    intro s n b hpending htrial hactive hauth hsigner hsec
    rw [State.selectSlot_of_loadable ⟨hpending, htrial, hactive, State.usable_of_slot hauth hsigner hsec⟩]
    exact ⟨rfl, s.target_updTarget_same n _, fun k hk => s.loaded_target_ne b hk⟩
  case good =>
    intro s n b hloaded htrial
    rw [State.promote_target hloaded htrial]
    exact ⟨(Target.promoted_slots _ b).1, (Target.promoted_slots _ b).2, rfl, Target.promoted_minSec _ b⟩
  case signer =>
    intro s n b h hn howner hother hchosen
    exact hother (State.signer_of_signerOk hn howner (State.signerOk_of_usable (State.usable_of_selectSlot hchosen)))

end Sys2Proof.Proofs

/-! SUPPORT. A health sample while power-on reset is held (R603). -/

namespace Sys2Proof.Machine

open Sys2Proof

/-- A module whose power-on reset is held samples nothing. -/
theorem exec_healthSample_of_porHeld {s : State} (h : Sensors) (a b : U16) (hpor : s.supply.porHeld = true) :
    exec (.healthSample h a b) s = .next s := by
  have hpowered : ¬ s.powered = true := by simp [State.powered, hpor]
  exact if_pos hpowered

/-- The mode RUN beside a held power-on reset. -/
def heldInRun : State where
  supply := { porHeld := true }
  aon := { mode := .run }

end Sys2Proof.Machine

namespace Sys2Proof.Proofs

open Sys2Proof Sys2Proof.Machine

/-- Refutes O23: the sample's clause asks for the mode and for no hold-up, and not that power-on reset is released. In `heldInRun` a feed
current of 0.1 A is not taken. -/
theorem not_healthAndSafety : ¬ Obligations.HealthAndSafety := by
  intro h
  obtain ⟨hsample, -⟩ := h
  obtain ⟨t, hdoes, -, hfeed, -⟩ := hsample heldInRun {} 1 0 (.inl rfl) rfl
  have hkept : heldInRun = t.settle := Host.Outcome.next.inj ((exec_healthSample_of_porHeld {} 1 0 rfl).symm.trans hdoes)
  rw [← t.settle_supply, ← hkept] at hfeed
  exact absurd hfeed (by decide)

end Sys2Proof.Proofs

/-! SUPPORT. The ledger's partition and its readers (R605 to R610). -/

namespace Sys2Proof.Machine

open Sys2Proof

theorem State.amindUp_of_care {s : State} (hmode : s.aon.mode = .run ∨ s.aon.mode = .part ∨ s.aon.mode = .safe)
    (hhold : s.supply.holdup = false) : s.amindUp = true := by
  rcases hmode with h | h | h <;> simp [State.amindUp, h, hhold]

/-! ### Commits -/

/-- Without drops of its own the always-on domain records none. -/
theorem State.aonDrops_of_none {s : State} (h : s.mgmt.ledger.aonDropped = []) :
    s.aonDrops = s.onMgmt (fun m => { m with ledger := { m.ledger with aonDropped := [] } }) := by
  rw [State.aonDrops, h, List.foldl_nil]

/-- Entries that the partition has room for join it in order. -/
theorem Ledger.foldl_store (b : List LedgerEntry) : ∀ l : Ledger, l.stored.length + b.length ≤ 524288 →
    b.foldl Ledger.store l = { l with stored := l.stored ++ b.map (fun e => { e with check := crc32 e.body }) } := by
  induction b with
  | nil => intro l _; simp
  | cons e b ih =>
    intro l hroom
    rw [List.length_cons] at hroom
    have hstore : l.store e = { l with stored := l.stored ++ [{ e with check := crc32 e.body }] } := by
      rw [Ledger.store, if_neg (by omega)]
    rw [List.foldl_cons, hstore, ih _ (by simp only [List.length_append, List.length_singleton]; omega)]
    simp

/-- The always-on domain commits the oldest entry. -/
theorem does_ledgerAonCommit {s : State} {e : LedgerEntry} {r : List LedgerEntry} (hbuffer : s.mgmt.ledger.buffer = e :: r)
    (hpor : s.supply.porHeld = false) (hdropped : s.mgmt.ledger.aonDropped = []) :
    Does .ledgerAonCommit s (s.onMgmt (fun m => { m with ledger := { m.ledger.store e with buffer := r, aonDropped := [] } })) := by
  have hrow : exec .ledgerAonCommit s = execLedgerAonCommit s := rfl
  have hpowered : s.powered = true := by simp [State.powered, hpor]
  have hdrops := State.aonDrops_of_none (s := s.onMgmt (fun m => { m with ledger := { m.ledger.store e with buffer := r } })) hdropped
  rw [Does, hrow, execLedgerAonCommit, hbuffer]
  exact (if_pos hpowered).trans (congrArg fin hdrops)

/-- Amind commits every entry, where none is erased for them. -/
theorem State.commitBuffer_of_room {s : State} (hroom : s.mgmt.ledger.stored.length + s.mgmt.ledger.buffer.length ≤ 524288)
    (hdropped : s.mgmt.ledger.aonDropped = []) :
    s.commitBuffer = s.onMgmt (fun m => { m with ledger := { m.ledger with
      buffer := [], aonDropped := []
      stored := m.ledger.stored ++ m.ledger.buffer.map (fun e => { e with check := crc32 e.body }) } }) := by
  have hstore := Ledger.foldl_store _ _ hroom
  rw [State.commitBuffer, State.aonDrops_of_none (by simp only [State.onMgmt, hstore, hdropped])]
  simp only [State.onMgmt, hstore]

/-! ### Entries -/

theorem LedgerEntry.bytes_of_stored (e : LedgerEntry) :
    { e with check := crc32 e.body }.bytes = e.body ++ leBytes 4 (crc32 e.body).toNat := by
  have hbody : { e with check := crc32 e.body }.body = e.body := rfl
  rw [LedgerEntry.bytes, hbody, if_pos rfl, hbody]

theorem LedgerEntry.bytes_of_bad {e : LedgerEntry} (h : crc32 e.body ≠ e.check) :
    e.bytes = { e with severity := 0xFF, data := [] }.body ++ leBytes 4 e.check.toNat := by
  rw [LedgerEntry.bytes, if_neg h]

/-- The first 31 bytes of an entry are its numbers, and severity, writer, mode and data follow. -/
theorem LedgerEntry.body_split (e : LedgerEntry) : ∃ l : List Byte, l.length = 31
    ∧ e.body = l ++ ([e.severity, e.writer.code, e.mode, 0, 0] ++ fixLen 24 e.data) :=
  ⟨_, by simp only [List.length_append, leBytes_length], List.append_assoc _ _ _⟩

theorem LedgerEntry.bad_reads {e : LedgerEntry} (h : crc32 e.body ≠ e.check) :
    e.bytes.getD 31 0 = 0xFF ∧ (e.bytes.drop 36).take 24 = List.replicate 24 0 := by
  obtain ⟨l, hlen, hbody⟩ := LedgerEntry.body_split { e with severity := 0xFF, data := [] }
  rw [LedgerEntry.bytes_of_bad h, hbody, List.append_assoc, List.append_assoc]
  constructor
  · rw [List.getD_append_right _ _ _ _ (by omega), hlen]; rfl
  · rw [List.drop_append, List.drop_eq_nil_of_le (by omega), hlen]; rfl

/-! ### Readers -/

/-- A reader begins at its start sequence, or behind the gap at the oldest retained entry. -/
theorem Ledger.reader_eq (l : Ledger) (mask start : Nat) (session : Option Nat) : l.reader mask start session =
    { mask := BitVec.ofNat 32 mask, next := BitVec.ofNat 64 (max start l.oldest)
      gap := decide (start < l.oldest) && start ≠ 0, session := session } := by
  by_cases h : start < l.oldest
  · simp [Ledger.reader, h, Nat.max_eq_right (Nat.le_of_lt h)]
  · simp [Ledger.reader, h, Nat.max_eq_left (Nat.not_lt.mp h)]

/-- The state after LEDGER_READER_CREATE of the manager has been granted reader n. -/
def State.readerGranted (s : State) (rq : Request) (n : Nat) : State :=
  ((s.takeFree 0x0C 16).hCreate 0x0C n 0 false {} (0, 1, 0)).onMgmt (fun m => { m with
    readers := Tab.put m.readers n (m.ledger.reader (u32At rq.payload 0) (u64At rq.payload 8) none) })

theorem ownLedgerReaderCreate_of_free {rq : Request} {s : State} {n : Nat} (hroute : rq.route = .stall 0)
    (hfree : s.firstFree 0x0C 16 = some n) (hroom : s.roomFor 0x0C 0 0 false 1 0 = true) :
    ownLedgerReaderCreate rq s = (s.readerGranted rq n, { handle := some (mkHandle 0x0C 0 (s.genOf 0x0C n) n) }) := by
  have hinst : s.issuerInst (.stall 0) = 0 := rfl
  have hsec : rq.isSec = false := by simp [Request.isSec, hroute]
  have hsession : Route.issuer (.stall 0) ≠ .svc := by decide
  simp only [ownLedgerReaderCreate, hroute, hinst, hsec, hfree, hroom, hsession, not_true_eq_false, if_false, State.readerGranted]

/-- The reader after a read of `most` entries. -/
def Ledger.readerAfter (l : Ledger) (r : Reader) (most : Nat) : Reader :=
  { r with
    gap := false
    next := match (if (l.take r most).length < most then (l.stored.filter (fun e => decide (r.next.toNat ≤ e.seq.toNat))).getLast?
        else (l.take r most).getLast?) with
      | some e => e.seq + 1 | none => r.next }

/-- A read by a reader that erasure has not overtaken. -/
theorem ownLedgerRead_of_retained {rq : Request} {s : State} {r : Reader} (hr : r = Tab.get s.mgmt.readers (hIndex rq.handle) {})
    (hsession : r.session = none) (hold : s.mgmt.ledger.oldest ≤ r.next.toNat) :
    ownLedgerRead rq s = (s.onMgmt (fun m => { m with
        readers := Tab.put m.readers (hIndex rq.handle) (s.mgmt.ledger.readerAfter r (u16At rq.payload 0)) }),
      { payload := leBytes 2 (s.mgmt.ledger.take r (u16At rq.payload 0)).length ++ leBytes 2 (if r.gap then 1 else 0)
          ++ ((s.mgmt.ledger.take r (u16At rq.payload 0)).map LedgerEntry.bytes).flatten }) := by
  have hmine : s.readerFor rq = true := by rw [State.readerFor, ← hr, hsession]
  have hlost : ¬ r.next.toNat < s.mgmt.ledger.oldest := Nat.not_lt.mpr hold
  simp only [ownLedgerRead, hmine, ← hr, hlost, not_true_eq_false, decide_false, Bool.false_eq_true, if_false, yesWith]
  rfl

end Sys2Proof.Machine

namespace Sys2Proof.Proofs

open Sys2Proof Sys2Proof.Machine

/-- Settles O24: the commits by what joins the partition, the bad entry by the layout of an entry, and the readers by their own parts. -/
theorem ledgerAndReaders : Obligations.LedgerAndReaders := by
  refine ⟨⟨?aon, fun e => LedgerEntry.bad_reads, LedgerEntry.bytes_of_stored, ?amind, ?second⟩, ?create, ?read⟩
  case aon =>
    intro s e r hbuffer hpor hdropped
    exact does_ledgerAonCommit hbuffer hpor hdropped
  case amind =>
    intro s hmode hhold hdropped hroom
    have hrow : exec .ledgerAmindCommit s = execLedgerAmindCommit s := rfl
    simp only [Does, hrow, execLedgerAmindCommit, State.amindUp_of_care hmode hhold, if_true, fin, State.commitBuffer_of_room hroom hdropped]
    rfl
  case second =>
    intro s hmode hhold
    have hrow : exec .ledgerRateSecondEnd s = execLedgerRateSecondEnd s := rfl
    refine ⟨fun hdropped => ?_, fun code n hdropped => ?_⟩
    all_goals
      simp only [Does, hrow, execLedgerRateSecondEnd, State.amindUp_of_care hmode hhold, hdropped, not_true_eq_false, if_false, fin]
      rfl
  case create =>
    rintro rq s u n rfl htakes hroute hfree hroom
    refine ⟨_, replies_of_own rfl htakes (ownLedgerReaderCreate_of_free hroute hfree hroom), ?_,
      State.hCreate_hLive_isSome _ _ _ _ _ _ _, rfl⟩
    exact (Tab.get_put_same _ _ _ _).trans (Ledger.reader_eq _ _ _ _)
  case read =>
    rintro rq s u r es all rfl htakes hroute hr hsession hold rfl rfl
    exact replies_of_own rfl htakes (ownLedgerRead_of_retained hr hsession hold)

end Sys2Proof.Proofs

/-! SUPPORT. CAN channels: what the state of a channel, its configuration and a new object set change (R267, R377, R393, R394). -/

namespace Sys2Proof.Machine

open Sys2Proof

/-! ### The manager's requests -/

theorem Request.isSec_of_manager {rq : Request} (h : rq.route = .stall 0) : rq.isSec = false := by simp [Request.isSec, h]

theorem State.issuerInst_of_manager (s : State) {rq : Request} (h : rq.route = .stall 0) : s.issuerInst rq.route = 0 := by rw [h]; rfl

/-! ### Interrupts of the sets -/

theorem State.msiBind_irqOnly (s : State) (b : Bind) (sec : Bool) (off : Nat) : s.irqOnly (s.msiBind b sec off) :=
  s.msi_irqOnly _ _ _

theorem State.setMsi_irqOnly (s : State) (key off : Nat) : s.irqOnly (s.setMsi key off) := by
  unfold State.setMsi
  split
  · exact s.msiBind_irqOnly _ _ _
  · exact s.irqOnly_refl

theorem State.setMsis_irqOnly (s : State) (n : Nat) : s.irqOnly (s.setMsis n) := by
  refine State.irqOnly_foldl _ (fun t e => ?_) _ _
  split
  · exact t.setMsi_irqOnly _ _
  · exact t.irqOnly_refl

theorem State.objMsi_irqOnly (s : State) (n m : Nat) : s.irqOnly (s.objMsi n m) := by
  unfold State.objMsi
  split
  · exact s.setMsi_irqOnly _ _
  · exact s.irqOnly_refl

theorem State.can_of_irqOnly {s t : State} (h : s.irqOnly t) (k : Nat) : t.can k = s.can k := by
  rw [State.can, State.irqOnly_bus h, State.can]

/-! ### Buses alone -/

/-- Nothing but the buses and interrupts differs. -/
def State.busOnly (s t : State) : Prop := t = ({ s with bus := t.bus } : State).withIrq t

theorem State.busOnly_refl (s : State) : s.busOnly s := rfl

theorem State.busOnly_trans {a b c : State} (h : a.busOnly b) (k : b.busOnly c) : a.busOnly c := by
  unfold State.busOnly at *
  rw [k, h]
  rfl

theorem State.busOnly_of_irqOnly {s t : State} (h : s.irqOnly t) : s.busOnly t := by
  unfold State.busOnly
  rw [State.irqOnly_bus h]
  exact h

theorem State.busOnly_supply {s t : State} (h : s.busOnly t) : t.supply = s.supply := by rw [h]; rfl
theorem State.busOnly_aon {s t : State} (h : s.busOnly t) : t.aon = s.aon := by rw [h]; rfl

/-! ### The state of a channel -/

theorem State.canGoto_can_same (s : State) (n : Nat) (st : CanState) :
    (s.canGoto n st).can n = { s.can n with st := st, event := ((s.canGoto n st).can n).event } := by
  unfold State.canGoto
  split
  case isTrue h => rw [← h]
  case isFalse => simp [State.can_of_irqOnly (State.setMsis_irqOnly _ n), State.canEvent, State.can_updCan]

theorem State.canGoto_can_ne (s : State) {n k : Nat} (st : CanState) (h : k ≠ n) : (s.canGoto n st).can k = s.can k := by
  unfold State.canGoto
  split
  · rfl
  · simp [State.can_of_irqOnly (State.setMsis_irqOnly _ n), State.canEvent, State.can_updCan, h]

theorem State.canGoto_busOnly (s : State) (n : Nat) (st : CanState) : s.busOnly (s.canGoto n st) := by
  unfold State.canGoto
  split
  · exact s.busOnly_refl
  · exact State.busOnly_trans (b := (s.updCan n _).canEvent n 0) rfl (State.busOnly_of_irqOnly (State.setMsis_irqOnly _ n))

/-! ### A configuration -/

/-- Nothing but the objects of channel n, the gateway and interrupts differs. -/
def State.objsOnly (n : Nat) (s t : State) : Prop :=
  t.can n = { s.can n with objs := (t.can n).objs } ∧ (∀ k, k ≠ n → t.can k = s.can k) ∧ s.busOnly t

theorem State.objsOnly_refl (n : Nat) (s : State) : s.objsOnly n s := ⟨rfl, fun _ _ => rfl, s.busOnly_refl⟩

theorem State.objsOnly_trans {n : Nat} {a b c : State} (h : State.objsOnly n a b) (k : State.objsOnly n b c) : State.objsOnly n a c := by
  obtain ⟨hsame, hother, hrest⟩ := h
  obtain ⟨ksame, kother, krest⟩ := k
  exact ⟨by rw [ksame, hsame], fun m hm => (kother m hm).trans (hother m hm), State.busOnly_trans hrest krest⟩

theorem State.objsOnly_of_irqOnly {n : Nat} {s t : State} (h : s.irqOnly t) : State.objsOnly n s t :=
  ⟨by rw [State.can_of_irqOnly h], fun k _ => State.can_of_irqOnly h k, State.busOnly_of_irqOnly h⟩

theorem State.updObj_objsOnly (s : State) (n m : Nat) (f : CanObj → CanObj) : State.objsOnly n s (s.updObj n m f) :=
  ⟨by rw [State.updObj, State.can_updCan, if_pos rfl], fun k hk => by rw [State.updObj, State.can_updCan, if_neg hk], rfl⟩

theorem State.txEnd_objsOnly (s : State) (n m : Nat) (st : U16) (msi : Bool) : State.objsOnly n s (s.txEnd n m st msi) := by
  unfold State.txEnd
  split
  · exact State.objsOnly_trans (s.updObj_objsOnly n m _) (State.objsOnly_of_irqOnly (State.objMsi_irqOnly _ n m))
  · exact s.updObj_objsOnly n m _

theorem State.canBadFormats_objsOnly (s : State) (n : Nat) : State.objsOnly n s (s.canBadFormats n) := by
  refine List.foldlRecOn (motive := State.objsOnly n s) _ _ (s.objsOnly_refl n) fun t ht e _ => ?_
  split
  · exact State.objsOnly_trans ht (t.txEnd_objsOnly n _ _ _)
  · exact ht

/-- The channel off the bus with its new configuration, before its state follows. -/
def State.canReconfigured (s : State) (n : Nat) (g : CanCfg) : State :=
  (s.updCan n (fun c => { c with cfg := g, next := none })).canOffBus n

theorem State.canReconfigured_can_same (s : State) (n : Nat) (g : CanCfg) :
    (s.canReconfigured n g).can n = { s.can n with cfg := g, next := none, tx := none, rxBusy := false } := by
  have hgw (t : State) (f : Gateway → Gateway) (k : Nat) : (t.onGw f).can k = t.can k := rfl
  simp [State.canReconfigured, State.canOffBus, hgw, State.can_updCan]

theorem State.canReconfigured_can_ne (s : State) {n k : Nat} (g : CanCfg) (h : k ≠ n) : (s.canReconfigured n g).can k = s.can k := by
  have hgw (t : State) (f : Gateway → Gateway) (k : Nat) : (t.onGw f).can k = t.can k := rfl
  simp [State.canReconfigured, State.canOffBus, hgw, State.can_updCan, h]

/-- The reconfigured channel n goes to a state with a change of its own, and the requests that the configuration no longer permits end. -/
def State.canGone (s : State) (n : Nat) (g : CanCfg) (f : CanCh → CanCh) (st : CanState) : State :=
  (((s.canReconfigured n g).updCan n f).canGoto n st).canBadFormats n

theorem State.canGone_can_same (s : State) (n : Nat) (g : CanCfg) (f : CanCh → CanCh) (st : CanState) :
    (s.canGone n g f st).can n = { f { s.can n with cfg := g, next := none, tx := none, rxBusy := false } with
      st := st, event := ((s.canGone n g f st).can n).event, objs := ((s.canGone n g f st).can n).objs } := by
  obtain ⟨hobjs, -, -⟩ := (((s.canReconfigured n g).updCan n f).canGoto n st).canBadFormats_objsOnly n
  have hgoto := ((s.canReconfigured n g).updCan n f).canGoto_can_same n st
  rw [State.can_updCan, if_pos rfl, State.canReconfigured_can_same] at hgoto
  rw [hgoto] at hobjs
  rw [State.canGone, hobjs]

theorem State.canGone_frame (s : State) (n : Nat) (g : CanCfg) (f : CanCh → CanCh) (st : CanState) :
    (∀ k, k ≠ n → (s.canGone n g f st).can k = s.can k) ∧ (s.canGone n g f st).supply = s.supply
      ∧ (s.canGone n g f st).aon = s.aon := by
  obtain ⟨-, hother, hrest⟩ := (((s.canReconfigured n g).updCan n f).canGoto n st).canBadFormats_objsOnly n
  have hbus : s.busOnly (s.canGone n g f st) := State.busOnly_trans (b := (s.canReconfigured n g).updCan n f) rfl
    (State.busOnly_trans (State.canGoto_busOnly _ n st) hrest)
  refine ⟨fun k hk => ?_, State.busOnly_supply hbus, State.busOnly_aon hbus⟩
  rw [State.canGone, hother k hk, State.canGoto_can_ne _ _ hk, State.can_updCan, if_neg hk, State.canReconfigured_can_ne _ _ hk]

/-- A configuration that disables the channel stops it; another starts it, or begins its recovery from bus-off again. -/
theorem State.canApply_cases (s : State) (n : Nat) (g : CanCfg) :
    (g.en = false ∧ s.canApply n g = s.canGone n g (fun c => { c with integrating := false }) .stopped)
    ∨ (g.en = true ∧ s.canApply n g = s.canGone n g (fun c => { c with tec := 0, rec_ := 0, integrating := true }) .active)
    ∨ (((s.can n).st = .busOffWait ∨ (s.can n).st = .recovering) ∧ g.en = true
      ∧ s.canApply n g = s.canGone n g (fun c => { c with recov := 0 }) (if g.mode = 2 then .recovering else .busOffWait)) := by
  cases hen : g.en
  case false => exact .inl ⟨rfl, congrArg (State.canBadFormats · n) (if_pos (by simp [hen]))⟩
  case true =>
    have happly : s.canApply n g = State.canBadFormats (match (s.can n).st with
        | .busOffWait | .recovering => ((s.canReconfigured n g).updCan n (fun c => { c with recov := 0 })).canGoto n
            (if g.mode = 2 then .recovering else .busOffWait)
        | _ => ((s.canReconfigured n g).updCan n (fun c => { c with tec := 0, rec_ := 0, integrating := true })).canGoto n .active) n := by
      refine congrArg (State.canBadFormats · n) ((if_neg (not_not_intro hen)).trans ?_)
      cases (s.can n).st <;> rfl
    rw [happly]
    cases hst : (s.can n).st
    case busOffWait => exact .inr (.inr ⟨.inl rfl, rfl, rfl⟩)
    case recovering => exact .inr (.inr ⟨.inr rfl, rfl, rfl⟩)
    all_goals exact .inr (.inl ⟨rfl, rfl⟩)

theorem does_canConfigApply {s : State} {n : Nat} {g : CanCfg} (hn : n < 16) (hnext : (s.can n).next = some g) (htx : (s.can n).tx = none)
    (hrx : (s.can n).rxBusy = false) (hblock : (s.block (0x20 + n)).st = .on) : Does (.canConfigApply n) s (s.canApply n g) := by
  have hrow : exec (.canConfigApply n) s = execCanConfigApply n s := rfl
  have hserves : (s.block (0x20 + n)).serves = true := by rw [Block.serves, hblock]
  simp only [Does, hrow, execCanConfigApply, Nat.not_le.mpr hn, hnext, htx, hrx, hserves, if_false, if_true, Bool.false_eq_true,
    not_false_eq_true, and_self, fin]

/-! ### A new set -/

theorem Tab.get_filter {α : Type} (t : Tab α) (p : Nat → Bool) (i : Nat) (d : α) :
    Tab.get (t.filter (fun e => p e.1)) i d = if p i then Tab.get t i d else d := by
  induction t with
  | nil => simp [Tab.get]
  | cons e r ih =>
    by_cases hi : e.1 = i
    · subst hi
      by_cases hp : p e.1 = true
      · simp [hp, Tab.get]
      · simp [hp, ih]
    · by_cases hp : p e.1 = true
      · simp [hp, Tab.get, hi, ih]
      · simp [hp, Tab.get, hi, ih]

theorem State.zeroObjs_canObj (s : State) (n first count m : Nat) :
    (s.zeroObjs n first count).canObj n m = if first ≤ m ∧ m < first + count then ({} : CanObj) else s.canObj n m := by
  rw [State.canObj, State.zeroObjs, State.can_updCan, if_pos rfl]
  refine (Tab.get_filter _ (fun i => !(first ≤ i && i < first + count)) m ({} : CanObj)).trans ?_
  by_cases h : first ≤ m ∧ m < first + count
  · simp [h]
  · rw [if_neg h, if_pos (by simp; omega)]
    rfl

theorem State.zeroObjs_can_ne (s : State) {n k : Nat} (first count : Nat) (h : k ≠ n) : (s.zeroObjs n first count).can k = s.can k := by
  rw [State.zeroObjs, State.can_updCan, if_neg h]

/-- The state after CAN_SET_CREATE of the manager has been granted its objects. -/
def State.canSetGranted (s : State) (rq : Request) : State :=
  ((s.hCreate 2 (u8At rq.payload 0 * 128 + u8At rq.payload 1) 0 false (bindAt rq.payload 4)
      (u8At rq.payload 0, u8At rq.payload 2, u8At rq.payload 3)).zeroObjs (u8At rq.payload 0) (u8At rq.payload 1) (u8At rq.payload 2)).onBus
    (fun b => { b with sets := Tab.put b.sets (u8At rq.payload 0 * 128 + u8At rq.payload 1) {
      count := u8At rq.payload 2, prio := u8At rq.payload 3, owner := 0 } })

theorem exec_canSetCreate_of_manager {rq : Request} (hroute : rq.route = .stall 0) (s : State) :
    exec (.canSetCreate rq) s = serve specCanSetCreate rq s (s.okCanSet 0 false) (ownCanSetCreate rq) := by
  rw [← Request.isSec_of_manager hroute, ← s.issuerInst_of_manager hroute]
  rfl

section SetCreate

variable {rq : Request} {s : State} (hroute : rq.route = .stall 0) (hsec : s.canSec (u8At rq.payload 0) = false)
  (hoff : s.fnOff 0 3 (u8At rq.payload 0) = false)
include hroute hsec hoff

theorem ownCanSetCreate_of_free (hfree : s.bus.sets.any (fun e => e.1 / 128 = u8At rq.payload 0
      && e.1 % 128 < u8At rq.payload 1 + u8At rq.payload 2 && u8At rq.payload 1 < e.1 % 128 + e.2.count) = false)
    (hroom : s.roomFor 2 (u8At rq.payload 0) 0 false (u8At rq.payload 2) (u8At rq.payload 3) = true)
    (hblock : (s.block (0x20 + u8At rq.payload 0)).st ≠ .off) :
    ownCanSetCreate rq s = (s.canSetGranted rq, {
      handle := some (mkHandle 2 0 (s.genOf 2 (u8At rq.payload 0 * 128 + u8At rq.payload 1)) (u8At rq.payload 0 * 128 + u8At rq.payload 1))
      payload := leBytes 8 (0x12000000 + u8At rq.payload 0 * 0x10000 + 0x4000 + u8At rq.payload 1 * 0x100) }) := by
  have hon : s.blockIsOff (0x20 + u8At rq.payload 0) = false := decide_eq_false hblock
  simp only [ownCanSetCreate, s.issuerInst_of_manager hroute, Request.isSec_of_manager hroute, hsec, State.fnOffFor, hoff, hfree, hroom, hon, objAddr, State.canSetGranted,
    Bool.false_eq_true, Bool.and_false, false_and, not_true_eq_false, or_self, if_false]

theorem ownCanSetCreate_of_overlap (hfree : s.bus.sets.any (fun e => e.1 / 128 = u8At rq.payload 0
      && e.1 % 128 < u8At rq.payload 1 + u8At rq.payload 2 && u8At rq.payload 1 < e.1 % 128 + e.2.count) = true) :
    ownCanSetCreate rq s = (s, { st := .busy }) := by
  simp only [ownCanSetCreate, s.issuerInst_of_manager hroute, Request.isSec_of_manager hroute, hsec, State.fnOffFor, hoff, hfree, no,
    Bool.false_eq_true, Bool.and_false, false_and, if_false, if_true]

end SetCreate

/-! ### Recovery -/

theorem ownCanRecover_of_waiting {rq : Request} {s : State} (hroute : rq.route = .stall 0)
    (hst : (s.can (u8At rq.payload 0)).st = .busOffWait) (hmode : (s.can (u8At rq.payload 0)).cfg.mode ≠ 2) :
    ownCanRecover rq s = ((s.updCan (u8At rq.payload 0) (fun c => { c with recov := 0 })).canGoto (u8At rq.payload 0) .recovering, {}) := by
  have hissuer : Route.issuer (.stall 0) ≠ .gst := by decide
  simp only [ownCanRecover, State.holdsOn, hroute, hissuer, hst, hmode, ne_eq, not_false_eq_true, decide_true, Bool.true_or,
    not_true_eq_false, if_false, and_self, if_true, yes]

theorem ownCanRecover_of_other {rq : Request} {s : State} (hroute : rq.route = .stall 0)
    (hst : (s.can (u8At rq.payload 0)).st ≠ .busOffWait) : ownCanRecover rq s = (s, {}) := by
  have hissuer : Route.issuer (.stall 0) ≠ .gst := by decide
  simp only [ownCanRecover, State.holdsOn, hroute, hissuer, hst, ne_eq, not_false_eq_true, decide_true, Bool.true_or,
    not_true_eq_false, if_false, false_and, yes]

theorem does_canRecessiveSequence {s : State} {n : Nat} (hn : n < 16) (hst : (s.can n).st = .recovering) :
    Does (.canRecessiveSequence n) s (if ((s.can n).recov + 1).toNat < 128 then s.updCan n (fun c => { c with recov := (s.can n).recov + 1 })
      else ((s.updCan n (fun c => { c with recov := (s.can n).recov + 1 })).updCan n (fun c =>
        { c with tec := 0, rec_ := 0 })).canGoto n .active) := by
  have hrow : exec (.canRecessiveSequence n) s = execCanRecessiveSequence n s := rfl
  simp only [Does, hrow, execCanRecessiveSequence, Nat.not_le.mpr hn, hst, ne_eq, not_true_eq_false, if_false]
  split <;> rfl

end Sys2Proof.Machine

namespace Sys2Proof.Proofs

open Sys2Proof Sys2Proof.Machine

/-- Settles O46: requests by their own parts, a configuration by whether it enables the channel, and recovery by the count of the sequences. -/
theorem canChannelsAndSets : Obligations.CanChannelsAndSets := by
  refine ⟨?set, ?config, ?apply, ?recover, ?sequence, ?wake⟩
  case set =>
    rintro rq s u rfl htakes hroute chan first count hsec hoff
    refine ⟨fun hfree hroom hblock => ?_, fun hbusy => ?_⟩
    · refine ⟨_, replies_of_own (exec_canSetCreate_of_manager hroute s) htakes (ownCanSetCreate_of_free hroute hsec hoff hfree hroom hblock), fun m => ?_, fun k hk => ?_, ?_, ?_, rfl⟩
      · exact State.zeroObjs_canObj _ _ _ _ m
      · exact State.zeroObjs_can_ne _ _ _ hk
      · exact Tab.get_put_same _ _ _ _
      · exact State.hCreate_hLive_isSome _ _ _ _ _ _ _
    · exact replies_of_own (exec_canSetCreate_of_manager hroute s) htakes (ownCanSetCreate_of_overlap hroute hsec hoff hbusy)
  case config =>
    intro rq s htakes hroute
    exact replies_of_own rfl htakes (by simp only [ownCanChannelConfig, Request.isSec_of_manager hroute, Bool.false_eq_true, false_and, if_false, yes]; rfl)
  case apply =>
    intro s n g hn hnext htx hrx hblock
    refine ⟨_, does_canConfigApply hn hnext htx hrx hblock, ?_⟩
    rcases s.canApply_cases n g with ⟨hen, happly⟩ | ⟨hen, happly⟩ | ⟨hst, hen, happly⟩
    all_goals
      rw [happly, State.canGone_can_same]
      refine ⟨rfl, rfl, ?_, ?_, s.canGone_frame n g _ _⟩
    · exact fun _ => rfl
    · exact fun h => absurd (hen.symm.trans h) Bool.false_ne_true
    · exact fun h => absurd (h.symm.trans hen) Bool.false_ne_true
    · exact fun _ _ => ⟨rfl, rfl, rfl, rfl⟩
    · exact fun h => absurd (h.symm.trans hen) Bool.false_ne_true
    · intro _ hlive
      rcases hst with hst | hst <;> simp [hst] at hlive
  case recover =>
    rintro rq s u n rfl htakes hroute rfl
    refine ⟨fun hst hmode => ⟨_, replies_of_own rfl htakes (ownCanRecover_of_waiting hroute hst hmode), ?_, ?_, fun k hk => ?_⟩, fun hst =>
      replies_of_own rfl htakes (ownCanRecover_of_other hroute hst)⟩
    · rw [State.canGoto_can_same]
    · rw [State.canGoto_can_same, State.can_updCan, if_pos rfl]
    · rw [State.canGoto_can_ne _ _ hk, State.can_updCan, if_neg hk]
  case sequence =>
    intro s n hn
    refine ⟨fun hst => ⟨_, does_canRecessiveSequence hn hst, fun hfew => ?_, fun hlast => ?_, fun k hk => ?_⟩, ?_⟩
    · rw [if_pos (by bv_omega), State.can_updCan, if_pos rfl]
    · rw [if_neg (by rw [hlast]; decide), State.canGoto_can_same, State.can_updCan, if_pos rfl]
      exact ⟨rfl, rfl, rfl⟩
    · split
      · rw [State.can_updCan, if_neg hk]
      · rw [State.canGoto_can_ne _ _ hk, State.can_updCan, if_neg hk, State.can_updCan, if_neg hk]
    · exact if_neg (Nat.not_le.mpr hn)
  case wake => exact serves_of_own (fun _ _ => rfl) fun rq u _ => rfl

end Sys2Proof.Proofs

/-! SUPPORT. LIN channels: what a row makes of its channel, beside which it changes interrupts alone (R412 to R416, R419). -/

namespace Sys2Proof.Machine

open Sys2Proof

/-! ### A row of one register, of any size -/

/-- A write of n bytes of a number, which passes its port and its checks, has its row's own effect and is answered. -/
theorem State.writeAt_writeX {s : State} {a : Attr} {addr n v : Nat} {own : State → State} (hup : s.fabricUp = true) (hn : n = 1 ∨ n = 4 ∨ n = 8)
    (haddr : addr < 2 ^ 40) (haligned : addr % n = 0) (hport : s.portFree .write (writeX a addr n 0))
    (hok : s.verdict a addr n false true = .ok) : s.writeAt (writeX a addr n v) own = (own s).answered .ok [] := by
  have hto : (writeX a addr n v).addr.toNat = addr := by rw [writeX, BitVec.toNat_ofNat, Nat.mod_eq_of_lt haddr]
  have hlen : (writeX a addr n v).data.length = n := leBytes_length n v
  refine State.writeAt_of_ok hup ?_ hport (by rw [hto, hlen]; exact hok)
  rw [hlen]
  simp only [Xact.fits, hto, Bool.and_eq_true, Bool.or_eq_true, decide_eq_true_eq]
  rcases hn with rfl | rfl | rfl <;> omega

/-- A read of four bytes of an aligned register. -/
theorem State.accessAt_readX {s : State} {a : Attr} {addr : Nat} {own : State → State × Resp × List Byte} (hup : s.fabricUp = true)
    (haddr : addr < 2 ^ 40) (haligned : addr % 4 = 0) (hport : s.portFree .read (readX a addr 4))
    (hok : s.verdict a addr 4 true false = .ok) : s.accessAt (readX a addr 4) .read own = (own s).1.answered (own s).2.1 (own s).2.2 := by
  have hto : (readX a addr 4).addr.toNat = addr := by rw [readX, BitVec.toNat_ofNat, Nat.mod_eq_of_lt haddr]
  exact State.readAt_of_ok hup (Xact.fits_of_aligned (.inl rfl) (hto.symm ▸ haligned)) hport (hto.symm ▸ hok)

/-! ### One channel alone -/

theorem State.lin_of_irqOnly {s t : State} (h : s.irqOnly t) (k : Nat) : t.lin k = s.lin k := by
  rw [State.lin, State.irqOnly_bus h, State.lin]

theorem State.linMsi_irqOnly (s : State) (n : Nat) : s.irqOnly (s.linMsi n) := by
  unfold State.linMsi
  split
  · exact s.msiBind_irqOnly _ _ _
  · exact s.irqOnly_refl

theorem State.linBufMsi_irqOnly (s : State) (n id : Nat) : s.irqOnly (s.linBufMsi n id) := by
  unfold State.linBufMsi
  split
  · exact s.linMsi_irqOnly n
  · exact s.irqOnly_refl

/-- From s to t, channel n becomes l, and nothing else but interrupts changes. -/
def State.linTo (n : Nat) (l : LinCh) (s t : State) : Prop :=
  t.lin n = l ∧ (∀ k, k ≠ n → t.lin k = s.lin k) ∧ t = ({ s with bus := { s.bus with lin := t.bus.lin } } : State).withIrq t

section LinTo

variable {n : Nat} {l : LinCh} {s t : State}

theorem State.linTo_same (h : State.linTo n l s t) : t.lin n = l := h.1
theorem State.linTo_ne (h : State.linTo n l s t) : ∀ k, k ≠ n → t.lin k = s.lin k := h.2.1
theorem State.linTo_can (h : State.linTo n l s t) : t.bus.can = s.bus.can := by rw [h.2.2]; rfl
theorem State.linTo_supply (h : State.linTo n l s t) : t.supply = s.supply := by rw [h.2.2]; rfl

theorem State.linTo_refl (n : Nat) (s : State) : State.linTo n (s.lin n) s s := ⟨rfl, fun _ _ => rfl, rfl⟩

theorem State.linTo_irq {u : State} (h : State.linTo n l s t) (k : t.irqOnly u) : State.linTo n l s u := by
  obtain ⟨hsame, hother, hrest⟩ := h
  refine ⟨(State.lin_of_irqOnly k n).trans hsame, fun m hm => (State.lin_of_irqOnly k m).trans (hother m hm), ?_⟩
  rw [State.irqOnly_bus k]
  unfold State.irqOnly at k
  rw [k, hrest]
  rfl

theorem State.linTo_upd (h : State.linTo n l s t) (f : LinCh → LinCh) : State.linTo n (f l) s (t.updLin n f) := by
  obtain ⟨hsame, hother, hrest⟩ := h
  refine ⟨by rw [State.lin_updLin, if_pos rfl, hsame], fun m hm => by rw [State.lin_updLin, if_neg hm, hother m hm], ?_⟩
  rw [hrest]
  rfl

theorem State.linTo_buf (h : State.linTo n l s t) (id : Nat) (f : LinBuf → LinBuf) :
    State.linTo n { l with bufs := Tab.upd l.bufs id {} f } s (t.updBuf n id f) :=
  State.linTo_upd h fun l => { l with bufs := Tab.upd l.bufs id {} f }

theorem State.linTo_event (h : State.linTo n l s t) (k : Nat) :
    State.linTo n { l with event := l.event ||| bitOf 4 k } s (t.linEvent n k) := by
  have hset := State.linTo_upd h fun l => { l with event := l.event ||| bitOf 4 k }
  simp only [State.linEvent]
  split
  · exact State.linTo_irq hset (State.linMsi_irqOnly _ n)
  · exact hset

theorem State.linTo_bufMsi (h : State.linTo n l s t) (id : Nat) : State.linTo n l s (t.linBufMsi n id) :=
  State.linTo_irq h (t.linBufMsi_irqOnly n id)

/-- A publish response has been sent. -/
theorem State.linTo_sent (h : State.linTo n l s t) (id : Nat) : State.linTo n { l with
    sent := (l.buf id).response id, bufs := Tab.upd l.bufs id {} (fun b => { b with updated := false }) } s (t.linSent n id) :=
  State.linTo_bufMsi (State.linTo_buf (State.linTo_upd h fun l => { l with sent := (l.buf id).response id }) id _) id

/-- A channel goes to sleep. -/
theorem State.linBusSleep_to (n : Nat) (s : State) : State.linTo n { s.lin n with
    st := .busSleep, header := none, goSleep := false, begun := false, event := (s.lin n).event ||| bitOf 4 1 } s (s.linBusSleep n) :=
  State.linTo_event (State.linTo_upd (State.linTo_refl n s) fun l =>
    { l with st := .busSleep, header := none, goSleep := false, begun := false }) 1

end LinTo

/-! ### Buffers -/

theorem LinBuf.bytes_length (b : LinBuf) : b.bytes.length = 8 := by
  rw [LinBuf.bytes, List.length_append, leBytes_length, leBytes_length]

theorem LinBuf.valid_response {b : LinBuf} (id : Nat) (h : b.len ≤ 8) : b.valid id (b.response id) = true := by
  have hlen : (b.bytes.take b.len).length = b.len := by rw [List.length_take, b.bytes_length, Nat.min_eq_left h]
  refine decide_eq_true ?_
  rw [LinBuf.response, List.drop_left' hlen, List.take_left' hlen]

/-- The data bytes of a valid response stand before its checksum. -/
theorem LinBuf.length_of_valid {b : LinBuf} {id : Nat} {d : List Byte} (h : b.valid id d = true) : d.length = b.len + 1 := by
  have hone := congrArg List.length (of_decide_eq_true h)
  rw [List.length_drop, List.length_singleton] at hone
  omega

/-- The two words that eight bytes of data make. -/
theorem LinBuf.put_of_eight (b : LinBuf) {d : List Byte} (h : 8 ≤ d.length) :
    b.put (d.take 8) = { b with lo := BitVec.ofNat 32 (leNat (d.take 4)), hi := BitVec.ofNat 32 (leNat ((d.drop 4).take 4)) } := by
  have hlen : (d.take 8).length = 8 := List.length_take_of_le h
  have hall : (d.take 8).take 8 ++ b.bytes.drop (d.take 8).length = d.take 8 := by
    rw [List.take_take, hlen, List.drop_eq_nil_of_le (Nat.le_of_eq b.bytes_length), List.append_nil, Nat.min_self]
  simp only [LinBuf.put]
  rw [hall, List.take_take, List.drop_take]
  rfl

/-! ### A collision -/

theorem LinCh.collide_frame (l : LinCh) : l.collide.header = l.header ∧ l.collide.bufs = l.bufs ∧ l.collide.event = l.event := by
  unfold LinCh.collide
  split
  · exact ⟨rfl, rfl, rfl⟩
  · cases l.nextTable <;> exact ⟨rfl, rfl, rfl⟩

theorem LinCh.collide_of_same {l : LinCh} (h : l.crt = l.table) : l.collide = l := if_pos h

/-- The collision table runs, and the schedule resumes behind the entry, or at the start of a new content. -/
theorem LinCh.collide_of_other {l : LinCh} (h : l.crt ≠ l.table) : l.collide.table = l.crt
    ∧ (l.nextTable = none → l.collide.resume = some (l.table, l.entry + 1))
    ∧ ∀ t, l.nextTable = some t → l.collide.resume = some (l.table, 0) ∧ l.collide.tables = Tab.put l.tables l.table.toNat t := by
  have hcollide : l.collide = _ := if_neg h
  rw [hcollide]
  cases l.nextTable with
  | none => exact ⟨rfl, fun _ => rfl, fun _ ht => absurd ht (by simp)⟩
  | some u =>
    refine ⟨rfl, fun ht => absurd ht (by simp), ?_⟩
    rintro t ⟨⟩
    exact ⟨rfl, rfl⟩

/-- The channel whose awaited response has collided, before the collision table follows. -/
def LinCh.collided (l : LinCh) (id : Nat) : LinCh := { l with header := none, bufs := Tab.upd l.bufs id {} (fun b => { b with err := 4 }) }

/-! ### The rows of the bus -/

theorem State.answered_lin (s : State) (r : Resp) (d : List Byte) (k : Nat) : (s.answered r d).lin k = s.lin k := rfl

theorem LinCh.buf_upd_ne (l : LinCh) {id j : Nat} (f : LinBuf → LinBuf) (h : j ≠ id) :
    LinCh.buf { l with bufs := Tab.upd l.bufs id {} f } j = l.buf j := Tab.get_upd_ne _ _ _ h

theorem LinCh.buf_upd_same (l : LinCh) (id : Nat) (f : LinBuf → LinBuf) :
    LinCh.buf { l with bufs := Tab.upd l.bufs id {} f } id = f (l.buf id) := Tab.get_upd_same _ _ _ _

/-- The channel in the first slot of its selected table. -/
def LinCh.firstSlot (l : LinCh) : LinCh :=
  { l with table := l.sel, entry := 0, begun := true, switch := false, resume := none, jump := false, st := .active, header := none }

/-- The channel that has published a buffer. -/
def LinCh.publishes (l : LinCh) (id : Nat) : LinCh :=
  { l with sent := (l.buf id).response id, bufs := Tab.upd l.bufs id {} (fun b => { b with updated := false }) }

theorem LinCh.publishes_buf (l : LinCh) (id : Nat) : (l.publishes id).buf id = { l.buf id with updated := false } :=
  Tab.get_upd_same l.bufs id {} fun b => { b with updated := false }

/-- The channel that has taken a response into a subscribe buffer. -/
def LinCh.stores (l : LinCh) (id : Nat) (d : List Byte) : LinCh :=
  { l with header := none, bufs := Tab.upd l.bufs id {} (fun b => { (b.put (d.take b.len)).fresh with err := 0 }) }

/-- The channel whose response has failed with an error of its buffer. -/
def LinCh.fails (l : LinCh) (id : Nat) (err : BitVec 3) (k : Nat) : LinCh :=
  { l with header := none, bufs := Tab.upd l.bufs id {} (fun b => { b with err := err }), event := l.event ||| bitOf 4 k }

theorem LinCh.fails_buf_err (l : LinCh) (id : Nat) (err : BitVec 3) (k : Nat) : ((l.fails id err k).buf id).err = err :=
  congrArg LinBuf.err (Tab.get_upd_same l.bufs id {} fun b => { b with err := err })

section Rows

variable {s : State} {n : Nat} (hn : n < 8)
include hn

section SlotStart

variable {e : LinEntry} (hruns : s.linRuns n = true) (hrole : (s.lin n).responder = false) (hsleep : (s.lin n).goSleep = false)
  (hrun : (s.lin n).run = true) (hst : (s.lin n).st = .active ∨ (s.lin n).st = .waking) (hbegun : (s.lin n).begun = false)
  (hentry : Tab.get (s.lin n).tables (s.lin n).sel.toNat [] = e :: (Tab.get (s.lin n).tables (s.lin n).sel.toNat []).tail)
  (hnext : (s.lin n).nextTable = none)
include hruns hrole hsleep hrun hst hbegun hentry hnext

/-- The first slot of a schedule runs entry 0 of the selected table. -/
theorem exec_linSlotStart_first : exec (.linSlotStart n) s =
    let s1 := s.updLin n (fun _ => (s.lin n).firstSlot)
    if e.typ = 2 ∧ ¬ ((s.lin n).buf e.id).updated then fin s1
    else if ((s.lin n).buf e.id).dir = 1 ∧ e.typ ≠ 1 then fin (s1.linSent n e.id)
    else fin (s1.updLin n (fun l => { l with header := some (e.id, e.typ) })) := by
  have hadvance : (s.lin n).advance = { s.lin n with
      table := (s.lin n).sel, entry := 0, begun := true, switch := false, resume := none, jump := false } := by
    simp [LinCh.advance, hbegun, hnext]
  have hfirst : (Tab.get (s.lin n).tables (s.lin n).sel.toNat [])[0]? = some e := by rw [hentry]; rfl
  have hstopped : (s.lin n).st ≠ .stopped := by rcases hst with h | h <;> simp [h]
  have hawake : (s.lin n).st ≠ .busSleep := by rcases hst with h | h <;> simp [h]
  have hsends : s.linRuns n = true ∧ (s.lin n).responder = false ∧ (s.lin n).st ≠ .stopped
      ∧ ((s.lin n).run = true ∨ (s.lin n).goSleep = true) := ⟨hruns, hrole, hstopped, .inl hrun⟩
  refine (if_neg (Nat.not_le.mpr hn)).trans ((if_neg (not_not_intro hsends)).trans ((if_neg (by simp [hsleep])).trans
    ((if_neg hawake).trans ?_)))
  simp only [hadvance, LinCh.entries, hfirst]
  rfl

end SlotStart

/-- A responder takes a header. -/
theorem exec_linHeaderReceived_of_runs {id : Nat} (hid : id < 64) (hruns : s.linRuns n = true) (hrole : (s.lin n).responder = true)
    (hst : (s.lin n).st = .active ∨ (s.lin n).st = .waking) : exec (.linHeaderReceived n id) s =
    let s1 := s.updLin n (fun l => { l with st := .active, header := none })
    if ((s.lin n).buf id).dir = 1 then fin (s1.linSent n id)
    else if ((s.lin n).buf id).dir = 2 then fin (s1.updLin n (fun l => { l with header := some (id, 0) })) else fin s1 :=
  (if_neg (by omega)).trans (if_neg (not_not_intro ⟨hruns, hrole, hst⟩))

theorem does_linBusIdleTimeout (hen : (s.lin n).en = true) (hst : (s.lin n).st = .active ∨ (s.lin n).st = .waking) :
    Does (.linBusIdleTimeout n) s (s.linBusSleep n) :=
  (if_neg (Nat.not_le.mpr hn)).trans (if_pos ⟨hen, hst⟩)

theorem does_linGotoSleepReceived (hen : (s.lin n).en = true) (hst : (s.lin n).st = .active ∨ (s.lin n).st = .waking)
    (hrole : (s.lin n).responder = true) : Does (.linGotoSleepReceived n) s (s.linBusSleep n) :=
  (if_neg (Nat.not_le.mpr hn)).trans (if_pos ⟨hen, hrole, hst⟩)

theorem does_linWakeupDetected (hen : (s.lin n).en = true) (hst : (s.lin n).st = .busSleep) :
    Does (.linWakeupDetected n) s ((s.updLin n (fun l => { l with st := .waking })).linEvent n 2) :=
  (if_neg (Nat.not_le.mpr hn)).trans (if_pos ⟨hen, hst⟩)

section Response

variable {id typ : Nat} (hheader : (s.lin n).header = some (id, typ))
include hheader

theorem does_linResponseReceived (d : List Byte) : Does (.linResponseReceived n d) s (s.linJudge n id d) := by
  refine (if_neg (Nat.not_le.mpr hn)).trans ?_
  rw [hheader]
  rfl

theorem exec_linResponseError_checksum (d : List Byte) :
    exec (.linResponseError n (.checksum d)) s = exec (.linResponseReceived n d) s := by
  rw [show exec (.linResponseReceived n d) s = _ from does_linResponseReceived hn hheader d]
  refine (if_neg (Nat.not_le.mpr hn)).trans ?_
  rw [hheader]
  rfl

theorem does_linResponseError_framing : ∃ t, Does (.linResponseError n .framing) s t ∧ State.linTo n ((s.lin n).fails id 3 0) s t := by
  refine ⟨_, (if_neg (Nat.not_le.mpr hn)).trans (by rw [hheader]; rfl), ?_⟩
  exact State.linTo_event (State.linTo_buf (State.linTo_upd (State.linTo_refl n s) fun l => { l with header := none }) id _) 0

theorem does_linResponseError_collision (htyp : typ ≠ 1) :
    ∃ t, Does (.linResponseError n .collision) s t ∧ State.linTo n ((s.lin n).fails id 4 0) s t := by
  refine ⟨_, (if_neg (Nat.not_le.mpr hn)).trans (by rw [hheader]; exact if_neg htyp), ?_⟩
  exact State.linTo_event (State.linTo_buf (State.linTo_upd (State.linTo_refl n s) fun l => { l with header := none }) id _) 0

/-- On an event-triggered entry the collision table follows. -/
theorem does_linResponseError_collision_event (htyp : typ = 1) : ∃ t, Does (.linResponseError n .collision) s t
    ∧ State.linTo n { ((s.lin n).collided id).collide with event := ((s.lin n).collided id).collide.event ||| bitOf 4 3 } s t := by
  refine ⟨_, (if_neg (Nat.not_le.mpr hn)).trans (by rw [hheader]; exact if_pos htyp), ?_⟩
  exact State.linTo_event (State.linTo_upd (State.linTo_buf (State.linTo_upd (State.linTo_refl n s) fun l =>
    { l with header := none }) id _) LinCh.collide) 3

theorem does_linNoResponse : ∃ t, Does (.linNoResponse n) s t
    ∧ State.linTo n { (s.lin n).fails id 1 0 with noResp := satInc (s.lin n).noResp } s t := by
  refine ⟨_, (if_neg (Nat.not_le.mpr hn)).trans (by rw [hheader]; rfl), ?_⟩
  exact State.linTo_event (State.linTo_buf (State.linTo_upd (State.linTo_refl n s) fun l =>
    { l with header := none, noResp := satInc l.noResp }) id _) 0

end Response

end Rows

/-! ### The judgement of a response -/

section Judge

variable {s : State} {n id : Nat} {d : List Byte}

theorem State.linJudge_ignores (h : ((s.lin n).buf id).dir ≠ 2) :
    s.linJudge n id d = s.updLin n (fun l => { l with header := none }) := if_pos h

theorem State.linJudge_stores (h : ((s.lin n).buf id).dir = 2) (hvalid : ((s.lin n).buf id).valid id d = true) :
    State.linTo n ((s.lin n).stores id d) s (s.linJudge n id d) := by
  have hjudge : s.linJudge n id d = ((s.updLin n (fun l => { l with header := none })).updBuf n id (fun b =>
      { (b.put (d.take b.len)).fresh with err := 0 })).linBufMsi n id := (if_neg (not_not_intro h)).trans (if_pos hvalid)
  rw [hjudge]
  exact State.linTo_bufMsi (State.linTo_buf (State.linTo_upd (State.linTo_refl n s) fun l => { l with header := none }) id _) id

theorem State.linJudge_fails (h : ((s.lin n).buf id).dir = 2) (hvalid : ((s.lin n).buf id).valid id d = false) :
    State.linTo n { (s.lin n).fails id 2 0 with checksum := satInc (s.lin n).checksum } s (s.linJudge n id d) := by
  have hjudge : s.linJudge n id d = (((s.updLin n (fun l => { l with header := none })).updBuf n id (fun b =>
      { b with err := 2 })).updLin n (fun l => { l with checksum := satInc l.checksum })).linEvent n 0 :=
    (if_neg (not_not_intro h)).trans (if_neg (by simp [hvalid]))
  rw [hjudge]
  exact State.linTo_event (State.linTo_upd (State.linTo_buf (State.linTo_upd (State.linTo_refl n s) fun l => { l with header := none }) id _)
    fun l => { l with checksum := satInc l.checksum }) 0

end Judge

theorem LinCh.stores_buf (l : LinCh) (id : Nat) (d : List Byte) :
    (l.stores id d).buf id = { ((l.buf id).put (d.take (l.buf id).len)).fresh with err := 0 } :=
  Tab.get_upd_same l.bufs id {} fun b => { (b.put (d.take b.len)).fresh with err := 0 }

theorem LinCh.stores_buf_ne (l : LinCh) {id j : Nat} (d : List Byte) (h : j ≠ id) : (l.stores id d).buf j = l.buf j :=
  Tab.get_upd_ne l.bufs {} (fun b => { (b.put (d.take b.len)).fresh with err := 0 }) h

/-! ### The page -/

/-- A field below a bit adds to what stands from that bit on. -/
theorem or_toNat_of_lt {x y : U32} {i k : Nat} (hx : x.toNat < 2 ^ i) (hy : y.toNat = 2 ^ i * k) : (x ||| y).toNat = x.toNat + y.toNat := by
  rw [BitVec.toNat_or, hy, Nat.or_comm, ← Nat.two_pow_add_eq_or_of_lt hx, Nat.add_comm]

theorem LinCh.word_stat (l : LinCh) {id : Nat} (hid : id < 64) : (l.word (0x404 + id * 0x10)).toNat =
    (l.buf id).seq.toNat + (if (l.buf id).updated then 65536 else 0) + (l.buf id).err.toNat * 131072 := by
  have hword : l.word (0x404 + id * 0x10)
      = fieldAt (l.buf id).seq 0 ||| flagAt (l.buf id).updated 16 ||| fieldAt (l.buf id).err 17 := by
    have hbuf : (0x404 + id * 0x10 - 0x400) / 0x10 = id := by omega
    have hk : (0x404 + id * 0x10) % 0x10 = 4 := by omega
    rw [LinCh.word, if_neg (by omega), if_neg (by omega), if_neg (by omega), if_neg (by omega), if_neg (by omega), if_neg (by omega),
      if_pos (by omega), hbuf, hk]
    rfl
  have hseq : (fieldAt (l.buf id).seq 0).toNat = (l.buf id).seq.toNat := by
    rw [fieldAt, BitVec.toNat_ofNat]; omega
  have herr : (fieldAt (l.buf id).err 17).toNat = (l.buf id).err.toNat * 131072 := by
    rw [fieldAt, BitVec.toNat_ofNat]; omega
  have hflag : (flagAt (l.buf id).updated 16).toNat = if (l.buf id).updated then 65536 else 0 := by
    cases (l.buf id).updated <;> rfl
  have hlow : (fieldAt (l.buf id).seq 0 ||| flagAt (l.buf id).updated 16).toNat
      = (l.buf id).seq.toNat + if (l.buf id).updated then 65536 else 0 := by
    rw [or_toNat_of_lt (i := 16) (k := if (l.buf id).updated then 1 else 0) (by omega) (by rw [hflag]; split <;> rfl), hseq, hflag]
  rw [hword, or_toNat_of_lt (i := 17) (k := (l.buf id).err.toNat) (by rw [hlow]; split <;> omega) (by omega), hlow, herr]

/-- A whole write of DATA_HI. -/
theorem State.linPut_hi (s : State) (n : Nat) {id : Nat} (hid : id < 64) (v : U32) : s.linPut n (0x40C + id * 0x10) v 0xFFFFFFFF =
    if ((s.lin n).buf id).dir = 2 then s
    else s.updBuf n id (fun b => if b.dir = 1 then { b with hi := v }.fresh else { b with hi := v }) := by
  have hbuf : (0x40C + id * 0x10 - 0x400) / 0x10 = id := by omega
  have hk : (0x40C + id * 0x10) % 0x10 = 0xC := by omega
  have hmix (old : U32) : mix old v 0xFFFFFFFF = v := mix_allOnes old v
  rw [State.linPut, if_neg (by omega), if_neg (by omega), if_neg (by omega), if_neg (by omega), if_pos (by omega), hbuf, hk]
  simp only [hmix]
  rfl

theorem State.linRead_stat (s : State) (n : Nat) {id : Nat} (hid : id < 64) :
    s.linRead n (0x404 + id * 0x10) = s.updBuf n id (fun b => { b with updated := false }) := by
  have hbuf : (0x404 + id * 0x10 - 0x400) / 0x10 = id := by omega
  rw [State.linRead, if_pos (by omega), hbuf]

section Accesses

variable {s : State} {n : Nat} {a : Attr} (hn : n < 8) (hsends : s.sends a) (hup : s.fabricUp = true)
include hn hsends hup

theorem does_linFrmDataHiWrite {id : Nat} (v : U32) (hid : id < 64)
    (hport : s.portFree .write (writeX a (0x13200000 + n * 0x1000 + 0x40C + id * 0x10) 4 0))
    (hok : s.verdict a (0x13200000 + n * 0x1000 + 0x40C + id * 0x10) 4 false true = .ok) :
    Does (.linFrmDataHiWrite n id a v) s ((s.linPut n (0x40C + id * 0x10) v 0xFFFFFFFF).answered .ok []) :=
  (if_neg (by omega)).trans ((State.issue_of_sends _ hsends).trans
    (congrArg fin (State.writeAt_writeX hup (.inr (.inl rfl)) (by unfold linAddr; omega) (by unfold linAddr; omega) hport hok)))

theorem does_linFrmStatRead {id : Nat} (hid : id < 64)
    (hport : s.portFree .read (readX a (0x13200000 + n * 0x1000 + (0x404 + id * 0x10)) 4))
    (hok : s.verdict a (0x13200000 + n * 0x1000 + (0x404 + id * 0x10)) 4 true false = .ok) :
    Does (.linFrmStatRead n id a) s ((s.linRead n (0x404 + id * 0x10)).answered .ok
      (leBytes 4 ((s.lin n).word (0x404 + id * 0x10)).toNat)) :=
  (if_neg (by omega)).trans ((State.issue_of_sends _ hsends).trans
    (congrArg fin (State.accessAt_readX hup (by unfold linAddr; omega) (by unfold linAddr; omega) hport hok)))

section Ctrl

variable (hport : s.portFree .write (writeX a (0x13200000 + n * 0x1000 + 4) 1 0))
  (hok : s.verdict a (0x13200000 + n * 0x1000 + 4) 1 false true = .ok)
include hport hok

theorem does_linGotoSleepWrite : Does (.linGotoSleepWrite n a) s ((s.linCtrl n 8 8).answered .ok []) :=
  (if_neg (by omega)).trans ((State.issue_of_sends _ hsends).trans
    (congrArg fin (State.writeAt_writeX hup (.inl rfl) (by unfold linAddr; omega) (Nat.mod_one _) hport hok)))

theorem does_linWakeWrite : Does (.linWakeWrite n a) s ((s.linCtrl n 16 16).answered .ok []) :=
  (if_neg (by omega)).trans ((State.issue_of_sends _ hsends).trans
    (congrArg fin (State.writeAt_writeX hup (.inl rfl) (by unfold linAddr; omega) (Nat.mod_one _) hport hok)))

theorem does_linSchedSelWrite (v : BitVec 2) : Does (.linSchedSelWrite n a v) s ((s.linCtrl n (fieldAt v 0) 3).answered .ok []) :=
  (if_neg (by omega)).trans ((State.issue_of_sends _ hsends).trans
    (congrArg fin (State.writeAt_writeX hup (.inl rfl) (by unfold linAddr; omega) (Nat.mod_one _) hport hok)))

end Ctrl

end Accesses

/-- The channel after a write of LIN_CTRL, before a wake-up pulse. -/
def LinCh.ctrl (l : LinCh) (v m : U32) : LinCh :=
  let w := mix (l.word 0x004) v m
  { l with
    sel := w.extractLsb' 0 2
    switch := l.switch || (l.run && m.getLsbD 0)
    run := w.getLsbD 2 && !l.responder
    begun := l.begun && w.getLsbD 2
    goSleep := l.goSleep || ((v &&& m).getLsbD 3 && !l.responder && l.en) }

theorem State.linCtrl_eq (s : State) (n : Nat) (v m : U32) : s.linCtrl n v m =
    if (v &&& m).getLsbD 4 then (s.updLin n (fun l => l.ctrl v m)).linPulse n else s.updLin n (fun l => l.ctrl v m) := rfl

theorem State.linCtrl_of_no_wake (s : State) (n : Nat) {v m : U32} (h : (v &&& m).getLsbD 4 = false) :
    State.linTo n ((s.lin n).ctrl v m) s (s.linCtrl n v m) := by
  rw [State.linCtrl_eq, h]
  exact State.linTo_upd (State.linTo_refl n s) fun l => l.ctrl v m

/-- A wake-up pulse of a channel that runs. -/
def LinCh.wakes (l : LinCh) : LinCh :=
  if l.en && l.st ≠ .stopped then { l with pulses := l.pulses + 1, st := if l.st = .busSleep then .waking else l.st } else l

theorem LinCh.wakes_of_asleep {l : LinCh} (hen : l.en = true) (hst : l.st = .busSleep) :
    l.wakes.st = .waking ∧ l.wakes.pulses = l.pulses + 1 := by
  simp [LinCh.wakes, hen, hst]

theorem LinCh.wakes_bufs (l : LinCh) : l.wakes.bufs = l.bufs := by
  unfold LinCh.wakes
  split <;> rfl

theorem State.linTo_pulse {n : Nat} {l : LinCh} {s t : State} (h : State.linTo n l s t) : State.linTo n l.wakes s (t.linPulse n) := by
  simp only [State.linPulse, State.linTo_same h, LinCh.wakes]
  split
  · exact State.linTo_upd h fun l => { l with pulses := l.pulses + 1, st := if l.st = .busSleep then .waking else l.st }
  · exact h

theorem State.linCtrl_of_wake (s : State) (n : Nat) {v m : U32} (h : (v &&& m).getLsbD 4 = true) :
    State.linTo n ((s.lin n).ctrl v m).wakes s (s.linCtrl n v m) := by
  rw [State.linCtrl_eq, h]
  exact State.linTo_pulse (State.linTo_upd (State.linTo_refl n s) fun l => l.ctrl v m)

/-- The two bits of SCHED_SEL are those written. -/
theorem mix_sel (old : U32) (v : BitVec 2) : (mix old (fieldAt v 0) 3).extractLsb' 0 2 = v := by
  have hv (i : Nat) (hi : i < 32) : (fieldAt v 0).getLsbD i = v.getLsbD i := by simp [fieldAt, hi]
  refine BitVec.eq_of_getLsbD_eq fun i hi => ?_
  have h3 : (3 : U32).getLsbD i = true := by interval_cases i <;> rfl
  rw [BitVec.getLsbD_extractLsb', mix, Nat.zero_add, BitVec.getLsbD_or, BitVec.getLsbD_and, BitVec.getLsbD_and, BitVec.getLsbD_not, h3,
    hv i (by omega)]
  simp [hi]

/-! ### Requests -/

/-- The state after LIN_CREATE of the manager has been granted its channel. -/
def State.linGranted (s : State) (rq : Request) : State :=
  (s.hCreate 3 (u8At rq.payload 0) 0 false (bindAt rq.payload 8) (u8At rq.payload 0, 1, 0)).updLin (u8At rq.payload 0) (fun l => { l with
    en := true, responder := u8At rq.payload 1 = 1, rate := u32At rq.payload 4, run := l.run && u8At rq.payload 1 = 0, halted := false
    st := if l.st = .stopped then .active else l.st })

theorem State.linGranted_lin {rq : Request} {s : State} (hst : (s.lin (u8At rq.payload 0)).st = .stopped) :
    (s.linGranted rq).lin (u8At rq.payload 0) = { s.lin (u8At rq.payload 0) with
      en := true, responder := decide (u8At rq.payload 1 = 1), rate := u32At rq.payload 4
      run := (s.lin (u8At rq.payload 0)).run && decide (u8At rq.payload 1 = 0), halted := false, st := .active } := by
  rw [State.linGranted, State.lin_updLin, if_pos rfl]
  exact congrArg (fun st => ({ s.lin (u8At rq.payload 0) with
      en := true, responder := decide (u8At rq.payload 1 = 1), rate := u32At rq.payload 4
      run := (s.lin (u8At rq.payload 0)).run && decide (u8At rq.payload 1 = 0), halted := false, st := st } : LinCh)) (if_pos hst)

theorem exec_linCreate_of_manager {rq : Request} (hroute : rq.route = .stall 0) (s : State) :
    exec (.linCreate rq) s = serve specLinCreate rq s (s.okLinCreate 0 false) (ownLinCreate rq) := by
  rw [← Request.isSec_of_manager hroute, ← s.issuerInst_of_manager hroute]
  rfl

section Create

variable {rq : Request} {s : State} (hroute : rq.route = .stall 0) (hsec : s.linSec (u8At rq.payload 0) = false)
  (hoff : s.fnOff 0 4 (u8At rq.payload 0) = false)
include hroute hsec hoff

theorem ownLinCreate_of_free (hnone : s.hFind 3 (u8At rq.payload 0) = none) (hroom : s.linRoom (u8At rq.payload 0) 0 = true)
    (hblock : (s.block (0x30 + u8At rq.payload 0)).st ≠ .off) :
    ownLinCreate rq s = (s.linGranted rq, {
      handle := some (mkHandle 3 0 (s.genOf 3 (u8At rq.payload 0)) (u8At rq.payload 0))
      payload := leBytes 8 (0x13200000 + u8At rq.payload 0 * 0x1000) }) := by
  have hon : s.blockIsOff (0x30 + u8At rq.payload 0) = false := decide_eq_false hblock
  simp only [ownLinCreate, s.issuerInst_of_manager hroute, Request.isSec_of_manager hroute, hsec, State.fnOffFor, hoff, hnone, hroom, hon,
    linAddr, State.linGranted, Option.isSome_none, Bool.false_eq_true, Bool.and_false, false_and, not_true_eq_false, or_self, if_false]

theorem ownLinCreate_of_taken (hsome : (s.hFind 3 (u8At rq.payload 0)).isSome = true) : ownLinCreate rq s = (s, { st := .busy }) := by
  simp only [ownLinCreate, s.issuerInst_of_manager hroute, Request.isSec_of_manager hroute, hsec, State.fnOffFor, hoff, hsome, no,
    Bool.false_eq_true, Bool.and_false, false_and, if_false, if_true]

end Create

section ScheduleSet

variable {rq : Request} {s : State} (hoff : s.linOff (hIndex rq.handle) = false)
include hoff

theorem ownLinScheduleSet_running (h : (s.lin (hIndex rq.handle)).run = true ∧ (s.lin (hIndex rq.handle)).begun = true
      ∧ (s.lin (hIndex rq.handle)).table.toNat = u8At rq.payload 0) :
    ownLinScheduleSet rq s = (s.updLin (hIndex rq.handle) (fun l => { l with nextTable := some (linEntries rq.payload) }), {}) :=
  (if_neg (by simp [hoff])).trans (if_pos h)

theorem ownLinScheduleSet_other (h : (s.lin (hIndex rq.handle)).run = false ∨ (s.lin (hIndex rq.handle)).table.toNat ≠ u8At rq.payload 0) :
    ownLinScheduleSet rq s = (s.updLin (hIndex rq.handle) (fun l => { l with
      tables := Tab.put l.tables (u8At rq.payload 0) (linEntries rq.payload) }), {}) := by
  refine (if_neg (by simp [hoff])).trans (if_neg ?_)
  rintro ⟨hrun, -, htable⟩
  rcases h with h | h
  · exact absurd (h.symm.trans hrun) Bool.false_ne_true
  · exact h htable

end ScheduleSet

end Sys2Proof.Machine

namespace Sys2Proof.Proofs

open Sys2Proof Sys2Proof.Machine

/-- Settles O47: each row by what it makes of its channel. -/
theorem linBus : Obligations.LinBus := by
  refine ⟨⟨?slot, ?header, ?response⟩, fun b id => LinBuf.valid_response id, ?states, ?words, ?ctrl, ?create, ?schedule⟩
  case slot =>
    intro s n e hn hruns hrole hsleep hrun hst hbegun hentry hnext
    have hexec := exec_linSlotStart_first hn hruns hrole hsleep hrun hst hbegun hentry hnext
    have hfirst := State.linTo_upd (State.linTo_refl n s) fun _ => (s.lin n).firstSlot
    by_cases hsilent : e.typ = 2 ∧ ¬ ((s.lin n).buf e.id).updated
    · refine ⟨_, hexec.trans (if_pos hsilent), ?_⟩
      rw [State.linTo_same hfirst]
      exact ⟨rfl, rfl, rfl, rfl, fun _ _ => ⟨rfl, rfl⟩, fun h => absurd h (by omega), fun h => absurd h (by omega),
        State.linTo_ne hfirst, State.linTo_can hfirst, State.linTo_supply hfirst⟩
    · by_cases hpublish : ((s.lin n).buf e.id).dir = 1 ∧ e.typ ≠ 1
      · have hsent := State.linTo_sent hfirst e.id
        refine ⟨_, hexec.trans ((if_neg hsilent).trans (if_pos hpublish)), ?_⟩
        rw [State.linTo_same hsent]
        exact ⟨rfl, rfl, rfl, rfl, fun h hnot => absurd ⟨h, by simp [hnot]⟩ hsilent,
          fun _ _ => ⟨rfl, (s.lin n).firstSlot.publishes_buf e.id, rfl⟩, fun _ h => absurd hpublish.1 h,
          State.linTo_ne hsent, State.linTo_can hsent, State.linTo_supply hsent⟩
      · have hawaits := State.linTo_upd hfirst fun l => { l with header := some (e.id, e.typ) }
        refine ⟨_, hexec.trans ((if_neg hsilent).trans (if_neg hpublish)), ?_⟩
        rw [State.linTo_same hawaits]
        exact ⟨rfl, rfl, rfl, rfl, fun h hnot => absurd ⟨h, by simp [hnot]⟩ hsilent, fun h hdir => absurd ⟨hdir, by omega⟩ hpublish,
          fun h _ => ⟨by rw [h], rfl⟩, State.linTo_ne hawaits, State.linTo_can hawaits, State.linTo_supply hawaits⟩
  case header =>
    intro s n id hn hid hruns hrole hst
    have hexec := exec_linHeaderReceived_of_runs hn hid hruns hrole hst
    have hbegin := State.linTo_upd (State.linTo_refl n s) fun l => { l with st := .active, header := none }
    by_cases h1 : ((s.lin n).buf id).dir = 1
    · have hsent := State.linTo_sent hbegin id
      refine ⟨_, hexec.trans (if_pos h1), ?_⟩
      rw [State.linTo_same hsent]
      exact ⟨rfl, fun _ => ⟨rfl, LinCh.publishes_buf _ id, rfl⟩, fun h => absurd (h1.symm.trans h) (by decide), fun h => absurd h1 h,
        State.linTo_ne hsent⟩
    · by_cases h2 : ((s.lin n).buf id).dir = 2
      · have hawaits := State.linTo_upd hbegin fun l => { l with header := some (id, 0) }
        refine ⟨_, hexec.trans ((if_neg h1).trans (if_pos h2)), ?_⟩
        rw [State.linTo_same hawaits]
        exact ⟨rfl, fun h => absurd h h1, fun _ => ⟨rfl, rfl⟩, fun _ h => absurd h2 h, State.linTo_ne hawaits⟩
      · refine ⟨_, hexec.trans ((if_neg h1).trans (if_neg h2)), ?_⟩
        rw [State.linTo_same hbegin]
        exact ⟨rfl, fun h => absurd h h1, fun h => absurd h h2, fun _ _ => ⟨rfl, rfl⟩, State.linTo_ne hbegin⟩
  case response =>
    intro s n id typ hn hheader
    refine ⟨fun d hdir hvalid => ?stores, exec_linResponseError_checksum hn hheader, fun d hdir => ?ignores, fun d hdir hvalid => ?fails,
      ?framing, ?collision, ?silence⟩
    case stores =>
      have hto := State.linJudge_stores hdir hvalid
      refine ⟨_, does_linResponseReceived hn hheader d, ?_⟩
      rw [State.linTo_same hto, LinCh.stores_buf]
      refine ⟨rfl, rfl, rfl, rfl, fun hlen => ?_, fun j hj => LinCh.stores_buf_ne _ d hj, State.linTo_ne hto⟩
      have hlong : 8 ≤ d.length := by rw [LinBuf.length_of_valid hvalid, hlen]; decide
      rw [hlen, LinBuf.put_of_eight _ hlong]
      exact ⟨rfl, rfl⟩
    case ignores =>
      have hdoes := does_linResponseReceived hn hheader d
      rw [State.linJudge_ignores hdir] at hdoes
      exact hdoes
    case fails =>
      have hto := State.linJudge_fails hdir hvalid
      refine ⟨_, does_linResponseReceived hn hheader d, ?_⟩
      rw [State.linTo_same hto]
      exact ⟨rfl, LinCh.fails_buf_err _ id 2 0, rfl, rfl, State.linTo_ne hto⟩
    case framing =>
      obtain ⟨t, hdoes, hto⟩ := does_linResponseError_framing hn hheader
      refine ⟨t, hdoes, ?_⟩
      rw [State.linTo_same hto]
      exact ⟨rfl, LinCh.fails_buf_err _ id 3 0, rfl, State.linTo_ne hto⟩
    case collision =>
      by_cases htyp : typ = 1
      · obtain ⟨t, hdoes, hto⟩ := does_linResponseError_collision_event hn hheader htyp
        refine ⟨t, hdoes, ?_⟩
        obtain ⟨hheader', hbufs, hevent⟩ := ((s.lin n).collided id).collide_frame
        rw [State.linTo_same hto]
        refine ⟨hheader', (congrArg (fun b : Tab LinBuf => (Tab.get b id {}).err) hbufs).trans ((s.lin n).fails_buf_err id 4 0),
          fun h => absurd htyp h, fun _ => ⟨congrArg (· ||| bitOf 4 3) hevent, fun hsame => ?_, fun hother => LinCh.collide_of_other hother⟩,
          State.linTo_ne hto⟩
        have hkept : ((s.lin n).collided id).collide = (s.lin n).collided id := LinCh.collide_of_same hsame
        rw [hkept]
        rfl
      · obtain ⟨t, hdoes, hto⟩ := does_linResponseError_collision hn hheader htyp
        refine ⟨t, hdoes, ?_⟩
        rw [State.linTo_same hto]
        exact ⟨rfl, LinCh.fails_buf_err _ id 4 0, fun _ => ⟨rfl, rfl⟩, fun h => absurd h htyp, State.linTo_ne hto⟩
    case silence =>
      obtain ⟨t, hdoes, hto⟩ := does_linNoResponse hn hheader
      refine ⟨t, hdoes, ?_⟩
      rw [State.linTo_same hto]
      exact ⟨rfl, LinCh.fails_buf_err _ id 1 0, rfl, rfl, State.linTo_ne hto⟩
  case states =>
    intro s n hn hen
    have hsleep := State.linBusSleep_to n s
    refine ⟨fun hst => ⟨⟨_, does_linBusIdleTimeout hn hen hst, ?_⟩, fun hrole => ⟨_, does_linGotoSleepReceived hn hen hst hrole, ?_⟩⟩,
      fun hst => ⟨_, does_linWakeupDetected hn hen hst, ?_⟩⟩
    · rw [State.linTo_same hsleep]
      exact ⟨rfl, rfl, rfl, rfl, State.linTo_ne hsleep⟩
    · rw [State.linTo_same hsleep]
      exact ⟨rfl, rfl, State.linTo_ne hsleep⟩
    · have hwake := State.linTo_event (State.linTo_upd (State.linTo_refl n s) fun l => { l with st := .waking }) 2
      rw [State.linTo_same hwake]
      exact ⟨rfl, rfl, State.linTo_ne hwake⟩
  case words =>
    intro s n id a v hn hid hsends hup
    refine ⟨fun hport hok => ⟨_, does_linFrmDataHiWrite hn hsends hup v hid hport hok, ?_⟩, fun hport hok =>
      ⟨_, does_linFrmStatRead hn hsends hup hid hport hok, ?_⟩⟩
    · rw [State.linPut_hi s n hid v]
      by_cases h2 : ((s.lin n).buf id).dir = 2
      · rw [if_pos h2]
        exact ⟨fun _ => rfl, fun h => absurd (h2.symm.trans h) (by decide), fun _ _ => rfl, fun _ _ => rfl, rfl⟩
      · rw [if_neg h2]
        have hto := State.linTo_buf (State.linTo_refl n s) id fun b => if b.dir = 1 then { b with hi := v }.fresh else { b with hi := v }
        simp only [State.answered_lin, State.linTo_same hto]
        exact ⟨fun h => absurd h h2, fun h => (LinCh.buf_upd_same _ id _).trans (if_pos h), fun j hj => LinCh.buf_upd_ne _ _ hj,
          State.linTo_ne hto, rfl⟩
    · rw [State.linRead_stat s n hid]
      have hto := State.linTo_buf (State.linTo_refl n s) id fun b => { b with updated := false }
      simp only [State.answered_lin, State.linTo_same hto]
      exact ⟨LinCh.buf_upd_same _ id _, rfl, congrArg (leBytes 4) ((s.lin n).word_stat hid), fun j hj => LinCh.buf_upd_ne _ _ hj,
        State.linTo_ne hto⟩
  case ctrl =>
    intro s n a hn hsends hup hport hok
    refine ⟨⟨_, does_linGotoSleepWrite hn hsends hup hport hok, ?_⟩, ⟨_, does_linWakeWrite hn hsends hup hport hok, ?_⟩, fun v =>
      ⟨_, does_linSchedSelWrite hn hsends hup hport hok v, ?_⟩⟩
    · have hto := s.linCtrl_of_no_wake n (v := 8) (m := 8) rfl
      simp only [State.answered_lin, State.linTo_same hto]
      exact ⟨rfl, rfl, State.linTo_ne hto⟩
    · have hto := s.linCtrl_of_wake n (v := 16) (m := 16) rfl
      simp only [State.answered_lin, State.linTo_same hto]
      exact ⟨fun hen hst => LinCh.wakes_of_asleep hen hst, LinCh.wakes_bufs _, State.linTo_ne hto⟩
    · have hto := s.linCtrl_of_no_wake n (v := fieldAt v 0) (m := 3) (by rw [BitVec.getLsbD_and]; exact Bool.and_false _)
      simp only [State.answered_lin, State.linTo_same hto]
      exact ⟨mix_sel _ v, congrArg ((s.lin n).switch || ·) (Bool.and_true _), rfl, State.linTo_ne hto⟩
  case create =>
    rintro rq s u rfl htakes hroute n hsec hoff
    refine ⟨fun hnone hroom hblock hst => ?_, fun hsome => ?_⟩
    · refine ⟨_, replies_of_own (exec_linCreate_of_manager hroute s) htakes (ownLinCreate_of_free hroute hsec hoff hnone hroom hblock), ?_,
        fun k hk => ?_, State.hCreate_hLive_isSome _ _ _ _ _ _ _, rfl⟩
      · exact State.linGranted_lin hst
      · exact (State.lin_updLin _ _ k _).trans (if_neg hk)
    · exact replies_of_own (exec_linCreate_of_manager hroute s) htakes (ownLinCreate_of_taken hroute hsec hoff hsome)
  case schedule =>
    rintro rq s u rfl htakes hroute n hoff
    refine ⟨fun hrun hbegun htable => ⟨_, replies_of_own rfl htakes (ownLinScheduleSet_running hoff ⟨hrun, hbegun, htable⟩), ?_, fun k hk => ?_, rfl⟩,
      fun hother => ⟨_, replies_of_own rfl htakes (ownLinScheduleSet_other hoff hother), ?_, fun k hk => ?_, rfl⟩⟩
    · rw [State.lin_updLin, if_pos rfl]
    · rw [State.lin_updLin, if_neg hk]
    · rw [State.lin_updLin, if_pos rfl]
    · rw [State.lin_updLin, if_neg hk]

end Sys2Proof.Proofs

/-! SUPPORT. Load channels: what the re-evaluation leaves of the channel itself, and what a trip makes of its protection record
(R470 to R483). -/

namespace Sys2Proof.Machine

open Sys2Proof

/-! ### The channel re-evaluated -/

/-- What the re-evaluation of a channel keeps of it: its protection record but for the inrush window and the hot wire of the last switch-on,
and the commands of the power stage. -/
structure LoadCh.Follows (a b : LoadCh) : Prop where
  prot : b.prot = { a.prot with inrush := b.prot.inrush, wireHot := b.prot.wireHot }
  held : b.held = a.held
  base : b.base = a.base
  baseSrc : b.baseSrc = a.baseSrc

theorem LoadCh.Follows.refl (a : LoadCh) : a.Follows a := ⟨rfl, rfl, rfl, rfl⟩

theorem LoadCh.Follows.trans {a b c : LoadCh} (h : a.Follows b) (k : b.Follows c) : a.Follows c :=
  ⟨by rw [k.prot, h.prot], k.held.trans h.held, k.base.trans h.base, k.baseSrc.trans h.baseSrc⟩

theorem State.dutyStep_follows (s0 s : State) (c : Nat) : (s.load c).Follows ((s0.dutyStep s c).load c) := by
  unfold State.dutyStep
  split
  · exact .refl _
  · rw [State.load_updLoad_same]
    exact ⟨rfl, rfl, rfl, rfl⟩

theorem State.loadStart_follows (s : State) (c : Nat) : (s.load c).Follows ((s.loadStart c).load c) := by
  have hon (fed : Bool) : (s.load c).Follows ((s.updLoad c fun ch => ch.switchOn s.now fed).load c) := by
    rw [State.load_updLoad_same]
    exact ⟨rfl, rfl, rfl, rfl⟩
  unfold State.loadStart
  split
  · exact hon _
  · exact hon _

theorem State.loadSwitch_follows (s : State) (c : Nat) : (s.load c).Follows ((s.loadSwitch c).load c) := by
  unfold State.loadSwitch
  split <;> split
  · exact s.loadStart_follows c
  · exact .refl _
  · exact .refl _
  · rw [State.load_updLoad_same]
    exact ⟨rfl, rfl, rfl, rfl⟩

theorem State.loadDrive_follows (s : State) (c : Nat) : (s.load c).Follows ((s.loadDrive c).load c) := by
  unfold State.loadDrive
  simp only
  split
  · rw [State.load_updLoad_same]
    exact (s.loadSwitch_follows c).trans ⟨rfl, rfl, rfl, rfl⟩
  · exact s.loadSwitch_follows c

theorem State.loadStep_load_same (s0 s : State) (c : Nat) (b : Bool) :
    ((s0.loadStep s c b).load c) = ((s0.dutyStep s c).loadDrive c).load c := by
  unfold State.loadStep
  rw [State.partnerReport_load, State.loadReport_load]

theorem State.loadStep_follows (s0 s : State) (c : Nat) (b : Bool) : (s.load c).Follows ((s0.loadStep s c b).load c) := by
  rw [State.loadStep_load_same]
  exact (s0.dutyStep_follows s c).trans (State.loadDrive_follows _ c)

/-- An output that is on, that its command keeps lit and that no off state holds stays as it is. -/
theorem State.loadDrive_lit {s : State} {c : Nat} (hfree : (s.loadOff c).isNone = true) (hlit : s.cmdLit c = true)
    (hon : (s.load c).drive ≠ .off) : s.loadDrive c = s := by
  have hswitch : s.loadSwitch c = s := by rw [State.loadSwitch, hfree, hlit, Bool.and_self, if_pos rfl, if_neg hon]
  rw [State.loadDrive, hswitch, if_neg hon]

/-- A latch, a retry pause or a hot FET keeps a channel off. -/
theorem State.loadOff_isSome {s : State} {c : Nat}
    (h : (s.load c).prot.latched = true ∨ (s.load c).prot.pausing = true ∨ (s.load c).prot.cooling = true) : (s.loadOff c).isSome = true := by
  unfold State.loadOff
  dsimp only
  cases hrow : s.row1 with
  | true => rfl
  | false =>
    simp only [Bool.false_eq_true, if_false]
    rcases h with h | h | h <;> simp only [h, if_true]
    · rfl
    · split <;> rfl
    · repeat' split
      all_goals rfl

/-! ### The record of a latch -/

theorem State.logNew_mgmtOnly (s0 s : State) (c bits : Nat) : s.mgmtOnly (s0.logNew s c bits) := by
  unfold State.logNew
  simp only
  split
  · exact s.mgmtOnly_refl
  · exact s.log_mgmtOnly _ _

/-- A trip of channel c writes f into it, has it re-evaluated and is recorded. -/
def State.tripped (s : State) (c bits : Nat) (f : LoadCh → LoadCh) : State := s.logNew (s.loadStep (s.updLoad c f) c false) c bits

section Tripped

variable (s : State) (c bits : Nat) (f : LoadCh → LoadCh)

theorem State.tripped_load (k : Nat) : (s.tripped c bits f).load k = (s.loadStep (s.updLoad c f) c false).load k := by
  rw [State.load, State.tripped, State.mgmtOnly_ps (State.logNew_mgmtOnly _ _ _ _), State.load]

theorem State.tripped_ne {k : Nat} (h : k ≠ c) : (s.tripped c bits f).load k = s.load k := by
  rw [State.tripped_load, State.loadStep_load_ne _ _ _ h, State.load_updLoad_ne _ _ h]

theorem State.tripped_supply : (s.tripped c bits f).supply = s.supply := by
  rw [State.tripped, State.mgmtOnly_supply (State.logNew_mgmtOnly _ _ _ _), State.psOnly_supply (State.loadStep_psOnly _ _ _ _)]
  rfl

theorem State.tripped_aon : (s.tripped c bits f).aon = s.aon := by
  rw [State.tripped, State.mgmtOnly_aon (State.logNew_mgmtOnly _ _ _ _), State.psOnly_aon (State.loadStep_psOnly _ _ _ _)]
  rfl

theorem State.tripped_follows : (f (s.load c)).Follows ((s.tripped c bits f).load c) := by
  have h := s.loadStep_follows (s.updLoad c f) c false
  rwa [State.load_updLoad_same, ← s.tripped_load c bits f] at h

theorem State.tripped_prot {p : LoadProt} (h : (f (s.load c)).prot = p) : ((s.tripped c bits f).load c).prot
    = { p with inrush := ((s.tripped c bits f).load c).prot.inrush, wireHot := ((s.tripped c bits f).load c).prot.wireHot } :=
  h ▸ (s.tripped_follows c bits f).prot

theorem State.tripped_off
    (h : (f (s.load c)).prot.latched = true ∨ (f (s.load c)).prot.pausing = true ∨ (f (s.load c)).prot.cooling = true) :
    ((s.tripped c bits f).load c).drive = .off := by
  rw [State.tripped_load]
  refine State.loadStep_off _ _ _ _ (State.loadOff_isSome ?_)
  rwa [State.load_updLoad_same]

end Tripped

/-! ### Protection records -/

/-- Setting latches leaves all but the latches, their time, and the count and pause of a trip in the same cycle. -/
theorem LoadProt.latchNow_eq (p : LoadProt) (bits : Nat) (now : U64) : p.latchNow bits now = { p with
    oc := p.oc || bits.testBit 0, th := p.th || bits.testBit 1, wire := p.wire || bits.testBit 2
    setAt := (p.latchNow bits now).setAt, count := (p.latchNow bits now).count, pausing := (p.latchNow bits now).pausing } := by
  unfold LoadProt.latchNow
  cases p.ocAt with
  | none => rfl
  | some o => dsimp only; split <;> rfl

/-- The over-current latch takes no count back. -/
theorem LoadProt.latchNow_oc (p : LoadProt) (now : U64) :
    (p.latchNow 1 now).oc = true ∧ (p.latchNow 1 now).count = p.count ∧ (p.latchNow 1 now).pausing = p.pausing := by
  unfold LoadProt.latchNow
  cases p.ocAt with
  | none => exact ⟨Bool.or_true _, rfl, rfl⟩
  | some o =>
    dsimp only
    rw [if_neg (fun h => h.2 rfl)]
    exact ⟨Bool.or_true _, rfl, rfl⟩

theorem LoadProt.overcurrent_latches {p : LoadProt} {limit : Nat} {now : U64} (h : limit ≤ min (p.count + 1) 31) :
    (p.overcurrent limit now).oc = true ∧ (p.overcurrent limit now).count = min (p.count + 1) 31
      ∧ (p.overcurrent limit now).pausing = p.pausing ∧ (p.overcurrent limit now).ocTrips = satInc p.ocTrips := by
  simp only [LoadProt.overcurrent, if_pos h]
  refine ⟨(LoadProt.latchNow_oc _ now).1, (LoadProt.latchNow_oc _ now).2.1, (LoadProt.latchNow_oc _ now).2.2, ?_⟩
  rw [LoadProt.latchNow_eq]

theorem LoadProt.overcurrent_pauses {p : LoadProt} {limit : Nat} {now : U64} (h : min (p.count + 1) 31 < limit) :
    p.overcurrent limit now = { p with
      count := min (p.count + 1) 31, ocTrips := satInc p.ocTrips, ocAt := some (now, p.count, p.pausing), pausing := true
      pauseEnd := now + BitVec.ofNat 64 (min (2 ^ (min (p.count + 1) 31 - 1)) 512 * 1000000) } := by
  simp only [LoadProt.overcurrent, if_neg (Nat.not_le.mpr h)]

section Thermal

variable {ch : LoadCh} {k : LoadClass} {temp : Int} {judged : Bool} {now : U64}

theorem LoadCh.thermal_fet : (ch.thermal k temp judged now).fet = temp := by
  unfold LoadCh.thermal
  dsimp only
  split
  · rfl
  · split
    · split
      · rfl
      · rw [LoadProt.latchNow_eq]
    · split <;> rfl

/-- A temperature that counts for no crossing ends a hysteresis at its restart threshold. -/
theorem LoadCh.thermal_below (h : judged = false ∨ temp < ch.thermTrip k) :
    (ch.thermal k temp judged now).cooling = (ch.prot.cooling && decide (1450 < temp)) := by
  have : ¬ judged = true ∨ temp < ch.thermTrip k := by simpa using h
  simp only [LoadCh.thermal, if_pos this]

theorem LoadCh.thermal_latches (hjudged : judged = true) (h : ch.thermTrip k ≤ temp) (hlatch : ch.thermLatches k = true) :
    (ch.thermal k temp judged now).th = true ∧ (ch.thermal k temp judged now).cooling = (ch.prot.cooling && decide (1450 < temp))
      ∧ (ch.prot.th = false → (ch.thermal k temp judged now).thTrips = satInc ch.prot.thTrips) := by
  have : ¬ (¬ judged = true ∨ temp < ch.thermTrip k) := by simp [hjudged]; omega
  simp only [LoadCh.thermal, if_neg this, if_pos hlatch]
  split
  · next hth => exact ⟨hth, rfl, fun hno => absurd hth (by simp [hno])⟩
  · rw [LoadProt.latchNow_eq]
    exact ⟨Bool.or_true _, rfl, fun _ => rfl⟩

theorem LoadCh.thermal_cools (hjudged : judged = true) (h : ch.thermTrip k ≤ temp) (hlatch : ch.thermLatches k = false) :
    (ch.thermal k temp judged now).cooling = true
      ∧ (ch.prot.cooling = false → (ch.thermal k temp judged now).thTrips = satInc ch.prot.thTrips) := by
  have : ¬ (¬ judged = true ∨ temp < ch.thermTrip k) := by simp [hjudged]; omega
  simp only [LoadCh.thermal, if_neg this, hlatch, Bool.false_eq_true, if_false]
  split
  · next hcool => exact ⟨hcool, fun hno => absurd hcool (by simp [hno])⟩
  · exact ⟨rfl, fun _ => rfl⟩

end Thermal

/-- The wire trips at its limit: with its latch not set, and on an output that is on or where the temperature crosses the limit. -/
def LoadCh.wireHits (ch : LoadCh) (t : Int) : Bool :=
  decide ((ch.cfg.tlim : Int) * pico ≤ t) && !ch.prot.wire && (decide (ch.prot.wireTemp < (ch.cfg.tlim : Int) * pico) || ch.lit)

/-- The rise and the temperature that an evaluation stores, and the latch that it leaves. -/
theorem LoadCh.wireEval_frame (ch : LoadCh) (ref : Int) (rms : Nat) (now : U64) :
    (ch.wireEval ref rms now).rise = wireNext ch.prot.rise (if ch.lit then rms else 0) ch.cfg.xsec ch.cfg.tau
      ∧ (ch.wireEval ref rms now).wireTemp = ref + (ch.wireEval ref rms now).rise
      ∧ (ch.wireEval ref rms now).wire = (ch.prot.wire || ch.wireHits (ch.wireEval ref rms now).wireTemp) := by
  cases hhit : ch.wireHits (ref + wireNext ch.prot.rise (if ch.lit then rms else 0) ch.cfg.xsec ch.cfg.tau) with
  | true =>
    have hval : ch.wireEval ref rms now = _ := if_pos hhit
    rw [hval, LoadProt.latchNow_eq]
    exact ⟨rfl, rfl, congrArg (ch.prot.wire || ·) hhit.symm⟩
  | false =>
    have hval : ch.wireEval ref rms now = _ := if_neg (Bool.eq_false_iff.mp hhit)
    rw [hval]
    exact ⟨rfl, rfl, by rw [hhit, Bool.or_false]⟩

/-! ### Classes and conditions -/

theorem tripLevel_of_class (c : Nat) (inrush : Bool) : (loadClass c).tripLevel inrush
    = if c < 12 then (if inrush then 15000 else 10000) else if c < 28 then (if inrush then 6000 else 4000)
      else if c < 52 then (if inrush then 1800 else 1200) else 150 := by
  unfold loadClass
  split
  · rfl
  · split
    · rfl
    · split <;> rfl

theorem LoadCh.thermTrip_of_class (ch : LoadCh) (c : Nat) :
    ch.thermTrip (loadClass c) = if c < 12 then (ch.cfg.thLimit : Int) * 10 else 1700 := by
  unfold LoadCh.thermTrip loadClass
  repeat' split
  all_goals simp_all

theorem LoadCh.thermLatches_of_class (ch : LoadCh) (c : Nat) :
    ch.thermLatches (loadClass c) = true ↔ c < 12 ∨ c < 52 ∧ ch.cfg.thermLatch = true := by
  unfold LoadCh.thermLatches
  by_cases hH : c < 12
  · simp [loadClass, hH]
  · by_cases hL : c < 52
    · have : loadClass c = .m ∨ loadClass c = .l := by unfold loadClass; simp only [hH, hL, if_true, if_false]; split <;> simp
      rcases this with h | h <;> simp [h, hH, hL]
    · have : loadClass c = .a := by simp [loadClass, hH, hL, show ¬ c < 28 by omega]
      simp [this, hH, hL]

theorem State.thermJudged_iff (s : State) (c : Nat) :
    s.thermJudged c = true ↔ (s.load c).drive ≠ .off ∨ ∃ k, s.loadOff c = some k ∧ k ≤ 7 := by
  unfold State.thermJudged LoadCh.lit
  cases s.loadOff c <;> simp

end Sys2Proof.Machine

namespace Sys2Proof.Proofs

open Sys2Proof Sys2Proof.Machine

section LoadProtection

variable {s : State} {c : Nat}

theorem softStart_completes (hc : c < 60) (hsoft : (s.load c).drive = .soft) :
    ∃ t, Does (.softStartComplete c) s t ∧ ((s.loadOff c).isNone = true → s.cmdLit c = true → (t.load c).drive = .on)
      ∧ (∀ k, k ≠ c → t.load k = s.load k) ∧ t.supply = s.supply ∧ t.mgmt = s.mgmt := by
  let s1 := s.updLoad c fun ch => { ch with drive := .on }
  have hps : s1.psOnly (s.loadStep s1 c false) := State.loadStep_psOnly _ _ _ _
  have hdoes : Does (.softStartComplete c) s (s.loadStep s1 c false) := (if_neg (Nat.not_le.mpr hc)).trans (if_pos hsoft)
  refine ⟨s.loadStep s1 c false, hdoes, fun hfree hlit => ?_, fun k hk => ?_, State.psOnly_supply hps, State.psOnly_mgmt hps⟩
  · have hsame : s1.load c = { s.load c with drive := .on } := State.load_updLoad_same _ _ _
    have hoff : s1.loadOff c = s.loadOff c := by simp only [State.loadOff, hsame]; rfl
    have hcmd : s1.loadCmd c = s.loadCmd c := by simp only [State.loadCmd, hsame]; rfl
    have hduty : s1.dutyNow c = s.dutyNow c := by 
      simp only [State.dutyNow, hsame, hcmd, hsoft, ne_eq, reduceCtorEq, not_false_eq_true, true_and]; rfl
    have hkeep : s.dutyStep s1 c = s1 := if_pos (.inr (by rw [hcmd]))
    rw [State.loadStep_load_same, hkeep, State.loadDrive_lit (hoff ▸ hfree) ?_ (by simp [hsame]), hsame]
    rw [State.cmdLit, hcmd, hduty]
    exact hlit
  · rw [State.loadStep_load_ne _ _ _ hk, State.load_updLoad_ne _ _ hk]

theorem overcurrent_trips {i : Nat} (hc : c < 60) (hcond : s.conducts c = true)
    (hover : (loadClass c).tripLevel (s.load c).prot.inrush < i) :
    ∃ t, Does (.overcurrentTrip ⟨c, i⟩) s t ∧ (t.load c).drive = .off
      ∧ (t.load c).prot.count = min ((s.load c).prot.count + 1) 31 ∧ (t.load c).prot.ocTrips = satInc (s.load c).prot.ocTrips
      ∧ ((s.load c).cfg.limit ≤ min ((s.load c).prot.count + 1) 31 → (t.load c).prot.oc = true
          ∧ (t.load c).prot.pausing = (s.load c).prot.pausing)
      ∧ (min ((s.load c).prot.count + 1) 31 < (s.load c).cfg.limit → (t.load c).prot.pausing = true
          ∧ (t.load c).prot.oc = (s.load c).prot.oc ∧ (t.load c).prot.pauseEnd = s.tb.localT
            + BitVec.ofNat 64 (min (2 ^ (min ((s.load c).prot.count + 1) 31 - 1)) 512 * 1000000))
      ∧ (∀ k, k ≠ c → t.load k = s.load k) ∧ t.supply = s.supply ∧ t.aon = s.aon := by
  let f := fun ch : LoadCh => { ch with prot := ch.prot.overcurrent ch.cfg.limit s.now }
  have hprot := (s.tripped_follows c 1 f).prot
  have hdoes : Does (.overcurrentTrip ⟨c, i⟩) s (s.tripped c 1 f) := (if_neg (Nat.not_le.mpr hc)).trans (if_pos ⟨hcond, hover⟩)
  refine ⟨s.tripped c 1 f, hdoes, ?_⟩
  rcases Nat.lt_or_ge (min ((s.load c).prot.count + 1) 31) (s.load c).cfg.limit with h | h
  · have hpause := LoadProt.overcurrent_pauses (now := s.now) h
    have hoff : (f (s.load c)).prot.pausing = true := congrArg LoadProt.pausing hpause
    refine ⟨s.tripped_off c 1 f (.inr (.inl hoff)), ?_, ?_, fun hno => absurd h (Nat.not_lt.mpr hno), fun _ => ?_,
      fun k => s.tripped_ne c 1 f, s.tripped_supply c 1 f, s.tripped_aon c 1 f⟩
    all_goals rw [hprot]; simp only [f, hpause]
    exact ⟨trivial, trivial, rfl⟩
  · obtain ⟨hoc, hcount, hpausing, htrips⟩ := LoadProt.overcurrent_latches (now := s.now) h
    have hlatch : (f (s.load c)).prot.latched = true := by simp [LoadProt.latched, f, hoc]
    refine ⟨s.tripped_off c 1 f (.inl hlatch), ?_, ?_, fun _ => ?_, fun hno => absurd hno (Nat.not_lt.mpr h),
      fun k => s.tripped_ne c 1 f, s.tripped_supply c 1 f, s.tripped_aon c 1 f⟩
    all_goals rw [hprot]
    · exact hcount
    · exact htrips
    · exact ⟨hoc, hpausing⟩

theorem retryPause_ends (hc : c < 60) (hpause : (s.load c).prot.pausing = true) :
    ∃ t, Does (.retryPauseEnd c) s t ∧ (t.load c).prot.pausing = false ∧ (t.load c).prot.count = (s.load c).prot.count
      ∧ (∀ k, k ≠ c → t.load k = s.load k) ∧ t.supply = s.supply ∧ t.mgmt = s.mgmt := by
  let s1 := s.updLoad c fun ch => { ch with prot := { ch.prot with pausing := false } }
  have hps : s1.psOnly (s.loadStep s1 c false) := State.loadStep_psOnly _ _ _ _
  have hprot := (s.loadStep_follows s1 c false).prot
  rw [State.load_updLoad_same] at hprot
  have hdoes : Does (.retryPauseEnd c) s (s.loadStep s1 c false) := (if_neg (Nat.not_le.mpr hc)).trans (if_pos hpause)
  refine ⟨s.loadStep s1 c false, hdoes, by rw [hprot], by rw [hprot], fun k hk => ?_, State.psOnly_supply hps, State.psOnly_mgmt hps⟩
  rw [State.loadStep_load_ne _ _ _ hk, State.load_updLoad_ne _ _ hk]

theorem fetTemperature_sampled (hc : c < 60) (temp : Int) :
    ∃ t, Does (.fetTemperatureSample c temp) s t ∧ (t.load c).prot.fet = temp
      ∧ ((s.load c).drive ≠ .off ∨ (∃ k, s.loadOff c = some k ∧ k ≤ 7) →
          (if c < 12 then ((s.load c).cfg.thLimit : Int) * 10 else 1700) ≤ temp →
          (t.load c).drive = .off
          ∧ ((s.load c).prot.th = false → (s.load c).prot.cooling = false → (t.load c).prot.thTrips = satInc (s.load c).prot.thTrips)
          ∧ (c < 12 ∨ c < 52 ∧ (s.load c).cfg.thermLatch = true → (t.load c).prot.th = true)
          ∧ (12 ≤ c → (52 ≤ c ∨ (s.load c).cfg.thermLatch = false) → (t.load c).prot.cooling = true))
      ∧ (temp ≤ 1450 → (s.load c).drive = .off → (t.load c).prot.cooling = false)
      ∧ (∀ k, k ≠ c → t.load k = s.load k) ∧ t.supply = s.supply ∧ t.aon = s.aon := by
  let f := fun ch : LoadCh => { ch with prot := ch.thermal (loadClass c) temp (s.thermJudged c) s.now }
  have hprot := s.tripped_prot c 2 f (p := (s.load c).thermal (loadClass c) temp (s.thermJudged c) s.now) rfl
  have hdoes : Does (.fetTemperatureSample c temp) s (s.tripped c 2 f) := if_neg (Nat.not_le.mpr hc)
  refine ⟨s.tripped c 2 f, hdoes, by rw [hprot]; exact LoadCh.thermal_fet, fun hcond hover => ?_, fun hcold _ => ?_,
    fun k => s.tripped_ne c 2 f, s.tripped_supply c 2 f, s.tripped_aon c 2 f⟩
  · have hjudged := (s.thermJudged_iff c).mpr hcond
    rw [← (s.load c).thermTrip_of_class c] at hover
    by_cases hlatch : c < 12 ∨ c < 52 ∧ (s.load c).cfg.thermLatch = true
    · obtain ⟨hth, -, htrips⟩ :=
        LoadCh.thermal_latches (now := s.now) hjudged hover (((s.load c).thermLatches_of_class c).mpr hlatch)
      have hoff : (f (s.load c)).prot.latched = true := by simp [LoadProt.latched, f, hth]
      refine ⟨s.tripped_off c 2 f (.inl hoff), fun hno _ => by rw [hprot]; exact htrips hno, fun _ => by rw [hprot]; exact hth,
        fun h12 hmode => ?_⟩
      rcases hlatch with h | ⟨h, hset⟩
      · exact absurd h (Nat.not_lt.mpr h12)
      · rcases hmode with h52 | hclear
        · exact absurd h (Nat.not_lt.mpr h52)
        · rw [hset] at hclear
          contradiction
    · obtain ⟨hcool, htrips⟩ := LoadCh.thermal_cools (now := s.now) hjudged hover
        (Bool.eq_false_iff.mpr fun h => hlatch (((s.load c).thermLatches_of_class c).mp h))
      exact ⟨s.tripped_off c 2 f (.inr (.inr hcool)), fun _ hno => by rw [hprot]; exact htrips hno, fun hmode => absurd hmode hlatch,
        fun _ _ => by rw [hprot]; exact hcool⟩
  · rw [hprot]
    have hno : decide (1450 < temp) = false := decide_eq_false (by omega)
    by_cases hbelow : s.thermJudged c = false ∨ temp < (s.load c).thermTrip (loadClass c)
    · rw [LoadCh.thermal_below hbelow, hno, Bool.and_false]
    · obtain ⟨hjudged, hover⟩ := not_or.mp hbelow
      have hover := Int.not_lt.mp hover
      have hlatch : (s.load c).thermLatches (loadClass c) = true := by
        rw [LoadCh.thermTrip_of_class] at hover
        exact ((s.load c).thermLatches_of_class c).mpr (.inl (by split at hover <;> omega))
      rw [(LoadCh.thermal_latches (by simpa using hjudged) hover hlatch).2.1, hno, Bool.and_false]

theorem wireModel_updated (hc : c < 60) (rms mean on : Nat) :
    ∃ t, Does (.wireModelUpdate c rms mean on) s t
      ∧ (t.load c).prot.wireTemp = s.wireRef + (t.load c).prot.rise
      ∧ (t.load c).prot.rise = wireNext (s.load c).prot.rise (if (s.load c).drive ≠ .off then rms else 0) (s.load c).cfg.xsec (s.load c).cfg.tau
      ∧ ((s.load c).drive ≠ .off → ((s.load c).cfg.tlim : Int) * 1000000000000 ≤ (t.load c).prot.wireTemp →
          (t.load c).prot.wire = true ∧ (t.load c).drive = .off)
      ∧ ((t.load c).prot.wireTemp < ((s.load c).cfg.tlim : Int) * 1000000000000 → (t.load c).prot.wire = (s.load c).prot.wire)
      ∧ (∀ k, k ≠ c → t.load k = s.load k) ∧ t.supply = s.supply ∧ t.aon = s.aon := by
  let f := fun ch : LoadCh => { ch with
    prot := ch.wireEval s.wireRef rms s.now
    diag := { ch.diag with
      mean := if ch.lit then BitVec.ofNat 16 (min mean 65535) else 0
      onCur := if ch.lit then BitVec.ofNat 16 (min on 65535) else 0 } }
  have hprot := s.tripped_prot c 4 f (p := (s.load c).wireEval s.wireRef rms s.now) rfl
  obtain ⟨hrise, htemp, hwire⟩ := (s.load c).wireEval_frame s.wireRef rms s.now
  have hdoes : Does (.wireModelUpdate c rms mean on) s (s.tripped c 4 f) := if_neg (Nat.not_le.mpr hc)
  refine ⟨s.tripped c 4 f, hdoes, by rw [hprot]; exact htemp, ?_, fun hlit hlim => ?_, fun hlim => ?_,
    fun k => s.tripped_ne c 4 f, s.tripped_supply c 4 f, s.tripped_aon c 4 f⟩
  · rw [hprot]
    refine hrise.trans ?_
    simp only [LoadCh.lit, decide_eq_true_eq]
  · rw [hprot] at hlim ⊢
    have hset : ((s.load c).wireEval s.wireRef rms s.now).wire = true := by
      rw [hwire, LoadCh.wireHits]
      cases (s.load c).prot.wire <;> simp [pico, LoadCh.lit, hlit, hlim]
    have hoff : (f (s.load c)).prot.latched = true := by simp [LoadProt.latched, f, hset]
    exact ⟨hset, s.tripped_off c 4 f (.inl hoff)⟩
  · rw [hprot] at hlim ⊢
    have hno : ¬ ((s.load c).cfg.tlim : Int) * pico ≤ ((s.load c).wireEval s.wireRef rms s.now).wireTemp := Int.not_le.mpr hlim
    refine hwire.trans ?_
    rw [LoadCh.wireHits, decide_eq_false hno, Bool.false_and, Bool.false_and, Bool.or_false]

theorem holdWindow_expires (hc : c < 60) (hheld : (s.load c).held ≠ none) :
    ∃ t, Does (.holdWindowExpiry c) s t ∧ (t.load c).held = none ∧ (t.load c).base = (s.load c).cfg.safe
      ∧ (t.load c).baseSrc = .holdEnd ∧ (∀ k, k ≠ c → t.load k = s.load k) ∧ t.supply = s.supply ∧ t.mgmt = s.mgmt := by
  let s1 := (s.updLoad c fun ch => ch.apply ch.cfg.safe .holdEnd).psEvent 1
  let s2 := if (s.groupOf c).isNone then s1.loadPulse c else s1
  have hirq : s1.irqOnly s2 := by
    dsimp only [s2]
    split
    · exact s1.loadPulse_irqOnly c
    · exact s1.irqOnly_refl
  have hps : s.psOnly (s.loadStep s2 c false) :=
    State.psOnly_after (State.loadStep_psOnly _ _ _ _) (State.psOnly_trans (b := s1) rfl (State.psOnly_of_irqOnly hirq))
  have hload (k : Nat) : s2.load k = (s.updLoad c fun ch => ch.apply ch.cfg.safe .holdEnd).load k := by
    rw [State.load, State.irqOnly_ps hirq]; rfl
  have hfollows := s.loadStep_follows s2 c false
  rw [hload, State.load_updLoad_same] at hfollows
  have hdoes : Does (.holdWindowExpiry c) s (s.loadStep s2 c false) :=
    (if_neg (Nat.not_le.mpr hc)).trans (if_pos (Option.isSome_iff_ne_none.mpr hheld))
  refine ⟨s.loadStep s2 c false, hdoes, hfollows.held, hfollows.base, hfollows.baseSrc, fun k hk => ?_,
    State.psOnly_supply hps, State.psOnly_mgmt hps⟩
  rw [State.loadStep_load_ne _ _ _ hk, hload, State.load_updLoad_ne _ _ hk]

end LoadProtection

/-- Settles O50: every row writes its channel, has it re-evaluated and reports. The re-evaluation keeps the protection record, and a latch, a
pause or a hot FET is an off state, in which it leaves the output off. -/
theorem loadProtection : Obligations.LoadProtection := by
  intro s c hc
  have hplain (f : LoadCh → LoadCh) (k : Nat) (hk : k ≠ c) : (s.updLoad c f).load k = s.load k := s.load_updLoad_ne f hk
  refine ⟨softStart_completes hc, fun i hi => (if_neg (Nat.not_le.mpr hc)).trans (if_neg fun h => absurd h.2 (Nat.not_lt.mpr hi)),
    tripLevel_of_class c _, fun i => overcurrent_trips hc, retryPause_ends hc,
    fun hon => ⟨_, (if_neg (Nat.not_le.mpr hc)).trans (if_pos hon), s.load_updLoad_same c _, hplain _, rfl⟩, fetTemperature_sampled hc,
    wireModel_updated hc, ⟨_, if_neg (Nat.not_le.mpr hc), s.load_updLoad_same c _, hplain _, rfl⟩, holdWindow_expires hc⟩

end Sys2Proof.Proofs

/-! SUPPORT. Inputs: what a sample makes of its input and of the group that holds it, beside which it changes interrupts alone
(R494 to R507). -/

namespace Sys2Proof.Machine

open Sys2Proof

/-! ### The input unit alone -/

/-- Nothing but the input unit and interrupts differs. -/
def State.inpOnly (s t : State) : Prop := t = ({ s with inp := t.inp } : State).withIrq t

theorem State.inpOnly_refl (s : State) : s.inpOnly s := rfl

theorem State.inpOnly_trans {a b c : State} (h : a.inpOnly b) (k : b.inpOnly c) : a.inpOnly c := by
  unfold State.inpOnly at *
  rw [k, h]
  rfl

theorem State.inpOnly_of_irqOnly {s t : State} (h : s.irqOnly t) : s.inpOnly t := by
  unfold State.inpOnly
  rw [State.irqOnly_inp h]
  exact h

theorem State.onInp_inpOnly (s : State) (f : Inputs → Inputs) : s.inpOnly (s.onInp f) := rfl

theorem State.inpOnly_supply {s t : State} (h : s.inpOnly t) : t.supply = s.supply := by rw [h]; rfl
theorem State.inpOnly_ps {s t : State} (h : s.inpOnly t) : t.ps = s.ps := by rw [h]; rfl
theorem State.inpOnly_mgmt {s t : State} (h : s.inpOnly t) : t.mgmt = s.mgmt := by rw [h]; rfl

/-! ### A group's events -/

theorem State.inMsi_irqOnly (s : State) (g : Nat) : s.irqOnly (s.inMsi g) := by
  unfold State.inMsi
  split
  · exact s.msiBind_irqOnly _ _ _
  · exact s.irqOnly_refl

theorem State.inPost_irqOnly (s : State) (g : Nat) (f : InGroup → InGroup) : (s.updInGroup g f).irqOnly (s.inPost g f) := by
  unfold State.inPost
  dsimp only
  split
  · exact State.inMsi_irqOnly _ g
  · exact State.irqOnly_refl _

theorem State.inPost_inp (s : State) (g : Nat) (f : InGroup → InGroup) : (s.inPost g f).inp = (s.updInGroup g f).inp :=
  State.irqOnly_inp (s.inPost_irqOnly g f)

theorem State.inPost_inpOnly (s : State) (g : Nat) (f : InGroup → InGroup) : s.inpOnly (s.inPost g f) :=
  State.inpOnly_trans (b := s.updInGroup g f) rfl (State.inpOnly_of_irqOnly (s.inPost_irqOnly g f))

theorem State.inPost_inGroup (s : State) (g : Nat) (f : InGroup → InGroup) (k : Nat) :
    (s.inPost g f).inGroup k = if k = g then f (s.inGroup g) else s.inGroup k := by
  rw [State.inGroup, State.inPost_inp, ← State.inGroup_updInGroup]
  rfl

theorem State.inLeft_irqOnly (s : State) (g : Nat) : s.irqOnly (s.inLeft g) := by
  unfold State.inLeft
  dsimp only
  split
  · exact s.irqOnly_refl
  · exact s.inMsi_irqOnly g

theorem State.inGroup_of_irqOnly {s t : State} (h : s.irqOnly t) (k : Nat) : t.inGroup k = s.inGroup k := by
  rw [State.inGroup, State.irqOnly_inp h, State.inGroup]

/-! ### A sample of a D input -/

theorem State.dEdge_inpOnly (s : State) (d : Nat) (rising : Bool) (time : U64) : s.inpOnly (s.dEdge d rising time) := by
  unfold State.dEdge
  split
  · split
    · exact s.inpOnly_refl
    · exact s.inPost_inpOnly _ _
  · split
    · exact State.inpOnly_of_irqOnly (s.pulse_irqOnly 147)
    · exact s.onInp_inpOnly _

/-- An edge in a group that posts its events. -/
theorem State.dEdge_inGroup {s : State} {d i : Nat} {g : InGroup} (rising : Bool) (time : U64) (hgroup : s.groupOfD d = some (i, g))
    (hstop : g.stopped = false) (hlive : g.disabled = false) (k : Nat) : (s.dEdge d rising time).inGroup k =
      if k = i then (s.inGroup i).edge d ((s.din d).edges.getLsbD (if rising then 0 else 1)) time s.now else s.inGroup k := by
  unfold State.dEdge
  rw [hgroup]
  dsimp only
  rw [if_neg (by simp [hstop, hlive]), State.inPost_inGroup]

/-- An edge of an input in no group. -/
theorem State.dEdge_of_none {s : State} {d : Nat} (rising : Bool) (time : U64) (hgroup : s.groupOfD d = none) (hsec : s.inSec d = false) :
    s.dEdge d rising time = s.inEvent 2 := by
  unfold State.dEdge
  rw [hgroup]
  exact if_neg (by simp [hsec])

/-- An edge is recorded in the events alone. -/
theorem State.dEdge_din (s : State) (d : Nat) (rising : Bool) (time : U64) (k : Nat) : (s.dEdge d rising time).din k = s.din k := by
  unfold State.dEdge
  split
  · split
    · rfl
    · rw [State.din, State.inPost_inp]
      rfl
  · split
    · rw [State.din, State.irqOnly_inp (s.pulse_irqOnly 147), State.din]
    · rfl

theorem DIn.sample_eq (d : DIn) (r : Bool) (time : U64) : d.sample r time = { d with
    wetOn := d.wet, raw := r, run := if d.run ≠ 0 ∧ r = d.raw then min (d.run + 1) 255 else 1
    runAt := if d.run ≠ 0 ∧ r = d.raw then d.runAt else time } := by
  unfold DIn.sample
  dsimp only
  split <;> rfl

/-- An input whose sample reads r: the level follows where the run has reached the debounce time. -/
def DIn.after (d : DIn) (r : Bool) (time : U64) : DIn :=
  { d.sample r time with level := if d.debounce ≤ (d.sample r time).run then r else d.level }

theorem DIn.after_of_settled {d : DIn} {r : Bool} {time : U64} (h : (d.sample r time).settled = true) :
    d.after r time = { d.sample r time with level := (d.sample r time).raw } ∧ (d.after r time).level ≠ d.level := by
  rw [DIn.settled, Bool.and_eq_true, decide_eq_true_eq, decide_eq_true_eq] at h
  obtain ⟨hrun, hlevel⟩ := h
  rw [DIn.sample_eq] at hrun hlevel
  simp only [DIn.after, DIn.sample_eq]
  exact ⟨by rw [if_pos hrun], by rw [if_pos hrun]; exact hlevel⟩

theorem DIn.after_of_unsettled {d : DIn} {r : Bool} {time : U64} (h : (d.sample r time).settled = false) :
    d.after r time = d.sample r time := by
  have hlevel : (if d.debounce ≤ (d.sample r time).run then r else d.level) = d.level := by
    split
    · next hrun =>
      have hrun : decide ((d.sample r time).debounce ≤ (d.sample r time).run) = true :=
        decide_eq_true (by rw [show (d.sample r time).debounce = d.debounce by rw [DIn.sample_eq]]; exact hrun)
      rw [DIn.settled, hrun, Bool.true_and] at h
      have hsame : (d.sample r time).raw = (d.sample r time).level := Decidable.not_not.mp (of_decide_eq_false h)
      rw [DIn.sample_eq] at hsame
      exact hsame
    · rfl
  rw [DIn.after, hlevel, DIn.sample_eq]

/-- The input has taken its sample, and its edge is not yet recorded. -/
def State.dTaken (s : State) (d mv : Nat) (time : U64) : State := s.updDin d fun i => i.after (s.reads d mv i.raw) time

theorem State.updDin_congr (s : State) (d : Nat) {f g : DIn → DIn} (h : f (s.din d) = g (s.din d)) : s.updDin d f = s.updDin d g := by
  unfold State.updDin State.onInp Tab.upd
  dsimp only
  rw [show f (Tab.get s.inp.ds d {}) = _ from h]
  rfl

theorem State.updDin_updDin (s : State) (d : Nat) (f g : DIn → DIn) : (s.updDin d f).updDin d g = s.updDin d fun i => g (f i) := by
  unfold State.updDin State.onInp
  dsimp only
  rw [Tab.upd_upd]

/-- A sample sets its input, and a settled run of another level is an edge. -/
theorem State.dSample_eq (s : State) (d mv : Nat) (time : U64) : s.dSample d mv time =
    if ((s.din d).sample (s.reads d mv (s.din d).raw) time).settled then
      (s.dTaken d mv time).dEdge d (s.reads d mv (s.din d).raw) ((s.dTaken d mv time).din d).runAt
    else s.dTaken d mv time := by
  have hsampled : (s.updDin d fun i => i.sample (s.reads d mv i.raw) time).din d = (s.din d).sample (s.reads d mv (s.din d).raw) time := by
    rw [State.din_updDin, if_pos rfl]
  have htaken : (s.dTaken d mv time).din d = (s.din d).after (s.reads d mv (s.din d).raw) time := by
    rw [State.dTaken, State.din_updDin, if_pos rfl]
  unfold State.dSample
  dsimp only
  rw [hsampled, htaken]
  cases hset : ((s.din d).sample (s.reads d mv (s.din d).raw) time).settled with
  | true =>
    obtain ⟨hafter, -⟩ := DIn.after_of_settled hset
    rw [if_pos rfl, if_pos rfl, State.updDin_updDin, hafter, DIn.sample_eq, State.dTaken]
    congr 1
    exact s.updDin_congr d (by rw [hafter])
  | false =>
    rw [if_neg Bool.false_ne_true, if_neg Bool.false_ne_true, State.dTaken]
    exact s.updDin_congr d (DIn.after_of_unsettled hset).symm

theorem State.dSample_din (s : State) (d mv : Nat) (time : U64) (k : Nat) :
    (s.dSample d mv time).din k = if k = d then (s.din d).after (s.reads d mv (s.din d).raw) time else s.din k := by
  have htaken : (s.dTaken d mv time).din k = if k = d then (s.din d).after (s.reads d mv (s.din d).raw) time else s.din k :=
    s.din_updDin d k _
  rw [State.dSample_eq, ← htaken]
  split
  · exact State.dEdge_din _ _ _ _ k
  · rfl

theorem State.dSample_inpOnly (s : State) (d mv : Nat) (time : U64) : s.inpOnly (s.dSample d mv time) := by
  rw [State.dSample_eq]
  split
  · exact State.inpOnly_trans (b := s.dTaken d mv time) rfl (State.dEdge_inpOnly _ _ _ _)
  · rfl

/-! ### Samples of a D input in a row -/

/-- The samples of input d, each at its time. -/
def State.dSamples (s : State) (d : Nat) (time : U64) (l : List (Nat × Nat)) : State :=
  l.foldl (fun t e => t.dSample d e.2 (wholeMs time e.1)) s

theorem State.dSamples_inpOnly (s : State) (d : Nat) (time : U64) (l : List (Nat × Nat)) : s.inpOnly (s.dSamples d time l) := by
  induction l generalizing s with
  | nil => exact s.inpOnly_refl
  | cons e l ih => exact State.inpOnly_trans (s.dSample_inpOnly d _ _) (ih _)

theorem State.dSamples_din_ne (s : State) {d k : Nat} (time : U64) (l : List (Nat × Nat)) (h : k ≠ d) :
    (s.dSamples d time l).din k = s.din k := by
  induction l generalizing s with
  | nil => rfl
  | cons e l ih => exact (ih _).trans ((s.dSample_din d _ _ k).trans (if_neg h))

/-- The last n samples have read 1: the run is as long, up to its limit, and the level is 1 where it has reached the debounce time. -/
def DIn.HeldHigh (n : Nat) (d : DIn) : Prop := 1 ≤ n → d.raw = true ∧ min n 255 ≤ d.run ∧ (d.debounce ≤ d.run → d.level = true)

theorem DIn.HeldHigh.next {d : DIn} {n : Nat} (h : d.HeldHigh n) (time : U64) : (d.after true time).HeldHigh (n + 1) := by
  intro _
  simp only [DIn.after, DIn.sample_eq]
  refine ⟨trivial, ?_, fun hrun => by rw [if_pos hrun]⟩
  split
  · next hgoes =>
    obtain ⟨hone, -⟩ := hgoes
    rcases Nat.eq_zero_or_pos n with rfl | hn
    · omega
    · have hrun := (h hn).2.1
      omega
  · next hstops =>
    rcases Nat.eq_zero_or_pos n with rfl | hn
    · omega
    · obtain ⟨hraw, hrun, -⟩ := h hn
      exact absurd ⟨by omega, hraw.symm⟩ hstops

theorem State.reads_of_above {s : State} {pin mv : Nat} (was : Bool) (h : (s.inputLevels pin).2 < mv) : s.reads pin mv was = true := if_pos h

theorem State.inputLevels_dSample (s : State) (d mv : Nat) (time : U64) (pin : Nat) :
    (s.dSample d mv time).inputLevels pin = s.inputLevels pin := by
  simp only [State.inputLevels, State.inpOnly_supply (s.dSample_inpOnly d mv time)]

theorem State.dSamples_debounce (s : State) (d : Nat) (time : U64) (l : List (Nat × Nat)) :
    ((s.dSamples d time l).din d).debounce = (s.din d).debounce := by
  induction l generalizing s with
  | nil => rfl
  | cons e l ih => exact (ih _).trans (by rw [State.dSample_din, if_pos rfl, DIn.after, DIn.sample_eq])

/-- Samples above V_IH after n of them. -/
theorem State.dSamples_heldHigh {s : State} {d n : Nat} (time : U64) {l : List (Nat × Nat)} (hl : ∀ e ∈ l, (s.inputLevels d).2 < e.2)
    (h : (s.din d).HeldHigh n) : ((s.dSamples d time l).din d).HeldHigh (n + l.length) := by
  induction l generalizing s n with
  | nil => exact h
  | cons e l ih =>
    have hnext : ((s.dSample d e.2 (wholeMs time e.1)).din d).HeldHigh (n + 1) := by
      rw [State.dSample_din, if_pos rfl, State.reads_of_above _ (hl e (List.mem_cons_self ..))]
      exact h.next _
    have hrest := ih (fun e' he' => by rw [State.inputLevels_dSample]; exact hl e' (List.mem_cons_of_mem _ he')) hnext
    rw [List.length_cons, show n + (l.length + 1) = n + 1 + l.length by omega]
    exact hrest

/-- Samples above V_IH in as many milliseconds as the debounce time set the level. -/
theorem State.dSamples_level {s : State} {d : Nat} (time : U64) {l : List (Nat × Nat)} (hl : ∀ e ∈ l, (s.inputLevels d).2 < e.2)
    (hone : 1 ≤ l.length) (hlen : (s.din d).debounce ≤ l.length) (hmax : (s.din d).debounce ≤ 255) :
    ((s.dSamples d time l).din d).level = true := by
  have hnone : (s.din d).HeldHigh 0 := fun h => absurd h (by decide)
  obtain ⟨-, hrun, hlevel⟩ := State.dSamples_heldHigh time hl hnone (by omega)
  refine hlevel ?_
  rw [State.dSamples_debounce]
  omega

/-! ### A sample of a V input -/

theorem State.inPost_vin (s : State) (g : Nat) (f : InGroup → InGroup) (k : Nat) : (s.inPost g f).vin k = s.vin k := by
  rw [State.vin, State.inPost_inp]
  rfl

theorem State.vSample_vin (s : State) (v : Nat) (mv : Int) (k : Nat) :
    (s.vSample v mv).vin k = if k = v then (s.vin v).sample mv else s.vin k := by
  rw [← State.vin_updVin s v k fun u => u.sample mv]
  unfold State.vSample
  dsimp only
  split
  · split
    · rfl
    · exact State.inPost_vin _ _ _ k
  · rfl

theorem State.vSample_inpOnly (s : State) (v : Nat) (mv : Int) : s.inpOnly (s.vSample v mv) := by
  unfold State.vSample
  dsimp only
  split
  · split
    · rfl
    · exact State.inpOnly_trans (b := s.updVin v fun u => u.sample mv) rfl (State.inPost_inpOnly _ _ _)
  · rfl

/-- The group of an input follows its value. -/
theorem State.vSample_inGroup {s : State} {v i : Nat} {g : InGroup} (mv : Int) (hgroup : s.groupOfV v = some (i, g)) (hstop : g.stopped = false)
    (hon : g.disabled = false) :
    (s.vSample v mv).inGroup i = (s.inGroup i).analog v ((s.vin v).sample mv).value (s.vin v).edges := by
  unfold State.vSample
  dsimp only
  rw [hgroup]
  dsimp only
  rw [if_neg (by simp [hstop, hon]), State.inPost_inGroup, if_pos rfl, State.vin_updVin, if_pos rfl]
  rfl

theorem InGroup.analog_above (g : InGroup) {v : Nat} (x : U16) (edges : BitVec 2) (hv : v < 24) :
    (g.analog v x edges).above.getLsbD v = g.aboveNext v x := by
  rw [InGroup.analog, getLsbD_putBit _ _ hv, if_pos rfl]

/-! ### Wake inputs -/

/-- The levels of the pins numbered from 64 on, after the voltages of a list. -/
def State.readAll (s : State) (m : Byte) (l : List (Nat × Nat)) : Byte :=
  l.foldl (fun (m : Byte) e => putBit m e.1 (s.reads (64 + e.1) e.2 (m.getLsbD e.1))) m

theorem State.readAll_other (s : State) {l : List (Nat × Nat)} (hpin : ∀ e ∈ l, e.1 < 8) (m : Byte) {i : Nat} (h : i ∉ l.map Prod.fst) :
    (s.readAll m l).getLsbD i = m.getLsbD i := by
  induction l generalizing m with
  | nil => rfl
  | cons e l ih =>
    rw [List.map_cons, List.mem_cons, not_or] at h
    refine (ih (fun e he => hpin e (List.mem_cons_of_mem _ he)) _ h.2).trans ?_
    rw [getLsbD_putBit _ _ (hpin e (List.mem_cons_self ..)), if_neg h.1]

/-- A pin that the list names once reads its own voltage. -/
theorem State.readAll_named (s : State) {l : List (Nat × Nat)} (hpin : ∀ e ∈ l, e.1 < 8) (hone : (l.map Prod.fst).Nodup) (m : Byte)
    {i x : Nat} (h : (i, x) ∈ l) : (s.readAll m l).getLsbD i = s.reads (64 + i) x (m.getLsbD i) := by
  induction l generalizing m with
  | nil => exact absurd h List.not_mem_nil
  | cons e l ih =>
    have hrest : ∀ e ∈ l, e.1 < 8 := fun e he => hpin e (List.mem_cons_of_mem _ he)
    rw [List.map_cons, List.nodup_cons] at hone
    have hstep (k : Nat) : (putBit m e.1 (s.reads (64 + e.1) e.2 (m.getLsbD e.1))).getLsbD k = _ :=
      getLsbD_putBit _ _ (hpin e (List.mem_cons_self ..))
    rcases List.mem_cons.mp h with rfl | h
    · exact (s.readAll_other hrest _ hone.1).trans ((hstep i).trans (if_pos rfl))
    · have hne : i ≠ e.1 := fun he => hone.1 (List.mem_map.mpr ⟨_, h, he⟩)
      refine (ih hrest hone.2 _ h).trans ?_
      rw [hstep, if_neg hne]

/-- A WK pin that the list names reads its own voltage. -/
theorem State.wkReads_getLsbD (s : State) {wk : List Nat} {i : Nat} (hlen : wk.length = 8) (hi : i < 8) :
    (s.wkReads wk).getLsbD i = s.reads (64 + i) (wk.getD i 0) (s.inp.wkLevel.getLsbD i) := by
  have hpin : ∀ e ∈ (List.range 8).zip wk, e.1 < 8 := fun e he => List.mem_range.mp (List.of_mem_zip he).1
  have hone : (((List.range 8).zip wk).map Prod.fst).Nodup := by
    rw [List.map_fst_zip (by simp [hlen])]
    exact List.nodup_range
  have hmem : (i, wk.getD i 0) ∈ (List.range 8).zip wk := by
    rw [List.mem_iff_getElem]
    exact ⟨i, by simp [hlen, hi], by simp [hlen, hi]⟩
  exact s.readAll_named hpin hone _ hmem

/-! ### Sensor supplies -/

/-- An output without a fault has none after the mode is followed, and is on where it is wanted. -/
theorem State.sensStep_of_good {s : State} {k : Nat} (hk : k < 3) (h : s.inp.sensFault.getLsbD k = false) :
    s.sensStep.inp.sensFault.getLsbD k = false ∧ s.sensStep.inp.sensOn.getLsbD k = s.sensWanted.getLsbD k := by
  have hfault : (s.inp.sensFault &&& s.sensWanted).getLsbD k = false := by rw [BitVec.getLsbD_and, h, Bool.false_and]
  refine ⟨hfault, (BitVec.getLsbD_and ..).trans ?_⟩
  rw [BitVec.getLsbD_not, hfault, decide_eq_true hk]
  exact Bool.and_true _

/-! ### Event bits -/

theorem State.inClear_inGroup (s : State) (g : Nat) (d : U64) (v : BitVec 24) (k : Nat) : (s.inClear g d v).inGroup k =
    if k = g then { s.inGroup g with evtD := (s.inGroup g).evtD &&& ~~~(d &&& ~~~((s.inGroup g).freshBits s.now)), evtV := (s.inGroup g).evtV &&& ~~~v }
    else s.inGroup k :=
  s.inGroup_updInGroup g k _

/-! ### INPUT_GROUP_CREATE -/

theorem exec_inputGroupCreate_of_manager {rq : Request} (hroute : rq.route = .stall 0) (s : State) :
    exec (.inputGroupCreate rq) s = serve specInputGroupCreate rq s (s.okInputGroup 0 false) (ownInputGroupCreate rq) := by
  rw [← Request.isSec_of_manager hroute, ← s.issuerInst_of_manager hroute]
  rfl

/-- The state after the manager's group at an index has been granted. -/
def State.inGroupGranted (s : State) (rq : Request) (k : Nat) : State :=
  (s.hCreate 5 k 0 false (bindAt rq.payload 16) (0, 1, 0)).onInp fun i => { i with
    groups := Tab.put i.groups k { dmask := BitVec.ofNat 64 (u64At rq.payload 0), vmask := BitVec.ofNat 24 (u32At rq.payload 8) } }

section InputGroup

variable {rq : Request} {s : State} {k : Nat}

theorem ownInputGroupCreate_of_overlap (hroute : rq.route = .stall 0) (hoff : s.fnOff 0 8 0 = false)
    (hbusy : s.inp.groups.any (fun e => e.2.dmask &&& BitVec.ofNat 64 (u64At rq.payload 0) ≠ 0
      || e.2.vmask &&& BitVec.ofNat 24 (u32At rq.payload 8) ≠ 0) = true) :
    ownInputGroupCreate rq s = (s, { st := .busy }) := by
  simp only [ownInputGroupCreate, s.issuerInst_of_manager hroute, Request.isSec_of_manager hroute, State.fnOffFor, hoff, hbusy, no,
    Bool.and_false, Bool.false_eq_true, if_false, if_true]

/-- The lowest D input of a mask is the first of its list. -/
theorem filter_range_head {d : U64} (hk : k < 64) (hbit : d.getLsbD k = true) (hlow : ∀ j, j < k → d.getLsbD j = false) :
    ∃ r, (List.range 64).filter (fun c => d.getLsbD c) = k :: r := by
  obtain ⟨l, r, hlist⟩ := List.append_of_mem (List.mem_range.mpr hk)
  have hsorted := List.pairwise_lt_range (n := 64)
  rw [hlist, List.pairwise_append] at hsorted
  exact ⟨_, List.filter_eq_cons_iff.mpr
    ⟨l, r, hlist, fun x hx => by simp [hlow x (hsorted.2.2 x hx k (List.mem_cons_self ..))], hbit, rfl⟩⟩

theorem ownInputGroupCreate_of_free (hroute : rq.route = .stall 0) (hoff : s.fnOff 0 8 0 = false)
    (hfree : s.inp.groups.any (fun e => e.2.dmask &&& BitVec.ofNat 64 (u64At rq.payload 0) ≠ 0
      || e.2.vmask &&& BitVec.ofNat 24 (u32At rq.payload 8) ≠ 0) = false)
    (hk : k < 64) (hbit : (BitVec.ofNat 64 (u64At rq.payload 0)).getLsbD k = true)
    (hlow : ∀ j, j < k → (BitVec.ofNat 64 (u64At rq.payload 0)).getLsbD j = false)
    (hd : ∀ j, j < 64 → (BitVec.ofNat 64 (u64At rq.payload 0)).getLsbD j = true → s.inMay 0 false 0 j = true)
    (hv : ∀ j, j < 24 → (BitVec.ofNat 24 (u32At rq.payload 8)).getLsbD j = true → s.inMay 0 false 1 j = true) (hroom : s.handleRoom = true) :
    ownInputGroupCreate rq s = (s.inGroupGranted rq k, {
      handle := some (mkHandle 5 0 (s.genOf 5 k) k), payload := leBytes 8 (0x13800000 + k * 0x1000) }) := by
  obtain ⟨r, hlist⟩ := filter_range_head hk hbit hlow
  have hmay : (k :: r).all (s.inMay 0 false 0) = true := by
    rw [← hlist, List.all_eq_true]
    exact fun j hj => hd j (List.mem_range.mp (List.mem_filter.mp hj).1) (List.mem_filter.mp hj).2
  have hmayV : ((List.range 24).filter fun c => (BitVec.ofNat 24 (u32At rq.payload 8)).getLsbD c).all (s.inMay 0 false 1) = true := by
    rw [List.all_eq_true]
    exact fun j hj => hv j (List.mem_range.mp (List.mem_filter.mp hj).1) (List.mem_filter.mp hj).2
  simp only [ownInputGroupCreate, s.issuerInst_of_manager hroute, Request.isSec_of_manager hroute, State.fnOffFor, hoff, hfree,
    Bool.and_false, Bool.false_eq_true, if_false, hlist, hmay, hmayV, hroom, and_self, not_true_eq_false]
  rfl

end InputGroup

end Sys2Proof.Machine

namespace Sys2Proof.Proofs

open Sys2Proof Sys2Proof.Machine

section Inputs

variable {s : State}

theorem does_debounceComplete {d : Nat} (l : List Nat) (time : U64) (hd : d < 64) (hon : s.inputsOn = true) :
    Does (.debounceComplete d l time) s (s.dSamples d time ((List.range l.length).zip l)) :=
  (if_neg (Nat.not_le.mpr hd)).trans (if_neg (not_not_intro hon))

theorem does_analogThresholdChange {v : Nat} (x : Int) (hv : v < 24) (hon : s.inputsOn = true) :
    Does (.analogThresholdChange v [x]) s (s.vSample v x) :=
  (if_neg (Nat.not_le.mpr hv)).trans (if_neg (not_not_intro hon))

/-- The edge of a level that a sample has changed. -/
theorem dSample_edge {d mv : Nat} {time : U64} (h : ((s.dSample d mv time).din d).level ≠ (s.din d).level) :
    s.dSample d mv time = (s.dTaken d mv time).dEdge d (s.reads d mv (s.din d).raw) ((s.dSample d mv time).din d).runAt := by
  have hdin := s.dSample_din d mv time d
  rw [if_pos rfl] at hdin
  have htaken : (s.dTaken d mv time).din d = (s.dSample d mv time).din d := by
    rw [hdin, State.dTaken, State.din_updDin, if_pos rfl]
  rw [hdin] at h
  conv_lhs => rw [State.dSample_eq]
  rw [htaken]
  refine if_pos ?_
  by_contra hno
  rw [Bool.not_eq_true] at hno
  rw [DIn.after_of_unsettled hno, DIn.sample_eq] at h
  exact h rfl

theorem dSample_of_sameLevel {d mv : Nat} {time : U64} (h : ((s.dSample d mv time).din d).level = (s.din d).level) :
    s.dSample d mv time = s.dTaken d mv time := by
  rw [State.dSample_din, if_pos rfl] at h
  rw [State.dSample_eq]
  exact if_neg fun hset => (DIn.after_of_settled hset).2 h

/-- A sample of an input, in the words of the statement. -/
theorem sample_after (d : DIn) (r : Bool) (time : U64) : d.after r (wholeMs time 0) = { d with
    wetOn := d.wet, raw := r, level := (d.after r (wholeMs time 0)).level
    run := if decide (d.run ≠ 0) && decide (r = d.raw) then min (d.run + 1) 255 else 1
    runAt := if decide (d.run ≠ 0) && decide (r = d.raw) then d.runAt else BitVec.ofNat 64 (time.toNat / 1000000 * 1000000) } := by
  simp only [DIn.after, DIn.sample_eq, Bool.and_eq_true, decide_eq_true_eq, wholeMs, Nat.add_zero]

/-- A threshold pair moves the state of an input with hysteresis. -/
theorem aboveNext_of_pair {g : InGroup} {v : Nat} {x : U16} (h : (Tab.get g.low v 0).toNat < (Tab.get g.high v 0).toNat) :
    ((Tab.get g.high v 0).toNat ≤ x.toNat → g.aboveNext v x = true) ∧ (x.toNat ≤ (Tab.get g.low v 0).toNat → g.aboveNext v x = false)
      ∧ ((Tab.get g.low v 0).toNat < x.toNat → x.toNat < (Tab.get g.high v 0).toNat → g.aboveNext v x = g.above.getLsbD v) := by
  have hval : g.aboveNext v x = _ := if_neg (Nat.not_le.mpr h)
  rw [hval]
  exact ⟨fun hhigh => if_pos hhigh, fun hlow => (if_neg (by omega)).trans (if_pos hlow),
    fun hlow hhigh => (if_neg (by omega)).trans (if_neg (by omega))⟩

theorem inEvtClear_of_passed {g : Nat} {a : Attr} {d : U64} (hg : g < 88) (hd : d ≠ 0) (hsends : s.sends a) (hup : s.fabricUp = true)
    (hport : s.portFree .write (writeX a (0x13800000 + g * 0x1000 + 0x10) 8 0))
    (hok : s.verdict a (0x13800000 + g * 0x1000 + 0x10) 8 false true = .ok) :
    Does (.inEvtClearWrite g a d 0) s (((s.inClear g d 0).inLeft g).answered .ok []) := by
  have hrow : exec (.inEvtClearWrite g a d 0) s
      = fin (s.writeAt (writeX a (inPage g + 0x10) 8 d.toNat) fun s => (s.inClear g d 0).inLeft g) :=
    (if_neg (Nat.not_le.mpr hg)).trans ((State.issue_of_sends _ hsends).trans
      (congrArg fin ((if_pos rfl).trans (if_neg fun h => hd h.1))))
  exact hrow.trans (congrArg fin (State.writeAt_writeX hup (.inr (.inr rfl)) (by unfold inPage; omega) (by unfold inPage; omega) hport hok))

end Inputs

/-- Settles O52: a sample changes its input, and with a new level or a crossed threshold its group; the rows of the supplies, the wake inputs
and the two commands change their own fields of the input unit. -/
theorem inputs : Obligations.Inputs := by
  refine ⟨?sample, ?samples, ?analog, ?clear, ?wake, ?pins, ?supply, ?create, ?config⟩
  case sample =>
    intro s d mv time hd hon r on
    let t := s.dSample d mv (wholeMs time 0)
    have hdin : t.din d = (s.din d).after r (wholeMs time 0) := (s.dSample_din d mv _ d).trans (if_pos rfl)
    have hdoes : Does (.debounceComplete d [mv] time) s t := does_debounceComplete [mv] time hd hon
    have hsampled := sample_after (s.din d) r time
    have honly : s.inpOnly t := s.dSample_inpOnly d mv _
    refine ⟨t, hdoes, hdin ▸ hsampled, ?_, fun k hk => (s.dSample_din d mv _ k).trans (if_neg hk),
      fun hsame => ?_, fun hnew hlive => ?_⟩
    · rw [hdin]
      rfl
    · rw [show t = s.dTaken d mv (wholeMs time 0) from dSample_of_sameLevel hsame]
      rfl
    · have hedge : t = (s.dTaken d mv (wholeMs time 0)).dEdge d r (t.din d).runAt := dSample_edge hnew
      have hedges : ((s.dTaken d mv (wholeMs time 0)).din d).edges = (s.din d).edges := by
        rw [State.dTaken, State.din_updDin, if_pos rfl, DIn.after, DIn.sample_eq]
      refine ⟨fun hgroup hsec => ?_, fun i g hgroup => ?_, State.inpOnly_supply honly, State.inpOnly_ps honly, State.inpOnly_mgmt honly⟩
      · have hnone : (s.dTaken d mv (wholeMs time 0)).groupOfD d = none := hgroup
        rw [hedge, State.dEdge_of_none _ _ hnone hsec]
        exact ⟨rfl, rfl⟩
      · obtain ⟨hstop, hon⟩ := hlive (i, g) hgroup
        have hsome : (s.dTaken d mv (wholeMs time 0)).groupOfD d = some (i, g) := hgroup
        have hin (k : Nat) : t.inGroup k = if k = i then
            (s.inGroup i).edge d ((s.din d).edges.getLsbD (if r then 0 else 1)) (t.din d).runAt s.now else s.inGroup k := by
          conv_lhs => rw [hedge]
          rw [State.dEdge_inGroup _ _ hsome hstop hon, hedges]
          rfl
        rw [hin i, if_pos rfl]
        exact ⟨Tab.get_put_same _ _ _ _, fun hset => if_pos hset, fun hclear => if_neg (by rw [hclear]; decide), rfl,
          fun j hj => (hin j).trans (if_neg hj)⟩
  case samples =>
    intro s d l time hd
    refine ⟨fun hoff => (if_neg (Nat.not_le.mpr hd)).trans (if_pos (by simp [hoff])), fun hon => ?_⟩
    have honly := s.dSamples_inpOnly d time ((List.range l.length).zip l)
    refine ⟨_, does_debounceComplete l time hd hon, fun k hk => s.dSamples_din_ne time _ hk, State.inpOnly_supply honly, State.inpOnly_ps honly,
      State.inpOnly_mgmt honly, fun habove hone hlen hmax => ?_⟩
    have hzip : ((List.range l.length).zip l).length = l.length := by simp
    exact State.dSamples_level time (fun e he => habove e.2 (List.of_mem_zip he).2) (hzip.symm ▸ hone) (hzip.symm ▸ hlen) hmax
  case analog =>
    intro s v x hv hon top l
    have hvin := s.vSample_vin v x
    refine ⟨_, does_analogThresholdChange x hv hon, (hvin v).trans (if_pos rfl), fun k hk => (hvin k).trans (if_neg hk),
      fun i g hgroup hstop hlive hpair => ?_, State.inpOnly_supply (s.vSample_inpOnly v x), State.inpOnly_ps (s.vSample_inpOnly v x)⟩
    rw [State.vSample_inGroup x hgroup hstop hlive, InGroup.analog_above _ _ _ hv, hvin v, if_pos rfl]
    exact aboveNext_of_pair hpair
  case clear =>
    intro s g a d hg hd hsends hup hport hok
    have hgroup (k : Nat) : (((s.inClear g d 0).inLeft g).answered .ok []).inGroup k = (s.inClear g d 0).inGroup k :=
      State.inGroup_of_irqOnly (State.inLeft_irqOnly _ g) k
    have hsupply : ((s.inClear g d 0).inLeft g).supply = (s.inClear g d 0).supply :=
      State.inpOnly_supply (State.inpOnly_of_irqOnly (State.inLeft_irqOnly _ g))
    refine ⟨_, inEvtClear_of_passed hg hd hsends hup hport hok, ?_, fun k hk => ?_, rfl, hsupply⟩
    · have hkeep : (s.inGroup g).evtV &&& ~~~0 = (s.inGroup g).evtV := BitVec.and_allOnes
      rw [hgroup, State.inClear_inGroup, if_pos rfl, hkeep]
      rfl
    · rw [hgroup, State.inClear_inGroup, if_neg hk]
  case wake =>
    intro s wk ign hpor hchange
    refine (if_neg ?_).trans rfl
    rintro (hheld | ⟨hwk, hign⟩)
    · rw [hpor] at hheld
      contradiction
    · exact hchange.elim (absurd hwk) (absurd hign)
  case pins => exact fun s wk i hlen hi => s.wkReads_getLsbD hlen hi
  case supply =>
    intro s k hk
    let s1 := s.onInp fun i => { i with sensFault := putBit i.sensFault k false }
    obtain ⟨hfault, hon⟩ : s1.sensStep.inp.sensFault.getLsbD k = false ∧ s1.sensStep.inp.sensOn.getLsbD k = s1.sensWanted.getLsbD k :=
      State.sensStep_of_good hk ((getLsbD_putBit _ _ hk).trans (if_pos rfl))
    refine ⟨fun hlit => ⟨_, (if_neg (Nat.not_le.mpr hk)).trans (if_pos hlit), ?_, ?_, rfl, rfl, fun j hj => ?_, rfl⟩,
      fun hfaulted => ⟨s1.sensStep, (if_neg (Nat.not_le.mpr hk)).trans (if_pos hfaulted), hfault, fun hwant => hon.trans hwant, rfl⟩⟩
    · exact (getLsbD_putBit _ _ hk).trans (if_pos rfl)
    · exact (getLsbD_putBit _ _ hk).trans (if_pos rfl)
    · exact (getLsbD_putBit _ _ hk).trans (if_neg hj)
  case create =>
    rintro rq s u rfl htakes hroute hoff d v
    refine ⟨fun hbusy => replies_of_own (exec_inputGroupCreate_of_manager hroute s) htakes (ownInputGroupCreate_of_overlap hroute hoff hbusy),
      fun k hfree hk hbit hlow hd hv hroom => ?_⟩
    refine ⟨_, replies_of_own (exec_inputGroupCreate_of_manager hroute s) htakes
      (ownInputGroupCreate_of_free hroute hoff hfree hk hbit hlow hd hv hroom), ?_, fun j hj => ?_, ?_, rfl⟩
    · exact Tab.get_put_same _ _ _ _
    · exact Tab.get_put_ne _ _ _ hj
    · exact State.hCreate_hLive_isSome _ _ _ _ _ _ _
  case config =>
    rintro rq s u i rfl htakes hroute rfl
    refine ⟨fun hd => ?_, fun hv => ?_⟩
    · have hown : ownInputConfig rq (s.heard rq) = _ := if_pos hd
      refine ⟨_, replies_of_own rfl htakes hown, ?_, fun k hk => ?_, rfl⟩
      · exact (State.din_updDin _ _ _ _).trans (if_pos rfl)
      · exact (State.din_updDin _ _ _ _).trans (if_neg hk)
    · have hown : ownInputConfig rq (s.heard rq) = _ := if_neg (Nat.not_lt.mpr hv)
      refine ⟨_, replies_of_own rfl htakes hown, ?_, ?_, ?_, ?_, fun k hk => ?_, rfl⟩
      case refine_5 => exact (State.vin_updVin _ _ _ _).trans (if_neg hk)
      all_goals
        rw [State.vin_updVin, if_pos rfl]

end Sys2Proof.Proofs

/-! SUPPORT. Cipher rings and jobs: what an engine's read leaves, and what a chunk, a load and the end of a job make of the jobs in flight
(R549, R555 to R560). -/

namespace Sys2Proof.Machine

open Sys2Proof

/-! ### What a read leaves -/

/-- The cipher engines and the DRAM. -/
def State.stored (s : State) : Cipher × List Host.Cell := (s.ce, s.core.dram)

theorem State.ce_of_stored {s t : State} (h : t.stored = s.stored) : t.ce = s.ce := congrArg Prod.fst h
theorem State.dram_of_stored {s t : State} (h : t.stored = s.stored) : t.core.dram = s.core.dram := congrArg Prod.snd h

theorem State.stored_of_irqOnly {s t : State} (h : s.irqOnly t) : t.stored = s.stored := by rw [h]; rfl
theorem State.stored_of_mgmtOnly {s t : State} (h : s.mgmtOnly t) : t.stored = s.stored := by rw [h]; rfl

@[simp] theorem State.updObj_stored (s : State) (c o : Nat) (f) : (s.updObj c o f).stored = s.stored := rfl
@[simp] theorem State.updBuf_stored (s : State) (c b : Nat) (f) : (s.updBuf c b f).stored = s.stored := rfl
@[simp] theorem State.updReg_stored (s : State) (n : Nat) (f) : (s.updReg n f).stored = s.stored := rfl
@[simp] theorem State.onPass_stored (s : State) (f) : (s.onPass f).stored = s.stored := rfl
@[simp] theorem State.onKs_stored (s : State) (f) : (s.onKs f).stored = s.stored := rfl
@[simp] theorem State.tb_stored (s : State) (b : TimeBase) : ({ s with tb := b } : State).stored = s.stored := rfl

@[simp] theorem State.capture_stored (s : State) (t : Attr) (a : Nat) (wr : Bool) (r : Resp) : (s.capture t a wr r).stored = s.stored := by
  unfold State.capture
  split <;> rfl

@[simp] theorem State.countFerr_stored (s : State) (a : Nat) : (s.countFerr a).stored = s.stored := by
  unfold State.countFerr
  split <;> rfl

@[simp] theorem State.meterDma_stored (s : State) (t : Attr) (a n : Nat) : (s.meterDma t a n).stored = s.stored := by
  unfold State.meterDma State.meter
  dsimp only
  split
  · next heq =>
    split at heq <;> [skip; split at heq]
    all_goals
      obtain ⟨rfl, -⟩ := Prod.mk.inj heq
      rfl
  · next heq =>
    split at heq <;> [skip; split at heq]
    all_goals
      obtain ⟨rfl, -⟩ := Prod.mk.inj heq
      rfl

@[simp] theorem State.objRead_stored (s : State) (c o off : Nat) : (s.objRead c o off).stored = s.stored := by
  unfold State.objRead
  dsimp only
  repeat' split
  all_goals rfl

@[simp] theorem State.canRead_stored (s : State) (t : Attr) (a : Nat) : (s.canRead t a).1.stored = s.stored := by
  unfold State.canRead
  dsimp only
  repeat' split
  all_goals simp

@[simp] theorem State.linRead_stored (s : State) (c off : Nat) : (s.linRead c off).stored = s.stored := by
  unfold State.linRead
  split <;> rfl

@[simp] theorem State.word0D_stored (s : State) (t : Attr) (a : Nat) (latch : Bool) : (s.word0D t a latch).1.stored = s.stored := by
  unfold State.word0D
  dsimp only
  split
  · rw [apply_ite State.stored, State.tb_stored, ite_self]
  · split
    · rfl
    · rw [apply_ite Prod.fst, ite_self]

@[simp] theorem State.regWord_stored (s : State) (t : Attr) (a : Nat) (latch : Bool) : (s.regWord t a latch).1.stored = s.stored := by
  unfold State.regWord
  split
  case h_4 => exact s.canRead_stored t a
  case h_5 =>
    dsimp only
    rw [apply_ite State.stored, State.linRead_stored, ite_self]
  case h_10 => exact s.word0D_stored t a latch
  all_goals rfl

@[simp] theorem State.regBytes_stored (s : State) (t : Attr) (a n : Nat) : (s.regBytes t a n).1.stored = s.stored :=
  List.foldlRecOn (motive := fun p : State × List Byte => p.1.stored = s.stored) _ _ rfl fun p h _ _ => (p.1.regWord_stored _ _ _).trans h

@[simp] theorem State.winRead_stored (s : State) (x : Xact) : (s.winRead x).1.stored = s.stored := by
  unfold State.winRead
  simp only
  repeat' split
  all_goals simp

@[simp] theorem State.readTarget_stored (s : State) (x : Xact) : (s.readTarget x).1.stored = s.stored := by
  unfold State.readTarget
  simp only
  split <;> simp

theorem State.accept_read_stored (s : State) (op : AmoOp) (x : Xact) : (s.accept .read op x).1.stored = s.stored := by
  unfold State.accept
  simp only
  split
  · exact (State.capture_stored _ _ _ _ _).trans (s.readTarget_stored x)
  · exact s.capture_stored _ _ _ _

@[simp] theorem State.dmaRead_stored (s : State) (t : Attr) (a n : Nat) : (s.dmaRead t a n).1.stored = s.stored := by
  refine List.foldlRecOn (motive := fun p : State × Resp × List Byte => p.1.stored = s.stored) _ _ rfl fun p h b _ => ?_
  split
  · exact h
  · exact ((State.accept_read_stored _ _ _).trans (State.meterDma_stored _ _ _ _)).trans h

/-- What follows the write of a record is an interrupt. -/
theorem State.recordWrite_after_irqOnly (s u : State) (t : Attr) (a : Nat) (d : List Byte) (msi : Option (Bind × Bool)) :
    u.irqOnly ((s.recordWrite t a d msi).2.2 u) := by
  unfold State.recordWrite
  extract_lets x q
  split
  · exact u.irqOnly_refl
  · exact u.irqOnly_refl
  · rcases msi with _ | ⟨b, sec⟩
    · exact u.irqOnly_refl
    · dsimp only
      split
      · exact u.msiBind_irqOnly b sec 0
      · exact u.irqOnly_refl

/-! ### Jobs -/

theorem State.job_of_ce {s t : State} (h : t.ce = s.ce) (i : Nat) : t.job i = s.job i := by rw [State.job, h, State.job]
theorem State.ring_of_ce {s t : State} (h : t.ce = s.ce) (n : Nat) : t.ring n = s.ring n := by rw [State.ring, h, State.ring]

theorem State.id_of_job {s : State} {i : Nat} {j : Job} (h : s.job i = some j) : j.id = i := by simpa using List.find?_some h

/-- A change of a job that keeps its number. -/
theorem State.job_updJob (s : State) (i : Nat) {f : Job → Job} (hid : ∀ j, j.id = i → (f j).id = i) (k : Nat) :
    (s.updJob i f).job k = if k = i then (s.job i).map f else s.job k := by
  let g := fun j : Job => if j.id = i then f j else j
  have hkeeps : (fun j : Job => decide (j.id = k)) ∘ g = fun j : Job => decide (j.id = k) := by
    funext j
    by_cases h : j.id = i
    · simp [g, h, hid j h]
    · simp [g, h]
  have hmap : (s.updJob i f).job k = (s.job k).map g := by
    refine (List.find?_map ..).trans ?_
    rw [hkeeps]
    rfl
  rw [hmap]
  split
  · next hk =>
    subst hk
    cases hjob : s.job k with
    | none => rfl
    | some j => exact congrArg some (if_pos (State.id_of_job hjob))
  · next hk =>
    cases hjob : s.job k with
    | none => rfl
    | some j => exact congrArg some (if_neg fun h => hk ((State.id_of_job hjob).symm.trans h))

/-- Engine registers take a node's key. -/
theorem State.mem_loadEngine (s : State) (n : Nat) : n ∈ (s.loadEngine n).ks.engine := by
  unfold State.loadEngine
  simp

theorem State.countNode_stored (s : State) (n : Option Nat) (c : Nat) : (s.countNode n c).stored = s.stored := by
  unfold State.countNode
  split
  · rfl
  · dsimp only
    split
    · exact (State.stored_of_mgmtOnly (State.ledgerBy_mgmtOnly _ _ _ _)).trans ((State.onKs_stored _ _).trans (s.onKs_stored _))
    · rfl


/-! ### RING_CREATE -/

theorem exec_ringCreate_of_manager {rq : Request} (hroute : rq.route = .stall 0) (s : State) :
    exec (.ringCreate rq) s = serve specRingCreate rq s (s.okRingCreate 0 false) (ownRingCreate rq) := by
  rw [← Request.isSec_of_manager hroute, ← s.issuerInst_of_manager hroute]
  rfl

/-- The state after the manager's ring has been granted. -/
def State.ringGranted (s : State) (rq : Request) (i : Nat) : State :=
  ((s.takeFree 6 64).hCreate 6 i 0 false (bindAt rq.payload 8) (0, 1, u32At rq.payload 4)).updRing i fun _ =>
    { depth := BitVec.ofNat 16 (u16At rq.payload 0), enabled := true, mbps := BitVec.ofNat 16 (u32At rq.payload 4) }

theorem State.ringGranted_frame (s : State) (rq : Request) (i : Nat) : s.ringGranted rq i = { s with
    mgmt := { s.mgmt with handles := (s.ringGranted rq i).mgmt.handles }
    ce := { s.ce with rings := (s.ringGranted rq i).ce.rings } } := rfl

section RingCreate

variable {rq : Request} {s : State} (hroute : rq.route = .stall 0)
include hroute

theorem ownRingCreate_of_disabled (hoff : s.fnOff 0 5 0 = true) : ownRingCreate rq s = (s, { st := .fnDisabled }) := by
  simp only [ownRingCreate, s.issuerInst_of_manager hroute, Request.isSec_of_manager hroute, State.fnOffFor, hoff, no,
    Bool.not_false, Bool.and_self, if_true]

theorem ownRingCreate_of_full (hoff : s.fnOff 0 5 0 = false) (hfree : s.firstFree 6 64 = none) :
    ownRingCreate rq s = (s, { st := .noResource }) := by
  simp only [ownRingCreate, s.issuerInst_of_manager hroute, Request.isSec_of_manager hroute, State.fnOffFor, hoff, no,
    Bool.and_false, Bool.false_eq_true, if_false, hfree]

theorem ownRingCreate_of_free {i : Nat} (hoff : s.fnOff 0 5 0 = false) (hfree : s.firstFree 6 64 = some i)
    (hroom : s.roomFor 6 0 0 false 1 (u32At rq.payload 4) = true) (hblock : s.blockIsOff 0x01 = false) :
    ownRingCreate rq s = (s.ringGranted rq i,
      { handle := some (mkHandle 6 0 (s.genOf 6 i) i), payload := leBytes 8 (0x14100000 + i * 0x1000) }) := by
  simp only [ownRingCreate, s.issuerInst_of_manager hroute, Request.isSec_of_manager hroute, State.fnOffFor, hoff,
    Bool.and_false, Bool.false_eq_true, if_false, hfree, hroom, hblock, not_true_eq_false, or_self]
  rfl

end RingCreate

/-! ### A fetch -/

/-- The status at fetch of a descriptor whose fields are not valid, or whose handle names no node. -/
theorem State.jobCheck_of_bad (s : State) (n : Nat) {d : Desc} (h : d.ok = false) : s.jobCheck n d = (.badParam, none) :=
  if_pos (by simp [h])

theorem State.jobCheck_of_noNode (s : State) (n : Nat) {d : Desc} (h : d.ok = true) (hkey : d.key ≠ 0) (htype : hType d.key ≠ 7) :
    s.jobCheck n d = (.badHandle, none) :=
  (if_neg (not_not_intro h)).trans ((if_neg hkey).trans (if_pos htype))

/-- A descriptor becomes a job of ring n: the head goes on, and the key that the job finds in a register is the one used last. -/
def State.jobTaken (s : State) (n slot : Nat) (d : Desc) (k : Option Nat) (engine : List Nat) : State :=
  ((s.updRing n fun g => { g with sqHead := nextIndex g.sqHead g.depth }).onKs fun ks => { ks with
    engine := match k with
      | some m => if engine.contains m then engine.filter (fun k => k ≠ m) ++ [m] else engine
      | none => engine }).onCe fun c => { c with
    jobs := c.jobs ++ [{
      id := c.nextJob, ring := n, slot := slot, desc := d, node := k, loaded := k.any (fun m => engine.contains m) || !d.keyed }]
    nextJob := c.nextJob + 1 }

theorem State.jobTaken_ring (s : State) (n slot : Nat) (d : Desc) (k : Option Nat) (engine : List Nat) (m : Nat) :
    (s.jobTaken n slot d k engine).ring m =
      if m = n then { s.ring n with sqHead := nextIndex (s.ring n).sqHead (s.ring n).depth } else s.ring m :=
  s.ring_updRing n m fun g => { g with sqHead := nextIndex g.sqHead g.depth }

section Fetch

variable {s : State} {n : Nat} {r : State × Resp × List Byte}
  (hr : r = s.dmaRead (s.ringAttr n) ((s.ring n).sqBase.toNat + (s.ring n).sqHead.toNat * 64) 64) (hok : r.2.1 = .ok)
  (hoff : s.ringOff n = false)
include hr hok hoff

theorem State.jobFetch_of_good {k : Option Nat} (hcheck : s.jobCheck n (descAt r.2.2) = (.ok, k)) :
    s.jobFetch n = r.1.jobTaken n (s.ring n).sqHead.toNat (descAt r.2.2) k s.ks.engine := by
  subst hr
  unfold State.jobFetch
  extract_lets g slot r d s1
  rw [if_neg (by rw [hok]; decide), if_neg (not_not_intro hok), if_neg (by rw [hoff]; decide), hcheck]
  cases k <;> rfl

theorem State.jobFetch_of_bad {e : Status} {k : Option Nat} (hbad : e ≠ .ok) (hcheck : s.jobCheck n (descAt r.2.2) = (e, k)) :
    s.jobFetch n = (r.1.updRing n fun g => { g with sqHead := nextIndex g.sqHead g.depth }).jobRecord n (s.ring n).sqHead.toNat
      (descAt r.2.2) e.code 0 false true := by
  subst hr
  unfold State.jobFetch
  extract_lets g slot r d s1
  rw [if_neg (by rw [hok]; decide), if_neg (not_not_intro hok), if_neg (by rw [hoff]; decide), hcheck]
  cases e
  case ok => exact absurd rfl hbad
  all_goals rfl

end Fetch

/-! ### A chunk -/

/-- A chunk of a job that writes nothing while it reads. -/
theorem State.chunk_of_read {s : State} {j : Job} {r : State × Resp × List Byte}
    (hr : r = s.dmaRead (s.ringAttr j.ring) (j.desc.src + j.input.length) j.nextChunk) (hok : r.2.1 = .ok) (hgcm : j.desc.gcm = false)
    (hxts : j.desc.isXts = false) : s.chunk j = ((r.1.updJob j.id fun _ => { j with
        input := j.input ++ r.2.2, begun := true, fail := none }).countNode j.node j.nextChunk).updRing j.ring fun g => { g with
      bucket := g.bucket - j.nextChunk * 8, bytes := g.bytes + BitVec.ofNat 64 j.nextChunk } := by
  subst hr
  unfold State.chunk
  extract_lets c t r k text w s1
  have htext : text = [] := if_neg (by simp [hgcm, hxts])
  have hw : w = (r.1, Resp.ok) := if_pos htext
  have hwrote : r.1.anyWritten t (j.desc.dst + j.data.length) text = false := by simp [State.anyWritten, htext]
  rw [if_neg (by rw [hok]; decide), if_neg (not_not_intro hok), if_neg (by rw [hw]; exact (by decide : Resp.ok ≠ .retry))]
  simp only [s1, hw, hwrote, Bool.or_false, if_true]
  rfl

theorem State.chunk_of_error {s : State} {j : Job} {r : State × Resp × List Byte}
    (hr : r = s.dmaRead (s.ringAttr j.ring) (j.desc.src + j.input.length) j.nextChunk) (hok : r.2.1 ≠ .ok) (hretry : r.2.1 ≠ .retry) :
    s.chunk j = r.1.updJob j.id fun j => { j with begun := true, fail := some (fabricStatus r.2.1) } := by
  subst hr
  exact (if_neg hretry).trans (if_pos hok)

/-! ### The end of a job -/

/-- The ring n and the engine count a job that has ended with a status. -/
def State.jobCounted (s : State) (n : Nat) (st : U16) : State :=
  (s.updRing n fun g => { g with
    cqTail := nextIndex g.cqTail g.depth, jobs := g.jobs + 1, err := if st = 0 then g.err else satInc g.err }).onCe fun c => { c with
    jobsDone := c.jobsDone + 1
    revoked := if st = 0x0020 then satInc c.revoked else c.revoked
    authFail := if st = 0x0701 then satInc c.authFail else c.authFail }

theorem State.jobCounted_ring (s : State) (n : Nat) (st : U16) : (s.jobCounted n st).ring n = { s.ring n with
    cqTail := nextIndex (s.ring n).cqTail (s.ring n).depth, jobs := (s.ring n).jobs + 1
    err := if st = 0 then (s.ring n).err else satInc (s.ring n).err } :=
  (s.ring_updRing n n fun g => { g with
    cqTail := nextIndex g.cqTail g.depth, jobs := g.jobs + 1, err := if st = 0 then g.err else satInc g.err }).trans (if_pos rfl)

theorem State.jobRecord_stored (s : State) (n slot done : Nat) (d : Desc) (st : U16) (invalid irq : Bool) {w : State × Resp × (State → State)}
    (hw : w = s.recordWrite (s.ringAttr n) ((s.ring n).cqBase.toNat + (s.ring n).cqTail.toNat * 16)
      (leBytes 4 d.cookie.toNat ++ leBytes 2 st.toNat ++ leBytes 1 d.op ++ leBytes 1 (if invalid then 1 else 0)
        ++ leBytes 4 done ++ leBytes 2 slot ++ leBytes 2 0) (if irq = true ∧ d.flags % 2 = 1 then s.msiOf 0x06 n else none)) :
    (s.jobRecord n slot d st done invalid irq).stored = (w.1.jobCounted n st).stored := by
  subst hw
  exact State.stored_of_irqOnly (State.recordWrite_after_irqOnly _ _ _ _ _ _)

section Finish

variable {s : State} {j : Job}

theorem State.jobFinish_of_xts (h : j.desc.isXts = true) : s.jobFinish j = (s, .ok, 0, j.wrote) := if_pos h

/-- A job that writes its tag or digest. -/
theorem State.jobFinish_of_writer (hxts : j.desc.isXts = false) (hpub : j.desc.op ≠ 0x0F) (hver : j.desc.verifies = false)
    {w : State × Resp} (hw : w = s.dmaWrite (s.ringAttr j.ring) j.desc.tag (s.jobTag j)) :
    s.jobFinish j = (w.1, w.2, if w.2 = .ok then 0 else fabricStatus w.2, j.wrote) := by
  subst hw
  exact (if_neg (by simp [hxts])).trans ((if_neg hpub).trans (if_neg (by simp [hver])))

/-- A staged decryption whose tag has been read. -/
theorem State.jobFinish_of_staged (hop : j.desc.op = 2) (hlen : j.desc.len ≤ 65536) {r : State × Resp × List Byte}
    (hr : r = s.dmaRead (s.ringAttr j.ring) j.desc.tag j.desc.tagLen) (hok : r.2.1 = .ok) {w : State × Resp}
    (hw : w = r.1.dmaWrite (s.ringAttr j.ring) j.desc.dst (s.jobText j)) :
    s.jobFinish j = if r.2.2 = s.jobTag j then (w.1, w.2, if w.2 = .ok then 0 else fabricStatus w.2,
        r.1.anyWritten (s.ringAttr j.ring) j.desc.dst (s.jobText j)) else (r.1, .ok, 0x0701, j.wrote) := by
  subst hr hw
  unfold State.jobFinish
  extract_lets d t put r
  rw [if_neg (by simp [Desc.isXts, d, hop]), if_neg (by simp [d, hop]), if_pos (by simp [Desc.verifies, d, hop]), if_neg (not_not_intro hok)]
  by_cases htag : r.2.2 = s.jobTag j
  · rw [if_neg (not_not_intro htag), if_pos (by simp [Desc.staged, d, hop, hlen]), if_pos htag]
  · rw [if_pos htag, if_neg htag]

end Finish

end Sys2Proof.Machine

namespace Sys2Proof.Proofs

open Sys2Proof Sys2Proof.Machine

section RingsAndJobs

variable {s : State}

theorem does_jobFetch {n : Nat} (hn : n < 64) (heng : s.jobEngine = true) (hring : (s.hFind 6 n).isSome = true) (hrun : (s.ring n).run = true)
    (hstop : (s.ring n).stopped = false) (hwork : (s.ring n).sqHead ≠ (s.ring n).sqTail) (hjobs : s.ce.jobs.length < 256)
    (hown : (s.ringJobs n).length < 32) (hroom : s.ringRoom n = true)
    (hmay : s.dmaMay (s.ringAttr n) ((s.ring n).sqBase.toNat + (s.ring n).sqHead.toNat * 64) 64 = true) :
    Does (.jobFetch n) s (s.jobFetch n) :=
  (if_neg (Nat.not_le.mpr hn)).trans ((if_pos ⟨heng, hring, hrun, by simp [hstop], hwork, hjobs, hown, hroom⟩).trans
    (congrArg fin (State.dmaBegin_of_may hmay)))

theorem does_keyRegisterLoad {i n : Nat} {j : Job} (hjob : s.job i = some j) (hnode : j.node = some n) (hload : j.loaded = false)
    (hfail : j.fail = none) (hks : s.ksReady = true) (heng : s.jobEngine = true) :
    Does (.keyRegisterLoad i) s (if s.ks.current pathFuel n = true then (s.loadEngine n).updJob i fun j => { j with loaded := true }
      else s.updJob i fun j => { j with fail := some 0x0020 }) := by
  have hexec : exec (.keyRegisterLoad i) s = execKeyRegisterLoad i s := rfl
  rw [Does, hexec]
  unfold execKeyRegisterLoad
  rw [hjob]
  dsimp only
  rw [hnode]
  dsimp only
  rw [if_neg (by simp [hload, hfail, hks, heng])]
  cases s.ks.current pathFuel n <;> rfl

theorem does_jobChunk {i : Nat} {j : Job} (hjob : s.job i = some j) (heng : s.jobEngine = true) (hstart : s.jobMayStart j = true)
    (hleft : j.input.length < j.desc.total) (hbucket : j.nextChunk * 8 ≤ (s.ring j.ring).bucket)
    (hmay : s.dmaMay (s.ringAttr j.ring) (j.desc.src + j.input.length) j.nextChunk = true) : Does (.jobChunk i) s (s.chunk j) := by
  have hexec : exec (.jobChunk i) s = execJobChunk i s := rfl
  rw [Does, hexec]
  unfold execJobChunk
  rw [hjob]
  exact (if_pos ⟨heng, hstart, hleft, hbucket⟩).trans (congrArg fin (State.dmaBegin_of_may hmay))

theorem does_jobComplete_of_failed {i : Nat} {j : Job} {st : U16} (hjob : s.job i = some j) (heng : s.jobEngine = true) (hfail : j.fail = some st) :
    Does (.jobComplete i) s (s.jobEnd j st j.wrote true) := by
  have hexec : exec (.jobComplete i) s = execJobComplete i s := rfl
  rw [Does, hexec]
  unfold execJobComplete
  rw [hjob]
  dsimp only
  rw [if_neg (not_not_intro heng), hfail]
  rfl

theorem does_jobComplete {i : Nat} {j : Job} {r : State × Resp × U16 × Bool} (hjob : s.job i = some j) (heng : s.jobEngine = true)
    (hfail : j.fail = none) (hstart : s.jobMayStart j = true) (hall : j.desc.total ≤ j.input.length) (hr : s.jobFinish j = r) :
    Does (.jobComplete i) s (if r.2.1 = .retry then s.dmaWait r.1 else r.1.jobEnd j r.2.2.1 r.2.2.2 true) := by
  have hexec : exec (.jobComplete i) s = execJobComplete i s := rfl
  rw [Does, hexec]
  unfold execJobComplete
  rw [hjob]
  dsimp only
  rw [if_neg (not_not_intro heng), hfail]
  dsimp only
  rw [if_pos ⟨hstart, hall⟩, hr]
  rfl

end RingsAndJobs

/-- Settles O58: an engine's read leaves the engine and the DRAM, so a fetch and a chunk change their own ring and job; a job ends by what its
last accesses are answered. -/
theorem ringsAndJobs : Obligations.RingsAndJobs := by
  refine ⟨?create, ?fetch, ?check, ?load, ?chunk, ?complete, ?record, ?refill⟩
  case create =>
    rintro rq s u i rfl htakes hroute
    have hserve := exec_ringCreate_of_manager hroute s
    refine ⟨fun hoff hfree hroom hblock => ?_, fun hoff => replies_of_own hserve htakes (ownRingCreate_of_disabled hroute hoff),
      fun hoff hfull => replies_of_own hserve htakes (ownRingCreate_of_full hroute hoff hfull)⟩
    refine ⟨(s.heard rq).ringGranted rq i, replies_of_own hserve htakes (ownRingCreate_of_free hroute hoff hfree hroom hblock), ?_,
      fun m hm => ?_, State.hCreate_hLive_isSome ((s.heard rq).takeFree 6 64) 6 i 0 false (bindAt rq.payload 8) (0, 1, u32At rq.payload 4),
      State.ringGranted_frame _ _ _⟩
    · exact (State.ring_updRing _ _ _ _).trans (if_pos rfl)
    · exact (State.ring_updRing _ _ _ _).trans (if_neg hm)
  case fetch =>
    intro s n hn heng hring hrun hstop hwork hjobs hown hroom hoff slot r d hmay hok
    have hdoes := does_jobFetch hn heng hring hrun hstop hwork hjobs hown hroom hmay
    have hgood (k : Option Nat) := State.jobFetch_of_good (r := r) (k := k) rfl hok hoff
    have hbad (e : Status) (k : Option Nat) := State.jobFetch_of_bad (r := r) (e := e) (k := k) rfl hok hoff
    have hstored : r.1.stored = s.stored := State.dmaRead_stored _ _ _ _
    have hce := State.ce_of_stored hstored
    clear_value r
    refine ⟨fun k hcheck => ?_, fun e k hfails hcheck => hbad e k hfails hcheck ▸ hdoes⟩
    rw [hgood k hcheck] at hdoes
    refine ⟨_, hdoes, by rw [← hce]; rfl, by rw [← hce]; rfl, ?_, fun m hm => ?_,
      (show r.1.core.dram = _ from State.dram_of_stored hstored)⟩
    · rw [State.jobTaken_ring, if_pos rfl, State.ring_of_ce hce]
    · rw [State.jobTaken_ring, if_neg hm, State.ring_of_ce hce]
  case check => exact fun s n d => ⟨s.jobCheck_of_bad n, s.jobCheck_of_noNode n⟩
  case load =>
    intro s i n j hjob hnode hload hfail hks heng
    have hdoes := does_keyRegisterLoad hjob hnode hload hfail hks heng
    refine ⟨fun hcurrent => ?_, fun hold => ?_⟩
    · rw [if_pos hcurrent] at hdoes
      refine ⟨_, hdoes, ?_, s.mem_loadEngine n, fun k hk => ?_, rfl⟩
      · rw [State.job_updJob _ _ fun j hj => by exact hj, if_pos rfl]
        exact congrArg (Option.map _) hjob
      · rw [State.job_updJob _ _ fun j hj => by exact hj, if_neg hk]
        rfl
    · rw [if_neg (by simp [hold])] at hdoes
      refine ⟨_, hdoes, ?_, fun k hk => ?_, rfl⟩
      · rw [State.job_updJob _ _ fun j hj => by exact hj, if_pos rfl, hjob]
        rfl
      · rw [State.job_updJob _ _ fun j hj => by exact hj, if_neg hk]
  case chunk =>
    intro s i j hjob heng hstart hleft hbucket hgcm hxts hmay r
    have hdoes := does_jobChunk hjob heng hstart hleft hbucket hmay
    have hread := State.chunk_of_read (j := j) (r := r) rfl
    have herror := State.chunk_of_error (j := j) (r := r) rfl
    have hstored : r.1.stored = s.stored := State.dmaRead_stored _ _ _ _
    have hid := State.id_of_job hjob
    subst hid
    clear_value r
    refine ⟨fun hok => ?_, fun hok hretry => ?_⟩
    · rw [hread hok hgcm hxts] at hdoes
      have hcount (t : State) := t.countNode_stored j.node j.nextChunk
      have hring (m : Nat) : (((r.1.updJob j.id fun _ => { j with input := j.input ++ r.2.2, begun := true, fail := none }).countNode
          j.node j.nextChunk)).ring m = s.ring m :=
        (State.ring_of_ce (State.ce_of_stored (hcount _)) m).trans (State.ring_of_ce (State.ce_of_stored hstored) m)
      refine ⟨_, hdoes, ?_, ?_, ?_, fun m hm => ?_, ?_⟩
      · refine (State.job_of_ce (State.ce_of_stored (hcount _)) j.id).trans ?_
        rw [State.job_updJob _ _ fun k hk => by exact rfl, if_pos rfl, State.job_of_ce (State.ce_of_stored hstored), hjob]
        rfl
      · rw [State.ring_updRing, if_pos rfl, hring]
      · rw [State.ring_updRing, if_pos rfl, hring]
      · rw [State.ring_updRing, if_neg hm, hring]
      · exact (State.dram_of_stored (hcount _)).trans (show r.1.core.dram = _ from State.dram_of_stored hstored)
    · rw [herror hok hretry] at hdoes
      refine ⟨_, hdoes, ?_, (show r.1.core.dram = _ from State.dram_of_stored hstored)⟩
      rw [State.job_updJob _ _ fun k hk => by exact hk, if_pos rfl, State.job_of_ce (State.ce_of_stored hstored), hjob]
      rfl
  case complete =>
    intro s i j hjob heng
    refine ⟨fun st hfail => does_jobComplete_of_failed hjob heng hfail, ?staged, ?writer, fun hfail hstart hall hxts =>
      does_jobComplete hjob heng hfail hstart hall (State.jobFinish_of_xts hxts)⟩
    case staged =>
      intro hfail hstart hall hop hlen r w hok
      have hstored : r.1.stored = s.stored := State.dmaRead_stored _ _ _ _
      have hdoes := does_jobComplete hjob heng hfail hstart hall (State.jobFinish_of_staged hop hlen (r := r) rfl hok (w := w) rfl)
      refine ⟨State.dram_of_stored hstored, ?_⟩
      clear_value w r
      by_cases htag : r.2.2 = s.jobTag j
      · rw [if_pos htag] at hdoes ⊢
        exact hdoes
      · rw [if_neg htag] at hdoes ⊢
        exact hdoes
    case writer =>
      intro hfail hstart hall hxts hpub hver w
      exact does_jobComplete hjob heng hfail hstart hall (State.jobFinish_of_writer hxts hpub hver (w := w) rfl)
  case record =>
    intro s n slot done d st invalid irq rec16 w t
    have hstored : t.stored = (w.1.jobCounted n st).stored := s.jobRecord_stored n slot done d st invalid irq (w := w) rfl
    clear_value w t
    have hce := State.ce_of_stored hstored
    have hdram : t.core.dram = (w.1.jobCounted n st).core.dram := State.dram_of_stored hstored
    refine ⟨(State.ring_of_ce hce n).trans (State.jobCounted_ring _ _ _), ?_, hdram, ?_, ?_⟩
    all_goals
      rw [hce]
      rfl
  case refill =>
    intro s heng
    refine ⟨_, if_neg (not_not_intro heng), rfl, fun n => ?_⟩
    exact Tab.get_map s.ce.rings (fun g => { g with bucket := min 524288 (g.bucket + g.mbps.toNat) }) n {} rfl

end Sys2Proof.Proofs

/-! SUPPORT. A state of the Pass bridge that a row leaves just as it is, while its interrupts have not settled. -/

namespace Sys2Proof.Machine

open Sys2Proof

/-- Read slot 0 waits behind a posted write, while the fabric's error capture holds an error that the APLIC, which takes its source 200 as
Level1, has not seen yet. -/
def waitingUnsettled : State where
  core := { fabErr := { valid := true }, aplicM := { src := [(200, 6)] } }
  pass := { slots := [{ behind := 1 }] }

theorem waitingUnsettled_settle_ne : waitingUnsettled.settle ≠ waitingUnsettled := by decide +kernel

/-- Data for a slot whose request has not been sent change nothing. -/
theorem exec_passReadDataArrive_of_behind {s : State} {i : Nat} {r : RdSlot} {ok : Bool} {d : List Byte} (hi : i < 256)
    (hslot : s.slot i = some r) (hwait : r.ph = .waiting) (hbehind : r.behind ≠ 0) : exec (.passReadDataArrive i ok d) s = .next s := by
  have hexec : exec (.passReadDataArrive i ok d) s = execPassReadDataArrive i ok d s := rfl
  rw [hexec, execPassReadDataArrive, if_neg (Nat.not_le.mpr hi), hslot]
  exact if_pos ⟨hwait, hbehind⟩

end Sys2Proof.Machine

namespace Sys2Proof.Proofs

open Sys2Proof Sys2Proof.Machine

/-- Refutes O60: the statement has data for a read that waits behind a posted write bring a state whose interrupts have settled, and in the model
that row leaves the state just as it is. They differ in `waitingUnsettled`, where a configured source has a level that its domain has not
taken. -/
theorem not_passBridge : ¬ Obligations.PassBridge := by
  intro h
  obtain ⟨-, hslots, -⟩ := h
  have hdoes : Does (.passReadDataArrive 0 true []) waitingUnsettled waitingUnsettled :=
    ((hslots waitingUnsettled 0 (by decide)).1 { behind := 1 } true [] rfl rfl (by decide)).1
  have hexec : exec (.passReadDataArrive 0 true []) waitingUnsettled = .next waitingUnsettled :=
    exec_passReadDataArrive_of_behind (r := { behind := 1 }) (by decide) rfl rfl (by decide)
  exact waitingUnsettled_settle_ne (Host.Outcome.next.inj (hdoes.symm.trans hexec))

end Sys2Proof.Proofs

/-! SUPPORT. The Pass link: what the end of its open transactions changes, and what a loss of the link and a vector of the partner leave
(R570 to R599). -/

namespace Sys2Proof.Machine

open Sys2Proof

/-! ### Requests of the partner that are outstanding -/

/-- The REMOTE requests that are outstanding. -/
def State.remotes (s : State) : List Remote := s.mgmt.amind.remotes

theorem State.remotes_of_irqOnly {s t : State} (h : s.irqOnly t) : t.remotes = s.remotes := by
  rw [State.remotes, State.irqOnly_mgmt h, State.remotes]

theorem State.stallIrq_remotes (s : State) (n : Nat) : (s.stallIrq n).remotes = s.remotes := by
  rw [State.remotes, State.stallIrq_mgmt, State.remotes]

theorem State.svcSend_remotes (s : State) (k : Nat) (r : Response) : (s.svcSend k r).remotes = s.remotes := by
  unfold State.svcSend
  split <;> rfl

theorem State.respond_remotes (s : State) (r : Route) (a : Response) : (s.respond r a).remotes = s.remotes := by
  unfold State.respond
  split
  · split
    · exact State.stallIrq_remotes _ _
    · rfl
  · exact s.svcSend_remotes _ a
  · unfold State.feedPartner
    split
    · rfl
    · split <;> rfl
  · unfold State.udpSend
    split <;> rfl

theorem State.notice_remotes (s : State) (key : Nat) (r : Response) : (s.notice key r).remotes = s.remotes := by
  unfold State.notice
  split
  · unfold State.stallNotice
    split
    · rfl
    · exact State.stallIrq_remotes _ _
    · split <;> rfl
  · split
    · exact s.svcSend_remotes _ _
    · rfl

theorem State.log_remotes (s : State) (e : Ev) (data : List Byte) : (s.log e data).remotes = s.remotes := by
  unfold State.log State.ledgerBy
  dsimp only
  split
  · rfl
  · unfold State.ledgerPut
    dsimp only
    split
    · exact (State.remotes_of_irqOnly (State.pulse_irqOnly _ _)).trans rfl
    · rfl

/-! ### What ends transactions -/

/-- From s to t, transactions of the Pass bridge end: of the bridge only windows change, and beside it responses, interrupts and Amind's
records of requests. -/
structure State.EndsOnly (s t : State) : Prop where
  frame : t = { s with core := t.core, mgmt := t.mgmt, pass := t.pass }
  dram : t.core.dram = s.core.dram
  remotes : t.remotes = s.remotes
  pass : t.pass = { s.pass with wins := t.pass.wins }

theorem State.EndsOnly.refl (s : State) : s.EndsOnly s := ⟨rfl, rfl, rfl, rfl⟩

theorem State.EndsOnly.trans {a b c : State} (h : a.EndsOnly b) (k : b.EndsOnly c) : a.EndsOnly c where
  frame := by rw [k.frame, h.frame]
  dram := k.dram.trans h.dram
  remotes := k.remotes.trans h.remotes
  pass := by rw [k.pass, h.pass]

theorem State.EndsOnly.foldl {α : Type} {f : State → α → State} (hf : ∀ (t : State) a, t.EndsOnly (f t a)) (l : List α) (s : State) :
    s.EndsOnly (l.foldl f s) :=
  List.foldlRecOn (motive := s.EndsOnly) l f (.refl s) fun _ h a _ => h.trans (hf _ a)

theorem State.EndsOnly.of_mgmtOnly {s t : State} (h : s.mgmtOnly t) (hrem : t.remotes = s.remotes) : s.EndsOnly t :=
  ⟨by rw [h]; rfl, State.mgmtOnly_dram h, hrem, by rw [State.mgmtOnly_pass h]⟩

theorem State.updWin_ends (s : State) (w : Nat) (f : Window → Window) : s.EndsOnly (s.updWin w f) := ⟨rfl, rfl, rfl, rfl⟩

theorem State.countFerr_ends (s : State) (a : Nat) : s.EndsOnly (s.countFerr a) := by
  unfold State.countFerr
  split
  · exact s.updWin_ends _ _
  · exact .refl s

theorem State.capture_ferr (s : State) (t : Attr) (a : Nat) (wr : Bool) : s.capture t a wr .ferr = s := if_neg (by decide)

theorem State.settled_ends (s : State) (t : Attr) (r : Resp) (d : List Byte) : s.EndsOnly (s.settled t r d) := by
  have hreply : s.EndsOnly (s.portReply t r d) := by
    unfold State.portReply
    split
    · exact ⟨rfl, rfl, rfl, rfl⟩
    · split
      · exact .refl s
      · exact ⟨rfl, rfl, rfl, rfl⟩
  unfold State.settled
  dsimp only
  split
  · exact hreply.trans ⟨rfl, rfl, rfl, rfl⟩
  · exact hreply

theorem State.answerHeld_ends (s : State) (key : Nat) (seq : U16) (a : Ans) : s.EndsOnly (s.answerHeld key seq a) := by
  unfold State.answerHeld
  split
  · exact .refl s
  · split
    · exact .of_mgmtOnly (State.mgmtOnly_trans (State.record_mgmtOnly _ _ _) (State.respond_mgmtOnly _ _ _)) (State.respond_remotes _ _ _)
    · exact .refl s

theorem State.endClear_ends (s : State) (w : Nat) : s.EndsOnly (s.endClear w) := by
  unfold State.endClear
  split
  · exact .refl s
  · exact (s.updWin_ends _ _).trans (State.answerHeld_ends _ _ _ _)

/-- A write is answered FERR at its port or by its tracker. -/
def State.ferrOf (s : State) (x : Xact) : State := (s.countFerr x.addr.toNat).capture x.attr x.addr.toNat true .ferr

theorem State.ferrOf_ends (s : State) (x : Xact) : s.EndsOnly (s.ferrOf x) := by
  rw [State.ferrOf, State.capture_ferr]
  exact s.countFerr_ends _

/-- A posted write that is not sent any more is caught by its window. -/
def State.discard (s : State) (r : Posted) : State :=
  if ¬ s.pass.wins.has r.win then s else s.updWin r.win fun u =>
    { u.caught (farAddr r.x.addr) r.x.attr.init r.x.attr.inst r.x.attr.sec 6 with
      discarded := satInc (u.caught (farAddr r.x.addr) r.x.attr.init r.x.attr.inst r.x.attr.sec 6).discarded }

theorem State.discard_ends (s : State) (r : Posted) : s.EndsOnly (s.discard r) := by
  unfold State.discard
  split
  · exact .refl s
  · exact s.updWin_ends _ _

/-- A write that a tracker holds is answered FERR. -/
def State.trackerFerr (s : State) (r : Tracker) : State := (s.ferrOf r.x).settled r.x.attr .ferr []

/-- A posted write that waits at its port is answered FERR. -/
def State.portFerr (s : State) (r : Posted) : State := s.ferrOf r.x

/-- A record write that waits for a tracker is answered FERR. -/
def State.recordFerr (s : State) (r : RecWait) : State := s.ferrOf r.x

theorem State.trackerFerr_ends (s : State) (r : Tracker) : s.EndsOnly (s.trackerFerr r) := (s.ferrOf_ends r.x).trans (State.settled_ends _ _ _ _)
theorem State.portFerr_ends (s : State) (r : Posted) : s.EndsOnly (s.portFerr r) := s.ferrOf_ends r.x
theorem State.recordFerr_ends (s : State) (r : RecWait) : s.EndsOnly (s.recordFerr r) := s.ferrOf_ends r.x

/-- Open transactions have received their responses; those that the bridge holds are still there. -/
def State.passFerr (s : State) : State :=
  let s2 := s.pass.trackers.foldl State.trackerFerr s
  let s3 := s2.pass.posted.foldl State.discard s2
  let s4 := s3.pass.portWait.foldl State.portFerr s3
  s4.pass.recWait.foldl State.recordFerr s4

theorem State.passFerr_ends (s : State) : s.EndsOnly s.passFerr := by
  unfold State.passFerr
  extract_lets s2 s3 s4
  have htrackers : s.EndsOnly s2 := .foldl State.trackerFerr_ends _ _
  have hposted : s2.EndsOnly s3 := .foldl State.discard_ends _ _
  have hports : s3.EndsOnly s4 := .foldl State.portFerr_ends _ _
  exact ((htrackers.trans hposted).trans hports).trans (.foldl State.recordFerr_ends _ _)

/-- Slots that await data become errors. -/
def Pass.slotsFail (p : Pass) : Pass := { p with slots := p.slots.map fun r => if r.ph = .waiting then { r with ph := .error } else r }

/-- The bridge holds no write. -/
def Pass.noWrites (p : Pass) : Pass := { p with trackers := [], recWait := [], posted := [], portWait := [] }

theorem State.passEnd_eq (s : State) : s.passEnd = ((s.onPass Pass.slotsFail).passFerr.onPass Pass.noWrites).pass.wins.foldl
    (fun t e => t.endClear e.1) ((s.onPass Pass.slotsFail).passFerr.onPass Pass.noWrites) := rfl

/-- The end of open transactions leaves all but the bridge's transactions, responses, interrupts and Amind's records of requests. -/
theorem State.passEnd_frame (s : State) : s.passEnd = { s with core := s.passEnd.core, mgmt := s.passEnd.mgmt, pass := s.passEnd.pass }
    ∧ s.passEnd.core.dram = s.core.dram ∧ s.passEnd.remotes = s.remotes
    ∧ s.passEnd.pass = { s.pass.slotsFail.noWrites with wins := s.passEnd.pass.wins } := by
  have hferr := (s.onPass Pass.slotsFail).passFerr_ends
  have hclear : ((s.onPass Pass.slotsFail).passFerr.onPass Pass.noWrites).EndsOnly s.passEnd :=
    State.EndsOnly.foldl (fun t (e : Nat × Window) => t.endClear_ends e.1) _ _
  refine ⟨?_, hclear.dram.trans hferr.dram, hclear.remotes.trans hferr.remotes, ?_⟩
  · rw [hclear.frame, hferr.frame]
    rfl
  · refine hclear.pass.trans ?_
    generalize s.passEnd.pass.wins = wins
    exact congrArg (fun p : Pass => { p.noWrites with wins := wins }) hferr.pass

/-! ### Windows whose posted writes are discarded -/

/-- From s to t, windows stay, no error clear of theirs begins or ends, and none loses STICKY. -/
structure State.WinsKept (s t : State) : Prop where
  clearing : ∀ w, (t.win w).clearing = (s.win w).clearing
  sticky : ∀ w, (s.win w).sticky = true → (t.win w).sticky = true
  has : ∀ w, s.pass.wins.has w = true → t.pass.wins.has w = true

theorem State.WinsKept.of_pass {s t : State} (h : t.pass = s.pass) : s.WinsKept t :=
  ⟨fun w => by rw [State.win, h, State.win], fun w hw => by rwa [State.win, h], fun w hw => by rwa [h]⟩

theorem State.WinsKept.trans {a b c : State} (h : a.WinsKept b) (k : b.WinsKept c) : a.WinsKept c :=
  ⟨fun w => (k.clearing w).trans (h.clearing w), fun w hw => k.sticky w (h.sticky w hw), fun w hw => k.has w (h.has w hw)⟩

theorem State.WinsKept.foldl {α : Type} {f : State → α → State} (hf : ∀ (t : State) a, t.WinsKept (f t a)) (l : List α) (s : State) :
    s.WinsKept (l.foldl f s) :=
  List.foldlRecOn (motive := s.WinsKept) l f (.of_pass rfl) fun _ h a _ => h.trans (hf _ a)

theorem State.updWin_winsKept (s : State) (w : Nat) {f : Window → Window} (hclearing : ∀ u, (f u).clearing = u.clearing)
    (hsticky : ∀ u, u.sticky = true → (f u).sticky = true) : s.WinsKept (s.updWin w f) := by
  refine ⟨fun k => ?_, fun k hk => ?_, fun k hk => ?_⟩
  · rw [State.win_updWin]
    split
    · next h => rw [hclearing, h]
    · rfl
  · rw [State.win_updWin]
    split
    · next h => exact hsticky _ (h ▸ hk)
    · exact hk
  · change (Tab.put s.pass.wins w _).has k = true
    rw [Tab.has_put, hk, Bool.or_true]

theorem Window.caught_clearing (u : Window) (a : A40) (o : Byte) (n : BitVec 6) (sec : Bool) (c : Nat) :
    (u.caught a o n sec c).clearing = u.clearing ∧ (u.caught a o n sec c).sticky = true := by
  unfold Window.caught
  split <;> exact ⟨rfl, rfl⟩

theorem State.ferrOf_winsKept (s : State) (x : Xact) : s.WinsKept (s.ferrOf x) := by
  rw [State.ferrOf, State.capture_ferr]
  unfold State.countFerr
  split
  · exact s.updWin_winsKept _ (fun _ => rfl) fun _ h => h
  · exact .of_pass rfl

theorem State.settled_pass (s : State) (t : Attr) (r : Resp) (d : List Byte) : (s.settled t r d).pass = s.pass := by
  have hreply : (s.portReply t r d).pass = s.pass := by
    unfold State.portReply
    split
    · rfl
    · split <;> rfl
  unfold State.settled
  dsimp only
  split <;> exact hreply

theorem State.trackerFerr_winsKept (s : State) (r : Tracker) : s.WinsKept (s.trackerFerr r) :=
  (s.ferrOf_winsKept r.x).trans (.of_pass (State.settled_pass _ _ _ _))

theorem State.portFerr_winsKept (s : State) (r : Posted) : s.WinsKept (s.portFerr r) := s.ferrOf_winsKept r.x
theorem State.recordFerr_winsKept (s : State) (r : RecWait) : s.WinsKept (s.recordFerr r) := s.ferrOf_winsKept r.x

theorem State.discard_winsKept (s : State) (r : Posted) : s.WinsKept (s.discard r) := by
  unfold State.discard
  split
  · exact .of_pass rfl
  · exact s.updWin_winsKept _ (fun u => (u.caught_clearing _ _ _ _ _).1) fun u _ => (u.caught_clearing _ _ _ _ _).2

theorem State.discard_sticky {s : State} {r : Posted} (h : s.pass.wins.has r.win = true) : ((s.discard r).win r.win).sticky = true := by
  rw [State.discard, if_neg (not_not_intro h), State.win_updWin, if_pos rfl]
  exact ((s.win r.win).caught_clearing _ _ _ _ _).2

/-- Every window of a discarded write is sticky. -/
theorem State.discards_sticky {l : List Posted} {r : Posted} (hr : r ∈ l) :
    ∀ {s : State}, s.pass.wins.has r.win = true → ((l.foldl State.discard s).win r.win).sticky = true := by
  induction l with
  | nil => exact absurd hr List.not_mem_nil
  | cons e l ih =>
    intro s hhas
    rcases List.mem_cons.mp hr with rfl | hr
    · exact (State.WinsKept.foldl State.discard_winsKept l (s.discard r)).sticky _ (State.discard_sticky hhas)
    · exact ih hr ((s.discard_winsKept e).has _ hhas)

theorem State.passFerr_winsKept (s : State) : s.WinsKept s.passFerr := by
  unfold State.passFerr
  extract_lets s2 s3 s4
  have htrackers : s.WinsKept s2 := .foldl State.trackerFerr_winsKept _ _
  have hposted : s2.WinsKept s3 := .foldl State.discard_winsKept _ _
  have hports : s3.WinsKept s4 := .foldl State.portFerr_winsKept _ _
  exact ((htrackers.trans hposted).trans hports).trans (.foldl State.recordFerr_winsKept _ _)

theorem State.passFerr_sticky {s : State} {r : Posted} (hr : r ∈ s.pass.posted) (hhas : s.pass.wins.has r.win = true) :
    (s.passFerr.win r.win).sticky = true := by
  unfold State.passFerr
  extract_lets s2 s3 s4
  have htrackers : s.WinsKept s2 := .foldl State.trackerFerr_winsKept _ _
  have hsame : s.EndsOnly s2 := .foldl State.trackerFerr_ends _ _
  have hr2 : r ∈ s2.pass.posted := by rwa [hsame.pass]
  have hsticky : (s3.win r.win).sticky = true := State.discards_sticky hr2 (htrackers.has _ hhas)
  have hports : s3.WinsKept s4 := .foldl State.portFerr_winsKept _ _
  have hrecords : s4.WinsKept (s4.pass.recWait.foldl State.recordFerr s4) := .foldl State.recordFerr_winsKept _ _
  exact hrecords.sticky _ (hports.sticky _ hsticky)

theorem State.endClear_of_idle {s : State} {w : Nat} (h : (s.win w).clearing = none) : s.endClear w = s := by
  unfold State.endClear
  rw [h]

theorem State.noWrites_win (s : State) (w : Nat) : (s.onPass Pass.noWrites).win w = s.win w := rfl

/-- Where no error clear is pending, the end of open transactions leaves the windows of the discarded writes sticky. -/
theorem State.passEnd_sticky {s : State} (hidle : ∀ w, (s.win w).clearing = none) {r : Posted} (hr : r ∈ s.pass.posted)
    (hhas : s.pass.wins.has r.win = true) : (s.passEnd.win r.win).sticky = true := by
  have hferr := (s.onPass Pass.slotsFail).passFerr_winsKept
  have hsticky : ((s.onPass Pass.slotsFail).passFerr.win r.win).sticky = true := State.passFerr_sticky hr hhas
  rw [State.passEnd_eq]
  generalize (s.onPass Pass.slotsFail).passFerr = t at hferr hsticky ⊢
  have hclear (w : Nat) : ((t.onPass Pass.noWrites).win w).clearing = none := by
    rw [State.noWrites_win, hferr.clearing]
    exact hidle w
  have hend : (t.onPass Pass.noWrites).pass.wins.foldl (fun v e => v.endClear e.1) (t.onPass Pass.noWrites) = t.onPass Pass.noWrites :=
    List.foldlRecOn (motive := fun v => v = t.onPass Pass.noWrites) _ _ rfl fun v hv e _ => by
      rw [hv, State.endClear_of_idle (hclear e.1)]
  rw [hend, State.noWrites_win]
  exact hsticky

/-! ### The port of the link in the switch (R597) -/

theorem State.pxLink_swPort (s : State) (q : Nat) :
    s.pxLink.swPort q = if q = 29 then { s.swPort 29 with link := s.linkFull } else s.swPort q := by
  have hport := State.swPort_updSwPort s 29 q fun u => { u with link := s.linkFull }
  unfold State.pxLink
  dsimp only
  split
  · rw [State.tabDown_rest]
    exact hport
  · exact hport

theorem State.pxLink_frame (s : State) : s.pxLink = { s with
    tb := { s.tb with gstate := s.pxLink.tb.gstate }
    eth := { s.eth with bridge := s.pxLink.eth.bridge, gevent := s.pxLink.eth.gevent }
    sw := { s.sw with ports := s.pxLink.sw.ports } } := by
  unfold State.pxLink
  dsimp only
  split
  · conv_lhs => rw [State.tabDown_rest]
    rw [State.tabDown_rest]
    rfl
  · rfl

/-- The bridge is told only where PX goes down. -/
theorem State.pxLink_of_kept {s : State} (h : (s.swPort 29).link = false ∨ s.linkFull = true) :
    s.pxLink = s.updSwPort 29 fun u => { u with link := s.linkFull } := by
  unfold State.pxLink
  exact if_neg (by rcases h with h | h <;> simp [h])

theorem State.pxLink_bridge {s : State} (hlink : (s.swPort 29).link = true) (hdown : s.linkFull = false) (hon : s.bridgeOn 29 = true) :
    (s.pxLink.eth.bridge.port 29).asCapable = false ∧ (s.pxLink.eth.bridge.port 29).info = none := by
  have heq : s.pxLink = (s.updSwPort 29 fun u => { u with link := s.linkFull }).tabDown 29 := if_pos (by simp [hlink, hdown])
  rw [heq]
  exact State.tabDown_port (s := s.updSwPort 29 _) hon

/-- The links of the switch's ports, and the bridge. -/
def State.links (s : State) : (Nat → Bool) × Bridge := (fun q => (s.swPort q).link, s.eth.bridge)

theorem State.updSwPort_links (s : State) (p : Nat) {f : SwPort → SwPort} (hf : ∀ u, (f u).link = u.link) :
    (s.updSwPort p f).links = s.links := by
  refine congrArg (fun l => (l, s.eth.bridge)) (funext fun q => ?_)
  rw [State.swPort_updSwPort]
  split
  · next h => rw [hf, h]
  · rfl

theorem State.updEthPort_links (s : State) (p : Nat) (f : EthPort → EthPort) : (s.updEthPort p f).links = s.links := rfl

theorem State.fcSend_links (s : State) (p : Nat) (f : FcFrame) : (s.fcSend p f).links = s.links := by
  unfold State.fcSend
  split
  · rfl
  · split
    · exact (State.updEthPort_links _ _ _).trans (s.updSwPort_links p fun _ => rfl)
    · rfl

theorem State.flowControl_links (s : State) (p : Nat) : (s.flowControl p).links = s.links := by
  unfold State.flowControl
  extract_lets u fc pfc s1
  have hflags : s1.links = s.links := s.updSwPort_links p fun _ => rfl
  split
  · exact (s1.fcSend_links _ _).trans hflags
  · split
    · exact (s1.fcSend_links _ _).trans hflags
    · exact hflags

theorem State.freeFrame_links (s : State) (f : Frame) : (s.freeFrame f).links = s.links := by
  unfold State.freeFrame
  extract_lets s1 t s2
  have hcells : s2.links = s.links := by
    have hport : s1.links = s.links := s.updSwPort_links _ fun _ => rfl
    dsimp only [s2]
    split
    · exact hport
    · split <;> exact hport
  refine (State.flowControl_links _ _).trans (Eq.trans ?_ hcells)
  refine congrArg (fun l => (l, s2.eth.bridge)) (funext fun q => ?_)
  have hport := Tab.get_map s2.sw.ports (fun u : SwPort => { u with inFlight := u.inFlight.filter fun i => i ≠ f.id }) q {} rfl
  exact (congrArg SwPort.link hport).trans rfl

theorem State.dropDest_links (s : State) (i p : Nat) : (s.dropDest i p).links = s.links := by
  have hstrip : (s.strip i p).links = s.links := State.updSwPort_links _ p fun _ => rfl
  change ((s.strip i p).freeIfDone i).links = s.links
  unfold State.freeIfDone
  split
  · exact hstrip
  · split
    · exact (State.freeFrame_links _ _).trans hstrip
    · exact hstrip

theorem State.dropAll_links (s : State) (l : List Frame) (p : Nat) : (s.dropAll l p).links = s.links :=
  List.foldlRecOn (motive := fun t : State => t.links = s.links) l _ rfl fun t h (f : Frame) _ => (t.dropDest_links f.id p).trans h

/-- The frames for PX are lost, and counted. -/
theorem State.pxFlush_eq (s : State) : s.pxFlush = (s.dropAll (s.framesFor 29) 29).onPass fun p => { p with
    cnt := { p.cnt with flush := satAdd p.cnt.flush (s.framesFor 29).length } } := rfl

theorem State.pxFlush_links (s : State) : s.pxFlush.links = s.links := s.dropAll_links _ _

theorem State.pxFlush_frame (s : State) : s.pxFlush = { s with
    sw := s.pxFlush.sw, eth := s.pxFlush.eth, pass := { s.pass with cnt := s.pxFlush.pass.cnt } } := by
  obtain ⟨-, -, -, hrest⟩ := s.dropAll_lossOnly (s.framesFor 29) 29
  rw [State.pxFlush_eq, hrest]
  rfl

/-- No frame waits for PX any more. -/
theorem State.pxFlush_frames (s : State) : s.pxFlush.sw.frames.all (fun f => !f.dests.contains 29) = true := by
  rw [List.all_eq_true]
  intro f hf
  by_contra hno
  have hp : 29 ∈ f.dests := by simpa using hno
  obtain ⟨hframes, -⟩ := s.dropAll_lossOnly (s.framesFor 29) 29
  obtain ⟨g, hg, hid, hdests⟩ := hframes f hf
  have hlost : g ∈ s.framesFor 29 := List.mem_filter.mpr ⟨hg, List.contains_iff_mem.mpr (hdests 29 hp)⟩
  exact State.dropAll_dests hp hf g hlost hid.symm

/-! ### The link goes down -/

/-- Open transactions have ended, and no poison mark is left. -/
def State.left (s : State) : State := s.passEnd.onPass fun p => { p with poisoned := [] }

theorem State.passLeave_eq (s : State) : s.passLeave = s.left.pxLink.pxFlush := rfl

theorem State.left_frame (s : State) : s.left = { s with core := s.left.core, mgmt := s.left.mgmt, pass := s.left.pass } := by
  obtain ⟨hframe, -⟩ := s.passEnd_frame
  rw [State.left, hframe]
  rfl

theorem State.left_pass (s : State) : s.left.pass = { s.pass.slotsFail.noWrites with poisoned := [], wins := s.passEnd.pass.wins } := by
  obtain ⟨-, -, -, hpass⟩ := s.passEnd_frame
  generalize hwins : s.passEnd.pass.wins = wins at hpass ⊢
  exact congrArg (fun p : Pass => { p with poisoned := [] }) hpass

theorem State.left_swPort (s : State) (p : Nat) : s.left.swPort p = s.swPort p := by
  have hsw : s.left.sw = s.sw := (congrArg State.sw s.left_frame).trans rfl
  rw [State.swPort, hsw, State.swPort]

theorem State.left_bridgeOn (s : State) (p : Nat) : s.left.bridgeOn p = s.bridgeOn p := by
  have heth : s.left.eth = s.eth := (congrArg State.eth s.left_frame).trans rfl
  have hsupply : s.left.supply = s.supply := (congrArg State.supply s.left_frame).trans rfl
  rw [State.bridgeOn, heth, hsupply, State.bridgeOn]

theorem State.left_linkFull (s : State) : s.left.linkFull = s.linkFull := by
  rw [State.linkFull, State.left_pass]
  rfl

theorem State.left_supply (s : State) : s.left.supply = s.supply := (congrArg State.supply s.left_frame).trans rfl
theorem State.left_ps (s : State) : s.left.ps = s.ps := (congrArg State.ps s.left_frame).trans rfl

theorem State.pxLink_supply (s : State) : s.pxLink.supply = s.supply := (congrArg State.supply s.pxLink_frame).trans rfl
theorem State.pxLink_ps (s : State) : s.pxLink.ps = s.ps := (congrArg State.ps s.pxLink_frame).trans rfl
theorem State.pxLink_core (s : State) : s.pxLink.core = s.core := (congrArg State.core s.pxLink_frame).trans rfl
theorem State.pxLink_pass (s : State) : s.pxLink.pass = s.pass := (congrArg State.pass s.pxLink_frame).trans rfl

theorem State.pxFlush_supply (s : State) : s.pxFlush.supply = s.supply := (congrArg State.supply s.pxFlush_frame).trans rfl
theorem State.pxFlush_ps (s : State) : s.pxFlush.ps = s.ps := (congrArg State.ps s.pxFlush_frame).trans rfl
theorem State.pxFlush_core (s : State) : s.pxFlush.core = s.core := (congrArg State.core s.pxFlush_frame).trans rfl
theorem State.pxFlush_pass (s : State) : s.pxFlush.pass = { s.pass with cnt := s.pxFlush.pass.cnt } :=
  (congrArg State.pass s.pxFlush_frame).trans rfl

theorem State.passLeave_supply (s : State) : s.passLeave.supply = s.supply :=
  (State.pxFlush_supply _).trans ((State.pxLink_supply _).trans s.left_supply)

theorem State.passLeave_ps (s : State) : s.passLeave.ps = s.ps := (State.pxFlush_ps _).trans ((State.pxLink_ps _).trans s.left_ps)

theorem State.passLeave_dram (s : State) : s.passLeave.core.dram = s.core.dram := by
  obtain ⟨-, hdram, -⟩ := s.passEnd_frame
  rw [State.passLeave_eq, State.pxFlush_core, State.pxLink_core]
  exact hdram

theorem State.passLeave_pass (s : State) : s.passLeave.pass
    = { s.pass.slotsFail.noWrites with poisoned := [], wins := s.passEnd.pass.wins, cnt := s.passLeave.pass.cnt } := by
  have hlink : s.left.pxLink.pass = { s.pass.slotsFail.noWrites with poisoned := [], wins := s.passEnd.pass.wins } :=
    s.left.pxLink_pass.trans s.left_pass
  rw [State.passLeave_eq]
  generalize s.left.pxLink = u at hlink ⊢
  exact u.pxFlush_pass.trans (congrArg (fun p : Pass => { p with cnt := u.pxFlush.pass.cnt }) hlink)

/-- What stays when the link leaves full operation, and what becomes of the bridge. -/
theorem State.passLeave_rest (s : State) : s.passLeave.supply = s.supply ∧ s.passLeave.ps = s.ps
    ∧ s.passLeave.core.dram = s.core.dram
    ∧ s.passLeave.pass = { s.pass.slotsFail.noWrites with poisoned := [], wins := s.passEnd.pass.wins, cnt := s.passLeave.pass.cnt } :=
  ⟨s.passLeave_supply, s.passLeave_ps, s.passLeave_dram, s.passLeave_pass⟩

theorem State.link_of_links {s t : State} (h : t.links = s.links) (q : Nat) : (t.swPort q).link = (s.swPort q).link :=
  congrFun (congrArg Prod.fst h) q

theorem State.bridge_of_links {s t : State} (h : t.links = s.links) : t.eth.bridge = s.eth.bridge := congrArg Prod.snd h

theorem State.passLeave_links (s : State) : s.passLeave.links = s.left.pxLink.links := by
  rw [State.passLeave_eq]
  exact State.pxFlush_links _

theorem State.passLeave_frames (s : State) : s.passLeave.sw.frames.all (fun f => !f.dests.contains 29) = true := by
  rw [State.passLeave_eq]
  exact State.pxFlush_frames _

/-- The link is down with no lane. -/
def State.passDown (s : State) : State := s.onPass fun p => { p with lanes := 0, link := .down, event := p.event ||| 1 }

theorem State.linkLost_of_up {s : State} (hup : s.pass.link = .up) :
    s.linkLost = if s.linkFull then s.passDown.passLeave else s.passDown := by
  have hdown : (s.onPass fun p => { p with lanes := 0 }).setLink .down = s.passDown := by
    have hne : (s.onPass fun p => { p with lanes := 0 }).pass.link ≠ .down := by
      rw [State.onPass_pass, hup]
      decide
    refine (if_neg hne).trans ?_
    rfl
  unfold State.linkLost
  rw [hdown]

/-- A link that goes down: its state and its event. -/
theorem State.linkLost_rest {s : State} (hup : s.pass.link = .up) : s.linkLost.pass.link = .down ∧ s.linkLost.pass.lanes = 0
    ∧ s.linkLost.pass.event = s.pass.event ||| 1 ∧ s.linkLost.pass.partner = s.pass.partner ∧ s.linkLost.supply = s.supply
    ∧ s.linkLost.ps = s.ps := by
  rw [State.linkLost_of_up hup]
  split
  · obtain ⟨hsupply, hps, -, hpass⟩ := s.passDown.passLeave_rest
    rw [hpass]
    exact ⟨rfl, rfl, rfl, rfl, hsupply, hps⟩
  · exact ⟨rfl, rfl, rfl, rfl, rfl, rfl⟩

theorem State.linkFull_iff (s : State) : s.linkFull = true ↔ s.pass.link = .up ∧ s.pass.reduced = false := by
  simp [State.linkFull]

theorem State.linkLost_of_full {s : State} (hfull : s.linkFull = true) : s.linkLost = s.passDown.passLeave := by
  rw [State.linkLost_of_up ((State.linkFull_iff s).mp hfull).1, if_pos hfull]

theorem State.passDown_linkFull (s : State) : s.passDown.linkFull = false := by simp [State.linkFull, State.passDown]

/-- PX is down once the link has left full operation. -/
theorem State.linkLost_port {s : State} (hfull : s.linkFull = true) : (s.linkLost.swPort 29).link = false
    ∧ ((s.swPort 29).link = true → s.bridgeOn 29 = true → (s.linkLost.eth.bridge.port 29).asCapable = false
      ∧ (s.linkLost.eth.bridge.port 29).info = none)
    ∧ s.linkLost.sw.frames.all (fun f => !f.dests.contains 29) = true := by
  have hdown : s.passDown.left.linkFull = false := s.passDown.left_linkFull.trans s.passDown_linkFull
  have hlinks := s.passDown.passLeave_links
  rw [State.linkLost_of_full hfull]
  refine ⟨?_, fun hlink hon => ?_, s.passDown.passLeave_frames⟩
  · rw [State.link_of_links hlinks, State.pxLink_swPort, if_pos rfl, hdown]
  · rw [State.bridge_of_links hlinks]
    exact State.pxLink_bridge ((congrArg SwPort.link (s.passDown.left_swPort 29)).trans hlink) hdown ((s.passDown.left_bridgeOn 29).trans hon)

/-- Where no error clear is pending, the windows of the discarded writes are sticky once the link has left full operation. -/
theorem State.linkLost_sticky {s : State} (hfull : s.linkFull = true) (hidle : ∀ w, (s.win w).clearing = none) {r : Posted}
    (hr : r ∈ s.pass.posted) (hhas : s.pass.wins.has r.win = true) : (s.linkLost.win r.win).sticky = true := by
  obtain ⟨-, -, -, hpass⟩ := s.passDown.passLeave_rest
  have hwins : s.passDown.passLeave.pass.wins = s.passDown.passEnd.pass.wins := by rw [hpass]
  rw [State.linkLost_of_full hfull, State.win, hwins]
  exact State.passEnd_sticky (s := s.passDown) hidle hr hhas

/-! ### Training and lanes (R570, R571) -/

theorem State.setLink_of_ne {s : State} {l : LinkState} (h : s.pass.link ≠ l) :
    s.setLink l = s.onPass fun p => { p with link := l, event := p.event ||| 1 } := if_neg h

section Training

variable {s : State} {lanes : BitVec 4}

theorem passLinkTrained_clash (hpaired : s.pass.paired = true) (hmode : s.linkMode = true) (hlanes : lanes ≠ 0)
    (htraining : s.pass.link = .training) : ∃ t, Does (.passLinkTrained true lanes) s t
      ∧ t.pass = { s.pass with link := .down, event := s.pass.event ||| 1 ||| 32 } ∧ t.supply = s.supply ∧ t.sw = s.sw ∧ t.ps = s.ps := by
  let u := (s.setLink .down).passEvent 5
  let role : Byte := BitVec.ofNat 8 (if s.roleA then 0 else 1)
  have hlog : u.mgmtOnly (u.log .pairRoleClash [role]) := u.log_mgmtOnly _ _
  have hu : u = s.onPass fun p => { p with link := .down, event := p.event ||| 1 ||| 32 } := by
    dsimp only [u]
    rw [State.setLink_of_ne (by rw [htraining]; decide)]
    rfl
  have hdoes : Does (.passLinkTrained true lanes) s (u.log .pairRoleClash [role]) := by
    have hexec : exec (.passLinkTrained true lanes) s = execPassLinkTrained true lanes s := rfl
    have hok : ¬ (¬ (s.pass.paired ∧ s.linkMode ∧ s.pass.link = .training) ∨ lanes = 0) :=
    not_or_intro (not_not_intro ⟨hpaired, hmode, htraining⟩) hlanes
    exact hexec.trans ((if_neg hok).trans (if_pos rfl))
  refine ⟨_, hdoes, ?_, ?_, ?_, ?_⟩
  · rw [State.mgmtOnly_pass hlog, hu]
    rfl
  · rw [State.mgmtOnly_supply hlog, hu]
    rfl
  · rw [State.mgmtOnly_sw hlog, hu]
    rfl
  · rw [State.mgmtOnly_ps hlog, hu]
    rfl

/-- The link is up on its lanes. -/
def State.linkUp (s : State) (lanes : BitVec 4) : State := s.onPass fun p => { p with
  link := .up, lanes := runLanes lanes, reduced := decide (s.aon.mode = .part), event := p.event ||| 1 }

theorem State.linkUp_linkFull (s : State) (lanes : BitVec 4) : (s.linkUp lanes).linkFull = decide (s.aon.mode ≠ .part) := by
  simp [State.linkFull, State.linkUp]

theorem does_passLinkTrained (hpaired : s.pass.paired = true) (hmode : s.linkMode = true) (hlanes : lanes ≠ 0)
    (htraining : s.pass.link = .training) : Does (.passLinkTrained false lanes) s (s.linkUp lanes).pxLink := by
  have hexec : exec (.passLinkTrained false lanes) s = execPassLinkTrained false lanes s := rfl
  have hok : ¬ (¬ (s.pass.paired ∧ s.linkMode ∧ s.pass.link = .training) ∨ lanes = 0) :=
    not_or_intro (not_not_intro ⟨hpaired, hmode, htraining⟩) hlanes
  have hup : (s.onPass fun p => { p with lanes := runLanes lanes, reduced := decide (s.aon.mode = .part) }).setLink .up = s.linkUp lanes := by
    have hne : (s.onPass fun p => { p with lanes := runLanes lanes, reduced := decide (s.aon.mode = .part) }).pass.link ≠ .up := by
      rw [State.onPass_pass, htraining]
      decide
    exact State.setLink_of_ne hne
  rw [Does, hexec, ← hup]
  exact (if_neg hok).trans (if_neg Bool.false_ne_true)

theorem passLinkTrained_up (hpaired : s.pass.paired = true) (hmode : s.linkMode = true) (hlanes : lanes ≠ 0)
    (htraining : s.pass.link = .training) : ∃ t, Does (.passLinkTrained false lanes) s t
      ∧ t.pass = { s.pass with
          link := .up, lanes := runLanes lanes, reduced := decide (s.aon.mode = .part), event := s.pass.event ||| 1 }
      ∧ (t.swPort 29).link = decide (s.aon.mode ≠ .part) ∧ (∀ p, p ≠ 29 → t.swPort p = s.swPort p)
      ∧ ((s.swPort 29).link = false ∨ s.aon.mode ≠ .part → t.eth = s.eth ∧ t.tb = s.tb)
      ∧ t = { s with
          pass := t.pass
          tb := { s.tb with gstate := t.tb.gstate }
          eth := { s.eth with bridge := t.eth.bridge, gevent := t.eth.gevent }
          sw := { s.sw with ports := t.sw.ports } } := by
  have hframe := (s.linkUp lanes).pxLink_frame
  have hpass : (s.linkUp lanes).pxLink.pass = (s.linkUp lanes).pass := (congrArg State.pass hframe).trans rfl
  refine ⟨(s.linkUp lanes).pxLink, does_passLinkTrained hpaired hmode hlanes htraining, hpass, ?_, fun p hp => ?_, fun hkept => ?_, ?_⟩
  · rw [State.pxLink_swPort, if_pos rfl, State.linkUp_linkFull]
  · rw [State.pxLink_swPort, if_neg hp]
    rfl
  · have hkept' : ((s.linkUp lanes).swPort 29).link = false ∨ (s.linkUp lanes).linkFull = true := by
      rw [State.linkUp_linkFull]
      exact hkept.imp id decide_eq_true
    rw [State.pxLink_of_kept hkept']
    exact ⟨rfl, rfl⟩
  · rw [hpass]
    exact hframe

theorem does_passLaneRetry_of_down (hpaired : s.pass.paired = true) (hmode : s.linkMode = true) (hlanes : lanes ≠ 0)
    (hdown : s.pass.link = .down) :
    Does (.passLaneRetry lanes) s { s with pass := { s.pass with link := .training, event := s.pass.event ||| 1 } } := by
  have hexec : exec (.passLaneRetry lanes) s = execPassLaneRetry lanes s := rfl
  have hok : ¬ (¬ (s.pass.paired ∧ s.linkMode) ∨ lanes = 0) := not_or_intro (not_not_intro ⟨hpaired, hmode⟩) hlanes
  rw [Does, hexec, execPassLaneRetry, if_neg hok, hdown]
  exact congrArg fin (State.setLink_of_ne (by rw [hdown]; decide))

theorem does_roleClashRetry (hpaired : s.pass.paired = true) (hmode : s.linkMode = true) (hdown : s.pass.link = .down) :
    Does .roleClashRetry s { s with pass := { s.pass with link := .training, event := s.pass.event ||| 1 } } := by
  have hexec : exec .roleClashRetry s = execRoleClashRetry s := rfl
  rw [Does, hexec]
  exact (if_pos ⟨hpaired, hmode, hdown⟩).trans (congrArg fin (State.setLink_of_ne (by rw [hdown]; decide)))

theorem does_passLaneRetry_of_up (hpaired : s.pass.paired = true) (hmode : s.linkMode = true) (hlanes : lanes ≠ 0)
    (hup : s.pass.link = .up) (hmore : runLanes (s.pass.lanes ||| lanes) ≠ s.pass.lanes) :
    Does (.passLaneRetry lanes) s { s with pass := { s.pass with
      lanes := runLanes (s.pass.lanes ||| lanes)
      cnt := { s.pass.cnt with retrain := satInc s.pass.cnt.retrain } } } := by
  have hexec : exec (.passLaneRetry lanes) s = execPassLaneRetry lanes s := rfl
  have hok : ¬ (¬ (s.pass.paired ∧ s.linkMode) ∨ lanes = 0) := not_or_intro (not_not_intro ⟨hpaired, hmode⟩) hlanes
  rw [Does, hexec, execPassLaneRetry, if_neg hok, hup]
  exact if_neg hmore

end Training

theorem does_passLaneFail {s : State} {l : Nat} (hl : l < 4) (hup : s.pass.link = .up) (hlane : s.pass.lanes.getLsbD l = true)
    (hleft : runLanes (putBit s.pass.lanes l false) ≠ 0) : Does (.passLaneFail l) s { s with pass := { s.pass with
      lanes := runLanes (putBit s.pass.lanes l false)
      cnt := { s.pass.cnt with retrain := satInc s.pass.cnt.retrain } } } := by
  have hexec : exec (.passLaneFail l) s = execPassLaneFail l s := rfl
  rw [Does, hexec, execPassLaneFail, if_neg (Nat.not_le.mpr hl), if_neg (not_not_intro ⟨hup, hlane⟩)]
  exact if_neg hleft

theorem does_passLaneFail_last {s : State} {l : Nat} (hl : l < 4) (hup : s.pass.link = .up) (hlane : s.pass.lanes.getLsbD l = true)
    (hleft : runLanes (putBit s.pass.lanes l false) = 0) : Does (.passLaneFail l) s s.linkLost := by
  have hexec : exec (.passLaneFail l) s = execPassLaneFail l s := rfl
  rw [Does, hexec, execPassLaneFail, if_neg (Nat.not_le.mpr hl), if_neg (not_not_intro ⟨hup, hlane⟩)]
  exact if_pos hleft

theorem does_passLinkLoss {s : State} (hfull : s.linkFull = true) : Does .passLinkLoss s s.linkLost := if_pos hfull

/-- A loss of the link in full operation: what is open ends. -/
theorem passLinkLoss_ends {s : State} (hfull : s.linkFull = true) : ∃ t, Does .passLinkLoss s t ∧ t.pass.link = .down ∧ t.pass.lanes = 0
    ∧ t.pass.trackers = []
    ∧ t.pass.posted = [] ∧ t.pass.portWait = [] ∧ t.pass.recWait = [] ∧ t.pass.poisoned = [] ∧ (t.swPort 29).link = false
    ∧ ((s.swPort 29).link = true → s.bridgeOn 29 = true → (t.eth.bridge.port 29).asCapable = false ∧ (t.eth.bridge.port 29).info = none)
    ∧ t.sw.frames.all (fun f => !f.dests.contains 29) = true
    ∧ t.pass.slots = s.pass.slots.map (fun r => if r.ph = .waiting then { r with ph := .error } else r)
    ∧ ((∀ w, (s.win w).clearing = none) → ∀ r, r ∈ s.pass.posted → s.pass.wins.has r.win = true → (t.win r.win).sticky = true)
    ∧ t.pass.partner = s.pass.partner ∧ t.supply = s.supply ∧ t.ps = s.ps ∧ t.core.dram = s.core.dram := by
  obtain ⟨hsupply, hps, hdram, hpass⟩ := s.passDown.passLeave_rest
  obtain ⟨hport, hbridge, hframes⟩ := State.linkLost_port hfull
  have hsticky (hidle : ∀ w, (s.win w).clearing = none) (r : Posted) (hr : r ∈ s.pass.posted) (hhas : s.pass.wins.has r.win = true) :=
    State.linkLost_sticky hfull hidle hr hhas
  refine ⟨s.linkLost, does_passLinkLoss hfull, ?_⟩
  rw [State.linkLost_of_full hfull] at hport hbridge hframes hsticky ⊢
  generalize s.passDown.passLeave = t at *
  rw [hpass]
  exact ⟨rfl, rfl, rfl, rfl, rfl, rfl, rfl, hport, hbridge, hframes, rfl, hsticky, rfl, hsupply, hps, hdram⟩

/-! ### Heartbeats and the vector (R574, R576) -/

theorem does_heartbeatSend {s : State} (hup : s.pass.link = .up) (hhold : s.supply.holdup = false) :
    Does .heartbeatSend s { s with pass := { s.pass with hbSeq := s.pass.hbSeq + 1, sent := s.pass.sent + 1 } } :=
  if_pos ⟨hup, Bool.not_eq_true _ ▸ hhold⟩

theorem does_sidebandSend {s : State} (hfull : s.linkFull = true) (hhold : s.supply.holdup = false) :
    Does .sidebandSend s { s with pass := { s.pass with sent := s.pass.sent + 1 } } :=
  if_pos ⟨hfull, Bool.not_eq_true _ ▸ hhold⟩

/-- The manager's bits that a vector changes. -/
def Pass.changed (p : Pass) (v : BitVec 256) : BitVec 128 := ((p.sbPartner ^^^ v) >>> 128).setWidth 128

/-- A vector of the partner is the copy. -/
def Pass.taken (p : Pass) (v : BitVec 256) : Pass := { p with
  sbPartner := v, sbSeen := true, sbChg := p.sbChg ||| p.changed v, event := if p.changed v = 0 then p.event else p.event ||| 4 }

/-- A vector changes its copy, and beside it the power stage alone. -/
theorem State.sbTake_psOnly (s : State) (v : BitVec 256) : (s.onPass fun p => p.taken v).psOnly (s.sbTake v) := by
  unfold State.sbTake
  extract_lets chg s1 s2
  have hcopy : s2 = s.onPass fun p => p.taken v := by
    dsimp only [s2]
    split
    · next h =>
      refine congrArg (fun e => ({ s1 with pass := { s1.pass with event := e } } : State)) ?_
      exact (if_pos h).symm
    · next h =>
      refine congrArg (fun e => ({ s1 with pass := { s1.pass with event := e } } : State)) ?_
      exact (if_neg h).symm
  rw [← hcopy]
  exact State.psOnly_foldl _ (fun t c => s.loadStep_psOnly t c false) _ _

theorem State.sbTake_pass (s : State) (v : BitVec 256) : (s.sbTake v).pass = s.pass.taken v := State.psOnly_pass (s.sbTake_psOnly v)

theorem State.sbTake_rest (s : State) (v : BitVec 256) : (s.sbTake v).supply = s.supply ∧ (s.sbTake v).aon = s.aon
    ∧ (s.sbTake v).eth = s.eth ∧ (s.sbTake v).bus = s.bus := by
  have hframe := s.sbTake_psOnly v
  exact ⟨(State.psOnly_supply hframe).trans rfl, (State.psOnly_aon hframe).trans rfl, (State.psOnly_eth hframe).trans rfl,
    (State.psOnly_bus hframe).trans rfl⟩

/-- A vector alone. -/
theorem sidebandReceive_takes {s : State} (v : BitVec 256) (hfull : s.linkFull = true) :
    ∃ t, Does (.sidebandReceive v) s t ∧ t.pass.sbPartner = v ∧ t.pass.hbLast = s.pass.hbLast ∧ t.pass.partner = s.pass.partner
      ∧ t.pass.sbChg = s.pass.sbChg ||| ((s.pass.sbPartner ^^^ v) >>> 128).setWidth 128
      ∧ t.pass.event = (if ((s.pass.sbPartner ^^^ v) >>> 128).setWidth 128 = (0 : BitVec 128) then s.pass.event else s.pass.event ||| 4)
      ∧ t.supply = s.supply ∧ t.aon = s.aon ∧ t.eth = s.eth ∧ t.bus = s.bus := by
  have hpass := s.sbTake_pass v
  refine ⟨s.sbTake v, if_pos hfull, ?_⟩
  rw [hpass]
  exact ⟨rfl, rfl, rfl, rfl, rfl, s.sbTake_rest v⟩

/-! ### The state of the partner (R578) -/

/-- The partner's state as it is stored, with its event. -/
def Pass.partnerIs (p : Pass) (st : Partner) : Pass := { p with partner := st, event := p.event ||| 2 }

theorem Pass.partnerIs_event (p : Pass) (st : Partner) : (p.partnerIs st).event.getLsbD 1 = true := by simp [Pass.partnerIs]

theorem State.partnerTo_mgmtOnly (s : State) (st : Partner) : (s.onPass fun p => p.partnerIs st).mgmtOnly (s.partnerTo st) :=
  (s.onPass fun p => p.partnerIs st).notice_mgmtOnly 0 _

theorem State.partnerTo_pass (s : State) (st : Partner) : (s.partnerTo st).pass = s.pass.partnerIs st :=
  State.mgmtOnly_pass (s.partnerTo_mgmtOnly st)

theorem State.partnerTo_remotes (s : State) (st : Partner) : (s.partnerTo st).remotes = s.remotes := State.notice_remotes _ _ _

section Heartbeat

variable {s : State} {seq : U16} {v : BitVec 256}

/-- A heartbeat is counted. -/
def Pass.beaten (p : Pass) (seq : U16) (v : BitVec 256) : Pass := { p.taken v with
  hbLast := seq, beats := if p.beats ≠ 0 && seq = p.hbLast + 1 then min 3 (p.beats + 1) else 1
  cnt := { p.cnt with missed := satAdd p.cnt.missed (if p.partner = .alive then (seq - p.hbLast - 1).toNat else 0) } }

/-- A heartbeat is received: the copy and the counts. -/
def State.beaten (s : State) (seq : U16) (v : BitVec 256) : State := (s.sbTake v).onPass fun q => { q with
  hbLast := seq, beats := if s.pass.beats ≠ 0 && seq = s.pass.hbLast + 1 then min 3 (q.beats + 1) else 1
  cnt := { q.cnt with missed := satAdd q.cnt.missed (if s.pass.partner = .alive then (seq - s.pass.hbLast - 1).toNat else 0) } }

theorem State.beaten_pass : (s.beaten seq v).pass = s.pass.beaten seq v := by
  rw [State.beaten, State.onPass_pass, State.sbTake_pass]
  rfl

theorem State.beaten_rest : (s.beaten seq v).supply = s.supply ∧ (s.beaten seq v).aon = s.aon ∧ (s.beaten seq v).eth = s.eth
    ∧ (s.beaten seq v).bus = s.bus := s.sbTake_rest v

/-- The partner is ALIVE with its third heartbeat. -/
def State.thirdBeat (s : State) (seq : U16) (v : BitVec 256) : State :=
  ((s.beaten seq v).onPass fun q => { q with asleep := false, autoDone := false }).partnerTo .alive

theorem State.thirdBeat_mgmtOnly (s : State) (seq : U16) (v : BitVec 256) :
    ((s.beaten seq v).onPass fun q => ({ q with asleep := false, autoDone := false } : Pass).partnerIs .alive).mgmtOnly (s.thirdBeat seq v) :=
  State.partnerTo_mgmtOnly ((s.beaten seq v).onPass fun q => { q with asleep := false, autoDone := false }) .alive

theorem does_heartbeatReceive (hup : s.pass.link = .up) (h : s.pass.partner = .alive ∨ (s.pass.beaten seq v).beats < 3) :
    Does (.heartbeatReceive seq v) s (s.beaten seq v) := by
  have hexec : exec (.heartbeatReceive seq v) s = execHeartbeatReceive seq v s := rfl
  rw [← State.beaten_pass] at h
  rw [Does, hexec]
  exact (if_neg (not_not_intro hup)).trans (if_pos h)

theorem does_heartbeatReceive_third (hup : s.pass.link = .up) (h : ¬ (s.pass.partner = .alive ∨ (s.pass.beaten seq v).beats < 3)) :
    ∃ t, Does (.heartbeatReceive seq v) s t ∧ (s.thirdBeat seq v).mgmtOnly t := by
  have hexec : exec (.heartbeatReceive seq v) s = execHeartbeatReceive seq v s := rfl
  rw [← State.beaten_pass] at h
  refine ⟨if s.pass.partner = .unknown then s.thirdBeat seq v else (s.thirdBeat seq v).log .partnerAlive [], ?_, ?_⟩
  · rw [Does, hexec]
    exact (if_neg (not_not_intro hup)).trans (if_neg h)
  · split
    · exact State.mgmtOnly_refl _
    · exact State.log_mgmtOnly _ _ _

theorem heartbeatReceive_counts (seq : U16) (v : BitVec 256) (hup : s.pass.link = .up) :
    ∃ t, Does (.heartbeatReceive seq v) s t ∧ t.pass.sbPartner = v ∧ t.pass.hbLast = seq
      ∧ t.pass.sbChg = s.pass.sbChg ||| ((s.pass.sbPartner ^^^ v) >>> 128).setWidth 128
      ∧ (s.pass.partner = .alive → t.pass.partner = .alive
          ∧ t.pass.cnt.missed = satAdd s.pass.cnt.missed (seq - s.pass.hbLast - 1).toNat)
      ∧ (s.pass.partner ≠ .alive → s.pass.beats = 2 → seq = s.pass.hbLast + 1 → t.pass.partner = .alive
          ∧ t.pass.event.getLsbD 1 = true ∧ t.pass.asleep = false ∧ t.pass.autoDone = false)
      ∧ (s.pass.partner ≠ .alive → seq ≠ s.pass.hbLast + 1 → t.pass.partner = s.pass.partner ∧ t.pass.beats = 1)
      ∧ t.pass.wins = s.pass.wins ∧ t.supply = s.supply ∧ t.aon = s.aon ∧ t.eth = s.eth ∧ t.bus = s.bus := by
  have hrest := State.beaten_rest (s := s) (seq := seq) (v := v)
  have hpass := State.beaten_pass (s := s) (seq := seq) (v := v)
  have hfollows (hbeats : s.pass.beats = 2) (hseq : seq = s.pass.hbLast + 1) : (s.pass.beaten seq v).beats = 3 := by
    simp [Pass.beaten, hbeats, hseq]
  have hfirst (hseq : seq ≠ s.pass.hbLast + 1) : (s.pass.beaten seq v).beats = 1 := if_neg (by simp only [hseq, decide_false, Bool.and_false]; decide)
  by_cases hearly : s.pass.partner = .alive ∨ (s.pass.beaten seq v).beats < 3
  · refine ⟨s.beaten seq v, does_heartbeatReceive hup hearly, ?_⟩
    rw [hpass]
    refine ⟨rfl, rfl, rfl, fun halive => ⟨halive, congrArg (satAdd s.pass.cnt.missed) (if_pos halive)⟩, fun hnot hbeats hseq => ?_,
      fun _ hseq => ⟨rfl, hfirst hseq⟩, rfl, hrest⟩
    rw [hfollows hbeats hseq] at hearly
    exact absurd hearly (by simp [hnot])
  · obtain ⟨t, hdoes, hrecord⟩ := does_heartbeatReceive_third hup hearly
    obtain ⟨hsupply, haon, heth, hbus⟩ := hrest
    obtain ⟨hnot, hthree⟩ := not_or.mp hearly
    have hall := State.mgmtOnly_trans (State.thirdBeat_mgmtOnly s seq v) hrecord
    have hearlier (hseq : seq ≠ s.pass.hbLast + 1) : (s.pass.beaten seq v).beats < 3 := by
      rw [hfirst hseq]
      decide
    have htpass : t.pass = ({ s.pass.beaten seq v with asleep := false, autoDone := false } : Pass).partnerIs .alive := by
      rw [State.mgmtOnly_pass hall, ← hpass]
      rfl
    have hrest' : t.supply = s.supply ∧ t.aon = s.aon ∧ t.eth = s.eth ∧ t.bus = s.bus :=
      ⟨(State.mgmtOnly_supply hall).trans hsupply, (State.mgmtOnly_aon hall).trans haon, (State.mgmtOnly_eth hall).trans heth,
        (State.mgmtOnly_bus hall).trans hbus⟩
    refine ⟨t, hdoes, ?_⟩
    rw [htpass]
    exact ⟨rfl, rfl, rfl, fun halive => absurd halive hnot, fun _ _ _ => ⟨rfl, Pass.partnerIs_event _ _, rfl, rfl⟩,
      fun _ hseq => absurd (hearlier hseq) hthree, rfl, hrest'⟩

end Heartbeat

/-! ### Takeover (R596) -/

/-- From s to t, the power stage is driven for the partner: of the pair only its event changes, and beside it interrupts. -/
def State.takesOver (s t : State) : Prop := (s.onPass fun p => { p with event := t.pass.event }).psOnly t

theorem State.takesOver_trans {a b c : State} (h : a.takesOver b) (k : b.takesOver c) : a.takesOver c := by
  unfold State.takesOver State.psOnly at *
  rw [k, h]
  rfl

theorem State.takesOver_of_psOnly {s t : State} (h : s.psOnly t) : s.takesOver t := by
  unfold State.takesOver
  rw [State.psOnly_pass h]
  exact h

theorem State.takeOver_takesOver (s : State) (c : Nat) : s.takesOver (s.takeOver c) := by
  unfold State.takeOver
  split
  · extract_lets s1 s2
    have hstep : s.psOnly s2 := State.psOnly_after (State.loadStep_psOnly _ _ _ _) (s.updLoad_psOnly c _)
    have hevent (t : State) : t.takesOver (t.passEvent 3) := rfl
    exact State.takesOver_trans (State.takesOver_of_psOnly (State.psOnly_after (State.updLoad_psOnly _ _ _) hstep)) (hevent _)
  · exact State.takesOver_of_psOnly s.psOnly_refl

theorem State.takeOverAll_takesOver (s : State) : s.takesOver s.takeOverAll :=
  List.foldlRecOn (motive := s.takesOver) _ _ (State.takesOver_of_psOnly s.psOnly_refl) fun t h c _ =>
    State.takesOver_trans h (t.takeOver_takesOver c)

theorem State.takeOverAll_rest (s : State) : s.takeOverAll.pass = { s.pass with event := s.takeOverAll.pass.event }
    ∧ s.takeOverAll.supply = s.supply ∧ s.takeOverAll.aon = s.aon ∧ s.takeOverAll.remotes = s.remotes := by
  have h := s.takeOverAll_takesOver
  exact ⟨State.psOnly_pass h, (State.psOnly_supply h).trans rfl, (State.psOnly_aon h).trans rfl,
    (congrArg (fun m : Mgmt => m.amind.remotes) (State.psOnly_mgmt h)).trans rfl⟩

/-! ### The partner is lost (R578, R592) -/

/-- The loss of heartbeats is counted. -/
def Pass.silent (p : Pass) : Pass := { p with beats := 0, cnt := { p.cnt with missed := satAdd p.cnt.missed 5 } }

/-- The loss of heartbeats, with no open transaction and no outstanding request left. -/
structure State.Severed (s t : State) : Prop where
  beats : t.pass.beats = 0
  missed : t.pass.cnt.missed = satAdd s.pass.cnt.missed 5
  trackers : t.pass.trackers = []
  posted : t.pass.posted = []
  remotes : t.remotes = []
  supply : t.supply = s.supply
  aon : t.aon = s.aon

/-- What changes the partner's state and the event alone in the bridge keeps a loss. -/
theorem State.Severed.keeps {s t u : State} (h : s.Severed t)
    (hpass : u.pass = { t.pass with partner := u.pass.partner, event := u.pass.event }) (hremotes : u.remotes = t.remotes)
    (hsupply : u.supply = t.supply) (haon : u.aon = t.aon) : s.Severed u where
  beats := by rw [hpass, h.beats]
  missed := by rw [hpass, h.missed]
  trackers := by rw [hpass, h.trackers]
  posted := by rw [hpass, h.posted]
  remotes := hremotes.trans h.remotes
  supply := hsupply.trans h.supply
  aon := haon.trans h.aon

theorem State.Severed.takeOverAll {s t : State} (h : s.Severed t) : s.Severed t.takeOverAll := by
  obtain ⟨hpass, hsupply, haon, hremotes⟩ := t.takeOverAll_rest
  exact h.keeps (by rw [hpass]) hremotes hsupply haon

theorem State.Severed.partnerTo {s t : State} (h : s.Severed t) (st : Partner) : s.Severed (t.partnerTo st) :=
  h.keeps (by rw [State.partnerTo_pass]; rfl) (t.partnerTo_remotes st) ((State.mgmtOnly_supply (t.partnerTo_mgmtOnly st)).trans rfl)
    ((State.mgmtOnly_aon (t.partnerTo_mgmtOnly st)).trans rfl)

theorem State.Severed.log {s t : State} (h : s.Severed t) (e : Ev) (data : List Byte) : s.Severed (t.log e data) :=
  h.keeps (by rw [State.mgmtOnly_pass (t.log_mgmtOnly e data)]) (t.log_remotes e data) (State.mgmtOnly_supply (t.log_mgmtOnly e data))
    (State.mgmtOnly_aon (t.log_mgmtOnly e data))

theorem State.logLost_mgmtOnly (s : State) : s.mgmtOnly s.logLost := s.log_mgmtOnly _ _

/-- A partner that is DOWN is recorded. -/
theorem State.partnerDown_rest (s : State) : (s.partnerTo .down).logLost.pass = s.pass.partnerIs .down
    ∧ (s.partnerTo .down).logLost.supply = s.supply ∧ (s.partnerTo .down).logLost.aon = s.aon := by
  have h := State.mgmtOnly_trans (s.partnerTo_mgmtOnly .down) (State.logLost_mgmtOnly _)
  exact ⟨State.mgmtOnly_pass h, (State.mgmtOnly_supply h).trans rfl, (State.mgmtOnly_aon h).trans rfl⟩

theorem State.Severed.logLost {s t : State} (h : s.Severed t) : s.Severed t.logLost := h.log _ _

/-- Requests of the partner that fail leave Amind's records alone, with none of them. -/
theorem State.remotesFail_frame (s : State) : s.mgmtOnly s.remotesFail ∧ s.remotesFail.remotes = [] := by
  refine ⟨State.mgmtOnly_after (State.mgmtOnly_foldl _ (fun t (r : Remote) => t.respond_mgmtOnly _ _) _ _) (s.onMgmt_mgmtOnly _), ?_⟩
  exact List.foldlRecOn (motive := fun t : State => t.remotes = []) _ _ rfl fun t h (r : Remote) _ => (t.respond_remotes _ _).trans h

/-- Heartbeats are lost: requests of the partner have failed. -/
def State.silent (s : State) : State := (s.onPass Pass.silent).remotesFail

/-- The end of open transactions after a loss of heartbeats; f marks the partner. -/
theorem State.silent_severed (s : State) {f : Pass → Pass} (hbeats : ∀ p, (f p).beats = p.beats) (hcnt : ∀ p, (f p).cnt = p.cnt) :
    s.Severed (s.silent.onPass f).passEnd := by
  obtain ⟨hfail, hnone⟩ := (s.onPass Pass.silent).remotesFail_frame
  obtain ⟨hframe, -, hremotes, hpass⟩ := (s.silent.onPass f).passEnd_frame
  have hsilent : s.silent.pass = s.pass.silent := (State.mgmtOnly_pass hfail).trans rfl
  exact {
    beats := by
      rw [hpass]
      exact (hbeats _).trans (congrArg Pass.beats hsilent)
    missed := by
      rw [hpass]
      exact (congrArg PassCnt.missed (hcnt _)).trans (congrArg (fun p : Pass => p.cnt.missed) hsilent)
    trackers := by rw [hpass]; rfl
    posted := by rw [hpass]; rfl
    remotes := hremotes.trans hnone
    supply := (congrArg State.supply hframe).trans ((State.mgmtOnly_supply hfail).trans rfl)
    aon := (congrArg State.aon hframe).trans ((State.mgmtOnly_aon hfail).trans rfl) }

theorem State.passEnd_asleep (s : State) : s.passEnd.pass.asleep = s.pass.asleep := by
  obtain ⟨-, -, -, hpass⟩ := s.passEnd_frame
  rw [hpass]
  rfl

theorem State.silent_asleep (s : State) : s.silent.pass.asleep = s.pass.asleep := by
  rw [State.silent, State.mgmtOnly_pass (s.onPass Pass.silent).remotesFail_frame.1]
  rfl

section Loss

variable {s : State}

/-- Amind's records that follow a change of the partner's state leave it and its event. -/
theorem State.partnerTo_recorded {u t : State} {st : Partner} (hto : (u.partnerTo st).mgmtOnly t) :
    t.pass.partner = st ∧ t.pass.asleep = u.pass.asleep ∧ t.pass.event.getLsbD 1 = true := by
  rw [State.mgmtOnly_pass hto, State.partnerTo_pass]
  exact ⟨rfl, rfl, Pass.partnerIs_event _ _⟩

theorem heartbeatLoss_fault (hpaired : s.pass.paired = true) (halive : s.pass.partner = .alive) (hfault : s.pass.fault = true) :
    ∃ t, Does .heartbeatLoss s t ∧ t.pass.partner = .down ∧ t.pass.event.getLsbD 1 = true ∧ s.Severed t := by
  let u := (s.silent.onPass fun p => { p with partner := .down }).passEnd.takeOverAll
  have hsevered : s.Severed u := (s.silent_severed (f := fun p => { p with partner := .down }) (fun _ => rfl) fun _ => rfl).takeOverAll
  have hdoes : Does .heartbeatLoss s (u.partnerTo .down).logLost := by
    have hexec : exec .heartbeatLoss s = execHeartbeatLoss s := rfl
    exact hexec.trans ((if_neg (not_not_intro ⟨hpaired, halive⟩)).trans (if_pos hfault))
  clear_value u
  obtain ⟨hdown, -, hevent⟩ := State.partnerTo_recorded (u.partnerTo .down).logLost_mgmtOnly
  exact ⟨_, hdoes, hdown, hevent, (hsevered.partnerTo .down).logLost⟩

theorem heartbeatLoss_asleep (hpaired : s.pass.paired = true) (halive : s.pass.partner = .alive) (hfault : s.pass.fault = false)
    (hslept : s.pass.sbPartner.extractLsb' 8 3 = 3) :
    ∃ t, Does .heartbeatLoss s t ∧ t.pass.partner = .down ∧ t.pass.asleep = true ∧ t.pass.event.getLsbD 1 = true ∧ s.Severed t := by
  let u := (s.silent.onPass fun p => { p with asleep := true }).passEnd
  have hsevered : s.Severed u := s.silent_severed (f := fun p => { p with asleep := true }) (fun _ => rfl) fun _ => rfl
  obtain ⟨hdown, hasleep, hevent⟩ := State.partnerTo_recorded (u.partnerTo .down).mgmtOnly_refl
  refine ⟨u.partnerTo .down, ?_, hdown, hasleep.trans ((State.passEnd_asleep _).trans rfl), hevent, hsevered.partnerTo .down⟩
  have hexec : exec .heartbeatLoss s = execHeartbeatLoss s := rfl
  exact hexec.trans ((if_neg (not_not_intro ⟨hpaired, halive⟩)).trans ((if_neg (Bool.eq_false_iff.mp hfault)).trans (if_pos hslept)))

theorem heartbeatLoss_cut (hpaired : s.pass.paired = true) (halive : s.pass.partner = .alive) (hfault : s.pass.fault = false)
    (hslept : s.pass.sbPartner.extractLsb' 8 3 ≠ 3) :
    ∃ t, Does .heartbeatLoss s t ∧ t.pass.partner = .cut ∧ t.pass.asleep = s.pass.asleep ∧ t.pass.event.getLsbD 1 = true
      ∧ s.Severed t := by
  let u := s.silent.passEnd
  have hsevered : s.Severed u := s.silent_severed (f := id) (fun _ => rfl) fun _ => rfl
  let lanes : Byte := BitVec.ofNat 8 s.pass.laneCount
  obtain ⟨hcut, hasleep, hevent⟩ := State.partnerTo_recorded ((u.partnerTo .cut).log_mgmtOnly .passLinkCut [lanes])
  refine ⟨(u.partnerTo .cut).log .passLinkCut [lanes], ?_, hcut, hasleep.trans (s.silent.passEnd_asleep.trans s.silent_asleep), hevent,
    (hsevered.partnerTo .cut).log _ _⟩
  have hexec : exec .heartbeatLoss s = execHeartbeatLoss s := rfl
  exact hexec.trans ((if_neg (not_not_intro ⟨hpaired, halive⟩)).trans ((if_neg (Bool.eq_false_iff.mp hfault)).trans (if_neg hslept)))

theorem heartbeatLoss_severs (hpaired : s.pass.paired = true) (halive : s.pass.partner = .alive) : ∃ t, Does .heartbeatLoss s t
    ∧ t.pass.partner = (if s.pass.fault then .down else if s.pass.sbPartner.extractLsb' 8 3 = 3 then .down else .cut)
    ∧ (s.pass.fault = false → t.pass.asleep = (s.pass.asleep || decide (s.pass.sbPartner.extractLsb' 8 3 = 3)))
    ∧ t.pass.event.getLsbD 1 = true ∧ s.Severed t := by
  cases hfault : s.pass.fault with
  | true =>
    obtain ⟨t, hdoes, hdown, hevent, hsevered⟩ := heartbeatLoss_fault hpaired halive hfault
    exact ⟨t, hdoes, hdown, nofun, hevent, hsevered⟩
  | false =>
    by_cases hslept : s.pass.sbPartner.extractLsb' 8 3 = 3
    · obtain ⟨t, hdoes, hdown, hasleep, hevent, hsevered⟩ := heartbeatLoss_asleep hpaired halive hfault hslept
      exact ⟨t, hdoes, hdown.trans (if_pos hslept).symm, fun _ => hasleep.trans (by rw [decide_eq_true hslept, Bool.or_true]), hevent, hsevered⟩
    · obtain ⟨t, hdoes, hcut, hasleep, hevent, hsevered⟩ := heartbeatLoss_cut hpaired halive hfault hslept
      exact ⟨t, hdoes, hcut.trans (if_neg hslept).symm, fun _ => hasleep.trans (by rw [decide_eq_false hslept, Bool.or_false]), hevent, hsevered⟩

theorem partnerStartupTimeout_ends (hpaired : s.pass.paired = true) (hunknown : s.pass.partner = .unknown) (hmode : s.linkMode = true)
    (hbeats : s.pass.beats = 0) : ∃ t, Does .partnerStartupTimeout s t
      ∧ t.pass.partner = (if s.pass.fault then .down else .cut) ∧ t.pass.event.getLsbD 1 = true ∧ t.supply = s.supply ∧ t.ps = s.ps := by
  let st : Partner := if s.pass.fault then .down else .cut
  obtain ⟨hframe, -⟩ := s.passEnd_frame
  have hto := s.passEnd.partnerTo_mgmtOnly st
  refine ⟨s.passEnd.partnerTo st, if_pos ⟨hpaired, hunknown, hmode, hbeats⟩, ?_, ?_, ?_, ?_⟩
  · rw [State.partnerTo_pass]
    rfl
  · rw [State.partnerTo_pass]
    exact Pass.partnerIs_event _ _
  · exact (State.mgmtOnly_supply hto).trans ((congrArg State.supply hframe).trans rfl)
  · exact (State.mgmtOnly_ps hto).trans ((congrArg State.ps hframe).trans rfl)

/-! ### The partner's fault line and its reset (R569, R577, R599) -/

theorem does_partnerFaultChange_high (hpaired : s.pass.paired = true) : Does (.partnerFaultChange false) s { s with
    supply := { s.supply with partnerLow := false }
    pass := { s.pass with fault := false } } := by
  have hexec : exec (.partnerFaultChange false) s = execPartnerFaultChange false s := rfl
  exact hexec.trans ((if_neg (not_not_intro hpaired)).trans (if_pos (Or.inl Bool.false_ne_true)))

theorem does_partnerFaultChange_unpaired (low : Bool) (hpaired : s.pass.paired = false) :
    Does (.partnerFaultChange low) s { s with supply := { s.supply with partnerLow := low } } := by
  have hexec : exec (.partnerFaultChange low) s = execPartnerFaultChange low s := rfl
  exact hexec.trans (if_pos (Bool.eq_false_iff.mp hpaired))

/-- The fault line of the partner is low. -/
def State.faultSeen (s : State) : State := { s with
  supply := { s.supply with partnerLow := true }
  pass := { s.pass with fault := true } }

theorem exec_partnerFaultChange_low (hpaired : s.pass.paired = true) (hfault : s.pass.fault = false) :
    exec (.partnerFaultChange true) s = match s.pass.partner with
      | .cut => fin ((s.faultSeen.takeOverAll.partnerTo .down).logLost)
      | .down => if s.pass.asleep then fin ((s.faultSeen.onPass (fun p => { p with asleep := false })).takeOverAll) else fin s.faultSeen
      | .unknown => fin s.faultSeen
      | .alive => fin s.faultSeen := by
  have hexec : exec (.partnerFaultChange true) s = execPartnerFaultChange true s := rfl
  have hnew : ¬ (¬ true = true ∨ s.pass.fault = true) := by simp [hfault]
  exact hexec.trans ((if_neg (not_not_intro hpaired)).trans (if_neg hnew))

theorem partnerFaultChange_low_of_cut (hpaired : s.pass.paired = true) (hfault : s.pass.fault = false) (hcut : s.pass.partner = .cut) :
    ∃ t, Does (.partnerFaultChange true) s t ∧ t.pass.fault = true ∧ t.pass.partner = .down
      ∧ t.supply = { s.supply with partnerLow := true } ∧ t.aon = s.aon := by
  have hexec := exec_partnerFaultChange_low hpaired hfault
  rw [hcut] at hexec
  obtain ⟨hpass, hsupply, haon, -⟩ := s.faultSeen.takeOverAll_rest
  have hseen : s.faultSeen.takeOverAll.pass.fault = true := (congrArg Pass.fault hpass).trans rfl
  refine ⟨(s.faultSeen.takeOverAll.partnerTo .down).logLost, hexec, ?_⟩
  generalize s.faultSeen.takeOverAll = u at hseen hsupply haon ⊢
  obtain ⟨htpass, htsupply, htaon⟩ := u.partnerDown_rest
  rw [htpass, htsupply, htaon]
  exact ⟨hseen, rfl, hsupply, haon⟩

theorem partnerFaultChange_low_of_asleep (hpaired : s.pass.paired = true) (hfault : s.pass.fault = false) (hdown : s.pass.partner = .down)
    (hasleep : s.pass.asleep = true) :
    ∃ t, Does (.partnerFaultChange true) s t ∧ t.pass.fault = true ∧ t.pass.partner = .down
      ∧ t.supply = { s.supply with partnerLow := true } ∧ t.aon = s.aon := by
  have hexec := exec_partnerFaultChange_low hpaired hfault
  rw [hdown] at hexec
  obtain ⟨hpass, hsupply, haon, -⟩ := (s.faultSeen.onPass fun p => { p with asleep := false }).takeOverAll_rest
  refine ⟨(s.faultSeen.onPass fun p => { p with asleep := false }).takeOverAll, hexec.trans (if_pos hasleep), ?_⟩
  generalize (s.faultSeen.onPass fun p => { p with asleep := false }).takeOverAll = t at hpass hsupply haon ⊢
  rw [hpass]
  exact ⟨rfl, hdown, hsupply, haon⟩

theorem partnerFaultChange_low (hpaired : s.pass.paired = true) (hfault : s.pass.fault = false) :
    ∃ t, Does (.partnerFaultChange true) s t ∧ t.pass.fault = true
      ∧ t.pass.partner = (if s.pass.partner = .cut then .down else s.pass.partner)
      ∧ t.supply = { s.supply with partnerLow := true } ∧ t.aon = s.aon := by
  have hexec := exec_partnerFaultChange_low hpaired hfault
  cases hpartner : s.pass.partner with
  | cut => exact partnerFaultChange_low_of_cut hpaired hfault hpartner
  | down =>
    by_cases hasleep : s.pass.asleep = true
    · exact partnerFaultChange_low_of_asleep hpaired hfault hpartner hasleep
    · rw [hpartner] at hexec
      exact ⟨s.faultSeen, hexec.trans (if_neg hasleep), rfl, hpartner, rfl, rfl⟩
  | unknown =>
    rw [hpartner] at hexec
    exact ⟨s.faultSeen, hexec, rfl, hpartner, rfl, rfl⟩
  | alive =>
    rw [hpartner] at hexec
    exact ⟨s.faultSeen, hexec, rfl, hpartner, rfl, rfl⟩

theorem autoPartnerReset_pulses (hpaired : s.pass.paired = true) (hrole : s.roleA = true) (hauto : s.pass.autoRst = true)
    (hcut : s.pass.partner = .cut) (honce : s.pass.autoDone = false) (hmay : s.partnerMay = true) :
    ∃ t, Does .autoPartnerReset s t ∧ t.supply = { s.supply with partnerRst := true } ∧ t.pass = { s.pass with autoDone := true }
      ∧ t.aon = s.aon ∧ t.ps = s.ps := by
  have hlog := s.log_mgmtOnly .partnerReset [1]
  have hpulse : s.partnerPulse true = (s.log .partnerReset [1]).onSupply fun p => { p with partnerRst := true } := if_pos hmay
  refine ⟨(s.partnerPulse true).onPass fun p => { p with autoDone := true },
    if_pos ⟨hpaired, hrole, hauto, hcut, Bool.eq_false_iff.mp honce, hmay⟩, ?_⟩
  rw [hpulse]
  generalize s.log .partnerReset [1] = t at *
  have haon : t.aon = s.aon := State.mgmtOnly_aon hlog
  have hps : t.ps = s.ps := State.mgmtOnly_ps hlog
  refine ⟨?_, ?_, haon, hps⟩
  · exact congrArg (fun p : Supply => { p with partnerRst := true }) (State.mgmtOnly_supply hlog)
  · exact congrArg (fun p : Pass => { p with autoDone := true }) (State.mgmtOnly_pass hlog)

end Loss

end Sys2Proof.Machine

namespace Sys2Proof.Proofs

open Sys2Proof Sys2Proof.Machine

/-- Settles O59: the link and its lanes from `passEnd_frame` and the port of PX, and the partner from what a vector, a change of its state
and the end of open transactions leave. -/
theorem linkAndPartner : Obligations.LinkAndPartner := by
  refine ⟨fun s lanes hpaired hmode hlanes => ⟨fun htraining => ?_, fun hdown => ?_, fun hup hmore => ?_⟩,
    fun s l hl hup hlane => ⟨fun hleft => ?_, fun hleft => ?_⟩, fun s hfull => passLinkLoss_ends hfull,
    fun s hhold => ⟨fun hup => does_heartbeatSend hup hhold, fun hfull => does_sidebandSend hfull hhold⟩,
    fun s seq v hup => heartbeatReceive_counts seq v hup, fun s v hfull => sidebandReceive_takes v hfull,
    fun s hpaired => ⟨fun halive => ?_, fun hunknown hmode hbeats => partnerStartupTimeout_ends hpaired hunknown hmode hbeats,
      does_partnerFaultChange_high hpaired, fun hfault => partnerFaultChange_low hpaired hfault,
      fun hrole hauto hcut honce hmay => autoPartnerReset_pulses hpaired hrole hauto hcut honce hmay⟩,
    fun s low hpaired => does_partnerFaultChange_unpaired low hpaired⟩
  · exact ⟨passLinkTrained_clash hpaired hmode hlanes htraining, passLinkTrained_up hpaired hmode hlanes htraining⟩
  · exact ⟨does_passLaneRetry_of_down hpaired hmode hlanes hdown, does_roleClashRetry hpaired hmode hdown⟩
  · exact does_passLaneRetry_of_up hpaired hmode hlanes hup hmore
  · exact does_passLaneFail hl hup hlane hleft
  · exact ⟨s.linkLost, does_passLaneFail_last hl hup hlane hleft, State.linkLost_rest hup⟩
  · obtain ⟨t, hdoes, hpartner, hasleep, hevent, hsevered⟩ := heartbeatLoss_severs hpaired halive
    exact ⟨t, hdoes, hpartner, hasleep, hevent, hsevered.beats, hsevered.missed, hsevered.trackers, hsevered.posted, hsevered.remotes,
      hsevered.supply, hsevered.aon⟩

end Sys2Proof.Proofs
